-- ==== Sys2Proof/Word.lean ====
section
/-! DEFINITION. The word types of the device (R4, R5) and the plainest arithmetic over them: registers are 64 bits
wide, memory is counted in bytes, and multi-byte fields are little-endian. -/

namespace Sys2Proof

/-- One byte of memory, of a message payload or of an image. -/
abbrev Byte := BitVec 8
/-- A sequence of bytes, lowest address first (R4). -/
abbrev Bytes := List Byte
/-- One register or one 8-byte word (R5). -/
abbrev W64 := BitVec 64
/-- A 32-bit word: CRC-32C values, FP32 encodings, identifiers. -/
abbrev W32 := BitVec 32
/-- A 16-bit word: node identifiers, error codes, BF16 and FP16 encodings. -/
abbrev W16 := BitVec 16
/-- A pool address, PA[55:0] (R61). -/
abbrev PA := BitVec 56
/-- A job tag, 12 bits. -/
abbrev Tag := BitVec 12
/-- A node identifier, 16 bits. -/
abbrev Node := BitVec 16

/-- Integer division rounded up. -/
def ceilDiv (a b : Nat) : Nat := (a + b - 1) / b

/-- The bits hi..lo of a natural number, as a natural number (R4: bit 0 is the least significant). -/
def bitsOf (n hi lo : Nat) : Nat := n / 2 ^ lo % 2 ^ (hi + 1 - lo)

/-- n limited to at most m. -/
def clampTo (m n : Nat) : Nat := if m < n then m else n

/-- The little-endian number that a byte sequence spells (R4). -/
def leNat : Bytes → Nat
  | [] => 0
  | b :: t => b.toNat + 256 * leNat t

/-- The n little-endian bytes of a number (R4). -/
def leBytes : Nat → Nat → Bytes
  | 0, _ => []
  | n + 1, v => BitVec.ofNat 8 v :: leBytes n (v / 256)

/-- The big-endian number that a byte sequence spells (SM2 and SM3 integers, R43). -/
def beNat (bs : Bytes) : Nat := leNat bs.reverse

/-- The n big-endian bytes of a number. -/
def beBytes (n v : Nat) : Bytes := (leBytes n v).reverse

/-- The field of size bytes at an offset of a structure, little-endian; bytes past the end read as 0. -/
def fieldLe (bs : Bytes) (off size : Nat) : Nat := leNat ((bs.drop off).take size)

/-- The bytes of a structure from an offset. -/
def slice (bs : Bytes) (off size : Nat) : Bytes := (bs.drop off).take size

/-- Exclusive or of two byte sequences, over the length of the shorter. -/
def xorBytes (a b : Bytes) : Bytes := List.zipWith (fun x y => x ^^^ y) a b

/-- The sequence 0, 1, …, n-1 mapped and joined. -/
def gather {α : Type} (n : Nat) (f : Nat → List α) : List α := (List.range n).flatMap f

/-- Whether every byte of a sequence is 0. -/
def allZero (bs : Bytes) : Bool := bs.all (fun b => b == 0)

/-- Insertion of a number into a rising list without repeats. -/
def insertNat (k : Nat) : List Nat → List Nat
  | [] => [k]
  | j :: t => if k < j then k :: j :: t else if k = j then j :: t else j :: insertNat k t

/-- Replace the element at an index; outside the list nothing changes. -/
def setAt {α : Type} (l : List α) (i : Nat) (a : α) : List α := l.set i a

end Sys2Proof
end

