-- ==== Sys2Proof/Machine/Operands.lean ====
section
/-! DEFINITION. The number formats of the engines, vector units and exact accumulators (R146): how an encoding is
taken as an exact value. No format flushes subnormals (R147). -/

namespace Sys2Proof.Machine

/-- The number formats of Table 6-2, E8M0 scales apart. -/
inductive NumFmt where
  | fp32 | bf16 | fp16 | e5m2 | e4m3 | e3m2 | e2m3 | e2m1 | int8 | int32
  deriving DecidableEq, Repr

/-- Bits of an encoding. -/
def NumFmt.width : NumFmt → Nat
  | .fp32 => 32 | .bf16 => 16 | .fp16 => 16 | .e5m2 => 8 | .e4m3 => 8 | .e3m2 => 6 | .e2m3 => 6 | .e2m1 => 4
  | .int8 => 8 | .int32 => 32

/-- Exponent bits; 0 for the integers. -/
def NumFmt.expBits : NumFmt → Nat
  | .fp32 => 8 | .bf16 => 8 | .fp16 => 5 | .e5m2 => 5 | .e4m3 => 4 | .e3m2 => 3 | .e2m3 => 2 | .e2m1 => 2
  | .int8 => 0 | .int32 => 0

/-- Mantissa bits; 0 for the integers. -/
def NumFmt.manBits : NumFmt → Nat
  | .fp32 => 23 | .bf16 => 7 | .fp16 => 10 | .e5m2 => 2 | .e4m3 => 3 | .e3m2 => 2 | .e2m3 => 3 | .e2m1 => 1
  | .int8 => 0 | .int32 => 0

/-- Exponent bias. -/
def NumFmt.bias : NumFmt → Nat
  | .fp32 => 127 | .bf16 => 127 | .fp16 => 15 | .e5m2 => 15 | .e4m3 => 7 | .e3m2 => 3 | .e2m3 => 1 | .e2m1 => 1
  | .int8 => 0 | .int32 => 0

/-- Whether a format is a two's complement integer. -/
def NumFmt.isInt : NumFmt → Bool
  | .int8 => true | .int32 => true | _ => false

/-- Whether a format has infinities. -/
def NumFmt.hasInf : NumFmt → Bool
  | .fp32 => true | .bf16 => true | .fp16 => true | .e5m2 => true | _ => false

/-- Whether a format is an MX element type, whose special values the block scale carries. -/
def NumFmt.isMxSmall : NumFmt → Bool
  | .e3m2 => true | .e2m3 => true | .e2m1 => true | _ => false

/-- The encoding, without its sign, of the largest finite value of a floating format. -/
def NumFmt.maxBits : NumFmt → Nat
  | .fp32 => 0x7F7FFFFF | .bf16 => 0x7F7F | .fp16 => 0x7BFF | .e5m2 => 0x7B | .e4m3 => 0x7E | .e3m2 => 0x1F
  | .e2m3 => 0x1F | .e2m1 => 0x7 | .int8 => 127 | .int32 => 2147483647

/-- The encoding, without its sign, of infinity in a format that has one. -/
def NumFmt.infBits (x : NumFmt) : Nat := (2 ^ x.expBits - 1) * 2 ^ x.manBits

/-- The canonical NaN of a format (Table 6-4); 0 for an integer. -/
def NumFmt.nanBits : NumFmt → Nat
  | .fp32 => 0x7FC00000 | .bf16 => 0x7FC0 | .fp16 => 0x7E00 | .e5m2 => 0x7E | .e4m3 => 0x7F
  | .e3m2 => 0 | .e2m3 => 0 | .e2m1 => 0 | .int8 => 0 | .int32 => 0

/-- The exact value of an encoding: NaN, an infinity, or (−1)^neg × mag × 2^exp. -/
inductive Num where
  | nan
  | inf (neg : Bool)
  | fin (neg : Bool) (mag : Nat) (exp : Int)
  deriving DecidableEq, Repr

/-- Zero of a sign. -/
def Num.zero (neg : Bool) : Num := .fin neg 0 0

/-- The exact value of an integer. -/
def Num.ofInt (i : Int) : Num := .fin (decide (i < 0)) i.natAbs 0

/-- The value of the n low bits of a number as two's complement. -/
def signedOf (n v : Nat) : Int := if v % 2 ^ n < 2 ^ (n - 1) then (v % 2 ^ n : Nat) else ((v % 2 ^ n : Nat) : Int) - 2 ^ n

/-- The exact value of an encoding (Table 6-2). -/
def NumFmt.value (x : NumFmt) (v : Nat) : Num :=
  if x.isInt then .ofInt (signedOf x.width v)
  else
    let neg := v.testBit (x.width - 1)
    let body := v % 2 ^ (x.width - 1)
    let e := body / 2 ^ x.manBits
    let m := body % 2 ^ x.manBits
    let lim : Int := 1 - (x.bias : Int) - (x.manBits : Int)
    if x.hasInf && e == 2 ^ x.expBits - 1 then (if m = 0 then .inf neg else .nan)
    else if x = .e4m3 ∧ body = 0x7F then .nan
    else if e = 0 then .fin neg m lim
    else .fin neg (2 ^ x.manBits + m) (lim + (e : Int) - 1)

/-- Bits of a magnitude: ⌊log₂ n⌋ + 1, and 0 for 0. -/
def bitLen (n : Nat) : Nat := if n = 0 then 0 else Nat.log2 n + 1

/-- ⌊log₂ |v|⌋ of a non-zero finite value. -/
def topExp (mag : Nat) (e : Int) : Int := (bitLen mag : Int) - 1 + e

/-- n × 2^k as a natural number, k ≥ 0, or ⌊n / 2^−k⌋. -/
def shiftBy (n : Nat) (k : Int) : Nat := if 0 ≤ k then n * 2 ^ k.toNat else n / 2 ^ (-k).toNat

/-- The sum of two exact finite values, a zero sum keeping the given sign. -/
def addExact (zneg : Bool) (n1 : Bool) (m1 : Nat) (e1 : Int) (n2 : Bool) (m2 : Nat) (e2 : Int) : Num :=
  let e := min e1 e2
  let a : Int := (m1 * 2 ^ (e1 - e).toNat : Nat)
  let b : Int := (m2 * 2 ^ (e2 - e).toNat : Nat)
  let t := (if n1 then -a else a) + (if n2 then -b else b)
  if t = 0 then .fin zneg 0 0 else .fin (decide (t < 0)) t.natAbs e

/-- The exact sum under IEEE 754: (−0) + (−0) is −0, any other zero sum is +0, infinities of both signs give NaN. -/
def Num.add : Num → Num → Num
  | .nan, _ => .nan
  | _, .nan => .nan
  | .inf a, .inf b => if a = b then .inf a else .nan
  | .inf a, _ => .inf a
  | _, .inf b => .inf b
  | .fin n1 m1 e1, .fin n2 m2 e2 =>
    addExact (n1 && n2 && m1 == 0 && m2 == 0) n1 m1 e1 n2 m2 e2

/-- The exact product; 0 × infinity is NaN. -/
def Num.mul : Num → Num → Num
  | .nan, _ => .nan
  | _, .nan => .nan
  | .inf a, .inf b => .inf (a != b)
  | .inf a, .fin b m _ => if m = 0 then .nan else .inf (a != b)
  | .fin b m _, .inf a => if m = 0 then .nan else .inf (a != b)
  | .fin n1 m1 e1, .fin n2 m2 e2 => .fin (n1 != n2) (m1 * m2) (e1 + e2)

/-- Negation. -/
def Num.neg : Num → Num
  | .nan => .nan
  | .inf a => .inf (!a)
  | .fin n m e => .fin (!n) m e

/-- Absolute value. -/
def Num.abs : Num → Num
  | .nan => .nan
  | .inf _ => .inf false
  | .fin _ m e => .fin false m e

/-- Whether a value is NaN. -/
def Num.isNan : Num → Bool
  | .nan => true
  | _ => false

/-- Whether a value is an infinity. -/
def Num.isInf : Num → Bool
  | .inf _ => true
  | _ => false

/-- Whether a value is a zero. -/
def Num.isZero : Num → Bool
  | .fin _ 0 _ => true
  | _ => false

/-- The sign of a value. -/
def Num.negative : Num → Bool
  | .nan => false
  | .inf n => n
  | .fin n _ _ => n

/-- a < b of values that are not NaN; −0 and +0 are equal. -/
def Num.lt (a b : Num) : Bool :=
  match a, b with
  | .inf x, .inf y => x && !y
  | .inf x, .fin _ _ _ => x
  | .fin _ _ _, .inf y => !y
  | .fin n1 m1 e1, .fin n2 m2 e2 =>
    match addExact false n1 m1 e1 (!n2) m2 e2 with
    | .fin n m _ => n && m != 0
    | _ => false
  | _, _ => false

end Sys2Proof.Machine
end

