-- ==== Sys2Proof/Machine/Flags.lean ====
section
/-! DEFINITION. Rounding and conversion with the arithmetic flags (R155 to R160, R167): every rounded result of the
device, the random bits of stochastic rounding, and MX quantisation. -/

namespace Sys2Proof.Machine

/-! ## ARITH_FLAGS (Table 6-6) -/

def flNanIn : Nat := 1
def flNanGen : Nat := 2
def flInfOut : Nat := 4
def flSat : Nat := 8
def flUnderflow : Nat := 16
def flIntWrap : Nat := 32
def flBf16Trunc : Nat := 64
def flAccTerms : Nat := 128

/-- A flag when a condition holds. -/
def flagIf (b : Bool) (f : Nat) : Nat := if b then f else 0

/-! ## Random bits (R157 to R159) -/

/-- One Philox round on a counter of four words. -/
def philoxRound (k : W32 × W32) (c : W32 × W32 × W32 × W32) : W32 × W32 × W32 × W32 :=
  let p0 := 0xD2511F53 * c.1.toNat
  let p1 := 0xCD9E8D57 * c.2.2.1.toNat
  (BitVec.ofNat 32 (p1 / 2 ^ 32) ^^^ c.2.1 ^^^ k.1, BitVec.ofNat 32 p1,
    BitVec.ofNat 32 (p0 / 2 ^ 32) ^^^ c.2.2.2 ^^^ k.2, BitVec.ofNat 32 p0)

/-- n rounds, the key raised before each but the first. -/
def philoxRounds : Nat → W32 × W32 → W32 × W32 × W32 × W32 → W32 × W32 × W32 × W32
  | 0, _, c => c
  | n + 1, k, c => philoxRounds n (k.1 + 0x9E3779B9, k.2 + 0xBB67AE85) (philoxRound k c)

/-- Philox4x32-10 (R158). -/
def philox (k : W32 × W32) (c : W32 × W32 × W32 × W32) : W32 × W32 × W32 × W32 := philoxRounds 10 k c

/-- Word w (0 to 3) of a counter. -/
def wordOf (c : W32 × W32 × W32 × W32) (w : Nat) : W32 :=
  match w with | 0 => c.1 | 1 => c.2.1 | 2 => c.2.2.1 | _ => c.2.2.2

/-- What stochastic rounding draws from (R158, R159): a job's seed and step, the tensor and the domain. -/
structure Draw where
  seedLo : W64
  seedHi : W64
  step : W64
  tensor : W32
  domain : W32
  deriving DecidableEq, Repr

/-- DOMAIN of rounding and of dropout masks. -/
def domainRounding : W32 := 1
def domainDropout : W32 := 2

/-- The step key (R158, stage 1). -/
def Draw.stepKey (d : Draw) : W32 × W32 :=
  let o := philox (d.seedHi.setWidth 32, (d.seedHi >>> 32).setWidth 32)
    (d.step.setWidth 32, (d.step >>> 32).setWidth 32, d.seedLo.setWidth 32, (d.seedLo >>> 32).setWidth 32)
  (o.1, o.2.1)

/-- The 16 random bits of the element at a 40-bit index (R158, stages 2 and 3). -/
def Draw.bits (d : Draw) (index : Nat) : Nat :=
  let g := index / 8
  let o := philox d.stepKey (BitVec.ofNat 32 g, BitVec.ofNat 32 (bitsOf g 36 32), d.tensor, d.domain)
  let w := (wordOf o (index % 8 / 2)).toNat
  if index % 2 = 0 then w % 65536 else w / 65536

/-! ## Rounding (R155, R157) -/

/-- Rounding modes (R155). Under SR, the 16 random bits of the element come with the mode. -/
inductive Round where
  | rne
  | rz
  | sr (r : Nat)
  deriving DecidableEq, Repr

/-- The mode a descriptor's code names, with the element's random bits; code 3 is refused before use. -/
def roundOf (code r : Nat) : Round :=
  match code with
  | 0 => .rne
  | 1 => .rz
  | _ => .sr r

/-- The multiple of 2^q chosen for a magnitude mag × 2^e (R155, R157). -/
def roundTo (m : Round) (mag : Nat) (e q : Int) : Nat :=
  if q ≤ e then mag * 2 ^ (e - q).toNat
  else
    let d := 2 ^ (q - e).toNat
    let l := mag / d
    let rem := mag % d
    match m with
    | .rne => if 2 * rem > d ∨ (2 * rem = d ∧ l % 2 = 1) then l + 1 else l
    | .rz => l
    | .sr r => if 65536 ≤ 65536 * rem / d + r then l + 1 else l

/-- The exponent of the unit in the last place of a floating format at a value, with an unbounded exponent above. -/
def NumFmt.ulpExp (x : NumFmt) (mag : Nat) (e : Int) : Int :=
  max (topExp mag e) (1 - (x.bias : Int)) - (x.manBits : Int)

/-- The encoding without sign of n × 2^q in a floating format whose last place at that value is 2^q; beyond the
largest finite value the number goes on counting. -/
def NumFmt.place (x : NumFmt) (n : Nat) (q : Int) : Nat :=
  (q - (1 - (x.bias : Int) - (x.manBits : Int))).toNat * 2 ^ x.manBits + n

/-- Whether a magnitude exceeds the largest finite value of a format. -/
def NumFmt.exceeds (x : NumFmt) (mag : Nat) (e : Int) : Bool :=
  match x.value x.maxBits with
  | .fin _ m k => Num.lt (.fin false m k) (.fin false mag e)
  | _ => false

/-- The encoding of a sign and a body. -/
def NumFmt.withSign (x : NumFmt) (neg : Bool) (body : Nat) : Nat := if neg then body + 2 ^ (x.width - 1) else body

/-- A conversion to an integer format (R156, Table 6-4). -/
def convertInt (x : NumFmt) (m : Round) (v : Num) : Nat × Nat :=
  let top : Nat := 2 ^ (x.width - 1)
  match v with
  | .nan => (0, flNanGen)
  | .inf neg => (if neg then top else top - 1, flNanGen + flSat)
  | .fin neg mag e =>
    let n := roundTo m mag e 0
    if neg then
      if top < n ∨ (n = top ∧ Num.lt (.fin false top 0) (.fin false mag e)) then (top, flSat)
      else ((2 * top - n) % (2 * top), flagIf (n = 0 && mag != 0) flUnderflow)
    else if top ≤ n ∨ (n = top - 1 ∧ Num.lt (.fin false (top - 1) 0) (.fin false mag e)) then (top - 1, flSat)
    else (n, flagIf (n = 0 && mag != 0) flUnderflow)

/-- The result of an overflow or of an infinity that a floating format cannot keep (Table 6-4). -/
def overflowTo (x : NumFmt) (m : Round) (sat : Bool) (neg : Bool) : Nat × Nat :=
  if sat || x.isMxSmall then (x.withSign neg x.maxBits, flSat)
  else if x = .e4m3 then (x.nanBits, flSat + flNanGen)
  else if m = .rne then (x.withSign neg x.infBits, flInfOut)
  else (x.withSign neg x.maxBits, flSat)

/-- A conversion of an exact value to a format: its encoding and the flags it raises (R155, R156). -/
def convert (x : NumFmt) (m : Round) (sat : Bool) (v : Num) : Nat × Nat :=
  if x.isInt then convertInt x m v
  else
    match v with
    | .nan => (x.nanBits, flNanIn)
    | .inf neg =>
      if sat || x.isMxSmall then (x.withSign neg x.maxBits, flSat)
      else if x = .e4m3 then (x.nanBits, flNanGen)
      else (x.withSign neg x.infBits, flInfOut)
    | .fin neg mag e =>
      if mag = 0 then (x.withSign neg 0, 0)
      else
        let q := x.ulpExp mag e
        let n := roundTo m mag e q
        let body := x.place n q
        if x.maxBits < body then overflowTo x m sat neg
        else (x.withSign neg body, flagIf (n = 0) flUnderflow + flagIf (x.exceeds mag e) flSat)

/-- A value rounded to nearest even in FP32 (R150, R164). -/
def toF32 (v : Num) : Nat := (convert .fp32 .rne false v).1

/-! ## MX quantisation (R160) -/

/-- emax of an MX element type. -/
def NumFmt.emax : NumFmt → Int
  | .e4m3 => 8 | .e5m2 => 15 | .e3m2 => 4 | .e2m3 => 2 | _ => 2

/-- One value times a power of two, exactly. -/
def Num.scale (k : Int) : Num → Num
  | .fin n m e => .fin n m (e + k)
  | v => v

/-- The largest magnitude's ⌊log₂⌋ in a block, if any element is not 0. -/
def blockTop : List Num → Option Int
  | [] => none
  | v :: t =>
    match v, blockTop t with
    | .fin _ 0 _, r => r
    | .fin _ m e, none => some (topExp m e)
    | .fin _ m e, some k => some (max k (topExp m e))
    | _, r => r

/-- Quantises one block of a column: the scale byte, the elements and the flags (R160). Each element comes with its
rounding mode, which holds its own random bits. -/
def mxQuantise (x : NumFmt) (blk : List (Num × Round)) : Nat × List Nat × Nat :=
  let vals := blk.map (fun p => p.1)
  if vals.any (fun v => v.isNan || v.isInf) then
    (255, blk.map (fun _ => 0), flNanGen + flagIf (vals.any Num.isNan) flNanIn)
  else
    match blockTop vals with
    | none => (0, blk.map (fun _ => 0), 0)
    | some top =>
      let k := max (-127) (min 127 (top - x.emax))
      let rs := blk.map (fun p => convert x p.2 true (p.1.scale (-k)))
      ((k + 127).toNat, rs.map (fun r => r.1), rs.foldl (fun a r => a ||| r.2) 0)

end Sys2Proof.Machine
end

