-- ==== Sys2Proof/Machine/Arith.lean ====
section
/-! DEFINITION. The arithmetic of the engines, the vector units and the exact accumulators (R148 to R154, R161 to
R166). Every result is a function of the operands alone. -/

namespace Sys2Proof.Machine

/-! ## Operand pairs (R148) -/

/-- An operand's element type: a plain format, or an MX format with block scales. -/
structure ElemType where
  fmt : NumFmt
  mx : Bool
  deriving DecidableEq, Repr

/-- Whether a type is an FP8 type. -/
def NumFmt.isFp8 : NumFmt → Bool
  | .e4m3 => true | .e5m2 => true | _ => false

/-- Whether an engine accepts an operand pair (Table 6-3). -/
def pairAllowed (a b : ElemType) : Bool :=
  if a.mx || b.mx then
    a.mx && b.mx && (a.fmt.isFp8 || a.fmt.isMxSmall) && (b.fmt.isFp8 || b.fmt.isMxSmall)
  else (a.fmt.isFp8 && b.fmt.isFp8) || (a.fmt == b.fmt && (a.fmt == .int8 || a.fmt == .bf16 || a.fmt == .fp16))

/-! ## Inside a K-block (R149 to R154) -/

/-- A product truncated toward zero to a multiple of 2^q, and whether bits were dropped. -/
def truncTo (q : Int) (v : Num) : Num × Bool :=
  match v with
  | .fin n m e =>
    if q ≤ e then (v, false)
    else
      let d := 2 ^ (q - e).toNat
      (.fin n (m / d) q, m % d != 0)
  | _ => (v, false)

/-- The exact sum of finite values, starting from zero of a sign that every zero term shares. -/
def sumExact (vs : List Num) : Num :=
  match vs with
  | [] => .zero false
  | v :: t => t.foldl Num.add v

/-- The block value V of a floating K-block as an exact value before its rounding, with flags (R149, R150, R152, R153).
xa and xb are the scale bytes of an MX pair. -/
def blockValue (bf16 : Bool) (scales : Option (Nat × Nat)) (as bs : List Num) : Num × Nat :=
  let ps := List.zipWith Num.mul as bs
  let nanIn := as.any Num.isNan || bs.any Num.isNan || (match scales with | some (a, b) => a == 255 || b == 255 | none => false)
  let gen := (List.zip (List.zip as bs) ps).any (fun p => p.2.isNan && !p.1.1.isNan && !p.1.2.isNan)
  let pinf := ps.any (fun p => p == .inf false)
  let ninf := ps.any (fun p => p == .inf true)
  if nanIn || gen then (.nan, flagIf nanIn flNanIn + flagIf gen flNanGen)
  else if pinf && ninf then (.nan, flNanGen)
  else if pinf then (.inf false, 0)
  else if ninf then (.inf true, 0)
  else
    match blockTop ps with
    | none => (.zero (ps.all Num.negative && !ps.isEmpty), 0)
    | some top =>
      let ts := ps.map (truncTo (top - 83))
      let k : Int := match scales with | some (a, b) => (a : Int) + (b : Int) - 254 | none => 0
      ((sumExact (ts.map (fun t => t.1))).scale k, flagIf (bf16 && ts.any (fun t => t.2)) flBf16Trunc)

/-- An FP32 result as its encoding from an exact value, and NAN_GEN when a NaN arose from values that are not. -/
def f32Result (v : Num) (nanIn : Bool) : Nat × Nat :=
  match v with
  | .nan => (NumFmt.fp32.nanBits, if nanIn then flNanIn else flNanGen)
  | _ => (toF32 v, 0)

/-- A block value added to a floating accumulator: its new encoding and the flags (R150, R153). -/
def accFloat (acc v : Nat) : Nat × Nat :=
  let a := NumFmt.fp32.value acc
  let w := NumFmt.fp32.value v
  if a.isNan || w.isNan then (NumFmt.fp32.nanBits, flagIf a.isNan flNanIn) else f32Result (a.add w) false

/-- One K-block of a floating cell: the accumulator's new encoding and the flags (R150 to R153). -/
def accBlock (acc : Nat) (bf16 : Bool) (scales : Option (Nat × Nat)) (as bs : List Num) : Nat × Nat :=
  let v := blockValue bf16 scales as bs
  let r := accFloat acc (toF32 v.1)
  (r.1, v.2 ||| r.2)

/-- A block sum added to an INT8 kernel's accumulator, modulo 2³², and INT_WRAP (R154). -/
def accInt (acc v : Nat) : Nat × Nat :=
  let t := signedOf 32 acc + signedOf 32 v
  let r := (t % 2 ^ 32).toNat
  (r, flagIf (signedOf 32 r != t) flIntWrap)

/-! ## Vector arithmetic (R164) on FP32 encodings -/

/-- The exact value of an FP32 encoding. -/
def f32 (x : Nat) : Num := NumFmt.fp32.value x

/-- One IEEE result rounded to nearest even. -/
def fadd (x y : Nat) : Nat := toF32 ((f32 x).add (f32 y))
/-- Subtraction. -/
def fsub (x y : Nat) : Nat := toF32 ((f32 x).add (f32 y).neg)
/-- Multiplication. -/
def fmul (x y : Nat) : Nat := toF32 ((f32 x).mul (f32 y))
/-- Fused multiply-add x × y + z. -/
def ffma (x y z : Nat) : Nat := toF32 (((f32 x).mul (f32 y)).add (f32 z))
/-- Negation: the sign bit flips; a NaN stays canonical. -/
def fneg (x : Nat) : Nat := toF32 (f32 x).neg
/-- Absolute value. -/
def fabs (x : Nat) : Nat := toF32 (f32 x).abs
/-- Order with −0 below +0, of values that are not NaN. -/
def fltTotal (x y : Num) : Bool := x.lt y || (x.isZero && y.isZero && x.negative && !y.negative)
/-- Minimum: NaN when either is NaN. -/
def fmin (x y : Nat) : Nat :=
  if (f32 x).isNan || (f32 y).isNan then NumFmt.fp32.nanBits else if fltTotal (f32 y) (f32 x) then y else x
/-- Maximum: NaN when either is NaN. -/
def fmax (x y : Nat) : Nat :=
  if (f32 x).isNan || (f32 y).isNan then NumFmt.fp32.nanBits else if fltTotal (f32 x) (f32 y) then y else x

/-- The comparisons of the vector unit. -/
inductive Cmp where
  | eq | ne | lt | le | gt | ge
  deriving DecidableEq, Repr

/-- Comparisons: false with NaN, except not-equal (R164). -/
def fcmp (c : Cmp) (x y : Nat) : Bool :=
  let a := f32 x
  let b := f32 y
  if a.isNan || b.isNan then c == .ne
  else
    match c with
    | .eq => !a.lt b && !b.lt a
    | .ne => a.lt b || b.lt a
    | .lt => a.lt b
    | .le => !b.lt a
    | .gt => b.lt a
    | .ge => !a.lt b

/-- Select. -/
def fselect (c : Bool) (x y : Nat) : Nat := if c then x else y

/-! ## Vector functions (R165) -/

/-- FP32 1.0. -/
def f32One : Nat := 0x3F800000
/-- FP32 infinity. -/
def f32Inf : Nat := 0x7F800000
/-- FP32 canonical NaN. -/
def f32Nan : Nat := 0x7FC00000
/-- FP32 negative infinity. -/
def f32NegInf : Nat := 0xFF800000

/-- A finite non-zero value normalised: m = 2²³ to 2²⁴ − 1 over 2²³, and e. -/
def normal (mag : Nat) (e : Int) : Nat × Int :=
  let t := topExp mag e
  (shiftBy mag (e - t + 23), t)

/-- The value nearest num / den with a 10-bit mantissa, both positive and the quotient in [1/2, 1): a multiple of
2⁻¹¹, as an exact value. -/
def seedValue (num den : Nat) : Num := .fin false ((2 ^ 11 * (2 * num) + den) / (2 * den)) (-11)

/-- Integer square root, rounded down, by n bits from the top. -/
def isqrt : Nat → Nat → Nat
  | 0, _ => 0
  | n + 1, v =>
    let r := 2 * isqrt n (v / 4)
    if (r + 1) * (r + 1) ≤ v then r + 1 else r

/-- The value with a 10-bit mantissa nearest 1 / √(num / 256), where num / 256 is the seed interval's centre, in [1, 4):
the result lies in (1/2, 1] and is the multiple of 2⁻¹¹ nearest √(256 / num). -/
def rsqSeed (num : Nat) : Num :=
  let r := isqrt 40 (256 * 2 ^ 24 / num)
  .fin false ((r + 1) / 2) (-11)

/-- RCP of an FP32 encoding. -/
def frcp (x : Nat) : Nat :=
  match f32 x with
  | .nan => f32Nan
  | .inf n => NumFmt.fp32.withSign n 0
  | .fin n 0 _ => NumFmt.fp32.withSign n f32Inf
  | .fin n mag e =>
    let z := normal mag e
    let m := toF32 (.fin false z.1 (-23))
    let i := z.1 / 65536 % 128
    let y0 := toF32 (seedValue 256 (257 + 2 * i))
    let y1 := ffma y0 (ffma (fneg m) y0 f32One) y0
    let y2 := ffma y1 (ffma (fneg m) y1 f32One) y1
    let r := (f32 y2).scale (-z.2)
    toF32 (if n then r.neg else r)

/-- Half of an FP32 value, exactly. -/
def fhalf (x : Nat) : Num := (f32 x).scale (-1)

/-- RSQ of an FP32 encoding. -/
def frsq (x : Nat) : Nat :=
  match f32 x with
  | .nan => f32Nan
  | .inf n => if n then f32Nan else 0
  | .fin n 0 _ => if n then f32NegInf else f32Inf
  | .fin n mag e =>
    if n then f32Nan
    else
      let z := normal mag e
      let p := (z.2 % 2).toNat
      let i := z.1 / 65536 % 128
      let m := toF32 (.fin false (z.1 * 2 ^ p) (-23))
      let e2 := z.2 - (p : Int)
      let y0 := toF32 (rsqSeed ((257 + 2 * i) * 2 ^ p))
      let go (y : Nat) : Nat :=
        let s := fmul m y
        let t := ffma (fneg s) y f32One
        toF32 (((fhalf y).mul (f32 t)).add (f32 y))
      toF32 ((f32 (go (go y0))).scale (-(e2 / 2)))

/-- 1/k! rounded to FP32, for k = 6 down to 0. -/
def expCoeffs : List Nat := [0x3AB60B61, 0x3C088889, 0x3D2AAAAB, 0x3E2AAAAB, 0x3F000000, 0x3F800000, 0x3F800000]

/-- The integer nearest a finite value, ties to even. -/
def nearestInt (v : Num) : Int :=
  match v with
  | .fin n m e => let r := roundTo .rne m e 0; if n then -(r : Int) else r
  | _ => 0

/-- EXP of an FP32 encoding. -/
def fexp (x : Nat) : Nat :=
  match f32 x with
  | .nan => f32Nan
  | .inf n => if n then 0 else f32Inf
  | v =>
    if (Num.fin false 887228 0).lt (v.mul (.ofInt 10000)) then f32Inf
    else if (v.mul (.ofInt 10000)).lt (.fin true 1039721 0) then 0
    else
      let n := nearestInt (f32 (fmul x 0x3FB8AA3B))
      let nf := toF32 (.ofInt n)
      let r1 := ffma (fneg nf) 0x3F317200 x
      let r := ffma (fneg nf) 0x35BFBE8E r1
      let p := expCoeffs.foldl (fun p c => ffma p r c) 0
      toF32 ((f32 p).scale n)

/-- SILU of an FP32 encoding. -/
def fsilu (x : Nat) : Nat :=
  if x = f32NegInf then 0x80000000 else fmul x (frcp (fadd f32One (fexp (fneg x))))

/-- GELU of an FP32 encoding, in the tanh form. -/
def fgelu (x : Nat) : Nat :=
  if x = f32NegInf then 0x80000000
  else if x = f32Inf then f32Inf
  else
    let s := fmul x x
    let w := ffma (fmul 0x3D372713 s) x x
    let z := fmul 0x3FCC422A w
    fmul x (frcp (fadd f32One (fexp (fneg z))))

/-- TRANSPOSE of a tile's elements, 32 rows of c: the element at row k and column 32q + j moves to row j and column 32q + k
(R166). -/
def transposeTile {α : Type} (c : Nat) (zero : α) (es : List α) : List α :=
  (List.range 32).flatMap (fun k => (List.range c).map (fun col => es.getD (c * (col % 32) + col / 32 * 32 + k) zero))

/-! ## Exact accumulators (R161 to R163) -/

/-- One exact accumulator: VALUE as 320 bits, TERMS, and the four marks. -/
structure ExactAcc where
  value : BitVec 320 := 0
  terms : Nat := 0
  nan : Bool := false
  pinf : Bool := false
  ninf : Bool := false
  ovf : Bool := false
  deriving DecidableEq, Repr

/-- TERMS after n more terms, saturating at 2⁴¹ − 1; OVF is set once it exceeds 2⁴⁰. -/
def ExactAcc.count (a : ExactAcc) (n : Nat) : ExactAcc :=
  let t := clampTo (2 ^ 41 - 1) (a.terms + n)
  { a with terms := t, ovf := a.ovf || decide (2 ^ 40 < t) }

/-- ADD of one term (R162). Every finite term of the formats is a multiple of 2⁻¹⁴⁹. -/
def ExactAcc.add (a : ExactAcc) (v : Num) : ExactAcc :=
  let a := a.count 1
  match v with
  | .nan => { a with nan := true }
  | .inf false => { a with pinf := true }
  | .inf true => { a with ninf := true }
  | .fin neg mag e =>
    let m := BitVec.ofNat 320 (shiftBy mag (e + 149))
    { a with value := if neg then a.value - m else a.value + m }

/-- MERGE of one accumulator into another (R162). -/
def ExactAcc.merge (a b : ExactAcc) : ExactAcc :=
  let c := { a with value := a.value + b.value, nan := a.nan || b.nan, pinf := a.pinf || b.pinf,
                    ninf := a.ninf || b.ninf, ovf := a.ovf || b.ovf }
  c.count b.terms

/-- READ: the encoding, the flags, and whether ACC_TERMS is to be recorded (R163). -/
def ExactAcc.read (a : ExactAcc) (x : NumFmt) (m : Round) (sat : Bool) : Nat × Nat × Bool :=
  if a.ovf then (x.nanBits, flAccTerms, true)
  else if a.nan || (a.pinf && a.ninf) then (x.nanBits, flagIf (x.isInt || !a.nan) flNanGen, false)
  else
    let r :=
      if a.pinf then convert x m sat (.inf false)
      else if a.ninf then convert x m sat (.inf true)
      else
        let i := a.value.toInt
        if i = 0 then (0, 0) else convert x m sat (.fin (decide (i < 0)) i.natAbs (-149))
    (r.1, r.2, false)

/-- The save form: 48 bytes (R161). -/
def ExactAcc.bytes (a : ExactAcc) : Bytes :=
  leBytes 40 a.value.toNat ++
    leBytes 8 (a.terms + (if a.nan then 2 ^ 56 else 0) + (if a.pinf then 2 ^ 57 else 0) + (if a.ninf then 2 ^ 58 else 0) +
      (if a.ovf then 2 ^ 59 else 0))

/-- The accumulator that 48 save bytes hold. -/
def ExactAcc.ofBytes (bs : Bytes) : ExactAcc :=
  let w := fieldLe bs 40 8
  { value := BitVec.ofNat 320 (fieldLe bs 0 40), terms := bitsOf w 40 0, nan := w.testBit 56, pinf := w.testBit 57,
    ninf := w.testBit 58, ovf := w.testBit 59 }

end Sys2Proof.Machine
end

