-- ==== Sys2Proof/Machine/RegMap.lean ====
section
/-! DEFINITION. The control space's register map, written out from the register tables of the spec: for every
register its offset (R35), its repetition, and each field's bits, access code (R7) and reset value (R8). -/

namespace Sys2Proof

/-- The access codes of Table 0-2 (R7). -/
inductive Access where
  | ro | rw | w1c | w1s | wo | sc
  deriving DecidableEq, Repr

/-- One field of a register: its bits, access code, reset value and, where the register's table gives one, the range
of values that a write may set. -/
structure FieldDesc where
  name : String
  hi : Nat
  lo : Nat
  access : Access
  reset : Nat
  range : Option (Nat × Nat)
  deriving DecidableEq, Repr

/-- One register of a register map, repeated n1 times at stride s1 and within each n2 times at stride s2. -/
structure RegDesc where
  name : String
  base : Nat
  n1 : Nat
  s1 : Nat
  n2 : Nat
  s2 : Nat
  fields : List FieldDesc
  deriving DecidableEq, Repr

/-- A field of one register, as the meanings name it: the register's control offset and the field's bits. -/
structure Fld where
  off : Nat
  hi : Nat
  lo : Nat
  deriving DecidableEq, Repr

/-- The registers of the GLB block. -/
def regMapGLB : List RegDesc :=
  [⟨"IDREV", 0x0, 1, 0x8, 1, 0x8,
    [⟨"PART", 31, 16, .ro, 0x9160, none⟩,
     ⟨"VENDOR", 15, 8, .ro, 0x44, none⟩,
     ⟨"MAJOR", 7, 4, .ro, 0xA, none⟩,
     ⟨"MINOR", 3, 0, .ro, 0, none⟩]⟩] ++
  [⟨"GLB_COUNT", 0x8, 1, 0x8, 1, 0x8,
    [⟨"COUNT", 63, 0, .ro, 0, none⟩]⟩] ++
  [⟨"GLB_EPOCH", 0x10, 1, 0x8, 1, 0x8,
    [⟨"PENDING", 32, 32, .ro, 0, none⟩,
     ⟨"CURRENT", 31, 0, .ro, 0, none⟩]⟩]

/-- The registers of the AO block. -/
def regMapAO : List RegDesc :=
  [⟨"AO_CAUSE", 0x100000, 1, 0x8, 1, 0x8,
    [⟨"KEPT", 15, 15, .ro, 0, none⟩,
     ⟨"RESTART", 9, 9, .w1c, 0, none⟩,
     ⟨"FLR", 8, 8, .w1c, 0, none⟩,
     ⟨"BLOCK", 7, 7, .w1c, 0, none⟩,
     ⟨"SOFTWARE", 6, 6, .w1c, 0, none⟩,
     ⟨"PARTNER", 5, 5, .w1c, 0, none⟩,
     ⟨"THERMAL", 4, 4, .w1c, 0, none⟩,
     ⟨"WATCHDOG", 3, 3, .w1c, 0, none⟩,
     ⟨"HRST", 2, 2, .w1c, 0, none⟩,
     ⟨"PERST", 1, 1, .w1c, 0, none⟩,
     ⟨"POR", 0, 0, .w1c, 1, none⟩]⟩] ++
  [⟨"AO_RST_CTL", 0x100008, 1, 0x8, 1, 0x8,
    [⟨"KEY", 15, 8, .wo, 0, none⟩,
     ⟨"KEEP_DRAM", 1, 1, .wo, 0, none⟩,
     ⟨"GO", 0, 0, .wo, 0, none⟩]⟩] ++
  [⟨"AO_RST_POLICY", 0x100010, 1, 0x8, 1, 0x8,
    [⟨"PERST_SCOPE", 4, 4, .rw, 0, none⟩,
     ⟨"KEEP_PARTNER", 2, 2, .rw, 1, none⟩,
     ⟨"KEEP_HRST", 1, 1, .rw, 0, none⟩,
     ⟨"KEEP_PERST", 0, 0, .rw, 1, none⟩]⟩] ++
  [⟨"AO_BLK_RST", 0x100018, 1, 0x8, 1, 0x8,
    [⟨"TIMEOUT_US", 63, 48, .rw, 50, some (1, 10000)⟩,
     ⟨"RESULT", 23, 20, .ro, 0, none⟩,
     ⟨"UNIT", 15, 8, .rw, 0, none⟩,
     ⟨"KIND", 7, 4, .rw, 0, none⟩,
     ⟨"GO", 0, 0, .sc, 0, none⟩]⟩] ++
  [⟨"AO_STRAPS", 0x100020, 1, 0x8, 1, 0x8,
    [⟨"CLK_MODE", 3, 2, .ro, 0, none⟩,
     ⟨"BOOT_SRC", 1, 0, .ro, 0, none⟩]⟩] ++
  [⟨"AO_BOOT", 0x100028, 1, 0x8, 1, 0x8,
    [⟨"HALT_CODE", 63, 48, .ro, 0, none⟩,
     ⟨"ATTEMPTS", 47, 40, .ro, 0, none⟩,
     ⟨"SRC", 33, 32, .ro, 0, none⟩,
     ⟨"DRAM_VALID", 31, 31, .ro, 0, none⟩,
     ⟨"TRIM_SAFE", 30, 30, .ro, 0, none⟩,
     ⟨"TRIM_LOADING", 29, 29, .ro, 0, none⟩,
     ⟨"STEP", 20, 16, .ro, 0, none⟩,
     ⟨"STATE", 3, 0, .ro, 0, none⟩]⟩] ++
  [⟨"AO_CLK", 0x100030, 1, 0x8, 1, 0x8,
    [⟨"ENGINE_MHZ", 63, 48, .ro, 0, none⟩,
     ⟨"FABRIC_MHZ", 47, 32, .ro, 0, none⟩,
     ⟨"ALT_CNT", 8, 8, .ro, 0, none⟩,
     ⟨"SSC", 7, 7, .ro, 0, none⟩,
     ⟨"REF", 6, 6, .ro, 0, none⟩,
     ⟨"ALT", 3, 0, .ro, 0, none⟩]⟩] ++
  [⟨"AO_THERM", 0x100038, 1, 0x8, 1, 0x8,
    [⟨"TEMP_MAX", 63, 48, .ro, 0, none⟩,
     ⟨"HOLD_MS", 47, 32, .rw, 1000, some (100, 60000)⟩,
     ⟨"THROTTLE_C", 15, 8, .rw, 100, some (90, 105)⟩,
     ⟨"TRIP_C", 7, 0, .rw, 110, some (105, 115)⟩]⟩] ++
  [⟨"AO_PWR", 0x100040, 1, 0x8, 1, 0x8,
    [⟨"PKG_W", 63, 48, .ro, 0, none⟩,
     ⟨"ENG_PCT", 31, 24, .ro, 100, none⟩,
     ⟨"HEAD_CAN_W", 15, 8, .ro, 0, none⟩,
     ⟨"HEAD_ENG_W", 7, 0, .ro, 0, none⟩]⟩] ++
  [⟨"AO_KEEP_SPLIT", 0x100048, 1, 0x8, 1, 0x8,
    [⟨"STEPS", 31, 0, .ro, 0x88888888, none⟩]⟩] ++
  [⟨"AO_BOOT_STEP", 0x100108, 24, 0x8, 1, 0x8,
    [⟨"DURATION_US", 63, 32, .ro, 0, none⟩,
     ⟨"TOTAL", 23, 16, .ro, 0, none⟩,
     ⟨"FAILS", 11, 8, .ro, 0, none⟩,
     ⟨"ALT", 5, 4, .ro, 0, none⟩,
     ⟨"PROGRESS", 3, 0, .ro, 0, none⟩]⟩]

/-- The registers of the SIT block. -/
def regMapSIT : List RegDesc :=
  [⟨"SIT_LOAD", 0x200000, 1, 0x8, 1, 0x8,
    [⟨"SRC", 2, 1, .rw, 0, none⟩,
     ⟨"GO", 0, 0, .sc, 0, none⟩]⟩] ++
  [⟨"SIT_SRC_ADDR", 0x200008, 1, 0x8, 1, 0x8,
    [⟨"ADDR", 63, 0, .rw, 0, none⟩]⟩] ++
  [⟨"SIT_SRC_LEN", 0x200010, 1, 0x8, 1, 0x8,
    [⟨"LEN", 31, 0, .rw, 0, none⟩]⟩] ++
  [⟨"SIT_STATUS", 0x200018, 1, 0x8, 1, 0x8,
    [⟨"LAST_ERR", 31, 16, .ro, 0, none⟩,
     ⟨"STAGED", 11, 8, .ro, 0, none⟩,
     ⟨"LAST_OUTCOME", 7, 4, .ro, 0, none⟩,
     ⟨"STATE", 3, 0, .ro, 0, none⟩]⟩] ++
  [⟨"SIT_IMAGE_ID", 0x200020, 1, 0x8, 1, 0x8,
    [⟨"SERIAL_LO", 63, 32, .ro, 0, none⟩,
     ⟨"SEC_VERSION", 31, 0, .ro, 0, none⟩]⟩] ++
  [⟨"SIT_EPOCH_LAUNCH", 0x200028, 1, 0x8, 1, 0x8,
    [⟨"COUNT", 63, 0, .rw, 0, none⟩]⟩] ++
  [⟨"SIT_EPOCH_CTRL", 0x200030, 1, 0x8, 1, 0x8,
    [⟨"TIMEOUT_US", 31, 16, .rw, 100, some (10, 10000)⟩,
     ⟨"ABANDON", 1, 1, .wo, 0, none⟩,
     ⟨"GO", 0, 0, .sc, 0, none⟩]⟩] ++
  [⟨"SIT_EPOCH_UNITS", 0x200038, 1, 0x8, 1, 0x8,
    [⟨"MASK", 63, 0, .ro, 0, none⟩]⟩] ++
  [⟨"SIT_EPOCH_ACKED", 0x200040, 1, 0x8, 1, 0x8,
    [⟨"MASK", 63, 0, .ro, 0, none⟩]⟩]

/-- The registers of the TLR block. -/
def regMapTLR : List RegDesc :=
  [⟨"TLR_CFG", 0x300000, 1, 0x8, 1, 0x8,
    [⟨"INT_EN", 16, 16, .rw, 1, none⟩,
     ⟨"NOTICE_NODE", 15, 0, .rw, 0, none⟩]⟩] ++
  [⟨"TLR_MISS_STS", 0x300008, 1, 0x8, 1, 0x8,
    [⟨"CLASS", 63, 0, .w1c, 0, none⟩]⟩] ++
  [⟨"TLR_CAP_STS", 0x300010, 1, 0x8, 1, 0x8,
    [⟨"PORT", 33, 0, .w1c, 0, none⟩]⟩] ++
  [⟨"TLR_STAT_SEL", 0x300018, 1, 0x8, 1, 0x8,
    [⟨"CLASS", 13, 8, .rw, 0, none⟩,
     ⟨"PORT", 5, 0, .rw, 0, some (0, 33)⟩]⟩] ++
  [⟨"TLR_STAT_BYTES", 0x300020, 1, 0x8, 1, 0x8,
    [⟨"COUNT", 63, 0, .rw, 0, none⟩]⟩] ++
  [⟨"TLR_STAT_BE_BYTES", 0x300028, 1, 0x8, 1, 0x8,
    [⟨"COUNT", 63, 0, .rw, 0, none⟩]⟩] ++
  [⟨"TLR_STAT_MISSES", 0x300030, 1, 0x8, 1, 0x8,
    [⟨"COUNT", 63, 0, .rw, 0, none⟩]⟩] ++
  [⟨"TLR_STAT_LAT_MISS", 0x300038, 1, 0x8, 1, 0x8,
    [⟨"COUNT", 63, 0, .rw, 0, none⟩]⟩] ++
  [⟨"TLR_PORT", 0x300100, 34, 0x8, 1, 0x8,
    [⟨"SUM_GBPS", 63, 48, .ro, 0, none⟩,
     ⟨"CAP_MBPS", 47, 24, .ro, 0, none⟩,
     ⟨"SCALE", 16, 0, .ro, 0x10000, none⟩]⟩] ++
  [⟨"TLR_CLASS_CFG", 0x301000, 64, 0x20, 1, 0x8,
    [⟨"BURST_US", 55, 48, .ro, 0, none⟩,
     ⟨"G_LINK", 47, 32, .ro, 0, none⟩,
     ⟨"G_UND", 31, 16, .ro, 0, none⟩,
     ⟨"G_CAN", 15, 0, .ro, 0, none⟩]⟩] ++
  [⟨"TLR_CLASS_MASK", 0x301008, 64, 0x20, 1, 0x8,
    [⟨"PORT_MASK", 49, 32, .ro, 0, none⟩,
     ⟨"CLUSTER_MASK", 7, 0, .ro, 0, none⟩]⟩] ++
  [⟨"TLR_CLASS_LAT", 0x301010, 64, 0x20, 1, 0x8,
    [⟨"LAT_LINK_NS", 63, 32, .ro, 0, none⟩,
     ⟨"LAT_MEM_NS", 31, 0, .ro, 0, none⟩]⟩] ++
  [⟨"TLR_TAG", 0x308000, 4096, 0x8, 1, 0x8,
    [⟨"CLASS", 5, 0, .rw, 0, none⟩]⟩]

/-- The registers of the DET block. -/
def regMapDET : List RegDesc :=
  [⟨"DET_CFG", 0x400000, 1, 0x8, 1, 0x8,
    [⟨"FABRIC_MHZ", 63, 48, .ro, 0, none⟩,
     ⟨"ENGINE_MHZ", 47, 32, .ro, 0, none⟩,
     ⟨"CX_CORES", 31, 16, .ro, 0, none⟩,
     ⟨"MODE", 0, 0, .ro, 0, none⟩]⟩] ++
  [⟨"DET_CX_STS", 0x400008, 1, 0x8, 1, 0x8,
    [⟨"LAST_CORE", 23, 20, .ro, 0, none⟩,
     ⟨"LAST_CAUSE", 19, 16, .ro, 0, none⟩,
     ⟨"BROKEN", 15, 0, .w1c, 0, none⟩]⟩] ++
  [⟨"DET_CX_BROKEN", 0x400010, 1, 0x8, 1, 0x8,
    [⟨"COUNT", 63, 0, .rw, 0, none⟩]⟩] ++
  [⟨"DET_ACC_ADDR", 0x400018, 1, 0x8, 1, 0x8,
    [⟨"ADDR", 55, 0, .rw, 0, none⟩]⟩] ++
  [⟨"DET_ACC_CMD", 0x400020, 1, 0x8, 1, 0x8,
    [⟨"RESULT", 19, 16, .ro, 0, none⟩,
     ⟨"CORE", 11, 8, .rw, 0, none⟩,
     ⟨"OP", 2, 1, .rw, 0, none⟩,
     ⟨"GO", 0, 0, .sc, 0, none⟩]⟩] ++
  [⟨"DET_SLOT_RESTORE", 0x400028, 1, 0x8, 1, 0x8,
    [⟨"CODE", 47, 32, .ro, 0, none⟩,
     ⟨"RETIRED", 29, 29, .rw, 0, none⟩,
     ⟨"LOCK", 28, 28, .rw, 0, none⟩,
     ⟨"XOR", 27, 27, .rw, 0, none⟩,
     ⟨"PLANES", 26, 24, .rw, 1, none⟩,
     ⟨"GEN", 23, 16, .rw, 0, none⟩,
     ⟨"SLOT", 13, 8, .rw, 0, none⟩,
     ⟨"GO", 0, 0, .sc, 0, none⟩]⟩] ++
  [⟨"DET_CX_CYCLES", 0x400100, 16, 0x20, 1, 0x8,
    [⟨"COUNT", 63, 0, .ro, 0, none⟩]⟩] ++
  [⟨"DET_CX_WAIT", 0x400108, 16, 0x20, 1, 0x8,
    [⟨"COUNT", 63, 0, .ro, 0, none⟩]⟩] ++
  [⟨"DET_CX_KERNEL", 0x400110, 16, 0x20, 1, 0x8,
    [⟨"JOB_TAG", 43, 32, .ro, 0, none⟩,
     ⟨"KERNEL_ID", 31, 0, .ro, 0, none⟩]⟩] ++
  [⟨"DET_STEP_INC", 0x400300, 1, 0x8, 1, 0x8,
    [⟨"TAG", 11, 0, .wo, 0, none⟩]⟩] ++
  [⟨"DET_SEED_LO", 0x410000, 4096, 0x20, 1, 0x8,
    [⟨"SEED", 63, 0, .rw, 0, none⟩]⟩] ++
  [⟨"DET_SEED_HI", 0x410008, 4096, 0x20, 1, 0x8,
    [⟨"SEED", 63, 0, .rw, 0, none⟩]⟩] ++
  [⟨"DET_STEP", 0x410010, 4096, 0x20, 1, 0x8,
    [⟨"STEP", 63, 0, .rw, 0, none⟩]⟩] ++
  [⟨"DET_TAG_CTL", 0x410018, 4096, 0x20, 1, 0x8,
    [⟨"LOCK", 0, 0, .w1s, 0, none⟩]⟩]

/-- The registers of the LDG block. -/
def regMapLDG : List RegDesc :=
  [⟨"LDG_CFG", 0x500000, 1, 0x8, 1, 0x8,
    [⟨"NOTICE_NODE", 63, 48, .rw, 0, none⟩,
     ⟨"MERGE_US", 47, 32, .rw, 1000, some (0, 60000)⟩,
     ⟨"CE_REPEAT", 31, 16, .rw, 16, some (2, 65535)⟩]⟩] ++
  [⟨"LDG_MASK", 0x500008, 1, 0x8, 1, 0x8,
    [⟨"INT_CLASSES", 31, 16, .rw, 0x3FFE, none⟩,
     ⟨"NOTICE_CLASSES", 15, 0, .rw, 0, none⟩]⟩] ++
  [⟨"LDG_HEAD", 0x500010, 2, 0x8, 1, 0x8,
    [⟨"SEQ", 31, 0, .rw, 0, none⟩]⟩] ++
  [⟨"LDG_TAIL", 0x500020, 2, 0x8, 1, 0x8,
    [⟨"SEQ", 31, 0, .ro, 0, none⟩]⟩] ++
  [⟨"LDG_STS", 0x500030, 2, 0x8, 1, 0x8,
    [⟨"LOST", 63, 32, .ro, 0, none⟩,
     ⟨"CE_OVF", 16, 16, .ro, 0, none⟩,
     ⟨"CE_USED", 8, 0, .ro, 0, none⟩]⟩] ++
  [⟨"LDG_CE_CTL", 0x500040, 1, 0x8, 1, 0x8,
    [⟨"CLEAR", 1, 0, .wo, 0, none⟩]⟩] ++
  [⟨"LDG_SECDED_CE", 0x500048, 1, 0x8, 1, 0x8,
    [⟨"COUNT", 63, 0, .rw, 0, none⟩]⟩] ++
  [⟨"LDG_POISON_READS", 0x500050, 1, 0x8, 1, 0x8,
    [⟨"COUNT", 63, 0, .rw, 0, none⟩]⟩] ++
  [⟨"LDG_TAG_POISON", 0x500100, 64, 0x8, 1, 0x8,
    [⟨"TAGS", 63, 0, .w1c, 0, none⟩]⟩] ++
  [⟨"LDG_SELFTEST", 0x500300, 1, 0x8, 1, 0x8,
    [⟨"CORE_ST", 15, 0, .ro, 0, none⟩,
     ⟨"CLUS_ST", 23, 16, .ro, 0, none⟩,
     ⟨"STAGE_ST", 25, 24, .ro, 0, none⟩,
     ⟨"CAN_RS", 33, 26, .ro, 0, none⟩,
     ⟨"UND_RS", 41, 34, .ro, 0, none⟩,
     ⟨"LINK", 59, 42, .ro, 0, none⟩,
     ⟨"SECDED", 61, 60, .ro, 0, none⟩]⟩] ++
  [⟨"LDG_FLIP_SEL", 0x500308, 1, 0x8, 1, 0x8,
    [⟨"TAG", 47, 36, .rw, 0, none⟩,
     ⟨"PRE_CODE", 25, 25, .rw, 0, none⟩,
     ⟨"OFFSET", 24, 16, .rw, 0, none⟩,
     ⟨"UNIT", 14, 8, .rw, 0, none⟩,
     ⟨"TARGET", 7, 4, .rw, 0, none⟩,
     ⟨"ARM", 0, 0, .rw, 0, none⟩]⟩] ++
  [⟨"LDG_FLIP_MASK", 0x500310, 1, 0x8, 1, 0x8,
    [⟨"MASK", 63, 0, .rw, 0, none⟩]⟩] ++
  [⟨"LDG_REC", 0x501000, 2, 0x40, 8, 0x8,
    [⟨"BYTES", 63, 0, .ro, 0, none⟩]⟩] ++
  [⟨"LDG_CE_ADDR", 0x502000, 2, 0x1000, 256, 0x10,
    [⟨"ADDR", 55, 0, .ro, 0, none⟩]⟩] ++
  [⟨"LDG_CE_INFO", 0x502008, 2, 0x1000, 256, 0x10,
    [⟨"COUNT", 63, 48, .ro, 0, none⟩,
     ⟨"UNIT", 47, 40, .ro, 0, none⟩,
     ⟨"UNIT_KIND", 39, 32, .ro, 0, none⟩,
     ⟨"LAST", 31, 0, .ro, 0, none⟩]⟩]

/-- The registers of the CLR block. -/
def regMapCLR : List RegDesc :=
  [⟨"CLR_CFG", 0x600000, 1, 0x8, 1, 0x8,
    [⟨"EN", 32, 32, .rw, 1, none⟩,
     ⟨"PERIOD_H", 15, 0, .rw, 24, some (1, 720)⟩]⟩] ++
  [⟨"CLR_CTRL", 0x600008, 1, 0x8, 1, 0x8,
    [⟨"PASS_NOW", 0, 0, .sc, 0, none⟩]⟩] ++
  [⟨"CLR_STS", 0x600100, 8, 0x40, 1, 0x8,
    [⟨"PASSES", 63, 32, .ro, 0, none⟩,
     ⟨"PROGRESS", 31, 24, .ro, 0, none⟩,
     ⟨"LATE", 1, 1, .w1c, 0, none⟩,
     ⟨"HELD", 0, 0, .ro, 0, none⟩]⟩] ++
  [⟨"CLR_LAST_PASS_END", 0x600108, 8, 0x40, 1, 0x8,
    [⟨"COUNT", 63, 0, .ro, 0, none⟩]⟩] ++
  [⟨"CLR_GRAINS", 0x600110, 8, 0x40, 1, 0x8,
    [⟨"COUNT", 63, 0, .rw, 0, none⟩]⟩] ++
  [⟨"CLR_CORRECTED", 0x600118, 8, 0x40, 1, 0x8,
    [⟨"COUNT", 63, 0, .rw, 0, none⟩]⟩] ++
  [⟨"CLR_REPAIRED", 0x600120, 8, 0x40, 1, 0x8,
    [⟨"COUNT", 63, 0, .rw, 0, none⟩]⟩] ++
  [⟨"CLR_POISONED", 0x600128, 8, 0x40, 1, 0x8,
    [⟨"COUNT", 63, 0, .rw, 0, none⟩]⟩] ++
  [⟨"CLR_MARKED_SKIPPED", 0x600130, 8, 0x40, 1, 0x8,
    [⟨"COUNT", 63, 0, .rw, 0, none⟩]⟩]

/-- The registers of the MNT block. -/
def regMapMNT : List RegDesc :=
  [⟨"MNT_JQ_BASE", 0x700000, 1, 0x8, 1, 0x8,
    [⟨"ADDR", 55, 0, .rw, 0, none⟩]⟩] ++
  [⟨"MNT_JQ_CFG", 0x700008, 1, 0x8, 1, 0x8,
    [⟨"ENABLE", 8, 8, .rw, 0, none⟩,
     ⟨"LOG2_ENTRIES", 3, 0, .rw, 4, some (4, 12)⟩]⟩] ++
  [⟨"MNT_JQ_TAIL", 0x700010, 1, 0x8, 1, 0x8,
    [⟨"INDEX", 15, 0, .rw, 0, none⟩]⟩] ++
  [⟨"MNT_JQ_HEAD", 0x700018, 1, 0x8, 1, 0x8,
    [⟨"INDEX", 15, 0, .ro, 0, none⟩]⟩] ++
  [⟨"MNT_STATUS", 0x700020, 1, 0x8, 1, 0x8,
    [⟨"LAST_ERR", 31, 16, .ro, 0, none⟩,
     ⟨"ACTIVE_JOBS", 2, 0, .ro, 0, none⟩]⟩] ++
  [⟨"MNT_TILES_ENC", 0x700028, 1, 0x8, 1, 0x8,
    [⟨"COUNT", 63, 0, .rw, 0, none⟩]⟩] ++
  [⟨"MNT_TILES_RAW", 0x700030, 1, 0x8, 1, 0x8,
    [⟨"COUNT", 63, 0, .rw, 0, none⟩]⟩] ++
  [⟨"MNT_GRAINS_OUT", 0x700038, 1, 0x8, 1, 0x8,
    [⟨"COUNT", 63, 0, .rw, 0, none⟩]⟩] ++
  [⟨"MNT_BASE_HITS", 0x700040, 1, 0x8, 1, 0x8,
    [⟨"COUNT", 63, 0, .rw, 0, none⟩]⟩] ++
  [⟨"MNT_BASE_MISSES", 0x700048, 1, 0x8, 1, 0x8,
    [⟨"COUNT", 63, 0, .rw, 0, none⟩]⟩] ++
  [⟨"MNT_STAGE_TAB", 0x700100, 64, 0x8, 1, 0x8,
    [⟨"BYTES", 63, 0, .rw, 0, none⟩]⟩] ++
  [⟨"MNT_SLOT_CMD", 0x700300, 1, 0x8, 1, 0x8,
    [⟨"XOR", 19, 19, .rw, 0, none⟩,
     ⟨"PLANES", 18, 16, .rw, 1, none⟩,
     ⟨"SLOT", 13, 8, .rw, 0, none⟩,
     ⟨"OP", 3, 1, .rw, 0, none⟩,
     ⟨"GO", 0, 0, .sc, 0, none⟩]⟩] ++
  [⟨"MNT_SLOT_RESULT", 0x700308, 1, 0x8, 1, 0x8,
    [⟨"CODE", 15, 0, .ro, 0, none⟩]⟩] ++
  [⟨"MNT_SLOT_INFO", 0x700400, 64, 0x8, 1, 0x8,
    [⟨"COUNT", 63, 32, .ro, 0, none⟩,
     ⟨"GEN", 31, 24, .ro, 0, none⟩,
     ⟨"STATE", 22, 20, .ro, 0, none⟩,
     ⟨"RSV", 19, 19, .ro, 0, none⟩,
     ⟨"LOCK", 18, 18, .ro, 0, none⟩,
     ⟨"XOR", 17, 17, .ro, 0, none⟩,
     ⟨"DAMAGED", 16, 16, .ro, 0, none⟩,
     ⟨"PLANES", 10, 8, .ro, 0, none⟩]⟩] ++
  [⟨"MNT_SLOT_TAB", 0x701000, 64, 0x200, 64, 0x8,
    [⟨"BYTES", 63, 0, .ro, 0, none⟩]⟩]

/-- The registers of the CAN block. -/
def regMapCAN : List RegDesc :=
  [⟨"CAN_SPLIT", 0x800000, 8, 0x40, 1, 0x8,
    [⟨"SETS", 55, 32, .ro, 0x3C0000, none⟩,
     ⟨"DIRECT_PAGES", 31, 16, .ro, 0, none⟩,
     ⟨"CACHE_STEPS", 3, 0, .ro, 8, none⟩]⟩] ++
  [⟨"CAN_CTRL", 0x800008, 8, 0x40, 1, 0x8,
    [⟨"DRAIN", 2, 2, .rw, 0, none⟩,
     ⟨"INV", 1, 1, .sc, 0, none⟩,
     ⟨"WB", 0, 0, .sc, 0, none⟩]⟩] ++
  [⟨"CAN_STS", 0x800010, 8, 0x40, 1, 0x8,
    [⟨"DIRTY", 55, 32, .ro, 0, none⟩,
     ⟨"VALID", 31, 8, .ro, 0, none⟩,
     ⟨"DRAINED", 0, 0, .ro, 0, none⟩]⟩] ++
  [⟨"CAN_HITS", 0x800018, 8, 0x40, 1, 0x8,
    [⟨"COUNT", 63, 0, .rw, 0, none⟩]⟩] ++
  [⟨"CAN_MISSES", 0x800020, 8, 0x40, 1, 0x8,
    [⟨"COUNT", 63, 0, .rw, 0, none⟩]⟩] ++
  [⟨"CAN_WBACKS", 0x800028, 8, 0x40, 1, 0x8,
    [⟨"COUNT", 63, 0, .rw, 0, none⟩]⟩] ++
  [⟨"CAN_PLACE", 0x800400, 1, 0x8, 1, 0x8,
    [⟨"DECAY_MS", 63, 32, .ro, 1000, none⟩,
     ⟨"PROMOTE", 31, 16, .ro, 64, none⟩,
     ⟨"DEMOTE", 15, 0, .ro, 16, none⟩]⟩] ++
  [⟨"CAN_PAGE_SEL", 0x800408, 1, 0x8, 1, 0x8,
    [⟨"PAGE", 30, 0, .rw, 0, none⟩]⟩] ++
  [⟨"CAN_PAGE_INFO", 0x800410, 1, 0x8, 1, 0x8,
    [⟨"HINT", 23, 22, .ro, 0, none⟩,
     ⟨"HISTORY", 21, 21, .ro, 0, none⟩,
     ⟨"HOT", 20, 20, .ro, 0, none⟩,
     ⟨"VALID", 16, 16, .ro, 0, none⟩,
     ⟨"COUNTER", 15, 0, .ro, 0, none⟩]⟩] ++
  [⟨"CAN_STALL", 0x801000, 16, 0x40, 6, 0x8,
    [⟨"NS", 63, 0, .rw, 0, none⟩]⟩] ++
  [⟨"CAN_DCFG", 0x808000, 1, 0x8, 1, 0x8,
    [⟨"TRIP_C", 63, 56, .rw, 105, none⟩,
     ⟨"T3_C", 55, 48, .rw, 100, none⟩,
     ⟨"T2_C", 47, 40, .rw, 95, none⟩,
     ⟨"HIGH_C", 39, 32, .rw, 85, none⟩,
     ⟨"RH_EN", 16, 16, .rw, 1, none⟩,
     ⟨"RH_THRESHOLD", 15, 0, .rw, 1024, none⟩]⟩] ++
  [⟨"CAN_DSTS", 0x808100, 8, 0x40, 1, 0x8,
    [⟨"TEMP", 63, 48, .ro, 0, none⟩,
     ⟨"SPEED", 7, 7, .ro, 0, none⟩,
     ⟨"REF_HIGH", 6, 6, .ro, 0, none⟩,
     ⟨"LEVEL", 5, 4, .ro, 0, none⟩,
     ⟨"STATE", 2, 0, .ro, 0, none⟩]⟩] ++
  [⟨"CAN_TALLY", 0x808108, 8, 0x40, 6, 0x8,
    [⟨"COUNT", 63, 0, .rw, 0, none⟩]⟩]

/-- The registers of the UND block. -/
def regMapUND : List RegDesc :=
  [⟨"UND_DCFG", 0x900000, 1, 0x8, 1, 0x8,
    [⟨"TRIP_C", 63, 56, .rw, 105, none⟩,
     ⟨"T3_C", 55, 48, .rw, 100, none⟩,
     ⟨"T2_C", 47, 40, .rw, 95, none⟩,
     ⟨"HIGH_C", 39, 32, .rw, 85, none⟩,
     ⟨"RH_EN", 16, 16, .rw, 1, none⟩,
     ⟨"RH_THRESHOLD", 15, 0, .rw, 1024, none⟩]⟩] ++
  [⟨"UND_EN_LO", 0x900008, 1, 0x8, 1, 0x8,
    [⟨"MASK", 63, 0, .ro, 0, none⟩]⟩] ++
  [⟨"UND_EN_HI", 0x900010, 1, 0x8, 1, 0x8,
    [⟨"MASK", 31, 0, .ro, 0, none⟩]⟩] ++
  [⟨"UND_POP", 0x900018, 1, 0x8, 1, 0x8,
    [⟨"GIB", 7, 0, .ro, 0, none⟩]⟩] ++
  [⟨"UND_PAGES", 0x900040, 8, 0x8, 1, 0x8,
    [⟨"CHANNELS", 35, 32, .ro, 0, none⟩,
     ⟨"PAGES", 31, 0, .ro, 0, none⟩]⟩] ++
  [⟨"UND_PASR", 0x900100, 8, 0x8, 1, 0x8,
    [⟨"LOST", 15, 8, .ro, 0, none⟩,
     ⟨"MASK", 7, 0, .rw, 0, none⟩]⟩] ++
  [⟨"UND_STS", 0x901000, 96, 0x40, 1, 0x8,
    [⟨"TEMP", 63, 48, .ro, 0, none⟩,
     ⟨"SPEED", 7, 7, .ro, 0, none⟩,
     ⟨"REF_HIGH", 6, 6, .ro, 0, none⟩,
     ⟨"LEVEL", 5, 4, .ro, 0, none⟩,
     ⟨"STATE", 2, 0, .ro, 0, none⟩]⟩] ++
  [⟨"UND_TALLY", 0x901008, 96, 0x40, 6, 0x8,
    [⟨"COUNT", 63, 0, .rw, 0, none⟩]⟩]

/-- The registers of the VLT block. -/
def regMapVLT : List RegDesc :=
  [⟨"VLT_POP", 0xA00000, 1, 0x8, 1, 0x8,
    [⟨"CE_COUNT", 35, 32, .ro, 0, none⟩,
     ⟨"CH_MASK", 31, 0, .ro, 0, none⟩]⟩] ++
  [⟨"VLT_PART", 0xA00008, 1, 0x8, 1, 0x8,
    [⟨"SHELF_PAGES", 63, 32, .ro, 0, none⟩,
     ⟨"CKPT_PAGES", 31, 0, .ro, 0, none⟩]⟩] ++
  [⟨"VLT_CKPT_CMD", 0xA00010, 1, 0x8, 1, 0x8,
    [⟨"RESULT", 19, 16, .ro, 0, none⟩,
     ⟨"ENTRY", 13, 8, .rw, 0, none⟩,
     ⟨"OP", 2, 1, .rw, 0, none⟩,
     ⟨"GO", 0, 0, .sc, 0, none⟩]⟩] ++
  [⟨"VLT_CFG", 0xA00018, 1, 0x8, 1, 0x8,
    [⟨"PATROL_DAYS", 15, 0, .rw, 7, some (1, 365)⟩]⟩] ++
  [⟨"VLT_PAGES", 0xA00040, 8, 0x8, 1, 0x8,
    [⟨"STATE", 63, 62, .ro, 0, none⟩,
     ⟨"TARGETS", 61, 56, .ro, 0, none⟩,
     ⟨"PAGES", 23, 0, .ro, 0, none⟩]⟩] ++
  [⟨"VLT_CH_STS", 0xA01000, 32, 0x40, 1, 0x8,
    [⟨"ERASE_MAX", 63, 48, .ro, 0, none⟩,
     ⟨"ERASE_MIN", 47, 32, .ro, 0, none⟩,
     ⟨"CES", 7, 4, .ro, 0, none⟩,
     ⟨"STATE", 2, 0, .ro, 0, none⟩]⟩] ++
  [⟨"VLT_CH_TALLY", 0xA01008, 32, 0x40, 6, 0x8,
    [⟨"COUNT", 63, 0, .rw, 0, none⟩]⟩] ++
  [⟨"VLT_CKPT_SRC", 0xA02000, 64, 0x20, 1, 0x8,
    [⟨"SPACE", 63, 62, .rw, 0, none⟩,
     ⟨"PAGES", 54, 31, .rw, 0, none⟩,
     ⟨"BASE", 30, 0, .rw, 0, none⟩]⟩] ++
  [⟨"VLT_CKPT_DST", 0xA02008, 64, 0x20, 1, 0x8,
    [⟨"BASE", 30, 0, .rw, 0, none⟩]⟩] ++
  [⟨"VLT_CKPT_STS", 0xA02010, 64, 0x20, 1, 0x8,
    [⟨"VALID_PAGES", 47, 24, .ro, 0, none⟩,
     ⟨"STATE", 1, 0, .ro, 0, none⟩]⟩] ++
  [⟨"VLT_CKPT_MARK", 0xA02018, 64, 0x20, 1, 0x8,
    [⟨"COUNT", 63, 0, .ro, 0, none⟩]⟩]

/-- The registers of the JX block. -/
def regMapJX : List RegDesc :=
  [⟨"JX_NODE", 0xB00000, 1, 0x8, 1, 0x8,
    [⟨"ID", 15, 0, .rw, 0, some (0, 65534)⟩]⟩] ++
  [⟨"JX_REQ_TIMEOUT", 0xB00008, 1, 0x8, 1, 0x8,
    [⟨"DEFER_MS", 47, 32, .rw, 1000, some (1, 60000)⟩,
     ⟨"NS", 31, 0, .rw, 4000, some (2500, 1000000)⟩]⟩] ++
  [⟨"JX_SYNC_CFG", 0xB00010, 1, 0x8, 1, 0x8,
    [⟨"INTERVAL_US", 47, 32, .rw, 1000, some (100, 60000)⟩,
     ⟨"MASTER_NODE", 31, 16, .rw, 0, none⟩,
     ⟨"ROLE", 1, 0, .rw, 0, none⟩]⟩] ++
  [⟨"JX_SYNC_STS", 0xB00018, 1, 0x8, 1, 0x8,
    [⟨"OFFSET", 63, 32, .ro, 0, none⟩,
     ⟨"DELAY", 31, 16, .ro, 0, none⟩,
     ⟨"LOCKED", 0, 0, .ro, 0, none⟩]⟩] ++
  [⟨"JX_TOKENS", 0xB00020, 1, 0x8, 1, 0x8,
    [⟨"PEAK1", 60, 48, .w1c, 0, none⟩,
     ⟨"PEAK0", 44, 32, .w1c, 0, none⟩,
     ⟨"USED1", 28, 16, .ro, 0, none⟩,
     ⟨"USED0", 12, 0, .ro, 0, none⟩]⟩] ++
  [⟨"JX_ROUTE", 0xB00100, 64, 0x8, 1, 0x8,
    [⟨"VALID", 63, 63, .rw, 0, none⟩,
     ⟨"GROUPS", 39, 32, .rw, 0, none⟩,
     ⟨"MASK", 31, 16, .rw, 0, none⟩,
     ⟨"MATCH", 15, 0, .rw, 0, none⟩]⟩] ++
  [⟨"JX_PORT_CFG", 0xB01000, 18, 0x80, 1, 0x8,
    [⟨"REPLAY_NS", 31, 16, .rw, 1000, some (200, 10000)⟩,
     ⟨"RETRAIN", 8, 8, .sc, 0, none⟩,
     ⟨"GROUP", 4, 2, .ro, 0, none⟩,
     ⟨"LANES8", 1, 1, .ro, 1, none⟩,
     ⟨"ENABLE", 0, 0, .ro, 1, none⟩]⟩] ++
  [⟨"JX_PORT_STS", 0xB01008, 18, 0x80, 1, 0x8,
    [⟨"REPLAY_RUN", 36, 34, .ro, 0, none⟩,
     ⟨"RX_EXPECT", 33, 24, .ro, 0, none⟩,
     ⟨"TX_ACKED", 23, 14, .ro, 0, none⟩,
     ⟨"TX_NEXT", 13, 4, .ro, 0, none⟩,
     ⟨"STATE", 2, 0, .ro, 0, none⟩]⟩] ++
  [⟨"JX_PORT_CREDIT", 0xB01010, 18, 0x80, 1, 0x8,
    [⟨"CTL", 30, 25, .ro, 0, none⟩,
     ⟨"NTC", 24, 18, .ro, 0, none⟩,
     ⟨"RSP", 17, 9, .ro, 0, none⟩,
     ⟨"REQ", 8, 0, .ro, 0, none⟩]⟩] ++
  [⟨"JX_PORT_TALLY", 0xB01018, 18, 0x80, 7, 0x8,
    [⟨"COUNT", 63, 0, .rw, 0, none⟩]⟩]

/-- The registers of the OPT block. -/
def regMapOPT : List RegDesc :=
  [⟨"OPT_CFG", 0xC00000, 18, 0x40, 1, 0x8,
    [⟨"RETRY_MS", 47, 32, .rw, 1000, some (100, 60000)⟩,
     ⟨"TRAIN_TIMEOUT_MS", 31, 16, .rw, 100, some (10, 1000)⟩,
     ⟨"FALLBACK", 0, 0, .rw, 1, none⟩]⟩] ++
  [⟨"OPT_STS", 0xC00008, 18, 0x40, 1, 0x8,
    [⟨"PEER_RX_GOOD", 39, 32, .ro, 0, none⟩,
     ⟨"RX_GOOD", 31, 24, .ro, 0, none⟩,
     ⟨"FAIL_STEP", 19, 16, .ro, 0, none⟩,
     ⟨"TRAIN_FAILS", 15, 8, .ro, 0, none⟩,
     ⟨"WIDTH8", 4, 4, .ro, 0, none⟩,
     ⟨"STATE", 3, 0, .ro, 0, none⟩]⟩] ++
  [⟨"OPT_LANEMAP", 0xC00010, 18, 0x40, 1, 0x8,
    [⟨"MAP", 31, 0, .ro, 0, none⟩]⟩] ++
  [⟨"OPT_LASER", 0xC00018, 18, 0x40, 1, 0x8,
    [⟨"TEMP", 47, 32, .ro, 0, none⟩,
     ⟨"ALARM", 31, 24, .ro, 0, none⟩,
     ⟨"CH_ON", 23, 16, .ro, 0, none⟩,
     ⟨"RESET", 2, 2, .sc, 0, none⟩,
     ⟨"ENABLE", 1, 1, .rw, 1, none⟩,
     ⟨"PRESENT", 0, 0, .ro, 0, none⟩]⟩] ++
  [⟨"OPT_RXPWR", 0xC00020, 18, 0x40, 1, 0x8,
    [⟨"POWER", 63, 0, .ro, 0, none⟩]⟩] ++
  [⟨"OPT_TRAINS", 0xC00028, 18, 0x40, 1, 0x8,
    [⟨"COUNT", 63, 0, .rw, 0, none⟩]⟩]

/-- The registers of the PEP block. -/
def regMapPEP : List RegDesc :=
  [⟨"PEP_CFG", 0xD00000, 1, 0x8, 1, 0x8,
    [⟨"CPL_LIMIT_US", 47, 32, .rw, 8000, some (100, 50000)⟩,
     ⟨"JOB_TAG", 11, 0, .rw, 0xFFF, some (1, 4095)⟩]⟩] ++
  [⟨"PEP_STS", 0xD00008, 1, 0x8, 1, 0x8,
    [⟨"D_STATE", 15, 12, .ro, 0, none⟩,
     ⟨"BME", 11, 11, .ro, 0, none⟩,
     ⟨"CXL", 10, 10, .ro, 0, none⟩,
     ⟨"LSTATE", 9, 8, .ro, 0, none⟩,
     ⟨"SPEED", 6, 4, .ro, 0, none⟩,
     ⟨"WIDTH", 3, 0, .ro, 0, none⟩]⟩] ++
  [⟨"PEP_PM", 0xD00010, 1, 0x8, 1, 0x8,
    [⟨"L1_IDLE_US", 47, 32, .rw, 64, some (1, 10000)⟩,
     ⟨"L0P_IDLE_US", 31, 16, .rw, 10, some (1, 10000)⟩,
     ⟨"L0P_EN", 0, 0, .rw, 1, none⟩]⟩] ++
  [⟨"PEP_WIN_COMMIT", 0xD00018, 1, 0x8, 1, 0x8,
    [⟨"COMMITS", 63, 32, .ro, 0, none⟩,
     ⟨"RESULT", 19, 16, .ro, 0, none⟩,
     ⟨"GO", 0, 0, .sc, 0, none⟩]⟩] ++
  [⟨"PEP_RD_TLPS", 0xD00040, 1, 0x8, 1, 0x8,
    [⟨"COUNT", 63, 0, .rw, 0, none⟩]⟩] ++
  [⟨"PEP_WR_TLPS", 0xD00048, 1, 0x8, 1, 0x8,
    [⟨"COUNT", 63, 0, .rw, 0, none⟩]⟩] ++
  [⟨"PEP_UR", 0xD00050, 1, 0x8, 1, 0x8,
    [⟨"COUNT", 63, 0, .rw, 0, none⟩]⟩] ++
  [⟨"PEP_CA", 0xD00058, 1, 0x8, 1, 0x8,
    [⟨"COUNT", 63, 0, .rw, 0, none⟩]⟩] ++
  [⟨"PEP_WIN_BASE", 0xD00100, 16, 0x20, 1, 0x8,
    [⟨"BASE", 55, 12, .rw, 0, none⟩]⟩] ++
  [⟨"PEP_WIN_CTL", 0xD00108, 16, 0x20, 1, 0x8,
    [⟨"TAG", 27, 16, .rw, 0, none⟩,
     ⟨"SIZE_LOG2", 13, 8, .rw, 0, none⟩,
     ⟨"WRITE_EN", 1, 1, .rw, 0, none⟩,
     ⟨"EN", 0, 0, .rw, 0, none⟩]⟩] ++
  [⟨"PEP_WIN_ACT_BASE", 0xD00110, 16, 0x20, 1, 0x8,
    [⟨"BASE", 55, 12, .ro, 0, none⟩]⟩] ++
  [⟨"PEP_WIN_ACT_CTL", 0xD00118, 16, 0x20, 1, 0x8,
    [⟨"TAG", 27, 16, .ro, 0, none⟩,
     ⟨"SIZE_LOG2", 13, 8, .ro, 0, none⟩,
     ⟨"WRITE_EN", 1, 1, .ro, 0, none⟩,
     ⟨"EN", 0, 0, .ro, 0, none⟩]⟩] ++
  [⟨"PEP_DMA_BASE", 0xD01000, 4, 0x40, 1, 0x8,
    [⟨"ADDR", 63, 0, .rw, 0, none⟩]⟩] ++
  [⟨"PEP_DMA_CFG", 0xD01008, 4, 0x40, 1, 0x8,
    [⟨"ENABLE", 8, 8, .rw, 0, none⟩,
     ⟨"LOG2_ENTRIES", 3, 0, .rw, 4, some (4, 12)⟩]⟩] ++
  [⟨"PEP_DMA_TAIL", 0xD01010, 4, 0x40, 1, 0x8,
    [⟨"INDEX", 15, 0, .rw, 0, none⟩]⟩] ++
  [⟨"PEP_DMA_HEAD", 0xD01018, 4, 0x40, 1, 0x8,
    [⟨"INDEX", 15, 0, .ro, 0, none⟩]⟩] ++
  [⟨"PEP_DMA_STS", 0xD01020, 4, 0x40, 1, 0x8,
    [⟨"ABORT_INDEX", 31, 16, .ro, 0, none⟩,
     ⟨"ABORTED", 8, 8, .w1c, 0, none⟩,
     ⟨"LAST_STATUS", 2, 0, .ro, 0, none⟩]⟩] ++
  [⟨"PEP_VEC_EVT", 0xD02040, 248, 0x8, 1, 0x8,
    [⟨"EN", 12, 12, .rw, 0, none⟩,
     ⟨"EVENT", 11, 0, .rw, 0, none⟩]⟩]

/-- The registers of the POOL block. -/
def regMapPOOL : List RegDesc :=
  [⟨"POOL_CFG", 0xE00000, 1, 0x8, 1, 0x8,
    [⟨"FM_NODE", 63, 48, .rw, 0, none⟩,
     ⟨"HOST_NODE", 47, 32, .rw, 0xFFFE, none⟩,
     ⟨"DEFAULT_RATE", 31, 20, .rw, 0, none⟩,
     ⟨"DRAIN_US", 19, 10, .rw, 10, some (1, 1000)⟩,
     ⟨"ENFORCE", 0, 0, .rw, 0, none⟩]⟩] ++
  [⟨"POOL_STATUS", 0xE00008, 1, 0x8, 1, 0x8,
    [⟨"LAST_ERR", 63, 48, .ro, 0, none⟩,
     ⟨"DRAINING", 47, 32, .ro, 0, none⟩,
     ⟨"ACTIVE_OPS", 4, 0, .ro, 0, none⟩]⟩] ++
  [⟨"POOL_EXT_REVOKE", 0xE00010, 1, 0x8, 1, 0x8,
    [⟨"ENTRY", 13, 0, .wo, 0, none⟩]⟩] ++
  [⟨"POOL_DOOR", 0xE00040, 8, 0x8, 1, 0x8,
    [⟨"BYTES", 63, 0, .wo, 0, none⟩]⟩] ++
  [⟨"POOL_HOST_DESC", 0xE00080, 8, 0x8, 1, 0x8,
    [⟨"BYTES", 63, 0, .rw, 0, none⟩]⟩] ++
  [⟨"POOL_HOST_GO", 0xE000C0, 1, 0x8, 1, 0x8,
    [⟨"GO", 0, 0, .sc, 0, none⟩]⟩] ++
  [⟨"POOL_HOST_STS", 0xE000C8, 1, 0x8, 1, 0x8,
    [⟨"STATUS", 19, 16, .ro, 0, none⟩,
     ⟨"CODE", 15, 0, .ro, 0, none⟩]⟩] ++
  [⟨"POOL_VER_RESET", 0xE000D0, 1, 0x8, 1, 0x8,
    [⟨"SLOT", 19, 16, .wo, 0, none⟩,
     ⟨"REGION_ID", 15, 0, .wo, 0, none⟩]⟩] ++
  [⟨"POOL_VER_SEL", 0xE000D8, 1, 0x8, 1, 0x8,
    [⟨"REGION_ID", 15, 0, .rw, 0, none⟩]⟩] ++
  [⟨"POOL_DENIALS", 0xE00100, 1, 0x8, 1, 0x8,
    [⟨"COUNT", 63, 0, .rw, 0, none⟩]⟩] ++
  [⟨"POOL_REVOKED_REQS", 0xE00108, 1, 0x8, 1, 0x8,
    [⟨"COUNT", 63, 0, .rw, 0, none⟩]⟩] ++
  [⟨"POOL_OPS_DONE", 0xE00110, 1, 0x8, 1, 0x8,
    [⟨"COUNT", 63, 0, .rw, 0, none⟩]⟩] ++
  [⟨"POOL_LIM_SHARED", 0xE00118, 1, 0x8, 1, 0x8,
    [⟨"COUNT", 63, 0, .rw, 0, none⟩]⟩] ++
  [⟨"POOL_TRUST", 0xE00200, 16, 0x8, 1, 0x8,
    [⟨"VALID", 63, 63, .rw, 0, none⟩,
     ⟨"CTRL", 56, 56, .rw, 0, none⟩,
     ⟨"STORES", 55, 55, .rw, 0, none⟩,
     ⟨"SLOTS", 54, 54, .rw, 0, none⟩,
     ⟨"VAULT", 53, 53, .rw, 0, none⟩,
     ⟨"DRAM", 52, 52, .rw, 0, none⟩,
     ⟨"MASK", 31, 16, .rw, 0, none⟩,
     ⟨"MATCH", 15, 0, .rw, 0, none⟩]⟩] ++
  [⟨"POOL_GROUP", 0xE00400, 255, 0x8, 1, 0x8,
    [⟨"VALID", 63, 63, .rw, 0, none⟩,
     ⟨"MASK", 31, 16, .rw, 0, none⟩,
     ⟨"MATCH", 15, 0, .rw, 0, none⟩]⟩] ++
  [⟨"POOL_VER_INFO", 0xE00C00, 9, 0x8, 1, 0x8,
    [⟨"VERSION", 63, 32, .ro, 0, none⟩,
     ⟨"OWNER", 31, 16, .ro, 0, none⟩,
     ⟨"OPENS", 15, 4, .ro, 0, none⟩,
     ⟨"STATE", 2, 0, .ro, 0, none⟩]⟩] ++
  [⟨"POOL_LIM", 0xE01000, 1024, 0x10, 1, 0x8,
    [⟨"VALID", 63, 63, .rw, 0, none⟩,
     ⟨"RATE", 59, 48, .rw, 0, none⟩,
     ⟨"BURST_KIB", 47, 32, .rw, 0, none⟩,
     ⟨"NODE", 15, 0, .rw, 0, none⟩]⟩] ++
  [⟨"POOL_LIM_OVER", 0xE01008, 1024, 0x10, 1, 0x8,
    [⟨"OVER_NS", 63, 0, .rw, 0, none⟩]⟩] ++
  [⟨"POOL_EXT", 0xE20000, 16384, 0x8, 1, 0x8,
    [⟨"STATE", 63, 62, .ro, 0, none⟩,
     ⟨"SPACE", 61, 60, .rw, 0, none⟩,
     ⟨"BASE", 59, 36, .rw, 0, none⟩,
     ⟨"RW_GROUP", 35, 28, .rw, 0xFF, none⟩,
     ⟨"RO_GROUP", 27, 20, .rw, 0xFF, none⟩,
     ⟨"GRANT", 0, 0, .wo, 0, none⟩]⟩]

/-- The registers of the PAIR block. -/
def regMapPAIR : List RegDesc :=
  [⟨"PAIR_ID", 0xF00000, 1, 0x8, 1, 0x8,
    [⟨"RANGES", 63, 48, .ro, 0, none⟩,
     ⟨"ROLE", 32, 32, .ro, 0, none⟩,
     ⟨"PARTNER_NODE", 31, 16, .ro, 0, none⟩,
     ⟨"PAIR_NODE", 15, 0, .ro, 0, none⟩]⟩] ++
  [⟨"PAIR_CFG", 0xF00008, 1, 0x8, 1, 0x8,
    [⟨"CMP_WAIT_US", 63, 48, .rw, 1000, some (10, 60000)⟩,
     ⟨"ARB_MS", 47, 32, .rw, 20, some (1, 60000)⟩,
     ⟨"LOSS_US", 31, 16, .rw, 100, some (20, 10000)⟩,
     ⟨"ARBITER_NODE", 15, 0, .rw, 0, none⟩]⟩] ++
  [⟨"PAIR_CFG2", 0xF00010, 1, 0x8, 1, 0x8,
    [⟨"ACCEPT_RESET", 16, 16, .rw, 0, none⟩,
     ⟨"RESYNC_GBPS", 15, 0, .rw, 300, some (10, 395)⟩]⟩] ++
  [⟨"PAIR_STS", 0xF00018, 1, 0x8, 1, 0x8,
    [⟨"DIRTY_PAGES", 29, 8, .ro, 0, none⟩,
     ⟨"MAP_VALID", 6, 6, .ro, 0, none⟩,
     ⟨"FRESH", 5, 5, .ro, 1, none⟩,
     ⟨"SENIOR", 4, 4, .ro, 0, none⟩,
     ⟨"STATE", 3, 0, .ro, 0, none⟩]⟩] ++
  [⟨"PAIR_CMD", 0xF00020, 1, 0x8, 1, 0x8,
    [⟨"RESULT", 19, 16, .ro, 0, none⟩,
     ⟨"OP", 3, 1, .rw, 0, none⟩,
     ⟨"GO", 0, 0, .sc, 0, none⟩]⟩] ++
  [⟨"PAIR_FWD_WRITES", 0xF00040, 1, 0x8, 1, 0x8,
    [⟨"COUNT", 63, 0, .rw, 0, none⟩]⟩] ++
  [⟨"PAIR_FWD_BYTES", 0xF00048, 1, 0x8, 1, 0x8,
    [⟨"COUNT", 63, 0, .rw, 0, none⟩]⟩] ++
  [⟨"PAIR_COMPARED", 0xF00050, 1, 0x8, 1, 0x8,
    [⟨"COUNT", 63, 0, .rw, 0, none⟩]⟩] ++
  [⟨"PAIR_UNCOMPARED", 0xF00058, 1, 0x8, 1, 0x8,
    [⟨"COUNT", 63, 0, .rw, 0, none⟩]⟩] ++
  [⟨"PAIR_MISMATCHES", 0xF00060, 1, 0x8, 1, 0x8,
    [⟨"COUNT", 63, 0, .rw, 0, none⟩]⟩] ++
  [⟨"PAIR_RESYNC_PAGES", 0xF00068, 1, 0x8, 1, 0x8,
    [⟨"COUNT", 63, 0, .rw, 0, none⟩]⟩] ++
  [⟨"PAIR_MM", 0xF00100, 8, 0x20, 1, 0x8,
    [⟨"STATE", 63, 61, .rw, 0, none⟩,
     ⟨"RESULT", 60, 58, .ro, 0, none⟩,
     ⟨"SLOT", 43, 32, .ro, 0, none⟩,
     ⟨"TENSOR_ID", 31, 0, .ro, 0, none⟩]⟩] ++
  [⟨"PAIR_MM_STEP", 0xF00108, 8, 0x20, 1, 0x8,
    [⟨"STEP", 63, 0, .ro, 0, none⟩]⟩] ++
  [⟨"PAIR_MM_FIRST", 0xF00110, 8, 0x20, 1, 0x8,
    [⟨"B1", 63, 32, .ro, 0, none⟩,
     ⟨"A1", 31, 0, .ro, 0, none⟩]⟩] ++
  [⟨"PAIR_MM_RERUN", 0xF00118, 8, 0x20, 1, 0x8,
    [⟨"B2", 63, 32, .ro, 0, none⟩,
     ⟨"A2", 31, 0, .ro, 0, none⟩]⟩]

/-- The registers of the CORE block. -/
def regMapCORE : List RegDesc :=
  [⟨"CORE_Q_BASE", 0x1000000, 16, 0x100000, 1, 0x8,
    [⟨"ADDR", 55, 0, .rw, 0, none⟩]⟩] ++
  [⟨"CORE_Q_CFG", 0x1000008, 16, 0x100000, 1, 0x8,
    [⟨"ENABLE", 8, 8, .rw, 0, none⟩,
     ⟨"LOG2_ENTRIES", 3, 0, .rw, 4, some (4, 12)⟩]⟩] ++
  [⟨"CORE_Q_TAIL", 0x1000010, 16, 0x100000, 1, 0x8,
    [⟨"INDEX", 15, 0, .rw, 0, none⟩]⟩] ++
  [⟨"CORE_Q_HEAD", 0x1000018, 16, 0x100000, 1, 0x8,
    [⟨"INDEX", 15, 0, .ro, 0, none⟩]⟩] ++
  [⟨"CORE_STATUS", 0x1000020, 16, 0x100000, 1, 0x8,
    [⟨"KERNEL_ID", 63, 32, .ro, 0, none⟩,
     ⟨"JOB_TAG", 27, 16, .ro, 0, none⟩,
     ⟨"DQ_DEPTH", 13, 7, .ro, 0, none⟩,
     ⟨"STATE", 2, 0, .ro, 0, none⟩]⟩] ++
  [⟨"CORE_LAST", 0x1000028, 16, 0x100000, 1, 0x8,
    [⟨"DONE", 39, 32, .ro, 0, none⟩,
     ⟨"ARITH_FLAGS", 31, 16, .ro, 0, none⟩,
     ⟨"STATUS_CODE", 15, 0, .ro, 0, none⟩]⟩] ++
  [⟨"CORE_PLAN_START", 0x1000030, 16, 0x100000, 1, 0x8,
    [⟨"PLAN_ID", 31, 0, .wo, 0, none⟩]⟩] ++
  [⟨"CORE_WAKE", 0x1000038, 16, 0x100000, 1, 0x8,
    [⟨"WAKE", 0, 0, .sc, 0, none⟩]⟩] ++
  [⟨"CORE_KERNELS", 0x1000040, 16, 0x100000, 1, 0x8,
    [⟨"COUNT", 63, 0, .rw, 0, none⟩]⟩] ++
  [⟨"CORE_WAKE_STALL", 0x1000048, 16, 0x100000, 1, 0x8,
    [⟨"COUNT", 63, 0, .rw, 0, none⟩]⟩] ++
  [⟨"CORE_LATE", 0x1000050, 16, 0x100000, 1, 0x8,
    [⟨"COUNT", 63, 0, .rw, 0, none⟩]⟩]

/-- The registers of the SLOT block. -/
def regMapSLOT : List RegDesc :=
  [⟨"SLOT_STATUS", 0x2000000, 4096, 0x40, 8, 0x8,
    [⟨"WORD", 63, 0, .ro, 0, none⟩]⟩] ++
  [⟨"SLOT_RELEASE", 0x2040000, 1, 0x8, 1, 0x8,
    [⟨"SEQ", 63, 32, .wo, 0, none⟩,
     ⟨"SLOT", 11, 0, .wo, 0, none⟩]⟩] ++
  [⟨"SLOT_RELEASE_RESULT", 0x2040008, 1, 0x8, 1, 0x8,
    [⟨"RESULT", 3, 0, .ro, 0, none⟩]⟩] ++
  [⟨"SLOT_EVENT", 0x2100000, 4096, 0x8, 1, 0x8,
    [⟨"VALUE", 31, 0, .rw, 0, none⟩]⟩] ++
  [⟨"SLOT_EVENT_ADD", 0x2180000, 4096, 0x8, 1, 0x8,
    [⟨"N", 31, 0, .wo, 0, none⟩]⟩] ++
  [⟨"SLOT_EVENT_DEC", 0x2200000, 4096, 0x8, 1, 0x8,
    [⟨"N", 31, 0, .wo, 0, none⟩]⟩] ++
  [⟨"SLOT_BARRIER", 0x2280000, 64, 0x8, 1, 0x8,
    [⟨"EVENT_EN", 60, 60, .rw, 0, none⟩,
     ⟨"EVENT", 59, 48, .rw, 0, none⟩,
     ⟨"GEN", 47, 32, .ro, 0, none⟩,
     ⟨"ARRIVED", 31, 16, .ro, 0, none⟩,
     ⟨"COUNT", 15, 0, .rw, 0, none⟩]⟩] ++
  [⟨"SLOT_BARRIER_ARRIVE", 0x2280200, 1, 0x8, 1, 0x8,
    [⟨"BARRIER", 5, 0, .wo, 0, none⟩]⟩]

/-- The registers of the MGT block. -/
def regMapMGT : List RegDesc :=
  [⟨"MGT_CFG", 0x3000000, 1, 0x8, 1, 0x8,
    [⟨"WDOG_MS", 47, 32, .rw, 1000, some (10, 60000)⟩,
     ⟨"INT_EN", 16, 16, .rw, 1, none⟩,
     ⟨"IBI_CLASSES", 15, 0, .rw, 0x1000, none⟩]⟩] ++
  [⟨"MGT_STS", 0x3000008, 1, 0x8, 1, 0x8,
    [⟨"FW_STATE", 9, 8, .ro, 0, none⟩,
     ⟨"EVENTS", 4, 0, .w1c, 0, none⟩]⟩] ++
  [⟨"MGT_FW_VERSION", 0x3000010, 1, 0x8, 1, 0x8,
    [⟨"VERSION", 63, 0, .ro, 0, none⟩]⟩] ++
  [⟨"MGT_WDOG", 0x3000018, 1, 0x8, 1, 0x8,
    [⟨"KICK", 15, 0, .wo, 0, none⟩]⟩] ++
  [⟨"MGT_ID_SERIAL", 0x3000020, 1, 0x8, 1, 0x8,
    [⟨"SERIAL", 63, 0, .ro, 0, none⟩]⟩] ++
  [⟨"MGT_ID_PUB", 0x3000040, 8, 0x8, 1, 0x8,
    [⟨"BYTES", 63, 0, .ro, 0, none⟩]⟩] ++
  [⟨"MGT_KEY", 0x3000080, 4, 0x20, 4, 0x8,
    [⟨"BYTES", 63, 0, .ro, 0, none⟩]⟩] ++
  [⟨"MGT_KEY_STS", 0x3000100, 1, 0x8, 1, 0x8,
    [⟨"MIN_SEC", 14, 8, .ro, 0, none⟩,
     ⟨"REVOKED", 7, 4, .ro, 0, none⟩,
     ⟨"PROGRAMMED", 3, 0, .ro, 0, none⟩]⟩] ++
  [⟨"MGT_FUSE_CMD", 0x3000108, 1, 0x8, 1, 0x8,
    [⟨"RESULT", 19, 16, .ro, 0, none⟩,
     ⟨"VALUE", 15, 8, .rw, 0, none⟩,
     ⟨"CONFIRM", 3, 3, .rw, 0, none⟩,
     ⟨"OP", 2, 1, .rw, 0, none⟩,
     ⟨"GO", 0, 0, .sc, 0, none⟩]⟩] ++
  [⟨"MGT_NOR_SRC", 0x3000110, 1, 0x8, 1, 0x8,
    [⟨"ADDR", 55, 0, .rw, 0, none⟩]⟩] ++
  [⟨"MGT_NOR_LEN", 0x3000118, 1, 0x8, 1, 0x8,
    [⟨"LEN", 31, 0, .rw, 0, none⟩]⟩] ++
  [⟨"MGT_NOR_CMD", 0x3000120, 1, 0x8, 1, 0x8,
    [⟨"LAST_ERR", 63, 48, .ro, 0, none⟩,
     ⟨"RESULT", 19, 16, .ro, 0, none⟩,
     ⟨"GO", 0, 0, .sc, 0, none⟩]⟩] ++
  [⟨"MGT_ATT_NONCE", 0x3000140, 4, 0x8, 1, 0x8,
    [⟨"NONCE", 63, 0, .rw, 0, none⟩]⟩] ++
  [⟨"MGT_ATT_ADDR", 0x3000160, 1, 0x8, 1, 0x8,
    [⟨"ADDR", 55, 0, .rw, 0, none⟩]⟩] ++
  [⟨"MGT_ATT_CMD", 0x3000168, 1, 0x8, 1, 0x8,
    [⟨"RESULT", 19, 16, .ro, 0, none⟩,
     ⟨"GO", 0, 0, .sc, 0, none⟩]⟩] ++
  [⟨"MGT_IMG_SESSION", 0x3000180, 1, 0x8, 1, 0x8,
    [⟨"AVAIL", 32, 32, .ro, 0, none⟩,
     ⟨"OWNER", 31, 16, .ro, 0, none⟩,
     ⟨"OPEN", 0, 0, .rw, 0, none⟩]⟩] ++
  [⟨"MGT_IMG_PAGE", 0x3000188, 1, 0x8, 1, 0x8,
    [⟨"PAGE", 6, 0, .rw, 0, none⟩]⟩] ++
  [⟨"MGT_IMG_WIN", 0x3080000, 65536, 0x8, 1, 0x8,
    [⟨"BYTES", 63, 0, .ro, 0, none⟩]⟩]

/-- The registers of the TST block. -/
def regMapTST : List RegDesc :=
  [⟨"TST_CFG", 0x3100000, 1, 0x8, 1, 0x8,
    [⟨"NOTICE_NODE", 63, 48, .rw, 0, none⟩,
     ⟨"SHADOW_WAIT_US", 47, 32, .rw, 100, some (1, 10000)⟩,
     ⟨"DEADLINE_MS", 31, 16, .rw, 1000, some (1, 60000)⟩,
     ⟨"FRACTION", 2, 0, .ro, 1, none⟩]⟩] ++
  [⟨"TST_QUAR_BASE", 0x3100008, 1, 0x8, 1, 0x8,
    [⟨"ADDR", 55, 0, .ro, 0, none⟩]⟩] ++
  [⟨"TST_QUAR", 0x3100010, 1, 0x8, 1, 0x8,
    [⟨"RECORDS", 47, 32, .ro, 0, none⟩,
     ⟨"TAIL", 31, 16, .ro, 0, none⟩,
     ⟨"HEAD", 15, 0, .rw, 0, none⟩]⟩] ++
  [⟨"TST_DIAG_CTL", 0x3100018, 1, 0x8, 1, 0x8,
    [⟨"SHADOW", 19, 16, .rw, 0, none⟩,
     ⟨"CORE", 11, 8, .rw, 0, none⟩,
     ⟨"ENTRY", 7, 4, .rw, 0, none⟩,
     ⟨"ARM", 0, 0, .rw, 0, none⟩]⟩] ++
  [⟨"TST_SHELF_SRC", 0x3100020, 1, 0x8, 1, 0x8,
    [⟨"ADDR", 63, 0, .rw, 0, none⟩]⟩] ++
  [⟨"TST_SHELF_CTL", 0x3100028, 1, 0x8, 1, 0x8,
    [⟨"LAST_ERR", 47, 32, .ro, 0, none⟩,
     ⟨"RESULT", 19, 16, .ro, 0, none⟩,
     ⟨"GO", 0, 0, .sc, 0, none⟩]⟩] ++
  [⟨"TST_SHADOWED", 0x3100040, 1, 0x8, 1, 0x8,
    [⟨"COUNT", 63, 0, .rw, 0, none⟩]⟩] ++
  [⟨"TST_SHADOW_SKIPPED", 0x3100048, 1, 0x8, 1, 0x8,
    [⟨"COUNT", 63, 0, .rw, 0, none⟩]⟩] ++
  [⟨"TST_MISMATCHES", 0x3100050, 1, 0x8, 1, 0x8,
    [⟨"COUNT", 63, 0, .rw, 0, none⟩]⟩] ++
  [⟨"TST_UNCHECKED", 0x3100058, 1, 0x8, 1, 0x8,
    [⟨"COUNT", 63, 0, .rw, 0, none⟩]⟩] ++
  [⟨"TST_QUAR_DROPS", 0x3100060, 1, 0x8, 1, 0x8,
    [⟨"COUNT", 63, 0, .rw, 0, none⟩]⟩] ++
  [⟨"TST_SET", 0x3100100, 16, 0x10, 1, 0x8,
    [⟨"SET_VERSION", 63, 32, .ro, 0, none⟩,
     ⟨"SET_ID", 31, 0, .ro, 0, none⟩]⟩] ++
  [⟨"TST_SET_INFO", 0x3100108, 16, 0x10, 1, 0x8,
    [⟨"STATE", 33, 32, .ro, 0, none⟩,
     ⟨"PATTERNS", 31, 0, .ro, 0, none⟩]⟩] ++
  [⟨"TST_SUSPECT", 0x3100200, 16, 0x20, 1, 0x8,
    [⟨"STATE", 63, 61, .rw, 0, none⟩,
     ⟨"KIND", 60, 60, .ro, 0, none⟩,
     ⟨"ENGINE_A", 59, 56, .ro, 0, none⟩,
     ⟨"ENGINE_B", 55, 52, .ro, 0, none⟩,
     ⟨"JOB_TAG", 51, 40, .ro, 0, none⟩,
     ⟨"KERNEL_ID", 31, 0, .ro, 0, none⟩]⟩] ++
  [⟨"TST_SUSPECT_PASS", 0x3100208, 16, 0x20, 1, 0x8,
    [⟨"BLOCK", 63, 32, .ro, 0, none⟩,
     ⟨"PASS", 31, 0, .ro, 0, none⟩]⟩] ++
  [⟨"TST_SUSPECT_CRC", 0x3100210, 16, 0x20, 1, 0x8,
    [⟨"CRC_B", 63, 32, .ro, 0, none⟩,
     ⟨"CRC_A", 31, 0, .ro, 0, none⟩]⟩] ++
  [⟨"TST_SUSPECT_COUNT", 0x3100218, 16, 0x20, 1, 0x8,
    [⟨"COUNT", 63, 0, .ro, 0, none⟩]⟩] ++
  [⟨"TST_CORE_CTL", 0x3100400, 16, 0x20, 1, 0x8,
    [⟨"AFTER_HEAD", 47, 32, .rw, 0, none⟩,
     ⟨"SET", 11, 8, .rw, 0, none⟩,
     ⟨"ABORT", 2, 2, .wo, 0, none⟩,
     ⟨"EVICTED", 1, 1, .rw, 0, none⟩,
     ⟨"GO", 0, 0, .sc, 0, none⟩]⟩] ++
  [⟨"TST_CORE_STS", 0x3100408, 16, 0x20, 1, 0x8,
    [⟨"PATTERN", 63, 32, .ro, 0, none⟩,
     ⟨"ENGINE", 21, 20, .ro, 0, none⟩,
     ⟨"DEFERRED", 7, 7, .w1c, 0, none⟩,
     ⟨"OUTCOME", 6, 4, .ro, 0, none⟩,
     ⟨"STATE", 2, 0, .ro, 0, none⟩]⟩] ++
  [⟨"TST_CORE_LAST", 0x3100410, 16, 0x20, 1, 0x8,
    [⟨"COUNT", 63, 0, .ro, 0, none⟩]⟩] ++
  [⟨"TST_CORE_TESTS", 0x3100418, 16, 0x20, 1, 0x8,
    [⟨"COUNT", 63, 0, .rw, 0, none⟩]⟩]

/-- The register map of the block that holds an offset (Table 1-7). -/
def regMapAt (off : Nat) : List RegDesc :=
  match off / 0x100000 with
  | 0 => regMapGLB | 1 => regMapAO | 2 => regMapSIT | 3 => regMapTLR | 4 => regMapDET | 5 => regMapLDG
  | 6 => regMapCLR | 7 => regMapMNT | 8 => regMapCAN | 9 => regMapUND | 10 => regMapVLT | 11 => regMapJX
  | 12 => regMapOPT | 13 => regMapPEP | 14 => regMapPOOL | 15 => regMapPAIR | 48 => regMapMGT | 49 => regMapTST
  | n => if n < 32 then regMapCORE else if n < 48 then regMapSLOT else []

/-- Whether a register description covers an offset. -/
def RegDesc.covers (r : RegDesc) (off : Nat) : Bool :=
  decide (r.base ≤ off) &&
    (let d := off - r.base
     decide (d / r.s1 < r.n1) && decide (d % r.s1 / r.s2 < r.n2) && decide (d % r.s1 % r.s2 = 0))

/-- The register at an offset, if the spec defines one there (R35, R37). -/
def regAt (off : Nat) : Option RegDesc := (regMapAt off).find? (fun r => r.covers off)

/-- A register's reset value, put together from its fields (R8). -/
def RegDesc.resetWord (r : RegDesc) : W64 :=
  BitVec.ofNat 64 ((r.fields.map (fun f => f.reset * 2 ^ f.lo)).sum)

/-- What the register at an offset holds after a reset that clears its block. -/
def regReset (off : Nat) : W64 := ((regAt off).map RegDesc.resetWord).getD 0

end Sys2Proof

/-! Names of the registers: the control offset of each (R35 and the owning chapter's register tables). A copy's number counts
modulo the number of copies, so that a name always lies in its own register. -/
namespace Sys2Proof.R

/-- IDREV (R38). -/
def IDREV : Nat := 0x0
/-- GLB_COUNT (R39). -/
def GLB_COUNT : Nat := 0x8
/-- GLB_EPOCH (R60). -/
def GLB_EPOCH : Nat := 0x10
/-- AO_CAUSE (R473). -/
def AO_CAUSE : Nat := 0x100000
/-- AO_RST_CTL (R473). -/
def AO_RST_CTL : Nat := 0x100008
/-- AO_RST_POLICY (R473). -/
def AO_RST_POLICY : Nat := 0x100010
/-- AO_BLK_RST (R473). -/
def AO_BLK_RST : Nat := 0x100018
/-- AO_STRAPS (R473). -/
def AO_STRAPS : Nat := 0x100020
/-- AO_BOOT (R473). -/
def AO_BOOT : Nat := 0x100028
/-- AO_CLK (R473). -/
def AO_CLK : Nat := 0x100030
/-- AO_THERM (R473). -/
def AO_THERM : Nat := 0x100038
/-- AO_PWR (R473). -/
def AO_PWR : Nat := 0x100040
/-- AO_KEEP_SPLIT (R473). -/
def AO_KEEP_SPLIT : Nat := 0x100048
/-- AO_BOOT_STEP (R473). -/
def AO_BOOT_STEP (i : Nat) : Nat := 0x100100 + 0x8 * (i % 25)
/-- SIT_LOAD (R60). -/
def SIT_LOAD : Nat := 0x200000
/-- SIT_SRC_ADDR (R60). -/
def SIT_SRC_ADDR : Nat := 0x200008
/-- SIT_SRC_LEN (R60). -/
def SIT_SRC_LEN : Nat := 0x200010
/-- SIT_STATUS (R60). -/
def SIT_STATUS : Nat := 0x200018
/-- SIT_IMAGE_ID (R60). -/
def SIT_IMAGE_ID : Nat := 0x200020
/-- SIT_EPOCH_LAUNCH (R60). -/
def SIT_EPOCH_LAUNCH : Nat := 0x200028
/-- SIT_EPOCH_CTRL (R60). -/
def SIT_EPOCH_CTRL : Nat := 0x200030
/-- SIT_EPOCH_UNITS (R60). -/
def SIT_EPOCH_UNITS : Nat := 0x200038
/-- SIT_EPOCH_ACKED (R60). -/
def SIT_EPOCH_ACKED : Nat := 0x200040
/-- TLR_CFG (R343). -/
def TLR_CFG : Nat := 0x300000
/-- TLR_MISS_STS (R343). -/
def TLR_MISS_STS : Nat := 0x300008
/-- TLR_CAP_STS (R343). -/
def TLR_CAP_STS : Nat := 0x300010
/-- TLR_STAT_SEL (R343). -/
def TLR_STAT_SEL : Nat := 0x300018
/-- TLR_STAT_BYTES (R343). -/
def TLR_STAT_BYTES : Nat := 0x300020
/-- TLR_STAT_BE_BYTES (R343). -/
def TLR_STAT_BE_BYTES : Nat := 0x300028
/-- TLR_STAT_MISSES (R343). -/
def TLR_STAT_MISSES : Nat := 0x300030
/-- TLR_STAT_LAT_MISS (R343). -/
def TLR_STAT_LAT_MISS : Nat := 0x300038
/-- TLR_PORT (R343). -/
def TLR_PORT (i : Nat) : Nat := 0x300100 + 0x8 * (i % 34)
/-- TLR_CLASS_CFG (R343). -/
def TLR_CLASS_CFG (i : Nat) : Nat := 0x301000 + 0x20 * (i % 64)
/-- TLR_CLASS_MASK (R343). -/
def TLR_CLASS_MASK (i : Nat) : Nat := 0x301008 + 0x20 * (i % 64)
/-- TLR_CLASS_LAT (R343). -/
def TLR_CLASS_LAT (i : Nat) : Nat := 0x301010 + 0x20 * (i % 64)
/-- TLR_TAG (R343). -/
def TLR_TAG (i : Nat) : Nat := 0x308000 + 0x8 * (i % 4096)
/-- DET_CFG (R362). -/
def DET_CFG : Nat := 0x400000
/-- DET_CX_STS (R362). -/
def DET_CX_STS : Nat := 0x400008
/-- DET_CX_BROKEN (R362). -/
def DET_CX_BROKEN : Nat := 0x400010
/-- DET_ACC_ADDR (R362). -/
def DET_ACC_ADDR : Nat := 0x400018
/-- DET_ACC_CMD (R362). -/
def DET_ACC_CMD : Nat := 0x400020
/-- DET_SLOT_RESTORE (R362). -/
def DET_SLOT_RESTORE : Nat := 0x400028
/-- DET_CX_CYCLES (R362). -/
def DET_CX_CYCLES (i : Nat) : Nat := 0x400100 + 0x20 * (i % 16)
/-- DET_CX_WAIT (R362). -/
def DET_CX_WAIT (i : Nat) : Nat := 0x400108 + 0x20 * (i % 16)
/-- DET_CX_KERNEL (R362). -/
def DET_CX_KERNEL (i : Nat) : Nat := 0x400110 + 0x20 * (i % 16)
/-- DET_STEP_INC (R362). -/
def DET_STEP_INC : Nat := 0x400300
/-- DET_SEED_LO (R362). -/
def DET_SEED_LO (i : Nat) : Nat := 0x410000 + 0x20 * (i % 4096)
/-- DET_SEED_HI (R362). -/
def DET_SEED_HI (i : Nat) : Nat := 0x410008 + 0x20 * (i % 4096)
/-- DET_STEP (R362). -/
def DET_STEP (i : Nat) : Nat := 0x410010 + 0x20 * (i % 4096)
/-- DET_TAG_CTL (R362). -/
def DET_TAG_CTL (i : Nat) : Nat := 0x410018 + 0x20 * (i % 4096)
/-- LDG_CFG (R391). -/
def LDG_CFG : Nat := 0x500000
/-- LDG_MASK (R391). -/
def LDG_MASK : Nat := 0x500008
/-- LDG_HEAD (R391). -/
def LDG_HEAD (i : Nat) : Nat := 0x500010 + 0x8 * (i % 2)
/-- LDG_TAIL (R391). -/
def LDG_TAIL (i : Nat) : Nat := 0x500020 + 0x8 * (i % 2)
/-- LDG_STS (R391). -/
def LDG_STS (i : Nat) : Nat := 0x500030 + 0x8 * (i % 2)
/-- LDG_CE_CTL (R391). -/
def LDG_CE_CTL : Nat := 0x500040
/-- LDG_SECDED_CE (R391). -/
def LDG_SECDED_CE : Nat := 0x500048
/-- LDG_POISON_READS (R391). -/
def LDG_POISON_READS : Nat := 0x500050
/-- LDG_TAG_POISON (R391). -/
def LDG_TAG_POISON (i : Nat) : Nat := 0x500100 + 0x8 * (i % 64)
/-- LDG_SELFTEST (R391). -/
def LDG_SELFTEST : Nat := 0x500300
/-- LDG_FLIP_SEL (R391). -/
def LDG_FLIP_SEL : Nat := 0x500308
/-- LDG_FLIP_MASK (R391). -/
def LDG_FLIP_MASK : Nat := 0x500310
/-- LDG_REC (R391). -/
def LDG_REC (i j : Nat) : Nat := 0x501000 + 0x40 * (i % 2) + 0x8 * (j % 8)
/-- LDG_CE_ADDR (R391). -/
def LDG_CE_ADDR (i j : Nat) : Nat := 0x502000 + 0x1000 * (i % 2) + 0x10 * (j % 256)
/-- LDG_CE_INFO (R391). -/
def LDG_CE_INFO (i j : Nat) : Nat := 0x502008 + 0x1000 * (i % 2) + 0x10 * (j % 256)
/-- CLR_CFG (R392). -/
def CLR_CFG : Nat := 0x600000
/-- CLR_CTRL (R392). -/
def CLR_CTRL : Nat := 0x600008
/-- CLR_STS (R392). -/
def CLR_STS (i : Nat) : Nat := 0x600100 + 0x40 * (i % 8)
/-- CLR_LAST_PASS_END (R392). -/
def CLR_LAST_PASS_END (i : Nat) : Nat := 0x600108 + 0x40 * (i % 8)
/-- CLR_GRAINS (R392). -/
def CLR_GRAINS (i : Nat) : Nat := 0x600110 + 0x40 * (i % 8)
/-- CLR_CORRECTED (R392). -/
def CLR_CORRECTED (i : Nat) : Nat := 0x600118 + 0x40 * (i % 8)
/-- CLR_REPAIRED (R392). -/
def CLR_REPAIRED (i : Nat) : Nat := 0x600120 + 0x40 * (i % 8)
/-- CLR_POISONED (R392). -/
def CLR_POISONED (i : Nat) : Nat := 0x600128 + 0x40 * (i % 8)
/-- CLR_MARKED_SKIPPED (R392). -/
def CLR_MARKED_SKIPPED (i : Nat) : Nat := 0x600130 + 0x40 * (i % 8)
/-- MNT_JQ_BASE (R142). -/
def MNT_JQ_BASE : Nat := 0x700000
/-- MNT_JQ_CFG (R142). -/
def MNT_JQ_CFG : Nat := 0x700008
/-- MNT_JQ_TAIL (R142). -/
def MNT_JQ_TAIL : Nat := 0x700010
/-- MNT_JQ_HEAD (R142). -/
def MNT_JQ_HEAD : Nat := 0x700018
/-- MNT_STATUS (R142). -/
def MNT_STATUS : Nat := 0x700020
/-- MNT_TILES_ENC (R142). -/
def MNT_TILES_ENC : Nat := 0x700028
/-- MNT_TILES_RAW (R142). -/
def MNT_TILES_RAW : Nat := 0x700030
/-- MNT_GRAINS_OUT (R142). -/
def MNT_GRAINS_OUT : Nat := 0x700038
/-- MNT_BASE_HITS (R142). -/
def MNT_BASE_HITS : Nat := 0x700040
/-- MNT_BASE_MISSES (R142). -/
def MNT_BASE_MISSES : Nat := 0x700048
/-- MNT_STAGE_TAB (R142). -/
def MNT_STAGE_TAB (i : Nat) : Nat := 0x700100 + 0x8 * (i % 64)
/-- MNT_SLOT_CMD (R142). -/
def MNT_SLOT_CMD : Nat := 0x700300
/-- MNT_SLOT_RESULT (R142). -/
def MNT_SLOT_RESULT : Nat := 0x700308
/-- MNT_SLOT_INFO (R142). -/
def MNT_SLOT_INFO (i : Nat) : Nat := 0x700400 + 0x8 * (i % 64)
/-- MNT_SLOT_TAB (R142). -/
def MNT_SLOT_TAB (i j : Nat) : Nat := 0x701000 + 0x200 * (i % 64) + 0x8 * (j % 64)
/-- CAN_SPLIT (R95). -/
def CAN_SPLIT (i : Nat) : Nat := 0x800000 + 0x40 * (i % 8)
/-- CAN_CTRL (R95). -/
def CAN_CTRL (i : Nat) : Nat := 0x800008 + 0x40 * (i % 8)
/-- CAN_STS (R95). -/
def CAN_STS (i : Nat) : Nat := 0x800010 + 0x40 * (i % 8)
/-- CAN_HITS (R95). -/
def CAN_HITS (i : Nat) : Nat := 0x800018 + 0x40 * (i % 8)
/-- CAN_MISSES (R95). -/
def CAN_MISSES (i : Nat) : Nat := 0x800020 + 0x40 * (i % 8)
/-- CAN_WBACKS (R95). -/
def CAN_WBACKS (i : Nat) : Nat := 0x800028 + 0x40 * (i % 8)
/-- CAN_PLACE (R95). -/
def CAN_PLACE : Nat := 0x800400
/-- CAN_PAGE_SEL (R95). -/
def CAN_PAGE_SEL : Nat := 0x800408
/-- CAN_PAGE_INFO (R95). -/
def CAN_PAGE_INFO : Nat := 0x800410
/-- CAN_STALL (R95). -/
def CAN_STALL (i j : Nat) : Nat := 0x801000 + 0x40 * (i % 16) + 0x8 * (j % 6)
/-- CAN_DCFG (R289). -/
def CAN_DCFG : Nat := 0x808000
/-- CAN_DSTS (R289). -/
def CAN_DSTS (i : Nat) : Nat := 0x808100 + 0x40 * (i % 8)
/-- CAN_TALLY (R289). -/
def CAN_TALLY (i j : Nat) : Nat := 0x808108 + 0x40 * (i % 8) + 0x8 * (j % 6)
/-- UND_DCFG (R289). -/
def UND_DCFG : Nat := 0x900000
/-- UND_EN_LO (R289). -/
def UND_EN_LO : Nat := 0x900008
/-- UND_EN_HI (R289). -/
def UND_EN_HI : Nat := 0x900010
/-- UND_POP (R289). -/
def UND_POP : Nat := 0x900018
/-- UND_PAGES (R289). -/
def UND_PAGES (i : Nat) : Nat := 0x900040 + 0x8 * (i % 8)
/-- UND_PASR (R289). -/
def UND_PASR (i : Nat) : Nat := 0x900100 + 0x8 * (i % 8)
/-- UND_STS (R289). -/
def UND_STS (i : Nat) : Nat := 0x901000 + 0x40 * (i % 96)
/-- UND_TALLY (R289). -/
def UND_TALLY (i j : Nat) : Nat := 0x901008 + 0x40 * (i % 96) + 0x8 * (j % 6)
/-- VLT_POP (R303). -/
def VLT_POP : Nat := 0xA00000
/-- VLT_PART (R303). -/
def VLT_PART : Nat := 0xA00008
/-- VLT_CKPT_CMD (R303). -/
def VLT_CKPT_CMD : Nat := 0xA00010
/-- VLT_CFG (R303). -/
def VLT_CFG : Nat := 0xA00018
/-- VLT_PAGES (R303). -/
def VLT_PAGES (i : Nat) : Nat := 0xA00040 + 0x8 * (i % 8)
/-- VLT_CH_STS (R303). -/
def VLT_CH_STS (i : Nat) : Nat := 0xA01000 + 0x40 * (i % 32)
/-- VLT_CH_TALLY (R303). -/
def VLT_CH_TALLY (i j : Nat) : Nat := 0xA01008 + 0x40 * (i % 32) + 0x8 * (j % 6)
/-- VLT_CKPT_SRC (R303). -/
def VLT_CKPT_SRC (i : Nat) : Nat := 0xA02000 + 0x20 * (i % 64)
/-- VLT_CKPT_DST (R303). -/
def VLT_CKPT_DST (i : Nat) : Nat := 0xA02008 + 0x20 * (i % 64)
/-- VLT_CKPT_STS (R303). -/
def VLT_CKPT_STS (i : Nat) : Nat := 0xA02010 + 0x20 * (i % 64)
/-- VLT_CKPT_MARK (R303). -/
def VLT_CKPT_MARK (i : Nat) : Nat := 0xA02018 + 0x20 * (i % 64)
/-- JX_NODE (R248). -/
def JX_NODE : Nat := 0xB00000
/-- JX_REQ_TIMEOUT (R248). -/
def JX_REQ_TIMEOUT : Nat := 0xB00008
/-- JX_SYNC_CFG (R248). -/
def JX_SYNC_CFG : Nat := 0xB00010
/-- JX_SYNC_STS (R248). -/
def JX_SYNC_STS : Nat := 0xB00018
/-- JX_TOKENS (R248). -/
def JX_TOKENS : Nat := 0xB00020
/-- JX_ROUTE (R248). -/
def JX_ROUTE (i : Nat) : Nat := 0xB00100 + 0x8 * (i % 64)
/-- JX_PORT_CFG (R248). -/
def JX_PORT_CFG (i : Nat) : Nat := 0xB01000 + 0x80 * (i % 18)
/-- JX_PORT_STS (R248). -/
def JX_PORT_STS (i : Nat) : Nat := 0xB01008 + 0x80 * (i % 18)
/-- JX_PORT_CREDIT (R248). -/
def JX_PORT_CREDIT (i : Nat) : Nat := 0xB01010 + 0x80 * (i % 18)
/-- JX_PORT_TALLY (R248). -/
def JX_PORT_TALLY (i j : Nat) : Nat := 0xB01018 + 0x80 * (i % 18) + 0x8 * (j % 7)
/-- OPT_CFG (R262). -/
def OPT_CFG (i : Nat) : Nat := 0xC00000 + 0x40 * (i % 18)
/-- OPT_STS (R262). -/
def OPT_STS (i : Nat) : Nat := 0xC00008 + 0x40 * (i % 18)
/-- OPT_LANEMAP (R262). -/
def OPT_LANEMAP (i : Nat) : Nat := 0xC00010 + 0x40 * (i % 18)
/-- OPT_LASER (R262). -/
def OPT_LASER (i : Nat) : Nat := 0xC00018 + 0x40 * (i % 18)
/-- OPT_RXPWR (R262). -/
def OPT_RXPWR (i : Nat) : Nat := 0xC00020 + 0x40 * (i % 18)
/-- OPT_TRAINS (R262). -/
def OPT_TRAINS (i : Nat) : Nat := 0xC00028 + 0x40 * (i % 18)
/-- PEP_CFG (R451). -/
def PEP_CFG : Nat := 0xD00000
/-- PEP_STS (R451). -/
def PEP_STS : Nat := 0xD00008
/-- PEP_PM (R451). -/
def PEP_PM : Nat := 0xD00010
/-- PEP_WIN_COMMIT (R451). -/
def PEP_WIN_COMMIT : Nat := 0xD00018
/-- PEP_RD_TLPS (R451). -/
def PEP_RD_TLPS : Nat := 0xD00040
/-- PEP_WR_TLPS (R451). -/
def PEP_WR_TLPS : Nat := 0xD00048
/-- PEP_UR (R451). -/
def PEP_UR : Nat := 0xD00050
/-- PEP_CA (R451). -/
def PEP_CA : Nat := 0xD00058
/-- PEP_WIN_BASE (R451). -/
def PEP_WIN_BASE (i : Nat) : Nat := 0xD00100 + 0x20 * (i % 16)
/-- PEP_WIN_CTL (R451). -/
def PEP_WIN_CTL (i : Nat) : Nat := 0xD00108 + 0x20 * (i % 16)
/-- PEP_WIN_ACT_BASE (R451). -/
def PEP_WIN_ACT_BASE (i : Nat) : Nat := 0xD00110 + 0x20 * (i % 16)
/-- PEP_WIN_ACT_CTL (R451). -/
def PEP_WIN_ACT_CTL (i : Nat) : Nat := 0xD00118 + 0x20 * (i % 16)
/-- PEP_DMA_BASE (R451). -/
def PEP_DMA_BASE (i : Nat) : Nat := 0xD01000 + 0x40 * (i % 4)
/-- PEP_DMA_CFG (R451). -/
def PEP_DMA_CFG (i : Nat) : Nat := 0xD01008 + 0x40 * (i % 4)
/-- PEP_DMA_TAIL (R451). -/
def PEP_DMA_TAIL (i : Nat) : Nat := 0xD01010 + 0x40 * (i % 4)
/-- PEP_DMA_HEAD (R451). -/
def PEP_DMA_HEAD (i : Nat) : Nat := 0xD01018 + 0x40 * (i % 4)
/-- PEP_DMA_STS (R451). -/
def PEP_DMA_STS (i : Nat) : Nat := 0xD01020 + 0x40 * (i % 4)
/-- PEP_VEC_EVT (R451). -/
def PEP_VEC_EVT (i : Nat) : Nat := 0xD02000 + 0x8 * (i % 256)
/-- POOL_CFG (R328). -/
def POOL_CFG : Nat := 0xE00000
/-- POOL_STATUS (R328). -/
def POOL_STATUS : Nat := 0xE00008
/-- POOL_EXT_REVOKE (R328). -/
def POOL_EXT_REVOKE : Nat := 0xE00010
/-- POOL_DOOR (R328). -/
def POOL_DOOR (i : Nat) : Nat := 0xE00040 + 0x8 * (i % 8)
/-- POOL_HOST_DESC (R328). -/
def POOL_HOST_DESC (i : Nat) : Nat := 0xE00080 + 0x8 * (i % 8)
/-- POOL_HOST_GO (R328). -/
def POOL_HOST_GO : Nat := 0xE000C0
/-- POOL_HOST_STS (R328). -/
def POOL_HOST_STS : Nat := 0xE000C8
/-- POOL_VER_RESET (R328). -/
def POOL_VER_RESET : Nat := 0xE000D0
/-- POOL_VER_SEL (R328). -/
def POOL_VER_SEL : Nat := 0xE000D8
/-- POOL_DENIALS (R328). -/
def POOL_DENIALS : Nat := 0xE00100
/-- POOL_REVOKED_REQS (R328). -/
def POOL_REVOKED_REQS : Nat := 0xE00108
/-- POOL_OPS_DONE (R328). -/
def POOL_OPS_DONE : Nat := 0xE00110
/-- POOL_LIM_SHARED (R328). -/
def POOL_LIM_SHARED : Nat := 0xE00118
/-- POOL_TRUST (R328). -/
def POOL_TRUST (i : Nat) : Nat := 0xE00200 + 0x8 * (i % 16)
/-- POOL_GROUP (R328). -/
def POOL_GROUP (i : Nat) : Nat := 0xE00400 + 0x8 * (i % 255)
/-- POOL_VER_INFO (R328). -/
def POOL_VER_INFO (i : Nat) : Nat := 0xE00C00 + 0x8 * (i % 9)
/-- POOL_LIM (R328). -/
def POOL_LIM (i : Nat) : Nat := 0xE01000 + 0x10 * (i % 1024)
/-- POOL_LIM_OVER (R328). -/
def POOL_LIM_OVER (i : Nat) : Nat := 0xE01008 + 0x10 * (i % 1024)
/-- POOL_EXT (R328). -/
def POOL_EXT (i : Nat) : Nat := 0xE20000 + 0x8 * (i % 16384)
/-- PAIR_ID (R433). -/
def PAIR_ID : Nat := 0xF00000
/-- PAIR_CFG (R433). -/
def PAIR_CFG : Nat := 0xF00008
/-- PAIR_CFG2 (R433). -/
def PAIR_CFG2 : Nat := 0xF00010
/-- PAIR_STS (R433). -/
def PAIR_STS : Nat := 0xF00018
/-- PAIR_CMD (R433). -/
def PAIR_CMD : Nat := 0xF00020
/-- PAIR_FWD_WRITES (R433). -/
def PAIR_FWD_WRITES : Nat := 0xF00040
/-- PAIR_FWD_BYTES (R433). -/
def PAIR_FWD_BYTES : Nat := 0xF00048
/-- PAIR_COMPARED (R433). -/
def PAIR_COMPARED : Nat := 0xF00050
/-- PAIR_UNCOMPARED (R433). -/
def PAIR_UNCOMPARED : Nat := 0xF00058
/-- PAIR_MISMATCHES (R433). -/
def PAIR_MISMATCHES : Nat := 0xF00060
/-- PAIR_RESYNC_PAGES (R433). -/
def PAIR_RESYNC_PAGES : Nat := 0xF00068
/-- PAIR_MM (R433). -/
def PAIR_MM (i : Nat) : Nat := 0xF00100 + 0x20 * (i % 8)
/-- PAIR_MM_STEP (R433). -/
def PAIR_MM_STEP (i : Nat) : Nat := 0xF00108 + 0x20 * (i % 8)
/-- PAIR_MM_FIRST (R433). -/
def PAIR_MM_FIRST (i : Nat) : Nat := 0xF00110 + 0x20 * (i % 8)
/-- PAIR_MM_RERUN (R433). -/
def PAIR_MM_RERUN (i : Nat) : Nat := 0xF00118 + 0x20 * (i % 8)
/-- CORE_Q_BASE (R189). -/
def CORE_Q_BASE (i : Nat) : Nat := 0x1000000 + 0x100000 * (i % 16)
/-- CORE_Q_CFG (R189). -/
def CORE_Q_CFG (i : Nat) : Nat := 0x1000008 + 0x100000 * (i % 16)
/-- CORE_Q_TAIL (R189). -/
def CORE_Q_TAIL (i : Nat) : Nat := 0x1000010 + 0x100000 * (i % 16)
/-- CORE_Q_HEAD (R189). -/
def CORE_Q_HEAD (i : Nat) : Nat := 0x1000018 + 0x100000 * (i % 16)
/-- CORE_STATUS (R189). -/
def CORE_STATUS (i : Nat) : Nat := 0x1000020 + 0x100000 * (i % 16)
/-- CORE_LAST (R189). -/
def CORE_LAST (i : Nat) : Nat := 0x1000028 + 0x100000 * (i % 16)
/-- CORE_PLAN_START (R189). -/
def CORE_PLAN_START (i : Nat) : Nat := 0x1000030 + 0x100000 * (i % 16)
/-- CORE_WAKE (R189). -/
def CORE_WAKE (i : Nat) : Nat := 0x1000038 + 0x100000 * (i % 16)
/-- CORE_KERNELS (R189). -/
def CORE_KERNELS (i : Nat) : Nat := 0x1000040 + 0x100000 * (i % 16)
/-- CORE_WAKE_STALL (R189). -/
def CORE_WAKE_STALL (i : Nat) : Nat := 0x1000048 + 0x100000 * (i % 16)
/-- CORE_LATE (R189). -/
def CORE_LATE (i : Nat) : Nat := 0x1000050 + 0x100000 * (i % 16)
/-- SLOT_STATUS (R189). -/
def SLOT_STATUS (i j : Nat) : Nat := 0x2000000 + 0x40 * (i % 4096) + 0x8 * (j % 8)
/-- SLOT_RELEASE (R189). -/
def SLOT_RELEASE : Nat := 0x2040000
/-- SLOT_RELEASE_RESULT (R189). -/
def SLOT_RELEASE_RESULT : Nat := 0x2040008
/-- SLOT_EVENT (R189). -/
def SLOT_EVENT (i : Nat) : Nat := 0x2100000 + 0x8 * (i % 4096)
/-- SLOT_EVENT_ADD (R189). -/
def SLOT_EVENT_ADD (i : Nat) : Nat := 0x2180000 + 0x8 * (i % 4096)
/-- SLOT_EVENT_DEC (R189). -/
def SLOT_EVENT_DEC (i : Nat) : Nat := 0x2200000 + 0x8 * (i % 4096)
/-- SLOT_BARRIER (R189). -/
def SLOT_BARRIER (i : Nat) : Nat := 0x2280000 + 0x8 * (i % 64)
/-- SLOT_BARRIER_ARRIVE (R189). -/
def SLOT_BARRIER_ARRIVE : Nat := 0x2280200
/-- MGT_CFG (R492). -/
def MGT_CFG : Nat := 0x3000000
/-- MGT_STS (R492). -/
def MGT_STS : Nat := 0x3000008
/-- MGT_FW_VERSION (R492). -/
def MGT_FW_VERSION : Nat := 0x3000010
/-- MGT_WDOG (R492). -/
def MGT_WDOG : Nat := 0x3000018
/-- MGT_ID_SERIAL (R492). -/
def MGT_ID_SERIAL : Nat := 0x3000020
/-- MGT_ID_PUB (R492). -/
def MGT_ID_PUB (i : Nat) : Nat := 0x3000040 + 0x8 * (i % 8)
/-- MGT_KEY (R492). -/
def MGT_KEY (i j : Nat) : Nat := 0x3000080 + 0x20 * (i % 4) + 0x8 * (j % 4)
/-- MGT_KEY_STS (R492). -/
def MGT_KEY_STS : Nat := 0x3000100
/-- MGT_FUSE_CMD (R492). -/
def MGT_FUSE_CMD : Nat := 0x3000108
/-- MGT_NOR_SRC (R492). -/
def MGT_NOR_SRC : Nat := 0x3000110
/-- MGT_NOR_LEN (R492). -/
def MGT_NOR_LEN : Nat := 0x3000118
/-- MGT_NOR_CMD (R492). -/
def MGT_NOR_CMD : Nat := 0x3000120
/-- MGT_ATT_NONCE (R492). -/
def MGT_ATT_NONCE (i : Nat) : Nat := 0x3000140 + 0x8 * (i % 4)
/-- MGT_ATT_ADDR (R492). -/
def MGT_ATT_ADDR : Nat := 0x3000160
/-- MGT_ATT_CMD (R492). -/
def MGT_ATT_CMD : Nat := 0x3000168
/-- MGT_IMG_SESSION (R492). -/
def MGT_IMG_SESSION : Nat := 0x3000180
/-- MGT_IMG_PAGE (R492). -/
def MGT_IMG_PAGE : Nat := 0x3000188
/-- MGT_IMG_WIN (R492). -/
def MGT_IMG_WIN (i : Nat) : Nat := 0x3080000 + 0x8 * (i % 65536)
/-- TST_CFG (R411). -/
def TST_CFG : Nat := 0x3100000
/-- TST_QUAR_BASE (R411). -/
def TST_QUAR_BASE : Nat := 0x3100008
/-- TST_QUAR (R411). -/
def TST_QUAR : Nat := 0x3100010
/-- TST_DIAG_CTL (R411). -/
def TST_DIAG_CTL : Nat := 0x3100018
/-- TST_SHELF_SRC (R411). -/
def TST_SHELF_SRC : Nat := 0x3100020
/-- TST_SHELF_CTL (R411). -/
def TST_SHELF_CTL : Nat := 0x3100028
/-- TST_SHADOWED (R411). -/
def TST_SHADOWED : Nat := 0x3100040
/-- TST_SHADOW_SKIPPED (R411). -/
def TST_SHADOW_SKIPPED : Nat := 0x3100048
/-- TST_MISMATCHES (R411). -/
def TST_MISMATCHES : Nat := 0x3100050
/-- TST_UNCHECKED (R411). -/
def TST_UNCHECKED : Nat := 0x3100058
/-- TST_QUAR_DROPS (R411). -/
def TST_QUAR_DROPS : Nat := 0x3100060
/-- TST_SET (R411). -/
def TST_SET (i : Nat) : Nat := 0x3100100 + 0x10 * (i % 16)
/-- TST_SET_INFO (R411). -/
def TST_SET_INFO (i : Nat) : Nat := 0x3100108 + 0x10 * (i % 16)
/-- TST_SUSPECT (R411). -/
def TST_SUSPECT (i : Nat) : Nat := 0x3100200 + 0x20 * (i % 16)
/-- TST_SUSPECT_PASS (R411). -/
def TST_SUSPECT_PASS (i : Nat) : Nat := 0x3100208 + 0x20 * (i % 16)
/-- TST_SUSPECT_CRC (R411). -/
def TST_SUSPECT_CRC (i : Nat) : Nat := 0x3100210 + 0x20 * (i % 16)
/-- TST_SUSPECT_COUNT (R411). -/
def TST_SUSPECT_COUNT (i : Nat) : Nat := 0x3100218 + 0x20 * (i % 16)
/-- TST_CORE_CTL (R411). -/
def TST_CORE_CTL (i : Nat) : Nat := 0x3100400 + 0x20 * (i % 16)
/-- TST_CORE_STS (R411). -/
def TST_CORE_STS (i : Nat) : Nat := 0x3100408 + 0x20 * (i % 16)
/-- TST_CORE_LAST (R411). -/
def TST_CORE_LAST (i : Nat) : Nat := 0x3100410 + 0x20 * (i % 16)
/-- TST_CORE_TESTS (R411). -/
def TST_CORE_TESTS (i : Nat) : Nat := 0x3100418 + 0x20 * (i % 16)

end Sys2Proof.R

/-! Names of the fields: register and bits (the owning chapter's register tables). -/
namespace Sys2Proof.F

/-- IDREV.PART (R38). -/
def IDREV_PART : Fld := ⟨R.IDREV, 31, 16⟩
/-- IDREV.VENDOR (R38). -/
def IDREV_VENDOR : Fld := ⟨R.IDREV, 15, 8⟩
/-- IDREV.MAJOR (R38). -/
def IDREV_MAJOR : Fld := ⟨R.IDREV, 7, 4⟩
/-- IDREV.MINOR (R38). -/
def IDREV_MINOR : Fld := ⟨R.IDREV, 3, 0⟩
/-- GLB_COUNT.COUNT (R39). -/
def GLB_COUNT_COUNT : Fld := ⟨R.GLB_COUNT, 63, 0⟩
/-- GLB_EPOCH.PENDING (R60). -/
def GLB_EPOCH_PENDING : Fld := ⟨R.GLB_EPOCH, 32, 32⟩
/-- GLB_EPOCH.CURRENT (R60). -/
def GLB_EPOCH_CURRENT : Fld := ⟨R.GLB_EPOCH, 31, 0⟩
/-- AO_CAUSE.KEPT (R473). -/
def AO_CAUSE_KEPT : Fld := ⟨R.AO_CAUSE, 15, 15⟩
/-- AO_CAUSE.RESTART (R473). -/
def AO_CAUSE_RESTART : Fld := ⟨R.AO_CAUSE, 9, 9⟩
/-- AO_CAUSE.FLR (R473). -/
def AO_CAUSE_FLR : Fld := ⟨R.AO_CAUSE, 8, 8⟩
/-- AO_CAUSE.BLOCK (R473). -/
def AO_CAUSE_BLOCK : Fld := ⟨R.AO_CAUSE, 7, 7⟩
/-- AO_CAUSE.SOFTWARE (R473). -/
def AO_CAUSE_SOFTWARE : Fld := ⟨R.AO_CAUSE, 6, 6⟩
/-- AO_CAUSE.PARTNER (R473). -/
def AO_CAUSE_PARTNER : Fld := ⟨R.AO_CAUSE, 5, 5⟩
/-- AO_CAUSE.THERMAL (R473). -/
def AO_CAUSE_THERMAL : Fld := ⟨R.AO_CAUSE, 4, 4⟩
/-- AO_CAUSE.WATCHDOG (R473). -/
def AO_CAUSE_WATCHDOG : Fld := ⟨R.AO_CAUSE, 3, 3⟩
/-- AO_CAUSE.HRST (R473). -/
def AO_CAUSE_HRST : Fld := ⟨R.AO_CAUSE, 2, 2⟩
/-- AO_CAUSE.PERST (R473). -/
def AO_CAUSE_PERST : Fld := ⟨R.AO_CAUSE, 1, 1⟩
/-- AO_CAUSE.POR (R473). -/
def AO_CAUSE_POR : Fld := ⟨R.AO_CAUSE, 0, 0⟩
/-- AO_RST_CTL.KEY (R473). -/
def AO_RST_CTL_KEY : Fld := ⟨R.AO_RST_CTL, 15, 8⟩
/-- AO_RST_CTL.KEEP_DRAM (R473). -/
def AO_RST_CTL_KEEP_DRAM : Fld := ⟨R.AO_RST_CTL, 1, 1⟩
/-- AO_RST_CTL.GO (R473). -/
def AO_RST_CTL_GO : Fld := ⟨R.AO_RST_CTL, 0, 0⟩
/-- AO_RST_POLICY.PERST_SCOPE (R473). -/
def AO_RST_POLICY_PERST_SCOPE : Fld := ⟨R.AO_RST_POLICY, 4, 4⟩
/-- AO_RST_POLICY.KEEP_PARTNER (R473). -/
def AO_RST_POLICY_KEEP_PARTNER : Fld := ⟨R.AO_RST_POLICY, 2, 2⟩
/-- AO_RST_POLICY.KEEP_HRST (R473). -/
def AO_RST_POLICY_KEEP_HRST : Fld := ⟨R.AO_RST_POLICY, 1, 1⟩
/-- AO_RST_POLICY.KEEP_PERST (R473). -/
def AO_RST_POLICY_KEEP_PERST : Fld := ⟨R.AO_RST_POLICY, 0, 0⟩
/-- AO_BLK_RST.TIMEOUT_US (R473). -/
def AO_BLK_RST_TIMEOUT_US : Fld := ⟨R.AO_BLK_RST, 63, 48⟩
/-- AO_BLK_RST.RESULT (R473). -/
def AO_BLK_RST_RESULT : Fld := ⟨R.AO_BLK_RST, 23, 20⟩
/-- AO_BLK_RST.UNIT (R473). -/
def AO_BLK_RST_UNIT : Fld := ⟨R.AO_BLK_RST, 15, 8⟩
/-- AO_BLK_RST.KIND (R473). -/
def AO_BLK_RST_KIND : Fld := ⟨R.AO_BLK_RST, 7, 4⟩
/-- AO_BLK_RST.GO (R473). -/
def AO_BLK_RST_GO : Fld := ⟨R.AO_BLK_RST, 0, 0⟩
/-- AO_STRAPS.CLK_MODE (R473). -/
def AO_STRAPS_CLK_MODE : Fld := ⟨R.AO_STRAPS, 3, 2⟩
/-- AO_STRAPS.BOOT_SRC (R473). -/
def AO_STRAPS_BOOT_SRC : Fld := ⟨R.AO_STRAPS, 1, 0⟩
/-- AO_BOOT.HALT_CODE (R473). -/
def AO_BOOT_HALT_CODE : Fld := ⟨R.AO_BOOT, 63, 48⟩
/-- AO_BOOT.ATTEMPTS (R473). -/
def AO_BOOT_ATTEMPTS : Fld := ⟨R.AO_BOOT, 47, 40⟩
/-- AO_BOOT.SRC (R473). -/
def AO_BOOT_SRC : Fld := ⟨R.AO_BOOT, 33, 32⟩
/-- AO_BOOT.DRAM_VALID (R473). -/
def AO_BOOT_DRAM_VALID : Fld := ⟨R.AO_BOOT, 31, 31⟩
/-- AO_BOOT.TRIM_SAFE (R473). -/
def AO_BOOT_TRIM_SAFE : Fld := ⟨R.AO_BOOT, 30, 30⟩
/-- AO_BOOT.TRIM_LOADING (R473). -/
def AO_BOOT_TRIM_LOADING : Fld := ⟨R.AO_BOOT, 29, 29⟩
/-- AO_BOOT.STEP (R473). -/
def AO_BOOT_STEP : Fld := ⟨R.AO_BOOT, 20, 16⟩
/-- AO_BOOT.STATE (R473). -/
def AO_BOOT_STATE : Fld := ⟨R.AO_BOOT, 3, 0⟩
/-- AO_CLK.ENGINE_MHZ (R473). -/
def AO_CLK_ENGINE_MHZ : Fld := ⟨R.AO_CLK, 63, 48⟩
/-- AO_CLK.FABRIC_MHZ (R473). -/
def AO_CLK_FABRIC_MHZ : Fld := ⟨R.AO_CLK, 47, 32⟩
/-- AO_CLK.ALT_CNT (R473). -/
def AO_CLK_ALT_CNT : Fld := ⟨R.AO_CLK, 8, 8⟩
/-- AO_CLK.SSC (R473). -/
def AO_CLK_SSC : Fld := ⟨R.AO_CLK, 7, 7⟩
/-- AO_CLK.REF (R473). -/
def AO_CLK_REF : Fld := ⟨R.AO_CLK, 6, 6⟩
/-- AO_CLK.ALT (R473). -/
def AO_CLK_ALT : Fld := ⟨R.AO_CLK, 3, 0⟩
/-- AO_THERM.TEMP_MAX (R473). -/
def AO_THERM_TEMP_MAX : Fld := ⟨R.AO_THERM, 63, 48⟩
/-- AO_THERM.HOLD_MS (R473). -/
def AO_THERM_HOLD_MS : Fld := ⟨R.AO_THERM, 47, 32⟩
/-- AO_THERM.THROTTLE_C (R473). -/
def AO_THERM_THROTTLE_C : Fld := ⟨R.AO_THERM, 15, 8⟩
/-- AO_THERM.TRIP_C (R473). -/
def AO_THERM_TRIP_C : Fld := ⟨R.AO_THERM, 7, 0⟩
/-- AO_PWR.PKG_W (R473). -/
def AO_PWR_PKG_W : Fld := ⟨R.AO_PWR, 63, 48⟩
/-- AO_PWR.ENG_PCT (R473). -/
def AO_PWR_ENG_PCT : Fld := ⟨R.AO_PWR, 31, 24⟩
/-- AO_PWR.HEAD_CAN_W (R473). -/
def AO_PWR_HEAD_CAN_W : Fld := ⟨R.AO_PWR, 15, 8⟩
/-- AO_PWR.HEAD_ENG_W (R473). -/
def AO_PWR_HEAD_ENG_W : Fld := ⟨R.AO_PWR, 7, 0⟩
/-- AO_KEEP_SPLIT.STEPS (R473). -/
def AO_KEEP_SPLIT_STEPS : Fld := ⟨R.AO_KEEP_SPLIT, 31, 0⟩
/-- AO_BOOT_STEP.DURATION_US (R473). -/
def AO_BOOT_STEP_DURATION_US (i : Nat) : Fld := ⟨R.AO_BOOT_STEP i, 63, 32⟩
/-- AO_BOOT_STEP.TOTAL (R473). -/
def AO_BOOT_STEP_TOTAL (i : Nat) : Fld := ⟨R.AO_BOOT_STEP i, 23, 16⟩
/-- AO_BOOT_STEP.FAILS (R473). -/
def AO_BOOT_STEP_FAILS (i : Nat) : Fld := ⟨R.AO_BOOT_STEP i, 11, 8⟩
/-- AO_BOOT_STEP.ALT (R473). -/
def AO_BOOT_STEP_ALT (i : Nat) : Fld := ⟨R.AO_BOOT_STEP i, 5, 4⟩
/-- AO_BOOT_STEP.PROGRESS (R473). -/
def AO_BOOT_STEP_PROGRESS (i : Nat) : Fld := ⟨R.AO_BOOT_STEP i, 3, 0⟩
/-- SIT_LOAD.SRC (R60). -/
def SIT_LOAD_SRC : Fld := ⟨R.SIT_LOAD, 2, 1⟩
/-- SIT_LOAD.GO (R60). -/
def SIT_LOAD_GO : Fld := ⟨R.SIT_LOAD, 0, 0⟩
/-- SIT_SRC_ADDR.ADDR (R60). -/
def SIT_SRC_ADDR_ADDR : Fld := ⟨R.SIT_SRC_ADDR, 63, 0⟩
/-- SIT_SRC_LEN.LEN (R60). -/
def SIT_SRC_LEN_LEN : Fld := ⟨R.SIT_SRC_LEN, 31, 0⟩
/-- SIT_STATUS.LAST_ERR (R60). -/
def SIT_STATUS_LAST_ERR : Fld := ⟨R.SIT_STATUS, 31, 16⟩
/-- SIT_STATUS.STAGED (R60). -/
def SIT_STATUS_STAGED : Fld := ⟨R.SIT_STATUS, 11, 8⟩
/-- SIT_STATUS.LAST_OUTCOME (R60). -/
def SIT_STATUS_LAST_OUTCOME : Fld := ⟨R.SIT_STATUS, 7, 4⟩
/-- SIT_STATUS.STATE (R60). -/
def SIT_STATUS_STATE : Fld := ⟨R.SIT_STATUS, 3, 0⟩
/-- SIT_IMAGE_ID.SERIAL_LO (R60). -/
def SIT_IMAGE_ID_SERIAL_LO : Fld := ⟨R.SIT_IMAGE_ID, 63, 32⟩
/-- SIT_IMAGE_ID.SEC_VERSION (R60). -/
def SIT_IMAGE_ID_SEC_VERSION : Fld := ⟨R.SIT_IMAGE_ID, 31, 0⟩
/-- SIT_EPOCH_LAUNCH.COUNT (R60). -/
def SIT_EPOCH_LAUNCH_COUNT : Fld := ⟨R.SIT_EPOCH_LAUNCH, 63, 0⟩
/-- SIT_EPOCH_CTRL.TIMEOUT_US (R60). -/
def SIT_EPOCH_CTRL_TIMEOUT_US : Fld := ⟨R.SIT_EPOCH_CTRL, 31, 16⟩
/-- SIT_EPOCH_CTRL.ABANDON (R60). -/
def SIT_EPOCH_CTRL_ABANDON : Fld := ⟨R.SIT_EPOCH_CTRL, 1, 1⟩
/-- SIT_EPOCH_CTRL.GO (R60). -/
def SIT_EPOCH_CTRL_GO : Fld := ⟨R.SIT_EPOCH_CTRL, 0, 0⟩
/-- SIT_EPOCH_UNITS.MASK (R60). -/
def SIT_EPOCH_UNITS_MASK : Fld := ⟨R.SIT_EPOCH_UNITS, 63, 0⟩
/-- SIT_EPOCH_ACKED.MASK (R60). -/
def SIT_EPOCH_ACKED_MASK : Fld := ⟨R.SIT_EPOCH_ACKED, 63, 0⟩
/-- TLR_CFG.INT_EN (R343). -/
def TLR_CFG_INT_EN : Fld := ⟨R.TLR_CFG, 16, 16⟩
/-- TLR_CFG.NOTICE_NODE (R343). -/
def TLR_CFG_NOTICE_NODE : Fld := ⟨R.TLR_CFG, 15, 0⟩
/-- TLR_MISS_STS.CLASS (R343). -/
def TLR_MISS_STS_CLASS : Fld := ⟨R.TLR_MISS_STS, 63, 0⟩
/-- TLR_CAP_STS.PORT (R343). -/
def TLR_CAP_STS_PORT : Fld := ⟨R.TLR_CAP_STS, 33, 0⟩
/-- TLR_STAT_SEL.CLASS (R343). -/
def TLR_STAT_SEL_CLASS : Fld := ⟨R.TLR_STAT_SEL, 13, 8⟩
/-- TLR_STAT_SEL.PORT (R343). -/
def TLR_STAT_SEL_PORT : Fld := ⟨R.TLR_STAT_SEL, 5, 0⟩
/-- TLR_STAT_BYTES.COUNT (R343). -/
def TLR_STAT_BYTES_COUNT : Fld := ⟨R.TLR_STAT_BYTES, 63, 0⟩
/-- TLR_STAT_BE_BYTES.COUNT (R343). -/
def TLR_STAT_BE_BYTES_COUNT : Fld := ⟨R.TLR_STAT_BE_BYTES, 63, 0⟩
/-- TLR_STAT_MISSES.COUNT (R343). -/
def TLR_STAT_MISSES_COUNT : Fld := ⟨R.TLR_STAT_MISSES, 63, 0⟩
/-- TLR_STAT_LAT_MISS.COUNT (R343). -/
def TLR_STAT_LAT_MISS_COUNT : Fld := ⟨R.TLR_STAT_LAT_MISS, 63, 0⟩
/-- TLR_PORT.SUM_GBPS (R343). -/
def TLR_PORT_SUM_GBPS (i : Nat) : Fld := ⟨R.TLR_PORT i, 63, 48⟩
/-- TLR_PORT.CAP_MBPS (R343). -/
def TLR_PORT_CAP_MBPS (i : Nat) : Fld := ⟨R.TLR_PORT i, 47, 24⟩
/-- TLR_PORT.SCALE (R343). -/
def TLR_PORT_SCALE (i : Nat) : Fld := ⟨R.TLR_PORT i, 16, 0⟩
/-- TLR_CLASS_CFG.BURST_US (R343). -/
def TLR_CLASS_CFG_BURST_US (i : Nat) : Fld := ⟨R.TLR_CLASS_CFG i, 55, 48⟩
/-- TLR_CLASS_CFG.G_LINK (R343). -/
def TLR_CLASS_CFG_G_LINK (i : Nat) : Fld := ⟨R.TLR_CLASS_CFG i, 47, 32⟩
/-- TLR_CLASS_CFG.G_UND (R343). -/
def TLR_CLASS_CFG_G_UND (i : Nat) : Fld := ⟨R.TLR_CLASS_CFG i, 31, 16⟩
/-- TLR_CLASS_CFG.G_CAN (R343). -/
def TLR_CLASS_CFG_G_CAN (i : Nat) : Fld := ⟨R.TLR_CLASS_CFG i, 15, 0⟩
/-- TLR_CLASS_MASK.PORT_MASK (R343). -/
def TLR_CLASS_MASK_PORT_MASK (i : Nat) : Fld := ⟨R.TLR_CLASS_MASK i, 49, 32⟩
/-- TLR_CLASS_MASK.CLUSTER_MASK (R343). -/
def TLR_CLASS_MASK_CLUSTER_MASK (i : Nat) : Fld := ⟨R.TLR_CLASS_MASK i, 7, 0⟩
/-- TLR_CLASS_LAT.LAT_LINK_NS (R343). -/
def TLR_CLASS_LAT_LAT_LINK_NS (i : Nat) : Fld := ⟨R.TLR_CLASS_LAT i, 63, 32⟩
/-- TLR_CLASS_LAT.LAT_MEM_NS (R343). -/
def TLR_CLASS_LAT_LAT_MEM_NS (i : Nat) : Fld := ⟨R.TLR_CLASS_LAT i, 31, 0⟩
/-- TLR_TAG.CLASS (R343). -/
def TLR_TAG_CLASS (i : Nat) : Fld := ⟨R.TLR_TAG i, 5, 0⟩
/-- DET_CFG.FABRIC_MHZ (R362). -/
def DET_CFG_FABRIC_MHZ : Fld := ⟨R.DET_CFG, 63, 48⟩
/-- DET_CFG.ENGINE_MHZ (R362). -/
def DET_CFG_ENGINE_MHZ : Fld := ⟨R.DET_CFG, 47, 32⟩
/-- DET_CFG.CX_CORES (R362). -/
def DET_CFG_CX_CORES : Fld := ⟨R.DET_CFG, 31, 16⟩
/-- DET_CFG.MODE (R362). -/
def DET_CFG_MODE : Fld := ⟨R.DET_CFG, 0, 0⟩
/-- DET_CX_STS.LAST_CORE (R362). -/
def DET_CX_STS_LAST_CORE : Fld := ⟨R.DET_CX_STS, 23, 20⟩
/-- DET_CX_STS.LAST_CAUSE (R362). -/
def DET_CX_STS_LAST_CAUSE : Fld := ⟨R.DET_CX_STS, 19, 16⟩
/-- DET_CX_STS.BROKEN (R362). -/
def DET_CX_STS_BROKEN : Fld := ⟨R.DET_CX_STS, 15, 0⟩
/-- DET_CX_BROKEN.COUNT (R362). -/
def DET_CX_BROKEN_COUNT : Fld := ⟨R.DET_CX_BROKEN, 63, 0⟩
/-- DET_ACC_ADDR.ADDR (R362). -/
def DET_ACC_ADDR_ADDR : Fld := ⟨R.DET_ACC_ADDR, 55, 0⟩
/-- DET_ACC_CMD.RESULT (R362). -/
def DET_ACC_CMD_RESULT : Fld := ⟨R.DET_ACC_CMD, 19, 16⟩
/-- DET_ACC_CMD.CORE (R362). -/
def DET_ACC_CMD_CORE : Fld := ⟨R.DET_ACC_CMD, 11, 8⟩
/-- DET_ACC_CMD.OP (R362). -/
def DET_ACC_CMD_OP : Fld := ⟨R.DET_ACC_CMD, 2, 1⟩
/-- DET_ACC_CMD.GO (R362). -/
def DET_ACC_CMD_GO : Fld := ⟨R.DET_ACC_CMD, 0, 0⟩
/-- DET_SLOT_RESTORE.CODE (R362). -/
def DET_SLOT_RESTORE_CODE : Fld := ⟨R.DET_SLOT_RESTORE, 47, 32⟩
/-- DET_SLOT_RESTORE.RETIRED (R362). -/
def DET_SLOT_RESTORE_RETIRED : Fld := ⟨R.DET_SLOT_RESTORE, 29, 29⟩
/-- DET_SLOT_RESTORE.LOCK (R362). -/
def DET_SLOT_RESTORE_LOCK : Fld := ⟨R.DET_SLOT_RESTORE, 28, 28⟩
/-- DET_SLOT_RESTORE.XOR (R362). -/
def DET_SLOT_RESTORE_XOR : Fld := ⟨R.DET_SLOT_RESTORE, 27, 27⟩
/-- DET_SLOT_RESTORE.PLANES (R362). -/
def DET_SLOT_RESTORE_PLANES : Fld := ⟨R.DET_SLOT_RESTORE, 26, 24⟩
/-- DET_SLOT_RESTORE.GEN (R362). -/
def DET_SLOT_RESTORE_GEN : Fld := ⟨R.DET_SLOT_RESTORE, 23, 16⟩
/-- DET_SLOT_RESTORE.SLOT (R362). -/
def DET_SLOT_RESTORE_SLOT : Fld := ⟨R.DET_SLOT_RESTORE, 13, 8⟩
/-- DET_SLOT_RESTORE.GO (R362). -/
def DET_SLOT_RESTORE_GO : Fld := ⟨R.DET_SLOT_RESTORE, 0, 0⟩
/-- DET_CX_CYCLES.COUNT (R362). -/
def DET_CX_CYCLES_COUNT (i : Nat) : Fld := ⟨R.DET_CX_CYCLES i, 63, 0⟩
/-- DET_CX_WAIT.COUNT (R362). -/
def DET_CX_WAIT_COUNT (i : Nat) : Fld := ⟨R.DET_CX_WAIT i, 63, 0⟩
/-- DET_CX_KERNEL.JOB_TAG (R362). -/
def DET_CX_KERNEL_JOB_TAG (i : Nat) : Fld := ⟨R.DET_CX_KERNEL i, 43, 32⟩
/-- DET_CX_KERNEL.KERNEL_ID (R362). -/
def DET_CX_KERNEL_KERNEL_ID (i : Nat) : Fld := ⟨R.DET_CX_KERNEL i, 31, 0⟩
/-- DET_STEP_INC.TAG (R362). -/
def DET_STEP_INC_TAG : Fld := ⟨R.DET_STEP_INC, 11, 0⟩
/-- DET_SEED_LO.SEED (R362). -/
def DET_SEED_LO_SEED (i : Nat) : Fld := ⟨R.DET_SEED_LO i, 63, 0⟩
/-- DET_SEED_HI.SEED (R362). -/
def DET_SEED_HI_SEED (i : Nat) : Fld := ⟨R.DET_SEED_HI i, 63, 0⟩
/-- DET_STEP.STEP (R362). -/
def DET_STEP_STEP (i : Nat) : Fld := ⟨R.DET_STEP i, 63, 0⟩
/-- DET_TAG_CTL.LOCK (R362). -/
def DET_TAG_CTL_LOCK (i : Nat) : Fld := ⟨R.DET_TAG_CTL i, 0, 0⟩
/-- LDG_CFG.NOTICE_NODE (R391). -/
def LDG_CFG_NOTICE_NODE : Fld := ⟨R.LDG_CFG, 63, 48⟩
/-- LDG_CFG.MERGE_US (R391). -/
def LDG_CFG_MERGE_US : Fld := ⟨R.LDG_CFG, 47, 32⟩
/-- LDG_CFG.CE_REPEAT (R391). -/
def LDG_CFG_CE_REPEAT : Fld := ⟨R.LDG_CFG, 31, 16⟩
/-- LDG_MASK.INT_CLASSES (R391). -/
def LDG_MASK_INT_CLASSES : Fld := ⟨R.LDG_MASK, 31, 16⟩
/-- LDG_MASK.NOTICE_CLASSES (R391). -/
def LDG_MASK_NOTICE_CLASSES : Fld := ⟨R.LDG_MASK, 15, 0⟩
/-- LDG_HEAD.SEQ (R391). -/
def LDG_HEAD_SEQ (i : Nat) : Fld := ⟨R.LDG_HEAD i, 31, 0⟩
/-- LDG_TAIL.SEQ (R391). -/
def LDG_TAIL_SEQ (i : Nat) : Fld := ⟨R.LDG_TAIL i, 31, 0⟩
/-- LDG_STS.LOST (R391). -/
def LDG_STS_LOST (i : Nat) : Fld := ⟨R.LDG_STS i, 63, 32⟩
/-- LDG_STS.CE_OVF (R391). -/
def LDG_STS_CE_OVF (i : Nat) : Fld := ⟨R.LDG_STS i, 16, 16⟩
/-- LDG_STS.CE_USED (R391). -/
def LDG_STS_CE_USED (i : Nat) : Fld := ⟨R.LDG_STS i, 8, 0⟩
/-- LDG_CE_CTL.CLEAR (R391). -/
def LDG_CE_CTL_CLEAR : Fld := ⟨R.LDG_CE_CTL, 1, 0⟩
/-- LDG_SECDED_CE.COUNT (R391). -/
def LDG_SECDED_CE_COUNT : Fld := ⟨R.LDG_SECDED_CE, 63, 0⟩
/-- LDG_POISON_READS.COUNT (R391). -/
def LDG_POISON_READS_COUNT : Fld := ⟨R.LDG_POISON_READS, 63, 0⟩
/-- LDG_TAG_POISON.TAGS (R391). -/
def LDG_TAG_POISON_TAGS (i : Nat) : Fld := ⟨R.LDG_TAG_POISON i, 63, 0⟩
/-- LDG_SELFTEST.CORE_ST (R391). -/
def LDG_SELFTEST_CORE_ST : Fld := ⟨R.LDG_SELFTEST, 15, 0⟩
/-- LDG_SELFTEST.CLUS_ST (R391). -/
def LDG_SELFTEST_CLUS_ST : Fld := ⟨R.LDG_SELFTEST, 23, 16⟩
/-- LDG_SELFTEST.STAGE_ST (R391). -/
def LDG_SELFTEST_STAGE_ST : Fld := ⟨R.LDG_SELFTEST, 25, 24⟩
/-- LDG_SELFTEST.CAN_RS (R391). -/
def LDG_SELFTEST_CAN_RS : Fld := ⟨R.LDG_SELFTEST, 33, 26⟩
/-- LDG_SELFTEST.UND_RS (R391). -/
def LDG_SELFTEST_UND_RS : Fld := ⟨R.LDG_SELFTEST, 41, 34⟩
/-- LDG_SELFTEST.LINK (R391). -/
def LDG_SELFTEST_LINK : Fld := ⟨R.LDG_SELFTEST, 59, 42⟩
/-- LDG_SELFTEST.SECDED (R391). -/
def LDG_SELFTEST_SECDED : Fld := ⟨R.LDG_SELFTEST, 61, 60⟩
/-- LDG_FLIP_SEL.TAG (R391). -/
def LDG_FLIP_SEL_TAG : Fld := ⟨R.LDG_FLIP_SEL, 47, 36⟩
/-- LDG_FLIP_SEL.PRE_CODE (R391). -/
def LDG_FLIP_SEL_PRE_CODE : Fld := ⟨R.LDG_FLIP_SEL, 25, 25⟩
/-- LDG_FLIP_SEL.OFFSET (R391). -/
def LDG_FLIP_SEL_OFFSET : Fld := ⟨R.LDG_FLIP_SEL, 24, 16⟩
/-- LDG_FLIP_SEL.UNIT (R391). -/
def LDG_FLIP_SEL_UNIT : Fld := ⟨R.LDG_FLIP_SEL, 14, 8⟩
/-- LDG_FLIP_SEL.TARGET (R391). -/
def LDG_FLIP_SEL_TARGET : Fld := ⟨R.LDG_FLIP_SEL, 7, 4⟩
/-- LDG_FLIP_SEL.ARM (R391). -/
def LDG_FLIP_SEL_ARM : Fld := ⟨R.LDG_FLIP_SEL, 0, 0⟩
/-- LDG_FLIP_MASK.MASK (R391). -/
def LDG_FLIP_MASK_MASK : Fld := ⟨R.LDG_FLIP_MASK, 63, 0⟩
/-- LDG_REC.BYTES (R391). -/
def LDG_REC_BYTES (i j : Nat) : Fld := ⟨R.LDG_REC i j, 63, 0⟩
/-- LDG_CE_ADDR.ADDR (R391). -/
def LDG_CE_ADDR_ADDR (i j : Nat) : Fld := ⟨R.LDG_CE_ADDR i j, 55, 0⟩
/-- LDG_CE_INFO.COUNT (R391). -/
def LDG_CE_INFO_COUNT (i j : Nat) : Fld := ⟨R.LDG_CE_INFO i j, 63, 48⟩
/-- LDG_CE_INFO.UNIT (R391). -/
def LDG_CE_INFO_UNIT (i j : Nat) : Fld := ⟨R.LDG_CE_INFO i j, 47, 40⟩
/-- LDG_CE_INFO.UNIT_KIND (R391). -/
def LDG_CE_INFO_UNIT_KIND (i j : Nat) : Fld := ⟨R.LDG_CE_INFO i j, 39, 32⟩
/-- LDG_CE_INFO.LAST (R391). -/
def LDG_CE_INFO_LAST (i j : Nat) : Fld := ⟨R.LDG_CE_INFO i j, 31, 0⟩
/-- CLR_CFG.EN (R392). -/
def CLR_CFG_EN : Fld := ⟨R.CLR_CFG, 32, 32⟩
/-- CLR_CFG.PERIOD_H (R392). -/
def CLR_CFG_PERIOD_H : Fld := ⟨R.CLR_CFG, 15, 0⟩
/-- CLR_CTRL.PASS_NOW (R392). -/
def CLR_CTRL_PASS_NOW : Fld := ⟨R.CLR_CTRL, 0, 0⟩
/-- CLR_STS.PASSES (R392). -/
def CLR_STS_PASSES (i : Nat) : Fld := ⟨R.CLR_STS i, 63, 32⟩
/-- CLR_STS.PROGRESS (R392). -/
def CLR_STS_PROGRESS (i : Nat) : Fld := ⟨R.CLR_STS i, 31, 24⟩
/-- CLR_STS.LATE (R392). -/
def CLR_STS_LATE (i : Nat) : Fld := ⟨R.CLR_STS i, 1, 1⟩
/-- CLR_STS.HELD (R392). -/
def CLR_STS_HELD (i : Nat) : Fld := ⟨R.CLR_STS i, 0, 0⟩
/-- CLR_LAST_PASS_END.COUNT (R392). -/
def CLR_LAST_PASS_END_COUNT (i : Nat) : Fld := ⟨R.CLR_LAST_PASS_END i, 63, 0⟩
/-- CLR_GRAINS.COUNT (R392). -/
def CLR_GRAINS_COUNT (i : Nat) : Fld := ⟨R.CLR_GRAINS i, 63, 0⟩
/-- CLR_CORRECTED.COUNT (R392). -/
def CLR_CORRECTED_COUNT (i : Nat) : Fld := ⟨R.CLR_CORRECTED i, 63, 0⟩
/-- CLR_REPAIRED.COUNT (R392). -/
def CLR_REPAIRED_COUNT (i : Nat) : Fld := ⟨R.CLR_REPAIRED i, 63, 0⟩
/-- CLR_POISONED.COUNT (R392). -/
def CLR_POISONED_COUNT (i : Nat) : Fld := ⟨R.CLR_POISONED i, 63, 0⟩
/-- CLR_MARKED_SKIPPED.COUNT (R392). -/
def CLR_MARKED_SKIPPED_COUNT (i : Nat) : Fld := ⟨R.CLR_MARKED_SKIPPED i, 63, 0⟩
/-- MNT_JQ_BASE.ADDR (R142). -/
def MNT_JQ_BASE_ADDR : Fld := ⟨R.MNT_JQ_BASE, 55, 0⟩
/-- MNT_JQ_CFG.ENABLE (R142). -/
def MNT_JQ_CFG_ENABLE : Fld := ⟨R.MNT_JQ_CFG, 8, 8⟩
/-- MNT_JQ_CFG.LOG2_ENTRIES (R142). -/
def MNT_JQ_CFG_LOG2_ENTRIES : Fld := ⟨R.MNT_JQ_CFG, 3, 0⟩
/-- MNT_JQ_TAIL.INDEX (R142). -/
def MNT_JQ_TAIL_INDEX : Fld := ⟨R.MNT_JQ_TAIL, 15, 0⟩
/-- MNT_JQ_HEAD.INDEX (R142). -/
def MNT_JQ_HEAD_INDEX : Fld := ⟨R.MNT_JQ_HEAD, 15, 0⟩
/-- MNT_STATUS.LAST_ERR (R142). -/
def MNT_STATUS_LAST_ERR : Fld := ⟨R.MNT_STATUS, 31, 16⟩
/-- MNT_STATUS.ACTIVE_JOBS (R142). -/
def MNT_STATUS_ACTIVE_JOBS : Fld := ⟨R.MNT_STATUS, 2, 0⟩
/-- MNT_TILES_ENC.COUNT (R142). -/
def MNT_TILES_ENC_COUNT : Fld := ⟨R.MNT_TILES_ENC, 63, 0⟩
/-- MNT_TILES_RAW.COUNT (R142). -/
def MNT_TILES_RAW_COUNT : Fld := ⟨R.MNT_TILES_RAW, 63, 0⟩
/-- MNT_GRAINS_OUT.COUNT (R142). -/
def MNT_GRAINS_OUT_COUNT : Fld := ⟨R.MNT_GRAINS_OUT, 63, 0⟩
/-- MNT_BASE_HITS.COUNT (R142). -/
def MNT_BASE_HITS_COUNT : Fld := ⟨R.MNT_BASE_HITS, 63, 0⟩
/-- MNT_BASE_MISSES.COUNT (R142). -/
def MNT_BASE_MISSES_COUNT : Fld := ⟨R.MNT_BASE_MISSES, 63, 0⟩
/-- MNT_STAGE_TAB.BYTES (R142). -/
def MNT_STAGE_TAB_BYTES (i : Nat) : Fld := ⟨R.MNT_STAGE_TAB i, 63, 0⟩
/-- MNT_SLOT_CMD.XOR (R142). -/
def MNT_SLOT_CMD_XOR : Fld := ⟨R.MNT_SLOT_CMD, 19, 19⟩
/-- MNT_SLOT_CMD.PLANES (R142). -/
def MNT_SLOT_CMD_PLANES : Fld := ⟨R.MNT_SLOT_CMD, 18, 16⟩
/-- MNT_SLOT_CMD.SLOT (R142). -/
def MNT_SLOT_CMD_SLOT : Fld := ⟨R.MNT_SLOT_CMD, 13, 8⟩
/-- MNT_SLOT_CMD.OP (R142). -/
def MNT_SLOT_CMD_OP : Fld := ⟨R.MNT_SLOT_CMD, 3, 1⟩
/-- MNT_SLOT_CMD.GO (R142). -/
def MNT_SLOT_CMD_GO : Fld := ⟨R.MNT_SLOT_CMD, 0, 0⟩
/-- MNT_SLOT_RESULT.CODE (R142). -/
def MNT_SLOT_RESULT_CODE : Fld := ⟨R.MNT_SLOT_RESULT, 15, 0⟩
/-- MNT_SLOT_INFO.COUNT (R142). -/
def MNT_SLOT_INFO_COUNT (i : Nat) : Fld := ⟨R.MNT_SLOT_INFO i, 63, 32⟩
/-- MNT_SLOT_INFO.GEN (R142). -/
def MNT_SLOT_INFO_GEN (i : Nat) : Fld := ⟨R.MNT_SLOT_INFO i, 31, 24⟩
/-- MNT_SLOT_INFO.STATE (R142). -/
def MNT_SLOT_INFO_STATE (i : Nat) : Fld := ⟨R.MNT_SLOT_INFO i, 22, 20⟩
/-- MNT_SLOT_INFO.RSV (R142). -/
def MNT_SLOT_INFO_RSV (i : Nat) : Fld := ⟨R.MNT_SLOT_INFO i, 19, 19⟩
/-- MNT_SLOT_INFO.LOCK (R142). -/
def MNT_SLOT_INFO_LOCK (i : Nat) : Fld := ⟨R.MNT_SLOT_INFO i, 18, 18⟩
/-- MNT_SLOT_INFO.XOR (R142). -/
def MNT_SLOT_INFO_XOR (i : Nat) : Fld := ⟨R.MNT_SLOT_INFO i, 17, 17⟩
/-- MNT_SLOT_INFO.DAMAGED (R142). -/
def MNT_SLOT_INFO_DAMAGED (i : Nat) : Fld := ⟨R.MNT_SLOT_INFO i, 16, 16⟩
/-- MNT_SLOT_INFO.PLANES (R142). -/
def MNT_SLOT_INFO_PLANES (i : Nat) : Fld := ⟨R.MNT_SLOT_INFO i, 10, 8⟩
/-- MNT_SLOT_TAB.BYTES (R142). -/
def MNT_SLOT_TAB_BYTES (i j : Nat) : Fld := ⟨R.MNT_SLOT_TAB i j, 63, 0⟩
/-- CAN_SPLIT.SETS (R95). -/
def CAN_SPLIT_SETS (i : Nat) : Fld := ⟨R.CAN_SPLIT i, 55, 32⟩
/-- CAN_SPLIT.DIRECT_PAGES (R95). -/
def CAN_SPLIT_DIRECT_PAGES (i : Nat) : Fld := ⟨R.CAN_SPLIT i, 31, 16⟩
/-- CAN_SPLIT.CACHE_STEPS (R95). -/
def CAN_SPLIT_CACHE_STEPS (i : Nat) : Fld := ⟨R.CAN_SPLIT i, 3, 0⟩
/-- CAN_CTRL.DRAIN (R95). -/
def CAN_CTRL_DRAIN (i : Nat) : Fld := ⟨R.CAN_CTRL i, 2, 2⟩
/-- CAN_CTRL.INV (R95). -/
def CAN_CTRL_INV (i : Nat) : Fld := ⟨R.CAN_CTRL i, 1, 1⟩
/-- CAN_CTRL.WB (R95). -/
def CAN_CTRL_WB (i : Nat) : Fld := ⟨R.CAN_CTRL i, 0, 0⟩
/-- CAN_STS.DIRTY (R95). -/
def CAN_STS_DIRTY (i : Nat) : Fld := ⟨R.CAN_STS i, 55, 32⟩
/-- CAN_STS.VALID (R95). -/
def CAN_STS_VALID (i : Nat) : Fld := ⟨R.CAN_STS i, 31, 8⟩
/-- CAN_STS.DRAINED (R95). -/
def CAN_STS_DRAINED (i : Nat) : Fld := ⟨R.CAN_STS i, 0, 0⟩
/-- CAN_HITS.COUNT (R95). -/
def CAN_HITS_COUNT (i : Nat) : Fld := ⟨R.CAN_HITS i, 63, 0⟩
/-- CAN_MISSES.COUNT (R95). -/
def CAN_MISSES_COUNT (i : Nat) : Fld := ⟨R.CAN_MISSES i, 63, 0⟩
/-- CAN_WBACKS.COUNT (R95). -/
def CAN_WBACKS_COUNT (i : Nat) : Fld := ⟨R.CAN_WBACKS i, 63, 0⟩
/-- CAN_PLACE.DECAY_MS (R95). -/
def CAN_PLACE_DECAY_MS : Fld := ⟨R.CAN_PLACE, 63, 32⟩
/-- CAN_PLACE.PROMOTE (R95). -/
def CAN_PLACE_PROMOTE : Fld := ⟨R.CAN_PLACE, 31, 16⟩
/-- CAN_PLACE.DEMOTE (R95). -/
def CAN_PLACE_DEMOTE : Fld := ⟨R.CAN_PLACE, 15, 0⟩
/-- CAN_PAGE_SEL.PAGE (R95). -/
def CAN_PAGE_SEL_PAGE : Fld := ⟨R.CAN_PAGE_SEL, 30, 0⟩
/-- CAN_PAGE_INFO.HINT (R95). -/
def CAN_PAGE_INFO_HINT : Fld := ⟨R.CAN_PAGE_INFO, 23, 22⟩
/-- CAN_PAGE_INFO.HISTORY (R95). -/
def CAN_PAGE_INFO_HISTORY : Fld := ⟨R.CAN_PAGE_INFO, 21, 21⟩
/-- CAN_PAGE_INFO.HOT (R95). -/
def CAN_PAGE_INFO_HOT : Fld := ⟨R.CAN_PAGE_INFO, 20, 20⟩
/-- CAN_PAGE_INFO.VALID (R95). -/
def CAN_PAGE_INFO_VALID : Fld := ⟨R.CAN_PAGE_INFO, 16, 16⟩
/-- CAN_PAGE_INFO.COUNTER (R95). -/
def CAN_PAGE_INFO_COUNTER : Fld := ⟨R.CAN_PAGE_INFO, 15, 0⟩
/-- CAN_STALL.NS (R95). -/
def CAN_STALL_NS (i j : Nat) : Fld := ⟨R.CAN_STALL i j, 63, 0⟩
/-- CAN_DCFG.TRIP_C (R289). -/
def CAN_DCFG_TRIP_C : Fld := ⟨R.CAN_DCFG, 63, 56⟩
/-- CAN_DCFG.T3_C (R289). -/
def CAN_DCFG_T3_C : Fld := ⟨R.CAN_DCFG, 55, 48⟩
/-- CAN_DCFG.T2_C (R289). -/
def CAN_DCFG_T2_C : Fld := ⟨R.CAN_DCFG, 47, 40⟩
/-- CAN_DCFG.HIGH_C (R289). -/
def CAN_DCFG_HIGH_C : Fld := ⟨R.CAN_DCFG, 39, 32⟩
/-- CAN_DCFG.RH_EN (R289). -/
def CAN_DCFG_RH_EN : Fld := ⟨R.CAN_DCFG, 16, 16⟩
/-- CAN_DCFG.RH_THRESHOLD (R289). -/
def CAN_DCFG_RH_THRESHOLD : Fld := ⟨R.CAN_DCFG, 15, 0⟩
/-- CAN_DSTS.TEMP (R289). -/
def CAN_DSTS_TEMP (i : Nat) : Fld := ⟨R.CAN_DSTS i, 63, 48⟩
/-- CAN_DSTS.SPEED (R289). -/
def CAN_DSTS_SPEED (i : Nat) : Fld := ⟨R.CAN_DSTS i, 7, 7⟩
/-- CAN_DSTS.REF_HIGH (R289). -/
def CAN_DSTS_REF_HIGH (i : Nat) : Fld := ⟨R.CAN_DSTS i, 6, 6⟩
/-- CAN_DSTS.LEVEL (R289). -/
def CAN_DSTS_LEVEL (i : Nat) : Fld := ⟨R.CAN_DSTS i, 5, 4⟩
/-- CAN_DSTS.STATE (R289). -/
def CAN_DSTS_STATE (i : Nat) : Fld := ⟨R.CAN_DSTS i, 2, 0⟩
/-- CAN_TALLY.COUNT (R289). -/
def CAN_TALLY_COUNT (i j : Nat) : Fld := ⟨R.CAN_TALLY i j, 63, 0⟩
/-- UND_DCFG.TRIP_C (R289). -/
def UND_DCFG_TRIP_C : Fld := ⟨R.UND_DCFG, 63, 56⟩
/-- UND_DCFG.T3_C (R289). -/
def UND_DCFG_T3_C : Fld := ⟨R.UND_DCFG, 55, 48⟩
/-- UND_DCFG.T2_C (R289). -/
def UND_DCFG_T2_C : Fld := ⟨R.UND_DCFG, 47, 40⟩
/-- UND_DCFG.HIGH_C (R289). -/
def UND_DCFG_HIGH_C : Fld := ⟨R.UND_DCFG, 39, 32⟩
/-- UND_DCFG.RH_EN (R289). -/
def UND_DCFG_RH_EN : Fld := ⟨R.UND_DCFG, 16, 16⟩
/-- UND_DCFG.RH_THRESHOLD (R289). -/
def UND_DCFG_RH_THRESHOLD : Fld := ⟨R.UND_DCFG, 15, 0⟩
/-- UND_EN_LO.MASK (R289). -/
def UND_EN_LO_MASK : Fld := ⟨R.UND_EN_LO, 63, 0⟩
/-- UND_EN_HI.MASK (R289). -/
def UND_EN_HI_MASK : Fld := ⟨R.UND_EN_HI, 31, 0⟩
/-- UND_POP.GIB (R289). -/
def UND_POP_GIB : Fld := ⟨R.UND_POP, 7, 0⟩
/-- UND_PAGES.CHANNELS (R289). -/
def UND_PAGES_CHANNELS (i : Nat) : Fld := ⟨R.UND_PAGES i, 35, 32⟩
/-- UND_PAGES.PAGES (R289). -/
def UND_PAGES_PAGES (i : Nat) : Fld := ⟨R.UND_PAGES i, 31, 0⟩
/-- UND_PASR.LOST (R289). -/
def UND_PASR_LOST (i : Nat) : Fld := ⟨R.UND_PASR i, 15, 8⟩
/-- UND_PASR.MASK (R289). -/
def UND_PASR_MASK (i : Nat) : Fld := ⟨R.UND_PASR i, 7, 0⟩
/-- UND_STS.TEMP (R289). -/
def UND_STS_TEMP (i : Nat) : Fld := ⟨R.UND_STS i, 63, 48⟩
/-- UND_STS.SPEED (R289). -/
def UND_STS_SPEED (i : Nat) : Fld := ⟨R.UND_STS i, 7, 7⟩
/-- UND_STS.REF_HIGH (R289). -/
def UND_STS_REF_HIGH (i : Nat) : Fld := ⟨R.UND_STS i, 6, 6⟩
/-- UND_STS.LEVEL (R289). -/
def UND_STS_LEVEL (i : Nat) : Fld := ⟨R.UND_STS i, 5, 4⟩
/-- UND_STS.STATE (R289). -/
def UND_STS_STATE (i : Nat) : Fld := ⟨R.UND_STS i, 2, 0⟩
/-- UND_TALLY.COUNT (R289). -/
def UND_TALLY_COUNT (i j : Nat) : Fld := ⟨R.UND_TALLY i j, 63, 0⟩
/-- VLT_POP.CE_COUNT (R303). -/
def VLT_POP_CE_COUNT : Fld := ⟨R.VLT_POP, 35, 32⟩
/-- VLT_POP.CH_MASK (R303). -/
def VLT_POP_CH_MASK : Fld := ⟨R.VLT_POP, 31, 0⟩
/-- VLT_PART.SHELF_PAGES (R303). -/
def VLT_PART_SHELF_PAGES : Fld := ⟨R.VLT_PART, 63, 32⟩
/-- VLT_PART.CKPT_PAGES (R303). -/
def VLT_PART_CKPT_PAGES : Fld := ⟨R.VLT_PART, 31, 0⟩
/-- VLT_CKPT_CMD.RESULT (R303). -/
def VLT_CKPT_CMD_RESULT : Fld := ⟨R.VLT_CKPT_CMD, 19, 16⟩
/-- VLT_CKPT_CMD.ENTRY (R303). -/
def VLT_CKPT_CMD_ENTRY : Fld := ⟨R.VLT_CKPT_CMD, 13, 8⟩
/-- VLT_CKPT_CMD.OP (R303). -/
def VLT_CKPT_CMD_OP : Fld := ⟨R.VLT_CKPT_CMD, 2, 1⟩
/-- VLT_CKPT_CMD.GO (R303). -/
def VLT_CKPT_CMD_GO : Fld := ⟨R.VLT_CKPT_CMD, 0, 0⟩
/-- VLT_CFG.PATROL_DAYS (R303). -/
def VLT_CFG_PATROL_DAYS : Fld := ⟨R.VLT_CFG, 15, 0⟩
/-- VLT_PAGES.STATE (R303). -/
def VLT_PAGES_STATE (i : Nat) : Fld := ⟨R.VLT_PAGES i, 63, 62⟩
/-- VLT_PAGES.TARGETS (R303). -/
def VLT_PAGES_TARGETS (i : Nat) : Fld := ⟨R.VLT_PAGES i, 61, 56⟩
/-- VLT_PAGES.PAGES (R303). -/
def VLT_PAGES_PAGES (i : Nat) : Fld := ⟨R.VLT_PAGES i, 23, 0⟩
/-- VLT_CH_STS.ERASE_MAX (R303). -/
def VLT_CH_STS_ERASE_MAX (i : Nat) : Fld := ⟨R.VLT_CH_STS i, 63, 48⟩
/-- VLT_CH_STS.ERASE_MIN (R303). -/
def VLT_CH_STS_ERASE_MIN (i : Nat) : Fld := ⟨R.VLT_CH_STS i, 47, 32⟩
/-- VLT_CH_STS.CES (R303). -/
def VLT_CH_STS_CES (i : Nat) : Fld := ⟨R.VLT_CH_STS i, 7, 4⟩
/-- VLT_CH_STS.STATE (R303). -/
def VLT_CH_STS_STATE (i : Nat) : Fld := ⟨R.VLT_CH_STS i, 2, 0⟩
/-- VLT_CH_TALLY.COUNT (R303). -/
def VLT_CH_TALLY_COUNT (i j : Nat) : Fld := ⟨R.VLT_CH_TALLY i j, 63, 0⟩
/-- VLT_CKPT_SRC.SPACE (R303). -/
def VLT_CKPT_SRC_SPACE (i : Nat) : Fld := ⟨R.VLT_CKPT_SRC i, 63, 62⟩
/-- VLT_CKPT_SRC.PAGES (R303). -/
def VLT_CKPT_SRC_PAGES (i : Nat) : Fld := ⟨R.VLT_CKPT_SRC i, 54, 31⟩
/-- VLT_CKPT_SRC.BASE (R303). -/
def VLT_CKPT_SRC_BASE (i : Nat) : Fld := ⟨R.VLT_CKPT_SRC i, 30, 0⟩
/-- VLT_CKPT_DST.BASE (R303). -/
def VLT_CKPT_DST_BASE (i : Nat) : Fld := ⟨R.VLT_CKPT_DST i, 30, 0⟩
/-- VLT_CKPT_STS.VALID_PAGES (R303). -/
def VLT_CKPT_STS_VALID_PAGES (i : Nat) : Fld := ⟨R.VLT_CKPT_STS i, 47, 24⟩
/-- VLT_CKPT_STS.STATE (R303). -/
def VLT_CKPT_STS_STATE (i : Nat) : Fld := ⟨R.VLT_CKPT_STS i, 1, 0⟩
/-- VLT_CKPT_MARK.COUNT (R303). -/
def VLT_CKPT_MARK_COUNT (i : Nat) : Fld := ⟨R.VLT_CKPT_MARK i, 63, 0⟩
/-- JX_NODE.ID (R248). -/
def JX_NODE_ID : Fld := ⟨R.JX_NODE, 15, 0⟩
/-- JX_REQ_TIMEOUT.DEFER_MS (R248). -/
def JX_REQ_TIMEOUT_DEFER_MS : Fld := ⟨R.JX_REQ_TIMEOUT, 47, 32⟩
/-- JX_REQ_TIMEOUT.NS (R248). -/
def JX_REQ_TIMEOUT_NS : Fld := ⟨R.JX_REQ_TIMEOUT, 31, 0⟩
/-- JX_SYNC_CFG.INTERVAL_US (R248). -/
def JX_SYNC_CFG_INTERVAL_US : Fld := ⟨R.JX_SYNC_CFG, 47, 32⟩
/-- JX_SYNC_CFG.MASTER_NODE (R248). -/
def JX_SYNC_CFG_MASTER_NODE : Fld := ⟨R.JX_SYNC_CFG, 31, 16⟩
/-- JX_SYNC_CFG.ROLE (R248). -/
def JX_SYNC_CFG_ROLE : Fld := ⟨R.JX_SYNC_CFG, 1, 0⟩
/-- JX_SYNC_STS.OFFSET (R248). -/
def JX_SYNC_STS_OFFSET : Fld := ⟨R.JX_SYNC_STS, 63, 32⟩
/-- JX_SYNC_STS.DELAY (R248). -/
def JX_SYNC_STS_DELAY : Fld := ⟨R.JX_SYNC_STS, 31, 16⟩
/-- JX_SYNC_STS.LOCKED (R248). -/
def JX_SYNC_STS_LOCKED : Fld := ⟨R.JX_SYNC_STS, 0, 0⟩
/-- JX_TOKENS.PEAK1 (R248). -/
def JX_TOKENS_PEAK1 : Fld := ⟨R.JX_TOKENS, 60, 48⟩
/-- JX_TOKENS.PEAK0 (R248). -/
def JX_TOKENS_PEAK0 : Fld := ⟨R.JX_TOKENS, 44, 32⟩
/-- JX_TOKENS.USED1 (R248). -/
def JX_TOKENS_USED1 : Fld := ⟨R.JX_TOKENS, 28, 16⟩
/-- JX_TOKENS.USED0 (R248). -/
def JX_TOKENS_USED0 : Fld := ⟨R.JX_TOKENS, 12, 0⟩
/-- JX_ROUTE.VALID (R248). -/
def JX_ROUTE_VALID (i : Nat) : Fld := ⟨R.JX_ROUTE i, 63, 63⟩
/-- JX_ROUTE.GROUPS (R248). -/
def JX_ROUTE_GROUPS (i : Nat) : Fld := ⟨R.JX_ROUTE i, 39, 32⟩
/-- JX_ROUTE.MASK (R248). -/
def JX_ROUTE_MASK (i : Nat) : Fld := ⟨R.JX_ROUTE i, 31, 16⟩
/-- JX_ROUTE.MATCH (R248). -/
def JX_ROUTE_MATCH (i : Nat) : Fld := ⟨R.JX_ROUTE i, 15, 0⟩
/-- JX_PORT_CFG.REPLAY_NS (R248). -/
def JX_PORT_CFG_REPLAY_NS (i : Nat) : Fld := ⟨R.JX_PORT_CFG i, 31, 16⟩
/-- JX_PORT_CFG.RETRAIN (R248). -/
def JX_PORT_CFG_RETRAIN (i : Nat) : Fld := ⟨R.JX_PORT_CFG i, 8, 8⟩
/-- JX_PORT_CFG.GROUP (R248). -/
def JX_PORT_CFG_GROUP (i : Nat) : Fld := ⟨R.JX_PORT_CFG i, 4, 2⟩
/-- JX_PORT_CFG.LANES8 (R248). -/
def JX_PORT_CFG_LANES8 (i : Nat) : Fld := ⟨R.JX_PORT_CFG i, 1, 1⟩
/-- JX_PORT_CFG.ENABLE (R248). -/
def JX_PORT_CFG_ENABLE (i : Nat) : Fld := ⟨R.JX_PORT_CFG i, 0, 0⟩
/-- JX_PORT_STS.REPLAY_RUN (R248). -/
def JX_PORT_STS_REPLAY_RUN (i : Nat) : Fld := ⟨R.JX_PORT_STS i, 36, 34⟩
/-- JX_PORT_STS.RX_EXPECT (R248). -/
def JX_PORT_STS_RX_EXPECT (i : Nat) : Fld := ⟨R.JX_PORT_STS i, 33, 24⟩
/-- JX_PORT_STS.TX_ACKED (R248). -/
def JX_PORT_STS_TX_ACKED (i : Nat) : Fld := ⟨R.JX_PORT_STS i, 23, 14⟩
/-- JX_PORT_STS.TX_NEXT (R248). -/
def JX_PORT_STS_TX_NEXT (i : Nat) : Fld := ⟨R.JX_PORT_STS i, 13, 4⟩
/-- JX_PORT_STS.STATE (R248). -/
def JX_PORT_STS_STATE (i : Nat) : Fld := ⟨R.JX_PORT_STS i, 2, 0⟩
/-- JX_PORT_CREDIT.CTL (R248). -/
def JX_PORT_CREDIT_CTL (i : Nat) : Fld := ⟨R.JX_PORT_CREDIT i, 30, 25⟩
/-- JX_PORT_CREDIT.NTC (R248). -/
def JX_PORT_CREDIT_NTC (i : Nat) : Fld := ⟨R.JX_PORT_CREDIT i, 24, 18⟩
/-- JX_PORT_CREDIT.RSP (R248). -/
def JX_PORT_CREDIT_RSP (i : Nat) : Fld := ⟨R.JX_PORT_CREDIT i, 17, 9⟩
/-- JX_PORT_CREDIT.REQ (R248). -/
def JX_PORT_CREDIT_REQ (i : Nat) : Fld := ⟨R.JX_PORT_CREDIT i, 8, 0⟩
/-- JX_PORT_TALLY.COUNT (R248). -/
def JX_PORT_TALLY_COUNT (i j : Nat) : Fld := ⟨R.JX_PORT_TALLY i j, 63, 0⟩
/-- OPT_CFG.RETRY_MS (R262). -/
def OPT_CFG_RETRY_MS (i : Nat) : Fld := ⟨R.OPT_CFG i, 47, 32⟩
/-- OPT_CFG.TRAIN_TIMEOUT_MS (R262). -/
def OPT_CFG_TRAIN_TIMEOUT_MS (i : Nat) : Fld := ⟨R.OPT_CFG i, 31, 16⟩
/-- OPT_CFG.FALLBACK (R262). -/
def OPT_CFG_FALLBACK (i : Nat) : Fld := ⟨R.OPT_CFG i, 0, 0⟩
/-- OPT_STS.PEER_RX_GOOD (R262). -/
def OPT_STS_PEER_RX_GOOD (i : Nat) : Fld := ⟨R.OPT_STS i, 39, 32⟩
/-- OPT_STS.RX_GOOD (R262). -/
def OPT_STS_RX_GOOD (i : Nat) : Fld := ⟨R.OPT_STS i, 31, 24⟩
/-- OPT_STS.FAIL_STEP (R262). -/
def OPT_STS_FAIL_STEP (i : Nat) : Fld := ⟨R.OPT_STS i, 19, 16⟩
/-- OPT_STS.TRAIN_FAILS (R262). -/
def OPT_STS_TRAIN_FAILS (i : Nat) : Fld := ⟨R.OPT_STS i, 15, 8⟩
/-- OPT_STS.WIDTH8 (R262). -/
def OPT_STS_WIDTH8 (i : Nat) : Fld := ⟨R.OPT_STS i, 4, 4⟩
/-- OPT_STS.STATE (R262). -/
def OPT_STS_STATE (i : Nat) : Fld := ⟨R.OPT_STS i, 3, 0⟩
/-- OPT_LANEMAP.MAP (R262). -/
def OPT_LANEMAP_MAP (i : Nat) : Fld := ⟨R.OPT_LANEMAP i, 31, 0⟩
/-- OPT_LASER.TEMP (R262). -/
def OPT_LASER_TEMP (i : Nat) : Fld := ⟨R.OPT_LASER i, 47, 32⟩
/-- OPT_LASER.ALARM (R262). -/
def OPT_LASER_ALARM (i : Nat) : Fld := ⟨R.OPT_LASER i, 31, 24⟩
/-- OPT_LASER.CH_ON (R262). -/
def OPT_LASER_CH_ON (i : Nat) : Fld := ⟨R.OPT_LASER i, 23, 16⟩
/-- OPT_LASER.RESET (R262). -/
def OPT_LASER_RESET (i : Nat) : Fld := ⟨R.OPT_LASER i, 2, 2⟩
/-- OPT_LASER.ENABLE (R262). -/
def OPT_LASER_ENABLE (i : Nat) : Fld := ⟨R.OPT_LASER i, 1, 1⟩
/-- OPT_LASER.PRESENT (R262). -/
def OPT_LASER_PRESENT (i : Nat) : Fld := ⟨R.OPT_LASER i, 0, 0⟩
/-- OPT_RXPWR.POWER (R262). -/
def OPT_RXPWR_POWER (i : Nat) : Fld := ⟨R.OPT_RXPWR i, 63, 0⟩
/-- OPT_TRAINS.COUNT (R262). -/
def OPT_TRAINS_COUNT (i : Nat) : Fld := ⟨R.OPT_TRAINS i, 63, 0⟩
/-- PEP_CFG.CPL_LIMIT_US (R451). -/
def PEP_CFG_CPL_LIMIT_US : Fld := ⟨R.PEP_CFG, 47, 32⟩
/-- PEP_CFG.JOB_TAG (R451). -/
def PEP_CFG_JOB_TAG : Fld := ⟨R.PEP_CFG, 11, 0⟩
/-- PEP_STS.D_STATE (R451). -/
def PEP_STS_D_STATE : Fld := ⟨R.PEP_STS, 15, 12⟩
/-- PEP_STS.BME (R451). -/
def PEP_STS_BME : Fld := ⟨R.PEP_STS, 11, 11⟩
/-- PEP_STS.CXL (R451). -/
def PEP_STS_CXL : Fld := ⟨R.PEP_STS, 10, 10⟩
/-- PEP_STS.LSTATE (R451). -/
def PEP_STS_LSTATE : Fld := ⟨R.PEP_STS, 9, 8⟩
/-- PEP_STS.SPEED (R451). -/
def PEP_STS_SPEED : Fld := ⟨R.PEP_STS, 6, 4⟩
/-- PEP_STS.WIDTH (R451). -/
def PEP_STS_WIDTH : Fld := ⟨R.PEP_STS, 3, 0⟩
/-- PEP_PM.L1_IDLE_US (R451). -/
def PEP_PM_L1_IDLE_US : Fld := ⟨R.PEP_PM, 47, 32⟩
/-- PEP_PM.L0P_IDLE_US (R451). -/
def PEP_PM_L0P_IDLE_US : Fld := ⟨R.PEP_PM, 31, 16⟩
/-- PEP_PM.L0P_EN (R451). -/
def PEP_PM_L0P_EN : Fld := ⟨R.PEP_PM, 0, 0⟩
/-- PEP_WIN_COMMIT.COMMITS (R451). -/
def PEP_WIN_COMMIT_COMMITS : Fld := ⟨R.PEP_WIN_COMMIT, 63, 32⟩
/-- PEP_WIN_COMMIT.RESULT (R451). -/
def PEP_WIN_COMMIT_RESULT : Fld := ⟨R.PEP_WIN_COMMIT, 19, 16⟩
/-- PEP_WIN_COMMIT.GO (R451). -/
def PEP_WIN_COMMIT_GO : Fld := ⟨R.PEP_WIN_COMMIT, 0, 0⟩
/-- PEP_RD_TLPS.COUNT (R451). -/
def PEP_RD_TLPS_COUNT : Fld := ⟨R.PEP_RD_TLPS, 63, 0⟩
/-- PEP_WR_TLPS.COUNT (R451). -/
def PEP_WR_TLPS_COUNT : Fld := ⟨R.PEP_WR_TLPS, 63, 0⟩
/-- PEP_UR.COUNT (R451). -/
def PEP_UR_COUNT : Fld := ⟨R.PEP_UR, 63, 0⟩
/-- PEP_CA.COUNT (R451). -/
def PEP_CA_COUNT : Fld := ⟨R.PEP_CA, 63, 0⟩
/-- PEP_WIN_BASE.BASE (R451). -/
def PEP_WIN_BASE_BASE (i : Nat) : Fld := ⟨R.PEP_WIN_BASE i, 55, 12⟩
/-- PEP_WIN_CTL.TAG (R451). -/
def PEP_WIN_CTL_TAG (i : Nat) : Fld := ⟨R.PEP_WIN_CTL i, 27, 16⟩
/-- PEP_WIN_CTL.SIZE_LOG2 (R451). -/
def PEP_WIN_CTL_SIZE_LOG2 (i : Nat) : Fld := ⟨R.PEP_WIN_CTL i, 13, 8⟩
/-- PEP_WIN_CTL.WRITE_EN (R451). -/
def PEP_WIN_CTL_WRITE_EN (i : Nat) : Fld := ⟨R.PEP_WIN_CTL i, 1, 1⟩
/-- PEP_WIN_CTL.EN (R451). -/
def PEP_WIN_CTL_EN (i : Nat) : Fld := ⟨R.PEP_WIN_CTL i, 0, 0⟩
/-- PEP_WIN_ACT_BASE.BASE (R451). -/
def PEP_WIN_ACT_BASE_BASE (i : Nat) : Fld := ⟨R.PEP_WIN_ACT_BASE i, 55, 12⟩
/-- PEP_WIN_ACT_CTL.TAG (R451). -/
def PEP_WIN_ACT_CTL_TAG (i : Nat) : Fld := ⟨R.PEP_WIN_ACT_CTL i, 27, 16⟩
/-- PEP_WIN_ACT_CTL.SIZE_LOG2 (R451). -/
def PEP_WIN_ACT_CTL_SIZE_LOG2 (i : Nat) : Fld := ⟨R.PEP_WIN_ACT_CTL i, 13, 8⟩
/-- PEP_WIN_ACT_CTL.WRITE_EN (R451). -/
def PEP_WIN_ACT_CTL_WRITE_EN (i : Nat) : Fld := ⟨R.PEP_WIN_ACT_CTL i, 1, 1⟩
/-- PEP_WIN_ACT_CTL.EN (R451). -/
def PEP_WIN_ACT_CTL_EN (i : Nat) : Fld := ⟨R.PEP_WIN_ACT_CTL i, 0, 0⟩
/-- PEP_DMA_BASE.ADDR (R451). -/
def PEP_DMA_BASE_ADDR (i : Nat) : Fld := ⟨R.PEP_DMA_BASE i, 63, 0⟩
/-- PEP_DMA_CFG.ENABLE (R451). -/
def PEP_DMA_CFG_ENABLE (i : Nat) : Fld := ⟨R.PEP_DMA_CFG i, 8, 8⟩
/-- PEP_DMA_CFG.LOG2_ENTRIES (R451). -/
def PEP_DMA_CFG_LOG2_ENTRIES (i : Nat) : Fld := ⟨R.PEP_DMA_CFG i, 3, 0⟩
/-- PEP_DMA_TAIL.INDEX (R451). -/
def PEP_DMA_TAIL_INDEX (i : Nat) : Fld := ⟨R.PEP_DMA_TAIL i, 15, 0⟩
/-- PEP_DMA_HEAD.INDEX (R451). -/
def PEP_DMA_HEAD_INDEX (i : Nat) : Fld := ⟨R.PEP_DMA_HEAD i, 15, 0⟩
/-- PEP_DMA_STS.ABORT_INDEX (R451). -/
def PEP_DMA_STS_ABORT_INDEX (i : Nat) : Fld := ⟨R.PEP_DMA_STS i, 31, 16⟩
/-- PEP_DMA_STS.ABORTED (R451). -/
def PEP_DMA_STS_ABORTED (i : Nat) : Fld := ⟨R.PEP_DMA_STS i, 8, 8⟩
/-- PEP_DMA_STS.LAST_STATUS (R451). -/
def PEP_DMA_STS_LAST_STATUS (i : Nat) : Fld := ⟨R.PEP_DMA_STS i, 2, 0⟩
/-- PEP_VEC_EVT.EN (R451). -/
def PEP_VEC_EVT_EN (i : Nat) : Fld := ⟨R.PEP_VEC_EVT i, 12, 12⟩
/-- PEP_VEC_EVT.EVENT (R451). -/
def PEP_VEC_EVT_EVENT (i : Nat) : Fld := ⟨R.PEP_VEC_EVT i, 11, 0⟩
/-- POOL_CFG.FM_NODE (R328). -/
def POOL_CFG_FM_NODE : Fld := ⟨R.POOL_CFG, 63, 48⟩
/-- POOL_CFG.HOST_NODE (R328). -/
def POOL_CFG_HOST_NODE : Fld := ⟨R.POOL_CFG, 47, 32⟩
/-- POOL_CFG.DEFAULT_RATE (R328). -/
def POOL_CFG_DEFAULT_RATE : Fld := ⟨R.POOL_CFG, 31, 20⟩
/-- POOL_CFG.DRAIN_US (R328). -/
def POOL_CFG_DRAIN_US : Fld := ⟨R.POOL_CFG, 19, 10⟩
/-- POOL_CFG.ENFORCE (R328). -/
def POOL_CFG_ENFORCE : Fld := ⟨R.POOL_CFG, 0, 0⟩
/-- POOL_STATUS.LAST_ERR (R328). -/
def POOL_STATUS_LAST_ERR : Fld := ⟨R.POOL_STATUS, 63, 48⟩
/-- POOL_STATUS.DRAINING (R328). -/
def POOL_STATUS_DRAINING : Fld := ⟨R.POOL_STATUS, 47, 32⟩
/-- POOL_STATUS.ACTIVE_OPS (R328). -/
def POOL_STATUS_ACTIVE_OPS : Fld := ⟨R.POOL_STATUS, 4, 0⟩
/-- POOL_EXT_REVOKE.ENTRY (R328). -/
def POOL_EXT_REVOKE_ENTRY : Fld := ⟨R.POOL_EXT_REVOKE, 13, 0⟩
/-- POOL_DOOR.BYTES (R328). -/
def POOL_DOOR_BYTES (i : Nat) : Fld := ⟨R.POOL_DOOR i, 63, 0⟩
/-- POOL_HOST_DESC.BYTES (R328). -/
def POOL_HOST_DESC_BYTES (i : Nat) : Fld := ⟨R.POOL_HOST_DESC i, 63, 0⟩
/-- POOL_HOST_GO.GO (R328). -/
def POOL_HOST_GO_GO : Fld := ⟨R.POOL_HOST_GO, 0, 0⟩
/-- POOL_HOST_STS.STATUS (R328). -/
def POOL_HOST_STS_STATUS : Fld := ⟨R.POOL_HOST_STS, 19, 16⟩
/-- POOL_HOST_STS.CODE (R328). -/
def POOL_HOST_STS_CODE : Fld := ⟨R.POOL_HOST_STS, 15, 0⟩
/-- POOL_VER_RESET.SLOT (R328). -/
def POOL_VER_RESET_SLOT : Fld := ⟨R.POOL_VER_RESET, 19, 16⟩
/-- POOL_VER_RESET.REGION_ID (R328). -/
def POOL_VER_RESET_REGION_ID : Fld := ⟨R.POOL_VER_RESET, 15, 0⟩
/-- POOL_VER_SEL.REGION_ID (R328). -/
def POOL_VER_SEL_REGION_ID : Fld := ⟨R.POOL_VER_SEL, 15, 0⟩
/-- POOL_DENIALS.COUNT (R328). -/
def POOL_DENIALS_COUNT : Fld := ⟨R.POOL_DENIALS, 63, 0⟩
/-- POOL_REVOKED_REQS.COUNT (R328). -/
def POOL_REVOKED_REQS_COUNT : Fld := ⟨R.POOL_REVOKED_REQS, 63, 0⟩
/-- POOL_OPS_DONE.COUNT (R328). -/
def POOL_OPS_DONE_COUNT : Fld := ⟨R.POOL_OPS_DONE, 63, 0⟩
/-- POOL_LIM_SHARED.COUNT (R328). -/
def POOL_LIM_SHARED_COUNT : Fld := ⟨R.POOL_LIM_SHARED, 63, 0⟩
/-- POOL_TRUST.VALID (R328). -/
def POOL_TRUST_VALID (i : Nat) : Fld := ⟨R.POOL_TRUST i, 63, 63⟩
/-- POOL_TRUST.CTRL (R328). -/
def POOL_TRUST_CTRL (i : Nat) : Fld := ⟨R.POOL_TRUST i, 56, 56⟩
/-- POOL_TRUST.STORES (R328). -/
def POOL_TRUST_STORES (i : Nat) : Fld := ⟨R.POOL_TRUST i, 55, 55⟩
/-- POOL_TRUST.SLOTS (R328). -/
def POOL_TRUST_SLOTS (i : Nat) : Fld := ⟨R.POOL_TRUST i, 54, 54⟩
/-- POOL_TRUST.VAULT (R328). -/
def POOL_TRUST_VAULT (i : Nat) : Fld := ⟨R.POOL_TRUST i, 53, 53⟩
/-- POOL_TRUST.DRAM (R328). -/
def POOL_TRUST_DRAM (i : Nat) : Fld := ⟨R.POOL_TRUST i, 52, 52⟩
/-- POOL_TRUST.MASK (R328). -/
def POOL_TRUST_MASK (i : Nat) : Fld := ⟨R.POOL_TRUST i, 31, 16⟩
/-- POOL_TRUST.MATCH (R328). -/
def POOL_TRUST_MATCH (i : Nat) : Fld := ⟨R.POOL_TRUST i, 15, 0⟩
/-- POOL_GROUP.VALID (R328). -/
def POOL_GROUP_VALID (i : Nat) : Fld := ⟨R.POOL_GROUP i, 63, 63⟩
/-- POOL_GROUP.MASK (R328). -/
def POOL_GROUP_MASK (i : Nat) : Fld := ⟨R.POOL_GROUP i, 31, 16⟩
/-- POOL_GROUP.MATCH (R328). -/
def POOL_GROUP_MATCH (i : Nat) : Fld := ⟨R.POOL_GROUP i, 15, 0⟩
/-- POOL_VER_INFO.VERSION (R328). -/
def POOL_VER_INFO_VERSION (i : Nat) : Fld := ⟨R.POOL_VER_INFO i, 63, 32⟩
/-- POOL_VER_INFO.OWNER (R328). -/
def POOL_VER_INFO_OWNER (i : Nat) : Fld := ⟨R.POOL_VER_INFO i, 31, 16⟩
/-- POOL_VER_INFO.OPENS (R328). -/
def POOL_VER_INFO_OPENS (i : Nat) : Fld := ⟨R.POOL_VER_INFO i, 15, 4⟩
/-- POOL_VER_INFO.STATE (R328). -/
def POOL_VER_INFO_STATE (i : Nat) : Fld := ⟨R.POOL_VER_INFO i, 2, 0⟩
/-- POOL_LIM.VALID (R328). -/
def POOL_LIM_VALID (i : Nat) : Fld := ⟨R.POOL_LIM i, 63, 63⟩
/-- POOL_LIM.RATE (R328). -/
def POOL_LIM_RATE (i : Nat) : Fld := ⟨R.POOL_LIM i, 59, 48⟩
/-- POOL_LIM.BURST_KIB (R328). -/
def POOL_LIM_BURST_KIB (i : Nat) : Fld := ⟨R.POOL_LIM i, 47, 32⟩
/-- POOL_LIM.NODE (R328). -/
def POOL_LIM_NODE (i : Nat) : Fld := ⟨R.POOL_LIM i, 15, 0⟩
/-- POOL_LIM_OVER.OVER_NS (R328). -/
def POOL_LIM_OVER_OVER_NS (i : Nat) : Fld := ⟨R.POOL_LIM_OVER i, 63, 0⟩
/-- POOL_EXT.STATE (R328). -/
def POOL_EXT_STATE (i : Nat) : Fld := ⟨R.POOL_EXT i, 63, 62⟩
/-- POOL_EXT.SPACE (R328). -/
def POOL_EXT_SPACE (i : Nat) : Fld := ⟨R.POOL_EXT i, 61, 60⟩
/-- POOL_EXT.BASE (R328). -/
def POOL_EXT_BASE (i : Nat) : Fld := ⟨R.POOL_EXT i, 59, 36⟩
/-- POOL_EXT.RW_GROUP (R328). -/
def POOL_EXT_RW_GROUP (i : Nat) : Fld := ⟨R.POOL_EXT i, 35, 28⟩
/-- POOL_EXT.RO_GROUP (R328). -/
def POOL_EXT_RO_GROUP (i : Nat) : Fld := ⟨R.POOL_EXT i, 27, 20⟩
/-- POOL_EXT.GRANT (R328). -/
def POOL_EXT_GRANT (i : Nat) : Fld := ⟨R.POOL_EXT i, 0, 0⟩
/-- PAIR_ID.RANGES (R433). -/
def PAIR_ID_RANGES : Fld := ⟨R.PAIR_ID, 63, 48⟩
/-- PAIR_ID.ROLE (R433). -/
def PAIR_ID_ROLE : Fld := ⟨R.PAIR_ID, 32, 32⟩
/-- PAIR_ID.PARTNER_NODE (R433). -/
def PAIR_ID_PARTNER_NODE : Fld := ⟨R.PAIR_ID, 31, 16⟩
/-- PAIR_ID.PAIR_NODE (R433). -/
def PAIR_ID_PAIR_NODE : Fld := ⟨R.PAIR_ID, 15, 0⟩
/-- PAIR_CFG.CMP_WAIT_US (R433). -/
def PAIR_CFG_CMP_WAIT_US : Fld := ⟨R.PAIR_CFG, 63, 48⟩
/-- PAIR_CFG.ARB_MS (R433). -/
def PAIR_CFG_ARB_MS : Fld := ⟨R.PAIR_CFG, 47, 32⟩
/-- PAIR_CFG.LOSS_US (R433). -/
def PAIR_CFG_LOSS_US : Fld := ⟨R.PAIR_CFG, 31, 16⟩
/-- PAIR_CFG.ARBITER_NODE (R433). -/
def PAIR_CFG_ARBITER_NODE : Fld := ⟨R.PAIR_CFG, 15, 0⟩
/-- PAIR_CFG2.ACCEPT_RESET (R433). -/
def PAIR_CFG2_ACCEPT_RESET : Fld := ⟨R.PAIR_CFG2, 16, 16⟩
/-- PAIR_CFG2.RESYNC_GBPS (R433). -/
def PAIR_CFG2_RESYNC_GBPS : Fld := ⟨R.PAIR_CFG2, 15, 0⟩
/-- PAIR_STS.DIRTY_PAGES (R433). -/
def PAIR_STS_DIRTY_PAGES : Fld := ⟨R.PAIR_STS, 29, 8⟩
/-- PAIR_STS.MAP_VALID (R433). -/
def PAIR_STS_MAP_VALID : Fld := ⟨R.PAIR_STS, 6, 6⟩
/-- PAIR_STS.FRESH (R433). -/
def PAIR_STS_FRESH : Fld := ⟨R.PAIR_STS, 5, 5⟩
/-- PAIR_STS.SENIOR (R433). -/
def PAIR_STS_SENIOR : Fld := ⟨R.PAIR_STS, 4, 4⟩
/-- PAIR_STS.STATE (R433). -/
def PAIR_STS_STATE : Fld := ⟨R.PAIR_STS, 3, 0⟩
/-- PAIR_CMD.RESULT (R433). -/
def PAIR_CMD_RESULT : Fld := ⟨R.PAIR_CMD, 19, 16⟩
/-- PAIR_CMD.OP (R433). -/
def PAIR_CMD_OP : Fld := ⟨R.PAIR_CMD, 3, 1⟩
/-- PAIR_CMD.GO (R433). -/
def PAIR_CMD_GO : Fld := ⟨R.PAIR_CMD, 0, 0⟩
/-- PAIR_FWD_WRITES.COUNT (R433). -/
def PAIR_FWD_WRITES_COUNT : Fld := ⟨R.PAIR_FWD_WRITES, 63, 0⟩
/-- PAIR_FWD_BYTES.COUNT (R433). -/
def PAIR_FWD_BYTES_COUNT : Fld := ⟨R.PAIR_FWD_BYTES, 63, 0⟩
/-- PAIR_COMPARED.COUNT (R433). -/
def PAIR_COMPARED_COUNT : Fld := ⟨R.PAIR_COMPARED, 63, 0⟩
/-- PAIR_UNCOMPARED.COUNT (R433). -/
def PAIR_UNCOMPARED_COUNT : Fld := ⟨R.PAIR_UNCOMPARED, 63, 0⟩
/-- PAIR_MISMATCHES.COUNT (R433). -/
def PAIR_MISMATCHES_COUNT : Fld := ⟨R.PAIR_MISMATCHES, 63, 0⟩
/-- PAIR_RESYNC_PAGES.COUNT (R433). -/
def PAIR_RESYNC_PAGES_COUNT : Fld := ⟨R.PAIR_RESYNC_PAGES, 63, 0⟩
/-- PAIR_MM.STATE (R433). -/
def PAIR_MM_STATE (i : Nat) : Fld := ⟨R.PAIR_MM i, 63, 61⟩
/-- PAIR_MM.RESULT (R433). -/
def PAIR_MM_RESULT (i : Nat) : Fld := ⟨R.PAIR_MM i, 60, 58⟩
/-- PAIR_MM.SLOT (R433). -/
def PAIR_MM_SLOT (i : Nat) : Fld := ⟨R.PAIR_MM i, 43, 32⟩
/-- PAIR_MM.TENSOR_ID (R433). -/
def PAIR_MM_TENSOR_ID (i : Nat) : Fld := ⟨R.PAIR_MM i, 31, 0⟩
/-- PAIR_MM_STEP.STEP (R433). -/
def PAIR_MM_STEP_STEP (i : Nat) : Fld := ⟨R.PAIR_MM_STEP i, 63, 0⟩
/-- PAIR_MM_FIRST.B1 (R433). -/
def PAIR_MM_FIRST_B1 (i : Nat) : Fld := ⟨R.PAIR_MM_FIRST i, 63, 32⟩
/-- PAIR_MM_FIRST.A1 (R433). -/
def PAIR_MM_FIRST_A1 (i : Nat) : Fld := ⟨R.PAIR_MM_FIRST i, 31, 0⟩
/-- PAIR_MM_RERUN.B2 (R433). -/
def PAIR_MM_RERUN_B2 (i : Nat) : Fld := ⟨R.PAIR_MM_RERUN i, 63, 32⟩
/-- PAIR_MM_RERUN.A2 (R433). -/
def PAIR_MM_RERUN_A2 (i : Nat) : Fld := ⟨R.PAIR_MM_RERUN i, 31, 0⟩
/-- CORE_Q_BASE.ADDR (R189). -/
def CORE_Q_BASE_ADDR (i : Nat) : Fld := ⟨R.CORE_Q_BASE i, 55, 0⟩
/-- CORE_Q_CFG.ENABLE (R189). -/
def CORE_Q_CFG_ENABLE (i : Nat) : Fld := ⟨R.CORE_Q_CFG i, 8, 8⟩
/-- CORE_Q_CFG.LOG2_ENTRIES (R189). -/
def CORE_Q_CFG_LOG2_ENTRIES (i : Nat) : Fld := ⟨R.CORE_Q_CFG i, 3, 0⟩
/-- CORE_Q_TAIL.INDEX (R189). -/
def CORE_Q_TAIL_INDEX (i : Nat) : Fld := ⟨R.CORE_Q_TAIL i, 15, 0⟩
/-- CORE_Q_HEAD.INDEX (R189). -/
def CORE_Q_HEAD_INDEX (i : Nat) : Fld := ⟨R.CORE_Q_HEAD i, 15, 0⟩
/-- CORE_STATUS.KERNEL_ID (R189). -/
def CORE_STATUS_KERNEL_ID (i : Nat) : Fld := ⟨R.CORE_STATUS i, 63, 32⟩
/-- CORE_STATUS.JOB_TAG (R189). -/
def CORE_STATUS_JOB_TAG (i : Nat) : Fld := ⟨R.CORE_STATUS i, 27, 16⟩
/-- CORE_STATUS.DQ_DEPTH (R189). -/
def CORE_STATUS_DQ_DEPTH (i : Nat) : Fld := ⟨R.CORE_STATUS i, 13, 7⟩
/-- CORE_STATUS.STATE (R189). -/
def CORE_STATUS_STATE (i : Nat) : Fld := ⟨R.CORE_STATUS i, 2, 0⟩
/-- CORE_LAST.DONE (R189). -/
def CORE_LAST_DONE (i : Nat) : Fld := ⟨R.CORE_LAST i, 39, 32⟩
/-- CORE_LAST.ARITH_FLAGS (R189). -/
def CORE_LAST_ARITH_FLAGS (i : Nat) : Fld := ⟨R.CORE_LAST i, 31, 16⟩
/-- CORE_LAST.STATUS_CODE (R189). -/
def CORE_LAST_STATUS_CODE (i : Nat) : Fld := ⟨R.CORE_LAST i, 15, 0⟩
/-- CORE_PLAN_START.PLAN_ID (R189). -/
def CORE_PLAN_START_PLAN_ID (i : Nat) : Fld := ⟨R.CORE_PLAN_START i, 31, 0⟩
/-- CORE_WAKE.WAKE (R189). -/
def CORE_WAKE_WAKE (i : Nat) : Fld := ⟨R.CORE_WAKE i, 0, 0⟩
/-- CORE_KERNELS.COUNT (R189). -/
def CORE_KERNELS_COUNT (i : Nat) : Fld := ⟨R.CORE_KERNELS i, 63, 0⟩
/-- CORE_WAKE_STALL.COUNT (R189). -/
def CORE_WAKE_STALL_COUNT (i : Nat) : Fld := ⟨R.CORE_WAKE_STALL i, 63, 0⟩
/-- CORE_LATE.COUNT (R189). -/
def CORE_LATE_COUNT (i : Nat) : Fld := ⟨R.CORE_LATE i, 63, 0⟩
/-- SLOT_STATUS.WORD (R189). -/
def SLOT_STATUS_WORD (i j : Nat) : Fld := ⟨R.SLOT_STATUS i j, 63, 0⟩
/-- SLOT_RELEASE.SEQ (R189). -/
def SLOT_RELEASE_SEQ : Fld := ⟨R.SLOT_RELEASE, 63, 32⟩
/-- SLOT_RELEASE.SLOT (R189). -/
def SLOT_RELEASE_SLOT : Fld := ⟨R.SLOT_RELEASE, 11, 0⟩
/-- SLOT_RELEASE_RESULT.RESULT (R189). -/
def SLOT_RELEASE_RESULT_RESULT : Fld := ⟨R.SLOT_RELEASE_RESULT, 3, 0⟩
/-- SLOT_EVENT.VALUE (R189). -/
def SLOT_EVENT_VALUE (i : Nat) : Fld := ⟨R.SLOT_EVENT i, 31, 0⟩
/-- SLOT_EVENT_ADD.N (R189). -/
def SLOT_EVENT_ADD_N (i : Nat) : Fld := ⟨R.SLOT_EVENT_ADD i, 31, 0⟩
/-- SLOT_EVENT_DEC.N (R189). -/
def SLOT_EVENT_DEC_N (i : Nat) : Fld := ⟨R.SLOT_EVENT_DEC i, 31, 0⟩
/-- SLOT_BARRIER.EVENT_EN (R189). -/
def SLOT_BARRIER_EVENT_EN (i : Nat) : Fld := ⟨R.SLOT_BARRIER i, 60, 60⟩
/-- SLOT_BARRIER.EVENT (R189). -/
def SLOT_BARRIER_EVENT (i : Nat) : Fld := ⟨R.SLOT_BARRIER i, 59, 48⟩
/-- SLOT_BARRIER.GEN (R189). -/
def SLOT_BARRIER_GEN (i : Nat) : Fld := ⟨R.SLOT_BARRIER i, 47, 32⟩
/-- SLOT_BARRIER.ARRIVED (R189). -/
def SLOT_BARRIER_ARRIVED (i : Nat) : Fld := ⟨R.SLOT_BARRIER i, 31, 16⟩
/-- SLOT_BARRIER.COUNT (R189). -/
def SLOT_BARRIER_COUNT (i : Nat) : Fld := ⟨R.SLOT_BARRIER i, 15, 0⟩
/-- SLOT_BARRIER_ARRIVE.BARRIER (R189). -/
def SLOT_BARRIER_ARRIVE_BARRIER : Fld := ⟨R.SLOT_BARRIER_ARRIVE, 5, 0⟩
/-- MGT_CFG.WDOG_MS (R492). -/
def MGT_CFG_WDOG_MS : Fld := ⟨R.MGT_CFG, 47, 32⟩
/-- MGT_CFG.INT_EN (R492). -/
def MGT_CFG_INT_EN : Fld := ⟨R.MGT_CFG, 16, 16⟩
/-- MGT_CFG.IBI_CLASSES (R492). -/
def MGT_CFG_IBI_CLASSES : Fld := ⟨R.MGT_CFG, 15, 0⟩
/-- MGT_STS.FW_STATE (R492). -/
def MGT_STS_FW_STATE : Fld := ⟨R.MGT_STS, 9, 8⟩
/-- MGT_STS.EVENTS (R492). -/
def MGT_STS_EVENTS : Fld := ⟨R.MGT_STS, 4, 0⟩
/-- MGT_FW_VERSION.VERSION (R492). -/
def MGT_FW_VERSION_VERSION : Fld := ⟨R.MGT_FW_VERSION, 63, 0⟩
/-- MGT_WDOG.KICK (R492). -/
def MGT_WDOG_KICK : Fld := ⟨R.MGT_WDOG, 15, 0⟩
/-- MGT_ID_SERIAL.SERIAL (R492). -/
def MGT_ID_SERIAL_SERIAL : Fld := ⟨R.MGT_ID_SERIAL, 63, 0⟩
/-- MGT_ID_PUB.BYTES (R492). -/
def MGT_ID_PUB_BYTES (i : Nat) : Fld := ⟨R.MGT_ID_PUB i, 63, 0⟩
/-- MGT_KEY.BYTES (R492). -/
def MGT_KEY_BYTES (i j : Nat) : Fld := ⟨R.MGT_KEY i j, 63, 0⟩
/-- MGT_KEY_STS.MIN_SEC (R492). -/
def MGT_KEY_STS_MIN_SEC : Fld := ⟨R.MGT_KEY_STS, 14, 8⟩
/-- MGT_KEY_STS.REVOKED (R492). -/
def MGT_KEY_STS_REVOKED : Fld := ⟨R.MGT_KEY_STS, 7, 4⟩
/-- MGT_KEY_STS.PROGRAMMED (R492). -/
def MGT_KEY_STS_PROGRAMMED : Fld := ⟨R.MGT_KEY_STS, 3, 0⟩
/-- MGT_FUSE_CMD.RESULT (R492). -/
def MGT_FUSE_CMD_RESULT : Fld := ⟨R.MGT_FUSE_CMD, 19, 16⟩
/-- MGT_FUSE_CMD.VALUE (R492). -/
def MGT_FUSE_CMD_VALUE : Fld := ⟨R.MGT_FUSE_CMD, 15, 8⟩
/-- MGT_FUSE_CMD.CONFIRM (R492). -/
def MGT_FUSE_CMD_CONFIRM : Fld := ⟨R.MGT_FUSE_CMD, 3, 3⟩
/-- MGT_FUSE_CMD.OP (R492). -/
def MGT_FUSE_CMD_OP : Fld := ⟨R.MGT_FUSE_CMD, 2, 1⟩
/-- MGT_FUSE_CMD.GO (R492). -/
def MGT_FUSE_CMD_GO : Fld := ⟨R.MGT_FUSE_CMD, 0, 0⟩
/-- MGT_NOR_SRC.ADDR (R492). -/
def MGT_NOR_SRC_ADDR : Fld := ⟨R.MGT_NOR_SRC, 55, 0⟩
/-- MGT_NOR_LEN.LEN (R492). -/
def MGT_NOR_LEN_LEN : Fld := ⟨R.MGT_NOR_LEN, 31, 0⟩
/-- MGT_NOR_CMD.LAST_ERR (R492). -/
def MGT_NOR_CMD_LAST_ERR : Fld := ⟨R.MGT_NOR_CMD, 63, 48⟩
/-- MGT_NOR_CMD.RESULT (R492). -/
def MGT_NOR_CMD_RESULT : Fld := ⟨R.MGT_NOR_CMD, 19, 16⟩
/-- MGT_NOR_CMD.GO (R492). -/
def MGT_NOR_CMD_GO : Fld := ⟨R.MGT_NOR_CMD, 0, 0⟩
/-- MGT_ATT_NONCE.NONCE (R492). -/
def MGT_ATT_NONCE_NONCE (i : Nat) : Fld := ⟨R.MGT_ATT_NONCE i, 63, 0⟩
/-- MGT_ATT_ADDR.ADDR (R492). -/
def MGT_ATT_ADDR_ADDR : Fld := ⟨R.MGT_ATT_ADDR, 55, 0⟩
/-- MGT_ATT_CMD.RESULT (R492). -/
def MGT_ATT_CMD_RESULT : Fld := ⟨R.MGT_ATT_CMD, 19, 16⟩
/-- MGT_ATT_CMD.GO (R492). -/
def MGT_ATT_CMD_GO : Fld := ⟨R.MGT_ATT_CMD, 0, 0⟩
/-- MGT_IMG_SESSION.AVAIL (R492). -/
def MGT_IMG_SESSION_AVAIL : Fld := ⟨R.MGT_IMG_SESSION, 32, 32⟩
/-- MGT_IMG_SESSION.OWNER (R492). -/
def MGT_IMG_SESSION_OWNER : Fld := ⟨R.MGT_IMG_SESSION, 31, 16⟩
/-- MGT_IMG_SESSION.OPEN (R492). -/
def MGT_IMG_SESSION_OPEN : Fld := ⟨R.MGT_IMG_SESSION, 0, 0⟩
/-- MGT_IMG_PAGE.PAGE (R492). -/
def MGT_IMG_PAGE_PAGE : Fld := ⟨R.MGT_IMG_PAGE, 6, 0⟩
/-- MGT_IMG_WIN.BYTES (R492). -/
def MGT_IMG_WIN_BYTES (i : Nat) : Fld := ⟨R.MGT_IMG_WIN i, 63, 0⟩
/-- TST_CFG.NOTICE_NODE (R411). -/
def TST_CFG_NOTICE_NODE : Fld := ⟨R.TST_CFG, 63, 48⟩
/-- TST_CFG.SHADOW_WAIT_US (R411). -/
def TST_CFG_SHADOW_WAIT_US : Fld := ⟨R.TST_CFG, 47, 32⟩
/-- TST_CFG.DEADLINE_MS (R411). -/
def TST_CFG_DEADLINE_MS : Fld := ⟨R.TST_CFG, 31, 16⟩
/-- TST_CFG.FRACTION (R411). -/
def TST_CFG_FRACTION : Fld := ⟨R.TST_CFG, 2, 0⟩
/-- TST_QUAR_BASE.ADDR (R411). -/
def TST_QUAR_BASE_ADDR : Fld := ⟨R.TST_QUAR_BASE, 55, 0⟩
/-- TST_QUAR.RECORDS (R411). -/
def TST_QUAR_RECORDS : Fld := ⟨R.TST_QUAR, 47, 32⟩
/-- TST_QUAR.TAIL (R411). -/
def TST_QUAR_TAIL : Fld := ⟨R.TST_QUAR, 31, 16⟩
/-- TST_QUAR.HEAD (R411). -/
def TST_QUAR_HEAD : Fld := ⟨R.TST_QUAR, 15, 0⟩
/-- TST_DIAG_CTL.SHADOW (R411). -/
def TST_DIAG_CTL_SHADOW : Fld := ⟨R.TST_DIAG_CTL, 19, 16⟩
/-- TST_DIAG_CTL.CORE (R411). -/
def TST_DIAG_CTL_CORE : Fld := ⟨R.TST_DIAG_CTL, 11, 8⟩
/-- TST_DIAG_CTL.ENTRY (R411). -/
def TST_DIAG_CTL_ENTRY : Fld := ⟨R.TST_DIAG_CTL, 7, 4⟩
/-- TST_DIAG_CTL.ARM (R411). -/
def TST_DIAG_CTL_ARM : Fld := ⟨R.TST_DIAG_CTL, 0, 0⟩
/-- TST_SHELF_SRC.ADDR (R411). -/
def TST_SHELF_SRC_ADDR : Fld := ⟨R.TST_SHELF_SRC, 63, 0⟩
/-- TST_SHELF_CTL.LAST_ERR (R411). -/
def TST_SHELF_CTL_LAST_ERR : Fld := ⟨R.TST_SHELF_CTL, 47, 32⟩
/-- TST_SHELF_CTL.RESULT (R411). -/
def TST_SHELF_CTL_RESULT : Fld := ⟨R.TST_SHELF_CTL, 19, 16⟩
/-- TST_SHELF_CTL.GO (R411). -/
def TST_SHELF_CTL_GO : Fld := ⟨R.TST_SHELF_CTL, 0, 0⟩
/-- TST_SHADOWED.COUNT (R411). -/
def TST_SHADOWED_COUNT : Fld := ⟨R.TST_SHADOWED, 63, 0⟩
/-- TST_SHADOW_SKIPPED.COUNT (R411). -/
def TST_SHADOW_SKIPPED_COUNT : Fld := ⟨R.TST_SHADOW_SKIPPED, 63, 0⟩
/-- TST_MISMATCHES.COUNT (R411). -/
def TST_MISMATCHES_COUNT : Fld := ⟨R.TST_MISMATCHES, 63, 0⟩
/-- TST_UNCHECKED.COUNT (R411). -/
def TST_UNCHECKED_COUNT : Fld := ⟨R.TST_UNCHECKED, 63, 0⟩
/-- TST_QUAR_DROPS.COUNT (R411). -/
def TST_QUAR_DROPS_COUNT : Fld := ⟨R.TST_QUAR_DROPS, 63, 0⟩
/-- TST_SET.SET_VERSION (R411). -/
def TST_SET_SET_VERSION (i : Nat) : Fld := ⟨R.TST_SET i, 63, 32⟩
/-- TST_SET.SET_ID (R411). -/
def TST_SET_SET_ID (i : Nat) : Fld := ⟨R.TST_SET i, 31, 0⟩
/-- TST_SET_INFO.STATE (R411). -/
def TST_SET_INFO_STATE (i : Nat) : Fld := ⟨R.TST_SET_INFO i, 33, 32⟩
/-- TST_SET_INFO.PATTERNS (R411). -/
def TST_SET_INFO_PATTERNS (i : Nat) : Fld := ⟨R.TST_SET_INFO i, 31, 0⟩
/-- TST_SUSPECT.STATE (R411). -/
def TST_SUSPECT_STATE (i : Nat) : Fld := ⟨R.TST_SUSPECT i, 63, 61⟩
/-- TST_SUSPECT.KIND (R411). -/
def TST_SUSPECT_KIND (i : Nat) : Fld := ⟨R.TST_SUSPECT i, 60, 60⟩
/-- TST_SUSPECT.ENGINE_A (R411). -/
def TST_SUSPECT_ENGINE_A (i : Nat) : Fld := ⟨R.TST_SUSPECT i, 59, 56⟩
/-- TST_SUSPECT.ENGINE_B (R411). -/
def TST_SUSPECT_ENGINE_B (i : Nat) : Fld := ⟨R.TST_SUSPECT i, 55, 52⟩
/-- TST_SUSPECT.JOB_TAG (R411). -/
def TST_SUSPECT_JOB_TAG (i : Nat) : Fld := ⟨R.TST_SUSPECT i, 51, 40⟩
/-- TST_SUSPECT.KERNEL_ID (R411). -/
def TST_SUSPECT_KERNEL_ID (i : Nat) : Fld := ⟨R.TST_SUSPECT i, 31, 0⟩
/-- TST_SUSPECT_PASS.BLOCK (R411). -/
def TST_SUSPECT_PASS_BLOCK (i : Nat) : Fld := ⟨R.TST_SUSPECT_PASS i, 63, 32⟩
/-- TST_SUSPECT_PASS.PASS (R411). -/
def TST_SUSPECT_PASS_PASS (i : Nat) : Fld := ⟨R.TST_SUSPECT_PASS i, 31, 0⟩
/-- TST_SUSPECT_CRC.CRC_B (R411). -/
def TST_SUSPECT_CRC_CRC_B (i : Nat) : Fld := ⟨R.TST_SUSPECT_CRC i, 63, 32⟩
/-- TST_SUSPECT_CRC.CRC_A (R411). -/
def TST_SUSPECT_CRC_CRC_A (i : Nat) : Fld := ⟨R.TST_SUSPECT_CRC i, 31, 0⟩
/-- TST_SUSPECT_COUNT.COUNT (R411). -/
def TST_SUSPECT_COUNT_COUNT (i : Nat) : Fld := ⟨R.TST_SUSPECT_COUNT i, 63, 0⟩
/-- TST_CORE_CTL.AFTER_HEAD (R411). -/
def TST_CORE_CTL_AFTER_HEAD (i : Nat) : Fld := ⟨R.TST_CORE_CTL i, 47, 32⟩
/-- TST_CORE_CTL.SET (R411). -/
def TST_CORE_CTL_SET (i : Nat) : Fld := ⟨R.TST_CORE_CTL i, 11, 8⟩
/-- TST_CORE_CTL.ABORT (R411). -/
def TST_CORE_CTL_ABORT (i : Nat) : Fld := ⟨R.TST_CORE_CTL i, 2, 2⟩
/-- TST_CORE_CTL.EVICTED (R411). -/
def TST_CORE_CTL_EVICTED (i : Nat) : Fld := ⟨R.TST_CORE_CTL i, 1, 1⟩
/-- TST_CORE_CTL.GO (R411). -/
def TST_CORE_CTL_GO (i : Nat) : Fld := ⟨R.TST_CORE_CTL i, 0, 0⟩
/-- TST_CORE_STS.PATTERN (R411). -/
def TST_CORE_STS_PATTERN (i : Nat) : Fld := ⟨R.TST_CORE_STS i, 63, 32⟩
/-- TST_CORE_STS.ENGINE (R411). -/
def TST_CORE_STS_ENGINE (i : Nat) : Fld := ⟨R.TST_CORE_STS i, 21, 20⟩
/-- TST_CORE_STS.DEFERRED (R411). -/
def TST_CORE_STS_DEFERRED (i : Nat) : Fld := ⟨R.TST_CORE_STS i, 7, 7⟩
/-- TST_CORE_STS.OUTCOME (R411). -/
def TST_CORE_STS_OUTCOME (i : Nat) : Fld := ⟨R.TST_CORE_STS i, 6, 4⟩
/-- TST_CORE_STS.STATE (R411). -/
def TST_CORE_STS_STATE (i : Nat) : Fld := ⟨R.TST_CORE_STS i, 2, 0⟩
/-- TST_CORE_LAST.COUNT (R411). -/
def TST_CORE_LAST_COUNT (i : Nat) : Fld := ⟨R.TST_CORE_LAST i, 63, 0⟩
/-- TST_CORE_TESTS.COUNT (R411). -/
def TST_CORE_TESTS_COUNT (i : Nat) : Fld := ⟨R.TST_CORE_TESTS i, 63, 0⟩

end Sys2Proof.F
end

