-- ==== Sys2Proof/Machine/Structure.lean ====
section
/-! DEFINITION. What a Sitin image configures: the STRUCTURE records of Table 2-3 in decoded form, and the program
objects of the PROGRAMS section (R44, R45 and the owning chapters' record bodies). -/

namespace Sys2Proof.Machine

/-- One entry of the REGIONS record (Table 3-5). -/
structure Region where
  id : Nat
  space : Nat
  packed : Bool
  versions : Nat
  base : Nat
  pages : Nat
  dirBase : Nat
  dirPages : Nat
  heapPages : Nat
  heapBase : Nat
  expBase : Nat
  expPages : Nat
  deriving DecidableEq, Repr

/-- One hint entry of the PLACEMENT record (R80): hint 0 AUTO_HOT, 1 AUTO_COLD, 2 PIN, 3 BYPASS. -/
structure HintEntry where
  base : Nat
  pages : Nat
  hint : Nat
  deriving DecidableEq, Repr

/-- One port's entry of the PORT_GROUPS record (R218). -/
structure PortGroup where
  enable : Bool
  lanes8 : Bool
  group : Nat
  deriving DecidableEq, Repr

/-- One tier's entry of the ADJACENCY record (R279). -/
structure Adjacency where
  tier : Nat
  rowBits : Nat
  xor : Nat
  perm : List Nat
  deriving DecidableEq, Repr

/-- The TIER_POP record (R272, R291): chMask 0 stands for no vault. -/
structure TierPop where
  undGib : Nat
  enable : Nat
  chMask : Nat
  ceCount : Nat
  ckptPages : Nat
  shelfPages : Nat
  deriving DecidableEq, Repr

/-- One mirrored range of the MIRROR record (R412). -/
structure MirrorRange where
  space : Nat
  base : Nat
  pages : Nat
  deriving DecidableEq, Repr

/-- The MIRROR record (R412). -/
structure Mirror where
  pairNode : Node
  partnerNode : Node
  roleB : Bool
  ranges : List MirrorRange
  deriving DecidableEq, Repr

/-- One class entry of the CLASSES record (Table 14-2). -/
structure ClassEntry where
  gCan : Nat
  gUnd : Nat
  gLink : Nat
  burstUs : Nat
  clusterMask : Nat
  portMask : Nat
  latMem : Nat
  latLink : Nat
  deriving DecidableEq, Repr

/-- The CLASSES record (R334): the classes of the 4,096 tags, where unlisted tags are in class 0, and the 64 classes,
where unlisted classes are all 0. -/
structure Classes where
  tagClass : List (Nat × Nat)
  classes : List (Nat × ClassEntry)
  deriving DecidableEq, Repr

/-- The DETERMINISM record (R344). -/
structure Determinism where
  cycleExact : Bool
  cxCores : Nat
  engineMhz : Nat
  fabricMhz : Nat
  deriving DecidableEq, Repr

/-- The CHECKING record (R395). -/
structure Checking where
  fraction : Nat
  quarBase : Nat
  quarRecords : Nat
  deriving DecidableEq, Repr

/-- The CLOCK_POWER record (R469): per core the idle mode (0 awake, 1 clock-gated, 2 power-gated) and IDLE_NS. -/
structure ClockPower where
  headEngW : Nat
  headCanW : Nat
  idleMode : List Nat
  idleNs : List Nat
  deriving DecidableEq, Repr

/-- The PLACEMENT record (R80). -/
structure Placement where
  decayMs : Nat
  promote : Nat
  demote : Nat
  hints : List HintEntry
  deriving DecidableEq, Repr

/-- A decoded STRUCTURE section: every record, a record that is absent at its defaults (R44). -/
structure Structure where
  die1Enable : Bool
  tierPop : TierPop
  adjacency : List Adjacency
  split : List Nat
  regions : List Region
  ports : List PortGroup
  mirror : Option Mirror
  classes : Classes
  determinism : Determinism
  checking : Checking
  clockPower : ClockPower
  placement : Placement
  timeoutUs : Nat
  deriving DecidableEq, Repr

/-- A class with no guarantee (R334). -/
def ClassEntry.zero : ClassEntry := ⟨0, 0, 0, 0, 0, 0, 0, 0⟩

/-- The records' defaults, when every one is absent (R44 and the owning chapters: R69, R80, R218, R272, R334, R344,
R395, R412, R469). -/
def Structure.default : Structure where
  die1Enable := true
  tierPop := ⟨0, 0, 0, 0, 0, 0⟩
  adjacency := []
  split := List.replicate 8 8
  regions := []
  ports := List.replicate 16 ⟨true, true, 0⟩ ++ List.replicate 2 ⟨true, true, 7⟩
  mirror := none
  classes := ⟨[], []⟩
  determinism := ⟨false, 0, 0, 0⟩
  checking := ⟨1, 0, 0⟩
  clockPower := ⟨0, 0, List.replicate 16 1, List.replicate 16 1000⟩
  placement := ⟨1000, 64, 16, []⟩
  timeoutUs := 100

/-- One object of the PROGRAMS section (Table 2-4): kind 1 kernel, 2 stream plan, 3 sequencer microcode. -/
structure Program where
  kind : Nat
  coreMask : Nat
  id : Nat
  bytes : Bytes
  deriving DecidableEq, Repr

/-- One configuration set: the STRUCTURE and PROGRAMS that a unit uses or holds pending (R52). -/
structure ConfigSet where
  str : Structure
  programs : List Program
  deriving DecidableEq, Repr

/-- The set before any image has been applied: every record at its default and no program. -/
def ConfigSet.default : ConfigSet := ⟨Structure.default, []⟩

end Sys2Proof.Machine
end

