-- ==== Sys2Proof/Machine/Parts.lean ====
section
/-! DEFINITION. The parts of the machine's state that are not registers: what each unit of the device holds, in the
shape the owning chapter gives it. Every field has the value it takes at a reset that discards everything. -/

namespace Sys2Proof.Machine

/-! ## Faults and fences (R15 to R19) -/

/-- A unit that a fence may cover (Table 1-2). Fenced DRAM and vault channels stand in their status registers. -/
inductive FenceUnit where
  | engine (n : Nat)
  | core (n : Nat)
  | cluster (c : Nat)
  | die (d : Nat)
  deriving DecidableEq, Repr

/-! ## Messages of the link (chapter 9) -/

/-- Flit types (Table 9-2). -/
inductive FType where
  | idle | lctl | rd | wr | flush | rsp | rspd | data | notice | creq | crsp | sync
  deriving DecidableEq, Repr

/-- One message: the header fields its first flit carries and its payload before it is cut into flits (R220 to R225,
R237). attr is the header's ATTR field. -/
structure Msg where
  ftype : FType
  tag : Tag
  src : Node
  dst : Node
  txn : W16
  attr : Nat
  payload : Bytes
  deriving DecidableEq, Repr

/-- One flit: header fields and 240 payload bytes (R219, R220). -/
structure Flit where
  ftype : Nat
  tag : Tag
  src : Node
  dst : Node
  txn : W16
  load : Nat
  attr : Nat
  crVc : Nat
  crCount : Nat
  lseq : Nat
  lvalid : Bool
  nak : Bool
  payload : Bytes
  deriving DecidableEq, Repr

/-- What one side of a pair sends to the other (chapter 18). The spec gives the contents of this traffic and not its
form on the wire. -/
inductive PairMsg where
  | heartbeat
  /-- A sequenced write: its place, address, bytes, poisoned grains and tag; alone marks one that the sender could not
  apply itself (R417, R419, R420). -/
  | write (seq : Nat) (a : PA) (data : Bytes) (mask : List Nat) (tag : Tag) (alone : Bool)
  /-- A write that the other side has accepted and the senior is to sequence (R417). -/
  | request (id : Nat) (a : PA) (data : Bytes) (mask : List Nat) (tag : Tag) (alone : Bool)
  /-- The place of a requested write. -/
  | order (id : Nat) (seq : Nat)
  /-- A sequenced write has been applied. -/
  | ack (seq : Nat)
  /-- DATA_CHECK of a compared kernel with its key (R421). -/
  | check (slot : Nat) (tensor : Nat) (step : Nat) (value : Nat)
  /-- The formation exchange (R428). -/
  | form (digest : Nat) (state : Nat) (mapValid : Bool) (fresh : Bool)
  /-- A piece of the copy of a dirty page (R429). -/
  | piece (seq : Option Nat) (id : Nat) (a : PA) (data : Bytes) (mask : List Nat)
  /-- A replicated pool operation: its key, place and descriptor, and the record that it ended with (R424). -/
  | op (key : Nat) (seq : Option Nat) (src : Node) (desc : Bytes)
  | opResult (key : Nat) (record : Bytes)
  /-- A reset request (R427). -/
  | resetPartner
  deriving DecidableEq, Repr

/-- What one transmit lane carries: its number and its PAM4 levels, first symbol first (R251). -/
structure LaneOut where
  lane : Nat
  levels : List (Fin 4)
  deriving DecidableEq, Repr

/-- What the device sends or signals to the outside, oldest last: the observable trace of its actions. A message shows once;
its flits go out as Msg.cut makes them. A flit that the link layer sends for itself, one that is replayed and a code word
that the flip mask corrupts show with what each transmit lane carries. -/
inductive Out where
  | pair (port : Nat) (m : PairMsg)
  | msg (port : Nat) (count : Nat) (m : Msg)
  | flit (port : Nat) (f : Flit) (lanes : List LaneOut)
  | codeWord (port : Nat) (bytes : Bytes) (lanes : List LaneOut)
  /-- A training block on a transmit lane (R254). It stands for its repeated sending until the next one. -/
  | train (engine : Nat) (lane : Nat) (block : Bytes)
  | interrupt (vector : Nat)
  /-- A completion of a host request: status 0 Successful, 1 Unsupported Request, 2 Completer Abort; the bytes, and the
  numbers of the poisoned grains, whose completions carry EP. -/
  | hostCpl (requester : Nat) (tag : Nat) (status : Nat) (data : Bytes) (ep : List Nat)
  /-- An upstream memory write, its poisoned grains, and whether it has Relaxed Ordering. -/
  | hostWrite (addr : Nat) (data : Bytes) (ep : List Nat) (relaxed : Bool)
  /-- The answer of a configuration request or of a CXL register access. -/
  | configCpl (data : Bytes)
  /-- The answer of a CXL.mem request: its data, or nothing for a write, and the poisoned grains. -/
  | cxlCpl (tag : Nat) (data : Bytes) (poison : List Nat)
  | aer (kind : Nat) (addr : Nat)
  | mailbox (status : Nat) (data : Bytes)
  | i3c (data : Bytes)
  | ibi (byte : Nat)
  /-- The answer of a control-space access of a source: its status and, for a read, its data. -/
  | ctrl (src : Node) (addr : Nat) (status : Nat) (data : Bytes)
  | tdo (bits : List Bool)
  | refresh (unit : Nat) (bank : Nat) (row : Nat)
  /-- Every row of every bank of a controlled unit is refreshed once (R280). -/
  | sweep (unit : Nat)
  /-- A module's channels are enabled over its management bus, or, for 256, its reset is pulsed (R252, R262). -/
  | laser (engine : Nat) (channels : Nat)
  /-- A module's monitors are read over a management bus (R252). -/
  | laserPoll (bus : Nat) (engine : Nat)
  | pcieLink (state : Nat)
  | decResult (event : Nat) (ok : Bool)
  deriving DecidableEq, Repr

/-- One request taken from a port: an accepted RD, WR, FLUSH or CREQ with its header attributes (R220, R223, R225). -/
structure Req where
  port : Fin 18
  src : Node
  dst : Node
  tag : Tag
  txn : W16
  relaxed : Bool
  ordered : Bool
  pass : Bool
  epv : Bool
  epn : Fin 16
  addr : PA
  len : Nat
  data : Bytes
  deriving DecidableEq, Repr

/-- The kinds of request (R221, R225). -/
inductive ReqKind where
  | rd | wr | flush | creqRead | creqWrite
  deriving DecidableEq, Repr

/-- What an open request waits for. -/
inductive Wait where
  /-- An earlier request it must follow, or, for a FLUSH, its source's earlier writes (R238, R239). -/
  | order
  /-- The vault (R65, R294, R296). -/
  | vault
  /-- The write-expand that it started (R86). -/
  | expand
  /-- A write-expand of its tile (R87). -/
  | behindExpand
  /-- The rewrite of its tile by a mint job that is reading it (R129). -/
  | mint
  /-- The repair of a grain (R370). -/
  | repair (a : PA)
  /-- The partner's acceptance (R417), by mirror sequence number. -/
  | mirror (seq : Nat)
  /-- A command from the arbiter in HELD (R426). -/
  | pairHeld
  /-- The senior's answer to a forwarded read (Table 18-1). -/
  | senior
  /-- A pool operation, by its identifier (R314). -/
  | poolOp (id : Nat)
  /-- Data that are not ready, for a reason that changes timing only (R233). -/
  | busy
  deriving DecidableEq, Repr

/-- A host access (R438 to R444): the requester and tag of its header, whether it is posted, whether it came over CXL.mem,
whether its completion has gone, or is no longer owed, whether it has Relaxed Ordering, which DMA channel it serves, and
whether a CXL write is marked poisoned. -/
structure HostAcc where
  requester : Nat := 0
  tag : Nat := 0
  posted : Bool := false
  cxl : Bool := false
  answered : Bool := false
  relaxed : Bool := false
  dma : Option Nat := none
  poison : Bool := false
  deriving DecidableEq, Repr

/-- A request accepted and not yet finished. -/
structure OpenReq where
  id : Nat
  kind : ReqKind
  req : Req
  wait : Wait
  token : Option W32
  acceptedAt : Nat
  epoch : Nat
  /-- The class that a JX request took when it was accepted (R330). -/
  cls : Nat := 0
  /-- The host access that it serves, if it came from the host endpoint. -/
  host : Option HostAcc := none
  /-- An extent of the request was revoked and the request ends with REVOKED (R325, R326). -/
  revoked : Bool
  /-- The cache lines that it has touched, each of which counts once (R77). -/
  touched : List Nat := []
  deriving DecidableEq, Repr

/-- What one of the device's own requests is for (R243): a piece of a FETCH, by its number, or a read that the partner
answers for an open request (Table 18-1, R420). -/
inductive Purpose where
  /-- A request of an image read from the partner (R484). -/
  | image
  | fetch (no : Nat)
  | mirrorRead (openId : Nat)
  deriving DecidableEq, Repr

/-- One request that the device has issued: an RD, or a CREQ that reads or writes 8 bytes; when, whether it is the second
issue, and, once deferred, its token and when it was deferred (R243). -/
structure OwnReq where
  txn : W16
  dst : Node
  tag : Tag
  addr : PA
  len : Nat
  sentAt : Nat
  again : Bool
  token : Option W32
  deferAt : Nat
  purpose : Purpose
  ctl : Option (Option W64) := none
  /-- An RD with the pass-through attribute (R91, R139). -/
  pass : Bool := false
  deriving DecidableEq, Repr

/-- A message being reassembled at a port (R222). -/
structure Partial where
  vc : Nat
  msg : Msg
  next : Nat
  total : Nat
  deriving DecidableEq, Repr

/-- Receiver state of the replay protocol (Table 9-3). -/
inductive RxState where
  | normal | nakSent
  deriving DecidableEq, Repr

/-- A message that waits at a port, and since when (R228, R337). -/
structure Queued where
  msg : Msg
  since : Nat
  /-- The class that its transfer takes (R330). -/
  cls : Nat
  deriving DecidableEq, Repr

/-- A token's completion notice that waits for its acknowledgement: the token's table index and the transmit number of
the notice's last flit (R236). -/
structure TokenWait where
  index : Nat
  last : Nat
  deriving DecidableEq, Repr

/-- The link state of a port that its registers do not show (R227 to R232). -/
structure Port where
  rx : RxState := .normal
  dup : Nat := 0
  taken : Nat := 0
  nakAt : Nat := 0
  lastAck : Nat := 0
  replay : List Flit := []
  progressAt : Nat := 0
  ackedAtReplay : Nat := 0
  crSeen : List Nat := [0, 0, 0, 0]
  freed : List Nat := [0, 0, 0, 0]
  announced : List Nat := [0, 0, 0, 0]
  freedAt : Nat := 0
  held : List Nat := [0, 0, 0, 0]
  queue : List Queued := []
  partials : List Partial := []
  staged : List (ReqKind × Req) := []
  /-- Requests received before the link went down, which hold no place in the receive buffer any more. -/
  carried : List (ReqKind × Req) := []
  initSentAt : Nat := 0
  initSeen : Bool := false
  tokenWaits : List TokenWait := []
  /-- The port is in a retrain, which keeps the counters and the replay buffer (R232). -/
  kept : Bool := false
  deriving DecidableEq, Repr

/-- What an optical engine holds beside its registers (R252 to R257): when the attempt, its present step and the wait
after a failure began; the receive lanes that have locked; by receive lane the peer's transmit lane heard there, 8 for
none; MIRROR, NODE, PHASE and WIDTH of the peer's last good block; by transmit lane the filter's pre-tap and post-tap
settings and the last COEF_REQ applied; whether a failure since the port was last UP has been recorded; PHASE, WIDTH and, by
lane, COEF_REQ of the blocks that it sends; the laser channels that the port's width had turned off when a retrain began;
and when the module's next poll is due. -/
structure Optic where
  attemptAt : Nat := 0
  stepAt : Nat := 0
  waitAt : Nat := 0
  locked : Nat := 0
  heard : List Nat := List.replicate 8 8
  peerMirror : Bool := false
  peerNode : Nat := 0
  peerPhase : Nat := 0
  peerWidth : Nat := 0
  filter : List (Int × Int) := List.replicate 8 (0, 0)
  acks : List Nat := List.replicate 8 0
  failed : Bool := false
  phase : Nat := 0
  width : Nat := 8
  reqs : List Nat := List.replicate 8 0
  back : Nat := 0
  pollAt : Nat := 0
  deriving DecidableEq, Repr

/-- A DEFER token's table entry: its generation and whether it is in use (R235). -/
structure TokenSt where
  gen : Nat := 0
  used : Bool := false
  port : Nat := 0
  deriving DecidableEq, Repr

/-- The counter-synchronisation state of a follower (R244, R245): the number and time of its last request, the delays of
its last samples and the correction left in sixteenths of a nanosecond, when it last slewed and whether the counter
withholds its next step, how many good samples in a row it has accepted, and when it accepted the last. -/
structure Sync where
  seq : Nat := 0
  sentAt : Nat := 0
  delays : List Int := []
  slew : Int := 0
  slewAt : Nat := 0
  withhold : Bool := false
  good : Nat := 0
  acceptedAt : Nat := 0
  deriving DecidableEq, Repr

/-! ## Images and epochs (chapter 2) -/

/-- A load in progress: the source of SIT_LOAD (R47). atStart marks a start-up load (R49). -/
structure Load where
  src : Nat
  addr : Nat
  len : Nat
  atStart : Bool
  deriving DecidableEq, Repr

/-- A read of the partner's image (R484): the partner's node; what it waits for: the session's OPEN (0), a page's selection
(1), 64 bytes (2) or the session's close (3); or how it ended, read (4) or failed (5); and the bytes read. -/
structure ImageRead where
  dst : Node
  stage : Nat
  data : Bytes
  deriving DecidableEq, Repr

/-- The loader and the epoch protocol (R47 to R58). classAs is the model's own: while it serves a request that has taken its
class before, that request's tag and class (R330). -/
structure Epoch where
  load : Option Load := none
  read : Option ImageRead := none
  classAs : Option (Tag × Nat) := none
  stagedStr : Option (Structure × Bytes) := none
  stagedProg : Option (List Program × Bytes) := none
  active : ConfigSet := ConfigSet.default
  pending : Option ConfigSet := none
  old : List (Nat × ConfigSet) := []
  digests : List (Nat × Bytes) := []
  imageSections : List (Nat × Bytes) := []
  imagePrefix : Bytes := []
  timeout : Nat := 0
  launch : Nat := 0
  commit : Nat := 0
  heldNodes : List Node := []
  deriving DecidableEq, Repr

/-! ## The canopy cache (chapter 3) -/

/-- A valid line of the cache: its cluster-local line number and whether it is dirty (R70, R73). -/
structure Line where
  n : Nat
  dirty : Bool
  deriving DecidableEq, Repr

/-- Use state of a transparent page (R77, R79). -/
structure PageUse where
  counter : Nat := 0
  history : Bool := false
  hotBit : Bool := false
  deriving DecidableEq, Repr

/-- The canopy caches: lines keyed by (stack × 2²⁵ + set) × 4 + way, replacement bits keyed by stack × 2²⁵ + set, page
use keyed by page number, the time of the last decay boundary, and by stack the tag grains in the cluster store's tag
cache, most recently used first (R70). touched, serving and bypass are the model's own: while it serves a request, the lines that this
request has touched (R77), and its number; and whether the accesses under way are those of a CYCLE_EXACT kernel, which take the
BYPASS policy (R347). -/
structure Canopy where
  lines : List (Nat × Option Line) := []
  plru : List (Nat × Nat) := []
  pages : List (Nat × PageUse) := []
  decayAt : Nat := 0
  tagCache : List (Nat × List Nat) := []
  touched : Option (List Nat) := none
  serving : Option Nat := none
  bypass : Bool := false
  deriving DecidableEq, Repr

/-! ## Base caches (chapter 5) -/

/-- A PLAIN base tile in a die's base cache (R138): the tile's logical address, its WIDTH and its bytes. -/
structure BaseLine where
  key : Nat
  width : Nat
  bytes : Bytes
  deriving DecidableEq, Repr

/-! ## Integrity (chapter 16) -/

/-- One ledger record before its CRC (Table 16-3). -/
structure Record where
  count : Nat
  seq : Nat
  code : Nat
  tag : Tag
  die : Nat
  cluster : Nat
  core : Nat
  engine : Nat
  unitKind : Nat
  unit : Nat
  op : Nat
  flags : Nat
  addr : Nat
  temp : Nat
  rail : Nat
  rep : Nat
  src : Node
  detail : Bytes
  deriving DecidableEq, Repr

/-- One merge entry: the record it opened with, when, the events merged since and the last of them (R385). -/
structure Merge where
  record : Record
  openedAt : Nat
  n : Nat
  lastAt : Nat
  deriving DecidableEq, Repr

/-- A repair in progress: the grain's pool address, the copy being tried (1 home, 2 partner, 3 vault) and the work that
found it, whether the grain belongs to a stored tile whose CHECK failed (R104, R369, R370), and whether it is the understory home
of a grain that the canopy cache holds. A repair that writes nothing back, of a lost grain or one on a fenced channel (R372), keeps what
it found for the readers that wait for it: the bytes, or none for poison. -/
structure Repair where
  grain : Nat
  step : Nat
  tag : Tag
  op : Nat
  check : Bool
  home : Bool
  found : Option (Option Bytes)
  deriving DecidableEq, Repr

/-- A cluster's clearing engine (R380, R381): the grains read in the present pass, when the pass began, whether it runs at
64 times the configured rate, and whether its overrun has been recorded. -/
structure Scrub where
  done : Nat := 0
  startedAt : Nat := 0
  fast : Bool := false
  late : Bool := false
  deriving DecidableEq, Repr

/-- What the clearing engine reads next (R380): the home grain of a pool address, a grain of a canopy line, or a tag
grain. -/
inductive ScrubAt where
  | home (a : PA)
  | line (set : Nat) (way : Fin 4) (g : Fin 32)
  | tags (g : Nat)
  deriving DecidableEq, Repr

/-- A source record of a store block (R365): SRC_NODE, SRC and COUNT of the FETCH that filled it, and the block's place
in what that FETCH wrote. -/
structure SrcRec where
  node : Node
  addr : PA
  count : Nat
  off : Nat
  deriving DecidableEq, Repr

/-- The rings and tables of the integrity unit that registers do not hold: records keyed by die × 8,192 + position,
the two dies' merge entries oldest first, the
repairs, the clearing engines by cluster, what the flip mask has corrupted, the directory entries whose error has been
recorded, the port and tag of a flit that the mask has corrupted and that is not yet recorded (R389), and the units whose
fence a fault applied at the present count (R17). -/
structure Integrity where
  ring : List (Nat × Option Record) := []
  merge0 : List Merge := []
  merge1 : List Merge := []
  repairs : List Repair := []
  scrub : List (Nat × Scrub) := []
  injected : List Nat := []
  dirEcc : List Nat := []
  flitFlip : Option (Nat × Tag) := none
  faultAt : Nat := 0
  faulted : List FenceUnit := []
  deriving DecidableEq, Repr

/-! ## DRAM controllers (chapter 11) -/

/-- One entry of a bank's activate table: the row and its count; table position is list position (R277). -/
structure ActEntry where
  row : Nat
  count : Nat
  deriving DecidableEq, Repr

/-- The refresh of a bank: the row that comes next, in ascending order, and the count from which its command is due (R275). -/
structure BankRefresh where
  row : Nat := 0
  due : Nat := 0
  deriving DecidableEq, Repr

/-- What the controllers hold beside their registers: activate tables keyed by memory unit × 256 + bank, and the banks' refresh
under the same keys; by channel the grains whose reads were lately uncorrectable, each with the count (R274), and the multiple of
the normal refresh rate that it calls for (R275); the segments' training results; by unit the count and the temperature of its
last periodic update (R284); whether every unit is in self-refresh (R281); and by unit the check grains in its cache, most
recently used first (R268). Memory units 0–511 are the pseudo-channels, 64 to a stack; 512 + n is
understory channel n. -/
structure Dram where
  acts : List (Nat × List ActEntry) := []
  refresh : List (Nat × BankRefresh) := []
  rates : List (Nat × Nat) := []
  ueTimes : List (Nat × List (Nat × Nat)) := []
  updates : List (Nat × Option (Nat × Nat)) := []
  trained : List (Nat × Bool) := []
  selfRefresh : Bool := false
  checkCache : List (Nat × List Nat) := []
  /-- Units that have reported self-refresh to a reset that keeps DRAM contents (R454). -/
  reported : List Nat := []
  deriving DecidableEq, Repr

/-- One activation of a DRAM row: memory unit, bank, row, and the bank's number of rows (R277). The spec gives the raw byte
of every grain and leaves the rows to the DRAM: a request names the rows that it activated, and those that the device's own
work activated come with ROW_HAMMER_TRIGGER. -/
structure Activate where
  unit : Fin 608
  bank : Fin 256
  row : Nat
  rows : Nat
  deriving DecidableEq, Repr

/-! ## The vault (chapter 12) -/

/-- Where a segment lies: channel, target (chip enable), erase block and its place in that, counted in segments (R295). -/
structure VPlace where
  ch : Fin 32
  ce : Fin 8
  eb : Fin 16777216
  slot : Nat := 0
  deriving DecidableEq, Repr

/-- A vault page's segment: its place, its fill point, whether the page is open, and whether its map entry has been
programmed (R295, R296). -/
structure VSeg where
  place : VPlace
  fill : Nat
  open_ : Bool
  mapped : Bool
  deriving DecidableEq, Repr

/-- An erase block: its erase count, how many segments it has taken since it was erased, and whether it is retired (R297). -/
structure VBlock where
  erases : Nat := 0
  taken : Nat := 0
  retired : Bool := false
  deriving DecidableEq, Repr

/-- A target whose parameter page has been read: main bytes and erase-block main bytes (R292, R293). -/
structure VTarget where
  ch : Fin 32
  ce : Fin 8
  main : Nat
  ebMain : Nat
  deriving DecidableEq, Repr

/-- What a vault block's metadata hold beside its poison mask: the logical page and block index, the write sequence number and the
CRC-32C (R294). -/
structure VMeta where
  page : Nat
  index : Nat
  seq : W64
  crc : W32
  deriving DecidableEq, Repr

/-- A checkpoint entry's tracking (R299): the request number at its ARM, the source pages written since, the blocks of
each destination page covered since (a mask), and the VALID pages. -/
structure CkptTrack where
  armedId : Nat := 0
  written : List Nat := []
  covered : List (Nat × Nat) := []
  valid : List Nat := []
  deriving DecidableEq, Repr

/-- The vault: block data by vault-window offset, poisoned grains by number, the blocks' metadata by block number, the next write
sequence number, segments by page, erase blocks keyed by (channel × 8 + target) × 2²⁴ + block, accepted targets, each cluster's open pages keyed by cluster, most recently
appended first, writes whose data are programmed and whose map entries are not, and the checkpoint entries' tracking. -/
structure Vault where
  mem : List Host.Cell := []
  poison : List (Nat × Bool) := []
  metas : List (Nat × Option VMeta) := []
  seq : W64 := 0
  segs : List (Nat × Option VSeg) := []
  blocks : List (Nat × VBlock) := []
  targets : List VTarget := []
  opened : List (Nat × List Nat) := []
  mapWait : List Nat := []
  worn : List Nat := []
  ckpt : List (Nat × CkptTrack) := []
  deriving DecidableEq, Repr

/-- What the flash did in an access to the vault: blocks corrected; the blocks whose hard-decision decode did not pass the CRC,
each with the first read-retry level that did, 1 to 7, or 8 where none did (R294); local pages whose map block is uncorrectable;
and the places of the segments that it takes. -/
structure VaultEnv where
  corrected : List Nat := []
  levels : List (Nat × Nat) := []
  mapBad : List Nat := []
  places : List VPlace := []
  deriving DecidableEq, Repr

/-- The facts of one access that the spec leaves to time and to faults outside it: data not ready at the decision point
(R233), the regulated ports at which a transfer waited longer than its target (R338), the rows activated (R277), the
table slots and extent entries in which a read met an uncorrectable SECDED error (R133, R364), how many words it corrected by
that code, and what the flash did. -/
structure AccessEnv where
  late : Bool := false
  overTarget : List Nat := []
  acts : List Activate := []
  slotErrors : List Nat := []
  extentErrors : List Nat := []
  secded : Nat := 0
  vault : VaultEnv := {}
  deriving DecidableEq, Repr

/-- Why a cluster faults (Table 1-2, R373). -/
inductive ClusterCause where
  /-- A controller check, a teller check, or a failure of the canopy stack or port. The spec gives the record no code. -/
  | check
  /-- A tag grain was lost without a cached copy. -/
  | tagGrain (index : Nat)
  deriving DecidableEq, Repr

/-- A tile as an operand of a kernel (R135, R137, R145): where its bytes are and, for one that a FETCH or COPY has placed there
in stored form, the tile's own logical address. -/
structure TileAt where
  at_ : PA
  stored : Option PA := none
  deriving DecidableEq, Repr

/-- An operand of a K-block (R145): the tiles that hold its 32 K-rows, in order of their columns; whether they supply their
upper half; and, for an MX type, by tile its group's strip tile and its place in the group (R98). -/
structure OperandAt where
  tiles : List TileAt
  half : Bool := false
  strips : List (TileAt × Nat) := []
  deriving DecidableEq, Repr

/-- The operands of one K-block as the engine keeps them: scale bytes of A by row and of B by column, the K-rows of A in
operand-port form and the K-rows of B (Table 17-4). -/
structure BlockOps where
  aScales : Bytes
  bScales : Bytes
  aRows : List Bytes
  bRows : List Bytes
  deriving DecidableEq, Repr

/-- A block sum that an engine computed wrong: the cell, and the value mag × 2^exp that it formed. -/
structure WrongSum where
  row : Nat
  col : Nat
  mag : Int
  exp : Int
  deriving DecidableEq, Repr

/-! ## Cores (chapter 7) -/

/-- Who posted a device-queue entry (R173). -/
inductive Producer where
  /-- A partner kernel of the expert service, with its lead core (R192). -/
  | expert (lead : Nat)
  /-- A shadow entry of a core's kernel (R396). -/
  | shadow (core : Nat)
  deriving DecidableEq, Repr

/-- One device-queue entry. -/
structure DqEntry where
  uid : Nat
  desc : Bytes
  producer : Producer
  deriving DecidableEq, Repr

/-- A fetched descriptor, held under SECDED: its bytes, the ring entry's address (0 from the device queue), and which of its
eight 64-bit words read as uncorrectable, all of them where a grain was poisoned at fetch (R174, R178, R364). -/
structure Fetched where
  uid : Nat
  desc : Bytes
  addr : PA
  bad : List Nat
  producer : Option Producer
  deriving DecidableEq, Repr

/-- The vector unit's operations and functions of one and of two operands (R164, R165). -/
inductive VOp1 where
  | neg | abs | rcp | rsq | exp | silu | gelu
  deriving DecidableEq, Repr
inductive VOp2 where
  | add | sub | mul | min | max
  deriving DecidableEq, Repr

/-- One step of a kernel's code on its core. A step that forms a value adds it to the values formed before; x, y, z name
those by number. A value is a list of elements of one format. -/
inductive KStep where
  /-- n elements of memory. -/
  | read (a : PA) (fmt : NumFmt) (n : Nat)
  /-- The elements of an operand tile, through the operand expanders when it is in stored form (R137). -/
  | tile (t : TileAt) (fmt : NumFmt)
  /-- n accumulators of the engine in row-major order from a cell (R144). -/
  | accs (row col n : Nat)
  | const (fmt : NumFmt) (vs : List Nat)
  /-- The elements of a value at some places, in their order. -/
  | pick (x : Nat) (places : List Nat)
  | join (x y : Nat)
  | op1 (o : VOp1) (x : Nat)
  | op2 (o : VOp2) (x y : Nat)
  | fma (x y z : Nat)
  /-- Element by element: of the last two values the first where the comparison of x with y holds, otherwise the second. -/
  | select (c : Cmp) (x y t f : Nat)
  /-- A conversion (R155, R156). Element p has index first + ⌊p / w⌋ × cols + p mod w (R159). -/
  | convert (x : Nat) (dst : NumFmt) (first cols w : Nat)
  /-- MX quantisation of 32 rows (R160): two values, the elements and, by column, the scale bytes. -/
  | quantise (x : Nat) (dst : NumFmt) (first cols : Nat)
  /-- TRANSPOSE of a tile (R166). -/
  | transpose (x : Nat)
  /-- CLEAR of exact accumulators from a lane, ADD of a value's elements to them, MERGE of one into another, and READ of n of
  them, elements with consecutive indexes (R161 to R163). -/
  | clear (l : Fin 512) (n : Nat)
  | add (l : Fin 512) (x : Nat)
  | merge (into from_ : Fin 512)
  | readout (l : Fin 512) (n : Nat) (dst : NumFmt) (first : Nat)
  /-- A value is written from an address on, as an output. -/
  | write (a : PA) (x : Nat)
  /-- The scale bytes of data tile i of a group of tiles of C columns are written to the group's strip tile (R98). -/
  | strip (a : PA) (i c : Nat) (x : Nat)
  deriving DecidableEq, Repr

/-- A kernel's CYCLES and WAIT (R348), and whether it issued an access outside the stores (R349). -/
structure KernelTime where
  cycles : Nat := 0
  waitCycles : Nat := 0
  leftStores : Bool := false
  deriving DecidableEq, Repr

/-- What a kernel's code does between its last engine pass and its end: its steps, and the DATA_ADDR and DATA_LEN that it has
written. The code is the compiler's, so this is a fact of the run. -/
structure KernelRun where
  code : List KStep := []
  dataAddr : PA := 0
  dataLen : Nat := 0
  time : KernelTime := {}
  deriving DecidableEq, Repr

/-- What a kernel that a fault aborts had done: the ranges of output that it had written or begun to write (Table 7-5), its
CYCLES and WAIT so far, the ARITH_FLAGS that its code had collected beside its K-blocks and passes, and the DATA_ADDR and
DATA_LEN that its code had written (R184). -/
structure KernelCut where
  core : Fin 16
  touched : List (PA × Nat)
  cycles : Nat := 0
  waitCycles : Nat := 0
  flags : Nat := 0
  dataAddr : PA := 0
  dataLen : Nat := 0
  deriving DecidableEq, Repr

/-- How a kernel ends: outcome, STATUS_CODE, ARITH_FLAGS, and its result's place and DATA_CHECK (Tables 7-5, 7-6). -/
structure KernelFin where
  outcome : Nat
  code : Nat
  flags : Nat
  dataAddr : PA
  dataLen : Nat
  check : Nat
  deriving DecidableEq, Repr

/-- A residency entry as a service kernel has read it, once, at its start (R196): its index, its address and its bytes. -/
structure ExpEntry where
  index : Nat
  at_ : Nat
  bytes : Bytes
  deriving DecidableEq, Repr

/-- A lead of the expert service that waits for its partners: the barrier's generation when it posted them, the
partners whose share is lost, and its copies of its message and of its entries (R192, R194, R196). -/
structure ExpWait where
  gen : Nat
  bad : List Nat
  msg : Bytes
  entries : List ExpEntry
  deriving DecidableEq, Repr

/-- A wait of a kernel's code (R92, R181): how many ns the kernel works before it, since its start or since its last wait
ended, and the event and value that end it. -/
structure KWait where
  after : Nat
  event : Fin 4096
  value : W32
  deriving DecidableEq, Repr

/-- What a kernel's code asks of the device at its start: the waits in it (R92), and the WIDTH of the tiles that it transposes
(R166). -/
structure KCode where
  waits : List KWait := []
  transposes : List Nat := []
  deriving DecidableEq, Repr

/-- The running kernel: its descriptor and entry address, its queue, when it started, whether it armed its result slot,
whether it was late, its epoch, its snapshot of seed and step (R353), whether it runs in CYCLE_EXACT and has broken its
promise (R348, R349), its wait for its partners, the waits of its code that are left, with the ns that it has worked
towards the first, the ARITH_FLAGS of its K-blocks and passes so far (R167), whether its consumption of poison has been
reported (R377), and whether an output of a pass is poisoned. -/
structure Running where
  uid : Nat
  desc : Bytes
  addr : PA
  producer : Option Producer
  startedAt : Nat
  armed : Bool
  late : Bool
  epoch : Nat
  seedLo : W64
  seedHi : W64
  step : W64
  cx : Bool
  cxBroken : Bool
  exp : Option ExpWait
  waits : List KWait := []
  worked : Nat := 0
  flags : Nat := 0
  consumed : Bool := false
  badOut : Bool := false
  deriving DecidableEq, Repr

/-- Power state of a core's compute domain (R32, R33, R183). -/
inductive CorePower where
  | awake | clockGated | powerGated
  /-- Waking, ready at a count. -/
  | waking (readyAt : Nat)
  deriving DecidableEq, Repr

/-- A core: the fetched head of its software ring, the fetched head of its device queue, the device queue behind it, the
running kernel, the power state, since when it has been idle, and the kernel that a fault aborted last, with the count: at
that count the other of Table 6-7's faults may still be detected on it (R168); and which of the engine's accumulators, by row
× 512 + column, and of the exact accumulators, by lane, depend on poison (R167). -/
structure CoreSt where
  sw : Option Fetched := none
  dqHead : Option Fetched := none
  dq : List DqEntry := []
  running : Option Running := none
  power : CorePower := .awake
  idleSince : Nat := 0
  cut : Option (Running × Nat) := none
  accBad : List (Nat × Bool) := []
  exactBad : List (Nat × Bool) := []
  deriving DecidableEq, Repr

/-! ## Stream plans (chapter 3) -/

/-- An issued FETCH step that has not completed (R91): its number, its step, its source address with the strides of the
repeats, and, for a remote source, the bytes of the source asked for and arrived; for remote tiles the locators of those
that have arrived, and the grain of the destination at which the next begins. -/
structure FetchStep where
  no : Nat
  step : Nat
  src : PA
  asked : Nat
  got : Nat
  locs : Bytes := []
  grains : Nat := 0
  deriving DecidableEq, Repr

/-- A running stream plan: its number, identifier, program and cluster, the next step to issue, the repeats left of the
REPEAT steps under way, the stride that each FETCH step has gathered, and the FETCH steps not complete, oldest first. -/
structure Plan where
  uid : Nat
  id : Nat
  cluster : Nat
  bytes : Bytes
  next : Nat
  repeats : List (Nat × Nat)
  strides : List (Nat × Int)
  issued : List FetchStep
  /-- The epoch in which it started (R56). -/
  epoch : Nat
  deriving DecidableEq, Repr

/-- A stall of a core's kernel on an event, with the count at which it began and whether its notice has been sent (R92 to
R94). -/
structure Stall where
  core : Nat
  event : Nat
  since : Nat
  told : Bool
  deriving DecidableEq, Repr

/-! ## Silent errors and field test (chapter 17) -/

/-- A shadowed kernel: the original's core and number, the shadow's core, whether the kernel came from the device queue, when the entry
was posted, whether the shadow has taken it, whether the comparison goes on, and, for a diagnosis run, its suspect entry
and what it has found: whether a lane of engine A failed again in the entry's block, whether a block was captured, and
the pass CRCs Yᴬ and Yᵀ (R396 to R400). -/
structure Shadow where
  core : Nat
  uid : Nat
  shadow : Nat
  fromDq : Bool
  postedAt : Nat
  taken : Bool
  checked : Bool
  diag : Option Nat
  laneAgain : Bool
  captured : Bool
  passCrc : Option (Nat × Nat)
  startedAt : Nat
  /-- What the kernel's code asks for at its start. -/
  code : KCode
  deriving DecidableEq, Repr

/-- A field test PENDING or TESTING: its core, stop index, the counts at GO and at its start (R405), and the shelf pages
and pattern count of the set that it uses, taken at its start (R404). -/
structure FieldTest where
  core : Nat
  stop : Nat
  goAt : Nat
  startedAt : Nat
  setId : Nat
  pages : List Nat
  patterns : Nat
  deriving DecidableEq, Repr

/-- A set's body on the shelf: its entry, the vault pages that hold it in order, and its length and digest (R404). -/
structure ShelfBody where
  set : Nat
  pages : List Nat
  len : Nat
  digest : Bytes
  deriving DecidableEq, Repr

/-- The silent-fault mechanisms: SEL and SH of each core, shadows, field tests, shelf bodies, whether QUAR_FULL has been
written since HEAD moved, and the kernels whose shadow entry was withdrawn before they could start: they run unshadowed. -/
structure Silent where
  sel : List (Nat × Nat) := []
  sh : List (Nat × Nat) := []
  shadows : List Shadow := []
  tests : List FieldTest := []
  bodies : List ShelfBody := []
  quarFull : Bool := false
  unshadowed : List Nat := []
  deriving DecidableEq, Repr

/-! ## The pair (chapter 18) -/

/-- A write of the pair: its place in the mirror sequence once it has one, its bytes and poisoned grains, and what waits
for it: an open request, a pool operation, or the end of a page's copy (R417, R429). -/
structure PairWrite where
  id : Nat
  seq : Option Nat
  a : PA
  data : Bytes
  mask : List Nat
  tag : Tag
  alone : Bool
  openId : Option Nat
  op : Option Nat
  lastOf : Option Nat
  /-- This side accepted it and the senior has given it its place. -/
  own : Bool
  /-- Applying it here left a tile unchanged, because its share is full (R88). -/
  full : Bool
  deriving DecidableEq, Repr

/-- A comparison that waits for the partner's value (R421): the core, the key, the own value, since when, and how the
kernel ends. -/
structure Compare where
  core : Nat
  uid : Nat
  slot : Nat
  tensor : Nat
  step : Nat
  value : Nat
  since : Nat
  fin : KernelFin
  deriving DecidableEq, Repr

/-- A check value that arrived before the own one: its key and value. -/
structure EarlyCheck where
  slot : Nat
  tensor : Nat
  step : Nat
  value : Nat
  deriving DecidableEq, Repr

/-- The pair: the next sequence number the senior gives and the next that this side applies; forwarded writes that the
other side has not accepted, or whose place this side waits for; sequenced writes that wait their turn; the dirty map by
space × 2³¹ + page; the pages of this side that a copy is to bring; the state before FORMING; when a heartbeat last
came, when HELD was entered and when a formation was last tried; comparisons; and how many bytes of the lowest dirty page
have been copied. -/
structure Pair where
  nextSeq : Nat := 0
  applied : Nat := 0
  out : List PairWrite := []
  inbox : List PairWrite := []
  dirty : List Nat := []
  await : List Nat := []
  before : Nat := 0
  heardAt : Nat := 0
  heldAt : Nat := 0
  formedAt : Nat := 0
  beatAt : Nat := 0
  pieceAt : Nat := 0
  compares : List Compare := []
  early : List EarlyCheck := []
  copied : Nat := 0
  deriving DecidableEq, Repr

/-! ## The pool (chapter 13) -/

/-- A slot of a versioned region: state 0 FREE, 1 DRAFT, 2 PUBLISHED, 3 RETAINED (R320); copying marks a VCOPY copy in
progress (R323). -/
structure VerSlot where
  state : Nat := 0
  version : Nat := 0
  owner : Node := 0
  opens : Nat := 0
  copying : Bool := false
  deriving DecidableEq, Repr

/-- A limiter's bucket: a signed byte count (R312). -/
structure Bucket where
  bytes : Int := 0
  deriving DecidableEq, Repr

/-- The result that an operation will report (Table 13-5). -/
structure PoolResult where
  status : Nat
  detail : Nat
  value : Nat
  slotAddr : Nat
  slotInfo : Nat
  deriving DecidableEq, Repr

/-- A pool operation accepted and not yet ended: its descriptor, its source, the request it answers (none for the host
driver's), whether it has started, and its result once its effects are made (R314 to R319). An operation that has started and has no
result yet waits for what it reads. -/
structure PoolOp where
  id : Nat
  desc : Bytes
  src : Node
  host : Bool
  replicated : Bool
  acceptedAt : Nat
  epoch : Nat
  started : Bool
  copying : Bool
  result : Option PoolResult
  /-- Its destination writes, or its record, have gone to the partner (R416, R424). -/
  forwarded : Bool
  /-- The ranges that its descriptor does not name, found at its start: the sources of a REDUCE, or the base slot and the draft
  of a VDRAFT with VCOPY (R315, R323). -/
  lists : List (PA × Nat) := []
  /-- The snapshot of its tag's seed and step counter, taken at its start (R353). -/
  seedLo : W64 := 0
  seedHi : W64 := 0
  step : W64 := 0
  deriving DecidableEq, Repr

/-- An extent's drain: the entry, when it began, the number the next request had then, whether its timeout has passed,
and its three counts (R325, Table 13-7). -/
structure Drain where
  entry : Nat
  t0 : Nat
  mark : Nat
  timedOut : Bool
  completed : Nat
  ended : Nat
  refused : Nat
  deriving DecidableEq, Repr

/-- The pool: operations in order of acceptance, version slots keyed by region identifier × 16 + slot, limiter buckets
by table index (1,024 is the shared bucket), drains, and the reduce units' exact accumulators keyed by cluster × 2,048 +
their number (R161); and up to which microsecond of global count the buckets have been refilled (R312). -/
structure Pool where
  accs : List (Nat × ExactAcc) := []
  ops : List PoolOp := []
  vers : List (Nat × VerSlot) := []
  buckets : List (Nat × Bucket) := []
  drains : List Drain := []
  refilled : Nat := 0
  deriving DecidableEq, Repr

/-! ## Table slots (chapter 5) -/

/-- An install in progress: what the slot takes when it ends, and the state it goes back to when a reset intervenes
(R133, R136). -/
structure SlotInstall where
  slot : Nat
  gen : Nat
  planes : Nat
  xor : Bool
  lock : Option Bool
  tables : Bytes
  prev : Nat
  deriving DecidableEq, Repr

/-- The fields of a write to DET_SLOT_RESTORE with GO = 1 (R359). -/
structure SlotRestore where
  slot : Fin 64
  gen : Byte
  planes : Fin 8
  xor : Bool
  lock : Bool
  retired : Bool
  deriving DecidableEq, Repr

/-- How a job's tile was left out: for poison with the address of the first poisoned grain, for a failed decode, or as an
EMPTY source (R130). -/
inductive Skip where
  | poison (a : PA) (base : Bool)
  | failed
  | empty
  deriving DecidableEq, Repr

/-- A mint job: its number, descriptor and ring entry; whether it has started; the slot it reserves; whether it is in pass 1;
the tiles that its pass has still to do, and whether it has begun to read the first of them and waits; pass 1's counts; the
base tile that it has read last in its pass, by base index, with its bytes when they are good (R122); the tiles skipped; its counts; whether its descriptor was poisoned; and how
it ended: DONE and STATUS_CODE (R125 to R130). -/
structure MintJob where
  id : Nat
  desc : Bytes
  entry : PA
  index : Nat
  started : Bool := false
  slot : Option Nat := none
  inPass1 : Bool := false
  todo : List Nat := []
  reading : Bool := false
  counts : List (List Nat) := []
  base : Option (Nat × Option Bytes) := none
  skipped : List (Nat × Skip) := []
  tilesDone : Nat := 0
  tilesRaw : Nat := 0
  installed : Bool := false
  trusted : Bool := true
  ended : Option (Nat × Nat) := none
  deriving DecidableEq, Repr

/-- The mint: jobs in ring order; the drain sets of DRAINING slots, each a list of kernel and job numbers (R134); and
what each tile holds of its share as the device last wrote its directory entry, by the tile's logical address: STATE,
LOC and GRAINS; and what stays taken because an unreadable entry named it, by region × 8 + cluster (R86, R376). -/
structure Mint where
  jobs : List MintJob := []
  drainSets : List (Nat × List Nat) := []
  alloc : List (Nat × Option (Nat × Nat × Nat)) := []
  leaks : List (Nat × Nat × Nat × Nat) := []
  deriving DecidableEq, Repr

/-! ## Clocks (R10, R349, R350, R470) -/

/-- The clocks of the two dies in MHz, and the pins (engine, fabric) at which each die's clocks have settled. -/
structure Clocks where
  engine0 : Nat := 0
  engine1 : Nat := 0
  fabric0 : Nat := 0
  fabric1 : Nat := 0
  pins0 : Nat × Nat := (0, 0)
  pins1 : Nat × Nat := (0, 0)
  deriving DecidableEq, Repr

/-! ## Regulation (chapter 14) -/

/-- A class's state at a regulated port: its token bucket, the four tallies of Table 14-8, the sums of the present
guarantee window (R336, R340). -/
structure Teller where
  bucket : Int := 0
  bytes : W64 := 0
  beBytes : W64 := 0
  misses : W64 := 0
  latMiss : W64 := 0
  windowB : Nat := 0
  windowS : Nat := 0
  deriving DecidableEq, Repr

/-- The tellers: state keyed by port × 64 + class, and the last report of each port, class and cause (R341), keyed by
(port × 256 + class) × 4 + cause, as the count plus 1; and the counts, plus 1, of the last refill and of the end of the last
guarantee window, each of which comes once at its count (R336, R340). -/
structure Tellers where
  st : List (Nat × Teller) := []
  reported : List (Nat × Nat) := []
  refilledAt : Nat := 0
  windowAt : Nat := 0
  deriving DecidableEq, Repr

/-! ## Reset and start-up (chapter 20) -/

/-- The security fuses and the serial number as read from the fuse array (Table 21-2): the four KEY_HASH digests, the
PROGRAMMED and REVOKED masks, the blown bits of MIN_SEC, ID_PUB and SERIAL. -/
structure Fuses where
  keyHash : List Bytes
  programmed : Nat
  revoked : Nat
  minSec : Nat
  idPub : Bytes
  serial : W64
  deriving DecidableEq, Repr

/-- A block reset in progress: its kind, its unit and when it began (R460). -/
structure BlkReset where
  kind : Nat
  unit : Nat
  since : Nat
  deriving DecidableEq, Repr

/-- What the always-on domain holds beside its registers: the pins taken low; the end of a thermal hold; since when a reset
that keeps DRAM contents waits for the controllers; whether the attempt keeps DRAM contents; when the present step began;
the block reset in progress; why the regulator lowered clocks (die × 4 + 0 for the engines' power, 1 for the package's, 2
for heat); the changes in force until a COLD reset (units at reduced speed and units fenced before a
step, keyed as in DUnit.key, with vault channels from 104; clocks at reduced speed); the units whose contents a reset that
keeps DRAM contents has lost; the records of steps 1 to 8; and the image bytes read so far. -/
structure Boot where
  perst : Bool := false
  hrst : Bool := false
  holdUntil : Option Nat := none
  shake : Option Nat := none
  keep : Bool := false
  restart : Bool := false
  stepAt : Nat := 0
  blk : Option BlkReset := none
  lowered : List Nat := []
  regulatedAt : Nat := 0
  slow : List Nat := []
  fenceFirst : List (Nat × Nat) := []
  slowClk : Bool := false
  bridgeSlow : Bool := false
  pcie32 : Bool := false
  lossy : List Nat := []
  early : List Record := []
  image : Bytes := []
  imageBad : List Nat := []
  /-- Step 13 has released the pins of modules 16 and 17, the source being the partner (R458, Table 20-4). -/
  lsrEarly : Bool := false
  deriving DecidableEq, Repr

/-- The pin groups of R458, Table 20-4 and R504: HRST_N, PERST# and the straps; the others by their names. -/
inductive PinGroup
  | inputs | i3c | pcie | bootNor | laser (module : Nat) | understory | vault | trst | xtal | regulators | tdo
  deriving DecidableEq, Repr

/-- What the device holds a group of pins with: a weak pull-up or pull-down, neither of them, high impedance, the select or
the chip enables inactive, the understory's command and reset pins holding self-refresh, or its own drivers (R458). -/
inductive PinDrive
  | pullUp | pullDown | none | highZ | inactive | selfRefresh | driven
  deriving DecidableEq, Repr

/-- A vault target's parameter page as read (R292): main and spare bytes of a page, main bytes of an erase block and of
the target. -/
structure VParam where
  ch : Fin 32
  ce : Fin 8
  page : Nat
  spare : Nat
  ebMain : Nat
  main : Nat
  deriving DecidableEq, Repr

/-- What the surroundings give a start-up step: the fuse array and the number of loads of it that failed (step 2), the
checkers that failed, as bits of LDG_SELFTEST (step 10), the image's bytes, its unreadable grains and the serving partner
(steps 13 and 14), the units that trained in full after a reset that keeps DRAM contents (steps 17 and 18, keyed as in
DUnit.key), the densities as read, as channel and GiB (step 18), and the vault's parameter pages (step
22). -/
structure StartEnv where
  fuses : Fuses := ⟨[], 0, 0, 0, [], 0⟩
  badLoads : Nat := 0
  failedCheckers : Nat := 0
  image : Bytes := []
  imageBad : List Nat := []
  fullTrain : List Nat := []
  densities : List (Fin 96 × Nat) := []
  params : List VParam := []
  deriving DecidableEq, Repr

/-- What the regulator measures (R470): the engines' power of each die, the canopy's and the package's in W, the hottest
sensor of each die in quarter °C, and the stacks over their budget. -/
structure PowerEnv where
  engine0 : Nat
  engine1 : Nat
  canopy : Nat
  package : Nat
  hot0 : Int
  hot1 : Int
  above : List (Fin 8)
  deriving DecidableEq, Repr

/-! ## Management (chapter 21) -/

/-- The fuse command that waits for its confirmation: OP, VALUE and when it was armed (R480). -/
structure FuseArm where
  op : Nat
  value : Nat
  at_ : Nat
  deriving DecidableEq, Repr

/-- An attestation report under way: its destination and the bytes of its snapshot (R486). -/
structure Report where
  addr : PA
  bytes : Bytes
  deriving DecidableEq, Repr

/-- Common command codes that the I3C target supports, with their operands (R487): direct ENEC and DISEC with the IBI bit,
the address that the controller assigns, and GETPID, GETBCR, GETDCR, GETSTATUS, GETMXDS and RSTACT. -/
inductive I3cCode where
  | enec (ibi : Bool)
  | disec (ibi : Bool)
  | rstdaa
  | entdaa (addr : Fin 128)
  | setdasa (static addr : Fin 128)
  | getpid
  | getbcr
  | getdcr
  | getstatus
  | getmxds
  | rstact (action : Byte)
  deriving DecidableEq, Repr

/-- The management domain and its stores: the fuse array as read, the firmware store, when the watchdog was last restarted,
the fuse command armed, whether a NOR update runs, the bytes of the boot NOR from its offset 0 (none once they are undefined:
norGen then numbers them), when the open image session was last accessed, the report under way, and the I3C target: the selected index, whether IBI is enabled, whether one is pending and
its dynamic address. -/
structure Mgmt where
  fuses : Option Fuses := none
  fwStore : Bytes := []
  wdogAt : Nat := 0
  fuseArm : Option FuseArm := none
  norUpdate : Bool := false
  nor : Option Bytes := none
  norGen : Nat := 0
  sessionAt : Nat := 0
  report : Option Report := none
  i3cIndex : Nat := 0
  ibiEnabled : Bool := false
  ibiPending : Bool := false
  i3cAddr : Nat := 0
  deriving DecidableEq, Repr

/-! ## Registers (R36) -/

/-- The part of a register that an access addresses: all of it, or a half by a 4-byte access. -/
inductive RegPart where
  | whole | low | high
  deriving DecidableEq, Repr

/-! ## Host endpoint (chapter 19) -/

/-- One MSI-X table entry. -/
structure MsixEntry where
  addr : W64 := 0
  data : W32 := 0
  masked : Bool := true
  deriving DecidableEq, Repr

/-- A DMA channel: the descriptor in progress, how many of its bytes have moved, the length of the piece that is at the
pool, whether it goes on grain by grain, whether a poisoned grain has been met, the status that the descriptor ends with, and the ring entries whose ABORTED
statuses are still to be written (R444, R447). -/
structure DmaChan where
  desc : Option Bytes := none
  moved : Nat := 0
  piece : Nat := 0
  fine : Bool := false
  poison : Bool := false
  ended : Option Nat := none
  aborted : List Nat := []
  deriving DecidableEq, Repr

/-- One HDM decoder: base and size of its host range, the interleave ways and granularity as log2, its position among the
ways, the DPA at which it starts, whether it is committed and whether its last commit was rejected (R442). -/
structure HdmDecoder where
  base : Nat := 0
  size : Nat := 0
  ways : Nat := 0
  gran : Nat := 0
  place : Nat := 0
  dpa : Nat := 0
  committed : Bool := false
  rejected : Bool := false
  deriving DecidableEq, Repr

/-- A configuration request: a read of four bytes of the configuration space, a write of bytes of the Type 0 header, and
the controls of the capabilities that the endpoint implements: Link Control, Device Control with a function-level reset,
MSI-X and power management (R434, R436). -/
inductive CfgAccess where
  | read (off : Fin 4096)
  | write (off : Fin 4096) (bytes : Bytes)
  | linkControl (aspmL1 l11 : Bool)
  | deviceControl (relaxed flr : Bool)
  | msixControl (enable mask : Bool)
  | powerControl (d3hot : Bool)
  deriving DecidableEq, Repr

/-- Endpoint reset kinds (R448). -/
inductive EndpointKind where
  | flr | hotReset | linkDown
  deriving DecidableEq, Repr

/-- The BARs of Table 19-3. -/
inductive Bar where
  | bar0 | bar2 | bar4 | rom
  deriving DecidableEq, Repr

/-- The endpoint beside its registers: the written bytes of the configuration header, the enables of its capabilities
(ASPM L1, L1.1, relaxed ordering, MSI-X, the function mask), the MSI-X table, the DMA channels, the HDM decoders, the
requests translated by the window set that a commit has replaced, the resource table's GENERATION, whether the pool fields
are valid, whether the endpoint is held in link down, when PEP_WR_DROP was last written, as the count plus 1, and the lanes
that the link trained with, divided by 4. -/
structure Pep where
  config : List (Nat × Byte) := []
  aspmL1 : Bool := false
  l11 : Bool := false
  relaxed : Bool := false
  msixEn : Bool := false
  msixMask : Bool := false
  msix : List (Nat × MsixEntry) := []
  dma : List (Nat × DmaChan) := []
  hdm : List HdmDecoder := List.replicate 4 {}
  oldWindow : List Nat := []
  generation : Nat := 0
  poolValid : Bool := false
  heldDown : Bool := false
  writeDropAt : Nat := 0
  lanes : Nat := 0
  deriving DecidableEq, Repr

/-! ## Boundary scan (R503) -/

/-- An operation of the test access port: TRST_N goes low, or rising edges of TCK, each with TMS and TDI, while the balls
have some levels. -/
inductive TapOp where
  | reset
  | clocks (edges : List (Bool × Bool)) (balls : List Bool)
  deriving DecidableEq, Repr

/-- The test access port: its controller state, numbered as in tapNext, and the scan register. -/
structure Tap where
  state : Nat := 0
  scan : List Bool := []
  deriving DecidableEq, Repr

end Sys2Proof.Machine
end

