-- ==== Sys2Proof/Syntax.lean ====
section
/-! DEFINITION. The commands of the block: one constructor per row of the operation table, with the row's rule. An
operand is either what the row's request or register names, or a fact of the surroundings that the spec leaves to them:
a sensor's reading, a frame received, what the flash or a kernel did. -/

namespace Sys2Proof

open Sys2Proof.Machine

/-- A command. -/
inductive Instr where
  /-- REGISTER_WRITE (R7). -/
  | registerWrite (src : Node) (off : Fin 268435456) (part : RegPart) (v : W64) (tag : Tag) (host : Bool)
  /-- OPERAND_PARITY (R168). -/
  | operandParity (cut : KernelCut)
  /-- SEQ_FAULT (R15). -/
  | seqFault (cut : KernelCut)
  /-- CLUSTER_FAULT (R15). -/
  | clusterFault (c : Fin 8) (why : ClusterCause) (cuts : List KernelCut)
  /-- DIE_FAULT (R15). -/
  | dieFault (d : Fin 2) (cuts : List KernelCut)
  /-- BRIDGE_FAILURE (R19). -/
  | bridgeFailure (cuts : List KernelCut)
  /-- CORE_WAKE (R183). -/
  | coreWake (n : Fin 16)
  /-- CORE_READY (R33). -/
  | coreReady (n : Fin 16)
  /-- CORE_GATE (R183). -/
  | coreGate (n : Fin 16)
  /-- SIT_LOAD (R51). -/
  | sitLoad (src : Fin 4)
  /-- IMAGE_LOAD_END (R47). -/
  | imageLoadEnd (img : Bytes) (bad : List Nat) (env : VaultEnv)
  /-- EPOCH_GO (R55). -/
  | epochGo
  /-- EPOCH_ABANDON (R55). -/
  | epochAbandon
  /-- EPOCH_LAUNCH (R53). -/
  | epochLaunch
  /-- EPOCH_ACK (R53). -/
  | epochAck (unit : Fin 47)
  /-- EPOCH_REFUSAL (R53). -/
  | epochRefusal (unit : Fin 47)
  /-- EPOCH_COMMIT (R53). -/
  | epochCommit
  /-- EPOCH_TIMEOUT (R53). -/
  | epochTimeout
  /-- OLD_SET_RELEASE (R56). -/
  | oldSetRelease
  /-- JX_RD (R223). -/
  | jxRd (q : Req) (env : AccessEnv)
  /-- JX_WR (R223). -/
  | jxWr (q : Req) (env : AccessEnv)
  /-- JX_FLUSH (R239). -/
  | jxFlush (q : Req)
  /-- CREQ (R225). -/
  | creq (write : Bool) (q : Req)
  /-- CANOPY_WB (R74). -/
  | canopyWb (c : Fin 8)
  /-- CANOPY_INV (R74). -/
  | canopyInv (c : Fin 8)
  /-- CANOPY_DRAIN_SET (R74). -/
  | canopyDrainSet (c : Fin 8)
  /-- CANOPY_DRAIN_CLEAR (R74). -/
  | canopyDrainClear (c : Fin 8)
  /-- CANOPY_WB_DONE (R74). -/
  | canopyWbDone (c : Fin 8)
  /-- CANOPY_DRAINED (R74). -/
  | canopyDrained (c : Fin 8)
  /-- DECAY_BOUNDARY (R78). -/
  | decayBoundary
  /-- WRITE_EXPAND_DONE (R86). -/
  | writeExpandDone (id : Nat) (env : AccessEnv)
  /-- CORE_PLAN_START (R189). -/
  | corePlanStart (n : Fin 16) (id : W32)
  /-- STREAM_STEP_ISSUE (R91). -/
  | streamStepIssue (plan : Nat)
  /-- FETCH_DONE (R91). -/
  | fetchDone (plan : Nat) (no : Nat) (env : VaultEnv)
  /-- STALL_TIMEOUT (R94). -/
  | stallTimeout (core : Fin 16)
  /-- MINT_JOB_FETCH (R127). -/
  | mintJobFetch
  /-- MINT_COMPRESS (R126). -/
  | mintCompress
  /-- MINT_ENCODE (R126). -/
  | mintEncode
  /-- MINT_BUILD (R126). -/
  | mintBuild
  /-- MINT_DECODE (R126). -/
  | mintDecode
  /-- MINT_RELEASE (R126). -/
  | mintRelease
  /-- MINT_PASS1_END (R123). -/
  | mintPass1End (id : Nat)
  /-- MINT_JOB_END (R130). -/
  | mintJobEnd (id : Nat)
  /-- SLOT_LOCK (R136). -/
  | slotLock (i : Fin 64)
  /-- SLOT_UNLOCK (R136). -/
  | slotUnlock (i : Fin 64)
  /-- SLOT_RETIRE (R134). -/
  | slotRetire (i : Fin 64)
  /-- SLOT_ACTIVATE (R134). -/
  | slotActivate (i : Fin 64)
  /-- SLOT_INSTALL (R133). -/
  | slotInstall (i : Fin 64) (planes : Fin 8) (xor : Bool)
  /-- SLOT_CLEAR (R136). -/
  | slotClear (i : Fin 64)
  /-- SLOT_CMD_RESERVED (R136). -/
  | slotCmdReserved (i : Fin 64) (seven : Bool)
  /-- SLOT_INSTALL_DONE (R133). -/
  | slotInstallDone (i : Fin 64)
  /-- DRAIN_SET_EMPTY (R134). -/
  | drainSetEmpty (i : Fin 64)
  /-- DESC_FETCH (R174). -/
  | descFetch (n : Fin 16) (fromDq : Bool)
  /-- KERNEL_START (R175). -/
  | kernelStart (n : Fin 16) (code : KCode) (ecc : List (Bool × Fin 8))
  /-- KERNEL_END (R179). -/
  | kernelEnd (n : Fin 16) (run : KernelRun)
  /-- EVENT_SET (R181). -/
  | eventSet (i : Fin 4096) (v : W32)
  /-- EVENT_ADD (R181). -/
  | eventAdd (i : Fin 4096) (n : W32)
  /-- EVENT_DEC (R181). -/
  | eventDec (i : Fin 4096) (n : W32)
  /-- BARRIER_ARRIVE (R182). -/
  | barrierArrive (b : Fin 64) (tag : Tag)
  /-- SLOT_RELEASE (R185). -/
  | slotRelease (n : Fin 4096) (seq : W32)
  /-- EXP_FWD (R203). -/
  | expFwd (n : Fin 16) (plans : List (Nat × Nat)) (time : KernelTime)
  /-- EXP_BWD (R205). -/
  | expBwd (n : Fin 16) (plans : List (Nat × Nat)) (time : KernelTime)
  /-- EXP_CLOSE (R208). -/
  | expClose (n : Fin 16) (plans : List (Nat × Nat)) (time : KernelTime)
  /-- EXP_GROUP_COMBINE (R192). -/
  | expGroupCombine (n : Fin 16) (time : KernelTime)
  /-- FLIT_RX (R231). -/
  | flitRx (p : Fin 18) (lanes : List (List (Fin 4)))
  /-- BAD_FLIT (R231). -/
  | badFlit (p : Fin 18)
  /-- LINK_INIT (R230). -/
  | linkInit (p : Fin 18) (seen : Bool) (req : W16) (rsp : W16) (ntc : W16) (ctl : W16)
  /-- REPLAY_RX (R231). -/
  | replayRx (p : Fin 18) (start : Fin 1024) (header : W64)
  /-- INIT_TIMER (R230). -/
  | initTimer (p : Fin 18)
  /-- REPLAY_TIMER (R231). -/
  | replayTimer (p : Fin 18)
  /-- ACK_TIMER (R231). -/
  | ackTimer (p : Fin 18)
  /-- CREDIT_TIMER (R227). -/
  | creditTimer (p : Fin 18)
  /-- RETRAIN (R232). -/
  | retrain (p : Fin 18)
  /-- DEFER_DECISION (R233). -/
  | deferDecision (id : Nat)
  /-- DEFER_COMPLETE (R236). -/
  | deferComplete (id : Nat) (env : AccessEnv)
  /-- RESPONSE_RX (R243). -/
  | responseRx (p : Fin 18) (src : Node) (txn : W16) (status : Fin 16) (token : W32) (mask : W32) (data : Bytes)
  /-- COMPLETION_RX (R236). -/
  | completionRx (p : Fin 18) (src : Node) (txn : W16) (token : W32) (status : Fin 16) (mask : W32) (data : Bytes)
  /-- OWN_REQ_TIMEOUT (R243). -/
  | ownReqTimeout (txn : W16)
  /-- OWN_DEFER_TIMEOUT (R243). -/
  | ownDeferTimeout (txn : W16)
  /-- SYNC_REQUEST (R244). -/
  | syncRequest (src : Node) (t1 : W64) (t2 : W64) (t3 : W64) (seq : W64)
  /-- SYNC_REPLY (R245). -/
  | syncReply (p : Fin 18) (t1 : W64) (t2 : W64) (t3 : W64) (t4 : W64) (seq : W64)
  /-- SYNC_INTERVAL (R244). -/
  | syncInterval
  /-- SYNC_SLEW (R245). -/
  | syncSlew
  /-- TRAINING_BLOCK_RX (R254). -/
  | trainingBlockRx (e : Fin 18) (lane : Fin 8) (block : Bytes)
  /-- TRAIN_LASER (R255). -/
  | trainLaser (e : Fin 18)
  /-- TRAIN_SIGNAL (R255). -/
  | trainSignal (e : Fin 18) (locked : Byte)
  /-- TRAIN_EQUALISE (R255). -/
  | trainEqualise (e : Fin 18)
  /-- TRAIN_MAP (R255). -/
  | trainMap (e : Fin 18)
  /-- TRAIN_VERIFY (R255). -/
  | trainVerify (e : Fin 18) (failed : List Nat)
  /-- TRAIN_WIDTH (R256). -/
  | trainWidth (e : Fin 18)
  /-- TRAIN_STEP_LIMIT (R255). -/
  | trainStepLimit (e : Fin 18)
  /-- TRAIN_ATTEMPT_TIMEOUT (R255). -/
  | trainAttemptTimeout (e : Fin 18)
  /-- TRAIN_RETRY (R257). -/
  | trainRetry (e : Fin 18)
  /-- LASER_POLL (R252). -/
  | laserPoll (e : Fin 18) (temp : W16) (alarm : Byte) (power : W64)
  /-- LASER_PRESENT_CHANGE (R253). -/
  | laserPresentChange (e : Fin 18) (there : Bool)
  /-- LASER_RESET (R262). -/
  | laserReset (e : Fin 18)
  /-- OPT_LASER_ENABLE (R262). -/
  | optLaserEnable (e : Fin 18) (on : Bool)
  /-- REFRESH_TICK (R275). -/
  | refreshTick (u : Fin 608) (bank : Fin 256) (rows : Fin 262145)
  /-- ROW_HAMMER_TRIGGER (R278). -/
  | rowHammerTrigger (u : Fin 608) (bank : Fin 256) (rows : Fin 262145) (acts : List (Fin 262144))
  /-- RFM_COMMAND (R276). -/
  | rfmCommand (u : Fin 608) (bank : Fin 256)
  /-- THERMAL_LEVEL_CHANGE (R285). -/
  | thermalLevelChange (u : Fin 104) (t : Int) (rate : Fin 17)
  /-- PERIODIC_UPDATE (R284). -/
  | periodicUpdate (u : Fin 104) (ok : Bool) (again : Bool)
  /-- DRAM_CHANNEL_FENCED (R274). -/
  | dramChannelFenced (n : Fin 96) (cause : Fin 4) (density : Fin 256)
  /-- VAULT_READ_DONE (R294). -/
  | vaultReadDone (id : Nat) (env : VaultEnv)
  /-- VAULT_WRITE_DONE (R296). -/
  | vaultWriteDone (id : Nat) (env : VaultEnv)
  /-- VAULT_MAP_FLUSH (R296). -/
  | vaultMapFlush (c : Fin 8)
  /-- VAULT_PATROL (R298). -/
  | vaultPatrol (p : Fin 2147483648) (env : VaultEnv)
  /-- GARBAGE_COLLECTION (R297). -/
  | garbageCollection (c : Fin 8) (places : List VPlace)
  /-- STATIC_LEVELLING (R297). -/
  | staticLevelling (ch : Fin 32) (ce : Fin 8) (places : List VPlace)
  /-- VAULT_PROGRAM (R297). -/
  | vaultProgram (x : VPlace) (places : List VPlace)
  /-- CKPT_ARM (R299). -/
  | ckptArm (i : Fin 64)
  /-- CKPT_MARK (R299). -/
  | ckptMark (i : Fin 64)
  /-- CKPT_CLEAR (R299). -/
  | ckptClear (i : Fin 64)
  /-- POOL_DOOR (R314). -/
  | poolDoor (byCreq : Bool) (q : Req)
  /-- POOL_HOST_GO (R314). -/
  | poolHostGo
  /-- FILL (R316). -/
  | fill (id : Nat) (env : VaultEnv)
  /-- COPY (R316). -/
  | copy (id : Nat) (env : VaultEnv)
  /-- CMP (R316). -/
  | cmp (id : Nat) (env : VaultEnv)
  /-- REDUCE_SUM (R317). -/
  | reduceSum (id : Nat) (env : VaultEnv)
  /-- REDUCE_ACCUMULATE (R317). -/
  | reduceAccumulate (id : Nat) (env : VaultEnv)
  /-- REDUCE_READOUT (R317). -/
  | reduceReadout (id : Nat) (env : VaultEnv)
  /-- POOL_OP_END (R319). -/
  | poolOpEnd (id : Nat) (partner : Option Bytes)
  /-- VOPEN (R323). -/
  | vopen (id : Nat)
  /-- VCLOSE (R323). -/
  | vclose (id : Nat)
  /-- VDRAFT (R323). -/
  | vdraft (id : Nat)
  /-- VDRAFT_COPY_DONE (R323). -/
  | vdraftCopyDone (id : Nat) (env : VaultEnv)
  /-- VPUBLISH (R323). -/
  | vpublish (id : Nat)
  /-- VRELEASE (R323). -/
  | vrelease (id : Nat)
  /-- POOL_VER_RESET (R324). -/
  | poolVerReset (region : W16) (slot : Fin 16)
  /-- GRANT (R309). -/
  | grant (i : Fin 16384) (space : Fin 4) (base : Fin 16777216) (rw : Byte) (ro : Byte)
  /-- EXTENT_REVOKE (R325). -/
  | extentRevoke (i : Fin 16384)
  /-- REVOKE_DRAIN_TIMEOUT (R325). -/
  | revokeDrainTimeout (i : Fin 16384)
  /-- EXTENT_FREE (R325). -/
  | extentFree (i : Fin 16384)
  /-- LIMITER_REFILL (R312). -/
  | limiterRefill
  /-- TELLER_REFILL (R336). -/
  | tellerRefill
  /-- GUARANTEE_WINDOW (R340). -/
  | guaranteeWindow (backlogged : List (Nat × Nat))
  /-- SCALE_UPDATE (R339). -/
  | scaleUpdate (p : Fin 34)
  /-- STEP_INC (R352). -/
  | stepInc (t : Tag)
  /-- SEED_LOCK (R352). -/
  | seedLock (t : Tag)
  /-- ACC_SAVE (R358). -/
  | accSave (core : Fin 16)
  /-- ACC_RESTORE (R358). -/
  | accRestore (core : Fin 16)
  /-- ACC_CLEAR (R358). -/
  | accClear (core : Fin 16)
  /-- DET_SLOT_RESTORE (R359). -/
  | detSlotRestore (x : SlotRestore)
  /-- CLOCK_REPIN (R350). -/
  | clockRepin (d : Fin 2)
  /-- STORE_REFETCH (R365). -/
  | storeRefetch (block : BitVec 20) (reply : Option (Bytes × List Nat)) (env : VaultEnv)
  /-- DRAM_REPAIR (R369). -/
  | dramRepair (a : PA) (home : Bool) (reply : Option Bytes) (env : VaultEnv)
  /-- CE_TABLE_CLEAR (R368). -/
  | ceTableClear (d : Fin 2)
  /-- LEDGER_HEAD_WRITE (R383). -/
  | ledgerHeadWrite (d : Fin 2) (head : W32)
  /-- MERGE_WINDOW_CLOSE (R385). -/
  | mergeWindowClose (d : Fin 2)
  /-- SCRUB_READ (R380). -/
  | scrubRead (c : Fin 8) (t : ScrubAt)
  /-- CLR_LATE (R381). -/
  | clrLate (c : Fin 8)
  /-- PASS_NOW (R381). -/
  | passNow
  /-- FLIP_ARM (R389). -/
  | flipArm (tag : Tag) (preCode : Bool) (offset : Fin 512) (unit : Fin 128) (target : Fin 16)
  /-- K_BLOCK_END (R393). -/
  | kBlockEnd (cut : KernelCut) (pass : W32) (block : W32) (a b : OperandAt) (init : List (Nat × PA × Nat)) (types : Option (Nat × Nat)) (wrong : List WrongSum) (shadowWrong : List WrongSum) (third : Option W32)
  /-- SHADOW_TAKEN (R397). -/
  | shadowTaken (m : Fin 16)
  /-- SHADOW_WAIT_TIMEOUT (R397). -/
  | shadowWaitTimeout (n : Fin 16)
  /-- ENGINE_PASS_END (R398). -/
  | enginePassEnd (cut : KernelCut) (pass : W32) (seen : Option (W32 × W32)) (code : List KStep)
  /-- DIAG_ARM (R400). -/
  | diagArm (entry : Fin 16) (core : Fin 16) (shadow : Fin 16)
  /-- SUSPECT_FREE (R399). -/
  | suspectFree (i : Fin 16)
  /-- SHELF_LOAD (R404). -/
  | shelfLoad
  /-- SHELF_LOAD_DONE (R404). -/
  | shelfLoadDone (env : VaultEnv)
  /-- TEST_REQUEST (R405). -/
  | testRequest (n : Fin 16) (set : Fin 16) (after : W16) (evicted : Bool)
  /-- TEST_ABORT (R406). -/
  | testAbort (n : Fin 16)
  /-- TEST_START (R405). -/
  | testStart (n : Fin 16)
  /-- TEST_DEFERRED (R406). -/
  | testDeferred (n : Fin 16)
  /-- TEST_END (R407). -/
  | testEnd (n : Fin 16) (failed : Option W32)
  /-- MIRROR_WRITE_RX (R417). -/
  | mirrorWriteRx (seq : Option Nat) (id : Nat) (a : PA) (data : Bytes) (mask : List Nat) (tag : Tag) (alone : Bool)
  /-- MIRROR_ACK_RX (R417). -/
  | mirrorAckRx (seq : Nat) (id : Option Nat)
  /-- CHECK_VALUE_RX (R421). -/
  | checkValueRx (slot : Fin 4096) (tensor : W32) (stepCount : W64) (value : W32)
  /-- CMP_WAIT_TIMEOUT (R421). -/
  | cmpWaitTimeout (n : Fin 16)
  /-- REPLICATED_OP_RX (R424). -/
  | replicatedOpRx (seq : Option Nat) (src : Node) (desc : Bytes)
  /-- HEARTBEAT_SEND (R426). -/
  | heartbeatSend
  /-- HEARTBEAT_RX (R426). -/
  | heartbeatRx
  /-- PAIR_LOSS (R426). -/
  | pairLoss
  /-- ARB_TIMEOUT (R427). -/
  | arbTimeout
  /-- PAIR_SOLO (R427). -/
  | pairSolo
  /-- PAIR_DETACH (R427). -/
  | pairDetach
  /-- PAIR_REJOIN (R428). -/
  | pairRejoin
  /-- RESET_PARTNER (R427). -/
  | resetPartner
  /-- FORMATION_RX (R428). -/
  | formationRx (digest : W32) (before : Fin 8) (mapValid : Bool) (fresh : Bool) (dirty : List Nat)
  /-- FORMATION_RETRY (R428). -/
  | formationRetry
  /-- RESYNC_PIECE (R429). -/
  | resyncPiece (piece : Option (Option Nat × Nat × PA × Bytes × List Nat))
  /-- MM_ENTRY_FREE (R433). -/
  | mmEntryFree (i : Fin 8)
  /-- HOST_READ (R438). -/
  | hostRead (b : Bar) (off : Fin 68719476736) (len : Fin 4097) (requester : W16) (tag : W16) (env : AccessEnv)
  /-- HOST_WRITE (R438). -/
  | hostWrite (b : Bar) (off : Fin 68719476736) (data : Bytes) (ep : Bool) (relaxed : Bool) (env : AccessEnv)
  /-- HOST_READ_DONE (R440). -/
  | hostReadDone (id : Nat) (env : AccessEnv)
  /-- PEP_CPL_LIMIT (R440). -/
  | pepCplLimit (id : Nat)
  /-- WIN_COMMIT (R439). -/
  | winCommit
  /-- WIN_COMMIT_DONE (R439). -/
  | winCommitDone
  /-- CXL_MEM_READ (R442). -/
  | cxlMemRead (hpa : W64) (tag : W16) (env : AccessEnv)
  /-- CXL_MEM_WRITE (R442). -/
  | cxlMemWrite (hpa : W64) (tag : W16) (data : Bytes) (poison : Bool) (env : AccessEnv)
  /-- HDM_COMMIT (R442). -/
  | hdmCommit (i : Fin 4) (base : W64) (size : W64) (ways : Fin 16) (gran : Fin 16) (place : Fin 16)
  /-- MAILBOX_COMMAND (R435). -/
  | mailboxCommand (op : W16) (payload : Bytes)
  /-- CONFIG_ACCESS (R436). -/
  | configAccess (x : CfgAccess)
  /-- DMA_TO_POOL (R444). -/
  | dmaToPool (c : Fin 4) (desc : Bytes) (data : Bytes) (failAt : Option Nat) (env : AccessEnv)
  /-- DMA_TO_HOST (R444). -/
  | dmaToHost (c : Fin 4) (desc : Bytes) (env : AccessEnv)
  /-- DMA_DESC_END (R444). -/
  | dmaDescEnd (c : Fin 4)
  /-- BME_CLEAR (R447). -/
  | bmeClear
  /-- DMA_REENABLE (R447). -/
  | dmaReenable (c : Fin 4)
  /-- ENDPOINT_RESET (R448). -/
  | endpointReset (kind : EndpointKind)
  /-- MSIX_SEND (R445). -/
  | msixSend (v : Fin 256)
  /-- L1_ENTRY (R446). -/
  | l1Entry
  /-- L0P_NARROW (R446). -/
  | l0pNarrow
  /-- L0P_WIDEN (R446). -/
  | l0pWiden
  /-- D3HOT_ENTRY (R446). -/
  | d3hotEntry
  /-- POWER_ON (R452). -/
  | powerOn (bootSrc : Fin 4) (clkMode : Fin 4) (nor : Bytes) (hrstLow : Bool) (perstLow : Bool)
  /-- PERST_ASSERT (R452). -/
  | perstAssert
  /-- PERST_DEASSERT (R465). -/
  | perstDeassert
  /-- HRST_ASSERT (R452). -/
  | hrstAssert
  /-- HRST_DEASSERT (R499). -/
  | hrstDeassert
  /-- DIE_THERMAL_TRIP (R452). -/
  | dieThermalTrip (d : Fin 2) (t : Int)
  /-- THERMAL_HOLD_END (R452). -/
  | thermalHoldEnd (die0 : Int) (die1 : Int) (dram : List (Fin 104 × Int))
  /-- PARTNER_RESET_RX (R452). -/
  | partnerResetRx
  /-- SOFTWARE_RESET (R452). -/
  | softwareReset (key : Byte) (keepDram : Bool)
  /-- SELF_REFRESH_READY (R454). -/
  | selfRefreshReady (c : Fin 8)
  /-- KEEP_FAILED (R454). -/
  | keepFailed
  /-- BLOCK_RESET (R460). -/
  | blockReset (kind : Fin 16) (unit : Byte)
  /-- BLOCK_RESET_IDLE (R460). -/
  | blockResetIdle
  /-- BLK_RST_TIMEOUT (R460). -/
  | blkRstTimeout (cuts : List KernelCut)
  /-- STARTUP_STEP_DONE (R462). -/
  | startupStepDone (env : StartEnv)
  /-- STARTUP_STEP_LIMIT (R463). -/
  | startupStepLimit (units : List Nat) (env : StartEnv)
  /-- POWER_REGULATE (R470). -/
  | powerRegulate (env : PowerEnv)
  /-- WATCHDOG_EXPIRE (R481). -/
  | watchdogExpire
  /-- WDOG_KICK (R481). -/
  | wdogKick (v : W16)
  /-- FUSE_REVOKE (R480). -/
  | fuseRevoke (slot : Byte) (confirm : Bool)
  /-- FUSE_RAISE_MIN (R480). -/
  | fuseRaiseMin (v : Byte) (confirm : Bool)
  /-- FUSE_CONFIRM_TIMEOUT (R480). -/
  | fuseConfirmTimeout
  /-- NOR_UPDATE (R483). -/
  | norUpdate
  /-- NOR_UPDATE_DONE (R483). -/
  | norUpdateDone (env : VaultEnv) (wrong : Option Nat)
  /-- SESSION_OPEN (R485). -/
  | sessionOpen (src : Node)
  /-- SESSION_CLOSE (R485). -/
  | sessionClose (src : Node)
  /-- IMG_SERVE_END (R485). -/
  | imgServeEnd
  /-- IMG_PAGE (R484). -/
  | imgPage (src : Node) (page : Fin 128)
  /-- IMG_WIN_READ (R485). -/
  | imgWinRead (src : Node) (off : Fin 524288) (len : Fin 65)
  /-- ATTEST (R486). -/
  | attest
  /-- ATTEST_DONE (R486). -/
  | attestDone
  /-- I3C_INDEX_WRITE (R488). -/
  | i3cIndexWrite (index : W16) (data : Bytes)
  /-- I3C_READ (R488). -/
  | i3cRead
  /-- I3C_RECOVERY (R488). -/
  | i3cRecovery (b0 : Byte) (b1 : Byte) (b2 : Byte)
  /-- I3C_CCC (R487). -/
  | i3cCcc (code : I3cCode)
  /-- ENDPOINT_LINK_UP (R435). -/
  | endpointLinkUp (speed : Fin 5) (width : Fin 5) (cxl : Bool)
  /-- L1_EXIT (R446). -/
  | l1Exit
  /-- DMA_COMPLETION_TIMEOUT (R444). -/
  | dmaCompletionTimeout (c : Fin 4)
  /-- BOUNDARY_SCAN (R503). -/
  | boundaryScan (x : TapOp)
  deriving DecidableEq, Repr

end Sys2Proof
end

