-- ==== Sys2Proof/Decode.lean ====
section
/-! DEFINITION. The commands that table words spell. The rows of the table give no bits: a command reaches the device as a
register access, a message, a signal or an event, and none of them is an encoded word. -/

namespace Sys2Proof

/-- The command that a word of the table's bits spells: none, since no row gives bits. -/
def decodeTableWord (_nbits _w : Nat) : Option Instr := none

end Sys2Proof
end

