-- ==== Sys2Proof/Config.lean ====
section
/-! DEFINITION. What the spec leaves open and never fixes: the free values. Each is an opaque constant, applied to the
state's counter of free values or to the operands it depends on, so that no proof can know one of its values. Every
one is named in the assumption log. -/

namespace Sys2Proof.Config

/-- A byte of memory whose value the spec calls undefined (R76, R323 VRELEASE, R326, R379): applied to the counter of
free values and the byte's position. -/
opaque freeByte : Nat → Nat → Byte

/-- A number the spec leaves undefined, applied to the counter of free values. -/
opaque freeNat : Nat → Nat

/-- A byte of FILL of a training block (R254 names the PRBS13Q sequence and not where in it a block starts): applied to the
counter of free values, the lane and the position. -/
opaque trainFill : Nat → Nat → Nat → Byte

/-- The occupancy, in sixteenths, of a cluster's request queue (R240), whose size and contents the spec does not give:
applied to the counter of free values and the cluster. -/
opaque queueLoad : Nat → Nat → Nat

/-- Which of a die's egress expanders serves a request (R23), by the request's number; taken modulo 48. -/
opaque expander : Nat → Nat

/-- Whether a pool address of another device lies in a PACKED logical range, which decides what a FETCH from it writes (R91)
and which the spec does not say how a device learns. -/
opaque remotePacked : Node → PA → Bool

/-- The tag that the device's requests for a partner's image carry, which R226 wants nonzero; taken modulo 4,095, plus 1. -/
opaque imageTag : Nat

/-- Whether the first read of a stored tile mismatches its CHECK where a second read does not (R104), a passing disturbance:
applied to the counter of free values. -/
opaque tileGlitch : Nat → Bool

/-- The SM2 signature of an attestation report (R486): the spec names the standard's signing, whose random number is
the device's own; applied to the counter of free values and the report's digest. -/
opaque attestSignature : Nat → Bytes → Bytes

/-- The ceiling in bytes of the shared rate-limit bucket (R312 gives one to table entries only). -/
opaque sharedBurst : Nat

/-- A byte of the boot NOR whose contents the spec calls undefined (R475, R482): applied to the number of the event that
left them so and the byte's offset. -/
opaque freeNor : Nat → Nat → Byte

/-- A byte of the configuration space or of the ROM image whose place in the standards' layouts the spec does not give:
the capability pointer, and the parts of the ROM outside its first bytes and the resource table (R436, R437). -/
opaque layoutByte : Nat → Byte

/-- The reply of a mailbox command that CXL 3.1 makes mandatory (R435), applied to the counter of free values, the opcode
and the command's payload. -/
opaque mailboxReply : Nat → Nat → Bytes → Bytes

/-- What the test access port captures into its instruction register, whose length the spec does not give (R503). -/
opaque tapCapture : List Bool

end Sys2Proof.Config
end

