-- ==== Sys2Proof/Machine/Codes.lean ====
section
/-! DEFINITION. The checking codes of the device: CRC-32C (R103), CRC-32 (R219), the SECDED code of the control
structures (R364) and the Reed–Solomon code RS(136,128) of the DRAM grains and the link's inner code (R219, R265,
R266). -/

namespace Sys2Proof

/-! ## Cyclic codes -/

/-- One bit of a reflected CRC register: shift right and add the reflected polynomial when the bit shifted out is 1. -/
def crcBit (poly : W32) (c : W32) : W32 :=
  if c.getLsbD 0 then (c >>> 1) ^^^ poly else c >>> 1

/-- One byte of a reflected CRC. -/
def crcByte (poly : W32) (c : W32) (b : Byte) : W32 :=
  (List.range 8).foldl (fun c _ => crcBit poly c) (c ^^^ b.setWidth 32)

/-- A reflected CRC with initial value and final exclusive or 0xFFFF_FFFF. -/
def crcReflected (poly : W32) (bs : Bytes) : W32 := bs.foldl (crcByte poly) 0xFFFFFFFF ^^^ 0xFFFFFFFF

/-- CRC-32C, polynomial 0x1EDC_6F41 reflected (R103). -/
def crc32c (bs : Bytes) : W32 := crcReflected 0x82F63B78 bs

/-- The flit CRC-32, polynomial 0x04C1_1DB7 reflected (R219). -/
def crc32 (bs : Bytes) : W32 := crcReflected 0xEDB88320 bs

/-! ## SECDED (R364) -/

/-- Whether a number is a power of two. -/
def isPow2 (n : Nat) : Bool := (List.range 8).any (fun j => n == 2 ^ j)

/-- The code words H(0), H(1), …: the integers from 3 to 127 that are not powers of two, ascending (R364). -/
def secdedCodes : List Nat := (List.range 128).filter (fun n => decide (3 ≤ n) && !isPow2 n)

/-- Parity of the bits of a natural number among its low n bits. -/
def parityBits (n v : Nat) : Bool := (List.range n).foldl (fun p i => xor p (v.testBit i)) false

/-- The seven code bits c₀..c₆ of a data word, as one number: the XOR of H(i) over the data bits that are set. -/
def secdedLow (width data : Nat) : Nat :=
  ((List.range width).zip secdedCodes).foldl (fun a p => if data.testBit p.1 then a ^^^ p.2 else a) 0

/-- The eight check bits of a data word: c₇ is the XOR of the data and of c₀..c₆. -/
def secdedCheck (width data : Nat) : Nat :=
  let c := secdedLow width data
  c + (if xor (parityBits width data) (parityBits 7 c) then 128 else 0)

/-- Outcome of reading a SECDED word. -/
inductive Secded where
  | clean
  | corrected (data : Nat)
  | uncorrectable
  deriving DecidableEq, Repr

/-- Reads a SECDED word of width data bits (the table of R364). -/
def secdedRead (width data check : Nat) : Secded :=
  let s := secdedLow width data ^^^ (check % 128)
  let p := xor (parityBits width data) (parityBits 8 check)
  if p then
    if s = 0 || isPow2 s then .corrected data
    else
      match ((List.range width).zip secdedCodes).find? (fun q => q.2 == s) with
      | some q => .corrected (data ^^^ 2 ^ q.1)
      | none => .uncorrectable
  else if s = 0 then .clean else .uncorrectable

/-! ## GF(2⁸) with primitive polynomial 0x11D (R219, R265) -/

/-- Multiplication by α. -/
def gfDouble (a : Byte) : Byte := if a.getLsbD 7 then (a <<< 1) ^^^ 0x1D else a <<< 1

/-- Multiplication in GF(2⁸). -/
def gfMul (a b : Byte) : Byte :=
  ((List.range 8).foldl (fun (st : Byte × Byte) i =>
    (if b.getLsbD i then st.1 ^^^ st.2 else st.1, gfDouble st.2)) (0, a)).1

/-- A power in GF(2⁸). -/
def gfPow (a : Byte) : Nat → Byte
  | 0 => 1
  | n + 1 => gfMul a (gfPow a n)

/-- α to the power n. -/
def gfAlpha (n : Nat) : Byte := gfPow 2 (n % 255)

/-- The multiplicative inverse, a²⁵⁴. -/
def gfInv (a : Byte) : Byte :=
  let a2 := gfMul a a
  let a4 := gfMul a2 a2
  let a8 := gfMul a4 a4
  let a16 := gfMul a8 a8
  let a32 := gfMul a16 a16
  let a64 := gfMul a32 a32
  let a128 := gfMul a64 a64
  gfMul a128 (gfMul a64 (gfMul a32 (gfMul a16 (gfMul a8 (gfMul a4 a2)))))

/-- A polynomial times (x + r), coefficients highest power first. -/
def gfPolyStep (p : Bytes) (r : Byte) : Bytes :=
  List.zipWith (fun x y => x ^^^ y) (p ++ [0]) (0 :: p.map (gfMul r))

/-- The generator polynomial with roots α⁰ to α⁷, without its leading 1. -/
def rsGenerator : Bytes := ((List.range 8).foldl (fun p i => gfPolyStep p (gfAlpha i)) [1]).drop 1

/-- One step of the encoder's shift register. -/
def rsStep (g : Bytes) (reg : Bytes) (d : Byte) : Bytes :=
  let fb := reg.headD 0 ^^^ d
  let sh := reg.drop 1 ++ [0]
  if fb = 0 then sh else List.zipWith (fun x y => x ^^^ gfMul fb y) sh g

/-- The 8 check bytes of a message (R265: data bytes first, check bytes last). -/
def rsCheck (data : Bytes) : Bytes :=
  if allZero data then List.replicate 8 0 else data.foldl (rsStep rsGenerator) (List.replicate 8 0)

/-- A word's value at a point, first byte the highest power. -/
def gfEval (w : Bytes) (x : Byte) : Byte := w.foldl (fun a b => gfMul a x ^^^ b) 0

/-- The eight syndromes of a word. -/
def rsSyndromes (w : Bytes) : Bytes := (List.range 8).map (fun i => gfEval w (gfAlpha i))

/-- Working state of the error-locator search, coefficients lowest power first. -/
structure BmState where
  c : Bytes
  b : Bytes
  len : Nat
  m : Nat
  bb : Byte
  deriving DecidableEq, Repr

/-- Sum of two polynomials, lowest power first. -/
def gfPolyAdd : Bytes → Bytes → Bytes
  | [], q => q
  | p, [] => p
  | a :: p, b :: q => (a ^^^ b) :: gfPolyAdd p q

/-- One step of the Berlekamp–Massey search for the error locator. -/
def bmStep (syn : Bytes) (st : BmState) (n : Nat) : BmState :=
  let d := (List.range (st.len + 1)).foldl
    (fun a i => a ^^^ gfMul (st.c.getD i 0) (if i ≤ n then syn.getD (n - i) 0 else 0)) 0
  if d = 0 then { st with m := st.m + 1 }
  else
    let f := gfMul d (gfInv st.bb)
    let c2 := gfPolyAdd st.c (List.replicate st.m 0 ++ st.b.map (gfMul f))
    if 2 * st.len ≤ n then { c := c2, b := st.c, len := n + 1 - st.len, m := 1, bb := d }
    else { st with c := c2, m := st.m + 1 }

/-- The error locator and the number of errors it stands for. -/
def rsLocator (syn : Bytes) : Bytes × Nat :=
  let st := (List.range 8).foldl (bmStep syn) { c := [1], b := [1], len := 0, m := 1, bb := 1 }
  (st.c, st.len)

/-- Value of a polynomial given lowest power first. -/
def gfEvalLow (p : Bytes) (x : Byte) : Byte := gfEval p.reverse x

/-- The error magnitude at a locator value (Forney), for syndromes that begin at α⁰. -/
def rsMagnitude (syn loc : Bytes) (x : Byte) : Byte :=
  let xi := gfInv x
  let omega := (List.range 8).map (fun k =>
    (List.range (k + 1)).foldl (fun a i => a ^^^ gfMul (loc.getD i 0) (syn.getD (k - i) 0)) 0)
  let dloc := loc.zipIdx.map (fun p => if p.2 % 2 = 1 then p.1 else 0)
  let den := gfEvalLow (dloc.drop 1) xi
  gfMul (gfMul x (gfEvalLow omega xi)) (gfInv den)

/-- Decodes a word of n bytes with at most maxErr byte errors: the corrected word and the number of bytes corrected,
or nothing. The result is accepted only when it is a code word. -/
def rsDecode (maxErr : Nat) (w : Bytes) : Option (Bytes × Nat) :=
  let n := w.length
  let syn := rsSyndromes w
  if allZero syn then some (w, 0)
  else
    let (loc, k) := rsLocator syn
    if maxErr < k then none
    else
      let errs := (List.range n).filter (fun pos => gfEvalLow loc (gfInv (gfAlpha (n - 1 - pos))) == 0)
      let w2 := errs.foldl (fun w pos =>
        w.set pos (w.getD pos 0 ^^^ rsMagnitude syn loc (gfAlpha (n - 1 - pos)))) w
      if errs.length = k && allZero (rsSyndromes w2) then some (w2, k) else none

/-- The poison pattern (R265). -/
def poisonPattern : Bytes := [0xD1, 0x7E, 0x96, 0x2B, 0x4C, 0xE8, 0x35, 0xA3]

/-- The lost pattern (R266). -/
def lostPattern : Bytes := [0x3A, 0x5C, 0xC7, 0x61, 0x0F, 0x9B, 0xE2, 0x74]

/-- Outcome of a grain decode (Table 11-2). A grain that holds the lost pattern exactly is told apart from the other
uncorrectable ones (R266, R372). -/
inductive GrainOutcome where
  | clean
  | corrected
  | poisoned
  | lost
  | uncorrectable
  deriving DecidableEq, Repr

/-- Decodes a grain of 128 data bytes and 8 check bytes: the data and the outcome (Table 11-2). The syndrome is zero
exactly when the check bytes are the data's own, and equals the poison pattern's exactly when they are its own XORed
with the pattern; those two tests come first. -/
def grainDecode (data check : Bytes) : Bytes × GrainOutcome :=
  let own := rsCheck data
  if check = own then (data, .clean)
  else if check = xorBytes own poisonPattern then (List.replicate 128 0, .poisoned)
  else if check = lostPattern ∧ allZero data then (data, .lost)
  else
    match rsDecode 4 (data ++ check) with
    | some (w, _) => (w.take 128, .corrected)
    | none =>
      match rsDecode 2 (data ++ xorBytes check poisonPattern) with
      | some _ => (List.replicate 128 0, .poisoned)
      | none => (data, .uncorrectable)

/-- The 16 parity bytes of a flit: two interleaved RS(136,128) words (R219). -/
def flitParity (flit : Bytes) : Bytes :=
  let ev := (flit.zipIdx.filter (fun p => p.2 % 2 == 0)).map (fun p => p.1)
  let od := (flit.zipIdx.filter (fun p => p.2 % 2 == 1)).map (fun p => p.1)
  (List.zip (rsCheck ev) (rsCheck od)).flatMap (fun p => [p.1, p.2])

/-- The bytes of one interleave of a sequence. -/
def interleave (e : Nat) (bs : Bytes) : Bytes := (bs.zipIdx.filter (fun p => p.2 % 2 == e)).map (fun p => p.1)

/-- Two interleaves joined again. -/
def weave (a b : Bytes) : Bytes := (List.zip a b).flatMap (fun p => [p.1, p.2])

/-- One interleave of a code word corrected: its 128 data bytes and the bytes corrected. -/
def innerDecode (w : Bytes) : Option (Bytes × Nat) :=
  if w.drop 128 = rsCheck (w.take 128) then some (w.take 128, 0)
  else (rsDecode 4 w).map (fun r => (r.1.take 128, r.2))

/-- The receiver's decode of a 272-byte code word: the 256 flit bytes and the bytes corrected, or a bad flit (R219). -/
def flitDecode (cw : Bytes) : Option (Bytes × Nat) :=
  match innerDecode (interleave 0 cw), innerDecode (interleave 1 cw) with
  | some (a, n), some (b, m) =>
    let f := weave a b
    if fieldLe f 252 4 = (crc32 (f.take 252)).toNat then some (f, n + m) else none
  | _, _ => none

/-- A flit's 256 bytes with its CRC, from header and payload bytes (R219). -/
def flitSeal (body : Bytes) : Bytes := body ++ leBytes 4 (crc32 body).toNat

/-! ## Lanes (R251) -/

/-- The PAM4 level of a bit pair: Gray coded. -/
def pamLevel (pair : Nat) : Fin 4 :=
  match pair with
  | 0 => 0
  | 1 => 1
  | 3 => 2
  | _ => 3

/-- The bit pair of a PAM4 level. -/
def pamPair (level : Fin 4) : Nat :=
  match level with
  | 0 => 0
  | 1 => 1
  | 2 => 3
  | 3 => 2

/-- The four symbols of a byte, bits [7:6] first. -/
def byteLevels (b : Byte) : List (Fin 4) := [6, 4, 2, 0].map (fun i => pamLevel (bitsOf b.toNat (i + 1) i))

/-- The byte that four symbols spell. -/
def levelsByte (l : List (Fin 4)) : Byte := BitVec.ofNat 8 (l.foldl (fun n x => 4 * n + pamPair x) 0)

/-- A code word on w lanes: byte b goes on logical lane b mod w, in ascending b. -/
def stripe (w : Nat) (bs : Bytes) : List (List (Fin 4)) :=
  (List.range w).map (fun l => (List.range (bs.length / w)).flatMap (fun i => byteLevels (bs.getD (w * i + l) 0)))

/-- The n bytes that w logical lanes carry. -/
def unstripe (w n : Nat) (lanes : List (List (Fin 4))) : Bytes :=
  (List.range n).map (fun b => levelsByte (((lanes.getD (b % w) []).drop (4 * (b / w))).take 4))

end Sys2Proof
end

