-- ==== Sys2Proof/Machine/Codec.lean ====
section
/-! DEFINITION. The Harrus tile format and the codecs, as functions of bytes: headers and directory entries (R100,
R101, R105), prefix tables and codes (R108 to R111), the entropy decode and encode (R112, R124), the DELTA and PLANE
transforms (R115 to R121), and the derivation of code lengths (R123). -/

namespace Sys2Proof.Machine

/-! ## Geometry (R96, R97) -/

/-- Byte planes of a WIDTH code (Table 4-1). -/
def planesOf (w : Nat) : Nat := match w with | 1 => 2 | 2 => 4 | _ => 1
/-- Element width in bits of a WIDTH code. -/
def bitsOfWidth (w : Nat) : Nat := match w with | 0 => 8 | 1 => 16 | 2 => 32 | 3 => 4 | _ => 6
/-- Columns of a tile of a WIDTH code. -/
def columnsOf (w : Nat) : Nat := match w with | 0 => 128 | 1 => 64 | 2 => 32 | 3 => 256 | _ => 128
/-- Bytes that hold whole elements, and how many elements they hold. -/
def elemChunk (w : Nat) : Nat × Nat := match w with | 0 => (1, 1) | 1 => (2, 1) | 2 => (4, 1) | 3 => (1, 2) | _ => (3, 4)

/-- A byte sequence cut into pieces of n bytes. -/
def chunksOf (n : Nat) (bs : Bytes) : List Bytes :=
  (List.range (bs.length / n)).map (fun i => (bs.drop (n * i)).take n)

/-- The elements of a byte sequence at a WIDTH code, in order (R97). -/
def elemsOf (w : Nat) (bs : Bytes) : List Nat :=
  let (b, e) := elemChunk w
  (chunksOf b bs).flatMap (fun c => (List.range e).map (fun j => leNat c / 2 ^ (bitsOfWidth w * j) % 2 ^ bitsOfWidth w))

/-- The bytes of a sequence of elements at a WIDTH code. -/
def bytesOfElems (w : Nat) (es : List Nat) : Bytes :=
  let (b, e) := elemChunk w
  (List.range (es.length / e)).flatMap (fun i =>
    leBytes b (((List.range e).map (fun j => es.getD (e * i + j) 0 % 2 ^ bitsOfWidth w * 2 ^ (bitsOfWidth w * j))).sum))

/-- The bytes of a tile that hold elements: all but the padding of WIDTH 4 (R115). -/
def elemBytes (w : Nat) : Nat := if w = 4 then 3072 else 4096

/-! ## Headers (R100, R101) -/

/-- A tile header (Table 4-2). -/
structure TileHeader where
  check : Nat
  codec : Nat
  width : Nat
  grains : Nat
  slot : Nat
  gen : Nat
  baseRef : Nat
  lenBase : Nat
  lenDelta : List Nat
  deriving DecidableEq, Repr

/-- Reads the header of a stored tile. -/
def parseHeader (st : Bytes) : TileHeader :=
  let h := fieldLe st 4 8
  let d := fieldLe st 12 20
  { check := fieldLe st 0 4, codec := bitsOf h 1 0, width := bitsOf h 4 2, grains := bitsOf h 10 5
    slot := bitsOf h 16 11, gen := bitsOf h 24 17, baseRef := bitsOf h 55 25, lenBase := bitsOf h 63 56
    lenDelta := (List.range 32).map (fun k => bitsOf d (5 * k + 4) (5 * k)) }

/-- The 28 header bytes after CHECK. -/
def TileHeader.tail (h : TileHeader) : Bytes :=
  leBytes 8 (h.codec + h.width * 2 ^ 2 + h.grains * 2 ^ 5 + 2 ^ 11 * h.slot + 2 ^ 17 * h.gen + 2 ^ 25 * h.baseRef +
    2 ^ 56 * h.lenBase) ++
  leBytes 20 (((List.range 32).map (fun k => h.lenDelta.getD k 0 * 2 ^ (5 * k))).sum)

/-- The length of sub-stream k. -/
def TileHeader.len (h : TileHeader) (k : Nat) : Nat := h.lenBase + h.lenDelta.getD k 0

/-- The total length of the sub-streams. -/
def TileHeader.total (h : TileHeader) : Nat := ((List.range 32).map h.len).sum

/-- Whether a header is well formed (R101). -/
def TileHeader.wellFormed (h : TileHeader) : Bool :=
  decide (h.width ≤ 4) &&
  (match h.codec with
   | 0 => h.lenBase == 128 && h.lenDelta.all (fun d => d == 0) && h.grains == 33
   | 1 => (List.range 32).all (fun k => decide (16 ≤ h.len k) && decide (h.len k ≤ 240)) &&
       h.grains == ceilDiv (32 + h.total) 128 && decide (h.grains ≤ 32) && h.width != 2
   | 2 => (List.range 32).all (fun k => decide (16 ≤ h.len k) && decide (h.len k ≤ 240)) &&
       h.grains == ceilDiv (32 + h.total) 128 && decide (h.grains ≤ 32)
   | _ => false)

/-- CHECK of a stored tile (R103). -/
def tileCheck (st : Bytes) (grains : Nat) : Nat := (crc32c ((st.take (128 * grains)).drop 4)).toNat

/-- A stored tile from its header and sub-streams: padded with zeros to its grains, CHECK computed last (R99, R124). -/
def buildTile (h : TileHeader) (streams : Bytes) : Bytes :=
  let body := h.tail ++ streams
  let body := body ++ List.replicate (128 * h.grains - 4 - body.length) 0
  leBytes 4 (crc32c body).toNat ++ body

/-- A RAW stored tile of 4 KiB of PLAIN bytes (R102, R107). -/
def rawTile (width : Nat) (plain : Bytes) : Bytes :=
  buildTile { check := 0, codec := 0, width := width, grains := 33, slot := 0, gen := 0, baseRef := 0, lenBase := 128
              lenDelta := List.replicate 32 0 } plain

/-! ## Directory entries (R105) -/

/-- A directory entry (Table 4-3): state 0 EMPTY, 1 STORED, 2 EXPANDED. -/
structure DirEntry where
  check : Nat
  state : Nat
  codec : Nat
  width : Nat
  grains : Nat
  slot : Nat
  gen : Nat
  loc : Nat
  deriving DecidableEq, Repr

/-- The EMPTY entry. -/
def DirEntry.empty : DirEntry := ⟨0, 0, 0, 0, 0, 0, 0, 0⟩

/-- The 120 data bits of an entry. -/
def DirEntry.bits (e : DirEntry) : Nat :=
  e.check + 2 ^ 32 * e.state + 2 ^ 34 * e.codec + 2 ^ 36 * e.width + 2 ^ 39 * e.grains + 2 ^ 45 * e.slot +
    2 ^ 51 * e.gen + 2 ^ 59 * e.loc

/-- The 16 bytes of an entry, ECC included. -/
def DirEntry.bytes (e : DirEntry) : Bytes := leBytes 16 (e.bits + 2 ^ 120 * secdedCheck 120 e.bits)

/-- An entry from its data bits. -/
def dirOfBits (n : Nat) : DirEntry where
  check := bitsOf n 31 0
  state := bitsOf n 33 32
  codec := bitsOf n 35 34
  width := bitsOf n 38 36
  grains := bitsOf n 44 39
  slot := bitsOf n 50 45
  gen := bitsOf n 58 51
  loc := bitsOf n 94 59

/-! ## Prefix tables (R109 to R111) -/

/-- The 256 code lengths of a plane table of 128 bytes. -/
def tableLengths (tab : Bytes) : List Nat := tab.flatMap (fun b => [b.toNat % 16, b.toNat / 16])

/-- The 128 bytes of a plane table from its 256 lengths. -/
def lengthsTable (lens : List Nat) : Bytes :=
  (List.range 128).map (fun i => BitVec.ofNat 8 (lens.getD (2 * i) 0 + 16 * lens.getD (2 * i + 1) 0))

/-- Whether a plane table is valid: a symbol has a code and the Kraft sum is at most 1 (R111). -/
def tableValid (lens : List Nat) : Bool :=
  lens.any (fun l => l != 0) && decide (((lens.map (fun l => if l = 0 then 0 else 2 ^ (15 - l))).sum) ≤ 2 ^ 15)

/-- A code: its length, value and symbol. -/
structure Code where
  len : Nat
  code : Nat
  sym : Nat
  deriving DecidableEq, Repr

/-- The canonical codes of a table, by length, then by symbol (R110). -/
def canonicalCodes (lens : List Nat) : List Code :=
  let syms := (List.range 15).flatMap (fun i =>
    (lens.zipIdx.filter (fun p => p.1 == i + 1)).map (fun p => (i + 1, p.2)))
  (syms.foldl (fun (st : Nat × Nat × List Code) p =>
    let code := st.1 * 2 ^ (p.1 - st.2.1)
    (code + 1, p.1, st.2.2 ++ [⟨p.1, code, p.2⟩])) (0, 0, [])).2.2

/-- The bits of a byte, most significant first. -/
def bitsMsb (b : Byte) : List Bool := (List.range 8).map (fun i => b.getLsbD (7 - i))

/-- The bits of a byte sequence, most significant first (R108). -/
def bitStream (bs : Bytes) : List Bool := bs.flatMap bitsMsb

/-- The symbol whose code is a value of a length. -/
def findCode (codes : List Code) (len code : Nat) : Option Nat :=
  (codes.find? (fun c => c.len == len && c.code == code)).map (fun c => c.sym)

/-- Reads one code of at most 15 bits: the symbol and the bits left. -/
def nextCode (codes : List Code) : Nat → Nat → Nat → List Bool → Option (Nat × List Bool)
  | 0, _, _, _ => none
  | _ + 1, _, _, [] => none
  | f + 1, len, v, b :: t =>
    let v2 := 2 * v + (if b then 1 else 0)
    match findCode codes (len + 1) v2 with
    | some s => some (s, t)
    | none => nextCode codes f (len + 1) v2 t

/-- The symbols of a sub-stream, one for each listed plane: nothing when the bits run out, no code matches, or more
than 7 bits are left (R112, R113). -/
def decodeSyms (tables : List (List Code)) : List Nat → List Bool → Option (List Nat)
  | [], b => if b.length ≤ 7 then some [] else none
  | p :: ps, b =>
    match nextCode (tables.getD p []) 15 0 0 b with
    | none => none
    | some (s, rest) => (decodeSyms tables ps rest).map (fun l => s :: l)

/-- The plane of each of a sub-stream's 128 symbols (R108). -/
def symPlanes (P : Nat) : List Nat := (List.range 128).map (fun s => s / (128 / P))

/-- The residual bytes of a sub-stream from its symbols: symbol s at byte (s mod E) × P + s / E (R108). -/
def placeSyms (P : Nat) (syms : List Nat) : Bytes :=
  (List.range 128).map (fun i => BitVec.ofNat 8 (syms.getD (i % P * (128 / P) + i / P) 0))

/-- The symbols of a row of 128 residual bytes, in sub-stream order. -/
def rowSyms (P : Nat) (row : Bytes) : List Nat :=
  (List.range 128).map (fun s => (row.getD (s % (128 / P) * P + s / (128 / P)) 0).toNat)

/-- The entropy decode of a stored tile's sub-streams to the residual tile (R112). -/
def entropyDecode (h : TileHeader) (st : Bytes) (tables : List (List Code)) : Option Bytes :=
  let P := planesOf h.width
  ((List.range 32).foldl (fun (a : Option (Bytes × Nat)) k =>
    match a with
    | none => none
    | some (out, off) =>
      (decodeSyms tables (symPlanes P) (bitStream ((st.drop off).take (h.len k)))).map
        (fun syms => (out ++ placeSyms P syms, off + h.len k))) (some ([], 32))).map (fun r => r.1)

/-- The bits of one symbol under a table. -/
def symBits (codes : List Code) (sym : Nat) : Option (List Bool) :=
  (codes.find? (fun c => c.sym == sym)).map (fun c => (List.range c.len).map (fun i => c.code.testBit (c.len - 1 - i)))

/-- Bits packed into bytes, most significant first, the last byte filled with 0 (R124). -/
def packBits : Nat → List Bool → Bytes
  | 0, _ => []
  | n + 1, bs =>
    BitVec.ofNat 8 (((List.range 8).map (fun i => if bs.getD i false then 2 ^ (7 - i) else 0)).sum) :: packBits n (bs.drop 8)

/-- One sub-stream coded: nothing when a symbol has no code. -/
def encodeRow (P : Nat) (tables : List (List Code)) (row : Bytes) : Option Bytes :=
  (((rowSyms P row).zip (symPlanes P)).foldl (fun (a : Option (List Bool)) q =>
    match a, symBits (tables.getD q.2 []) q.1 with
    | some bs, some b => some (bs ++ b)
    | _, _ => none) (some [])).map (fun bs => packBits (ceilDiv bs.length 8) bs)

/-! ## Transforms (R115 to R121) -/

/-- The DELTA inverse: element-wise sum with the base, modulo 2ⁿ (R116); padding is carried (R115). -/
def deltaInverse (w : Nat) (res base : Bytes) : Bytes :=
  let n := elemBytes w
  bytesOfElems w (List.zipWith (fun d b => (b + d) % 2 ^ bitsOfWidth w) (elemsOf w (res.take n)) (elemsOf w (base.take n))) ++ res.drop n

/-- The DELTA residual: element-wise difference to the base, modulo 2ⁿ (R116). -/
def deltaForward (w : Nat) (plain base : Bytes) : Bytes :=
  let n := elemBytes w
  bytesOfElems w (List.zipWith (fun x b => (x + 2 ^ bitsOfWidth w - b) % 2 ^ bitsOfWidth w) (elemsOf w (plain.take n)) (elemsOf w (base.take n))) ++ plain.drop n

/-- Running exclusive or along a row: xⱼ = rⱼ XOR xⱼ₋₁ (R120). -/
def xorScan (prev : Nat) : List Nat → List Nat
  | [] => []
  | r :: t => (r ^^^ prev) :: xorScan (r ^^^ prev) t

/-- Exclusive or of each element with the one before it: rⱼ = xⱼ XOR xⱼ₋₁ (R120). -/
def xorDiff (prev : Nat) : List Nat → List Nat
  | [] => []
  | x :: t => (x ^^^ prev) :: xorDiff x t

/-- A transform applied to each K-row's elements (R97). -/
def perRow (w : Nat) (g : List Nat → List Nat) (bs : Bytes) : Bytes :=
  let n := elemBytes w
  let row := n / 32
  (chunksOf row (bs.take n)).flatMap (fun r => bytesOfElems w (g (elemsOf w r))) ++ bs.drop n

/-- The PLANE inverse under a slot's XOR attribute (R120). -/
def planeInverse (w : Nat) (xor : Bool) (res : Bytes) : Bytes := if xor then perRow w (xorScan 0) res else res

/-- The PLANE residual under a slot's XOR attribute (R120). -/
def planeForward (w : Nat) (xor : Bool) (plain : Bytes) : Bytes := if xor then perRow w (xorDiff 0) plain else plain

/-- The stored form of a PLAIN tile (R124): codec 1 DELTA with its base's bytes, codec 2 PLANE, codec 0 RAW. -/
def encodeTile (codec width slot gen baseRef rawAbove : Nat) (xor : Bool) (tables : List (List Code)) (plain base : Bytes) : Bytes :=
  if codec = 0 then rawTile width plain
  else
    let res := if codec = 1 then deltaForward width plain base else planeForward width xor plain
    let P := planesOf width
    match ((chunksOf 128 res).map (encodeRow P tables)).foldl
        (fun (a : Option (List Bytes)) r => match a, r with | some l, some x => some (l ++ [x]) | _, _ => none) (some []) with
    | none => rawTile width plain
    | some rows =>
      let lens := rows.map List.length
      let lo := lens.foldl min 240
      let grains := ceilDiv (32 + lens.sum) 128
      if lens.any (fun l => decide (31 < l - lo)) || decide (rawAbove < grains) then rawTile width plain
      else buildTile { check := 0, codec := codec, width := width, grains := grains, slot := slot, gen := gen
                       baseRef := if codec = 1 then baseRef else 0, lenBase := lo, lenDelta := lens.map (fun l => l - lo) } rows.flatten

/-! ## Code lengths (R123) -/

/-- An entry of the package-merge lists: its weight and the symbols it contains. -/
structure Package where
  weight : Nat
  syms : List Nat
  isItem : Bool
  deriving DecidableEq, Repr

/-- Inserts an item by count, then by symbol. -/
def insertItem (p : Package) : List Package → List Package
  | [] => [p]
  | q :: t => if p.weight < q.weight then p :: q :: t else q :: insertItem p t

/-- Pairs of adjacent entries from the front; an odd last entry is dropped. -/
def pairUp : List Package → List Package
  | a :: b :: t => ⟨a.weight + b.weight, a.syms ++ b.syms, false⟩ :: pairUp t
  | _ => []

/-- Merges two rising lists by weight; at equal weight an entry of the first list comes first. -/
def mergeByWeight : Nat → List Package → List Package → List Package
  | 0, a, b => a ++ b
  | _ + 1, [], b => b
  | _ + 1, a, [] => a
  | n + 1, x :: a, y :: b =>
    if x.weight ≤ y.weight then x :: mergeByWeight n a (y :: b) else y :: mergeByWeight n (x :: a) b

/-- The 256 code lengths for a plane's counts (R123). -/
def deriveLengths (counts : List Nat) : List Nat :=
  let items := (counts.zipIdx.filter (fun p => decide (0 < p.1))).foldl (fun l p => insertItem ⟨p.1, [p.2], true⟩ l) []
  match items with
  | [] => List.replicate 256 0
  | [p] => (List.range 256).map (fun v => if p.syms = [v] then 1 else 0)
  | _ =>
    let list := (List.range 14).foldl (fun l _ =>
      let pk := pairUp l
      mergeByWeight (items.length + pk.length) items pk) items
    let taken := (list.take (2 * (items.length - 1))).flatMap (fun p => p.syms)
    (List.range 256).map (fun v => taken.count v)

/-- Histogram of a residual tile's bytes of one plane, added to counts (R123). -/
def addHistogram (P p : Nat) (counts : List Nat) (res : Bytes) : List Nat :=
  let plane := (res.zipIdx.filter (fun q => q.2 % P == p)).map (fun q => q.1.toNat)
  counts.zipIdx.map (fun q => (q.1 + plane.count q.2) % 2 ^ 40)

end Sys2Proof.Machine
end

