-- ==== Sys2Proof/Machine/Sparse.lean ====
section
/-! DEFINITION. Sparse tables: a list of (key, value) pairs in one canonical form, keys strictly rising and no entry
equal to what an unlisted key reads as. Memory, the register file and every numbered collection of the device's
state are held this way, so that equal contents are equal data. -/

namespace Sys2Proof.Sparse

variable {α : Type}

/-- What a key reads as: its entry, or the default of an unlisted key. -/
def get (d : Nat → α) : List (Nat × α) → Nat → α
  | [], k => d k
  | e :: t, k => if e.1 = k then e.2 else get d t k

/-- An entry put in front of a table, unless it equals the default. -/
def cons [DecidableEq α] (d : Nat → α) (k : Nat) (v : α) (t : List (Nat × α)) : List (Nat × α) :=
  if v = d k then t else (k, v) :: t

/-- Writes one key, keeping the canonical form: writing the default removes the entry. -/
def put [DecidableEq α] (d : Nat → α) : List (Nat × α) → Nat → α → List (Nat × α)
  | [], k, v => cons d k v []
  | e :: t, k, v =>
    if k < e.1 then cons d k v (e :: t)
    else if k = e.1 then cons d k v t
    else e :: put d t k v

/-- Returns every key of [lo, hi) to its default. -/
def clear (lo hi : Nat) (m : List (Nat × α)) : List (Nat × α) :=
  m.filter (fun e => decide (e.1 < lo) || decide (hi ≤ e.1))

/-- Returns to their defaults the keys that a test selects. -/
def drop (p : Nat → Bool) (m : List (Nat × α)) : List (Nat × α) := m.filter (fun e => !p e.1)

/-- Writes consecutive keys from k. -/
def putList [DecidableEq α] (d : Nat → α) (m : List (Nat × α)) (k : Nat) : List α → List (Nat × α)
  | [] => m
  | v :: t => putList d (put d m k v) (k + 1) t

/-- Reads n consecutive keys from k. -/
def getList (d : Nat → α) (m : List (Nat × α)) : Nat → Nat → List α
  | _, 0 => []
  | k, n + 1 => get d m k :: getList d m (k + 1) n

/-- Whether every entry's key lies above a bound, the keys rise strictly and no entry equals its default. -/
def wfFrom [DecidableEq α] (d : Nat → α) : Option Nat → List (Nat × α) → Bool
  | _, [] => true
  | lo, e :: t => (match lo with | none => true | some b => decide (b < e.1)) && decide (e.2 ≠ d e.1) && wfFrom d (some e.1) t

/-- The canonical form. -/
def wf [DecidableEq α] (d : Nat → α) (m : List (Nat × α)) : Bool := wfFrom d none m

/-- The keys whose entry a test selects, in rising order. -/
def keysWhere (p : Nat → α → Bool) (m : List (Nat × α)) : List Nat :=
  (m.filter (fun e => p e.1 e.2)).map (fun e => e.1)

end Sys2Proof.Sparse
end

