-- ==== Sys2Proof/Machine/State.lean ====
section
/-! DEFINITION. The machine's state as plain data, the reasons a step can stop, and the state after reset. -/

namespace Sys2Proof.Machine

/-- Reasons a step stops with a fault. -/
inductive Fault where
  /-- Raised by no command: every command of the block has an effect under the spec. Safe. -/
  | unreachable
  deriving DecidableEq, Repr

/-- Reasons a command has no meaning. -/
inductive Refusal where
  /-- Raised by the dispatcher for a command whose meaning is not written. Safe: nothing is claimed of it. -/
  | notModelled (mnemonic : String)
  deriving DecidableEq, Repr

/-- The state of the device. -/
structure State where
  /-- The global counter master, in ns (R29, R39). -/
  count : Nat := 0
  /-- Every register of the control space, by control offset; an unlisted register holds its reset value (R5, R8). -/
  regs : List (Nat × W64) := []
  /-- DRAM: raw bytes of every memory unit, check and tag grains included (R264); unlisted bytes are 0 (R378). -/
  dram : List Host.Cell := []
  /-- The on-die stores by offset in the stores space (Table 3-2); unlisted bytes are 0 (R366). -/
  stores : List Host.Cell := []
  /-- Poison bits of store grains (R366). -/
  storePoison : List (Nat × Bool) := []
  /-- Store bytes whose parity is wrong (R365). -/
  storeParity : List (Nat × Bool) := []
  /-- Source records of 4 KiB store blocks (R365). -/
  srcRecs : List (Nat × Option SrcRec) := []
  /-- Fences in force (R15 to R19). -/
  fences : List FenceUnit := []
  epoch : Epoch := {}
  ports : List (Nat × Port) := []
  /-- The optical engines (chapter 10). -/
  optics : List (Nat × Optic) := []
  tokens : List (Nat × TokenSt) := []
  opens : List OpenReq := []
  nextId : Nat := 0
  own : List OwnReq := []
  nextTxn : Nat := 0
  sync : Sync := {}
  canopy : Canopy := {}
  integ : Integrity := {}
  dramCtl : Dram := {}
  vault : Vault := {}
  /-- Table-slot installs in progress (R133). -/
  installs : List SlotInstall := []
  /-- The base caches of the two dies, most recently used first (R138). -/
  baseCache0 : List BaseLine := []
  baseCache1 : List BaseLine := []
  cores : List (Nat × CoreSt) := []
  /-- The engines' FP32 accumulators, keyed by core × 65,536 + row × 512 + column (R144). -/
  accs : List (Nat × W32) := []
  /-- The vector units' exact accumulators, keyed by core × 512 + lane (R161). -/
  exacts : List (Nat × ExactAcc) := []
  silent : Silent := {}
  pair : Pair := {}
  plans : List Plan := []
  stalls : List Stall := []
  pool : Pool := {}
  mint : Mint := {}
  tellers : Tellers := {}
  clocks : Clocks := {}
  /-- Reset and start-up (chapter 20). -/
  boot : Boot := {}
  /-- The management domain (chapter 21). -/
  mgmt : Mgmt := {}
  /-- The host endpoint (chapter 19). -/
  pep : Pep := {}
  /-- The test access port (R503). -/
  tap : Tap := {}
  /-- MSI-X vectors pending (R445). -/
  irq : List Nat := []
  /-- Last POOL_DENIED record of each port, as the count plus 1 (R308). -/
  deniedAt : List (Nat × Nat) := []
  /-- The die sensors' temperatures in quarter °C, and the rails in mV, by die (R382). -/
  dieTemp : List (Nat × Nat) := []
  railMv : List (Nat × Nat) := []
  /-- The model's own: the counter of free values. -/
  free : Nat := 0
  /-- The model's own: what the device has sent, oldest first. -/
  out : List Out := []
  /-- The model's own: the commands that wait, first in, first out. -/
  pending : List Instr := []
  deriving DecidableEq, Repr

/-- The state right after power-on reset, with nothing given from outside: every register at its reset value, AO_BOOT in
STATE 0 with start-up still to run (R452, R455), memory with nothing listed, and no command waiting. -/
def State.reset : State := {}

end Sys2Proof.Machine
end

