-- ==== Sys2Proof/Machine/Ops.lean ====
section
/-! DEFINITION. The operations that every meaning is built from: registers and their fields, fences, charging the
tellers, sending messages on the link, raising interrupts and writing ledger records. -/

namespace Sys2Proof.Machine

/-! ## Registers (R5 to R8) -/

/-- The value a register holds. -/
def State.reg (s : State) (off : Nat) : W64 := Sparse.get regReset s.regs off

/-- The state with a register set. -/
def State.setReg (s : State) (off : Nat) (v : W64) : State := { s with regs := Sparse.put regReset s.regs off v }

/-- The bits hi..lo of a register word. -/
def getBits (hi lo : Nat) (r : W64) : Nat := bitsOf r.toNat hi lo

/-- A register word with its bits hi..lo replaced by the low bits of a number. -/
def putBits (hi lo v : Nat) (r : W64) : W64 :=
  BitVec.ofNat 64 (r.toNat - bitsOf r.toNat hi lo * 2 ^ lo + v % 2 ^ (hi + 1 - lo) * 2 ^ lo)

/-- The value of a field. -/
def State.f (s : State) (x : Fld) : Nat := getBits x.hi x.lo (s.reg x.off)

/-- The state with a field set; bits beyond the field's width are dropped. -/
def State.setF (s : State) (x : Fld) (v : Nat) : State := s.setReg x.off (putBits x.hi x.lo v (s.reg x.off))

/-- A tally advanced by n, wrapping at the field's width. -/
def State.addF (s : State) (x : Fld) (n : Nat) : State := s.setF x (s.f x + n)

/-- The largest value a field holds. -/
def fldMax (x : Fld) : Nat := 2 ^ (x.hi + 1 - x.lo) - 1

/-- A count advanced by n, staying at the field's largest value once it is reached. -/
def State.satF (s : State) (x : Fld) (n : Nat) : State := s.setF x (clampTo (fldMax x) (s.f x + n))

/-- Whether bit i of a field is set. -/
def State.bit (s : State) (x : Fld) (i : Nat) : Bool := (s.f x).testBit i

/-- The state with bit i of a field set to a value. -/
def State.setBit (s : State) (x : Fld) (i : Nat) (b : Bool) : State :=
  let v := s.f x
  s.setF x (if v.testBit i = b then v else if b then v + 2 ^ i else v - 2 ^ i)

/-- Every register of [lo, hi) back at its reset value. -/
def State.clearRegs (s : State) (lo hi : Nat) : State := { s with regs := Sparse.clear lo hi s.regs }

/-- The state after a list of updates, in order. -/
def State.forEach {α : Type} (s : State) (l : List α) (g : State → α → State) : State := l.foldl g s

/-- Advances the counter of free values. -/
def State.bump (s : State) : State := { s with free := s.free + 1 }

/-- The next request number is taken. -/
def State.nextReq (s : State) : State := { s with nextId := s.nextId + 1 }

/-- Adds one observable action. -/
def State.emit (s : State) (o : Out) : State := { s with out := s.out ++ [o] }

/-- The device is in service (R465). -/
def State.inService (s : State) : Bool := s.f F.AO_BOOT_STATE == 2

/-! ## Units and fences (R14 to R19) -/

/-- The die of a cluster. -/
def dieOfCluster (c : Nat) : Nat := c / 4
/-- The cluster of a core. -/
def clusterOfCore (n : Nat) : Nat := n / 2
/-- The die of a core. -/
def dieOfCore (n : Nat) : Nat := n / 8
/-- The cluster of an understory channel. -/
def clusterOfChannel (n : Nat) : Nat := n / 12
/-- The die of a port in the numbering of R248: JX0–JX7 and MX0 on die 0, JX8–JX15 and MX1 on die 1. -/
def dieOfPort (p : Nat) : Nat := if p < 8 then 0 else if p < 16 then 1 else p - 16

/-- Whether die d is fenced. -/
def State.dieFenced (s : State) (d : Nat) : Bool := s.fences.contains (.die d)

/-- Whether cluster c is fenced, alone or with its die (R18). -/
def State.clusterFenced (s : State) (c : Nat) : Bool := s.fences.contains (.cluster c) || s.dieFenced (dieOfCluster c)

/-- Whether core n is fenced, alone or with its cluster or die. -/
def State.coreFenced (s : State) (n : Nat) : Bool := s.fences.contains (.core n) || s.clusterFenced (clusterOfCore n)

/-- Whether engine n is fenced, alone or with its core, cluster or die. -/
def State.engineFenced (s : State) (n : Nat) : Bool := s.fences.contains (.engine n) || s.coreFenced n

/-- Whether port p is covered by a die fence (R18). -/
def State.portFenced (s : State) (p : Nat) : Bool := s.dieFenced (dieOfPort p)

/-- Whether a block reset asks a core to go idle, alone or with its cluster (R460). -/
def State.coreStopped (s : State) (n : Nat) : Bool :=
  match s.boot.blk with
  | some b => (b.kind == 1 && b.unit == n) || (b.kind == 2 && b.unit == clusterOfCore n)
  | none => false

/-- Whether a cluster's new requests are held: for a block reset (Table 20-5), or because it has reported self-refresh to a
reset that is coming (R287). -/
def State.clusterHeld (s : State) (c : Nat) : Bool :=
  s.dramCtl.reported.contains c ||
    (match s.boot.blk with
    | some b => b.kind == 2 && b.unit == c
    | none => false)

/-- Epoch unit bits of Table 2-5: cores 0 to 15, clusters 16 to 23, JX and MX ports 24 to 41, die fabrics 42 and 43, POOL 44,
PAIR 45 and DET 46. Whether the unit at a bit is fenced (R52). -/
def State.unitBitFenced (s : State) (i : Nat) : Bool :=
  if i < 16 then s.coreFenced i
  else if i < 24 then s.clusterFenced (i - 16)
  else if i < 42 then s.portFenced (i - 24)
  else if i < 44 then s.dieFenced (i - 42)
  else false

/-- A unit mask without its fenced units. -/
def State.unfencedUnits (s : State) (m : Nat) : Nat :=
  ((List.range 47).map (fun i => if m.testBit i && !s.unitBitFenced i then 2 ^ i else 0)).sum

/-- SIT_STATUS.STATE codes (Table 2-11). -/
def sitIdle : Nat := 0
def sitLoading : Nat := 1
def sitStaged : Nat := 2
def sitArmed : Nat := 3
def sitCollecting : Nat := 4
def sitCommitting : Nat := 5

/-- Once every concerned unit has acknowledged, the commit count is set 1,000 ns ahead (R53). -/
def State.epochGathered (s : State) : State :=
  let units := s.f F.SIT_EPOCH_UNITS_MASK
  if s.f F.SIT_STATUS_STATE = sitCollecting ∧ units &&& s.f F.SIT_EPOCH_ACKED_MASK = units then
    let s := s.setF F.SIT_STATUS_STATE sitCommitting
    { s with epoch := { s.epoch with commit := s.count + 1000 } }
  else s

/-- A unit fenced during COLLECTING leaves the concerned set (R58). -/
def State.epochFenced (s : State) : State :=
  if s.f F.SIT_STATUS_STATE = sitCollecting then
    (s.setF F.SIT_EPOCH_UNITS_MASK (s.unfencedUnits (s.f F.SIT_EPOCH_UNITS_MASK))).epochGathered
  else s

/-- Adds a fence, once. -/
def State.addFence (s : State) (u : FenceUnit) : State :=
  if s.fences.contains u then s else ({ s with fences := s.fences ++ [u] }).epochFenced

/-- Whether understory channel n is fenced: its status reads FENCED, or its cluster is fenced. -/
def State.channelFenced (s : State) (n : Nat) : Bool :=
  s.f (F.UND_STS_STATE n) == 6 || s.clusterFenced (clusterOfChannel n)

/-! ## Epochs (R56) -/

/-- An update made under the configuration of the epoch in which its work was accepted or started: the old set of that
epoch, while the device keeps one (R56). -/
def State.under (s : State) (e : Nat) (g : State → State) : State :=
  match s.epoch.old.find? (fun x => x.1 == e) with
  | none => g s
  | some x =>
    let t := g { s with epoch := { s.epoch with active := x.2 } }
    { t with epoch := { t.epoch with active := s.epoch.active } }

/-- An update for an open request, under the epoch in which it was accepted and, for a JX request, in the class that it took
then (R330). -/
def State.underOpen (s : State) (id : Nat) (g : State → State) : State :=
  match s.opens.find? (fun (o : OpenReq) => o.id == id) with
  | some o =>
    let c := if o.host.isSome then s.epoch.classAs else some (o.req.tag, o.cls)
    let t := { s with epoch := { s.epoch with classAs := c } }.under o.epoch g
    { t with epoch := { t.epoch with classAs := s.epoch.classAs } }
  | none => g s

/-- An update for a pool operation, under the epoch in which it was accepted. -/
def State.underOp (s : State) (id : Nat) (g : State → State) : State :=
  match s.pool.ops.find? (fun (o : PoolOp) => o.id == id) with
  | some o => s.under o.epoch g
  | none => g s

/-! ## Interrupts (R445) -/

/-- Makes an MSI-X vector pending. -/
def State.raiseIrq (s : State) (v : Nat) : State := { s with irq := insertNat v s.irq }

/-! ## Tellers (R330, R336) -/

/-- The class of a tag: tag 0x000 is always class 0; a request that is served keeps the class that it has taken (R330). -/
def State.classOf (s : State) (t : Tag) : Nat :=
  match s.epoch.classAs with
  | some c => if c.1 = t then c.2 else if t = 0 then 0 else s.f (F.TLR_TAG_CLASS t.toNat)
  | none => if t = 0 then 0 else s.f (F.TLR_TAG_CLASS t.toNat)

/-- A class's guarantee at a regulated port, in MB/s (R334); it lapses at the memory ports of a fenced cluster (R339). -/
def State.guarantee (s : State) (p k : Nat) : Nat :=
  if p < 8 then
    if s.bit (F.TLR_CLASS_MASK_CLUSTER_MASK k) p && !s.clusterFenced p then 1000 * s.f (F.TLR_CLASS_CFG_G_CAN k) else 0
  else if p < 16 then
    if s.bit (F.TLR_CLASS_MASK_CLUSTER_MASK k) (p - 8) && !s.clusterFenced (p - 8) then 1000 * s.f (F.TLR_CLASS_CFG_G_UND k) else 0
  else if s.bit (F.TLR_CLASS_MASK_PORT_MASK k) (p - 16) then 1000 * s.f (F.TLR_CLASS_CFG_G_LINK k) else 0

/-- What an unlisted class holds at a port. -/
def tellerZero : Nat → Teller := fun _ => {}

/-- A class's state at a port. -/
def State.teller (s : State) (p k : Nat) : Teller := Sparse.get tellerZero s.tellers.st (64 * p + k)

/-- Sets a class's state at a port. -/
def State.setTeller (s : State) (p k : Nat) (t : Teller) : State :=
  { s with tellers := { s.tellers with st := Sparse.put tellerZero s.tellers.st (64 * p + k) t } }

/-- A transfer of some bytes of a class is granted at a port: charged as a priority grant while the class has a guarantee
there and its bucket is above 0, and counted as best effort otherwise (R336). -/
def State.chargeClass (s : State) (p k : Nat) (bytes : Nat) : State :=
  let t := s.teller p k
  if 0 < s.guarantee p k ∧ 0 < t.bucket then
    s.setTeller p k { t with bucket := t.bucket - bytes, bytes := t.bytes + BitVec.ofNat 64 bytes, windowS := t.windowS + bytes }
  else s.setTeller p k { t with beBytes := t.beBytes + BitVec.ofNat 64 bytes }

/-- A transfer of a class waited some ns at a port, from arrival to grant: longer than the class's latency target it is a latency
miss (R338). -/
def State.waited (s : State) (p k ns : Nat) : State :=
  let target := if p < 16 then s.f (F.TLR_CLASS_LAT_LAT_MEM_NS k) else s.f (F.TLR_CLASS_LAT_LAT_LINK_NS k)
  if target ≠ 0 ∧ target < ns then let t := s.teller p k; s.setTeller p k { t with latMiss := t.latMiss + 1 }
  else s

/-- A transfer of a tag, in the class of the tag. -/
def State.charge (s : State) (p : Nat) (tag : Tag) (bytes : Nat) : State := s.chargeClass p (s.classOf tag) bytes

/-! ## Per-host limits (R312, R313) -/

/-- The limiter entry of a node: the lowest valid entry that names it, else the shared bucket, 1,024. -/
def State.limiterOf (s : State) (src : Node) : Nat :=
  ((List.range 1024).find? (fun j => s.f (F.POOL_LIM_VALID j) == 1 && s.f (F.POOL_LIM_NODE j) == src.toNat)).getD 1024

/-- RATE of a limiter; 0 means unlimited. -/
def State.limiterRate (s : State) (j : Nat) : Nat := if j < 1024 then s.f (F.POOL_LIM_RATE j) else s.f F.POOL_CFG_DEFAULT_RATE

/-- An empty bucket where unlisted. -/
def noBucket : Nat → Bucket := fun _ => {}

/-- A limiter's bucket. -/
def State.bucket (s : State) (j : Nat) : Int := (Sparse.get noBucket s.pool.buckets j).bytes

/-- Sets a limiter's bucket. -/
def State.setBucket (s : State) (j : Nat) (n : Int) : State :=
  { s with pool := { s.pool with buckets := Sparse.put noBucket s.pool.buckets j ⟨n⟩ } }

/-- Charges a source's bucket, unless it is unlimited. -/
def State.chargeHost (s : State) (src : Node) (n : Nat) : State :=
  let j := s.limiterOf src
  if s.limiterRate j = 0 then s else s.setBucket j (s.bucket j - n)

/-- Whether a source is over its limit (R313). -/
def State.overLimit (s : State) (src : Node) : Bool :=
  let j := s.limiterOf src
  s.limiterRate j != 0 && decide (s.bucket j < 0)

/-! ## Tokens (R235, R236) -/

/-- A token never used, where unlisted. -/
def noToken : Nat → TokenSt := fun _ => {}

/-- The token table's entry. -/
def State.tokenSt (s : State) (i : Nat) : TokenSt := Sparse.get noToken s.tokens i

/-- Sets a token table's entry. -/
def State.setToken (s : State) (i : Nat) (t : TokenSt) : State := { s with tokens := Sparse.put noToken s.tokens i t }

/-- USED of a die's tokens. -/
def usedFld (d : Nat) : Fld := if d = 0 then F.JX_TOKENS_USED0 else F.JX_TOKENS_USED1
/-- PEAK of a die's tokens. -/
def peakFld (d : Nat) : Fld := if d = 0 then F.JX_TOKENS_PEAK0 else F.JX_TOKENS_PEAK1

/-- The lowest free token of a die. -/
def State.freeToken (s : State) (d : Nat) : Option Nat :=
  (List.range 4096).find? (fun i => !(s.tokenSt (4096 * d + i)).used)

/-- The 32-bit token: index, die, generation (R235). -/
def tokenWord (d i gen : Nat) : W32 := BitVec.ofNat 32 (i + 2 ^ 12 * d + 2 ^ 13 * (gen % 2 ^ 19))

/-- Tokens that a port holds. -/
def State.tokensOf (s : State) (p : Nat) : Nat := (s.tokens.filter (fun e => e.2.used && e.2.port == p)).length

/-- The tokens that a port can still draw (R235): its unused ones of the 256 reserved for it, and its die's unused ones of
the 1,792 shared. A port's tokens above 256 count as shared. -/
def State.tokensLeft (s : State) (p : Nat) : Nat :=
  let ports := (List.range 18).filter (fun q => dieOfPort q == dieOfPort p)
  (256 - s.tokensOf p) + (1792 - (ports.map (fun q => s.tokensOf q - 256)).sum)

/-- Draws a token for a request of a port (R235): its generation advances each time it is reused. -/
def State.drawToken (s : State) (port : Nat) : Option (State × W32) :=
  let d := dieOfPort port
  if s.tokensLeft port = 0 then none else
  (s.freeToken d).map (fun i =>
    let t := s.tokenSt (4096 * d + i)
    let s := s.setToken (4096 * d + i) { gen := t.gen + 1, used := true, port := port }
    let s := s.setF (usedFld d) (s.f (usedFld d) + 1)
    let s := s.setF (peakFld d) (max (s.f (peakFld d)) (s.f (usedFld d)))
    (s, tokenWord d i t.gen))

/-- Frees the token of a table index. -/
def State.freeTokenAt (s : State) (idx : Nat) : State :=
  let t := s.tokenSt idx
  if t.used then
    let d := idx / 4096
    (s.setToken idx { t with used := false }).setF (usedFld d) (s.f (usedFld d) - 1)
  else s

/-- The table index of a token. -/
def tokenIndex (w : W32) : Nat := 4096 * bitsOf w.toNat 12 12 + bitsOf w.toNat 11 0

/-! ## The link: sending (R216, R217, R227, R231, R240) -/

/-- What an unlisted port holds. -/
def portZero : Nat → Port := fun _ => {}

/-- A port's link state. -/
def State.port (s : State) (p : Nat) : Port := Sparse.get portZero s.ports p

/-- Sets a port's link state. -/
def State.setPort (s : State) (p : Nat) (x : Port) : State := { s with ports := Sparse.put portZero s.ports p x }

/-- Whether a port is ACTIVE and not fenced. -/
def State.portActive (s : State) (p : Nat) : Bool := s.f (F.JX_PORT_STS_STATE p) == 3 && !s.portFenced p

/-- The virtual channel of a message: 0 REQ, 1 RSP, 2 NTC, 3 CTL (Table 9-2). -/
def FType.vc : FType → Nat
  | .rd | .wr | .flush => 0
  | .rsp | .rspd => 1
  | .notice => 2
  | .creq | .crsp | .sync => 3
  | .idle | .lctl | .data => 3

/-- The TYPE code of a flit (Table 9-2). -/
def FType.code : FType → Nat
  | .idle => 0 | .lctl => 1 | .rd => 2 | .wr => 3 | .flush => 4 | .rsp => 5 | .rspd => 6 | .data => 7
  | .notice => 8 | .creq => 9 | .crsp => 10 | .sync => 11

/-- Whether a message is a request, for the route rule. -/
def FType.isRequest : FType → Bool
  | .rd | .wr | .flush | .creq => true
  | _ => false

/-- The number of flits of a message (Table 9-2). -/
def Msg.flitCount (m : Msg) : Nat := max 1 (ceilDiv m.payload.length 240)

/-- The credit field of a virtual channel. -/
def creditFld (p vc : Nat) : Fld :=
  match vc with
  | 0 => F.JX_PORT_CREDIT_REQ p
  | 1 => F.JX_PORT_CREDIT_RSP p
  | 2 => F.JX_PORT_CREDIT_NTC p
  | _ => F.JX_PORT_CREDIT_CTL p

/-- The group mask of the first route entry that matches a destination (R217, rule 1). -/
def State.routeGroups (s : State) (dst : Node) : Option Nat :=
  ((List.range 64).find? (fun i =>
    s.f (F.JX_ROUTE_VALID i) == 1 &&
      (dst.toNat &&& s.f (F.JX_ROUTE_MASK i)) == (s.f (F.JX_ROUTE_MATCH i) &&& s.f (F.JX_ROUTE_MASK i)))).map
    (fun i => s.f (F.JX_ROUTE_GROUPS i))

/-- The ACTIVE ports of a group mask, ascending (R217, rule 2). -/
def State.candidates (s : State) (groups : Nat) : List Nat :=
  (List.range 18).filter (fun p => s.portActive p && groups.testBit (s.f (F.JX_PORT_CFG_GROUP p)))

/-- The number by which rule 3 of R217 chooses among the candidates. -/
def Msg.pathHash (m : Msg) : Nat :=
  let d := m.dst.toNat % 1024
  if m.ftype.isRequest then bitsOf (leNat (m.payload.take 8)) 21 12 ^^^ d else d

/-- The port a flit leaves by under the route table (R217). -/
def State.route (s : State) (m : Msg) : Option Nat :=
  match s.routeGroups m.dst with
  | none => none
  | some g =>
    let c := s.candidates g
    (c.drop (m.pathHash % c.length)).head?

/-- The port on which a message that no route takes would have left (R217): a response's own port, else the one that rule 3
takes among the ports of the entry's groups, ACTIVE or not, and JX0 where no entry matches. DEDUCED. -/
def State.wouldLeave (s : State) (m : Msg) (own : Option Nat) : Nat :=
  match own with
  | some p => p
  | none =>
    match s.routeGroups m.dst with
    | none => 0
    | some g =>
      let c := (List.range 18).filter (fun p => g.testBit (s.f (F.JX_PORT_CFG_GROUP p)))
      ((c.drop (m.pathHash % c.length)).head?).getD 0

/-- The flits of a message, header and payload cut into pieces of 240 bytes (R219, R222). -/
def Msg.cut (m : Msg) (load : Nat) : List Flit :=
  let n := m.flitCount
  (List.range n).map (fun i =>
    let body := (m.payload.drop (240 * i)).take 240
    { ftype := if i = 0 then m.ftype.code else 7
      tag := m.tag, src := m.src, dst := m.dst, txn := m.txn, load := load
      attr := if i = 0 then m.attr else i + 32 * m.ftype.vc + (if i + 1 = n then 128 else 0)
      crVc := 0, crCount := 0, lseq := 0, lvalid := false, nak := false
      payload := body ++ List.replicate (240 - body.length) 0 })

/-- The header of a flit as one 96-bit number (Table 9-1). -/
def Flit.header (f : Flit) : Nat :=
  f.ftype % 16 + f.tag.toNat * 2 ^ 4 + 2 ^ 16 * f.src.toNat + 2 ^ 32 * f.dst.toNat + 2 ^ 48 * f.txn.toNat +
    2 ^ 64 * (f.load % 16) + 2 ^ 68 * (f.attr % 256) + 2 ^ 76 * (f.crVc % 4) + 2 ^ 78 * (f.crCount % 64) + 2 ^ 84 * (f.lseq % 1024) +
    (if f.lvalid then 2 ^ 94 else 0) + (if f.nak then 2 ^ 95 else 0)

/-- The 256 bytes of a flit, CRC included (R219). -/
def Flit.bytes (f : Flit) : Bytes := flitSeal (leBytes 12 f.header ++ (f.payload ++ List.replicate (240 - f.payload.length) 0).take 240)

/-- A flit as it goes out now: it carries the port's acknowledgement and a credit total (R220, R227, R231). -/
def State.stamp (s : State) (p : Nat) (vc : Nat) (f : Flit) : Flit :=
  { f with crVc := vc, crCount := (s.port p).announced.getD vc 0 % 64, lseq := s.f (F.JX_PORT_STS_RX_EXPECT p), lvalid := true }

/-- Bits of an 8-bit mask. -/
def maskBits (m : Nat) : List Nat := (List.range 8).filter (fun i => m.testBit i)

/-- The transmit lanes of a port in the order of its logical lanes (R256): all eight, or the four lowest that the peer
receives well. -/
def State.txLanes (s : State) (p : Nat) : List Nat :=
  if s.f (F.JX_PORT_CFG_LANES8 p) = 1 then List.range 8 else (maskBits (s.f (F.OPT_STS_PEER_RX_GOOD p))).take 4

/-- What the lanes of a port carry for a code word (R251). -/
def State.onLanes (s : State) (p : Nat) (word : Bytes) : List LaneOut :=
  List.zipWith LaneOut.mk (s.txLanes p) (stripe (s.txLanes p).length word)

/-- The code word of a flit (R219). -/
def Flit.word (f : Flit) : Bytes := f.bytes ++ flitParity f.bytes

/-- Sends a flit that belongs to the link layer, or that is replayed. -/
def State.sendFlit (s : State) (p : Nat) (f : Flit) : State := s.emit (.flit p f (s.onLanes p f.word))

/-! ## The flip mask (R389) -/

/-- Whether the armed flip mask matches a write of a tag through a target and unit. -/
def State.flipMatches (s : State) (target unit : Nat) (tag : Tag) : Bool :=
  s.f F.LDG_FLIP_SEL_ARM == 1 && s.f F.LDG_FLIP_SEL_TARGET == target && s.f F.LDG_FLIP_SEL_UNIT == unit &&
    tag != 0 && (s.f F.LDG_FLIP_SEL_TAG == 0 || s.f F.LDG_FLIP_SEL_TAG == tag.toNat)

/-- The mask XORed into the eight bytes that start at OFFSET; bytes beyond the end are not flipped. -/
def flipBytes (mask : W64) (off : Nat) (bs : Bytes) : Bytes :=
  bs.zipIdx.map (fun p =>
    if off ≤ p.2 ∧ p.2 < off + 8 then p.1 ^^^ BitVec.ofNat 8 (bitsOf mask.toNat (8 * (p.2 - off) + 7) (8 * (p.2 - off))) else p.1)

/-- The code word of a flit with the mask applied: before the inner code when PRE_CODE is 1, after it otherwise. -/
def State.flipCodeWord (s : State) (f : Flit) : Bytes :=
  let m := s.reg R.LDG_FLIP_MASK
  let off := s.f F.LDG_FLIP_SEL_OFFSET
  if s.f F.LDG_FLIP_SEL_PRE_CODE = 1 then
    let b := flipBytes m off f.bytes
    b ++ flitParity b
  else flipBytes m off (f.bytes ++ flitParity f.bytes)

/-- The flip mask on the first flit of a message sent at a port: the code word goes out corrupted and ARM clears; the
record is written once the message is away. -/
def State.flipFlit (s : State) (p : Nat) (m : Msg) (load : Nat) : State :=
  if s.flipMatches 5 p m.tag then
    match m.cut load with
    | [] => s
    | f :: _ =>
      let w := s.flipCodeWord (s.stamp p 0 f)
      let s := s.emit (.codeWord p w (s.onLanes p w))
      let s := s.setF F.LDG_FLIP_SEL_ARM 0
      { s with integ := { s.integ with flitFlip := some (p, m.tag) } }
  else s

/-! ## Sending -/

/-- The tokens of a die in use (R235). -/
def State.tokensUsed (s : State) (d : Nat) : Nat := if d = 0 then s.f F.JX_TOKENS_USED0 else s.f F.JX_TOKENS_USED1

/-- The load indicator of a flit sent at a port (R240): the larger of the occupancies of the port's REQ receive buffer
and of its die's token pool, in sixteenths, at most 15. A response adds the cluster's queue, as loadFor says. -/
def State.loadOf (s : State) (p : Nat) : Nat :=
  let h := (s.port p).held.getD 0 0
  clampTo 15 (max (16 * h / 256) (16 * s.tokensUsed (dieOfPort p) / 4096))

/-- Whether a port can take a message now: it is ACTIVE, holds a credit for every flit and has room in its replay
buffer (R227, R231). -/
def State.canSend (s : State) (p : Nat) (m : Msg) : Bool :=
  s.portActive p && decide (m.flitCount ≤ s.f (creditFld p m.ftype.vc)) &&
    decide ((s.port p).replay.length + m.flitCount ≤ 512)

/-- The table index of the token that a COMPLETION notice carries (R237, Table 9-4). -/
def Msg.token (m : Msg) : Option Nat :=
  if m.ftype = .notice ∧ fieldLe m.payload 0 1 = 1 then some (tokenIndex (BitVec.ofNat 32 (fieldLe m.payload 4 4))) else none

/-- Sends a message on a port: its flits take transmit numbers and enter the replay buffer, spend credits and carry the
port's acknowledgement. A COMPLETION notice's token waits for the acknowledgement of its last flit (R236). -/
def State.sendNow (s : State) (p : Nat) (m : Msg) (cls load : Nat) : State :=
  let n := m.flitCount
  let pt := s.port p
  let last := (s.f (F.JX_PORT_STS_TX_NEXT p) + n + 1023) % 1024
  let s := s.setPort p { pt with
    replay := pt.replay ++ m.cut load
    progressAt := if pt.replay.isEmpty then s.count else pt.progressAt
    tokenWaits := pt.tokenWaits ++ (match m.token with | some i => [⟨i, last⟩] | none => [])
    taken := 0
    lastAck := s.count }
  let s := s.setF (creditFld p m.ftype.vc) (s.f (creditFld p m.ftype.vc) - n)
  let s := s.addF (F.JX_PORT_STS_TX_NEXT p) n
  let s := s.addF (F.JX_PORT_TALLY_COUNT p 0) n
  let s := if m.ftype.vc = 3 then s else s.chargeClass (16 + p) cls (240 * n)
  (s.emit (.msg p s.count m)).flipFlit p m load

/-- Priority of a message among those that wait at a port (R228): CTL first, then RSP and NTC, then REQ. -/
def Msg.rank (m : Msg) : Nat :=
  match m.ftype.vc with
  | 3 => 0
  | 1 => 1
  | 2 => 1
  | _ => 2

/-- Whether an answer or a notice goes to a source that is over its limit (R313, R337). -/
def State.overFor (s : State) (m : Msg) : Bool := !m.ftype.isRequest && s.overLimit m.dst

/-- Place of a waiting message in the order of R228 and R337, the least first: its rank; then a class with a bucket above
0 by deadline and class number, best effort by age, and a source over its limit by age. The CTL channel keeps its order of
arrival. -/
def State.grantKey (s : State) (p : Nat) (q : Queued) : Nat :=
  let k := q.cls
  let far := 2 ^ 200
  let lat := s.f (F.TLR_CLASS_LAT_LAT_LINK_NS k)
  let place (group major minor : Nat) : Nat := (q.msg.rank * 4 + group) * (64 * (far + 1)) + 64 * clampTo far major + minor
  if q.msg.rank = 0 then place 0 0 0
  else if s.overFor q.msg then place 2 q.since 0
  else if 0 < s.guarantee (16 + p) k ∧ 0 < (s.teller (16 + p) k).bucket then
    place 0 (if lat = 0 then far else q.since + lat) k
  else place 1 q.since 0

/-- The waiting message that a port sends next, among those that can go; ties go to the older. -/
def State.nextToSend (s : State) (p : Nat) : Option Queued :=
  ((s.port p).queue.filter (fun q => s.canSend p q.msg)).foldl (fun best q =>
    match best with
    | none => some q
    | some b => if s.grantKey p q < s.grantKey p b then some q else some b) none

/-- A notice that goes out now carries the present count (R237). -/
def Msg.sentAt (m : Msg) (count : Nat) : Msg :=
  if m.ftype = .notice then { m with payload := m.payload.take 8 ++ leBytes 8 count ++ m.payload.drop 16 } else m

/-- Sends waiting messages of a port while any can go; each message is taken out of the queue as it is sent. -/
def State.pump (s : State) (p : Nat) : Nat → State
  | 0 => s
  | n + 1 =>
    match s.nextToSend p with
    | none => s
    | some q =>
      let pt := s.port p
      let s := if q.msg.ftype.vc = 3 then s else s.waited (16 + p) q.cls (s.count - q.since)
      let load := if s.overFor q.msg then 15 else s.loadOf p
      State.pump ((s.setPort p { pt with queue := pt.queue.erase q }).sendNow p (q.msg.sentAt s.count) q.cls load) p n

/-- Sends a message on a chosen port, or queues it there until credits and replay room allow it. -/
def State.sendOn (s : State) (p : Nat) (m : Msg) (load : Nat) : State :=
  if (s.port p).queue.isEmpty && s.canSend p m then s.sendNow p m (s.classOf m.tag) load
  else
    let pt := s.port p
    let s := s.setPort p { pt with queue := pt.queue ++ [⟨m, s.count, s.classOf m.tag⟩] }
    s.pump p (pt.queue.length + 1)

/-- Counts a dropped message at a port. -/
def State.countDrop (s : State) (p : Nat) : State := s.addF (F.JX_PORT_TALLY_COUNT p 6) 1

/-! ## Notices (R237) -/

/-- Notice types (Table 9-4). -/
def ntCompletion : Nat := 1
def ntEpoch : Nat := 2
def ntStall : Nat := 3
def ntKernelDone : Nat := 4
def ntMintDone : Nat := 5
def ntLedger : Nat := 6
def ntRevoke : Nat := 7
def ntPair : Nat := 8
def ntTest : Nat := 9
def ntGuarantee : Nat := 10

/-- The device's node identifier (R216). -/
def State.node (s : State) : Node := BitVec.ofNat 16 (s.f F.JX_NODE_ID)

/-- A notice message: header STATUS, NTYPE, TOKEN and body. -/
def State.notice (s : State) (src dst : Node) (txn : W16) (tag : Tag) (ntype status token : Nat) (body : Bytes) : Msg where
  ftype := .notice
  tag := tag
  src := src
  dst := dst
  txn := txn
  attr := status
  payload := leBytes 1 ntype ++ leBytes 1 0 ++ leBytes 2 body.length ++ leBytes 4 token ++ leBytes 8 s.count ++ body

/-! ## The ledger (R382 to R387) -/

/-- An error event, as the unit that detects it reports it. Numbers that do not apply are 0xFF (R16). -/
structure Event where
  code : Nat
  tag : Tag := 0
  die : Nat := 0xFF
  cluster : Nat := 0xFF
  core : Nat := 0xFF
  engine : Nat := 0xFF
  unitKind : Nat := 0
  unit : Nat := 0
  op : Nat := 0
  flags : Nat := 0
  addr : Nat := 0
  src : Node := 0
  detail : Bytes := []
  deriving DecidableEq, Repr

/-- The cluster that a unit of a kind belongs to (Tables 1-1, 16-4). -/
def unitCluster (kind unit : Nat) : Option Nat :=
  match kind with
  | 2 => some unit
  | 3 => some (unit / 12)
  | 4 => some (unit / 4)
  | 6 | 7 | 8 | 9 => some unit
  | 10 => if unit < 16 then some (unit % 8) else none
  | 15 => if unit < 16 then some (unit / 2) else if unit < 24 then some (unit - 16) else none
  | _ => none

/-- The die that a unit of a kind belongs to. -/
def unitDie (kind unit : Nat) : Option Nat :=
  match kind with
  | 1 | 12 => some (dieOfPort unit)
  | 5 => some (unit / 48)
  | 10 => if unit < 16 then some (unit % 8 / 4) else some (dieOfPort (unit - 16))
  | 13 | 14 => some 0
  | 15 => if unit < 24 then (unitCluster 15 unit).map dieOfCluster else some (unit - 24)
  | k => (unitCluster k unit).map dieOfCluster

/-- An event with the die and cluster numbers that its unit has, where it names none (R16). -/
def Event.placed (e : Event) : Event :=
  { e with
    die := if e.die = 0xFF then (unitDie e.unitKind e.unit).getD 0xFF else e.die
    cluster := if e.cluster = 0xFF then (unitCluster e.unitKind e.unit).getD 0xFF else e.cluster }

/-- Flag bits of a record (Table 16-3). -/
def flagPoisoned : Nat := 1
def flagRepaired : Nat := 2
def flagFence : Nat := 4
def flagMerged : Nat := 8
def flagInjected : Nat := 16

/-- The 60 bytes of a record before its CRC (Table 16-3). -/
def Record.body (r : Record) : Bytes :=
  leBytes 8 r.count ++ leBytes 4 r.seq ++ leBytes 2 r.code ++ leBytes 2 r.tag.toNat ++ leBytes 1 r.die ++
    leBytes 1 r.cluster ++ leBytes 1 r.core ++ leBytes 1 r.engine ++ leBytes 1 r.unitKind ++ leBytes 1 r.unit ++
    leBytes 1 r.op ++ leBytes 1 r.flags ++ leBytes 8 r.addr ++ leBytes 2 r.temp ++ leBytes 2 r.rail ++
    leBytes 4 r.rep ++ leBytes 2 r.src.toNat ++ List.replicate 6 0 ++
    (r.detail ++ List.replicate (12 - r.detail.length) 0).take 12

/-- The 64 bytes of a record (Table 16-3). -/
def Record.bytes (r : Record) : Bytes := r.body ++ leBytes 4 (crc32c r.body).toNat

/-- The records of the rings; nothing where unlisted. -/
def ringZero : Nat → Option Record := fun _ => none

/-- A reading in the table of die sensors and rails; 0 where not measured. -/
def natZero : Nat → Nat := fun _ => 0

/-- The ring a record goes to: its die's, or die 0's when it names no die or die 1 is fenced (R383). -/
def State.ringOf (s : State) (die : Nat) : Nat := if die = 1 ∧ !s.dieFenced 1 then 1 else 0

/-- Raises an in-band interrupt with a data byte while IBI is enabled; an event merges into one that is pending (R489). -/
def State.ibi (s : State) (b : Nat) : State :=
  if s.mgmt.ibiEnabled && !s.mgmt.ibiPending then ({ s with mgmt := { s.mgmt with ibiPending := true } }).emit (.ibi b) else s

/-- Whether a start-up attempt has not reached step 9, so that its records wait (R462). -/
def State.beforeStores (s : State) : Bool :=
  s.f F.AO_BOOT_STATE == 1 && decide (1 ≤ s.f F.AO_BOOT_STEP) && decide (s.f F.AO_BOOT_STEP ≤ 8)

/-- Places a record in ring d, overwriting the oldest when the ring is full, and raises its interrupts and its notice
(R383, R386, R489). -/
def State.putRing (s : State) (d : Nat) (r : Record) : State :=
  let tail := s.f (F.LDG_TAIL_SEQ d)
  let head := s.f (F.LDG_HEAD_SEQ d)
  let r := { r with seq := tail }
  let full := (tail + 2 ^ 32 - head) % 2 ^ 32 == 8192
  let s := { s with integ := { s.integ with ring := Sparse.put ringZero s.integ.ring (8192 * d + tail % 8192) (some r) } }
  let s := s.setF (F.LDG_TAIL_SEQ d) (tail + 1)
  let s := if full then (s.setF (F.LDG_HEAD_SEQ d) (head + 1)).satF (F.LDG_STS_LOST d) 1 else s
  let cls := r.code / 256
  let s := if s.bit F.LDG_MASK_INT_CLASSES cls then s.raiseIrq 0 else s
  let s := if s.bit F.MGT_CFG_IBI_CLASSES cls then s.ibi 1 else s
  let dst : Node := BitVec.ofNat 16 (s.f F.LDG_CFG_NOTICE_NODE)
  if s.bit F.LDG_MASK_NOTICE_CLASSES cls && dst != 0 then
    let m := s.notice s.node dst 0 r.tag ntLedger 0 0 r.bytes
    match s.route m with
    | some p => s.sendOn p m (s.loadOf p)
    | none => s.countDrop (s.wouldLeave m none)
  else s

/-- Writes a record: a record of start-up steps 1 to 8 waits for step 9 (R462). -/
def State.putRecord (s : State) (r : Record) : State :=
  if s.beforeStores then { s with boot := { s.boot with early := s.boot.early ++ [r] } } else s.putRing (s.ringOf r.die) r

/-- The record an event makes now. -/
def State.recordOf (s : State) (e : Event) : Record where
  count := s.count
  seq := 0
  code := e.code
  tag := e.tag
  die := e.die
  cluster := e.cluster
  core := e.core
  engine := e.engine
  unitKind := e.unitKind
  unit := e.unit
  op := e.op
  flags := e.flags
  addr := e.addr
  temp := Sparse.get natZero s.dieTemp (if e.die = 1 then 1 else 0)
  rail := Sparse.get natZero s.railMv (if e.die = 1 then 1 else 0)
  rep := 1
  src := e.src
  detail := e.detail

/-- Whether two records have the same merge key: CODE, bytes 16 to 21, JOB_TAG and ADDR (R385). -/
def Record.sameKey (a b : Record) : Bool :=
  a.code == b.code && a.die == b.die && a.cluster == b.cluster && a.core == b.core && a.engine == b.engine &&
    a.unitKind == b.unitKind && a.unit == b.unit && a.tag == b.tag && a.addr == b.addr

/-- The merge entries of a ring's die, oldest first. -/
def State.merges (s : State) (d : Nat) : List Merge := if d = 0 then s.integ.merge0 else s.integ.merge1

/-- Sets the merge entries of a die. -/
def State.setMerges (s : State) (d : Nat) (l : List Merge) : State :=
  if d = 0 then { s with integ := { s.integ with merge0 := l } } else { s with integ := { s.integ with merge1 := l } }

/-- The merge window in ns (R385). -/
def State.mergeNs (s : State) : Nat := 1000 * s.f F.LDG_CFG_MERGE_US

/-- Closes a merge entry: with merged events, it writes one summary record (R385). -/
def State.closeMerge (s : State) (m : Merge) : State :=
  if m.n = 0 then s
  else s.putRecord { m.record with count := m.lastAt, rep := m.n, flags := m.record.flags ||| flagMerged }

/-- Reports an error event: it is merged into an open entry of its key, or written and opened as a new entry, the
oldest of 16 entries giving way (R385). A record with FLAGS.FENCE is never merged. -/
def State.ledger (s : State) (e : Event) : State :=
  let e := e.placed
  let r := s.recordOf e
  let d := s.ringOf e.die
  if s.mergeNs = 0 ∨ e.flags.testBit 2 then s.putRecord r
  else
    let l := s.merges d
    match l.find? (fun m => m.record.sameKey r && decide (s.count < m.openedAt + s.mergeNs)) with
    | some m =>
      s.setMerges d (l.map (fun x => if x = m then { m with n := m.n + 1, lastAt := s.count } else x))
    | none =>
      let stale := l.filter (fun m => m.record.sameKey r)
      let rest := l.filter (fun m => !m.record.sameKey r)
      let out := if rest.length < 16 then stale else stale ++ rest.take 1
      let keep := if rest.length < 16 then rest else rest.drop 1
      let s := s.setMerges d (keep ++ [{ record := r, openedAt := s.count, n := 0, lastAt := s.count }])
      (s.forEach out State.closeMerge).putRecord r

/-! ## Sending with its reports (R217, R237) -/

/-- A message that no route takes is dropped, counted and recorded at the port on which it would have left: NOTICE_DROP
for a notice, LINK_NO_ROUTE for any other message (R217, R237, R247). A dropped COMPLETION frees its token (R236). -/
def State.dropMsg (s : State) (m : Msg) (own : Option Nat) : State :=
  let p := s.wouldLeave m own
  let s := match m.token with | some i => s.freeTokenAt i | none => s
  (s.countDrop p).ledger
    { code := if m.ftype = .notice then 0x0107 else 0x0105, tag := m.tag, die := dieOfPort p, unitKind := 1, unit := p,
      addr := m.dst.toNat, src := m.src }

/-- Writes the FLIP_APPLIED record of a flit that the mask has corrupted (R389). -/
def State.settleFlip (s : State) : State :=
  match s.integ.flitFlip with
  | none => s
  | some (p, tag) =>
    ({ s with integ := { s.integ with flitFlip := none } }).ledger
      { code := 0x0D02, tag := tag, die := dieOfPort p, unitKind := 1, unit := p, op := 15, flags := flagInjected, addr := p }

/-- Sends a message on a port, with the record of a flip. -/
def State.sendAt (s : State) (p : Nat) (m : Msg) (load : Nat) : State := (s.sendOn p m load).settleFlip

/-- Sends a message by the route table; own is the port that it was to leave by, when it is routed for a second time or is a
response. -/
def State.sendBy (s : State) (m : Msg) (own : Option Nat) : State :=
  match s.route m with
  | some p => s.sendAt p m (s.loadOf p)
  | none => s.dropMsg m own

/-- Sends a message by the route table. -/
def State.sendRouted (s : State) (m : Msg) : State := s.sendBy m none

/-- Sends a response by its arrival port while that port is ACTIVE, and by the route table otherwise (R217). -/
def State.sendResponse (s : State) (p : Nat) (m : Msg) (load : Nat) : State :=
  if s.portActive p then s.sendAt p m load else s.sendBy m (some p)

/-- Sends a device notice to a node. -/
def State.sendNotice (s : State) (dst : Node) (tag : Tag) (ntype : Nat) (body : Bytes) : State :=
  s.sendRouted (s.notice s.node dst 0 tag ntype 0 0 body)

/-- Sends a device notice unless the node is 0x0000, which stands for none. -/
def State.noticeTo (s : State) (dst : Nat) (tag : Tag) (ntype : Nat) (body : Bytes) : State :=
  if dst = 0 then s else s.sendNotice (BitVec.ofNat 16 dst) tag ntype body

end Sys2Proof.Machine
end

