-- ==== Sys2Proof/Machine/Mem.lean ====
section
/-! DEFINITION. Memory: where each grain lies (R63, R264, R269 to R271), the inline code on every read and write (R265
to R268), the corrected-error table (R367), the flip mask (R389), the stores (R365, R366) and the canopy cache (R70 to
R73, R77, R79). -/

namespace Sys2Proof.Machine

/-! ## Pool addresses (R61, R63) -/

/-- The space of a pool address, PA[55:52]. -/
def spaceOf (a : PA) : Nat := a.toNat / 2 ^ 52
/-- The offset within the space, PA[51:0]. -/
def offsetOf (a : PA) : Nat := a.toNat % 2 ^ 52
/-- The page number P, PA[51:21]. -/
def pageOf (a : PA) : Nat := offsetOf a / 2 ^ 21
/-- The owning cluster of page P (R63). -/
def ownerOf (p : Nat) : Nat := p % 8
/-- The local page number of page P (R63). -/
def localPage (p : Nat) : Nat := p / 8
/-- The pool address of an offset in a space. -/
def poolAddr (space off : Nat) : PA := BitVec.ofNat 56 (2 ^ 52 * space + off)
/-- The address of the grain that holds an address. -/
def grainOf (a : PA) : PA := BitVec.ofNat 56 (128 * (a.toNat / 128))

/-! ## Where the bytes lie (R264, R269 to R271) -/

/-- The raw place of a grain: memory unit, raw byte of its data, raw byte of its check bytes. -/
structure GrainLoc where
  unit : Nat
  data : Nat
  check : Nat
  deriving DecidableEq, Repr

/-- The key of a raw byte in the DRAM table. -/
def rawKey (unit raw : Nat) : Nat := 2 ^ 36 * unit + raw

/-- The map of R269: a cluster-local data offset over the covered units, from a start. -/
def locIn (units : List Nat) (start o : Nat) : Option GrainLoc :=
  let m := units.length
  if m = 0 then none
  else
    let d := 512 * (o / (512 * m)) + o % 512
    let i := d / 2048
    some { unit := units.getD (o / 512 % m) 0
           data := start + 2176 * i + 128 * (d % 2048 / 128)
           check := start + 2176 * i + 2048 + 8 * (d % 2048 / 128) }

/-- Whether understory channel n is enabled (R272). -/
def State.channelEnabled (s : State) (n : Nat) : Bool :=
  if n < 64 then s.bit F.UND_EN_LO_MASK n else s.bit F.UND_EN_HI_MASK (n - 64)

/-- The memory units of a cluster's enabled understory channels, ascending (R270). -/
def State.undUnits (s : State) (c : Nat) : List Nat :=
  ((List.range 12).filter (fun i => s.channelEnabled (12 * c + i))).map (fun i => 512 + 12 * c + i)

/-- The 64 pseudo-channels of a stack (R271). -/
def canUnits (c : Nat) : List Nat := (List.range 64).map (fun i => 64 * c + i)

/-- The understory home of a byte offset in a cluster's understory (R270). -/
def State.undLoc (s : State) (c o : Nat) : Option GrainLoc := locIn (s.undUnits c) 0 o

/-- CACHE_STEPS of a stack. -/
def State.cacheSteps (s : State) (c : Nat) : Nat := s.f (F.CAN_SPLIT_CACHE_STEPS c)

/-- The place of a byte offset in a stack's direct part (R271). -/
def State.directLoc (s : State) (c o : Nat) : Option GrainLoc := locIn (canUnits c) (2 ^ 27 * s.cacheSteps c) o

/-- The place of a byte of a cache line: way w of set n (R271). -/
def State.lineLoc (s : State) (c set way o : Nat) : Option GrainLoc :=
  locIn (canUnits c) 0 (7864320 * s.cacheSteps c + 4096 * (4 * set + way) + o)

/-! ## Pages (R63, R64, R68) -/

/-- Whether an understory page is populated. -/
def State.undPopulated (s : State) (p : Nat) : Bool := decide (localPage p < s.f (F.UND_PAGES_PAGES (ownerOf p)))

/-- Whether a direct canopy page is populated. -/
def State.canPopulated (s : State) (p : Nat) : Bool := decide (localPage p < s.f (F.CAN_SPLIT_DIRECT_PAGES (ownerOf p)))

/-- The regions in force. -/
def State.regions (s : State) : List Region := s.epoch.active.str.regions

/-- Whether a page lies in a page range. -/
def inPages (p base n : Nat) : Bool := decide (base ≤ p) && decide (p < base + n)

/-- Whether a region or one of its areas covers a page of its space (R82, R83). -/
def Region.covers (r : Region) (p : Nat) : Bool :=
  inPages p r.base r.pages || (r.packed && (inPages p r.dirBase r.dirPages || inPages p r.heapBase r.heapPages ||
    inPages p r.expBase r.expPages))

/-- Whether a populated understory page is in direct mode (R64). -/
def State.directMode (s : State) (p : Nat) : Bool := s.regions.any (fun r => r.space == 2 && r.covers p)

/-- The PACKED region whose logical range holds a page of a space. -/
def State.packedAt (s : State) (space p : Nat) : Option Region :=
  s.regions.find? (fun r => r.packed && r.space == space && inPages p r.base r.pages)

/-- Whether a page of a DRAM space carries memory that the space reaches (R61, R62, R64). -/
def State.plainMapped (s : State) (space p : Nat) : Bool :=
  match space with
  | 0 => s.undPopulated p && !s.directMode p
  | 1 => s.canPopulated p
  | 2 => s.undPopulated p && s.directMode p
  | _ => false

/-- The placement hint of a transparent page (R80). -/
def State.hint (s : State) (p : Nat) : Nat :=
  match s.epoch.active.str.placement.hints.find? (fun h => inPages p h.base h.pages) with
  | some h => h.hint
  | none => 0

/-! ## The flip mask (R389) -/

/-- The flip is applied: ARM clears and FLIP_APPLIED is written. -/
def State.flipDone (s : State) (tag : Tag) (unitKind unit addr : Nat) : State :=
  (s.setF F.LDG_FLIP_SEL_ARM 0).ledger
    { code := 0x0D02, tag := tag, unitKind := unitKind, unit := unit, op := 15, flags := flagInjected, addr := addr }

/-! ## Grains of DRAM (R265 to R268) -/

/-- What an unlisted byte of DRAM and of the stores reads as (R366, R378). -/
def zeroByte : Nat → Byte := fun _ => 0

/-- The raw bytes at a raw place. -/
def State.rawRead (s : State) (unit raw n : Nat) : Bytes := Sparse.getList zeroByte s.dram (rawKey unit raw) n

/-- Writes raw bytes. -/
def State.rawWrite (s : State) (unit raw : Nat) (bs : Bytes) : State :=
  { s with dram := Sparse.putList zeroByte s.dram (rawKey unit raw) bs }

/-- UNIT_KIND of a memory unit: 2 canopy stack, 3 understory channel (Table 16-4). -/
def unitKindOf (unit : Nat) : Nat := if unit < 512 then 2 else 3
/-- UNIT of a memory unit: the stack or the channel. -/
def unitNoOf (unit : Nat) : Nat := if unit < 512 then unit / 64 else unit - 512
/-- The cluster of a memory unit. -/
def clusterOfUnit (unit : Nat) : Nat := if unit < 512 then unit / 64 else (unit - 512) / 12
/-- The regulated port of a memory unit (Table 14-1). -/
def portOfUnit (unit : Nat) : Nat := if unit < 512 then unit / 64 else 8 + (unit - 512) / 12
/-- The controller tally i of a memory unit (Table 11-12). -/
def dramTally (unit i : Nat) : Fld :=
  if unit < 512 then F.CAN_TALLY_COUNT (unitNoOf unit) i else F.UND_TALLY_COUNT (unitNoOf unit) i

/-- Whether a memory unit is fenced. -/
def State.unitFenced (s : State) (unit : Nat) : Bool :=
  if unit < 512 then s.clusterFenced (unit / 64) || s.f (F.CAN_DSTS_STATE (unit / 64)) == 6 else s.channelFenced (unit - 512)

/-- No check grains cached, where unlisted. -/
def noChecks : Nat → List Nat := fun _ => []

/-- The check grain of a grain's place is used: its unit caches the 64 used most recently (R268). -/
def State.checkUse (s : State) (l : GrainLoc) : State :=
  let i := l.check / 2176
  let c := Sparse.get noChecks s.dramCtl.checkCache l.unit
  { s with dramCtl := { s.dramCtl with
      checkCache := Sparse.put noChecks s.dramCtl.checkCache l.unit ((i :: c.filter (fun j => j != i)).take 64) } }

/-- Writes a code word at a grain's place. -/
def State.putGrain (s : State) (l : GrainLoc) (data check : Bytes) : State :=
  ((s.rawWrite l.unit l.data data).rawWrite l.unit l.check check).checkUse l

/-- The data bytes and check bytes at a grain's place. -/
def State.getGrain (s : State) (l : GrainLoc) : Bytes × Bytes := (s.rawRead l.unit l.data 128, s.rawRead l.unit l.check 8)

/-- Writes a poisoned grain: zero data, check bytes XORed with the poison pattern (R265). -/
def State.poisonGrain (s : State) (l : GrainLoc) : State :=
  s.putGrain l (List.replicate 128 0) poisonPattern

/-- Writes a grain's 128 bytes with their check bytes; an armed flip mask that matches is applied to the code word after
the check bytes are computed. -/
def State.writeGrain (s : State) (l : GrainLoc) (data : Bytes) (tag : Tag) (addr : Nat) : State :=
  let check := rsCheck data
  let s := { s with integ := { s.integ with injected := s.integ.injected.filter (fun k => k != rawKey l.unit l.data) } }
  if s.flipMatches (if l.unit < 512 then 1 else 2) (unitNoOf l.unit) tag then
    let w := flipBytes (s.reg R.LDG_FLIP_MASK) (s.f F.LDG_FLIP_SEL_OFFSET) (data ++ check)
    let s := s.putGrain l (w.take 128) (w.drop 128)
    ({ s with integ := { s.integ with injected := rawKey l.unit l.data :: s.integ.injected } }).flipDone tag
      (unitKindOf l.unit) (unitNoOf l.unit) addr
  else s.putGrain l data check

/-- INJECTED, when the flip mask corrupted the grain (R389). -/
def State.injectedFlag (s : State) (l : GrainLoc) : Nat :=
  if s.integ.injected.contains (rawKey l.unit l.data) then flagInjected else 0

/-- The table of corrected errors: one event at an address of a die (R367). -/
def State.ceEvent (s : State) (d addr unitKind unit code : Nat) (flags : Nat) (op : Nat) (tag : Tag) : State :=
  let used := (List.range 256).filter (fun i => s.f (F.LDG_CE_INFO_UNIT_KIND d i) != 0)
  let last := bitsOf s.count 51 20
  let ev (c a : Nat) : Event :=
    { code := c, tag := tag, die := d, cluster := 0xFF, unitKind := unitKind, unit := unit, op := op, flags := flags, addr := a }
  match used.find? (fun i => s.f (F.LDG_CE_ADDR_ADDR d i) == addr && s.f (F.LDG_CE_INFO_UNIT_KIND d i) == unitKind) with
  | some i =>
    let n := s.f (F.LDG_CE_INFO_COUNT d i)
    let s := (s.satF (F.LDG_CE_INFO_COUNT d i) 1).setF (F.LDG_CE_INFO_LAST d i) last
    if n + 1 = s.f F.LDG_CFG_CE_REPEAT then s.ledger (ev 0x0302 addr) else s
  | none =>
    match (List.range 256).find? (fun i => s.f (F.LDG_CE_INFO_UNIT_KIND d i) == 0) with
    | some i =>
      let s := s.setF (F.LDG_CE_ADDR_ADDR d i) addr
      let s := s.setReg (R.LDG_CE_INFO d i) (BitVec.ofNat 64 (2 ^ 48 + 2 ^ 40 * unit + 2 ^ 32 * unitKind + last % 2 ^ 32))
      let s := s.addF (F.LDG_STS_CE_USED d) 1
      s.ledger (ev code addr)
    | none =>
      if s.f (F.LDG_STS_CE_OVF d) = 1 then s
      else (s.setF (F.LDG_STS_CE_OVF d) 1).ledger (ev 0x0303 0)

/-- What an unlisted channel's recent uncorrectable reads are. -/
def noTimes : Nat → List (Nat × Nat) := fun _ => []

/-- A read of a grain was uncorrectable: it is counted, and its unit remembers the grain for 1 ms (R274, R288). -/
def State.ueRead (s : State) (l : GrainLoc) : State :=
  let s := s.addF (dramTally l.unit 1) 1
  let t := (Sparse.get noTimes s.dramCtl.ueTimes l.unit).filter (fun x => decide (s.count < x.1 + 1000000) && x.2 != l.data)
  { s with dramCtl := { s.dramCtl with ueTimes := Sparse.put noTimes s.dramCtl.ueTimes l.unit ((s.count, l.data) :: t) } }

/-- Reads and decodes a grain: a corrected grain is written back and counted, an uncorrectable one is counted (R265,
R267, R274, R367). A grain on a fenced unit reads as uncorrectable. addr is the grain's pool address. -/
def State.readGrain (s : State) (l : GrainLoc) (addr op : Nat) (tag : Tag) : State × Bytes × GrainOutcome :=
  if s.unitFenced l.unit then (s, List.replicate 128 0, .uncorrectable)
  else
    let s := s.checkUse l
    let w := s.getGrain l
    let r := grainDecode w.1 w.2
    match r.2 with
    | .corrected =>
      let fl := s.injectedFlag l
      let s := s.putGrain l r.1 (rsCheck r.1)
      let s := s.addF (dramTally l.unit 0) 1
      (s.ceEvent (dieOfCluster (clusterOfUnit l.unit)) addr (unitKindOf l.unit) (unitNoOf l.unit) 0x0301 fl op tag, r.1, .corrected)
    | .uncorrectable => (s.ueRead l, r.1, .uncorrectable)
    | .lost => (s.ueRead l, r.1, .lost)
    | o => (s, r.1, o)

/-! ## Stores (R66, R365, R366) -/

/-- Whether a stores-space offset is accessible (Table 3-2). -/
def storeMapped (o : Nat) : Bool :=
  if o < 0x20000000 then true
  else if o < 0x30000000 then decide (o % 0x2000000 < 0x1B80000)
  else if o < 0x34000000 then decide (o % 0x2000000 < 0x1000000)
  else false

/-- UNIT of a store: 0–15 core, 16–23 cluster, 24–25 staging (Table 16-4). -/
def storeUnit (o : Nat) : Nat := o / 0x2000000
/-- The cluster of a store, by its number; a staging store counts under its die's first cluster. -/
def storeCluster (u : Nat) : Nat := if u < 16 then u / 2 else if u < 24 then u - 16 else (u - 24) * 4
/-- The die of a store. -/
def storeDie (u : Nat) : Nat := dieOfCluster (storeCluster u)

/-- Whether the store at an offset belongs to a fenced unit: a core, a cluster or, for the staging stores, a die (R15, R18). A
fenced unit accepts no work: its store is not written, and reads as poison (DEDUCED). -/
def State.storeFenced (s : State) (o : Nat) : Bool :=
  let u := storeUnit o
  if u < 16 then s.coreFenced u else if u < 24 then s.clusterFenced (u - 16) else s.dieFenced (u - 24)

/-- A bit that is clear where unlisted. -/
def clearBit : Nat → Bool := fun _ => false
/-- A source record that is clear where unlisted. -/
def noSrcRec : Nat → Option SrcRec := fun _ => none

/-- Whether a store grain's poison bit is set. -/
def State.storePoisoned (s : State) (g : Nat) : Bool := Sparse.get clearBit s.storePoison g

/-- Sets or clears a store grain's poison bit. -/
def State.setStorePoison (s : State) (g : Nat) (b : Bool) : State :=
  { s with storePoison := Sparse.put clearBit s.storePoison g b }

/-- Whether a byte of a store grain has wrong parity. -/
def State.storeBadParity (s : State) (g : Nat) : Bool :=
  (List.range 128).any (fun i => Sparse.get clearBit s.storeParity (128 * g + i))

/-- The source record of a store block. -/
def State.srcRec (s : State) (block : Nat) : Option SrcRec := Sparse.get noSrcRec s.srcRecs block

/-- Sets a block's source record. -/
def State.setSrcRec (s : State) (block : Nat) (r : Option SrcRec) : State :=
  { s with srcRecs := Sparse.put noSrcRec s.srcRecs block r }

/-- Marks or clears what the flip mask has corrupted, by its key: a DRAM grain's raw byte, or storeKey of a store grain. -/
def State.setInjected (s : State) (k : Nat) (b : Bool) : State :=
  let l := s.integ.injected.filter (fun j => j != k)
  { s with integ := { s.integ with injected := if b then k :: l else l } }

/-- Key of a store grain among the corrupted ones. -/
def storeKey (g : Nat) : Nat := 2 ^ 60 + g

/-- Odd parity of a byte's bits. -/
def oddBits (b : Byte) : Bool := parityBits 8 b.toNat

/-- Writes bytes at a stores-space offset within one grain: parity is written with the bytes, a write of the whole
grain clears its poison bit, and the block's source record clears. An armed flip mask flips bits and leaves parity. -/
def State.writeStoreGrain (s : State) (o : Nat) (bs : Bytes) (tag : Tag) : State :=
  if s.storeFenced o then s else
  let u := storeUnit o
  let target := if u < 16 then 3 else 4
  let unit := if u < 16 then u else u - 16
  let flip := u < 24 && s.flipMatches target unit tag
  let mask := flipBytes (s.reg R.LDG_FLIP_MASK) (s.f F.LDG_FLIP_SEL_OFFSET) (List.replicate 128 0)
  let sub := (mask.drop (o % 128)).take bs.length
  let data := if flip then xorBytes bs sub else bs
  let bad := if flip then sub.map oddBits else List.replicate bs.length false
  let s := { s with stores := Sparse.putList zeroByte s.stores o data
                    storeParity := Sparse.putList clearBit s.storeParity o bad }
  let s := if bs.length = 128 ∧ o % 128 = 0 then s.setStorePoison (o / 128) false else s
  let s := s.setSrcRec (o / 4096) none
  if flip then (s.setInjected (storeKey (o / 128)) true).flipDone tag 15 u (4 * 2 ^ 52 + o)
  else if bs.length = 128 then s.setInjected (storeKey (o / 128)) false else s

/-- The STORE_PARITY report of a store grain. -/
def storeEvent (code u : Nat) (tag : Tag) (op flags o : Nat) : Event :=
  { code := code, tag := tag, die := storeDie u, cluster := if u < 24 then storeCluster u else 0xFF,
    core := if u < 16 then u else 0xFF, unitKind := 15, unit := u, op := op, flags := flags, addr := 4 * 2 ^ 52 + o }

/-- What reading one grain of memory gives. -/
inductive ReadRes where
  | ok (data : Bytes)
  | poison
  /-- The grain must be repaired first (R369). -/
  | repair
  /-- The store block must be fetched again first (R365). -/
  | refetch
  deriving DecidableEq, Repr

/-- Reads one grain of a store (R365, R366). -/
def State.readStoreGrain (s : State) (g : Nat) (op : Nat) (tag : Tag) : State × ReadRes :=
  if s.storeFenced (128 * g) then (s, .poison)
  else if s.storeBadParity g then
    if (s.srcRec (g / 32)).isSome then (s, .refetch)
    else
      let fl := if s.integ.injected.contains (storeKey g) then flagInjected else 0
      let s := { s with storeParity := Sparse.clear (128 * g) (128 * g + 128) s.storeParity }
      ((s.setStorePoison g true).ledger (storeEvent 0x0201 (storeUnit (128 * g)) tag op (flagPoisoned + fl) (128 * g)), .poison)
  else if s.storePoisoned g then (s, .poison)
  else (s, .ok (Sparse.getList zeroByte s.stores (128 * g) 128))

/-! ## The canopy cache (R70 to R73, R77, R79) -/

/-- Sets of a stack's cache (R70). -/
def State.canSets (s : State) (c : Nat) : Nat := s.f (F.CAN_SPLIT_SETS c)

/-- Key of a set's replacement bits. -/
def setKey (c set : Nat) : Nat := 2 ^ 25 * c + set

/-- An invalid line where unlisted. -/
def noLine : Nat → Option Line := fun _ => none

/-- The line in a way of a set. -/
def State.line (s : State) (c set way : Nat) : Option Line := Sparse.get noLine s.canopy.lines (setKey c set * 4 + way)

/-- The place of a tag grain of a stack (R271). -/
def tagLoc (c g : Nat) : Option GrainLoc := locIn (canUnits c) 0 (128 * g)

/-- The tag of a line: zero for an invalid one (R378). The form of a valid line's tag is the model's own (DESIGN CHOICE: the
spec gives none, and no access reaches the cache part). -/
def tagWord : Option Line → Bytes
  | none => leBytes 4 0
  | some l => leBytes 4 (2 ^ 31 + (if l.dirty then 2 ^ 30 else 0) + l.n)

/-- The 128 bytes of tag grain g: the tags of lines 32g to 32g + 31 in set and way order (R70, R271). -/
def State.tagBytes (s : State) (c g : Nat) : Bytes :=
  (List.range 32).flatMap (fun i => tagWord (Sparse.get noLine s.canopy.lines (2 ^ 27 * c + 32 * g + i)))

/-- Writes a tag grain. -/
def State.writeTags (s : State) (c g : Nat) : State :=
  match tagLoc c g with
  | some l => s.putGrain l (s.tagBytes c g) (rsCheck (s.tagBytes c g))
  | none => s

/-- The tag grains in a stack's tag cache. -/
def State.tagCache (s : State) (c : Nat) : List Nat := Sparse.get noChecks s.canopy.tagCache c

/-- A tag grain is used: the tag cache holds the 32,768 used most recently (R70: it holds "recently used" ones; that the least
recently used gives way is a DESIGN CHOICE). One that it does not hold is read from the canopy. -/
def State.tagUse (s : State) (c g : Nat) (tag : Tag) : State :=
  let l := s.tagCache c
  let s := if l.contains g then s
    else match tagLoc c g with
      | some p => (s.readGrain p p.data 1 tag).1.charge c tag 128
      | none => s
  { s with canopy := { s.canopy with
      tagCache := Sparse.put noChecks s.canopy.tagCache c ((g :: l.filter (fun j => j != g)).take 32768) } }

/-- Sets the line in a way of a set, and its tag. -/
def State.setLine (s : State) (c set way : Nat) (l : Option Line) : State :=
  { s with canopy := { s.canopy with lines := Sparse.put noLine s.canopy.lines (setKey c set * 4 + way) l } }.writeTags c (set / 8)

/-- The keys of a stack's valid lines. -/
def State.linesOf (s : State) (c : Nat) : List Nat :=
  Sparse.keysWhere (fun k l => l.isSome && decide (k / 2 ^ 27 = c)) s.canopy.lines

/-- CAN_STS.DRAINED of a stack: DRAIN is 1 and no line is valid (Table 3-13). -/
def State.drained (s : State) (c : Nat) : Bool := s.f (F.CAN_CTRL_DRAIN c) == 1 && (s.linesOf c).isEmpty

/-- The tag grains of a stack under k cache steps hold no tags (R75, R378). -/
def State.clearTags (s : State) (c k : Nat) : State :=
  s.forEach (canUnits c) (fun s u => { s with dram := Sparse.clear (rawKey u 0) (rawKey u (130560 * k)) s.dram })

/-- The way that holds a cluster-local line, if the cache holds it. -/
def State.wayOf (s : State) (c n : Nat) : Option Nat :=
  if s.canSets c = 0 then none
  else (List.range 4).find? (fun w => (s.line c (n % s.canSets c) w).map Line.n == some n)

/-- Use state of a page not yet touched. -/
def noUse : Nat → PageUse := fun _ => {}

/-- A page's use state. -/
def State.pageUse (s : State) (p : Nat) : PageUse := Sparse.get noUse s.canopy.pages p

/-- Sets a page's use state. -/
def State.setPageUse (s : State) (p : Nat) (u : PageUse) : State :=
  { s with canopy := { s.canopy with pages := Sparse.put noUse s.canopy.pages p u } }

/-- A page's HOT bit: its hint's while it has no history, the kept bit afterwards (R79). -/
def State.hot (s : State) (p : Nat) : Bool :=
  let u := s.pageUse p
  if u.history then u.hotBit else s.hint p == 0 || s.hint p == 2

/-- One touch of a line of a page: its counter rises by 1, saturating, and HOT is set at PROMOTE once the page has
history; tag 0x000 does not count, and a request counts each line once (R77, R79). -/
def State.countPage (s : State) (p line : Nat) (tag : Tag) : State :=
  let key := 512 * p + line
  if tag = 0 ∨ (s.canopy.touched.getD []).contains key then s
  else
    let s := { s with canopy := { s.canopy with touched := s.canopy.touched.map (fun l => key :: l) } }
    let u := s.pageUse p
    let n := clampTo 65535 (u.counter + 1)
    s.setPageUse p { u with counter := n, hotBit := u.hotBit || (u.history && decide (s.f F.CAN_PLACE_PROMOTE ≤ n)) }

/-- The replacement bits of a set: bit 0 the root, bit 1 ways 0 and 1, bit 2 ways 2 and 3; a set bit names the upper
half as the older. -/
def State.plruBits (s : State) (c set : Nat) : Nat := Sparse.get natZero s.canopy.plru (setKey c set)

/-- The replacement bits after an access to a way. -/
def plruTouch (b way : Nat) : Nat :=
  let b0 := if way < 2 then 1 else 0
  let b1 := if way = 0 then 1 else if way = 1 then 0 else b / 2 % 2
  let b2 := if way = 2 then 1 else if way = 3 then 0 else b / 4 % 2
  b0 + 2 * b1 + 4 * b2

/-- The oldest way among those a test admits, by the tree: at each node the older half is taken when it admits one. -/
def plruPick (b : Nat) (ok : Nat → Bool) : Option Nat :=
  let half (i : Nat) : Option Nat :=
    let bit := if i = 0 then b / 2 % 2 else b / 4 % 2
    let a := 2 * i + bit
    let z := 2 * i + (1 - bit)
    if ok a then some a else if ok z then some z else none
  let r := b % 2
  match half r with
  | some w => some w
  | none => half (1 - r)

/-- Marks a way as used. -/
def State.touchWay (s : State) (c set way : Nat) : State :=
  { s with canopy := { s.canopy with plru := Sparse.put natZero s.canopy.plru (setKey c set) (plruTouch (s.plruBits c set) way) } }

/-- The page of a cluster-local line (512 lines to a page). -/
def pageOfLine (c n : Nat) : Nat := n / 512 * 8 + c

/-- The victim in a set: an invalid line, then a line that is not PIN of a page with HOT = 0, clean before dirty, then
the oldest line that is not PIN (R72). Of several invalid lines it takes the lowest way, and of several cold lines of one
kind the oldest by the tree (DESIGN CHOICE: R72 names no order among them). -/
def State.victim (s : State) (c set : Nat) : Option Nat :=
  let b := s.plruBits c set
  let pin (w : Nat) : Bool := match s.line c set w with | some l => s.hint (pageOfLine c l.n) == 2 | none => false
  let cold (w : Nat) : Bool := match s.line c set w with | some l => !s.hot (pageOfLine c l.n) | none => false
  let dirty (w : Nat) : Bool := match s.line c set w with | some l => l.dirty | none => false
  match (List.range 4).find? (fun w => (s.line c set w).isNone) with
  | some w => some w
  | none =>
    match plruPick b (fun w => !pin w && cold w && !dirty w) with
    | some w => some w
    | none =>
      match plruPick b (fun w => !pin w && cold w) with
      | some w => some w
      | none => plruPick b (fun w => !pin w)

/-- Copies one grain between two places as it decodes: a clean or corrected grain with new check bytes, a poisoned one
poisoned, any other as its raw code word (Table 16-2). -/
def State.copyGrain (s : State) (src dst : Option GrainLoc) (addr op : Nat) (tag : Tag) : State :=
  match src, dst with
  | some a, some b =>
    let raw := s.getGrain a
    let r := s.readGrain a addr op tag
    let s := r.1.charge (portOfUnit a.unit) tag 128
    let s := s.charge (portOfUnit b.unit) tag 128
    match r.2.2 with
    | .clean => s.putGrain b r.2.1 (rsCheck r.2.1)
    | .corrected => s.putGrain b r.2.1 (rsCheck r.2.1)
    | .poisoned => s.poisonGrain b
    | .lost => s.putGrain b raw.1 raw.2
    | .uncorrectable => s.putGrain b raw.1 raw.2
  | _, _ => s

/-- The pool address of a grain of a cluster-local line in the transparent space. -/
def lineAddr (c n g : Nat) : Nat := 2 ^ 21 * pageOfLine c n + 4096 * (n % 512) + 128 * g

/-- Writes a line back to its understory home and marks it clean (R73). -/
def State.writeBack (s : State) (c set way : Nat) : State :=
  match s.line c set way with
  | some l =>
    if l.dirty then
      let s := s.forEach (List.range 32) (fun s g =>
        s.copyGrain (s.lineLoc c set way (128 * g)) (s.undLoc c (4096 * l.n + 128 * g)) (lineAddr c l.n g) 2 0)
      (s.setLine c set way (some { l with dirty := false })).addF (F.CAN_WBACKS_COUNT c) 1
    else s
  | none => s

/-- Whether a miss of a page allocates (R71, R74, R347). -/
def State.allocates (s : State) (c p : Nat) : Bool :=
  !s.canopy.bypass && s.f (F.CAN_CTRL_DRAIN c) == 0 && s.canSets c != 0 &&
    (match s.hint p with | 3 => false | 2 => true | _ => s.hot p)

/-- One line of a transparent page is touched by a request: the page counts, a hit is marked as used, and a miss
allocates a line where R71 says so, filling it from the understory unless a write covers it whole (R70 to R73). With no cache
part there is nothing to miss, and CAN_MISSES does not count (DESIGN CHOICE: Table 3-14 tallies line misses). -/
def State.touchLine (s : State) (p line : Nat) (write full : Bool) (tag : Tag) : State :=
  let c := ownerOf p
  let n := 512 * localPage p + line
  let s := s.countPage p line tag
  let set := n % s.canSets c
  let s := if s.canSets c = 0 then s else s.tagUse c (set / 8) tag
  match s.wayOf c n with
  | some w =>
    let s := (s.touchWay c set w).addF (F.CAN_HITS_COUNT c) 1
    if write then s.setLine c set w (some ⟨n, true⟩) else s
  | none =>
    let s := if s.canSets c = 0 then s else s.addF (F.CAN_MISSES_COUNT c) 1
    if s.allocates c p then
      match s.victim c set with
      | none => s
      | some w =>
        let s := s.writeBack c set w
        let s := if write && full then s
          else s.forEach (List.range 32) (fun s g =>
            s.copyGrain (s.undLoc c (4096 * n + 128 * g)) (s.lineLoc c set w (128 * g)) (lineAddr c n g) 4 tag)
        (s.setLine c set w (some ⟨n, write⟩)).touchWay c set w
    else s

/-! ## Grains of the pool -/

/-- Where a grain of a DRAM space lies now: in its cache line when the cache holds one, else at its home. -/
def State.loc (s : State) (a : PA) : Option GrainLoc :=
  let p := pageOf a
  let c := ownerOf p
  let inPage := offsetOf a % 2 ^ 21
  match spaceOf a with
  | 0 =>
    let n := 512 * localPage p + inPage / 4096
    match s.wayOf c n with
    | some w => s.lineLoc c (n % s.canSets c) w (inPage % 4096)
    | none => s.undLoc c (2 ^ 21 * localPage p + inPage)
  | 1 => s.directLoc c (2 ^ 21 * localPage p + inPage)
  | 2 => s.undLoc c (2 ^ 21 * localPage p + inPage)
  | _ => none

/-- INJECTED, when the flip mask corrupted the grain at a pool address. -/
def State.injectedAt (s : State) (a : PA) : Nat :=
  if spaceOf a = 4 then if s.integ.injected.contains (storeKey (offsetOf a / 128)) then flagInjected else 0
  else match s.loc (grainOf a) with | some l => s.injectedFlag l | none => 0

/-- Marks the grain at a pool address as corrupted by the flip mask. -/
def State.injectAt (s : State) (a : PA) : State :=
  match s.loc (grainOf a) with | some l => s.setInjected (rawKey l.unit l.data) true | none => s

/-- Starts the repair of a grain, unless one is in progress: the home is read again first, then the partner, then the
vault (R369, R370). -/
def State.startRepairFor (s : State) (a : PA) (tag : Tag) (op : Nat) (check home : Bool) : State :=
  let g := (grainOf a).toNat
  if s.integ.repairs.any (fun (r : Repair) => r.grain == g && r.home == home) then s
  else { s with integ := { s.integ with repairs := s.integ.repairs ++ [⟨g, 1, tag, op, check, home, none⟩] } }

/-- Starts the repair of an uncorrectable or lost grain. -/
def State.startRepair (s : State) (a : PA) (tag : Tag) (op : Nat) : State := s.startRepairFor a tag op false false

/-- Whether a grain is under repair, so that every request to it is held (R370). -/
def State.repairing (s : State) (a : PA) : Bool :=
  s.integ.repairs.any (fun (r : Repair) => r.grain == (grainOf a).toNat && !r.home && r.found.isNone)

/-- What a repair that writes nothing back has found for a grain. -/
def State.repairFound (s : State) (a : PA) : Option (Option Bytes) :=
  (s.integ.repairs.find? (fun (r : Repair) => r.grain == (grainOf a).toNat && !r.home)).bind Repair.found

/-- What a reader of a lost or uncorrectable grain gets: what a repair has found, or its wait for one. -/
def State.repairRes (s : State) (a : PA) : ReadRes :=
  match s.repairFound a with
  | some (some d) => .ok d
  | some none => .poison
  | none => .repair

/-- Reads one grain of the pool for some work: a clean or corrected grain's bytes, poison, or the need of a repair
first. A store grain reads by R365. A grain under repair waits for its repair. -/
def State.readPool (s : State) (a : PA) (op : Nat) (tag : Tag) : State × ReadRes :=
  if spaceOf a = 4 then s.readStoreGrain (offsetOf a / 128) op tag
  else if s.repairing a then (s, .repair)
  else
    match s.loc (grainOf a) with
    | none => (s, .poison)
    | some l =>
      let r := s.readGrain l (grainOf a).toNat op tag
      let s := r.1.charge (portOfUnit l.unit) tag 128
      match r.2.2 with
      | .clean => (s, .ok r.2.1)
      | .corrected => (s, .ok r.2.1)
      | .poisoned => (s, .poison)
      | .lost => (s, s.repairRes a)
      | .uncorrectable => (s, s.repairRes a)

/-- Replaces bytes of a grain from an offset. -/
def mergeBytes (old : Bytes) (off : Nat) (new : Bytes) : Bytes :=
  old.take off ++ new ++ old.drop (off + new.length)

/-- A checkpoint entry without tracking, where unlisted. -/
def noTrack : Nat → CkptTrack := fun _ => {}

/-- A checkpoint entry's tracking. -/
def State.ckpt (s : State) (i : Nat) : CkptTrack := Sparse.get noTrack s.vault.ckpt i

/-- Sets a checkpoint entry's tracking; VALID_PAGES shows its count. -/
def State.setCkpt (s : State) (i : Nat) (t : CkptTrack) : State :=
  ({ s with vault := { s.vault with ckpt := Sparse.put noTrack s.vault.ckpt i t } }).setF (F.VLT_CKPT_STS_VALID_PAGES i) t.valid.length

/-- VALID of page k of an entry clears (R300). -/
def State.clearValid (s : State) (i k : Nat) : State :=
  let t := s.ckpt i
  if t.valid.contains k then s.setCkpt i { t with valid := t.valid.filter (fun j => j != k) } else s

/-- The checkpoint entries that are not IDLE. -/
def State.ckptLive (s : State) : List Nat := (List.range 64).filter (fun i => s.f (F.VLT_CKPT_STS_STATE i) != 0)

/-- Whether what happens now was accepted after an entry's ARM: a request that is being served may have been accepted before;
the device's own work is accepted as it is done (R299). -/
def State.afterArm (s : State) (i : Nat) : Bool :=
  match s.canopy.serving with
  | some id => decide ((s.ckpt i).armedId ≤ id)
  | none => true

/-- A write to a page of a DRAM space is accepted: every entry whose source range holds the page notes it (R299, R300). -/
def State.ckptSource (s : State) (space page : Nat) : State :=
  s.forEach (s.ckptLive.filter (fun i => s.afterArm i && s.f (F.VLT_CKPT_SRC_SPACE i) == space &&
      inPages page (s.f (F.VLT_CKPT_SRC_BASE i)) (s.f (F.VLT_CKPT_SRC_PAGES i))))
    (fun s i =>
      let k := page - s.f (F.VLT_CKPT_SRC_BASE i)
      let t := s.ckpt i
      s.setCkpt i { t with written := insertNat k t.written, valid := t.valid.filter (fun j => j != k) })

/-- Writes bytes within one grain of the pool. A whole grain is written clean. A part of a DRAM grain is a
read-modify-write, written poisoned when the grain decodes as poisoned or uncorrectable (R268). A whole grain ends a
repair of its place, whose bytes could not stand (R370). A write that comes once its cluster has reported self-refresh has no
effect (R287). -/
def State.storeGrain (s : State) (a : PA) (bs : Bytes) (tag : Tag) : State :=
  if spaceOf a = 4 then s.writeStoreGrain (offsetOf a) bs tag
  else
    match s.loc (grainOf a) with
    | none => s
    | some l =>
      if s.unitFenced l.unit || s.dramCtl.reported.contains (clusterOfUnit l.unit) then s else
      let s := s.charge (portOfUnit l.unit) tag 128
      if bs.length = 128 then
        let s := { s with integ := { s.integ with
          repairs := s.integ.repairs.filter (fun (r : Repair) => r.grain != (grainOf a).toNat) } }
        s.writeGrain l bs tag (grainOf a).toNat
      else
        let r := s.readGrain l (grainOf a).toNat 2 tag
        match r.2.2 with
        | .clean => r.1.writeGrain l (mergeBytes r.2.1 (a.toNat % 128) bs) tag (grainOf a).toNat
        | .corrected => r.1.writeGrain l (mergeBytes r.2.1 (a.toNat % 128) bs) tag (grainOf a).toNat
        | .poisoned => r.1.poisonGrain l
        | .lost => r.1.poisonGrain l
        | .uncorrectable => r.1.poisonGrain l

/-! ## Mirrored pages (R412, R428, Table 18-1) -/

/-- Whether a page lies in a mirrored range. -/
def State.mirroredPage (s : State) (space page : Nat) : Bool :=
  match s.epoch.active.str.mirror with
  | some m => m.ranges.any (fun r => r.space == space && inPages page r.base r.pages)
  | none => false

/-- A page in the dirty map. -/
def pageKey (space page : Nat) : Nat := 2 ^ 31 * space + page

/-- Sets the dirty map and the pages that wait for a copy; DIRTY_PAGES counts both. -/
def State.setDirty (s : State) (d w : List Nat) : State :=
  ({ s with pair := { s.pair with dirty := d, await := w } }).setF F.PAIR_STS_DIRTY_PAGES (d.length + w.length)

/-- A page becomes dirty. -/
def State.markDirty (s : State) (k : Nat) : State := s.setDirty (insertNat k s.pair.dirty) s.pair.await

/-- A write to a page: a mirrored one ends FRESH, and in SOLO becomes dirty. -/
def State.noteMirror (s : State) (space page : Nat) : State :=
  if s.mirroredPage space page then
    let s := s.setF F.PAIR_STS_FRESH 0
    if s.f F.PAIR_STS_STATE = 4 then s.markDirty (pageKey space page) else s
  else s

/-- A write that changes the data of a page: as above, noted by the checkpoint entries of a DRAM page and by the pair. -/
def State.writePool (s : State) (a : PA) (bs : Bytes) (tag : Tag) : State :=
  (if spaceOf a ≤ 2 then (s.ckptSource (spaceOf a) (pageOf a)).noteMirror (spaceOf a) (pageOf a) else s).storeGrain a bs tag

/-- Marks one grain of the pool poisoned (R366, R374). -/
def State.poisonPool (s : State) (a : PA) : State :=
  if spaceOf a = 4 then s.setStorePoison (offsetOf a / 128) true
  else
    let s := if spaceOf a ≤ 2 then (s.ckptSource (spaceOf a) (pageOf a)).noteMirror (spaceOf a) (pageOf a) else s
    match s.loc (grainOf a) with
    | none => s
    | some l => s.poisonGrain l

/-- The pieces of a range of n bytes from an address, cut at grain boundaries: (address, offset in the range, length). -/
def pieces (a : PA) (n : Nat) : List (PA × Nat × Nat) :=
  let first := a.toNat / 128
  let cnt := if n = 0 then 0 else (a.toNat + n - 1) / 128 - first + 1
  (List.range cnt).map (fun i =>
    let lo := max a.toNat (128 * (first + i))
    let hi := min (a.toNat + n) (128 * (first + i + 1))
    (BitVec.ofNat 56 lo, lo - a.toNat, hi - lo))

/-- Touches every cache line of a transparent range; other spaces have none. -/
def State.touchRange (s : State) (a : PA) (n : Nat) (write : Bool) (tag : Tag) : State :=
  if spaceOf a = 0 ∧ n ≠ 0 then
    let first := a.toNat / 4096
    let cnt := (a.toNat + n - 1) / 4096 - first + 1
    s.forEach (List.range cnt) (fun s i =>
      let l := first + i
      s.touchLine (l / 512) (l % 512) write (decide (a.toNat ≤ 4096 * l) && decide (4096 * (l + 1) ≤ a.toNat + n)) tag)
  else s

/-- Writes a range of PLAIN bytes: its lines are touched, then each grain is written. -/
def State.writeRange (s : State) (a : PA) (bs : Bytes) (tag : Tag) : State :=
  (s.touchRange a bs.length true tag).forEach (pieces a bs.length)
    (fun s p => s.writePool p.1 (slice bs p.2.1 p.2.2) tag)

/-- What reading a range gives: its bytes, with 0 in poisoned grains, the addresses of its poisoned grains in order,
and the first grain that must be repaired or fetched again first. -/
structure RangeRead where
  data : Bytes
  poison : List PA
  repair : Option PA
  refetch : Option PA
  deriving DecidableEq, Repr

/-- One grain's part in reading a range. -/
def State.readPiece (st : State × RangeRead) (op : Nat) (tag : Tag) (p : PA × Nat × Nat) : State × RangeRead :=
  let r := st.1.readPool p.1 op tag
  let x := st.2
  match r.2 with
  | .ok d => (r.1, { x with data := x.data ++ slice d (p.1.toNat % 128) p.2.2 })
  | .poison => (r.1, { x with data := x.data ++ List.replicate p.2.2 0, poison := x.poison ++ [grainOf p.1] })
  | .repair => (r.1, { x with data := x.data ++ List.replicate p.2.2 0, repair := x.repair.or (some (grainOf p.1)) })
  | .refetch => (r.1, { x with data := x.data ++ List.replicate p.2.2 0, refetch := x.refetch.or (some (grainOf p.1)) })

/-- Reads a range of PLAIN bytes: its lines are touched, then each grain is read. -/
def State.readRange (s : State) (a : PA) (n : Nat) (op : Nat) (tag : Tag) : State × RangeRead :=
  (pieces a n).foldl (fun st p => State.readPiece st op tag p) (s.touchRange a n false tag, ⟨[], [], none, none⟩)

/-- The bytes of a range as they read, with 0 in poisoned grains, and whether every grain read clean: for the device's
own control structures in PLAIN memory. -/
def State.fetchBytes (s : State) (a : PA) (n : Nat) (tag : Tag) : State × Bytes × Bool :=
  let r := s.readRange a n 1 tag
  (r.1, r.2.data, r.2.poison.isEmpty && r.2.repair.isNone && r.2.refetch.isNone)

end Sys2Proof.Machine
end

