-- ==== Sys2Proof/Machine/Tiles.lean ====
section
/-! DEFINITION. PACKED regions over the machine's memory: where a tile's directory entry, stored form and expansion
slot lie (R84), reading and rewriting entries (R105, R376), table slots as decoders see them (R112, R132, R133), and
the decode of a tile to its PLAIN form with its errors (R104, R112 to R114, R117, R375). -/

namespace Sys2Proof.Machine

/-- A tile of a PACKED region: the region, the owning cluster and the tile's number in that cluster's share (R84). -/
structure TileRef where
  region : Region
  cluster : Nat
  t : Nat
  deriving DecidableEq, Repr

/-- The tile that a logical address lies in. -/
def tileAt (r : Region) (a : PA) : TileRef :=
  let p := pageOf a
  ⟨r, ownerOf p, 512 * ((p - r.base) / 8) + offsetOf a % 2 ^ 21 / 4096⟩

/-- The tile of a logical tile index L of a region: L = (P − BASE) × 512 + index in page (Table 5-1). -/
def tileOfIndex (r : Region) (l : Nat) : TileRef := ⟨r, l / 512 % 8, 512 * (l / 512 / 8) + l % 512⟩

/-- The logical pool address of a tile. -/
def TileRef.addr (x : TileRef) : PA :=
  poolAddr x.region.space (2 ^ 21 * (x.region.base + x.t / 512 * 8 + x.cluster) + 4096 * (x.t % 512))

/-- A byte of a cluster's share of an area of whole pages (R84). -/
def shareAddr (space base c b : Nat) : PA := poolAddr space (2 ^ 21 * (base + b / 2 ^ 21 * 8 + c) + b % 2 ^ 21)

/-- The address of a tile's directory entry (R84). -/
def TileRef.dirAddr (x : TileRef) : PA := shareAddr x.region.space x.region.dirBase x.cluster (16 * x.t)
/-- The address of a heap grain of the tile's share. -/
def TileRef.heapAddr (x : TileRef) (g : Nat) : PA := shareAddr x.region.space x.region.heapBase x.cluster (128 * g)
/-- The address of an expansion slot of the tile's share. -/
def TileRef.expAddr (x : TileRef) (slot : Nat) : PA := shareAddr x.region.space x.region.expBase x.cluster (4096 * slot)

/-- Who decodes, for the record of an error: UNIT_KIND, UNIT, OP, and the work's tag. -/
structure Consumer where
  unitKind : Nat
  unit : Nat
  op : Nat
  tag : Tag
  deriving DecidableEq, Repr

/-- A tile-class event at a tile (R114). -/
def tileEvent (code : Nat) (x : TileRef) (k : Consumer) : Event :=
  { code := code, tag := k.tag, die := dieOfCluster x.cluster, cluster := x.cluster, unitKind := k.unitKind, unit := k.unit,
    op := k.op, addr := x.addr.toNat }

/-- What reading a directory entry gives. -/
inductive DirRead where
  | entry (e : DirEntry)
  /-- The entry is unreadable; bits are the data bits as read (R376). -/
  | unreadable (bits : Nat)
  | repair (a : PA)
  deriving DecidableEq, Repr

/-- Reads a tile's directory entry (R105, R364, R376): a corrected word is written back and counted; an uncorrectable
one is recorded once per entry. -/
def State.readDir (s : State) (x : TileRef) (k : Consumer) : State × DirRead :=
  let a := x.dirAddr
  let s := s.touchRange a 16 false k.tag
  let r := s.readPool a k.op k.tag
  match r.2 with
  | .poison => (r.1, .unreadable 0)
  | .repair => (r.1, .repair (grainOf a))
  | .refetch => (r.1, .repair (grainOf a))
  | .ok g =>
    let w := fieldLe g (a.toNat % 128) 16
    let bits := w % 2 ^ 120
    match secdedRead 120 bits (w / 2 ^ 120) with
    | .clean => (r.1, .entry (dirOfBits bits))
    | .corrected d =>
      ((r.1.storeGrain a (leBytes 16 (d + 2 ^ 120 * secdedCheck 120 d)) 0).addF F.LDG_SECDED_CE_COUNT 1, .entry (dirOfBits d))
    | .uncorrectable =>
      if r.1.integ.dirEcc.contains a.toNat then (r.1, .unreadable bits)
      else
        let s := { r.1 with integ := { r.1.integ with dirEcc := a.toNat :: r.1.integ.dirEcc } }
        (s.ledger { tileEvent 0x0504 x k with flags := s.injectedAt a }, .unreadable bits)

/-- Rewrites a tile's directory entry in one write (R129); an armed flip mask for directory entries is applied after
the SECDED (R389). -/
def State.writeDir (s : State) (x : TileRef) (e : DirEntry) (tag : Tag) : State :=
  let a := x.dirAddr
  let s := s.touchRange a 16 true tag
  let s := { s with integ := { s.integ with dirEcc := s.integ.dirEcc.filter (fun d => d != a.toNat) } }
  if s.flipMatches 6 x.cluster tag then
    ((s.writePool a (flipBytes (s.reg R.LDG_FLIP_MASK) (s.f F.LDG_FLIP_SEL_OFFSET) e.bytes) 0).injectAt a).flipDone tag 0 x.cluster a.toNat
  else s.writePool a e.bytes 0

/-! ## Table slots (R132 to R134) -/

/-- Slot states (Table 5-16). -/
def slotFree : Nat := 0
def slotInstalling : Nat := 1
def slotActive : Nat := 2
def slotDraining : Nat := 3
def slotRetired : Nat := 4

/-- The 512 bytes of a slot's tables. -/
def State.slotTables (s : State) (i : Nat) : Bytes :=
  (List.range 64).flatMap (fun j => leBytes 8 (s.reg (R.MNT_SLOT_TAB i j)).toNat)

/-- The codes of a slot's planes. -/
def codesOfTables (tab : Bytes) (planes : Nat) : List (List Code) :=
  (List.range planes).map (fun p => canonicalCodes (tableLengths (slice tab (128 * p) 128)))

/-- A decoder's snapshot of a slot: nothing when the slot holds no table (R112). -/
structure Snapshot where
  gen : Nat
  planes : Nat
  xor : Bool
  codes : List (List Code)
  deriving DecidableEq, Repr

/-- What a decoder finds when it takes the snapshot of a slot for a generation. -/
inductive SnapRes where
  | snap (x : Snapshot)
  | none
  /-- The slot is being installed with that generation (cause TABLE_SLOT). -/
  | wait
  deriving DecidableEq, Repr

/-- Takes a slot's snapshot for a header's generation (R112, R133). A damaged slot and a slot without a table give
none. While an install runs, the slot shows its old contents, unless it had none. -/
def State.snapshot (s : State) (slot gen : Nat) : SnapRes :=
  let st := s.f (F.MNT_SLOT_INFO_STATE slot)
  let inst := s.installs.find? (fun i => i.slot == slot)
  if st = slotInstalling ∧ (inst.map SlotInstall.gen) = some gen then .wait
  else if s.f (F.MNT_SLOT_INFO_DAMAGED slot) = 1 then .none
  else if st = slotFree ∨ (st = slotInstalling ∧ (inst.map SlotInstall.prev).getD 0 = slotFree) then .none
  else
    let planes := s.f (F.MNT_SLOT_INFO_PLANES slot)
    .snap ⟨s.f (F.MNT_SLOT_INFO_GEN slot), planes, s.f (F.MNT_SLOT_INFO_XOR slot) == 1, codesOfTables (s.slotTables slot) planes⟩

/-- An uncorrectable SECDED error is found in a slot: DAMAGED is set and recorded (R133). -/
def State.slotDamaged (s : State) (slot : Nat) (tag : Tag) : State :=
  if s.f (F.MNT_SLOT_INFO_DAMAGED slot) = 1 then s
  else
    let s := (s.setF (F.MNT_SLOT_INFO_DAMAGED slot) 1).setF F.MNT_STATUS_LAST_ERR 0x0516
    s.ledger { code := 0x0516, tag := tag, addr := slot }

/-- The stored-tile count of a slot rises or falls by 1 (R129). -/
def State.slotCount (s : State) (e : DirEntry) (up : Bool) : State :=
  if e.state = 1 ∧ (e.codec = 1 ∨ e.codec = 2) then
    let n := s.f (F.MNT_SLOT_INFO_COUNT e.slot)
    s.setF (F.MNT_SLOT_INFO_COUNT e.slot) (if up then n + 1 else n - 1)
  else s

/-! ## Decoding a tile (R104, R112 to R114, R117) -/

/-- Why a tile reads as poisoned: grains of its own, a decode that failed with a record (R114), or its base tile, by its
logical address (R113). -/
inductive BadBy where
  | own
  | failed
  | base (a : PA)
  deriving DecidableEq, Repr

/-- What a tile's decode gives: 4 KiB of PLAIN bytes, its poisoned grains, the first poisoned address and why; an EMPTY tile; a
wait for an install; or a grain that must be repaired first. -/
inductive TileRes where
  | plain (bytes : Bytes) (poison : List Nat) (first : Option PA) (why : BadBy)
  | empty
  | wait (slot : Nat)
  | repair (a : PA)
  deriving DecidableEq, Repr

/-- All 32 grains poisoned. -/
def allPoison : List Nat := List.range 32

/-- Starts the repair of a tile's grains after its CHECK failed twice (R104, R369). -/
def State.repairTile (s : State) (x : TileRef) (loc grains : Nat) (k : Consumer) : State :=
  s.forEach (List.range grains) (fun s g => s.startRepairFor (x.heapAddr (loc + g)) k.tag k.op true false)

/-- The cache lines that the grains of a stored tile lie on, each once. -/
def TileRef.heapLines (x : TileRef) (loc grains : Nat) : List Nat :=
  ((List.range grains).map (fun g => (x.heapAddr (loc + g)).toNat / 4096)).eraseDups

/-- The bytes of a stored tile, its first poisoned grain and the first grain that needs a repair. -/
def State.readStored (s : State) (x : TileRef) (e : DirEntry) (k : Consumer) : State × RangeRead :=
  let s := s.forEach (x.heapLines e.loc e.grains) (fun s l => s.touchRange (BitVec.ofNat 56 (4096 * l)) 1 false k.tag)
  (List.range e.grains).foldl (fun st g => State.readPiece st k.op k.tag (x.heapAddr (e.loc + g), 0, 128)) (s, ⟨[], [], none, none⟩)

/-- The base cache of a die. -/
def State.baseCache (s : State) (d : Nat) : List BaseLine := if d = 0 then s.baseCache0 else s.baseCache1

/-- Sets a die's base cache. -/
def State.setBaseCache (s : State) (d : Nat) (l : List BaseLine) : State :=
  if d = 0 then { s with baseCache0 := l } else { s with baseCache1 := l }

/-- A base tile that a die's base cache holds. -/
def State.baseHit (s : State) (d key : Nat) : Option BaseLine := (s.baseCache d).find? (fun b => b.key == key)

/-- A base tile becomes the most recently used of at most 1,024 (R138). -/
def State.baseKeep (s : State) (d : Nat) (b : BaseLine) : State :=
  s.setBaseCache d ((b :: (s.baseCache d).filter (fun x => x.key != b.key)).take 1024)

/-- A tile's entry or expansion slot is written: the base caches drop it (R138). -/
def State.baseInvalidate (s : State) (key : Nat) : State :=
  { s with baseCache0 := s.baseCache0.filter (fun b => b.key != key), baseCache1 := s.baseCache1.filter (fun b => b.key != key) }

/-- Reads the PLAIN 4 KiB of an EXPANDED tile, its grains one by one (R106, R375). -/
def State.readExpanded (s : State) (x : TileRef) (loc : Nat) (k : Consumer) : State × TileRes :=
  let a := x.expAddr loc
  let r := s.readRange a 4096 k.op k.tag
  match r.2.repair with
  | some g => (r.1, .repair g)
  | none => (r.1, .plain r.2.data (r.2.poison.map (fun p => (p.toNat - a.toNat) / 128)) r.2.poison.head? .own)

/-- The TILE_CHECK report of a stored tile (R104); INJECTED when the flip mask corrupted one of its grains. -/
def State.checkEvent (s : State) (x : TileRef) (e : DirEntry) (k : Consumer) : Event :=
  let bad := (List.range e.grains).any (fun g => s.injectedAt (x.heapAddr (e.loc + g)) != 0)
  { tileEvent 0x0503 x k with flags := if bad then flagInjected else 0 }

/-- A decode that fails: one record, every output grain poisoned (R114). -/
def State.tileFail (s : State) (code : Nat) (x : TileRef) (k : Consumer) : State × TileRes :=
  (s.ledger (tileEvent code x k), .plain (List.replicate 4096 0) allPoison (some x.addr) .failed)

/-- A tile that is poisoned without a record of its own (R375, R376). -/
def tilePoison (a : PA) : TileRes := .plain (List.replicate 4096 0) allPoison (some a) .own

/-- CHECK of a stored tile against header and directory copies (R104). -/
def checkOk (st : Bytes) (e : DirEntry) : Bool :=
  fieldLe st 0 4 == e.check && tileCheck st e.grains == e.check

/-- Whether a header agrees with its directory entry and is well formed (R112). -/
def headerOk (h : TileHeader) (e : DirEntry) : Bool :=
  h.wellFormed && h.codec == e.codec && h.width == e.width && h.grains == e.grains &&
    h.slot == e.slot && h.gen == e.gen

/-- The event of a tile at an address whose CHECK mismatch a second read cleared (R104, R367). -/
def State.glitchAt (s : State) (a : PA) (k : Consumer) : State :=
  if spaceOf a = 4 then
    let u := storeUnit (offsetOf a)
    s.ceEvent (storeDie u) a.toNat 15 u 0x0301 0 k.op k.tag
  else
    match s.loc (grainOf a) with
    | some l => s.ceEvent (dieOfCluster (clusterOfUnit l.unit)) a.toNat (unitKindOf l.unit) (unitNoOf l.unit) 0x0301 0 k.op k.tag
    | none => s

/-- The first read of a stored tile has met a passing disturbance, or not. -/
def State.firstRead (s : State) (x : TileRef) (e : DirEntry) (k : Consumer) : State :=
  if Config.tileGlitch s.free then s.bump.glitchAt (x.heapAddr e.loc) k else s.bump

/-- What the stored form of a tile decodes to, up to the base of a DELTA tile: PLAIN bytes, a residual with its header, a code
that it fails with, or a wait for an install. -/
inductive FormRes where
  | plain (bytes : Bytes)
  | delta (h : TileHeader) (res : Bytes)
  | fail (code : Nat)
  | wait (slot : Nat)
  deriving DecidableEq, Repr

/-- Decodes the stored form of a tile whose CHECK has been compared (R112, R113). For WIDTH 4 it decodes all 32 sub-streams
(R137). -/
def State.decodeForm (s : State) (e : DirEntry) (st : Bytes) : FormRes :=
  let h := parseHeader st
  if !headerOk h e then .fail 0x0501
  else if h.codec = 0 then .plain (slice st 32 4096)
  else
    match s.snapshot h.slot h.gen with
    | .wait => .wait h.slot
    | .none => .fail 0x0502
    | .snap t =>
      if t.gen ≠ h.gen then .fail 0x0502
      else if t.planes < planesOf h.width then .fail 0x0501
      else
        match entropyDecode h st t.codes with
        | none => .fail 0x0501
        | some res => if h.codec = 2 then .plain (planeInverse h.width t.xor res) else .delta h res

/-- Decodes the stored form of a tile. base answers a DELTA tile's base: the base's PLAIN bytes, or the result the tile takes
in place of them. -/
def State.decodeStored (s : State) (x : TileRef) (e : DirEntry) (st : Bytes) (k : Consumer)
    (base : State → TileHeader → State × (Bytes ⊕ TileRes)) : State × TileRes :=
  if !checkOk st e then
    ((s.ledger (s.checkEvent x e k)).repairTile x e.loc e.grains k, .plain (List.replicate 4096 0) allPoison (some x.addr) .failed)
  else
    match s.decodeForm e st with
    | .plain bs => (s, .plain bs [] none .own)
    | .fail code => s.tileFail code x k
    | .wait i => (s, .wait i)
    | .delta h res =>
      match base s h with
      | (s, .inr r) => (s, r)
      | (s, .inl b) => (s, .plain (deltaInverse h.width res b) [] none .own)

/-- A tile whose base cannot be had: EMPTY, DELTA-coded, of another WIDTH or not there (R113). -/
def State.badBaseOf (s : State) (x : TileRef) (k : Consumer) : State × (Bytes ⊕ TileRes) :=
  let r := s.tileFail 0x0501 x k
  (r.1, .inr r.2)

/-- What a tile takes from the decode of its base b: the bytes, the base's poison, or its wait. -/
def State.baseGives (b : TileRef) (bad : State → State × (Bytes ⊕ TileRes)) (r : State × TileRes) : State × (Bytes ⊕ TileRes) :=
  match r.2 with
  | .plain bs [] _ _ => (r.1, .inl bs)
  | .plain _ _ f _ => (r.1, .inr (.plain (List.replicate 4096 0) allPoison f (.base b.addr)))
  | .empty => bad r.1
  | .wait i => (r.1, .inr (.wait i))
  | .repair a => (r.1, .inr (.repair a))

/-- Reads the PLAIN form of the base b of a tile (R113, R117). A BASE_REF that numbers no tile of the share names no base
(DESIGN CHOICE: R113 names no outcome for it). -/
def State.baseRead (s : State) (x b : TileRef) (k : Consumer) (width : Nat) : State × (Bytes ⊕ TileRes) :=
  let bad (s : State) : State × (Bytes ⊕ TileRes) := s.badBaseOf x k
  if 512 * (b.region.pages / 8) ≤ b.t then bad s
  else
    let d := s.readDir b k
    match d.2 with
    | .repair a => (d.1, .inr (.repair a))
    | .unreadable _ => State.baseGives b bad (d.1, tilePoison b.addr)
    | .entry e =>
      match e.state with
      | 1 =>
        if e.codec = 1 ∨ e.width ≠ width then bad d.1
        else
          let r := (d.1.firstRead b e k).readStored b e k
          match r.2.repair, r.2.poison with
          | some g, _ => (r.1, .inr (.repair g))
          | none, a :: _ => State.baseGives b bad (r.1, tilePoison a)
          | none, [] => State.baseGives b bad (r.1.decodeStored b e r.2.data k (fun s _ => (s, .inr (tilePoison b.addr))))
      | 2 => if e.width ≠ width then bad d.1 else State.baseGives b bad (d.1.readExpanded b e.loc k)
      | _ => bad d.1

/-- The PLAIN form of a DELTA tile's base, from a die's base cache where one is used (R117, R138). A look-up counts once,
when its base is here; the cache keeps bases that read clean. -/
def State.basePlain (s : State) (x : TileRef) (k : Consumer) (cacheDie : Option Nat) (h : TileHeader) : State × (Bytes ⊕ TileRes) :=
  let b : TileRef := ⟨x.region, x.cluster, h.baseRef⟩
  match cacheDie with
  | none => s.baseRead x b k h.width
  | some die =>
    match s.baseHit die b.addr.toNat with
    | some l =>
      let s := (s.addF F.MNT_BASE_HITS_COUNT 1).baseKeep die l
      if l.width = h.width then (s, .inl l.bytes) else s.badBaseOf x k
    | none =>
      match s.baseRead x b k h.width with
      | (s, .inl bs) => ((s.addF F.MNT_BASE_MISSES_COUNT 1).baseKeep die ⟨b.addr.toNat, h.width, bs⟩, .inl bs)
      | (s, .inr (.plain bs bad f why)) => (s.addF F.MNT_BASE_MISSES_COUNT 1, .inr (.plain bs bad f why))
      | r => r

/-- The PLAIN form of a tile from its directory entry (R112). -/
def State.decodeEntry (s : State) (x : TileRef) (e : DirEntry) (k : Consumer) (cacheDie : Option Nat) : State × TileRes :=
  match e.state with
  | 1 =>
    let r := (s.firstRead x e k).readStored x e k
    match r.2.repair, r.2.poison with
    | some g, _ => (r.1, .repair g)
    | none, a :: _ => (r.1, tilePoison a)
    | none, [] => r.1.decodeStored x e r.2.data k (fun s h => s.basePlain x k cacheDie h)
  | 2 => s.readExpanded x e.loc k
  | _ => (s, .empty)

/-- The PLAIN form of a tile (R85, R112, R376). -/
def State.decodeTile (s : State) (x : TileRef) (k : Consumer) (cacheDie : Option Nat) : State × TileRes :=
  let d := s.readDir x k
  match d.2 with
  | .repair a => (d.1, .repair a)
  | .unreadable _ => (d.1, tilePoison x.addr)
  | .entry e => d.1.decodeEntry x e k cacheDie

/-- What a tile's stored form is for work that takes tiles as they are stored (R91, R107, R139, R375). -/
inductive StoredRes where
  | bytes (st : Bytes) (poisoned : Bool) (first : Option PA)
  | empty
  | repair (a : PA)
  deriving DecidableEq, Repr

/-- The stored form of a tile, its CHECK compared (R104); an EXPANDED tile as the RAW tile of R107. -/
def State.storedTile (s : State) (x : TileRef) (k : Consumer) : State × StoredRes :=
  let d := s.readDir x k
  match d.2 with
  | .repair a => (d.1, .repair a)
  | .unreadable _ => (d.1, .bytes (List.replicate 4224 0) true (some x.addr))
  | .entry e =>
    match e.state with
    | 1 =>
      let r := (d.1.firstRead x e k).readStored x e k
      match r.2.repair, r.2.poison with
      | some g, _ => (r.1, .repair g)
      | none, a :: _ => (r.1, .bytes (List.replicate (128 * e.grains) 0) true (some a))
      | none, [] =>
        if checkOk r.2.data e then (r.1, .bytes r.2.data false none)
        else ((r.1.ledger (r.1.checkEvent x e k)).repairTile x e.loc e.grains k,
          .bytes (List.replicate (128 * e.grains) 0) true (some x.addr))
    | 2 =>
      match d.1.readExpanded x e.loc k with
      | (s, .repair a) => (s, .repair a)
      | (s, .plain bs [] _ _) => (s, .bytes (rawTile e.width bs) false none)
      | (s, .plain _ _ f _) => (s, .bytes (List.replicate 4224 0) true f)
      | (s, .empty) => (s, .empty)
      | (s, .wait _) => (s, .empty)
    | _ => (d.1, .empty)

end Sys2Proof.Machine
end

