-- ==== Sys2Proof/Machine/Access.lean ====
section
/-! DEFINITION. The checks of a request before it is served: rights under ENFORCE (R305 to R310), extents and their
revocation (R325), versioned regions (R320, R322), per-host limits (R312, R313), DEFER tokens (R235, R236), the open
requests and their order (R238, R239), and the answers (R223 to R225, R236, R241). -/

namespace Sys2Proof.Machine

/-! ## Status codes (Table 9-5) -/

def stOk : Nat := 0
def stDefer : Nat := 1
def stNotReady : Nat := 2
def stPoison : Nat := 3
def stRevoked : Nat := 4
def stDenied : Nat := 5
def stConflict : Nat := 6
def stEpochHold : Nat := 7
def stSlotFree : Nat := 8
def stUnsupported : Nat := 9

/-! ## Trust, groups and extents (R305, R306, R309, R310) -/

/-- Whether trust entry i matches a source (R306). -/
def State.trustMatches (s : State) (i : Nat) (src : Node) : Bool :=
  s.f (F.POOL_TRUST_VALID i) == 1 &&
    (src.toNat &&& s.f (F.POOL_TRUST_MASK i)) == (s.f (F.POOL_TRUST_MATCH i) &&& s.f (F.POOL_TRUST_MASK i))

/-- Whether a source holds a right of the trust table: the OR over the entries it matches (R306). -/
def State.trusted (s : State) (src : Node) (right : Nat → Fld) : Bool :=
  (List.range 16).any (fun i => s.trustMatches i src && s.f (right i) == 1)

/-- Whether a node is a member of group g; 0xFF is no group (R309, R310). -/
def State.inGroup (s : State) (g : Nat) (n : Node) : Bool :=
  g != 255 && s.f (F.POOL_GROUP_VALID g) == 1 &&
    (n.toNat &&& s.f (F.POOL_GROUP_MASK g)) == (s.f (F.POOL_GROUP_MATCH g) &&& s.f (F.POOL_GROUP_MASK g))

/-- Extent states (R309). -/
def extFree : Nat := 0
def extActive : Nat := 1
def extDraining : Nat := 2

/-- The entry that is not FREE and names the extent of a space and number. The table is searched in the register file:
a FREE entry is one that lists nothing there. -/
def State.extentOf (s : State) (space e : Nat) : Option Nat :=
  (s.regs.find? (fun r =>
    decide (R.POOL_EXT 0 ≤ r.1) && decide (r.1 ≤ R.POOL_EXT 16383) && getBits 63 62 r.2 != extFree &&
      getBits 61 60 r.2 == space && getBits 59 36 r.2 == e)).map (fun r => (r.1 - R.POOL_EXT 0) / 8)

/-- The number of the extent that holds an address of a DRAM space. -/
def extentNo (a : PA) : Nat := offsetOf a / 2 ^ 28

/-- The extents that a range touches. -/
def extentsOf (a : PA) (n : Nat) : List Nat :=
  let first := extentNo a
  (List.range (if n = 0 then 1 else (offsetOf a + n - 1) / 2 ^ 28 - first + 1)).map (fun i => first + i)

/-- Whether an entry's groups give a source a right: read-write through RW_GROUP, read through either. -/
def State.entryGrants (s : State) (i : Nat) (src : Node) (write : Bool) : Bool :=
  s.inGroup (s.f (F.POOL_EXT_RW_GROUP i)) src || (!write && s.inGroup (s.f (F.POOL_EXT_RO_GROUP i)) src)

/-- What an extent answers a source's access (Table 13-1, R325). -/
inductive Right where
  | granted | denied | revoked
  deriving DecidableEq, Repr

/-- The right of a source to one extent of a space. -/
def State.extentRight (s : State) (space e : Nat) (src : Node) (write : Bool) : Right :=
  let enforce := s.f F.POOL_CFG_ENFORCE == 1
  let dram := s.trusted src F.POOL_TRUST_DRAM
  match s.extentOf space e with
  | none => if !enforce || dram then .granted else .denied
  | some i =>
    let may := !enforce || dram || s.entryGrants i src write
    if !may then .denied
    else if s.f (F.POOL_EXT_STATE i) = extDraining then .revoked else .granted

/-- The right of a source to a range of any space (Table 13-1). -/
def State.rangeRight (s : State) (a : PA) (n : Nat) (src : Node) (write : Bool) : Right :=
  let enforce := s.f F.POOL_CFG_ENFORCE == 1
  let by_ (r : Nat → Fld) : Right := if !enforce || s.trusted src r then .granted else .denied
  match spaceOf a with
  | 0 | 1 | 2 =>
    let rs := (extentsOf a n).map (fun e => s.extentRight (spaceOf a) e src write)
    if rs.contains .denied then .denied else if rs.contains .revoked then .revoked else .granted
  | 3 => by_ F.POOL_TRUST_VAULT
  | 4 => by_ F.POOL_TRUST_STORES
  | 8 => if offsetOf a / 64 = R.POOL_DOOR 0 / 64 ∧ write then .granted else by_ F.POOL_TRUST_CTRL
  | 9 => by_ F.POOL_TRUST_SLOTS
  | _ => .granted

/-- The POOL_DENIED report of a port, at most once per 1 ms, with its count (R308); 18 is the host endpoint. -/
def State.poolDenied (s : State) (port : Nat) (src : Node) (tag : Tag) (addr : PA) : State :=
  let s := s.addF F.POOL_DENIALS_COUNT 1
  let s := s.setF F.POOL_STATUS_LAST_ERR 0x0801
  let last := Sparse.get natZero s.deniedAt port
  if last = 0 ∨ last - 1 + 1000000 ≤ s.count then
    let s := { s with deniedAt := Sparse.put natZero s.deniedAt port (s.count + 1) }
    s.ledger { code := 0x0801, tag := tag, die := if port < 18 then dieOfPort port else 0, unitKind := if port < 18 then 1 else 14,
               unit := if port < 18 then port else 0, addr := addr.toNat, src := src }
  else s

/-! ## Versioned regions (R320, R322) -/

/-- Slot states of a versioned region. -/
def verFree : Nat := 0
def verDraft : Nat := 1
def verPublished : Nat := 2
def verRetained : Nat := 3

/-- A FREE slot where unlisted. -/
def noVer : Nat → VerSlot := fun _ => {}

/-- A region's slot. -/
def State.verSlot (s : State) (id k : Nat) : VerSlot := Sparse.get noVer s.pool.vers (id * 16 + k)

/-- Sets a region's slot. -/
def State.setVerSlot (s : State) (id k : Nat) (v : VerSlot) : State :=
  { s with pool := { s.pool with vers := Sparse.put noVer s.pool.vers (id * 16 + k) v } }

/-- Pages of a slot: S = PAGES / (V + 1). -/
def Region.slotPages (r : Region) : Nat := r.pages / (r.versions + 1)

/-- The versioned region that covers a page. -/
def State.versionedAt (s : State) (space p : Nat) : Option Region :=
  s.regions.find? (fun r => r.versions != 0 && r.space == space && inPages p r.base r.pages)

/-- Whether a slot's state lets a node read or write it (R322, R323). -/
def VerSlot.allows (v : VerSlot) (src : Node) (write : Bool) : Bool :=
  if write then v.state == verDraft && v.owner == src && !v.copying
  else v.state == verPublished || v.state == verRetained || (v.state == verDraft && v.owner == src)

/-- The pages that a range touches. -/
def pagesOf (a : PA) (n : Nat) : List Nat :=
  let first := pageOf a
  (List.range (if n = 0 then 1 else (offsetOf a + n - 1) / 2 ^ 21 - first + 1)).map (fun i => first + i)

/-- Whether the versioned regions let a node access a range (R322). -/
def State.versionsAllow (s : State) (a : PA) (n : Nat) (src : Node) (write : Bool) : Bool :=
  if spaceOf a ≤ 2 then
    (pagesOf a n).all (fun p =>
      match s.versionedAt (spaceOf a) p with
      | none => true
      | some r => (s.verSlot r.id ((p - r.base) / r.slotPages)).allows src write)
  else true

/-! ## Answers (R217, R223 to R225, R240, R313) -/

/-- LOAD of a flit to a node: 15 while the node is over its limit (R313), else the port's (R240). -/
def State.loadFor (s : State) (p : Nat) (dst : Node) : Nat := if s.overLimit dst then 15 else s.loadOf p

/-- LOAD of a response (R240): a request that a cluster served adds the occupancy of that cluster's queue, which is free. -/
def State.loadServed (s : State) (q : Req) : Nat :=
  if spaceOf q.addr ≤ 3 then clampTo 15 (max (s.loadFor q.port q.src) (Config.queueLoad s.free (ownerOf (pageOf q.addr))))
  else s.loadFor q.port q.src

/-- The SRC that answers a request: the identifier the request was sent to, when that is the pair's (R414). -/
def State.answerSrc (s : State) (dst : Node) : Node :=
  match s.epoch.active.str.mirror with
  | some m => if dst = m.pairNode then m.pairNode else s.node
  | none => s.node

/-- Sends an answer of a type, status and payload to a request by R217. -/
def State.answer (s : State) (q : Req) (ft : FType) (status : Nat) (payload : Bytes) : State :=
  let load := s.loadServed q
  (if spaceOf q.addr ≤ 3 then s.bump else s).sendResponse q.port
    { ftype := ft, tag := q.tag, src := s.answerSrc q.dst, dst := q.src, txn := q.txn, attr := status, payload := payload } load

/-- Whether a request came on the CTL channel. -/
def ReqKind.isCreq : ReqKind → Bool
  | .creqRead | .creqWrite => true
  | _ => false

/-- Answers a request without data: RSP, or CRSP on the CTL channel; DEFER goes in an RSP with the token always (R236,
Table 9-5). -/
def State.answerStatus (s : State) (k : ReqKind) (q : Req) (status token detail : Nat) : State :=
  if k.isCreq && status != stDefer then s.answer q .crsp status (leBytes 4 0 ++ List.replicate 12 0)
  else s.answer q .rsp status (leBytes 4 token ++ leBytes 4 detail)

/-- The POISON mask of a read's data from the numbers of its poisoned grains (R224). -/
def poisonMask (l : List Nat) : Nat := ((List.range 32).map (fun i => if l.contains i then 2 ^ i else 0)).sum

/-- Answers a read with its data: RSPD, or CRSP on the CTL channel. -/
def State.answerData (s : State) (k : ReqKind) (q : Req) (data : Bytes) (mask : Nat) : State :=
  if k.isCreq then s.answer q .crsp stOk (leBytes 4 data.length ++ List.replicate 12 0 ++ data)
  else s.answer q .rspd (if mask = 0 then stOk else stPoison)
    (leBytes 4 data.length ++ leBytes 4 mask ++ List.replicate 8 0 ++ data)

/-! ## Open requests -/

/-- The number that the next request takes is above that of every open request. -/
def State.fresh (s : State) : Prop := ∀ o ∈ s.opens, o.id < s.nextId

/-- Answers DEFER with a token and keeps the request open (R233, R236). Without a free token the request stays open
undeferred. -/
def State.deferOpen (s : State) (o : OpenReq) : State :=
  match s.drawToken o.req.port with
  | none => { s with opens := s.opens ++ [o] }
  | some (s, w) =>
    let s := s.addF (F.JX_PORT_TALLY_COUNT o.req.port 5) 1
    let s := s.answerStatus o.kind o.req stDefer w.toNat 0
    { s with opens := s.opens ++ [{ o with token := some w }] }

/-- A new open request for a request accepted now. -/
def State.openOf (s : State) (k : ReqKind) (q : Req) (w : Wait) : OpenReq :=
  { id := s.nextId, kind := k, req := q, wait := w, token := none, acceptedAt := s.count, epoch := s.f F.GLB_EPOCH_CURRENT
    cls := s.classOf q.tag, revoked := false }

/-- Opens a request and defers it at once. -/
def State.openDeferred (s : State) (k : ReqKind) (q : Req) (w : Wait) : State :=
  s.nextReq.deferOpen (s.openOf k q w)

/-- Opens a request that has had no first response yet. -/
def State.openHeld (s : State) (k : ReqKind) (q : Req) (w : Wait) : State :=
  { s with nextId := s.nextId + 1, opens := s.opens ++ [s.openOf k q w] }

/-- The COMPLETION notice of a deferred request: final status and read data (R236, R237, Table 9-4). -/
def State.completion (s : State) (o : OpenReq) (w : W32) (status mask : Nat) (data : Bytes) : State :=
  let m := s.notice (s.answerSrc o.req.dst) o.req.src o.req.txn o.req.tag ntCompletion status w.toNat
    (leBytes 4 data.length ++ leBytes 4 mask ++ List.replicate 8 0 ++ data)
  match s.route m with
  | none => s.dropMsg m none
  | some p => s.sendAt p m (s.loadFor p o.req.src)

/-- Whether a range touches the extent of an entry. -/
def State.touchesEntry (s : State) (i : Nat) (a : PA) (n : Nat) : Bool :=
  spaceOf a == s.f (F.POOL_EXT_SPACE i) && decide (spaceOf a ≤ 2) && (extentsOf a n).contains (s.f (F.POOL_EXT_BASE i))

/-- Work accepted before a drain of an extent that it touches completes: the drain counts it (Table 13-7). -/
def State.noteDrains (s : State) (id : Nat) (rs : List (PA × Nat)) : State :=
  let upd (d : Drain) : Drain :=
    if id < d.mark ∧ rs.any (fun r => s.touchesEntry d.entry r.1 r.2) then { d with completed := d.completed + 1 } else d
  { s with pool := { s.pool with drains := s.pool.drains.map upd } }

/-- Work that touches an extent is ended or refused with REVOKED: the tally, and the drains' counts (R325). -/
def State.noteRevoked (s : State) (rs : List (PA × Nat)) (ended : Bool) : State :=
  let upd (d : Drain) : Drain :=
    if !rs.any (fun r => s.touchesEntry d.entry r.1 r.2) then d
    else if ended then { d with ended := d.ended + 1 } else { d with refused := d.refused + 1 }
  let s := { s with pool := { s.pool with drains := s.pool.drains.map upd } }
  s.addF F.POOL_REVOKED_REQS_COUNT 1

/-! ## The host endpoint's outcomes (R440, R442, R444) -/

/-- An event of the host endpoint (R450). -/
def hostEvent (code : Nat) (tag : Tag) (addr : Nat) : Event := { code := code, tag := tag, die := 0, unitKind := 14, addr := addr }

/-- A write of the host is discarded: PEP_UR counts it, and PEP_WR_DROP is written at most once per 1 ms (R440, R442). -/
def State.hostDrop (s : State) (q : Req) : State :=
  let s := s.addF F.PEP_UR_COUNT 1
  if s.pep.writeDropAt = 0 ∨ s.pep.writeDropAt - 1 + 1000000 ≤ s.count then
    ({ s with pep := { s.pep with writeDropAt := s.count + 1 } }).ledger (hostEvent 0x0B02 q.tag q.addr.toNat)
  else s

/-- The poisoned grains that a POISON mask names. -/
def maskGrains (mask : Nat) : List Nat := (List.range 33).filter mask.testBit

/-- Read data with 0x00 bytes for the poisoned grains, which are numbered from the address's own. -/
def zeroGrains (a : PA) (mask : Nat) (data : Bytes) : Bytes :=
  data.zipIdx.map (fun p => if mask.testBit ((a.toNat % 128 + p.2) / 128) then 0 else p.1)

/-- Idle where unlisted. -/
def noDma : Nat → DmaChan := fun _ => {}

/-- A DMA channel. -/
def State.dma (s : State) (c : Nat) : DmaChan := Sparse.get noDma s.pep.dma c

/-- Sets a DMA channel. -/
def State.setDma (s : State) (c : Nat) (x : DmaChan) : State := { s with pep := { s.pep with dma := Sparse.put noDma s.pep.dma c x } }

/-- Fields of a DMA descriptor (Table 19-6). -/
def ddOp (d : Bytes) : Nat := fieldLe d 0 1
def ddFlags (d : Bytes) : Nat := fieldLe d 1 1
def ddTag (d : Bytes) : Nat := fieldLe d 2 2
def ddLen (d : Bytes) : Nat := fieldLe d 4 4
def ddHost (d : Bytes) : Nat := fieldLe d 8 8
def ddPool (d : Bytes) : Nat := fieldLe d 16 8

/-- Descriptor statuses (Table 19-6). -/
def dsOk : Nat := 1
def dsPoison : Nat := 2
def dsDenied : Nat := 3
def dsAborted : Nat := 4
def dsUnsupported : Nat := 5
def dsHostError : Nat := 6

/-- A piece of a DMA descriptor has its outcome at the pool (R444). A piece of several grains that is DENIED is tried again
grain by grain, so that the bytes before the first affected one are moved. -/
def State.dmaPiece (s : State) (c : Nat) (o : OpenReq) (status mask : Nat) (data : Bytes) : State :=
  let x := s.dma c
  match x.desc with
  | none => s
  | some d =>
    if status = stOk ∨ status = stPoison then
      let relaxed := (ddFlags d).testBit 0 && s.pep.relaxed
      let s := if o.kind = .rd then
          s.emit (.hostWrite (ddHost d + x.moved) data (maskGrains mask) relaxed) else s
      s.setDma c { x with moved := x.moved + x.piece, piece := 0, poison := x.poison || mask != 0 }
    else if status = stUnsupported then s.setDma c { x with piece := 0, ended := some dsUnsupported }
    else if x.fine || spaceOf o.req.addr == 3 then s.setDma c { x with piece := 0, ended := some dsDenied }
    else s.setDma c { x with piece := 0, fine := true }

/-- A host access ends with a pool outcome (Table 19-5, R442, R444). -/
def State.finishHost (s : State) (o : OpenReq) (h : HostAcc) (status mask : Nat) (data : Bytes) : State :=
  let good := status == stOk || status == stPoison
  match h.dma with
  | some c => s.dmaPiece c o status mask data
  | none =>
    if h.cxl then
      if o.kind = .rd then
        let s := if good || h.answered then s else s.addF F.PEP_UR_COUNT 1
        if h.answered then s
        else if good then s.emit (.cxlCpl h.tag data (maskGrains mask))
        else s.emit (.cxlCpl h.tag (List.replicate o.req.len 0) [0])
      else
        let s := if good then s else s.hostDrop o.req
        if h.answered then s else s.emit (.cxlCpl h.tag [] [])
    else if h.posted then (if good then s else (s.emit (.aer 1 o.req.addr.toNat)).hostDrop o.req)
    else if h.answered then s
    else if good then s.emit (.hostCpl h.requester h.tag 0 data (maskGrains mask))
    else (s.addF F.PEP_UR_COUNT 1).emit (.hostCpl h.requester h.tag 1 [] [])

/-- Ends an open request with a final status and data: by its COMPLETION when it was deferred, else by its response.
Poisoned grains are sent as 0x00 bytes (R224). A
request that a drain has ended already sends nothing more. -/
def State.finish (s : State) (o : OpenReq) (status mask : Nat) (data : Bytes) : State :=
  let s := { s with opens := s.opens.filter (fun x => x.id != o.id) }
  let data := zeroGrains o.req.addr mask data
  if o.revoked then s else
  match o.host with
  | some h => s.finishHost o h status mask data
  | none =>
  let s := if status = stRevoked then s else s.noteDrains o.id [(o.req.addr, o.req.len)]
  match o.token with
  | some w => s.completion o w status mask data
  | none =>
    if status = stOk ∨ status = stPoison then
      if o.kind = .rd ∨ o.kind = .creqRead then s.answerData o.kind o.req data mask
      else s.answerStatus o.kind o.req status 0 0
    else s.answerStatus o.kind o.req status 0 0

/-- Changes what an open request waits for. -/
def State.setWait (s : State) (id : Nat) (w : Wait) : State :=
  { s with opens := s.opens.map (fun o => if o.id = id then { o with wait := w } else o) }

/-! ## Order (R238, R239) -/

/-- The grains that a request touches. -/
def Req.grains (q : Req) : List Nat :=
  let first := q.addr.toNat / 128
  if q.len = 0 then [] else (List.range ((q.addr.toNat + q.len - 1) / 128 - first + 1)).map (fun i => first + i)

/-- The grains that a write marks poisoned, numbered from the address's own: all of them for a CXL write marked poisoned
(R442), and none for any other (R374). -/
def OpenReq.badGrains (o : OpenReq) : List Nat :=
  match o.host with
  | some h => if h.poison then List.range o.req.grains.length else []
  | none => []

/-- Whether a host access came through BAR0 or BAR2 of the link, so that R441 orders it. -/
def HostAcc.onLink (h : HostAcc) : Bool := !h.cxl && h.dma.isNone

/-- Whether a host access must follow an earlier posted write of the link (R441). -/
def hostFollow : Option HostAcc → Option HostAcc → Bool
  | some a, some b => a.onLink && b.onLink && b.posted && (!a.posted || !a.relaxed)
  | _, _ => false

/-- Whether a request must follow an earlier open one (R238): same source and tag, and either ORDERED, or neither
RELAXED with a common grain; a FLUSH follows every open write of its source (R239). A host access follows the posted
writes that R441 names too. -/
def mustFollow (k : ReqKind) (q : Req) (h : Option HostAcc) (o : OpenReq) : Bool :=
  hostFollow h o.host ||
  (match k with
  | .flush => o.req.src == q.src && (o.kind == .wr || o.kind == .creqWrite || (q.ordered && o.req.tag == q.tag))
  | _ => o.req.src == q.src && o.req.tag == q.tag &&
      (q.ordered || (!q.relaxed && !o.req.relaxed && q.grains.any (fun g => o.req.grains.contains g))))

/-- The open requests that a request must wait for. -/
def State.follows (s : State) (k : ReqKind) (q : Req) (h : Option HostAcc) : List OpenReq := s.opens.filter (mustFollow k q h)

/-- Whether an open request must still wait for one accepted before it. -/
def State.stillWaits (s : State) (o : OpenReq) : Bool :=
  s.opens.any (fun p => decide (p.id < o.id) && mustFollow o.kind o.req o.host p)

/-! ## Poison consumed (R377) -/

/-- A unit of work consumed poison: its tag's bit is set and POISON_CONSUMED is written. -/
def State.poisonConsumed (s : State) (e : Event) : State :=
  if e.tag = 0 then s
  else
    let s := s.setBit (F.LDG_TAG_POISON_TAGS (e.tag.toNat / 64)) (e.tag.toNat % 64) true
    (s.addF F.LDG_POISON_READS_COUNT 1).ledger { e with code := 0x0760 }

/-- As R377, for work whose chapter names a record of its own in place of POISON_CONSUMED. -/
def State.poisonNamed (s : State) (e : Event) : State :=
  if e.tag = 0 then s.ledger e
  else
    let s := s.setBit (F.LDG_TAG_POISON_TAGS (e.tag.toNat / 64)) (e.tag.toNat % 64) true
    (s.addF F.LDG_POISON_READS_COUNT 1).ledger e

end Sys2Proof.Machine
end

