-- ==== Sys2Proof/Machine/Dram.lean ====
section
/-! DEFINITION. The DRAM controllers (chapter 11): refresh and activate tables, row-hammer protection, thermal levels,
periodic updates and channel fences. -/

namespace Sys2Proof.Machine

/-- A controlled unit of DRAM: a canopy stack or an understory channel. -/
inductive DUnit where
  | stack (n : Fin 8)
  | channel (n : Fin 96)
  deriving DecidableEq, Repr

/-- UNIT_KIND of a controlled unit (Table 16-4). -/
def DUnit.kind : DUnit → Nat
  | .stack _ => 2
  | .channel _ => 3

/-- UNIT of a controlled unit. -/
def DUnit.no : DUnit → Nat
  | .stack n => n.val
  | .channel n => n.val

/-- The cluster of a controlled unit. -/
def DUnit.cluster : DUnit → Nat
  | .stack n => n.val
  | .channel n => clusterOfChannel n.val

/-- A key for tables over both tiers: stacks 0 to 7, channels from 8. -/
def DUnit.key : DUnit → Nat
  | .stack n => n.val
  | .channel n => 8 + n.val

/-- Fields of XXX_DCFG and XXX_STS, by tier (Tables 11-7, 11-11, 11-12). -/
def DUnit.tripC : DUnit → Fld
  | .stack _ => F.CAN_DCFG_TRIP_C
  | .channel _ => F.UND_DCFG_TRIP_C
def DUnit.t3C : DUnit → Fld
  | .stack _ => F.CAN_DCFG_T3_C
  | .channel _ => F.UND_DCFG_T3_C
def DUnit.t2C : DUnit → Fld
  | .stack _ => F.CAN_DCFG_T2_C
  | .channel _ => F.UND_DCFG_T2_C
def DUnit.highC : DUnit → Fld
  | .stack _ => F.CAN_DCFG_HIGH_C
  | .channel _ => F.UND_DCFG_HIGH_C
def DUnit.temp : DUnit → Fld
  | .stack n => F.CAN_DSTS_TEMP n
  | .channel n => F.UND_STS_TEMP n
def DUnit.speed : DUnit → Fld
  | .stack n => F.CAN_DSTS_SPEED n
  | .channel n => F.UND_STS_SPEED n
def DUnit.refHigh : DUnit → Fld
  | .stack n => F.CAN_DSTS_REF_HIGH n
  | .channel n => F.UND_STS_REF_HIGH n
def DUnit.level : DUnit → Fld
  | .stack n => F.CAN_DSTS_LEVEL n
  | .channel n => F.UND_STS_LEVEL n
def DUnit.state : DUnit → Fld
  | .stack n => F.CAN_DSTS_STATE n
  | .channel n => F.UND_STS_STATE n
/-- Tally i: 0 CE_GRAINS, 1 UE_GRAINS, 2 RH_TRIGGERS, 3 RFM_CMDS, 4 UPDATES, 5 THROTTLE_NS. -/
def DUnit.tally (u : DUnit) (i : Nat) : Fld :=
  match u with
  | .stack n => F.CAN_TALLY_COUNT n i
  | .channel n => F.UND_TALLY_COUNT n i

/-- A controller's event, in class 0x03 (R288). -/
def dramEvent (u : DUnit) (code addr flags : Nat) : Event :=
  { code := code, die := dieOfCluster u.cluster, cluster := u.cluster, unitKind := u.kind, unit := u.no, addr := addr,
    flags := flags }

/-! ## Activate tables and row hammer (R277 to R279) -/

/-- An empty activate table where unlisted. -/
def noActs : Nat → List ActEntry := fun _ => []

/-- The activate table of a bank of a memory unit. -/
def State.acts (s : State) (unit bank : Nat) : List ActEntry := Sparse.get noActs s.dramCtl.acts (256 * unit + bank)

/-- Sets a bank's activate table. -/
def State.setActs (s : State) (unit bank : Nat) (l : List ActEntry) : State :=
  { s with dramCtl := { s.dramCtl with acts := Sparse.put noActs s.dramCtl.acts (256 * unit + bank) l } }

/-- The place of the least count, the lowest-numbered on a tie. -/
def leastAct (l : List ActEntry) : Nat :=
  ((l.zipIdx.foldl (fun (b : Option (Nat × Nat)) e =>
    match b with
    | none => some (e.1.count, e.2)
    | some (n, i) => if e.1.count < n then some (e.1.count, e.2) else some (n, i)) none).map (fun p => p.2)).getD 0

/-- A table after one activate of a row (R277); the count is 16 bits wide. -/
def actStep (l : List ActEntry) (row : Nat) : List ActEntry :=
  if l.any (fun e => e.row == row) then
    l.map (fun e => if e.row = row then { e with count := clampTo 65535 (e.count + 1) } else e)
  else if l.length < 32 then l ++ [⟨row, 1⟩]
  else
    let i := leastAct l
    l.set i ⟨row, clampTo 65535 ((l.getD i ⟨0, 0⟩).count + 1)⟩

/-- The ADJACENCY entry of a tier: 0 the canopy, 1 the understory. -/
def State.adjacency (s : State) (tier : Nat) : Option Adjacency :=
  s.epoch.active.str.adjacency.find? (fun e => e.tier == tier)

/-- The physical row of a logical row (R279). -/
def Adjacency.phys (a : Adjacency) (r : Nat) : Nat :=
  let x := r ^^^ (a.xor % 2 ^ a.rowBits)
  ((List.range a.rowBits).map (fun i => if x.testBit (a.perm.getD i 0) then 2 ^ i else 0)).sum

/-- The logical row of a physical row. -/
def Adjacency.logical (a : Adjacency) (p : Nat) : Nat :=
  ((List.range a.rowBits).map (fun i => if p.testBit i then 2 ^ (a.perm.getD i 0) else 0)).sum ^^^ (a.xor % 2 ^ a.rowBits)

/-- The logical rows at physical distances −2, −1, +1 and +2 of a row in a bank of the given number of rows; one that
lies outside the bank is skipped (R278). -/
def State.neighbours (s : State) (tier rows r : Nat) : List Nat :=
  let near (p n : Nat) : List Nat :=
    (if 2 ≤ p then [p - 2] else []) ++ (if 1 ≤ p then [p - 1] else []) ++
      (if p + 1 < n then [p + 1] else []) ++ (if p + 2 < n then [p + 2] else [])
  match s.adjacency tier with
  | some a => (near (a.phys r) (2 ^ a.rowBits)).map a.logical
  | none => near r rows

/-- The controlled unit of a memory unit (64 pseudo-channels to a stack, then the channels). -/
def dunitOf (u : Fin 608) : DUnit :=
  if h : u.val < 512 then .stack ⟨u.val / 64, by omega⟩ else .channel ⟨u.val - 512, by omega⟩

/-- The neighbour refreshes of a bank: every entry at the threshold, rows ascending (R278). -/
def State.rowHammer (s : State) (u : Fin 608) (bank rows : Nat) : State :=
  let cfg := if u.val < 512 then (F.CAN_DCFG_RH_EN, F.CAN_DCFG_RH_THRESHOLD) else (F.UND_DCFG_RH_EN, F.UND_DCFG_RH_THRESHOLD)
  if s.f cfg.1 = 0 then s
  else
    let lim := s.f cfg.2
    let l := s.acts u bank
    let hit := l.filter (fun e => decide (lim ≤ e.count))
    let order := hit.foldl (fun acc e => insertNat e.row acc) []
    let s := s.forEach order (fun s r =>
      (s.forEach (s.neighbours (if u.val < 512 then 0 else 1) rows r) (fun s n => s.emit (.refresh u bank n))).addF
        ((dunitOf u).tally 2) 1)
    s.setActs u bank (l.map (fun e => if lim ≤ e.count then { e with count := 0 } else e))

/-- A row is activated. A bank whose entry has reached the threshold refreshes the row's neighbours before its next activate. -/
def State.activate (s : State) (a : Activate) : State :=
  (s.setActs a.unit a.bank (actStep (s.acts a.unit a.bank) a.row)).rowHammer a.unit a.bank a.rows

/-! ## Refresh (R275) -/

/-- A bank not refreshed yet, where unlisted. -/
def noRefresh : Nat → BankRefresh := fun _ => {}

/-- The refresh window of a memory unit in ns: 32 ms, in the high range 16 ms, and less for a channel that calls for more than
twice the normal rate. -/
def State.refreshWindow (s : State) (u : Fin 608) : Nat :=
  let rate := Sparse.get natZero s.dramCtl.rates u
  if s.f (dunitOf u).refHigh = 0 then 32000000 else if 2 < rate then 32000000 / rate else 16000000

/-- A refresh command to a bank of some rows, once it is due: it goes to the row that comes next; the last row ends the bank's
window, whose activate table is cleared (R275, R277). -/
def State.refreshTick (s : State) (u : Fin 608) (bank : Fin 256) (rows : Nat) : State :=
  let k := 256 * u.val + bank.val
  let b := Sparse.get noRefresh s.dramCtl.refresh k
  if s.dramCtl.selfRefresh ∨ s.count < b.due then s
  else
    let last := decide (rows ≤ b.row + 1)
    let next : BankRefresh := ⟨if last then 0 else b.row + 1, s.count + s.refreshWindow u / rows⟩
    let s := s.emit (.refresh u bank b.row)
    let s := { s with dramCtl := { s.dramCtl with refresh := Sparse.put noRefresh s.dramCtl.refresh k next } }
    if last then s.setActs u bank [] else s

/-! ## Thermal levels (R285) -/

/-- A temperature in quarter °C, two's complement in 16 bits, compared with a threshold in °C. -/
def atLeastC (t : Int) (c : Nat) : Bool := decide ((4 * c : Int) ≤ t)

/-- The level after a readout: a level is entered at its threshold and left 3 °C below it (Table 11-3). -/
def thermalLevel (cur : Nat) (t : Int) (high t2 t3 : Nat) : Nat :=
  let up := if atLeastC t t3 then 3 else if atLeastC t t2 then 2 else if atLeastC t high then 1 else 0
  let stay (lv c : Nat) : Bool := decide (lv ≤ cur) && decide ((4 * c : Int) - 12 < t)
  let hold := if stay 3 t3 then 3 else if stay 2 t2 then 2 else if stay 1 high then 1 else 0
  max up hold

/-- A unit's temperature readout, and for a channel the multiple of the normal refresh rate that its own indication calls for:
its level, refresh range and record (R275, R285). -/
def State.dramThermal (s : State) (u : DUnit) (t : Int) (rate : Nat) : State :=
  let old := s.f u.level
  let lv := thermalLevel old t (s.f u.highC) (s.f u.t2C) (s.f u.t3C)
  let tq := (t % 2 ^ 16).toNat
  let high := match u with | .stack _ => decide (((4 * s.f u.highC : Nat) : Int) < t) || decide (1 ≤ lv) | .channel _ => decide (1 < rate) || decide (1 ≤ lv)
  let s := s.setF u.temp tq
  let s := s.setF u.level lv
  let s := s.setF u.refHigh (if high then 1 else 0)
  let s := match u with
    | .stack _ => s
    | .channel n => { s with dramCtl := { s.dramCtl with rates := Sparse.put natZero s.dramCtl.rates (512 + n.val) rate } }
  if lv = 3 ∧ old ≠ 3 then (s.ibi 3).ledger (dramEvent u 0x0324 tq 0) else s

/-- Whether a readout reaches TRIP_C. -/
def State.dramTrips (s : State) (u : DUnit) (t : Int) : Bool := atLeastC t (s.f u.tripC)

/-! ## Fences (R273, R274) -/

/-- Takes an understory channel out of service (R274): cause 0 training, 1 update, 2 error burst, 3 population. -/
def State.fenceChannel (s : State) (n : Fin 96) (cause : Nat) : State :=
  let u := DUnit.channel n
  if s.f u.state = 6 then s
  else (s.setF u.state 6).ledger (dramEvent u 0x0322 cause flagFence)

/-- Whether reads of more than 64 of a channel's grains were uncorrectable within the last 1 ms. -/
def State.errorBurst (s : State) (n : Fin 96) : Bool :=
  decide (64 < ((Sparse.get noTimes s.dramCtl.ueTimes (512 + n.val)).filter (fun x => decide (s.count < x.1 + 1000000))).length)

/-- A channel's density as training reads it, in GiB: another than UND_GIB is recorded and fences the channel (R273). -/
def State.densityRead (s : State) (n : Fin 96) (gib : Nat) : State :=
  if gib = s.f F.UND_POP_GIB then s else (s.ledger (dramEvent (.channel n) 0x0321 gib 0)).fenceChannel n 3

/-- A unit that has had no update, where unlisted. -/
def noUpdate : Nat → Option (Nat × Nat) := fun _ => none

/-- Whether a unit's periodic update is due: in service, 100 ms after the last, or once its temperature has moved by more than
8 °C since (R284). -/
def State.updateDue (s : State) (u : DUnit) : Bool :=
  s.inService &&
    (match Sparse.get noUpdate s.dramCtl.updates u.key with
    | none => true
    | some (at_, temp) => decide (at_ + 100000000 ≤ s.count) ||
        decide (32 < ((BitVec.ofNat 16 (s.f u.temp)).toInt - (BitVec.ofNat 16 temp).toInt).natAbs))

/-- One run of a unit's periodic update; a failure is recorded (R284). -/
def State.dramUpdate (s : State) (u : DUnit) (ok : Bool) : State :=
  let s := s.addF (u.tally 4) 1
  let s := { s with dramCtl := { s.dramCtl with updates := Sparse.put noUpdate s.dramCtl.updates u.key (some (s.count, s.f u.temp)) } }
  if ok then s else s.ledger (dramEvent u 0x0323 0 0)

/-! ## The commands -/

/-- REFRESH_TICK: a refresh command to a bank of some rows (R275). -/
def execRefreshTick (u : Fin 608) (bank : Fin 256) (rows : Fin 262145) (s : State) : Host.Outcome State Fault Refusal :=
  .next (s.refreshTick u bank rows)

/-- ROW_HAMMER_TRIGGER: rows of a bank are activated, and entries that have reached RH_THRESHOLD have their neighbours
refreshed; rows is the bank's number of rows, used when no ADJACENCY entry gives it (R277, R278). -/
def execRowHammerTrigger (u : Fin 608) (bank : Fin 256) (rows : Fin 262145) (acts : List (Fin 262144)) (s : State) :
    Host.Outcome State Fault Refusal :=
  .next ((s.rowHammer u bank rows).forEach acts (fun s a => s.activate ⟨u, bank, a, rows⟩))

/-- RFM_COMMAND: a refresh management command to a bank (R276). -/
def execRfmCommand (u : Fin 608) (bank : Fin 256) (s : State) : Host.Outcome State Fault Refusal :=
  .next ((s.emit (.refresh u bank 0)).addF ((dunitOf u).tally 3) 1)

/-- DRAM_CHANNEL_FENCED: a channel meets one of R274's causes. The error burst is judged from the reads themselves; the
other causes are facts of the channel. density is what R273 read, in GiB. -/
def execDramChannelFenced (n : Fin 96) (cause : Fin 4) (density : Fin 256) (s : State) : Host.Outcome State Fault Refusal :=
  if s.f (F.UND_STS_STATE n) = 6 then .next s
  else if cause = 2 then .next (if s.errorBurst n then s.fenceChannel n 2 else s)
  else if cause = 3 then .next (s.densityRead n density)
  else .next (s.fenceChannel n cause)

end Sys2Proof.Machine
end

