-- ==== Sys2Proof/Machine/Vault.lean ====
section
/-! DEFINITION. The vault flash tier (chapter 12): populated pages and partitions, blocks with their poison masks,
segments and the page map, wear, and checkpoint entries. Where a segment goes is the flash format's affair, which the
spec leaves closed: a command names the places it takes. -/

namespace Sys2Proof.Machine

/-! ## Pages and partitions (R293) -/

/-- The cluster of a vault channel. -/
def clusterOfVch (n : Nat) : Nat := n / 4

/-- Populated vault pages of a cluster. -/
def State.vaultPages (s : State) (c : Nat) : Nat := s.f (F.VLT_PAGES_PAGES c)

/-- Whether a vault-window page is populated. -/
def State.vaultPopulated (s : State) (p : Nat) : Bool := decide (localPage p < s.vaultPages (ownerOf p))

/-- Whether a page lies in the checkpoint partition. -/
def State.ckptPage (s : State) (p : Nat) : Bool := s.vaultPopulated p && decide (localPage p < s.f F.VLT_PART_CKPT_PAGES)

/-- Whether a page lies in the test shelf. -/
def State.shelfPage (s : State) (p : Nat) : Bool :=
  s.vaultPopulated p && decide (s.vaultPages (ownerOf p) ≤ localPage p + s.f F.VLT_PART_SHELF_PAGES)

/-- Whether a cluster's vault is fenced. -/
def State.vaultFenced (s : State) (c : Nat) : Bool := s.f (F.VLT_PAGES_STATE c) == 3 || s.clusterFenced c

/-- Whether a page takes writes of requesters: populated, not of the shelf, its cluster neither fenced nor read-only. -/
def State.vaultWritable (s : State) (p : Nat) : Bool :=
  s.vaultPopulated p && !s.shelfPage p && !s.vaultFenced (ownerOf p) && s.f (F.VLT_PAGES_STATE (ownerOf p)) != 2

/-! ## Segments and erase blocks (R295, R297) -/

/-- No segment where unlisted. -/
def noSeg : Nat → Option VSeg := fun _ => none
/-- An erase block never used, where unlisted. -/
def noBlock : Nat → VBlock := fun _ => {}
/-- No open page where unlisted. -/
def noPages : Nat → List Nat := fun _ => []

/-- A page's segment. -/
def State.vseg (s : State) (p : Nat) : Option VSeg := Sparse.get noSeg s.vault.segs p
/-- Sets a page's segment. -/
def State.setVseg (s : State) (p : Nat) (g : Option VSeg) : State :=
  { s with vault := { s.vault with segs := Sparse.put noSeg s.vault.segs p g } }

/-- The key of an erase block. -/
def VPlace.key (x : VPlace) : Nat := 2 ^ 24 * (x.ch.val * 8 + x.ce.val) + x.eb.val
/-- The place of an erase block of a key. -/
def placeOfKey (k : Nat) : VPlace := ⟨Fin.ofNat 32 (k / 2 ^ 27), Fin.ofNat 8 (k / 2 ^ 24), Fin.ofNat 16777216 k, 0⟩

/-- An erase block. -/
def State.vblock (s : State) (x : VPlace) : VBlock := Sparse.get noBlock s.vault.blocks x.key
/-- Sets an erase block. -/
def State.setVblock (s : State) (x : VPlace) (b : VBlock) : State :=
  { s with vault := { s.vault with blocks := Sparse.put noBlock s.vault.blocks x.key b } }

/-- The accepted target that a place names. -/
def State.vtarget (s : State) (x : VPlace) : Option VTarget := s.vault.targets.find? (fun t => t.ch == x.ch && t.ce == x.ce)

/-- The segments that an erase block of a target holds. -/
def VTarget.room (t : VTarget) : Nat := t.ebMain / 2097152

/-- The listed erase blocks of a target. -/
def State.blocksOf (s : State) (ch : Fin 32) (ce : Fin 8) : List (Nat × VBlock) :=
  s.vault.blocks.filter (fun e => decide (e.1 / 2 ^ 24 = ch.val * 8 + ce.val))

/-- Whether some erase block of a target has never been used. -/
def State.freshBlock (s : State) (t : VTarget) : Bool := decide ((s.blocksOf t.ch t.ce).length < t.main / t.ebMain)

/-- Whether a block of a target is open: it has taken segments since it was erased, and has room (R297). -/
def VBlock.open_ (b : VBlock) (t : VTarget) : Bool := !b.retired && decide (0 < b.taken) && decide (b.taken < t.room)

/-- Whether an erase block takes the next segment of its target: it is open; or none is, and it is free with the lowest erase
count (R297). The free pool and the open blocks are each target's own (DESIGN CHOICE). -/
def State.takesNext (s : State) (t : VTarget) (b : VBlock) : Bool :=
  let all := s.blocksOf t.ch t.ce
  b.open_ t || (b.taken == 0 && !b.retired && !all.any (fun e => e.2.open_ t) && (b.erases == 0 || !s.freshBlock t) &&
    all.all (fun e => e.2.retired || e.2.taken != 0 || decide (b.erases ≤ e.2.erases)))

/-- Whether a segment may go to a place for a page of a cluster (R295, R297): on a READY channel of the cluster, at the next place
of an erase block that its target has and that takes the target's next segment. -/
def State.placeOk (s : State) (c : Nat) (x : VPlace) : Bool :=
  clusterOfVch x.ch == c && s.f (F.VLT_CH_STS_STATE x.ch) == 2 &&
    (match s.vtarget x with
    | some t => decide (x.eb.val < t.main / t.ebMain) && x.slot == (s.vblock x).taken && s.takesNext t (s.vblock x)
    | none => false)

/-- The pages whose segments lie in an erase block, ascending. -/
def State.segsIn (s : State) (x : VPlace) : List Nat :=
  Sparse.keysWhere (fun _ g => match g with | some g => g.place.key == x.key | none => false) s.vault.segs

/-- Whether a page's segment lies on a fenced channel. -/
def State.segFenced (s : State) (p : Nat) : Bool :=
  match s.vseg p with
  | some g => s.f (F.VLT_CH_STS_STATE g.place.ch) == 3
  | none => false

/-- Marks a page as the one appended to most recently; of more than 64 open pages of its cluster the one appended to
least recently closes (R295). -/
def State.openVault (s : State) (p : Nat) : State :=
  let c := ownerOf p
  let l := p :: (Sparse.get noPages s.vault.opened c).filter (fun q => q != p)
  let s := { s with vault := { s.vault with opened := Sparse.put noPages s.vault.opened c (l.take 64) } }
  s.forEach (l.drop 64) (fun s q => match s.vseg q with | some g => s.setVseg q (some { g with open_ := false }) | none => s)

/-- Gives a page a new segment at a place with a fill point, open or closed: the old segment is freed and counts as a
relocation, and the page's map entry waits to be programmed. -/
def State.newSegment (s : State) (p : Nat) (x : VPlace) (fill : Nat) (open_ : Bool) : State :=
  let moved := (s.vseg p).isSome
  let s := s.setVseg p (some ⟨x, fill, open_, false⟩)
  let s := s.setVblock x { s.vblock x with taken := (s.vblock x).taken + 1 }
  let s := if moved then s.addF (F.VLT_CH_TALLY_COUNT x.ch 4) 1 else s
  s.addF (F.VLT_CH_TALLY_COUNT x.ch 5) (4096 * fill)

/-! ## Blocks (R294) -/

/-- The bytes of a vault block. -/
def State.vaultBytes (s : State) (b : Nat) : Bytes := Sparse.getList zeroByte s.vault.mem (4096 * b) 4096

/-- The poisoned grains of a vault block, numbered within it. -/
def State.vaultMask (s : State) (b : Nat) : List Nat :=
  (List.range 32).filter (fun g => Sparse.get clearBit s.vault.poison (32 * b + g))

/-- A block never written, where unlisted. -/
def noMeta : Nat → Option VMeta := fun _ => none

/-- The CRC-32C of a block over its data and its metadata: page and block index, sequence number and mask, little-endian (DESIGN
CHOICE: the spec keeps the order of the metadata to the device). -/
def vaultCrc (bs : Bytes) (p i : Nat) (seq : W64) (mask : List Nat) : W32 :=
  crc32c (bs ++ leBytes 4 p ++ leBytes 4 i ++ leBytes 8 seq.toNat ++ leBytes 4 ((mask.map (fun g => 2 ^ g)).sum))

/-- Sets a block's bytes, its poison mask and its metadata, with the next sequence number. -/
def State.putVault (s : State) (b : Nat) (bs : Bytes) (mask : List Nat) : State :=
  let v := s.vault
  let m : VMeta := ⟨b / 512, b % 512, v.seq, vaultCrc bs (b / 512) (b % 512) v.seq mask⟩
  { s with vault := { v with
      mem := Sparse.putList zeroByte v.mem (4096 * b) bs
      poison := Sparse.putList clearBit v.poison (32 * b) ((List.range 32).map (fun g => mask.contains g))
      metas := Sparse.put noMeta v.metas b (some m)
      seq := v.seq + 1 } }

/-- Whether a block's code word is its own and passes the CRC; a block never written has none. -/
def State.vaultCrcOk (s : State) (b : Nat) : Bool :=
  match Sparse.get noMeta s.vault.metas b with
  | some m => m.page == b / 512 && m.index == b % 512 && m.crc == vaultCrc (s.vaultBytes b) m.page m.index m.seq (s.vaultMask b)
  | none => true

/-- The level at which a block decodes (R294): 0 for the hard decision, up to 7 for read retry, 8 when it is uncorrectable. -/
def State.vaultLevel (s : State) (env : VaultEnv) (b : Nat) : Nat :=
  match env.levels.find? (fun e => e.1 == b) with
  | some e => if s.vaultCrcOk b then e.2 else 8
  | none => if s.vaultCrcOk b then 0 else 8

/-- The page of a vault block. -/
def vpageOf (b : Nat) : Nat := b / 512

/-- An event of a vault channel, in class 0x04 (R302). -/
def vaultEvent (code ch : Nat) (tag : Tag) (addr : Nat) : Event :=
  { code := code, tag := tag, die := dieOfCluster (clusterOfVch ch), cluster := clusterOfVch ch, unitKind := 4, unit := ch,
    op := 1, addr := addr }

/-- The vault-window address of a block. -/
def vaultAddr (b : Nat) : PA := poolAddr 3 (4096 * b)

/-! ## Checkpoint entries as destinations (R299, R300) -/

/-- The entries whose destination range holds a vault page, with the page's number in the range. -/
def State.ckptDest (s : State) (p : Nat) : List (Nat × Nat) :=
  (s.ckptLive.filter (fun i => inPages p (s.f (F.VLT_CKPT_DST_BASE i)) (s.f (F.VLT_CKPT_SRC_PAGES i)))).map
    (fun i => (i, p - s.f (F.VLT_CKPT_DST_BASE i)))

/-- A write to a vault page is accepted: VALID clears (R300). -/
def State.ckptDestAccept (s : State) (p : Nat) : State := s.forEach (s.ckptDest p) (fun s e => s.clearValid e.1 e.2)

/-- What an unlisted destination page has covered. -/
def noCover : Nat → Nat := fun _ => 0

/-- A write of request number id to a block has taken effect: it covers the block for the entries armed before it. -/
def State.ckptCover (s : State) (b id : Nat) : State :=
  s.forEach (s.ckptDest (vpageOf b)) (fun s e =>
    let t := s.ckpt e.1
    if t.armedId ≤ id then
      let m := Sparse.get noCover t.covered e.2 ||| 2 ^ (b % 512)
      s.setCkpt e.1 { t with covered := Sparse.put noCover t.covered e.2 m }
    else s)

/-! ## Reading and writing a block (R294, R295, R298) -/

/-- Moves a page's segment to the next place that the command names; an open page stays open (R297, R298). -/
def State.relocate (s : State) (p : Nat) (places : List VPlace) : State × List VPlace :=
  match s.vseg p, places with
  | some g, x :: t => if s.placeOk (ownerOf p) x then (s.newSegment p x g.fill g.open_, t) else (s, t)
  | _, l => (s, l)

/-- A segment in which a block needed read retry moves, once in a command: to the first of its places that can take it
(R298). -/
def State.retryMove (s : State) (p : Nat) (places : List VPlace) : State :=
  match s.vseg p with
  | some g =>
    if places.contains g.place then s
    else
      match places.find? (s.placeOk (ownerOf p)) with
      | some x => s.newSegment p x g.fill g.open_
      | none => s
  | none => s

/-- Reads one block: its bytes and poisoned grains. A block of a page whose segment lies on a fenced channel, of a page
whose map block is uncorrectable, and a block uncorrectable after every retry level is wholly poisoned (R294, R301,
R302). -/
def State.readVault (s : State) (b : Nat) (env : VaultEnv) (tag : Tag) : State × Bytes × List Nat :=
  let p := vpageOf b
  let zero := List.replicate 4096 (0 : Byte)
  match s.vseg p with
  | none => (s, s.vaultBytes b, s.vaultMask b)
  | some g =>
    let ch := g.place.ch.val
    if s.vaultFenced (ownerOf p) then (s, zero, allPoison)
    else if s.segFenced p then
      (s.forEach (s.ckptDest p) (fun s e => s.clearValid e.1 e.2), zero, allPoison)
    else if env.mapBad.contains (localPage p) then (s.ledger (vaultEvent 0x0407 ch tag (localPage p)), zero, allPoison)
    else
      let level := s.vaultLevel env b
      if 8 ≤ level then
        ((s.addF (F.VLT_CH_TALLY_COUNT ch 2) 1).ledger (vaultEvent 0x0401 ch tag (vaultAddr b).toNat), zero, allPoison)
      else
        let s := if env.corrected.contains b then s.addF (F.VLT_CH_TALLY_COUNT ch 0) 1 else s
        let s := if level = 0 then s else (s.addF (F.VLT_CH_TALLY_COUNT ch 1) 1).retryMove p env.places
        (s, s.vaultBytes b, s.vaultMask b)

/-- A page that leaves a fenced channel: its blocks, which read as poisoned there, go to the new segment poisoned (R301). -/
def State.spoilPage (s : State) (p fill : Nat) : State :=
  if s.segFenced p then s.forEach (List.range fill) (fun s i => s.putVault (512 * p + i) (List.replicate 4096 0) allPoison) else s

/-- Writes one block: an append at the page's fill point goes into its open segment; any other write takes a new segment, at
the first place that the command names (R295). None when a new segment is needed and no place is left (R301). The second
result tells whether the page's map entry must still be programmed. -/
def State.writeVault (s : State) (b : Nat) (bs : Bytes) (mask : List Nat) (places : List VPlace) : Option (State × Bool) :=
  let p := vpageOf b
  let i := b % 512
  let done (s : State) (dirty : Bool) : Option (State × Bool) := some ((s.putVault b bs mask).openVault p, dirty)
  match s.vseg p with
  | some g =>
    if g.open_ ∧ g.fill = i ∧ !s.segFenced p then
      done ((s.setVseg p (some { g with fill := i + 1 })).addF (F.VLT_CH_TALLY_COUNT g.place.ch 5) 4096) (!g.mapped)
    else
      match places.find? (fun x => s.placeOk (ownerOf p) x) with
      | some x => done ((s.spoilPage p g.fill).newSegment p x (max g.fill (i + 1)) true) true
      | none => none
  | none =>
    match places.find? (fun x => s.placeOk (ownerOf p) x) with
    | some x => done (s.newSegment p x (i + 1) true) true
    | none => none

/-- The blocks that a vault-window range covers. -/
def vblocksOf (a : PA) (n : Nat) : List Nat := (List.range (n / 4096)).map (fun i => offsetOf a / 4096 + i)

/-- Whether an open request must wait for an earlier one at the vault: one that touches a common page (R296). -/
def State.vaultBehind (s : State) (o : OpenReq) : Bool :=
  s.opens.any (fun p => decide (p.id < o.id) && p.wait == .vault &&
    (vblocksOf p.req.addr p.req.len).any (fun b => (vblocksOf o.req.addr o.req.len).any (fun c => vpageOf b == vpageOf c)))

/-- Whether an accepted access to a vault page has not had its turn yet: the device's own accesses come after it (R296). -/
def State.vaultPending (s : State) (p : Nat) : Bool :=
  s.opens.any (fun (o : OpenReq) => o.wait == .vault && !s.vault.mapWait.contains o.id && (vblocksOf o.req.addr o.req.len).any (fun b => vpageOf b == p))

/-- Whether accesses accepted before hold back the device's own access to a range of the vault. -/
def State.vaultHeld (s : State) (a : PA) (n : Nat) : Bool := spaceOf a == 3 && (vblocksOf a n).any (fun b => s.vaultPending (vpageOf b))

/-- An open request that waits for the vault and comes next for its pages. -/
def State.vaultReq (s : State) (id : Nat) (k : ReqKind) : Option OpenReq :=
  s.opens.find? (fun o => o.id == id && o.wait == .vault && o.kind == k && !s.vaultBehind o && !s.vault.mapWait.contains id)

/-- Reads the blocks of a request. -/
def State.readVaultReq (s : State) (o : OpenReq) (env : VaultEnv) : State × Bytes × List Nat :=
  (vblocksOf o.req.addr o.req.len).zipIdx.foldl (fun (st : State × Bytes × List Nat) b =>
    let r := st.1.readVault b.1 env o.req.tag
    (r.1, st.2.1 ++ r.2.1, st.2.2 ++ r.2.2.map (fun g => 32 * b.2 + g))) (s, [], [])

/-- The event of a request that consumes poison at its port (R377). -/
def readEvent (o : OpenReq) : Event :=
  let e : Event := { code := 0x0760, tag := o.req.tag, op := 1, addr := o.req.addr.toNat, src := o.req.src }
  if o.host.isSome then { e with die := 0, unitKind := 14 } else { e with die := dieOfPort o.req.port, unitKind := 1, unit := o.req.port }

/-- A vault read ends: its data go out in the COMPLETION, with POISON and its mask when a grain is poisoned (R224, R294). -/
def State.vaultReadDone (s : State) (id : Nat) (env : VaultEnv) : State :=
  match s.vaultReq id .rd with
  | none => s
  | some o =>
    let r := s.readVaultReq o env
    let s := if r.2.2.isEmpty then r.1
      else r.1.poisonConsumed (readEvent o)
    s.finish o (if r.2.2.isEmpty then stOk else stPoison) (poisonMask r.2.2) r.2.1

/-- The blocks of a range that request number id wrote are programmed, map entries and all: each counts as covered (R299). -/
def State.vaultCovers (s : State) (id : Nat) (a : PA) (n : Nat) : State := s.forEach (vblocksOf a n) (fun s b => s.ckptCover b id)

/-- A vault write completes with OK. -/
def State.vaultWritten (s : State) (o : OpenReq) : State := (s.vaultCovers o.id o.req.addr o.req.len).finish o stOk 0 []

/-- A vault write's data blocks are programmed (R295, R296). It completes when its page's map entry is programmed too:
now, or at the next map flush. Without room for a new segment it completes with DENIED. -/
def State.vaultWriteDone (s : State) (id : Nat) (env : VaultEnv) : State :=
  match s.vaultReq id .wr with
  | none => s
  | some o =>
    let r := (vblocksOf o.req.addr o.req.len).zipIdx.foldl (fun (st : Option (State × Bool)) b =>
      match st with
      | none => none
      | some (s, d) =>
        match s.writeVault b.1 (slice o.req.data (4096 * b.2) 4096) [] env.places with
        | none => none
        | some (s, d') => some (s, d || d')) (some (s, false))
    match r with
    | none => s.finish o stDenied 0 []
    | some (s, true) => { s with vault := { s.vault with mapWait := s.vault.mapWait ++ [id] } }
    | some (s, false) => s.vaultWritten o

/-- The map updates of a cluster are programmed: the entries of its pages are clean, and the writes that waited for them
complete (R296). -/
def State.vaultMapFlush (s : State) (c : Nat) : State :=
  let pages := Sparse.keysWhere (fun p g => ownerOf p == c && (match g with | some g => !g.mapped | none => false)) s.vault.segs
  let s := s.forEach pages (fun s p => match s.vseg p with | some g => s.setVseg p (some { g with mapped := true }) | none => s)
  let mine := s.opens.filter (fun o => s.vault.mapWait.contains o.id && ownerOf (pageOf o.req.addr) == c)
  let s := { s with vault := { s.vault with mapWait := s.vault.mapWait.filter (fun i => !mine.any (fun o => o.id == i)) } }
  s.forEach mine State.vaultWritten

/-! ## Wear (R297) -/

/-- ERASE_MAX and ERASE_MIN of a channel, over every erase block of its targets. -/
def State.eraseRange (s : State) (ch : Fin 32) : State :=
  let es := (s.vault.blocks.filter (fun e => decide (e.1 / 2 ^ 27 = ch.val))).map (fun e => e.2.erases)
  let hi := es.foldl max 0
  let lo := if s.vault.targets.any (fun t => t.ch == ch && s.freshBlock t) then 0 else es.foldl min hi
  (s.setF (F.VLT_CH_STS_ERASE_MAX ch) hi).setF (F.VLT_CH_STS_ERASE_MIN ch) lo

/-- Moves the live segments of an erase block to the places that the command names, one after another. -/
def State.moveSegs (s : State) (x : VPlace) (places : List VPlace) : State :=
  ((s.segsIn x).foldl (fun (st : State × List VPlace) p => st.1.relocate p st.2) (s, places)).1

/-- Of a cluster's used blocks on channels in service, the one with the fewest live segments, and of those the one erased least (R297). -/
def State.gcVictim (s : State) (c : Nat) : Option VPlace :=
  let l := (s.vault.blocks.filter (fun e => e.2.taken != 0 && !e.2.retired && clusterOfVch (e.1 / 2 ^ 27) == c &&
      s.f (F.VLT_CH_STS_STATE (e.1 / 2 ^ 27)) == 2)).map
    (fun e => ((s.segsIn (placeOfKey e.1)).length, e.2.erases, e.1))
  (l.foldl (fun (b : Option (Nat × Nat × Nat)) e =>
    match b with
    | none => some e
    | some m => if e.1 < m.1 ∨ (e.1 = m.1 ∧ e.2.1 < m.2.1) then some e else some m) none).map (fun e => placeOfKey e.2.2)

/-- The places of a list that lie in another erase block. -/
def placesBut (x : VPlace) (places : List VPlace) : List VPlace := places.filter (fun y => y.key != x.key)

/-- Garbage collection of a cluster: the victim's live segments move and it is erased (R297). Without a place for every
segment nothing happens. -/
def State.garbageCollect (s : State) (c : Nat) (places : List VPlace) : State :=
  match s.gcVictim c with
  | none => s
  | some x =>
    let t := s.moveSegs x (placesBut x places)
    if !(t.segsIn x).isEmpty then s
    else (t.setVblock x { erases := (t.vblock x).erases + 1, taken := 0, retired := false }).eraseRange x.ch

/-- The lowest erase count of a target's blocks that are not retired, and the block that holds it: among several the first
that holds segments. A block never used has the count 0 and holds none. -/
def State.lowestBlock (s : State) (t : VTarget) : Nat × Option VPlace :=
  let l := (s.blocksOf t.ch t.ce).filter (fun e => !e.2.retired)
  let lo := if s.freshBlock t then 0 else match l with | h :: r => r.foldl (fun m e => min m e.2.erases) h.2.erases | [] => 0
  (lo, ((l.filter (fun e => e.2.erases == lo)).map (fun e => placeOfKey e.1)).find? (fun x => !(s.segsIn x).isEmpty))

/-- Static levelling of a target (R297): with a spread above 500 the segments of its lowest-count block move. -/
def State.levelTarget (s : State) (ch : Fin 32) (ce : Fin 8) (places : List VPlace) : State :=
  match s.vault.targets.find? (fun t => t.ch == ch && t.ce == ce) with
  | none => s
  | some t =>
    let hi := ((s.blocksOf ch ce).filter (fun e => !e.2.retired)).foldl (fun m e => max m e.2.erases) 0
    match s.lowestBlock t with
    | (lo, some x) => if lo + 500 < hi then s.moveSegs x (placesBut x places) else s
    | (_, none) => s

/-- Main bytes of a cluster's accepted targets, M_c. -/
def State.mainBytes (s : State) (c : Nat) : Nat :=
  ((s.vault.targets.filter (fun t => clusterOfVch t.ch == c)).map VTarget.main).sum

/-- Main bytes of a cluster's retired blocks. -/
def State.retiredBytes (s : State) (c : Nat) : Nat :=
  ((s.vault.blocks.filter (fun e => e.2.retired && clusterOfVch (e.1 / 2 ^ 27) == c)).map (fun e =>
    match s.vault.targets.find? (fun t => decide (t.ch.val * 8 + t.ce.val = e.1 / 2 ^ 24)) with
    | some t => t.ebMain
    | none => 0)).sum

/-- A cluster's vault becomes read-only when its reserve falls below 1/64 of M_c, and VAULT_WORN is written once. -/
def State.vaultWear (s : State) (c : Nat) : State :=
  let m := s.mainBytes c
  let kept := 2 ^ 21 * s.vaultPages c + s.retiredBytes c
  if m ≤ 64 * (m - kept) ∨ s.vault.worn.contains c then s
  else
    let s := { s with vault := { s.vault with worn := c :: s.vault.worn } }
    (s.setF (F.VLT_PAGES_STATE c) 2).ledger
      { code := 0x0406, die := dieOfCluster c, cluster := c, unitKind := 4, unit := 4 * c, addr := c }

/-- A program or erase failure retires an erase block; what lay there is placed again elsewhere (R297). -/
def State.vaultProgramFail (s : State) (x : VPlace) (places : List VPlace) : State :=
  let c := clusterOfVch x.ch
  if (s.vblock x).retired then s
  else
    let s := s.setVblock x { s.vblock x with retired := true }
    let s := s.addF (F.VLT_CH_TALLY_COUNT x.ch 3) 1
    let s := s.ledger { vaultEvent 0x0402 x.ch 0 (x.ce.val + 256 * x.eb.val) with op := 2 }
    (s.moveSegs x (placesBut x places)).vaultWear c

/-- A patrol read of a page's segment, under job tag 0: a segment in which a block needed retry moves, and an uncorrectable
block is recorded (R298). -/
def State.vaultPatrol (s : State) (p : Nat) (env : VaultEnv) : State :=
  ((List.range 512).map (fun i => 512 * p + i)).foldl (fun s b => (s.readVault b env 0).1) s

/-- A vault channel is taken out of service until it is trained again. -/
def State.fenceVch (s : State) (n : Fin 32) (code ce : Nat) : State :=
  (s.setF (F.VLT_CH_STS_STATE n) 3).ledger { vaultEvent code n 0 ce with flags := flagFence, op := 14 }

/-! ## Checkpoints (R299) -/

/-- Whether two page ranges overlap. -/
def rangesMeet (a n b m : Nat) : Bool := decide (a < b + m) && decide (b < a + n) && n != 0 && m != 0

/-- Whether a checkpoint entry's ranges are valid against Table 12-6's first condition. -/
def State.ckptRangesOk (s : State) (i : Nat) : Bool :=
  let sp := s.f (F.VLT_CKPT_SRC_SPACE i)
  let a := s.f (F.VLT_CKPT_SRC_BASE i)
  let n := s.f (F.VLT_CKPT_SRC_PAGES i)
  let d := s.f (F.VLT_CKPT_DST_BASE i)
  let pop (p : Nat) : Bool := s.plainMapped sp p
  n != 0 && (List.range n).all (fun k => pop (a + k) && s.ckptPage (d + k)) && a % 8 == d % 8 &&
    (s.ckptLive.filter (fun j => j != i)).all (fun j =>
      !(s.f (F.VLT_CKPT_SRC_SPACE j) == sp && rangesMeet a n (s.f (F.VLT_CKPT_SRC_BASE j)) (s.f (F.VLT_CKPT_SRC_PAGES j))) &&
        !rangesMeet d n (s.f (F.VLT_CKPT_DST_BASE j)) (s.f (F.VLT_CKPT_SRC_PAGES j)))

/-- Pages that the entries other than i that are not IDLE cover. -/
def State.ckptCovered (s : State) (i : Nat) : Nat :=
  ((s.ckptLive.filter (fun j => j != i)).map (fun j => s.f (F.VLT_CKPT_SRC_PAGES j))).sum

/-- The end of a VLT_CKPT_CMD with a result. -/
def State.ckptResult (s : State) (i op result : Nat) : State :=
  (((s.setF F.VLT_CKPT_CMD_ENTRY i).setF F.VLT_CKPT_CMD_OP op).setF F.VLT_CKPT_CMD_RESULT result).setF F.VLT_CKPT_CMD_GO 0

/-- ARM (R299). -/
def State.ckptArm (s : State) (i : Nat) : State :=
  if !s.ckptRangesOk i then s.ckptResult i 1 1
  else if 2 ^ 21 < s.ckptCovered i + s.f (F.VLT_CKPT_SRC_PAGES i) then s.ckptResult i 1 3
  else ((s.setCkpt i { armedId := s.nextId }).setF (F.VLT_CKPT_STS_STATE i) 1).ckptResult i 1 0

/-- Whether a write to a vault page has been accepted and has not completed: a request's, or a pool operation's (R301). -/
def State.vaultWriteOpen (s : State) (p : Nat) : Bool :=
  s.opens.any (fun (o : OpenReq) => o.kind == .wr && spaceOf o.req.addr == 3 && (vblocksOf o.req.addr o.req.len).any (fun b => vpageOf b == p)) ||
    s.pool.ops.any (fun (o : PoolOp) => o.started && spaceOf (BitVec.ofNat 56 (fieldLe o.desc 8 8)) == 3 &&
      (vblocksOf (BitVec.ofNat 56 (fieldLe o.desc 8 8)) (fieldLe o.desc 0x18 8)).any (fun b => vpageOf b == p))

/-- MARK (R299). -/
def State.ckptMark (s : State) (i : Nat) : State :=
  if !s.ckptRangesOk i then s.ckptResult i 2 1
  else if s.f (F.VLT_CKPT_STS_STATE i) ≠ 1 then s.ckptResult i 2 2
  else
    let t := s.ckpt i
    let ok (k : Nat) : Bool := !t.written.contains k && Sparse.get noCover t.covered k == 2 ^ 512 - 1 &&
      !s.vaultWriteOpen (s.f (F.VLT_CKPT_DST_BASE i) + k)
    let s := s.setCkpt i { t with valid := (List.range (s.f (F.VLT_CKPT_SRC_PAGES i))).filter ok }
    ((s.setF (F.VLT_CKPT_STS_STATE i) 2).setF (F.VLT_CKPT_MARK_COUNT i) s.count).ckptResult i 2 0

/-- CLEAR (R299). -/
def State.ckptClear (s : State) (i : Nat) : State :=
  if !s.ckptRangesOk i then s.ckptResult i 3 1
  else ((s.setCkpt i {}).setF (F.VLT_CKPT_STS_STATE i) 0).ckptResult i 3 0

/-- The vault copy of a grain of a DRAM page, when an entry marks the page VALID: its block and offset in the block, and
the entry with the page's number (R299, R369). -/
def State.vaultCopy (s : State) (a : PA) : Option (Nat × Nat × Nat × Nat) :=
  (s.ckptLive.find? (fun i => s.f (F.VLT_CKPT_SRC_SPACE i) == spaceOf a &&
      inPages (pageOf a) (s.f (F.VLT_CKPT_SRC_BASE i)) (s.f (F.VLT_CKPT_SRC_PAGES i)) &&
      (s.ckpt i).valid.contains (pageOf a - s.f (F.VLT_CKPT_SRC_BASE i)))).map (fun i =>
    let k := pageOf a - s.f (F.VLT_CKPT_SRC_BASE i)
    let o := 2 ^ 21 * (s.f (F.VLT_CKPT_DST_BASE i) + k) + offsetOf a % 2 ^ 21
    (o / 4096, o % 4096, i, k))

/-! ## The commands -/

/-- VAULT_READ_DONE (R294). -/
def execVaultReadDone (id : Nat) (env : VaultEnv) (s : State) : Host.Outcome State Fault Refusal := 
  .next (s.underOpen id (fun s => s.vaultReadDone id env))

/-- VAULT_WRITE_DONE (R296). -/
def execVaultWriteDone (id : Nat) (env : VaultEnv) (s : State) : Host.Outcome State Fault Refusal := 
  .next (s.underOpen id (fun s => s.vaultWriteDone id env))

/-- VAULT_MAP_FLUSH (R296). -/
def execVaultMapFlush (c : Fin 8) (s : State) : Host.Outcome State Fault Refusal := .next (s.vaultMapFlush c)

/-- VAULT_PATROL (R298). -/
def execVaultPatrol (p : Fin 2147483648) (env : VaultEnv) (s : State) : Host.Outcome State Fault Refusal := .next (s.vaultPatrol p env)

/-- GARBAGE_COLLECTION (R297). -/
def execGarbageCollection (c : Fin 8) (places : List VPlace) (s : State) : Host.Outcome State Fault Refusal :=
  .next (s.garbageCollect c places)

/-- STATIC_LEVELLING (R297). -/
def execStaticLevelling (ch : Fin 32) (ce : Fin 8) (places : List VPlace) (s : State) : Host.Outcome State Fault Refusal :=
  .next (s.levelTarget ch ce places)

/-- VAULT_PROGRAM (R297). -/
def execVaultProgram (x : VPlace) (places : List VPlace) (s : State) : Host.Outcome State Fault Refusal :=
  .next (s.vaultProgramFail x places)

/-- CKPT_ARM: VLT_CKPT_CMD with OP 1 (R299). -/
def execCkptArm (i : Fin 64) (s : State) : Host.Outcome State Fault Refusal := .next (s.ckptArm i)

/-- CKPT_MARK: VLT_CKPT_CMD with OP 2 (R299). -/
def execCkptMark (i : Fin 64) (s : State) : Host.Outcome State Fault Refusal := .next (s.ckptMark i)

/-- CKPT_CLEAR: VLT_CKPT_CMD with OP 3 (R299). -/
def execCkptClear (i : Fin 64) (s : State) : Host.Outcome State Fault Refusal := .next (s.ckptClear i)

end Sys2Proof.Machine
end

