-- ==== Sys2Proof/Machine/Ranges.lean ====
section
/-! DEFINITION. Reading and writing ranges of any memory space for the device's own work: PLAIN pages, PACKED logical
ranges, the stores and the vault window (R61, R85, R91), and starting the repair of a grain (R369, R370). -/

namespace Sys2Proof.Machine

/-! ## What is mapped (R61 to R66) -/

/-- Whether every byte of a range of a memory space is mapped. -/
def State.memMapped (s : State) (a : PA) (n : Nat) : Bool :=
  let last := offsetOf a + n - 1
  decide (last < 2 ^ 52) &&
    (match spaceOf a with
    | 0 | 1 | 2 => (pagesOf a n).all (fun p => s.plainMapped (spaceOf a) p || (s.packedAt (spaceOf a) p).isSome)
    | 3 => (pagesOf a n).all s.vaultPopulated
    | 4 => storeMapped (offsetOf a) && storeMapped last && decide (offsetOf a / 0x2000000 = last / 0x2000000)
        || decide (last < 0x20000000)
    | _ => false)

/-- Whether a range touches a PACKED logical range. -/
def State.touchesPacked (s : State) (a : PA) (n : Nat) : Bool :=
  decide (spaceOf a ≤ 2) && (pagesOf a n).any (fun p => (s.packedAt (spaceOf a) p).isSome)

/-- Whether a range touches a PACKED region's logical range or one of its areas. -/
def State.touchesRegionArea (s : State) (a : PA) (n : Nat) : Bool :=
  decide (spaceOf a ≤ 2) && (pagesOf a n).any (fun p => s.regions.any (fun r => r.packed && r.space == spaceOf a && r.covers p))

/-- Whether a range lies in PLAIN mapped memory of a DRAM space or in the stores. -/
def State.plainRange (s : State) (a : PA) (n : Nat) : Bool :=
  s.memMapped a n && !s.touchesRegionArea a n && (decide (spaceOf a ≤ 2) || spaceOf a == 4)

/-! ## Reading (R85, R106, R112, R375) -/

/-- What reading a range of any kind gives: the bytes, the poisoned 128-byte parts by number, the address of the first
poisoned one, and what the read must wait for: a repair, a re-fetch, a table's install, or accesses to the vault accepted
before it. -/
structure AnyRead where
  data : Bytes
  poison : List Nat
  first : Option PA
  repair : Option PA
  refetch : Option PA
  slot : Option Nat
  held : Bool
  deriving DecidableEq, Repr

/-- Nothing read yet. -/
def AnyRead.empty : AnyRead := ⟨[], [], none, none, none, none, false⟩

/-- Whether a read is complete. -/
def AnyRead.ready (r : AnyRead) : Bool := r.repair.isNone && r.refetch.isNone && r.slot.isNone && !r.held

/-- One read after another, the second's parts numbered from n. -/
def AnyRead.join (a b : AnyRead) (n : Nat) : AnyRead where
  data := a.data ++ b.data
  poison := a.poison ++ b.poison.map (fun g => g + n)
  first := a.first.or b.first
  repair := a.repair.or b.repair
  refetch := a.refetch.or b.refetch
  slot := a.slot.or b.slot
  held := a.held || b.held

/-- A PLAIN range, as a read of any kind. -/
def State.readPlainAny (s : State) (a : PA) (n : Nat) (op : Nat) (tag : Tag) : State × AnyRead :=
  let r := s.readRange a n op tag
  (r.1, { data := r.2.data, poison := r.2.poison.map (fun p => (p.toNat - 128 * (a.toNat / 128)) / 128), first := r.2.poison.head?,
          repair := r.2.repair, refetch := r.2.refetch, slot := none, held := false })

/-- The part of one tile that a logical range covers. -/
def State.readTileAny (s : State) (r : Region) (a : PA) (n : Nat) (k : Consumer) (cacheDie : Option Nat) : State × AnyRead :=
  let x := tileAt r a
  let off := a.toNat % 4096
  match s.decodeTile x k cacheDie with
  | (s, .plain bs bad f _) =>
    let lo := off / 128
    (s, { AnyRead.empty with data := slice bs off n
                             poison := (bad.filter (fun g => decide (lo ≤ g) && decide (128 * g < off + n))).map (fun g => g - lo)
                             first := f })
  | (s, .empty) => (s, { AnyRead.empty with data := List.replicate n 0, poison := List.range (ceilDiv n 128), first := some x.addr })
  | (s, .wait i) => (s, { AnyRead.empty with data := List.replicate n 0, slot := some i })
  | (s, .repair g) => (s, { AnyRead.empty with data := List.replicate n 0, repair := some g })

/-- The pieces of a range cut at 4 KiB: (address, length). -/
def tilePieces (a : PA) (n : Nat) : List (PA × Nat) :=
  let first := a.toNat / 4096
  let cnt := if n = 0 then 0 else (a.toNat + n - 1) / 4096 - first + 1
  (List.range cnt).map (fun i =>
    let lo := max a.toNat (4096 * (first + i))
    let hi := min (a.toNat + n) (4096 * (first + i + 1))
    (BitVec.ofNat 56 lo, hi - lo))

/-- One 4 KiB piece of a range of any kind. -/
def State.readPiece4K (s : State) (a : PA) (n : Nat) (k : Consumer) (env : VaultEnv) (cacheDie : Option Nat) : State × AnyRead :=
  if s.vaultHeld a 4096 then (s, { AnyRead.empty with data := List.replicate n 0, held := true })
  else if spaceOf a = 3 then
    let r := s.readVault (offsetOf a / 4096) env k.tag
    let off := a.toNat % 4096
    let lo := off / 128
    let bad := (r.2.2.filter (fun g => decide (lo ≤ g) && decide (128 * g < off + n))).map (fun g => g - lo)
    (r.1, { AnyRead.empty with data := slice r.2.1 off n, poison := bad, first := if bad.isEmpty then none else some a })
  else
    match s.packedAt (spaceOf a) (pageOf a) with
    | some r => s.readTileAny r a n k cacheDie
    | none => s.readPlainAny a n k.op k.tag

/-- Reads a range of any memory space in PLAIN form. -/
def State.readAny (s : State) (a : PA) (n : Nat) (k : Consumer) (env : VaultEnv) (cacheDie : Option Nat) : State × AnyRead :=
  (tilePieces a n).foldl (fun st p =>
    let r := st.1.readPiece4K p.1 p.2 k env cacheDie
    (r.1, st.2.join r.2 (p.1.toNat / 128 - a.toNat / 128))) (s, AnyRead.empty)

/-- A read that must wait: its repair starts (R370). -/
def State.readWaits (s : State) (r : AnyRead) (tag : Tag) (op : Nat) : State :=
  match r.repair with
  | some g => s.startRepair g tag op
  | none => s

/-! ## Stored tiles with locators (R91, R139) -/

/-- Bytes filled with zeros to a multiple of n. -/
def padTo (n : Nat) (bs : Bytes) : Bytes := bs ++ List.replicate (ceilDiv bs.length n * n - bs.length) 0

/-- The stored form of n tiles of a PACKED region from a logical address, with their locators: COUNT locators of 8 bytes
padded to a grain, then the tiles, each on a grain (R91). A tile without readable contents arrives as 33 poisoned
grains. -/
def State.readStoredAny (s : State) (a : PA) (tiles : Nat) (k : Consumer) : State × AnyRead :=
  let head := ceilDiv (8 * tiles) 128
  let st := (List.range tiles).foldl (fun (st : State × Bytes × AnyRead) i =>
    let ta : PA := BitVec.ofNat 56 (a.toNat + 4096 * i)
    let (s, loc, acc) := st
    let at_ := head + acc.data.length / 128
    let place (s : State) (bs : Bytes) (bad : Bool) (f : Option PA) : State × Bytes × AnyRead :=
      let g := bs.length / 128
      (s, loc ++ leBytes 4 at_ ++ leBytes 2 g ++ leBytes 2 0,
        acc.join { AnyRead.empty with data := bs, poison := if bad then List.range g else [], first := if bad then f else none }
          (acc.data.length / 128))
    match s.packedAt (spaceOf ta) (pageOf ta) with
    | none => (s, loc, acc)
    | some r =>
      match s.storedTile (tileAt r ta) k with
      | (s, .bytes bs bad f) => place s bs bad f
      | (s, .empty) => place s (List.replicate 4224 0) true (some ta)
      | (s, .repair g) => (s, loc, { acc with repair := acc.repair.or (some g) })) (s, [], AnyRead.empty)
  (st.1, ({ AnyRead.empty with data := padTo 128 st.2.1 }).join st.2.2 head)

/-! ## Writing -/

/-- Writes a range of whole grains to PLAIN memory, a store or the vault window, the numbered 128-byte parts poisoned. The
result is none when the vault has no room (R301), or its pages take no writes (R293, R297). -/
def State.writeAny (s : State) (a : PA) (bs : Bytes) (bad : List Nat) (tag : Tag) (places : List VPlace) : Option State :=
  if spaceOf a = 3 then
    if !(vblocksOf a bs.length).all (fun b => s.vaultWritable (vpageOf b)) then none else
    (vblocksOf a bs.length).zipIdx.foldl (fun (st : Option State) b =>
      match st with
      | none => none
      | some s =>
        let s := s.ckptDestAccept (vpageOf b.1)
        let mask := (bad.filter (fun g => decide (32 * b.2 ≤ g) && decide (g < 32 * b.2 + 32))).map (fun g => g - 32 * b.2)
        (s.writeVault b.1 (slice bs (4096 * b.2) 4096) mask places).map (fun r => r.1)) (some s)
  else
    let s := s.writeRange a bs tag
    some (s.forEach bad (fun s g => s.poisonPool (BitVec.ofNat 56 (a.toNat + 128 * g))))

end Sys2Proof.Machine
end

