-- ==== Sys2Proof/Machine/Events.lean ====
section
/-! DEFINITION. Event counters, barriers and result slots (R181, R182, R184 to R186). -/

namespace Sys2Proof.Machine

/-! ## Event counters (R181) -/

/-- The value of an event counter. -/
def State.event (s : State) (i : Nat) : Nat := s.f (F.SLOT_EVENT_VALUE i)

/-- SET: writes the counter. -/
def State.eventSet (s : State) (i v : Nat) : State := s.setF (F.SLOT_EVENT_VALUE i) v

/-- The event vectors bound to a counter (Table 19-7). -/
def State.vectorsOf (s : State) (i : Nat) : List Nat :=
  (List.range 256).filter (fun v => decide (8 ≤ v) && s.f (F.PEP_VEC_EVT_EN v) == 1 && s.f (F.PEP_VEC_EVT_EVENT v) == i)

/-- ADD: adds modulo 2³² and raises the event vectors bound to the counter (R181, R445). -/
def State.eventAdd (s : State) (i n : Nat) : State :=
  (s.addF (F.SLOT_EVENT_VALUE i) n).forEach (s.vectorsOf i) State.raiseIrq

/-- DEC: subtracts when the value is at least n, and reports whether it did (R181). -/
def State.eventDec (s : State) (i n : Nat) : State × Bool :=
  if n ≤ s.event i then (s.setF (F.SLOT_EVENT_VALUE i) (s.event i - n), true) else (s, false)

/-- A wait for a value holds when (value − w) mod 2³² < 2³¹ (R181). -/
def waitHolds (value w : Nat) : Bool := decide ((value + 2 ^ 32 - w % 2 ^ 32) % 2 ^ 32 < 2 ^ 31)

/-- ADD 1 to a DONE_EVENT, unless it names no counter. -/
def State.doneEvent (s : State) (e : Nat) : State := if e < 4096 then s.eventAdd e 1 else s

/-! ## Barriers (R182) -/

/-- An arrival at a barrier, by work of a tag (0 for a requester). -/
def State.arrive (s : State) (b : Nat) (tag : Tag) : State :=
  let count := s.f (F.SLOT_BARRIER_COUNT b)
  if count = 0 then s.ledger { code := 0x0734, tag := tag, addr := b }
  else
    let n := s.f (F.SLOT_BARRIER_ARRIVED b) + 1
    if n = count then
      let s := (s.setF (F.SLOT_BARRIER_ARRIVED b) 0).addF (F.SLOT_BARRIER_GEN b) 1
      if s.f (F.SLOT_BARRIER_EVENT_EN b) = 1 then s.eventAdd (s.f (F.SLOT_BARRIER_EVENT b)) 1 else s
    else s.setF (F.SLOT_BARRIER_ARRIVED b) n

/-! ## Result slots (R184 to R186) -/

/-- Word w of a slot's status. -/
def State.slotWord (s : State) (n w : Nat) : W64 := s.reg (R.SLOT_STATUS n w)

/-- STATE of a result slot: 0 FREE, 1 ARMED, 2 READY (Table 7-6). -/
def State.slotState (s : State) (n : Nat) : Nat := getBits 34 33 (s.slotWord n 0)

/-- SEQ of a result slot. -/
def State.slotSeq (s : State) (n : Nat) : Nat := getBits 31 0 (s.slotWord n 0)

/-- Arms a FREE slot: SEQ + 1, every other field cleared (Table 7-7). -/
def State.slotArm (s : State) (n : Nat) : State :=
  let seq := (s.slotSeq n + 1) % 2 ^ 32
  let s := s.forEach (List.range 8) (fun s w => s.setReg (R.SLOT_STATUS n w) 0)
  s.setReg (R.SLOT_STATUS n 0) (BitVec.ofNat 64 (seq + 2 ^ 33))

/-- What a kernel's end writes into its slot. -/
structure SlotEnd where
  dataAddr : PA
  dataLen : Nat
  tag : Tag
  status : Nat
  flags : Nat
  done : Nat
  core : Nat
  check : Nat
  notice : Nat
  deriving DecidableEq, Repr

/-- Makes an armed slot READY with the status of Table 7-6. -/
def State.slotReady (s : State) (n : Nat) (e : SlotEnd) : State :=
  let out := e.done % 8
  let poison := if out = 2 ∨ out = 4 then 1 else 0
  let s := s.setReg (R.SLOT_STATUS n 0) (BitVec.ofNat 64 (s.slotSeq n + 2 ^ 32 + 2 * 2 ^ 33 + 2 ^ 35 * poison))
  let s := s.setReg (R.SLOT_STATUS n 1) (e.dataAddr.setWidth 64)
  let s := s.setReg (R.SLOT_STATUS n 2) (BitVec.ofNat 64 (e.dataLen % 2 ^ 32))
  let s := s.setReg (R.SLOT_STATUS n 3) (BitVec.ofNat 64 (e.tag.toNat + 2 ^ 16 * e.status + 2 ^ 32 * e.flags + 2 ^ 48 * e.done + 2 ^ 56 * e.core))
  let s := s.setReg (R.SLOT_STATUS n 4) (BitVec.ofNat 64 s.count)
  s.setReg (R.SLOT_STATUS n 5) (BitVec.ofNat 64 (e.check + 2 ^ 32 * e.notice))

/-- A release of a slot: the new state and the status it answers (Table 7-7). A released slot keeps its fields but
STATE and READY. -/
def State.slotRelease (s : State) (n seq : Nat) : State × Nat :=
  match s.slotState n with
  | 0 => (s, stSlotFree)
  | 1 => (s, stConflict)
  | _ =>
    if s.slotSeq n = seq then
      (s.setReg (R.SLOT_STATUS n 0) (putBits 34 32 0 (s.slotWord n 0)), stOk)
    else (s, stConflict)

/-! ## The commands -/

/-- EVENT_SET: a write to SLOT_EVENT_i (R181). -/
def execEventSet (i : Fin 4096) (v : W32) (s : State) : Host.Outcome State Fault Refusal := .next (s.eventSet i v.toNat)

/-- EVENT_ADD: a write to SLOT_EVENT_ADD_i (R181). -/
def execEventAdd (i : Fin 4096) (n : W32) (s : State) : Host.Outcome State Fault Refusal := .next (s.eventAdd i n.toNat)

/-- EVENT_DEC: a write to SLOT_EVENT_DEC_i; success or failure is reported to its issuer (R181). -/
def execEventDec (i : Fin 4096) (n : W32) (s : State) : Host.Outcome State Fault Refusal :=
  let r := s.eventDec i n.toNat
  .next (r.1.emit (.decResult i r.2))

/-- BARRIER_ARRIVE: an arrival by a requester, whose tag is 0, or by a kernel of a tag from its code (R182). -/
def execBarrierArrive (b : Fin 64) (tag : Tag) (s : State) : Host.Outcome State Fault Refusal := .next (s.arrive b tag)

/-- SLOT_RELEASE: a write to SLOT_RELEASE, its outcome in SLOT_RELEASE_RESULT (R185, Table 7-16). -/
def execSlotRelease (n : Fin 4096) (seq : W32) (s : State) : Host.Outcome State Fault Refusal :=
  let r := s.slotRelease n seq.toNat
  .next (r.1.setF F.SLOT_RELEASE_RESULT_RESULT r.2)

end Sys2Proof.Machine
end

