-- ==== Sys2Proof/Machine/Slots.lean ====
section
/-! DEFINITION. Table slots (R132 to R136): the slot commands, installs and drain sets. -/

namespace Sys2Proof.Machine

/-- STATE of a slot. -/
def State.slotSt (s : State) (i : Nat) : Nat := s.f (F.MNT_SLOT_INFO_STATE i)

/-- Whether a slot is overwritable (R132). -/
def State.overwritable (s : State) (i : Nat) : Bool :=
  let st := s.slotSt i
  (st == slotFree || st == slotActive || st == slotRetired) && s.f (F.MNT_SLOT_INFO_LOCK i) == 0 &&
    s.f (F.MNT_SLOT_INFO_RSV i) == 0 && s.f (F.MNT_SLOT_INFO_DAMAGED i) == 0 && s.f (F.MNT_SLOT_INFO_COUNT i) == 0

/-- Whether an install into a slot is accepted: overwritable, or the repair of a damaged slot that nothing reserves
(R133). -/
def State.installable (s : State) (i : Nat) : Bool :=
  s.overwritable i || (s.f (F.MNT_SLOT_INFO_DAMAGED i) == 1 && s.f (F.MNT_SLOT_INFO_RSV i) == 0)

/-- Sets the 512 bytes of a slot's tables. -/
def State.setTables (s : State) (i : Nat) (bs : Bytes) : State :=
  s.forEach (List.range 64) (fun s j => s.setReg (R.MNT_SLOT_TAB i j) (BitVec.ofNat 64 (fieldLe bs (8 * j) 8)))

/-- The tables of the first planes of a staging area, with zeros beyond them. -/
def tablesFor (planes : Nat) (bs : Bytes) : Bytes := bs.take (128 * planes) ++ List.replicate (512 - 128 * planes) 0

/-- The generation that an install without a given one takes: the next, or the same when it repairs a damaged slot. -/
def State.nextGen (s : State) (i : Nat) : Nat :=
  let g := s.f (F.MNT_SLOT_INFO_GEN i)
  if s.f (F.MNT_SLOT_INFO_DAMAGED i) = 1 then g else (g + 1) % 256

/-- An install begins: the slot is INSTALLING and keeps its old contents for its decoders until the end (R133). -/
def State.beginInstall (s : State) (x : SlotInstall) : State :=
  { (s.setF (F.MNT_SLOT_INFO_STATE x.slot) slotInstalling) with
      installs := s.installs.filter (fun y => y.slot != x.slot) ++ [{ x with prev := s.slotSt x.slot }] }

/-- An install ends: the slot is ACTIVE with its new contents, and no longer damaged; it drains no more. -/
def State.endInstall (s : State) (x : SlotInstall) : State :=
  let s := { s with installs := s.installs.filter (fun y => y.slot != x.slot)
                    mint := { s.mint with drainSets := s.mint.drainSets.filter (fun d => d.1 != x.slot) } }
  let s := s.setTables x.slot (tablesFor x.planes x.tables)
  let s := s.setF (F.MNT_SLOT_INFO_GEN x.slot) x.gen
  let s := s.setF (F.MNT_SLOT_INFO_PLANES x.slot) x.planes
  let s := s.setF (F.MNT_SLOT_INFO_XOR x.slot) (if x.xor then 1 else 0)
  let s := s.setF (F.MNT_SLOT_INFO_DAMAGED x.slot) 0
  let s := match x.lock with | some b => s.setF (F.MNT_SLOT_INFO_LOCK x.slot) (if b then 1 else 0) | none => s
  s.setF (F.MNT_SLOT_INFO_STATE x.slot) slotActive

/-- Ends a slot command: its fields, RESULT 0. -/
def State.slotCmdDone (s : State) (i op : Nat) : State :=
  (((s.setF F.MNT_SLOT_CMD_SLOT i).setF F.MNT_SLOT_CMD_OP op).setF F.MNT_SLOT_CMD_GO 0).setF F.MNT_SLOT_RESULT_CODE 0

/-- Refuses a slot command: nothing changes but its result, LAST_ERR and the record (R136). -/
def State.slotRefuse (s : State) (i op code : Nat) : State :=
  let s := (s.slotCmdDone i op).setF F.MNT_SLOT_RESULT_CODE code
  (s.setF F.MNT_STATUS_LAST_ERR code).ledger { code := code, addr := i }

/-- SLOT_BUSY and TABLE_INVALID (Table 5-7). -/
def cSlotBusy : Nat := 0x0513
def cTableInvalid : Nat := 0x0514

/-- LOCK (Table 5-3). -/
def State.slotLock (s : State) (i : Nat) : State :=
  if s.slotSt i = slotFree then s.slotRefuse i 1 cSlotBusy
  else (s.setF (F.MNT_SLOT_INFO_LOCK i) 1).slotCmdDone i 1

/-- UNLOCK. -/
def State.slotUnlock (s : State) (i : Nat) : State := (s.setF (F.MNT_SLOT_INFO_LOCK i) 0).slotCmdDone i 2

/-- The numbers of the kernels that run, are fetched or wait in a device queue (R134). -/
def State.liveKernels (s : State) : List Nat :=
  s.cores.flatMap (fun e =>
    let c := e.2
    (match c.sw with | some x => [x.uid] | none => []) ++ (match c.dqHead with | some x => [x.uid] | none => []) ++
      c.dq.map DqEntry.uid ++ (match c.running with | some x => [x.uid] | none => []))

/-- The numbers of the running jobs that encode with a slot. -/
def State.liveEncoders (s : State) (i : Nat) : List Nat :=
  (s.mint.jobs.filter (fun j => j.started && j.slot == some i)).map MintJob.id

/-- RETIRE: the slot drains, with its drain set fixed now (R134). -/
def State.slotRetire (s : State) (i : Nat) : State :=
  if s.slotSt i ≠ slotActive then s.slotRefuse i 3 cSlotBusy
  else
    let set := s.liveKernels ++ s.liveEncoders i
    let s := s.setF (F.MNT_SLOT_INFO_STATE i) slotDraining
    ({ s with mint := { s.mint with drainSets := s.mint.drainSets.filter (fun (d : Nat × List Nat) => d.1 != i) ++ [(i, set)] } }).slotCmdDone i 3

/-- ACTIVATE. -/
def State.slotActivate (s : State) (i : Nat) : State :=
  if s.slotSt i = slotDraining ∨ s.slotSt i = slotRetired then
    let s := s.setF (F.MNT_SLOT_INFO_STATE i) slotActive
    ({ s with mint := { s.mint with drainSets := s.mint.drainSets.filter (fun d => d.1 != i) } }).slotCmdDone i 4
  else s.slotRefuse i 4 cSlotBusy

/-- The staged tables. -/
def State.stagedTables (s : State) : Bytes := (List.range 64).flatMap (fun j => leBytes 8 (s.reg (R.MNT_STAGE_TAB j)).toNat)

/-- Whether the first planes of a table area are valid under R111. -/
def tablesValid (planes : Nat) (bs : Bytes) : Bool :=
  (List.range planes).all (fun p => tableValid (tableLengths (slice bs (128 * p) 128)))

/-- INSTALL with the staged tables (R136). -/
def State.slotInstall (s : State) (i planes : Nat) (xor : Bool) : State :=
  let s := (s.setF F.MNT_SLOT_CMD_PLANES planes).setF F.MNT_SLOT_CMD_XOR (if xor then 1 else 0)
  if !s.installable i then s.slotRefuse i 5 cSlotBusy
  else if planes = 0 ∨ 4 < planes then s.slotRefuse i 5 cTableInvalid
  else if !tablesValid planes s.stagedTables then s.slotRefuse i 5 cTableInvalid
  else
    let s := s.beginInstall { slot := i, gen := s.nextGen i, planes := planes, xor := xor, lock := none,
                              tables := s.stagedTables, prev := 0 }
    (s.slotCmdDone i 5).setF F.MNT_SLOT_CMD_GO 1

/-- CLEAR: FREE, with GEN kept. -/
def State.slotClear (s : State) (i : Nat) : State :=
  if !s.overwritable i then s.slotRefuse i 6 cSlotBusy
  else
    let s := (s.setTables i []).setF (F.MNT_SLOT_INFO_PLANES i) 0
    ((s.setF (F.MNT_SLOT_INFO_XOR i) 0).setF (F.MNT_SLOT_INFO_STATE i) slotFree).slotCmdDone i 6

/-- The end of a slot's install in progress; a finished INSTALL command reads GO = 0 again. -/
def State.installDone (s : State) (i : Nat) : State :=
  match s.installs.find? (fun x => x.slot == i) with
  | some x =>
    let s := s.endInstall x
    if s.f F.MNT_SLOT_CMD_SLOT = i then s.setF F.MNT_SLOT_CMD_GO 0 else s
  | none => s

/-- The last member of a DRAINING slot's drain set has ended: the slot is RETIRED (R134). A decode is no lasting member: in the
model it begins and ends within one command (DESIGN CHOICE: the model gives a decode no duration). -/
def State.drainSetEmpty (s : State) (i : Nat) : State :=
  match s.mint.drainSets.find? (fun d => d.1 == i) with
  | some d =>
    let live := s.liveKernels ++ s.mint.jobs.map MintJob.id
    if s.slotSt i ≠ slotDraining ∨ d.2.any (fun m => live.contains m) then s
    else
      let s := s.setF (F.MNT_SLOT_INFO_STATE i) slotRetired
      { s with mint := { s.mint with drainSets := s.mint.drainSets.filter (fun x => x.1 != i) } }
  | none => s

/-! ## The commands -/

/-- SLOT_LOCK: MNT_SLOT_CMD with OP 1 (R136). -/
def execSlotLock (i : Fin 64) (s : State) : Host.Outcome State Fault Refusal := .next (s.slotLock i)
/-- SLOT_UNLOCK (R136). -/
def execSlotUnlock (i : Fin 64) (s : State) : Host.Outcome State Fault Refusal := .next (s.slotUnlock i)
/-- SLOT_RETIRE (R134). -/
def execSlotRetire (i : Fin 64) (s : State) : Host.Outcome State Fault Refusal := .next (s.slotRetire i)
/-- SLOT_ACTIVATE (R134). -/
def execSlotActivate (i : Fin 64) (s : State) : Host.Outcome State Fault Refusal := .next (s.slotActivate i)
/-- SLOT_INSTALL (R133, R136). -/
def execSlotInstall (i : Fin 64) (planes : Fin 8) (xor : Bool) (s : State) : Host.Outcome State Fault Refusal :=
  .next (s.slotInstall i planes xor)
/-- SLOT_CLEAR (R136). -/
def execSlotClear (i : Fin 64) (s : State) : Host.Outcome State Fault Refusal := .next (s.slotClear i)
/-- SLOT_CMD_RESERVED: GO with OP 0 or 7 (R136). -/
def execSlotCmdReserved (i : Fin 64) (seven : Bool) (s : State) : Host.Outcome State Fault Refusal :=
  .next (s.slotRefuse i (if seven then 7 else 0) cSlotBusy)
/-- SLOT_INSTALL_DONE (R133). -/
def execSlotInstallDone (i : Fin 64) (s : State) : Host.Outcome State Fault Refusal := .next (s.installDone i)
/-- DRAIN_SET_EMPTY (R134). -/
def execDrainSetEmpty (i : Fin 64) (s : State) : Host.Outcome State Fault Refusal := .next (s.drainSetEmpty i)

end Sys2Proof.Machine
end

