-- ==== Sys2Proof/Machine/Mint.lean ====
section
/-! DEFINITION. The mint (R122 to R131): the job ring, the descriptor and start checks, pass 1, pass 2, DECODE and
RELEASE, and the heap and expansion shares of PACKED regions. -/

namespace Sys2Proof.Machine

/-! ## Descriptors (Table 5-1) -/

def mjOp (d : Bytes) : Nat := fieldLe d 0 1
def mjCodec (d : Bytes) : Nat := fieldLe d 1 1 % 4
def mjXor (d : Bytes) : Bool := (fieldLe d 1 1).testBit 2
def mjWidth (d : Bytes) : Nat := fieldLe d 2 1
def mjSlot (d : Bytes) : Nat := fieldLe d 3 1
def mjRegion (d : Bytes) : Nat := fieldLe d 4 2
def mjTag (d : Bytes) : Tag := BitVec.ofNat 12 (fieldLe d 6 2)
def mjFirst (d : Bytes) : Nat := fieldLe d 8 8
def mjCount (d : Bytes) : Nat := fieldLe d 16 4
def mjRawAbove (d : Bytes) : Nat := if fieldLe d 20 1 = 0 then 32 else fieldLe d 20 1
def mjLockAfter (d : Bytes) : Bool := (fieldLe d 21 1).testBit 0
def mjSrcRegion (d : Bytes) : Bool := (fieldLe d 21 1).testBit 1
def mjDone (d : Bytes) : Nat := fieldLe d 22 2
def mjAddrFull (d : Bytes) : Nat := fieldLe d 24 8
def mjAddr (d : Bytes) : PA := BitVec.ofNat 56 (mjAddrFull d)
def mjBase (d : Bytes) : Nat := fieldLe d 32 8
def mjSpan (d : Bytes) : Nat := fieldLe d 40 4
def mjNotice (d : Bytes) : Nat := fieldLe d 44 2

/-- Whether a job uses a table slot: COMPRESS, ENCODE and BUILD with a codec other than RAW. -/
def mjUsesSlot (d : Bytes) : Bool := decide (mjOp d ≤ 3) && mjCodec d != 0

/-- Whether a job uses ADDR. -/
def mjUsesAddr (d : Bytes) : Bool := mjOp d == 4 || (decide (mjOp d ≤ 3) && !mjSrcRegion d)

/-- The base index of tile L. -/
def mjBaseOf (d : Bytes) (l : Nat) : Nat := mjBase d + (l - mjFirst d) % mjSpan d

/-- The job's tiles in the order in which it visits them: DELTA by base index and then by tile (R122). -/
def mjTiles (d : Bytes) : List Nat :=
  if mjCodec d = 1 ∧ mjSpan d ≠ 0 ∧ mjOp d ≤ 3 then
    (List.range (min (mjSpan d) (mjCount d))).flatMap (fun b =>
      (List.range (ceilDiv (mjCount d - b) (mjSpan d))).map (fun k => mjFirst d + b + k * mjSpan d))
  else (List.range (mjCount d)).map (fun i => mjFirst d + i)

/-- The PACKED region of an identifier. -/
def State.packedRegion (s : State) (id : Nat) : Option Region := s.regions.find? (fun r => r.packed && r.id == id)

/-- The descriptor checks of R127. -/
def State.mjValid (s : State) (d : Bytes) : Bool :=
  let op := mjOp d
  let codec := mjCodec d
  decide (1 ≤ op) && decide (op ≤ 5) && codec != 3 && fieldLe d 1 1 / 8 == 0 && decide (mjWidth d ≤ 4) &&
    fieldLe d 6 2 / 4096 == 0 && fieldLe d 21 1 / 4 == 0 && fieldLe d 46 2 == 0 && (!mjXor d || codec == 2) &&
    !(codec == 1 && mjWidth d == 2) && mjCount d != 0 && decide (mjCount d ≤ 2 ^ 24) && decide (fieldLe d 20 1 ≤ 32) &&
    (decide (mjDone d < 4096) || mjDone d == 65535) &&
    (!mjUsesSlot d || decide (mjSlot d < 64) || mjSlot d == 255) && !(op == 2 && mjSlot d == 255) &&
    (match s.packedRegion (mjRegion d) with
    | none => false
    | some r => decide (mjFirst d + mjCount d ≤ 512 * r.pages) &&
        (codec != 1 || (mjSpan d != 0 && decide (mjBase d + mjSpan d ≤ 512 * r.pages)))) &&
    (!mjUsesAddr d || (decide (mjAddrFull d < 2 ^ 56) && s.plainRange (mjAddr d) (4096 * mjCount d) && (mjAddr d).toNat % 4096 == 0)) &&
    (codec == 1 || (mjBase d == 0 && mjSpan d == 0)) &&
    (codec != 1 || !rangesMeet (mjFirst d) (mjCount d) (mjBase d) (min (mjSpan d) (mjCount d)))

/-! ## The shares of a region (R84) -/

/-- A directory entry as it lies in memory, without the effects of a read: EMPTY where it cannot be read. -/
def State.peekDir (s : State) (x : TileRef) : DirEntry :=
  match s.loc (grainOf x.dirAddr) with
  | none => DirEntry.empty
  | some l =>
    let w := s.getGrain l
    match (grainDecode w.1 w.2).2 with
    | .clean | .corrected =>
      let n := fieldLe (grainDecode w.1 w.2).1 (x.dirAddr.toNat % 128) 16
      (match secdedRead 120 (n % 2 ^ 120) (n / 2 ^ 120) with
      | .clean => dirOfBits (n % 2 ^ 120)
      | .corrected d => dirOfBits d
      | .uncorrectable => DirEntry.empty)
    | _ => DirEntry.empty

/-- Nothing noted, where unlisted. -/
def noAlloc : Nat → Option (Nat × Nat × Nat) := fun _ => none

/-- What a tile holds of its share: STATE, LOC and GRAINS as the device last wrote its entry, else as the entry reads. -/
def State.allocOf (s : State) (x : TileRef) : Nat × Nat × Nat :=
  match Sparse.get noAlloc s.mint.alloc x.addr.toNat with
  | some v => v
  | none => let e := s.peekDir x; (e.state, e.loc, e.grains)

/-- What is in use of a cluster's share, for tiles of a state: first place and count. -/
def State.shareUsed (s : State) (r : Region) (c st : Nat) : List (Nat × Nat) :=
  (((List.range (512 * (r.pages / 8))).map (fun t => s.allocOf ⟨r, c, t⟩)).filter (fun e => e.1 == st)).map (fun e => e.2) ++
    (s.mint.leaks.filter (fun l => l.1 == r.id * 8 + c && l.2.1 == st)).map (fun l => l.2.2)

/-- The heap grains in use in a cluster's share. -/
def State.heapUsed (s : State) (r : Region) (c : Nat) : List (Nat × Nat) := s.shareUsed r c 1

/-- The lowest place in a cluster's heap share for a number of grains. LOC is the device's own choice (R131). -/
def State.heapPlace (s : State) (r : Region) (c grains : Nat) : Option Nat :=
  let used := s.heapUsed r c
  let free (a : Nat) : Bool := decide (a + grains ≤ 16384 * (r.heapPages / 8)) &&
    used.all (fun u => decide (u.1 + u.2 ≤ a) || decide (a + grains ≤ u.1))
  ((0 :: used.map (fun u => u.1 + u.2)).filter free).foldl
    (fun (m : Option Nat) a => match m with | none => some a | some b => some (min a b)) none

/-- The lowest free expansion slot of a cluster's share. -/
def State.expPlace (s : State) (r : Region) (c : Nat) : Option Nat :=
  let used := (s.shareUsed r c 2).map (fun e => e.1)
  (List.range (512 * (r.expPages / 8))).find? (fun i => !used.contains i)

/-- Whether a tile's directory entry cannot be read as it lies in memory (R376). -/
def State.dirUnreadable (s : State) (x : TileRef) : Bool :=
  match s.loc (grainOf x.dirAddr) with
  | none => true
  | some l =>
    let w := s.getGrain l
    let g := grainDecode w.1 w.2
    let n := fieldLe g.1 (x.dirAddr.toNat % 128) 16
    !(g.2 == .clean || g.2 == .corrected) || secdedRead 120 (n % 2 ^ 120) (n / 2 ^ 120) == .uncorrectable

/-- Replaces a tile's directory entry: slot counts follow, the base caches drop the tile, and what the old entry held of
its share is free, unless that entry was unreadable (R129, R138, R376). -/
def State.replaceDir (s : State) (x : TileRef) (old new : DirEntry) (tag : Tag) : State :=
  let a := s.allocOf x
  let m := if s.dirUnreadable x ∧ a.1 ≠ 0 then s.mint.leaks ++ [(x.region.id * 8 + x.cluster, a)] else s.mint.leaks
  let s := { s with mint := { s.mint with leaks := m
                                          alloc := Sparse.put noAlloc s.mint.alloc x.addr.toNat (some (new.state, new.loc, new.grains)) } }
  (((s.slotCount old false).slotCount new true).writeDir x new tag).baseInvalidate x.addr.toNat

/-- Writes a stored tile into heap grains; an armed flip mask for the mint's tiles is applied after the CHECK (R389). -/
def State.writeStored (s : State) (x : TileRef) (loc : Nat) (st : Bytes) (tag : Tag) : State :=
  let flip := s.flipMatches 7 x.cluster tag
  let st := if flip then flipBytes (s.reg R.LDG_FLIP_MASK) (s.f F.LDG_FLIP_SEL_OFFSET) st else st
  let off := s.f F.LDG_FLIP_SEL_OFFSET
  let s := if flip then s.flipDone tag 6 x.cluster (x.heapAddr loc).toNat else s
  let s := s.forEach (List.range (st.length / 128)) (fun s g => s.writeRange (x.heapAddr (loc + g)) (slice st (128 * g) 128) tag)
  if flip then (s.injectAt (x.heapAddr (loc + off / 128))).injectAt (x.heapAddr (loc + (off + 7) / 128)) else s

/-! ## Jobs -/

/-- An event of a job. -/
def mintEvent (code : Nat) (c : Nat) (j : MintJob) (addr : Nat) : Event :=
  { code := code, tag := mjTag j.desc, die := dieOfCluster c, cluster := c, unitKind := 6, unit := c, op := 8, addr := addr }

/-- Reports an error of a job. -/
def State.mintError (s : State) (e : Event) : State := (s.setF F.MNT_STATUS_LAST_ERR e.code).ledger e

/-- Sets a job. -/
def State.setJob (s : State) (j : MintJob) : State :=
  { s with mint := { s.mint with jobs := s.mint.jobs.map (fun x => if x.id = j.id then j else x) } }

/-- The running jobs. -/
def State.runningJobs (s : State) : List MintJob := s.mint.jobs.filter (fun j => j.started)

/-- The 16 status bytes of an entry (Table 5-1). -/
def jobStatus (j : MintJob) (done code : Nat) : Bytes :=
  let slot := match j.slot with | some i => if j.installed then i else 255 | none => 255
  leBytes 2 code ++ leBytes 1 done ++ leBytes 1 slot ++ leBytes 4 j.tilesDone ++ leBytes 4 j.tilesRaw ++ leBytes 4 j.skipped.length

/-- The end of a job (R130): status bytes, then DONE_EVENT, then the notice; its slot is no longer reserved. -/
def State.jobEnd (s : State) (j : MintJob) (done code : Nat) : State :=
  let st := jobStatus j done code
  let s := s.writeRange (BitVec.ofNat 56 (j.entry.toNat + 0x30)) st (mjTag j.desc)
  let s := { s with mint := { s.mint with jobs := s.mint.jobs.filter (fun x => x.id != j.id) } }
  let s := match j.slot with | some i => s.setF (F.MNT_SLOT_INFO_RSV i) 0 | none => s
  let s := s.setF F.MNT_STATUS_ACTIVE_JOBS s.runningJobs.length
  if j.trusted then
    let s := s.doneEvent (mjDone j.desc)
    if mjNotice j.desc = 65535 then s
    else s.sendNotice (BitVec.ofNat 16 (mjNotice j.desc)) (mjTag j.desc) ntMintDone (st ++ leBytes 4 j.index)
  else s

/-- MNT_JQ_HEAD moves past an entry. -/
def State.jobHeadNext (s : State) : State := s.addF F.MNT_JQ_HEAD_INDEX 1

/-- The pool address of the ring entry of an index. -/
def State.jobEntry (s : State) (i : Nat) : PA :=
  BitVec.ofNat 56 (s.f F.MNT_JQ_BASE_ADDR + 64 * (i % 2 ^ s.f F.MNT_JQ_CFG_LOG2_ENTRIES))

/-- The mint reads the entry at the head of the ring and checks it (R125, R127). -/
def State.mintFetch (s : State) : State :=
  let i := s.f F.MNT_JQ_HEAD_INDEX
  let a := s.jobEntry i
  if s.f F.MNT_JQ_CFG_ENABLE = 0 ∨ i = s.f F.MNT_JQ_TAIL_INDEX ∨ s.mint.jobs.any (fun j => !j.started) then s
  else if !s.plainRange a 64 then
    (s.setF F.MNT_JQ_CFG_ENABLE 0).mintError { code := 0x0510, unitKind := 6, op := 8, addr := a.toNat }
  else
    let r := s.readAny a 64 ⟨6, 0, 8, 0⟩ {} none
    if !r.2.ready then r.1.readWaits r.2 0 8
    else
      let j : MintJob := { id := s.nextId, desc := r.2.data, entry := a, index := i, trusted := r.2.poison.isEmpty }
      let s := r.1.nextReq
      if r.2.poison.isEmpty ∧ s.mjValid r.2.data then { s with mint := { s.mint with jobs := s.mint.jobs ++ [j] } }
      else
        let s := (s.jobHeadNext).mintError { mintEvent 0x0510 0 j a.toNat with tag := if j.trusted then mjTag j.desc else 0 }
        s.jobEnd j 2 0x0510

/-- Whether a job must wait for running ones (R128): four run already, one covers a common tile or base range of its
region, or the slot it names is reserved. -/
def State.mintHeld (s : State) (j : MintJob) : Bool :=
  let d := j.desc
  let meets (a n b m : Nat) : Bool := rangesMeet a n b m
  decide (4 ≤ s.runningJobs.length) ||
    s.runningJobs.any (fun k => mjRegion k.desc == mjRegion d &&
      (meets (mjFirst k.desc) (mjCount k.desc) (mjFirst d) (mjCount d) || meets (mjBase k.desc) (mjSpan k.desc) (mjFirst d) (mjCount d) ||
        meets (mjFirst k.desc) (mjCount k.desc) (mjBase d) (mjSpan d) || meets (mjBase k.desc) (mjSpan k.desc) (mjBase d) (mjSpan d))) ||
    (mjUsesSlot d && mjSlot d != 255 && s.f (F.MNT_SLOT_INFO_RSV (mjSlot d)) == 1)

/-- The slot that a job of SLOT 0xFF takes: the lowest overwritable FREE slot, else the lowest overwritable RETIRED one
(R132). -/
def State.chooseSlot (s : State) : Option Nat :=
  match (List.range 64).find? (fun i => s.overwritable i && s.slotSt i == slotFree) with
  | some i => some i
  | none => (List.range 64).find? (fun i => s.overwritable i && s.slotSt i == slotRetired)

/-- The slot a job may use, if any (R127, R132). -/
def State.jobSlot (s : State) (d : Bytes) : Option Nat :=
  if mjOp d = 2 then
    if s.slotSt (mjSlot d) = slotActive ∧ s.f (F.MNT_SLOT_INFO_DAMAGED (mjSlot d)) = 0 then some (mjSlot d) else none
  else if mjSlot d = 255 then s.chooseSlot
  else if s.installable (mjSlot d) then some (mjSlot d) else none

/-- What the base check of R127 finds: every base may be used, the address of the first that may not, or a grain of the
directory that must be repaired first. -/
inductive BaseCheck where
  | good
  | bad (a : PA)
  | repair (a : PA)
  deriving DecidableEq, Repr

/-- The base check of one tile: its base lies in its cluster's share, is neither EMPTY nor DELTA-coded and has its WIDTH. A base
whose entry cannot be read is none of these, and reads as poison later (R130, R376; DEDUCED). -/
def State.baseCheck1 (s : State) (r : Region) (d : Bytes) (l : Nat) : State × BaseCheck :=
  let b := tileOfIndex r (mjBaseOf d l)
  if (tileOfIndex r l).cluster ≠ b.cluster then (s, .bad b.addr)
  else
    match s.readDir b ⟨6, b.cluster, 8, mjTag d⟩ with
    | (s, .repair a) => (s, .repair a)
    | (s, .unreadable _) => (s, .good)
    | (s, .entry e) =>
      (s, if (e.state = 1 ∧ e.codec ≠ 1 ∨ e.state = 2) ∧ e.width = mjWidth d then .good else .bad b.addr)

/-- The base check over a job's tiles. -/
def State.baseCheck (s : State) (r : Region) (d : Bytes) : State × BaseCheck :=
  if mjCodec d ≠ 1 ∨ 3 < mjOp d then (s, .good)
  else (mjTiles d).foldl (fun st l => match st.2 with | .good => st.1.baseCheck1 r d l | _ => st) (s, .good)

/-- A job ends before it does anything, with a code and its record. -/
def State.jobFails (s : State) (j : MintJob) (code addr : Nat) : State :=
  (s.mintError (mintEvent code 0 j addr)).setJob { j with ended := some (2, code) }

/-- Starts the waiting job of an operation (R127, R128): its place, its start checks and its slot. The job is none when it
does not start, or when a start check has ended it. -/
def State.mintStart (s : State) (op : Nat) : State × Option (MintJob × Region) :=
  match s.mint.jobs.find? (fun j => !j.started) with
  | none => (s, none)
  | some j =>
    let d := j.desc
    if mjOp d ≠ op ∨ s.f F.MNT_JQ_CFG_ENABLE = 0 ∨ s.mintHeld j then (s, none)
    else
      match s.packedRegion (mjRegion d) with
      | none => (s, none)
      | some r =>
        let chk := s.baseCheck r d
        match chk.2 with
        | .repair a => (chk.1.startRepair a (mjTag d) 8, none)
        | _ =>
        let j := { j with started := true }
        let s := (chk.1.setJob j).jobHeadNext
        let s := s.setF F.MNT_STATUS_ACTIVE_JOBS s.runningJobs.length
        if op = 2 ∧ mjUsesSlot d ∧ (s.f (F.MNT_SLOT_INFO_XOR (mjSlot d)) == 1) ≠ mjXor d then (s.jobFails j 0x0510 j.entry.toNat, none)
        else
          match chk.2 with
          | .bad a => (s.jobFails j 0x0511 a.toNat, none)
          | _ =>
            if mjUsesSlot d then
              match s.jobSlot d with
              | none => (s.jobFails j cSlotBusy (mjSlot d), none)
              | some i =>
                let j := { j with slot := some i, installed := op == 2, todo := mjTiles d }
                ((s.setF (F.MNT_SLOT_INFO_RSV i) 1).setJob j, some (j, r))
            else
              let j := { j with todo := mjTiles d }
              (s.setJob j, some (j, r))

/-! ## Reading a source tile (R130) -/

/-- Whether an address lies in a tile that pass 2 of a running job has begun to read and has not yet rewritten (R129). -/
def State.mintReads (s : State) (a : PA) : Bool :=
  decide (spaceOf a ≤ 2) && s.mint.jobs.any (fun j => j.reading && !j.inPass1 && decide (mjOp j.desc ≤ 3) &&
    (match s.packedRegion (mjRegion j.desc), j.todo with
    | some r, l :: _ => (tileOfIndex r l).addr.toNat / 4096 == a.toNat / 4096
    | _, _ => false))

/-- What a job's source tile is: its PLAIN bytes with its base's, a tile to skip, or a read that must wait. -/
inductive SrcTile where
  | plain (bytes base : Bytes)
  | skip (k : Skip)
  | wait
  deriving DecidableEq, Repr

/-- Why a tile that reads as poisoned is skipped (R130): for a base, its own or its source's, with the base's address. -/
def skipOf (x : TileRef) (f : Option PA) (why : BadBy) (isBase : Bool) : Skip :=
  if isBase then .poison x.addr true
  else match why with
    | .own => .poison (f.getD x.addr) false
    | .failed => .failed
    | .base a => .poison a true

/-- A tile decoded for a job: its bytes or the reason to skip it. -/
def State.jobDecode (s : State) (x : TileRef) (k : Consumer) (isBase : Bool) : State × SrcTile :=
  match s.decodeTile x k none with
  | (s, .plain bs [] _ _) => (s, .plain bs [])
  | (s, .plain _ _ f why) => (s, .skip (skipOf x f why isBase))
  | (s, .empty) => (s, .skip (if isBase then .poison x.addr true else .empty))
  | (s, .wait _) => (s, .wait)
  | (s, .repair g) => (s.startRepair g k.tag 8, .wait)

/-- The base of a base index is read and kept. -/
def State.keepBase (s : State) (j : MintJob) (i : Nat) (x : TileRef) (k : Consumer) : State × MintJob × SrcTile :=
  match s.jobDecode x k true with
  | (s, .plain bs b) => (s, { j with base := some (i, some bs) }, .plain bs b)
  | (s, .skip q) => (s, { j with base := some (i, none) }, .skip q)
  | (s, .wait) => (s, j, .wait)

/-- The base of a base index, which a job reads once in a pass: it visits the tiles that name it one after another (R122). -/
def State.jobBase (s : State) (j : MintJob) (r : Region) (i : Nat) (k : Consumer) : State × MintJob × SrcTile :=
  let x := tileOfIndex r i
  match j.base with
  | some (b, c) =>
    if b = i then (s, j, match c with | some bs => .plain bs [] | none => .skip (.poison x.addr true)) else s.keepBase j i x k
  | none => s.keepBase j i x k

/-- The source of tile L. -/
def State.jobSource (s : State) (j : MintJob) (r : Region) (l : Nat) : State × MintJob × SrcTile :=
  let d := j.desc
  let x := tileOfIndex r l
  let k : Consumer := ⟨6, x.cluster, 8, mjTag d⟩
  let src :=
    if mjSrcRegion d then s.jobDecode x k false
    else
      let a : PA := BitVec.ofNat 56 ((mjAddr d).toNat + 4096 * (l - mjFirst d))
      let rd := s.readAny a 4096 k {} none
      match rd.2.repair, rd.2.first with
      | some g, _ => (rd.1.startRepair g k.tag 8, .wait)
      | none, some f => (rd.1, .skip (.poison f false))
      | none, none => if rd.2.ready then (rd.1, .plain rd.2.data []) else (rd.1, .wait)
  match src with
  | (s, .plain bs _) =>
    if mjCodec d = 1 then
      match s.jobBase j r (mjBaseOf d l) k with
      | (s, j, .plain b _) => (s, j, .plain bs b)
      | q => q
    else (s, j, .plain bs [])
  | q => (q.1, j, q.2)

/-- Notes a skipped tile: one JOB_POISON record for each poisoned source, and one for each base (R130). -/
def State.jobSkip (s : State) (j : MintJob) (l : Nat) (k : Skip) : State × MintJob :=
  let c := l / 512 % 8
  let rec_ := match k with
    | .poison _ true => !j.skipped.any (fun p => p.2 == k)
    | .poison _ false => true
    | _ => false
  let s := match k with
    | .poison a _ => if rec_ then (s.setF F.MNT_STATUS_LAST_ERR 0x0515).poisonNamed (mintEvent 0x0515 c j a.toNat) else s
    | _ => s
  let j := { j with skipped := j.skipped ++ [(l, k)] }
  (s.setJob j, j)

/-- How a job without further trouble ends: DONE 3 with tiles skipped, JOB_POISON when one was skipped for poison. -/
def jobOutcome (j : MintJob) : Nat × Nat :=
  if j.skipped.isEmpty then (1, 0)
  else (3, if j.skipped.any (fun p => p.2 != .empty) then 0x0515 else 0)

/-! ## Pass 2, DECODE and RELEASE (R124, R129, R130) -/

/-- The code lengths of a job's slot as codes. -/
def State.slotCodes (s : State) (i : Nat) : List (List Code) :=
  codesOfTables (s.slotTables i) (s.f (F.MNT_SLOT_INFO_PLANES i))

/-- Encodes one tile and replaces it in order (R129). False when the heap share has no room. -/
def State.packTile (s : State) (j : MintJob) (r : Region) (l : Nat) (bs base : Bytes) : State × MintJob × Bool :=
  let d := j.desc
  let x := tileOfIndex r l
  let i := j.slot.getD 0
  let st := encodeTile (mjCodec d) (mjWidth d) i (s.f (F.MNT_SLOT_INFO_GEN i)) (tileOfIndex r (mjBaseOf d l)).t (mjRawAbove d)
    (s.f (F.MNT_SLOT_INFO_XOR i) == 1) (s.slotCodes i) bs base
  let h := parseHeader st
  match s.heapPlace r x.cluster h.grains with
  | none => (s.mintError (mintEvent 0x0512 x.cluster j x.addr.toNat), j, false)
  | some loc =>
    let e : DirEntry := { check := h.check, state := 1, codec := h.codec, width := h.width, grains := h.grains, slot := h.slot,
                          gen := h.gen, loc := loc }
    let s := (s.writeStored x loc st (mjTag d)).replaceDir x (s.peekDir x) e (mjTag d)
    let s := s.addF F.MNT_TILES_ENC_COUNT 1
    let s := if h.codec = 0 then s.addF F.MNT_TILES_RAW_COUNT 1 else s
    let s := s.addF F.MNT_GRAINS_OUT_COUNT h.grains
    (s, { j with tilesDone := j.tilesDone + 1, tilesRaw := j.tilesRaw + (if h.codec = 0 then 1 else 0) }, true)

/-- Pass 2 over the tiles still to do; it stops at a tile whose read must wait, and is taken up again later. -/
def State.pass2 (s : State) (j : MintJob) (r : Region) : List Nat → State
  | [] => s.setJob { j with todo := [], ended := some (jobOutcome j) }
  | l :: rest =>
    if j.skipped.any (fun p => p.1 == l) then State.pass2 s j r rest
    else
      match s.jobSource { j with reading := false } r l with
      | (s, j, .wait) => s.setJob { j with todo := l :: rest, reading := true }
      | (s, j, .skip k) => let q := s.jobSkip j l k; State.pass2 q.1 q.2 r rest
      | (s, j, .plain bs base) =>
        match s.packTile j r l bs base with
        | (s, j, true) => State.pass2 s j r rest
        | (s, j, false) => s.setJob { j with todo := [], ended := some (2, 0x0512) }

/-- DECODE over the tiles still to do (R130, R375). -/
def State.mintDecode (s : State) (j : MintJob) (r : Region) : List Nat → State
  | [] => s.setJob { j with todo := [], ended := some (jobOutcome j) }
  | l :: rest =>
    let d := j.desc
    let x := tileOfIndex r l
    let dst : PA := BitVec.ofNat 56 ((mjAddr d).toNat + 4096 * (l - mjFirst d))
    let put (s : State) (bs : Bytes) (bad : List Nat) : State := (s.writeAny dst bs bad (mjTag d) []).getD s
    match s.decodeTile x ⟨6, x.cluster, 8, mjTag d⟩ none with
    | (s, .plain bs [] _ _) => State.mintDecode (put s bs []) j r rest
    | (s, .plain bs bad f why) =>
      let q := (put s bs bad).jobSkip j l (skipOf x f why false)
      State.mintDecode q.1 q.2 r rest
    | (s, .empty) =>
      let q := (put s (List.replicate 4096 0) allPoison).jobSkip j l .empty
      State.mintDecode q.1 q.2 r rest
    | (s, .wait _) => s.setJob { j with todo := l :: rest }
    | (s, .repair g) => (s.startRepair g (mjTag d) 8).setJob { j with todo := l :: rest }

/-- RELEASE: every tile becomes EMPTY (R126). -/
def State.mintRelease (s : State) (j : MintJob) (r : Region) (ls : List Nat) : State :=
  let s := s.forEach ls (fun s l =>
    let x := tileOfIndex r l
    s.replaceDir x (s.peekDir x) DirEntry.empty (mjTag j.desc))
  s.setJob { j with todo := [], tilesDone := j.tilesDone + ls.length, ended := some (1, 0) }

/-! ## Pass 1 (R123) -/

/-- Histograms: one list of 256 counts for each plane. -/
def noCounts (planes : Nat) : List (List Nat) := List.replicate planes (List.replicate 256 0)

/-- The residual bytes of a tile under a job's codec. -/
def jobResidual (d : Bytes) (bs base : Bytes) : Bytes :=
  if mjCodec d = 1 then deltaForward (mjWidth d) bs base else planeForward (mjWidth d) (mjXor d) bs

/-- Pass 1 over the tiles still to do; it stops at a tile whose read must wait, and is taken up again there. -/
def State.pass1 (s : State) (j : MintJob) (r : Region) : List Nat → State × MintJob
  | [] => (s, { j with todo := [] })
  | l :: rest =>
    match s.jobSource j r l with
    | (s, j, .wait) => (s, { j with todo := l :: rest })
    | (s, j, .skip k) => let q := s.jobSkip j l k; State.pass1 q.1 q.2 r rest
    | (s, j, .plain bs base) =>
      let res := jobResidual j.desc bs base
      let P := planesOf (mjWidth j.desc)
      State.pass1 s { j with counts := j.counts.zipIdx.map (fun q => addHistogram P q.2 q.1 res) } r rest

/-- Pass 1 ends: the lengths are derived, the slot is installed, and COMPRESS goes on with pass 2 (R123, R129, R130).
When no symbol was counted nothing is installed and nothing is written. -/
def State.pass1End (s : State) (id : Nat) : State :=
  match s.mint.jobs.find? (fun j => j.id == id && j.started && j.ended.isNone) with
  | none => s
  | some j =>
    match s.packedRegion (mjRegion j.desc) with
    | none => s
    | some r =>
      if !j.inPass1 then s.pass2 j r j.todo
      else
        match s.pass1 j r j.todo with
        | (s, j) =>
          let counts := j.counts
          if !j.todo.isEmpty then s.setJob j
          else if counts.all (fun c => c.all (fun n => n == 0)) then s.setJob { j with inPass1 := false, todo := [], ended := some (jobOutcome j) }
          else
            let i := j.slot.getD 0
            let inst : SlotInstall := ⟨i, s.nextGen i, counts.length, mjXor j.desc,
              if mjLockAfter j.desc then some true else none, counts.flatMap (fun c => lengthsTable (deriveLengths c)), 0⟩
            let s := (s.beginInstall inst).endInstall inst
            let j := { j with inPass1 := false, installed := true, todo := mjTiles j.desc, base := none }
            if mjOp j.desc = 3 then s.setJob { j with todo := [], ended := some (jobOutcome j) }
            else (s.setJob j).pass2 j r j.todo

/-- Takes up a running job of an operation whose read had to wait. -/
def State.mintResume (s : State) (op : Nat) (go : State → MintJob → Region → List Nat → State) : State :=
  match s.mint.jobs.find? (fun j => j.started && j.ended.isNone && !j.inPass1 && mjOp j.desc == op) with
  | some j => (match s.packedRegion (mjRegion j.desc) with | some r => go s j r j.todo | none => s)
  | none => s

/-- Starts a job of an operation and does its work, or takes up one that had to wait. -/
def State.mintGo (s : State) (op : Nat) (go : State → MintJob → Region → List Nat → State) : State :=
  match s.mintStart op with
  | (s, some (j, r)) => go s j r j.todo
  | (s, none) => s.mintResume op go

/-- Begins pass 1 of a job that has one. -/
def beginPass1 (s : State) (j : MintJob) (r : Region) (l : List Nat) : State :=
  if mjUsesSlot j.desc ∧ !j.installed then
    s.setJob { j with inPass1 := true, counts := noCounts (planesOf (mjWidth j.desc)) }
  else if mjOp j.desc = 3 then s.setJob { j with todo := [], ended := some (1, 0) }
  else s.pass2 j r l

/-! ## The commands -/

/-- MINT_JOB_FETCH (R127). -/
def execMintJobFetch (s : State) : Host.Outcome State Fault Refusal := .next s.mintFetch
/-- MINT_COMPRESS (R126). -/
def execMintCompress (s : State) : Host.Outcome State Fault Refusal := .next (s.mintGo 1 beginPass1)
/-- MINT_ENCODE (R126). -/
def execMintEncode (s : State) : Host.Outcome State Fault Refusal := .next (s.mintGo 2 State.pass2)
/-- MINT_BUILD (R126). -/
def execMintBuild (s : State) : Host.Outcome State Fault Refusal := .next (s.mintGo 3 beginPass1)
/-- MINT_DECODE (R126). -/
def execMintDecode (s : State) : Host.Outcome State Fault Refusal := .next (s.mintGo 4 State.mintDecode)
/-- MINT_RELEASE (R126). -/
def execMintRelease (s : State) : Host.Outcome State Fault Refusal := .next (s.mintGo 5 State.mintRelease)
/-- MINT_PASS1_END (R123). -/
def execMintPass1End (id : Nat) (s : State) : Host.Outcome State Fault Refusal := .next (s.pass1End id)

/-- MINT_JOB_END (R130). -/
def execMintJobEnd (id : Nat) (s : State) : Host.Outcome State Fault Refusal :=
  .next (match s.mint.jobs.find? (fun j => j.id == id) with
    | some j => (match j.ended with | some e => s.jobEnd j e.1 e.2 | none => s)
    | none => s)

end Sys2Proof.Machine
end

