-- ==== Sys2Proof/Machine/Expand.lean ====
section
/-! DEFINITION. Write-expand: turning a compressed tile into PLAIN data in an expansion slot (R86, R88, R89, R376). -/

namespace Sys2Proof.Machine

/-- What an attempt to expand a tile gives. -/
inductive ExpandRes where
  /-- The tile is EXPANDED, at this 4 KiB slot of its share. -/
  | ok (slot : Nat)
  /-- The share has no free slot (R88). -/
  | full
  /-- A read must be repaired, or a table installed, first. -/
  | wait
  /-- The tile is EMPTY (R106). -/
  | empty
  deriving DecidableEq, Repr

/-- The directory entry of an EXPANDED tile (Table 4-3). -/
def expandedEntry (width slot : Nat) : DirEntry := { DirEntry.empty with state := 2, width := width, loc := slot }

/-- Places 4 KiB of PLAIN bytes in a free slot of the tile's share and rewrites its entry. -/
def State.expandInto (s : State) (x : TileRef) (old : DirEntry) (width : Nat) (bs : Bytes) (bad : List Nat) (tag : Tag) :
    State × ExpandRes :=
  match s.expPlace x.region x.cluster with
  | none => (s, .full)
  | some slot =>
    let a := x.expAddr slot
    let s := s.writeRange a bs tag
    let s := s.forEach bad (fun s g => s.poisonPool (BitVec.ofNat 56 (a.toNat + 128 * g)))
    (s.replaceDir x old (expandedEntry width slot) tag, .ok slot)

/-- Makes a tile EXPANDED, decoding it when it is STORED; an unreadable entry gives 32 poisoned grains (R86, R89, R376). -/
def State.expandTile (s : State) (x : TileRef) (k : Consumer) : State × ExpandRes :=
  match s.readDir x k with
  | (s, .repair a) => (s.startRepair a k.tag k.op, .wait)
  | (s, .unreadable bits) =>
    let w := (dirOfBits bits).width
    s.expandInto x DirEntry.empty (if w ≤ 4 then w else 0) (List.replicate 4096 0) allPoison k.tag
  | (s, .entry e) =>
    match e.state with
    | 2 => (s, .ok e.loc)
    | 1 =>
      if (s.expPlace x.region x.cluster).isNone then (s, .full)
      else
        match s.decodeEntry x e k none with
        | (s, .plain bs bad _ _) => s.expandInto x e e.width bs bad k.tag
        | (s, .empty) => (s, .empty)
        | (s, .wait _) => (s, .wait)
        | (s, .repair a) => (s.startRepair a k.tag k.op, .wait)
    | _ => (s, .empty)

/-- The EXPAND_FULL record of a refused write (R88). -/
def State.expandFull (s : State) (x : TileRef) (a : PA) (k : Consumer) : State :=
  s.ledger { tileEvent 0x0580 x k with addr := a.toNat }

/-- Writes a piece within one tile of a PACKED region, the numbered grains poisoned; the tile is expanded first. A tile that
a mint job is reading waits for its rewrite (R129). -/
def State.writeTile (s : State) (r : Region) (a : PA) (bs : Bytes) (bad : List Nat) (k : Consumer) : State × ExpandRes :=
  let x := tileAt r a
  if s.mintReads a then (s, .wait) else
  match s.expandTile x k with
  | (s, .ok slot) =>
    let b : PA := BitVec.ofNat 56 ((x.expAddr slot).toNat + a.toNat % 4096)
    let s := (s.writeRange b bs k.tag).baseInvalidate x.addr.toNat
    (s.forEach bad (fun s g => s.poisonPool (BitVec.ofNat 56 (b.toNat + 128 * g))), .ok slot)
  | r => r

/-- How a write of the device's own work went: whether a compressed tile was left as it was, because its share is full or the
tile is EMPTY, and whether some tile must be repaired, or its table installed, first. -/
structure WorkEnd where
  left : Bool := false
  wait : Bool := false
  deriving DecidableEq, Repr

/-- Writes a range of the device's own work to memory of any kind but the vault, the numbered 128-byte parts poisoned: a
piece that lies in a compressed tile goes through write-expand without a DEFER (R212). -/
def State.writeWork (s : State) (a : PA) (bs : Bytes) (bad : List Nat) (k : Consumer) : State × WorkEnd :=
  (tilePieces a bs.length).foldl (fun (st : State × WorkEnd) p =>
    let off := p.1.toNat - a.toNat
    let g0 := p.1.toNat / 128 - a.toNat / 128
    let bs := slice bs off p.2
    let bad := (bad.filter (fun g => decide (g0 ≤ g) && decide (g < g0 + ceilDiv p.2 128))).map (fun g => g - g0)
    match st.1.packedAt (spaceOf p.1) (pageOf p.1) with
    | some r =>
      if spaceOf p.1 ≤ 2 then
        match st.1.writeTile r p.1 bs bad k with
        | (s, .ok _) => (s, st.2)
        | (s, .full) => (s.expandFull (tileAt r p.1) p.1 k, { st.2 with left := true })
        | (s, .empty) => (s, { st.2 with left := true })
        | (s, .wait) => (s, { st.2 with wait := true })
      else st
    | none =>
      if st.1.plainRange p.1 p.2 then ((st.1.writeAny p.1 bs bad k.tag []).getD st.1, st.2) else st) (s, {})

/-- Work that must wait is done again as a whole: nothing of it has happened but the start of its repairs (R370). -/
def State.retry (s0 s : State) : State := { s0 with integ := { s0.integ with repairs := s.integ.repairs } }

end Sys2Proof.Machine
end

