-- ==== Sys2Proof/Machine/Wire.lean ====
section
/-! DEFINITION. What the lanes of a port carry: the code word that the receive lanes bring (R251), the laser channels (R252,
R253) and the training blocks that the device sends (R254, R255, R259). -/

namespace Sys2Proof.Machine

/-- An engine never used, where unlisted. -/
def noOptic : Nat → Optic := fun _ => {}

/-- An optical engine. -/
def State.optic (s : State) (e : Nat) : Optic := Sparse.get noOptic s.optics e

/-- Sets an optical engine. -/
def State.setOptic (s : State) (e : Nat) (x : Optic) : State := { s with optics := Sparse.put noOptic s.optics e x }

/-- LANES of a port under the record in force. -/
def State.lanes8 (s : State) (e : Nat) : Bool := (s.epoch.active.str.ports.getD e ⟨true, true, 0⟩).lanes8

/-- The physical receive lane that carries a logical lane (OPT_LANEMAP), 8 for none. -/
def State.rxLane (s : State) (p j : Nat) : Nat :=
  ((List.range 8).find? (fun r => bitsOf (s.f (F.OPT_LANEMAP_MAP p)) (4 * r + 3) (4 * r) == 8 + j)).getD 8

/-- The code word that the receive lanes of a port bring: its bytes are taken from the logical lanes in turn (R251). The skew
between the lanes is absorbed. -/
def State.wordRx (s : State) (p : Nat) (lanes : List (List (Fin 4))) : Bytes :=
  let w := if s.f (F.JX_PORT_CFG_LANES8 p) = 1 then 8 else 4
  unstripe w 272 ((List.range w).map (fun j => lanes.getD (s.rxLane p j) []))

/-- The management bus of a module (R252). -/
def laserBus (e : Nat) : Nat := e / 6

/-- Enables a set of laser channels of a module; without a module, or while its lasers are held off, none (R252, R253). -/
def State.lasers (s : State) (e mask : Nat) : State :=
  let m := if s.f (F.OPT_LASER_PRESENT e) = 1 ∧ s.f (F.OPT_LASER_ENABLE e) = 1 then mask else 0
  if s.f (F.OPT_LASER_CH_ON e) = m then s else (s.setF (F.OPT_LASER_CH_ON e) m).emit (.laser e m)

/-! ## Training blocks (R254) -/

/-- The marker of a training block. -/
def trainMarker : Nat := 0x5A0FC3E19B2D7846

/-- Whether 128 bytes are a good training block. -/
def trainGood (b : Bytes) : Bool :=
  b.length == 128 && fieldLe b 0 8 == trainMarker && fieldLe b 124 4 == (crc32 (b.take 124)).toNat

/-- The training block that an engine sends on a transmit lane now (R254, R259). -/
def State.trainBytes (s : State) (e lane : Nat) : Bytes :=
  let x := s.optic e
  let body := leBytes 8 trainMarker ++ leBytes 1 x.phase ++ leBytes 1 (lane % 8 + (if 16 ≤ e then 128 else 0)) ++
    leBytes 1 (s.f (F.OPT_STS_RX_GOOD e)) ++ leBytes 1 (x.reqs.getD lane 0) ++ leBytes 1 (x.acks.getD lane 0) ++
    leBytes 1 x.width ++ leBytes 2 s.node.toNat ++ (List.range 108).map (Config.trainFill s.free lane)
  body ++ leBytes 4 (crc32 body).toNat

/-- The blocks on all eight lanes, which every attempt uses. -/
def State.sendBlocks (s : State) (e : Nat) : State :=
  (s.forEach (List.range 8) (fun s l => s.emit (.train e l (s.trainBytes e l)))).bump

/-- What the adaptation of the receivers asks of the peer's filters, lane by lane: the spec leaves it to them, so it is
free. -/
def State.freshReqs (s : State) : List Nat := (List.range 8).map (fun l => Config.freeNat (s.free + l) % 16)

end Sys2Proof.Machine
end

