-- ==== Sys2Proof/Machine/Own.lean ====
section
/-! DEFINITION. The device's own read requests (R243) and the power states of the cores (R32, R33, R183). -/

namespace Sys2Proof.Machine

/-! ## Own requests (R243) -/

/-- The first transaction identifier from the next one on that no outstanding request uses. -/
def State.pickTxn (s : State) : W16 :=
  BitVec.ofNat 16 (((List.range 65536).map (fun i => s.nextTxn + i)).find? (fun t =>
    !s.own.any (fun (o : OwnReq) => o.txn == BitVec.ofNat 16 t)) |>.getD s.nextTxn)

/-- The message of an own request: an RD (R223), or a CREQ (R225). -/
def State.ownMsg (s : State) (o : OwnReq) : Msg where
  ftype := if o.ctl.isSome then .creq else .rd
  tag := o.tag
  src := s.node
  dst := o.dst
  txn := o.txn
  attr := if o.pass then 4 else 0
  payload := leBytes 8 o.addr.toNat ++ leBytes 4 o.len ++
    (match o.ctl with
    | some (some v) => leBytes 4 1 ++ leBytes 8 v.toNat
    | _ => List.replicate 4 0)

/-- The port that an own request leaves by: the lowest ACTIVE mirror port for the partner's image, the route's otherwise. -/
def State.ownPort (s : State) (o : OwnReq) : Option Nat :=
  if o.purpose = .image then [16, 17].find? s.portActive else s.route (s.ownMsg o)

/-- Puts an own request on its port; one that no port takes is dropped (R217). -/
def State.sendOwn (s : State) (o : OwnReq) : State :=
  let m := s.ownMsg o
  match s.ownPort o with
  | some p => s.sendAt p m (s.loadOf p)
  | none => s.dropMsg m none

/-- Issues an own request under a new TXN, unique among the outstanding ones. -/
def State.ownSend (s : State) (o : OwnReq) : State :=
  let t := s.pickTxn
  let o := { o with txn := t, sentAt := s.count, token := none, deferAt := 0 }
  ({ s with own := s.own ++ [o], nextTxn := (t.toNat + 1) % 65536 }).sendOwn o

/-- Issues a read of the device's own. -/
def State.ownRead (s : State) (dst : Node) (tag : Tag) (a : PA) (len : Nat) (purpose : Purpose) (pass : Bool) : State :=
  s.ownSend { txn := 0, dst := dst, tag := tag, addr := a, len := len, sentAt := 0, again := false, token := none, deferAt := 0,
              purpose := purpose, pass := pass }

/-- The own request of a TXN. -/
def State.ownOf (s : State) (t : W16) : Option OwnReq := s.own.find? (fun (o : OwnReq) => o.txn == t)

/-- Removes an own request. -/
def State.ownDrop (s : State) (t : W16) : State := { s with own := s.own.filter (fun (o : OwnReq) => o.txn != t) }

/-- The LINK_TIMEOUT record of a failed own request, at the port that its route gives. -/
def State.ownTimeout (s : State) (o : OwnReq) : State :=
  let p := (s.ownPort o).getD (s.wouldLeave (s.ownMsg o) none)
  s.ledger { code := 0x0106, tag := o.tag, die := dieOfPort p, unitKind := 1, unit := p, op := 1, addr := o.addr.toNat }

/-! ## The partner's image (R484) -/

/-- Sets the read of the partner's image. -/
def State.setRead (s : State) (r : Option ImageRead) : State := { s with epoch := { s.epoch with read := r } }

/-- A CREQ to the partner's control space: a write of 8 bytes, or a read of 64. -/
def State.imageAsk (s : State) (dst : Node) (off : Nat) (w : Option W64) : State :=
  s.ownSend { txn := 0, dst := dst, tag := BitVec.ofNat 12 (1 + Config.imageTag % 4095), addr := poolAddr 8 off
              len := if w.isSome then 8 else 64, sentAt := 0, again := false, token := none, deferAt := 0, purpose := .image
              ctl := some w }

/-- The bytes that the read takes: the prefix, and then IMAGE_LEN as the prefix gives it, when it is within R40. -/
def imageTotal (data : Bytes) : Nat :=
  if data.length < 4096 ∨ 2 ^ 26 < fieldLe data 0x10 8 then 4096 else max 4096 (fieldLe data 0x10 8)

/-- The read begins with the session's OPEN. The requests follow one another singly (DESIGN CHOICE). -/
def State.imageOpen (s : State) (dst : Node) : State := (s.setRead (some ⟨dst, 0, []⟩)).imageAsk dst R.MGT_IMG_SESSION (some 1)

/-- The next request of the read: a page is selected before its first bytes, and the session closes after the last. -/
def State.imageNext (s : State) (r : ImageRead) : State :=
  let n := r.data.length
  if imageTotal r.data ≤ n then (s.setRead (some { r with stage := 3 })).imageAsk r.dst R.MGT_IMG_SESSION (some 0)
  else if n % 524288 = 0 ∧ r.stage ≠ 1 then
    (s.setRead (some { r with stage := 1 })).imageAsk r.dst R.MGT_IMG_PAGE (some (BitVec.ofNat 64 (n / 524288)))
  else (s.setRead (some { r with stage := 2 })).imageAsk r.dst (0x3080000 + n % 524288) none

/-- A request of the read is answered. -/
def State.imageAnswer (s : State) (status : Nat) (data : Bytes) : State :=
  match s.epoch.read with
  | none => s
  | some r =>
    if r.stage = 3 then s.setRead (some { r with stage := 4 })
    else if status ≠ stOk then s.setRead (some { r with stage := 5 })
    else if r.stage = 2 then s.imageNext { r with data := r.data ++ (data ++ List.replicate 64 0).take 64 }
    else s.imageNext r

/-- A request of the read has failed. -/
def State.imageLost (s : State) : State :=
  match s.epoch.read with
  | none => s
  | some r => s.setRead (some { r with stage := if r.stage = 3 then 4 else 5 })

/-- The partner's node, as the training blocks of a mirror port have named it. -/
def State.partnerSeen (s : State) : Node := BitVec.ofNat 16 (s.optic (([16, 17].find? s.portActive).getD 16)).peerNode

/-- A start-up at step 13 with the partner as its source asks for the image once a mirror port is ACTIVE (R466). -/
def State.imageAtStart (s : State) : State :=
  if s.f F.AO_BOOT_STATE = 1 ∧ s.f F.AO_BOOT_STEP = 13 ∧ s.f F.AO_BOOT_SRC = 2 ∧ s.epoch.read.isNone then s.imageOpen s.partnerSeen
  else s

/-! ## Core power (R32, R33, R183) -/

/-- A core never used, where unlisted. -/
def coreZero : Nat → CoreSt := fun _ => {}

/-- A core's state. -/
def State.core (s : State) (n : Nat) : CoreSt := Sparse.get coreZero s.cores n

/-- Marks whether the canopy accesses under way bypass the cache (R347). -/
def State.setBypass (s : State) (b : Bool) : State := { s with canopy := { s.canopy with bypass := b } }

/-- An update for a core's kernel, under the epoch in which it started (R56). The transparent accesses of a CYCLE_EXACT kernel take the
BYPASS policy (R347). -/
def State.underCore (s : State) (n : Nat) (g : State → State) : State :=
  match (s.core n).running with
  | some r => ((s.setBypass r.cx).under r.epoch g).setBypass s.canopy.bypass
  | none => g s

/-- Sets a core's state. -/
def State.setCore (s : State) (n : Nat) (c : CoreSt) : State := { s with cores := Sparse.put coreZero s.cores n c }

/-- A wake of a core: a clock-gated core is ready after 200 ns, a power-gated one after 6 µs; a core that is awake or
waking does not change (R33, R183). A fenced core accepts nothing. -/
def State.wakeCore (s : State) (n : Nat) : State :=
  let c := s.core n
  if s.coreFenced n then s
  else
    match c.power with
    | .clockGated => s.setCore n { c with power := .waking (s.count + 200) }
    | .powerGated => s.setCore n { c with power := .waking (s.count + 6000) }
    | _ => s

/-- A write of 1 to CORE_WAKE.WAKE: the field reads 1 until the core is ready (Table 0-2). -/
def State.wakeCommand (s : State) (n : Nat) : State :=
  let s := s.wakeCore n
  match (s.core n).power with
  | .waking _ => s.setF (F.CORE_WAKE_WAKE n) 1
  | _ => s

/-- A waking core is ready once its wake time has passed. -/
def State.coreReady (s : State) (n : Nat) : State :=
  let c := s.core n
  match c.power with
  | .waking t => if t ≤ s.count then (s.setCore n { c with power := .awake, idleSince := s.count }).setF (F.CORE_WAKE_WAKE n) 0 else s
  | _ => s

/-- The object of a kind and identifier that the epoch in force installs for a core (R45, R56). -/
def State.program (s : State) (kind id core : Nat) : Option Program :=
  s.epoch.active.programs.find? (fun (p : Program) => p.kind == kind && p.id == id && p.coreMask.testBit core)

end Sys2Proof.Machine
end

