-- ==== Sys2Proof/Machine/Streams.lean ====
section
/-! DEFINITION. Stream plans (R90 to R94, R24, R189). -/

namespace Sys2Proof.Machine

/-! ## The program (Tables 3-6 and 3-7) -/

def Plan.steps (p : Plan) : Nat := fieldLe p.bytes 0 4
def Plan.tag (p : Plan) : Tag := BitVec.ofNat 12 (fieldLe p.bytes 6 2)
def Plan.deadline (p : Plan) : Nat := fieldLe p.bytes 8 4
def Plan.noticeNode (p : Plan) : Nat := fieldLe p.bytes 12 2
/-- Step k of a plan. -/
def Plan.step (p : Plan) (k : Nat) : Bytes := slice p.bytes (32 + 32 * k) 32

def stOp (b : Bytes) : Nat := fieldLe b 0 1
def stDone (b : Bytes) : Nat := fieldLe b 2 2
def stWait (b : Bytes) : Nat := fieldLe b 4 2
def stNode (b : Bytes) : Node := BitVec.ofNat 16 (fieldLe b 6 2)
def stSrc (b : Bytes) : Nat := fieldLe b 8 8
def stDst (b : Bytes) : Nat := fieldLe b 16 8
def stCount (b : Bytes) : Nat := fieldLe b 24 4
def stWaitValue (b : Bytes) : Nat := fieldLe b 28 4

/-- Whether a FETCH step reads a remote device. -/
def stRemote (b : Bytes) : Bool := stNode b != 0xFFFF
/-- Destination of a FETCH. -/
def fetchDst (b : Bytes) : PA := BitVec.ofNat 56 (stDst b)

/-! ## Plans -/

/-- The plan of a number. -/
def State.plan (s : State) (u : Nat) : Option Plan := s.plans.find? (fun (p : Plan) => p.uid == u)

/-- Sets a plan; a plan whose last step has completed ends. -/
def State.setPlan (s : State) (p : Plan) : State :=
  if p.steps ≤ p.next ∧ p.issued = [] then { s with plans := s.plans.filter (fun (x : Plan) => x.uid != p.uid) }
  else { s with plans := s.plans.map (fun (x : Plan) => if x.uid = p.uid then p else x) }

/-- Whether a cluster's stream unit can take another plan. -/
def State.planRoom (s : State) (c : Nat) : Bool := decide ((s.plans.filter (fun (p : Plan) => p.cluster == c)).length < 4)

/-- Starts a plan of a cluster. -/
def State.addPlan (s : State) (p : Program) : State :=
  { s with nextId := s.nextId + 1
           plans := s.plans ++ [{ uid := s.nextId, id := p.id, cluster := fieldLe p.bytes 4 1 % 8, bytes := p.bytes, next := 0,
                                  repeats := [], strides := [], issued := [], epoch := s.f F.GLB_EPOCH_CURRENT }] }

/-- Starts the named plan, installed for a core, in the cluster its header names: none when that cluster already runs
four plans or is fenced (R174). A plan that is not installed starts nothing. -/
def State.startPlan (s : State) (core id : Nat) : Option State :=
  match s.program 2 id core with
  | none => some s
  | some p =>
    let c := fieldLe p.bytes 4 1 % 8
    if s.planRoom c && !s.clusterFenced c then some (s.addPlan p) else none

/-! ## Steps (R91) -/

/-- Whether a step's wait condition holds (R91, R181). An event number from 4,096 to 0xFFFE names no counter; as a wait it
holds, as R175 has it for a descriptor, and as a DONE_EVENT it counts nothing (DESIGN CHOICE: R90 gives only 0xFFFF). -/
def State.stepReady (s : State) (b : Bytes) : Bool :=
  if stWait b < 4096 then waitHolds (s.event (stWait b)) (stWaitValue b) else true

/-- The stride that a step has gathered. -/
def Plan.stride (p : Plan) (k : Nat) : Int := ((p.strides.find? (fun (e : Nat × Int) => e.1 == k)).map (fun e => e.2)).getD 0

/-- Adds a stride to each FETCH of the steps from a to b − 1. -/
def Plan.addStride (p : Plan) (a b : Nat) (d : Int) : Plan :=
  let ks := ((List.range (b - a)).map (fun i => a + i)).filter (fun k => stOp (p.step k) == 1)
  { p with strides := p.strides.filter (fun (e : Nat × Int) => !ks.contains e.1) ++ ks.map (fun k => (k, p.stride k + d)) }

/-- A REPEAT step at its issue: another round of the repeated steps while repeats are left, and after the last round the
plan goes on and the strides that the step added are taken off. The flag says that the step has completed. -/
def Plan.repeatStep (p : Plan) (b : Bytes) : Plan × Bool :=
  let k := p.next
  let left := ((p.repeats.find? (fun (e : Nat × Nat) => e.1 == k)).map (fun e => e.2)).getD (stCount b)
  let rest := p.repeats.filter (fun (e : Nat × Nat) => e.1 != k)
  let d := signedOf 64 (stDst b)
  if stSrc b < k ∧ 0 < left then
    ({ p.addStride (stSrc b) k d with next := stSrc b, repeats := rest ++ [(k, left - 1)] }, false)
  else
    let q := if stSrc b < k then p.addStride (stSrc b) k (-(d * (stCount b : Int))) else p
    ({ q with next := k + 1, repeats := rest }, true)

/-- Whether a remote FETCH reads a PACKED logical range, so that it brings tiles in stored form. -/
def fetchTiles (b : Bytes) (src : PA) : Bool := Config.remotePacked (stNode b) src

/-- Bytes that a remote FETCH reads at its source. -/
def fetchBytesOf (b : Bytes) (src : PA) : Nat := (if fetchTiles b src then 4096 else 128) * stCount b

/-- Grains that the locators of a FETCH of tiles take (R91). -/
def locGrains (b : Bytes) : Nat := ceilDiv (8 * stCount b) 128

/-- Asks for the next piece of a remote FETCH: at most 4 KiB, not across a 4 KiB boundary (R223, R243), and a tile by a
pass-through read (R139). -/
def State.askPiece (s : State) (p : Plan) (x : FetchStep) : State × FetchStep :=
  let b := p.step x.step
  let left := fetchBytesOf b x.src - x.asked
  if left = 0 then (s, x)
  else
    let a : PA := BitVec.ofNat 56 (x.src.toNat + x.asked)
    let n := min left (4096 - a.toNat % 4096)
    (s.ownRead (stNode b) p.tag a n (.fetch x.no) (fetchTiles b x.src), { x with asked := x.asked + n })

/-- Issues the next step of a plan, once its wait condition holds: WAKE, SIGNAL and REPEAT act, a FETCH begins (R91). -/
def State.stepIssue (s : State) (u : Nat) : State :=
  match s.plan u with
  | none => s
  | some p =>
    let b := p.step p.next
    if p.steps ≤ p.next ∨ !s.stepReady b ∨ s.clusterFenced p.cluster then s
    else
      match stOp b with
      | 1 =>
        let x : FetchStep := { no := s.nextId, step := p.next, src := BitVec.ofInt 56 ((stSrc b : Int) + p.stride p.next), asked := 0, got := 0
                               grains := locGrains b }
        let s := { s with nextId := s.nextId + 1 }
        let r := if stRemote b then s.askPiece p x else (s, x)
        r.1.setPlan { p with next := p.next + 1, issued := p.issued ++ [r.2] }
      | 2 => ((s.wakeCore (stDst b % 16)).setPlan { p with next := p.next + 1 }).doneEvent (stDone b)
      | 4 =>
        let r := p.repeatStep b
        let s := s.setPlan r.1
        if r.2 then s.doneEvent (stDone b) else s
      | _ => (s.setPlan { p with next := p.next + 1 }).doneEvent (stDone b)

/-- The source records of the store blocks that a FETCH has filled whole (R365). -/
def State.setSrcRecs (s : State) (b : Bytes) (src : PA) (n : Nat) : State :=
  let a := fetchDst b
  if spaceOf a = 4 then
    let lo := ceilDiv (offsetOf a) 4096
    let hi := (offsetOf a + n) / 4096
    s.forEach (List.range (hi - lo)) (fun s i =>
      s.setSrcRec (lo + i) (some { node := stNode b, addr := src, count := stCount b, off := 4096 * (lo + i) - offsetOf a }))
  else s

/-- A FETCH step completes (R91). -/
def State.fetchEnd (s : State) (p : Plan) (x : FetchStep) : State :=
  (s.setPlan { p with issued := p.issued.filter (fun (y : FetchStep) => y.no != x.no) }).doneEvent (stDone (p.step x.step))

/-- What a FETCH of this device's own memory reads: tiles in stored form from a PACKED range, PLAIN grains otherwise. A
source that is not mapped whole arrives as poison (DESIGN CHOICE: R91 names no outcome). -/
def State.fetchRead (s : State) (src : PA) (count : Nat) (k : Consumer) (env : VaultEnv) : State × AnyRead :=
  let tiles := s.touchesPacked src 1
  if !s.memMapped src ((if tiles then 4096 else 128) * count) then
    (s, { AnyRead.empty with data := List.replicate (128 * count) 0, poison := List.range count })
  else if tiles then s.readStoredAny src count k else s.readAny src (128 * count) k env none

/-- Writes a part of a FETCH's data at an offset of its destination, where that is PLAIN (R91). -/
def State.fetchWrite (s : State) (p : Plan) (b : Bytes) (off : Nat) (data : Bytes) (bad : List Nat) : State :=
  let a : PA := BitVec.ofNat 56 (stDst b + off)
  if s.plainRange a data.length then (s.writeAny a data bad p.tag []).getD s else s

/-- The stream unit's part in a record. -/
def planConsumer (p : Plan) : Consumer := ⟨9, p.cluster, 9, p.tag⟩

/-- The last byte of a FETCH is written (R91, R92): a local FETCH moves its data now, poison arriving as poison; a remote
one must have received every piece. A destination that is not PLAIN memory is left as it is. -/
def State.fetchDone (s : State) (u no : Nat) (env : VaultEnv) : State :=
  match s.plan u with
  | none => s
  | some p =>
    match p.issued.find? (fun (x : FetchStep) => x.no == no) with
    | none => s
    | some x =>
      let b := p.step x.step
      if s.clusterFenced p.cluster then s
      else if stRemote b then
        if x.got < fetchBytesOf b x.src then s
        else
          let tiles := fetchTiles b x.src
          let n := if tiles then 128 * x.grains else fetchBytesOf b x.src
          let s := if tiles then s.fetchWrite p b 0 (padTo 128 x.locs) [] else s
          (if s.plainRange (fetchDst b) n then s.setSrcRecs b x.src n else s).fetchEnd p x
      else
        let r := s.fetchRead x.src (stCount b) (planConsumer p) env
        if !r.2.ready then r.1.readWaits r.2 p.tag 9
        else
          let n := r.2.data.length
          let s := r.1.fetchWrite p b 0 r.2.data r.2.poison
          (if s.plainRange (fetchDst b) n then s.setSrcRecs b x.src n else s).fetchEnd p x

/-- A piece of a remote FETCH has arrived: it is written, and the next piece is asked for. Tiles follow one another, each on
a grain, and a tile with poison is poisoned whole (R91, R104, R224). -/
def State.fetchPiece (s : State) (no : Nat) (o : OwnReq) (data : Bytes) (bad : List Nat) : State :=
  match s.plans.find? (fun (p : Plan) => p.issued.any (fun (x : FetchStep) => x.no == no)) with
  | none => s
  | some p =>
    match p.issued.find? (fun (x : FetchStep) => x.no == no) with
    | none => s
    | some x =>
      let b := p.step x.step
      let bs := padTo 128 data
      let n := bs.length / 128
      let s := if o.pass then s.fetchWrite p b (128 * x.grains) bs (if bad.isEmpty then [] else List.range n)
        else s.fetchWrite p b (o.addr.toNat - x.src.toNat) data bad
      let y := if o.pass then { x with locs := x.locs ++ leBytes 4 x.grains ++ leBytes 2 n ++ leBytes 2 0, grains := x.grains + n } else x
      let r := s.askPiece p { y with got := x.got + o.len }
      r.1.setPlan { p with issued := p.issued.map (fun (y : FetchStep) => if y.no = no then r.2 else y) }

/-- A remote FETCH has failed: its destination grains are poisoned and its step completes (R243). Of a FETCH of tiles those
are the locators' grains and the tiles' that have arrived: where the others would lie is not known. -/
def State.fetchFail (s : State) (no : Nat) : State :=
  match s.plans.find? (fun (p : Plan) => p.issued.any (fun (x : FetchStep) => x.no == no)) with
  | none => s
  | some p =>
    match p.issued.find? (fun (x : FetchStep) => x.no == no) with
    | none => s
    | some x =>
      let b := p.step x.step
      let n := if fetchTiles b x.src then x.grains else stCount b
      (s.fetchWrite p b 0 (List.replicate (128 * n) 0) (List.range n)).fetchEnd p x

/-! ## Stalls (R92 to R94) -/

/-- The number of a FETCH's tiles that have arrived. -/
def FetchStep.arrived (b : Bytes) (x : FetchStep) : Nat := if stRemote b then x.got / 4096 else 0

/-- The cause of the oldest incomplete tile of a FETCH, at its source address (Table 3-8): the lowest that applies. For a
PACKED range the tile's stored grains are what the tiers hold. -/
def State.fetchCause (s : State) (b : Bytes) (src : PA) : Nat :=
  let tile := (s.packedAt (spaceOf src) (pageOf src)).map (fun r =>
    let x := tileAt r src
    (x, dirOfBits (fieldLe (s.fetchBytes x.dirAddr 16 0).2.1 0 16 % 2 ^ 120)))
  let slot : Bool := match tile with
    | some (_, e) =>
      e.state == 1 && e.codec != 0 && s.f (F.MNT_SLOT_INFO_STATE e.slot) == slotInstalling &&
        s.installs.any (fun (y : SlotInstall) => y.slot == e.slot && y.gen == e.gen)
    | none => false
  let at_ : PA := match tile with
    | some (x, e) => if e.state = 1 then x.heapAddr e.loc else if e.state = 2 then x.expAddr e.loc else src
    | none => src
  if stRemote b then 3
  else if slot then 1
  else match spaceOf src with
    | 3 => 2
    | 2 => 4
    | 0 =>
      let n := 512 * localPage (pageOf at_) + offsetOf at_ % 2 ^ 21 / 4096
      if (s.wayOf (ownerOf (pageOf at_)) n).isNone then 5 else 0
    | _ => 0

/-- The step and cause of the oldest incomplete step of a plan that signals an event (R93): the oldest incomplete tile of a
FETCH gives the cause; a step held by its own WAIT_EVENT takes the cause found for that event in its plan, through at most
as many steps as the plan has. -/
def Plan.cause (s : State) (p : Plan) : Nat → Nat → Option (Nat × Nat)
  | 0, _ => none
  | fuel + 1, e =>
    match p.issued.find? (fun (x : FetchStep) => stDone (p.step x.step) == e) with
    | some x =>
      let b := p.step x.step
      some (x.step, s.fetchCause b (BitVec.ofNat 56 (x.src.toNat + 4096 * x.arrived b)))
    | none =>
      match (List.range (p.steps - p.next)).find? (fun i => stDone (p.step (p.next + i)) == e) with
      | none => none
      | some i =>
        let k := p.next + i
        let b := p.step k
        if !s.stepReady b then some (k, ((Plan.cause s p fuel (stWait b)).map (fun r => r.2)).getD 0)
        else if stOp b = 1 then some (k, s.fetchCause b (BitVec.ofInt 56 ((stSrc b : Int) + p.stride k)))
        else some (k, 0)

/-- The plan, step and cause of a stall on an event. -/
def State.stallCause (s : State) (e : Nat) : Option (Plan × Nat × Nat) :=
  s.plans.findSome? (fun (p : Plan) => (p.cause s (p.steps + 1) e).map (fun r => (p, r.1, r.2)))

/-- Adds stall time to a core's tallies (R93). -/
def State.addStall (s : State) (core cause ns : Nat) : State :=
  let s := s.addF (F.CAN_STALL_NS core 0) ns
  if 1 ≤ cause ∧ cause ≤ 5 then s.addF (F.CAN_STALL_NS core cause) ns else s

/-- The stall of a core's kernel. -/
def State.stallOf (s : State) (n : Nat) : Option Stall := s.stalls.find? (fun (x : Stall) => x.core == n)

/-- The stall of a core's kernel is over. -/
def State.endStall (s : State) (n : Nat) : State := { s with stalls := s.stalls.filter (fun (x : Stall) => x.core != n) }

/-- One ns of a running kernel (R92, R93): it works towards its next wait, passes a wait that holds, or stalls while a plan's
incomplete step is to signal the event; the ns is then added to the core's tallies. -/
def State.kernelTick (s : State) (n : Nat) : State :=
  let c := s.core n
  match c.running with
  | none => s
  | some r =>
    match r.waits with
    | [] => s
    | w :: rest =>
      if r.worked < w.after then s.setCore n { c with running := some { r with worked := r.worked + 1 } }
      else if waitHolds (s.event w.event) w.value.toNat then
        (s.setCore n { c with running := some { r with waits := rest, worked := 0 } }).endStall n
      else
        match s.stallCause w.event with
        | none => s.endStall n
        | some (_, _, cause) =>
          let s := s.addStall n cause 1
          if (s.stallOf n).isSome then s else { s with stalls := s.stalls ++ [⟨n, w.event, s.count, false⟩] }

/-- The stall of a core's kernel reaches its plan's STALL_DEADLINE: one STALL_TIMEOUT notice per stall (R94). -/
def State.stallTimeout (s : State) (core : Nat) : State :=
  match s.stallOf core with
  | none => s
  | some x =>
    match s.stallCause x.event with
    | none => s
    | some (p, step, cause) =>
      if p.deadline = 0 ∨ s.count < x.since + p.deadline ∨ x.told then s
      else
        ({ s with stalls := s.stalls.map (fun (y : Stall) => if y.core = core then { y with told := true } else y) }).noticeTo p.noticeNode p.tag
          ntStall (leBytes 1 core ++ leBytes 1 cause ++ leBytes 2 0 ++ leBytes 4 p.id ++ leBytes 4 step)

/-- An update for a plan, under the epoch in which it started (R56). -/
def State.underPlan (s : State) (u : Nat) (g : State → State) : State :=
  match s.plan u with
  | some p => s.under p.epoch g
  | none => g s

/-! ## The commands -/

/-- CORE_PLAN_START: a write to CORE_PLAN_START of core n (R189). -/
def execCorePlanStart (n : Fin 16) (id : W32) (s : State) : Host.Outcome State Fault Refusal :=
  .next ((s.startPlan n id.toNat).getD s)
/-- STREAM_STEP_ISSUE of a running plan (R91). -/
def execStreamStepIssue (plan : Nat) (s : State) : Host.Outcome State Fault Refusal := .next (s.underPlan plan (fun s => s.stepIssue plan))
/-- FETCH_DONE of an issued FETCH of a plan (R91, R92). -/
def execFetchDone (plan no : Nat) (env : VaultEnv) (s : State) : Host.Outcome State Fault Refusal := .next (s.underPlan plan (fun s => s.fetchDone plan no env))
/-- STALL_TIMEOUT: the stall of a core's kernel has lasted for its plan's STALL_DEADLINE (R94). -/
def execStallTimeout (core : Fin 16) (s : State) : Host.Outcome State Fault Refusal := .next (s.stallTimeout core)

end Sys2Proof.Machine
end

