-- ==== Sys2Proof/Machine/Suspects.lean ====
section
/-! DEFINITION. Suspect entries, the capture of failing operands, and the classification of a diagnosis run (R399 to
R401, R409). -/

namespace Sys2Proof.Machine

/-! ## TEST notices (R409) -/

/-- The 24-byte body of a TEST notice. -/
def testBody (core kind outcome which index start : Nat) : Bytes :=
  leBytes 1 core ++ leBytes 1 kind ++ leBytes 1 outcome ++ leBytes 1 0 ++ leBytes 4 which ++ leBytes 4 index ++ leBytes 4 0 ++
    leBytes 8 start

/-- Sends a TEST notice to TST_CFG.NOTICE_NODE, if any. -/
def State.testNotice (s : State) (core kind outcome which index start : Nat) : State :=
  s.noticeTo (s.f F.TST_CFG_NOTICE_NODE) 0 ntTest (testBody core kind outcome which index start)

/-! ## Engine states (Table 17-15) -/

/-- Marks an engine SUSPECT. -/
def State.markSuspect (s : State) (n : Nat) : State := s.setF (F.TST_CORE_STS_ENGINE n) 1

/-- Returns an engine's state to OK. -/
def State.engineOk (s : State) (n : Nat) : State := s.setF (F.TST_CORE_STS_ENGINE n) 0

/-! ## Suspect entries (R399) -/

/-- The lowest of a list by a measure. -/
def leastBy (g : Nat → Nat) : List Nat → Option Nat
  | [] => none
  | i :: t =>
    match leastBy g t with
    | none => some i
    | some j => if g j < g i then some j else some i

/-- The entry that a new suspect takes: the lowest FREE one, otherwise the oldest resolved one. -/
def State.suspectPlace (s : State) : Option Nat :=
  match (List.range 16).find? (fun i => s.f (F.TST_SUSPECT_STATE i) == 0) with
  | some i => some i
  | none => leastBy (fun i => s.f (F.TST_SUSPECT_COUNT_COUNT i)) ((List.range 16).filter (fun i => s.f (F.TST_SUSPECT_STATE i) != 1))

/-- Opens a suspect entry: kind 0 LANE, 1 SHADOW. The entry taken, if one was free. -/
def State.openSuspect (s : State) (kind a b : Nat) (tag : Tag) (kernel pass block crcA crcB : Nat) : State × Option Nat :=
  match s.suspectPlace with
  | none => (s, none)
  | some i =>
    let s := s.setReg (R.TST_SUSPECT i)
      (BitVec.ofNat 64 (2 ^ 61 + 2 ^ 60 * kind + 2 ^ 56 * a + 2 ^ 52 * b + 2 ^ 40 * tag.toNat + kernel))
    let s := s.setReg (R.TST_SUSPECT_PASS i) (BitVec.ofNat 64 (2 ^ 32 * block + pass))
    let s := s.setReg (R.TST_SUSPECT_CRC i) (BitVec.ofNat 64 (2 ^ 32 * crcB + crcA))
    (s.setReg (R.TST_SUSPECT_COUNT i) (BitVec.ofNat 64 s.count), some i)

/-! ## Capture (R401) -/

/-- Bytes cut or filled with zeros to n. -/
def fitTo (n : Nat) (bs : Bytes) : Bytes := bs.take n ++ List.replicate (n - bs.length) 0

/-- What a capture record names beside the operands. -/
structure CaptureHead where
  core : Nat
  source : Nat
  tag : Tag
  kernel : Nat
  inTypes : Nat
  pass : Nat
  block : Nat
  crcThird : Nat
  crcOwn : Nat
  deriving DecidableEq, Repr

/-- The 45,056 bytes of a capture record (Table 17-4). -/
def State.captureBytes (s : State) (h : CaptureHead) (b : BlockOps) : Bytes :=
  let d := dieOfCore h.core
  [0x51, 0x52, 0x4E, 0x54] ++ leBytes 1 h.core ++ leBytes 1 h.source ++ leBytes 2 h.tag.toNat ++ leBytes 4 h.kernel ++
    leBytes 1 h.inTypes ++ leBytes 3 0 ++ leBytes 4 h.pass ++ leBytes 4 h.block ++ leBytes 8 s.count ++ leBytes 4 h.crcThird ++
    leBytes 4 h.crcOwn ++ leBytes 2 (Sparse.get natZero s.dieTemp d) ++ leBytes 2 (Sparse.get natZero s.railMv d) ++
    leBytes 20 0 ++ fitTo 128 b.aScales ++ fitTo 512 b.bScales ++ leBytes 3392 0 ++
    gather 32 (fun k => fitTo 256 (b.aRows.getD k [])) ++ gather 32 (fun k => fitTo 1024 (b.bRows.getD k []))

/-- Captures a block to the quarantine ring; suspect is the entry that the notice names. -/
def State.capture (s : State) (h : CaptureHead) (b : BlockOps) (suspect start : Nat) : State :=
  let n := s.f F.TST_QUAR_RECORDS
  let tail := s.f F.TST_QUAR_TAIL
  if n = 0 then s
  else if (tail + 65536 - s.f F.TST_QUAR_HEAD) % 65536 = n then
    let s := s.addF F.TST_QUAR_DROPS_COUNT 1
    if s.silent.quarFull then s
    else ({ s with silent := { s.silent with quarFull := true } }).ledger
      { code := 0x0D08, die := dieOfCore h.core, op := 13, addr := tail }
  else
    let a : PA := BitVec.ofNat 56 (s.f F.TST_QUAR_BASE_ADDR + 45056 * (tail % n))
    let s := s.writeRange a (s.captureBytes h b) 0
    (s.setF F.TST_QUAR_TAIL (tail + 1)).testNotice h.core 4 0 suspect tail start

/-! ## Diagnosis (R400, Table 17-3) -/

/-- The outcomes of a diagnosis, as the notice codes them. -/
def dgTransient : Nat := 1
def dgPermanent : Nat := 2
def dgOtherWrong : Nat := 3
def dgUnresolved : Nat := 4

/-- The classification of a diagnosis run that reached the entry's pass: kind, the entry's CRCs, the run's, and whether
a lane of engine A failed in the entry's block. -/
def diagClass (kind xa xb ya yt : Nat) (laneAgain : Bool) : Nat :=
  if kind = 1 then
    if ya = xa ∧ ya ≠ yt then dgPermanent
    else if ya = yt ∧ ya = xa ∧ xa ≠ xb then dgOtherWrong
    else if ya = yt ∧ ya = xb then dgTransient
    else dgUnresolved
  else if laneAgain then dgPermanent
  else if ya = yt then dgTransient
  else dgUnresolved

/-- A diagnosis ends: the entry takes its result, the engines their states, DIAG_RESULT is written, ARM clears and the
notice is sent; a PERMANENT result fences engine A as an engine fault, unless it is fenced already (R17). yt is the third engine's CRC of the pass. -/
def State.diagResult (s : State) (i result start : Nat) (yt : Option Nat) : State :=
  let a := s.f (F.TST_SUSPECT_ENGINE_A i)
  let b := s.f (F.TST_SUSPECT_ENGINE_B i)
  let shadow := s.f (F.TST_SUSPECT_KIND i) == 1
  let fences := result == dgPermanent && !s.engineFenced a
  let s := s.setF (F.TST_SUSPECT_STATE i) (result + 1)
  let s := s.setF F.TST_DIAG_CTL_ARM 0
  let s :=
    if result = dgPermanent then
      let s := s.addFence (.engine a)
      if shadow && yt == some (s.f (F.TST_SUSPECT_CRC_CRC_B i)) then s.engineOk b else s
    else if result = dgOtherWrong then s.engineOk a
    else if result = dgTransient then (if shadow then (s.engineOk a).engineOk b else s.engineOk a)
    else s
  let s := s.ledger
    { code := 0x0D04, tag := BitVec.ofNat 12 (s.f (F.TST_SUSPECT_JOB_TAG i)), die := dieOfCore a, cluster := clusterOfCore a, core := a,
      engine := a, op := 13, flags := if fences then flagFence else 0, addr := i + result * 16 }
  s.testNotice a 3 result i 0 start

/-! ## Shadows (R396 to R398) -/

/-- The shadow of a core's kernel. -/
def State.shadowOf (s : State) (core : Nat) : Option Shadow := s.silent.shadows.find? (fun (x : Shadow) => x.core == core)

/-- The shadow that a core computes for another. -/
def State.shadowing (s : State) (n : Nat) : Option Shadow := s.silent.shadows.find? (fun (x : Shadow) => x.shadow == n && x.taken)

/-- Sets a shadow. -/
def State.setShadow (s : State) (x : Shadow) : State :=
  { s with silent := { s.silent with shadows := s.silent.shadows.map (fun (y : Shadow) => if y.core = x.core then x else y) } }

/-- Removes the shadow of a core's kernel, and its entry where the shadow core has not taken it. -/
def State.dropShadow (s : State) (core : Nat) : State :=
  match s.shadowOf core with
  | none => s
  | some x =>
    let c := s.core x.shadow
    let mine (p : Producer) : Bool := p == .shadow core
    let s := s.setCore x.shadow { c with
      dq := c.dq.filter (fun (e : DqEntry) => !mine e.producer)
      dqHead := match c.dqHead with
        | some h => (match h.producer with | some p => if mine p then none else some h | none => some h)
        | none => none }
    { s with silent := { s.silent with shadows := s.silent.shadows.filter (fun (y : Shadow) => y.core != core) } }

/-- The kernel of a core ends: its shadow ends with it, and a diagnosis run that has not been classified is
UNRESOLVED (R400, Table 17-2). -/
def State.shadowEnd (s : State) (core : Nat) : State :=
  match s.shadowOf core with
  | none => s
  | some x =>
    let s := s.dropShadow core
    match x.diag with
    | some i => if s.f (F.TST_SUSPECT_STATE i) = 1 then s.diagResult i dgUnresolved x.startedAt none else s
    | none => s

end Sys2Proof.Machine
end

