-- ==== Sys2Proof/Machine/Kernels.lean ====
section
/-! DEFINITION. Kernels: descriptors and queues (R172 to R178), outputs (R155 to R163), endings (R179, R180) and core
power (R183). -/

namespace Sys2Proof.Machine

/-! ## Descriptor fields (Table 7-3) -/

def kdKernel (d : Bytes) : Nat := fieldLe d 0x00 4
def kdTag (d : Bytes) : Tag := BitVec.ofNat 12 (fieldLe d 0x04 2)
def kdMode (d : Bytes) : Nat := fieldLe d 0x06 1 % 4
def kdSat (d : Bytes) : Bool := (fieldLe d 0x06 1).testBit 2
def kdLaunchAt (d : Bytes) : Bool := (fieldLe d 0x07 1).testBit 0
def kdAccLoad (d : Bytes) : Bool := (fieldLe d 0x07 1).testBit 1
def kdNotice (d : Bytes) : Bool := (fieldLe d 0x07 1).testBit 2
def kdLaunch (d : Bytes) : Nat := fieldLe d 0x08 8
def kdArgs (d : Bytes) : Nat := fieldLe d 0x10 4
def kdArgsLen (d : Bytes) : Nat := fieldLe d 0x14 2
def kdBaseMap (d : Bytes) : Nat := fieldLe d 0x16 2
def kdTensor (d : Bytes) : Nat := fieldLe d 0x18 4
def kdCols (d : Bytes) : Nat := fieldLe d 0x1C 4
def kdRows (d : Bytes) : Nat := fieldLe d 0x20 4
def kdInA (d : Bytes) : Nat := fieldLe d 0x24 1 % 16
def kdInB (d : Bytes) : Nat := fieldLe d 0x24 1 / 16
def kdOut (d : Bytes) : Nat := fieldLe d 0x25 1 % 16
def kdSlot (d : Bytes) : Nat := fieldLe d 0x26 2
def kdWait (d : Bytes) : Nat := fieldLe d 0x28 2
def kdDone (d : Bytes) : Nat := fieldLe d 0x2A 2
def kdWaitValue (d : Bytes) : Nat := fieldLe d 0x2C 4
def kdBarrier (d : Bytes) : Nat := fieldLe d 0x30 1
def kdNode (d : Bytes) : Nat := fieldLe d 0x32 2
def kdPlan (d : Bytes) : Nat := fieldLe d 0x34 4

/-- The element type of a code (Table 7-4). -/
def elemOfCode (c : Nat) : Option ElemType :=
  match c with
  | 0 => some ⟨.e4m3, false⟩
  | 1 => some ⟨.e5m2, false⟩
  | 2 => some ⟨.int8, false⟩
  | 3 => some ⟨.bf16, false⟩
  | 4 => some ⟨.fp16, false⟩
  | 5 => some ⟨.e4m3, true⟩
  | 6 => some ⟨.e5m2, true⟩
  | 7 => some ⟨.e3m2, true⟩
  | 8 => some ⟨.e2m3, true⟩
  | 9 => some ⟨.e2m1, true⟩
  | 10 => some ⟨.fp32, false⟩
  | 11 => some ⟨.int32, false⟩
  | _ => none

/-- A number that names one of n items, or none by 0xFFFF. -/
def namesOrNone (n v : Nat) : Bool := decide (v < n) || v == 0xFFFF

/-- Step 2 of R178, over a descriptor's fields alone. -/
def kdValid (d : Bytes) : Bool :=
  decide (fieldLe d 0x04 2 < 4096) && decide (fieldLe d 0x06 1 < 8) && decide (fieldLe d 0x07 1 < 8) &&
    decide (fieldLe d 0x25 1 < 16) && fieldLe d 0x31 1 == 0 &&
    (kdLaunchAt d || kdLaunch d == 0) && kdMode d != 3 && namesOrNone 4096 (kdWait d) && namesOrNone 4096 (kdDone d) &&
    (decide (kdBarrier d < 64) || kdBarrier d == 255) && namesOrNone 4096 (kdSlot d) && decide (kdArgsLen d ≤ 4096) &&
    decide (kdArgs d + 64 * kdArgsLen d ≤ 0x2000000) && namesOrNone 8192 (kdBaseMap d) &&
    decide (kdRows d * kdCols d ≤ 2 ^ 40)

/-! ## Kernel objects (Table 7-1) -/

def koEngine (p : Program) : Bool := (fieldLe p.bytes 2 1).testBit 0
def koArgsMin (p : Program) : Nat := fieldLe p.bytes 0x0C 2

/-- The kernel object that a descriptor names, installed for a core. -/
def State.kernelObj (s : State) (n : Nat) (d : Bytes) : Option Program := s.program 1 (kdKernel d) n

/-- Whether an installed object of a descriptor uses the engine. -/
def State.usesEngine (s : State) (n : Nat) (d : Bytes) : Bool :=
  match s.kernelObj n d with | some p => koEngine p | none => false

/-- Step 6 of R178: reserved type codes, and pairs that an engine pass cannot take. -/
def kdFormatOk (d : Bytes) (engine : Bool) : Bool :=
  match elemOfCode (kdInA d), elemOfCode (kdInB d), elemOfCode (kdOut d) with
  | some a, some b, some _ => !engine || pairAllowed a b
  | _, _, _ => false

/-- The first check of R178 that a fetched kernel fails on a core: its code and its record's address. A kernel whose code
transposes tiles of WIDTH 3 or 4 is refused with FORMAT_PAIR (R166, R168). -/
def State.kCheck (s : State) (n : Nat) (x : Fetched) (code : KCode) : Option (Nat × Nat) :=
  let d := x.desc
  if !x.bad.isEmpty then some (0x0730, x.addr.toNat)
  else if !kdValid d then some (0x0731, x.addr.toNat)
  else
    match s.kernelObj n d with
    | none => some (0x0732, kdKernel d)
    | some p =>
      if kdArgsLen d < koArgsMin p then some (0x0731, x.addr.toNat)
      else if kdSlot d < 4096 ∧ s.slotState (kdSlot d) ≠ 0 then some (0x0733, kdSlot d)
      else if !kdFormatOk d (koEngine p) || code.transposes.any (fun w => decide (3 ≤ w)) then some (0x0610, x.addr.toNat)
      else none

/-- The result slot that a kernel arms: the one it names, when it is FREE. -/
def State.armable (s : State) (d : Bytes) : Option Nat :=
  if kdSlot d < 4096 ∧ s.slotState (kdSlot d) = 0 then some (kdSlot d) else none

/-! ## Queues (R173 to R177) -/

/-- Entries of a core's device queue (DQ_DEPTH). -/
def CoreSt.depth (c : CoreSt) : Nat := c.dq.length + (if c.dqHead.isSome then 1 else 0)

/-- Posts a descriptor to a core's device queue; none when the queue is full. -/
def State.dqPost (s : State) (n : Nat) (desc : Bytes) (p : Producer) : Option State :=
  let c := s.core n
  if c.depth < 64 then
    some (s.setCore n { c with dq := c.dq ++ [⟨s.nextId, desc, p⟩] }).nextReq
  else none

/-- The field test of a core that is PENDING or TESTING. -/
def State.testOf (s : State) (n : Nat) : Option FieldTest := s.silent.tests.find? (fun (t : FieldTest) => t.core == n)

/-- Whether a core is TESTING. -/
def State.testing (s : State) (n : Nat) : Bool := s.f (F.TST_CORE_STS_STATE n) == 2

/-- Whether a pending field test stops the fetch of the ring entry of an index (R405). -/
def State.fetchStopped (s : State) (n i : Nat) : Bool :=
  match s.testOf n with
  | some t => s.testing n || t.stop == i
  | none => false

/-- The pool address of the ring entry of an index (R173). -/
def State.ringEntry (s : State) (n i : Nat) : PA :=
  BitVec.ofNat 56 (s.f (F.CORE_Q_BASE_ADDR n) + 64 * (i % 2 ^ s.f (F.CORE_Q_CFG_LOG2_ENTRIES n)))

/-- The stream plan of a descriptor starts as the descriptor is fetched; none delays the fetch (R174). -/
def State.planAtFetch (s : State) (n : Nat) (d : Bytes) : Option State :=
  if kdPlan d = 2 ^ 32 - 1 then some s else s.startPlan n (kdPlan d)

/-- The part of a core in an event. -/
def coreEvent (code n : Nat) (tag : Tag) (op addr flags : Nat) : Event :=
  { code := code, tag := tag, die := dieOfCore n, cluster := clusterOfCore n, core := n, op := op, addr := addr, flags := flags }

/-- A core as the consumer of memory. -/
def coreConsumer (n : Nat) (tag : Tag) : Consumer := ⟨0, n, 6, tag⟩

/-- The sequencer fetches the head of the software ring (R174). A poisoned grain leaves no word of the descriptor readable,
and so no plan to start. -/
def State.swFetch (s : State) (n : Nat) : State :=
  let c := s.core n
  let i := s.f (F.CORE_Q_HEAD_INDEX n)
  let a := s.ringEntry n i
  if s.f (F.CORE_Q_CFG_ENABLE n) = 0 ∨ c.sw.isSome ∨ i = s.f (F.CORE_Q_TAIL_INDEX n) ∨ s.fetchStopped n i then s
  else if !s.plainRange a 64 then (s.setF (F.CORE_Q_CFG_ENABLE n) 0).ledger (coreEvent 0x0731 n 0 6 a.toNat 0)
  else
    let r := s.readAny a 64 (coreConsumer n 0) {} none
    if !r.2.ready then r.1.readWaits r.2 0 6
    else
      let bad := !r.2.poison.isEmpty
      match (if bad then some r.1 else r.1.planAtFetch n r.2.data) with
      | none => s
      | some s =>
        (s.setCore n { c with sw := some ⟨s.nextId, r.2.data, a, if bad then List.range 8 else [], none⟩ }).nextReq.wakeCore n

/-- The sequencer fetches the head of the device queue (R174). A shadow entry starts no plan. -/
def State.dqFetch (s : State) (n : Nat) : State :=
  let c := s.core n
  match c.dqHead, c.dq with
  | none, e :: rest =>
    let isShadow : Bool := match e.producer with | .shadow _ => true | _ => false
    match (if isShadow then some s else s.planAtFetch n e.desc) with
    | none => s
    | some s => (s.setCore n { c with dqHead := some ⟨e.uid, e.desc, 0, [], some e.producer⟩, dq := rest }).wakeCore n
  | _, _ => s

/-- DESC_FETCH of one of a core's queues. -/
def State.descFetch (s : State) (n : Nat) (fromDq : Bool) : State :=
  if s.coreFenced n || s.testing n || s.coreStopped n then s else if fromDq then s.dqFetch n else s.swFetch n

/-- Words of the held copies of a core's two heads are found uncorrectable: of the device queue's where the flag is set
(R174, R178). -/
def State.eccFound (s : State) (n : Nat) (l : List (Bool × Fin 8)) : State :=
  let c := s.core n
  let mark (dq : Bool) (x : Fetched) : Fetched :=
    { x with bad := (l.filter (fun e => e.1 == dq)).foldl (fun b e => insertNat e.2.val b) x.bad }
  if l.isEmpty then s else s.setCore n { c with sw := c.sw.map (mark false), dqHead := c.dqHead.map (mark true) }

/-! ## Readiness (R175) -/

/-- Whether a fetched kernel is ready. One held as uncorrectable is ready, so that it reaches its refusal. -/
def State.kReady (s : State) (x : Fetched) : Bool :=
  let d := x.desc
  !x.bad.isEmpty || ((decide (4096 ≤ kdWait d) || waitHolds (s.event (kdWait d)) (kdWaitValue d)) &&
    (!kdLaunchAt d || decide (kdLaunch d ≤ s.count)))

/-- The kernels of the expert service (R190). -/
def expertIds : List Nat := [0xFFFFFE01, 0xFFFFFE02, 0xFFFFFE03]

/-- Whether a fetched descriptor is a shadow entry. -/
def Fetched.isShadow (x : Fetched) : Bool := match x.producer with | some (.shadow _) => true | _ => false

/-- The kernel whose turn has come at a boundary of a core: the head of the device queue when it is ready, otherwise the
head of the software ring when that is ready; the flag says which. -/
def State.turn (s : State) (n : Nat) : Option (Bool × Fetched) :=
  let c := s.core n
  let sw : Option (Bool × Fetched) :=
    match c.sw with
    | some x => if s.f (F.CORE_Q_CFG_ENABLE n) = 1 ∧ s.kReady x then some (false, x) else none
    | none => none
  match c.dqHead with
  | some x => if x.isShadow || s.kReady x then some (true, x) else sw
  | none => sw

/-- Whether a core is awake. -/
def State.awake (s : State) (n : Nat) : Bool := (s.core n).power == .awake

/-! ## Endings (R179, Table 7-5) -/

/-- DONE of an ending. -/
def doneByte (outcome : Nat) (late : Bool) : Nat := outcome + (if late then 128 else 0)

/-- A partner's share is lost to its lead (R194). -/
def State.shareLost (s : State) (lead n : Nat) : State :=
  let c := s.core lead
  match c.running with
  | some r =>
    match r.exp with
    | some w => s.setCore lead { c with running := some { r with exp := some { w with bad := insertNat n w.bad } } }
    | none => s
  | none => s

/-- Steps 2 to 7 of R179: the status bytes go to the ring entry or to the producer, CORE_LAST, the result slot that the
kernel armed, DONE_EVENT, the barrier and the notice. trusted is false after DESC_ECC. -/
def State.kernelEnds (s : State) (n : Nat) (x : Fetched) (armed late trusted : Bool) (e : KernelFin) : State :=
  let d := x.desc
  let tag := if trusted then kdTag d else 0
  let done := doneByte e.outcome late
  let status := leBytes 2 e.code ++ leBytes 2 e.flags ++ leBytes 1 done ++ leBytes 3 0
  let s :=
    match x.producer with
    | none => s.writeRange (BitVec.ofNat 56 (x.addr.toNat + 0x38)) status tag
    | some (.expert lead) => if e.outcome = 1 then s else s.shareLost lead n
    | some (.shadow _) => s
  let s := s.setReg (R.CORE_LAST n) (BitVec.ofNat 64 (e.code + 2 ^ 16 * e.flags + 2 ^ 32 * done))
  let s := s.addF (F.CORE_KERNELS_COUNT n) 1
  if !trusted then s
  else
    let s := if armed then
        s.slotReady (kdSlot d) ⟨e.dataAddr, e.dataLen, tag, e.code, e.flags, done, n, e.check, kdNode d⟩
      else s
    let s := s.doneEvent (kdDone d)
    let s := if kdBarrier d < 64 then s.arrive (kdBarrier d) tag else s
    if kdNotice d then
      s.sendNotice (BitVec.ofNat 16 (kdNode d)) tag ntKernelDone
        (leBytes 2 (kdSlot d) ++ leBytes 1 n ++ leBytes 1 done ++ leBytes 2 e.code ++ leBytes 2 e.flags ++ leBytes 4 (kdKernel d) ++
          leBytes 4 (if armed then s.slotSeq (kdSlot d) else 0))
    else s

/-- A kernel leaves its queue as it starts or is refused; HEAD passes a kernel of the software ring (R175). -/
def State.leaveQueue (s : State) (n : Nat) (fromDq : Bool) : State :=
  let c := s.core n
  if fromDq then s.setCore n { c with dqHead := none }
  else (s.setCore n { c with sw := none }).addF (F.CORE_Q_HEAD_INDEX n) 1

/-- The kernel whose turn has come is refused with a code (R178). The job tag lies in the descriptor's first word: a DESC_ECC
record has it unless that word cannot be read (R188). -/
def State.refuse (s : State) (n : Nat) (fromDq : Bool) (x : Fetched) (code addr : Nat) : State :=
  let trusted := code != 0x0730
  let armed := if trusted then s.armable x.desc else none
  let s := s.leaveQueue n fromDq
  let s := s.setCore n { s.core n with idleSince := s.count }
  let s := s.ledger (coreEvent code n (if x.bad.contains 0 then 0 else kdTag x.desc) 6 addr 0)
  let s := match armed with | some i => s.slotArm i | none => s
  s.kernelEnds n x armed.isSome false trusted ⟨3, code, 0, 0, 0, 0⟩

/-! ## CYCLE_EXACT (R348, R349) -/

/-- Whether the record in force places a core in CYCLE_EXACT. -/
def State.cxCore (s : State) (n : Nat) : Bool :=
  s.epoch.active.str.determinism.cycleExact && s.epoch.active.str.determinism.cxCores.testBit n

/-- The pins of the record in force (R344). -/
def State.pins (s : State) : Nat × Nat :=
  let d := s.epoch.active.str.determinism
  (if d.engineMhz = 0 then 2700 else d.engineMhz, if d.fabricMhz = 0 then 2400 else d.fabricMhz)

/-- The pins at which a die's clocks have settled. -/
def State.settled (s : State) (d : Nat) : Nat × Nat := if d = 0 then s.clocks.pins0 else s.clocks.pins1

/-- A CYCLE_EXACT kernel breaks its promise: once per kernel (R349). -/
def State.cxBreak (s : State) (n cause : Nat) : State :=
  let c := s.core n
  match c.running with
  | some r =>
    if r.cx && !r.cxBroken then
      let s := s.setCore n { c with running := some { r with cxBroken := true } }
      let s := (s.setF F.DET_CX_STS_LAST_CORE n).setF F.DET_CX_STS_LAST_CAUSE cause
      let s := (s.setBit F.DET_CX_STS_BROKEN n true).addF F.DET_CX_BROKEN_COUNT 1
      s.ledger (coreEvent 0x0750 n (kdTag r.desc) 6 (cause + 256 * n) 0)
    else s
  | none => s

/-- DET_CX_n of an ended kernel (R348). -/
def State.cxCounts (s : State) (n : Nat) (r : Running) (cycles wait : Nat) : State :=
  if r.cx then
    let s := (s.setF (F.DET_CX_CYCLES_COUNT n) cycles).setF (F.DET_CX_WAIT_COUNT n) wait
    (s.setF (F.DET_CX_KERNEL_KERNEL_ID n) (kdKernel r.desc)).setF (F.DET_CX_KERNEL_JOB_TAG n) (kdTag r.desc).toNat
  else s

/-! ## Starting (R175, R176, R184, R353) -/

/-- The seed and step that a kernel takes: its lead's snapshot for a partner of the expert service, its tag's registers
otherwise (R353). -/
def State.snapshotOf (s : State) (x : Fetched) : W64 × W64 × W64 :=
  let own := (s.reg (R.DET_SEED_LO (kdTag x.desc).toNat), s.reg (R.DET_SEED_HI (kdTag x.desc).toNat),
    s.reg (R.DET_STEP (kdTag x.desc).toNat))
  match x.producer with
  | some (.expert lead) =>
    match (s.core lead).running with | some r => (r.seedLo, r.seedHi, r.step) | none => own
  | _ => own

/-- The kernel whose turn has come starts, or is refused (R175 to R178). -/
def State.launch (s : State) (n : Nat) (fromDq : Bool) (x : Fetched) (kc : KCode) : State :=
  match s.kCheck n x kc with
  | some (code, addr) => (s.shadowEnd n).refuse n fromDq x code addr
  | none =>
    let late := kdLaunchAt x.desc && decide (kdLaunch x.desc < s.count)
    let armed := s.armable x.desc
    let snap := s.snapshotOf x
    let s := s.leaveQueue n fromDq
    let s := match armed with | some i => s.slotArm i | none => s
    let s := if late then s.addF (F.CORE_LATE_COUNT n) 1 else s
    let epoch := s.f F.GLB_EPOCH_CURRENT
    let run : Running :=
      ⟨x.uid, x.desc, x.addr, x.producer, s.count, armed.isSome, late, epoch, snap.1, snap.2.1, snap.2.2, s.cxCore n, false, none, kc.waits, 0, 0, false, false⟩
    let s := s.setCore n { s.core n with running := some run }
    if s.settled (dieOfCore n) != s.pins then s.cxBreak n 4 else s

/-! ## Conversion (R155 to R159) -/

/-- The number of a kernel's random draws. -/
def Running.draw (r : Running) : Draw := ⟨r.seedLo, r.seedHi, r.step, BitVec.ofNat 32 (kdTensor r.desc), domainRounding⟩

/-- The WIDTH code of a format's elements in a tile (Table 4-1). -/
def NumFmt.tileWidth : NumFmt → Nat
  | .fp32 => 2 | .int32 => 2 | .bf16 => 1 | .fp16 => 1 | .e2m1 => 3 | .e3m2 => 4 | .e2m3 => 4 | _ => 0

/-! ## Exact accumulators (R161 to R163) -/

/-- A cleared accumulator, where unlisted. -/
def noAcc : Nat → ExactAcc := fun _ => {}

/-- An exact accumulator of a core. -/
def State.exact (s : State) (n l : Nat) : ExactAcc := Sparse.get noAcc s.exacts (512 * n + l)

/-- Sets an exact accumulator. -/
def State.setExact (s : State) (n l : Nat) (a : ExactAcc) : State := { s with exacts := Sparse.put noAcc s.exacts (512 * n + l) a }

/-! ## The end of a running kernel -/

/-- The running kernel leaves its core: its shadow ends, its stalls are over, and the core is idle from now. -/
def State.leaveCore (s : State) (n : Nat) : State :=
  let s := s.shadowEnd n
  (s.setCore n { s.core n with running := none, idleSince := s.count }).endStall n

/-- A running kernel ends under steps 2 to 7 of R179. -/
def State.kernelFinish (s : State) (n : Nat) (r : Running) (e : KernelFin) : State :=
  (s.leaveCore n).kernelEnds n ⟨r.uid, r.desc, r.addr, [], r.producer⟩ r.armed r.late true e

/-- DATA_CHECK: the CRC-32C over DATA_LEN bytes at DATA_ADDR (Table 7-6), and what its read must wait for. -/
def State.dataCheck (s : State) (n : Nat) (tag : Tag) (a : PA) (len : Nat) : State × AnyRead × Nat :=
  let r := s.readAny a len (coreConsumer n tag) {} none
  (r.1, r.2, (crc32c r.2.data).toNat)

/-- Poisons every grain of a list of ranges. -/
def State.poisonRanges (s : State) (l : List (PA × Nat)) : State :=
  s.forEach l (fun s r => s.forEach (pieces r.1 r.2) (fun s p => s.poisonPool p.1))

/-- A fault aborts the running kernel of a core with a code: what it had touched is poisoned and it ends with outcome 4, with
the flags, DATA_ADDR and DATA_LEN that it had (R167, R180, R184, Table 7-5). DATA_CHECK of data that must first be repaired
is not defined then: a free value. -/
def State.abortKernel (s : State) (n code : Nat) (cut : KernelCut) : State :=
  match (s.core n).running with
  | none => s
  | some r =>
    let s := s.poisonRanges cut.touched
    let s := s.cxCounts n r cut.cycles cut.waitCycles
    let s := s.setCore n { s.core n with cut := some (r, s.count) }
    let ck := s.dataCheck n (kdTag r.desc) cut.dataAddr cut.dataLen
    let check := if ck.2.1.ready then ck.2.2 else Config.freeNat ck.1.free % 2 ^ 32
    ck.1.bump.kernelFinish n r ⟨4, code, (r.flags ||| cut.flags) % 65536, cut.dataAddr, cut.dataLen, check⟩

/-- The kernel that a fault on a core concerns: the running one, or the one that another fault of the same count has aborted
(R168). -/
def State.faultedKernel (s : State) (n : Nat) : Option Running :=
  match (s.core n).running, (s.core n).cut with
  | some r, _ => some r
  | none, some (r, t) => if t = s.count then some r else none
  | none, none => none

/-! ## Core power (R33, R183) -/

/-- The idle mode of a core: 0 awake, 1 clock-gated, 2 power-gated. -/
def State.idleMode (s : State) (n : Nat) : Nat := s.epoch.active.str.clockPower.idleMode.getD n 0

/-- An idle core is gated once its idle time has reached IDLE_NS (R183). -/
def State.coreGate (s : State) (n : Nat) : State :=
  let c := s.core n
  let m := s.idleMode n
  if m = 0 ∨ c.power ≠ .awake ∨ c.running.isSome ∨ (s.turn n).isSome ∨ s.testing n ∨ (s.shadowing n).isSome ∨ (s.shadowOf n).isSome ∨ s.coreFenced n ∨
      s.count < c.idleSince + s.epoch.active.str.clockPower.idleNs.getD n 0 then s
  else s.setCore n { c with power := if m = 1 then .clockGated else .powerGated }

/-! ## The commands -/

/-- DESC_FETCH: the sequencer of core n fetches the head of its device queue or of its software ring (R174). -/
def execDescFetch (n : Fin 16) (fromDq : Bool) (s : State) : Host.Outcome State Fault Refusal := .next (s.descFetch n fromDq)
/-- CORE_WAKE: a write of 1 to CORE_WAKE.WAKE (R183). -/
def execCoreWake (n : Fin 16) (s : State) : Host.Outcome State Fault Refusal := .next (s.wakeCommand n)
/-- CORE_READY (R33). -/
def execCoreReady (n : Fin 16) (s : State) : Host.Outcome State Fault Refusal := .next (s.coreReady n)
/-- CORE_GATE (R183). -/
def execCoreGate (n : Fin 16) (s : State) : Host.Outcome State Fault Refusal := .next (s.coreGate n)

end Sys2Proof.Machine
end

