-- ==== Sys2Proof/Machine/ExpMath.lean ====
section
/-! DEFINITION. The arithmetic of the expert service (R201 to R212): values that carry their poison and their flags,
operands of the engine, the forward and the backward pass, and the optimisers. -/

namespace Sys2Proof.Machine

/-! ## Values -/

/-- A value of the service's arithmetic: its encoding, whether it depends on poison, and the ARITH_FLAGS raised in
forming it. -/
structure Cell where
  v : Nat
  bad : Bool
  fl : Nat
  deriving DecidableEq, Repr

/-- Zero, clean. -/
def cell0 : Cell := ⟨0, false, 0⟩
/-- A clean FP32 constant. -/
def cellOf (v : Nat) : Cell := ⟨v, false, 0⟩
/-- One. -/
def cell1 : Cell := cellOf f32One

/-- Whether an FP32 encoding is NaN. -/
def nanF32 (v : Nat) : Bool := (f32 v).isNan

/-- The flags of one vector operation on FP32 values (Table 6-6). -/
def vecFlags (args : List Nat) (r : Nat) : Nat := if args.any nanF32 then flNanIn else flagIf (nanF32 r) flNanGen

/-- A vector operation of one, two or three operands. -/
def Cell.op1 (g : Nat → Nat) (a : Cell) : Cell := ⟨g a.v, a.bad, a.fl ||| vecFlags [a.v] (g a.v)⟩
def Cell.op2 (g : Nat → Nat → Nat) (a b : Cell) : Cell := ⟨g a.v b.v, a.bad || b.bad, a.fl ||| b.fl ||| vecFlags [a.v, b.v] (g a.v b.v)⟩
def Cell.op3 (g : Nat → Nat → Nat → Nat) (a b c : Cell) : Cell :=
  ⟨g a.v b.v c.v, a.bad || b.bad || c.bad, a.fl ||| b.fl ||| c.fl ||| vecFlags [a.v, b.v, c.v] (g a.v b.v c.v)⟩

def cadd : Cell → Cell → Cell := Cell.op2 fadd
def csub : Cell → Cell → Cell := Cell.op2 fsub
def cmul : Cell → Cell → Cell := Cell.op2 fmul
def cfma : Cell → Cell → Cell → Cell := Cell.op3 ffma
def crcp : Cell → Cell := Cell.op1 frcp
def crsq : Cell → Cell := Cell.op1 frsq
def cexp : Cell → Cell := Cell.op1 fexp
def csilu : Cell → Cell := Cell.op1 fsilu
def cmax : Cell → Cell → Cell := Cell.op2 fmax
def cneg : Cell → Cell := Cell.op1 fneg

/-- A conversion of an FP32 value to a format (R155, R156). -/
def Cell.conv (x : NumFmt) (m : Round) (sat : Bool) (a : Cell) : Cell :=
  let r := convert x m sat (f32 a.v)
  ⟨r.1, a.bad, a.fl ||| r.2⟩

/-- The FP32 value of an encoding of a format, exact. -/
def Cell.widen (x : NumFmt) (a : Cell) : Cell := { a with v := toF32 (x.value a.v) }

/-- The OR of the flags of a row. -/
def rowFlags (r : List Cell) : Nat := r.foldl (fun a c => a ||| c.fl) 0

/-- A matrix, by rows. -/
abbrev Mat := List (List Cell)

/-- The OR of the flags of a matrix. -/
def Mat.flags (m : Mat) : Nat := m.foldl (fun a r => a ||| rowFlags r) 0

/-- An element of a matrix. -/
def Mat.at (m : Mat) (i j : Nat) : Cell := (m.getD i []).getD j cell0

/-- A matrix of some shape from its elements. -/
def Mat.ofFn (rows cols : Nat) (g : Nat → Nat → Cell) : Mat := (List.range rows).map (fun i => (List.range cols).map (g i))

/-- The columns of a matrix as lines. -/
def Mat.columns (m : Mat) (cols : Nat) : Mat := (List.range cols).map (fun j => m.map (fun r => r.getD j cell0))

/-- The columns [lo, lo + n) of a matrix. -/
def Mat.cols (m : Mat) (lo n : Nat) : Mat := m.map (fun r => (r.drop lo).take n)

/-- Elementwise operations of matrices of one shape. -/
def Mat.map1 (g : Cell → Cell) (a : Mat) : Mat := a.map (fun r => r.map g)
def Mat.map2 (g : Cell → Cell → Cell) (a b : Mat) : Mat := List.zipWith (List.zipWith g) a b

/-- A matrix with the columns for which a test holds marked as depending on poison. -/
def Mat.spoil (m : Mat) (p : Nat → Bool) : Mat := m.map (fun r => r.zipIdx.map (fun c => if p c.2 then { c.1 with bad := true } else c.1))

/-! ## Engine operands (R145, R201) -/

/-- An operand: lines of K elements, and for an MX type the scale of each K-block of each line. -/
structure Opnd where
  fmt : NumFmt
  mx : Bool
  lines : Mat
  scales : Mat
  deriving DecidableEq, Repr

/-- The K-blocks of a line. -/
def blocks32 (l : List Cell) : List (List Cell) := (List.range (ceilDiv l.length 32)).map (fun i => (l.drop (32 * i)).take 32)

/-- A line padded with zeros to a multiple of 32 (R145). -/
def pad32 (l : List Cell) : List Cell := l ++ List.replicate (ceilDiv l.length 32 * 32 - l.length) cell0

/-- One K-block added to an accumulator (R149 to R153). -/
def cellBlock (a b : Opnd) (sx sy : Cell) (acc : Cell) (x y : List Cell) : Cell :=
  let r := accBlock acc.v (a.fmt == .bf16) (if a.mx then some (sx.v, sy.v) else none)
    (x.map (fun c => a.fmt.value c.v)) (y.map (fun c => b.fmt.value c.v))
  ⟨r.1, acc.bad || x.any Cell.bad || y.any Cell.bad || (a.mx && (sx.bad || sy.bad)), acc.fl ||| r.2 ||| rowFlags x ||| rowFlags y⟩

/-- The accumulator of a cell after every K-block of line i of A with line j of B, in ascending K order (R151). -/
def Opnd.dot (a b : Opnd) (i j : Nat) (init : Cell) : Cell :=
  let xs := blocks32 (a.lines.getD i [])
  let ys := blocks32 (b.lines.getD j [])
  (List.range xs.length).foldl (fun acc q =>
    cellBlock a b (a.scales.at i q) (b.scales.at j q) acc (xs.getD q []) (ys.getD q [])) init

/-- The product of two operands, onto initial accumulators. -/
def Opnd.mul (a b : Opnd) (init : Nat → Nat → Cell) : Mat :=
  Mat.ofFn a.lines.length b.lines.length (fun i j => a.dot b i j (init i j))

/-- The K-range [lo, lo + n) of an operand, both multiples of 32. -/
def Opnd.part (a : Opnd) (lo n : Nat) : Opnd := { a with lines := a.lines.cols lo n, scales := a.scales.cols (lo / 32) (n / 32) }

/-- How the service rounds a tensor: the descriptor's mode and SAT, and the draws of the tensor (R202). -/
structure Rounding where
  mode : Nat
  sat : Bool
  draw : Draw
  deriving DecidableEq, Repr

/-- The rounding of tensor TENSOR_ID + k. -/
def Rounding.tensor (r : Rounding) (k : Nat) : Rounding := { r with draw := { r.draw with tensor := r.draw.tensor + BitVec.ofNat 32 k } }

/-- The rounding of one element. -/
def Rounding.at (r : Rounding) (index : Nat) : Round := roundOf r.mode (r.draw.bits index)

/-- A matrix of cols columns converted to a plain format, elements indexed by row × cols + column. -/
def Mat.convert (m : Mat) (x : NumFmt) (r : Rounding) (cols : Nat) : Mat :=
  m.zipIdx.map (fun l => l.1.zipIdx.map (fun c => c.1.conv x (r.at (l.2 * cols + c.2)) r.sat))

/-- One block of cells quantised to an MX type: its scale and its elements (R160). -/
def cellsMx (x : NumFmt) (blk : List (Cell × Round)) : Cell × List Cell :=
  let q := mxQuantise x (blk.map (fun p => (f32 p.1.v, p.2)))
  let bad := blk.any (fun p => p.1.bad)
  let fl := rowFlags (blk.map (fun p => p.1)) ||| q.2.2
  (⟨q.1, bad, fl⟩, q.2.1.map (fun e => ⟨e, bad, fl⟩))

/-- A matrix of FP32 values as an operand whose K runs along its rows (Table 8-6). -/
def Mat.operand (m : Mat) (t : ElemType) (r : Rounding) (cols : Nat) : Opnd :=
  if t.mx then
    let q := m.zipIdx.map (fun l =>
      (blocks32 l.1).zipIdx.map (fun b => cellsMx t.fmt (b.1.zipIdx.map (fun c => (c.1, r.at (l.2 * cols + 32 * b.2 + c.2))))))
    ⟨t.fmt, true, q.map (fun l => l.flatMap (fun b => b.2)), q.map (fun l => l.map (fun b => b.1))⟩
  else ⟨t.fmt, false, m.convert t.fmt r cols, []⟩

/-! ## Weight matrices (R96 to R98, R195) -/

/-- A range of memory as the service has read it: its bytes, its poisoned 128-byte parts, and where in a part it begins. -/
structure Src where
  data : Bytes
  poison : List Nat
  off : Nat
  deriving DecidableEq, Repr

/-- Nothing. -/
def Src.none : Src := ⟨[], [], 0⟩

/-- Whether bytes [o, o + n) of a range touch a poisoned part. -/
def Src.spoiled (x : Src) (o n : Nat) : Bool :=
  x.poison.any (fun g => decide (128 * g < x.off + o + n) && decide (x.off + o < 128 * (g + 1)))

/-- The little-endian element of n bytes at an offset. -/
def Src.elem (x : Src) (o n : Nat) : Cell := ⟨fieldLe x.data o n, x.spoiled o n, 0⟩

/-- The element of w bits at a bit offset from a byte offset. -/
def Src.bits (x : Src) (o bit w : Nat) : Cell :=
  let b := o + bit / 8
  let n := (bit % 8 + w + 7) / 8
  ⟨fieldLe x.data b n / 2 ^ (bit % 8) % 2 ^ w, x.spoiled b n, 0⟩

/-- The tiling of a [rows × cols] weight matrix of a type: data tiles of a K-block row, tiles of a group, and all tiles
of a K-block row. -/
structure Tiling where
  fmt : NumFmt
  mx : Bool
  c : Nat
  data : Nat
  group : Nat
  rowTiles : Nat
  deriving DecidableEq, Repr

/-- The tiling of a matrix with some columns. -/
def tilingOf (t : ElemType) (cols : Nat) : Tiling :=
  let c := columnsOf t.fmt.tileWidth
  let d := ceilDiv cols c
  let g := if t.fmt = .e2m1 then 16 else 32
  ⟨t.fmt, t.mx, c, d, g, if t.mx then d + ceilDiv d g else d⟩

/-- The byte offset of data tile i of K-block row kb. -/
def Tiling.tileAt (t : Tiling) (kb i : Nat) : Nat := 4096 * (kb * t.rowTiles + i + (if t.mx then i / t.group else 0))

/-- The byte offset of the strip tile of the group of data tile i. -/
def Tiling.stripAt (t : Tiling) (kb i : Nat) : Nat :=
  let q := i / t.group
  4096 * (kb * t.rowTiles + q * (t.group + 1) + min t.group (t.data - q * t.group))

/-- Element (k, j) of a weight matrix. -/
def Tiling.elem (t : Tiling) (x : Src) (k j : Nat) : Cell :=
  let w := t.fmt.width
  let row := if t.fmt.tileWidth = 4 then 768 else 1024
  x.bits (t.tileAt (k / 32) (j / t.c)) (k % 32 * row + j % t.c * w) w

/-- The scale of K-block kb of column j. -/
def Tiling.scale (t : Tiling) (x : Src) (kb j : Nat) : Cell :=
  x.bits (t.stripAt kb (j / t.c) + j / t.c % t.group * t.c + j % t.c) 0 8

/-- The number of bytes of a matrix of some rows. -/
def Tiling.size (t : Tiling) (rows : Nat) : Nat := 4096 * t.rowTiles * (rows / 32)

/-- The B operand of a weight matrix with K along its rows: one line for each column. -/
def Tiling.byColumn (t : Tiling) (x : Src) (rows cols : Nat) : Opnd :=
  ⟨t.fmt, t.mx, Mat.ofFn cols rows (fun j k => t.elem x k j), if t.mx then Mat.ofFn cols (rows / 32) (fun j kb => t.scale x kb j) else []⟩

/-- The B operand of a transposed weight matrix, K along its columns: one line for each row (R166). -/
def Tiling.byRow (t : Tiling) (x : Src) (rows cols : Nat) : Opnd := ⟨t.fmt, false, Mat.ofFn rows cols (fun k j => t.elem x k j), []⟩

/-! ## The residency entry (Table 8-1) -/

def reState (e : Bytes) : Nat := fieldLe e 0x00 1
def reAct (e : Bytes) : Nat := fieldLe e 0x01 1
def reOpt (e : Bytes) : Nat := fieldLe e 0x02 1
def reFmt (e : Bytes) : Nat := fieldLe e 0x03 1
def reType (e : Bytes) : Nat := fieldLe e 0x04 1
def reHset (e : Bytes) : Nat := fieldLe e 0x05 1
def reMask (e : Bytes) : Nat := fieldLe e 0x06 2
def reRegion (e : Bytes) : Nat := fieldLe e 0x0C 2
def reModel (e : Bytes) : Nat := fieldLe e 0x10 4
def reFf (e : Bytes) : Nat := fieldLe e 0x14 4
def reGate (e : Bytes) : Nat := fieldLe e 0x18 8
def reUp (e : Bytes) : Nat := fieldLe e 0x20 8
def reDown (e : Bytes) : Nat := fieldLe e 0x28 8
def reBase (e : Bytes) : Nat := fieldLe e 0x30 4
def reStates (e : Bytes) : Nat := fieldLe e 0x38 8
def reGrad (e : Bytes) : Nat := fieldLe e 0x40 8

/-- The cores of a mask, ascending. -/
def coresOf (mask : Nat) : List Nat := (List.range 16).filter (fun n => mask.testBit n)

/-- Whether a mask is a group: 1, 2, 4, 8 or 16 consecutive cores, the lowest a multiple of their number (R191). -/
def groupOk (mask : Nat) : Bool :=
  [1, 2, 4, 8, 16].any (fun n => (List.range 16).any (fun l => l % n == 0 && decide (l + n ≤ 16) && mask == (2 ^ n - 1) * 2 ^ l))

/-- The weight type of an entry. -/
def reElem (e : Bytes) : ElemType := (elemOfCode (reType e)).getD ⟨.e4m3, false⟩

/-- The operand type of activations, and of gradients (Table 8-6). -/
def actType (e : Bytes) : ElemType :=
  let t := reElem e
  if t.mx then ⟨.e4m3, true⟩ else if t.fmt = .bf16 then ⟨.bf16, false⟩ else ⟨.e4m3, false⟩
def gradType (e : Bytes) : ElemType := if (reElem e).fmt = .bf16 then ⟨.bf16, false⟩ else ⟨.e5m2, false⟩

/-- The columns of D_FF that one core of a group owns (R203). -/
def sliceOf (e : Bytes) : Nat := reFf e / (coresOf (reMask e)).length

/-- Whether column f of D_FF belongs to a core whose share is lost. -/
def lostColumn (e : Bytes) (lost : List Nat) (f : Nat) : Bool :=
  match (coresOf (reMask e))[f / sliceOf e]? with
  | some n => lost.contains n
  | none => false

/-- The three weight matrices of an entry, read. -/
structure Weights where
  gate : Src
  up : Src
  down : Src
  deriving DecidableEq, Repr

/-- The tilings of an entry's [D_MODEL × D_FF] and [D_FF × D_MODEL] matrices. -/
def wideTiling (e : Bytes) : Tiling := tilingOf (reElem e) (reFf e)
def tallTiling (e : Bytes) : Tiling := tilingOf (reElem e) (reModel e)

/-! ## Forward (R203) -/

/-- An activation buffer of t rows as FP32 values, with a row of zeros when t is padded (R199, R203). -/
def activations (x : Src) (fmt : NumFmt) (t cols : Nat) : Mat :=
  let n := fmt.width / 8
  Mat.ofFn t cols (fun i j => (x.elem ((i * cols + j) * n) n).widen fmt) ++
    (if t % 128 = 0 then [] else [List.replicate cols cell0])

/-- G and U of every core (steps 2): K-blocks ascending, a lost share marked. -/
def gateUp (e : Bytes) (w : Weights) (lost : List Nat) (x : Opnd) : Mat × Mat :=
  let t := wideTiling e
  let g := x.mul (t.byColumn w.gate (reModel e) (reFf e)) (fun _ _ => cell0)
  let u := x.mul (t.byColumn w.up (reModel e) (reFf e)) (fun _ _ => cell0)
  (g.spoil (lostColumn e lost), u.spoil (lostColumn e lost))

/-- The sum of the cores' partial results, in ascending core order. -/
def sumParts (ps : List Mat) : Mat :=
  match ps with
  | [] => []
  | p :: t => t.foldl (Mat.map2 cadd) p

/-- What a forward pass forms: X′, G, U and Y in FP32. -/
structure FwdOut where
  x : Opnd
  g : Mat
  u : Mat
  y : Mat
  deriving DecidableEq, Repr

/-- The forward pass. -/
def forward (e : Bytes) (w : Weights) (lost : List Nat) (r : Rounding) (x : Mat) : FwdOut :=
  let xo := x.operand (actType e) (r.tensor 0) (reModel e)
  let gu := gateUp e w lost xo
  let h := Mat.map2 (fun g u => cmul (csilu g) u) gu.1 gu.2
  let ho := h.operand (actType e) (r.tensor 1) (reFf e)
  let d := (tallTiling e).byColumn w.down (reFf e) (reModel e)
  let n := sliceOf e
  let ps := (List.range (coresOf (reMask e)).length).map (fun c => (ho.part (c * n) n).mul (d.part (c * n) n) (fun _ _ => cell0))
  ⟨xo, gu.1, gu.2, sumParts ps⟩

/-! ## Backward (R205) -/

/-- The gradient accumulator of an entry, by matrix. -/
structure Grads where
  gate : Mat
  up : Mat
  down : Mat
  deriving DecidableEq, Repr

/-- What a backward pass forms: dX in FP32, and the new accumulator when OPT is not 0. -/
structure BwdOut where
  dx : Mat
  grads : Option Grads
  flags : Nat
  deriving DecidableEq, Repr

/-- The elementwise values of step 4 and H: dU, dG and H. -/
def bwdCell (g u dh : Cell) : Cell × Cell × Cell :=
  let s := crcp (cadd cell1 (cexp (cneg g)))
  let a := csilu g
  (cmul dh a, cmul (cmul (cmul dh u) s) (cfma g (csub cell1 s) cell1), cmul a u)

/-- An operand whose K is the tokens: the columns of t rows, padded to a multiple of 32. -/
def byToken (fmt : NumFmt) (m : Mat) (t cols : Nat) : Opnd :=
  ⟨fmt, false, (Mat.columns (m.take t) cols).map pad32, []⟩

/-- The backward pass: dY and X′ of t rows, G and U, and the accumulator to add to. -/
def backward (e : Bytes) (w : Weights) (lost : List Nat) (r : Rounding) (t : Nat) (dy xp g u : Mat) (acc : Grads) : BwdOut :=
  let dm := reModel e
  let ff := reFf e
  let gt := gradType e
  let n := sliceOf e
  let dyo := dy.operand gt (r.tensor 0) dm
  let dh := (dyo.mul ((tallTiling e).byRow w.down ff dm) (fun _ _ => cell0)).spoil (lostColumn e lost)
  let el (i j : Nat) : Cell × Cell × Cell := bwdCell (g.at i j) (u.at i j) (dh.at i j)
  let rows := dy.length
  let dg := Mat.ofFn rows ff (fun i j => (el i j).2.1)
  let du := Mat.ofFn rows ff (fun i j => (el i j).1)
  let dgo := dg.operand gt (r.tensor 1) ff
  let duo := du.operand gt (r.tensor 2) ff
  let wg := (wideTiling e).byRow w.gate dm ff
  let wu := (wideTiling e).byRow w.up dm ff
  let ps := (List.range (coresOf (reMask e)).length).map (fun c =>
    let first := (dgo.part (c * n) n).mul (wg.part (c * n) n) (fun _ _ => cell0)
    (duo.part (c * n) n).mul (wu.part (c * n) n) (fun i j => first.at i j))
  let dx := sumParts ps
  if reOpt e = 0 then ⟨dx, none, dx.flags⟩
  else
    let at_ := actType e
    let ho := (Mat.ofFn rows ff (fun i j => (el i j).2.2)).operand at_ (r.tensor 4) ff
    let xk := byToken at_.fmt xp t dm
    let hk := byToken at_.fmt ho.lines t ff
    let gk := byToken gt.fmt dgo.lines t ff
    let uk := byToken gt.fmt duo.lines t ff
    let yk := byToken gt.fmt dyo.lines t dm
    let out : Grads := ⟨xk.mul gk acc.gate.at, xk.mul uk acc.up.at, hk.mul yk acc.down.at⟩
    ⟨dx, some out, dx.flags ||| out.gate.flags ||| out.up.flags ||| out.down.flags⟩

/-! ## The optimisers (R210) -/

/-- The scalars of an entry's step: the hyperparameters of its set and t. -/
structure Hyper where
  lr : Cell
  beta1 : Cell
  beta2 : Cell
  eps : Cell
  wd : Cell
  scale : Cell
  clip : Cell
  eps1 : Cell
  nesterov : Bool
  t : Nat
  deriving DecidableEq, Repr

/-- The hyperparameter set of a number (Table 8-5). -/
def hyperOf (x : Src) (set t : Nat) : Hyper :=
  let w (i : Nat) : Cell := x.elem (64 * set + 4 * i) 4
  ⟨w 0, w 1, w 2, w 3, w 4, w 5, w 6, w 7, (w 8).v != 0, t⟩

/-- 1 − β. -/
def Hyper.c1 (h : Hyper) : Cell := csub cell1 h.beta1
def Hyper.c2 (h : Hyper) : Cell := csub cell1 h.beta2

/-- βᵗ by squaring from the least significant bit. -/
def powCell (b : Cell) (t : Nat) : Cell :=
  ((List.range (bitLen t)).foldl (fun (st : Cell × Cell) i => (if t.testBit i then cmul st.1 st.2 else st.1, cmul st.2 st.2)) (cell1, b)).1

/-- RCP(1 − βᵗ). -/
def Hyper.r1 (h : Hyper) : Cell := crcp (csub cell1 (powCell h.beta1 h.t))
def Hyper.r2 (h : Hyper) : Cell := crcp (csub cell1 (powCell h.beta2 h.t))

/-- One element's state. -/
structure Elem where
  master : Cell
  m : Cell
  v : Cell
  deriving DecidableEq, Repr

/-- fma(−LR, fma(WD, master, u), master). -/
def Hyper.apply (h : Hyper) (master u : Cell) : Cell := cfma (cneg h.lr) (cfma h.wd master u) master

/-- AdamW. -/
def adamw (h : Hyper) (x : Elem) (g : Cell) : Elem :=
  let m := cfma h.beta1 x.m (cmul h.c1 g)
  let v := cfma h.beta2 x.v (cmul (cmul h.c2 g) g)
  let mh := cmul m h.r1
  let vh := cmul v h.r2
  let q := if (f32 vh.v).isZero then { vh with v := 0 } else cmul vh (crsq vh)
  let u := cmul mh (crcp (cadd q h.eps))
  ⟨h.apply x.master u, m, v⟩

/-- sign; what it gives for NaN is not stated. -/
def csign (nan : Nat) (a : Cell) : Cell :=
  match f32 a.v with
  | .nan => { a with v := nan }
  | x => { a with v := if x.isZero then 0 else if x.negative then 0xBF800000 else f32One }

/-- Lion. -/
def lion (nan : Nat) (h : Hyper) (x : Elem) (g : Cell) : Elem :=
  let d := csign nan (cfma h.beta1 x.m (cmul h.c1 g))
  ⟨h.apply x.master d, cfma h.beta2 x.m (cmul h.c2 g), x.v⟩

/-- SGD with momentum. -/
def sgd (h : Hyper) (x : Elem) (g : Cell) : Elem :=
  let k := cfma h.wd x.master g
  let m := cfma h.beta1 x.m k
  let d := if h.nesterov then cfma h.beta1 m k else m
  ⟨cfma (cneg h.lr) d x.master, m, x.v⟩

/-- An exact sum of FP32 values, read under RNE (R162, R163). -/
def exactSum (l : List Cell) : Cell :=
  let r := (l.foldl (fun (a : ExactAcc) c => a.add (f32 c.v)) {}).read .fp32 .rne false
  ⟨r.1, l.any Cell.bad, rowFlags l ||| r.2.1⟩

/-- An integer as FP32 under RNE. -/
def cellInt (n : Nat) : Cell := cellOf (toF32 (.ofInt n))

/-- Adafactor's row and column vectors of a matrix. -/
structure Factors where
  vr : List Cell
  vc : List Cell
  deriving DecidableEq, Repr

/-- Adafactor on one matrix of k rows by n columns: the new factors, and master and m by rows. -/
def adafactor (h : Hyper) (k n : Nat) (f : Factors) (master m g : Mat) : Factors × Mat × Mat :=
  let w := g.map1 (fun x => cfma x x h.eps1)
  let vr := List.zipWith (fun (v : Cell) r => cfma h.beta2 v (cmul h.c2 (cmul (exactSum r) (crcp (cellInt n))))) f.vr w
  let vc := List.zipWith (fun (v : Cell) c => cfma h.beta2 v (cmul h.c2 (cmul (exactSum c) (crcp (cellInt k))))) f.vc (w.columns n)
  let kappa := crcp (cmul (exactSum vr) (crcp (cellInt k)))
  let u := Mat.ofFn k n (fun i j => cmul (g.at i j) (crsq (cmul (cmul (vr.getD i cell0) kappa) (vc.getD j cell0))))
  let q := cmul (exactSum (u.flatMap (fun r => r.map (fun x => cmul x x)))) (crcp (cellInt (k * n)))
  let rho := cmul q (crsq q)
  let z := crcp (cmax cell1 (cmul rho (crcp h.clip)))
  let u := u.map1 (fun x => cmul x z)
  if (f32 h.beta1.v).isZero then (⟨vr, vc⟩, Mat.map2 h.apply master u, m)
  else
    let m := Mat.map2 (fun a x => cfma h.beta1 a (cmul h.c1 x)) m u
    (⟨vr, vc⟩, Mat.map2 h.apply master m, m)

end Sys2Proof.Machine
end

