-- ==== Sys2Proof/Machine/Compute.lean ====
section
/-! DEFINITION. What a kernel computes on its core: its operand tiles and the operand expanders (R104, R113 to R118, R135,
R137, R145), the engine's accumulators (R144), the exact accumulators (R161 to R163) and the steps of its code on the vector
unit (R155 to R160, R164 to R166), with the poison and the flags that they carry (R167, R377). -/

namespace Sys2Proof.Machine

/-! ## Reading memory -/

/-- Reads under way: the state, what must be waited for, and the first poisoned address. -/
structure Loads where
  st : State
  wait : Option AnyRead
  first : Option PA
  deriving DecidableEq, Repr

/-- An access of a core's kernel outside the stores breaks the promise of a CYCLE_EXACT kernel (R349). -/
def State.leftStores (s : State) (core : Nat) (a : PA) : State := if spaceOf a = 4 then s else s.cxBreak core 3

/-- Reads a range of PLAIN memory or of a PACKED logical range, for a core; where nothing is mapped every part is poisoned. -/
def Loads.get (l : Loads) (a n : Nat) (k : Consumer) : Loads × Src :=
  let p : PA := BitVec.ofNat 56 a
  let l : Loads := { l with st := l.st.leftStores k.unit p }
  if l.st.memMapped p n && spaceOf p != 3 && decide (a < 2 ^ 56) then
    let r := l.st.readAny p n k {} none
    (⟨r.1, if r.2.ready then l.wait else l.wait.or (some r.2), l.first.or r.2.first⟩, ⟨r.2.data, r.2.poison, a % 128⟩)
  else ({ l with first := l.first.or (some p) }, ⟨List.replicate n 0, List.range (ceilDiv (a % 128 + n) 128), a % 128⟩)

/-- The first n elements of a format in a range. -/
def Src.values (x : Src) (fmt : NumFmt) (n : Nat) : List Cell := (List.range n).map (fun i => x.bits 0 (i * fmt.width) fmt.width)

/-- The state after reads: the repairs that they wait for start. -/
def Loads.settle (l : Loads) (tag : Tag) : State := match l.wait with | some q => l.st.readWaits q tag 6 | none => l.st

/-! ## Base maps (R117, R118) -/

/-- The pool address of an offset in a core's store. -/
def coreStore (n off : Nat) : Nat := 2 ^ 54 + 0x2000000 * n + off

def bmRef (e : Nat) : Nat := bitsOf e 30 0
def bmValid (e : Nat) : Bool := e.testBit 31
def bmSlot (e : Nat) : Nat := bitsOf e 44 32

/-- What a base map says of a BASE_REF: the 4 KiB slot of the store, that it is not there, or nothing, because an entry before it
is poisoned. -/
inductive MapRes where
  | slot (i : Nat)
  | absent
  | spoiled
  deriving DecidableEq, Repr

/-- Looks a BASE_REF up from an offset of a core's store on, over at most a number of entries. An entry that is not VALID, or
that would lie past the end of the store, ends the map. -/
def Loads.lookup (l : Loads) (n ref : Nat) (k : Consumer) (off : Nat) : Nat → Loads × MapRes
  | 0 => (l, .absent)
  | c + 1 =>
    if 0x2000000 < off + 8 then (l, .absent)
    else
      let x := l.get (coreStore n off) 8 k
      let e := fieldLe x.2.data 0 8
      if !x.2.poison.isEmpty || x.1.wait.isSome then (x.1, .spoiled)
      else if !bmValid e then (x.1, .absent)
      else if bmRef e = ref then (x.1, .slot (bmSlot e))
      else Loads.lookup x.1 n ref k (off + 8) c

/-! ## Operand tiles (R135, R137, R145) -/

/-- A tile all of whose grains are poisoned. -/
def spoiledTile : Src := ⟨List.replicate 4096 0, allPoison, 0⟩

/-- A tile whose decode fails for a kernel: one record, with the tile's logical address, and every grain poisoned (R114). -/
def Loads.tileFails (l : Loads) (n : Nat) (k : Consumer) (a : PA) (code flags : Nat) : Loads × Src :=
  ({ l with st := l.st.ledger (coreEvent code n k.tag 6 a.toNat flags), first := l.first.or (some a) }, spoiledTile)

/-- A stored tile whose CHECK failed twice is uncorrectable where it lies (R104, R369): grains of a store are fetched again
where a source record says from where, as after a parity error, and are poisoned where none does (R365, R366; DEDUCED). -/
def State.spoilStored (s : State) (a : PA) (grains : Nat) (k : Consumer) : State :=
  s.forEach (List.range grains) (fun s i =>
    let p : PA := BitVec.ofNat 56 (a.toNat + 128 * i)
    if spaceOf p = 4 then
      let g := offsetOf p / 128
      if (s.srcRec (g / 32)).isSome then { s with storeParity := Sparse.put clearBit s.storeParity (128 * g) true }
      else s.setStorePoison g true
    else s.startRepairFor p k.tag k.op true false)

/-- The header's own copies of what a directory entry holds. A tile that a kernel takes from a store may outlive its directory
entry, so its header stands for that (R135; DEDUCED: R104 compares with the directory where the tile is read from its
region). -/
def ownEntry (st : Bytes) : DirEntry :=
  let h := parseHeader st
  { check := h.check, state := 1, codec := h.codec, width := h.width, grains := h.grains, slot := h.slot, gen := h.gen, loc := 0 }

/-- The base of a DELTA tile through the kernel's base map (R117, R118): a base that is not in it is bad (R113); a poisoned one
poisons the tile without a record. -/
def Loads.delta (l : Loads) (n : Nat) (d : Bytes) (k : Consumer) (a : PA) (h : TileHeader) (res : Bytes) : Loads × Src :=
  let m := if kdBaseMap d = 0xFFFF then (l, MapRes.absent) else l.lookup n h.baseRef k (4096 * kdBaseMap d) 1024
  match m.2 with
  | .absent => m.1.tileFails n k a 0x0501 0
  | .spoiled => (m.1, spoiledTile)
  | .slot i =>
    let b := m.1.get (coreStore n (4096 * i)) 4096 k
    if b.2.poison.isEmpty then (b.1, ⟨deltaInverse h.width res b.2.data, [], 0⟩) else (b.1, spoiledTile)

/-- The stored form of a tile whose CHECK has been compared, through the operand expanders. -/
def Loads.formed (l : Loads) (n : Nat) (d : Bytes) (k : Consumer) (a : PA) (e : DirEntry) (st : Bytes) : Loads × Src :=
  match l.st.decodeForm e st with
  | .plain bs => (l, ⟨bs, [], 0⟩)
  | .fail code => l.tileFails n k a code 0
  | .wait i => ({ l with wait := l.wait.or (some { AnyRead.empty with slot := some i }) }, spoiledTile)
  | .delta h res => l.delta n d k a h res

/-- One operand tile in PLAIN form: a PLAIN one as it lies, a stored one through the operand expanders (R137). A poisoned grain of
a stored tile poisons the whole tile without a CHECK (R375). -/
def Loads.tile (l : Loads) (n : Nat) (d : Bytes) (t : TileAt) : Loads × Src :=
  let k := coreConsumer n (kdTag d)
  match t.stored with
  | none => l.get t.at_.toNat 4096 k
  | some a =>
    let h := l.get t.at_.toNat 128 k
    let e := ownEntry h.2.data
    let x := h.1.get t.at_.toNat (128 * max 1 e.grains) k
    let st := x.2.data
    if x.1.wait.isSome || !x.2.poison.isEmpty then (x.1, spoiledTile)
    else
      let s := x.1.st
      let l := { x.1 with st := if Config.tileGlitch s.free then s.bump.glitchAt t.at_ k else s.bump }
      if !checkOk st e then
        let bad := (List.range e.grains).any (fun g => s.injectedAt (BitVec.ofNat 56 (t.at_.toNat + 128 * g)) != 0)
        let r := l.tileFails n k a 0x0503 (if bad then flagInjected else 0)
        ({ r.1 with st := r.1.st.spoilStored t.at_ e.grains k }, r.2)
      else
        l.formed n d k a e st

/-- A tile of a weight matrix of the expert service, in PLAIN memory or in its PACKED region: the base of a DELTA tile comes
through the kernel's base map (R195, R197). -/
def Loads.weightTile (l : Loads) (n : Nat) (d : Bytes) (a : Nat) : Loads × Src :=
  let p : PA := BitVec.ofNat 56 a
  let k := coreConsumer n (kdTag d)
  match l.st.packedAt (spaceOf p) (pageOf p) with
  | none => l.get a 4096 k
  | some r =>
    let x := tileAt r p
    match l.st.readDir x k with
    | (s, .entry e) =>
      if e.state = 1 ∧ e.codec = 1 then
        let q := (s.firstRead x e k).readStored x e k
        match q.2.repair, q.2.poison with
        | some g, _ => ({ l with st := q.1, wait := l.wait.or (some { AnyRead.empty with repair := some g }) }, spoiledTile)
        | none, f :: _ => ({ l with st := q.1, first := l.first.or (some f) }, spoiledTile)
        | none, [] =>
          if checkOk q.2.data e then { l with st := q.1 }.formed n d k p e q.2.data
          else
            ({ l with st := (q.1.ledger (q.1.checkEvent x e k)).repairTile x e.loc e.grains k, first := l.first.or (some p) }, spoiledTile)
      else l.get a 4096 k
    | _ => l.get a 4096 k

/-- The tiles of a matrix of the expert service, as one range. -/
def Loads.matrix (l : Loads) (n : Nat) (d : Bytes) (a size : Nat) : Loads × Src :=
  (List.range (size / 4096)).foldl (fun (st : Loads × Src) i =>
    let x := st.1.weightTile n d (a + 4096 * i)
    (x.1, ⟨st.2.data ++ x.2.data, st.2.poison ++ x.2.poison.map (fun g => g + 32 * i), 0⟩)) (l, Src.none)

/-- The operand side of a K-block: its K-rows in operand-port form, its scale bytes, and which of its lines depend on poison. -/
structure BlockSide where
  rows : List Bytes
  scales : Bytes
  bad : List Bool
  deriving DecidableEq, Repr

/-- The 32 rows of a tile's elements. -/
def tileRows (fmt : NumFmt) (x : Src) : List (List Cell) :=
  let c := columnsOf fmt.tileWidth
  (List.range 32).map (fun k => (List.range c).map (fun j => x.bits 0 ((k * c + j) * fmt.width) fmt.width))

/-- The scale bytes of tile i of a group from the group's strip tile (R98). -/
def stripScales (c i : Nat) (x : Src) : List Cell := (List.range c).map (fun j => x.elem (i * c + j) 1)

/-- Reads one side of a K-block, of at most a number of lines (R145): the tiles' columns in order, from the middle on for the
upper half of a 4-bit tile. -/
def Loads.side (l : Loads) (n : Nat) (d : Bytes) (t : ElemType) (o : OperandAt) (lines : Nat) : Loads × BlockSide :=
  let c := columnsOf t.fmt.tileWidth
  let ts := o.tiles.foldl (fun (st : Loads × List Src) q => let x := st.1.tile n d q; (x.1, st.2 ++ [x.2])) (l, [])
  let ss := (if t.mx then o.strips else []).foldl (fun (st : Loads × List Cell) q =>
    let x := st.1.tile n d q.1
    (x.1, st.2 ++ stripScales c q.2 x.2)) (ts.1, [])
  let cut {α : Type} (r : List α) : List α := (r.drop (if o.half then 128 else 0)).take lines
  let rows := (List.range 32).map (fun k => cut (ts.2.flatMap (fun x => (tileRows t.fmt x).getD k [])))
  let scales := cut ss.2
  let bad := (List.range ((rows.headD []).length)).map (fun j =>
    rows.any (fun r => (r.getD j cell0).bad) || (t.mx && (scales.getD j cell0).bad))
  (ss.1, ⟨rows.map (fun r => bytesOfElems t.fmt.tileWidth (r.map Cell.v)), scales.map (fun x => BitVec.ofNat 8 x.v), bad⟩)

/-! ## The engine's accumulators (R144) -/

/-- No accumulator written, where unlisted. -/
def accZero : Nat → W32 := fun _ => 0

/-- Key of an accumulator. -/
def accKey (core m n : Nat) : Nat := 65536 * core + 512 * m + n

/-- An accumulator of a core's engine. -/
def State.acc (s : State) (core m n : Nat) : W32 := Sparse.get accZero s.accs (accKey core m n)

/-- Sets an accumulator. -/
def State.setAcc (s : State) (core m n : Nat) (v : W32) : State := { s with accs := Sparse.put accZero s.accs (accKey core m n) v }

/-- Whether an accumulator depends on poison. -/
def State.accBad (s : State) (core m n : Nat) : Bool := Sparse.get clearBit (s.core core).accBad (512 * m + n)

/-- An accumulator depends on poison from now on. -/
def State.spoilAcc (s : State) (core m n : Nat) : State :=
  let c := s.core core
  s.setCore core { c with accBad := Sparse.put clearBit c.accBad (512 * m + n) true }

/-- The accumulators of a core are zero. -/
def State.clearAccs (s : State) (core : Nat) : State :=
  let s := { s with accs := Sparse.clear (65536 * core) (65536 * (core + 1)) s.accs }
  s.setCore core { s.core core with accBad := [] }

/-- The accumulators at the start of a pass: zero, or, for a kernel with ACC_LOAD, what its code loads into them: runs of cells
from a first cell, with the address and the number of their values. The device gives the code of a kernel no other form (DESIGN
CHOICE: the spec gives a loaded tile no layout). -/
def Loads.accs (l : Loads) (core : Nat) (d : Bytes) (init : List (Nat × PA × Nat)) : Loads :=
  let l := { l with st := l.st.clearAccs core }
  if !kdAccLoad d then l
  else init.foldl (fun l q =>
    let x := l.get q.2.1.toNat (4 * q.2.2) (coreConsumer core (kdTag d))
    let s := x.1.st.forEach (x.2.values .fp32 q.2.2).zipIdx (fun s v =>
      let i := q.1 + v.2
      let s := s.setAcc core (i / 512) (i % 512) (BitVec.ofNat 32 v.1.v)
      if v.1.bad then s.spoilAcc core (i / 512) (i % 512) else s)
    { x.1 with st := s }) l

/-- The format of a kernel's accumulators: INT32 for INT8 operands, FP32 otherwise (Table 6-3). -/
def accFmt (d : Bytes) : NumFmt := if (elemOfCode (kdInA d)).map ElemType.fmt = some .int8 then .int32 else .fp32

/-! ## Values of a kernel's code -/

/-- A value of a kernel's code: elements of one format. -/
structure KVal where
  fmt : NumFmt
  cells : List Cell
  deriving DecidableEq, Repr

/-- The elements as the vector unit takes them: narrower ones converted to FP32, exactly (R164); an INT32 stays as it is in its
register. -/
def KVal.lanes (x : KVal) : List Cell := if x.fmt = .fp32 ∨ x.fmt = .int32 then x.cells else x.cells.map (Cell.widen x.fmt)

/-- The running of a kernel's code: the state, whether something must be waited for, the first poisoned address consumed, the
values formed, the flags, and whether an output is poisoned. -/
structure KEnv where
  st : State
  wait : Bool
  first : Option PA
  vals : List KVal
  flags : Nat
  bad : Bool
  deriving DecidableEq, Repr

/-- A value by number. -/
def KEnv.val (e : KEnv) (x : Nat) : KVal := e.vals.getD x ⟨.fp32, []⟩

/-- A value is formed; its flags are the kernel's. -/
def KEnv.push (e : KEnv) (fmt : NumFmt) (cs : List Cell) : KEnv := { e with vals := e.vals ++ [⟨fmt, cs⟩], flags := e.flags ||| rowFlags cs }

/-- A value is read. -/
def KEnv.took (e : KEnv) (l : Loads) (tag : Tag) (fmt : NumFmt) (cs : List Cell) : KEnv :=
  { e with st := l.settle tag, wait := e.wait || l.wait.isSome, first := l.first }.push fmt cs

/-- The operations of the vector unit. -/
def VOp1.run : VOp1 → Nat → Nat
  | .neg => fneg | .abs => fabs | .rcp => frcp | .rsq => frsq | .exp => fexp | .silu => fsilu | .gelu => fgelu
def VOp2.run : VOp2 → Nat → Nat → Nat
  | .add => fadd | .sub => fsub | .mul => fmul | .min => fmin | .max => fmax

/-- Select by a comparison (R164). -/
def cellSelect (c : Cmp) (x y t f : Cell) : Cell :=
  ⟨fselect (fcmp c x.v y.v) t.v f.v, x.bad || y.bad || t.bad || f.bad, flagIf ([x, y, t, f].any (fun q => nanF32 q.v)) flNanIn⟩

/-- A conversion of an exact value, carrying a cell's poison (R155, R156). -/
def Cell.convFrom (from_ dst : NumFmt) (m : Round) (sat : Bool) (a : Cell) : Cell :=
  let r := convert dst m sat (from_.value a.v)
  ⟨r.1, a.bad, r.2⟩

/-- MX quantisation of 32 rows of values (R160): the elements in order, and the scales. -/
def quantised (dst : NumFmt) (rnd : Nat → Round) (cols : Nat) (cs : List Cell) : List Cell × List Cell :=
  let w := cs.length / 32
  let q := (List.range w).map (fun j => cellsMx dst ((List.range 32).map (fun i => (cs.getD (i * w + j) cell0, rnd (i * cols + j)))))
  ((List.range 32).flatMap (fun i => q.map (fun b => b.2.getD i cell0)), q.map (fun b => b.1))

/-- INF_OUT of elements that are written. -/
def infOut (fmt : NumFmt) (cs : List Cell) : Nat := flagIf (cs.any (fun c => (fmt.value c.v).isInf)) flInfOut

/-- The 128-byte parts that elements of w bits depending on poison touch, from an address. -/
def badParts (a w : Nat) (cs : List Cell) : List Nat :=
  (cs.zipIdx.filter (fun c => c.1.bad)).foldl (fun l c =>
    let b := 8 * (a % 128) + c.2 * w
    insertNat (b / 1024) (insertNat ((b + w - 1) / 1024) l)) []

/-- Elements are written as an output. -/
def KEnv.put (e : KEnv) (a : PA) (fmt : NumFmt) (cs : List Cell) (k : Consumer) : KEnv :=
  let r := (e.st.leftStores k.unit a).writeWork a (bytesOfElems fmt.tileWidth (cs.map Cell.v)) (badParts a.toNat fmt.width cs) k
  { e with st := r.1, wait := e.wait || r.2.wait, bad := e.bad || cs.any Cell.bad, flags := e.flags ||| infOut fmt cs }

/-! ## Exact accumulators (R161 to R163) -/

/-- Whether an exact accumulator depends on poison. -/
def State.exactBad (s : State) (n l : Nat) : Bool := Sparse.get clearBit (s.core n).exactBad l

/-- Sets an exact accumulator and whether it depends on poison. -/
def State.putExact (s : State) (n l : Nat) (a : ExactAcc) (bad : Bool) : State :=
  let c := s.core n
  (s.setCore n { c with exactBad := Sparse.put clearBit c.exactBad l bad }).setExact n l a

/-- READ of one exact accumulator: its element, and the ACC_TERMS record of one with OVF (R163). -/
def State.readExact (s : State) (n l : Nat) (tag : Tag) (fmt : NumFmt) (m : Round) (sat : Bool) : State × Cell :=
  let r := (s.exact n l).read fmt m sat
  (if r.2.2 then s.ledger (coreEvent 0x0611 n tag 6 0 0) else s, ⟨r.1, s.exactBad n l, r.2.1⟩)

/-! ## The steps -/

/-- One step of the code of core n's kernel. A code that waits goes no further. -/
def KEnv.step (n : Nat) (r : Running) (e : KEnv) (p : KStep) : KEnv :=
  let d := r.desc
  let k := coreConsumer n (kdTag d)
  let l : Loads := ⟨e.st, none, e.first⟩
  let rnd (i : Nat) : Round := roundOf (kdMode d) (r.draw.bits i)
  if e.wait then e
  else
    match p with
    | .read a fmt c => let x := l.get a.toNat (ceilDiv (c * fmt.width) 8) k; e.took x.1 k.tag fmt (x.2.values fmt c)
    | .tile t fmt => let x := l.tile n d t; e.took x.1 k.tag fmt (tileRows fmt x.2).flatten
    | .accs row col c =>
      e.push (accFmt d) ((List.range c).map (fun i =>
        let q := 512 * row + col + i
        ⟨(e.st.acc n (q / 512) (q % 512)).toNat, e.st.accBad n (q / 512) (q % 512), 0⟩))
    | .const fmt vs => e.push fmt (vs.map (fun v => ⟨v % 2 ^ fmt.width, false, 0⟩))
    | .pick x places => e.push (e.val x).fmt (places.map (fun i => (e.val x).cells.getD i cell0))
    | .join x y => e.push (e.val x).fmt ((e.val x).cells ++ (e.val y).cells)
    | .op1 o x => e.push .fp32 ((e.val x).lanes.map (Cell.op1 o.run))
    | .op2 o x y => e.push .fp32 (List.zipWith (Cell.op2 o.run) (e.val x).lanes (e.val y).lanes)
    | .fma x y z => e.push .fp32 (List.zipWith (fun q c => cfma q.1 q.2 c) ((e.val x).lanes.zip (e.val y).lanes) (e.val z).lanes)
    | .select c x y t f =>
      e.push (e.val t).fmt (List.zipWith (fun q v => cellSelect c q.1 q.2 v.1 v.2)
        ((e.val x).lanes.zip (e.val y).lanes) ((e.val t).cells.zip (e.val f).cells))
    | .convert x dst first cols w =>
      e.push dst ((e.val x).cells.zipIdx.map (fun q =>
        q.1.convFrom (e.val x).fmt dst (rnd (first + q.2 / w * cols + q.2 % w)) (kdSat d)))
    | .quantise x dst first cols =>
      let q := quantised dst (fun i => rnd (first + i)) cols (e.val x).lanes
      (e.push dst q.1).push .int8 q.2
    | .transpose x => e.push (e.val x).fmt (transposeTile (columnsOf (e.val x).fmt.tileWidth) cell0 (e.val x).cells)
    | .clear a c => { e with st := e.st.forEach (List.range c) (fun s i => s.putExact n ((a.val + i) % 512) {} false) }
    | .add a x =>
      let v := e.val x
      let s := e.st.forEach v.cells.zipIdx (fun s q =>
        let i := (a.val + q.2) % 512
        s.putExact n i ((s.exact n i).add (v.fmt.value q.1.v)) (s.exactBad n i || q.1.bad))
      { e with st := s, flags := e.flags ||| flagIf (v.cells.any (fun q => (v.fmt.value q.v).isNan)) flNanIn }
    | .merge a b =>
      { e with st := e.st.putExact n a ((e.st.exact n a).merge (e.st.exact n b)) (e.st.exactBad n a || e.st.exactBad n b) }
    | .readout a c dst first =>
      let q := (List.range c).foldl (fun (st : State × List Cell) i =>
        let x := st.1.readExact n ((a.val + i) % 512) k.tag dst (rnd (first + i)) (kdSat d)
        (x.1, st.2 ++ [x.2])) (e.st, [])
      { e with st := q.1 }.push dst q.2
    | .write a x => e.put a (e.val x).fmt (e.val x).cells k
    | .strip a i c x => e.put (BitVec.ofNat 56 (a.toNat + i * c)) .int8 (e.val x).cells k

/-- Runs a kernel's code. -/
def State.runCode (s : State) (n : Nat) (r : Running) (code : List KStep) : KEnv :=
  code.foldl (KEnv.step n r) ⟨s, false, none, [], 0, false⟩

/-- The first poison that a kernel consumes is reported once (R377). -/
def State.kernelPoison (s : State) (n : Nat) (r : Running) (first : Option PA) : State × Running :=
  match first with
  | some a =>
    if r.consumed then (s, r) else (s.poisonConsumed (coreEvent 0 n (kdTag r.desc) 6 a.toNat 0), { r with consumed := true })
  | none => (s, r)

/-- The running kernel of a core after a part of its work. -/
def State.setRunning (s : State) (n : Nat) (r : Running) : State := s.setCore n { s.core n with running := some r }

/-- The code that follows an engine pass has run: its flags and its poison are the kernel's. -/
def State.codeEnds (s0 : State) (n : Nat) (r : Running) (e : KEnv) : State :=
  if e.wait then s0.retry e.st
  else
    let p := e.st.kernelPoison n r e.first
    p.1.setRunning n { p.2 with flags := r.flags ||| e.flags, badOut := r.badOut || e.bad }

/-- Step 1 of R179 for a kernel that runs to its end: its code's outputs become visible and its ending is known; none when
something must be repaired first. -/
def State.kernelOutputs (s0 : State) (n : Nat) (r : Running) (k : KernelRun) : State × Option KernelFin :=
  let tag := kdTag r.desc
  let e := s0.runCode n r k.code
  let s := (e.st.kernelPoison n r e.first).1
  let s := if k.time.leftStores then s.cxBreak n 3 else s
  let s := s.cxCounts n r k.time.cycles k.time.waitCycles
  let ck := s.dataCheck n tag k.dataAddr k.dataLen
  if e.wait || !ck.2.1.ready then (s0.retry (ck.1.readWaits ck.2.1 tag 6), none)
  else (ck.1, some ⟨if r.badOut || e.bad then 2 else 1, 0, (r.flags ||| e.flags) % 65536, k.dataAddr, k.dataLen, ck.2.2⟩)

end Sys2Proof.Machine
end

