-- ==== Sys2Proof/Machine/PoolOps.lean ====
section
/-! DEFINITION. Pool operations, version operations, extents and limiters (chapter 13). An operation is accepted at the
door or from the host driver, starts with the command of its kind, and ends with POOL_OP_END. -/

namespace Sys2Proof.Machine

/-! ## Descriptors (Table 13-2) -/

/-- OP. -/
def opCode (d : Bytes) : Nat := fieldLe d 0 1
/-- FLAGS. -/
def opFlags (d : Bytes) : Nat := fieldLe d 1 1
/-- MODE of a REDUCE. -/
def opMode (d : Bytes) : Nat := bitsOf (opFlags d) 5 4
/-- The job tag. -/
def opTag (d : Bytes) : Tag := BitVec.ofNat 12 (fieldLe d 2 2)
/-- ROUND. -/
def opRound (d : Bytes) : Nat := fieldLe d 4 1
/-- Source type code. -/
def opSrcType (d : Bytes) : Nat := fieldLe d 5 1 % 16
/-- Destination type code. -/
def opDstType (d : Bytes) : Nat := fieldLe d 5 1 / 16
/-- DONE_EVENT. -/
def opDone (d : Bytes) : Nat := fieldLe d 6 2
/-- DST. -/
def opDst (d : Bytes) : PA := BitVec.ofNat 56 (fieldLe d 8 8)
/-- SRC. -/
def opSrc (d : Bytes) : PA := BitVec.ofNat 56 (fieldLe d 16 8)
/-- LEN. -/
def opLen (d : Bytes) : Nat := fieldLe d 24 8
/-- ARG. -/
def opArg (d : Bytes) : Nat := fieldLe d 32 8
/-- TENSOR_ID. -/
def opTensor (d : Bytes) : W32 := BitVec.ofNat 32 (fieldLe d 40 4)
/-- COUNT. -/
def opCount (d : Bytes) : Nat := fieldLe d 44 2
/-- RESULT_ADDR. -/
def opResult (d : Bytes) : PA := BitVec.ofNat 56 (fieldLe d 48 8)
/-- REGION_ID of a version operation. -/
def opRegion (d : Bytes) : Nat := fieldLe d 32 2
/-- SLOT of a version operation. -/
def opSlot (d : Bytes) : Nat := fieldLe d 34 1
/-- VERSION of a version operation. -/
def opVersion (d : Bytes) : Nat := fieldLe d 36 4

/-- The plain element types that a REDUCE may name (Table 7-4, codes 0 to 4, 10 and 11). -/
def reduceType (c : Nat) : Option NumFmt :=
  match c with
  | 0 => some .e4m3 | 1 => some .e5m2 | 2 => some .int8 | 3 => some .bf16 | 4 => some .fp16
  | 10 => some .fp32 | 11 => some .int32 | _ => none

/-- Bytes of an element of a type code; 1 for a code that is not valid. -/
def typeSize (c : Nat) : Nat := match reduceType c with | some x => x.width / 8 | none => 1

/-- Kinds of pool operation, one for each command that starts one. -/
inductive PoolKind where
  | fill | copy | cmp | sum | accumulate | readout | vopen | vclose | vdraft | vpublish | vrelease
  /-- OP or MODE is reserved. -/
  | reserved
  deriving DecidableEq, Repr

/-- The kind a descriptor names. -/
def kindOf (d : Bytes) : PoolKind :=
  match opCode d with
  | 1 => .fill | 2 => .copy | 3 => .cmp
  | 4 => (match opMode d with | 0 => .sum | 1 => .accumulate | 2 => .readout | _ => .reserved)
  | 8 => .vopen | 9 => .vclose | 10 => .vdraft | 11 => .vpublish | 12 => .vrelease
  | _ => .reserved

/-- Whether a kind is a version operation. -/
def PoolKind.isVersion : PoolKind → Bool
  | .vopen | .vclose | .vdraft | .vpublish | .vrelease => true
  | _ => false

/-- Whether a kind is a REDUCE. -/
def PoolKind.isReduce : PoolKind → Bool
  | .sum | .accumulate | .readout => true
  | _ => false

/-- STORED of a COPY. -/
def opStored (d : Bytes) : Bool := (opFlags d).testBit 0
/-- CLEAR_AFTER of a READOUT. -/
def opClear (d : Bytes) : Bool := (opFlags d).testBit 1
/-- VCOPY of a VDRAFT. -/
def opVcopy (d : Bytes) : Bool := (opFlags d).testBit 2
/-- CRC of a CMP. -/
def opCrc (d : Bytes) : Bool := (opFlags d).testBit 3

/-- The largest range that a COPY with STORED writes (R315). -/
def storedSpan (len : Nat) : Nat := 128 * ceilDiv (8 * (len / 4096)) 128 + 4224 * (len / 4096)

/-- The ranges of data an operation writes, its destination first, from its descriptor alone. -/
def opTargets (d : Bytes) : List (PA × Nat) :=
  let n := opLen d
  match kindOf d with
  | .fill => [(opDst d, n)]
  | .copy => [(opDst d, if opStored d then storedSpan n else n)]
  | .sum => [(opDst d, n * typeSize (opDstType d))]
  | .accumulate => [(opDst d, 48 * n)]
  | .readout => [(opDst d, n * typeSize (opDstType d))] ++ (if opClear d then [(opSrc d, 48 * n)] else [])
  | _ => []

/-- The ranges an operation writes, its result record among them. -/
def opWrites (d : Bytes) : List (PA × Nat) := opTargets d ++ (if opResult d = 0 then [] else [(opResult d, 32)])

/-- The ranges an operation reads, from its descriptor alone; for REDUCE SUM and ACCUMULATE the source list. -/
def opReads (d : Bytes) : List (PA × Nat) :=
  let n := opLen d
  match kindOf d with
  | .copy => [(opSrc d, n)]
  | .cmp => [(opSrc d, n)] ++ (if opCrc d then [] else [(BitVec.ofNat 56 (opArg d), n)])
  | .sum => [(opSrc d, 8 * opCount d)]
  | .accumulate => [(opSrc d, 8 * opCount d), (opDst d, 48 * n)]
  | .readout => [(opSrc d, 48 * n)]
  | _ => []

/-- Whether two ranges of pool addresses overlap. -/
def rangesOverlap (a : PA) (n : Nat) (b : PA) (m : Nat) : Bool :=
  decide (a.toNat < b.toNat + m) && decide (b.toNat < a.toNat + n)

/-- Every range that an operation touches, as far as it is known. -/
def PoolOp.ranges (o : PoolOp) : List (PA × Nat) := opReads o.desc ++ opWrites o.desc ++ o.lists

/-- Whether a range of the vault window is whole blocks (R315); any other range is. -/
def vaultAligned (r : PA × Nat) : Bool := spaceOf r.1 != 3 || (r.1.toNat % 4096 == 0 && r.2 % 4096 == 0)

/-- Bytes that the length limit of R315 counts. -/
def opBytes (d : Bytes) : Nat :=
  if (kindOf d).isReduce then opLen d * max (typeSize (opSrcType d)) (typeSize (opDstType d)) else opLen d

/-- Whether the reserved parts of a descriptor are clear and its codes valid (R315). -/
def opFieldsOk (d : Bytes) : Bool :=
  let k := kindOf d
  d.length == 64 && k != .reserved && bitsOf (opFlags d) 7 6 == 0 && fieldLe d 2 2 / 4096 == 0 && opTag d != 0 &&
    fieldLe d 46 2 == 0 && fieldLe d 56 8 == 0 &&
    (!k.isReduce || ((reduceType (opSrcType d)).isSome && (reduceType (opDstType d)).isSome && bitsOf (opRound d) 7 3 == 0 &&
      opRound d % 4 != 3)) &&
    (!(k == .sum || k == .accumulate) || (decide (1 ≤ opCount d) && decide (opCount d ≤ 256)))

/-- The checks of R315 on a descriptor. -/
def State.opDescOk (s : State) (d : Bytes) : Bool :=
  let k := kindOf d
  opFieldsOk d &&
    (k.isVersion ||
      (opLen d != 0 && decide (opBytes d ≤ 2 ^ 36) &&
      (k.isReduce || ((opTargets d ++ opReads d).all (fun r => r.1.toNat % 128 == 0 && r.2 % 128 == 0))) &&
      (!(k == .copy && opStored d) || (opLen d % 4096 == 0 && (opSrc d).toNat % 4096 == 0)) &&
      (opReads d ++ opTargets d).all vaultAligned &&
      (k != .copy || (opReads d).all (fun r => (opTargets d).all (fun w => !rangesOverlap r.1 r.2 w.1 w.2))))) &&
    (opWrites d).all (fun w => !s.touchesRegionArea w.1 w.2 && spaceOf w.1 != 8 && spaceOf w.1 != 9) &&
    (opResult d == 0 || s.plainRange (opResult d) 32 || !s.memMapped (opResult d) 32)

/-- A range's right for an operation accepted at request number id: a drain that began later does not count against it. -/
def State.opRight (s : State) (id : Nat) (src : Node) (r : PA × Nat) (write : Bool) : Right :=
  match s.rangeRight r.1 r.2 src write with
  | .revoked =>
    if s.pool.drains.any (fun d => decide (d.mark ≤ id) && s.touchesEntry d.entry r.1 r.2) then .revoked else .granted
  | x => x

/-- The status a range's checks give: DENIED, REVOKED or OK (R315, R322, R325). -/
def State.rangeStatus (s : State) (id : Nat) (src : Node) (r : PA × Nat) (write : Bool) : Nat :=
  match s.opRight id src r write with
  | .denied => stDenied
  | .revoked => stRevoked
  | .granted => if s.memMapped r.1 r.2 && s.versionsAllow r.1 r.2 src write then stOk else stDenied

/-- The first failing status of a list, DENIED before REVOKED. -/
def worstStatus (l : List Nat) : Nat :=
  if l.contains stDenied then stDenied else if l.contains stRevoked then stRevoked else stOk

/-! ## Acceptance (R314) -/

/-- Whether a descriptor touches an extent that is draining, and its source may reach all that it touches (R325). -/
def State.opRevoked (s : State) (d : Bytes) (src : Node) : Bool :=
  opFieldsOk d && worstStatus ((opReads d).map (fun r => s.rangeStatus s.nextId src r false) ++
    (opWrites d).map (fun r => s.rangeStatus s.nextId src r true)) == stRevoked

/-- An operation as it is accepted, under the next request number. -/
def State.newOp (s : State) (d : Bytes) (src : Node) (host replicated : Bool) : PoolOp :=
  { id := s.nextId, desc := d, src := src, host := host, replicated := replicated, acceptedAt := s.count,
    epoch := s.f F.GLB_EPOCH_CURRENT, started := false, copying := false, result := none, forwarded := false }

/-- Puts an operation in the queue under the next request number. -/
def State.poolQueue (s : State) (d : Bytes) (src : Node) (host replicated : Bool) : State :=
  { s with pool := { s.pool with ops := s.pool.ops ++ [s.newOp d src host replicated] } }

/-- An operation submitted at the door by a request (R314): REVOKED at once when it touches a draining extent, else
DEFER. -/
def State.poolDoor (s : State) (k : ReqKind) (q : Req) (replicated : Bool) : State :=
  if s.opRevoked q.data q.src then
    (s.noteRevoked (opReads q.data ++ opWrites q.data) false).answerStatus k q stRevoked 0 0
  else
    let id := s.nextId
    (s.poolQueue q.data q.src false replicated).openDeferred k q (.poolOp id)

/-- The host driver's descriptor (R314). -/
def State.hostDesc (s : State) : Bytes := (List.range 8).flatMap (fun w => leBytes 8 (s.reg (R.POOL_HOST_DESC w)).toNat)

/-- The source of host-endpoint accesses and operations. -/
def State.hostNode (s : State) : Node := BitVec.ofNat 16 (s.f F.POOL_CFG_HOST_NODE)

/-- POOL_HOST_GO: submits the staged descriptor unless one is in progress (R314). -/
def State.poolHostGo (s : State) (replicated : Bool) : State :=
  if s.f F.POOL_HOST_GO_GO = 1 then s
  else
    let d := s.hostDesc
    let s := s.setF F.POOL_HOST_GO_GO 1
    if s.opRevoked d s.hostNode then
      let s := s.noteRevoked (opReads d ++ opWrites d) false
      ((s.setF F.POOL_HOST_GO_GO 0).setF F.POOL_HOST_STS_STATUS stRevoked).setF F.POOL_HOST_STS_CODE 0x0802
    else (s.poolQueue d s.hostNode true replicated).nextReq

/-! ## Starting (R315, R316) -/

/-- Operations that have started and not ended. -/
def State.activeOps (s : State) : Nat := (s.pool.ops.filter (fun o => o.started)).length

/-- Whether every write of an operation's source that was accepted before it has taken effect (R316). -/
def State.opReady (s : State) (o : PoolOp) : Bool :=
  !s.opens.any (fun q => decide (q.id < o.id) && q.req.src == o.src && (q.kind == .wr || q.kind == .creqWrite) &&
    (match q.wait with | .poolOp _ => false | _ => true))

/-- The operation that starts next, of the version operations or of the others: the first that has not started. One of the others
that must still wait for its source's writes lets later ones start; version operations keep their order (R316, R323). -/
def State.startsNext (s : State) (version : Bool) : Option PoolOp :=
  s.pool.ops.find? (fun p => !p.started && (kindOf p.desc).isVersion == version && (version || s.opReady p))

/-- The operation of an identifier that may run now, of a kind: one that has started and waited for what it reads, or the one that
starts next, with fewer than 16 running (R316). -/
def State.poolNext (s : State) (id : Nat) (k : PoolKind) : Option PoolOp :=
  match s.pool.ops.find? (fun o => o.id == id) with
  | none => none
  | some o =>
    if (if kindOf o.desc = .reserved then k else kindOf o.desc) ≠ k then none
    else if o.started then (if o.result.isNone && !o.copying then some o else none)
    else if (s.startsNext k.isVersion).map PoolOp.id = some id ∧ s.opReady o ∧ s.activeOps < 16 then some o
    else none

/-- Replaces an operation. -/
def State.setOp (s : State) (o : PoolOp) : State :=
  { s with pool := { s.pool with ops := s.pool.ops.map (fun x => if x.id = o.id then o else x) } }

/-- Marks an operation started with its result. -/
def State.opResultIs (s : State) (o : PoolOp) (r : PoolResult) : State := s.setOp { o with started := true, result := some r }

/-- A result of a status alone. -/
def plainResult (status : Nat) : PoolResult := ⟨status, 0, 0, 0, 0⟩

/-- The event of a pool operation. -/
def poolEvent (code : Nat) (o : PoolOp) (addr : Nat) : Event :=
  { code := code, tag := opTag o.desc, unitKind := 8, unit := ownerOf (pageOf (opDst o.desc)), op := 7, addr := addr, src := o.src }

/-- The port an operation came by; 18 is the host endpoint. -/
def State.opPort (s : State) (o : PoolOp) : Nat :=
  match s.opens.find? (fun q => q.id == o.id) with
  | some q => q.req.port
  | none => 18

/-- The first range that an operation's source has no right to (R305, R315). -/
def State.deniedRange (s : State) (o : PoolOp) (reads writes : List (PA × Nat)) : Option PA :=
  (((opReads o.desc ++ reads).find? (fun r => s.opRight o.id o.src r false == .denied)).or
    ((opWrites o.desc ++ writes).find? (fun r => s.opRight o.id o.src r true == .denied))).map (fun r => r.1)

/-- Ends an operation before it starts with a failing status: an invalid descriptor has its record (R315); a right that is lacking
is counted and reported (R308), which a DENIED of another rule is not; and the drain of an extent counts what it refuses (R325). -/
def State.opRefuse (s : State) (o : PoolOp) (status : Nat) (reads writes : List (PA × Nat)) : State :=
  let denied := s.deniedRange o reads writes
  let s := s.opResultIs o (plainResult status)
  if status = stUnsupported then
    (s.setF F.POOL_STATUS_LAST_ERR 0x0803).ledger (poolEvent 0x0803 o o.src.toNat)
  else if status = stRevoked then s.noteRevoked (o.ranges ++ reads ++ writes) false
  else
    match denied with
    | some a => s.poolDenied (s.opPort o) o.src (opTag o.desc) a
    | none => s

/-- Bytes charged to the limiter (Table 13-4); accumulators count 96 bytes. -/
def opCharge (d : Bytes) : Nat :=
  let n := opLen d
  match kindOf d with
  | .fill => n
  | .copy | .cmp => 2 * n
  | .sum => n * (opCount d * typeSize (opSrcType d) + typeSize (opDstType d))
  | .accumulate => n * (opCount d * typeSize (opSrcType d) + 96)
  | .readout => n * (96 + typeSize (opDstType d))
  | _ => 0

/-- The work's identity for reads and errors. -/
def opConsumer (o : PoolOp) : Consumer := ⟨8, ownerOf (pageOf (opDst o.desc)), 7, opTag o.desc⟩

/-- The checks before an operation starts: the failing status, or OK (R315). -/
def State.opChecks (s : State) (o : PoolOp) (more : List (PA × Nat)) : Nat :=
  if !s.opDescOk o.desc then stUnsupported
  else worstStatus ((opReads o.desc ++ more).map (fun r => s.rangeStatus o.id o.src r false) ++
    (opWrites o.desc).map (fun r => s.rangeStatus o.id o.src r true))

/-- An operation's effect with the result that it gives; while it must wait for what it reads it stays without one. -/
def State.opWork (s : State) (o : PoolOp) (effect : State → PoolOp → State × Option PoolResult) : State :=
  match effect s o with
  | (s, none) => s
  | (s, some r) => s.opResultIs o r

/-- An operation as it starts: with the ranges found for it and the snapshot of its tag's seed and step counter (R353). -/
def State.startOp (s : State) (o : PoolOp) (l : List (PA × Nat)) : PoolOp :=
  let t := (opTag o.desc).toNat
  { o with started := true, lists := l, seedLo := s.reg (R.DET_SEED_LO t), seedHi := s.reg (R.DET_SEED_HI t), step := s.reg (R.DET_STEP t) }

/-- Runs an operation of a kind: its checks, once, at its start, with its charge to the limiter (R312, R315), and its effect. An
operation whose read must wait for a repair has started, and its command comes again. Before it starts it waits while accesses
accepted before hold back a vault page that it writes (R296). -/
def State.poolRun (s : State) (id : Nat) (k : PoolKind) (more : State → PoolOp → State × Option (List (PA × Nat)))
    (effect : State → PoolOp → State × Option PoolResult) : State :=
  match s.poolNext id k with
  | none => s
  | some o =>
    if o.started then s.opWork o effect
    else if !s.opDescOk o.desc then s.opRefuse o stUnsupported [] []
    else
      match more s o with
      | (s, none) => s
      | (s, some l) =>
        let st := if l.all vaultAligned then s.opChecks o l else stUnsupported
        if st ≠ stOk then s.opRefuse o st l []
        else if (opWrites o.desc).any (fun w => s.vaultHeld w.1 w.2) then s
        else
          let o := s.startOp o l
          ((s.setOp o).chargeHost o.src (opCharge o.desc)).opWork o effect

/-- No further ranges. -/
def noMore (s : State) (_ : PoolOp) : State × Option (List (PA × Nat)) := (s, some [])

/-- An operation met poison: one record with the first bad address (R318). -/
def State.opPoison (s : State) (o : PoolOp) (a : PA) : State :=
  (s.setF F.POOL_STATUS_LAST_ERR 0x0804).poisonNamed (poolEvent 0x0804 o a.toNat)

/-- The result of an operation that wrote its destination, poisoned or not. -/
def State.opWrote (s : State) (o : PoolOp) (first : Option PA) : State × Option PoolResult :=
  match first with
  | none => (s, some (plainResult stOk))
  | some a => (s.opPoison o a, some (plainResult stPoison))

/-! ## FILL, COPY, CMP (R316, R318) -/

/-- FILL. -/
def fillEffect (env : VaultEnv) (s : State) (o : PoolOp) : State × Option PoolResult :=
  let d := o.desc
  let bs := gather (opLen d / 8) (fun _ => leBytes 8 (opArg d))
  match s.writeAny (opDst d) bs [] (opTag d) env.places with
  | some s => (s, some (plainResult stOk))
  | none => (s, some (plainResult stDenied))

/-- COPY, in PLAIN or stored form. -/
def copyEffect (env : VaultEnv) (s : State) (o : PoolOp) : State × Option PoolResult :=
  let d := o.desc
  let k := opConsumer o
  let r := if opStored d && s.touchesPacked (opSrc d) (opLen d) then s.readStoredAny (opSrc d) (opLen d / 4096) k
    else s.readAny (opSrc d) (opLen d) k env none
  if !r.2.ready then (r.1.readWaits r.2 (opTag d) 7, none)
  else
    match r.1.writeAny (opDst d) r.2.data r.2.poison (opTag d) env.places with
    | some s => s.opWrote o r.2.first
    | none => (r.1, some (plainResult stDenied))

/-- The offset of the first difference of two byte sequences. -/
def firstDiff : Nat → Bytes → Bytes → Option Nat
  | n, a :: s, b :: t => if a = b then firstDiff (n + 1) s t else some n
  | _, _, _ => none

/-- CMP: compares two ranges or computes a CRC; it stops at a bad grain, and its VALUE then is not stated. -/
def cmpEffect (env : VaultEnv) (s : State) (o : PoolOp) : State × Option PoolResult :=
  let d := o.desc
  let k := opConsumer o
  let r := s.readAny (opSrc d) (opLen d) k env none
  let r2 := if opCrc d then (r.1, AnyRead.empty) else r.1.readAny (BitVec.ofNat 56 (opArg d)) (opLen d) k env none
  let diff := if opCrc d then none else firstDiff 0 r.2.data r2.2.data
  let bad := insertNat 0 [] ++ (r.2.poison ++ r2.2.poison)
  let firstBad := (bad.drop 1).foldl (fun (m : Option Nat) g => match m with | none => some g | some x => some (min x g)) none
  if !r.2.ready then (r2.1.readWaits r.2 (opTag d) 7, none)
  else if !r2.2.ready then (r2.1.readWaits r2.2 (opTag d) 7, none)
  else
    let stops := match firstBad, diff with
      | some g, some x => decide (g ≤ x / 128)
      | some _, none => true
      | none, _ => false
    if stops then
      let a := if (r.2.poison.contains (firstBad.getD 0)) then opSrc d else BitVec.ofNat 56 (opArg d)
      let s := r2.1.opPoison o (BitVec.ofNat 56 (a.toNat + 128 * firstBad.getD 0))
      (s.bump, some { plainResult stPoison with value := Config.freeNat s.free % 2 ^ 64 })
    else
      let v := if opCrc d then (crc32c r.2.data).toNat else diff.getD (2 ^ 64 - 1)
      (r2.1, some { plainResult stOk with value := v })

/-! ## REDUCE (R161 to R163, R317, R318) -/

/-- Whether byte range [off, off+size) from an address touches a poisoned part of a read of it. -/
def touchesBad (a : PA) (r : AnyRead) (off size : Nat) : Bool :=
  let b := a.toNat % 128 + off
  (List.range ((b + size - 1) / 128 - b / 128 + 1)).any (fun i => r.poison.contains (b / 128 + i))

/-- The addresses of a source list, but for those that a bad grain holds; and the read of the list. -/
def State.sourceList (s : State) (o : PoolOp) : State × List PA × AnyRead :=
  let a := opSrc o.desc
  let r := s.readAny a (8 * opCount o.desc) (opConsumer o) {} none
  (r.1, ((List.range (opCount o.desc)).filter (fun i => !touchesBad a r.2 (8 * i) 8)).map
    (fun i => BitVec.ofNat 56 (fieldLe r.2.data (8 * i) 8)), r.2)

/-- The ranges that a source list names, for the checks of R315; none while the list cannot be read yet. The list itself must be
the source's to read. -/
def listRanges (s : State) (o : PoolOp) : State × Option (List (PA × Nat)) :=
  if (opReads o.desc).all (fun r => s.rangeStatus o.id o.src r false == stOk) then
    let r := s.sourceList o
    if r.2.2.ready then (r.1, some (r.2.1.map (fun a => (a, opLen o.desc * typeSize (opSrcType o.desc)))))
    else (r.1.readWaits r.2.2 (opTag o.desc) 7, none)
  else (s, some [])

/-- What summing the sources gives: for every element its accumulator and whether a bad grain went into it; then the
first bad address and what the reads must wait for. -/
structure SumRead where
  accs : List (ExactAcc × Bool)
  first : Option PA
  wait : Option AnyRead
  deriving DecidableEq, Repr

/-- ADDs one source's elements into accumulators (R162). -/
def addSource (x : NumFmt) (a : PA) (r : AnyRead) (accs : List (ExactAcc × Bool)) : List (ExactAcc × Bool) :=
  let size := x.width / 8
  accs.zipIdx.map (fun p =>
    let bad := touchesBad a r (p.2 * size) size
    if bad then (p.1.1, true) else (p.1.1.add (x.value (fieldLe r.data (p.2 * size) size)), p.1.2))

/-- Reads every source of a list and ADDs it. -/
def State.sumSources (s : State) (o : PoolOp) (env : VaultEnv) (srcs : List PA) (accs : List (ExactAcc × Bool)) : State × SumRead :=
  let x := (reduceType (opSrcType o.desc)).getD .fp32
  srcs.foldl (fun (st : State × SumRead) a =>
    let r := st.1.readAny a (opLen o.desc * (x.width / 8)) (opConsumer o) env none
    (r.1, { accs := addSource x a r.2 st.2.accs, first := st.2.first.or r.2.first,
            wait := if r.2.ready then st.2.wait else st.2.wait.or (some r.2) })) (s, ⟨accs, none, none⟩)

/-- No exact accumulator of a reduce unit used, where unlisted. -/
def noSum : Nat → ExactAcc := fun _ => {}

/-- The reduce units' accumulators after a REDUCE: element i of an array at an address was summed by the cluster that owns it, in
accumulator i mod 2,048 (R161; the number is a DESIGN CHOICE, the spec gives no placement). -/
def State.keepSums (s : State) (a : PA) (size : Nat) (accs : List (ExactAcc × Bool)) : State :=
  s.forEach accs.zipIdx (fun s p =>
    let i := 2048 * ownerOf (pageOf (BitVec.ofNat 56 (a.toNat + size * p.2))) + p.2 % 2048
    { s with pool := { s.pool with accs := Sparse.put noSum s.pool.accs i p.1.1 } })

/-- The random bits of a REDUCE, from the snapshot that it took at its start (R317, R353). -/
def PoolOp.draw (o : PoolOp) : Draw where
  seedLo := o.seedLo
  seedHi := o.seedHi
  step := o.step
  tensor := opTensor o.desc
  domain := domainRounding

/-- READ of element i (R163, R317). -/
def PoolOp.readElem (o : PoolOp) (a : ExactAcc) (i : Nat) : Nat × Nat × Bool :=
  let d := o.desc
  let x := (reduceType (opDstType d)).getD .fp32
  a.read x (roundOf (opRound d % 4) (o.draw.bits i)) ((opRound d).testBit 2)

/-- Writes elements, poisoning the grains of those that a bad grain went into; ACC_TERMS is recorded when an accumulator
with OVF was read. -/
def State.writeElems (s : State) (o : PoolOp) (env : VaultEnv) (accs : List (ExactAcc × Bool)) : Option State :=
  let d := o.desc
  let size := typeSize (opDstType d)
  let rs := accs.zipIdx.map (fun p => o.readElem p.1.1 p.2)
  let bad := (accs.zipIdx.filter (fun p => p.1.2)).flatMap (fun p =>
    let b := (opDst d).toNat % 128 + p.2 * size
    (List.range ((b + size - 1) / 128 - b / 128 + 1)).map (fun i => b / 128 + i))
  (s.writeAny (opDst d) (rs.flatMap (fun r => leBytes size r.1)) bad (opTag d) env.places).map (fun s =>
    if rs.any (fun r => r.2.2) then s.ledger (poolEvent 0x0611 o (opDst d).toNat) else s)

/-- REDUCE SUM. -/
def sumEffect (env : VaultEnv) (s : State) (o : PoolOp) : State × Option PoolResult :=
  let l := s.sourceList o
  if !l.2.2.ready then (l.1.readWaits l.2.2 (opTag o.desc) 7, none)
  else
    let bad := !l.2.2.poison.isEmpty
    let r := l.1.sumSources o env l.2.1 (List.replicate (opLen o.desc) ({}, bad))
    match r.2.wait with
    | some w => (r.1.readWaits w (opTag o.desc) 7, none)
    | none =>
      match (r.1.keepSums (opDst o.desc) (typeSize (opDstType o.desc)) r.2.accs).writeElems o env r.2.accs with
      | some s => s.opWrote o (l.2.2.first.or r.2.first)
      | none => (r.1, some (plainResult stDenied))

/-- The accumulators of an array in save form, each with whether a bad grain holds part of it. -/
def State.readAccs (s : State) (a : PA) (n : Nat) (o : PoolOp) (env : VaultEnv) : State × List (ExactAcc × Bool) × AnyRead :=
  let r := s.readAny a (48 * n) (opConsumer o) env none
  (r.1, (List.range n).map (fun i => (ExactAcc.ofBytes (slice r.2.data (48 * i) 48), touchesBad a r.2 (48 * i) 48)), r.2)

/-- The poisoned parts of an array of accumulators. -/
def badAccs (a : PA) (accs : List (ExactAcc × Bool)) : List Nat :=
  (accs.zipIdx.filter (fun p => p.1.2)).flatMap (fun p =>
    let b := a.toNat % 128 + 48 * p.2
    (List.range ((b + 47) / 128 - b / 128 + 1)).map (fun i => b / 128 + i))

/-- REDUCE ACCUMULATE. -/
def accumulateEffect (env : VaultEnv) (s : State) (o : PoolOp) : State × Option PoolResult :=
  let l := s.sourceList o
  let t := l.1.readAccs (opDst o.desc) (opLen o.desc) o env
  if !l.2.2.ready then (t.1.readWaits l.2.2 (opTag o.desc) 7, none)
  else if !t.2.2.ready then (t.1.readWaits t.2.2 (opTag o.desc) 7, none)
  else
    let bad := !l.2.2.poison.isEmpty
    let r := t.1.sumSources o env l.2.1 (t.2.1.map (fun a => (a.1, a.2 || bad)))
    match r.2.wait with
    | some w => (r.1.readWaits w (opTag o.desc) 7, none)
    | none =>
      match (r.1.keepSums (opDst o.desc) 48 r.2.accs).writeAny (opDst o.desc) (r.2.accs.flatMap (fun a => a.1.bytes)) (badAccs (opDst o.desc) r.2.accs) (opTag o.desc)
          env.places with
      | some s => s.opWrote o (l.2.2.first.or (t.2.2.first.or r.2.first))
      | none => (r.1, some (plainResult stDenied))

/-- REDUCE READOUT. -/
def readoutEffect (env : VaultEnv) (s : State) (o : PoolOp) : State × Option PoolResult :=
  let t := s.readAccs (opSrc o.desc) (opLen o.desc) o env
  if !t.2.2.ready then (t.1.readWaits t.2.2 (opTag o.desc) 7, none)
  else
    match (t.1.keepSums (opSrc o.desc) 48 t.2.1).writeElems o env t.2.1 with
    | none => (t.1, some (plainResult stDenied))
    | some s =>
      if opClear o.desc then
        match s.writeAny (opSrc o.desc) (List.replicate (48 * opLen o.desc) 0) [] (opTag o.desc) env.places with
        | some s => s.opWrote o t.2.2.first
        | none => (s, some (plainResult stDenied))
      else s.opWrote o t.2.2.first

/-! ## Version operations (R320 to R324) -/

/-- The versioned region of an identifier. -/
def State.versioned (s : State) (id : Nat) : Option Region := s.regions.find? (fun r => r.id == id && r.versions != 0)

/-- The pool address of a slot's first page. -/
def Region.slotAddr (r : Region) (k : Nat) : PA := poolAddr r.space (2 ^ 21 * (r.base + k * r.slotPages))

/-- The slot that holds a version as PUBLISHED or RETAINED. -/
def State.slotOfVersion (s : State) (r : Region) (v : Nat) : Option Nat :=
  (List.range (r.versions + 1)).find? (fun k =>
    let x := s.verSlot r.id k
    (x.state == verPublished || x.state == verRetained) && x.version == v)

/-- The published slot. -/
def State.published (s : State) (r : Region) : Nat :=
  ((List.range (r.versions + 1)).find? (fun k => (s.verSlot r.id k).state == verPublished)).getD 0

/-- The current version. -/
def State.currentVersion (s : State) (r : Region) : Nat := (s.verSlot r.id (s.published r)).version

/-- The version that an operation names: 0xFFFF_FFFF is the current one. -/
def State.namedVersion (s : State) (r : Region) (v : Nat) : Nat := if v = 2 ^ 32 - 1 then s.currentVersion r else v

/-- A CONFLICT of a version operation, with the current version. -/
def State.conflict (s : State) (r : Region) : PoolResult := { plainResult stConflict with detail := s.currentVersion r }

/-- SLOT_INFO. -/
def slotInfo (r : Region) (k : Nat) : Nat := k + 2 ^ 32 * r.slotPages

/-- VOPEN (Table 13-6). -/
def State.vopen (s : State) (o : PoolOp) (r : Region) : State × PoolResult :=
  let v := s.namedVersion r (opVersion o.desc)
  match s.slotOfVersion r v with
  | none => (s, plainResult stDenied)
  | some k =>
    let x := s.verSlot r.id k
    if x.opens = 4095 then (s, s.conflict r)
    else (s.setVerSlot r.id k { x with opens := x.opens + 1 }, ⟨stOk, 0, v, (r.slotAddr k).toNat, slotInfo r k⟩)

/-- VCLOSE. -/
def State.vclose (s : State) (o : PoolOp) (r : Region) : State × PoolResult :=
  let v := opVersion o.desc
  match s.slotOfVersion r v with
  | none => (s, plainResult stDenied)
  | some k =>
    let x := s.verSlot r.id k
    if x.opens = 0 then (s, s.conflict r)
    else
      let y := { x with opens := x.opens - 1 }
      (s.setVerSlot r.id k (if y.state = verRetained ∧ y.opens = 0 then {} else y), { plainResult stOk with value := v })

/-- The lowest FREE slot. -/
def State.freeSlot (s : State) (r : Region) : Option Nat :=
  (List.range (r.versions + 1)).find? (fun k => (s.verSlot r.id k).state == verFree)

/-- VDRAFT's state change. -/
def State.vdraft (s : State) (o : PoolOp) (r : Region) : State × PoolResult :=
  let v := s.namedVersion r (opVersion o.desc)
  match s.slotOfVersion r v with
  | none => (s, plainResult stDenied)
  | some _ =>
    match s.freeSlot r with
    | none => (s, s.conflict r)
    | some k =>
      (s.setVerSlot r.id k { state := verDraft, version := v, owner := o.src, opens := 0, copying := opVcopy o.desc },
        ⟨stOk, 0, v, (r.slotAddr k).toNat, slotInfo r k⟩)

/-- Whether a slot is a DRAFT of a node. -/
def VerSlot.draftOf (x : VerSlot) (n : Node) : Bool := x.state == verDraft && x.owner == n

/-- VPUBLISH. -/
def State.vpublish (s : State) (o : PoolOp) (r : Region) : State × PoolResult :=
  let k := opSlot o.desc
  let x := s.verSlot r.id k
  if !x.draftOf o.src then (s, plainResult stDenied)
  else if x.copying ∨ x.version ≠ s.currentVersion r then (s, s.conflict r)
  else
    let p := s.published r
    let y := s.verSlot r.id p
    let v := (s.currentVersion r + 1) % 2 ^ 32
    let s := s.setVerSlot r.id p (if y.opens = 0 then {} else { y with state := verRetained })
    (s.setVerSlot r.id k { state := verPublished, version := v, owner := 0, opens := 0, copying := false },
      { plainResult stOk with value := v })

/-- Contents that have become undefined: each byte of the range takes a free value. -/
def State.undefine (s : State) (a : PA) (n : Nat) : State :=
  ((s.writeRange a ((List.range n).map (fun i => Config.freeByte s.free i)) 0)).bump

/-- VRELEASE: the draft becomes FREE and its contents undefined. -/
def State.vrelease (s : State) (o : PoolOp) (r : Region) : State × PoolResult :=
  let k := opSlot o.desc
  let x := s.verSlot r.id k
  if !x.draftOf o.src then (s, plainResult stDenied)
  else if x.copying then (s, s.conflict r)
  else ((s.setVerSlot r.id k {}).undefine (r.slotAddr k) (2 ^ 21 * r.slotPages), { plainResult stOk with value := x.version })

/-- A version operation's effect: UNSUPPORTED for a region that is not versioned or a slot it does not have (R323). -/
def versionEffect (useSlot : Bool) (g : State → PoolOp → Region → State × PoolResult) (s : State) (o : PoolOp) :
    State × Option PoolResult :=
  match s.versioned (opRegion o.desc) with
  | none => (s, some (plainResult stUnsupported))
  | some r =>
    if useSlot ∧ r.versions < opSlot o.desc then (s, some (plainResult stUnsupported))
    else
      let x := g s o r
      (x.1, some x.2)

/-- What the copy of a VDRAFT with VCOPY reads and writes: the base slot, and the slot that becomes the draft. -/
def State.vcopyRanges (s : State) (o : PoolOp) : Option ((PA × Nat) × (PA × Nat)) :=
  match s.versioned (opRegion o.desc) with
  | none => none
  | some r =>
    let n := 2 ^ 21 * r.slotPages
    if opVcopy o.desc then
      match s.slotOfVersion r (s.namedVersion r (opVersion o.desc)), s.freeSlot r with
      | some b, some k => some ((r.slotAddr b, n), (r.slotAddr k, n))
      | _, _ => none
    else none

/-- A VDRAFT with VCOPY needs the rights of R305 to what its copy reads and writes (R315). -/
def State.vcopyStatus (s : State) (o : PoolOp) (x : (PA × Nat) × (PA × Nat)) : Nat :=
  match s.opRight o.id o.src x.1 false, s.opRight o.id o.src x.2 true with
  | .denied, _ => stDenied
  | _, .denied => stDenied
  | .revoked, _ => stRevoked
  | _, .revoked => stRevoked
  | .granted, .granted => stOk

/-- VDRAFT: with VCOPY the operation stays open until its copy ends, and is charged for it (Table 13-4). -/
def State.vdraftRun (s : State) (id : Nat) : State :=
  match s.poolNext id .vdraft with
  | none => s
  | some o =>
    let x := s.vcopyRanges o
    let reads := (x.map (fun y => y.1)).toList
    let writes := (x.map (fun y => y.2)).toList
    let st := if s.opChecks o [] ≠ stOk then s.opChecks o [] else ((x.map (s.vcopyStatus o)).getD stOk)
    if st ≠ stOk then s.opRefuse o st reads writes
    else
      match versionEffect false State.vdraft s o with
      | (s, some r) =>
        if r.status = stOk ∧ opVcopy o.desc then
          let pages := r.slotInfo / 2 ^ 32
          (s.chargeHost o.src (2 ^ 21 * (2 * pages))).setOp { o with started := true, copying := true, result := some r, lists := reads ++ writes }
        else s.opResultIs o r
      | (s, none) => s

/-- The draft of a VDRAFT with VCOPY is no longer being copied into. -/
def State.copyOver (s : State) (o : PoolOp) : State :=
  match s.versioned (opRegion o.desc), o.result with
  | some r, some res =>
    let k := res.slotInfo % 256
    s.setVerSlot r.id k { s.verSlot r.id k with copying := false }
  | _, _ => s

/-- The copy of a VDRAFT with VCOPY ends: the bytes of its base slot's range, as they stand, are in the draft, poison with them, and
the operation is done (R323). -/
def State.vdraftCopyDone (s : State) (id : Nat) (env : VaultEnv) : State :=
  match s.pool.ops.find? (fun o => o.id == id && o.copying) with
  | none => s
  | some o =>
    match o.lists, o.result with
    | [b, k], some res =>
      let rd := s.readAny b.1 b.2 (opConsumer o) env none
      if !rd.2.ready then rd.1.readWaits rd.2 (opTag o.desc) 7
      else
        match rd.1.writeAny k.1 rd.2.data rd.2.poison (opTag o.desc) [] with
        | none => rd.1
        | some s =>
          let s := s.copyOver o
          match rd.2.first with
          | some a => (s.opPoison o a).setOp { o with copying := false, result := some { res with status := stPoison } }
          | none => s.setOp { o with copying := false }
    | _, _ => s

/-! ## Ending (R319) -/

/-- The 32 bytes of a result record (Table 13-5). -/
def PoolResult.bytes (r : PoolResult) : Bytes :=
  leBytes 2 r.status ++ leBytes 2 0 ++ leBytes 4 r.detail ++ leBytes 8 r.value ++ leBytes 8 r.slotAddr ++ leBytes 8 r.slotInfo

/-- The error code that a final status shows in POOL_HOST_STS. -/
def codeOfStatus (st : Nat) : Nat :=
  if st = stUnsupported then 0x0803 else if st = stDenied then 0x0801 else if st = stPoison then 0x0804
  else if st = stRevoked then 0x0802 else 0

/-- Whether the map entries of the vault pages that an operation wrote are programmed (R296). -/
def State.opMapped (s : State) (o : PoolOp) : Bool :=
  (opWrites o.desc).all (fun w => spaceOf w.1 != 3 ||
    (vblocksOf w.1 w.2).all (fun b => match s.vseg (vpageOf b) with | some g => g.mapped | none => true))

/-- Ends an operation with a result: the record, DONE_EVENT, then the COMPLETION or POOL_HOST_STS (R319). -/
def State.poolEnd (s : State) (o : PoolOp) (r : PoolResult) : State :=
  let d := o.desc
  let ok := opResult d != 0 && s.plainRange (opResult d) 32 && s.rangeStatus o.id o.src (opResult d, 32) true == stOk
  let s := if ok then s.writeRange (opResult d) r.bytes (opTag d) else s
  let s := if r.status = stOk ∨ r.status = stPoison then
      s.forEach (opWrites d) (fun s w => if spaceOf w.1 = 3 then s.vaultCovers o.id w.1 w.2 else s) else s
  let s := s.doneEvent (opDone d)
  let s := s.addF F.POOL_OPS_DONE_COUNT 1
  let s := { s with pool := { s.pool with ops := s.pool.ops.filter (fun x => x.id != o.id) } }
  let s := if r.status = stRevoked then s else s.noteDrains o.id o.ranges
  let s := if o.host then
      ((s.setF F.POOL_HOST_GO_GO 0).setF F.POOL_HOST_STS_STATUS r.status).setF F.POOL_HOST_STS_CODE (codeOfStatus r.status)
    else s
  match s.opens.find? (fun q => q.id == o.id) with
  | some q =>
    let s := { s with opens := s.opens.filter (fun x => x.id != q.id) }
    (match q.token with
    | some w => s.completion q w r.status 0 r.bytes
    | none => s.answerStatus q.kind q.req r.status 0 0)
  | none => s

/-- POOL_VER_RESET (R324). -/
def State.verReset (s : State) (region slot : Nat) : State :=
  match s.versioned region with
  | none => s
  | some r =>
    if r.versions < slot then s
    else
      let x := s.verSlot r.id slot
      s.setVerSlot r.id slot (if x.state = verRetained then {} else { x with opens := 0 })

/-! ## Extents (R309, R325, R326) -/

/-- A grant: a FREE entry becomes ACTIVE with the fields written, unless another entry names its extent or SPACE is 3. -/
def State.grant (s : State) (i space base rw ro : Nat) : State :=
  if s.f (F.POOL_EXT_STATE i) ≠ extFree then s
  else if space = 3 ∨ (s.extentOf space base).isSome then
    (s.setF F.POOL_STATUS_LAST_ERR 0x0805).ledger { code := 0x0805, addr := i, op := 7 }
  else
    let s := s.setF (F.POOL_EXT_SPACE i) space
    let s := s.setF (F.POOL_EXT_BASE i) base
    let s := s.setF (F.POOL_EXT_RW_GROUP i) rw
    let s := s.setF (F.POOL_EXT_RO_GROUP i) ro
    s.setF (F.POOL_EXT_STATE i) extActive

/-- A revoke of an ACTIVE entry begins its drain. -/
def State.extentRevoke (s : State) (i : Nat) : State :=
  if s.f (F.POOL_EXT_STATE i) ≠ extActive then s
  else
    let s := s.setF (F.POOL_EXT_STATE i) extDraining
    let d : Drain := ⟨i, s.count, s.nextId, false, 0, 0, 0⟩
    { s with pool := { s.pool with drains := s.pool.drains ++ [d] } }

/-- Open requests accepted before a drain that touch its extent. The host endpoint's are not affected (R307, R449). -/
def State.drainOpens (s : State) (d : Drain) : List OpenReq :=
  s.opens.filter (fun o => !o.revoked && o.host.isNone && decide (o.id < d.mark) && s.touchesEntry d.entry o.req.addr o.req.len)

/-- Operations accepted before a drain that touch its extent. -/
def State.drainOps (s : State) (d : Drain) : List PoolOp :=
  s.pool.ops.filter (fun o => decide (o.id < d.mark) &&
    o.ranges.any (fun r => s.touchesEntry d.entry r.1 r.2))

/-- A request ends with REVOKED at the drain's timeout. A write-expand that it started goes on without it (R326). -/
def State.revokeOpen (s : State) (o : OpenReq) : State :=
  let s := s.noteRevoked [(o.req.addr, o.req.len)] true
  let s := s.finish o stRevoked 0 []
  if o.wait = .expand ∧ o.id < s.nextId then { s with opens := s.opens ++ [{ o with revoked := true, token := none }] } else s

/-- The destination of an operation: that of its descriptor, or the draft of a VDRAFT whose copy is under way. -/
def PoolOp.destination (o : PoolOp) : List (PA × Nat) := if o.copying then o.lists.drop 1 else (opTargets o.desc).take 1

/-- An operation ends with REVOKED: a destination in DRAM or a store that it had begun becomes undefined, and a draft keeps its
state (R326). -/
def State.revokeOp (s : State) (o : PoolOp) : State :=
  let s := s.noteRevoked o.ranges true
  let s := if o.started then s.forEach o.destination (fun s w => if spaceOf w.1 = 3 then s else s.undefine w.1 w.2) else s
  let s := if o.copying then s.copyOver o else s
  s.poolEnd o (plainResult stRevoked)

/-- The drain timeout of an entry (R325, step 3). -/
def State.revokeTimeout (s : State) (i : Nat) : State :=
  match s.pool.drains.find? (fun d => d.entry == i && !d.timedOut &&
      decide (d.t0 + 1000 * s.f F.POOL_CFG_DRAIN_US ≤ s.count)) with
  | none => s
  | some d =>
    let ops := s.drainOps d
    let reqs := (s.drainOpens d).filter (fun o => match o.wait with | .poolOp _ => false | _ => true)
    let s := { s with pool := { s.pool with drains := s.pool.drains.map (fun x => if x = d then { d with timedOut := true } else x) } }
    (s.forEach reqs State.revokeOpen).forEach ops State.revokeOp

/-- The body of a REVOKE notice (Table 13-7). -/
def State.revokeBody (s : State) (d : Drain) : Bytes :=
  leBytes 2 d.entry ++ leBytes 1 (s.f (F.POOL_EXT_SPACE d.entry)) ++ leBytes 1 0 ++ leBytes 4 (s.f (F.POOL_EXT_BASE d.entry)) ++
    leBytes 8 d.t0 ++ leBytes 8 s.count ++ leBytes 4 d.completed ++ leBytes 4 d.ended ++ leBytes 4 d.refused ++ leBytes 4 0

/-- Nothing that touches a draining extent is open: the entry becomes FREE and the REVOKE notice is sent (R325, step 4). -/
def State.extentFree (s : State) (i : Nat) : State :=
  match s.pool.drains.find? (fun d => d.entry == i) with
  | none => s
  | some d =>
    if !(s.drainOpens d).isEmpty ∨ !(s.drainOps d).isEmpty then s
    else
      let body := s.revokeBody d
      let s := s.setF (F.POOL_EXT_STATE i) extFree
      let s := { s with pool := { s.pool with drains := s.pool.drains.filter (fun x => x.entry != i) } }
      let s := s.noticeTo (s.f F.POOL_CFG_FM_NODE) 0 ntRevoke body
      if d.ended = 0 then s
      else (s.setF F.POOL_STATUS_LAST_ERR 0x0802).ledger { code := 0x0802, addr := i, op := 7 }

/-! ## Limiters (R312) -/

/-- The microseconds of global count for which the buckets have not been refilled. -/
def State.refillsDue (s : State) : Nat := s.count / 1000 - s.pool.refilled

/-- The refill of every bucket for the microseconds of global count since the last (R312). -/
def State.limiterRefill (s : State) : State :=
  let n := s.refillsDue
  let one (s : State) (j : Nat) : State :=
    s.setBucket j (min ((1024 * s.f (F.POOL_LIM_BURST_KIB j) : Nat) : Int) (s.bucket j + (n * (1000 * s.f (F.POOL_LIM_RATE j)) : Nat)))
  if n = 0 then s
  else
    let live := (List.range 1024).filter (fun j => s.f (F.POOL_LIM_VALID j) == 1 &&
      s.limiterOf (BitVec.ofNat 16 (s.f (F.POOL_LIM_NODE j))) == j)
    let s := s.forEach live one
    let s := s.setBucket 1024 (min ((Config.sharedBurst : Nat) : Int) (s.bucket 1024 + (n * (1000 * s.f F.POOL_CFG_DEFAULT_RATE) : Nat)))
    { s with pool := { s.pool with refilled := s.count / 1000 } }

/-! ## The commands -/

/-- FILL (R316). -/
def execFill (id : Nat) (env : VaultEnv) (s : State) : Host.Outcome State Fault Refusal :=
  .next (s.underOp id (fun s => s.poolRun id .fill noMore (fillEffect env)))
/-- COPY (R316). -/
def execCopy (id : Nat) (env : VaultEnv) (s : State) : Host.Outcome State Fault Refusal :=
  .next (s.underOp id (fun s => s.poolRun id .copy noMore (copyEffect env)))
/-- CMP (R316). -/
def execCmp (id : Nat) (env : VaultEnv) (s : State) : Host.Outcome State Fault Refusal :=
  .next (s.underOp id (fun s => s.poolRun id .cmp noMore (cmpEffect env)))
/-- REDUCE_SUM (R317). -/
def execReduceSum (id : Nat) (env : VaultEnv) (s : State) : Host.Outcome State Fault Refusal :=
  .next (s.underOp id (fun s => s.poolRun id .sum listRanges (sumEffect env)))
/-- REDUCE_ACCUMULATE (R317). -/
def execReduceAccumulate (id : Nat) (env : VaultEnv) (s : State) : Host.Outcome State Fault Refusal :=
  .next (s.underOp id (fun s => s.poolRun id .accumulate listRanges (accumulateEffect env)))
/-- REDUCE_READOUT (R317). -/
def execReduceReadout (id : Nat) (env : VaultEnv) (s : State) : Host.Outcome State Fault Refusal :=
  .next (s.underOp id (fun s => s.poolRun id .readout noMore (readoutEffect env)))
/-- VOPEN (R323). -/
def execVopen (id : Nat) (s : State) : Host.Outcome State Fault Refusal :=
  .next (s.underOp id (fun s => s.poolRun id .vopen noMore (versionEffect false State.vopen)))
/-- VCLOSE (R323). -/
def execVclose (id : Nat) (s : State) : Host.Outcome State Fault Refusal :=
  .next (s.underOp id (fun s => s.poolRun id .vclose noMore (versionEffect false State.vclose)))
/-- VDRAFT (R323). -/
def execVdraft (id : Nat) (s : State) : Host.Outcome State Fault Refusal := .next (s.underOp id (fun s => s.vdraftRun id))
/-- VDRAFT_COPY_DONE (R323). -/
def execVdraftCopyDone (id : Nat) (env : VaultEnv) (s : State) : Host.Outcome State Fault Refusal := .next (s.underOp id (fun s => s.vdraftCopyDone id env))
/-- VPUBLISH: it follows every earlier write of its source, as a FLUSH does (R323). -/
def execVpublish (id : Nat) (s : State) : Host.Outcome State Fault Refusal :=
  .next (s.underOp id (fun s => s.poolRun id .vpublish noMore (versionEffect true State.vpublish)))
/-- VRELEASE (R323). -/
def execVrelease (id : Nat) (s : State) : Host.Outcome State Fault Refusal :=
  .next (s.underOp id (fun s => s.poolRun id .vrelease noMore (versionEffect true State.vrelease)))
/-- POOL_VER_RESET (R324). -/
def execPoolVerReset (region : W16) (slot : Fin 16) (s : State) : Host.Outcome State Fault Refusal :=
  .next (s.verReset region.toNat slot)
/-- GRANT: a write of POOL_EXT_i with GRANT = 1 (R309). -/
def execGrant (i : Fin 16384) (space : Fin 4) (base : Fin 16777216) (rw ro : Byte) (s : State) : Host.Outcome State Fault Refusal :=
  .next (s.grant i space base rw.toNat ro.toNat)
/-- EXTENT_REVOKE: a write to POOL_EXT_REVOKE (R325). -/
def execExtentRevoke (i : Fin 16384) (s : State) : Host.Outcome State Fault Refusal := .next (s.extentRevoke i)
/-- REVOKE_DRAIN_TIMEOUT (R325). -/
def execRevokeDrainTimeout (i : Fin 16384) (s : State) : Host.Outcome State Fault Refusal := .next (s.revokeTimeout i)
/-- EXTENT_FREE (R325). -/
def execExtentFree (i : Fin 16384) (s : State) : Host.Outcome State Fault Refusal := .next (s.extentFree i)
/-- LIMITER_REFILL (R312). -/
def execLimiterRefill (s : State) : Host.Outcome State Fault Refusal := .next s.limiterRefill

end Sys2Proof.Machine
end

