-- ==== Sys2Proof/Machine/Pair.lean ====
section
/-! DEFINITION. The mirrored pair (chapter 18): identity and states, mirrored writes, comparison of kernels, replicated
pool operations, loss and failover, formation and resynchronisation. The spec gives the contents of the pair's traffic;
its form on the wire is left to the action that sends it. -/

namespace Sys2Proof.Machine

/-! ## Identity (R412 to R415) -/

/-- Pair states (Table 18-6). -/
def psUnpaired : Nat := 0
def psForming : Nat := 1
def psPaired : Nat := 2
def psHeld : Nat := 3
def psSolo : Nat := 4
def psDetached : Nat := 5
def psResync : Nat := 6
def psSplit : Nat := 7

/-- The pair's state. -/
def State.pairState (s : State) : Nat := s.f F.PAIR_STS_STATE

/-- The MIRROR record in force. -/
def State.mirror (s : State) : Option Mirror := s.epoch.active.str.mirror

/-- Whether this side is the senior. -/
def State.senior (s : State) : Bool := s.f F.PAIR_STS_SENIOR == 1

/-- Whether this side is side B. -/
def State.sideB (s : State) : Bool := match s.mirror with | some m => m.roleB | none => false

/-- Every mirrored page, as in the dirty map. -/
def State.mirroredPages (s : State) : List Nat :=
  match s.mirror with
  | some m => m.ranges.flatMap (fun r => (List.range r.pages).map (fun i => pageKey r.space (r.base + i)))
  | none => []

/-- Whether a range touches a mirrored page, and whether all of it is mirrored. -/
def State.touchesMirror (s : State) (a : PA) (n : Nat) : Bool := (pagesOf a n).any (s.mirroredPage (spaceOf a))
def State.allMirrored (s : State) (a : PA) (n : Nat) : Bool := n != 0 && (pagesOf a n).all (s.mirroredPage (spaceOf a))

/-- Whether both ends of a range lie in one mirrored range (R421). -/
def State.inOneMirror (s : State) (a : PA) (n : Nat) : Bool :=
  let b : PA := BitVec.ofNat 56 (a.toNat + n - 1)
  n != 0 &&
    (match s.mirror with
    | some m => m.ranges.any (fun r =>
        r.space == spaceOf a && r.space == spaceOf b && inPages (pageOf a) r.base r.pages && inPages (pageOf b) r.base r.pages)
    | none => false)

/-- The body of the MIRROR record with ROLE taken as 0, and its digest (R413). -/
def Mirror.body (m : Mirror) : Bytes :=
  leBytes 2 m.pairNode.toNat ++ leBytes 2 m.partnerNode.toNat ++ leBytes 2 0 ++ leBytes 2 m.ranges.length ++ leBytes 8 0 ++
    m.ranges.flatMap (fun r => leBytes 4 r.space ++ leBytes 4 r.pages ++ leBytes 8 r.base)
def State.pairDigest (s : State) : Nat := match s.mirror with | some m => (crc32c m.body).toNat | none => 0

/-! ## Traffic -/

/-- The mirror port that die d sends by: its own, or the other over the bridge (R417). -/
def State.mxFor (s : State) (d : Nat) : Option Nat :=
  if s.portActive (16 + d) then some (16 + d) else if s.portActive (17 - d) then some (17 - d) else none

/-- Sends something to the partner from a die. -/
def State.pairSend (s : State) (d : Nat) (m : PairMsg) : State :=
  match s.mxFor d with
  | some p => s.emit (.pair p m)
  | none => s

/-- The die that owns an address. -/
def dieOfAddr (a : PA) : Nat := dieOfCluster (ownerOf (pageOf a))

/-- A PAIR notice (R431). -/
def State.pairNotice (s : State) (event result index : Nat) : State :=
  s.noticeTo (s.f F.PAIR_CFG_ARBITER_NODE) 0 ntPair
    (leBytes 1 event ++ leBytes 1 s.pairState ++ leBytes 1 (if s.sideB then 1 else 0) ++ leBytes 1 result ++
      leBytes 4 (s.f F.PAIR_STS_DIRTY_PAGES) ++ leBytes 4 index ++ leBytes 4 0)

/-- An event of the pair. -/
def pairEvent (code : Nat) (tag : Tag) (addr : Nat) : Event := { code := code, tag := tag, addr := addr }

/-! ## Pages that wait for a copy (R420, R429) -/

/-- The pages of the directory, heap and expansion areas of a PACKED region. -/
def Region.areaPages (r : Region) : List Nat :=
  ((List.range r.dirPages).map (fun i => r.dirBase + i) ++ (List.range r.heapPages).map (fun i => r.heapBase + i) ++
    (List.range r.expPages).map (fun i => r.expBase + i)).map (pageKey r.space)

/-- Whether a page of memory waits for its copy: a logical page waits while a page of its region's areas does. -/
def State.pageAwaits (s : State) (space page : Nat) : Bool :=
  match s.packedAt space page with
  | some r => r.areaPages.any (fun k => s.pair.await.contains k)
  | none => s.pair.await.contains (pageKey space page)

/-- Whether a range touches a page that waits for its copy. -/
def State.awaitsCopy (s : State) (a : PA) (n : Nat) : Bool :=
  decide (spaceOf a ≤ 2) && (pagesOf a n).any (s.pageAwaits (spaceOf a))

/-- Whether a mirrored range touches a page of a fenced cluster (R420). -/
def State.touchesFenced (s : State) (a : PA) (n : Nat) : Bool := (pagesOf a n).any (fun p => s.clusterFenced (ownerOf p))

/-- Whether a read of a mirrored range goes to the partner (Table 18-1, R420). -/
def State.readsByPartner (s : State) (a : PA) (n : Nat) : Bool :=
  decide (spaceOf a ≤ 2) && s.touchesMirror a n &&
    ((s.pairState == psPaired && (s.touchesFenced a n || s.awaitsCopy a n)) || (s.pairState == psResync && s.awaitsCopy a n))

/-! ## Mirrored writes (R416 to R420) -/

/-- Whether forwarded writes are dual commits now. -/
def State.mirroring (s : State) : Bool := s.pairState == psPaired || s.pairState == psResync

/-- Forwarded writes of a die that have not taken effect (R418). -/
def State.fwdCount (s : State) (d : Nat) : Nat :=
  ((s.pair.out ++ s.pair.inbox.filter (fun (w : PairWrite) => w.own)).filter (fun (w : PairWrite) =>
    dieOfAddr w.a == d && (w.own || w.seq.isNone || w.openId.isSome || w.op.isSome))).length

/-- Sets the pair's part of the state. -/
def State.setPair (s : State) (p : Pair) : State := { s with pair := p }

/-- The tiles of a PACKED region whose directory entry lies in a range. -/
def Region.tilesIn (r : Region) (a : PA) (n : Nat) : List TileRef :=
  ((List.range 8).flatMap (fun c => (List.range (512 * (r.pages / 8))).map (fun t => (⟨r, c, t⟩ : TileRef)))).filter
    (fun x => decide (a.toNat ≤ x.dirAddr.toNat) && decide (x.dirAddr.toNat < a.toNat + n))

/-- A piece of a page's copy is written as it lies; where it brings directory entries, the counts of table slots and
what the tiles hold of their shares follow them. -/
def State.applyPiece (s : State) (w : PairWrite) : State :=
  let write (s : State) : State :=
    (s.writeRange w.a w.data w.tag).forEach w.mask (fun s g => s.poisonPool (BitVec.ofNat 56 (w.a.toNat + 128 * g)))
  match s.regions.find? (fun r => r.packed && r.space == spaceOf w.a && inPages (pageOf w.a) r.dirBase r.dirPages) with
  | none => write s
  | some r =>
    let ts := r.tilesIn w.a w.data.length
    let s := s.forEach ts (fun s x => s.slotCount (s.peekDir x) false)
    let s := write { s with mint := { s.mint with
      alloc := s.mint.alloc.filter (fun e => !ts.any (fun x => x.addr.toNat == e.1)) } }
    s.forEach ts (fun s x => (s.slotCount (s.peekDir x) true).baseInvalidate x.addr.toNat)

/-- A forwarded write is applied here: the state, and whether a tile kept its contents because its share is full. -/
def State.applyWrite (s : State) (w : PairWrite) : State × Bool :=
  let r := s.writeWork w.a w.data w.mask ⟨0, 0, 2, w.tag⟩
  (r.1, r.2.left)

/-- Where applying a forwarded write here must wait for a repair or a table's install: the state with that repair started. -/
def State.writeWaits (s : State) (w : PairWrite) : Option State :=
  if w.lastOf.isSome || (w.own && w.alone) then none
  else
    let r := s.writeWork w.a w.data w.mask ⟨0, 0, 2, w.tag⟩
    if r.2.wait then some (s.retry r.1) else none

/-- A forwarded write has taken effect: its request is answered. -/
def State.mirrorDone (s : State) (w : PairWrite) : State :=
  match w.openId with
  | some i =>
    match s.opens.find? (fun o => o.id == i) with
    | some o => s.finish o (if w.full then stDenied else stOk) 0 []
    | none => s
  | none => s

/-- Both sides are PAIRED again or as before: the state changes, comparisons end unless they may wait, and the arbiter
is told of every change but a loss. -/
def State.setPairState (s : State) (st : Nat) : State :=
  let s := s.setF F.PAIR_STS_STATE st
  if st = psHeld then s else s.pairNotice 2 0 (2 ^ 32 - 1)

/-- The senior gives a write of its own the next place, applies it and sends it (R417). -/
def State.placeOwn (s : State) (w : PairWrite) : State :=
  let q := s.pair.nextSeq
  let r := if w.alone then (s, false) else s.applyWrite w
  let s := r.1.setPair { r.1.pair with nextSeq := q + 1, out := r.1.pair.out ++ [{ w with seq := some q, full := r.2, own := false }] }
  s.pairSend (dieOfAddr w.a) (.write q w.a w.data w.mask w.tag w.alone)

/-- A write to mirrored memory is accepted while the pair mirrors: the senior places it, unless it or an earlier one must wait
first; the other side sends it to the senior (R417). -/
def State.mirrorStart (s : State) (a : PA) (data : Bytes) (mask : List Nat) (tag : Tag) (openId op lastOf : Option Nat) : State :=
  let id := s.nextId
  let alone := s.touchesFenced a data.length
  let s := s.nextReq
  let s := if lastOf.isSome then s else (s.addF F.PAIR_FWD_WRITES_COUNT 1).addF F.PAIR_FWD_BYTES_COUNT data.length
  let w : PairWrite := ⟨id, none, a, data, mask, tag, alone, openId, op, lastOf, false, false⟩
  if s.senior then
    match s.writeWaits { w with own := true }, s.pair.inbox with
    | none, [] => s.placeOwn w
    | held, inbox => (held.getD s).setPair { s.pair with inbox := inbox ++ [{ w with own := true }] }
  else
    let s := s.setPair { s.pair with out := s.pair.out ++ [w] }
    s.pairSend (dieOfAddr a) (.request id a data mask tag alone)

/-- A mirrored page of the other side is marked dirty by a write that only this side applied (R420). -/
def State.dirtyAlone (s : State) (w : PairWrite) : State :=
  if w.alone then s.forEach (pagesOf w.a w.data.length) (fun s p => s.markDirty (pageKey (spaceOf w.a) p)) else s

/-- A piece that is not the last of its page carries this in place of the page. -/
def notLast : Nat := 2 ^ 40

/-- No page waits for a copy any more: RESYNC ends (R429). -/
def State.resyncDone (s : State) : State :=
  if s.pairState = psResync ∧ s.pair.dirty.isEmpty ∧ s.pair.await.isEmpty then s.setPairState psPaired else s

/-- The last piece of a page has been applied on the other side (R429). -/
def State.pageCopied (s : State) (w : PairWrite) : State :=
  match w.lastOf with
  | some k =>
    if k = notLast then s
    else
      let s := (s.setDirty (s.pair.dirty.filter (fun j => j != k)) s.pair.await).addF F.PAIR_RESYNC_PAGES_COUNT 1
      s.resyncDone
  | none => s

/-- A page's copy has arrived whole. -/
def State.pageArrived (s : State) (w : PairWrite) : State :=
  match w.lastOf with
  | some k => if k = notLast then s else s.setDirty s.pair.dirty (s.pair.await.filter (fun j => j != k))
  | none => s

/-- One sequenced write is applied on the other side and acknowledged. A piece of this side's own copy is not applied
here. -/
def State.applyInbox (s : State) (w : PairWrite) (q : Nat) : State :=
  let r :=
    if w.own then (if w.alone || w.lastOf.isSome then (s, false) else s.applyWrite w)
    else if w.lastOf.isSome then (s.applyPiece w, false)
    else let x := s.applyWrite w; (x.1.dirtyAlone w, x.2)
  let s := r.1.setPair { r.1.pair with applied := q + 1, inbox := r.1.pair.inbox.filter (fun (x : PairWrite) => x.seq != some q) }
  let s := if w.own then s.pageCopied w else s.pageArrived w
  let s := (s.mirrorDone { w with full := r.2 }).pairSend (dieOfAddr w.a) (.ack q)
  s.resyncDone

/-- The senior places a write of the other side, applies it and returns the place (R417). -/
def State.placeOther (s : State) (w : PairWrite) : State :=
  let q := s.pair.nextSeq
  let r := s.applyWrite w
  let s := r.1.dirtyAlone w
  let s := s.setPair { s.pair with nextSeq := q + 1, out := s.pair.out ++ [{ w with seq := some q }] }
  s.pairSend (dieOfAddr w.a) (.order w.id q)

/-- The write that comes next here: on the senior the oldest that it has not placed, on the other side the one that has the
next place (R417). -/
def State.inboxNext (s : State) : Option PairWrite :=
  s.pair.inbox.find? (fun (w : PairWrite) => if s.senior then w.seq.isNone else w.seq == some s.pair.applied)

/-- The write that comes next is placed or applied. -/
def State.inboxStep (s : State) (w : PairWrite) : State :=
  match w.seq with
  | some q => s.applyInbox w q
  | none =>
    let s := s.setPair { s.pair with inbox := s.pair.inbox.filter (fun (x : PairWrite) => x.seq.isSome || x.id != w.id || x.own != w.own) }
    if w.own then s.placeOwn w else s.placeOther w

/-- The writes here are placed or applied in order while the next one is here and need not wait (R370, R417). -/
def State.drainInbox (s : State) : Nat → State
  | 0 => s
  | n + 1 =>
    match s.inboxNext with
    | some w =>
      match s.writeWaits w with
      | some s => s
      | none => State.drainInbox (s.inboxStep w) n
    | none => s

/-- Applies what can be applied now. -/
def State.drainWrites (s : State) : State := s.drainInbox s.pair.inbox.length

/-- Puts a write in its place and applies what can be applied. -/
def State.enterInbox (s : State) (w : PairWrite) : State :=
  (s.setPair { s.pair with inbox := s.pair.inbox ++ [w] }).drainWrites

/-- A forwarded write arrives (R417): from the senior with its place, or from the other side for the senior to place. -/
def State.mirrorWriteRx (s : State) (seq : Option Nat) (id : Nat) (a : PA) (data : Bytes) (mask : List Nat) (tag : Tag)
    (alone : Bool) : State :=
  if !(s.mirroring || s.pairState == psHeld) then s
  else
    match seq with
    | some q =>
      if s.senior ∨ q < s.pair.applied then s
      else s.enterInbox ⟨s.nextId, some q, a, data, mask, tag, alone, none, none, none, false, false⟩
    | none =>
      if !s.senior then s
      else s.enterInbox ⟨id, none, a, data, mask, tag, alone, none, none, none, false, false⟩

/-- The partner's acceptance: an acknowledgement of a sequenced write, or the place of a write that this side asked to
have sequenced (R417). -/
def State.mirrorAckRx (s : State) (seq : Nat) (id : Option Nat) : State :=
  match id with
  | none =>
    match s.pair.out.find? (fun (w : PairWrite) => w.seq == some seq) with
    | none => s
    | some w =>
      let s := s.setPair { s.pair with out := s.pair.out.filter (fun (x : PairWrite) => x.seq != some seq) }
      (s.mirrorDone w).pageCopied w
  | some i =>
    match s.pair.out.find? (fun (w : PairWrite) => w.id == i && w.seq.isNone) with
    | none => s
    | some w =>
      let s := s.setPair { s.pair with out := s.pair.out.filter (fun (x : PairWrite) => !(x.id == i && x.seq.isNone)) }
      s.enterInbox { w with seq := some seq, own := true }

/-- A request that writes to mirrored memory is held with a DEFER (R426). -/
def State.holdWrite (s : State) (k : ReqKind) (q : Req) : State := s.openDeferred k q .pairHeld

/-! ## Comparison (R421 to R423) -/

/-- A mismatch entry. -/
def State.mmState (s : State) (i : Nat) : Nat := s.f (F.PAIR_MM_STATE i)

/-- The OPEN entry of a key. -/
def State.mmOf (s : State) (c : Compare) : Option Nat :=
  (List.range 8).find? (fun i => s.mmState i == 1 && s.f (F.PAIR_MM_SLOT i) == c.slot && s.f (F.PAIR_MM_TENSOR_ID i) == c.tensor &&
    (s.reg (R.PAIR_MM_STEP i)).toNat == c.step)

/-- A compared kernel ends, unless it is gone. -/
def State.compareEnds (s : State) (c : Compare) (e : KernelFin) : State :=
  match (s.core c.core).running with
  | some r => if r.uid = c.uid then s.kernelFinish c.core r e else s
  | none => s

/-- The result range of a kernel is poisoned and the kernel ends with PAIR_MISMATCH (R422, steps 1 and 2). -/
def State.mismatchEnds (s : State) (c : Compare) : State :=
  (s.poisonRanges [(c.fin.dataAddr, c.fin.dataLen)]).compareEnds c { c.fin with outcome := 2, code := 0x0A02 }

/-- The place of a new mismatch entry: the lowest FREE one, else the lowest that is not OPEN. -/
def State.mmPlace (s : State) : Option Nat :=
  ((List.range 8).find? (fun i => s.mmState i == 0)).or ((List.range 8).find? (fun i => s.mmState i != 1))

/-- A mismatch: the entry, the record and the notice (R422). -/
def State.mismatch (s : State) (c : Compare) (a b : Nat) : State :=
  let tag := match (s.core c.core).running with | some r => kdTag r.desc | none => 0
  let s := (s.mismatchEnds c).addF F.PAIR_MISMATCHES_COUNT 1
  let place := s.mmPlace
  let s := match place with
    | some i =>
      let s := s.setReg (R.PAIR_MM i) (BitVec.ofNat 64 (2 ^ 61 + 2 ^ 32 * (c.slot % 4096) + c.tensor % 2 ^ 32))
      let s := s.setReg (R.PAIR_MM_STEP i) (BitVec.ofNat 64 c.step)
      let s := s.setReg (R.PAIR_MM_FIRST i) (BitVec.ofNat 64 (a + 2 ^ 32 * b))
      s.setReg (R.PAIR_MM_RERUN i) 0
    | none => s
  (s.ledger (coreEvent 0x0A02 c.core tag 6 c.fin.dataAddr.toNat flagPoisoned)).pairNotice 3 0 (place.getD (2 ^ 32 - 1))

/-- Table 18-2. -/
def mmClass (a1 b1 a2 b2 : Nat) : Nat :=
  if a2 = b2 ∧ b2 = b1 ∧ b1 ≠ a1 then 1 else if a2 = b2 ∧ a2 = a1 ∧ a1 ≠ b1 then 2 else if a2 = a1 ∧ b2 = b1 then 3 else 4

/-- A rerun is classified (R423). -/
def State.mmClassify (s : State) (c : Compare) (i a b : Nat) : State :=
  let k := mmClass (s.f (F.PAIR_MM_FIRST_A1 i)) (s.f (F.PAIR_MM_FIRST_B1 i)) a b
  let s := (s.setReg (R.PAIR_MM_RERUN i) (BitVec.ofNat 64 (a + 2 ^ 32 * b))).setF (F.PAIR_MM_STATE i) 2
  let s := s.setF (F.PAIR_MM_RESULT i) k
  let tag := match (s.core c.core).running with | some r => kdTag r.desc | none => 0
  let s := if a = b then s else s.addF F.PAIR_MISMATCHES_COUNT 1
  let s := if k = 1 ∨ k = 2 then s.compareEnds c c.fin else s.mismatchEnds c
  (s.ledger (coreEvent 0x0A05 c.core tag 6 (i + k * 16) 0)).pairNotice 4 k i

/-- Both check values of a comparison are here. -/
def State.compareNow (s : State) (c : Compare) (theirs : Nat) : State :=
  let a := if s.sideB then theirs else c.value
  let b := if s.sideB then c.value else theirs
  let s := s.addF F.PAIR_COMPARED_COUNT 1
  match s.mmOf c with
  | some i => s.mmClassify c i a b
  | none => if a = b then s.compareEnds c c.fin else s.mismatch c a b

/-- Whether a core's kernel waits for its comparison. -/
def State.comparing (s : State) (n : Nat) (r : Running) : Bool :=
  s.pair.compares.any (fun (c : Compare) => c.core == n && c.uid == r.uid)

/-- A kernel's end after step 1 of R179: when the pair compares it, steps 2 to 7 wait for the partner's value (R421). -/
def State.kernelEnd (s : State) (n : Nat) (r : Running) (e : KernelFin) : State :=
  if s.pairState = psPaired ∧ r.armed ∧ s.inOneMirror e.dataAddr e.dataLen then
    let c : Compare := ⟨n, r.uid, kdSlot r.desc, kdTensor r.desc, r.step.toNat, e.check, s.count, e⟩
    let same (x : EarlyCheck) : Bool := x.slot == c.slot && x.tensor == c.tensor && x.step == c.step
    let s := s.pairSend (dieOfCore n) (.check c.slot c.tensor c.step c.value)
    match s.pair.early.find? same with
    | some x => (s.setPair { s.pair with early := s.pair.early.erase x }).compareNow c x.value
    | none => s.setPair { s.pair with compares := s.pair.compares ++ [c] }
  else s.kernelFinish n r e

/-- The partner's DATA_CHECK arrives. -/
def State.checkValueRx (s : State) (slot tensor step value : Nat) : State :=
  match s.pair.compares.find? (fun (c : Compare) => c.slot == slot && c.tensor == tensor && c.step == step) with
  | some c => (s.setPair { s.pair with compares := s.pair.compares.erase c }).compareNow c value
  | none =>
    if s.pairState = psPaired ∨ s.pairState = psHeld then
      s.setPair { s.pair with early := s.pair.early ++ [⟨slot, tensor, step, value⟩] }
    else s

/-- A comparison ends as though the values matched. -/
def State.uncompared (s : State) (c : Compare) : State :=
  ((s.setPair { s.pair with compares := s.pair.compares.erase c }).addF F.PAIR_UNCOMPARED_COUNT 1).compareEnds c c.fin

/-- No value within CMP_WAIT_US; in HELD pending comparisons wait. -/
def State.cmpWaitTimeout (s : State) (n : Nat) : State :=
  match s.pair.compares.find? (fun (c : Compare) => c.core == n) with
  | some c => if s.pairState = psPaired ∧ c.since + 1000 * s.f F.PAIR_CFG_CMP_WAIT_US ≤ s.count then s.uncompared c else s
  | none => s

/-- KERNEL_END: a running kernel that is not a lead of the expert service ends with what its code did (R179). -/
def State.kernelEndCmd (s : State) (n : Nat) (k : KernelRun) : State :=
  match (s.core n).running with
  | none => s
  | some r =>
    let lead := r.producer.isNone && expertIds.contains (kdKernel r.desc)
    if lead || s.coreFenced n || s.comparing n r || (s.stallOf n).isSome then s
    else
      match s.kernelOutputs n r k with
      | (s, some e) => s.kernelEnd n r e
      | (s, none) => s

/-! ## Replicated pool operations (R424) -/

/-- The source ranges that a REDUCE's list names as it stands when the operation is accepted. -/
def State.listedSources (s : State) (d : Bytes) : List (PA × Nat) :=
  if kindOf d = .sum ∨ kindOf d = .accumulate then
    (s.sourceList (s.newOp d 0 false false)).2.1.map (fun a => (a, opLen d * typeSize (opSrcType d)))
  else []

/-- Whether an operation is replicated: its destination, and all its sources, are mirrored, and the pair is PAIRED. -/
def State.replicates (s : State) (d : Bytes) : Bool :=
  s.pairState == psPaired && opFieldsOk d && !(kindOf d).isVersion && (opTargets d).length != 0 &&
    (opTargets d).all (fun w => s.allMirrored w.1 w.2) && (opReads d ++ s.listedSources d).all (fun r => s.allMirrored r.1 r.2)

/-- A replicated descriptor goes to the partner with its place. -/
def State.replicate (s : State) (key : Nat) (src : Node) (d : Bytes) : State :=
  let q := if s.senior then some s.pair.nextSeq else none
  let s := if s.senior then s.setPair { s.pair with nextSeq := s.pair.nextSeq + 1 } else s
  s.pairSend (dieOfAddr (opDst d)) (.op key q src d)

/-- An operation submitted at the door. -/
def State.poolSubmit (s : State) (k : ReqKind) (q : Req) : State :=
  let rep := s.replicates q.data
  let id := s.nextId
  let s := s.poolDoor k q rep
  if rep && s.pool.ops.any (fun o => o.id == id) then s.replicate id q.src q.data else s

/-- POOL_HOST_GO. -/
def State.poolHostSubmit (s : State) : State :=
  let rep := s.replicates s.hostDesc
  let id := s.nextId
  let d := s.hostDesc
  let s := s.poolHostGo rep
  if rep && s.pool.ops.any (fun o => o.id == id) then s.replicate id s.hostNode d else s

/-- A replicated descriptor arrives and runs at its place: the senior gives it one, the other side waits for it. -/
def State.replicatedOpRx (s : State) (seq : Option Nat) (src : Node) (d : Bytes) : State :=
  let run (s : State) : State := (s.poolQueue d src false true).nextReq
  if s.pairState ≠ psPaired then s
  else
    match seq with
    | some q =>
      if s.senior ∨ q ≠ s.pair.applied then s
      else (run s).setPair { (run s).pair with applied := q + 1 }
    | none => if s.senior then (run s).setPair { (run s).pair with nextSeq := s.pair.nextSeq + 1 } else s

/-- The destination of an operation goes to the partner, as it now reads (R416). -/
def State.forwardOp (s : State) (o : PoolOp) : State :=
  s.forEach ((opWrites o.desc).filter (fun w => s.touchesMirror w.1 w.2)) (fun s w =>
    let r := s.readRange w.1 w.2 2 (opTag o.desc)
    r.1.mirrorStart w.1 r.2.data (r.2.poison.map (fun p => (p.toNat - 128 * (w.1.toNat / 128)) / 128)) (opTag o.desc) none (some o.id) none)

/-- The records of a replicated operation differ: both sides poison the destination and end it with POISON. -/
def State.opMismatch (s : State) (o : PoolOp) (r : PoolResult) : State :=
  let s := s.poisonRanges (((opWrites o.desc).take 1).map (fun w => (w.1, w.2)))
  let s := s.addF F.PAIR_MISMATCHES_COUNT 1
  let s := s.ledger { poolEvent 0x0A02 o (opDst o.desc).toNat with flags := flagPoisoned }
  s.poolEnd o { r with status := stPoison }

/-- POOL_OP_END of an operation whose effects are made. A replicated one sends its record and ends once the partner's is
here; one whose destination is mirrored forwards it and ends once it has taken effect on both sides. -/
def State.poolOpEnd (s : State) (id : Nat) (partner : Option Bytes) : State :=
  match s.pool.ops.find? (fun o => o.id == id && !o.copying) with
  | none => s
  | some o =>
    match o.result with
    | none => s
    | some r =>
      if !s.opMapped o then s
      else if o.replicated && (s.pairState == psPaired || s.pairState == psHeld) then
        let s := if o.forwarded then s else (s.setOp { o with forwarded := true }).pairSend (dieOfAddr (opDst o.desc)) (.opResult id r.bytes)
        match partner with
        | none => s
        | some b => if b = r.bytes then s.poolEnd o r else s.opMismatch o r
      else if o.replicated || o.forwarded || !s.mirroring || !(opWrites o.desc).any (fun w => s.touchesMirror w.1 w.2) then
        if s.pair.out.any (fun (w : PairWrite) => w.op == some id) || s.pair.inbox.any (fun (w : PairWrite) => w.op == some id) then s
        else s.poolEnd o r
      else (s.setOp { o with forwarded := true }).forwardOp { o with forwarded := true }

/-! ## Loss and failover (R426, R427) -/

/-- Every state but UNPAIRED sends heartbeats on every ACTIVE mirror port, every 10 µs of the global count. -/
def State.heartbeatSend (s : State) : State :=
  if s.pairState = psUnpaired ∨ s.count < s.pair.beatAt + 10000 then s
  else (s.setPair { s.pair with beatAt := s.count }).forEach ([16, 17].filter s.portActive) (fun s p => s.emit (.pair p .heartbeat))

/-- Open requests that wait for the pair. -/
def State.pairOpens (s : State) : List OpenReq :=
  s.opens.filter (fun o => match o.wait with | .mirror _ | .pairHeld => true | _ => false)

/-- An open request, accepted already, takes its DEFER now; a host access has none (R440). -/
def State.deferOne (s : State) (o : OpenReq) : State :=
  if o.token.isSome || o.host.isSome || decide (s.nextId ≤ o.id) then s else ({ s with opens := s.opens.filter (fun x => x.id != o.id) }).deferOpen o

/-- Insertion of an open request by its number. -/
def insertOpen (o : OpenReq) : List OpenReq → List OpenReq
  | [] => [o]
  | p :: t => if o.id ≤ p.id then o :: p :: t else p :: insertOpen o t

/-- Whether an open request waits for its order behind a deferred one and has had no DEFER yet. -/
def State.owesDefer (s : State) (p : OpenReq) : Bool :=
  p.token.isNone && p.wait == .order &&
    s.opens.any (fun (e : OpenReq) => decide (e.id < p.id) && e.token.isSome && mustFollow p.kind p.req p.host e)

/-- An open request takes its DEFER now, and so does every one that must follow it (R238), in the order of acceptance. -/
def State.deferNow (s : State) (o : OpenReq) : State :=
  let s := s.deferOne o
  s.forEach (s.opens.foldr insertOpen []) (fun s p => if s.owesDefer p then s.deferOne p else s)

/-- The heartbeats are lost: HELD. -/
def State.pairLoss (s : State) : State :=
  let quiet := decide (s.pair.heardAt + 1000 * s.f F.PAIR_CFG_LOSS_US ≤ s.count)
  if s.mirroring && (quiet || (s.mxFor 0).isNone) then
    let before := s.pairState
    let s := (s.setPairState psHeld).setF F.PAIR_STS_MAP_VALID 1
    let s := s.setPair { s.pair with heldAt := s.count }
    let s := s.ledger (pairEvent 0x0A01 0 before)
    let s := s.pairNotice 1 0 (2 ^ 32 - 1)
    let s := s.forEach s.pairOpens State.deferNow
    if s.senior then
      s.forEach s.pair.out (fun s (w : PairWrite) =>
        s.forEach (pagesOf w.a w.data.length) (fun s p => s.markDirty (pageKey (spaceOf w.a) p)))
    else s
  else s

/-- Writes that were held start once the pair mirrors again. -/
def State.resumeHeld (s : State) : State :=
  let held := s.opens.filter (fun o => o.wait == .pairHeld)
  s.forEach held (fun s o =>
    let id := s.nextId
    (s.mirrorStart o.req.addr o.req.data o.badGrains o.req.tag (some o.id) none none).setWait o.id (.mirror id))

/-- Comparisons that are pending when the pair leaves PAIRED and HELD end as matched. -/
def State.endCompares (s : State) : State :=
  (s.forEach s.pair.compares State.uncompared).setPair { (s.forEach s.pair.compares State.uncompared).pair with early := [] }

/-- The formation exchange is sent (R428). -/
def State.sendForm (s : State) : State :=
  (s.setPair { s.pair with formedAt := s.count }).pairSend 0
    (.form s.pairDigest s.pair.before (s.f F.PAIR_STS_MAP_VALID == 1) (s.f F.PAIR_STS_FRESH == 1))

/-- Requests that wait for the pair end with a status, and the forwarded writes are forgotten. -/
def State.failPair (s : State) (status : Nat) : State :=
  let l := s.pairOpens
  (s.setPair { s.pair with out := [], inbox := [] }).forEach l (fun s o => s.finish o status 0 [])

/-- A side enters FORMING. -/
def State.enterForming (s : State) : State :=
  let s := s.setPair { s.pair with before := s.pairState }
  let s := (s.endCompares.failPair stDenied).setPairState psForming
  s.sendForm

/-- A heartbeat arrives: HELD becomes PAIRED; a DETACHED or SOLO side starts a formation. -/
def State.heartbeatRx (s : State) : State :=
  if s.pairState = psUnpaired then s
  else
    let s := s.setPair { s.pair with heardAt := s.count }
    if s.pairState = psHeld then ((s.setPairState psPaired).resumeHeld).drainWrites
    else if s.mirroring then s.drainWrites
    else if s.pairState = psDetached ∨ s.pairState = psSolo then s.enterForming
    else s

/-- A held write takes effect here alone and its request ends; one that must wait for a repair or a table's install goes on as a
local write. -/
def State.applyHeld (s : State) (a : PA) (data : Bytes) (mask : List Nat) (tag : Tag) (openId : Option Nat) : State :=
  let r := s.writeWork a data mask ⟨0, 0, 2, tag⟩
  match openId with
  | none => r.1
  | some i =>
    if r.2.wait then (s.retry r.1).setWait i .busy
    else
      match s.opens.find? (fun o => o.id == i) with
      | some o => r.1.finish o (if r.2.left then stDenied else stOk) 0 []
      | none => r.1

/-- Entry to SOLO: the side becomes the senior and applies its held writes. -/
def State.enterSolo (s : State) : State :=
  let s := s.endCompares
  let s := if s.senior then s else s.setDirty s.mirroredPages []
  let s := (s.setPairState psSolo).setF F.PAIR_STS_SENIOR 1
  let waiting := s.pair.out.filter (fun (w : PairWrite) => w.seq.isNone) ++ s.pair.inbox.filter (fun (w : PairWrite) => w.own)
  let s := s.forEach (waiting.filter (fun w => w.lastOf.isNone)) (fun s (w : PairWrite) => s.applyHeld w.a w.data w.mask w.tag w.openId)
  let held := s.opens.filter (fun o => o.wait == .pairHeld)
  let s := s.forEach held (fun s o => s.applyHeld o.req.addr o.req.data o.badGrains o.req.tag (some o.id))
  s.failPair stOk

/-- Entry to DETACHED: held writes end with DENIED. -/
def State.enterDetached (s : State) : State := (s.endCompares.failPair stDenied).setPairState psDetached

/-- ARB_MS in HELD without a command. -/
def State.arbTimeout (s : State) : State :=
  if s.pairState = psHeld ∧ s.pair.heldAt + 1000000 * s.f F.PAIR_CFG_ARB_MS ≤ s.count then
    if s.senior then s.enterSolo else s.enterDetached
  else s

/-- A PAIR_CMD: its OP, its RESULT, and its effect where the state allows it. -/
def State.pairCmd (s : State) (op : Nat) (ok : Bool) (g : State → State) : State :=
  let s := (s.setF F.PAIR_CMD_OP op).setF F.PAIR_CMD_GO 0
  if ok then g (s.setF F.PAIR_CMD_RESULT 0) else s.setF F.PAIR_CMD_RESULT 1

def State.pairSolo (s : State) : State := s.pairCmd 1 (s.pairState == psHeld || s.pairState == psDetached) State.enterSolo
def State.pairDetach (s : State) : State :=
  s.pairCmd 2 (s.pairState == psHeld || s.pairState == psSolo || s.pairState == psSplit) State.enterDetached
def State.pairRejoin (s : State) : State := s.pairCmd 3 (s.pairState == psDetached || s.pairState == psSplit) State.enterForming

/-- RESET_PARTNER, sent over an ACTIVE mirror port. -/
def State.resetPartner (s : State) : State :=
  s.pairCmd 4 (s.pairState != psUnpaired && (s.mxFor 0).isSome) (fun s => s.pairSend 0 .resetPartner)

/-! ## Formation and resynchronisation (R428, R429) -/

/-- The outcome of a formation: PAIRED with a senior, or RESYNC from a source. -/
def State.formed (s : State) (source : Bool) (copy : List Nat) (sync : Bool) : State :=
  let s := s.setPair { s.pair with nextSeq := 0, applied := 0, out := [], inbox := [], copied := 0, compares := [], early := [],
                                   heardAt := s.count }
  let s := s.setF F.PAIR_STS_SENIOR (if source then 1 else 0)
  let s := if source then s.setDirty copy [] else s.setDirty [] copy
  let s := s.setPairState (if sync then psResync else psPaired)
  s.resyncDone

/-- The formation exchange arrives: Table 18-3 decides. dirty is the partner's dirty map. -/
def State.formationRx (s : State) (digest before : Nat) (mapValid fresh : Bool) (dirty : List Nat) : State :=
  if s.pairState ≠ psForming then s
  else
    let mine := s.pair.before == psSolo
    let theirs := before == psSolo
    let myFresh := s.f F.PAIR_STS_FRESH == 1
    if digest ≠ s.pairDigest then
      (s.setPair { s.pair with formedAt := s.count }).ledger (pairEvent 0x0A04 0 digest)
    else if mine && theirs then (s.setPairState psSplit).ledger (pairEvent 0x0A03 0 0)
    else if myFresh && fresh && !mine && !theirs then s.formed (!s.sideB) [] false
    else if mine then s.formed true (if s.f F.PAIR_STS_MAP_VALID = 0 ∨ fresh then s.mirroredPages else s.pair.dirty) true
    else if theirs then s.formed false (if !mapValid ∨ myFresh then s.mirroredPages else dirty) true
    else s.formed (!s.sideB) s.mirroredPages true

/-- Ten ms after an attempt with differing digests, the exchange is sent again. -/
def State.formationRetry (s : State) : State :=
  if s.pairState = psForming ∧ s.pair.formedAt + 10000000 ≤ s.count then s.sendForm else s

/-- The nanoseconds that a piece of 4 KiB takes at RESYNC_GBPS (R429). -/
def State.pieceTime (s : State) : Nat := ceilDiv 4096 (s.f F.PAIR_CFG2_RESYNC_GBPS)

/-- The source copies the next 4 KiB of its lowest dirty page, no sooner than RESYNC_GBPS lets it. A logical page of a PACKED region
carries no memory of its own, so it needs no copy. -/
def State.resyncSend (s : State) : State :=
  if s.count < s.pair.pieceAt + s.pieceTime then s
  else match s.pair.dirty.find? (fun k => !s.pair.out.any (fun (w : PairWrite) => w.lastOf == some k)) with
  | none => s
  | some k =>
    let space := k / 2 ^ 31
    let page := k % 2 ^ 31
    if (s.packedAt space page).isSome then s.pageCopied ⟨0, none, 0, [], [], 0, false, none, none, some k, false, false⟩
    else
      let a := poolAddr space (2 ^ 21 * page + s.pair.copied)
      let r := s.readRange a 4096 1 0
      match r.2.repair with
      | some g => r.1.startRepair g 0 1
      | none =>
        let s := r.1
        let q := s.pair.nextSeq
        let last := decide (2 ^ 21 ≤ s.pair.copied + 4096)
        let mask := r.2.poison.map (fun p => (p.toNat - a.toNat) / 128)
        let place := if s.senior then some q else none
        let w : PairWrite := ⟨s.nextId, place, a, r.2.data, mask, 0, false, none, none, some (if last then k else notLast), false, false⟩
        let s := s.nextReq
        let s := s.setPair { s.pair with nextSeq := if s.senior then q + 1 else q, out := s.pair.out ++ [w], pieceAt := s.count
                                         copied := if last then 0 else s.pair.copied + 4096 }
        s.pairSend (dieOfAddr a) (.piece place w.id a r.2.data mask)

/-- A piece arrives: with its place it takes its turn, without one the senior places it. -/
def State.pieceRx (s : State) (place : Option Nat) (id : Nat) (a : PA) (data : Bytes) (mask : List Nat) : State :=
  let last := decide (2 ^ 21 ≤ offsetOf a % 2 ^ 21 + data.length)
  let w : PairWrite :=
    ⟨id, place, a, data, mask, 0, false, none, none, some (if last then pageKey (spaceOf a) (pageOf a) else notLast), false, false⟩
  match place with
  | some q => if s.senior ∨ q < s.pair.applied then s else s.enterInbox w
  | none =>
    if !s.senior then s
    else
      let q := s.pair.nextSeq
      let s := ((s.applyPiece w).pageArrived w)
      (s.setPair { s.pair with nextSeq := q + 1 }).pairSend (dieOfAddr a) (.order id q)

/-- RESYNC_PIECE: with no operand the source sends its next piece; otherwise a piece arrives, with its place or its
number, its address, its bytes and its poisoned grains (R429). -/
def State.resyncPiece (s : State) (piece : Option (Option Nat × Nat × PA × Bytes × List Nat)) : State :=
  if !s.mirroring then s
  else
    match piece with
    | none => if s.senior || s.pairState == psPaired then s.resyncSend else s
    | some (place, id, a, data, mask) => s.pieceRx place id a data mask

/-- A write of STATE = 0 frees a mismatch entry (R433). -/
def State.mmFree (s : State) (i : Nat) : State :=
  s.setF (F.PAIR_MM_STATE i) 0

/-- The PAIR block under a MIRROR record that a commit has put in force, or none (R412, R428). -/
def State.pairApply (s : State) (changed : Bool) : State :=
  match s.mirror with
  | some m =>
    let s := s.setReg R.PAIR_ID (BitVec.ofNat 64 (2 ^ 48 * m.ranges.length + (if m.roleB then 2 ^ 32 else 0) + 2 ^ 16 * m.partnerNode.toNat +
      m.pairNode.toNat))
    if changed then s.enterForming else s
  | none => if changed then ((s.setReg R.PAIR_ID 0).endCompares.failPair stDenied).setF F.PAIR_STS_STATE 0 else s

/-! ## The commands -/

/-- KERNEL_END of core n's kernel, with what its code did (R179). -/
def execKernelEnd (n : Fin 16) (run : KernelRun) (s : State) : Host.Outcome State Fault Refusal := 
  .next (s.underCore n (fun s => s.kernelEndCmd n run))
/-- POOL_HOST_GO (R314). -/
def execPoolHostGo (s : State) : Host.Outcome State Fault Refusal := .next s.poolHostSubmit
/-- POOL_OP_END, with the partner's record of a replicated operation once it is here (R319, R424). -/
def execPoolOpEnd (id : Nat) (partner : Option Bytes) (s : State) : Host.Outcome State Fault Refusal := .next (s.underOp id (fun s => s.poolOpEnd id partner))
/-- MIRROR_WRITE_RX (R417). -/
def execMirrorWriteRx (seq : Option Nat) (id : Nat) (a : PA) (data : Bytes) (mask : List Nat) (tag : Tag) (alone : Bool) (s : State) :
    Host.Outcome State Fault Refusal := .next (s.mirrorWriteRx seq id a data mask tag alone)
/-- MIRROR_ACK_RX (R417). -/
def execMirrorAckRx (seq : Nat) (id : Option Nat) (s : State) : Host.Outcome State Fault Refusal := .next (s.mirrorAckRx seq id)
/-- CHECK_VALUE_RX (R421). -/
def execCheckValueRx (slot : Fin 4096) (tensor : W32) (stepCount : W64) (value : W32) (s : State) : Host.Outcome State Fault Refusal :=
  .next (s.checkValueRx slot tensor.toNat stepCount.toNat value.toNat)
/-- CMP_WAIT_TIMEOUT (R421). -/
def execCmpWaitTimeout (n : Fin 16) (s : State) : Host.Outcome State Fault Refusal := .next (s.cmpWaitTimeout n)
/-- REPLICATED_OP_RX (R424). -/
def execReplicatedOpRx (seq : Option Nat) (src : Node) (desc : Bytes) (s : State) : Host.Outcome State Fault Refusal :=
  .next (s.replicatedOpRx seq src desc)
/-- HEARTBEAT_SEND (R426). -/
def execHeartbeatSend (s : State) : Host.Outcome State Fault Refusal := .next s.heartbeatSend
/-- HEARTBEAT_RX (R426). -/
def execHeartbeatRx (s : State) : Host.Outcome State Fault Refusal := .next s.heartbeatRx
/-- PAIR_LOSS (R426). -/
def execPairLoss (s : State) : Host.Outcome State Fault Refusal := .next s.pairLoss
/-- ARB_TIMEOUT (R427). -/
def execArbTimeout (s : State) : Host.Outcome State Fault Refusal := .next s.arbTimeout
/-- PAIR_SOLO (R427). -/
def execPairSolo (s : State) : Host.Outcome State Fault Refusal := .next s.pairSolo
/-- PAIR_DETACH (R427). -/
def execPairDetach (s : State) : Host.Outcome State Fault Refusal := .next s.pairDetach
/-- PAIR_REJOIN (R428). -/
def execPairRejoin (s : State) : Host.Outcome State Fault Refusal := .next s.pairRejoin
/-- RESET_PARTNER (R427). -/
def execResetPartner (s : State) : Host.Outcome State Fault Refusal := .next s.resetPartner
/-- FORMATION_RX (R428). -/
def execFormationRx (digest : W32) (before : Fin 8) (mapValid fresh : Bool) (dirty : List Nat) (s : State) :
    Host.Outcome State Fault Refusal := .next (s.formationRx digest.toNat before mapValid fresh dirty)
/-- FORMATION_RETRY (R428). -/
def execFormationRetry (s : State) : Host.Outcome State Fault Refusal := .next s.formationRetry
/-- RESYNC_PIECE (R429). -/
def execResyncPiece (piece : Option (Option Nat × Nat × PA × Bytes × List Nat)) (s : State) : Host.Outcome State Fault Refusal :=
  .next (s.resyncPiece piece)
/-- MM_ENTRY_FREE (R433). -/
def execMmEntryFree (i : Fin 8) (s : State) : Host.Outcome State Fault Refusal := .next (s.mmFree i)

end Sys2Proof.Machine
end

