-- ==== Sys2Proof/Machine/Pins.lean ====
section
/-! DEFINITION. What the device drives its pins with during and after a reset (R458, Table 20-4, R503, R504). -/

namespace Sys2Proof.Machine

/-- Whether step k of start-up has begun since the last DEVICE or COLD reset. -/
def State.stepReached (s : State) (k : Nat) : Bool := s.f (F.AO_BOOT_STEP_PROGRESS k) != 0

/-- What a group of pins holds: the weak pull-up from the assertion of a DEVICE or COLD reset until the step of Table 20-4
releases the group, with the exceptions of R458 and R504; TDO is driven while shifting alone (R503). That the PCIe pins stay high-impedance while the endpoint is held down is
DEDUCED: its PHY is then off. -/
def State.pinDrive (s : State) : PinGroup → PinDrive
  | .inputs => .pullUp
  | .i3c => if s.stepReached 11 then .driven else .pullUp
  | .pcie => if s.stepReached 12 && !s.pep.heldDown then .driven else .highZ
  | .bootNor => if s.stepReached 13 then .driven else .inactive
  | .laser e => if s.stepReached 23 || (decide (16 ≤ e) && s.boot.lsrEarly) then .driven else .pullUp
  | .understory => if s.stepReached 18 then .driven else if s.boot.keep then .selfRefresh else .pullUp
  | .vault => if s.stepReached 22 then .driven else .inactive
  | .regulators => if s.stepReached 7 then .driven else .pullUp
  | .tdo => if s.tap.state = 4 ∨ s.tap.state = 11 then .driven else .highZ
  | .trst => .pullDown
  | .xtal => .none

/-- Whether the device drives a group of pins. -/
def State.drives (s : State) (g : PinGroup) : Bool := s.pinDrive g == .driven

/-- Whether the I3C pins are driven: step 11 has begun since the last DEVICE reset. -/
def State.i3cDriven (s : State) : Bool := s.drives .i3c

end Sys2Proof.Machine
end

