-- ==== Sys2Proof/Machine/Link.lean ====
section
/-! DEFINITION. The link layer and the device as requester (chapter 9): flits received, credits, replay, initialisation
and retraining; answers to the device's own requests (R243); counter synchronisation (R244 to R246). -/

namespace Sys2Proof.Machine

/-! ## Port states -/

def lkDown : Nat := 0
def lkTraining : Nat := 1
def lkInit : Nat := 2
def lkActive : Nat := 3
def lkRetrain : Nat := 4

/-- A port's link state. -/
def State.linkState (s : State) (p : Nat) : Nat := s.f (F.JX_PORT_STS_STATE p)

/-- A tally of a port: 0 FLITS_TX, 1 FLITS_RX, 2 BAD_FLITS, 3 REPLAYS, 4 RS_BYTES, 5 DEFERS, 6 DROPPED. -/
def State.portTally (s : State) (p i n : Nat) : State := s.addF (F.JX_PORT_TALLY_COUNT p i) n

/-- An event of a port. -/
def portEvent (code p addr : Nat) : Event := { code := code, die := dieOfPort p, unitKind := 1, unit := p, addr := addr }

/-- Changes a port's link state. -/
def State.updPort (s : State) (p : Nat) (g : Port → Port) : State := s.setPort p (g (s.port p))

/-- The sizes of the receive buffers (R227). -/
def bufferSizes : List Nat := [256, 256, 64, 32]

/-- Adds to one place of a list of four. -/
def bumpAt (l : List Nat) (i n : Nat) : List Nat := l.set i (l.getD i 0 + n)
def dropAt (l : List Nat) (i n : Nat) : List Nat := l.set i (l.getD i 0 - n)

/-- An unnumbered flit of a type and payload as the port sends it now. -/
def State.bareFlit (s : State) (p ftype : Nat) (nak : Bool) (payload : Bytes) : Flit :=
  { s.stamp p 0 { ftype := ftype, tag := 0, src := s.node, dst := 0, txn := 0, load := s.loadOf p, attr := 0, crVc := 0, crCount := 0,
                  lseq := 0, lvalid := true, nak := false, payload := payload ++ List.replicate (240 - payload.length) 0 } with nak := nak }

/-! ## Retraining and loss of the link (R232) -/

/-- A training attempt starts at a step: 1 for a port that is DOWN, 3 for a retrain, which keeps the filters and enables the
channels that the port's width had turned off (R255). The lanes lock anew, on good blocks. -/
def State.startTraining (s : State) (e step : Nat) : State :=
  let x := s.optic e
  let y := { x with attemptAt := s.count, stepAt := s.count, locked := 0, heard := List.replicate 8 8, peerPhase := 0,
                    peerWidth := 0, width := if s.lanes8 e then 8 else 4, back := 255 - s.f (F.OPT_LASER_CH_ON e) }
  let s := ((s.addF (F.OPT_TRAINS_COUNT e) 1).setF (F.OPT_STS_STATE e) step).setF (F.OPT_STS_RX_GOOD e) 0
  if step = 1 then
    (s.setOptic e { y with phase := 0, filter := List.replicate 8 (0, 0), acks := List.replicate 8 0,
                           reqs := List.replicate 8 0 }).lasers e 0xFF
  else ((s.setOptic e { y with phase := 2, reqs := s.freshReqs }).lasers e 0xFF).sendBlocks e

/-- A retrain of a port whose optics are UP keeps the replay state and the filters (R232, R255); during an attempt a
request has no further effect (R258). -/
def State.retrainPort (s : State) (p : Nat) : State :=
  if s.f (F.OPT_STS_STATE p) = 7 then
    let keep := s.linkState p == lkActive || (s.port p).kept
    ((s.setF (F.JX_PORT_STS_STATE p) lkRetrain).updPort p (fun pt => { pt with kept := keep })).startTraining p 3
  else s

/-- A retrain with its record: four replays without progress, or a protocol error. -/
def State.linkRetrain (s : State) (p : Nat) : State :=
  (s.ledger (portEvent 0x0101 p (s.f (F.JX_PORT_STS_TX_ACKED p)))).retrainPort p

/-- A token whose completion notice is acknowledged, or lost with its port, is free again (R236). -/
def State.freeTokens (s : State) (l : List TokenWait) : State := s.forEach l (fun s (w : TokenWait) => s.freeTokenAt w.index)

/-- The action that a write of 1 to RETRAIN or OPT_LASER.RESET started is over (Table 0-2). -/
def State.retrainOver (s : State) (p : Nat) : State := (s.setF (F.JX_PORT_CFG_RETRAIN p) 0).setF (F.OPT_LASER_RESET p) 0

/-- A port goes DOWN: partly received messages and unacknowledged flits are dropped, and what waits is routed again. The
requests that it has received whole go on. -/
def State.linkDown (s : State) (p : Nat) : State :=
  let pt := s.port p
  let s := (s.setF (F.JX_PORT_STS_STATE p) lkDown).retrainOver p
  let s := s.setPort p { pt with partials := [], replay := [], queue := [], tokenWaits := [], rx := .normal, dup := 0
                                 initSeen := false, kept := false, carried := pt.carried ++ pt.staged, staged := []
                                 held := [0, 0, 0, 0] }
  (s.freeTokens pt.tokenWaits).forEach pt.queue (fun s q => s.sendBy (q.msg.sentAt s.count) (some p))

/-- A port and its laser channels are turned OFF (R258). -/
def State.portOff (s : State) (p : Nat) : State := ((s.setF (F.OPT_STS_STATE p) 0).lasers p 0).linkDown p

/-! ## Credits (R227, R228, R235, R418) -/

/-- Requests of the REQ channel in a port's receive buffer, the partly received ones among them. -/
def Port.requests (pt : Port) : Nat :=
  (pt.staged.filter (fun r => !r.1.isCreq)).length + (pt.partials.filter (fun x => x.vc == 0)).length

/-- Whether a port may return REQ credits: the device is in service (R462), the tokens it can still draw exceed the requests
it holds (R235), and its die's forwarded writes are below their limit (R418). -/
def State.mayReturnReq (s : State) (p : Nat) : Bool :=
  s.inService && decide ((s.port p).requests < s.tokensLeft p) && decide (s.fwdCount (dieOfPort p) < 2048)

/-- The credits of a channel owed to the peer. -/
def State.owed (s : State) (p vc : Nat) : Nat :=
  if vc = 0 ∧ !s.mayReturnReq p then 0 else (s.port p).freed.getD vc 0 - (s.port p).announced.getD vc 0

/-- An IDLE flit announces at most 63 credits of a channel, so that the count modulo 64 tells them (R227). -/
def State.announce (s : State) (p vc : Nat) : State :=
  let n := clampTo 63 (s.owed p vc)
  if n = 0 then s
  else
    let s := s.updPort p (fun pt => { pt with announced := bumpAt pt.announced vc n })
    s.sendFlit p (s.stamp p vc (s.bareFlit p 0 false []))

/-- Announces every channel on which credits are owed (R227): five flits tell all that a buffer of 256 can owe. -/
def State.creditTimer (s : State) (p : Nat) : State :=
  if s.linkState p ≠ lkActive then s
  else s.forEach (List.range 20) (fun s i => s.announce p (i / 5))

/-- Flits of a channel taken from a port's receive buffer: 63 credits owed are announced at once (R227). -/
def State.freeHeld (s : State) (p vc n : Nat) : State :=
  let s := s.updPort p (fun pt => { pt with held := dropAt pt.held vc n, freed := bumpAt pt.freed vc n, freedAt := s.count })
  if s.linkState p = lkActive ∧ 63 ≤ s.owed p vc then s.announce p vc else s

/-- Whether the peer holds no credit for a flit of a channel. -/
def State.noCredit (s : State) (p vc : Nat) : Bool :=
  let pt := s.port p
  decide (bufferSizes.getD vc 0 ≤ pt.held.getD vc 0 + (pt.freed.getD vc 0 - pt.announced.getD vc 0))

/-! ## Replay (R231) -/

/-- Sends REPLAY with the first unacknowledged number and every held flit. -/
def State.replayAll (s : State) (p : Nat) : State :=
  let acked := s.f (F.JX_PORT_STS_TX_ACKED p)
  let pt := s.port p
  let run := if pt.ackedAtReplay = acked then s.f (F.JX_PORT_STS_REPLAY_RUN p) + 1 else 0
  let s := s.sendFlit p (s.bareFlit p 1 false ([2, 0, 0, 0] ++ leBytes 2 acked))
  let s := s.forEach pt.replay (fun s f => s.sendFlit p (s.stamp p 0 f))
  let s := (s.portTally p 3 1).setF (F.JX_PORT_STS_REPLAY_RUN p) run
  let s := s.setPort p { s.port p with ackedAtReplay := acked, progressAt := s.count }
  if 4 ≤ run then (s.setF (F.JX_PORT_STS_REPLAY_RUN p) 0).linkRetrain p else s

/-- LSEQ with LVALID: the flits before it are free. A number that is not outstanding breaks the protocol. -/
def State.ackTo (s : State) (p n : Nat) : State :=
  let acked := s.f (F.JX_PORT_STS_TX_ACKED p)
  let k := (n + 1024 - acked) % 1024
  let pt := s.port p
  if k = 0 then s
  else if pt.replay.length < k then s.linkRetrain p
  else
    let done (w : TokenWait) : Bool := decide ((n + 1023 - w.last) % 1024 < 512)
    let s := s.setF (F.JX_PORT_STS_TX_ACKED p) n
    let s := s.setPort p { pt with replay := pt.replay.drop k, progressAt := s.count, tokenWaits := pt.tokenWaits.filter (fun w => !done w) }
    (s.freeTokens (pt.tokenWaits.filter done)).pump p (pt.queue.length + 1)

/-- The link fields of a received flit: credits, acknowledgement and NAK. -/
def State.linkFields (s : State) (p : Nat) (f : Flit) : State :=
  let pt := s.port p
  let n := (f.crCount + 64 - pt.crSeen.getD f.crVc 0) % 64
  let s := s.setPort p { pt with crSeen := pt.crSeen.set f.crVc (f.crCount % 64) }
  let s := s.satF (creditFld p f.crVc) n
  let s := if n = 0 then s else s.pump p (pt.queue.length + 1)
  let s := if f.lvalid then s.ackTo p f.lseq else s
  if f.nak then s.replayAll p else s

/-- A bad flit: the receiver sends a NAK, once. -/
def State.badFlit (s : State) (p : Nat) : State :=
  if s.linkState p ≠ lkActive then s
  else
    let s := s.portTally p 2 1
    match (s.port p).rx with
    | .nakSent => s
    | .normal => (s.updPort p (fun pt => { pt with rx := .nakSent, nakAt := s.count })).sendFlit p (s.bareFlit p 0 true [])

/-- LCTL REPLAY, with bits [63:0] of its flit's header. -/
def State.replayRx (s : State) (p start header : Nat) : State :=
  if s.linkState p ≠ lkActive then s
  else
    let k := (s.f (F.JX_PORT_STS_RX_EXPECT p) + 1024 - start % 1024) % 1024
    if k ≤ 512 then s.updPort p (fun pt => { pt with rx := .normal, dup := k })
    else (s.ledger (portEvent 0x0103 p header)).retrainPort p

/-- The replay timer of a port: a NAK again, or a replay without progress. -/
def State.replayTimer (s : State) (p : Nat) : State :=
  if s.linkState p ≠ lkActive then s
  else
    let t := s.f (F.JX_PORT_CFG_REPLAY_NS p)
    let pt := s.port p
    let s := if pt.rx = .nakSent ∧ pt.nakAt + t ≤ s.count then
        (s.updPort p (fun pt => { pt with nakAt := s.count })).sendFlit p (s.bareFlit p 0 true [])
      else s
    if !pt.replay.isEmpty && decide (pt.progressAt + t ≤ s.count) then s.replayAll p else s

/-- An IDLE flit that acknowledges what has been taken. -/
def State.sendAck (s : State) (p : Nat) : State :=
  (s.updPort p (fun pt => { pt with lastAck := s.count, taken := 0 })).sendFlit p (s.bareFlit p 0 false [])

/-- The acknowledgement that is due at least every 100 ns. -/
def State.ackTimer (s : State) (p : Nat) : State := if s.linkState p ≠ lkActive then s else s.sendAck p

/-! ## Initialisation (R230) -/

/-- The port is ACTIVE with every counter 0 and the peer's buffers as its credits; after a retrain it keeps its counters
and replays from TX_ACKED (R232). -/
def State.linkUp (s : State) (p : Nat) (sizes : List Nat) : State :=
  let pt := s.port p
  let s := s.retrainOver p
  if pt.kept then
    let s := s.setF (F.JX_PORT_STS_STATE p) lkActive
    let s := s.updPort p (fun pt => { pt with kept := false, initSeen := false, rx := .normal, progressAt := s.count })
    if pt.replay.isEmpty then s.pump p (pt.queue.length + 1) else (s.replayAll p).pump p (pt.queue.length + 1)
  else
    let s := s.setReg (R.JX_PORT_STS p) (BitVec.ofNat 64 lkActive)
    let s := s.forEach (List.range 4) (fun s vc => s.setF (creditFld p vc) (clampTo (fldMax (creditFld p vc)) (sizes.getD vc 0)))
    let s := s.setPort p { ({} : Port) with queue := pt.queue, carried := pt.carried ++ pt.staged, progressAt := s.count }
    (s.pump p (pt.queue.length + 1)).imageAtStart

/-- LCTL INIT: one that has seen this side's makes the port ACTIVE. -/
def State.initRx (s : State) (p : Nat) (seen : Bool) (sizes : List Nat) : State :=
  if s.linkState p ≠ lkInit then s
  else if seen then s.linkUp p sizes
  else s.updPort p (fun pt => { pt with initSeen := true })

/-- The INIT flit that each side sends every 100 ns in INIT. -/
def State.initTimer (s : State) (p : Nat) : State :=
  if s.linkState p = lkInit ∧ (s.port p).initSentAt + 100 ≤ s.count then
    let body := leBytes 1 1 ++ leBytes 1 (if (s.port p).initSeen then 1 else 0) ++ leBytes 2 0 ++ bufferSizes.flatMap (leBytes 2)
    (s.updPort p (fun pt => { pt with initSentAt := s.count })).sendFlit p (s.bareFlit p 1 false body)
  else s

/-! ## The device's own requests (R243) -/

/-- What one of the device's own reads ends with, when it has failed. -/
def State.ownFailed (s : State) (o : OwnReq) : State :=
  let s := (s.ownDrop o.txn).ownTimeout o
  match o.purpose with
  | .image => s.imageLost
  | .fetch no => s.fetchFail no
  | .mirrorRead i =>
    match s.opens.find? (fun x => x.id == i) with
    | some x => s.finish x stPoison (poisonMask x.req.grains.zipIdx.unzip.2) (List.replicate x.req.len 0)
    | none => s

/-- The final answer to one of the device's own reads. -/
def State.ownDone (s : State) (o : OwnReq) (status mask : Nat) (data : Bytes) : State :=
  let s := s.ownDrop o.txn
  let bad := (List.range 32).filter (fun i => mask.testBit i)
  match o.purpose with
  | .image => s.imageAnswer status data
  | .fetch no =>
    if status = stOk ∨ status = stPoison then s.fetchPiece no o data bad
    else if o.pass then s.fetchPiece no o (List.replicate 4224 0) [0] else s.fetchFail no
  | .mirrorRead i =>
    match s.opens.find? (fun x => x.id == i) with
    | some x => s.finish x status mask data
    | none => s

/-- A message that matches no request is discarded and counted. -/
def State.unmatched (s : State) (p : Nat) : State := s.countDrop p

/-- A response arrives at a port. -/
def State.responseRx (s : State) (p : Nat) (src : Node) (txn : W16) (status : Nat) (token : W32) (mask : Nat) (data : Bytes) : State :=
  match s.ownOf txn with
  | some o =>
    if o.dst ≠ src ∨ o.token.isSome then s.unmatched p
    else if status = stDefer then
      { s with own := s.own.map (fun x => if x.txn = txn then { x with token := some token, deferAt := s.count } else x) }
    else s.ownDone o status mask data
  | none => s.unmatched p

/-- A COMPLETION notice arrives at a port. -/
def State.completionRx (s : State) (p : Nat) (src : Node) (txn : W16) (token : W32) (status mask : Nat) (data : Bytes) : State :=
  match s.ownOf txn with
  | some o => if o.dst = src ∧ o.token = some token then s.ownDone o status mask data else s.unmatched p
  | none => s.unmatched p

/-- The first-response window of an own request has passed: it is issued once more, and then it fails. -/
def State.ownReqTimeout (s : State) (txn : W16) : State :=
  match s.ownOf txn with
  | some o =>
    if o.token.isNone && decide (o.sentAt + s.f F.JX_REQ_TIMEOUT_NS ≤ s.count) then
      if o.again then s.ownFailed o else (s.ownDrop txn).ownSend { o with again := true }
    else s
  | none => s

/-- The wait for a COMPLETION has passed. -/
def State.ownDeferTimeout (s : State) (txn : W16) : State :=
  match s.ownOf txn with
  | some o =>
    if o.token.isSome && decide (o.deferAt + 1000000 * s.f F.JX_REQ_TIMEOUT_DEFER_MS ≤ s.count) then s.ownFailed o else s
  | none => s

/-! ## Counter synchronisation (R244, R245) -/

/-- A SYNC message. -/
def State.syncMsg (s : State) (dst : Node) (kind t1 t2 t3 seq : Nat) : Msg where
  ftype := .sync
  tag := 0
  src := s.node
  dst := dst
  txn := 0
  attr := 0
  payload := leBytes 1 kind ++ List.replicate 7 0 ++ leBytes 8 t1 ++ leBytes 8 t2 ++ leBytes 8 t3 ++ leBytes 8 seq

/-- A SYNC request, stamped T2 on its arrival, is answered with a reply stamped T3. -/
def State.syncRequest (s : State) (src : Node) (t1 t2 t3 seq : Nat) : State := s.sendRouted (s.syncMsg src 2 t1 t2 t3 seq)

/-- Whether this device follows a master. -/
def State.follower (s : State) : Bool := s.f F.JX_SYNC_CFG_ROLE == 1

/-- An accepted sample of a port: the counter steps or slews, and LOCKED follows. -/
def State.syncAccept (s : State) (p : Nat) (theta d : Int) : State :=
  let s := s.setF F.JX_SYNC_STS_OFFSET (BitVec.ofInt 32 theta).toNat
  let s := s.setF F.JX_SYNC_STS_DELAY (BitVec.ofInt 16 (d / 16)).toNat
  let s := if 16000000 < theta.natAbs then s.ledger { code := 0x0108, die := dieOfPort p, unitKind := 1, unit := p, addr := (BitVec.ofInt 64 (theta / 16)).toNat } else s
  let good := if theta.natAbs ≤ 64 then s.sync.good + 1 else 0
  let s := if 256 < theta.natAbs then s.setF F.JX_SYNC_STS_LOCKED 0 else if 3 ≤ good then s.setF F.JX_SYNC_STS_LOCKED 1 else s
  if 16000 < theta then
    let t := s.count + (theta / 16).toNat
    { s with count := t, sync := { s.sync with slew := 0, good := good, acceptedAt := t } }
  else { s with sync := { s.sync with slew := theta, slewAt := s.count, good := good, acceptedAt := s.count } }

/-- A SYNC reply arrives, stamped T4: the sample is rejected when its delay is 64 ns above the least of the last eight. -/
def State.syncReply (s : State) (p t1 t2 t3 t4 seq : Nat) : State :=
  if !s.follower || seq != s.sync.seq then s.unmatched p
  else
    let theta : Int := (((t2 : Int) - t1) + ((t3 : Int) - t4)) / 2
    let d : Int := (((t4 : Int) - t1) - ((t3 : Int) - t2)) / 2
    let old := s.sync.delays
    let ok := old.all (fun x => decide (d ≤ x + 1024)) || !old.any (fun x => old.all (fun y => decide (x ≤ y)) && decide (x + 1024 < d))
    let s := { s with sync := { s.sync with delays := (old ++ [d]).drop ((old.length + 1) - 8) } }
    if ok then s.syncAccept p theta d else s

/-- Every INTERVAL_US a follower sends a request; four intervals without an accepted sample clear LOCKED. -/
def State.syncInterval (s : State) : State :=
  let t := 1000 * s.f F.JX_SYNC_CFG_INTERVAL_US
  if !s.follower || decide (s.count < s.sync.sentAt + t) then s
  else
    let s := if s.sync.acceptedAt + 4 * t ≤ s.count then s.setF F.JX_SYNC_STS_LOCKED 0 else s
    let q := s.sync.seq + 1
    let s := { s with sync := { s.sync with seq := q, sentAt := s.count } }
    s.sendRouted (s.syncMsg (BitVec.ofNat 16 (s.f F.JX_SYNC_CFG_MASTER_NODE)) 1 (16 * s.count) 0 0 q)

/-- Every 256 ns a slewing follower adds 1 ns or withholds the next. -/
def State.syncSlew (s : State) : State :=
  let y := s.sync
  if s.count < y.slewAt + 256 then s
  else if 16 ≤ y.slew then { s with count := s.count + 1, sync := { y with slew := y.slew - 16, slewAt := s.count } }
  else if y.slew ≤ -16 then { s with sync := { y with slew := y.slew + 16, slewAt := s.count, withhold := true } }
  else s

/-! ## Receiving (R216, R219 to R225, R242) -/

/-- The flit that 256 bytes spell. -/
def flitOf (b : Bytes) : Flit :=
  let h := fieldLe b 0 12
  { ftype := bitsOf h 3 0, tag := BitVec.ofNat 12 (bitsOf h 15 4), src := BitVec.ofNat 16 (bitsOf h 31 16)
    dst := BitVec.ofNat 16 (bitsOf h 47 32), txn := BitVec.ofNat 16 (bitsOf h 63 48), load := bitsOf h 67 64
    attr := bitsOf h 75 68, crVc := bitsOf h 77 76, crCount := bitsOf h 83 78, lseq := bitsOf h 93 84
    lvalid := h.testBit 94, nak := h.testBit 95, payload := slice b 12 240 }

/-- The message type of a TYPE code; none for those that carry no message of their own. -/
def ftypeOf (c : Nat) : Option FType :=
  match c with
  | 2 => some .rd | 3 => some .wr | 4 => some .flush | 5 => some .rsp | 6 => some .rspd | 8 => some .notice
  | 9 => some .creq | 10 => some .crsp | 11 => some .sync | _ => none

/-- The flits of a message, as its first flit gives them (Table 9-2). -/
def flitsOf (t : FType) (payload : Bytes) : Nat :=
  let more (n : Nat) : Nat := 1 + ceilDiv (n - 224) 240
  match t with
  | .wr => more (fieldLe payload 8 4)
  | .rspd => more (fieldLe payload 0 4)
  | .notice => more (fieldLe payload 2 2)
  | _ => 1

/-- Whether a header field that must be 0 is not (Table 9-1). -/
def attrBad (t : FType) (attr : Nat) : Bool :=
  match t with
  | .rsp | .rspd | .crsp | .notice => decide (16 ≤ attr)
  | .sync => attr != 0
  | _ => false

/-- Whether DST names the device now (R216, R414). -/
def State.names (s : State) (dst : Node) : Bool :=
  (s.node != 0 && dst == s.node) ||
    (match s.mirror with
    | some m => dst == m.pairNode && [psPaired, psHeld, psSolo, psResync].contains s.pairState
    | none => false)

/-- The request of a message. -/
def Msg.request (m : Msg) (p : Nat) : Option (ReqKind × Req) :=
  let creqOp := fieldLe m.payload 12 1
  let len := if m.ftype = .flush then 0 else fieldLe m.payload 8 4
  let q (data : Bytes) : Req :=
    { port := Fin.ofNat 18 p, src := m.src, dst := m.dst, tag := m.tag, txn := m.txn, relaxed := m.attr.testBit 0
      ordered := m.attr.testBit 1, pass := m.attr.testBit 2, epv := m.attr.testBit 3, epn := Fin.ofNat 16 (m.attr / 16)
      addr := BitVec.ofNat 56 (fieldLe m.payload 0 8), len := fieldLe m.payload 8 4, data := data }
  match m.ftype with
  | .rd => some (.rd, q [])
  | .wr => some (.wr, q (slice m.payload 16 len))
  | .flush => some (.flush, q [])
  | .creq => some (if creqOp = 1 then (.creqWrite, q (slice m.payload 16 len)) else (.creqRead, q []))
  | _ => none

/-- A malformed message is discarded and counted, with its record; when its first flit was intact, it is answered. -/
def State.malformed (s : State) (p : Nat) (f : Flit) (first : Option Msg) : State :=
  let s := (s.countDrop p).ledger { portEvent 0x0103 p (f.header % 2 ^ 64) with tag := f.tag, src := f.src }
  match first with
  | some m =>
    match m.request p with
    | some (k, q) => s.answerStatus k q stUnsupported 0 0
    | none => s
  | none => s

/-- A whole message has arrived: a request waits for its command, everything else is dealt with and leaves the buffer. -/
def State.messageRx (s : State) (p : Nat) (m : Msg) : State :=
  let vc := m.ftype.vc
  match m.request p with
  | some r => s.updPort p (fun pt => { pt with staged := pt.staged ++ [r] })
  | none =>
    let s := s.freeHeld p vc (flitsOf m.ftype m.payload)
    let b := m.payload
    match m.ftype with
    | .rsp => s.responseRx p m.src m.txn m.attr (BitVec.ofNat 32 (fieldLe b 0 4)) 0 []
    | .crsp => s.responseRx p m.src m.txn m.attr 0 0 (slice b 16 (fieldLe b 0 4))
    | .rspd => s.responseRx p m.src m.txn m.attr 0 (fieldLe b 4 4) (slice b 16 (fieldLe b 0 4))
    | .notice =>
      if fieldLe b 0 1 = ntCompletion then
        s.completionRx p m.src m.txn (BitVec.ofNat 32 (fieldLe b 4 4)) m.attr (fieldLe b 20 4) (slice b 32 (fieldLe b 16 4))
      else s.unmatched p
    | .sync =>
      if fieldLe b 0 1 = 1 then s.syncRequest m.src (fieldLe b 8 8) (16 * s.count) (16 * s.count) (fieldLe b 32 8)
      else s.syncReply p (fieldLe b 8 8) (fieldLe b 16 8) (fieldLe b 24 8) (16 * s.count) (fieldLe b 32 8)
    | _ => s.unmatched p

/-- A DATA flit continues its message. -/
def State.dataFlit (s : State) (p : Nat) (f : Flit) : State :=
  let vc := bitsOf f.attr 6 5
  let mine (x : Partial) : Bool := x.vc == vc && x.msg.src == f.src && x.msg.txn == f.txn
  match (s.port p).partials.find? mine with
  | none => (s.malformed p f none).freeHeld p vc 1
  | some x =>
    let rest (s : State) : State := s.updPort p (fun pt => { pt with partials := pt.partials.filter (fun y => !mine y) })
    let last := f.attr.testBit 7
    if bitsOf f.attr 4 0 ≠ x.next ∨ last ≠ (x.next + 1 == x.total) ∨ f.tag ≠ x.msg.tag ∨ f.dst ≠ x.msg.dst then
      ((rest s).malformed p f (some x.msg)).freeHeld p vc (x.next + 1)
    else
      let m := { x.msg with payload := x.msg.payload ++ f.payload }
      if last then (rest s).messageRx p m
      else s.updPort p (fun pt => { pt with partials := pt.partials.map (fun y => if mine y then { y with msg := m, next := x.next + 1 } else y) })

/-- The first flit of a message. -/
def State.firstFlit (s : State) (p : Nat) (t : FType) (f : Flit) : State :=
  let m : Msg := { ftype := t, tag := f.tag, src := f.src, dst := f.dst, txn := f.txn, attr := f.attr, payload := f.payload }
  let n := flitsOf t f.payload
  if attrBad t f.attr then (s.malformed p f (some m)).freeHeld p t.vc 1
  else if n = 1 then s.messageRx p m
  else s.updPort p (fun pt => { pt with partials := pt.partials ++ [⟨t.vc, m, 1, n⟩] })

/-- A numbered flit has been taken in sequence. -/
def State.takeFlit (s : State) (p : Nat) (f : Flit) : State :=
  let vc := match ftypeOf f.ftype with | some t => t.vc | none => bitsOf f.attr 6 5
  let s := (s.addF (F.JX_PORT_STS_RX_EXPECT p) 1).updPort p (fun pt => { pt with taken := pt.taken + 1 })
  let s := if 32 ≤ (s.port p).taken then s.sendAck p else s
  if s.noCredit p vc then (s.ledger (portEvent 0x0103 p (f.header % 2 ^ 64))).retrainPort p
  else
    let s := s.updPort p (fun pt => { pt with held := bumpAt pt.held vc 1 })
    if s.node = 0 ∧ f.ftype = 9 then s.firstFlit p .creq f
    else if s.node = 0 then s.freeHeld p vc 1
    else if !s.names f.dst then
      (s.ledger { portEvent 0x0104 p f.dst.toNat with tag := f.tag, src := f.src }).freeHeld p vc 1
    else
      match ftypeOf f.ftype with
      | some t => s.firstFlit p t f
      | none => s.dataFlit p f

/-- A good flit: its link fields, then a link control, or a numbered flit when the receiver takes it. -/
def State.goodFlit (s : State) (p : Nat) (f : Flit) : State :=
  if f.ftype ≤ 1 ∧ f.attr ≠ 0 then s.malformed p f none
  else if f.ftype = 1 ∧ fieldLe f.payload 0 1 = 1 then
    s.initRx p (fieldLe f.payload 1 1 == 1) ((List.range 4).map (fun i => fieldLe f.payload (4 + 2 * i) 2))
  else if s.linkState p ≠ lkActive then s
  else
    let s := s.linkFields p f
    if f.ftype = 0 then s
    else if f.ftype = 1 then (if fieldLe f.payload 0 1 = 2 then s.replayRx p (fieldLe f.payload 4 2) (f.header % 2 ^ 64) else s)
    else if 12 ≤ f.ftype then s.malformed p f none
    else
      let pt := s.port p
      match pt.rx with
      | .nakSent => s
      | .normal => if 0 < pt.dup then s.setPort p { pt with dup := pt.dup - 1 } else s.takeFlit p f

/-- A code word arrives at a port (R219). -/
def State.codeWordRx (s : State) (p : Nat) (word : Bytes) : State :=
  if s.portFenced p || !(s.linkState p == lkActive || s.linkState p == lkInit) then s
  else
    match flitDecode word with
    | none => s.badFlit p
    | some (b, n) => ((s.portTally p 1 1).portTally p 4 n).goodFlit p (flitOf b)

/-- What the receive lanes of a port bring for one code word (R251). -/
def State.flitRx (s : State) (p : Nat) (lanes : List (List (Fin 4))) : State := s.codeWordRx p (s.wordRx p lanes)

/-- A write of 1 to JX_PORT_CFG.RETRAIN: the field reads 1 until the retrain that it starts is over (Table 0-2). -/
def State.retrainCommand (s : State) (p : Nat) : State :=
  if s.f (F.OPT_STS_STATE p) = 7 then (s.setF (F.JX_PORT_CFG_RETRAIN p) 1).retrainPort p else s

/-! ## The commands -/

/-- BAD_FLIT (R231). -/
def execBadFlit (p : Fin 18) (s : State) : Host.Outcome State Fault Refusal := .next (s.badFlit p)
/-- LINK_INIT: an LCTL INIT with SEEN and the peer's buffer sizes for REQ, RSP, NTC and CTL (R230). -/
def execLinkInit (p : Fin 18) (seen : Bool) (req rsp ntc ctl : W16) (s : State) : Host.Outcome State Fault Refusal :=
  .next (s.initRx p seen [req.toNat, rsp.toNat, ntc.toNat, ctl.toNat])
/-- REPLAY_RX: an LCTL REPLAY with its start and bits [63:0] of its flit's header (R231). -/
def execReplayRx (p : Fin 18) (start : Fin 1024) (header : W64) (s : State) : Host.Outcome State Fault Refusal :=
  .next (s.replayRx p start header.toNat)
/-- INIT_TIMER (R230). -/
def execInitTimer (p : Fin 18) (s : State) : Host.Outcome State Fault Refusal := .next (s.initTimer p)
/-- REPLAY_TIMER (R231). -/
def execReplayTimer (p : Fin 18) (s : State) : Host.Outcome State Fault Refusal := .next (s.replayTimer p)
/-- ACK_TIMER (R231). -/
def execAckTimer (p : Fin 18) (s : State) : Host.Outcome State Fault Refusal := .next (s.ackTimer p)
/-- CREDIT_TIMER (R227). -/
def execCreditTimer (p : Fin 18) (s : State) : Host.Outcome State Fault Refusal := .next (s.creditTimer p)
/-- RETRAIN: a write of 1 to JX_PORT_CFG.RETRAIN (R232). -/
def execRetrain (p : Fin 18) (s : State) : Host.Outcome State Fault Refusal := .next (s.retrainCommand p)
/-- COMPLETION_RX (R236). -/
def execCompletionRx (p : Fin 18) (src : Node) (txn : W16) (token : W32) (status : Fin 16) (mask : W32) (data : Bytes) (s : State) :
    Host.Outcome State Fault Refusal := .next (s.completionRx p src txn token status mask.toNat data)
/-- OWN_DEFER_TIMEOUT (R243). -/
def execOwnDeferTimeout (txn : W16) (s : State) : Host.Outcome State Fault Refusal := .next (s.ownDeferTimeout txn)
/-- SYNC_REQUEST: a request of a node, with its T1 and number and the stamps T2 and T3 in sixteenths of a ns (R244). -/
def execSyncRequest (src : Node) (t1 t2 t3 seq : W64) (s : State) : Host.Outcome State Fault Refusal :=
  .next (s.syncRequest src t1.toNat t2.toNat t3.toNat seq.toNat)
/-- SYNC_REPLY, stamped T4 at a port (R245). -/
def execSyncReply (p : Fin 18) (t1 t2 t3 t4 seq : W64) (s : State) : Host.Outcome State Fault Refusal :=
  .next (s.syncReply p t1.toNat t2.toNat t3.toNat t4.toNat seq.toNat)
/-- SYNC_INTERVAL (R244). -/
def execSyncInterval (s : State) : Host.Outcome State Fault Refusal := .next s.syncInterval
/-- SYNC_SLEW (R245). -/
def execSyncSlew (s : State) : Host.Outcome State Fault Refusal := .next s.syncSlew

end Sys2Proof.Machine
end

