-- ==== Sys2Proof/Machine/Fences.lean ====
section
/-! DEFINITION. Faults and fences (R15 to R19, R168, R180, R194): what a fence does to the kernels, queues, shadows and
field tests of the cores that it covers. -/

namespace Sys2Proof.Machine

/-! ## Queues of a fenced core (R180, R194) -/

/-- One device-queue entry of a fenced core is discarded: its producer is told, and a partner's arrival is made for it. -/
def State.discardEntry (s : State) (n : Nat) (desc : Bytes) (p : Producer) : State :=
  let s := s.ledger (coreEvent 0x0736 n (kdTag desc) 6 n 0)
  match p with
  | .expert lead =>
    let s := s.shareLost lead n
    if kdBarrier desc < 64 then s.arrive (kdBarrier desc) (kdTag desc) else s
  | .shadow _ => s

/-- The device queue of a fenced core is discarded. -/
def State.discardQueue (s : State) (n : Nat) : State :=
  let c := s.core n
  let l := (match c.dqHead with | some x => (match x.producer with | some p => [(x.desc, p)] | none => []) | none => []) ++
    c.dq.map (fun (e : DqEntry) => (e.desc, e.producer))
  (s.setCore n { c with dqHead := none, dq := [] }).forEach l (fun s e => s.discardEntry n e.1 e.2)

/-! ## Shadows of a fenced core (Table 17-2) -/

/-- The kernel that a shadow entry was posted for, while it has not started. -/
def State.shadowed (s : State) (x : Shadow) : Option Fetched :=
  let c := s.core x.core
  (if x.fromDq then c.dqHead else c.sw).filter (fun k => k.uid == x.uid)

/-- The kernel that has waited for a shadow starts: its turn has come before. One of a ring that may start nothing now
(R177) starts later: with its shadow where that has taken the entry, and unshadowed otherwise. -/
def State.launchWaiting (s : State) (x : Shadow) : State :=
  match s.shadowed x with
  | none => s
  | some k =>
    if s.coreFenced x.core || (s.core x.core).running.isSome then s
    else if !x.fromDq && s.f (F.CORE_Q_CFG_ENABLE x.core) == 0 then
      (if (s.shadowOf x.core).isSome then s
       else { s with silent := { s.silent with unshadowed := k.uid :: s.silent.unshadowed } })
    else s.launch x.core x.fromDq k x.code

/-- A shadow whose core is lost or whose engine disagrees with its lanes ends, and the original goes on unchecked. -/
def State.uncheck (s : State) (x : Shadow) : State :=
  let s := (s.shadowEnd x.core).addF F.TST_UNCHECKED_COUNT 1
  if x.taken then s else s.launchWaiting x

/-! ## Field tests of a fenced core (R407) -/

/-- A field test ends ABORTED by a fence or a reset. -/
def State.testAbortedBy (s : State) (n : Nat) : State :=
  match s.testOf n with
  | none => s
  | some t =>
    let set := s.f (F.TST_SET_SET_ID (s.f (F.TST_CORE_CTL_SET n)))
    let s := { s with silent := { s.silent with tests := s.silent.tests.filter (fun (x : FieldTest) => x.core != n) } }
    let s := ((s.setF (F.TST_CORE_STS_STATE n) 0).setF (F.TST_CORE_STS_OUTCOME n) 3).setF (F.TST_CORE_CTL_GO n) 0
    (s.ledger (coreEvent 0x0D09 n 0 13 n 0)).testNotice n 1 3 set 0 t.startedAt

/-! ## Fences -/

/-- What a fence with a code does to one core that it covers. -/
def State.coreLost (s : State) (n code : Nat) (cuts : List KernelCut) : State :=
  let cut := (cuts.find? (fun (c : KernelCut) => c.core.val == n)).getD { core := Fin.ofNat 16 n, touched := [] }
  let s := s.abortKernel n code cut
  let s := s.testAbortedBy n
  let s := s.forEach (s.silent.shadows.filter (fun (x : Shadow) => x.shadow == n)) State.uncheck
  let s := s.dropShadow n
  s.discardQueue n

/-- The cores that a fence covers. -/
def FenceUnit.cores : FenceUnit → List Nat
  | .engine _ => []
  | .core n => [n]
  | .cluster c => [2 * c, 2 * c + 1]
  | .die d => (List.range 8).map (fun i => 8 * d + i)

/-- Whether a unit is fenced already, alone or with a unit that holds it. -/
def State.unitFencedAlready (s : State) : FenceUnit → Bool
  | .engine n => s.engineFenced n
  | .core n => s.coreFenced n
  | .cluster c => s.clusterFenced c
  | .die d => s.dieFenced d

/-- The units that hold a unit. -/
def FenceUnit.holders : FenceUnit → List FenceUnit
  | .engine n => [.core n, .cluster (clusterOfCore n), .die (dieOfCore n)]
  | .core n => [.cluster (clusterOfCore n), .die (dieOfCore n)]
  | .cluster c => [.die (dieOfCluster c)]
  | .die _ => []

/-- Whether a unit's own fault is detected in the same f-cycle as that of a unit that holds it and has been fenced for it
(R17). The model's time steps by 1 ns: faults at one count fall in one f-cycle (DESIGN CHOICE). -/
def State.faultsTogether (s : State) (u : FenceUnit) : Bool :=
  !s.fences.contains u && s.integ.faultAt == s.count && u.holders.any (fun h => s.integ.faulted.contains h && s.fences.contains h)

/-- A fence of a fault, with its record. -/
def State.faultFence (s : State) (u : FenceUnit) (e : Event) : State :=
  let l := if s.integ.faultAt = s.count then s.integ.faulted else []
  let s := { s with integ := { s.integ with faultAt := s.count, faulted := l ++ [u] } }
  (s.addFence u).ledger { e with flags := e.flags ||| flagFence }

/-- A fault of a unit with its record: the unit is fenced and its cores are lost. A unit that is fenced already raises no
further fault, but each of the faults detected in one f-cycle is recorded (R17). -/
def State.fault (s : State) (u : FenceUnit) (e : Event) (cuts : List KernelCut) : State :=
  if s.unitFencedAlready u then (if s.faultsTogether u then s.faultFence u e else s)
  else
    let lost := u.cores.filter (fun n => !s.coreFenced n)
    (s.faultFence u e).forEach lost (fun s n => s.coreLost n e.code cuts)

/-- An engine fault: the engine is fenced, its core's kernel aborts, and a shadow that it computes ends (R15, R168). -/
def State.engineFault (s : State) (n : Nat) (e : Event) (cut : KernelCut) : State :=
  if s.engineFenced n then (if s.faultsTogether (.engine n) then s.faultFence (.engine n) e else s)
  else
    let s := (s.faultFence (.engine n) e).abortKernel n e.code cut
    s.forEach (s.silent.shadows.filter (fun (x : Shadow) => x.shadow == n)) State.uncheck

/-- The tag and identifier of the kernel that a fault on a core concerns. -/
def State.runningTag (s : State) (n : Nat) : Tag := match s.faultedKernel n with | some r => kdTag r.desc | none => 0
def State.runningId (s : State) (n : Nat) : Nat := match (s.core n).running with | some r => kdKernel r.desc | none => 0

/-- The code of a fault's record that the spec does not state. -/
def State.freeCode (s : State) : Nat := Config.freeNat s.free % 65536

/-- A cluster fault (R15). A lost tag grain that the tag cache holds is only rewritten (R373). -/
def State.clusterFault (s : State) (c : Nat) (why : ClusterCause) (cuts : List KernelCut) : State :=
  let ev (code addr : Nat) : Event :=
    { code := code, die := dieOfCluster c, cluster := c, unitKind := 2, unit := c, addr := addr }
  match why with
  | .tagGrain i => if (s.tagCache c).contains i then s.writeTags c i else s.fault (.cluster c) (ev 0x0308 i) cuts
  | .check => s.bump.fault (.cluster c) { ev s.freeCode 0 with unitKind := 0, unit := 0 } cuts

/-- The ports of a die, JX then MX. -/
def diePorts (d : Nat) : List Nat := (List.range 18).filter (fun p => dieOfPort p == d)

/-- A fence that covers a die turns its ports OFF (R18, R258). -/
def State.dieLost (s : State) (d : Nat) (e : Event) (cuts : List KernelCut) : State :=
  if s.dieFenced d then s else (s.fault (.die d) e cuts).forEach (diePorts d) State.portOff

/-- A die fault: half the device is fenced (R15, R18). -/
def State.dieFault (s : State) (d : Nat) (cuts : List KernelCut) : State :=
  s.bump.dieLost d { code := s.freeCode, die := d } cuts

/-- A bridge failure fences die 1 and not die 0 (R19). -/
def State.bridgeFailure (s : State) (cuts : List KernelCut) : State :=
  s.bump.dieLost 1 { code := s.freeCode, die := 1, unitKind := 11 } cuts

/-! ## The commands -/

/-- OPERAND_PARITY in the engine or vector unit of a core (R168). -/
def execOperandParity (cut : KernelCut) (s : State) : Host.Outcome State Fault Refusal :=
  let n := cut.core.val
  .next (s.engineFault n { coreEvent 0x0601 n (s.runningTag n) 6 0 0 with engine := n } cut)
/-- SEQ_FAULT: a sequencer or slot-frame check of a core fails (R15, R188). -/
def execSeqFault (cut : KernelCut) (s : State) : Host.Outcome State Fault Refusal :=
  let n := cut.core.val
  .next (s.fault (.core n) (coreEvent 0x0735 n (s.runningTag n) 6 (s.runningId n) 0) [cut])
/-- CLUSTER_FAULT (R15, R373). -/
def execClusterFault (c : Fin 8) (why : ClusterCause) (cuts : List KernelCut) (s : State) : Host.Outcome State Fault Refusal :=
  .next (s.clusterFault c why cuts)
/-- DIE_FAULT (R15, R18). -/
def execDieFault (d : Fin 2) (cuts : List KernelCut) (s : State) : Host.Outcome State Fault Refusal := .next (s.dieFault d cuts)
/-- BRIDGE_FAILURE (R19). -/
def execBridgeFailure (cuts : List KernelCut) (s : State) : Host.Outcome State Fault Refusal := .next (s.bridgeFailure cuts)

end Sys2Proof.Machine
end

