-- ==== Sys2Proof/Machine/Optical.lean ====
section
/-! DEFINITION. The optical ports: training, widths and laser modules (R252 to R262). -/

namespace Sys2Proof.Machine

/-! ## Training blocks received (R254) -/

/-- A filter tap after a request: 0 hold, 1 increase, 2 decrease, 3 preset. -/
def tapStep (v : Int) (req : Nat) : Int :=
  match req with
  | 1 => v + 1
  | 2 => v - 1
  | 3 => 0
  | _ => v

/-- The training step of an engine, 1 to 6, or 0 outside an attempt. -/
def State.trainStep (s : State) (e : Nat) : Nat := let st := s.f (F.OPT_STS_STATE e); if 1 ≤ st ∧ st ≤ 6 then st else 0

/-- What an engine asks of the peer's filter on a lane after an acknowledgement: a request that the peer has applied goes back
to hold, and after an acknowledged hold the adaptation asks anew, as it will (R254). -/
def askNext (req ack fresh : Nat) : Nat := if req ≠ ack then req else if req = 0 then fresh else 0

/-- A block arrives on a receive lane during an attempt: its lane, coefficients and fields are taken; a bad one is not. A
COEF_REQ is applied once: blocks that repeat it change nothing until it has been another. In EQUALISE a lane locks on its
good blocks, and the engine answers with blocks that echo the request. -/
def State.trainBlock (s : State) (e lane : Nat) (b : Bytes) : State :=
  let step := s.trainStep e
  if step < 2 ∨ !trainGood b then s
  else
    let x := s.optic e
    let tx := fieldLe b 9 1 % 8
    let req := fieldLe b 11 1
    let f := x.filter.getD tx (0, 0)
    let own := x.reqs.getD tx 0
    let ask := if step = 3 then askNext own (fieldLe b 12 1) (Config.freeNat s.free % 16) else own
    let news := x.acks.getD tx 0 != req || ask != own
    let s := s.setOptic e { x with
      heard := x.heard.set lane tx, peerMirror := (fieldLe b 9 1).testBit 7, peerNode := fieldLe b 14 2
      peerPhase := fieldLe b 8 1, peerWidth := fieldLe b 13 1
      filter := if x.acks.getD tx 0 = req then x.filter else x.filter.set tx (tapStep f.1 (req % 4), tapStep f.2 (req / 4 % 4))
      acks := x.acks.set tx req, reqs := x.reqs.set tx ask
      locked := if step = 3 then x.locked ||| 2 ^ lane else x.locked }
    let s := s.setF (F.OPT_STS_PEER_RX_GOOD e) (fieldLe b 10 1)
    if news then s.sendBlocks e else s

/-! ## Attempts (R255 to R258) -/

/-- Whether a port's checkers failed the self-test of this start, which holds it OFF (R388). -/
def State.portHeldOff (s : State) (e : Nat) : Bool := s.f (F.AO_BOOT_STEP_PROGRESS 10) == 2 && !s.bit F.LDG_SELFTEST_LINK e

/-- Whether an engine may train: its port is enabled and not fenced, its checkers passed, and its lasers are not held
off. -/
def State.mayTrain (s : State) (e : Nat) : Bool :=
  !s.portHeldOff e && s.f (F.JX_PORT_CFG_ENABLE e) == 1 && s.f (F.OPT_LASER_ENABLE e) == 1 && !s.portFenced e

/-- A new attempt from step 1. -/
def State.newAttempt (s : State) (e : Nat) : State :=
  if s.mayTrain e then (s.setF (F.JX_PORT_STS_STATE e) lkTraining).startTraining e 1 else s

/-- The next step begins, and the blocks that the engine sends name its phase: SIGNAL to VERIFY for steps 2 to 5. -/
def State.nextStep (s : State) (e step : Nat) : State :=
  let x := s.optic e
  let reqs := if step = 3 then s.freshReqs else List.replicate 8 0
  let s := (s.setOptic e { x with stepAt := s.count, phase := min 4 (step - 1), reqs := reqs }).setF (F.OPT_STS_STATE e) step
  s.sendBlocks e

/-- The ledger address of OPT_TRAIN_FAIL and OPT_LANE_FALLBACK. -/
def State.trainAddr (s : State) (e step : Nat) : Nat :=
  step % 16 + 256 * s.f (F.OPT_STS_RX_GOOD e) + 65536 * s.f (F.OPT_STS_PEER_RX_GOOD e)

/-- An attempt fails: the port is DOWN with its lasers off; the first failure since the port was UP is recorded, and a
failed retrain writes LINK_DOWN (R232, R257). -/
def State.trainFail (s : State) (e : Nat) : State :=
  let step := s.trainStep e
  if step = 0 then s
  else
    let x := s.optic e
    let retrain := s.linkState e == lkRetrain
    let s := ((s.satF (F.OPT_STS_TRAIN_FAILS e) 1).setF (F.OPT_STS_FAIL_STEP e) step).setF (F.OPT_STS_STATE e) 8
    let s := (s.setOptic e { x with waitAt := s.count, failed := true }).lasers e 0
    let s := if x.failed then s else s.ledger (portEvent 0x0110 e (s.trainAddr e step))
    if retrain then (s.ledger (portEvent 0x0102 e 0)).linkDown e else s.linkDown e

/-- Whether every channel reports power in range. -/
def State.powered (s : State) (e : Nat) : Bool := s.f (F.OPT_LASER_PRESENT e) == 1 && s.f (F.OPT_LASER_ALARM e) == 0

/-- SIGNAL ends with the lanes that have locked. -/
def State.trainSignal (s : State) (e locked : Nat) : State :=
  if s.trainStep e = 2 ∧ 4 ≤ (maskBits locked).length then
    (s.setOptic e { s.optic e with locked := locked % 256 }).nextStep e 3
  else s

/-- EQUALISE ends with four or more lanes locked, once the channels that the port's width had turned off report power in
range (R255). An alarm of any other channel makes its lane bad and does not hold the step (R253). -/
def State.trainEqualise (s : State) (e : Nat) : State :=
  let x := s.optic e
  if s.trainStep e = 3 ∧ 4 ≤ (maskBits x.locked).length ∧ s.f (F.OPT_LASER_PRESENT e) = 1 ∧
      s.f (F.OPT_LASER_ALARM e) &&& x.back = 0 then s.nextStep e 4
  else s

/-- MAP ends once every locked lane has named its peer lane; a peer of the other kind fails the attempt (R259). -/
def State.trainMap (s : State) (e : Nat) : State :=
  let x := s.optic e
  if s.trainStep e = 4 ∧ (maskBits x.locked).all (fun l => decide (x.heard.getD l 8 < 8)) then
    if x.peerMirror != decide (16 ≤ e) then (s.ledger (portEvent 0x0113 e x.peerNode)).trainFail e else s.nextStep e 5
  else s

/-- VERIFY ends with the failed blocks of each receive lane, when a lane passes: RX_GOOD has the peer's lanes that were
received with at most four. -/
def State.trainVerify (s : State) (e : Nat) (failed : List Nat) : State :=
  let x := s.optic e
  if s.trainStep e = 5 then
    let good := (maskBits x.locked).filter (fun l => decide (failed.getD l 5 ≤ 4) && decide (x.heard.getD l 8 < 8))
    let m := (List.range 8).map (fun t => if good.any (fun l => x.heard.getD l 8 == t) then 2 ^ t else 0)
    if m.sum = 0 then s else (s.setF (F.OPT_STS_RX_GOOD e) m.sum).nextStep e 6
  else s

/-- The width that this side takes under R256, none when the attempt fails. -/
def State.ownWidth (s : State) (e : Nat) : Option Nat :=
  let a := s.f (F.OPT_STS_RX_GOOD e)
  let b := s.f (F.OPT_STS_PEER_RX_GOOD e)
  if s.lanes8 e ∧ a = 255 ∧ b = 255 then some 8
  else if (!s.lanes8 e || s.f (F.OPT_CFG_FALLBACK e) == 1) ∧ 4 ≤ (maskBits a).length ∧ 4 ≤ (maskBits b).length then some 4
  else none

/-- OPT_LANEMAP for a width: the receive lanes that carry the peer's chosen transmit lanes. -/
def laneMap (width good : Nat) (heard : List Nat) : Nat :=
  let lanes := if width = 8 then List.range 8 else (maskBits good).take 4
  ((List.range 8).map (fun r =>
    match lanes.findIdx? (fun t => t == heard.getD r 8) with
    | some i => (8 + i) * 16 ^ r
    | none => 0)).sum

/-- WIDTH: the width is decided once the peer's RX_GOOD is known and is sent with DONE; when the two differ, both take the
smaller; once both sides have sent DONE with the same WIDTH, the port enters INIT (R255, R256). -/
def State.trainWidth (s : State) (e : Nat) : State :=
  if s.trainStep e ≠ 6 ∨ (s.optic e).peerPhase < 4 then s
  else
    match s.ownWidth e with
    | none => s.trainFail e
    | some w =>
      let x := s.optic e
      let w := if x.peerPhase = 5 ∧ x.peerWidth = 4 then 4 else w
      let s := if x.phase = 5 ∧ x.width = w then s else (s.setOptic e { x with phase := 5, width := w }).sendBlocks e
      if x.peerPhase ≠ 5 ∨ x.peerWidth ≠ w then s
      else
        let tx := if w = 8 then 255 else (((maskBits (s.f (F.OPT_STS_PEER_RX_GOOD e))).take 4).map (fun t => 2 ^ t)).sum
        let s := if s.lanes8 e && w == 4 then s.ledger (portEvent 0x0112 e (s.trainAddr e 6)) else s
        let s := s.setF (F.OPT_LANEMAP_MAP e) (laneMap w (s.f (F.OPT_STS_RX_GOOD e)) x.heard)
        let s := (s.setF (F.OPT_STS_WIDTH8 e) (if w = 8 then 1 else 0)).setF (F.JX_PORT_CFG_LANES8 e) (if w = 8 then 1 else 0)
        let s := ((s.setF (F.OPT_STS_TRAIN_FAILS e) 0).setF (F.OPT_STS_STATE e) 7).lasers e tx
        let s := s.setOptic e { s.optic e with failed := false }
        (s.setF (F.JX_PORT_STS_STATE e) lkInit).updPort e (fun pt => { pt with initSeen := false, initSentAt := 0 })

/-- Limit of a step in ns (Table 10-2). -/
def stepLimit (step : Nat) : Nat :=
  match step with
  | 1 => 20000000
  | 2 => 20000000
  | 3 => 50000000
  | 4 => 1000000
  | 5 => 2000000
  | _ => 1000000

/-- A step passes its limit. -/
def State.stepOver (s : State) (e : Nat) : State :=
  if s.trainStep e ≠ 0 ∧ (s.optic e).stepAt + stepLimit (s.trainStep e) < s.count then s.trainFail e else s

/-- An attempt passes TRAIN_TIMEOUT_MS. -/
def State.attemptOver (s : State) (e : Nat) : State :=
  if s.trainStep e ≠ 0 ∧ (s.optic e).attemptAt + 1000000 * s.f (F.OPT_CFG_TRAIN_TIMEOUT_MS e) < s.count then s.trainFail e else s

/-- RETRY_MS after a failure, a new attempt. -/
def State.trainRetry (s : State) (e : Nat) : State :=
  if s.f (F.OPT_STS_STATE e) = 8 ∧ (s.optic e).waitAt + 1000000 * s.f (F.OPT_CFG_RETRY_MS e) ≤ s.count then s.newAttempt e else s

/-- A committed PORT_GROUPS entry of a port takes effect (R218, R258): an attempt in progress is abandoned for a new one, which
stays a retrain, with its replay buffer and counters, when the port was retraining. -/
def State.portCommit (s : State) (e : Nat) (old new : PortGroup) : State :=
  let s := (s.setF (F.JX_PORT_CFG_ENABLE e) new.enable.toNat).setF (F.JX_PORT_CFG_GROUP e) new.group
  if old.enable = new.enable ∧ old.lanes8 = new.lanes8 then s
  else if !new.enable then s.portOff e
  else if s.linkState e = lkRetrain ∧ s.trainStep e ≠ 0 then s.startTraining e 3
  else if s.trainStep e ≠ 0 ∨ !old.enable then (s.linkDown e).newAttempt e
  else s.retrainPort e

/-! ## Laser modules (R252, R253, R262) -/

/-- OPT_LASER record. -/
def State.laserEvent (s : State) (e : Nat) : Event :=
  portEvent 0x0111 e (s.f (F.OPT_LASER_ALARM e) + (if s.f (F.OPT_LASER_PRESENT e) = 1 then 0 else 256))

/-- A poll over the module's management bus, due every 1 ms (R252): the received power is the engine's own, and of a module
that is present the monitors are read, once the device drives the module's pins (R458). A channel newly in alarm is recorded, and one that an UP port uses retrains it. -/
def State.laserPoll (s : State) (e temp alarm power : Nat) : State :=
  if s.count < (s.optic e).pollAt then s
  else
  let s := s.setOptic e { s.optic e with pollAt := s.count + 1000000 }
  let s := s.setF (F.OPT_RXPWR_POWER e) power
  if s.f (F.OPT_LASER_PRESENT e) = 0 || !s.drives (.laser e) then s
  else
    let s := s.emit (.laserPoll (laserBus e) e)
    let old := s.f (F.OPT_LASER_ALARM e)
    let s := (s.setF (F.OPT_LASER_TEMP e) temp).setF (F.OPT_LASER_ALARM e) alarm
    let s := if (maskBits alarm).any (fun i => !old.testBit i) then s.ledger (s.laserEvent e) else s
    if alarm &&& s.f (F.OPT_LASER_CH_ON e) = 0 then s else s.retrainPort e

/-- A module appears or goes. -/
def State.laserPresent (s : State) (e : Nat) (there : Bool) : State :=
  if s.f (F.OPT_LASER_PRESENT e) = there.toNat then s
  else
    let s := s.setF (F.OPT_LASER_PRESENT e) there.toNat
    if there then (if s.trainStep e = 0 then s else s.lasers e 0xFF)
    else ((s.lasers e 0).ledger (s.laserEvent e)).retrainPort e

/-- A write of OPT_LASER.ENABLE. -/
def State.laserEnable (s : State) (e : Nat) (on : Bool) : State :=
  let s := s.setF (F.OPT_LASER_ENABLE e) on.toNat
  if !on then s.portOff e else if s.f (F.OPT_STS_STATE e) = 0 then s.newAttempt e else s

/-- A write of 1 to OPT_LASER.RESET pulses the module's reset, where the device drives its pins (R458), and retrains the port; the field reads 1 until the retrain that it
starts is over (Table 0-2, Table 10-8). -/
def State.laserReset (s : State) (e : Nat) : State :=
  let s := if s.drives (.laser e) then s.emit (.laser e 256) else s
  if s.f (F.OPT_STS_STATE e) = 7 then (s.setF (F.OPT_LASER_RESET e) 1).retrainPort e else s

/-! ## The commands -/

/-- TRAINING_BLOCK_RX on a receive lane of an engine (R254). -/
def execTrainingBlockRx (e : Fin 18) (lane : Fin 8) (block : Bytes) (s : State) : Host.Outcome State Fault Refusal :=
  .next (s.trainBlock e lane block)
/-- TRAIN_LASER (R255). -/
def execTrainLaser (e : Fin 18) (s : State) : Host.Outcome State Fault Refusal :=
  .next (if s.trainStep e = 1 ∧ s.powered e then s.nextStep e 2 else s)
/-- TRAIN_SIGNAL, with the receive lanes that have locked (R255). -/
def execTrainSignal (e : Fin 18) (locked : Byte) (s : State) : Host.Outcome State Fault Refusal := .next (s.trainSignal e locked.toNat)
/-- TRAIN_EQUALISE (R255). -/
def execTrainEqualise (e : Fin 18) (s : State) : Host.Outcome State Fault Refusal := .next (s.trainEqualise e)
/-- TRAIN_MAP (R255, R259). -/
def execTrainMap (e : Fin 18) (s : State) : Host.Outcome State Fault Refusal := .next (s.trainMap e)
/-- TRAIN_VERIFY, with the failed blocks of each receive lane (R255). -/
def execTrainVerify (e : Fin 18) (failed : List Nat) (s : State) : Host.Outcome State Fault Refusal := .next (s.trainVerify e failed)
/-- TRAIN_WIDTH (R256). -/
def execTrainWidth (e : Fin 18) (s : State) : Host.Outcome State Fault Refusal := .next (s.trainWidth e)
/-- TRAIN_STEP_LIMIT (R255). -/
def execTrainStepLimit (e : Fin 18) (s : State) : Host.Outcome State Fault Refusal := .next (s.stepOver e)
/-- TRAIN_ATTEMPT_TIMEOUT (R255). -/
def execTrainAttemptTimeout (e : Fin 18) (s : State) : Host.Outcome State Fault Refusal := .next (s.attemptOver e)
/-- TRAIN_RETRY (R257). -/
def execTrainRetry (e : Fin 18) (s : State) : Host.Outcome State Fault Refusal := .next (s.trainRetry e)
/-- LASER_POLL of a module: its temperature, alarms and the received power of the lanes (R252, R253). -/
def execLaserPoll (e : Fin 18) (temp : W16) (alarm : Byte) (power : W64) (s : State) : Host.Outcome State Fault Refusal :=
  .next (s.laserPoll e temp.toNat alarm.toNat power.toNat)
/-- LASER_PRESENT_CHANGE (R253). -/
def execLaserPresentChange (e : Fin 18) (there : Bool) (s : State) : Host.Outcome State Fault Refusal := .next (s.laserPresent e there)
/-- LASER_RESET: a write of OPT_LASER.RESET pulses the module's reset and retrains the port (R262). -/
def execLaserReset (e : Fin 18) (s : State) : Host.Outcome State Fault Refusal := .next (s.laserReset e)
/-- OPT_LASER_ENABLE: a write of OPT_LASER.ENABLE (R262). -/
def execOptLaserEnable (e : Fin 18) (on : Bool) (s : State) : Host.Outcome State Fault Refusal := .next (s.laserEnable e on)

end Sys2Proof.Machine
end

