-- ==== Sys2Proof/Machine/Canopy.lean ====
section
/-! DEFINITION. The canopy cache's operations and its decay boundaries (R74, R78, R79). -/

namespace Sys2Proof.Machine

/-- Writes every dirty line of a stack back (R74, WB). -/
def State.writeBackAll (s : State) (c : Nat) : State :=
  s.forEach (s.linesOf c) (fun s k => s.writeBack c (k / 4 % 2 ^ 25) (k % 4))

/-- Invalidates every line of a stack. -/
def State.invalidateAll (s : State) (c : Nat) : State :=
  { s with canopy := { s.canopy with lines := Sparse.clear (2 ^ 27 * c) (2 ^ 27 * (c + 1)) s.canopy.lines } }.clearTags c (s.cacheSteps c)

/-- Pages in direct mode are never cached: their lines are written back and invalidated (R64). -/
def State.flushDirect (s : State) (c : Nat) : State :=
  let keys := (s.linesOf c).filter (fun k =>
    match Sparse.get noLine s.canopy.lines k with
    | some l => s.directMode (pageOfLine c l.n)
    | none => false)
  s.forEach keys (fun s k => (s.writeBack c (k / 4 % 2 ^ 25) (k % 4)).setLine c (k / 4 % 2 ^ 25) (k % 4) none)

/-- A WB or INV operation ends: its lines are written back, invalidated under INV, and the SC bits clear (R74). -/
def State.canopyDone (s : State) (c : Nat) : State :=
  let inv := s.f (F.CAN_CTRL_INV c) == 1
  if s.f (F.CAN_CTRL_WB c) = 0 ∧ !inv then s
  else
    let s := s.writeBackAll c
    let s := if inv then s.invalidateAll c else s
    (s.setF (F.CAN_CTRL_WB c) 0).setF (F.CAN_CTRL_INV c) 0

/-- Under DRAIN, every line is written back and invalidated, so that DRAINED reads 1 (R74). -/
def State.canopyDrained (s : State) (c : Nat) : State :=
  if s.f (F.CAN_CTRL_DRAIN c) = 0 then s else (s.writeBackAll c).invalidateAll c

/-- DRAIN written 0: allocation resumes. -/
def State.canopyResume (s : State) (c : Nat) : State := s.setF (F.CAN_CTRL_DRAIN c) 0

/-- The decay period in ns (R78). -/
def State.decayNs (s : State) : Nat := 1000000 * s.f F.CAN_PLACE_DECAY_MS

/-- One page at a decay boundary: HISTORY is set on a non-zero counter, HOT then keeping what it was; the counter is
halved; HOT clears below DEMOTE (R78, R79). -/
def State.decayPage (s : State) (p : Nat) : State :=
  let u := s.pageUse p
  let hist := u.history || u.counter != 0
  let n := u.counter / 2
  let hot := if u.history then u.hotBit else s.hot p
  s.setPageUse p { counter := n, history := hist, hotBit := hist && hot && decide (s.f F.CAN_PLACE_DEMOTE ≤ n) }

/-- The next decay boundary, once the count has reached it (R78). -/
def State.decayBoundary (s : State) : State :=
  let d := s.decayNs
  let next := if d = 0 then s.count + 1 else (s.canopy.decayAt / d + 1) * d
  if s.count < next then s
  else
    let s := s.forEach (s.canopy.pages.map (fun e => e.1)) State.decayPage
    { s with canopy := { s.canopy with decayAt := next } }

/-! ## The commands -/

/-- CANOPY_WB: a write of 1 to CAN_CTRL_c.WB (R74). -/
def execCanopyWb (c : Fin 8) (s : State) : Host.Outcome State Fault Refusal := .next (s.setF (F.CAN_CTRL_WB c) 1)
/-- CANOPY_INV: a write of 1 to CAN_CTRL_c.INV (R74). -/
def execCanopyInv (c : Fin 8) (s : State) : Host.Outcome State Fault Refusal := .next (s.setF (F.CAN_CTRL_INV c) 1)
/-- CANOPY_DRAIN_SET: a write of 1 to CAN_CTRL_c.DRAIN (R74). -/
def execCanopyDrainSet (c : Fin 8) (s : State) : Host.Outcome State Fault Refusal := .next (s.setF (F.CAN_CTRL_DRAIN c) 1)
/-- CANOPY_DRAIN_CLEAR: a write of 0 to CAN_CTRL_c.DRAIN (R74). -/
def execCanopyDrainClear (c : Fin 8) (s : State) : Host.Outcome State Fault Refusal := .next (s.canopyResume c)
/-- CANOPY_WB_DONE (R74). -/
def execCanopyWbDone (c : Fin 8) (s : State) : Host.Outcome State Fault Refusal := .next (s.canopyDone c)
/-- CANOPY_DRAINED (R74). -/
def execCanopyDrained (c : Fin 8) (s : State) : Host.Outcome State Fault Refusal := .next (s.canopyDrained c)
/-- DECAY_BOUNDARY (R78). -/
def execDecayBoundary (s : State) : Host.Outcome State Fault Refusal := .next s.decayBoundary

end Sys2Proof.Machine
end

