-- ==== Sys2Proof/Machine/Repair.lean ====
section
/-! DEFINITION. Repairs, re-fetches, the corrected-error tables, the ledger's rings and the clearing engines (R365 to
R372, R380 to R385, R389). -/

namespace Sys2Proof.Machine

/-! ## Repairs (R369 to R372) -/

/-- The understory home of a grain that lies in a clean line of the canopy cache, with the line's place. -/
def State.cleanHome (s : State) (a : PA) : Option (Nat × Nat × Nat × Nat) :=
  if spaceOf a ≠ 0 then none
  else
    let c := ownerOf (pageOf a)
    let inPage := offsetOf a % 2 ^ 21
    let n := 512 * localPage (pageOf a) + inPage / 4096
    match s.wayOf c n with
    | none => none
    | some w =>
      match s.line c (n % s.canSets c) w with
      | some l => if l.dirty then none else some (c, n % s.canSets c, w, 2 ^ 21 * localPage (pageOf a) + inPage)
      | none => none

/-- Whether the partner has a copy of a grain that a repair may read: the range is mirrored, the partner is in service,
and the page waits for no copy. -/
def State.partnerCopy (s : State) (a : PA) : Bool :=
  decide (spaceOf a ≤ 2) && s.mirroredPage (spaceOf a) (pageOf a) && !s.pageAwaits (spaceOf a) (pageOf a) &&
    (s.pairState == psPaired || (s.pairState == psResync && s.pair.dirty.isEmpty))

/-- What one copy of a grain gives. -/
inductive CopyRead where
  /-- The copy does not apply. -/
  | absent
  | failed
  | good (data : Bytes)
  deriving DecidableEq, Repr

/-- The place that a repair restores. -/
def State.repairLoc (s : State) (a : PA) (r : Repair) : Option GrainLoc :=
  if r.home then s.undLoc (ownerOf (pageOf a)) (2 ^ 21 * localPage (pageOf a) + offsetOf a % 2 ^ 21) else s.loc a

/-- Step 1: the line is invalidated and the home is read. -/
def State.copyHome (s : State) (a : PA) (r : Repair) : State × CopyRead :=
  match if r.home then none else s.cleanHome a with
  | none => (s, .absent)
  | some (c, set, way, o) =>
    let s := s.setLine c set way none
    match s.undLoc c o with
    | none => (s, .failed)
    | some l =>
      match s.readGrain l r.grain 10 r.tag with
      | (s, d, .clean) => (s, .good d)
      | (s, d, .corrected) => (s, .good d)
      | (s, _, _) => (s, .failed)

/-- Step 2: the bytes that the partner has answered, none when its copy failed. -/
def State.copyPartner (s : State) (a : PA) (reply : Option Bytes) : CopyRead :=
  if s.partnerCopy a then (match reply with | some d => .good (padTo 128 (d.take 128)) | none => .failed) else .absent

/-- Step 3: the block of the paired vault page; a failed read of a VALID page ends its VALID (R300). -/
def State.copyVault (s : State) (a : PA) (env : VaultEnv) (tag : Tag) : State × CopyRead :=
  match s.vaultCopy a with
  | none => (s, .absent)
  | some (b, off, i, k) =>
    let v := s.readVault b env tag
    if v.2.2.contains (off / 128) then (v.1.clearValid i k, .failed) else (v.1, .good (slice v.2.1 off 128))

/-- UNIT_KIND and UNIT of a grain's place. -/
def State.grainUnit (s : State) (a : PA) (r : Repair) : Nat × Nat × Nat :=
  match s.repairLoc a r with
  | some l => (unitKindOf l.unit, unitNoOf l.unit, dieOfCluster (clusterOfUnit l.unit))
  | none => (0, 0, 0xFF)

/-- The report of a repair's end. -/
def State.repairEvent (s : State) (a : PA) (r : Repair) (code flags : Nat) (detail : Bytes) : Event :=
  let u := s.grainUnit a r
  { code := code, tag := r.tag, die := u.2.2, cluster := if u.1 = 0 then 0xFF else ownerOf (pageOf a), unitKind := u.1, unit := u.2.1,
    op := r.op, flags := flags ||| s.injectedAt a, addr := r.grain, detail := detail }

/-- A repair is over. -/
def State.dropRepair (s : State) (r : Repair) : State :=
  { s with integ := { s.integ with repairs := s.integ.repairs.filter (fun (x : Repair) => x.grain != r.grain || x.home != r.home) } }

/-- A repair that writes nothing back keeps what it found for its readers. -/
def State.keepRepair (s : State) (r : Repair) (found : Option Bytes) : State :=
  { s with integ := { s.integ with
      repairs := s.integ.repairs.map (fun (x : Repair) => if x.grain = r.grain ∧ x.home = r.home then { x with found := some found } else x) } }

/-- How a grain reads now. -/
inductive GrainNow where
  | fine | bad | lost | fenced
  deriving DecidableEq, Repr

/-- Whether a grain still needs its repair. -/
def State.grainNow (s : State) (a : PA) (r : Repair) : GrainNow :=
  match s.repairLoc a r with
  | none => .fine
  | some l =>
    if s.unitFenced l.unit then .fenced
    else
      let w := s.getGrain l
      match (grainDecode w.1 w.2).2 with
      | .lost => .lost
      | .uncorrectable => .bad
      | _ => .fine

/-- A copy decoded clean: it is written back in full and recorded; a lost grain or one on a fenced channel is only served
(R370, R372). -/
def State.repairGood (s : State) (a : PA) (r : Repair) (now : GrainNow) (step : Nat) (d : Bytes) : State :=
  let e := s.repairEvent a r 0x0304 flagRepaired (leBytes 1 step)
  let c := ownerOf (pageOf a)
  let s := if r.op = 3 then s.addF (F.CLR_REPAIRED_COUNT c) 1 else s
  if now = .fenced then (s.keepRepair r (some d)).ledger e
  else
    let s := match s.repairLoc a r with
      | some l => s.putGrain l d (rsCheck d)
      | none => s
    (s.dropRepair r).ledger e

/-- Every copy failed (R371, R372). -/
def State.repairFailed (s : State) (a : PA) (r : Repair) (now : GrainNow) : State :=
  match now with
  | .lost => (s.keepRepair r none).ledger (s.repairEvent a r 0x0306 0 [])
  | .fenced => (s.keepRepair r none).ledger (s.repairEvent a r 0x0305 0 [])
  | _ =>
    let e := s.repairEvent a r 0x0305 flagPoisoned []
    let s := if r.op = 3 then s.addF (F.CLR_POISONED_COUNT (ownerOf (pageOf a))) 1 else s
    let s := match s.repairLoc a r with
      | some l => s.poisonGrain l
      | none => s
    (s.dropRepair r).ledger e

/-- A copy's read returns: the steps are tried in order from the repair's own, a copy that does not apply is passed over,
and the first that applies ends this command when it is good or a later one still applies (R369). -/
def State.dramRepair (s : State) (a : PA) (ofHome : Bool) (reply : Option Bytes) (env : VaultEnv) : State :=
  let a := grainOf a
  match s.integ.repairs.find? (fun (r : Repair) => r.grain == a.toNat && r.home == ofHome) with
  | none => s
  | some r =>
    if r.found.isSome then s
    else
      let now := s.grainNow a r
      if now = .fine ∧ !r.check then s.dropRepair r
      else
        let home := if r.step ≤ 1 ∧ now ≠ .lost then s.copyHome a r else (s, .absent)
        match home.2 with
        | .good d => home.1.repairGood a r (home.1.grainNow a r) 1 d
        | _ =>
          let s := home.1
          let now := if home.2 = .absent then now else .bad
          match if r.step ≤ 2 then s.copyPartner a reply else .absent with
          | .good d => s.repairGood a r now 2 d
          | _ =>
            match s.copyVault a env r.tag with
            | (s, .good d) => s.repairGood a r now 3 d
            | (s, _) => s.repairFailed a r now

/-! ## Re-fetch of a store block (R365, R366) -/

/-- Whether a store block holds a byte with wrong parity. -/
def State.blockBad (s : State) (block : Nat) : Bool := (List.range 32).any (fun g => s.storeBadParity (32 * block + g))

/-- The cores whose kernels use a store: a core store's own core, both cores of a cluster store's cluster. -/
def storeCores (u : Nat) : List Nat := if u < 16 then [u] else if u < 24 then [2 * (u - 16), 2 * (u - 16) + 1] else []

/-- What the source of a block gives: for a local source its bytes in stored form, for another device its answer. -/
def State.blockSource (s : State) (u : Nat) (r : SrcRec) (reply : Option (Bytes × List Nat)) (env : VaultEnv) : State × AnyRead :=
  if r.node = 0xFFFF then
    let k : Consumer := ⟨15, u, 9, 0⟩
    let x := if s.touchesPacked r.addr 1 then s.readStoredAny r.addr r.count k
      else s.readAny (BitVec.ofNat 56 (r.addr.toNat + r.off)) 4096 k env none
    if s.touchesPacked r.addr 1 then
      (x.1, { x.2 with data := slice x.2.data r.off 4096,
                       poison := (x.2.poison.filter (fun g => decide (r.off / 128 ≤ g) && decide (g < r.off / 128 + 32))).map (fun g => g - r.off / 128) })
    else x
  else
    match reply with
    | some (bs, bad) => (s, { AnyRead.empty with data := bs, poison := bad })
    | none => (s, { AnyRead.empty with data := List.replicate 4096 0, poison := List.range 32 })

/-- Writes a block back with good parity and its source record; poisoned grains set their poison bits. -/
def State.rewriteBlock (s : State) (block : Nat) (r : SrcRec) (bs : Bytes) (bad : List Nat) : State :=
  let s := { s with stores := Sparse.putList zeroByte s.stores (4096 * block) (padTo 4096 (bs.take 4096)),
                    storeParity := Sparse.clear (4096 * block) (4096 * block + 4096) s.storeParity }
  let s := s.forEach (List.range 32) (fun s g => s.setStorePoison (32 * block + g) (bad.contains g))
  s.setSrcRec block (some r)

/-- STORE_REFETCH of a block that holds a byte with wrong parity and has a source record. -/
def State.storeRefetch (s : State) (block : Nat) (reply : Option (Bytes × List Nat)) (env : VaultEnv) : State :=
  match s.srcRec block with
  | none => s
  | some r =>
    if !s.blockBad block then s
    else
      let u := storeUnit (4096 * block)
      let fl := if (List.range 32).any (fun g => s.integ.injected.contains (storeKey (32 * block + g))) then flagInjected else 0
      let x := s.blockSource u r reply env
      if !x.2.ready then x.1.readWaits x.2 0 10
      else
        let s := x.1.rewriteBlock block r x.2.data x.2.poison
        let s := s.forEach x.2.poison (fun s g => s.ledger (storeEvent 0x0201 u 0 9 (flagPoisoned ||| fl) (4096 * block + 128 * g)))
        let s := if x.2.poison.isEmpty then s.ceEvent (storeDie u) (4 * 2 ^ 52 + 4096 * block) 15 u 0x0202 fl 9 0 else s
        s.forEach (storeCores u) (fun s n => s.cxBreak n 2)

/-! ## The corrected-error tables (R368) -/

/-- Empties a die's table and clears CE_OVF. -/
def State.ceClear (s : State) (d : Nat) : State :=
  let s := s.clearRegs (0x0502000 + 0x1000 * d) (0x0503000 + 0x1000 * d)
  (s.setF (F.LDG_STS_CE_USED d) 0).setF (F.LDG_STS_CE_OVF d) 0

/-! ## The ledger (R383, R385) -/

/-- A write of HEAD: it moves up to TAIL, and any other value is ignored. -/
def State.headWrite (s : State) (d v : Nat) : State :=
  let head := s.f (F.LDG_HEAD_SEQ d)
  let tail := s.f (F.LDG_TAIL_SEQ d)
  if (v + 2 ^ 32 - head) % 2 ^ 32 ≤ (tail + 2 ^ 32 - head) % 2 ^ 32 then s.setF (F.LDG_HEAD_SEQ d) v else s

/-- The record that LDG_REC_d shows: the one at HEAD, or 64 zero bytes. -/
def State.recShown (s : State) (d : Nat) : Bytes :=
  let head := s.f (F.LDG_HEAD_SEQ d)
  if head = s.f (F.LDG_TAIL_SEQ d) then List.replicate 64 0
  else match Sparse.get ringZero s.integ.ring (8192 * d + head % 8192) with
    | some r => r.bytes
    | none => List.replicate 64 0

/-- The windows that have closed by now are summarised. -/
def State.mergeClose (s : State) (d : Nat) : State :=
  let l := s.merges d
  let old := l.filter (fun (m : Merge) => decide (m.openedAt + s.mergeNs ≤ s.count))
  (s.setMerges d (l.filter (fun (m : Merge) => decide (s.count < m.openedAt + s.mergeNs)))).forEach old State.closeMerge

/-! ## The clearing engines (R380, R381) -/

/-- An engine at the start of its first pass, where unlisted. -/
def noScrub : Nat → Scrub := fun _ => {}

/-- A cluster's clearing engine. -/
def State.scrub (s : State) (c : Nat) : Scrub := Sparse.get noScrub s.integ.scrub c

/-- Sets a cluster's clearing engine. -/
def State.setScrub (s : State) (c : Nat) (x : Scrub) : State :=
  { s with integ := { s.integ with scrub := Sparse.put noScrub s.integ.scrub c x } }

/-- The grains of one pass: the pages of both tiers, the cache lines and their tag grains. -/
def State.scrubGrains (s : State) (c : Nat) : Nat :=
  16384 * (s.f (F.UND_PAGES_PAGES c) + s.f (F.CAN_SPLIT_DIRECT_PAGES c)) + s.canSets c * 4 * 32 + s.canSets c * 4 / 32

/-- Whether a CYCLE_EXACT kernel runs in a cluster (R347). -/
def State.cxRuns (s : State) (c : Nat) : Bool :=
  [2 * c, 2 * c + 1].any (fun n => match (s.core n).running with | some r => r.cx | none => false)

/-- A pass starts. -/
def State.newPass (s : State) (c : Nat) (fast : Bool) : State :=
  (s.setScrub c { startedAt := s.count, fast := fast }).setF (F.CLR_STS_PROGRESS c) 0

/-- One grain more of the pass is done; the last ends it. -/
def State.scrubbed (s : State) (c : Nat) : State :=
  let x := s.scrub c
  let n := x.done + 1
  let s := s.addF (F.CLR_GRAINS_COUNT c) 1
  if s.scrubGrains c ≤ n then
    ((s.addF (F.CLR_STS_PASSES c) 1).setF (F.CLR_LAST_PASS_END_COUNT c) s.count).newPass c false
  else (s.setScrub c { x with done := n }).setF (F.CLR_STS_PROGRESS c) (256 * n / s.scrubGrains c)

/-- What the engine reads: the place and the pool address; a tag grain has none, and its raw place stands for it in a record. -/
def State.scrubLoc (s : State) (c : Nat) : ScrubAt → Option (GrainLoc × PA)
  | .home a =>
    let o := 2 ^ 21 * localPage (pageOf a) + offsetOf (grainOf a) % 2 ^ 21
    if ownerOf (pageOf a) ≠ c then none
    else match spaceOf a with
      | 0 => (s.undLoc c o).map (fun l => (l, grainOf a))
      | 1 => (s.directLoc c o).map (fun l => (l, grainOf a))
      | 2 => (s.undLoc c o).map (fun l => (l, grainOf a))
      | _ => none
  | .line set way g =>
    match s.line c set way.val with
    | some l => (s.lineLoc c set way.val (128 * g.val)).map (fun p => (p, BitVec.ofNat 56 (lineAddr c l.n g.val)))
    | none => none
  | .tags g => (tagLoc c g).map (fun p => (p, BitVec.ofNat 56 p.data))

/-- The engine reads its next grain. An uncorrectable grain goes to the repair (R380). -/
def State.scrubRead (s : State) (c : Nat) (t : ScrubAt) : State :=
  if s.f F.CLR_CFG_EN = 0 ∨ s.clusterFenced c then s
  else if s.cxRuns c then s.setF (F.CLR_STS_HELD c) 1
  else
    let s := s.setF (F.CLR_STS_HELD c) 0
    match s.scrubLoc c t with
    | none => s.scrubbed c
    | some (l, a) =>
      if s.unitFenced l.unit then s
      else
        let r := s.readGrain l a.toNat 3 0
        let s := (r.1.charge (portOfUnit l.unit) 0 128).scrubbed c
        match r.2.2 with
        | .clean => s
        | .corrected => s.addF (F.CLR_CORRECTED_COUNT c) 1
        | .uncorrectable =>
          match t with
          | .tags g => if (s.tagCache c).contains g then s.writeTags c g else s
          | _ => s.startRepairFor a 0 3 false (decide (s.loc a ≠ some l))
        | _ => s.addF (F.CLR_MARKED_SKIPPED_COUNT c) 1

/-- Ns of an overrun: 1.25 × PERIOD_H hours. -/
def State.lateNs (s : State) : Nat := 4500000000000 * s.f F.CLR_CFG_PERIOD_H

/-- A pass overruns: LATE and CLR_LATE, once for the pass. -/
def State.clrLate (s : State) (c : Nat) : State :=
  let x := s.scrub c
  if x.late ∨ s.count < x.startedAt + s.lateNs then s
  else
    ((s.setScrub c { x with late := true }).setF (F.CLR_STS_LATE c) 1).ledger
      { code := 0x0307, die := dieOfCluster c, cluster := c, unitKind := 7, unit := c, op := 3, addr := c }

/-- PASS_NOW: a new pass in every cluster. -/
def State.passNow (s : State) : State := s.forEach (List.range 8) (fun s c => s.newPass c true)

/-! ## The flip mask (R389) -/

/-- Arms the mask with a LDG_FLIP_SEL; a new arming replaces one not applied. -/
def State.flipArm (s : State) (tag pre off unit target : Nat) : State :=
  let s := ((s.setF F.LDG_FLIP_SEL_TAG tag).setF F.LDG_FLIP_SEL_PRE_CODE pre).setF F.LDG_FLIP_SEL_OFFSET off
  ((s.setF F.LDG_FLIP_SEL_UNIT unit).setF F.LDG_FLIP_SEL_TARGET target).setF F.LDG_FLIP_SEL_ARM 1

/-! ## The commands -/

/-- STORE_REFETCH of a 4 KiB store block, with the answer of a remote source (R365). -/
def execStoreRefetch (block : BitVec 20) (reply : Option (Bytes × List Nat)) (env : VaultEnv) (s : State) : Host.Outcome State Fault Refusal :=
  .next (s.storeRefetch block.toNat reply env)
/-- DRAM_REPAIR of a grain, in place or in the home of a cached line, with the partner's answer and what the flash did (R369). -/
def execDramRepair (a : PA) (home : Bool) (reply : Option Bytes) (env : VaultEnv) (s : State) : Host.Outcome State Fault Refusal :=
  .next (s.dramRepair a home reply env).drainWrites
/-- CE_TABLE_CLEAR: a write to LDG_CE_CTL.CLEAR_d (R368). -/
def execCeTableClear (d : Fin 2) (s : State) : Host.Outcome State Fault Refusal := .next (s.ceClear d)
/-- LEDGER_HEAD_WRITE: a write to LDG_HEAD_d (R383). -/
def execLedgerHeadWrite (d : Fin 2) (head : W32) (s : State) : Host.Outcome State Fault Refusal := .next (s.headWrite d head.toNat)
/-- MERGE_WINDOW_CLOSE on a die (R385). -/
def execMergeWindowClose (d : Fin 2) (s : State) : Host.Outcome State Fault Refusal := .next (s.mergeClose d)
/-- SCRUB_READ of a cluster's clearing engine (R380). -/
def execScrubRead (c : Fin 8) (t : ScrubAt) (s : State) : Host.Outcome State Fault Refusal := .next (s.scrubRead c t)
/-- CLR_LATE of a cluster (R381). -/
def execClrLate (c : Fin 8) (s : State) : Host.Outcome State Fault Refusal := .next (s.clrLate c)
/-- PASS_NOW: a write of CLR_CTRL.PASS_NOW (R381). -/
def execPassNow (s : State) : Host.Outcome State Fault Refusal := .next s.passNow
/-- FLIP_ARM: a write of LDG_FLIP_SEL with ARM = 1 (R389). -/
def execFlipArm (tag : Tag) (preCode : Bool) (offset : Fin 512) (unit : Fin 128) (target : Fin 16) (s : State) : Host.Outcome State Fault Refusal :=
  .next (s.flipArm tag.toNat preCode.toNat offset unit target)

end Sys2Proof.Machine
end

