-- ==== Sys2Proof/Machine/Det.lean ====
section
/-! DEFINITION. The determinism unit: seeds and step counters (R352), saving and restoring exact accumulators (R358),
restoring table slots (R359) and the move of a die's clocks to new pins (R350). -/

namespace Sys2Proof.Machine

/-- A write of a tag to DET_STEP_INC (R352). -/
def State.stepInc (s : State) (t : Tag) : State := if t = 0 then s else s.addF (F.DET_STEP_STEP t.toNat) 1

/-- A write of 1 to DET_TAG_CTL_t.LOCK (R352). -/
def State.seedLock (s : State) (t : Tag) : State := if t = 0 then s else s.setF (F.DET_TAG_CTL_LOCK t.toNat) 1

/-! ## DET_ACC_CMD (R358) -/

/-- The end of an accumulator command with a result; a result 1 or 3 is recorded. -/
def State.accResult (s : State) (core op result : Nat) : State :=
  let s := (s.setF F.DET_ACC_CMD_CORE core).setF F.DET_ACC_CMD_OP op
  let s := (s.setF F.DET_ACC_CMD_RESULT result).setF F.DET_ACC_CMD_GO 0
  if result = 1 ∨ result = 3 then
    s.ledger { coreEvent 0x0751 core 0 0 (s.f F.DET_ACC_ADDR_ADDR) 0 with core := core, detail := leBytes 1 result }
  else s

/-- Whether a core is IDLE, CLOCK_GATED or POWER_GATED (CORE_STATUS.STATE 0, 3 or 4). -/
def State.coreQuiet (s : State) (n : Nat) : Bool :=
  let c := s.core n
  !s.coreFenced n && c.running.isNone && c.sw.isNone && c.dqHead.isNone &&
    (match c.power with | .waking _ => false | _ => true)

/-- DET_ACC_ADDR is 64-byte aligned and names 24,576 bytes of PLAIN memory. -/
def State.accAddrOk (s : State) : Bool :=
  decide (s.f F.DET_ACC_ADDR_ADDR % 64 = 0) && s.plainRange (BitVec.ofNat 56 (s.f F.DET_ACC_ADDR_ADDR)) 24576

/-- What every accumulator command checks first. -/
def State.accChecks (s : State) (core op : Nat) (needsAddr : Bool) (go : State → State) : State :=
  if needsAddr && !s.accAddrOk then s.accResult core op 1
  else if !s.coreQuiet core then s.accResult core op 2
  else go s

/-- SAVE: accumulator l goes to byte 48l in its save form; one that depends on poison poisons the grains that it goes to (R167). -/
def State.accSave (s : State) (core : Nat) : State :=
  s.accChecks core 1 true (fun s =>
    let a : PA := BitVec.ofNat 56 (s.f F.DET_ACC_ADDR_ADDR)
    let bad := badParts a.toNat 384 ((List.range 512).map (fun l => ⟨0, s.exactBad core l, 0⟩))
    let s := s.writeRange a (gather 512 (fun l => (s.exact core l).bytes)) 0
    (s.forEach bad (fun s g => s.poisonPool (BitVec.ofNat 56 (a.toNat + 128 * g)))).accResult core 1 0)

/-- RESTORE: an accumulator of which a byte lies in a poisoned grain takes NAN. While a grain is under repair GO reads 1, and the
command comes again. -/
def State.accRestore (s : State) (core : Nat) : State :=
  s.accChecks core 2 true (fun s =>
    let a : PA := BitVec.ofNat 56 (s.f F.DET_ACC_ADDR_ADDR)
    let r := s.readAny a 24576 (coreConsumer core 0) {} none
    if !r.2.ready then (((r.1.readWaits r.2 0 6).setF F.DET_ACC_CMD_CORE core).setF F.DET_ACC_CMD_OP 2).setF F.DET_ACC_CMD_GO 1
    else
      let off := a.toNat % 128
      let bad (l : Nat) : Bool := r.2.poison.any (fun g => decide (128 * g < off + 48 * l + 48) && decide (off + 48 * l < 128 * (g + 1)))
      let s := r.1.forEach (List.range 512) (fun s l =>
        let x := ExactAcc.ofBytes (slice r.2.data (48 * l) 48)
        s.putExact core l (if bad l then { x with nan := true } else x) false)
      s.accResult core 2 (if r.2.poison.isEmpty then 0 else 3))

/-- CLEAR. -/
def State.accClear (s : State) (core : Nat) : State :=
  s.accChecks core 3 false (fun s =>
    let s := { s with exacts := Sparse.clear (512 * core) (512 * (core + 1)) s.exacts }
    (s.setCore core { s.core core with exactBad := [] }).accResult core 3 0)

/-! ## DET_SLOT_RESTORE (R359) -/

/-- Ends the command with a code, 0 for success. -/
def State.restoreEnd (s : State) (x : SlotRestore) (code : Nat) : State :=
  let s := (s.setF F.DET_SLOT_RESTORE_SLOT x.slot).setF F.DET_SLOT_RESTORE_GEN x.gen.toNat
  let s := (s.setF F.DET_SLOT_RESTORE_PLANES x.planes).setF F.DET_SLOT_RESTORE_XOR (if x.xor then 1 else 0)
  let s := (s.setF F.DET_SLOT_RESTORE_LOCK (if x.lock then 1 else 0)).setF F.DET_SLOT_RESTORE_RETIRED (if x.retired then 1 else 0)
  let s := (s.setF F.DET_SLOT_RESTORE_CODE code).setF F.DET_SLOT_RESTORE_GO 0
  if code = 0 then s else (s.setF F.MNT_STATUS_LAST_ERR code).ledger { code := code, addr := x.slot }

/-- The command: the slot is checked first, then PLANES, then the tables. -/
def State.slotRestore (s : State) (x : SlotRestore) : State :=
  let i : Nat := x.slot
  if s.slotSt i ≠ slotFree ∨ s.f (F.MNT_SLOT_INFO_LOCK i) = 1 ∨ s.f (F.MNT_SLOT_INFO_RSV i) = 1 ∨
      s.f (F.MNT_SLOT_INFO_DAMAGED i) = 1 then s.restoreEnd x cSlotBusy
  else if x.planes = 0 ∨ 4 < x.planes.val then s.restoreEnd x cTableInvalid
  else if !tablesValid x.planes s.stagedTables then s.restoreEnd x cTableInvalid
  else
    let s := s.setTables i (tablesFor x.planes s.stagedTables)
    let s := (s.setF (F.MNT_SLOT_INFO_GEN i) x.gen.toNat).setF (F.MNT_SLOT_INFO_PLANES i) x.planes
    let s := (s.setF (F.MNT_SLOT_INFO_XOR i) (if x.xor then 1 else 0)).setF (F.MNT_SLOT_INFO_LOCK i) (if x.lock then 1 else 0)
    let s := s.setF (F.MNT_SLOT_INFO_COUNT i) 0
    (s.setF (F.MNT_SLOT_INFO_STATE i) (if x.retired then slotRetired else slotActive)).restoreEnd x 0

/-! ## The clocks (R350) -/

/-- A die's clocks at some frequencies; AO_CLK shows the lowest of the two dies. -/
def State.setClocks (s : State) (d e f : Nat) : State :=
  let c := s.clocks
  let c := if d = 0 then { c with engine0 := e, fabric0 := f } else { c with engine1 := e, fabric1 := f }
  let s := { s with clocks := c }
  (s.setF F.AO_CLK_ENGINE_MHZ (min c.engine0 c.engine1)).setF F.AO_CLK_FABRIC_MHZ (min c.fabric0 c.fabric1)

/-- Whether a CYCLE_EXACT kernel of an older epoch runs on a die. -/
def State.oldCx (s : State) (d : Nat) : Bool :=
  (List.range 8).any (fun i =>
    match (s.core (8 * d + i)).running with
    | some r => r.cx && r.epoch != s.f F.GLB_EPOCH_CURRENT
    | none => false)

/-- The clocks of a die move to the pins in force, once no CYCLE_EXACT kernel of an older epoch runs on it (R350). -/
def State.clockRepin (s : State) (d : Nat) : State :=
  if s.oldCx d then s
  else
    let p := s.pins
    let s := { s with clocks := if d = 0 then { s.clocks with pins0 := p } else { s.clocks with pins1 := p } }
    s.setClocks d p.1 p.2

/-! ## The commands -/

/-- STEP_INC (R352). -/
def execStepInc (t : Tag) (s : State) : Host.Outcome State Fault Refusal := .next (s.stepInc t)
/-- SEED_LOCK (R352). -/
def execSeedLock (t : Tag) (s : State) : Host.Outcome State Fault Refusal := .next (s.seedLock t)
/-- ACC_SAVE: DET_ACC_CMD with OP 1 (R358). -/
def execAccSave (core : Fin 16) (s : State) : Host.Outcome State Fault Refusal := .next (s.accSave core)
/-- ACC_RESTORE: OP 2 (R358). -/
def execAccRestore (core : Fin 16) (s : State) : Host.Outcome State Fault Refusal := .next (s.accRestore core)
/-- ACC_CLEAR: OP 3 (R358). -/
def execAccClear (core : Fin 16) (s : State) : Host.Outcome State Fault Refusal := .next (s.accClear core)
/-- DET_SLOT_RESTORE (R359). -/
def execDetSlotRestore (x : SlotRestore) (s : State) : Host.Outcome State Fault Refusal := .next (s.slotRestore x)
/-- CLOCK_REPIN (R350). -/
def execClockRepin (d : Fin 2) (s : State) : Host.Outcome State Fault Refusal := .next (s.clockRepin d)

end Sys2Proof.Machine
end

