-- ==== Sys2Proof/Machine/Crypto.lean ====
section
/-! DEFINITION. SM3 digests and the check of SM2 signatures (R43, R478). The manual names the standards (SM3; SM2 over the
recommended 256-bit curve of GB/T 32918.5); their constants and steps are taken from them. PRESUMED. -/

namespace Sys2Proof

/-! ## SM3 -/

/-- Rotation of a 32-bit word to the left. -/
def rotl (x : W32) (n : Nat) : W32 := x.rotateLeft (n % 32)

def sm3P0 (x : W32) : W32 := x ^^^ rotl x 9 ^^^ rotl x 17
def sm3P1 (x : W32) : W32 := x ^^^ rotl x 15 ^^^ rotl x 23

/-- The round constant. -/
def sm3T (j : Nat) : W32 := if j < 16 then 0x79CC4519 else 0x7A879D8A

def sm3FF (j : Nat) (x y z : W32) : W32 := if j < 16 then x ^^^ y ^^^ z else (x &&& y) ||| (x &&& z) ||| (y &&& z)
def sm3GG (j : Nat) (x y z : W32) : W32 := if j < 16 then x ^^^ y ^^^ z else (x &&& y) ||| (~~~x &&& z)

/-- The expanded words W₀ to W₆₇ of a 64-byte block, first word first. -/
def sm3Expand (block : Bytes) : List W32 :=
  let w0 := (List.range 16).map (fun i => BitVec.ofNat 32 (beNat (slice block (4 * i) 4)))
  (List.range 52).foldl (fun (w : List W32) i =>
    let g (k : Nat) : W32 := w.getD (i + 16 - k) 0
    w ++ [sm3P1 (g 16 ^^^ g 9 ^^^ rotl (g 3) 15) ^^^ rotl (g 13) 7 ^^^ g 6]) w0

/-- The eight chaining words. -/
structure Sm3State where
  a : W32
  b : W32
  c : W32
  d : W32
  e : W32
  f : W32
  g : W32
  h : W32
  deriving DecidableEq, Repr

/-- One round. -/
def sm3Round (w : List W32) (v : Sm3State) (j : Nat) : Sm3State :=
  let ss1 := rotl (rotl v.a 12 + v.e + rotl (sm3T j) j) 7
  let ss2 := ss1 ^^^ rotl v.a 12
  let tt1 := sm3FF j v.a v.b v.c + v.d + ss2 + (w.getD j 0 ^^^ w.getD (j + 4) 0)
  let tt2 := sm3GG j v.e v.f v.g + v.h + ss1 + w.getD j 0
  ⟨tt1, v.a, rotl v.b 9, v.c, sm3P0 tt2, v.e, rotl v.f 19, v.g⟩

/-- One block. -/
def sm3Block (v : Sm3State) (block : Bytes) : Sm3State :=
  let w := sm3Expand block
  let r := (List.range 64).foldl (sm3Round w) v
  ⟨r.a ^^^ v.a, r.b ^^^ v.b, r.c ^^^ v.c, r.d ^^^ v.d, r.e ^^^ v.e, r.f ^^^ v.f, r.g ^^^ v.g, r.h ^^^ v.h⟩

/-- A message padded to whole blocks. -/
def sm3Pad (m : Bytes) : Bytes :=
  m ++ [0x80] ++ List.replicate ((119 - m.length % 64) % 64) 0 ++ beBytes 8 (8 * m.length)

/-- The 32-byte SM3 digest. -/
def sm3 (m : Bytes) : Bytes :=
  let p := sm3Pad m
  let v := (List.range (p.length / 64)).foldl (fun v i => sm3Block v (slice p (64 * i) 64))
    ⟨0x7380166F, 0x4914B2B9, 0x172442D7, 0xDA8A0600, 0xA96F30BC, 0x163138AA, 0xE38DEE4D, 0xB0FB0E4E⟩
  [v.a, v.b, v.c, v.d, v.e, v.f, v.g, v.h].flatMap (fun x => beBytes 4 x.toNat)

/-! ## SM2 -/

def sm2p : Nat := 0xFFFFFFFEFFFFFFFFFFFFFFFFFFFFFFFFFFFFFFFF00000000FFFFFFFFFFFFFFFF
def sm2a : Nat := 0xFFFFFFFEFFFFFFFFFFFFFFFFFFFFFFFFFFFFFFFF00000000FFFFFFFFFFFFFFFC
def sm2b : Nat := 0x28E9FA9E9D9F5E344D5A9E4BCF6509A7F39789F515AB8F92DDBCBD414D940E93
def sm2n : Nat := 0xFFFFFFFEFFFFFFFFFFFFFFFFFFFFFFFF7203DF6B21C6052B53BBF40939D54123
def sm2gx : Nat := 0x32C4AE2C1F1981195F9904466A39C9948FE30BBFF2660BE1715A4589334C74C7
def sm2gy : Nat := 0xBC3736A2F4F6779C59BDCEE36B692153D0A9877CC62A474002DF32E52139F0A0

/-- x to the power k modulo m, over the low n bits of k. -/
def powMod (m : Nat) : Nat → Nat → Nat → Nat
  | 0, _, _ => 1
  | n + 1, x, k => if k % 2 = 1 then x * powMod m n (x * x % m) (k / 2) % m else powMod m n (x * x % m) (k / 2)

/-- The inverse modulo the prime of the field. -/
def invMod (x : Nat) : Nat := powMod sm2p 256 (x % sm2p) (sm2p - 2)

/-- A point of the curve; none is the point at infinity. -/
abbrev EcPoint := Option (Nat × Nat)

/-- The sum of two points. -/
def ecAdd : EcPoint → EcPoint → EcPoint
  | none, q => q
  | p, none => p
  | some (x1, y1), some (x2, y2) =>
    if x1 = x2 ∧ (y1 + y2) % sm2p = 0 then none
    else
      let l := if x1 = x2 then (3 * x1 * x1 + sm2a) * invMod (2 * y1) % sm2p
        else (y2 + sm2p - y1) * invMod (x2 + sm2p - x1) % sm2p
      let x3 := (l * l + 2 * sm2p - x1 - x2) % sm2p
      some (x3, (l * (x1 + sm2p - x3) + sm2p - y1) % sm2p)

/-- A multiple of a point, over the low n bits of k. -/
def ecMul : Nat → Nat → EcPoint → EcPoint
  | 0, _, _ => none
  | n + 1, k, p => if k % 2 = 1 then ecAdd p (ecMul n (k / 2) (ecAdd p p)) else ecMul n (k / 2) (ecAdd p p)

/-- Whether coordinates name a point of the curve. -/
def onCurve (x y : Nat) : Bool :=
  decide (x < sm2p) && decide (y < sm2p) && y * y % sm2p == (x * x % sm2p * x + sm2a * x + sm2b) % sm2p

/-- Z_A of a user identifier and a 64-byte public key. -/
def sm2Za (uid pub : Bytes) : Bytes :=
  sm3 (beBytes 2 (8 * uid.length) ++ uid ++ beBytes 32 sm2a ++ beBytes 32 sm2b ++ beBytes 32 sm2gx ++ beBytes 32 sm2gy ++ pub)

/-- Whether a 64-byte signature r ‖ s over the digest of the signed bytes verifies under a public key x ‖ y (R478). -/
def sm2Verify (uid pub digest sig : Bytes) : Bool :=
  let x := beNat (pub.take 32)
  let y := beNat ((pub.drop 32).take 32)
  let r := beNat (sig.take 32)
  let v := beNat ((sig.drop 32).take 32)
  let e := beNat (sm3 (sm2Za uid pub ++ digest))
  let t := (r + v) % sm2n
  onCurve x y && r != 0 && decide (r < sm2n) && v != 0 && decide (v < sm2n) && t != 0 &&
    (match ecAdd (ecMul 256 v (some (sm2gx, sm2gy))) (ecMul 256 t (some (x, y))) with
    | some (x1, _) => (e + x1) % sm2n == r
    | none => false)

/-- The user identifier of images, shelf packages and attestation reports (R478). -/
def asciiBytes (t : List Nat) : Bytes := t.map (BitVec.ofNat 8)

def uidImage : Bytes := asciiBytes [0x44, 0x5A, 0x4B, 0x2D, 0x58, 0x4D, 0x39, 0x31, 0x36, 0x30, 0x2D, 0x49, 0x4D, 0x41, 0x47, 0x45]
def uidShelf : Bytes := asciiBytes [0x44, 0x5A, 0x4B, 0x2D, 0x58, 0x4D, 0x39, 0x31, 0x36, 0x30, 0x2D, 0x53, 0x48, 0x45, 0x4C, 0x46]
def uidAttest : Bytes := asciiBytes [0x44, 0x5A, 0x4B, 0x2D, 0x58, 0x4D, 0x39, 0x31, 0x36, 0x30, 0x2D, 0x41, 0x54, 0x54, 0x53, 0x54]

end Sys2Proof
end

