-- ==== Sys2Proof/Machine/Silent.lean ====
section
/-! DEFINITION. Silent errors and field test: the checksum lanes (R393, R394), shadow runs (R396 to R398), diagnosis
(R400), the test shelf (R403, R404) and field tests (R405 to R408); and with them the start of kernels (R175, R178). -/

namespace Sys2Proof.Machine

/-! ## Starting a kernel, with its shadow (R175, R396, R397, R400) -/

/-- D of the fraction in force; 0 selects no kernel (R395). -/
def State.shadowD (s : State) : Nat :=
  match s.f F.TST_CFG_FRACTION with | 1 => 64 | 2 => 16 | 3 => 4 | 4 => 1 | _ => 0

/-- The 14 cores outside a core's cluster, ascending. -/
def outsideCores (n : Nat) : List Nat := (List.range 16).filter (fun m => clusterOfCore m != clusterOfCore n)

/-- Whether a core can take a shadow entry (R396). -/
def State.shadowFree (s : State) (m : Nat) : Bool :=
  !s.coreFenced m && !s.engineFenced m && !s.cxCore m && (s.testOf m).isNone && decide ((s.core m).depth < 64)

/-- SEL and SH of a core. -/
def State.selOf (s : State) (n : Nat) : Nat := Sparse.get natZero s.silent.sel n
def State.shOf (s : State) (n : Nat) : Nat := Sparse.get natZero s.silent.sh n
def State.setSel (s : State) (n v : Nat) : State := { s with silent := { s.silent with sel := Sparse.put natZero s.silent.sel n v } }
def State.setSh (s : State) (n v : Nat) : State := { s with silent := { s.silent with sh := Sparse.put natZero s.silent.sh n v } }

/-- The shadow core that the rotation gives, with the steps past SH that it takes. -/
def State.pickShadow (s : State) (n : Nat) : Option (Nat × Nat) :=
  let l := outsideCores n
  ((List.range 14).map (fun k => (k, l.getD ((s.shOf n + k) % 14) 0))).find? (fun p => s.shadowFree p.2)

/-- Posts a shadow entry of a core's kernel to a core's device queue. -/
def State.postShadow (s : State) (n m : Nat) (fromDq : Bool) (x : Fetched) (diag : Option Nat) (code : KCode) : State :=
  let c := s.core m
  let s := s.setCore m { c with dq := c.dq ++ [⟨s.nextId, x.desc, .shadow n⟩] }
  { s with
    nextId := s.nextId + 1
    silent := { s.silent with shadows := s.silent.shadows ++ [⟨n, x.uid, m, fromDq, s.count, false, true, diag, false, false, none, 0, code⟩] } }

/-- The suspect entry whose diagnosis a kernel of a core is (R400). -/
def State.diagFor (s : State) (n : Nat) (x : Fetched) : Option Nat :=
  let i := s.f F.TST_DIAG_CTL_ENTRY
  if s.f F.TST_DIAG_CTL_ARM = 1 ∧ s.f F.TST_DIAG_CTL_CORE = n ∧ x.bad.isEmpty ∧ s.f (F.TST_SUSPECT_KERNEL_ID i) = kdKernel x.desc then some i
  else none

/-- A kernel's turn has come on an awake core: a diagnosis run and a selected kernel post a shadow entry and wait for it;
any other kernel starts or is refused now, and so does one whose shadow entry was withdrawn. -/
def State.takeTurn (s : State) (n : Nat) (fromDq : Bool) (x : Fetched) (code : KCode) : State :=
  if s.silent.unshadowed.contains x.uid then
    ({ s with silent := { s.silent with unshadowed := s.silent.unshadowed.filter (fun u => u != x.uid) } }).launch n fromDq x code
  else match s.diagFor n x with
  | some i =>
    let m := s.f F.TST_DIAG_CTL_SHADOW
    if s.coreFenced m || s.engineFenced m then (s.diagResult i dgUnresolved s.count none).launch n fromDq x code
    else s.postShadow n m fromDq x (some i) code
  | none =>
    if !x.bad.isEmpty || !s.usesEngine n x.desc || s.cxCore n then s.launch n fromDq x code
    else
      let sel := s.selOf n
      let s := s.setSel n (sel + 1)
      let d := s.shadowD
      if d = 0 ∨ sel % d ≠ 0 then s.launch n fromDq x code
      else
        match s.pickShadow n with
        | none => (s.addF F.TST_SHADOW_SKIPPED_COUNT 1).launch n fromDq x code
        | some (k, m) => (s.setSh n (s.shOf n + k + 1)).postShadow n m fromDq x none code

/-- KERNEL_START at a boundary of a core, whose heads' held copies may be found uncorrectable now. A core that is not awake
is woken and starts nothing yet (R176, R183); a kernel whose shadow has taken its entry starts with it. -/
def State.kernelStart (s : State) (n : Nat) (code : KCode) (ecc : List (Bool × Fin 8)) : State :=
  if s.coreFenced n || (s.core n).running.isSome || s.testing n || s.coreStopped n || (s.shadowing n).isSome then s
  else
    let s := s.eccFound n ecc
    match s.shadowOf n with
    | some x => if !x.taken then s else if !s.awake n then s.wakeCore n else s.launchWaiting x
    | none =>
      match s.turn n with
      | none => s
      | some (fromDq, x) =>
        if x.isShadow then s
        else if !s.awake n then s.wakeCore n
        else if s.engineFenced n && s.usesEngine n x.desc then s
        else s.takeTurn n fromDq x code

/-- The shadow entry at the head of a core's device queue: the core whose kernel it shadows, and the core's state without
the entry. -/
def CoreSt.shadowHead (c : CoreSt) : Option (Nat × CoreSt) :=
  match c.dqHead, c.dq with
  | some x, _ => match x.producer with | some (.shadow n) => some (n, { c with dqHead := none }) | _ => none
  | none, e :: rest => match e.producer with | .shadow n => some (n, { c with dq := rest }) | _ => none
  | none, [] => none

/-- The shadow core takes the entry at its boundary, and the original starts (R397). -/
def State.shadowTaken (s : State) (m : Nat) : State :=
  if s.coreFenced m || (s.core m).running.isSome || s.testing m || (s.shadowing m).isSome then s
  else if !s.awake m then s.wakeCore m
  else
    match (s.core m).shadowHead with
    | none => s
    | some (n, c) =>
      match s.shadowOf n with
      | none => s.setCore m c
      | some x =>
        let s := s.setCore m c
        let x := { x with taken := true, startedAt := s.count }
        ((s.setShadow x).addF F.TST_SHADOWED_COUNT 1).launchWaiting x

/-- A shadow entry not taken within SHADOW_WAIT_US is withdrawn, and the original runs unshadowed (R397). -/
def State.shadowTimeout (s : State) (n : Nat) : State :=
  match s.shadowOf n with
  | none => s
  | some x =>
    if x.taken ∨ s.count < x.postedAt + 1000 * s.f F.TST_CFG_SHADOW_WAIT_US then s
    else ((s.shadowEnd n).addF F.TST_SHADOW_SKIPPED_COUNT 1).launchWaiting x

/-! ## K-blocks (R144, R149 to R154, R393) -/

/-- The elements of the K-rows of an operand. -/
def rowElems (t : ElemType) (rows : List Bytes) : List (List Nat) := rows.map (elemsOf t.fmt.tileWidth)

/-- The K-values of one row of A or column of B. -/
def kValues (t : ElemType) (rows : List (List Nat)) (i : Nat) : List Num := rows.map (fun r => t.fmt.value (r.getD i 0))

/-- The block sum of a cell before its scale, where no special value resolves it, and E of the cell (R149, R153). -/
def cellSum (as bs : List Num) : Option (Num × Option Int) :=
  match blockValue false none as bs with
  | (.fin n m e, _) => some (.fin n m e, blockTop (List.zipWith Num.mul as bs))
  | _ => none

/-- The block sums of a block as its engine formed them, row by row: the exact ones but for the wrong cells. -/
def blockSums (a b : List (List Num)) (wrong : List WrongSum) : List (List (Option (Num × Option Int))) :=
  a.zipIdx.map (fun (ra : List Num × Nat) => b.zipIdx.map (fun (cb : List Num × Nat) =>
    match wrong.find? (fun (w : WrongSum) => w.row == ra.2 && w.col == cb.2) with
    | some w => (cellSum ra.1 cb.1).map (fun r => (.fin (decide (w.mag < 0)) w.mag.natAbs w.exp, r.2))
    | none => cellSum ra.1 cb.1))

/-- The larger of two exponents that may be absent. -/
def maxExp (a b : Option Int) : Option Int :=
  match a, b with
  | some x, some y => some (max x y)
  | some x, none => some x
  | none, y => y

/-- Whether a check sum agrees with the sum of block sums: equal, or for BF16 within 2^(E − k) (R393). -/
def laneAgrees (bf16 : Bool) (k : Int) (check : Num) (cells : List (Num × Option Int)) : Bool :=
  let d := (check.add (sumExact (cells.map (fun c => c.1))).neg).abs
  if bf16 then
    match cells.foldl (fun e c => maxExp e c.2) none with
    | some e => d.lt (.fin false 1 (e - k))
    | none => d.isZero
  else d.isZero

/-- The first failing lane of a block: (false, column) for the hidden row's check Rₙ, (true, row) for the hidden column's
check Cₘ; none when the block agrees or is not checked. -/
def laneCheck (bf16 : Bool) (a b : List (List Num)) (sums : List (List (Option (Num × Option Int)))) : Option (Bool × Nat) :=
  if sums.any (fun r => r.any Option.isNone) then none
  else
    let cells := sums.map (fun r => r.filterMap id)
    let kSum (l : List (List Num)) (k : Nat) : Num := sumExact (l.map (fun v => v.getD k (.zero false)))
    let as_ := (List.range 32).map (kSum a)
    let bs_ := (List.range 32).map (kSum b)
    let badCol := (List.range b.length).find? (fun n =>
      !laneAgrees bf16 76 (sumExact (List.zipWith Num.mul as_ (b.getD n []))) (cells.map (fun r => r.getD n (.zero false, none))))
    match badCol with
    | some n => some (false, n)
    | none =>
      ((List.range a.length).find? (fun m =>
        !laneAgrees bf16 74 (sumExact (List.zipWith Num.mul (a.getD m []) bs_)) (cells.getD m []))).map (fun m => (true, m))

/-- The scale bytes of a cell of an MX pair. -/
def cellScales (t : ElemType) (o : BlockOps) (m n : Nat) : Option (Nat × Nat) :=
  if t.mx then some ((o.aScales.getD m 0).toNat, (o.bScales.getD n 0).toNat) else none

/-- The block value V of a cell as the engine formed it, rounded to FP32, with the flags it raises (R149, R150, R153); the
integer sum for INT8. -/
def cellV (t : ElemType) (o : BlockOps) (as bs : List Num) (sum : Option (Num × Option Int)) (m n : Nat) : Nat × Nat :=
  let sc := cellScales t o m n
  match blockValue (t.fmt == .bf16) sc as bs, sum with
  | (.fin _ _ _, fl), some (v, _) =>
    if t.fmt = .int8 then ((match v with | .fin neg g e => ((if neg then -(shiftBy g e : Int) else shiftBy g e) % 2 ^ 32).toNat | _ => 0), fl)
    else (toF32 (v.scale (match sc with | some (x, y) => (x : Int) + (y : Int) - 254 | none => 0)), fl)
  | (v, fl), _ => (toF32 v, fl)

/-- An accumulator after a block value is added, and the flags (R150, R154). -/
def accAdd (t : ElemType) (acc : W32) (v : Nat) : W32 × Nat :=
  let r := if t.fmt = .int8 then accInt acc.toNat v else accFloat acc.toNat v
  (BitVec.ofNat 32 r.1, r.2)

/-- The CRC-32C over 128 × 512 FP32 values in row-major order, each little-endian (R398, R400). -/
def crcOfCells (v : Nat → Nat → Nat) : Nat :=
  (crc32c (gather 128 (fun m => gather 512 (fun n => leBytes 4 (v m n))))).toNat

/-! ## Lane mismatches (R394) -/

/-- DETAIL of CHECKSUM_LANE: pass, block, and the failing row or column with its kind. -/
def laneDetail (pass block : Nat) (lane : Bool × Nat) : Bytes :=
  leBytes 4 pass ++ leBytes 4 block ++ leBytes 2 lane.2 ++ leBytes 2 (if lane.1 then 0 else 1)

/-- What a K-block of an engine's own kernel brings. -/
structure BlockRun where
  pass : Nat
  block : Nat
  ops : BlockOps
  own : Nat
  third : Option W32
  deriving DecidableEq, Repr

/-- A lane mismatch of an engine that runs its own kernel: record, capture, suspect entry, diagnosis where this is the
entry's block, and the abort (R394, R400). -/
def State.laneFail (s : State) (n : Nat) (r : Running) (b : BlockRun) (lane : Bool × Nat) (cut : KernelCut) : State :=
  let tag := kdTag r.desc
  let s := s.ledger { coreEvent 0x0602 n tag 6 0 0 with engine := n, detail := laneDetail b.pass b.block lane }
  let place := (s.suspectPlace).getD 0xFFFFFFFF
  let s := s.capture ⟨n, 1, tag, kdKernel r.desc, fieldLe r.desc 0x24 1, b.pass, b.block, 0, b.own⟩ b.ops place r.startedAt
  let s := ((s.openSuspect 0 n 0 tag (kdKernel r.desc) b.pass b.block 0 0).1.markSuspect n).addF F.TST_MISMATCHES_COUNT 1
  let s :=
    match s.shadowOf n with
    | some x =>
      match x.diag with
      | some i =>
        if s.f (F.TST_SUSPECT_KIND i) = 0 ∧ s.f (F.TST_SUSPECT_PASS_PASS i) = b.pass ∧ s.f (F.TST_SUSPECT_PASS_BLOCK i) = b.block then
          s.diagResult i dgPermanent x.startedAt none
        else s
      | none => s
    | none => s
  s.abortKernel n 0x0602 cut

/-- A lane mismatch of a shadow engine: its entry opens, the engine is marked, and the original goes on unchecked. -/
def State.shadowLaneFail (s : State) (x : Shadow) (r : Running) (pass block : Nat) : State :=
  let s := ((s.openSuspect 0 x.shadow 0 (kdTag r.desc) (kdKernel r.desc) pass block 0 0).1.markSuspect x.shadow).addF F.TST_MISMATCHES_COUNT 1
  s.uncheck x

/-- The element types of a running kernel's operand pair: its descriptor's, or, for a kernel of the expert service, which derives
them from its entry, those that come with the block. -/
def Running.pair (r : Running) (types : Option (Nat × Nat)) : Option (ElemType × ElemType) :=
  let c := match types with
    | some q => if expertIds.contains (kdKernel r.desc) then q else (kdInA r.desc, kdInB r.desc)
    | none => (kdInA r.desc, kdInB r.desc)
  match elemOfCode c.1, elemOfCode c.2 with
  | some a, some b => some (a, b)
  | _, _ => none

/-- The block values of a K-block, by row and column, with their flags. -/
abbrev BlockVals := List (List (Nat × Nat))

/-- A block value by its cell. -/
def BlockVals.get (v : BlockVals) (m k : Nat) : Nat × Nat := (v.getD m []).getD k (0, 0)

/-- A K-block's values are added to a core's accumulators; a cell of a poisoned row or column depends on poison from then on
(R167). The kernel's flags take those of the block. -/
def State.addBlock (s : State) (n : Nat) (r : Running) (t : ElemType) (a b : BlockSide) (v : BlockVals) : State :=
  let cells := (List.range v.length).flatMap (fun m => (List.range (v.getD m []).length).map (fun k => (m, k)))
  let fl := cells.foldl (fun f q => f ||| (v.get q.1 q.2).2 ||| (accAdd t (s.acc n q.1 q.2) (v.get q.1 q.2).1).2) r.flags
  let s := s.forEach cells (fun s q =>
    let s := s.setAcc n q.1 q.2 (accAdd t (s.acc n q.1 q.2) (v.get q.1 q.2).1).1
    if a.bad.getD q.1 false || b.bad.getD q.2 false then s.spoilAcc n q.1 q.2 else s)
  s.setRunning n { r with flags := fl }

/-- The shadow engine's part in a K-block: in a diagnosis run the block's values are compared, and the shadow's lanes are
checked (R394, R400). -/
def State.shadowBlock (s : State) (n : Nat) (r : Running) (b : BlockRun) (bad : Bool) : State :=
  match s.shadowOf n with
  | none => s
  | some x =>
    let s := match x.diag, b.third with
      | some i, some t =>
        if t.toNat ≠ b.own ∧ !x.captured then
          (s.capture ⟨n, 2, kdTag r.desc, kdKernel r.desc, fieldLe r.desc 0x24 1, b.pass, b.block, t.toNat, b.own⟩ b.ops i x.startedAt).setShadow
            { x with captured := true }
        else s
      | _, _ => s
    if bad then s.shadowLaneFail x r b.pass b.block else s

/-- What a K-block's end brings: its pass and number, where its operands lie, what a kernel with ACC_LOAD loads into its
accumulators before block 0, the operand pair of a kernel of the expert service, the block sums that the kernel's engine and
its shadow engine computed wrong, and the CRC of the block values that the shadow engine of a diagnosis run formed. -/
structure BlockEnd where
  pass : Nat
  block : Nat
  a : OperandAt
  b : OperandAt
  init : List (Nat × PA × Nat)
  types : Option (Nat × Nat)
  wrong : List WrongSum
  shadowWrong : List WrongSum
  third : Option W32
  deriving DecidableEq, Repr

/-- The end of a K-block of a kernel's pass (R144, R393, R394, R400). A block whose operands must be repaired first has not
ended. A lane mismatch found on a kernel that another fault of the same count has aborted is recorded too (R168). -/
def State.kBlockEnd (s0 : State) (cut : KernelCut) (q : BlockEnd) : State :=
  let n := cut.core.val
  match s0.faultedKernel n with
  | none => s0
  | some r =>
    match r.pair q.types with
    | none => s0
    | some (ta, tb) =>
      let x := (⟨s0, none, none⟩ : Loads).side n r.desc ta q.a 128
      let y := x.1.side n r.desc tb q.b 512
      let z := if q.block = 0 then y.1.accs n r.desc q.init else y.1
      if z.wait.isSome then s0.retry (z.settle (kdTag r.desc))
      else
        let ra := rowElems ta x.2.rows
        let rb := rowElems tb y.2.rows
        let a := (List.range x.2.bad.length).map (kValues ta ra)
        let b := (List.range y.2.bad.length).map (kValues tb rb)
        let ops : BlockOps := ⟨x.2.scales, y.2.scales, x.2.rows, y.2.rows⟩
        let sums := blockSums a b q.wrong
        let v : BlockVals := a.zipIdx.map (fun m => b.zipIdx.map (fun k =>
          cellV ta ops m.1 k.1 ((sums.getD m.2 []).getD k.2 none) m.2 k.2))
        let run : BlockRun := ⟨q.pass, q.block, ops, crcOfCells (fun m k => (v.get m k).1), q.third⟩
        match laneCheck (ta.fmt == .bf16) a b sums with
        | some lane => y.1.st.laneFail n r run lane cut
        | none =>
          if (s0.core n).running.isNone then s0
          else
            let p := z.st.kernelPoison n r z.first
            (p.1.addBlock n p.2 ta x.2 y.2 v).shadowBlock n r run (laneCheck (ta.fmt == .bf16) a b (blockSums a b q.shadowWrong)).isSome

/-! ## The end of a pass (R398, R400) -/

/-- Records the count of a matching comparison for both cores (R398). -/
def State.lastCompared (s : State) (n m : Nat) : State :=
  (s.setF (F.TST_CORE_LAST_COUNT n) s.count).setF (F.TST_CORE_LAST_COUNT m) s.count

/-- The two engines' accumulators are compared at the end of a pass of a shadowed kernel. seen gives the CRCs that the two engines
formed where either differs from the CRC of the accumulators. -/
def State.passCompare (s : State) (cut : KernelCut) (pass : Nat) (seen : Option (W32 × W32)) : State :=
  let n := cut.core.val
  match (s.core n).running, s.shadowOf n with
  | some r, some x =>
    if !x.taken then s
    else
      let c := crcOfCells (fun m k => (s.acc n m k).toNat)
      let crcs := match seen with | some (p, q) => (p.toNat, q.toNat) | none => (c, c)
      let atEntry := match x.diag with | some i => s.f (F.TST_SUSPECT_PASS_PASS i) == pass | none => false
      if atEntry then
        match x.diag with
        | none => s
        | some i =>
          let res := diagClass (s.f (F.TST_SUSPECT_KIND i)) (s.f (F.TST_SUSPECT_CRC_CRC_A i)) (s.f (F.TST_SUSPECT_CRC_CRC_B i)) crcs.1 crcs.2 false
          let s := (s.setShadow { x with passCrc := some crcs }).diagResult i res x.startedAt (some crcs.2)
          if res = dgPermanent then s.abortKernel n 0x0D04 cut
          else if crcs.1 = crcs.2 then s.lastCompared n x.shadow
          else s
      else if crcs.1 ≠ crcs.2 then
        let s := s.ledger { coreEvent 0x0D03 n (kdTag r.desc) 6 (pass + 2 ^ 32 * n + 2 ^ 36 * x.shadow) 0 with
          engine := n, detail := leBytes 4 crcs.1 ++ leBytes 4 crcs.2 }
        let s := (s.openSuspect 1 n x.shadow (kdTag r.desc) (kdKernel r.desc) pass 0 crcs.1 crcs.2).1
        let s := ((s.markSuspect n).markSuspect x.shadow).addF F.TST_MISMATCHES_COUNT 1
        s.abortKernel n 0x0D03 cut
      else s.lastCompared n x.shadow
  | _, _ => s

/-- The end of an engine pass: the comparison with the shadow, and then the kernel's code on what the accumulators hold (R144,
R398). -/
def State.passEnd (s : State) (cut : KernelCut) (pass : Nat) (seen : Option (W32 × W32)) (code : List KStep) : State :=
  let n := cut.core.val
  let t := s.passCompare cut pass seen
  match (t.core n).running with
  | some r => s.codeEnds n r (t.runCode n r code)
  | none => t

/-! ## Arming a diagnosis, freeing a suspect (R399, R400) -/

/-- A write to TST_DIAG_CTL with ARM = 1. -/
def State.diagArm (s : State) (entry core shadow : Nat) : State :=
  let a := s.f (F.TST_SUSPECT_ENGINE_A entry)
  let b := s.f (F.TST_SUSPECT_ENGINE_B entry)
  let excluded := clusterOfCore shadow == clusterOfCore a ||
    (s.f (F.TST_SUSPECT_KIND entry) == 1 && clusterOfCore shadow == clusterOfCore b)
  let s := ((s.setF F.TST_DIAG_CTL_ENTRY entry).setF F.TST_DIAG_CTL_CORE core).setF F.TST_DIAG_CTL_SHADOW shadow
  if s.f (F.TST_SUSPECT_STATE entry) ≠ 1 ∨ s.coreFenced core ∨ s.coreFenced shadow ∨ excluded then s.setF F.TST_DIAG_CTL_ARM 0
  else s.setF F.TST_DIAG_CTL_ARM 1

/-! ## The test shelf (R403, R404) -/

/-- A write of 1 to TST_SHELF_CTL.GO. -/
def State.shelfLoad (s : State) : State := s.setF F.TST_SHELF_CTL_GO 1

/-- Whether a public key's digest is programmed and not revoked (R479). -/
def State.keyOk (s : State) (pub : Bytes) : Bool :=
  (List.range 4).any (fun i =>
    (s.f F.MGT_KEY_STS_PROGRAMMED).testBit i && !(s.f F.MGT_KEY_STS_REVOKED).testBit i &&
      ((List.range 4).flatMap (fun w => leBytes 8 (s.reg (R.MGT_KEY i w)).toNat)) == sm3 pub)

/-- The vault pages of the shelf, ascending, that no set and no running test holds. -/
def State.shelfRoom (s : State) : List Nat :=
  let taken := s.silent.bodies.flatMap (fun (b : ShelfBody) => b.pages) ++ s.silent.tests.flatMap (fun (t : FieldTest) => t.pages)
  let top := (List.range 8).foldl (fun m c => max m (s.vaultPages c)) 0
  (List.range (8 * top)).filter (fun p => s.shelfPage p && !taken.contains p)

/-- The entry that holds a set, or the lowest empty one for a new set. -/
def State.shelfEntry (s : State) (id : Nat) : Option Nat :=
  match (List.range 16).find? (fun k => s.f (F.TST_SET_SET_ID k) == id) with
  | some k => some k
  | none => (List.range 16).find? (fun k => s.f (F.TST_SET_SET_ID k) == 0)

/-- The failing check of a package, counted from 1 in the order of R404; 7 for a lack of room. -/
def State.shelfCheck (s : State) (h body : Bytes) : Option Nat :=
  let id := fieldLe h 0x0C 4
  let held := (List.range 16).find? (fun k => s.f (F.TST_SET_SET_ID k) == id)
  if h.take 4 ≠ [0x54, 0x53, 0x48, 0x46] ∨ fieldLe h 4 2 ≠ 1 then some 1
  else if fieldLe h 8 4 ≠ 0x916044A0 then some 2
  else if !s.keyOk (slice h 0x100 64) then some 3
  else if !sm2Verify uidShelf (slice h 0x100 64) (sm3 (h.take 0x140)) (slice h 0x140 64) then some 4
  else if sm3 body ≠ slice h 0x20 32 then some 5
  else if (match held with | some k => decide (fieldLe h 0x10 4 ≤ s.f (F.TST_SET_SET_VERSION k)) | none => false) then some 6
  else if (s.shelfEntry id).isNone ∨ s.shelfRoom.length < ceilDiv body.length 2097152 then some 7
  else none

/-- Writes a body to shelf pages, 512 blocks to a page. -/
def State.shelfWrite (s : State) (pages : List Nat) (body : Bytes) (places : List VPlace) : State :=
  s.forEach (List.range (body.length / 4096)) (fun s i =>
    match s.writeVault (512 * pages.getD (i / 512) 0 + i % 512) (slice body (4096 * i) 4096) [] places with
    | some r => r.1
    | none => s)

/-- The load of a package ends (R404). -/
def State.shelfLoadDone (s : State) (env : VaultEnv) : State :=
  if s.f F.TST_SHELF_CTL_GO = 0 then s
  else
    let a : PA := BitVec.ofNat 56 (s.f F.TST_SHELF_SRC_ADDR)
    let h := s.readAny a 4096 ⟨13, 0, 13, 0⟩ env none
    let len := 4096 * (min (fieldLe h.2.data 0x18 8) 0x10000000 / 4096)
    let b := h.1.readAny (BitVec.ofNat 56 (a.toNat + 4096)) len ⟨13, 0, 13, 0⟩ env none
    if !h.2.ready then h.1.readWaits h.2 0 13
    else if !b.2.ready then b.1.readWaits b.2 0 13
    else
      let hd := h.2.data
      let s := b.1.setF F.TST_SHELF_CTL_GO 0
      let id := fieldLe hd 0x0C 4
      match s.shelfCheck hd b.2.data with
      | some k =>
        ((s.setF F.TST_SHELF_CTL_RESULT 1).setF F.TST_SHELF_CTL_LAST_ERR 0x0D07).ledger
          { code := 0x0D07, unitKind := 13, op := 13, addr := id, detail := leBytes 1 k }
      | none =>
        let k := (s.shelfEntry id).getD 0
        let pages := s.shelfRoom.take (ceilDiv len 2097152)
        let s := s.shelfWrite pages b.2.data env.places
        let held : ShelfBody := ⟨k, pages, len, slice hd 0x20 32⟩
        let bodies := s.silent.bodies.filter (fun (x : ShelfBody) => x.set != k) ++ [held]
        let s := { s with silent := { s.silent with bodies := bodies } }
        let s := (s.setF (F.TST_SET_SET_ID k) id).setF (F.TST_SET_SET_VERSION k) (fieldLe hd 0x10 4)
        let s := (s.setF (F.TST_SET_INFO_STATE k) 1).setF (F.TST_SET_INFO_PATTERNS k) (fieldLe hd 0x14 4)
        (s.setF F.TST_SHELF_CTL_RESULT 0).setF F.TST_SHELF_CTL_LAST_ERR 0

/-! ## Field tests (R405 to R407) -/

/-- A write of TST_CORE_CTL_n with GO = 1. -/
def State.testRequest (s : State) (n set after : Nat) (evicted : Bool) : State :=
  if (s.testOf n).isSome then s.setF (F.TST_CORE_STS_OUTCOME n) 4
  else
    let s := ((s.setF (F.TST_CORE_CTL_SET n) set).setF (F.TST_CORE_CTL_AFTER_HEAD n) after).setF (F.TST_CORE_CTL_EVICTED n) (if evicted then 1 else 0)
    if s.coreFenced n ∨ s.f (F.TST_SET_INFO_STATE set) ≠ 1 ∨ !evicted then s.setF (F.TST_CORE_STS_OUTCOME n) 4
    else
      let first := (s.f (F.CORE_Q_HEAD_INDEX n) + (if (s.core n).sw.isSome then 1 else 0)) % 65536
      let stop := if (after + 65536 - first) % 65536 < 32768 then after else first
      let s := ((s.setF (F.TST_CORE_CTL_GO n) 1).setF (F.TST_CORE_STS_STATE n) 1).setF (F.TST_CORE_STS_OUTCOME n) 0
      { s with silent := { s.silent with tests := s.silent.tests ++ [⟨n, stop, s.count, 0, 0, [], 0⟩] } }

/-- Removes a field test. -/
def State.dropTest (s : State) (n outcome : Nat) : State :=
  let s := { s with silent := { s.silent with tests := s.silent.tests.filter (fun (x : FieldTest) => x.core != n) } }
  ((s.setF (F.TST_CORE_STS_STATE n) 0).setF (F.TST_CORE_STS_OUTCOME n) outcome).setF (F.TST_CORE_CTL_GO n) 0

/-- ABORT ends a PENDING test with OUTCOME 3, and fetching goes on (R406). -/
def State.testAbort (s : State) (n : Nat) : State :=
  match s.testOf n with
  | none => s
  | some t =>
    if s.testing n then s
    else (s.dropTest n 3).testNotice n 1 3 (s.f (F.TST_SET_SET_ID (s.f (F.TST_CORE_CTL_SET n)))) 0 t.startedAt

/-- A PENDING test starts once the head has reached its stop index and the core is idle (R405). -/
def State.testStart (s : State) (n : Nat) : State :=
  match s.testOf n with
  | none => s
  | some t =>
    let c := s.core n
    if s.testing n ∨ s.f (F.CORE_Q_HEAD_INDEX n) ≠ t.stop ∨ c.running.isSome ∨ c.sw.isSome ∨ c.depth ≠ 0 ∨ (s.shadowing n).isSome then s
    else
      let k := s.f (F.TST_CORE_CTL_SET n)
      let pages := (s.silent.bodies.filter (fun (b : ShelfBody) => b.set == k)).flatMap (fun (b : ShelfBody) => b.pages)
      let t := { t with startedAt := s.count, setId := s.f (F.TST_SET_SET_ID k), pages := pages, patterns := s.f (F.TST_SET_INFO_PATTERNS k) }
      let s := (s.wakeCore n).setF (F.TST_CORE_STS_STATE n) 2
      { s with silent := { s.silent with tests := s.silent.tests.map (fun (x : FieldTest) => if x.core = n then t else x) } }

/-- A test still PENDING after DEADLINE_MS (R406). -/
def State.testDeferred (s : State) (n : Nat) : State :=
  match s.testOf n with
  | none => s
  | some t =>
    if s.testing n ∨ s.f (F.TST_CORE_STS_DEFERRED n) = 1 ∨ s.count < t.goAt + 1000000 * s.f F.TST_CFG_DEADLINE_MS then s
    else
      ((s.setF (F.TST_CORE_STS_DEFERRED n) 1).ledger (coreEvent 0x0D06 n 0 13 n 0)).testNotice n 2 0
        (s.f (F.TST_SET_SET_ID (s.f (F.TST_CORE_CTL_SET n)))) 0 t.goAt

/-- A core store back at 0 (R366). -/
def State.clearStore (s : State) (u : Nat) : State :=
  let lo := 0x2000000 * u
  let hi := lo + 0x2000000
  { s with
    stores := Sparse.clear lo hi s.stores
    storeParity := Sparse.clear lo hi s.storeParity
    storePoison := Sparse.clear (lo / 128) (hi / 128) s.storePoison
    srcRecs := Sparse.clear (lo / 4096) (hi / 4096) s.srcRecs }

/-- A field test ends: FAIL with the first failing pattern, PASS without one (R407). -/
def State.testEnd (s : State) (n : Nat) (failed : Option W32) : State :=
  match s.testOf n with
  | none => s
  | some t =>
    if !s.testing n then s
    else
      let s := (s.clearStore n).addF (F.TST_CORE_TESTS_COUNT n) 1
      match failed with
      | none => ((((s.dropTest n 1).setF (F.TST_CORE_STS_PATTERN n) t.patterns)).engineOk n).testNotice n 1 1 t.setId t.patterns t.startedAt
      | some k =>
        let s := ((s.dropTest n 2).setF (F.TST_CORE_STS_PATTERN n) k.toNat).testNotice n 1 2 t.setId k.toNat t.startedAt
        s.fault (.core n) (coreEvent 0x0D05 n 0 13 (k.toNat + 2 ^ 32 * n) 0) []

/-! ## The commands -/

/-- KERNEL_START at a boundary of core n, with what the kernel's code asks for and the words of the heads' held copies that
are found uncorrectable (R92, R174, R175). -/
def execKernelStart (n : Fin 16) (code : KCode) (ecc : List (Bool × Fin 8)) (s : State) : Host.Outcome State Fault Refusal :=
  .next (s.kernelStart n code ecc)
/-- K_BLOCK_END of a pass of a core's kernel (R393). -/
def execKBlockEnd (cut : KernelCut) (pass block : W32) (a b : OperandAt) (init : List (Nat × PA × Nat)) (types : Option (Nat × Nat))
    (wrong shadowWrong : List WrongSum) (third : Option W32) (s : State) : Host.Outcome State Fault Refusal :=
  .next (s.underCore cut.core (fun s => s.kBlockEnd cut ⟨pass.toNat, block.toNat, a, b, init, types, wrong, shadowWrong, third⟩))
/-- SHADOW_TAKEN by core m (R397). -/
def execShadowTaken (m : Fin 16) (s : State) : Host.Outcome State Fault Refusal := .next (s.shadowTaken m)
/-- SHADOW_WAIT_TIMEOUT of core n's kernel (R397). -/
def execShadowWaitTimeout (n : Fin 16) (s : State) : Host.Outcome State Fault Refusal := .next (s.shadowTimeout n)
/-- ENGINE_PASS_END of a core's kernel, with the steps of its code that follow the pass (R144, R398, R400). -/
def execEnginePassEnd (cut : KernelCut) (pass : W32) (seen : Option (W32 × W32)) (code : List KStep) (s : State) :
    Host.Outcome State Fault Refusal :=
  .next (s.underCore cut.core (fun s => s.passEnd cut pass.toNat seen code))
/-- DIAG_ARM: a write to TST_DIAG_CTL with ARM = 1 (R400). -/
def execDiagArm (entry core shadow : Fin 16) (s : State) : Host.Outcome State Fault Refusal := .next (s.diagArm entry core shadow)
/-- SUSPECT_FREE: STATE = 0 written to a suspect entry (R399). -/
def execSuspectFree (i : Fin 16) (s : State) : Host.Outcome State Fault Refusal := .next (s.setF (F.TST_SUSPECT_STATE i) 0)
/-- SHELF_LOAD: a write of 1 to TST_SHELF_CTL.GO (R404). -/
def execShelfLoad (s : State) : Host.Outcome State Fault Refusal := .next s.shelfLoad
/-- SHELF_LOAD_DONE (R404). -/
def execShelfLoadDone (env : VaultEnv) (s : State) : Host.Outcome State Fault Refusal := .next (s.shelfLoadDone env)
/-- TEST_REQUEST: a write of TST_CORE_CTL_n with GO = 1 (R405). -/
def execTestRequest (n set : Fin 16) (after : W16) (evicted : Bool) (s : State) : Host.Outcome State Fault Refusal :=
  .next (s.testRequest n set after.toNat evicted)
/-- TEST_ABORT: a write of 1 to TST_CORE_CTL_n.ABORT (R406). -/
def execTestAbort (n : Fin 16) (s : State) : Host.Outcome State Fault Refusal := .next (s.testAbort n)
/-- TEST_START (R405). -/
def execTestStart (n : Fin 16) (s : State) : Host.Outcome State Fault Refusal := .next (s.testStart n)
/-- TEST_DEFERRED (R406). -/
def execTestDeferred (n : Fin 16) (s : State) : Host.Outcome State Fault Refusal := .next (s.testDeferred n)
/-- TEST_END with the first failing pattern, or none (R407). -/
def execTestEnd (n : Fin 16) (failed : Option W32) (s : State) : Host.Outcome State Fault Refusal := .next (s.testEnd n failed)

end Sys2Proof.Machine
end

