-- ==== Sys2Proof/Machine/Tellers.lean ====
section
/-! DEFINITION. The tellers: refills, guarantee windows and capacity changes (R332, R336 to R341). -/

namespace Sys2Proof.Machine

/-! ## Capacity (R286, R332) -/

/-- A unit's figure in MB/s from its normal and high-range figures, its refresh range, level and speed (R286). -/
def dramRate (normal high refHigh level speed : Nat) : Nat :=
  let base := if level = 2 then high / 2 else if level = 3 then high / 4 else if refHigh = 1 ∨ level = 1 then high else normal
  if speed = 1 then base * 4 / 5 else base

/-- CAP of a regulated port in MB/s (Table 14-1); a fenced cluster's memory ports are out of regulation. -/
def State.cap (s : State) (p : Nat) : Nat :=
  if p < 8 then
    if s.clusterFenced p then 0
    else dramRate 2250000 2160000 (s.f (F.CAN_DSTS_REF_HIGH p)) (s.f (F.CAN_DSTS_LEVEL p)) (s.f (F.CAN_DSTS_SPEED p))
  else if p < 16 then
    ((List.range 12).map (fun i =>
      let n := 12 * (p - 8) + i
      if s.channelEnabled n && !s.channelFenced n then
        dramRate 18750 17800 (s.f (F.UND_STS_REF_HIGH n)) (s.f (F.UND_STS_LEVEL n)) (s.f (F.UND_STS_SPEED n))
      else 0)).sum
  else if s.portActive (p - 16) then (if s.f (F.JX_PORT_CFG_LANES8 (p - 16)) = 1 then 190000 else 95000) else 0

/-- SUM of a port in MB/s. -/
def State.sumG (s : State) (p : Nat) : Nat := ((List.range 64).map (s.guarantee p)).sum

/-- SCALE for a CAP and a SUM (R339). -/
def scaleOf (cap sum : Nat) : Nat :=
  if sum = 0 ∨ 10 * sum ≤ 9 * cap then 65536 else 65536 * 9 * cap / (10 * sum)

/-- REFILL of a class at a port (R336). -/
def State.refill (s : State) (p k : Nat) : Nat := s.guarantee p k * s.f (F.TLR_PORT_SCALE p) / 65536

/-! ## Reports (R341, Table 14-3) -/

/-- Causes of a GUARANTEE notice. -/
def causeShortfall : Nat := 0
def causeCapacity : Nat := 1
def causeRestored : Nat := 2

/-- A bit of TLR_MISS_STS or TLR_CAP_STS is set, with the interrupt when it becomes set. -/
def State.regSts (s : State) (x : Fld) (i : Nat) : State :=
  if s.bit x i then s
  else
    let s := s.setBit x i true
    if s.f F.TLR_CFG_INT_EN = 1 then s.raiseIrq 1 else s

/-- A GUARANTEE_MISS record and a GUARANTEE notice, each at most once in 1 ms for a port, class and cause; RESTORED
writes no record. -/
def State.guaranteeReport (s : State) (p cls cause refill sum : Nat) : State :=
  let key := (256 * p + cls) * 4 + cause
  let last := Sparse.get natZero s.tellers.reported key
  if last ≠ 0 ∧ s.count < last - 1 + 1000000 then s
  else
    let s := { s with tellers := { s.tellers with reported := Sparse.put natZero s.tellers.reported key (s.count + 1) } }
    let s := if cause = causeRestored then s
      else s.ledger { code := 0x0901, unitKind := 10, unit := p, addr := p + 256 * cls + 65536 * cause }
    s.noticeTo (s.f F.TLR_CFG_NOTICE_NODE) 0 ntGuarantee
      (leBytes 1 p ++ leBytes 1 cls ++ leBytes 1 cause ++ leBytes 1 0 ++ leBytes 4 refill ++ leBytes 4 (clampTo (2 ^ 32 - 1) sum) ++
        leBytes 4 (s.f (F.TLR_PORT_SCALE p)) ++ leBytes 4 (s.f (F.TLR_PORT_CAP_MBPS p)) ++ leBytes 4 0)

/-! ## Events -/

/-- Classes with a guarantee at a port. -/
def State.guaranteed (s : State) (p : Nat) : List Nat := (List.range 64).filter (fun k => decide (0 < s.guarantee p k))

/-- One refill of a class's bucket (R336). -/
def State.refillClass (s : State) (p k : Nat) : State :=
  let r := s.refill p k
  let t := s.teller p k
  let ceil : Int := (r * s.f (F.TLR_CLASS_CFG_BURST_US k) : Nat)
  let b := if ceil < t.bucket + r then (if ceil < t.bucket then t.bucket else ceil) else t.bucket + r
  s.setTeller p k { t with bucket := b, windowB := t.windowB + r }

/-- The refill at a global count that is a multiple of 1,000 ns, once at that count. -/
def State.tellerRefill (s : State) : State :=
  if s.count % 1000 ≠ 0 ∨ s.tellers.refilledAt = s.count + 1 then s
  else
    ({ s with tellers := { s.tellers with refilledAt := s.count + 1 } }).forEach (List.range 34) (fun s p =>
      s.forEach (s.guaranteed p) (fun s k => s.refillClass p k))

/-- The end of one class's guarantee window at a port (R340). A refill at this very count belongs to the window that begins. -/
def State.windowEnd (s : State) (p k : Nat) (backlogged : Bool) : State :=
  let t := s.teller p k
  let r := s.refill p k
  let begun := if s.tellers.refilledAt = s.count + 1 then r else 0
  let short := backlogged && decide (t.windowS + r + begun < t.windowB)
  let t1 : Teller := { t with windowB := begun, windowS := 0 }
  let s := s.setTeller p k (if short then { t1 with misses := t1.misses + 1 } else t1)
  if short then (s.regSts F.TLR_MISS_STS_CLASS k).guaranteeReport p k causeShortfall r t.windowS else s

/-- The end of a guarantee window, at a global count that is a multiple of 64,000 ns; backlogged lists the ports and
classes that had a transfer waiting at every refill of the window. -/
def State.guaranteeWindow (s : State) (backlogged : List (Nat × Nat)) : State :=
  if s.count % 64000 ≠ 0 ∨ s.tellers.windowAt = s.count + 1 then s
  else
    ({ s with tellers := { s.tellers with windowAt := s.count + 1 } }).forEach (List.range 34) (fun s p =>
      s.forEach (s.guaranteed p) (fun s k => s.windowEnd p k (backlogged.contains (p, k))))

/-- CAP and SCALE of a port as they now are, with the reports of a change (R339). -/
def State.scaleUpdate (s : State) (p : Nat) : State :=
  let cap := s.cap p
  let old := s.f (F.TLR_PORT_SCALE p)
  let new := scaleOf cap (s.sumG p)
  let s := (s.setF (F.TLR_PORT_CAP_MBPS p) cap).setF (F.TLR_PORT_SCALE p) new
  if new < old then (s.regSts F.TLR_CAP_STS_PORT p).guaranteeReport p 0xFF causeCapacity 0 0
  else if old < new then s.guaranteeReport p 0xFF causeRestored 0 0
  else s

/-- A transfer of a request waited longer than its class's target at a memory port: a fact of the access (R338). -/
def State.latMiss (s : State) (p : Nat) (tag : Tag) : State :=
  let k := s.classOf tag
  if p < 16 then s.waited p k (s.f (F.TLR_CLASS_LAT_LAT_MEM_NS k) + 1) else s

/-! ## The commands -/

/-- TELLER_REFILL (R336). -/
def execTellerRefill (s : State) : Host.Outcome State Fault Refusal := .next s.tellerRefill
/-- GUARANTEE_WINDOW, with the ports and classes that were backlogged (R340). -/
def execGuaranteeWindow (backlogged : List (Nat × Nat)) (s : State) : Host.Outcome State Fault Refusal :=
  .next (s.guaranteeWindow backlogged)
/-- SCALE_UPDATE of a regulated port (R339). -/
def execScaleUpdate (p : Fin 34) (s : State) : Host.Outcome State Fault Refusal := .next (s.scaleUpdate p)

end Sys2Proof.Machine
end

