-- ==== Sys2Proof/Machine/Image.lean ====
section
/-! DEFINITION. The Sitin image: its layout, its sections and the ordered checks of a load (R40 to R48), and a
configuration set taking effect (R49, R50, R53). -/

namespace Sys2Proof.Machine

/-! ## Failures (Table 2-6) -/

/-- A failed check: its code and the record's address field. -/
structure ImgFail where
  code : Nat
  addr : Nat
  deriving DecidableEq, Repr

def cImgSource : Nat := 0x0710
def cImgMagic : Nat := 0x0711
def cImgTarget : Nat := 0x0712
def cImgLayout : Nat := 0x0713
def cImgKey : Nat := 0x0714
def cImgSignature : Nat := 0x0715
def cImgVersion : Nat := 0x0716
def cImgDigest : Nat := 0x0717
def cImgResident : Nat := 0x0718
def cImgRecord : Nat := 0x0719
def cImgSlotBusy : Nat := 0x071A

/-- What a check gives: its result, or the first failure. -/
abbrev Checked (α : Type) := Except ImgFail α

/-- A check on its condition. -/
def need (c : Bool) (code addr : Nat) : Checked Unit := if c then .ok () else .error ⟨code, addr⟩

/-- A check of a record or entry at an offset of its section. -/
def needRec (c : Bool) (off : Nat) : Checked Unit := need c cImgRecord off

/-- Section types (Table 2-2). -/
def secStructure : Nat := 0x10
def secPrograms : Nat := 0x20
def secTables : Nat := 0x30
def secMgmtFw : Nat := 0x40

/-! ## Prefix and section table (R40 to R43) -/

/-- One section-table entry (Table 2-2). -/
structure SectEntry where
  index : Nat
  type : Nat
  here : Bool
  offset : Nat
  length : Nat
  digest : Bytes
  deriving DecidableEq, Repr

/-- The entry of an index. -/
def sectEntry (p : Bytes) (i : Nat) : SectEntry :=
  let o := 0x100 + 64 * i
  { index := i, type := fieldLe p o 1, here := fieldLe p (o + 2) 2 % 2 == 1, offset := fieldLe p (o + 8) 8,
    length := fieldLe p (o + 16) 8, digest := slice p (o + 24) 32 }

/-- The largest LENGTH of a type; 0 for a type that is none (R42). -/
def sectMax (t : Nat) : Nat :=
  if t = secStructure then 4 * 2 ^ 20 else if t = secPrograms then 48 * 2 ^ 20
  else if t = secTables then 2 ^ 20 else if t = secMgmtFw then 8 * 2 ^ 20 else 0

/-- The rules of one used entry by itself (R41, R42). -/
def SectEntry.ok (e : SectEntry) (isPartial : Bool) (imageLen : Nat) (before : List SectEntry) : Bool :=
  decide (sectMax e.type ≠ 0) && before.all (fun x => x.type != e.type) &&
    (if e.here then
      e.offset % 4096 == 0 && decide (0x1000 ≤ e.offset) && decide (e.length ≤ sectMax e.type) &&
        decide (e.offset + e.length ≤ imageLen) &&
        before.all (fun x => !x.here || decide (x.offset + x.length ≤ e.offset) || decide (e.offset + e.length ≤ x.offset))
     else isPartial && e.offset == 0 && e.length == 0)

/-- The used entries, checked in order: an entry that breaks a rule alone or against an earlier one fails with its
index. -/
def checkEntries (isPartial : Bool) (imageLen : Nat) : List SectEntry → List SectEntry → Checked (List SectEntry)
  | before, [] => .ok before
  | before, e :: t =>
    if e.ok isPartial imageLen before then checkEntries isPartial imageLen (before ++ [e]) t
    else .error ⟨cImgLayout, e.index⟩

/-- The layout of the prefix (R40 to R42): the used entries of its section table. -/
def checkLayout (p : Bytes) (srcLen : Nat) : Checked (List SectEntry) := do
  let len := fieldLe p 0x10 8
  let n := fieldLe p 6 2
  need (len == srcLen && decide (4096 ≤ len) && decide (len ≤ 64 * 2 ^ 20)) cImgLayout 0xFF
  need (n == 3 || n == 4) cImgLayout 0xFF
  need (allZero (slice p 0x380 3200)) cImgLayout 0xFF
  let used ← checkEntries (fieldLe p 0xC 4 % 2 == 1) len [] ((List.range n).map (sectEntry p))
  match ((List.range 8).drop n).find? (fun i => !allZero (slice p (0x100 + 64 * i) 64)) with
  | some i => .error ⟨cImgLayout, i⟩
  | none =>
    need ([secStructure, secPrograms, secMgmtFw].all (fun t => used.any (fun (e : SectEntry) => e.type == t))) cImgLayout 0xFF
    .ok used

/-! ## STRUCTURE records (R44) -/

/-- A record: KIND, the offset of its header, its body. -/
structure Rec where
  kind : Nat
  off : Nat
  body : Bytes
  deriving DecidableEq, Repr

/-- The records of a section from an offset, above the last KIND. -/
def splitRecords : Nat → Bytes → Nat → Nat → List Rec → Checked (List Rec × Nat)
  | 0, _, off, _, _ => .error ⟨cImgRecord, off⟩
  | n + 1, rest, off, last, acc =>
    let kind := fieldLe rest 0 2
    let len := fieldLe rest 4 4
    if rest.length < 8 then .error ⟨cImgRecord, off⟩
    else if kind = 0xFFFF then
      if len = 0 ∧ rest.length = 8 then .ok (acc, off) else .error ⟨cImgRecord, off⟩
    else if last < kind ∧ kind ≤ 0x000D ∧ len % 8 = 0 ∧ 8 + len ≤ rest.length then
      splitRecords n (rest.drop (8 + len)) (off + 8 + len) kind (acc ++ [⟨kind, off, slice rest 8 len⟩])
    else .error ⟨cImgRecord, off⟩

/-- TIER_POP (R272, R291). -/
def recTierPop (r : Rec) : Checked TierPop := do
  let b := r.body
  let gib := fieldLe b 0 2
  let en := fieldLe b 4 12
  let ce := fieldLe b 20 1
  needRec (gib == 8 || gib == 16 || gib == 32) r.off
  needRec (en == 0 || (List.range 8).all (fun c => bitsOf en (12 * c + 11) (12 * c) != 0)) r.off
  if b.length = 16 then .ok ⟨gib, en, 0, 0, 0, 0⟩
  else
    needRec (b.length == 32 && (ce == 1 || ce == 2 || ce == 4 || ce == 8)) r.off
    .ok ⟨gib, en, fieldLe b 16 4, ce, fieldLe b 24 4, fieldLe b 28 4⟩

/-- ADJACENCY (R279). -/
def recAdjacency (r : Rec) : Checked (List Adjacency) := do
  let b := r.body
  let n := fieldLe b 0 4
  needRec (decide (n ≤ 2) && b.length == 8 + 32 * n) r.off
  let l := (List.range n).map (fun i =>
    let e := slice b (8 + 32 * i) 32
    ({ tier := fieldLe e 0 1, rowBits := fieldLe e 1 1, xor := fieldLe e 4 4,
       perm := (List.range 18).map (fun j => fieldLe e (8 + j) 1) } : Adjacency))
  needRec (l.all (fun (e : Adjacency) =>
    decide (e.tier ≤ 1) && decide (14 ≤ e.rowBits) && decide (e.rowBits ≤ 18) && decide (e.xor < 2 ^ e.rowBits) &&
      (List.range e.rowBits).all (fun j => (e.perm.take e.rowBits).contains j) && (e.perm.drop e.rowBits).all (fun j => j == 0))) r.off
  needRec (match l with | [x, y] => x.tier != y.tier | _ => true) r.off
  .ok l

/-- CANOPY_SPLIT (R69). -/
def recSplit (r : Rec) : Checked (List Nat) := do
  let l := (List.range 8).map (fun i => fieldLe r.body i 1)
  needRec (r.body.length == 8 && l.all (fun k => decide (k ≤ 8))) r.off
  .ok l

/-- One REGIONS entry (Table 3-5). -/
def regionOf (e : Bytes) : Region where
  id := fieldLe e 0 2
  space := fieldLe e 2 1
  packed := fieldLe e 3 1 == 1
  versions := fieldLe e 5 1
  base := fieldLe e 8 8
  pages := fieldLe e 0x10 8
  dirBase := fieldLe e 0x18 8
  dirPages := fieldLe e 0x20 4
  heapPages := fieldLe e 0x24 4
  heapBase := fieldLe e 0x28 8
  expBase := fieldLe e 0x30 8
  expPages := fieldLe e 0x38 4

/-- The rules of one entry that need no other (R81, R320). -/
def Region.ok (r : Region) (kind : Nat) : Bool :=
  decide (r.space ≤ 2) && decide (kind ≤ 1) && decide (r.versions ≤ 8) &&
    [r.base, r.pages, r.dirBase, r.dirPages, r.heapPages, r.heapBase, r.expBase, r.expPages].all (fun x => x % 8 == 0) &&
    (if r.packed then r.versions == 0 && decide (r.pages ≤ 256 * r.dirPages) && decide (r.base + r.pages ≤ 2 ^ 31)
     else [r.dirBase, r.dirPages, r.heapPages, r.heapBase, r.expBase, r.expPages].all (fun x => x == 0)) &&
    (r.versions == 0 || r.pages % (8 * (r.versions + 1)) == 0)

/-- REGIONS (R81, R320). -/
def recRegions (r : Rec) : Checked (List Region) := do
  let b := r.body
  let n := fieldLe b 0 4
  needRec (decide (n ≤ 1024) && b.length == 8 + 64 * n) r.off
  let es := (List.range n).map (fun i => (i, slice b (8 + 64 * i) 64))
  match es.find? (fun e => !(regionOf e.2).ok (fieldLe e.2 3 1) || (es.take e.1).any (fun x => fieldLe x.2 0 2 == fieldLe e.2 0 2)) with
  | some e => .error ⟨cImgRecord, r.off + 16 + 64 * e.1⟩
  | none => .ok (es.map (fun e => regionOf e.2))

/-- PORT_GROUPS (R218). -/
def recPorts (r : Rec) : Checked (List PortGroup) := do
  let b := r.body
  needRec (b.length == 144 && (List.range 18).all (fun i =>
    decide (fieldLe b (8 * i) 1 ≤ 1) && (fieldLe b (8 * i + 1) 1 == 4 || fieldLe b (8 * i + 1) 1 == 8) &&
      decide (fieldLe b (8 * i + 2) 1 ≤ 7))) r.off
  .ok ((List.range 18).map (fun i =>
    ⟨fieldLe b (8 * i) 1 == 1, fieldLe b (8 * i + 1) 1 == 8, fieldLe b (8 * i + 2) 1⟩))

/-- MIRROR (R412, R413), apart from its rule on PACKED regions. -/
def recMirror (r : Rec) : Checked Mirror := do
  let b := r.body
  let n := fieldLe b 6 2
  let p := fieldLe b 0 2
  let q := fieldLe b 2 2
  let l := (List.range n).map (fun i =>
    (⟨fieldLe b (16 + 16 * i) 1, fieldLe b (16 + 16 * i + 8) 8, fieldLe b (16 + 16 * i + 4) 4⟩ : MirrorRange))
  needRec (decide (n ≤ 64) && b.length == 16 + 16 * n && decide (fieldLe b 4 1 ≤ 1)) r.off
  needRec (p != 0 && p != 0xFFFF && q != 0 && q != 0xFFFF) r.off
  needRec (l.all (fun (x : MirrorRange) => decide (x.space ≤ 2) && x.base % 8 == 0 && x.pages % 8 == 0)) r.off
  needRec (l.zipIdx.all (fun x => (l.take x.2).all (fun (y : MirrorRange) =>
    y.space != x.1.space || decide (y.base + y.pages ≤ x.1.base) || decide (x.1.base + x.1.pages ≤ y.base)))) r.off
  needRec (decide ((l.map MirrorRange.pages).sum ≤ 2 ^ 21)) r.off
  .ok ⟨BitVec.ofNat 16 p, BitVec.ofNat 16 q, fieldLe b 4 1 == 1, l⟩

/-- One class entry (Table 14-2). -/
def classOf (e : Bytes) : ClassEntry where
  gCan := fieldLe e 0 2
  gUnd := fieldLe e 2 2
  gLink := fieldLe e 4 2
  burstUs := fieldLe e 6 1
  clusterMask := fieldLe e 8 1
  portMask := fieldLe e 0xC 4
  latMem := fieldLe e 0x10 4
  latLink := fieldLe e 0x14 4

/-- CLASSES (R334), apart from its check against oversubscription. -/
def recClasses (r : Rec) : Checked Classes := do
  let b := r.body
  let ent (k : Nat) : Bytes := slice b (4096 + 32 * k) 32
  needRec (b.length == 6144 && (b.take 4096).all (fun x => decide (x.toNat ≤ 63)) && fieldLe b 0 1 == 0 && allZero (ent 0)) r.off
  needRec ((List.range 64).all (fun k =>
    fieldLe (ent k) 7 1 == 0 && fieldLe (ent k) 9 3 == 0 && decide (fieldLe (ent k) 0xC 4 < 2 ^ 18) && fieldLe (ent k) 0x18 8 == 0 &&
      decide (fieldLe (ent k) 6 1 ≤ 64))) r.off
  .ok { tagClass := ((b.take 4096).zipIdx.filter (fun x => x.1 != 0)).map (fun x => (x.2, x.1.toNat))
        classes := ((List.range 64).filter (fun k => !allZero (ent k))).map (fun k => (k, classOf (ent k))) }

/-- DETERMINISM (R344). -/
def recDeterminism (r : Rec) : Checked Determinism := do
  let b := r.body
  let mode := fieldLe b 0 1
  let cores := fieldLe b 2 2
  let e := fieldLe b 4 2
  let f := fieldLe b 6 2
  needRec (b.length == 16 && decide (mode ≤ 1)) r.off
  needRec (mode == 1 || (cores == 0 && e == 0 && f == 0)) r.off
  needRec (mode == 0 || cores != 0) r.off
  needRec ((e == 0 || (decide (1350 ≤ e) && decide (e ≤ 2700))) && (f == 0 || (decide (1200 ≤ f) && decide (f ≤ 2400)))) r.off
  .ok ⟨mode == 1, cores, e, f⟩

/-- CHECKING (R395), apart from its rules on the quarantine area. -/
def recChecking (r : Rec) : Checked Checking := do
  let b := r.body
  needRec (b.length == 24 && decide (fieldLe b 0 1 ≤ 4) && decide (fieldLe b 16 4 ≤ 65535)) r.off
  .ok ⟨fieldLe b 0 1, fieldLe b 8 8, fieldLe b 16 4⟩

/-- CLOCK_POWER (R469). -/
def recClockPower (r : Rec) : Checked ClockPower := do
  let b := r.body
  let modes := (List.range 16).map (fun n => fieldLe b (8 + n) 1)
  let ns := (List.range 16).map (fun n => fieldLe b (24 + 4 * n) 4)
  needRec (b.length == 88 && decide (fieldLe b 0 2 + fieldLe b 2 2 ≤ 180)) r.off
  needRec ((modes.zip ns).all (fun x =>
    decide (x.1 ≤ 2) && (if x.1 = 0 then x.2 == 0 else decide (100 ≤ x.2) && decide (x.2 ≤ 1000000000)))) r.off
  .ok ⟨fieldLe b 0 2, fieldLe b 2 2, modes, ns⟩

/-- PLACEMENT (R80). -/
def recPlacement (r : Rec) : Checked Placement := do
  let b := r.body
  let decay := fieldLe b 0 4
  let pro := fieldLe b 4 2
  let dem := fieldLe b 6 2
  let n := fieldLe b 8 4
  needRec (decide (n ≤ 4096) && b.length == 16 + 16 * n) r.off
  needRec (decide (1 ≤ decay) && decide (decay ≤ 60000) && decide (1 ≤ pro) && decide (dem ≤ pro)) r.off
  let hs := (List.range n).map (fun i =>
    (⟨fieldLe b (16 + 16 * i) 8, fieldLe b (16 + 16 * i + 8) 4, fieldLe b (16 + 16 * i + 12) 1⟩ : HintEntry))
  needRec (hs.all (fun (h : HintEntry) => decide (h.hint ≤ 3))) r.off
  needRec ((hs.zip (hs.drop 1)).all (fun x => decide (x.1.base < x.2.base) && decide (x.1.base + x.1.pages ≤ x.2.base))) r.off
  .ok ⟨decay, pro, dem, hs⟩

/-- One record into the structure that its section describes. -/
def addRecord (x : Structure) (r : Rec) : Checked Structure :=
  match r.kind with
  | 0x1 => do needRec (r.body.length == 8) r.off; .ok { x with die1Enable := fieldLe r.body 0 1 % 2 == 1 }
  | 0x2 => do .ok { x with tierPop := ← recTierPop r }
  | 0x3 => do .ok { x with adjacency := ← recAdjacency r }
  | 0x4 => do .ok { x with split := ← recSplit r }
  | 0x5 => do .ok { x with regions := ← recRegions r }
  | 0x6 => do .ok { x with ports := ← recPorts r }
  | 0x7 => do .ok { x with mirror := some (← recMirror r) }
  | 0x8 => do .ok { x with classes := ← recClasses r }
  | 0x9 => do .ok { x with determinism := ← recDeterminism r }
  | 0xA => do .ok { x with checking := ← recChecking r }
  | 0xB => do .ok { x with clockPower := ← recClockPower r }
  | 0xC => do .ok { x with placement := ← recPlacement r }
  | 0xD => do
    needRec (r.body.length == 8 && decide (10 ≤ fieldLe r.body 0 2) && decide (fieldLe r.body 0 2 ≤ 10000)) r.off
    .ok { x with timeoutUs := fieldLe r.body 0 2 }
  | _ => .error ⟨cImgRecord, r.off⟩

/-! ## What a structure populates (R68, R270, R271) -/

/-- Enabled understory channels of a cluster. -/
def Structure.channels (x : Structure) (c : Nat) : Nat :=
  ((List.range 12).filter (fun i => x.tierPop.enable.testBit (12 * c + i))).length

/-- Populated understory pages of a cluster (R270). -/
def Structure.undPages (x : Structure) (c : Nat) : Nat :=
  2048 * (x.channels c * (2 ^ 30 * x.tierPop.undGib / 2176)) / 2 ^ 21

/-- Direct canopy pages of a cluster (R271). -/
def Structure.directPages (x : Structure) (c : Nat) : Nat :=
  2048 * (64 * (2 ^ 27 * (8 - x.split.getD c 8) / 2176)) / 2 ^ 21

/-- Populated pages of a cluster in a DRAM space. -/
def Structure.popPages (x : Structure) (space c : Nat) : Nat := if space = 1 then x.directPages c else x.undPages c

/-- Whether a range of pages that are multiples of 8 lies wholly within populated pages. -/
def Structure.within (x : Structure) (space base n : Nat) : Bool :=
  n == 0 || (List.range 8).all (fun c => decide ((base + n) / 8 ≤ x.popPages space c))

/-- Whether a range lies wholly beyond the populated pages. -/
def Structure.beyond (x : Structure) (space base n : Nat) : Bool :=
  n == 0 || (List.range 8).all (fun c => decide (x.popPages space c ≤ base / 8))

/-- The ranges of a region: its own and, when it is PACKED, its areas. -/
def Region.ranges (r : Region) : List (Nat × Nat) :=
  if r.packed then [(r.base, r.pages), (r.dirBase, r.dirPages), (r.heapBase, r.heapPages), (r.expBase, r.expPages)]
  else [(r.base, r.pages)]

/-- Whether two page ranges share a page. -/
def overlap (a b : Nat × Nat) : Bool := decide (0 < a.2) && decide (0 < b.2) && decide (a.1 < b.1 + b.2) && decide (b.1 < a.1 + a.2)

/-- Whether two regions lie in one space; the two understory spaces are one (R82). -/
def sameSpace (p q : Nat) : Bool := p == q || (p % 2 == 0 && q % 2 == 0)

/-- The rules of R82 for one region beside the earlier ones, and that it covers no direct page that the change removes
(R76). -/
def Structure.regionOk (x old : Structure) (r : Region) (before : List Region) : Bool :=
  (if r.packed then
    x.beyond r.space r.base r.pages && x.within r.space r.dirBase r.dirPages && x.within r.space r.heapBase r.heapPages &&
      x.within r.space r.expBase r.expPages
   else x.within r.space r.base r.pages) &&
  r.ranges.zipIdx.all (fun a => (r.ranges.take a.2).all (fun b => !overlap a.1 b)) &&
  before.all (fun q => !sameSpace q.space r.space || r.ranges.all (fun a => q.ranges.all (fun b => !overlap a b))) &&
  (r.space != 1 || (List.range 8).all (fun c => decide (old.directPages c ≤ x.directPages c) ||
    r.ranges.all (fun a => !overlap (a.1 / 8, a.2 / 8) (x.directPages c, old.directPages c - x.directPages c))))

/-- The quarantine area's rules (R395). -/
def Structure.quarantineOk (x : Structure) : Bool :=
  let base := x.checking.quarBase
  let size := 45056 * x.checking.quarRecords
  let space := base / 2 ^ 52
  let low := base % 2 ^ 52
  let first := low / 2 ^ 21
  let n := (low + size - 1) / 2 ^ 21 - first + 1
  let pages := (List.range n).map (fun i => first + i)
  size == 0 ||
    (base % 4096 == 0 && decide (space ≤ 2) && decide (low + size ≤ 2 ^ 52) &&
      pages.all (fun p => decide (p / 8 < x.popPages space (p % 8))) &&
      (x.regions.any (fun r => r.space == space && !r.packed && decide (r.base ≤ first) && decide (first + n ≤ r.base + r.pages)) ||
        !x.regions.any (fun r => sameSpace r.space space && pages.any r.covers)))

/-- Whether the mirrored ranges hold each PACKED region and its areas wholly or not at all (R413). -/
def Structure.mirrorOk (x : Structure) (m : Mirror) : Bool :=
  let held (space : Nat) (a : Nat × Nat) : Nat :=
    ((m.ranges.filter (fun (q : MirrorRange) => q.space == space)).map (fun (q : MirrorRange) =>
      min (a.1 + a.2) (q.base + q.pages) - max a.1 q.base)).sum
  (x.regions.filter Region.packed).all (fun r =>
    let rs := r.ranges
    let n := (rs.map (held r.space)).sum
    n == 0 || n == (rs.map (fun a => a.2)).sum)

/-- A class of the structure. -/
def Structure.cls (x : Structure) (k : Nat) : ClassEntry :=
  match x.classes.classes.find? (fun e => e.1 == k) with
  | some e => e.2
  | none => ClassEntry.zero

/-- A class's guarantee at a port in MB/s (R334). -/
def ClassEntry.atPort (e : ClassEntry) (p : Nat) : Nat :=
  if p < 8 then (if e.clusterMask.testBit p then 1000 * e.gCan else 0)
  else if p < 16 then (if e.clusterMask.testBit (p - 8) then 1000 * e.gUnd else 0)
  else if e.portMask.testBit (p - 16) then 1000 * e.gLink else 0

/-- SUM of a port in MB/s. -/
def Structure.sumAt (x : Structure) (p : Nat) : Nat := (x.classes.classes.map (fun e => e.2.atPort p)).sum

/-- CAP at full speed in the normal range (R335). -/
def Structure.fullCap (x : Structure) (p : Nat) : Nat :=
  if p < 8 then 2250000 else if p < 16 then 18750 * x.channels (p - 8)
  else if (x.ports.getD (p - 16) ⟨true, true, 0⟩).lanes8 then 190000 else 95000

/-- Whether a SUM is above 90 % of a CAP. -/
def oversub (sum cap : Nat) : Bool := decide (9 * cap < 10 * sum)

/-- The offset of a record's header, or of the section's end record when it is absent. -/
def recOff (l : List Rec) (fin kind : Nat) : Nat := ((l.find? (fun (r : Rec) => r.kind == kind)).map Rec.off).getD fin

/-- Regions checked in order. -/
def checkRegions (x old : Structure) (off : Nat) : List Region → List Region → Checked Unit
  | _, [] => .ok ()
  | before, r :: t =>
    if x.regionOk old r before then checkRegions x old off (before ++ [r]) t
    else .error ⟨cImgRecord, off + 16 + 64 * before.length⟩

/-- A STRUCTURE section: its records one by one, then the rules that join several records (R44, R76, R82, R335, R395,
R413), and the offset at which each non-changeable record stands. -/
def checkStructure (sec : Bytes) (old : Structure) : Checked (Structure × List Rec × Nat) := do
  let (l, fin) ← splitRecords (sec.length / 8 + 1) sec 0 0 []
  let x ← l.foldlM addRecord Structure.default
  checkRegions x old (recOff l fin 5) [] x.regions
  needRec (match x.mirror with | some m => x.mirrorOk m | none => true) (recOff l fin 7)
  needRec ((List.range 34).all (fun p => !oversub (x.sumAt p) (x.fullCap p))) (recOff l fin 8)
  needRec x.quarantineOk (recOff l fin 0xA)
  .ok (x, l, fin)

/-! ## PROGRAMS, TABLES and MGMT_FW (R45, R46, R90, R169, R170, R190, R476) -/

/-- The frame rule of a kernel object: per bank, every 16 consecutive f-cycles of the ring hold an EXT and a FILL slot
(R170). -/
def frameOk (fr : Bytes) : Bool :=
  let v := leNat fr
  let code (c b : Nat) : Nat := bitsOf v (3 * (16 * (c % 32) + b) + 2) (3 * (16 * (c % 32) + b))
  (List.range 16).all (fun b => (List.range 32).all (fun c =>
    (List.range 16).any (fun i => code (c + i) b == 0) && (List.range 16).any (fun i => code (c + i) b == 1)))

/-- A kernel object (Table 7-1). -/
def kernelOk (b : Bytes) : Bool :=
  decide (0x100 ≤ b.length) && fieldLe b 0 2 == 1 && decide (fieldLe b 2 1 < 4) && fieldLe b 3 1 == 0 &&
    allZero (slice b 0xE 50) && fieldLe b 8 4 % 64 == 0 && decide (0x100 + fieldLe b 8 4 ≤ b.length) && frameOk (slice b 0x40 192)

/-- A stream-plan object (Tables 3-6, 3-7). -/
def planOk (b : Bytes) : Bool :=
  let n := fieldLe b 0 4
  decide (32 ≤ b.length) && decide (1 ≤ n) && decide (n ≤ 65536) && decide (fieldLe b 4 1 ≤ 7) && decide (32 + 32 * n ≤ b.length) &&
    (List.range n).all (fun i => decide (1 ≤ fieldLe b (32 + 32 * i) 1) && decide (fieldLe b (32 + 32 * i) 1 ≤ 4))

/-- The rules of one object beside the others of its section. -/
def Program.ok (p : Program) (all : List Program) : Bool :=
  (if p.kind = 1 then
    kernelOk p.bytes && all.any (fun (m : Program) => m.kind == 3 && m.id == fieldLe p.bytes 4 4 && p.coreMask &&& m.coreMask == p.coreMask)
   else if p.kind = 2 then planOk p.bytes else p.kind == 3) &&
  (!expertIds.contains p.id || (p.kind == 1 && p.coreMask == 0xFFFF && fieldLe p.bytes 0xC 2 == 1 &&
    expertIds.all (fun i => all.any (fun (q : Program) => q.kind == 1 && q.id == i))))

/-- A PROGRAMS section. -/
def checkPrograms (sec : Bytes) : Checked (List Program) := do
  let n := fieldLe sec 0 4
  needRec (decide (16 + 32 * n ≤ sec.length)) 0
  let es := (List.range n).map (fun i => (i, slice sec (16 + 32 * i) 32))
  let ok (e : Nat × Bytes) : Bool :=
    decide (fieldLe e.2 8 8 + fieldLe e.2 16 8 ≤ sec.length) &&
      (es.take e.1).all (fun x => fieldLe x.2 0 1 != fieldLe e.2 0 1 || fieldLe x.2 4 4 != fieldLe e.2 4 4)
  match es.find? (fun e => !ok e) with
  | some e => .error ⟨cImgRecord, 16 + 32 * e.1⟩
  | none =>
    let ps := es.map (fun e =>
      (⟨fieldLe e.2 0 1, fieldLe e.2 2 2, fieldLe e.2 4 4, slice sec (fieldLe e.2 8 8) (fieldLe e.2 16 8)⟩ : Program))
    match ps.zipIdx.find? (fun p => !p.1.ok ps) with
    | some p => .error ⟨cImgRecord, 16 + 32 * p.2⟩
    | none => .ok ps

/-- One TABLES entry. -/
structure TableEntry where
  slot : Nat
  gen : Nat
  planes : Nat
  tables : Bytes
  deriving DecidableEq, Repr

/-- A TABLES section (R46, R111). -/
def checkTables (sec : Bytes) : Checked (List TableEntry) := do
  let n := fieldLe sec 0 4
  needRec (decide (1 ≤ n) && decide (n ≤ 64) && decide (16 + 16 * n ≤ sec.length)) 0
  let es := (List.range n).map (fun i => (i, slice sec (16 + 16 * i) 16))
  let ok (e : Nat × Bytes) : Bool :=
    let planes := fieldLe e.2 2 1
    let o := fieldLe e.2 8 4
    let len := fieldLe e.2 12 4
    decide (fieldLe e.2 0 1 ≤ 63) && (es.take e.1).all (fun x => fieldLe x.2 0 1 != fieldLe e.2 0 1) &&
      decide (1 ≤ planes) && decide (planes ≤ 4) && len == 128 * planes && decide (o + len ≤ sec.length) &&
      tablesValid planes (slice sec o len)
  match es.find? (fun e => !ok e) with
  | some e => .error ⟨cImgRecord, 16 + 16 * e.1⟩
  | none => .ok (es.map (fun e => ⟨fieldLe e.2 0 1, fieldLe e.2 1 1, fieldLe e.2 2 1, slice sec (fieldLe e.2 8 4) (fieldLe e.2 12 4)⟩))

/-- A MGMT_FW section (R476). -/
def checkMgmtFw (sec : Bytes) : Checked Unit :=
  needRec (decide (64 ≤ sec.length) && slice sec 0 4 == [0x4D, 0x47, 0x46, 0x57] && fieldLe sec 4 2 == 1 && decide (64 ≤ fieldLe sec 8 4) &&
    decide (fieldLe sec 8 4 + fieldLe sec 0xC 4 ≤ sec.length) && decide (10 ≤ fieldLe sec 0x14 4) && decide (fieldLe sec 0x14 4 ≤ 60000)) 0

/-! ## The ordered checks of a load (R47, R48) -/

/-- What a load has checked: the prefix, the entries in the order of R47, and what each present section holds. -/
structure Loaded where
  pre : Bytes
  entries : List SectEntry
  fw : Option (Bytes × Bytes) := none
  str : Option (Structure × Bytes) := none
  tabs : Option (List TableEntry × Bytes) := none
  progs : Option (List Program × Bytes) := none
  /-- Where the three non-changeable records stand in the STRUCTURE section. -/
  fixedOffs : List Nat := []
  deriving DecidableEq, Repr

/-- The order in which R47 takes the sections. -/
def sectOrder : List Nat := [secMgmtFw, secStructure, secTables, secPrograms]

/-- What an unlisted digest is. -/
def State.residentDigest (s : State) (t : Nat) : Option Bytes := (s.epoch.digests.find? (fun d => d.1 == t)).map (fun d => d.2)

/-- The fused minimum security version and the version last loaded (R47, R480). -/
def State.minVersion (s : State) : Nat := max (s.f F.MGT_KEY_STS_MIN_SEC) (s.f F.SIT_IMAGE_ID_SEC_VERSION)

/-- Whether a part of the source cannot be read: bad lists the 128-byte grains of the image that are unreadable or
poisoned. -/
def unreadable (bad : List Nat) (off n : Nat) : Bool := bad.any (fun g => decide (off < 128 * (g + 1)) && decide (128 * g < off + n))

/-- The checks on the prefix. -/
def State.checkPrefix (s : State) (img : Bytes) (srcLen : Nat) : Checked (List SectEntry) := do
  let p := img.take 4096
  need (slice p 0 4 == [0x53, 0x49, 0x54, 0x4E] && fieldLe p 4 2 == 1) cImgMagic 0
  need (fieldLe p 8 4 == 0x916044A0) cImgTarget (fieldLe p 8 4)
  let es ← checkLayout p srcLen
  need (s.keyOk (slice p 0x300 64)) cImgKey 0
  need (sm2Verify uidImage (slice p 0x300 64) (sm3 (p.take 0x340)) (slice p 0x340 64)) cImgSignature 0
  need (decide (s.minVersion ≤ fieldLe p 0x18 4)) cImgVersion (fieldLe p 0x18 4)
  .ok es

/-- The checks of one section in the order. -/
def State.checkSection (s : State) (img : Bytes) (bad : List Nat) (srcAddr : Nat) (x : Loaded) (t : Nat) : Checked Loaded :=
  match x.entries.find? (fun (e : SectEntry) => e.type == t) with
  | none => .ok x
  | some e =>
    if !e.here then do
      need (s.residentDigest t == some e.digest) cImgResident t
      .ok x
    else do
      let sec := slice img e.offset e.length
      need (!unreadable bad e.offset e.length && sec.length == e.length) cImgSource srcAddr
      need (sm3 sec == e.digest) cImgDigest t
      if t = secMgmtFw then
        checkMgmtFw sec
        .ok { x with fw := some (sec, e.digest) }
      else if t = secStructure then
        let (y, l, fin) ← checkStructure sec s.epoch.active.str
        .ok { x with str := some (y, e.digest), fixedOffs := [recOff l fin 1, recOff l fin 2, recOff l fin 3] }
      else if t = secTables then
        let l ← checkTables sec
        .ok { x with tabs := some (l, e.digest) }
      else
        let l ← checkPrograms sec
        .ok { x with progs := some (l, e.digest) }

/-- The non-changeable records equal the resident ones (Table 2-3). -/
def sameFixed (x old : Structure) (offs : List Nat) : Checked Unit := do
  needRec (x.die1Enable == old.die1Enable) (offs.getD 0 0)
  needRec (x.tierPop == old.tierPop) (offs.getD 1 0)
  needRec (x.adjacency == old.adjacency) (offs.getD 2 0)

/-- Every check of R47 on the bytes of an image. At start-up nothing is resident. -/
def State.checkImage (s : State) (img : Bytes) (bad : List Nat) (srcLen srcAddr : Nat) (atStart : Bool) : Checked Loaded := do
  need (!unreadable bad 0 4096 && decide (4096 ≤ img.length)) cImgSource srcAddr
  let es ← s.checkPrefix img srcLen
  let x ← sectOrder.foldlM (s.checkSection img bad srcAddr) { pre := img.take 4096, entries := es }
  match x.str with
  | some y => if atStart then .ok () else sameFixed y.1 s.epoch.active.str x.fixedOffs
  | none => .ok ()
  match x.tabs with
  | some l => match l.1.find? (fun (t : TableEntry) => !s.installable t.slot) with
    | some t => .error ⟨cImgSlotBusy, t.slot⟩
    | none => .ok ()
  | none => .ok ()
  .ok x

/-! ## Taking effect (R49, R50, R53) -/

/-- A failure is recorded (R47, R59). -/
def State.sitError (s : State) (code addr : Nat) : State :=
  (s.setF F.SIT_STATUS_LAST_ERR code).ledger { code := code, op := 11, addr := addr }

/-- The slots of a TABLES section are installed at once (R50): each takes the image's GEN, except that the repair of a
damaged slot keeps its own (R133). -/
def State.installTables (s : State) (l : List TableEntry) : State :=
  s.forEach l (fun s t =>
    let gen := if s.f (F.MNT_SLOT_INFO_DAMAGED t.slot) = 1 then s.f (F.MNT_SLOT_INFO_GEN t.slot) else t.gen
    s.endInstall { slot := t.slot, gen := gen, planes := t.planes, xor := false, lock := none, tables := t.tables, prev := 0 })

/-- The digest of a section is resident. -/
def State.setDigest (s : State) (t : Nat) (d : Bytes) : State :=
  { s with epoch := { s.epoch with digests := s.epoch.digests.filter (fun x => x.1 != t) ++ [(t, d)] } }

/-- SIT_IMAGE_ID takes the prefix applied last; the section-table and the prefix are kept for attestation. -/
def State.applyPrefix (s : State) (p : Bytes) : State :=
  let s := (s.setF F.SIT_IMAGE_ID_SERIAL_LO (fieldLe p 0x20 4)).setF F.SIT_IMAGE_ID_SEC_VERSION (fieldLe p 0x18 4)
  { s with epoch := { s.epoch with imagePrefix := p } }

/-- CAN_SPLIT of a cluster (R69 to R71). -/
def State.applySplit (s : State) (x : Structure) (c : Nat) : State :=
  let k := x.split.getD c 8
  let s := (s.setF (F.CAN_SPLIT_CACHE_STEPS c) k).setF (F.CAN_SPLIT_SETS c) (491520 * k)
  s.setF (F.CAN_SPLIT_DIRECT_PAGES c) (x.directPages c)

/-- The places of the grains in a raw range of a memory unit, from its start (R264). -/
def rawGrains (unit start len : Nat) : List GrainLoc :=
  (List.range (16 * (len / 2176))).map (fun g =>
    ⟨unit, start + 2176 * (g / 16) + 128 * (g % 16), start + 2176 * (g / 16) + 2048 + 8 * (g % 16)⟩)

/-- The grains of a stack's direct part that begin in what was its cache part under an old number of cache steps: they
change role (R76, R271). -/
def roleGrains (c old new : Nat) : List GrainLoc :=
  if new < old then
    (canUnits c).flatMap (fun m =>
      rawGrains m (2 ^ 27 * new) (min (2 ^ 27 * (old - new) + 2175) (2 ^ 27 * (8 - new))))
  else []

/-- What a stack's memory holds that changes role from cache to direct: free values with valid check symbols (R76). Memory
that becomes cache holds no valid line, so nothing reads it; the new tag grains hold invalid tags (R75). -/
def State.changeRole (s : State) (c old new : Nat) : State :=
  let s := if old = new then s else s.clearTags c new
  if new < old then
    (s.forEach (roleGrains c old new).zipIdx (fun s g =>
      let d := (List.range 128).map (fun i => Config.freeByte s.free (128 * g.2 + i))
      s.putGrain g.1 d (rsCheck d))).bump
  else s

/-- The kept split of a stack (Table 20-12). -/
def State.keptSteps (s : State) (c : Nat) : Nat := bitsOf (s.reg R.AO_KEEP_SPLIT).toNat (4 * c + 3) (4 * c)

/-- The kept split of a stack takes its CACHE_STEPS. -/
def State.keepSplit (s : State) (c : Nat) : State :=
  s.setReg R.AO_KEEP_SPLIT (putBits (4 * c + 3) (4 * c) (s.f (F.CAN_SPLIT_CACHE_STEPS c)) (s.reg R.AO_KEEP_SPLIT))

/-- TIER_POP in force (Tables 11-8, 11-9, 12-6). -/
def State.applyPop (s : State) (x : Structure) : State :=
  let t := x.tierPop
  let s := (s.setReg R.UND_EN_LO (BitVec.ofNat 64 t.enable)).setReg R.UND_EN_HI (BitVec.ofNat 64 (t.enable / 2 ^ 64 % 2 ^ 32))
  let s := s.setReg R.UND_POP (BitVec.ofNat 64 (if t.enable = 0 then 0 else t.undGib))
  let s := s.forEach (List.range 8) (fun s c =>
    (s.setF (F.UND_PAGES_CHANNELS c) (x.channels c)).setF (F.UND_PAGES_PAGES c) (x.undPages c))
  let s := s.setReg R.VLT_POP (BitVec.ofNat 64 (2 ^ 32 * t.ceCount + t.chMask))
  s.setReg R.VLT_PART (BitVec.ofNat 64 (2 ^ 32 * t.shelfPages + t.ckptPages))

/-- CLASSES in force (Table 14-10, R331); the tag map is replaced whole. -/
def State.applyClasses (s : State) (x : Structure) : State :=
  let s := s.clearRegs (R.TLR_TAG 0) (R.TLR_TAG 4095 + 8)
  let s := s.forEach x.classes.tagClass (fun s e => s.setF (F.TLR_TAG_CLASS e.1) e.2)
  s.forEach (List.range 64) (fun s k =>
    let e := x.cls k
    let s := s.setReg (R.TLR_CLASS_CFG k)
      (BitVec.ofNat 64 (2 ^ 48 * (if e.burstUs = 0 then 8 else e.burstUs) + 2 ^ 32 * e.gLink + 2 ^ 16 * e.gUnd + e.gCan))
    let s := s.setReg (R.TLR_CLASS_MASK k) (BitVec.ofNat 64 (2 ^ 32 * e.portMask + e.clusterMask))
    s.setReg (R.TLR_CLASS_LAT k) (BitVec.ofNat 64 (2 ^ 32 * e.latLink + e.latMem)))

/-- SUM of every port in force, and the scaling that follows (R339, R342). -/
def State.applySums (s : State) : State :=
  s.forEach (List.range 34) (fun s p => (s.setF (F.TLR_PORT_SUM_GBPS p) (s.sumG p / 1000)).scaleUpdate p)

/-- DETERMINISM in force (Table 15-4): a pin of 0 shows its value. -/
def State.applyDet (s : State) (d : Determinism) : State :=
  let pin (v full : Nat) : Nat := if d.cycleExact then (if v = 0 then full else v) else 0
  s.setReg R.DET_CFG (BitVec.ofNat 64
    (2 ^ 48 * pin d.fabricMhz 2400 + 2 ^ 32 * pin d.engineMhz 2700 + 2 ^ 16 * d.cxCores + d.cycleExact.toNat))

/-- PLACEMENT in force (Table 3-15). A new period has no boundary before now (R78). -/
def State.applyPlace (s : State) (p : Placement) : State :=
  let s := if p.decayMs = s.f F.CAN_PLACE_DECAY_MS then s else { s with canopy := { s.canopy with decayAt := s.count } }
  s.setReg R.CAN_PLACE (BitVec.ofNat 64 (2 ^ 32 * p.decayMs + 2 ^ 16 * p.promote + p.demote))

/-- A versioned region that comes in or changes starts with slot 0 PUBLISHED (R321). -/
def State.applyVersions (s : State) (old new : Structure) : State :=
  s.forEach new.regions (fun s r =>
    if r.versions = 0 ∨ old.regions.contains r then s
    else s.forEach (List.range 16) (fun s k =>
      s.setVerSlot r.id k (if k = 0 then { state := verPublished, version := 0, owner := 0, opens := 0, copying := false } else {})))

/-- What the registers show of a structure that has come into force, for the units that are not fenced. -/
def State.applyStructure (s : State) (old new : Structure) : State :=
  let s := s.forEach ((List.range 8).filter (fun c => !s.clusterFenced c)) (fun s c => s.applySplit new c)
  let s := (s.applyClasses new).applyDet new.determinism
  let s := (s.applyPlace new.placement).setF F.TST_CFG_FRACTION new.checking.fraction
  let s := (s.setF F.AO_PWR_HEAD_ENG_W new.clockPower.headEngW).setF F.AO_PWR_HEAD_CAN_W new.clockPower.headCanW
  let s := s.setF F.SIT_EPOCH_CTRL_TIMEOUT_US new.timeoutUs
  s.applyVersions old new

end Sys2Proof.Machine
end

