-- ==== Sys2Proof/Machine/Endpoint.lean ====
section
/-! DEFINITION. The end of a load that fails (R47, R48) and the reset of the host endpoint (R447, R448). -/

namespace Sys2Proof.Machine

/-! ## Loads that fail -/

/-- SIT_STATUS.STATE when neither a load nor a change is in progress: STAGED while a set is staged, IDLE otherwise. -/
def State.sitRest (s : State) : Nat := if s.f F.SIT_STATUS_STAGED = 0 then 0 else 2

/-- No load is in progress any more. -/
def State.loadOver (s : State) : State :=
  let s := (s.setF F.SIT_LOAD_GO 0).setF F.SIT_STATUS_STATE s.sitRest
  { s with epoch := { s.epoch with load := none } }

/-- The load in progress fails with a code (R47): nothing of it is applied or staged. -/
def State.loadFails (s : State) (code addr : Nat) : State :=
  ((s.loadOver).setF F.SIT_STATUS_LAST_OUTCOME 2).sitError code addr

/-- SRC codes of SIT_LOAD and BOOT_SRC (Tables 2-8 and 20-3). -/
def srcPool : Nat := 0
def srcHost : Nat := 1
def srcPartner : Nat := 2
def srcNor : Nat := 3

/-- A load from host memory can no longer read its source (R447). -/
def State.hostLoadFails (s : State) : State :=
  match s.epoch.load with
  | some l => if l.src = srcHost then s.loadFails cImgSource l.addr else s
  | none => s

/-- Bytes of the boot NOR from an offset (R482). Beyond what it has been given it reads as erased. -/
def State.norBytes (s : State) (off n : Nat) : Bytes :=
  match s.mgmt.nor with
  | some b =>
    let l := (b.drop off).take n
    l ++ List.replicate (n - l.length) 0xFF
  | none => (List.range n).map (fun i => Config.freeNor s.mgmt.norGen (off + i))

/-- The image that the NOR holds at an offset: IMAGE_LEN bytes of it, within the limits of R40. -/
def State.norImage (s : State) (off : Nat) : Bytes := s.norBytes off (clampTo (2 ^ 26) (max 4096 (fieldLe (s.norBytes (off + 0x10) 8) 0 8)))

/-! ## The endpoint reset (R448) -/

/-- The accesses of the host whose completions are discarded or never sent: they go on at the pool alone. -/
def State.hostForgotten (s : State) : State :=
  { s with opens := s.opens.map (fun (o : OpenReq) =>
      match o.host with
      | some h => { o with host := some { h with answered := true, dma := none } }
      | none => o) }

/-- PEP_STS.LSTATE: the link is down. -/
def lsDown : Nat := 3

/-- What an endpoint reset clears: the configuration space, the windows and a commit in progress, the DMA channels, every
PEP register, the MSI-X table and the pending bits. The resource table stays. -/
def State.endpointClear (s : State) : State :=
  let s := (s.hostLoadFails.hostForgotten).clearRegs 0x0D00000 0x0E00000
  { s with
    irq := []
    pep := { generation := s.pep.generation, poolValid := s.pep.poolValid, heldDown := s.pep.heldDown } }

/-- An endpoint reset of a kind: 1 function-level reset, 2 hot reset, 3 link down. Its cause bit is set and PEP_RESET
written; an endpoint that start-up holds in link down stays so. -/
def State.endpointReset (s : State) (kind : Nat) : State :=
  let s := s.endpointClear.setF F.AO_CAUSE_FLR 1
  let s := if s.pep.heldDown then s.setF F.PEP_STS_LSTATE lsDown else s
  (s.emit (.pcieLink kind)).ledger { code := 0x0B06, die := 0, unitKind := 14, addr := kind }

end Sys2Proof.Machine
end

