-- ==== Sys2Proof/Machine/Reset.lean ====
section
/-! DEFINITION. The reset sources and the DEVICE and COLD resets (R452 to R458): what each clears, the handshake of a reset
that keeps DRAM contents, and the holds. -/

namespace Sys2Proof.Machine

/-! ## Sources (Table 20-1) -/

/-- The sources of a DEVICE reset. -/
inductive RstSource where
  | perst | hrst | thermal | partner | software | restart
  deriving DecidableEq, Repr

/-- A source's bit of AO_CAUSE. -/
def RstSource.cause : RstSource → Fld
  | .perst => F.AO_CAUSE_PERST
  | .hrst => F.AO_CAUSE_HRST
  | .thermal => F.AO_CAUSE_THERMAL
  | .partner => F.AO_CAUSE_PARTNER
  | .software => F.AO_CAUSE_SOFTWARE
  | .restart => F.AO_CAUSE_RESTART

/-- AO_BOOT.STATE (Table 20-11). -/
def btStarting : Nat := 1
def btService : Nat := 2
def btHalted : Nat := 3

/-- Changes what the always-on domain holds beside its registers. -/
def State.setBoot (s : State) (b : Boot) : State := { s with boot := b }

/-! ## What a DEVICE reset leaves (Table 20-2) -/

/-- Whether a register keeps its value in a DEVICE reset: the AO and LDG blocks, what is read from the fuses, UND_PASR,
CORE_Q_HEAD (R187) and, in a reset that keeps DRAM contents, the slots and the checkpoint table. -/
def keptRegister (keep : Bool) (off : Nat) : Bool :=
  let between (lo hi : Nat) : Bool := decide (lo ≤ off) && decide (off < hi)
  between 0x0100000 0x0200000 || between 0x0500000 0x0600000 || between 0x0900100 0x0900140 || between 0x3000020 0x3000108 ||
    (between 0x1000000 0x2000000 && off % 0x100000 == 0x18) ||
    (keep && (between 0x0700400 0x0709000 || between 0x0A02000 0x0A02800))

/-- The table slots as a reset that keeps DRAM contents leaves them (R136): an install that has not ended is undone, a
DRAINING slot is RETIRED, and nothing is reserved. -/
def State.slotsKept (s : State) : State :=
  let s := s.forEach s.installs (fun s x => s.setF (F.MNT_SLOT_INFO_STATE x.slot) x.prev)
  let s := s.forEach (List.range 64) (fun s i =>
    let s := if s.slotSt i = slotDraining then s.setF (F.MNT_SLOT_INFO_STATE i) slotRetired else s
    s.setF (F.MNT_SLOT_INFO_RSV i) 0)
  { s with installs := [], mint := { s.mint with drainSets := [], jobs := [] } }

/-- The state as a DEVICE reset leaves it: what Table 20-2 keeps, and everything else at its reset value. The stores and the
DRAM are written at steps 9 and 19. -/
def State.deviceCleared (s0 : State) (keep : Bool) : State :=
  let s := if keep then s0.slotsKept else s0
  { count := s.count
    regs := (s.regs.filter (fun e => keptRegister keep e.1))
    dram := s.dram
    stores := s.stores
    storePoison := s.storePoison
    storeParity := s.storeParity
    srcRecs := s.srcRecs
    nextId := s.nextId
    canopy := { lines := if keep then s.canopy.lines else [], decayAt := s.count }
    integ := { ring := s.integ.ring, merge0 := s.integ.merge0, merge1 := s.integ.merge1, injected := s.integ.injected, dirEcc := s.integ.dirEcc }
    dramCtl := { trained := if keep then s.dramCtl.trained else [], selfRefresh := keep }
    vault := { s.vault with mapWait := [], ckpt := if keep then s.vault.ckpt else [] }
    mint := if keep then { alloc := s.mint.alloc, leaks := s.mint.leaks } else {}
    boot := s.boot
    mgmt := { fuses := s.mgmt.fuses, nor := if s.mgmt.norUpdate then none else s.mgmt.nor
              norGen := if s.mgmt.norUpdate then s.free else s.mgmt.norGen
              ibiEnabled := s.mgmt.ibiEnabled, ibiPending := s.mgmt.ibiPending, i3cAddr := s.mgmt.i3cAddr }
    tap := s.tap
    dieTemp := s.dieTemp
    railMv := s.railMv
    free := s.free + 1
    out := s.out
    pending := s.pending }

/-- The units whose contents a reset that keeps DRAM contents does not refresh because a fence covers them (R467): stacks 0
to 7, channels from 8. -/
def State.fencedUnits (s : State) : List Nat :=
  (List.range 8).filter s.clusterFenced ++
    ((List.range 96).filter (fun n => s.channelEnabled n && s.channelFenced n)).map (fun n => 8 + n)

/-! ## Attempts (R462, R463) -/

/-- Step k begins: it is the step in progress. -/
def State.stepStarts (s : State) (k : Nat) : State :=
  let s := (s.setF F.AO_BOOT_STEP k).setF (F.AO_BOOT_STEP_PROGRESS k) 1
  s.setBoot { s.boot with stepAt := s.count }

/-- No step has been reached, so that no step has released a pin (R458). -/
def State.noProgress (s : State) : State :=
  s.forEach (List.range 24) (fun s i => s.setF (F.AO_BOOT_STEP_PROGRESS (i + 1)) 0)

/-- A start-up attempt begins at step 1. -/
def State.beginAttempt (s : State) : State :=
  let s := s.setF F.AO_BOOT_STATE btStarting
  let s := s.setF F.AO_BOOT_ATTEMPTS (if s.boot.restart then clampTo 255 (s.f F.AO_BOOT_ATTEMPTS + 1) else 1)
  (s.noProgress).stepStarts 1

/-- Whether a pin or a thermal hold keeps the device in reset. -/
def State.heldInReset (s : State) : Bool := s.boot.hrst || s.boot.holdUntil.isSome

/-- A reset is released once nothing holds it. -/
def State.releaseReset (s : State) : State := if s.heldInReset then s else s.beginAttempt

/-! ## Assertion (R453, R454, R459) -/

/-- A DEVICE reset asserts: it ends any block reset, management reset and attempt in progress. -/
def State.assertReset (s : State) (keep : Bool) : State :=
  let lossy := if keep then s.boot.lossy ++ s.fencedUnits.filter (fun u => !s.boot.lossy.contains u) else []
  let s := s.forEach ((List.range 18).filter (fun e => s.f (F.OPT_LASER_CH_ON e) != 0)) (fun s e => s.emit (.laser e 0))
  let s := s.setF F.AO_CAUSE_KEPT keep.toNat
  let s := if keep then s else s.setF F.AO_BOOT_DRAM_VALID 0
  let fresh := s.f F.PAIR_STS_FRESH
  let s := s.deviceCleared keep
  let s := if keep then s.setF F.PAIR_STS_FRESH fresh else s
  let s := s.setBoot { s.boot with keep := keep, lossy := lossy, shake := none, blk := none, lowered := [], image := [], imageBad := [], lsrEarly := false }
  let s := (s.setF F.AO_BLK_RST_GO 0).setF F.AO_BOOT_STATE 0
  ((s.setF F.AO_BOOT_STEP 0).noProgress).releaseReset

/-- The clusters whose controllers must report self-refresh: those that no fence covers. -/
def State.shakeClusters (s : State) : List Nat := (List.range 8).filter (fun c => !s.clusterFenced c)

/-- A source of a DEVICE reset acts. A reset that keeps DRAM contents waits for the controllers, unless they are in
self-refresh already; while another reset runs, one that discards governs (R453, R454). -/
def State.deviceReset (s : State) (r : RstSource) (wantKeep : Bool) : State :=
  let s := s.setF r.cause 1
  let keep := wantKeep && s.f F.AO_BOOT_DRAM_VALID == 1
  let running := s.boot.shake.isSome || (s.heldInReset && s.f F.AO_BOOT_STATE == 0)
  let restart := r == .restart && !running
  if running then
    if keep then s.setBoot { s.boot with restart := false } else (s.setBoot { s.boot with restart := false }).assertReset false
  else
    let s := s.setBoot { s.boot with restart := restart }
    if !keep then s.assertReset false
    else if s.dramCtl.selfRefresh then s.assertReset true
    else
      let s := { s with dramCtl := { s.dramCtl with reported := [] } }
      s.setBoot { s.boot with shake := some s.count }

/-- Whether a write to DRAM pages of a cluster has been accepted and has not taken effect. -/
def State.writesOpen (s : State) (c : Nat) : Bool :=
  s.opens.any (fun (o : OpenReq) =>
    (o.kind == .wr || o.kind == .creqWrite) && decide (spaceOf o.req.addr ≤ 2) && ownerOf (pageOf o.req.addr) == c)

/-- The controllers of a cluster report self-refresh, once they have completed the writes that the cluster accepted; when
the last cluster has reported, the reset asserts. -/
def State.selfRefreshReady (s : State) (c : Nat) : State :=
  if s.boot.shake.isNone || s.writesOpen c || s.clusterFenced c then s
  else
    let s := { s with dramCtl := { s.dramCtl with reported := insertNat c s.dramCtl.reported } }
    let s := s.setF (F.CAN_DSTS_STATE c) 5
    let s := s.forEach ((List.range 12).filter (fun i => s.channelEnabled (12 * c + i) && !s.channelFenced (12 * c + i)))
      (fun s i => s.setF (F.UND_STS_STATE (12 * c + i)) 5)
    if s.shakeClusters.all (fun c => s.dramCtl.reported.contains c) then s.assertReset true else s

/-- 50 µs after its begin, a reset whose controllers have not all reported proceeds as one that discards (R454). -/
def State.keepFailed (s : State) : State :=
  match s.boot.shake with
  | none => s
  | some t =>
    let missing := s.shakeClusters.filter (fun c => !s.dramCtl.reported.contains c)
    if s.count < t + 50000 ∨ missing = [] then s
    else
      let s := s.ledger { code := 0x0C08, unitKind := 0, op := 14, addr := (missing.map (fun c => 2 ^ c)).sum }
      (s.setF F.AO_BOOT_DRAM_VALID 0).assertReset false

/-! ## Power-on (R452, R457) -/

/-- A COLD reset: every register at its reset value and the counter from 0; the vault, the fuses and the boot NOR outlive
it. The straps are sampled, SRC starts as BOOT_SRC, and the first attempt begins unless a pin holds the reset. -/
def State.powerOn (s : State) (bootSrc clkMode : Nat) (nor : Bytes) (hrstLow perstLow : Bool) : State :=
  let t : State :=
    { nextId := s.nextId, free := s.free, out := s.out, pending := s.pending, dieTemp := s.dieTemp, railMv := s.railMv
      vault := { s.vault with mapWait := [], ckpt := [] }
      mgmt := { fuses := s.mgmt.fuses, nor := some nor }
      boot := { hrst := hrstLow, perst := perstLow } }
  let t := (t.setF F.AO_STRAPS_BOOT_SRC bootSrc).setF F.AO_STRAPS_CLK_MODE clkMode
  (t.setF F.AO_BOOT_SRC bootSrc).releaseReset

/-! ## Thermal trips (R452) -/

/-- A thermal trip: a DEVICE reset that discards DRAM contents, held for HOLD_MS. -/
def State.thermalReset (s : State) : State :=
  (s.setBoot { s.boot with holdUntil := some (s.count + 1000000 * s.f F.AO_THERM_HOLD_MS) }).deviceReset .thermal false

/-- The reading that a 16-bit two's-complement word holds. -/
def signed16 (n : Nat) : Int := if n < 32768 then n else (n : Int) - 65536

/-- A die sensor's reading, in quarter °C. -/
def State.dieReading (s : State) (d : Nat) (t : Int) : State :=
  let s := { s with dieTemp := Sparse.put natZero s.dieTemp d (t % 2 ^ 16).toNat }
  let a := Sparse.get natZero s.dieTemp 0
  let b := Sparse.get natZero s.dieTemp 1
  s.setF F.AO_THERM_TEMP_MAX (if signed16 a < signed16 b then b else a)

/-- A die sensor at TRIP_C or above. -/
def State.dieTrip (s : State) (d : Nat) (t : Int) : State :=
  let s := s.dieReading d t
  if atLeastC t (s.f F.AO_THERM_TRIP_C) then
    ((s.ibi 3).ledger { code := 0x0C09, die := d, op := 14, addr := (t % 2 ^ 16).toNat }).thermalReset
  else s

/-- A controlled unit by its key: stacks 0 to 7, channels from 8. -/
def dunitAt (k : Fin 104) : DUnit :=
  if h : k.val < 8 then .stack ⟨k.val, h⟩ else .channel ⟨k.val - 8, by omega⟩

/-- The end of a thermal hold: start-up begins when every die sensor and every DRAM readout lies at least 5 °C below its
trip threshold, and the hold repeats otherwise. -/
def State.thermalHoldEnd (s : State) (die0 die1 : Int) (dram : List (Fin 104 × Int)) : State :=
  match s.boot.holdUntil with
  | none => s
  | some t =>
    if s.count < t then s
    else
      let s := (s.dieReading 0 die0).dieReading 1 die1
      let below (x : Int) (trip : Nat) : Bool := decide (x + 20 ≤ ((4 * trip : Nat) : Int))
      let cool := below die0 (s.f F.AO_THERM_TRIP_C) && below die1 (s.f F.AO_THERM_TRIP_C) &&
        dram.all (fun r => below r.2 (s.f (dunitAt r.1).tripC))
      if cool then (s.setBoot { s.boot with holdUntil := none }).releaseReset
      else s.setBoot { s.boot with holdUntil := some (s.count + 1000000 * s.f F.AO_THERM_HOLD_MS) }

/-! ## Pins (R456) -/

/-- HRST_N is taken low: a DEVICE reset, held while the pin stays low. -/
def State.hrstLow (s : State) : State :=
  (s.setBoot { s.boot with hrst := true }).deviceReset .hrst (s.f F.AO_RST_POLICY_KEEP_HRST == 1)

/-- HRST_N is taken high: the reset that it held is released. -/
def State.hrstHigh (s : State) : State :=
  let s' := s.setBoot { s.boot with hrst := false }
  if s.boot.hrst && s.f F.AO_BOOT_STATE == 0 && s.boot.shake.isNone then s'.releaseReset else s'

/-- Whether step 12 has ended since the last DEVICE reset. -/
def State.pastStep12 (s : State) : Bool :=
  s.f (F.AO_BOOT_STEP_PROGRESS 12) == 2 || s.f (F.AO_BOOT_STEP_PROGRESS 12) == 4

/-- PERST# is taken low: a DEVICE or an ENDPOINT reset, as PERST_SCOPE says. The spec gives PEP_RESET no kind for
PERST#. -/
def State.perstLow (s : State) : State :=
  let s := s.setBoot { s.boot with perst := true }
  if !s.pastStep12 then s
  else if s.f F.AO_RST_POLICY_PERST_SCOPE = 0 then s.deviceReset .perst (s.f F.AO_RST_POLICY_KEEP_PERST == 1)
  else ((s.setF F.AO_CAUSE_PERST 1).bump).endpointReset (Config.freeNat s.free)

/-- Training of the endpoint's link starts once it is released and PERST# is high (Table 20-6, R465). -/
def State.endpointTrains (s : State) : State :=
  if s.pastStep12 && !s.boot.perst && !s.pep.heldDown then s.emit (.pcieLink 4) else s

/-- PERST# is taken high. -/
def State.perstHigh (s : State) : State := (s.setBoot { s.boot with perst := false }).endpointTrains

/-! ## The partner and software -/

/-- RESET_PARTNER arrives from the partner (R427, R452). -/
def State.partnerReset (s : State) : State :=
  if s.f F.PAIR_CFG2_ACCEPT_RESET = 1 then s.deviceReset .partner (s.f F.AO_RST_POLICY_KEEP_PARTNER == 1)
  else s.ledger { code := 0x0C06, op := 14, addr := s.f F.PAIR_ID_PARTNER_NODE }

/-- A write to AO_RST_CTL with GO = 1 (Table 20-9). -/
def State.softwareReset (s : State) (key : Nat) (keep : Bool) : State :=
  if key = 0x5A then s.deviceReset .software keep else s

/-! ## The commands -/

/-- POWER_ON: the straps, what the board's boot NOR holds, and the pins that are low (R452, R457). -/
def execPowerOn (bootSrc clkMode : Fin 4) (nor : Bytes) (hrstLow perstLow : Bool) (s : State) : Host.Outcome State Fault Refusal :=
  .next (s.powerOn bootSrc clkMode nor hrstLow perstLow)
/-- PERST_ASSERT (R452). -/
def execPerstAssert (s : State) : Host.Outcome State Fault Refusal := .next s.perstLow
/-- PERST_DEASSERT (R465). -/
def execPerstDeassert (s : State) : Host.Outcome State Fault Refusal := .next s.perstHigh
/-- HRST_ASSERT (R452). -/
def execHrstAssert (s : State) : Host.Outcome State Fault Refusal := .next s.hrstLow
/-- HRST_DEASSERT (R499). -/
def execHrstDeassert (s : State) : Host.Outcome State Fault Refusal := .next s.hrstHigh
/-- DIE_THERMAL_TRIP: a die's sensor reads a temperature in quarter °C (R452). -/
def execDieThermalTrip (d : Fin 2) (t : Int) (s : State) : Host.Outcome State Fault Refusal := .next (s.dieTrip d t)
/-- THERMAL_HOLD_END, with the die sensors and the DRAM readouts (R452). -/
def execThermalHoldEnd (die0 die1 : Int) (dram : List (Fin 104 × Int)) (s : State) : Host.Outcome State Fault Refusal :=
  .next (s.thermalHoldEnd die0 die1 dram)
/-- PARTNER_RESET_RX (R452). -/
def execPartnerResetRx (s : State) : Host.Outcome State Fault Refusal := .next s.partnerReset
/-- SOFTWARE_RESET: a write to AO_RST_CTL with GO = 1 (R452). -/
def execSoftwareReset (key : Byte) (keepDram : Bool) (s : State) : Host.Outcome State Fault Refusal :=
  .next (s.softwareReset key.toNat keepDram)
/-- SELF_REFRESH_READY of a cluster's controllers (R454). -/
def execSelfRefreshReady (c : Fin 8) (s : State) : Host.Outcome State Fault Refusal := .next (s.selfRefreshReady c)
/-- KEEP_FAILED (R454). -/
def execKeepFailed (s : State) : Host.Outcome State Fault Refusal := .next s.keepFailed
/-- THERMAL_LEVEL_CHANGE: a readout of a controlled unit in quarter °C, and the multiple of the normal refresh rate that a
channel's own indication calls for (R285). -/
def execThermalLevelChange (u : Fin 104) (t : Int) (rate : Fin 17) (s : State) : Host.Outcome State Fault Refusal :=
  let s1 := s.dramThermal (dunitAt u) t rate
  .next (if s.dramTrips (dunitAt u) t then
    ((s1.ibi 3).ledger (dramEvent (dunitAt u) 0x0325 (t % 2 ^ 16).toNat 0)).thermalReset else s1)

end Sys2Proof.Machine
end

