-- ==== Sys2Proof/Machine/Startup.lean ====
section
/-! DEFINITION. Start-up (R462 to R467): the 24 steps, what each does when it is done, and what a failure leads to. -/

namespace Sys2Proof.Machine

/-! ## Steps in general (R463) -/

/-- The steps with a skip action; step 12 has none when the host is the source. -/
def State.optionalStep (s : State) (k : Nat) : Bool :=
  k == 8 || (k == 12 && s.f F.AO_BOOT_SRC != srcHost) || (decide (17 ≤ k) && decide (k ≤ 22))

/-- A step's entry of AO_BOOT_STEP_k when it ends: DURATION_US and PROGRESS 2 passed, 3 failed or 4 skipped. -/
def State.stepEnds (s : State) (k progress : Nat) : State :=
  (s.setF (F.AO_BOOT_STEP_DURATION_US k) (clampTo (2 ^ 32 - 1) ((s.count - s.boot.stepAt) / 1000))).setF (F.AO_BOOT_STEP_PROGRESS k) progress

/-- The ledger address of STEP_FAIL and STEP_SKIPPED. -/
def State.stepAddr (s : State) (k mask : Nat) : Nat := k + 256 * s.f (F.AO_BOOT_STEP_FAILS k) + 65536 * (mask % 2 ^ 48)

/-- A start-up record. -/
def startEvent (code addr : Nat) : Event := { code := code, die := 0, op := 14, addr := addr }

/-- Sets ALT of a step: 1 reduced speed, 2 alternate, 3 units fenced. -/
def State.stepAlt (s : State) (k alt : Nat) : State := s.setF (F.AO_BOOT_STEP_ALT k) alt

/-! ## Changes after a failure (the last column of Table 20-6, R466) -/

/-- The source that follows another in the order NOR, partner, host, NOR. -/
def nextSrc (x : Nat) : Nat := if x = srcNor then srcPartner else if x = srcPartner then srcHost else srcNor

/-- The change that a failure of a step causes for later attempts; units are the ones that failed, in the step's own
numbering, keyed as in Boot for steps 17 to 22. -/
def State.stepChange (s : State) (k : Nat) (units : List Nat) : State :=
  let alts (bit : Nat) : State :=
    ((s.forEach (units.filter (fun d => decide (d < 2))) (fun s d => s.setBit F.AO_CLK_ALT (2 * d + bit) true)).stepAlt k 2)
  match k with
  | 3 => (s.setF F.AO_CLK_ALT_CNT 1).stepAlt k 2
  | 4 => s.stepAlt k 2
  | 5 => alts 0
  | 6 => alts 1
  | 7 | 9 => (s.setBoot { s.boot with slowClk := true }).stepAlt k 1
  | 8 => (s.setBoot { s.boot with bridgeSlow := true }).stepAlt k 1
  | 12 => (s.setBoot { s.boot with pcie32 := true }).stepAlt k 1
  | 13 | 14 | 15 | 16 => (s.setF F.AO_BOOT_SRC (nextSrc (s.f F.AO_BOOT_SRC))).stepAlt k 2
  | 17 | 18 => (s.setBoot { s.boot with slow := s.boot.slow ++ units.filter (fun u => !s.boot.slow.contains u) }).stepAlt k 1
  | 19 | 20 | 21 | 22 =>
    (s.setBoot { s.boot with fenceFirst := s.boot.fenceFirst ++ (units.map (fun u => (k, u))).filter (fun e => !s.boot.fenceFirst.contains e) }).stepAlt k 3
  | _ => s

/-! ## Fences at start-up -/

/-- A unit by its key is fenced: a stack with its cluster, a channel, or a vault channel (from 104). -/
def State.fenceUnit (s : State) (u : Nat) : State :=
  if u < 8 then s.clusterFault u .check []
  else if h : u < 104 then s.fenceChannel ⟨u - 8, by omega⟩ 0
  else s.fenceVch (Fin.ofNat 32 (u - 104)) 0x0404 0

/-- The skip action of an optional step. -/
def State.stepSkipAction (s : State) (k : Nat) (units : List Nat) : State :=
  match k with
  | 8 => s.bridgeFailure []
  | 12 => ({ s with pep := { s.pep with heldDown := true } }).setF F.PEP_STS_LSTATE lsDown
  | _ => s.forEach units State.fenceUnit

/-! ## Beginning a step -/

/-- The records of steps 1 to 8 go to the ring (R462). -/
def State.flushEarly (s : State) : State :=
  let l := s.boot.early
  (s.setBoot { s.boot with early := [] }).forEach l (fun s r => s.putRing 0 r)

/-- The enabled channels of the clusters that are not fenced. -/
def State.liveChannels (s : State) : List Nat := (List.range 96).filter (fun n => s.channelEnabled n && !s.channelFenced n)

/-- The stacks that are not fenced. -/
def State.liveStacks (s : State) : List Nat := (List.range 8).filter (fun c => !s.clusterFenced c)

/-- Sets STATE of every live unit of both tiers. -/
def State.unitStates (s : State) (st : Nat) : State :=
  let s := s.forEach s.liveStacks (fun s c => s.setF (F.CAN_DSTS_STATE c) st)
  s.forEach s.liveChannels (fun s n => s.setF (F.UND_STS_STATE n) st)

/-- The refresh sweep of every live unit (R280). -/
def State.sweepAll (s : State) : State :=
  (s.forEach s.liveStacks (fun s c => s.emit (.sweep c))).forEach s.liveChannels (fun s n => s.emit (.sweep (8 + n)))

/-- What a step does as it begins. -/
def State.stepOpens (s : State) (k : Nat) : State :=
  let s := (s.stepStarts k).forEach ((s.boot.fenceFirst.filter (fun e => e.1 == k)).map (fun e => e.2)) State.fenceUnit
  match k with
  | 2 => s.setF F.AO_BOOT_TRIM_LOADING 1
  | 9 => s.flushEarly.ledger (startEvent 0x0C07 (s.reg R.AO_CAUSE).toNat)
  | 13 =>
    if s.f F.AO_BOOT_SRC = srcPartner then
      let s := (s.setF F.JX_NODE_ID 0xFFFD).setBoot { s.boot with lsrEarly := true }
      s.forEach [16, 17] (fun s e => ((s.setF (F.JX_PORT_CFG_ENABLE e) 1).setF (F.JX_PORT_CFG_GROUP e) 7).newAttempt e)
    else s
  | 17 => s.forEach s.liveStacks (fun s c => s.setF (F.CAN_DSTS_STATE c) 1)
  | 18 => s.forEach s.liveChannels (fun s n => s.setF (F.UND_STS_STATE n) 1)
  | 19 => if s.boot.keep then s.unitStates 2 else s
  | 20 => if s.boot.keep then s.unitStates 3 else s
  | 22 => s.forEach (List.range 32) (fun s n =>
      if s.f (F.VLT_CH_STS_STATE n) ≠ 3 ∧ s.bit F.VLT_POP_CH_MASK n then s.setF (F.VLT_CH_STS_STATE n) 1 else s)
  | _ => s

/-! ## Steps 2 to 12 -/

/-- The fuses in the registers of the MGT block (Table 21-7). -/
def State.showFuses (s : State) (x : Fuses) : State :=
  let word (b : Bytes) (i : Nat) : W64 := BitVec.ofNat 64 (fieldLe b (8 * i) 8)
  let s := s.setReg R.MGT_ID_SERIAL x.serial
  let s := s.forEach (List.range 8) (fun s i => s.setReg (R.MGT_ID_PUB i) (word x.idPub i))
  let s := s.forEach (List.range 4) (fun s i => s.forEach (List.range 4) (fun s w => s.setReg (R.MGT_KEY i w) (word (x.keyHash.getD i []) w)))
  ((s.setF F.MGT_KEY_STS_MIN_SEC x.minSec).setF F.MGT_KEY_STS_REVOKED x.revoked).setF F.MGT_KEY_STS_PROGRAMMED x.programmed

/-- One failed load of the trims counts, but never ends the attempt (R464). -/
def State.trimFail (s : State) : State := (s.satF (F.AO_BOOT_STEP_FAILS 2) 1).satF (F.AO_BOOT_STEP_TOTAL 2) 1

/-- Step 2: some loads fail; the third failed load in a row brings the safe trims, and a good load clears FAILS. The fuse
array reads as it did at manufacture and as commands have blown it since (R464, R477). -/
def State.doTrim (s : State) (bad : Nat) (read : Fuses) : State :=
  let room := 3 - s.f (F.AO_BOOT_STEP_FAILS 2)
  let safe := decide (room ≤ bad) && decide (0 < bad)
  let s := s.forEach (List.range (if safe then max 1 room else bad)) (fun s _ => s.trimFail)
  let x := match s.mgmt.fuses with | some y => y | none => read
  let s := ({ s with mgmt := { s.mgmt with fuses := some x } }).showFuses x
  let s := s.setF F.AO_BOOT_TRIM_LOADING 0
  if safe then ((s.setF F.AO_BOOT_TRIM_SAFE 1).stepAlt 2 1).ledger (startEvent 0x0C04 0)
  else ((s.setF F.AO_BOOT_TRIM_SAFE 0).stepAlt 2 0).setF (F.AO_BOOT_STEP_FAILS 2) 0

/-- Whether the clocks run at reduced speed (R468). -/
def State.reducedClocks (s : State) : Bool := s.boot.slowClk || s.f F.AO_BOOT_TRIM_SAFE == 1

/-- The engine and fabric clocks of start-up in MHz. -/
def State.baseClocks (s : State) : Nat × Nat := if s.reducedClocks then (2160, 1920) else (2700, 2400)

/-- Step 4: the reference under CLK_MODE, or after a failure the crystal without spread. -/
def State.doReference (s : State) : State :=
  let m := if s.f (F.AO_BOOT_STEP_ALT 4) = 0 then s.f F.AO_STRAPS_CLK_MODE else 3
  (s.setF F.AO_CLK_REF (if m = 1 then 1 else 0)).setF F.AO_CLK_SSC (if m = 2 then 1 else 0)

/-- Steps 5 and 6: a PLL of each die locks. -/
def State.lockPlls (s : State) (engine : Bool) : State :=
  let b := s.baseClocks
  let s := s.setClocks 0 (if engine then b.1 else s.clocks.engine0) (if engine then s.clocks.fabric0 else b.2)
  s.setClocks 1 (if engine then b.1 else s.clocks.engine1) (if engine then s.clocks.fabric1 else b.2)

/-- Step 9: every store is 0 with valid parity (R366). -/
def State.clearStores (s : State) : State := { s with stores := [], storePoison := [], storeParity := [], srcRecs := [] }

/-- A fault with its record; a unit that is fenced already raises none (R17). -/
def State.checkerFault (s : State) (u : FenceUnit) (e : Event) : State :=
  match u with
  | .die d => s.dieLost d e []
  | _ => s.fault u e []

/-- A checker failed its self-test: the record and its unit's response (Table 16-6). The number is the checker's bit of
LDG_SELFTEST. -/
def State.checkerFails (s : State) (i : Nat) : State :=
  let ev (kind die : Nat) : Event := { code := 0x0D01, die := die, op := 13, addr := kind }
  let store (die : Nat) : Event := { ev 1 die with unitKind := 15, unit := i }
  if i < 16 then s.checkerFault (.core i) { store (dieOfCore i) with cluster := clusterOfCore i, core := i }
  else if i < 24 then s.checkerFault (.cluster (i - 16)) { store (dieOfCluster (i - 16)) with cluster := i - 16 }
  else if i < 26 then s.checkerFault (.die (i - 24)) (store (i - 24))
  else if i < 42 then
    let c := (i - 26) % 8
    s.checkerFault (.cluster c) { ev 2 (dieOfCluster c) with cluster := c, unitKind := 2, unit := c }
  else if i < 60 then s.ledger { ev 3 (dieOfPort (i - 42)) with unitKind := 1, unit := i - 42 }
  else s.checkerFault (.die (i - 60)) (ev 4 (i - 60))

/-- Step 10: the self-test's results (R388). -/
def State.doSelftest (s : State) (failed : Nat) : State :=
  let l := (List.range 62).filter (fun i => failed.testBit i)
  let s := s.setReg R.LDG_SELFTEST (BitVec.ofNat 64 (2 ^ 62 - 1 - (l.map (fun i => 2 ^ i)).sum))
  s.forEach l State.checkerFails

/-! ## Steps 13 to 16: the image (R466, R484) -/

/-- The length of a source: what software wrote for the host's memory, IMAGE_LEN of the prefix otherwise. -/
def State.bootSrcLen (s : State) (img : Bytes) : Nat :=
  match s.epoch.load with
  | some l => if l.src = srcHost then l.len else fieldLe img 0x10 8
  | none => fieldLe img 0x10 8

/-- The address of the start-up source. -/
def State.bootSrcAddr (s : State) : Nat := match s.epoch.load with | some l => l.addr | none => 0

/-- Every check on the image that a start-up has read. -/
def State.bootImage (s : State) : Checked Loaded :=
  s.checkImage s.boot.image s.boot.imageBad (s.bootSrcLen s.boot.image) s.bootSrcAddr true

/-- The management firmware starts: its state, version and watchdog period (R475, R476, R481). -/
def State.fwStart (s : State) : State :=
  let fw := s.mgmt.fwStore
  let s := (s.setF F.MGT_STS_FW_STATE 1).setReg R.MGT_FW_VERSION (BitVec.ofNat 64 (fieldLe fw 0x18 8))
  let s := s.setF F.MGT_CFG_WDOG_MS (fieldLe fw 0x14 4)
  { s with mgmt := { s.mgmt with wdogAt := s.count } }

/-- TST_QUAR_BASE and RECORDS show the CHECKING record in force (R411). -/
def State.applyQuarantine (s : State) (x : Structure) : State :=
  (s.setF F.TST_QUAR_BASE_ADDR x.checking.quarBase).setF F.TST_QUAR_RECORDS x.checking.quarRecords

/-- Step 16: every section takes effect, and CURRENT reads 1 (R49). A mirror port that step 13 has trained with the defaults
follows its record now (R218, R258). -/
def State.applyAll (s : State) (x : Loaded) : State :=
  let s := s.applyPrefix x.pre
  let str := match x.str with | some p => p.1 | none => Structure.default
  let progs := match x.progs with | some p => p.1 | none => []
  let s := match x.fw with | some p => s.setDigest secMgmtFw p.2 | none => s
  let s := match x.str with | some p => s.setDigest secStructure p.2 | none => s
  let s := match x.progs with | some p => s.setDigest secPrograms p.2 | none => s
  let s := match x.tabs with | some p => (s.installTables p.1).setDigest secTables p.2 | none => s
  let old := s.epoch.active.str
  let s : State := { s with epoch := { s.epoch with active := ⟨str, progs⟩, load := none } }
  let s := if str.die1Enable then s else (s.addFence (.die 1)).forEach (diePorts 1) State.portOff
  let s := ((s.applyPop str).applyStructure old str).applyQuarantine str
  let s := s.forEach str.ports.zipIdx (fun s e => s.portCommit e.2 (old.ports.getD e.2 ⟨true, true, 0⟩) e.1)
  let s := (s.setF F.GLB_EPOCH_CURRENT 1).setF F.SIT_LOAD_GO 0
  ((s.setF F.SIT_STATUS_STATE 0).setF F.SIT_STATUS_STAGED 0).setF F.SIT_STATUS_LAST_OUTCOME 1

/-! ## Steps 17 to 21: DRAM -/

/-- The units of a tier that a step has trained: SPEED shows the ones at reduced speed; a unit trained in full after a reset
that keeps DRAM contents holds undefined data (R283, R467). -/
def State.doTrain (s : State) (keys : List Nat) (full : List Nat) : State :=
  let s := s.forEach keys (fun s u => if h : u < 104 then
    s.setF (dunitAt ⟨u, h⟩).speed (if s.boot.slow.contains u then 1 else 0) else s)
  let tr := keys.foldl (fun m u => Sparse.put clearBit m u true) s.dramCtl.trained
  let s := { s with dramCtl := { s.dramCtl with trained := tr } }
  if s.boot.keep then
    s.setBoot { s.boot with lossy := s.boot.lossy ++ (keys.filter (fun u => full.contains u && !s.boot.lossy.contains u)) }
  else s

/-- The density check of step 18 (R273). -/
def State.densityCheck (s : State) (read : List (Fin 96 × Nat)) : State :=
  s.forEach (read.filter (fun e => s.channelEnabled e.1 && !s.channelFenced e.1)) (fun s e => s.densityRead e.1 e.2)

/-- Raw bytes of a channel under the record in force. -/
def State.channelRaw (s : State) : Nat := 2 ^ 30 * s.f F.UND_POP_GIB

/-- The lost pattern goes to a list of grains (R266). -/
def State.loseGrains (s : State) (l : List GrainLoc) : State :=
  s.forEach l (fun s g => s.putGrain g (List.replicate 128 0) lostPattern)

/-- Whether a grain has a byte in a masked segment of a channel of some raw bytes (R281, R282). -/
def inSegments (mask raw : Nat) (g : GrainLoc) : Bool :=
  (List.range 8).any (fun i => mask.testBit i &&
    (let lo := i * raw / 8
     let hi := (i + 1) * raw / 8
     (decide (g.data < hi) && decide (lo < g.data + 128)) || (decide (g.check < hi) && decide (lo < g.check + 8))))

/-- DRAM_LOST_FILL of a unit (Table 11-6). -/
def State.lostFillRecord (s : State) (u : DUnit) (mask : Nat) : State := s.ledger (dramEvent u 0x0326 (mask + 256 * u.cluster) 0)

/-- The lost fill of one unit whose contents are undefined (R467). The tags of a stack's cache go with it. -/
def State.loseUnit (s : State) (u : Nat) : State :=
  let s := s.setBoot { s.boot with lossy := s.boot.lossy.filter (fun v => v != u) }
  if u < 8 then
    let s := s.forEach (canUnits u) (fun s m => s.loseGrains (rawGrains m 0 (2 ^ 27 * s.cacheSteps u) ++
      rawGrains m (2 ^ 27 * s.cacheSteps u) (2 ^ 27 * (8 - s.cacheSteps u))))
    (s.invalidateAll u).lostFillRecord (.stack (Fin.ofNat 8 u)) 0xFF
  else (s.loseGrains (rawGrains (504 + u) 0 s.channelRaw)).lostFillRecord (.channel (Fin.ofNat 96 (u - 8))) 0xFF

/-- The lost fill of a channel's masked segments (R282). -/
def State.loseSegments (s : State) (n : Nat) : State :=
  let mask := s.f (F.UND_PASR_MASK (clusterOfChannel n))
  if mask = 0 then s
  else (s.loseGrains ((rawGrains (512 + n) 0 s.channelRaw).filter (inSegments mask s.channelRaw))).lostFillRecord (.channel (Fin.ofNat 96 n)) mask

/-- Step 19: the fill of R378 when DRAM contents are discarded, the lost fills of R282 and R467 when they are kept. -/
def State.doFill (s : State) : State :=
  let s := if s.boot.keep then
      let s := s.forEach s.liveChannels State.loseSegments
      let s := s.forEach (List.range 8) (fun s c => s.setF (F.UND_PASR_LOST c) (s.f (F.UND_PASR_MASK c)))
      s.forEach (s.boot.lossy.filter (fun u => if u < 8 then !s.clusterFenced u else !s.channelFenced (u - 8))) State.loseUnit
    else
      let s := s.setF F.PAIR_STS_FRESH 1
      (s.setBoot { s.boot with lossy := [] }).unitStates 4 |> fun s =>
        { s with dram := [], canopy := { decayAt := s.canopy.decayAt }, mint := {}, integ := { s.integ with injected := [], dirEcc := [] } }
  s.setF F.AO_BOOT_DRAM_VALID 1

/-- Step 21: a stack whose CACHE_STEPS differs from the kept split writes back and invalidates every line under the old
split; then the kept split is the new one, and memory that has become direct holds undefined data, as at a commit (R76). -/
def State.doReconcile (s : State) : State :=
  s.forEach s.liveStacks (fun s c =>
    let new := s.cacheSteps c
    let old := s.keptSteps c
    let set (s : State) (k : Nat) : State := (s.setF (F.CAN_SPLIT_CACHE_STEPS c) k).setF (F.CAN_SPLIT_SETS c) (491520 * k)
    let s := if s.boot.keep && old != new then (set (((set s old).writeBackAll c).invalidateAll c) new).changeRole c old new else s
    s.keepSplit c)

/-! ## Step 22: the vault (R292, R293) -/

/-- Whether a target's parameter page is accepted by itself. -/
def VParam.ok (v : VParam) : Bool := v.page == 16384 && decide (2048 ≤ v.spare) && v.ebMain % 2 ^ 21 == 0 && decide (0 < v.ebMain)

/-- The targets that the record populates: each chip enable of each channel of CH_MASK. -/
def State.vaultTargets (s : State) : List (Fin 32 × Fin 8) :=
  ((List.range 32).filter (fun n => s.bit F.VLT_POP_CH_MASK n && s.f (F.VLT_CH_STS_STATE n) != 3)).flatMap (fun n =>
    (List.range (s.f F.VLT_POP_CE_COUNT)).map (fun e => (Fin.ofNat 32 n, Fin.ofNat 8 e)))

/-- A cluster's geometry: that of its first accepted target. -/
def geometryOf (l : List VParam) (c : Nat) : Option VParam := l.find? (fun (v : VParam) => clusterOfVch v.ch == c && v.ok)

/-- Whether a target is accepted beside the others of its cluster; one whose parameter page was not read is not. -/
def targetOk (l : List VParam) (t : Fin 32 × Fin 8) : Bool :=
  match l.find? (fun (v : VParam) => v.ch == t.1 && v.ce == t.2), geometryOf l (clusterOfVch t.1) with
  | some v, some g => v.ok && v.spare == g.spare && v.ebMain == g.ebMain && v.main == g.main
  | _, _ => false

/-- VLT_PAGES of a cluster from its accepted targets, and the check of its partitions. -/
def State.vaultCount (s : State) (c : Nat) : State :=
  let n := 15 * s.mainBytes c / 16 / 2 ^ 21
  let s := (s.setF (F.VLT_PAGES_PAGES c) n).setF (F.VLT_PAGES_TARGETS c)
      (s.vault.targets.filter (fun (t : VTarget) => clusterOfVch t.ch == c)).length
  if n < s.f F.VLT_PART_CKPT_PAGES + s.f F.VLT_PART_SHELF_PAGES then
    (s.setF (F.VLT_PAGES_STATE c) 3).ledger
      { code := 0x0405, die := dieOfCluster c, cluster := c, unitKind := 4, unit := 4 * c, op := 14, flags := flagFence, addr := c }
  else s.setF (F.VLT_PAGES_STATE c) (if n = 0 then 0 else if s.vault.worn.contains c then 2 else 1)

/-- Step 22. -/
def State.doVault (s : State) (params : List VParam) : State :=
  let all := s.vaultTargets
  let bad := all.filter (fun t => !targetOk params t)
  let s := s.forEach bad (fun s t => s.fenceVch t.1 0x0403 t.2)
  let good := all.filter (fun t => s.f (F.VLT_CH_STS_STATE t.1) != 3)
  let ts := good.filterMap (fun t => (params.find? (fun (v : VParam) => v.ch == t.1 && v.ce == t.2)).map (fun v =>
    (⟨t.1, t.2, v.main, v.ebMain⟩ : VTarget)))
  let s : State := { s with vault := { s.vault with targets := ts } }
  let s : State := s.forEach (good.map (fun (t : Fin 32 × Fin 8) => t.1.val)).eraseDups (fun s n =>
    (s.setF (F.VLT_CH_STS_STATE n) 2).setF (F.VLT_CH_STS_CES n) (ts.filter (fun (t : VTarget) => t.ch.val == n)).length)
  if s.f F.VLT_POP_CH_MASK = 0 then s else s.forEach (List.range 8) State.vaultCount

/-! ## Steps 23 and 24 -/

/-- Step 24: the compute domains are released, the control space opens, the pool fields become valid, the pair forms and
the clearing engines start; in CYCLE_EXACT the clocks stand at their pins. -/
def State.doService (s : State) : State :=
  let s := (s.setF F.AO_BOOT_STATE btService).setF F.AO_BOOT_STEP 0
  let s := { s with dramCtl := { s.dramCtl with selfRefresh := false }, pep := { s.pep with poolValid := true } }
  let s := if s.epoch.active.str.determinism.cycleExact then (s.clockRepin 0).clockRepin 1 else s
  let s := s.forEach (List.range 16) (fun s n => s.setCore n { s.core n with idleSince := s.count })
  let s := (s.applySums).forEach (List.range 8) (fun s c => s.newPass c false)
  s.pairApply s.epoch.active.str.mirror.isSome

/-! ## Failures (R463) -/

/-- What steps 17 to 22 do to the units that are not fenced. -/
def State.unitWork (s : State) (k : Nat) (e : StartEnv) : State :=
  match k with
  | 17 => s.doTrain s.liveStacks e.fullTrain
  | 18 =>
    let s := (s.doTrain (s.liveChannels.map (fun n => 8 + n)) e.fullTrain).densityCheck e.densities
    { s with dramCtl := { s.dramCtl with selfRefresh := false } }
  | 19 => s.doFill
  | 20 => (if s.boot.keep then s.sweepAll else s).unitStates 4
  | 21 => s.doReconcile
  | 22 => s.doVault e.params
  | _ => s

/-- A step fails: the attempt ends and a new one begins with the step's change; or the step is skipped; or start-up halts.
The units are in the step's numbering; code is what the halt would be for. The units that
did not fail have done the step's work. -/
def State.stepFails (s : State) (k : Nat) (units : List Nat) (code : Nat) (e : StartEnv) : State :=
  let s := s.stepEnds k 3
  let s := (s.satF (F.AO_BOOT_STEP_FAILS k) 1).satF (F.AO_BOOT_STEP_TOTAL k) 1
  let no (u : Nat) : Nat := if u < 8 ∨ k < 17 then u else if u < 104 then u - 8 else u - 104
  let mask := ((units.map no).eraseDups.map (fun u => 2 ^ u)).sum
  let s := s.ledger (startEvent 0x0C01 (s.stepAddr k mask))
  let s := if k = 17 ∨ k = 18 then
      s.forEach units (fun s u => if h : u < 104 then
        s.ledger (dramEvent (dunitAt ⟨u, h⟩) 0x0320 (if s.boot.slow.contains u then 256 else 0) 0) else s)
    else s
  if s.f (F.AO_BOOT_STEP_FAILS k) = 1 then
    (s.stepChange k units).deviceReset .restart s.boot.keep
  else if s.optionalStep k then
    let s := (s.stepSkipAction k units).ledger (startEvent 0x0C02 (s.stepAddr k mask))
    ((s.unitWork k e).stepEnds k 4).stepOpens (k + 1)
  else
    let s := ((s.stepChange k units).ledger (startEvent 0x0C03 k)).ibi 2
    (s.setF F.AO_BOOT_HALT_CODE code).setF F.AO_BOOT_STATE btHalted

/-- An image step fails with a code of Table 2-6. -/
def State.imageStepFails (s : State) (k : Nat) (e : ImgFail) : State :=
  (((s.loadOver).setF F.SIT_STATUS_LAST_OUTCOME 2).sitError e.code e.addr).stepFails k [] e.code {}

/-! ## A step's action -/

/-- Step k passes and the next begins; after step 24 the device is in service. -/
def State.stepPasses (s : State) (k : Nat) : State :=
  let s := (s.setF (F.AO_BOOT_STEP_FAILS k) (if k = 2 then s.f (F.AO_BOOT_STEP_FAILS 2) else 0)).stepEnds k 2
  if k = 24 then s.doService else s.stepOpens (k + 1)

/-- The action of the step in progress completes (R462). While steps 13 to 16 load from the NOR or from the partner,
SIT_STATUS.STATE and SIT_LOAD.GO read 0: R49 says what STATE reads afterwards and nothing about the time before (DESIGN
CHOICE). -/
def State.stepDone (s : State) (e : StartEnv) : State :=
  let k := s.f F.AO_BOOT_STEP
  let pass (s : State) : State := s.stepPasses k
  if s.f F.AO_BOOT_STATE ≠ btStarting ∨ s.boot.shake.isSome then s
  else match k with
  | 1 => if s.f F.AO_STRAPS_BOOT_SRC = 0 ∨ s.f F.AO_STRAPS_CLK_MODE = 0 then s.stepFails 1 [] 0x0C01 e else pass s
  | 2 => pass (s.doTrim e.badLoads e.fuses)
  | 4 => pass s.doReference
  | 5 => pass (s.lockPlls false)
  | 6 => pass (s.lockPlls true)
  | 9 => pass s.clearStores
  | 10 => pass (s.doSelftest e.failedCheckers)
  | 11 => pass (s.setF F.MGT_STS_FW_STATE 0)
  | 12 => (pass s).endpointTrains
  | 13 =>
    let src := s.f F.AO_BOOT_SRC
    let read := match s.epoch.read with | some r => if r.stage = 4 then some r.data else none | none => none
    if (src = srcHost ∧ s.epoch.load.isNone) ∨ (src = srcPartner ∧ read.isNone) then s
    else
      let img := if src = srcNor then s.norImage 0 else if src = srcPartner then read.getD [] else e.image
      let s := (s.setRead none).setBoot { s.boot with image := img, imageBad := if src = srcPartner then [] else e.imageBad }
      let len := s.bootSrcLen img
      let s := if src = srcHost then s else s.setF F.SIT_SRC_LEN_LEN len
      let chk : Checked Unit := do
        need (!unreadable e.imageBad 0 4096 && decide (4096 ≤ img.length)) cImgSource s.bootSrcAddr
        let _ ← s.checkPrefix img len
        .ok ()
      match chk with
      | .ok _ => pass s
      | .error x => s.imageStepFails 13 x
  | 14 =>
    match s.bootImage with
    | .ok _ => pass (if s.f F.AO_BOOT_SRC = srcPartner then s.setF F.JX_NODE_ID 0 else s)
    | .error x => s.imageStepFails 14 x
  | 15 =>
    match s.bootImage with
    | .ok x =>
      let fw := match x.fw with | some p => p.1 | none => []
      pass ({ s with mgmt := { s.mgmt with fwStore := fw } }).fwStart
    | .error x => s.imageStepFails 15 x
  | 16 =>
    match s.bootImage with
    | .ok x =>
      let s := s.applyAll x
      pass (s.setBoot { s.boot with image := [], imageBad := [] })
    | .error x => s.imageStepFails 16 x
  | 23 => pass (s.forEach ((List.range 18).filter (fun p => s.f (F.OPT_STS_STATE p) == 0)) State.newAttempt)
  | 0 => s
  | _ => pass (s.unitWork k e)

/-- The step in progress passes its limit or fails its own check, with the units that failed. Step 2 never ends an attempt;
steps 10, 23 and 24 never fail. -/
def State.stepLimit (s : State) (units : List Nat) (e : StartEnv) : State :=
  let k := s.f F.AO_BOOT_STEP
  if s.f F.AO_BOOT_STATE ≠ btStarting ∨ s.boot.shake.isSome ∨ k = 0 ∨ k = 2 ∨ k = 10 ∨ k = 23 ∨ k = 24 then s
  else s.stepFails k units 0x0C01 e

/-! ## The partner's image fails (R484) -/

/-- A read of the partner's image that has failed fails its step, or its load, at once with IMG_SOURCE. -/
def State.imageSettle (s : State) : State :=
  match s.epoch.read with
  | none => s
  | some r =>
    if r.stage ≠ 5 then s
    else
      let s := s.setRead none
      if s.f F.AO_BOOT_STATE = btStarting ∧ s.f F.AO_BOOT_STEP = 13 then s.imageStepFails 13 ⟨cImgSource, s.bootSrcAddr⟩
      else match s.epoch.load with
      | some l => if l.src = srcPartner then s.loadFails cImgSource l.addr else s
      | none => s

/-! ## The commands -/

/-- FLIT_RX: the symbols of one code word on the physical receive lanes of a port (R231, R251). -/
def execFlitRx (p : Fin 18) (lanes : List (List (Fin 4))) (s : State) : Host.Outcome State Fault Refusal := .next (s.flitRx p lanes).imageSettle
/-- RESPONSE_RX (R243). -/
def execResponseRx (p : Fin 18) (src : Node) (txn : W16) (status : Fin 16) (token : W32) (mask : W32) (data : Bytes) (s : State) :
    Host.Outcome State Fault Refusal := .next (s.responseRx p src txn status token mask.toNat data).imageSettle
/-- OWN_REQ_TIMEOUT (R243). -/
def execOwnReqTimeout (txn : W16) (s : State) : Host.Outcome State Fault Refusal := .next (s.ownReqTimeout txn).imageSettle

/-- STARTUP_STEP_DONE, with what the surroundings give the step (R462). -/
def execStartupStepDone (env : StartEnv) (s : State) : Host.Outcome State Fault Refusal := .next (s.stepDone env)
/-- STARTUP_STEP_LIMIT, with the units that failed: dies in steps 5 and 6, and keyed as stacks 0 to 7, channels from 8 and
vault channels from 104 in steps 17 to 22; and with what the surroundings give the others (R463). -/
def execStartupStepLimit (units : List Nat) (env : StartEnv) (s : State) : Host.Outcome State Fault Refusal :=
  .next (s.stepLimit units env)

end Sys2Proof.Machine
end

