-- ==== Sys2Proof/Machine/BlockReset.lean ====
section
/-! DEFINITION. Resetting one block (R460, R461, R467), the regulation of clocks and power (R470) and the periodic updates
of the DRAM units (R284). -/

namespace Sys2Proof.Machine

/-! ## Idleness (Table 20-5) -/

/-- Units of a kind; none for a reserved kind. -/
def blkUnits (kind : Nat) : Nat :=
  if kind = 1 then 16 else if kind = 2 then 8 else if kind = 3 then 18 else if 4 ≤ kind ∧ kind ≤ 11 then 1 else 0

/-- Whether the unit lies on a fenced die. -/
def State.blkOnFencedDie (s : State) (kind unit : Nat) : Bool :=
  match kind with
  | 1 => s.dieFenced (dieOfCore unit)
  | 2 => s.dieFenced (dieOfCluster unit)
  | 3 => s.portFenced unit
  | _ => false

/-- Whether a kernel runs on a core. -/
def State.kernelRuns (s : State) (n : Nat) : Bool := (s.core n).running.isSome

/-- Whether a unit is idle. -/
def State.blkIdle (s : State) (kind unit : Nat) : Bool :=
  match kind with
  | 1 => !s.kernelRuns unit
  | 2 => !s.kernelRuns (2 * unit) && !s.kernelRuns (2 * unit + 1) && s.plans.all (fun (p : Plan) => p.cluster != unit) && s.runningJobs.isEmpty
  | 4 => s.runningJobs.isEmpty
  | 6 => s.pool.ops.all (fun (o : PoolOp) => !o.started)
  | 8 => (List.range 16).all (fun n => !s.testing n)
  | 9 | 10 => (List.range 16).all (fun n => !s.kernelRuns n)
  | _ => true

/-! ## What each kind clears (Table 20-5) -/

/-- Removes fences. -/
def State.unfence (s : State) (l : List FenceUnit) : State := { s with fences := s.fences.filter (fun u => !l.contains u) }

/-- Kind 1: the CORE block and the core's compute domain; its fetched descriptors and device queue are discarded without
completing (R187). A shadow on the core ends as under a fence, and a field test of the core is aborted (R461). -/
def State.resetCore (s : State) (n : Nat) : State :=
  let s := s.testAbortedBy n
  let s := s.forEach (s.silent.shadows.filter (fun (x : Shadow) => x.shadow == n)) State.uncheck
  let s := s.dropShadow n
  let head := s.reg (R.CORE_Q_HEAD n)
  let s := (s.clearRegs (R.CORE_Q_BASE n) (R.CORE_Q_BASE n + 0x100000)).setReg (R.CORE_Q_HEAD n) head
  let s := s.setCore n { idleSince := s.count }
  let s := { s with accs := Sparse.clear (65536 * n) (65536 * (n + 1)) s.accs
                    exacts := Sparse.clear (512 * n) (512 * (n + 1)) s.exacts
                    stalls := s.stalls.filter (fun (x : Stall) => x.core != n) }
  s.unfence [.engine n, .core n]

/-- Kind 2: both cores, the canopy and understory controllers and their registers; the units are trained and lost-filled
before the cluster returns to service (R467). -/
def State.resetCluster (s : State) (c : Nat) : State :=
  let s := (s.resetCore (2 * c)).resetCore (2 * c + 1)
  let s := { s with plans := s.plans.filter (fun (p : Plan) => p.cluster != c)
                    pool := { s.pool with accs := Sparse.clear (2048 * c) (2048 * (c + 1)) s.pool.accs } }
  let s := s.unfence [.cluster c]
  let pages := s.reg (R.UND_PAGES c)
  let s := (s.clearRegs (R.CAN_SPLIT c) (R.CAN_SPLIT c + 0x40)).clearRegs (R.CAN_DSTS c) (R.CAN_DSTS c + 0x40)
  let s := s.clearRegs (R.CAN_STALL (2 * c) 0) (R.CAN_STALL (2 * c) 0 + 0x80)
  let s := s.clearRegs (R.UND_STS (12 * c)) (R.UND_STS (12 * c) + 0x40 * 12)
  let s := (s.setReg (R.UND_PAGES c) pages).applySplit s.epoch.active.str c
  let s := { s with
    canopy := { s.canopy with
      plru := Sparse.drop (fun k => k / 2 ^ 25 == c) s.canopy.plru
      pages := Sparse.drop (fun p => ownerOf p == c) s.canopy.pages }
    dramCtl := { s.dramCtl with
      acts := Sparse.drop (fun k => clusterOfUnit (k / 256) == c) s.dramCtl.acts
      refresh := Sparse.drop (fun k => clusterOfUnit (k / 256) == c) s.dramCtl.refresh
      ueTimes := Sparse.drop (fun u => clusterOfUnit u == c) s.dramCtl.ueTimes }
    integ := { s.integ with scrub := Sparse.drop (fun k => k == c) s.integ.scrub } }
  let chans := ((List.range 12).map (fun i => 12 * c + i)).filter s.channelEnabled
  let keys := c :: chans.map (fun n => 8 + n)
  let s := s.forEach keys (fun s u => if h : u < 104 then
    (s.setF (dunitAt ⟨u, h⟩).state 4).setF (dunitAt ⟨u, h⟩).speed (if s.boot.slow.contains u then 1 else 0) else s)
  ((s.forEach keys State.loseUnit).keepSplit c).newPass c false

/-- Kind 3: the port's JX and OPT registers; the replay state goes as for DOWN, and the port trains from step 1. What
PORT_GROUPS sets and what a module's presence shows stay as they are. -/
def State.resetPort (s : State) (p : Nat) : State :=
  let s := s.linkDown p
  let g := s.epoch.active.str.ports.getD p ⟨true, true, 0⟩
  let there := s.f (F.OPT_LASER_PRESENT p)
  let s := s.lasers p 0
  let s := (s.clearRegs (R.JX_PORT_CFG p) (R.JX_PORT_CFG p + 0x80)).clearRegs (R.OPT_CFG p) (R.OPT_CFG p + 0x40)
  let s := (s.setF (F.JX_PORT_CFG_ENABLE p) g.enable.toNat).setF (F.JX_PORT_CFG_GROUP p) g.group
  let s := s.setF (F.OPT_LASER_PRESENT p) there
  ((s.setOptic p {}).setPort p { queue := (s.port p).queue, carried := (s.port p).carried ++ (s.port p).staged }).newAttempt p

/-- Kind 4: the MNT registers, with the slots as across a reset that keeps them (R136). -/
def State.resetMint (s : State) : State :=
  (s.slotsKept.clearRegs 0x0700000 0x0700400).clearRegs 0x0709000 0x0800000

/-- Kind 5: the CLR block; the next passes start at once. -/
def State.resetClearing (s : State) : State :=
  let s := s.clearRegs 0x0600000 0x0700000
  ({ s with integ := { s.integ with scrub := [] } }).forEach (List.range 8) (fun s c => s.newPass c false)

/-- An open request ends without an answer: its token is free again. -/
def State.dropOpen (s : State) (o : OpenReq) : State :=
  let s := { s with opens := s.opens.filter (fun (x : OpenReq) => x.id != o.id) }
  match o.token with
  | some w => s.freeTokenAt (tokenIndex w)
  | none => s

/-- Kind 6: every extent entry is FREE and every pool operation ends without a completion (R328). -/
def State.resetPool (s : State) : State :=
  let s := s.forEach (s.opens.filter (fun (o : OpenReq) => match o.wait with | .poolOp _ => true | _ => false)) State.dropOpen
  let s := s.clearRegs 0x0E00000 0x0F00000
  { s with deniedAt := [], pool := { ops := [], vers := s.pool.vers, buckets := [], drains := [], refilled := s.count / 1000 } }

/-- Kind 7: the PAIR block, in FORMING when a MIRROR record is in force (R430, R433). -/
def State.resetPair (s : State) : State :=
  let s := s.endCompares.failPair stDenied
  let fresh := s.f F.PAIR_STS_FRESH
  let s := ((s.clearRegs 0x0F00000 0x1000000).setPair {}).setF F.PAIR_STS_FRESH fresh
  s.pairApply s.epoch.active.str.mirror.isSome

/-- Kind 8: the TST block; every test ends with ABORTED, and the committed CHECKING record shows again (R411). -/
def State.resetTests (s : State) : State :=
  let s := s.forEach (List.range 16) (fun s n => s.testAbortedBy n)
  let s := s.clearRegs 0x3100000 0x3200000
  let s := { s with silent := { shadows := s.silent.shadows } }
  (s.setF F.TST_CFG_FRACTION s.epoch.active.str.checking.fraction).applyQuarantine s.epoch.active.str

/-- Kind 11: the TLR registers; the committed CLASSES record applies again. -/
def State.resetTellers (s : State) : State :=
  let s := s.clearRegs 0x0300000 0x0400000
  (({ s with tellers := {} }).applyClasses s.epoch.active.str).applySums

/-- The reset of a unit. -/
def State.blkClear (s : State) (kind unit : Nat) : State :=
  match kind with
  | 1 => s.resetCore unit
  | 2 => s.resetCluster unit
  | 3 => s.resetPort unit
  | 4 => s.resetMint
  | 5 => s.resetClearing
  | 6 => s.resetPool
  | 7 => s.resetPair
  | 8 => s.resetTests
  | 9 => s.clearRegs 0x2000000 0x3000000
  | 10 => (s.clearRegs 0x0400000 0x0500000).applyDet s.epoch.active.str.determinism
  | 11 => s.resetTellers
  | _ => s

/-- A block reset ends with a result. -/
def State.blkDone (s : State) (kind unit result : Nat) : State :=
  let s := s.setBoot { s.boot with blk := none }
  ((s.blkClear kind unit).setF F.AO_BLK_RST_GO 0).setF F.AO_BLK_RST_RESULT result

/-- GO of a block reset: refused, done at once, or waiting for the unit to go idle (R460, R461). -/
def State.blockReset (s : State) (kind unit : Nat) : State :=
  if s.boot.blk.isSome then s.setF F.AO_BLK_RST_RESULT 2
  else
    let t := (s.setF F.AO_BLK_RST_KIND kind).setF F.AO_BLK_RST_UNIT unit
    if blkUnits kind ≤ unit ∨ !s.inService ∨ s.blkOnFencedDie kind unit then t.setF F.AO_BLK_RST_RESULT 2
    else
      let t := (t.setF F.AO_CAUSE_BLOCK 1).setF F.AO_BLK_RST_GO 1
      let t := t.setBoot { t.boot with blk := some ⟨kind, unit, t.count⟩ }
      if kind = 3 ∨ kind = 5 ∨ kind = 7 ∨ kind = 11 then t.blkDone kind unit 0 else t

/-- The unit of the block reset in progress is idle: it is reset. -/
def State.blkGoesIdle (s : State) : State :=
  match s.boot.blk with
  | some b => if s.blkIdle b.kind b.unit then s.blkDone b.kind b.unit 0 else s
  | none => s

/-- The cores whose kernel a timeout aborts. -/
def blkCores (kind unit : Nat) : List Nat :=
  match kind with
  | 1 => [unit]
  | 2 => [2 * unit, 2 * unit + 1]
  | 9 | 10 => List.range 16
  | _ => []

/-- Running mint jobs end without status. -/
def State.dropJobs (s : State) : State :=
  let s := s.forEach (s.runningJobs.filterMap MintJob.slot) (fun s i => s.setF (F.MNT_SLOT_INFO_RSV i) 0)
  ({ s with mint := { s.mint with jobs := s.mint.jobs.filter (fun (j : MintJob) => !j.started) } }).setF F.MNT_STATUS_ACTIVE_JOBS 0

/-- TIMEOUT_US passes before the unit is idle: running work is aborted and the unit is reset with RESULT 1. -/
def State.blkTimeout (s : State) (cuts : List KernelCut) : State :=
  match s.boot.blk with
  | none => s
  | some b =>
    if s.count < b.since + 1000 * s.f F.AO_BLK_RST_TIMEOUT_US ∨ s.blkIdle b.kind b.unit then s
    else
      let s := s.ledger (startEvent 0x0C05 (b.kind * 16 + 256 * b.unit))
      let s := s.forEach (blkCores b.kind b.unit) (fun s n =>
        s.abortKernel n 0x0C05 ((cuts.find? (fun (c : KernelCut) => c.core.val == n)).getD { core := Fin.ofNat 16 n, touched := [] }))
      let s := if b.kind = 2 ∨ b.kind = 4 then s.dropJobs else s
      s.blkDone b.kind b.unit 1

/-! ## Power and temperature (R470) -/

/-- Changes of a die's clocks by steps, between half the nominal clocks and the ones that stand without regulation. -/
def State.stepClocks (s : State) (d : Nat) (engine fabric : Int) : State :=
  let c := if d = 0 then (s.clocks.engine0, s.clocks.fabric0) else (s.clocks.engine1, s.clocks.fabric1)
  let top := if s.epoch.active.str.determinism.cycleExact then s.settled d else s.baseClocks
  let move (x half full : Nat) (by_ : Int) : Nat :=
    let y := (x + by_).toNat
    if y < half then min half x else if full < y then max full (min x full) else y
  let e := move c.1 1350 top.1 engine
  let f := move c.2 1200 top.2 fabric
  let s' := s.setClocks d e f
  if e < c.1 ∨ f < c.2 then s'.forEach ((List.range 8).map (fun i => 8 * d + i)) (fun s n => s.cxBreak n 1) else s'

/-- Marks why a die's clocks are low, or that the reason has passed. -/
def State.setLowered (s : State) (k : Nat) (on : Bool) : State :=
  s.setBoot { s.boot with lowered := if on then insertNat k s.boot.lowered else s.boot.lowered.filter (fun x => x != k) }

/-- One die's regulation: down on power or heat; up once every condition that lowered its clocks lies 5 % or 3 °C inside
its limit. -/
def State.regulateDie (s : State) (d w pkg : Nat) (hot : Int) : State :=
  let lim := 460 + s.f F.AO_PWR_HEAD_ENG_W
  let throttle : Int := (4 * s.f F.AO_THERM_THROTTLE_C : Nat)
  let high := decide (lim < w)
  let pkgOver := decide (1500 < pkg)
  let heat := decide (throttle ≤ hot)
  let s := if high then s.setLowered (4 * d) true else s
  let s := if pkgOver then s.setLowered (4 * d + 1) true else s
  let s := if heat then s.setLowered (4 * d + 2) true else s
  let s := if high ∨ pkgOver then s.stepClocks d (-135) 0 else s
  let s := if heat then s.stepClocks d (-135) (-120) else s
  if high ∨ pkgOver ∨ heat then s
  else
    let why (i : Nat) : Bool := s.boot.lowered.contains (4 * d + i)
    let powerIn := (!why 0 || decide (100 * w ≤ 95 * lim)) && (!why 1 || decide (100 * pkg ≤ 95 * 1500))
    let heatIn := !why 2 || decide (hot + 12 ≤ throttle)
    if !(why 0 || why 1 || why 2) then s
    else
      let s := s.stepClocks d (if powerIn && heatIn then 135 else 0) (if heatIn then 120 else 0)
      let c := if d = 0 then (s.clocks.engine0, s.clocks.fabric0) else (s.clocks.engine1, s.clocks.fabric1)
      let top := if s.epoch.active.str.determinism.cycleExact then s.settled d else s.baseClocks
      if top.1 ≤ c.1 ∧ top.2 ≤ c.2 then ((s.setLowered (4 * d) false).setLowered (4 * d + 1) false).setLowered (4 * d + 2) false else s

/-- One run of the regulator, every 10 µs of the global count. -/
def State.powerRegulate (s : State) (e : PowerEnv) : State :=
  if s.count < s.boot.regulatedAt + 10000 then s
  else
  let s := s.setBoot { s.boot with regulatedAt := s.count }
  let s := (s.dieReading 0 e.hot0).dieReading 1 e.hot1
  let s := (s.regulateDie 0 e.engine0 e.package e.hot0).regulateDie 1 e.engine1 e.package e.hot1
  let s := if 250 + s.f F.AO_PWR_HEAD_CAN_W < e.canopy then
      s.forEach e.above (fun s c => s.setF (F.CAN_DSTS_LEVEL c) (max 2 (s.f (F.CAN_DSTS_LEVEL c))))
    else s
  (s.setF F.AO_PWR_PKG_W e.package).setF F.AO_PWR_ENG_PCT (100 * min s.clocks.engine0 s.clocks.engine1 / 2700)

/-! ## Periodic updates (R284) -/

/-- A unit's periodic update runs when it is due; a failed one is repeated at once, and a second failure in a row fences the channel, or
faults the stack's cluster (R274). -/
def State.periodicUpdate (s : State) (u : DUnit) (ok again : Bool) : State :=
  if s.f u.state = 6 ∨ s.clusterFenced u.cluster ∨ !s.updateDue u then s
  else
    let s := s.dramUpdate u ok
    if ok then s
    else
      let s := s.dramUpdate u again
      if again then s
      else match u with
        | .channel n => s.fenceChannel n 1
        | .stack c => s.clusterFault c .check []

/-! ## The commands -/

/-- BLOCK_RESET: a write to AO_BLK_RST with GO = 1 (R460). -/
def execBlockReset (kind : Fin 16) (unit : Byte) (s : State) : Host.Outcome State Fault Refusal := .next (s.blockReset kind unit.toNat)
/-- BLOCK_RESET_IDLE (R460). -/
def execBlockResetIdle (s : State) : Host.Outcome State Fault Refusal := .next s.blkGoesIdle
/-- BLK_RST_TIMEOUT (R460). -/
def execBlkRstTimeout (cuts : List KernelCut) (s : State) : Host.Outcome State Fault Refusal := .next (s.blkTimeout cuts)
/-- POWER_REGULATE (R470). -/
def execPowerRegulate (env : PowerEnv) (s : State) : Host.Outcome State Fault Refusal := .next (s.powerRegulate env)
/-- PERIODIC_UPDATE of a unit, with the outcomes of the update and of its repetition (R284). -/
def execPeriodicUpdate (u : Fin 104) (ok again : Bool) (s : State) : Host.Outcome State Fault Refusal :=
  .next (s.periodicUpdate (dunitAt u) ok again)

end Sys2Proof.Machine
end

