-- ==== Sys2Proof/Machine/RegRead.lean ====
section
/-! DEFINITION. Reading a register (R5 to R8): the fields that show what another unit holds, and the fields that read as
0. -/

namespace Sys2Proof.Machine

/-- A register word built from fields: value and place. -/
def fieldWord (l : List (Nat × Nat)) : Nat := (l.map (fun p => p.1 * 2 ^ p.2)).sum

/-- CAN_STS of a stack: valid and dirty lines in units of 32 (Table 3-13). -/
def State.canSts (s : State) (c : Nat) : Nat :=
  let l := s.canopy.lines.filter (fun e => e.2.isSome && decide (e.1 / 2 ^ 27 = c))
  let d := l.filter (fun e => match e.2 with | some x => x.dirty | none => false)
  fieldWord [(d.length / 32, 32), (l.length / 32, 8), ((s.drained c).toNat, 0)]

/-- CAN_PAGE_INFO of the selected page (Table 3-16). -/
def State.pageInfo (s : State) : Nat :=
  let p := s.f F.CAN_PAGE_SEL_PAGE
  if s.plainMapped 0 p then
    let u := s.pageUse p
    fieldWord [(s.hint p, 22), (u.history.toNat, 21), ((s.hot p).toNat, 20), (1, 16), (u.counter, 0)]
  else 0

/-- CORE_STATUS of a core (Table 7-12). -/
def State.coreStatus (s : State) (n : Nat) : Nat :=
  let c := s.core n
  let st :=
    if s.coreFenced n then 6
    else if c.running.isSome then 2
    else match c.power with
      | .clockGated => 3
      | .powerGated => 4
      | .waking _ => 5
      | .awake => if c.sw.isSome || c.dqHead.isSome then 1 else 0
  let run := match c.running with | some r => [(kdKernel r.desc, 32), ((kdTag r.desc).toNat, 16)] | none => []
  fieldWord (run ++ [((if c.dqHead.isSome then 1 else 0) + c.dq.length, 7), (st, 0)])

/-- The record at HEAD of a ring, or 64 zero bytes (R383). -/
def State.headRecord (s : State) (d : Nat) : Bytes :=
  let h := s.f (F.LDG_HEAD_SEQ d)
  if h = s.f (F.LDG_TAIL_SEQ d) then List.replicate 64 0
  else match Sparse.get ringZero s.integ.ring (8192 * d + h % 8192) with
    | some r => r.bytes
    | none => List.replicate 64 0

/-- The tallies of the selected port and class (Table 14-8). -/
def State.tellerStat (s : State) (w : Nat) : W64 :=
  let t := s.teller (s.f F.TLR_STAT_SEL_PORT) (s.f F.TLR_STAT_SEL_CLASS)
  match w with
  | 0 => t.bytes
  | 1 => t.beBytes
  | 2 => t.misses
  | _ => t.latMiss

/-- POOL_VER_INFO of a slot of the selected region; STATE 7 where the region has no such slot (Table 13-14). -/
def State.verInfo (s : State) (k : Nat) : Nat :=
  let id := s.f F.POOL_VER_SEL_REGION_ID
  if !s.regions.any (fun r => r.id == id && r.versions != 0 && decide (k ≤ r.versions)) then 7
  else
  let v := s.verSlot id k
  let put (x : Fld) (n : Nat) : Nat × Nat := (n % 2 ^ (x.hi + 1 - x.lo), x.lo)
  fieldWord [put (F.POOL_VER_INFO_VERSION k) v.version, put (F.POOL_VER_INFO_OWNER k) v.owner.toNat, put (F.POOL_VER_INFO_OPENS k) v.opens,
    put (F.POOL_VER_INFO_STATE k) v.state]

/-- AVAIL of the image service: the NOR's prefix is the one applied last, and no update runs (R484). -/
def State.imageAvail (s : State) : Bool :=
  !s.epoch.imagePrefix.isEmpty && !s.mgmt.norUpdate && sm3 (s.norBytes 0 4096) == sm3 s.epoch.imagePrefix

/-- The bits of a register that do not always read as 0: write-only fields are masked (R7). -/
def readMask (r : RegDesc) : Nat :=
  ((r.fields.filter (fun f => f.access != .wo)).map (fun f => (2 ^ (f.hi + 1 - f.lo) - 1) * 2 ^ f.lo)).sum

/-- What a register of the map reads as. -/
def State.readMapped (s : State) (d : RegDesc) (off : Nat) : W64 :=
  let num (n : Nat) : W64 := BitVec.ofNat 64 n
  let i1 := (off - d.base) / d.s1
  let i2 := (off - d.base) % d.s1 / d.s2
  if d.base = R.GLB_COUNT then num s.count
  else if d.base = R.CAN_STS 0 then num (s.canSts i1)
  else if d.base = R.CAN_PAGE_INFO then num s.pageInfo
  else if d.base = R.CORE_STATUS 0 then num (s.coreStatus i1)
  else if d.base = R.LDG_REC 0 0 then num (fieldLe (s.headRecord i1) (8 * i2) 8)
  else if d.base = R.TLR_STAT_BYTES then s.tellerStat 0
  else if d.base = R.TLR_STAT_BE_BYTES then s.tellerStat 1
  else if d.base = R.TLR_STAT_MISSES then s.tellerStat 2
  else if d.base = R.TLR_STAT_LAT_MISS then s.tellerStat 3
  else if d.base = R.POOL_STATUS then putBits 47 32 s.pool.drains.length (putBits 4 0 s.activeOps (s.reg off))
  else if d.base = R.POOL_VER_INFO 0 then num (s.verInfo i1)
  else if d.base = R.TST_CORE_STS 0 then (if s.engineFenced i1 then putBits 21 20 2 (s.reg off) else s.reg off)
  else if d.base = R.MGT_IMG_SESSION then putBits 32 32 s.imageAvail.toNat (s.reg off)
  else s.reg off &&& num (readMask d)

/-- What a control offset reads as; none where no register lies (R35, R37). -/
def State.readReg (s : State) (off : Nat) : Option W64 := (regAt off).map (fun d => s.readMapped d off)

end Sys2Proof.Machine
end

