-- ==== Sys2Proof/Machine/Mgmt.lean ====
section
/-! DEFINITION. Management and security (chapter 21): the watchdog, the fuses, updates of the boot NOR, the image service,
attestation and the I3C target. -/

namespace Sys2Proof.Machine

/-- Changes the management domain's part of the state. -/
def State.setMgmt (s : State) (m : Mgmt) : State := { s with mgmt := m }

/-- Event bits of MGT_STS (Table 21-6). -/
def evWdog : Nat := 0
def evNor : Nat := 1
def evAttest : Nat := 2
def evFuse : Nat := 3
def evDigest : Nat := 4

/-- A bit of MGT_STS.EVENTS is set; when it becomes set and INT_EN is 1, the management interrupt is raised (R490). -/
def State.mgtEvent (s : State) (i : Nat) : State :=
  let was := s.bit F.MGT_STS_EVENTS i
  let s := s.setBit F.MGT_STS_EVENTS i true
  if !was && s.f F.MGT_CFG_INT_EN == 1 then s.raiseIrq 2 else s

/-- A management record (Table 21-5). -/
def mgmtRecord (code addr : Nat) : Event := { code := code, die := 0, unitKind := 13, addr := addr }

/-- The firmware runs. -/
def State.fwRuns (s : State) : Bool := s.f F.MGT_STS_FW_STATE == 1

/-! ## Image sessions (R485) -/

/-- Whether a session is open. -/
def State.sessionOpen (s : State) : Bool := s.f F.MGT_IMG_SESSION_OPEN == 1

/-- The session is closed. -/
def State.sessionShut (s : State) : State := (s.setF F.MGT_IMG_SESSION_OPEN 0).setF F.MGT_IMG_SESSION_OWNER 0

/-- A session closes without its close write: IMG_SERVE_END with its OWNER. -/
def State.sessionDropped (s : State) : State :=
  if s.sessionOpen then s.sessionShut.ledger { mgmtRecord 0x0774 (s.f F.MGT_IMG_SESSION_OWNER) with op := 11 } else s

/-- Whether a session of another source is open, so that every access of this source is answered CONFLICT. -/
def State.sessionOther (s : State) (src : Node) : Bool := s.sessionOpen && s.f F.MGT_IMG_SESSION_OWNER != src.toNat

/-- The open session is accessed. -/
def State.sessionUsed (s : State) : State := if s.sessionOpen then s.setMgmt { s.mgmt with sessionAt := s.count } else s

/-- A write of 1 to MGT_IMG_SESSION.OPEN, with its status: refused while another source's session is open, or while AVAIL
is 0 (R484). -/
def State.openSession (s : State) (src : Node) : State × Nat :=
  if s.sessionOther src then (s, stConflict)
  else if !s.imageAvail then (s, stDenied)
  else (((s.setF F.MGT_IMG_SESSION_OPEN 1).setF F.MGT_IMG_SESSION_OWNER src.toNat).sessionUsed, stOk)

/-- A write of 0 to OPEN, with its status. -/
def State.closeSession (s : State) (src : Node) : State × Nat :=
  if s.sessionOther src then (s, stConflict) else (s.sessionShut, stOk)

/-- A write to MGT_IMG_PAGE, with its status. -/
def State.imgPage (s : State) (src : Node) (page : Nat) : State × Nat :=
  if s.sessionOther src then (s, stConflict) else ((s.setF F.MGT_IMG_PAGE_PAGE page).sessionUsed, stOk)

/-- A read of n bytes of MGT_IMG_WIN from an offset, with its status: image bytes of the page within a session, zeros and
DENIED outside one or from IMAGE_LEN on. -/
def State.imgWindow (s : State) (src : Node) (off n : Nat) : State × Nat × Bytes :=
  if s.sessionOther src then (s, stConflict, List.replicate n 0)
  else
    let at_ := 524288 * s.f F.MGT_IMG_PAGE_PAGE + off
    let len := fieldLe (s.norBytes 0x10 8) 0 8
    if !s.sessionOpen ∨ len ≤ at_ then (s.sessionUsed, stDenied, List.replicate n 0)
    else
      let m := min n (len - at_)
      (s.sessionUsed, stOk, s.norBytes at_ m ++ List.replicate (n - m) 0)

/-- A session with no access for 1 s closes. -/
def State.sessionTimeout (s : State) : State :=
  if s.sessionOpen && decide (s.mgmt.sessionAt + 1000000000 ≤ s.count) then s.sessionDropped else s

/-! ## The reset of the management domain (R475) -/

/-- What an attestation report under way leaves at its destination: bytes that the spec leaves undefined. -/
def State.reportCut (s : State) : State :=
  match s.mgmt.report with
  | some r => (s.writeRange r.addr ((List.range 512).map (Config.freeByte s.free)) 0).bump
  | none => s

/-- What a NOR update under way leaves in the NOR: contents that the spec leaves undefined. -/
def State.norCut (s : State) : State :=
  if s.mgmt.norUpdate then (s.setMgmt { s.mgmt with norUpdate := false, nor := none, norGen := s.free }).bump else s

/-- A MGMT reset: the services stop, the MGT block takes its reset values with the fuses as they are read, and the ROM
starts the stored firmware when its digest is the resident one. -/
def State.mgmtReset (s : State) : State :=
  let s := (s.sessionDropped.reportCut).norCut
  let s := (s.clearRegs 0x3000000 0x3000020).clearRegs 0x3000108 0x3100000
  let s := s.setMgmt { s.mgmt with fuseArm := none, report := none }
  if s.residentDigest secMgmtFw == some (sm3 s.mgmt.fwStore) then s.fwStart
  else ((s.setF F.MGT_STS_FW_STATE 2).mgtEvent evDigest).ledger (mgmtRecord 0x0771 0)

/-! ## The watchdog (R481) -/

/-- The watchdog expires, unless it is stopped or its period has not passed. -/
def State.wdogExpires (s : State) : State :=
  let ms := s.f F.MGT_CFG_WDOG_MS
  if !s.fwRuns || decide (s.count < s.mgmt.wdogAt + 1000000 * ms) then s
  else
    let s := ((s.setF F.AO_CAUSE_WATCHDOG 1).ledger (mgmtRecord 0x0770 ms)).ibi 4
    s.mgmtReset.mgtEvent evWdog

/-- A kick of the management core. -/
def State.wdogKick (s : State) (v : Nat) : State := if v = 0xA5C3 then s.setMgmt { s.mgmt with wdogAt := s.count } else s

/-! ## Fuses (R480) -/

/-- Fuse operations (Table 21-8). -/
def opRevoke : Nat := 1
def opRaiseMin : Nat := 2

/-- Whether a fuse command is refused. -/
def State.fuseRefused (s : State) (op v : Nat) : Bool :=
  let prog := s.f F.MGT_KEY_STS_PROGRAMMED
  let rev := s.f F.MGT_KEY_STS_REVOKED
  let usable (i : Nat) : Bool := prog.testBit i && !rev.testBit i
  if op = opRevoke then decide (4 ≤ v) || (usable v && (List.range 4).all (fun i => i == v || !usable i))
  else if op = opRaiseMin then
    decide (s.f F.SIT_IMAGE_ID_SEC_VERSION < v) || decide (v ≤ s.f F.MGT_KEY_STS_MIN_SEC) || decide (64 < v)
  else true

/-- The fuse is blown: the array and what the registers show of it. -/
def State.fuseBlow (s : State) (op v : Nat) : State :=
  let x := s.mgmt.fuses.getD ⟨[], 0, 0, 0, [], 0⟩
  if op = opRevoke then
    let s := s.setBit F.MGT_KEY_STS_REVOKED v true
    s.setMgmt { s.mgmt with fuses := some { x with revoked := s.f F.MGT_KEY_STS_REVOKED } }
  else (s.setF F.MGT_KEY_STS_MIN_SEC v).setMgmt { s.mgmt with fuses := some { x with minSec := v } }

/-- The command no longer waits, with a RESULT. -/
def State.fuseEnds (s : State) (result : Nat) : State :=
  (s.setF F.MGT_FUSE_CMD_RESULT result).setMgmt { s.mgmt with fuseArm := none }

/-- A write of the host driver to MGT_FUSE_CMD with GO = 1: it arms a command, or confirms the one that is armed. -/
def State.fuseCommand (s : State) (op v : Nat) (confirm : Bool) : State :=
  let s := ((s.setF F.MGT_FUSE_CMD_OP op).setF F.MGT_FUSE_CMD_VALUE v).setF F.MGT_FUSE_CMD_CONFIRM confirm.toNat
  if confirm then
    match s.mgmt.fuseArm with
    | some a =>
      if a.op = op ∧ a.value = v ∧ s.count ≤ a.at_ + 1000000000 then
        if s.fuseRefused op v then s.fuseEnds 2
        else (((s.fuseBlow op v).fuseEnds 0).mgtEvent evFuse).ledger (mgmtRecord 0x0773 (2 * op + 256 * v))
      else s.fuseEnds 3
    | none => s.fuseEnds 3
  else if s.fuseRefused op v then s.fuseEnds 2
  else (s.setF F.MGT_FUSE_CMD_RESULT 1).setMgmt { s.mgmt with fuseArm := some ⟨op, v, s.count⟩ }

/-- No confirmation came within 1 s. -/
def State.fuseTimeout (s : State) : State :=
  match s.mgmt.fuseArm with
  | some a => if a.at_ + 1000000000 < s.count then s.fuseEnds 3 else s
  | none => s

/-! ## Updates of the boot NOR (R483) -/

/-- MGT_NOR_CMD.GO. A write of 1 while GO reads 1 starts nothing. -/
def State.norStart (s : State) : State :=
  if s.mgmt.norUpdate then s
  else if s.sessionOpen then s.setF F.MGT_NOR_CMD_RESULT 2
  else (s.setF F.MGT_NOR_CMD_GO 1).setMgmt { s.mgmt with norUpdate := true }

/-- The checks on one section up to IMG_DIGEST. -/
def checkDigest (img : Bytes) (bad : List Nat) (srcAddr : Nat) (e : SectEntry) : Checked Unit := do
  let sec := slice img e.offset e.length
  need (!unreadable bad e.offset e.length && sec.length == e.length) cImgSource srcAddr
  need (sm3 sec == e.digest) cImgDigest e.type

/-- The checks of R47 up to IMG_DIGEST on an image whose every section must be present. -/
def State.checkForNor (s : State) (img : Bytes) (bad : List Nat) (srcAddr : Nat) : Checked Unit := do
  need (!unreadable bad 0 4096 && decide (4096 ≤ img.length)) cImgSource srcAddr
  let es ← s.checkPrefix img img.length
  need (fieldLe img 0xC 4 % 2 == 0 && es.all SectEntry.here) cImgLayout 0xFF
  (sectOrder.filterMap (fun t => es.find? (fun (e : SectEntry) => e.type == t))).forM (checkDigest img bad srcAddr)

/-- An update ends with a RESULT. -/
def State.norEnds (s : State) (result : Nat) : State :=
  (((s.setF F.MGT_NOR_CMD_GO 0).setF F.MGT_NOR_CMD_RESULT result).setMgmt { s.mgmt with norUpdate := false }).mgtEvent evNor

/-- Who reads the image of an update. -/
def norReader : Consumer := ⟨13, 0, 11, 0⟩

/-- An update reads its image and ends, or waits for a grain of it. The image is programmed when it passes the checks; a
byte that reads back wrong, if any, is named by its offset. -/
def State.norDone (s : State) (env : VaultEnv) (wrong : Option Nat) : State :=
  if !s.mgmt.norUpdate || !s.fwRuns then s
  else
    let a : PA := BitVec.ofNat 56 (s.f F.MGT_NOR_SRC_ADDR)
    let len := s.f F.MGT_NOR_LEN_LEN
    let refuse (s : State) (code : Nat) : State := (s.setF F.MGT_NOR_CMD_LAST_ERR code).norEnds 1
    if a.toNat % 4096 ≠ 0 ∨ !s.plainRange a (max 1 len) then refuse s cImgSource
    else if 2 ^ 26 < len then refuse s cImgLayout
    else
      let r := s.readAny a len norReader env none
      if !r.2.ready then r.1.readWaits r.2 0 11
      else
        let s := r.1
        match s.checkForNor r.2.data r.2.poison a.toNat with
        | .error x => refuse s x.code
        | .ok _ =>
          match wrong with
          | none => (s.setMgmt { s.mgmt with nor := some r.2.data }).norEnds 0
          | some off =>
            (s.norCut.ledger { mgmtRecord 0x0772 off with op := 11 }).norEnds 3

/-! ## Attestation (R486) -/

/-- The 32 bytes of a digest, or zeros. -/
def digestOr (d : Option Bytes) : Bytes := d.getD (List.replicate 32 0)

/-- SM3 over the identifiers, versions and body digests of the valid shelf sets, by ascending entry. -/
def State.shelfDigest (s : State) : Bytes :=
  sm3 ((List.range 16).flatMap (fun k =>
    match s.silent.bodies.find? (fun (b : ShelfBody) => b.set == k) with
    | some b =>
      if s.f (F.TST_SET_SET_ID k) = 0 then []
      else leBytes 4 (s.f (F.TST_SET_SET_ID k)) ++ leBytes 4 (s.f (F.TST_SET_SET_VERSION k)) ++ b.digest
    | none => []))

/-- The signed bytes of a report: 0x000 to 0x1BF of Table 21-3. -/
def State.reportBytes (s : State) : Bytes :=
  let p := s.epoch.imagePrefix
  let locked := (List.range 4096).any (fun i => s.f (F.DET_TAG_CTL_LOCK i) == 1)
  [0x44, 0x5A, 0x41, 0x54] ++ leBytes 2 1 ++ leBytes 2 512 ++ leBytes 4 (s.reg R.IDREV).toNat ++
    leBytes 4 (s.f F.SIT_IMAGE_ID_SEC_VERSION) ++ leBytes 8 (s.reg R.MGT_ID_SERIAL).toNat ++ leBytes 8 (fieldLe p 0x20 8) ++
    leBytes 8 s.count ++ leBytes 4 (s.f F.GLB_EPOCH_CURRENT) ++ leBytes 4 (s.f F.MGT_KEY_STS_MIN_SEC) ++
    (List.range 4).flatMap (fun i => leBytes 8 (s.reg (R.MGT_ATT_NONCE i)).toNat) ++
    [secStructure, secPrograms, secTables, secMgmtFw].flatMap (fun t => digestOr (s.residentDigest t)) ++
    s.shelfDigest ++ sm3 (slice p 0x300 64) ++ leBytes 8 (s.reg R.MGT_FW_VERSION).toNat ++
    leBytes 1 (s.f F.AO_BOOT_TRIM_SAFE + (if s.f F.SIT_STATUS_STAGED = 0 then 0 else 2) + (if locked then 4 else 0)) ++
    List.replicate 167 0

/-- MGT_ATT_CMD.GO: the snapshot. -/
def State.attest (s : State) : State :=
  let a : PA := BitVec.ofNat 56 (s.f F.MGT_ATT_ADDR_ADDR)
  if s.mgmt.report.isSome then s
  else if a.toNat % 64 ≠ 0 ∨ !s.plainRange a 512 then s.setF F.MGT_ATT_CMD_RESULT 1
  else (s.setF F.MGT_ATT_CMD_GO 1).setMgmt { s.mgmt with report := some ⟨a, s.reportBytes⟩ }

/-- The report is signed and written. -/
def State.attestDone (s : State) : State :=
  match s.mgmt.report with
  | some r =>
    if !s.fwRuns then s
    else
      let sig := (Config.attestSignature s.free (sm3 r.bytes)).take 64
      let s := (s.writeRange r.addr (r.bytes ++ sig ++ List.replicate (64 - sig.length) 0) 0).bump
      let s := ((s.setF F.MGT_ATT_CMD_GO 0).setF F.MGT_ATT_CMD_RESULT 0).setMgmt { s.mgmt with report := none }
      s.mgtEvent evAttest
  | none => s

/-! ## The I3C target (R487, R488) -/

/-- The register that an index of Table 21-4 shows. -/
def i3cRegister (i : Nat) : Option Nat :=
  if i % 8 ≠ 0 then none
  else if i = 0x00 then some R.IDREV
  else if i = 0x08 then some R.AO_BOOT
  else if i = 0x10 then some R.AO_CAUSE
  else if i = 0x18 then some R.AO_THERM
  else if i = 0x20 then some R.AO_PWR
  else if i = 0x28 then some R.AO_CLK
  else if i = 0x30 then some R.MGT_STS
  else if i = 0x38 then some R.MGT_FW_VERSION
  else if i = 0x40 ∨ i = 0x48 then some (R.LDG_TAIL ((i - 0x40) / 8))
  else if 0x108 ≤ i ∧ i ≤ 0x1C0 then some (R.AO_BOOT_STEP ((i - 0x100) / 8))
  else if 0x200 ≤ i ∧ i < 0x240 then some (R.CAN_STS ((i - 0x200) / 8))
  else none

/-- The recovery index. -/
def i3cRecoveryIndex : Nat := 0x0800

/-- The target does not acknowledge. -/
def State.i3cNack (s : State) : State := s.emit (.i3c [])

/-- A recovery write reaches the reset controller; one that is not valid does nothing. -/
def State.recover (s : State) (d : Bytes) : State :=
  if fieldLe d 0 1 ≠ 0x5A then s
  else match fieldLe d 1 1 with
  | 1 => s.deviceReset .software true
  | 2 => s.deviceReset .software false
  | 3 => if d.length < 3 ∨ fieldLe d 2 1 = 0 ∨ 3 < fieldLe d 2 1 then s else s.setF F.AO_BOOT_SRC (fieldLe d 2 1)
  | _ => s

/-- The controller takes up the bus: an in-band interrupt that was pending has been served. -/
def State.i3cServed (s : State) : State := s.setMgmt { s.mgmt with ibiPending := false }

/-- A private write of an index, with data or without. -/
def State.i3cWrite (s : State) (i : Nat) (d : Bytes) : State :=
  if !s.i3cDriven then s
  else
    let s := s.i3cServed
    if i = i3cRecoveryIndex then
      let s := s.setMgmt { s.mgmt with i3cIndex := i }
      if d.isEmpty then s else s.recover d
    else if (i3cRegister i).isNone ∨ !s.fwRuns then s.i3cNack
    else s.setMgmt { s.mgmt with i3cIndex := i }

/-- A private read of the selected entry. -/
def State.i3cRead (s : State) : State :=
  if !s.i3cDriven then s
  else
    let s := s.i3cServed
    match (i3cRegister s.mgmt.i3cIndex).bind s.readReg with
    | some v => if s.fwRuns then s.emit (.i3c (leBytes 8 v.toNat)) else s.i3cNack
    | none => s.i3cNack

/-- The PID, most significant byte first. -/
def State.i3cPid (s : State) : Bytes := beBytes 6 (0x2D6A91600000 + (s.reg R.MGT_ID_SERIAL).toNat % 65536)

/-- BCR and DCR. -/
def i3cBcr : Byte := 0x06
def i3cDcr : Byte := 0x00

/-- A common command code. The spec gives GETSTATUS and GETMXDS no contents. -/
def State.i3cCcc (s : State) (x : I3cCode) : State :=
  if !s.i3cDriven then s
  else
    let s := s.i3cServed
    let free (n : Nat) : State := (s.emit (.i3c ((List.range n).map (Config.freeByte s.free)))).bump
    match x with
    | .enec b => if b then s.setMgmt { s.mgmt with ibiEnabled := true } else s
    | .disec b => if b then s.setMgmt { s.mgmt with ibiEnabled := false } else s
    | .rstdaa => s.setMgmt { s.mgmt with i3cAddr := 0 }
    | .entdaa a =>
      if s.mgmt.i3cAddr = 0 then
        (s.emit (.i3c (s.i3cPid ++ [i3cBcr, i3cDcr]))).setMgmt { s.mgmt with i3cAddr := a }
      else s
    | .setdasa st a => if st.val = 0x4C ∧ s.mgmt.i3cAddr = 0 then s.setMgmt { s.mgmt with i3cAddr := a } else s.i3cNack
    | .getpid => s.emit (.i3c s.i3cPid)
    | .getbcr => s.emit (.i3c [i3cBcr])
    | .getdcr => s.emit (.i3c [i3cDcr])
    | .getstatus => free 2
    | .getmxds => free 2
    | .rstact _ => s

/-! ## The commands -/

/-- The answer of a control-space access that carries no data. -/
def State.ctrlAnswer (r : State × Nat) (src : Node) (addr : Nat) : State := r.1.emit (.ctrl src addr r.2 [])

/-- WATCHDOG_EXPIRE (R481). -/
def execWatchdogExpire (s : State) : Host.Outcome State Fault Refusal := .next s.wdogExpires
/-- WDOG_KICK: a write of the management core to MGT_WDOG.KICK (R481). -/
def execWdogKick (v : W16) (s : State) : Host.Outcome State Fault Refusal := .next (s.wdogKick v.toNat)
/-- FUSE_REVOKE: a write of the host driver to MGT_FUSE_CMD with GO = 1 and OP 1 (R480). -/
def execFuseRevoke (slot : Byte) (confirm : Bool) (s : State) : Host.Outcome State Fault Refusal :=
  .next (s.fuseCommand opRevoke slot.toNat confirm)
/-- FUSE_RAISE_MIN: a write of the host driver to MGT_FUSE_CMD with GO = 1 and OP 2 (R480). -/
def execFuseRaiseMin (v : Byte) (confirm : Bool) (s : State) : Host.Outcome State Fault Refusal :=
  .next (s.fuseCommand opRaiseMin v.toNat confirm)
/-- FUSE_CONFIRM_TIMEOUT (R480). -/
def execFuseConfirmTimeout (s : State) : Host.Outcome State Fault Refusal := .next s.fuseTimeout
/-- NOR_UPDATE: a write of the host driver to MGT_NOR_CMD with GO = 1 (R483). -/
def execNorUpdate (s : State) : Host.Outcome State Fault Refusal := .next s.norStart
/-- NOR_UPDATE_DONE, with what the flash of the vault did and the offset of a byte that did not read back (R483). -/
def execNorUpdateDone (env : VaultEnv) (wrong : Option Nat) (s : State) : Host.Outcome State Fault Refusal :=
  .next (s.norDone env wrong)
/-- SESSION_OPEN by a source (R485). -/
def execSessionOpen (src : Node) (s : State) : Host.Outcome State Fault Refusal :=
  .next (State.ctrlAnswer (s.openSession src) src R.MGT_IMG_SESSION)
/-- SESSION_CLOSE by a source (R485). -/
def execSessionClose (src : Node) (s : State) : Host.Outcome State Fault Refusal :=
  .next (State.ctrlAnswer (s.closeSession src) src R.MGT_IMG_SESSION)
/-- IMG_SERVE_END: 1 s with no access (R485). -/
def execImgServeEnd (s : State) : Host.Outcome State Fault Refusal := .next s.sessionTimeout
/-- IMG_PAGE by a source (R484). -/
def execImgPage (src : Node) (page : Fin 128) (s : State) : Host.Outcome State Fault Refusal :=
  .next (State.ctrlAnswer (s.imgPage src page) src R.MGT_IMG_PAGE)
/-- IMG_WIN_READ of some bytes by a source (R485). -/
def execImgWinRead (src : Node) (off : Fin 524288) (len : Fin 65) (s : State) : Host.Outcome State Fault Refusal :=
  let r := s.imgWindow src off len
  .next (r.1.emit (.ctrl src (0x3080000 + off) r.2.1 r.2.2))
/-- ATTEST: a write to MGT_ATT_CMD with GO = 1 (R486). -/
def execAttest (s : State) : Host.Outcome State Fault Refusal := .next s.attest
/-- ATTEST_DONE (R486). -/
def execAttestDone (s : State) : Host.Outcome State Fault Refusal := .next s.attestDone
/-- I3C_INDEX_WRITE, with data or without (R488). -/
def execI3cIndexWrite (index : W16) (data : Bytes) (s : State) : Host.Outcome State Fault Refusal :=
  .next (s.i3cWrite index.toNat data)
/-- I3C_READ (R488). -/
def execI3cRead (s : State) : Host.Outcome State Fault Refusal := .next s.i3cRead
/-- I3C_RECOVERY: the three bytes of a recovery write (R488). -/
def execI3cRecovery (b0 b1 b2 : Byte) (s : State) : Host.Outcome State Fault Refusal :=
  .next (s.i3cWrite i3cRecoveryIndex [b0, b1, b2])
/-- I3C_CCC (R487). -/
def execI3cCcc (code : I3cCode) (s : State) : Host.Outcome State Fault Refusal := .next (s.i3cCcc code)

end Sys2Proof.Machine
end

