-- ==== Sys2Proof/Machine/Epoch.lean ====
section
/-! DEFINITION. Loads in service and the epoch protocol (R47 to R59): what a load applies and stages, the launch of a change, its
acknowledgements, its commit or its roll-back. -/

namespace Sys2Proof.Machine

/-- Changes the loader's part of the state. -/
def State.setEpoch (s : State) (e : Epoch) : State := { s with epoch := e }

/-- Sets SIT_STATUS.STATE. -/
def State.sitState (s : State) (st : Nat) : State := s.setF F.SIT_STATUS_STATE st

/-- Whether a change is armed, collecting or committing. -/
def State.changing (s : State) : Bool := decide (sitArmed ≤ s.f F.SIT_STATUS_STATE)

/-! ## The units concerned (R52, Table 2-3, Table 2-5) -/

def unitsCores : Nat := 2 ^ 16 - 1
def unitsClusters : Nat := 2 ^ 16 * (2 ^ 8 - 1)
def unitsJx : Nat := 2 ^ 24 * (2 ^ 16 - 1)
def unitsMx : Nat := 3 * 2 ^ 40
def unitsDies : Nat := 3 * 2 ^ 42
def unitPool : Nat := 2 ^ 44
def unitPair : Nat := 2 ^ 45
def unitDet : Nat := 2 ^ 46

/-- The units that the changed records of a structure concern. -/
def structureUnits (old new : Structure) : Nat :=
  let on (c : Bool) (m : Nat) : Nat := if c then m else 0
  on (old.split != new.split) (unitsClusters ||| unitsDies) |||
    on (old.regions != new.regions) (unitsClusters ||| unitsDies ||| unitPool) |||
    on (old.ports != new.ports) (unitsJx ||| unitsMx ||| unitsDies) |||
    on (old.mirror != new.mirror) (unitsClusters ||| unitsMx ||| unitPair) |||
    on (old.classes != new.classes) (unitsClusters ||| unitsJx ||| unitsMx) |||
    on (old.determinism != new.determinism) (unitsCores ||| unitsClusters ||| unitDet) |||
    on (old.checking != new.checking) (unitsCores ||| unitDet) |||
    on (old.clockPower != new.clockPower) (unitsCores ||| unitsClusters) |||
    on (old.placement != new.placement) unitsClusters

/-- The cores that the objects of a PROGRAMS section name. -/
def programCores (l : List Program) : Nat := l.foldl (fun m (p : Program) => m ||| (p.coreMask &&& unitsCores)) 0

/-- The units concerned in the staged change. -/
def State.concerned (s : State) : Nat :=
  let a := match s.epoch.stagedStr with | some x => structureUnits s.epoch.active.str x.1 | none => 0
  let b := match s.epoch.stagedProg with
    | some x => if s.residentDigest secPrograms == some x.2 then 0 else programCores x.1 ||| programCores s.epoch.active.programs
    | none => 0
  a ||| b

/-- The set that a launch sends. -/
def State.stagedSet (s : State) : ConfigSet :=
  ⟨(match s.epoch.stagedStr with | some x => x.1 | none => s.epoch.active.str),
   (match s.epoch.stagedProg with | some x => x.1 | none => s.epoch.active.programs)⟩

/-! ## Loads (R47 to R51) -/

/-- Whether a start-up attempt waits at step 13 for an image in host memory (R466). -/
def State.awaitsHostImage (s : State) : Bool :=
  s.f F.AO_BOOT_STATE == btStarting && s.f F.AO_BOOT_STEP == 13 && s.f F.AO_BOOT_SRC == srcHost

/-- A write of 1 to SIT_LOAD.GO: a load starts, or is refused with LOAD_BUSY while another is in progress, a start-up's among
them (R51). A refused load changes nothing else: SIT_LOAD.SRC takes the written value only with a load that starts
(DEDUCED). A partner load asks for the image at once (R484). -/
def State.sitLoad (s : State) (src : Nat) : State :=
  let start (atStart : Bool) : State :=
    if s.epoch.load.isSome || s.changing then s.sitError 0x071B 0
    else
      let x : Load := ⟨src, (s.reg R.SIT_SRC_ADDR).toNat, s.f F.SIT_SRC_LEN_LEN, atStart⟩
      let s := (((s.setF F.SIT_LOAD_SRC src).setF F.SIT_LOAD_GO 1).sitState sitLoading).setEpoch { s.epoch with load := some x }
      if src = srcPartner then s.imageOpen s.partnerSeen else s
  if s.inService then start false
  else if s.awaitsHostImage && src == srcHost then start true
  else if s.f F.AO_BOOT_STATE == btStarting && decide (13 ≤ s.f F.AO_BOOT_STEP) && decide (s.f F.AO_BOOT_STEP ≤ 16) &&
      !(s.awaitsHostImage && s.epoch.load.isNone) then s.sitError 0x071B 0
  else s

/-- Bytes placed over others from an offset. -/
def overlay (img : Bytes) (off : Nat) (d : Bytes) : Bytes := img.take off ++ d ++ img.drop (off + d.length)

/-- The ranges of an image that a load reads after the prefix: its present sections, so far as they lie in the source. -/
def presentRanges (p : Bytes) (len : Nat) : List (Nat × Nat) :=
  (((List.range (min 8 (fieldLe p 6 2))).map (sectEntry p)).filter (fun (e : SectEntry) =>
    e.here && decide (0 < e.length) && decide (e.offset + e.length ≤ len))).map (fun (e : SectEntry) => (e.offset, e.length))

/-- Who reads the source of a load. -/
def loadReader : Consumer := ⟨0, 0, 11, 0⟩

/-- The source of a load: its bytes with its unreadable grains, or the grain that a repair must bring first. -/
inductive Source where
  | bytes (img : Bytes) (bad : List Nat)
  | wait (r : AnyRead)

/-- Reads a range of an image's source; what does not lie in PLAIN memory of the pool does not read (R48). -/
def State.readSource (s : State) (a : PA) (n : Nat) (env : VaultEnv) : State × AnyRead :=
  if s.plainRange a n then s.readAny a n loadReader env none
  else (s, { AnyRead.empty with data := List.replicate n 0, poison := List.range (ceilDiv n 128) })

/-- Reads an image of a length from pool memory: the prefix, and each byte of a present section once (R48). -/
def State.poolSource (s : State) (a : PA) (len : Nat) (env : VaultEnv) : State × Source :=
  let pre := s.readSource a 4096 env
  if !pre.2.ready then (pre.1, .wait pre.2)
  else
    let start : State × Source := (pre.1, .bytes (pre.2.data ++ List.replicate (len - 4096) 0) pre.2.poison)
    (presentRanges pre.2.data len).foldl (fun st r =>
      match st.2 with
      | .wait _ => st
      | .bytes img bad =>
        let x := st.1.readSource (BitVec.ofNat 56 (a.toNat + r.1)) r.2 env
        if !x.2.ready then (x.1, .wait x.2)
        else (x.1, .bytes (overlay img r.1 x.2.data) (bad ++ x.2.poison.map (fun g => g + r.1 / 128)))) start

/-- An image that has passed every check takes effect and is staged (R50). -/
def State.loadApplies (s : State) (x : Loaded) : State :=
  let s := s.applyPrefix x.pre
  let s := match x.fw with
    | some p =>
      let s := (s.setMgmt { s.mgmt with fwStore := p.1 }).setDigest secMgmtFw p.2
      s.mgmtReset
    | none => s
  let s := match x.tabs with | some p => (s.installTables p.1).setDigest secTables p.2 | none => s
  let s := if x.str.isSome || x.progs.isSome then
      let s := s.setEpoch { s.epoch with stagedStr := x.str, stagedProg := x.progs }
      let s := s.setF F.SIT_STATUS_STAGED (x.str.isSome.toNat + 2 * x.progs.isSome.toNat)
      s.setF F.SIT_EPOCH_UNITS_MASK s.concerned
    else s
  s.loadOver.setF F.SIT_STATUS_LAST_OUTCOME 1

/-- The bytes of a load are checked. -/
def State.loadChecked (s : State) (img : Bytes) (bad : List Nat) (srcLen addr : Nat) : State :=
  match s.checkImage img bad srcLen addr false with
  | .ok x => s.loadApplies x
  | .error e => s.loadFails e.code e.addr

/-- The image of a load has been read: from the pool, the NOR or the partner by the device, or from host memory as the
surroundings give it, with its unreadable grains. The start-up load ends with its steps. -/
def State.loadEnds (s : State) (img : Bytes) (bad : List Nat) (env : VaultEnv) : State :=
  match s.epoch.load with
  | none => s
  | some l =>
    if l.atStart then s
    else if l.src = srcPool then
      let a : PA := BitVec.ofNat 56 l.addr
      let len := max 4096 (min l.len (2 ^ 26))
      if 2 ^ 56 ≤ l.addr ∨ l.addr % 4096 ≠ 0 ∨ !s.plainRange a 1 then s.loadFails cImgSource l.addr
      else
        match s.poolSource a len env with
        | (s, .wait r) => s.readWaits r 0 11
        | (s, .bytes img bad) => s.loadChecked img bad l.len l.addr
    else if l.src = srcHost then s.loadChecked img bad l.len l.addr
    else if l.src = srcNor then
      let b := s.norImage l.addr
      let len := fieldLe b 0x10 8
      (s.setF F.SIT_SRC_LEN_LEN len).loadChecked b bad len l.addr
    else
      match s.epoch.read with
      | none => s
      | some r =>
        if r.stage ≠ 4 then s
        else
          let len := fieldLe r.data 0x10 8
          ((s.setRead none).setF F.SIT_SRC_LEN_LEN len).loadChecked r.data [] len l.addr

/-! ## Launch (R53, R55) -/

/-- A launch is refused with a code. -/
def State.launchRefused (s : State) (code addr : Nat) : State := (s.setF F.SIT_STATUS_LAST_OUTCOME 5).sitError code addr

/-- A write of 1 to SIT_EPOCH_CTRL.GO. -/
def State.epochGo (s : State) : State :=
  let at_ := (s.reg R.SIT_EPOCH_LAUNCH).toNat
  if s.f F.SIT_STATUS_STATE = sitLoading ∨ s.changing then s.launchRefused 0x071E 0
  else if s.f F.SIT_STATUS_STAGED = 0 then s.launchRefused 0x071D 0
  else if at_ < s.count + 5000 then s.launchRefused 0x071C at_
  else
    let s := (s.setF F.SIT_EPOCH_UNITS_MASK s.concerned).setF F.SIT_EPOCH_ACKED_MASK 0
    let s := ((s.setF F.SIT_EPOCH_CTRL_GO 1).setF F.GLB_EPOCH_PENDING 1).sitState sitArmed
    s.setEpoch { s.epoch with timeout := 1000 * s.f F.SIT_EPOCH_CTRL_TIMEOUT_US, launch := at_, heldNodes := [] }

/-- The EPOCH notices to the nodes that a change held (R57): outcome 1 committed, 2 rolled back. -/
def State.epochNotices (s : State) (outcome : Nat) : State :=
  let l := s.epoch.heldNodes
  (s.setEpoch { s.epoch with heldNodes := [] }).forEach l (fun s n =>
    s.sendNotice n 0 ntEpoch (leBytes 1 outcome ++ List.replicate 3 0 ++ leBytes 4 (s.f F.GLB_EPOCH_CURRENT)))

/-- A change ends in a state with a LAST_OUTCOME: nothing is pending any more. -/
def State.changeEnds (s : State) (st outcome : Nat) : State :=
  let s := ((s.setF F.GLB_EPOCH_PENDING 0).setF F.SIT_EPOCH_CTRL_GO 0).sitState st
  (s.setF F.SIT_STATUS_LAST_OUTCOME outcome).setEpoch { s.epoch with pending := none }

/-- The change rolls back (R53, R54). -/
def State.epochRollback (s : State) : State :=
  ((s.changeEnds sitStaged 4).sitError 0x071F (s.f F.SIT_EPOCH_ACKED_MASK)).epochNotices 2

/-- A write of 1 to SIT_EPOCH_CTRL.ABANDON (R55). -/
def State.epochAbandon (s : State) : State :=
  if s.f F.SIT_STATUS_STATE = sitArmed ∨ s.f F.SIT_STATUS_STATE = sitCollecting then s.epochRollback else s

/-! ## Install (R75, R335) -/

/-- The lowest stack whose CACHE_STEPS a set changes although it is not drained: its refusal, which rolls the change back at
once, is the one recorded (DESIGN CHOICE: the spec does not order the refusals of several stacks). -/
def State.notDrained (s : State) (x : Structure) : Option Nat :=
  (List.range 8).find? (fun c => !s.clusterFenced c && s.f (F.CAN_SPLIT_CACHE_STEPS c) != x.split.getD c 8 && !s.drained c)

/-- CAP of a port as it stands, in the normal range at thermal level 0. -/
def State.installCap (s : State) (p : Nat) : Nat :=
  if p < 8 then dramRate 2250000 2160000 0 0 (s.f (F.CAN_DSTS_SPEED p))
  else if p < 16 then
    ((List.range 12).map (fun i =>
      let n := 12 * (p - 8) + i
      if s.channelEnabled n && !s.channelFenced n then dramRate 18750 17800 0 0 (s.f (F.UND_STS_SPEED n)) else 0)).sum
  else s.cap p

/-- Whether a port's unit is fenced: it checks nothing. -/
def State.tellerFenced (s : State) (p : Nat) : Bool :=
  if p < 8 then s.clusterFenced p else if p < 16 then s.clusterFenced (p - 8) else s.portFenced (p - 16)

/-- The lowest port that a new class table oversubscribes. -/
def State.oversubscribed (s : State) (x : Structure) : Option Nat :=
  if x.classes = s.epoch.active.str.classes then none
  else (List.range 34).find? (fun p => !s.tellerFenced p && oversub (x.sumAt p) (s.installCap p))

/-- The launch count: the units install the set. A check that fails refuses it. -/
def State.epochLaunch (s : State) : State :=
  if s.f F.SIT_STATUS_STATE ≠ sitArmed ∨ s.count < s.epoch.launch then s
  else
    let units := s.unfencedUnits (s.f F.SIT_EPOCH_UNITS_MASK)
    let s := (s.setF F.SIT_EPOCH_UNITS_MASK units).sitState sitCollecting
    let x := s.stagedSet
    let s := s.setEpoch { s.epoch with pending := some x }
    match s.notDrained x.str, s.oversubscribed x.str with
    | some c, _ =>
      (s.ledger { code := 0x0780, die := dieOfCluster c, cluster := c, unitKind := 2, unit := c, op := 11, addr := c }).epochRollback
    | none, some p =>
      (s.ledger { code := 0x0902, unitKind := 10, unit := p, op := 11, addr := p + 2 ^ 16 * (x.str.sumAt p % 2 ^ 32) }).epochRollback
    | none, none =>
      if units = 0 then (s.sitState sitCommitting).setEpoch { s.epoch with commit := s.epoch.launch } else s

/-! ## Collecting and committing (R53, R54) -/

/-- The count at which the change rolls back. -/
def State.epochDeadline (s : State) : Nat := s.epoch.launch + s.epoch.timeout

/-- A concerned unit acknowledges. -/
def State.epochAck (s : State) (u : Nat) : State :=
  if s.f F.SIT_STATUS_STATE = sitCollecting ∧ s.bit F.SIT_EPOCH_UNITS_MASK u ∧ s.count ≤ s.epochDeadline then
    (s.setBit F.SIT_EPOCH_ACKED_MASK u true).epochGathered
  else s

/-- A concerned unit refuses. -/
def State.epochRefusal (s : State) (u : Nat) : State :=
  if s.f F.SIT_STATUS_STATE = sitCollecting ∧ s.bit F.SIT_EPOCH_UNITS_MASK u then s.epochRollback else s

/-- The acknowledgements are incomplete at the launch count plus the timeout. -/
def State.epochTimeout (s : State) : State :=
  if s.f F.SIT_STATUS_STATE = sitCollecting ∧ s.epochDeadline ≤ s.count then s.epochRollback else s

/-- The pool fields of the resource table: UND_PAGES, CAN_DIRECT_PAGES, CAN_CACHE_BYTES, VAULT_PAGES and DPA_BYTES (R437,
R442). -/
def State.poolFields (s : State) : List Nat :=
  let sum (x : Nat → Fld) : Nat := ((List.range 8).map (fun c => s.f (x c))).sum
  let und := (List.range 8).map (fun c => s.f (F.UND_PAGES_PAGES c))
  [sum F.UND_PAGES_PAGES, sum F.CAN_SPLIT_DIRECT_PAGES, 16384 * sum F.CAN_SPLIT_SETS, sum F.VLT_PAGES_PAGES,
   2 ^ 24 * und.foldl min (und.headD 0)]

/-- A structure comes into force at a commit: what the registers show, the canopy memory that changes role, the kept split, the ports, the pair, the sums and the
resource table. -/
def State.structureCommits (s : State) (old new : Structure) : State :=
  let before := s.poolFields
  let s := s.forEach ((List.range 8).filter (fun c => !s.clusterFenced c)) State.flushDirect
  let s := (s.applyStructure old new).applyQuarantine new
  let s := s.forEach ((List.range 8).filter (fun c => !s.clusterFenced c)) (fun s c => (s.changeRole c (s.keptSteps c) (s.cacheSteps c)).keepSplit c)
  let s := s.forEach ((List.range 18).filter (fun p => !s.portFenced p)) (fun s p =>
    s.portCommit p (old.ports.getD p ⟨true, true, 0⟩) (new.ports.getD p ⟨true, true, 0⟩))
  let s := (s.pairApply (old.mirror != new.mirror)).applySums
  if s.poolFields = before then s else { s with pep := { s.pep with generation := (s.pep.generation + 1) % 65536 } }

/-- The commit count: every concerned unit makes its pending set active, and CURRENT increments. -/
def State.epochCommit (s : State) : State :=
  match s.epoch.pending with
  | none => s
  | some x =>
    if s.f F.SIT_STATUS_STATE ≠ sitCommitting ∨ s.count < s.epoch.commit then s
    else
      let old := s.epoch.active
      let str := s.epoch.stagedStr
      let prog := s.epoch.stagedProg
      let cur := s.f F.GLB_EPOCH_CURRENT
      let s := s.setEpoch { s.epoch with old := s.epoch.old ++ [(cur, old)], active := x, stagedStr := none, stagedProg := none }
      let s := match str with | some p => (s.setDigest secStructure p.2).structureCommits old.str p.1 | none => s
      let s := match prog with | some p => s.setDigest secPrograms p.2 | none => s
      let s := (s.setF F.GLB_EPOCH_CURRENT (cur + 1)).setF F.SIT_STATUS_STAGED 0
      (s.changeEnds sitIdle 3).epochNotices 1

/-! ## Old sets (R56) -/

/-- Whether anything accepted or started under an epoch remains. -/
def State.epochUsed (s : State) (e : Nat) : Bool :=
  s.opens.any (fun (o : OpenReq) => o.epoch == e) || s.pool.ops.any (fun (o : PoolOp) => o.epoch == e) ||
    s.plans.any (fun (p : Plan) => p.epoch == e) || (List.range 16).any (fun n => match (s.core n).running with | some r => r.epoch == e | none => false)

/-- The sets of epochs under which nothing remains are dropped. -/
def State.releaseOld (s : State) : State :=
  s.setEpoch { s.epoch with old := s.epoch.old.filter (fun x => s.epochUsed x.1) }

/-! ## The commands -/

/-- SIT_LOAD: a write of SIT_LOAD with GO = 1 (R51). -/
def execSitLoad (src : Fin 4) (s : State) : Host.Outcome State Fault Refusal := .next (s.sitLoad src)
/-- IMAGE_LOAD_END, with the bytes of a host source and the unreadable grains of a host or NOR source (R47, R48). -/
def execImageLoadEnd (img : Bytes) (bad : List Nat) (env : VaultEnv) (s : State) : Host.Outcome State Fault Refusal :=
  .next (s.loadEnds img bad env)
/-- EPOCH_GO (R55). -/
def execEpochGo (s : State) : Host.Outcome State Fault Refusal := .next s.epochGo
/-- EPOCH_ABANDON (R55). -/
def execEpochAbandon (s : State) : Host.Outcome State Fault Refusal := .next s.epochAbandon
/-- EPOCH_LAUNCH (R53). -/
def execEpochLaunch (s : State) : Host.Outcome State Fault Refusal := .next s.epochLaunch
/-- EPOCH_ACK of a unit of Table 2-5 (R53). -/
def execEpochAck (unit : Fin 47) (s : State) : Host.Outcome State Fault Refusal := .next (s.epochAck unit)
/-- EPOCH_REFUSAL of a unit (R53). -/
def execEpochRefusal (unit : Fin 47) (s : State) : Host.Outcome State Fault Refusal := .next (s.epochRefusal unit)
/-- EPOCH_COMMIT (R53). -/
def execEpochCommit (s : State) : Host.Outcome State Fault Refusal := .next s.epochCommit
/-- EPOCH_TIMEOUT (R53). -/
def execEpochTimeout (s : State) : Host.Outcome State Fault Refusal := .next s.epochTimeout
/-- OLD_SET_RELEASE (R56). -/
def execOldSetRelease (s : State) : Host.Outcome State Fault Refusal := .next s.releaseOld

end Sys2Proof.Machine
end

