-- ==== Sys2Proof/Machine/PepCfg.lean ====
section
/-! DEFINITION. The host endpoint beside its memory traffic (chapter 19): configuration space, link states, Bus Master
Enable, interrupts, windows, the control of the DMA channels, HDM decoders, the mailbox and the resource table. -/

namespace Sys2Proof.Machine

/-! ## Configuration space (R436) -/

/-- The bytes of the Type 0 header at reset: the identifiers of R436, the capability list flag and the BAR types of Table
19-3. -/
def cfgReset (off : Nat) : Byte :=
  match off with
  | 0x00 => 0x7C | 0x01 => 0x1D | 0x02 => 0x60 | 0x03 => 0x91
  | 0x06 => 0x10 | 0x08 => 0xA0 | 0x09 => 0x10 | 0x0A => 0x02 | 0x0B => 0x05
  | 0x10 => 0x04 | 0x18 => 0x0C | 0x20 => 0x04
  | 0x2C => 0x7C | 0x2D => 0x1D | 0x2E => 0x60 | 0x2F => 0x91
  | 0x34 => Config.layoutByte 0x34
  | _ => 0

/-- The writable bits of a header byte: Command, the cache line size, the BARs' address bits above their sizes, the ROM
BAR with its enable, and the interrupt line. -/
def cfgMask (off : Nat) : Byte :=
  if off = 0x04 then 0x46 else if off = 0x05 then 0x05 else if off = 0x0C ∨ off = 0x3C then 0xFF
  else if off = 0x13 ∨ off = 0x1C then 0xF0
  else if (0x14 ≤ off ∧ off < 0x18) ∨ (0x1D ≤ off ∧ off < 0x20) ∨ (0x22 ≤ off ∧ off < 0x28) ∨ off = 0x32 ∨ off = 0x33 then 0xFF
  else if off = 0x30 then 0x01
  else 0

/-- A byte of the header. -/
def State.cfgByte (s : State) (off : Nat) : Byte := Sparse.get cfgReset s.pep.config off

/-- Sets a byte of the header. -/
def State.setCfgByte (s : State) (off : Nat) (b : Byte) : State :=
  { s with pep := { s.pep with config := Sparse.put cfgReset s.pep.config off b } }

/-- Bus Master Enable. -/
def State.bme (s : State) : Bool := (s.cfgByte 0x04).getLsbD 2

/-- Whether the endpoint may issue upstream requests (R446, R447). -/
def State.upstream (s : State) : Bool := s.bme && s.f F.PEP_STS_D_STATE == 0 && s.f F.PEP_STS_LSTATE != lsDown

/-! ## DMA channels: stopping and starting (R443, R447) -/

/-- The tag of a DMA descriptor's accesses. -/
def State.ddJobTag (s : State) (d : Bytes) : Tag :=
  BitVec.ofNat 12 (if ddTag d % 4096 = 0 then s.f F.PEP_CFG_JOB_TAG else ddTag d % 4096)

/-- The host address of a ring entry. -/
def State.dmaEntry (s : State) (c index : Nat) : Nat :=
  (s.reg (R.PEP_DMA_BASE c)).toNat + 32 * (index % 2 ^ s.f (F.PEP_DMA_CFG_LOG2_ENTRIES c))

/-- The pool accesses of a channel go on at the pool alone (R447). -/
def State.dmaForget (s : State) (c : Nat) : State :=
  { s with opens := s.opens.map (fun (o : OpenReq) =>
      match o.host with
      | some h => if h.dma = some c then { o with host := some { h with answered := true, dma := none } } else o
      | none => o) }

/-- The descriptor in progress on a channel ends with ABORTED, and the channel stops. Its status stays to be written. -/
def State.dmaAbort (s : State) (c : Nat) : State :=
  let x := s.dma c
  match x.desc with
  | none => s
  | some d =>
    let i := s.f (F.PEP_DMA_HEAD_INDEX c)
    let s := (s.dmaForget c).setDma c { aborted := x.aborted ++ [i] }
    let s := (s.setF (F.PEP_DMA_STS_ABORTED c) 1).setF (F.PEP_DMA_STS_LAST_STATUS c) dsAborted
    let s := if x.aborted.isEmpty then s.setF (F.PEP_DMA_STS_ABORT_INDEX c) i else s
    (s.setF (F.PEP_DMA_CFG_ENABLE c) 0).ledger (hostEvent 0x0B04 (s.ddJobTag d) (c + 2 ^ 16 * i))

/-- The status write of a ring entry: STATUS and DONE as one 4-byte write without Relaxed Ordering (R444). -/
def State.dmaStatus (s : State) (c index status : Nat) : State :=
  s.emit (.hostWrite (s.dmaEntry c index + 0x18) (leBytes 2 status ++ [1, 0]) [] false)

/-- The ABORTED statuses that the channel has kept are written into their entries, in ring order (R447). -/
def State.dmaFlush (s : State) (c : Nat) : State :=
  let x := s.dma c
  if s.upstream && !x.aborted.isEmpty then
    let s := s.forEach x.aborted (fun s i => s.dmaStatus c i dsAborted)
    let s := s.setF (F.PEP_DMA_HEAD_INDEX c) (x.aborted.getLastD 0 + 1)
    s.setDma c { x with aborted := [] }
  else s

/-- A channel's ENABLE is set. -/
def State.dmaEnable (s : State) (c : Nat) : State := (s.setF (F.PEP_DMA_CFG_ENABLE c) 1).dmaFlush c

/-- No further upstream request is issued (R447). -/
def State.upstreamStops (s : State) : State := (s.forEach (List.range 4) State.dmaAbort).hostLoadFails

/-- Bus Master Enable takes a value. -/
def State.setBme (s : State) (on : Bool) : State :=
  let was := s.bme
  let b := s.cfgByte 0x04
  let s := s.setCfgByte 0x04 (if on then b ||| 4 else b &&& 0xFB)
  let s := s.setF F.PEP_STS_BME on.toNat
  if was && !on then s.upstreamStops else s

/-! ## Configuration requests (R434, R436, R446) -/

/-- The function enters D3hot or returns to D0. -/
def State.setPower (s : State) (d3 : Bool) : State :=
  if d3 then
    if s.f F.PEP_STS_D_STATE = 3 then s else (s.setF F.PEP_STS_D_STATE 3).upstreamStops
  else s.setF F.PEP_STS_D_STATE 0

/-- A byte written to the header: its writable bits change. -/
def State.cfgWriteByte (s : State) (off : Nat) (b : Byte) : State :=
  let m := cfgMask off
  let v := (s.cfgByte off &&& ~~~m) ||| (b &&& m)
  if off = 0x04 then (s.setCfgByte 0x04 ((v &&& 0xFB) ||| (s.cfgByte 0x04 &&& 4))).setBme (v.getLsbD 2)
  else s.setCfgByte off v

/-- Four bytes of the configuration space. Beyond the header the layout is the standards' own. -/
def State.cfgRead (s : State) (off : Nat) : State :=
  let a := off / 4 * 4
  if a < 0x40 then s.emit (.configCpl ((List.range 4).map (fun i => s.cfgByte (a + i))))
  else s.bump.emit (.configCpl ((List.range 4).map (fun i => Config.freeByte s.free (a + i))))

/-- A configuration request. -/
def State.configAccess (s : State) (x : CfgAccess) : State :=
  match x with
  | .read off => s.cfgRead off
  | .write off bs =>
    (bs.take 4).zipIdx.foldl (fun s p => if off.val + p.2 < 0x40 then State.cfgWriteByte s (off.val + p.2) p.1 else s) s
  | .linkControl l1 l11 => { s with pep := { s.pep with aspmL1 := l1, l11 := l11 } }
  | .deviceControl r flr => if flr then s.endpointReset 1 else { s with pep := { s.pep with relaxed := r } }
  | .msixControl en mask => { s with pep := { s.pep with msixEn := en, msixMask := mask } }
  | .powerControl d3 => s.setPower d3

/-! ## Link states (R435, R446) -/

/-- Whether a channel has a descriptor in progress. -/
def State.dmaBusy (s : State) : Bool := (List.range 4).any (fun c => (s.dma c).desc.isSome)

/-- The link enters L1, after the idle time of PEP_PM. -/
def State.l1Entry (s : State) : State :=
  if s.pep.aspmL1 && s.f F.PEP_STS_LSTATE != 2 && s.f F.PEP_STS_LSTATE != lsDown && !s.dmaBusy && s.irq.isEmpty then
    s.setF F.PEP_STS_LSTATE 2
  else s

/-- The link leaves L1: to L0p when it had been narrowed, else to L0. -/
def State.l1Exit (s : State) : State :=
  if s.f F.PEP_STS_LSTATE = 2 then
    s.setF F.PEP_STS_LSTATE (if s.f F.PEP_STS_WIDTH < s.pep.lanes then 1 else 0)
  else s

/-- The link narrows to x4. -/
def State.l0pNarrow (s : State) : State :=
  if s.f F.PEP_PM_L0P_EN = 1 ∧ s.f F.PEP_STS_LSTATE = 0 ∧ 1 < s.f F.PEP_STS_WIDTH then
    (s.setF F.PEP_STS_LSTATE 1).setF F.PEP_STS_WIDTH 1
  else s

/-- The link widens again to the lanes that it trained with. -/
def State.l0pWiden (s : State) : State :=
  if s.f F.PEP_STS_LSTATE = 1 then (s.setF F.PEP_STS_LSTATE 0).setF F.PEP_STS_WIDTH s.pep.lanes else s

/-- The link has trained at a speed (1 for 8 GT/s to 4 for 64 GT/s) and a width in lanes / 4, and the link partner accepts
CXL or not. CXL runs at 64 GT/s on x16 and x8 alone. -/
def State.pepLinkUp (s : State) (speed width : Nat) (cxl : Bool) : State :=
  let v := if s.boot.pcie32 then min speed 3 else speed
  if !s.pastStep12 || s.pep.heldDown || s.boot.perst || v = 0 || !([1, 2, 4].contains width) then s
  else
    let s := (s.setF F.PEP_STS_LSTATE 0).setF F.PEP_STS_SPEED v
    let s := (s.setF F.PEP_STS_WIDTH width).setF F.PEP_STS_CXL (cxl && v == 4 && decide (2 ≤ width)).toNat
    { s with pep := { s.pep with lanes := width } }

/-! ## Interrupts (R445) -/

/-- A masked entry without an address, where unlisted. -/
def noMsix : Nat → MsixEntry := fun _ => {}

/-- An MSI-X table entry. -/
def State.msixAt (s : State) (v : Nat) : MsixEntry := Sparse.get noMsix s.pep.msix v

/-- The message of a pending vector is sent, unless it is masked or may not go upstream. -/
def State.msixSend (s : State) (v : Nat) : State :=
  let e := s.msixAt v
  if s.irq.contains v && s.pep.msixEn && !s.pep.msixMask && !e.masked && s.upstream then
    ({ s with irq := s.irq.filter (fun x => x != v) }).emit (.hostWrite e.addr.toNat (leBytes 4 e.data.toNat) [] false)
  else s

/-- Four bytes of BAR4: the MSI-X table or its pending-bit array. -/
def State.bar4Word (s : State) (off : Nat) : Nat :=
  if off < 0x1000 then
    let e := s.msixAt (off / 16)
    match off / 4 % 4 with
    | 0 => e.addr.toNat % 2 ^ 32
    | 1 => e.addr.toNat / 2 ^ 32
    | 2 => e.data.toNat
    | _ => e.masked.toNat
  else if 0x8000 ≤ off ∧ off < 0x8020 then
    ((List.range 32).map (fun i => if s.irq.contains (8 * (off - 0x8000) + i) then 2 ^ i else 0)).sum
  else 0

/-- Four bytes written to BAR4; the pending bits are read-only. -/
def State.setBar4Word (s : State) (off v : Nat) : State :=
  if off < 0x1000 then
    let e := s.msixAt (off / 16)
    let e : MsixEntry := match off / 4 % 4 with
      | 0 => { e with addr := BitVec.ofNat 64 (2 ^ 32 * (e.addr.toNat / 2 ^ 32) + v / 4 * 4) }
      | 1 => { e with addr := BitVec.ofNat 64 (e.addr.toNat % 2 ^ 32 + 2 ^ 32 * v) }
      | 2 => { e with data := BitVec.ofNat 32 v }
      | _ => { e with masked := v.testBit 0 }
    { s with pep := { s.pep with msix := Sparse.put noMsix s.pep.msix (off / 16) e } }
  else s

/-! ## Windows (R438, R439) -/

/-- Whether a shadow entry may be committed: its size, and the spaces that it maps. -/
def State.windowOk (s : State) (w : Nat) : Bool :=
  let z := s.f (F.PEP_WIN_CTL_SIZE_LOG2 w)
  s.f (F.PEP_WIN_CTL_EN w) == 0 ||
    (decide (12 ≤ z) && decide (z ≤ 32) && decide ((4096 * s.f (F.PEP_WIN_BASE_BASE w) + 2 ^ z - 1) / 2 ^ 52 ≤ 4))

/-- PEP_WIN_COMMIT.GO: the shadow set becomes the active set, or the commit is refused. -/
def State.winCommit (s : State) : State :=
  if s.f F.PEP_WIN_COMMIT_GO = 1 then s
  else if !(List.range 16).all s.windowOk then s.setF F.PEP_WIN_COMMIT_RESULT 1
  else
    let old := (s.opens.filter (fun (o : OpenReq) => match o.host with
      | some h => h.onLink && decide (spaceOf o.req.addr < 8)
      | none => false)).map (fun (o : OpenReq) => o.id)
    let s := s.forEach (List.range 16) (fun s w =>
      (s.setReg (R.PEP_WIN_ACT_BASE w) (s.reg (R.PEP_WIN_BASE w))).setReg (R.PEP_WIN_ACT_CTL w) (s.reg (R.PEP_WIN_CTL w)))
    let s := (s.setF F.PEP_WIN_COMMIT_RESULT 0).setF F.PEP_WIN_COMMIT_GO 1
    { s with pep := { s.pep with oldWindow := old } }

/-- Whether a request translated by the old set has not taken effect, or, for a read, completed. -/
def State.oldPending (s : State) : Bool :=
  s.opens.any (fun (o : OpenReq) => s.pep.oldWindow.contains o.id &&
    (match o.host with | some h => h.posted || !h.answered | none => false))

/-- The commit is complete. -/
def State.winCommitDone (s : State) : State :=
  if s.f F.PEP_WIN_COMMIT_GO = 0 ∨ s.oldPending then s
  else
    let s := (s.setF F.PEP_WIN_COMMIT_GO 0).addF F.PEP_WIN_COMMIT_COMMITS 1
    { s with pep := { s.pep with oldWindow := [] } }

/-- The active translation of an access at a BAR2 offset (R438): its pool address and tag; none for a window miss. -/
def State.windowAt (s : State) (off n : Nat) (write : Bool) : Option (PA × Tag) :=
  let w := off / 2 ^ 32 % 16
  let o := off % 2 ^ 32
  if s.f (F.PEP_WIN_ACT_CTL_EN w) = 0 ∨ 2 ^ s.f (F.PEP_WIN_ACT_CTL_SIZE_LOG2 w) < o + n ∨
      (write = true ∧ s.f (F.PEP_WIN_ACT_CTL_WRITE_EN w) = 0) then none
  else
    let t := s.f (F.PEP_WIN_ACT_CTL_TAG w)
    some (BitVec.ofNat 56 (4096 * s.f (F.PEP_WIN_ACT_BASE_BASE w) + o), BitVec.ofNat 12 (if t = 0 then s.f F.PEP_CFG_JOB_TAG else t))

/-! ## CXL (R435, R442) -/

/-- DPA_BYTES. -/
def State.dpaBytes (s : State) : Nat := s.poolFields.getD 4 0

/-- The device physical bytes that a committed decoder maps. -/
def HdmDecoder.span (d : HdmDecoder) : Nat := if d.committed then d.size / 2 ^ d.ways else 0

/-- A decoder commit. Its DPA range starts where the decoders below it end; a commit that reaches beyond DPA_BYTES, that
comes before a lower decoder's, or whose interleave the device does not support, is rejected. -/
def State.hdmCommit (s : State) (i base size ways gran place : Nat) : State :=
  let low := s.pep.hdm.take i
  let dpa := (low.map HdmDecoder.span).sum
  let good := low.all (fun d => d.committed) && decide (ways ≤ 3) && decide (8 ≤ gran) && decide (gran ≤ 14) &&
    decide (place < 2 ^ ways) && decide (dpa + size / 2 ^ ways ≤ s.dpaBytes)
  let d : HdmDecoder := ⟨base, size, ways, gran, place, dpa, good, !good⟩
  { s with pep := { s.pep with hdm := s.pep.hdm.set i d } }

/-- The DPA of a host physical address under a decoder, when the address is one of the device's ways. -/
def HdmDecoder.dpaOf (d : HdmDecoder) (hpa : Nat) : Option Nat :=
  let o := hpa - d.base
  if d.committed ∧ d.base ≤ hpa ∧ hpa < d.base + d.size ∧ o / 2 ^ d.gran % 2 ^ d.ways = d.place then
    some (d.dpa + o / 2 ^ (d.gran + d.ways) * 2 ^ d.gran + o % 2 ^ d.gran)
  else none

/-- The DPA of a host physical address. -/
def State.dpaOf (s : State) (hpa : Nat) : Option Nat := s.pep.hdm.findSome? (fun d => d.dpaOf hpa)

/-- The mailbox commands that the device executes: event records and their interrupt policy, timestamps, logs, the
identity of the memory device, and its health and alerts. -/
def mailboxKnown : List Nat :=
  [0x0100, 0x0101, 0x0102, 0x0103, 0x0300, 0x0301, 0x0400, 0x0401, 0x4000, 0x4200, 0x4201, 0x4202]

/-- A mailbox command: return code 0 with its reply, or 3 for Unsupported. -/
def State.mailbox (s : State) (op : Nat) (payload : Bytes) : State :=
  if mailboxKnown.contains op then s.bump.emit (.mailbox 0 (Config.mailboxReply s.free op payload)) else s.emit (.mailbox 3 [])

/-! ## The ROM (R437) -/

/-- Bytes 0x00 to 0x7B of the resource table (Table 19-4). The pool fields are 0 until the image has been applied. -/
def State.resourceBody (s : State) : Bytes :=
  let p := if s.pep.poolValid then s.poolFields else [0, 0, 0, 0, 0]
  let pool (i : Nat) : Bytes := leBytes 8 (p.getD i 0)
  [0x44, 0x5A, 0x52, 0x54] ++ leBytes 2 1 ++ leBytes 2 128 ++ leBytes 4 0x916044A0 ++ [28, 36, 16, 16, 32, 4] ++
    leBytes 2 256 ++ [4, BitVec.ofNat 8 s.pep.poolValid.toNat] ++ leBytes 2 s.pep.generation ++
    pool 0 ++ pool 1 ++ pool 2 ++ pool 3 ++ leBytes 8 801112064 ++ pool 4 ++ List.replicate 52 0

/-- The resource table. -/
def State.resourceTable (s : State) : Bytes := s.resourceBody ++ leBytes 4 (crc32c s.resourceBody).toNat

/-- A byte of the ROM image. -/
def State.romByte (s : State) (off : Nat) : Byte :=
  if off = 0 then 0x55 else if off = 1 then 0xAA
  else if 0x100 ≤ off ∧ off < 0x180 then s.resourceTable.getD (off - 0x100) 0
  else Config.layoutByte (0x10000 + off)

/-! ## The commands -/

/-- CONFIG_ACCESS (R436). -/
def execConfigAccess (x : CfgAccess) (s : State) : Host.Outcome State Fault Refusal := .next (s.configAccess x)
/-- BME_CLEAR (R447). -/
def execBmeClear (s : State) : Host.Outcome State Fault Refusal := .next (s.setBme false)
/-- DMA_REENABLE of a channel (R447). -/
def execDmaReenable (c : Fin 4) (s : State) : Host.Outcome State Fault Refusal := .next (s.dmaEnable c)
/-- ENDPOINT_RESET of a kind (R448). -/
def execEndpointReset (kind : EndpointKind) (s : State) : Host.Outcome State Fault Refusal :=
  .next (s.endpointReset (match kind with | .flr => 1 | .hotReset => 2 | .linkDown => 3))
/-- ENDPOINT_LINK_UP at a speed code and a width in lanes / 4 (R435). -/
def execEndpointLinkUp (speed : Fin 5) (width : Fin 5) (cxl : Bool) (s : State) : Host.Outcome State Fault Refusal :=
  .next (s.pepLinkUp speed width cxl)
/-- MSIX_SEND of a vector (R445). -/
def execMsixSend (v : Fin 256) (s : State) : Host.Outcome State Fault Refusal := .next (s.msixSend v)
/-- L1_ENTRY (R446). -/
def execL1Entry (s : State) : Host.Outcome State Fault Refusal := .next s.l1Entry
/-- L1_EXIT (R446). -/
def execL1Exit (s : State) : Host.Outcome State Fault Refusal := .next s.l1Exit
/-- L0P_NARROW (R446). -/
def execL0pNarrow (s : State) : Host.Outcome State Fault Refusal := .next s.l0pNarrow
/-- L0P_WIDEN (R446). -/
def execL0pWiden (s : State) : Host.Outcome State Fault Refusal := .next s.l0pWiden
/-- D3HOT_ENTRY (R446). -/
def execD3hotEntry (s : State) : Host.Outcome State Fault Refusal := .next (s.setPower true)
/-- WIN_COMMIT: a write of 1 to PEP_WIN_COMMIT.GO (R439). -/
def execWinCommit (s : State) : Host.Outcome State Fault Refusal := .next s.winCommit
/-- WIN_COMMIT_DONE (R439). -/
def execWinCommitDone (s : State) : Host.Outcome State Fault Refusal := .next s.winCommitDone
/-- HDM_COMMIT of a decoder (R442). -/
def execHdmCommit (i : Fin 4) (base size : W64) (ways gran place : Fin 16) (s : State) : Host.Outcome State Fault Refusal :=
  .next (s.hdmCommit i base.toNat size.toNat ways gran place)
/-- MAILBOX_COMMAND (R435). -/
def execMailboxCommand (op : W16) (payload : Bytes) (s : State) : Host.Outcome State Fault Refusal :=
  .next (s.mailbox op.toNat payload)

end Sys2Proof.Machine
end

