-- ==== Sys2Proof/Machine/Control.lean ====
section
/-! DEFINITION. Writing a register (R5 to R8, R36, R37): the fields that a write changes by their access codes, the
writes that the owning chapters say are ignored, and the actions that a write starts. Reading by an access of some bytes
stands beside it. -/

namespace Sys2Proof.Machine

/-- A write of one register: its source, the register's offset, the bits that the access addresses (the whole register, or
a half for a 4-byte access), the written word, and whether it came through BAR0. -/
structure RegWrite where
  src : Node
  off : Nat
  hi : Nat
  lo : Nat
  v : W64
  host : Bool
  deriving DecidableEq, Repr

/-- Whether the access addresses all of a field's bits (R36). -/
def RegWrite.reaches (w : RegWrite) (hi lo : Nat) : Bool := decide (w.lo ≤ lo) && decide (hi ≤ w.hi)

/-- Whether the access writes 1 to a one-bit field. -/
def RegWrite.sets (w : RegWrite) (x : Fld) : Bool := w.reaches x.hi x.lo && getBits x.hi x.lo w.v == 1

/-- The written value of a field, or what the register holds where the access does not reach it. -/
def State.newF (s : State) (w : RegWrite) (x : Fld) : Nat := if w.reaches x.hi x.lo then getBits x.hi x.lo w.v else s.f x

/-! ## Fields by their access codes (R7) -/

/-- A field's new bits under its access code. A write outside the stated range of an RW field leaves the field unchanged: where
a table states a range and no outcome (MGT_CFG.WDOG_MS, PEP_PM.L1_IDLE_US and L0P_IDLE_US, PAIR_CFG2.RESYNC_GBPS,
JX_SYNC_CFG.INTERVAL_US, JX_PORT_CFG.REPLAY_NS), this is the model's DESIGN CHOICE. -/
def fieldWritten (f : FieldDesc) (old new : Nat) : Nat :=
  match f.access with
  | .rw => match f.range with
    | none => new
    | some (a, b) => if a ≤ new ∧ new ≤ b then new else old
  | .w1c => old - (old &&& new)
  | .w1s => old ||| new
  | .ro | .wo | .sc => old

/-- One field of a register after a write. -/
def RegWrite.field (w : RegWrite) (r : W64) (f : FieldDesc) : W64 :=
  if w.reaches f.hi f.lo then putBits f.hi f.lo (fieldWritten f (getBits f.hi f.lo r) (getBits f.hi f.lo w.v)) r else r

/-- Whether DRAM thresholds are in order and in their ranges (Table 11-7). -/
def thresholdsOk (r : W64) : Bool :=
  let h := getBits 39 32 r
  let t2 := getBits 47 40 r
  let t3 := getBits 55 48 r
  let trip := getBits 63 56 r
  decide (h < t2) && decide (t2 < t3) && decide (t3 < trip) && decide (90 ≤ trip) && decide (trip ≤ 110) &&
    decide (128 ≤ getBits 15 0 r) && decide (getBits 15 0 r ≤ 8192)

/-- Whether the owning chapter says that a write of a field is ignored as things stand. -/
def State.fieldFixed (s : State) (d : RegDesc) (w : RegWrite) (f : FieldDesc) : Bool :=
  let i := (w.off - d.base) / d.s1
  let new := getBits f.hi f.lo w.v
  let b := d.base
  if b = R.CORE_Q_BASE 0 then s.f (F.CORE_Q_CFG_ENABLE i) == 1
  else if b = R.CORE_Q_CFG 0 then f.lo == 0 && s.f (F.CORE_Q_CFG_ENABLE i) == 1
  else if b = R.MNT_JQ_CFG then f.lo == 0 && s.f F.MNT_JQ_CFG_ENABLE == 1
  else if b = R.PEP_DMA_BASE 0 then s.f (F.PEP_DMA_CFG_ENABLE i) == 1
  else if b = R.PEP_DMA_CFG 0 then f.lo == 0 && s.f (F.PEP_DMA_CFG_ENABLE i) == 1
  else if b = R.SLOT_BARRIER 0 then f.hi == 15 && s.f (F.SLOT_BARRIER_ARRIVED i) != 0
  else if b = R.DET_SEED_LO 0 ∨ b = R.DET_SEED_HI 0 then i == 0 || s.f (F.DET_TAG_CTL_LOCK i) == 1
  else if b = R.DET_STEP 0 then i == 0
  else if b = R.TLR_TAG 0 then i == 0
  else if b = R.SIT_EPOCH_LAUNCH then s.f F.SIT_STATUS_STATE != sitIdle && s.f F.SIT_STATUS_STATE != sitStaged
  else if b = R.SIT_LOAD then w.sets F.SIT_LOAD_GO
  else if b = R.AO_BLK_RST then s.f F.AO_BLK_RST_GO == 1 && f.hi < 32
  else if b = R.VLT_CKPT_SRC 0 ∨ b = R.VLT_CKPT_DST 0 then s.f (F.VLT_CKPT_STS_STATE i) != 0
  else if b = R.TST_QUAR then decide ((s.f F.TST_QUAR_TAIL + 65536 - s.f F.TST_QUAR_HEAD) % 65536 < (new + 65536 - s.f F.TST_QUAR_HEAD) % 65536)
  else if b = R.TST_SUSPECT 0 ∨ b = R.PAIR_MM 0 then new != 0
  else if b = R.POOL_EXT 0 then s.f (F.POOL_EXT_STATE i) != extFree
  else b == R.LDG_HEAD 0 || b == R.MGT_IMG_SESSION || b == R.MGT_IMG_PAGE || b == R.TLR_STAT_BYTES || b == R.TLR_STAT_BE_BYTES ||
    b == R.TLR_STAT_MISSES || b == R.TLR_STAT_LAT_MISS

/-- The fields of a register take their written values. A write of DRAM thresholds counts as a whole; the token peaks clear
through their lowest bit. -/
def State.writeFields (s : State) (d : RegDesc) (w : RegWrite) : State :=
  let old := s.reg w.off
  let new := (d.fields.filter (fun f => !s.fieldFixed d w f)).foldl (fun r f => w.field r f) old
  if d.base = R.CAN_DCFG ∨ d.base = R.UND_DCFG then (if thresholdsOk new then s.setReg w.off new else s)
  else if d.base = R.JX_TOKENS then
    let s := if w.reaches 44 32 && w.v.getLsbD 32 then s.setF F.JX_TOKENS_PEAK0 0 else s
    if w.reaches 60 48 && w.v.getLsbD 48 then s.setF F.JX_TOKENS_PEAK1 0 else s
  else s.setReg w.off new

/-! ## Actions -/

/-- MNT_SLOT_CMD.GO (Table 5-3). -/
def State.slotCommand (s : State) : State :=
  let i := s.f F.MNT_SLOT_CMD_SLOT
  match s.f F.MNT_SLOT_CMD_OP with
  | 1 => s.slotLock i
  | 2 => s.slotUnlock i
  | 3 => s.slotRetire i
  | 4 => s.slotActivate i
  | 5 => s.slotInstall i (s.f F.MNT_SLOT_CMD_PLANES) (s.f F.MNT_SLOT_CMD_XOR == 1)
  | 6 => s.slotClear i
  | op => s.slotRefuse i op cSlotBusy

/-- DET_ACC_CMD.GO (R358). -/
def State.accCommand (s : State) : State :=
  let c := s.f F.DET_ACC_CMD_CORE
  match s.f F.DET_ACC_CMD_OP with
  | 1 => s.accSave c
  | 2 => s.accRestore c
  | 3 => s.accClear c
  | _ => s

/-- VLT_CKPT_CMD.GO (R299). -/
def State.ckptCommand (s : State) : State :=
  let i := s.f F.VLT_CKPT_CMD_ENTRY
  match s.f F.VLT_CKPT_CMD_OP with
  | 1 => s.ckptArm i
  | 2 => s.ckptMark i
  | 3 => s.ckptClear i
  | _ => s

/-- PAIR_CMD.GO (R427). -/
def State.pairCommand (s : State) : State :=
  match s.f F.PAIR_CMD_OP with
  | 1 => s.pairSolo
  | 2 => s.pairDetach
  | 3 => s.pairRejoin
  | 4 => s.resetPartner
  | _ => s

/-- The restore that DET_SLOT_RESTORE describes (R359). -/
def State.restoreCommand (s : State) : State :=
  s.slotRestore
    { slot := Fin.ofNat 64 (s.f F.DET_SLOT_RESTORE_SLOT)
      gen := BitVec.ofNat 8 (s.f F.DET_SLOT_RESTORE_GEN)
      planes := Fin.ofNat 8 (s.f F.DET_SLOT_RESTORE_PLANES)
      xor := s.f F.DET_SLOT_RESTORE_XOR == 1
      lock := s.f F.DET_SLOT_RESTORE_LOCK == 1
      retired := s.f F.DET_SLOT_RESTORE_RETIRED == 1 }

/-- A write of a tally of the selected port and class (Table 14-8). -/
def State.setTellerStat (s : State) (i : Nat) (v : W64) : State :=
  let p := s.f F.TLR_STAT_SEL_PORT
  let k := s.f F.TLR_STAT_SEL_CLASS
  let t := s.teller p k
  s.setTeller p k (match i with
    | 0 => { t with bytes := v }
    | 1 => { t with beBytes := v }
    | 2 => { t with misses := v }
    | _ => { t with latMiss := v })

/-- Does something when a condition holds. -/
def State.when (s : State) (c : Bool) (g : State → State) : State := if c then g s else s

/-- The actions of the GLB to CLR blocks, in ascending order of their bits. -/
def State.actLow (s : State) (b i : Nat) (w : RegWrite) : State :=
  if b = R.AO_RST_CTL then
    s.when (w.sets F.AO_RST_CTL_GO) (fun s => s.softwareReset (getBits 15 8 w.v) (w.v.getLsbD 1))
  else if b = R.AO_BLK_RST then
    s.when (w.sets F.AO_BLK_RST_GO) (fun s => s.blockReset (s.f F.AO_BLK_RST_KIND) (s.f F.AO_BLK_RST_UNIT))
  else if b = R.SIT_LOAD then s.when (w.sets F.SIT_LOAD_GO) (fun s => s.sitLoad (getBits 2 1 w.v))
  else if b = R.SIT_EPOCH_CTRL then
    (s.when (w.sets F.SIT_EPOCH_CTRL_GO) State.epochGo).when (w.sets F.SIT_EPOCH_CTRL_ABANDON) State.epochAbandon
  else if b = R.TLR_STAT_BYTES then s.when (w.reaches 63 0) (fun s => s.setTellerStat 0 w.v)
  else if b = R.TLR_STAT_BE_BYTES then s.when (w.reaches 63 0) (fun s => s.setTellerStat 1 w.v)
  else if b = R.TLR_STAT_MISSES then s.when (w.reaches 63 0) (fun s => s.setTellerStat 2 w.v)
  else if b = R.TLR_STAT_LAT_MISS then s.when (w.reaches 63 0) (fun s => s.setTellerStat 3 w.v)
  else if b = R.DET_ACC_CMD then s.when (w.sets F.DET_ACC_CMD_GO) State.accCommand
  else if b = R.DET_SLOT_RESTORE then s.when (w.sets F.DET_SLOT_RESTORE_GO) State.restoreCommand
  else if b = R.DET_STEP_INC then s.when (w.reaches 11 0) (fun s => s.stepInc (BitVec.ofNat 12 (getBits 11 0 w.v)))
  else if b = R.LDG_HEAD 0 then s.when (w.reaches 31 0) (fun s => s.headWrite i (getBits 31 0 w.v))
  else if b = R.LDG_CE_CTL then
    (s.when (w.reaches 1 0 && w.v.getLsbD 0) (fun s => s.ceClear 0)).when (w.reaches 1 0 && w.v.getLsbD 1) (fun s => s.ceClear 1)
  else if b = R.LDG_FLIP_SEL then
    s.when (w.sets F.LDG_FLIP_SEL_ARM) (fun s =>
      s.flipArm (s.f F.LDG_FLIP_SEL_TAG) (s.f F.LDG_FLIP_SEL_PRE_CODE) (s.f F.LDG_FLIP_SEL_OFFSET) (s.f F.LDG_FLIP_SEL_UNIT)
        (s.f F.LDG_FLIP_SEL_TARGET))
  else if b = R.CLR_CTRL then s.when (w.sets F.CLR_CTRL_PASS_NOW) State.passNow
  else s

/-- The actions of the MNT to PAIR blocks. -/
def State.actMid (s : State) (b i : Nat) (w : RegWrite) : State :=
  if b = R.MNT_SLOT_CMD then s.when (w.sets F.MNT_SLOT_CMD_GO) State.slotCommand
  else if b = R.CAN_CTRL 0 then
    let s := s.when (w.sets (F.CAN_CTRL_WB i)) (fun s => s.setF (F.CAN_CTRL_WB i) 1)
    let s := s.when (w.sets (F.CAN_CTRL_INV i)) (fun s => s.setF (F.CAN_CTRL_INV i) 1)
    s.when (w.reaches 2 2 && !w.v.getLsbD 2) (fun s => s.canopyResume i)
  else if b = R.VLT_CKPT_CMD then s.when (w.sets F.VLT_CKPT_CMD_GO) State.ckptCommand
  else if b = R.JX_SYNC_CFG then s.when (s.f F.JX_SYNC_CFG_ROLE != 1) (fun s => s.setF F.JX_SYNC_STS_LOCKED 0)
  else if b = R.JX_PORT_CFG 0 then s.when (w.sets (F.JX_PORT_CFG_RETRAIN i)) (fun s => s.retrainCommand i)
  else if b = R.OPT_LASER 0 then
    let s := s.when (w.reaches 1 1) (fun s => s.laserEnable i (w.v.getLsbD 1))
    s.when (w.sets (F.OPT_LASER_RESET i)) (fun s => s.laserReset i)
  else if b = R.PEP_WIN_COMMIT then s.when (w.sets F.PEP_WIN_COMMIT_GO) State.winCommit
  else if b = R.PEP_DMA_CFG 0 then s.when (w.sets (F.PEP_DMA_CFG_ENABLE i)) (fun s => s.dmaEnable i)
  else if b = R.POOL_EXT_REVOKE then s.when (w.reaches 13 0) (fun s => s.extentRevoke (getBits 13 0 w.v))
  else if b = R.POOL_HOST_GO then s.when (w.sets F.POOL_HOST_GO_GO) State.poolHostSubmit
  else if b = R.POOL_VER_RESET then s.when (w.reaches 19 0) (fun s => s.verReset (getBits 15 0 w.v) (getBits 19 16 w.v))
  else if b = R.POOL_EXT 0 then
    s.when (w.sets (F.POOL_EXT_GRANT i)) (fun s =>
      s.grant i (s.f (F.POOL_EXT_SPACE i)) (s.f (F.POOL_EXT_BASE i)) (s.f (F.POOL_EXT_RW_GROUP i)) (s.f (F.POOL_EXT_RO_GROUP i)))
  else if b = R.PAIR_CMD then s.when (w.sets F.PAIR_CMD_GO) State.pairCommand
  else if b = R.PAIR_MM 0 then s.when (w.reaches 63 61 && getBits 63 61 w.v == 0) (fun s => s.mmFree i)
  else s

/-- The actions of the CORE to TST blocks, with the status of a JX write: only a DEC that fails, or an image access that
is turned away, has one that is not OK. Each half of SLOT_RELEASE holds a WO field, so that a 4-byte write of either half
releases (R36); the half that it does not address counts as 0 (DESIGN CHOICE). -/
def State.actHigh (s : State) (b i : Nat) (w : RegWrite) : State × Nat :=
  if b = R.CORE_PLAN_START 0 then (s.when (w.reaches 31 0) (fun s => (s.startPlan i (getBits 31 0 w.v)).getD s), stOk)
  else if b = R.CORE_WAKE 0 then (s.when (w.sets (F.CORE_WAKE_WAKE i)) (fun s => s.wakeCommand i), stOk)
  else if b = R.SLOT_RELEASE then
    if w.reaches 11 0 || w.reaches 63 32 then
      let r := s.slotRelease (getBits 11 0 w.v) (getBits 63 32 w.v)
      (r.1.setF F.SLOT_RELEASE_RESULT_RESULT r.2, stOk)
    else (s, stOk)
  else if b = R.SLOT_EVENT_ADD 0 then (s.when (w.reaches 31 0) (fun s => s.eventAdd i (getBits 31 0 w.v)), stOk)
  else if b = R.SLOT_EVENT_DEC 0 then
    if w.host || !w.reaches 31 0 then (s, stOk)
    else
      let r := s.eventDec i (getBits 31 0 w.v)
      (r.1, if r.2 then stOk else stConflict)
  else if b = R.SLOT_BARRIER_ARRIVE then (s.when (w.reaches 5 0) (fun s => s.arrive (getBits 5 0 w.v) 0), stOk)
  else if b = R.MGT_FUSE_CMD then
    if w.host then
      (s.when (w.sets F.MGT_FUSE_CMD_GO) (fun s =>
        s.fuseCommand (s.f F.MGT_FUSE_CMD_OP) (s.f F.MGT_FUSE_CMD_VALUE) (s.f F.MGT_FUSE_CMD_CONFIRM == 1)), stOk)
    else (s, stDenied)
  else if b = R.MGT_NOR_CMD then (s.when (w.host && w.sets F.MGT_NOR_CMD_GO) State.norStart, stOk)
  else if b = R.MGT_ATT_CMD then (s.when (w.sets F.MGT_ATT_CMD_GO) State.attest, stOk)
  else if b = R.MGT_IMG_SESSION then
    if w.reaches 0 0 then (if w.v.getLsbD 0 then s.openSession w.src else s.closeSession w.src) else (s, stOk)
  else if b = R.MGT_IMG_PAGE then (if w.reaches 6 0 then s.imgPage w.src (getBits 6 0 w.v) else (s, stOk))
  else if b = R.TST_QUAR then
    (s.when (w.reaches 15 0 && s.f F.TST_QUAR_HEAD == getBits 15 0 w.v) (fun s => { s with silent := { s.silent with quarFull := false } }), stOk)
  else if b = R.TST_DIAG_CTL then
    (s.when (w.sets F.TST_DIAG_CTL_ARM) (fun s =>
      s.diagArm (s.f F.TST_DIAG_CTL_ENTRY) (s.f F.TST_DIAG_CTL_CORE) (s.f F.TST_DIAG_CTL_SHADOW)), stOk)
  else if b = R.TST_SHELF_CTL then (s.when (w.sets F.TST_SHELF_CTL_GO) State.shelfLoad, stOk)
  else if b = R.TST_CORE_CTL 0 then
    let s := s.when (w.sets (F.TST_CORE_CTL_GO i)) (fun s =>
      s.testRequest i (s.f (F.TST_CORE_CTL_SET i)) (s.f (F.TST_CORE_CTL_AFTER_HEAD i)) (s.f (F.TST_CORE_CTL_EVICTED i) == 1))
    (s.when (w.sets (F.TST_CORE_CTL_ABORT i)) (fun s => s.testAbort i), stOk)
  else (s, stOk)

/-- A write of one register: its fields, then the actions that it starts, with the status that a JX write is answered. A JX
write to MGT_FUSE_CMD is DENIED and changes nothing (R480). -/
def State.writeReg (s : State) (d : RegDesc) (w : RegWrite) : State × Nat :=
  let i := (w.off - d.base) / d.s1
  if d.base = R.MGT_FUSE_CMD ∧ w.host = false then (s, stDenied)
  else
    let s := s.writeFields d w
    if w.off < 0x700000 then (s.actLow d.base i w, stOk)
    else if w.off < 0x1000000 then (s.actMid d.base i w, stOk)
    else s.actHigh d.base i w

/-! ## Accesses of the control space (R35 to R37, R465) -/

/-- Base and length of the block that holds a control offset (Table 1-7). -/
def blockOf (off : Nat) : Nat × Nat :=
  if 0x1000000 ≤ off ∧ off < 0x3000000 then (0x1000000 * (off / 0x1000000), 0x1000000) else (0x100000 * (off / 0x100000), 0x100000)

/-- Whether an access before the end of start-up decodes a block: GLB, AO, SIT, LDG or MGT (R465). -/
def earlyBlock (off : Nat) : Bool := [0x0, 0x100000, 0x200000, 0x500000, 0x3000000].contains (blockOf off).1

/-- The image window. -/
def inImgWindow (off : Nat) : Bool := decide (0x3080000 ≤ off) && decide (off < 0x3100000)

/-- The CXL component and device registers, whose layout is the standard's. -/
def inCxlRegs (off : Nat) : Bool :=
  (decide (0xD80000 ≤ off) && decide (off < 0xD90000)) || (decide (0xDC0000 ≤ off) && decide (off < 0xDD0000))

/-- Whether something lies at an aligned control offset. -/
def ctrlMapped (off : Nat) : Bool := (regAt off).isSome || inImgWindow off || inCxlRegs off

/-- The control offsets of the registers that an access of n bytes touches. -/
def ctrlWords (off n : Nat) : List Nat := (List.range (ceilDiv (off % 8 + n) 8)).map (fun i => off / 8 * 8 + 8 * i)

/-- The CTRL_UNMAPPED record of an access (R37). -/
def State.ctrlUnmapped (s : State) (src : Node) (tag : Tag) (off : Nat) : State :=
  s.ledger { code := 0x0701, tag := tag, addr := off, src := src }

/-- A write of bytes whose registers are all mapped, in ascending order; the status is the first that is not OK. -/
def State.ctrlWrite (s : State) (src : Node) (off : Nat) (bs : Bytes) (host : Bool) : State × Nat :=
  (ctrlWords off bs.length).foldl (fun st o =>
    match regAt o with
    | none => st
    | some d =>
      let lo := 8 * (max off o - o)
      let hi := 8 * (min (off + bs.length) (o + 8) - o) - 1
      let part := leNat (slice bs (max off o - off) (min (off + bs.length) (o + 8) - max off o))
      let r := st.1.writeReg d ⟨src, o, hi, lo, BitVec.ofNat 64 (part * 2 ^ lo), host⟩
      (r.1, if st.2 = stOk then r.2 else st.2)) (s, stOk)

/-- A read of n bytes whose registers are all mapped, with its status (R485 gives the image window one). -/
def State.ctrlRead (s : State) (src : Node) (off n : Nat) : State × Nat × Bytes :=
  if inImgWindow off then s.imgWindow src (off - 0x3080000) n
  else if inCxlRegs off then (s.bump, stOk, (List.range n).map (fun i => Config.freeByte s.free (off + i)))
  else if (ctrlWords off n).any (fun o => o == R.MGT_IMG_SESSION || o == R.MGT_IMG_PAGE) && s.sessionOther src then
    (s, stConflict, List.replicate n 0)
  else
    let all := (ctrlWords off n).flatMap (fun o => leBytes 8 ((s.readReg o).getD 0).toNat)
    (s, stOk, slice all (off % 8) n)

/-- Which part of a register a command writes: the whole, or a half by a 4-byte access through BAR0. -/
def RegPart.bits : RegPart → Nat × Nat
  | .whole => (63, 0)
  | .low => (31, 0)
  | .high => (63, 32)

/-- A register write of the host through BAR0: one that is not aligned to its size is not accepted (R36); one where no
register lies is discarded and recorded (R37). It is posted, and nothing answers it. -/
def State.hostRegWrite (s : State) (off : Nat) (part : RegPart) (v : W64) : State :=
  if off % 8 ≠ 0 ∨ (!s.inService && !earlyBlock off) then s
  else
    match regAt off with
    | none =>
      if !s.inService ∨ inImgWindow off ∨ inCxlRegs off then s
      else s.ctrlUnmapped s.hostNode (BitVec.ofNat 12 (s.f F.PEP_CFG_JOB_TAG)) off
    | some d => (s.writeReg d ⟨s.hostNode, off, part.bits.1, part.bits.2, v, true⟩).1

/-- A register write of a source, under the JOB_TAG of its flit: a part of a register, an unaligned offset or the tag 0x000 is
UNSUPPORTED (R36, R226); where no register lies it is DENIED and recorded (R37). Before the end of start-up every access
but one of a register of the early blocks is discarded (R465). -/
def State.jxRegWrite (s : State) (src : Node) (off : Nat) (part : RegPart) (v : W64) (tag : Tag) : State :=
  if tag = 0 ∨ off % 8 ≠ 0 ∨ part ≠ .whole then s.emit (.ctrl src off stUnsupported [])
  else
    match regAt off with
    | none =>
      if !s.inService ∨ inImgWindow off ∨ inCxlRegs off then s.emit (.ctrl src off stOk [])
      else (s.ctrlUnmapped src tag off).emit (.ctrl src off stDenied [])
    | some d =>
      if !s.inService && !earlyBlock off then s.emit (.ctrl src off stOk [])
      else
        let r := s.writeReg d ⟨src, off, 63, 0, v, false⟩
        r.1.emit (.ctrl src off r.2 [])

/-- A register write of a source, or through BAR0. -/
def State.registerWrite (s : State) (src : Node) (off : Nat) (part : RegPart) (v : W64) (tag : Tag) (host : Bool) : State :=
  if host then s.hostRegWrite off part v else s.jxRegWrite src off part v tag

/-- REGISTER_WRITE by a source, or by the host driver through BAR0 (R7). -/
def execRegisterWrite (src : Node) (off : Fin 268435456) (part : RegPart) (v : W64) (tag : Tag) (host : Bool) (s : State) :
    Host.Outcome State Fault Refusal := .next (s.registerWrite src off part v tag host)

end Sys2Proof.Machine
end

