-- ==== Sys2Proof/Machine/Expert.lean ====
section
/-! DEFINITION. The expert service (R190 to R215): a service kernel's checks, its partners, and what its message does to
the activations, the save area, the gradients, the state and the weights. -/

namespace Sys2Proof.Machine

/-! ## Reading and writing -/

/-- The bytes of values of n bytes each. -/
def cellBytes (n : Nat) (cs : List Cell) : Bytes := cs.flatMap (fun c => leBytes n c.v)

/-- Writes an array of values of n bytes each. -/
def State.putCells (s : State) (a n : Nat) (cs : List Cell) (k : Consumer) : State × WorkEnd :=
  s.writeWork (BitVec.ofNat 56 a) (cellBytes n cs) (badParts a (8 * n) cs) k

/-- Writes arrays, each at an address with values of some bytes; the flag says that something must be waited for. -/
def State.putAll (s : State) (l : List (Nat × Nat × List Cell)) (k : Consumer) : State × Bool :=
  l.foldl (fun (st : State × Bool) q =>
    let r := st.1.putCells q.1 q.2.1 q.2.2 k
    (r.1, st.2 || r.2.wait)) (s, false)

/-- The next 4 KiB boundary. -/
def align4K (n : Nat) : Nat := 4096 * ceilDiv n 4096

/-- INF_OUT of FP32 values that are written. -/
def infFlags (cs : List Cell) : Nat := flagIf (cs.any (fun c => (f32 c.v).isInf)) flInfOut

/-- Values converted for a buffer of a type; to FP32 nothing changes (R202). -/
def storeCells (x : NumFmt) (r : Rounding) (first : Nat) (cs : List Cell) : List Cell :=
  if x = .fp32 then cs.map (fun c => { c with fl := c.fl ||| flagIf (f32 c.v).isInf flInfOut })
  else cs.zipIdx.map (fun c => c.1.conv x (r.at (first + c.2)) r.sat)

/-! ## Messages (Tables 8-2 to 8-4) -/

/-- The three messages. -/
inductive SvcKind where
  | fwd | bwd | close
  deriving DecidableEq, Repr

/-- KERNEL_ID of a message's service kernel (R190). -/
def SvcKind.kernel : SvcKind → Nat
  | .fwd => 0xFFFFFE01 | .bwd => 0xFFFFFE02 | .close => 0xFFFFFE03

/-- The kernel that an identifier names. -/
def svcKindOf (id : Nat) : Option SvcKind :=
  if id = 0xFFFFFE01 then some .fwd else if id = 0xFFFFFE02 then some .bwd else if id = 0xFFFFFE03 then some .close else none

def msgIndex (m : Bytes) : Nat := fieldLe m 0x04 4
def msgTable (m : Bytes) : Nat := fieldLe m 0x08 8
def msgTokens (m : Bytes) : Nat := fieldLe m 0x10 4
def msgInType (m : Bytes) : Nat := fieldLe m 0x14 1
def msgOutType (m : Bytes) : Nat := fieldLe m 0x15 1
def msgIn (m : Bytes) : Nat := fieldLe m 0x18 8
def msgOut (m : Bytes) : Nat := fieldLe m 0x20 8
def msgSave (m : Bytes) : Nat := fieldLe m 0x28 8
def msgMicro (m : Bytes) : Nat := fieldLe m 0x30 4
def msgFlags (m : Bytes) : Nat := fieldLe m 0x02 2
def msgLast (m : Bytes) : Nat := fieldLe m 0x10 4

/-- The format of a buffer's type code. -/
def bufFmt (c : Nat) : NumFmt := ((elemOfCode c).getD ⟨.fp32, false⟩).fmt

/-- The address of a message's entry, or of the entry of an index. -/
def entryAt (m : Bytes) (i : Nat) : Nat := msgTable m + 128 * i

/-- What a service descriptor must be (R198). -/
def svcDescOk (d : Bytes) : Bool :=
  !kdAccLoad d && kdRows d == 0 && kdCols d == 0 && fieldLe d 0x24 1 == 0 && kdOut d == 0 && kdArgsLen d == 1 && kdArgs d % 64 == 0

/-- Whether a number is a 4 KiB aligned address of PLAIN memory. -/
def State.plain4K (s : State) (a n : Nat) : Bool := a % 4096 == 0 && decide (a < 2 ^ 56) && s.plainRange (BitVec.ofNat 56 a) n

/-- A message's fields, apart from those that the entry bounds. -/
def State.msgOk (s : State) (k : SvcKind) (m : Bytes) : Bool :=
  let table (i : Nat) : Bool := msgTable m % 4096 == 0 && decide (i < 65536) && decide (msgTable m + 2 ^ 23 ≤ 2 ^ 56) &&
    decide (spaceOf (BitVec.ofNat 56 (msgTable m)) ≤ 2) && s.plainRange (BitVec.ofNat 56 (entryAt m i)) 128
  let body : Bool := decide (1 ≤ msgTokens m) && decide (msgTokens m ≤ 4096) && [0, 1, 3, 10].contains (msgInType m) &&
    [3, 10].contains (msgOutType m) && fieldLe m 0x16 2 == 0 && allZero (slice m 0x34 12)
  match k with
  | .fwd => fieldLe m 0 2 == 1 && decide (msgFlags m < 3) && table (msgIndex m) && body &&
      (if msgFlags m = 0 then msgSave m == 0 else s.plain4K (msgSave m) 64)
  | .bwd => fieldLe m 0 2 == 2 && msgFlags m == 0 && table (msgIndex m) && body && s.plain4K (msgSave m) 64
  | .close => fieldLe m 0 2 == 3 && decide (msgFlags m < 3) && table (msgIndex m) && table (msgLast m) &&
      decide (msgIndex m ≤ msgLast m) && fieldLe m 0x14 4 == 0 && allZero (slice m 0x28 24) && decide (msgIn m < 2 ^ 56) &&
      decide (msgOut m < 2 ^ 56) && s.plainRange (BitVec.ofNat 56 (msgIn m)) 1024 && s.plainRange (BitVec.ofNat 56 (msgOut m)) 64

/-- The bytes of one element of the activation operand type. -/
def actSize (e : Bytes) : Nat := (actType e).fmt.width / 8

/-- Where G and U lie in a save area (Table 8-8). -/
def saveG (m e : Bytes) : Nat := align4K (0x1000 + msgTokens m * reModel e * actSize e)
def saveU (m e : Bytes) : Nat := align4K (saveG m e + msgTokens m * reFf e * 4)

/-- The length of a save area, with G and U or without them. -/
def saveLen (m e : Bytes) (keep : Bool) : Nat := if keep then saveU m e + msgTokens m * reFf e * 4 else 0x1000 + msgTokens m * reModel e * actSize e

/-- Whether the buffers of a forward or backward message, and the save area that it uses, lie in PLAIN memory (R199). Whether a
backward message's area holds G and U stands in its header. -/
def State.buffersOk (s : State) (kind : SvcKind) (m e : Bytes) : Bool :=
  let n (c : Nat) : Nat := msgTokens m * reModel e * ((bufFmt c).width / 8)
  decide (msgIn m < 2 ^ 56) && decide (msgOut m < 2 ^ 56) && s.plainRange (BitVec.ofNat 56 (msgIn m)) (n (msgInType m)) &&
    s.plainRange (BitVec.ofNat 56 (msgOut m)) (n (msgOutType m)) &&
    ((kind == .fwd && msgFlags m == 0) || s.plainRange (BitVec.ofNat 56 (msgSave m)) (saveLen m e (kind == .fwd && msgFlags m == 1)))

/-! ## Checks (R197) -/

/-- An entry on its own. -/
def entryOk (e : Bytes) : Bool :=
  let mx := decide (5 ≤ reType e)
  reState e == 1 && reAct e == 0 && decide (reOpt e ≤ 4) && decide (reFmt e ≤ 2) && [0, 1, 3, 5, 6, 7, 8, 9].contains (reType e) &&
    decide (reHset e < 16) && fieldLe e 0x0E 2 == 0 && fieldLe e 0x34 4 == 0 && allZero (slice e 0x48 24) &&
    reModel e % 512 == 0 && decide (512 ≤ reModel e) && decide (reModel e ≤ 16384) &&
    reFf e % (512 * (coresOf (reMask e)).length) == 0 && decide (512 ≤ reFf e) && decide (reFf e ≤ 65536) &&
    !(mx && reOpt e != 0) && !(reFmt e == 2 && reOpt e != 1)

/-- A base entry against the entry that names it. -/
def baseOk (e b : Bytes) : Bool :=
  reState b == 1 && reOpt b == 0 && reModel b == reModel e && reFf b == reFf e && reType b == reType e && reRegion b == reRegion e

/-- What the checks of a service kernel find. -/
inductive SvcCheck where
  /-- A read must be repaired first. -/
  | wait (r : AnyRead)
  /-- Its message or an entry is poisoned: nothing can be done under it. -/
  | spoiled (a : PA)
  | refuse (code addr : Nat)
  /-- It runs: its message, its entries, and whether the save header is poisoned. -/
  | ok (m : Bytes) (es : List ExpEntry) (headBad : Bool)
  deriving DecidableEq, Repr

/-- EXP_ENTRY of one entry, with its base. -/
def Loads.entryCheck (l : Loads) (m e : Bytes) (k : Consumer) : Loads × Bool :=
  if !entryOk e then (l, false)
  else if reBase e = 2 ^ 32 - 1 then (l, true)
  else if 65536 ≤ reBase e then (l, false)
  else
    let b := l.get (entryAt m (reBase e)) 128 k
    (b.1, baseOk e b.2.data)

/-- What a list of reads finds before a verdict. -/
def Loads.verdict (l : Loads) (c : SvcCheck) : SvcCheck :=
  match l.wait, l.first with
  | some w, _ => .wait w
  | none, some a => .spoiled a
  | none, none => c

/-- The save header against a backward message and its entry (R205). -/
def saveOk (m e h : Bytes) : Bool :=
  fieldLe h 17 1 == 1 && fieldLe h 0 4 == msgIndex m && fieldLe h 4 4 == msgMicro m && fieldLe h 12 4 == msgTokens m &&
    fieldLe h 8 4 == fieldLe e 0x64 4

/-- The first entry of a close's range that is RESIDENT and whose CORE_MASK holds a core: it names the group. -/
def Loads.closeEntry (l : Loads) (m : Bytes) (n : Nat) (k : Consumer) : Loads × Option (Nat × Bytes) :=
  (List.range (msgLast m - msgIndex m + 1)).foldl (fun (st : Loads × Option (Nat × Bytes)) i =>
    match st.2 with
    | some _ => st
    | none =>
      let a := entryAt m (msgIndex m + i)
      let x := st.1.get a 128 k
      (x.1, if reState x.2.data = 1 ∧ (reMask x.2.data).testBit n then some (a, x.2.data) else none)) (l, none)

/-- The entries that a close visits (R208). -/
def Loads.visited (l : Loads) (m : Bytes) (mask : Nat) (k : Consumer) : Loads × List ExpEntry :=
  (List.range (msgLast m - msgIndex m + 1)).foldl (fun (st : Loads × List ExpEntry) i =>
    let a := entryAt m (msgIndex m + i)
    let x := st.1.get a 128 k
    (x.1, if reState x.2.data = 1 ∧ reMask x.2.data = mask then st.2 ++ [⟨msgIndex m + i, a, x.2.data⟩] else st.2)) (l, [])

/-- EXP_ENTRY of every visited entry: the address of the first that fails. -/
def Loads.visitedCheck (l : Loads) (m : Bytes) (vs : List ExpEntry) (k : Consumer) : Loads × Option Nat :=
  vs.foldl (fun (st : Loads × Option Nat) v =>
    match st.2 with
    | some _ => st
    | none =>
      let c := st.1.entryCheck m v.bytes k
      (c.1, if c.2 then none else some v.at_)) (l, none)

/-- Whether a mask is a group with a lead (R191, R192). -/
def leads (mask n : Nat) : Bool := groupOk mask && (coresOf mask).head? == some n

/-- The checks of a forward or backward message, in the order of R197. -/
def Loads.checkPass (l : Loads) (kind : SvcKind) (n : Nat) (d m : Bytes) (k : Consumer) : SvcCheck :=
  let ea := entryAt m (msgIndex m)
  let x := l.get ea 128 k
  let e := x.2.data
  let c := x.1.entryCheck m e k
  let refuse (code addr : Nat) : SvcCheck := .refuse code addr
  let es : List ExpEntry := [⟨msgIndex m, ea, e⟩]
  if (kind = .fwd ∧ msgFlags m ≠ 0 ∧ 5 ≤ reType e ∧ reType e ≤ 9) ∨ !x.1.st.buffersOk kind m e then x.1.verdict (refuse 0x0740 (kdArgs d))
  else if !leads (reMask e) n then x.1.verdict (refuse 0x0742 ea)
  else if !c.2 then c.1.verdict (refuse 0x0741 ea)
  else if kind = .bwd ∧ 5 ≤ reType e then c.1.verdict (refuse 0x0743 (msgSave m))
  else if kind = .bwd then
    let h := ({ c.1 with first := none }).get (msgSave m) 64 k
    let bad := h.1.first.isSome
    if c.1.first.isSome then c.1.verdict (.ok m es false)
    else if !bad ∧ !saveOk m e h.2.data then ({ h.1 with first := none }).verdict (refuse 0x0743 (msgSave m))
    else ({ h.1 with first := none }).verdict (.ok m es bad)
  else c.1.verdict (.ok m es false)

/-- The checks of a close. -/
def Loads.checkClose (l : Loads) (n : Nat) (m : Bytes) (k : Consumer) : SvcCheck :=
  let g := l.closeEntry m n k
  match g.2 with
  | none => g.1.verdict (.ok m [] false)
  | some (a, e) =>
    if !leads (reMask e) n then g.1.verdict (.refuse 0x0742 a)
    else
      let v := g.1.visited m (reMask e) k
      let c := v.1.visitedCheck m v.2 k
      match c.2 with
      | some b => c.1.verdict (.refuse 0x0741 b)
      | none => c.1.verdict (.ok m v.2 false)

/-- The checks of a running service kernel. -/
def State.svcCheck (s : State) (kind : SvcKind) (n : Nat) (r : Running) : SvcCheck :=
  let d := r.desc
  let k := coreConsumer n (kdTag d)
  let l := (⟨s, none, none⟩ : Loads)
  let x := l.get (2 ^ 54 + 0x2000000 * n + kdArgs d) 64 k
  let m := x.2.data
  if !svcDescOk d then .refuse 0x0740 (kdArgs d)
  else if !s.msgOk kind m then x.1.verdict (.refuse 0x0740 (kdArgs d))
  else if x.1.wait.isSome ∨ x.1.first.isSome then x.1.verdict (.ok m [] false)
  else match kind with | .close => x.1.checkClose n m k | _ => x.1.checkPass kind n d m k

/-! ## The passes -/

/-- The rounding of a service kernel. -/
def Running.rounding (r : Running) : Rounding := ⟨kdMode r.desc, kdSat r.desc, r.draw⟩

/-- The weights of an entry are read by the kernel with descriptor d. -/
def Loads.weights (l : Loads) (n : Nat) (d e : Bytes) : Loads × Weights :=
  let wide := (wideTiling e).size (reModel e)
  let g := l.matrix n d (reGate e) wide
  let u := g.1.matrix n d (reUp e) wide
  let w := u.1.matrix n d (reDown e) ((tallTiling e).size (reFf e))
  (w.1, ⟨g.2, u.2, w.2⟩)

/-- What a message's work gives: the state, its ARITH_FLAGS, the first poisoned address that it consumed, whether an output
is poisoned, and its result's place. -/
structure SvcDone where
  st : State
  flags : Nat
  first : Option PA
  bad : Bool
  dataAddr : PA
  dataLen : Nat
  deriving DecidableEq, Repr

/-- Bytes 0x60 to 0x7F of an entry are written. -/
def State.entryTail (s : State) (a tokens steps flags last : Nat) (tag : Tag) : State :=
  s.writeRange (BitVec.ofNat 56 (a + 0x60))
    (leBytes 4 tokens ++ leBytes 4 steps ++ leBytes 1 flags ++ leBytes 7 0 ++ leBytes 8 last ++ leBytes 8 0) tag

/-- A forward message's work (R203, R204). -/
def State.expFwd (s : State) (n : Nat) (r : Running) (m e : Bytes) (lost : List Nat) : Except State SvcDone :=
  let k := coreConsumer n (kdTag r.desc)
  let t := msgTokens m
  let dm := reModel e
  let xf := bufFmt (msgInType m)
  let yf := bufFmt (msgOutType m)
  let x := ((⟨s, none, none⟩ : Loads)).get (msgIn m) (t * dm * (xf.width / 8)) k
  let w := x.1.weights n r.desc e
  let tail := w.1.get (entryAt m (msgIndex m)) 128 k
  match tail.1.wait with
  | some _ => .error (tail.1.settle k.tag)
  | none =>
    let o := forward e w.2 lost r.rounding (activations x.2 xf t dm)
    let y := storeCells yf (r.rounding.tensor 2) 0 o.y.flatten
    let out := y.take (t * dm)
    let base := msgSave m
    let saved := msgFlags m
    let xs := (o.x.lines.take t).flatten
    let gs := (o.g.take t).flatten
    let us := (o.u.take t).flatten
    let q := tail.1.st.putAll ([(msgOut m, yf.width / 8, out)] ++ (if saved = 0 then [] else [(base + 0x1000, actSize e, xs)]) ++
      (if saved = 1 then [(base + saveG m e, 4, gs), (base + saveU m e, 4, us)] else [])) k
    let head := leBytes 4 (msgIndex m) ++ leBytes 4 (msgMicro m) ++ leBytes 4 (fieldLe tail.2.data 0x64 4) ++ leBytes 4 t ++ leBytes 1 saved ++
      leBytes 1 1 ++ List.replicate 46 0
    let s := if saved = 0 then q.1 else q.1.writeRange (BitVec.ofNat 56 base) head (kdTag r.desc)
    let kept := if saved = 1 then infFlags gs ||| infFlags us else 0
    if q.2 then .error s else
    .ok ⟨s, rowFlags y ||| kept, tail.1.first, out.any Cell.bad || (saved != 0 && (xs.any Cell.bad || (saved == 1 && (gs.any Cell.bad || us.any Cell.bad)))),
      BitVec.ofNat 56 (msgOut m), t * dm * (yf.width / 8)⟩

/-- A matrix of rows × cols FP32 values from a range. -/
def Src.mat (x : Src) (off rows cols : Nat) : Mat := Mat.ofFn rows cols (fun i j => x.elem (off + 4 * (i * cols + j)) 4)

/-- A backward message's work (R205 to R207). With a poisoned header everything depends on poison. -/
def State.expBwd (s : State) (n : Nat) (r : Running) (m e : Bytes) (headBad : Bool) (lost : List Nat) : Except State SvcDone :=
  let k := coreConsumer n (kdTag r.desc)
  let t := msgTokens m
  let dm := reModel e
  let ff := reFf e
  let yf := bufFmt (msgInType m)
  let xf := bufFmt (msgOutType m)
  let ea := entryAt m (msgIndex m)
  let es := actSize e
  let h := ((⟨s, none, none⟩ : Loads)).get (msgSave m) 64 k
  let keep := fieldLe h.2.data 16 1 == 1
  let dy := h.1.get (msgIn m) (t * dm * (yf.width / 8)) k
  let xs := dy.1.get (msgSave m + 0x1000) (t * dm * es) k
  let gs := if keep then xs.1.get (msgSave m + saveG m e) (4 * t * ff) k else (xs.1, Src.none)
  let us := if keep then gs.1.get (msgSave m + saveU m e) (4 * t * ff) k else (gs.1, Src.none)
  let w := us.1.weights n r.desc e
  let tail := w.1.get ea 128 k
  let tokens := fieldLe tail.2.data 0x60 4
  let train := reOpt e != 0
  let load := train && tokens != 0
  let acc := if load then tail.1.get (reGrad e) (12 * dm * ff) k else (tail.1, Src.none)
  match acc.1.wait with
  | some _ => .error (acc.1.settle k.tag)
  | none =>
    let pad (cols : Nat) : Mat := if t % 128 = 0 then [] else [List.replicate cols cell0]
    let mark (x : Mat) : Mat := if headBad then x.spoil (fun _ => true) else x
    let xp := Mat.ofFn t dm (fun i j => xs.2.elem ((i * dm + j) * es) es) ++ pad dm
    let gu := if keep then (gs.2.mat 0 t ff ++ pad ff, us.2.mat 0 t ff ++ pad ff)
      else gateUp e w.2 lost ⟨(actType e).fmt, false, xp, []⟩
    let grads : Grads := if load then ⟨acc.2.mat 0 dm ff, acc.2.mat (4 * dm * ff) dm ff, acc.2.mat (8 * dm * ff) ff dm⟩ else ⟨[], [], []⟩
    let o := backward e w.2 lost r.rounding t (mark (activations dy.2 yf t dm)) (mark xp) (gu.1.spoil (lostColumn e lost)) (gu.2.spoil (lostColumn e lost)) grads
    let dx := storeCells xf (r.rounding.tensor 3) 0 o.dx.flatten
    let out := dx.take (t * dm)
    let gcells := match o.grads with | some g => g.gate.flatten ++ g.up.flatten ++ g.down.flatten | none => []
    let q := acc.1.st.putAll ((msgOut m, xf.width / 8, out) :: (if train then [(reGrad e, 4, gcells)] else [])) k
    let dfl := fieldLe tail.2.data 0x68 1
    let dfl := if gcells.any Cell.bad then dfl ||| 1 else dfl
    let s := q.1.entryTail ea (clampTo (2 ^ 32 - 1) (tokens + t)) (fieldLe tail.2.data 0x64 4) dfl (fieldLe tail.2.data 0x70 8) (kdTag r.desc)
    let s := s.writeRange (BitVec.ofNat 56 (msgSave m + 17)) [0] (kdTag r.desc)
    if q.2 then .error s else
    .ok ⟨s, o.flags ||| rowFlags dx ||| infFlags gcells, acc.1.first, out.any Cell.bad || gcells.any Cell.bad, BitVec.ofNat 56 (msgOut m),
      t * dm * (xf.width / 8)⟩

/-! ## The close (R208 to R213) -/

/-- The parts of an entry's state area, in bytes from STATE_BASE (R209). -/
structure Parts where
  count : Nat
  fmt : NumFmt
  vfmt : NumFmt
  m : Nat
  v : Nat
  scale : Nat
  deriving DecidableEq, Repr

/-- The parts of an entry. -/
def partsOf (e : Bytes) : Parts :=
  let c := 3 * reModel e * reFf e
  let x : NumFmt := if reFmt e = 0 then .fp32 else .bf16
  let y : NumFmt := if reFmt e = 0 then .fp32 else if reFmt e = 1 then .bf16 else .e4m3
  let n := align4K (c * (x.width / 8))
  ⟨c, x, y, n, 2 * n, 2 * n + align4K (c * (y.width / 8))⟩

/-- What a close has done so far; held says that a write must wait. -/
structure CloseAcc where
  st : State
  wait : Option AnyRead
  held : Bool
  first : Option PA
  flags : Nat
  bad : Bool
  stepped : Nat
  skipped : Nat
  stale : Nat
  inited : Nat
  deriving DecidableEq, Repr

/-- The reads of one entry's work. -/
def CloseAcc.loads (c : CloseAcc) : Loads := ⟨c.st, c.wait, c.first⟩

/-- Values read as an array of a format, as FP32. -/
def Src.array (x : Src) (fmt : NumFmt) (count : Nat) : List Cell :=
  (List.range count).map (fun i => (x.elem (i * (fmt.width / 8)) (fmt.width / 8)).widen fmt)

/-- An array cut in rows. -/
def rowsOf (rows cols : Nat) (l : List Cell) : Mat := (List.range rows).map (fun i => (l.drop (i * cols)).take cols)

/-- Element i of an entry's arrays belongs to a core whose share is lost. -/
def lostElem (e : Bytes) (lost : List Nat) (i : Nat) : Bool :=
  let one := reModel e * reFf e
  lostColumn e lost (if i / one < 2 then i % one % reFf e else i % one / reModel e)

/-- Marks what lost shares would have computed. -/
def spoilLost (e : Bytes) (lost : List Nat) (cs : List Cell) : List Cell :=
  if lost.isEmpty then cs else cs.zipIdx.map (fun c => if lostElem e lost c.2 then { c.1 with bad := true } else c.1)

/-- What writing the working weights has done: the state, the number of tiles left stale, the values, and whether a write must
wait. -/
structure WeightsOut where
  st : State
  stale : Nat
  cells : List Cell
  held : Bool
  deriving DecidableEq, Repr

/-- The working weights: master converted to the weight type under RNE with SAT = 1, tile by tile (R212). -/
def State.writeWeights (s : State) (e : Bytes) (master : List Cell) (k : Consumer) : WeightsOut :=
  let x := (reElem e).fmt
  let n := x.width / 8
  let w := master.map (fun c => c.conv x .rne true)
  let one := reModel e * reFf e
  let mats := [(reGate e, reModel e, reFf e, 0), (reUp e, reModel e, reFf e, one), (reDown e, reFf e, reModel e, 2 * one)]
  mats.foldl (fun (st : WeightsOut) mt =>
    let t := tilingOf (reElem e) mt.2.2.1
    let rows := rowsOf mt.2.1 mt.2.2.1 ((w.drop mt.2.2.2).take one)
    (List.range (mt.2.1 / 32)).foldl (fun st kb =>
      (List.range t.data).foldl (fun st i =>
        let cells := ((rows.drop (32 * kb)).take 32).flatMap (fun r => (r.drop (i * t.c)).take t.c)
        let q := st.st.putCells (mt.1 + t.tileAt kb i) n cells k
        { st with st := q.1, stale := if q.2.left then st.stale + 1 else st.stale, held := st.held || q.2.wait }) st) st) ⟨s, 0, w, false⟩

/-- The weights of an entry as one array of FP32 values in matrix order. -/
def weightArray (e : Bytes) (w : Weights) : List Cell :=
  let x := (reElem e).fmt
  let wide := wideTiling e
  let tall := tallTiling e
  ((Mat.ofFn (reModel e) (reFf e) (fun i j => wide.elem w.gate i j)).flatten ++
    (Mat.ofFn (reModel e) (reFf e) (fun i j => wide.elem w.up i j)).flatten ++
    (Mat.ofFn (reFf e) (reModel e) (fun i j => tall.elem w.down i j)).flatten).map (fun c => c.widen x)

/-- FP8 second moments as FP32: each element times the scale of its block of 4,096. -/
def fp8Moments (v scales : Src) (count : Nat) : List Cell :=
  (List.range count).map (fun i =>
    let a := v.elem i 1
    let b := scales.elem (i / 4096) 1
    let r : Num := if b.v = 255 then .nan else (NumFmt.e4m3.value a.v).scale ((b.v : Int) - 127)
    ⟨toF32 r, a.bad || b.bad, flagIf (b.v = 255) flNanIn⟩)

/-- The vectors of Adafactor for the three matrices: byte offset, K and N. -/
def factorPlaces (e : Bytes) : List (Nat × Nat × Nat) :=
  let d := reModel e
  let f := reFf e
  [(0, d, f), (4 * (d + f), d, f), (8 * (d + f), f, d)]

/-- Case 1 of R208: INIT_STATE. -/
def CloseAcc.init (c : CloseAcc) (i a : Nat) (e : Bytes) (r : Running) (lost : List Nat) (k : Consumer) : CloseAcc :=
  let p := partsOf e
  let w := c.loads.weights k.unit r.desc e
  let master := spoilLost e lost (storeCells p.fmt (r.rounding.tensor (4 * i)) 0 (weightArray e w.2))
  let n := p.fmt.width / 8
  let base := reStates e
  let zeros (s : State) (off len : Nat) : State := s.writeRange (BitVec.ofNat 56 (base + off)) (List.replicate len 0) k.tag
  let q := if reOpt e = 0 then (w.1.st, false) else w.1.st.putAll [(base, n, master)] k
  let s := if reOpt e = 0 then q.1
    else
      let s := zeros q.1 p.m (p.count * n)
      if reOpt e = 1 then
        let s := zeros s p.v (p.count * (p.vfmt.width / 8))
        if reFmt e = 2 then zeros s p.scale (p.count / 4096) else s
      else if reOpt e = 4 then zeros s p.v (12 * (reModel e + reFf e))
      else s
  let s := s.entryTail a 0 0 0 s.count k.tag
  { c with st := s, wait := w.1.wait, held := c.held || q.2, first := w.1.first, flags := c.flags ||| (if reOpt e = 0 then 0 else rowFlags master)
           bad := c.bad || (reOpt e != 0 && master.any Cell.bad), inited := c.inited + 1 }

/-- Case 2: WEIGHTS_ONLY. -/
def CloseAcc.weightsOnly (c : CloseAcc) (a : Nat) (e : Bytes) (lost : List Nat) (k : Consumer) : CloseAcc :=
  let p := partsOf e
  let tail := c.loads.get a 128 k
  let x := if reOpt e = 0 then (tail.1, Src.none) else tail.1.get (reStates e) (p.count * (p.fmt.width / 8)) k
  let master := spoilLost e lost (x.2.array p.fmt p.count)
  let q : WeightsOut := if reOpt e = 0 then ⟨x.1.st, 0, [], false⟩ else x.1.st.writeWeights e master k
  let fl := fieldLe tail.2.data 0x68 1
  let fl := if q.stale = 0 then fl &&& 0xFD else fl ||| 2
  let s := q.st.entryTail a (fieldLe tail.2.data 0x60 4) (fieldLe tail.2.data 0x64 4) fl q.st.count k.tag
  { c with st := s, wait := x.1.wait, held := c.held || q.held, first := x.1.first, flags := c.flags ||| rowFlags q.cells
           bad := c.bad || q.cells.any Cell.bad, stale := c.stale + q.stale }

/-- The new master, m and v of an element-wise optimiser. -/
def stepElems (opt nan : Nat) (h : Hyper) (master m v g : List Cell) : List Elem :=
  let xs := List.zipWith (fun (a : Cell × Cell) b => (⟨a.1, a.2, b⟩ : Elem)) (master.zip m) v
  List.zipWith (fun x g => match opt with | 1 => adamw h x g | 2 => lion nan h x g | _ => sgd h x g) xs g

/-- The state parts that a step leaves: master, m, v, V_SCALE and the factor vectors, as values to write. -/
structure NewState where
  master : List Cell
  m : List Cell
  v : List Cell
  scales : List Cell
  factors : List Cell
  deriving DecidableEq, Repr

/-- The rounding of a part written back (R211). -/
def packState (e : Bytes) (r : Rounding) (i : Nat) (xs : List Elem) : NewState :=
  let p := partsOf e
  let master := storeCells p.fmt (r.tensor (4 * i)) 0 (xs.map Elem.master)
  let m := storeCells p.fmt (r.tensor (4 * i + 1)) 0 (xs.map Elem.m)
  let vs := xs.map Elem.v
  let rv := r.tensor (4 * i + 2)
  if reOpt e ≠ 1 then ⟨master, m, [], [], []⟩
  else if reFmt e = 2 then
    let q := (List.range (p.count / 4096)).map (fun b =>
      cellsMx .e4m3 (((vs.drop (4096 * b)).take 4096).zipIdx.map (fun c => (c.1, rv.at (4096 * b + c.2)))))
    ⟨master, m, q.flatMap (fun b => b.2), q.map (fun b => b.1), []⟩
  else ⟨master, m, storeCells p.vfmt rv 0 vs, [], []⟩

/-- Case 5 for Adafactor: each matrix in turn. -/
def factorStep (e : Bytes) (r : Rounding) (i : Nat) (h : Hyper) (vecs : Src) (master m g : List Cell) : NewState :=
  let one := reModel e * reFf e
  let p := partsOf e
  let rs := (factorPlaces e).zipIdx.map (fun pl =>
    let kk := pl.1.2.1
    let nn := pl.1.2.2
    let cut (l : List Cell) : Mat := rowsOf kk nn ((l.drop (pl.2 * one)).take one)
    let vec (o n : Nat) : List Cell := (List.range n).map (fun j => vecs.elem (pl.1.1 + 4 * (o + j)) 4)
    adafactor h kk nn ⟨vec 0 kk, vec kk nn⟩ (cut master) (cut m) (cut g))
  ⟨storeCells p.fmt (r.tensor (4 * i)) 0 (rs.flatMap (fun x => x.2.1.flatten)),
    storeCells p.fmt (r.tensor (4 * i + 1)) 0 (rs.flatMap (fun x => x.2.2.flatten)), [], [],
    rs.flatMap (fun x => x.1.vr ++ x.1.vc)⟩

/-- Case 5 of R208: one optimiser step. -/
def CloseAcc.optimise (c : CloseAcc) (i a : Nat) (e tailBytes : Bytes) (r : Running) (hyper : Src) (lost : List Nat) (nan : Nat) (k : Consumer) : CloseAcc :=
  let p := partsOf e
  let n := p.fmt.width / 8
  let base := reStates e
  let steps := (fieldLe tailBytes 0x64 4 + 1) % 2 ^ 32
  let h := hyperOf hyper (reHset e) steps
  let useM := !(reOpt e == 4 && (f32 h.beta1.v).isZero)
  let x := c.loads.get base (p.count * n) k
  let y := if useM then x.1.get (base + p.m) (p.count * n) k else (x.1, Src.none)
  let vlen := if reOpt e = 1 then p.count * (p.vfmt.width / 8) else if reOpt e = 4 then 12 * (reModel e + reFf e) else 0
  let v := if vlen = 0 then (y.1, Src.none) else y.1.get (base + p.v) vlen k
  let sc := if reOpt e = 1 ∧ reFmt e = 2 then v.1.get (base + p.scale) (p.count / 4096) k else (v.1, Src.none)
  let g := sc.1.get (reGrad e) (4 * p.count) k
  let grad := spoilLost e lost ((g.2.array .fp32 p.count).map (fun q => cmul q h.scale))
  let master := x.2.array p.fmt p.count
  let m := y.2.array p.fmt p.count
  let new :=
    if reOpt e = 4 then factorStep e r.rounding i h v.2 master m grad
    else
      let vs := if reOpt e ≠ 1 then master.map (fun _ => cell0)
        else if reFmt e = 2 then fp8Moments v.2 sc.2 p.count else v.2.array p.vfmt p.count
      packState e r.rounding i (stepElems (reOpt e) nan h master m vs grad)
  let parts := [(base, n, new.master)] ++ (if useM then [(base + p.m, n, new.m)] else []) ++
    (if reOpt e = 1 then [(base + p.v, p.vfmt.width / 8, new.v)] else []) ++
    (if new.scales.isEmpty then [] else [(base + p.scale, 1, new.scales)]) ++
    (if reOpt e = 4 then [(base + p.v, 4, new.factors)] else [])
  let w := g.1.st.putAll parts k
  let q := w.1.writeWeights e (new.master.map (fun c => c.widen p.fmt)) k
  let fl := fieldLe tailBytes 0x68 1
  let s := q.st.entryTail a 0 steps (if q.stale = 0 then fl else fl ||| 2) q.st.count k.tag
  let all := new.master ++ (if useM then new.m else []) ++ new.v ++ new.scales ++ new.factors ++ q.cells
  { c with st := s, wait := g.1.wait, held := c.held || w.2 || q.held, first := g.1.first, flags := c.flags ||| rowFlags all
           bad := c.bad || all.any Cell.bad, stepped := c.stepped + 1, stale := c.stale + q.stale }

/-- One visited entry: the first case of R208 that applies. Its bytes from 0x60 on are read in place (R196). -/
def CloseAcc.visit (c : CloseAcc) (m : Bytes) (x : ExpEntry) (r : Running) (hyper : Src) (lost : List Nat) (nan n : Nat) (k : Consumer) : CloseAcc :=
  let e := x.bytes
  let t := c.loads.get x.at_ 128 k
  let tail := (fieldLe t.2.data 0x60 4, fieldLe t.2.data 0x64 4, fieldLe t.2.data 0x68 1)
  let c1 := { c with st := t.1.st, wait := t.1.wait, first := t.1.first, bad := c.bad || !t.2.poison.isEmpty }
  if msgFlags m = 1 then c.init x.index x.at_ e r lost k
  else if msgFlags m = 2 then c.weightsOnly x.at_ e lost k
  else if reOpt e = 0 ∨ tail.1 = 0 then c1
  else if tail.2.2.testBit 0 then
    let s := c1.st.entryTail x.at_ 0 tail.2.1 (tail.2.2 &&& 0xFE) c1.st.count k.tag
    { c1 with st := s.poisonNamed (coreEvent 0x0744 n k.tag 6 x.at_ 0), skipped := c1.skipped + 1 }
  else c1.optimise x.index x.at_ e t.2.data r hyper lost nan k

/-- A close's work on the entries that its copy names. -/
def State.expClose (s : State) (n : Nat) (r : Running) (m : Bytes) (es : List ExpEntry) (lost : List Nat) : Except State SvcDone :=
  let k := coreConsumer n (kdTag r.desc)
  let h := ((⟨s, none, none⟩ : Loads)).get (msgIn m) 1024 k
  let nan := Config.freeNat s.free % 2 ^ 32
  let c0 : CloseAcc := ⟨h.1.st.bump, h.1.wait, false, if msgFlags m = 0 then h.1.first else none, 0, false, 0, 0, 0, 0⟩
  let c := es.foldl (fun c x => CloseAcc.visit c m x r h.2 lost nan n k) c0
  match c.wait, c.held with
  | some _, _ => .error (c.loads.settle k.tag)
  | none, true => .error c.st
  | none, false =>
    let sum := leBytes 4 c.stepped ++ leBytes 4 c.skipped ++ leBytes 4 c.stale ++ leBytes 4 c.inited ++ List.replicate 48 0
    let s := c.st.writeRange (BitVec.ofNat 56 (msgOut m)) sum k.tag
    .ok ⟨s, c.flags, c.first, c.bad, BitVec.ofNat 56 (msgOut m), 64⟩

/-! ## Ending (R179, R200) -/

/-- A service kernel has done its work: its poison is reported and step 1 of R179 done, and then it ends. When something must
be repaired first, nothing has happened but the start of the repair. -/
def State.svcEnd (s0 : State) (n : Nat) (r : Running) (time : KernelTime) (d : SvcDone) : State :=
  let p := d.st.kernelPoison n r d.first
  let r := { p.2 with flags := r.flags ||| d.flags, badOut := r.badOut || d.bad }
  match p.1.kernelOutputs n r { dataAddr := d.dataAddr, dataLen := d.dataLen, time := time } with
  | (s, none) => s0.retry s
  | (s, some e) => s.kernelEnd n r e

/-- The work of a checked message. -/
def State.svcBody (s : State) (kind : SvcKind) (n : Nat) (r : Running) (m : Bytes) (es : List ExpEntry) (headBad : Bool) (lost : List Nat) : Except State SvcDone :=
  let e : Bytes := match es with | x :: _ => x.bytes | [] => []
  match kind with
  | .fwd => s.expFwd n r m e lost
  | .bwd => s.expBwd n r m e headBad lost
  | .close => s.expClose n r m es lost

/-- The work of a checked message, and its end. -/
def State.svcWork (s : State) (kind : SvcKind) (n : Nat) (r : Running) (m : Bytes) (es : List ExpEntry) (headBad : Bool) (lost : List Nat)
    (time : KernelTime) : State :=
  match s.svcBody kind n r m es headBad lost with
  | .error t => s.retry t
  | .ok d => s.svcEnd n r time { d with bad := d.bad || !lost.isEmpty }

/-! ## Partners (R192, R194) -/

/-- The barrier of a lead. -/
def svcBarrier (lead : Nat) : Nat := 48 + lead

/-- The descriptor of a partner kernel. -/
def partnerDesc (d : Bytes) (lead plan : Nat) : Bytes :=
  slice d 0 7 ++ leBytes 1 0 ++ leBytes 8 0 ++ slice d 0x10 12 ++ leBytes 10 0 ++ leBytes 2 0xFFFF ++ leBytes 2 0xFFFF ++ leBytes 2 0xFFFF ++
    leBytes 4 0 ++ leBytes 1 (svcBarrier lead) ++ leBytes 3 0 ++ leBytes 4 plan ++ leBytes 8 0

/-- The cores of the group whose entries a message has, apart from its lead. -/
def partnersOf (n : Nat) (es : List ExpEntry) : List Nat :=
  match es with
  | x :: _ => (coresOf (reMask x.bytes)).filter (fun c => c != n)
  | [] => []

/-- The lead posts its partners and waits; none while a partner's device queue is full. A fenced partner's entry is
discarded at once (R180). -/
def State.postPartners (s : State) (n : Nat) (r : Running) (m : Bytes) (es : List ExpEntry) (ps : List Nat) (plans : List (Nat × Nat)) : Option State :=
  if ps.any (fun c => !s.coreFenced c && decide (64 ≤ (s.core c).depth)) then none
  else
    let b := svcBarrier n
    let s := if s.f (F.SLOT_BARRIER_ARRIVED b) = 0 then s.setF (F.SLOT_BARRIER_COUNT b) ps.length else s
    let w : ExpWait := ⟨s.f (F.SLOT_BARRIER_GEN b), [], m, es⟩
    let s := s.setCore n { s.core n with running := some { r with exp := some w } }
    some (s.forEach ps (fun s c =>
      let plan := ((plans.find? (fun p => p.1 == c)).map (fun p => p.2)).getD (2 ^ 32 - 1)
      let d := partnerDesc r.desc n plan
      if s.coreFenced c then s.discardEntry c d (.expert n) else (s.dqPost c d (.expert n)).getD s))

/-! ## The commands -/

/-- The running service kernel of a kind on a core that is its group's lead by its ring and does not wait. -/
def State.svcRunning (s : State) (kind : SvcKind) (n : Nat) : Option Running :=
  match (s.core n).running with
  | some r => if kdKernel r.desc = kind.kernel ∧ r.producer.isNone ∧ !s.coreFenced n ∧ !s.comparing n r ∧ (s.stallOf n).isNone then some r else none
  | none => none

/-- A message runs: its checks; then alone its work and its end, or with partners their posting (R192, R197). -/
def State.svcRun (s : State) (kind : SvcKind) (n : Nat) (plans : List (Nat × Nat)) (time : KernelTime) : State :=
  match s.svcRunning kind n with
  | none => s
  | some r =>
    if r.exp.isSome then s
    else
      match s.svcCheck kind n r with
      | .wait q => s.readWaits q (kdTag r.desc) 6
      | .spoiled a =>
        let s := s.poisonConsumed (coreEvent 0 n (kdTag r.desc) 6 a.toNat 0)
        s.kernelFinish n r ⟨2, 0, 0, 0, 0, 0⟩
      | .refuse code addr =>
        (s.ledger (coreEvent code n (kdTag r.desc) 6 addr 0)).kernelFinish n r ⟨3, code, 0, 0, 0, 0⟩
      | .ok m es headBad =>
        if (partnersOf n es).isEmpty then s.svcWork kind n r m es headBad [] time
        else (s.postPartners n r m es (partnersOf n es) plans).getD s

/-- The barrier's generation has completed: the lead combines and ends. -/
def State.svcCombine (s : State) (n : Nat) (time : KernelTime) : State :=
  match (s.core n).running with
  | none => s
  | some r =>
    match r.exp, svcKindOf (kdKernel r.desc) with
    | some w, some kind =>
      if s.coreFenced n || s.comparing n r || (s.stallOf n).isSome || s.f (F.SLOT_BARRIER_GEN (svcBarrier n)) == w.gen then s
      else
        let h := ((⟨s, none, none⟩ : Loads)).get (msgSave w.msg) 64 (coreConsumer n (kdTag r.desc))
        s.svcWork kind n r w.msg w.entries (kind == .bwd && h.1.first.isSome) w.bad time
    | _, _ => s

/-- EXP_FWD on core n: the stream plans paired with the service for its partners, and the time it took (R203). -/
def execExpFwd (n : Fin 16) (plans : List (Nat × Nat)) (time : KernelTime) (s : State) : Host.Outcome State Fault Refusal :=
  .next (s.underCore n (fun s => s.svcRun .fwd n plans time))
/-- EXP_BWD (R205). -/
def execExpBwd (n : Fin 16) (plans : List (Nat × Nat)) (time : KernelTime) (s : State) : Host.Outcome State Fault Refusal :=
  .next (s.underCore n (fun s => s.svcRun .bwd n plans time))
/-- EXP_CLOSE (R208). -/
def execExpClose (n : Fin 16) (plans : List (Nat × Nat)) (time : KernelTime) (s : State) : Host.Outcome State Fault Refusal :=
  .next (s.underCore n (fun s => s.svcRun .close n plans time))
/-- EXP_GROUP_COMBINE (R192). -/
def execExpGroupCombine (n : Fin 16) (time : KernelTime) (s : State) : Host.Outcome State Fault Refusal :=
  .next (s.underCore n (fun s => s.svcCombine n time))

end Sys2Proof.Machine
end

