-- ==== Sys2Proof/Machine/Jx.lean ====
section
/-! DEFINITION. Serving a request: the checks at acceptance, the decode by space, reads and writes of every kind of memory,
what a request waits for, and its completion (R36, R57, R61 to R66, R85 to R89, R106, R139, R185, R226, R233 to R239). The
host endpoint's accesses are served in the same way (R440). -/

namespace Sys2Proof.Machine

/-- How far serving a request has come: its final status with the poisoned grains and the data, or what it waits for and
whether it is deferred at once. -/
inductive Served where
  | done (status mask : Nat) (data : Bytes)
  | waits (w : Wait) (now : Bool)
  deriving DecidableEq, Repr

/-- A final status without data. -/
def endsWith (status : Nat) : Served := .done status 0 []

/-! ## What the surroundings do with an access -/

/-- An extent entry in which a read met an uncorrectable word is recorded and revoked (R364). -/
def State.extentEcc (s : State) (i : Nat) : State :=
  (s.ledger { code := 0x0806, addr := i }).extentRevoke i

/-- The rows that an access activates, the ports where it waited longer than its target, and the damaged and the corrected
control words that it met. -/
def State.applyEnv (s : State) (tag : Tag) (env : AccessEnv) : State :=
  let s := s.forEach env.acts State.activate
  let s := s.forEach env.overTarget (fun s p => s.latMiss p tag)
  let s := s.forEach env.slotErrors (fun s i => s.slotDamaged i tag)
  let s := if env.secded = 0 then s else s.addF F.LDG_SECDED_CE_COUNT env.secded
  s.forEach env.extentErrors State.extentEcc

/-! ## Reads -/

/-- Who decodes a tile for a request: one of the 48 egress expanders of the port's die (R14, R23), or the host endpoint. Which
of the 48 serves a request the spec does not say: it is free. -/
def OpenReq.consumer (o : OpenReq) (op : Nat) : Consumer :=
  if o.host.isSome then ⟨14, 0, op, o.req.tag⟩
  else ⟨5, 48 * dieOfPort o.req.port + Config.expander o.id % 48, op, o.req.tag⟩

/-- The die whose base cache serves a request (R138). -/
def OpenReq.die (o : OpenReq) : Nat := if o.host.isSome then 0 else dieOfPort o.req.port

/-- A read whose bytes are here: with poison it is reported once under its tag (R377). -/
def State.readGives (s : State) (o : OpenReq) (data : Bytes) (bad : List Nat) (first : Option PA) : State × Served :=
  if bad.isEmpty then (s, .done stOk 0 data)
  else
    let e := readEvent o
    (s.poisonConsumed (match first with | some a => { e with addr := a.toNat } | none => e), .done stPoison (poisonMask bad) data)

/-- A read that cannot end yet: it waits for a repair, which starts, or for a store's re-fetch or a table's install. -/
def State.readHeld (s : State) (o : OpenReq) (r : AnyRead) : State × Served :=
  match r.repair with
  | some g => (s.startRepair g o.req.tag 1, .waits (.repair g) false)
  | none => (s, .waits .busy false)

/-- The tile that holds an address of a PACKED logical range. -/
def State.tileOf (s : State) (a : PA) : Option TileRef :=
  if spaceOf a ≤ 2 then (s.packedAt (spaceOf a) (pageOf a)).map (fun r => tileAt r a) else none

/-- A pass-through read (R139): the tile as it is stored. -/
def State.readPass (s : State) (o : OpenReq) (x : TileRef) : State × Served :=
  match s.storedTile x (o.consumer 1) with
  | (s, .bytes bs bad f) => s.readGives o bs (if bad then List.range 32 else []) f
  | (s, .empty) => (s, endsWith stDenied)
  | (s, .repair g) => (s.startRepair g o.req.tag 1, .waits (.repair g) false)

/-- An ordinary read of a part of a tile (R85, R138). -/
def State.readTile (s : State) (o : OpenReq) (x : TileRef) : State × Served :=
  let k := o.consumer 1
  let q := o.req
  match s.decodeTile x k (some o.die) with
  | (s, .plain bs bad f _) =>
    let off := q.addr.toNat % 4096
    let lo := off / 128
    let bad := (bad.filter (fun g => decide (lo ≤ g) && decide (128 * g < off + q.len))).map (fun g => g - lo)
    s.readGives o (slice bs off q.len) bad f
  | (s, .empty) => (s, endsWith stDenied)
  | (s, .wait _) => (s, .waits .busy false)
  | (s, .repair g) => (s.startRepair g q.tag 1, .waits (.repair g) false)

/-- A read of PLAIN memory or of a store. A read that resumes after a repair has touched its lines already. -/
def State.readPlain (s : State) (o : OpenReq) (again : Bool) : State × Served :=
  let q := o.req
  let r := if again then (pieces q.addr q.len).foldl (fun st p => State.readPiece st 1 q.tag p) (s, (⟨[], [], none, none⟩ : RangeRead))
    else s.readRange q.addr q.len 1 q.tag
  let bad := r.2.poison.map (fun p => (p.toNat - 128 * (q.addr.toNat / 128)) / 128)
  match r.2.repair, r.2.refetch with
  | none, none => r.1.readGives o r.2.data bad r.2.poison.head?
  | rep, ref => r.1.readHeld o { AnyRead.empty with repair := rep, refetch := ref }

/-- A read of memory. In DETACHED mirrored reads are refused; a read that the partner answers goes out as a request of the
device's own (Table 18-1, R420). -/
def State.serveRead (s : State) (o : OpenReq) (again : Bool) : State × Served :=
  let q := o.req
  if spaceOf q.addr = 3 then (s, .waits .vault true)
  else if spaceOf q.addr ≤ 2 ∧ s.touchesMirror q.addr q.len ∧ s.pairState = psDetached then (s, endsWith stDenied)
  else if s.readsByPartner q.addr q.len then
    match s.mirror with
    | some m => (s.ownRead m.partnerNode q.tag q.addr q.len (.mirrorRead o.id) false, .waits .senior false)
    | none => (s, endsWith stDenied)
  else
    match s.tileOf q.addr with
    | some x => if q.pass then s.readPass o x else s.readTile o x
    | none => s.readPlain o again

/-! ## Writes -/

/-- Whether a grain that a range touches lies on a fenced channel, in a fenced cluster or in the store of a fenced unit (R15,
R18, R274). -/
def State.touchesFencedGrain (s : State) (a : PA) (n : Nat) : Bool :=
  (spaceOf a == 4 && (pieces a n).any (fun p => s.storeFenced (offsetOf p.1))) ||
  decide (spaceOf a ≤ 2) && (pieces a n).any (fun p =>
    let home := if spaceOf a = 0 then s.undLoc (ownerOf (pageOf p.1)) (2 ^ 21 * localPage (pageOf p.1) + offsetOf p.1 % 2 ^ 21) else s.loc (grainOf p.1)
    (match home with | some l => s.unitFenced l.unit | none => false) ||
      (match s.loc (grainOf p.1) with | some l => s.unitFenced l.unit | none => false))

/-- The first grain of a range that is under repair (R370). -/
def State.grainHeld (s : State) (a : PA) (n : Nat) : Option PA :=
  ((pieces a n).find? (fun p => s.repairing p.1)).map (fun p => grainOf p.1)

/-- A write to PLAIN memory or a store takes effect. -/
def State.writePlain (s : State) (o : OpenReq) : State × Served :=
  let q := o.req
  let s := s.writeRange q.addr q.data q.tag
  (s.forEach o.badGrains (fun s g => s.poisonPool (BitVec.ofNat 56 (q.addr.toNat + 128 * g))), endsWith stOk)

/-- A write to a tile: EMPTY is DENIED, a compressed or unreadable tile goes through write-expand, and an EXPANDED one is
written in its slot (R86, R106, R376). -/
def State.writeTileReq (s : State) (o : OpenReq) (x : TileRef) : State × Served :=
  let q := o.req
  let k := o.consumer 2
  match s.readDir x k with
  | (s, .repair g) => (s.startRepair g q.tag 2, .waits (.repair g) false)
  | (s, .unreadable _) => (s, .waits .expand true)
  | (s, .entry e) =>
    match e.state with
    | 1 => (s, .waits .expand true)
    | 2 =>
      let b : PA := BitVec.ofNat 56 ((x.expAddr e.loc).toNat + q.addr.toNat % 4096)
      if s.touchesFencedGrain b q.len then (s, endsWith stDenied)
      else
        match s.grainHeld b q.len with
        | some g => (s, .waits (.repair g) false)
        | none => ((s.writeTile x.region q.addr q.data o.badGrains k).1, endsWith stOk)
    | _ => (s, endsWith stDenied)

/-- What becomes of a write to mirrored memory in the present pair state (Table 18-1); none where it is a local write. -/
def State.writeMirrored (s : State) (o : OpenReq) : Option (State × Served) :=
  let q := o.req
  let st := s.pairState
  if st = psForming ∨ st = psDetached ∨ st = psSplit then some (s, endsWith stDenied)
  else if st = psHeld then some (s, .waits .pairHeld true)
  else if s.mirroring then
    let empty := match s.tileOf q.addr with | some x => !s.touchesFenced q.addr q.len && (s.peekDir x).state == 0 && !s.dirUnreadable x | none => false
    if empty then some (s, endsWith stDenied)
    else
      let packed := (s.tileOf q.addr).isSome
      let id := s.nextId
      some (s.mirrorStart q.addr q.data o.badGrains q.tag (some o.id) none none, .waits (.mirror id) packed)
  else none

/-- A write of memory. A page of a directory, heap or expansion area is not written by requests (R106). -/
def State.serveWrite (s : State) (o : OpenReq) : State × Served :=
  let q := o.req
  let a := q.addr
  let away := s.mirroring && s.touchesMirror a q.len && s.touchesFenced a q.len
  if spaceOf a = 3 then (s, .waits .vault true)
  else if (s.tileOf a).isNone && s.touchesRegionArea a q.len then (s, endsWith stDenied)
  else if (s.tileOf a).isNone && !away && s.touchesFencedGrain a q.len then (s, endsWith stDenied)
  else
    match s.grainHeld a q.len with
    | some g => (s, .waits (.repair g) false)
    | none =>
      match (if spaceOf a ≤ 2 ∧ s.touchesMirror a q.len then s.writeMirrored o else none) with
      | some r => r
      | none =>
        match s.tileOf a with
        | some x => s.writeTileReq o x
        | none => s.writePlain o

/-! ## The control space and the result slots (R36, R37, R185) -/

/-- What a read gives that covers GLB_COUNT: the counter as it stood when the read was accepted (R39). -/
def OpenReq.countShown (o : OpenReq) (data : Bytes) : Bytes :=
  let off := offsetOf o.req.addr
  if off < R.GLB_COUNT + 8 ∧ R.GLB_COUNT < off + o.req.len then
    data.zipIdx.map (fun p =>
      if R.GLB_COUNT ≤ off + p.2 ∧ off + p.2 < R.GLB_COUNT + 8 then
        BitVec.ofNat 8 (o.acceptedAt / 2 ^ (8 * (off + p.2 - R.GLB_COUNT)))
      else p.1)
  else data

/-- A control access of a JX request: its form and its registers have been checked. -/
def State.serveControl (s : State) (o : OpenReq) : State × Served :=
  let q := o.req
  let off := offsetOf q.addr
  if o.kind = .rd ∨ o.kind = .creqRead then
    let r := s.ctrlRead q.src off q.len
    (r.1, if r.2.1 = stOk then .done stOk 0 (o.countShown r.2.2) else endsWith r.2.1)
  else
    let r := s.ctrlWrite q.src off q.data false
    (r.1, endsWith r.2)

/-- A control access of the host: a read gives whatever its registers show, and a write is taken (R36, R37). -/
def State.serveBar0 (s : State) (o : OpenReq) : State × Served :=
  let q := o.req
  let off := offsetOf q.addr
  let early := !s.inService && !earlyBlock off
  if early then (s, .done stOk 0 (List.replicate q.len 0))
  else if !ctrlMapped (off / 8 * 8) then
    ((if s.inService then s.ctrlUnmapped q.src q.tag off else s), .done stOk 0 (List.replicate q.len 0))
  else if o.kind = .rd then
    let r := s.ctrlRead q.src off q.len
    (r.1, .done stOk 0 (o.countShown r.2.2))
  else
    let r := s.ctrlWrite q.src off q.data true
    (r.1, endsWith stOk)

/-- A result-slot access whose form has been checked (Table 7-7). -/
def State.serveSlot (s : State) (o : OpenReq) : State × Served :=
  let q := o.req
  let n := offsetOf q.addr / 64
  if o.kind = .rd ∨ o.kind = .creqRead then
    match s.slotState n with
    | 0 => (s, endsWith stSlotFree)
    | 1 => (s, endsWith stNotReady)
    | _ =>
      let all := (List.range 8).flatMap (fun w => leBytes 8 (s.slotWord n w).toNat)
      (s, .done stOk 0 (slice all (q.addr.toNat % 64) q.len))
  else
    let r := s.slotRelease n (fieldLe q.data 0 4)
    (r.1, endsWith r.2)

/-! ## One attempt (R233, R236, R238, R239, R370, R460) -/

/-- Whether two requests touch one 4 KiB tile. -/
def sameTile (a b : Req) : Bool := spaceOf a.addr ≤ 2 && a.addr.toNat / 4096 == b.addr.toNat / 4096

/-- Whether an earlier request is held for the same grain's repair, behind the same tile's write-expand or for its rewrite by a
mint job, so that held requests are served in the order of acceptance (R87, R129, R370). -/
def State.heldBefore (s : State) (o : OpenReq) : Bool :=
  s.opens.any (fun (p : OpenReq) => decide (p.id < o.id) &&
    (match p.wait with
    | .repair g => o.req.grains.contains (g.toNat / 128)
    | .expand => o.wait == .behindExpand && sameTile p.req o.req
    | .behindExpand => sameTile p.req o.req
    | .mint => sameTile p.req o.req
    | _ => false))

/-- Whether the tile of a request is under an earlier write-expand. -/
def State.behindExpand (s : State) (o : OpenReq) : Bool :=
  (s.tileOf o.req.addr).isSome && s.opens.any (fun (p : OpenReq) => decide (p.id < o.id) && p.wait == .expand && sameTile p.req o.req)

/-- One attempt to serve a request that no earlier one holds back. -/
def State.serveOnce (s : State) (o : OpenReq) (env : AccessEnv) (again : Bool) : State × Served :=
  let q := o.req
  let write := o.kind == .wr || o.kind == .creqWrite
  if o.kind = .flush then (s, endsWith stOk)
  else if spaceOf q.addr = 8 then (if o.host.isSome then s.serveBar0 o else s.serveControl o)
  else if spaceOf q.addr = 9 then s.serveSlot o
  else
    let s := s.applyEnv q.tag env
    if spaceOf q.addr ≤ 3 ∧ s.clusterHeld (ownerOf (pageOf q.addr)) then (s, .waits .busy true)
    else if s.behindExpand o then (s, .waits .behindExpand true)
    else if write && s.mintReads q.addr then (s, .waits .mint true)
    else if env.late then (s, .waits .busy true)
    else if write then s.serveWrite o
    else s.serveRead o again

/-- An open request as it now stands. -/
def State.openAt (s : State) (id : Nat) : Option OpenReq := s.opens.find? (fun (o : OpenReq) => o.id == id)

/-- What an attempt gave: the request ends, or waits. -/
def State.settle (s : State) (id : Nat) (r : Served) : State :=
  match s.openAt id with
  | none => s
  | some o =>
    match r with
    | .done status mask data => s.finish o status mask data
    | .waits w now =>
      let s := s.setWait id w
      if now then s.deferNow { o with wait := w } else s

/-- A request is being served: the lines that it has touched before count no more (R77). -/
def State.touchStart (s : State) (o : OpenReq) : State := { s with canopy := { s.canopy with touched := some o.touched, serving := some o.id } }

/-- The request keeps the lines that it has touched. -/
def State.touchEnd (s : State) (id : Nat) : State :=
  let l := s.canopy.touched.getD []
  { s with canopy := { s.canopy with touched := none, serving := none }
           opens := s.opens.map (fun (o : OpenReq) => if o.id = id then { o with touched := l } else o) }

/-- An attempt for an open request: it waits while it must follow an earlier one; a follower of a deferred request is
deferred at once (R238). -/
def State.attempt (s : State) (id : Nat) (env : AccessEnv) (again : Bool) : State :=
  match s.openAt id with
  | none => s
  | some o =>
    let before := s.opens.filter (fun (p : OpenReq) => decide (p.id < id) && mustFollow o.kind o.req o.host p)
    if !before.isEmpty then s.settle id (.waits .order (before.any (fun p => p.token.isSome)))
    else
      let r := (s.touchStart o).serveOnce o env again
      (r.1.touchEnd id).settle id r.2

/-! ## Acceptance -/

/-- A write that is accepted now, and has not taken effect yet, is noted by the checkpoint entries (R299, R300). -/
def State.writeAccepted (s : State) (k : ReqKind) (q : Req) : State :=
  if !(k == .wr || k == .creqWrite) then s
  else if spaceOf q.addr = 3 then s.ckptDestAccept (pageOf q.addr)
  else if spaceOf q.addr ≤ 2 then s.ckptSource (spaceOf q.addr) (pageOf q.addr)
  else s

/-- The first attempt for a request that has just been opened. -/
def State.firstAttempt (s : State) (id : Nat) (k : ReqKind) (q : Req) (env : AccessEnv) : State :=
  let t := s.attempt id env false
  if (t.openAt id).isSome then t.writeAccepted k q else t

/-- Whether a request breaks the rules of R223, R225 or R226. -/
def badForm (k : ReqKind) (q : Req) : Bool :=
  let n := q.addr.toNat % 4096 + q.len
  q.tag == 0 || (q.relaxed && q.ordered) ||
    (match k with
    | .flush => q.pass || q.len != 0 || q.addr != 0
    | .rd | .wr => q.len == 0 || decide (4096 < q.len) || decide (4096 < n)
    | .creqRead | .creqWrite =>
      q.pass || decide (q.len < 8) || decide (64 < q.len) || !(spaceOf q.addr == 8 || spaceOf q.addr == 9))

/-- Whether a request goes to the pair's identifier and addresses something that is not mirrored (R414). -/
def State.offPair (s : State) (k : ReqKind) (q : Req) : Bool :=
  match s.mirror with
  | some m => q.dst == m.pairNode && k != .flush && !(decide (spaceOf q.addr ≤ 2) && s.allMirrored q.addr q.len)
  | none => false

/-- What a space's decode answers before anything is served; none lets the request go on (R36, R37, R61 to R66, R85,
R139, R185). -/
def State.decodeSpace (s : State) (k : ReqKind) (q : Req) (host : Bool) : State × Option Nat :=
  let off := offsetOf q.addr
  let write := k == .wr || k == .creqWrite
  match spaceOf q.addr with
  | 8 =>
    if host then (s, none)
    else if 0x10000000 < off + q.len then (s, some stDenied)
    else if off % 8 ≠ 0 ∨ q.len % 8 ≠ 0 ∨ 64 < q.len ∨ (blockOf off).1 + (blockOf off).2 < off + q.len then (s, some stUnsupported)
    else if (ctrlWords off q.len).any (fun o => decide (R.POOL_DOOR 0 ≤ o) && decide (o ≤ R.POOL_DOOR 7)) then (s, some stUnsupported)
    else
      match (ctrlWords off q.len).find? (fun o => !ctrlMapped o) with
      | some o => (if s.inService then s.ctrlUnmapped q.src q.tag o else s, some stDenied)
      | none => (s, none)
  | 9 =>
    if 0x40000 < off + q.len then (s, some stDenied)
    else if write then
      (s, if off % 64 = 0 ∧ q.len = 8 ∧ (fieldLe q.data 0 8).testBit 63 then none else some stUnsupported)
    else (s, if off % 8 = 0 ∧ 8 ≤ q.len ∧ q.len ≤ 64 ∧ off % 64 + q.len ≤ 64 then none else some stUnsupported)
  | sp =>
    if 4 < sp ∨ !s.memMapped q.addr q.len then (s, some stDenied)
    else if sp = 3 then
      (s, if write ∧ !s.vaultWritable (pageOf q.addr) then some stDenied else if off % 4096 = 0 ∧ q.len = 4096 then none else some stUnsupported)
    else if q.pass ∧ (s.tileOf q.addr).isSome then
      (s, if write ∨ off % 4096 ≠ 0 ∨ q.len ≠ 4096 then some stUnsupported else none)
    else (s, none)

/-- The epoch attribute of a request (R57): none serves it. -/
def State.epochCheck (s : State) (q : Req) : State × Option Nat :=
  let cur := s.f F.GLB_EPOCH_CURRENT
  if !q.epv ∨ q.epn.val = cur % 16 then (s, none)
  else if q.epn.val = (cur + 1) % 16 ∧ s.f F.GLB_EPOCH_PENDING = 1 then
    let l := s.epoch.heldNodes
    ({ s with epoch := { s.epoch with heldNodes := if l.contains q.src then l else l ++ [q.src] } }, some stEpochHold)
  else
    ((s.setF F.SIT_STATUS_LAST_ERR 0x0720).ledger
        { code := 0x0720, tag := q.tag, die := dieOfPort q.port, unitKind := 1, unit := q.port, addr := q.addr.toNat, src := q.src },
      some stDenied)

/-- The rights of a JX request (R305 to R308, R325). -/
def State.rightsCheck (s : State) (k : ReqKind) (q : Req) : State × Option Nat :=
  match s.rangeRight q.addr q.len q.src (k == .wr || k == .creqWrite) with
  | .granted => (s, none)
  | .denied => (s.poolDenied q.port q.src q.tag q.addr, some stDenied)
  | .revoked => (s.noteRevoked [(q.addr, q.len)] false, some stRevoked)

/-- Whether an address lies in an unmapped space or at unmapped offsets: DENIED, with no other effect (R62). -/
def State.unmappedAddr (s : State) (q : Req) : Bool :=
  match spaceOf q.addr with
  | 8 => decide (0x10000000 < offsetOf q.addr + q.len)
  | 9 => decide (0x40000 < offsetOf q.addr + q.len)
  | sp => decide (4 < sp) || !s.memMapped q.addr q.len

/-- The checks of a JX request at its acceptance, in order; none lets it be served. -/
def State.acceptCheck (s : State) (k : ReqKind) (q : Req) : State × Option Nat :=
  if badForm k q then (s, some stUnsupported)
  else if s.offPair k q then (s, some stDenied)
  else
    let r := s.epochCheck q
    if r.2.isSome ∨ k = .flush then r
    else if s.unmappedAddr q then (r.1, some stDenied)
    else
      let s := if spaceOf q.addr ≤ 3 then r.1.chargeHost q.src q.len else r.1
      let r := s.rightsCheck k q
      if r.2.isSome then r
      else
        let r := r.1.decodeSpace k q false
        if r.2.isSome then r
        else if r.1.versionsAllow q.addr q.len q.src (k == .wr || k == .creqWrite) then (r.1, none)
        else (r.1, some stDenied)

/-- A request whose command is here leaves the receive buffer of its port. -/
def State.unstage (s : State) (k : ReqKind) (q : Req) : State :=
  let pt := s.port q.port
  if pt.staged.contains (k, q) then
    let n := max 1 (ceilDiv (if k = .flush then 16 else 16 + q.data.length) 240)
    (s.setPort q.port { pt with staged := pt.staged.erase (k, q) }).freeHeld q.port (if k.isCreq then 3 else 0) n
  else if pt.carried.contains (k, q) then s.setPort q.port { pt with carried := pt.carried.erase (k, q) }
  else s

/-- Opens a request and answers it at once with a status and data. -/
def State.answerNow (s : State) (k : ReqKind) (q : Req) (status : Nat) (data : Bytes) : State :=
  (s.openHeld k q .busy).finish (s.openOf k q .busy) status 0 data

/-- Whether a request is a pool operation's descriptor at the door (R314). -/
def atDoor (k : ReqKind) (q : Req) : Bool :=
  (k == .wr || k == .creqWrite) && q.len == 64 && spaceOf q.addr == 8 && offsetOf q.addr == R.POOL_DOOR 0

/-- Whether an access before the end of start-up decodes: a CREQ to registers of the early blocks (R465). -/
def earlyAccess (k : ReqKind) (q : Req) : Bool :=
  k.isCreq && spaceOf q.addr == 8 && earlyBlock (offsetOf q.addr) && (ctrlWords (offsetOf q.addr) q.len).all ctrlMapped

/-- A JX request is accepted. Before the end of start-up only CREQs to some control blocks decode; every other access reads as 0
or is discarded (R465), and a request that breaks the rules of its form is UNSUPPORTED then too (R223, R225, R226). -/
def State.accept (s : State) (k : ReqKind) (q : Req) (env : AccessEnv) : State :=
  let s := s.unstage k q
  let write := k == .wr || k == .creqWrite
  let q := if write then { q with data := (q.data ++ List.replicate (q.len - q.data.length) 0).take q.len } else q
  if !s.inService && badForm k q then s.answerNow k q stUnsupported []
  else if !s.inService && !earlyAccess k q then
    s.answerNow k q stOk (if write then [] else List.replicate (min q.len 4096) 0)
  else if atDoor k q && !badForm k q && !s.offPair k q then
    let r := s.epochCheck q
    match r.2 with
    | some st => r.1.answerNow k q st []
    | none => r.1.poolSubmit k q
  else
    let r := s.acceptCheck k q
    match r.2 with
    | some st => r.1.answerNow k q st []
    | none =>
      (r.1.openHeld k q .busy).firstAttempt r.1.nextId k q env

/-! ## Going on (R86, R87, R233, R236) -/

/-- A request that is held tries again, under the epoch in which it was accepted. What a vault access, a write-expand, the
pair, the partner or a pool operation will end is left to them. -/
def State.resume (s : State) (id : Nat) (env : AccessEnv) : State :=
  match s.openAt id with
  | none => s
  | some o =>
    let again := match o.wait with | .repair _ => true | _ => false
    match o.wait with
    | .order => if s.heldBefore o then s else s.underOpen id (fun s => s.attempt id env again)
    | .behindExpand => if s.heldBefore o then s else s.underOpen id (fun s => s.attempt id env again)
    | .repair _ => if s.heldBefore o then s else s.underOpen id (fun s => s.attempt id env again)
    | .mint => if s.heldBefore o || s.mintReads o.req.addr then s else s.underOpen id (fun s => s.attempt id env again)
    | .busy => if s.heldBefore o then s else s.underOpen id (fun s => s.attempt id env again)
    | _ => s

/-- Whether an earlier read of the tile is still to take its data (R87). -/
def State.readsFirst (s : State) (o : OpenReq) : Bool :=
  s.opens.any (fun (p : OpenReq) => decide (p.id < o.id) && sameTile p.req o.req && p.kind == .rd)

/-- The write of a write-expand is applied, unless a drain has ended it (R86, R326). -/
def State.expandWrite (s : State) (o : OpenReq) (x : TileRef) : State :=
  let k := o.consumer 2
  let ended (s : State) : State := { s with opens := s.opens.filter (fun (p : OpenReq) => p.id != o.id) }
  match s.expandTile x k with
  | (s, .ok slot) =>
    if o.revoked then ended s
    else
      let b : PA := BitVec.ofNat 56 ((x.expAddr slot).toNat + o.req.addr.toNat % 4096)
      if s.touchesFencedGrain b o.req.len then s.finish o stDenied 0 []
      else ((s.writeTile x.region o.req.addr o.req.data o.badGrains k).1).finish o stOk 0 []
  | (s, .full) => if o.revoked then ended s else (s.expandFull x o.req.addr k).finish o stDenied 0 []
  | (s, .empty) => if o.revoked then ended s else s.finish o stDenied 0 []
  | (s, .wait) => s

/-- WRITE_EXPAND_DONE of an open request, and then the requests that it held, in the order of acceptance. -/
def State.writeExpandDone (s : State) (id : Nat) (env : AccessEnv) : State :=
  match s.openAt id with
  | none => s
  | some o =>
    match o.wait, s.tileOf o.req.addr with
    | .expand, some x =>
      if s.readsFirst o then s
      else
        let s := s.applyEnv o.req.tag env
        let s := (s.touchStart o).underOpen id (fun s => s.expandWrite o x)
        let s := s.touchEnd id
        if (s.openAt id).isSome then s
        else
          let held := s.opens.filter (fun (p : OpenReq) => p.wait == .behindExpand && sameTile p.req o.req)
          s.forEach held (fun s (p : OpenReq) => s.resume p.id {})
    | _, _ => s

/-- DEFER_DECISION: a request that still waits takes its DEFER. -/
def State.deferDecision (s : State) (id : Nat) : State :=
  match s.openAt id with
  | some o => if o.revoked then s else s.deferNow o
  | none => s

/-! ## The commands -/

/-- JX_RD, with what the surroundings do with the access (R223). -/
def execJxRd (q : Req) (env : AccessEnv) (s : State) : Host.Outcome State Fault Refusal := .next (s.accept .rd q env)
/-- JX_WR (R223). -/
def execJxWr (q : Req) (env : AccessEnv) (s : State) : Host.Outcome State Fault Refusal := .next (s.accept .wr q env)
/-- JX_FLUSH (R239). -/
def execJxFlush (q : Req) (s : State) : Host.Outcome State Fault Refusal := .next (s.accept .flush q {})
/-- CREQ, a write or a read (R225). -/
def execCreq (write : Bool) (q : Req) (s : State) : Host.Outcome State Fault Refusal :=
  .next (s.accept (if write then .creqWrite else .creqRead) q {})
/-- POOL_DOOR: a descriptor by WR or by CREQ (R314). -/
def execPoolDoor (byCreq : Bool) (q : Req) (s : State) : Host.Outcome State Fault Refusal :=
  .next (s.accept (if byCreq then .creqWrite else .wr) { q with addr := poolAddr 8 (R.POOL_DOOR 0), len := 64 } {})
/-- WRITE_EXPAND_DONE of an open request (R86). -/
def execWriteExpandDone (id : Nat) (env : AccessEnv) (s : State) : Host.Outcome State Fault Refusal := .next (s.writeExpandDone id env)
/-- DEFER_DECISION of an open request (R233). -/
def execDeferDecision (id : Nat) (s : State) : Host.Outcome State Fault Refusal := .next (s.deferDecision id)
/-- DEFER_COMPLETE: what an open request waited for is over (R236). -/
def execDeferComplete (id : Nat) (env : AccessEnv) (s : State) : Host.Outcome State Fault Refusal := .next (s.resume id env)

end Sys2Proof.Machine
end

