-- ==== Sys2Proof/Machine/Pep.lean ====
section
/-! DEFINITION. The host endpoint's memory traffic (chapter 19): reads and writes through the BARs, their outcomes, CXL.mem
and the DMA channels; and the test access port (R503). -/

namespace Sys2Proof.Machine

/-! ## Accesses of the pool and of the control space (R438 to R442) -/

/-- A host access as a request of POOL_CFG.HOST_NODE. -/
def State.hostReq (s : State) (a : PA) (n : Nat) (data : Bytes) (tag : Tag) (relaxed : Bool) : Req where
  port := 0
  src := s.hostNode
  dst := s.node
  tag := tag
  txn := 0
  relaxed := relaxed
  ordered := false
  pass := false
  epv := false
  epn := 0
  addr := a
  len := n
  data := data

/-- The default job tag of the endpoint. -/
def State.pepTag (s : State) : Tag := BitVec.ofNat 12 (s.f F.PEP_CFG_JOB_TAG)

/-- A new open request for a host access, and the state in which it is open. -/
def State.hostOpenOf (s : State) (k : ReqKind) (q : Req) (h : HostAcc) : OpenReq := { s.openOf k q .busy with host := some h }
def State.openHost (s : State) (k : ReqKind) (q : Req) (h : HostAcc) : State :=
  { s with nextId := s.nextId + 1, opens := s.opens ++ [s.hostOpenOf k q h] }

/-- A host access is accepted: what its space's decode and the versioned regions refuse ends at once, and the rest is
served. Before the end of start-up a pool access reads as 0 or is discarded (R465). -/
def State.hostAccept (s : State) (k : ReqKind) (q : Req) (h : HostAcc) (env : AccessEnv) : State :=
  let write := k == .wr
  if spaceOf q.addr = 8 then (s.openHost k q h).firstAttempt s.nextId k q env
  else if !s.inService then (s.openHost k q h).finish (s.hostOpenOf k q h) stOk 0 (if write then [] else List.replicate q.len 0)
  else
    let r := s.decodeSpace k q true
    match r.2 with
    | some st => (r.1.openHost k q h).finish (r.1.hostOpenOf k q h) st 0 []
    | none =>
      if r.1.versionsAllow q.addr q.len q.src write then (r.1.openHost k q h).firstAttempt r.1.nextId k q env
      else (r.1.openHost k q h).finish (r.1.hostOpenOf k q h) stDenied 0 []

/-- A read completes with Unsupported Request. -/
def State.readUr (s : State) (requester tag : Nat) : State := (s.addF F.PEP_UR_COUNT 1).emit (.hostCpl requester tag 1 [] [])

/-- A posted write is discarded and reported through AER as an Unsupported Request. -/
def State.writeUr (s : State) (off : Nat) : State := (s.addF F.PEP_UR_COUNT 1).emit (.aer 1 off)

/-- Whether the function decodes its BARs (R446). -/
def State.barsOn (s : State) : Bool := s.f F.PEP_STS_D_STATE == 0

/-- Size of a BAR (Table 19-3). -/
def Bar.size : Bar → Nat
  | .bar0 => 2 ^ 28
  | .bar2 => 2 ^ 36
  | .bar4 => 2 ^ 16
  | .rom => 2 ^ 16

/-- Whether an access of n bytes at an offset of a BAR may be served: within the BAR and one 4 KiB block, and through BAR0
and BAR4 of 4 or 8 bytes, aligned (R36). -/
def barForm (b : Bar) (off n : Nat) : Bool :=
  decide (1 ≤ n) && decide (off + n ≤ b.size) && decide (off % 4096 + n ≤ 4096) &&
    (match b with
    | .bar0 | .bar4 => (n == 4 || n == 8) && off % n == 0
    | _ => true)

/-- The 4-byte words of a BAR4 access. -/
def State.bar4Read (s : State) (off n : Nat) : Bytes := (List.range (n / 4)).flatMap (fun i => leBytes 4 (s.bar4Word (off + 4 * i)))

/-- A memory read of n bytes at an offset of a BAR. -/
def State.hostRead (s : State) (b : Bar) (off n requester tag : Nat) (env : AccessEnv) : State :=
  let s := s.addF F.PEP_RD_TLPS_COUNT 1
  let h : HostAcc := { requester := requester, tag := tag }
  if !s.barsOn || !barForm b off n then s.readUr requester tag
  else match b with
  | .bar0 => s.hostAccept .rd (s.hostReq (poolAddr 8 off) n [] s.pepTag false) h env
  | .bar2 =>
    match s.windowAt off n false with
    | some (a, t) => s.hostAccept .rd (s.hostReq a n [] t false) h env
    | none => (s.readUr requester tag).ledger (hostEvent 0x0B01 0 off)
  | .bar4 => s.emit (.hostCpl requester tag 0 (s.bar4Read off n) [])
  | .rom => s.emit (.hostCpl requester tag 0 ((List.range n).map (fun i => s.romByte (off + i))) [])

/-- A posted memory write at an offset of a BAR. One that carries EP changes nothing (R440). -/
def State.hostWrite (s : State) (b : Bar) (off : Nat) (data : Bytes) (ep relaxed : Bool) (env : AccessEnv) : State :=
  let s := s.addF F.PEP_WR_TLPS_COUNT 1
  let n := data.length
  let h : HostAcc := { posted := true, relaxed := relaxed }
  if !s.barsOn || !barForm b off n then s.writeUr off
  else if ep then s.emit (.aer 2 off)
  else match b with
  | .bar0 => s.hostAccept .wr (s.hostReq (poolAddr 8 off) n data s.pepTag false) h env
  | .bar2 =>
    match s.windowAt off n true with
    | some (a, t) => s.hostAccept .wr (s.hostReq a n data t false) h env
    | none => (s.writeUr off).ledger (hostEvent 0x0B01 0 off)
  | .bar4 => s.forEach (List.range (n / 4)) (fun s i => s.setBar4Word (off + 4 * i) (fieldLe data (4 * i) 4))
  | .rom => s

/-- A host access that has waited goes on. -/
def State.hostResume (s : State) (id : Nat) (env : AccessEnv) : State :=
  match s.openAt id with
  | some o => if o.host.isSome && o.kind == .rd then s.resume id env else s
  | none => s

/-- A host read has had no completion within CPL_LIMIT_US (R440, R442). -/
def State.cplLimit (s : State) (id : Nat) : State :=
  match s.openAt id with
  | none => s
  | some o =>
    match o.host with
    | none => s
    | some h =>
      if o.kind != .rd || h.answered || h.dma.isSome || decide (s.count < o.acceptedAt + 1000 * s.f F.PEP_CFG_CPL_LIMIT_US) then s
      else
        let s := { s with opens := s.opens.map (fun (x : OpenReq) =>
          if x.id = id then { x with host := some { h with answered := true } } else x) }
        let s := if h.cxl then s.emit (.cxlCpl h.tag (List.replicate o.req.len 0) [0])
          else (s.addF F.PEP_CA_COUNT 1).emit (.hostCpl h.requester h.tag 2 [] [])
        s.ledger (hostEvent 0x0B03 o.req.tag o.req.addr.toNat)

/-! ## CXL.mem (R442) -/

/-- A CXL.mem read of 64 bytes. An address that no committed decoder maps to the device reads as poisoned data. -/
def State.cxlRead (s : State) (hpa tag : Nat) (env : AccessEnv) : State :=
  if s.f F.PEP_STS_CXL = 0 then s
  else
    match s.dpaOf (64 * (hpa / 64)) with
    | some d => s.hostAccept .rd (s.hostReq (poolAddr 0 d) 64 [] s.pepTag true) { tag := tag, cxl := true } env
    | none => (s.addF F.PEP_UR_COUNT 1).emit (.cxlCpl tag (List.replicate 64 0) [0])

/-- A CXL.mem write of 64 bytes, marked poisoned or not. -/
def State.cxlWrite (s : State) (hpa tag : Nat) (data : Bytes) (poison : Bool) (env : AccessEnv) : State :=
  if s.f F.PEP_STS_CXL = 0 then s
  else
    let data := (data ++ List.replicate (64 - data.length) 0).take 64
    match s.dpaOf (64 * (hpa / 64)) with
    | some d => s.hostAccept .wr (s.hostReq (poolAddr 0 d) 64 data s.pepTag true) { tag := tag, cxl := true, poison := poison } env
    | none => (s.addF F.PEP_UR_COUNT 1).emit (.cxlCpl tag [] [])

/-! ## DMA (R443, R444) -/

/-- Whether a descriptor is one that the device runs: reserved fields 0, a known OP, and a length and pool range in their
limits. -/
def ddValid (d : Bytes) : Bool :=
  (ddOp d == 1 || ddOp d == 2) && decide (ddFlags d < 4) && decide (ddTag d < 4096) && fieldLe d 0x1B 5 == 0 &&
    decide (1 ≤ ddLen d) && decide (ddLen d ≤ 2 ^ 26) && decide (ddPool d + ddLen d ≤ 5 * 2 ^ 52)

/-- The channel takes the descriptor at HEAD of its ring. -/
def State.dmaTake (s : State) (c : Nat) (d : Bytes) : State :=
  let d := (d ++ List.replicate (32 - d.length) 0).take 32
  let s := s.dmaFlush c
  let x := s.dma c
  if x.desc.isSome || s.f (F.PEP_DMA_CFG_ENABLE c) == 0 || s.f (F.PEP_DMA_HEAD_INDEX c) == s.f (F.PEP_DMA_TAIL_INDEX c) ||
      !s.upstream then s
  else s.setDma c { desc := some d, ended := if ddValid d then none else some dsUnsupported }

/-- The next piece of a descriptor goes to the pool: at most 4 KiB, or one grain. -/
def State.dmaIssue (s : State) (c : Nat) (d : Bytes) (n : Nat) (data : Bytes) (env : AccessEnv) : State :=
  let x := s.dma c
  let s := s.setDma c { x with piece := n }
  let a : PA := BitVec.ofNat 56 (ddPool d + x.moved)
  let write := ddOp d == 1
  s.hostAccept (if write then .wr else .rd) (s.hostReq a n (if write then slice data x.moved n else []) (s.ddJobTag d) false)
    { dma := some c } env

/-- The channel moves its descriptor's data, in order, until a piece must wait. A host read of TO_POOL that failed at an
offset ends the descriptor there. -/
def State.dmaRun (s : State) (c : Nat) (data : Bytes) (failAt : Option Nat) (env : AccessEnv) : Nat → State
  | 0 => s
  | fuel + 1 =>
    let x := s.dma c
    match x.desc with
    | none => s
    | some d =>
      if x.ended.isSome || decide (ddLen d ≤ x.moved) || x.piece != 0 then s
      else
        let unit := if x.fine then 128 else 4096
        let n := min (ddLen d - x.moved) (unit - (ddPool d + x.moved) % unit)
        match (if ddOp d = 1 then failAt else none) with
        | some f =>
          if f ≤ x.moved then s.setDma c { x with ended := some dsHostError }
          else (s.dmaIssue c d (min n (f - x.moved)) data env).dmaRun c data failAt {} fuel
        | none => (s.dmaIssue c d n data env).dmaRun c data failAt {} fuel

/-- DMA_TO_POOL and DMA_TO_HOST: a descriptor starts, or one that has waited goes on. -/
def State.dmaMove (s : State) (op c : Nat) (d data : Bytes) (failAt : Option Nat) (env : AccessEnv) : State :=
  if (s.dma c).desc.isSome ∨ ddOp d = op ∨ (op = 1 ∧ ddOp d ≠ 2) then
    let s := s.dmaTake c d
    match (s.dma c).desc with
    | some d => if ddOp d = op then s.dmaRun c (data ++ List.replicate (ddLen d - data.length) 0) failAt env (ddLen d + 2) else s
    | none => s
  else s

/-- A descriptor whose data is done ends: its status goes out, its vector is raised and HEAD advances. -/
def State.dmaEnd (s : State) (c : Nat) : State :=
  let x := s.dma c
  match x.desc with
  | none => s
  | some d =>
    if x.piece != 0 || (x.ended.isNone && decide (x.moved < ddLen d)) || !s.upstream then s
    else
      let st := x.ended.getD (if x.poison then dsPoison else dsOk)
      let i := s.f (F.PEP_DMA_HEAD_INDEX c)
      let s := if st = dsUnsupported then s.ledger (hostEvent 0x0B05 (s.ddJobTag d) (s.dmaEntry c i)) else s
      let s := s.dmaStatus c i st
      let s := if (ddFlags d).testBit 1 then s.raiseIrq (4 + c) else s
      let s := (s.addF (F.PEP_DMA_HEAD_INDEX c) 1).setF (F.PEP_DMA_STS_LAST_STATUS c) st
      s.setDma c {}

/-- An upstream read of a channel has had no completion. -/
def State.dmaTimeout (s : State) (c : Nat) : State :=
  let x := s.dma c
  match x.desc with
  | some d => if ddOp d = 1 ∧ x.ended.isNone ∧ x.moved < ddLen d then s.setDma c { x with ended := some dsHostError } else s
  | none => s

/-! ## Boundary scan (R503) -/

/-- The next state of the test access port's controller (IEEE 1149.1): 0 Test-Logic-Reset, 1 Run-Test/Idle, 2 Select-DR, 3
Capture-DR, 4 Shift-DR, 5 Exit1-DR, 6 Pause-DR, 7 Exit2-DR, 8 Update-DR, and 9 to 15 the same from Select-IR on. -/
def tapNext (st : Nat) (tms : Bool) : Nat :=
  let p := match st with
    | 0 => (1, 0) | 1 => (1, 2) | 2 => (3, 9) | 3 => (4, 5) | 4 => (4, 5) | 5 => (6, 8) | 6 => (6, 7) | 7 => (4, 8)
    | 8 => (1, 2) | 9 => (10, 0) | 10 => (11, 12) | 11 => (11, 12) | 12 => (13, 15) | 13 => (13, 14) | 14 => (11, 15)
    | _ => (1, 2)
  if tms then p.2 else p.1

/-- One rising edge of TCK: a capture takes the levels of the balls, a shift moves one bit in and one out. -/
def tapEdge (balls : List Bool) (st : Tap × List Bool) (e : Bool × Bool) : Tap × List Bool :=
  let t := st.1
  let next := tapNext t.state e.1
  if t.state = 3 then (⟨next, balls⟩, st.2)
  else if t.state = 10 then (⟨next, Config.tapCapture⟩, st.2)
  else if t.state = 4 ∨ t.state = 11 then (⟨next, t.scan.drop 1 ++ [e.2]⟩, st.2 ++ t.scan.take 1)
  else (⟨next, t.scan⟩, st.2)

/-- An operation of the test access port; TDO is driven while shifting. -/
def State.tapOp (s : State) (x : TapOp) : State :=
  match x with
  | .reset => { s with tap := {} }
  | .clocks es balls =>
    let r := es.foldl (tapEdge balls) (s.tap, [])
    let s := { s with tap := r.1 }
    if r.2.isEmpty then s else s.emit (.tdo r.2)

/-! ## The commands -/

/-- HOST_READ (R438). -/
def execHostRead (b : Bar) (off : Fin 68719476736) (len : Fin 4097) (requester : W16) (tag : W16) (env : AccessEnv) (s : State) :
    Host.Outcome State Fault Refusal := .next (s.hostRead b off len requester.toNat tag.toNat env)
/-- HOST_WRITE (R438). -/
def execHostWrite (b : Bar) (off : Fin 68719476736) (data : Bytes) (ep relaxed : Bool) (env : AccessEnv) (s : State) :
    Host.Outcome State Fault Refusal := .next (s.hostWrite b off data ep relaxed env)
/-- HOST_READ_DONE of an open host read (R440). -/
def execHostReadDone (id : Nat) (env : AccessEnv) (s : State) : Host.Outcome State Fault Refusal := .next (s.hostResume id env)
/-- PEP_CPL_LIMIT of an open host read (R440). -/
def execPepCplLimit (id : Nat) (s : State) : Host.Outcome State Fault Refusal := .next (s.cplLimit id)
/-- CXL_MEM_READ (R442). -/
def execCxlMemRead (hpa : W64) (tag : W16) (env : AccessEnv) (s : State) : Host.Outcome State Fault Refusal :=
  .next (s.cxlRead hpa.toNat tag.toNat env)
/-- CXL_MEM_WRITE (R442). -/
def execCxlMemWrite (hpa : W64) (tag : W16) (data : Bytes) (poison : Bool) (env : AccessEnv) (s : State) :
    Host.Outcome State Fault Refusal := .next (s.cxlWrite hpa.toNat tag.toNat data poison env)
/-- DMA_TO_POOL on a channel: the descriptor at HEAD as read, the data as read from the host, and the offset of a host read
that failed (R443, R444). -/
def execDmaToPool (c : Fin 4) (desc data : Bytes) (failAt : Option Nat) (env : AccessEnv) (s : State) :
    Host.Outcome State Fault Refusal := .next (s.dmaMove 1 c desc data failAt env)
/-- DMA_TO_HOST on a channel (R443, R444). -/
def execDmaToHost (c : Fin 4) (desc : Bytes) (env : AccessEnv) (s : State) : Host.Outcome State Fault Refusal :=
  .next (s.dmaMove 2 c desc [] none env)
/-- DMA_DESC_END on a channel (R444). -/
def execDmaDescEnd (c : Fin 4) (s : State) : Host.Outcome State Fault Refusal := .next (s.dmaEnd c)
/-- DMA_COMPLETION_TIMEOUT on a channel (R444). -/
def execDmaCompletionTimeout (c : Fin 4) (s : State) : Host.Outcome State Fault Refusal := .next (s.dmaTimeout c)
/-- BOUNDARY_SCAN (R503). -/
def execBoundaryScan (x : TapOp) (s : State) : Host.Outcome State Fault Refusal := .next (s.tapOp x)

end Sys2Proof.Machine
end

