-- ==== Sys2Proof/Machine/Dispatch.lean ====
section
/-! DEFINITION. The dispatcher: one arm per command, each one call of its meaning. -/

namespace Sys2Proof.Machine

def exec (i : Instr) (s : State) : Host.Outcome State Fault Refusal :=
  match i with
  | .registerWrite src off part v tag host => Sys2Proof.Machine.execRegisterWrite src off part v tag host s
  | .operandParity cut => Sys2Proof.Machine.execOperandParity cut s
  | .seqFault cut => Sys2Proof.Machine.execSeqFault cut s
  | .clusterFault c why cuts => Sys2Proof.Machine.execClusterFault c why cuts s
  | .dieFault d cuts => Sys2Proof.Machine.execDieFault d cuts s
  | .bridgeFailure cuts => Sys2Proof.Machine.execBridgeFailure cuts s
  | .coreWake n => Sys2Proof.Machine.execCoreWake n s
  | .coreReady n => Sys2Proof.Machine.execCoreReady n s
  | .coreGate n => Sys2Proof.Machine.execCoreGate n s
  | .sitLoad src => Sys2Proof.Machine.execSitLoad src s
  | .imageLoadEnd img bad env => Sys2Proof.Machine.execImageLoadEnd img bad env s
  | .epochGo => Sys2Proof.Machine.execEpochGo s
  | .epochAbandon => Sys2Proof.Machine.execEpochAbandon s
  | .epochLaunch => Sys2Proof.Machine.execEpochLaunch s
  | .epochAck unit => Sys2Proof.Machine.execEpochAck unit s
  | .epochRefusal unit => Sys2Proof.Machine.execEpochRefusal unit s
  | .epochCommit => Sys2Proof.Machine.execEpochCommit s
  | .epochTimeout => Sys2Proof.Machine.execEpochTimeout s
  | .oldSetRelease => Sys2Proof.Machine.execOldSetRelease s
  | .jxRd q env => Sys2Proof.Machine.execJxRd q env s
  | .jxWr q env => Sys2Proof.Machine.execJxWr q env s
  | .jxFlush q => Sys2Proof.Machine.execJxFlush q s
  | .creq write q => Sys2Proof.Machine.execCreq write q s
  | .canopyWb c => Sys2Proof.Machine.execCanopyWb c s
  | .canopyInv c => Sys2Proof.Machine.execCanopyInv c s
  | .canopyDrainSet c => Sys2Proof.Machine.execCanopyDrainSet c s
  | .canopyDrainClear c => Sys2Proof.Machine.execCanopyDrainClear c s
  | .canopyWbDone c => Sys2Proof.Machine.execCanopyWbDone c s
  | .canopyDrained c => Sys2Proof.Machine.execCanopyDrained c s
  | .decayBoundary => Sys2Proof.Machine.execDecayBoundary s
  | .writeExpandDone id env => Sys2Proof.Machine.execWriteExpandDone id env s
  | .corePlanStart n id => Sys2Proof.Machine.execCorePlanStart n id s
  | .streamStepIssue plan => Sys2Proof.Machine.execStreamStepIssue plan s
  | .fetchDone plan no env => Sys2Proof.Machine.execFetchDone plan no env s
  | .stallTimeout core => Sys2Proof.Machine.execStallTimeout core s
  | .mintJobFetch => Sys2Proof.Machine.execMintJobFetch s
  | .mintCompress => Sys2Proof.Machine.execMintCompress s
  | .mintEncode => Sys2Proof.Machine.execMintEncode s
  | .mintBuild => Sys2Proof.Machine.execMintBuild s
  | .mintDecode => Sys2Proof.Machine.execMintDecode s
  | .mintRelease => Sys2Proof.Machine.execMintRelease s
  | .mintPass1End id => Sys2Proof.Machine.execMintPass1End id s
  | .mintJobEnd id => Sys2Proof.Machine.execMintJobEnd id s
  | .slotLock i0 => Sys2Proof.Machine.execSlotLock i0 s
  | .slotUnlock i0 => Sys2Proof.Machine.execSlotUnlock i0 s
  | .slotRetire i0 => Sys2Proof.Machine.execSlotRetire i0 s
  | .slotActivate i0 => Sys2Proof.Machine.execSlotActivate i0 s
  | .slotInstall i0 planes xor => Sys2Proof.Machine.execSlotInstall i0 planes xor s
  | .slotClear i0 => Sys2Proof.Machine.execSlotClear i0 s
  | .slotCmdReserved i0 seven => Sys2Proof.Machine.execSlotCmdReserved i0 seven s
  | .slotInstallDone i0 => Sys2Proof.Machine.execSlotInstallDone i0 s
  | .drainSetEmpty i0 => Sys2Proof.Machine.execDrainSetEmpty i0 s
  | .descFetch n fromDq => Sys2Proof.Machine.execDescFetch n fromDq s
  | .kernelStart n code ecc => Sys2Proof.Machine.execKernelStart n code ecc s
  | .kernelEnd n run => Sys2Proof.Machine.execKernelEnd n run s
  | .eventSet i0 v => Sys2Proof.Machine.execEventSet i0 v s
  | .eventAdd i0 n => Sys2Proof.Machine.execEventAdd i0 n s
  | .eventDec i0 n => Sys2Proof.Machine.execEventDec i0 n s
  | .barrierArrive b tag => Sys2Proof.Machine.execBarrierArrive b tag s
  | .slotRelease n seq => Sys2Proof.Machine.execSlotRelease n seq s
  | .expFwd n plans time => Sys2Proof.Machine.execExpFwd n plans time s
  | .expBwd n plans time => Sys2Proof.Machine.execExpBwd n plans time s
  | .expClose n plans time => Sys2Proof.Machine.execExpClose n plans time s
  | .expGroupCombine n time => Sys2Proof.Machine.execExpGroupCombine n time s
  | .flitRx p lanes => Sys2Proof.Machine.execFlitRx p lanes s
  | .badFlit p => Sys2Proof.Machine.execBadFlit p s
  | .linkInit p seen req rsp ntc ctl => Sys2Proof.Machine.execLinkInit p seen req rsp ntc ctl s
  | .replayRx p start header => Sys2Proof.Machine.execReplayRx p start header s
  | .initTimer p => Sys2Proof.Machine.execInitTimer p s
  | .replayTimer p => Sys2Proof.Machine.execReplayTimer p s
  | .ackTimer p => Sys2Proof.Machine.execAckTimer p s
  | .creditTimer p => Sys2Proof.Machine.execCreditTimer p s
  | .retrain p => Sys2Proof.Machine.execRetrain p s
  | .deferDecision id => Sys2Proof.Machine.execDeferDecision id s
  | .deferComplete id env => Sys2Proof.Machine.execDeferComplete id env s
  | .responseRx p src txn status token mask data => Sys2Proof.Machine.execResponseRx p src txn status token mask data s
  | .completionRx p src txn token status mask data => Sys2Proof.Machine.execCompletionRx p src txn token status mask data s
  | .ownReqTimeout txn => Sys2Proof.Machine.execOwnReqTimeout txn s
  | .ownDeferTimeout txn => Sys2Proof.Machine.execOwnDeferTimeout txn s
  | .syncRequest src t1 t2 t3 seq => Sys2Proof.Machine.execSyncRequest src t1 t2 t3 seq s
  | .syncReply p t1 t2 t3 t4 seq => Sys2Proof.Machine.execSyncReply p t1 t2 t3 t4 seq s
  | .syncInterval => Sys2Proof.Machine.execSyncInterval s
  | .syncSlew => Sys2Proof.Machine.execSyncSlew s
  | .trainingBlockRx e lane block => Sys2Proof.Machine.execTrainingBlockRx e lane block s
  | .trainLaser e => Sys2Proof.Machine.execTrainLaser e s
  | .trainSignal e locked => Sys2Proof.Machine.execTrainSignal e locked s
  | .trainEqualise e => Sys2Proof.Machine.execTrainEqualise e s
  | .trainMap e => Sys2Proof.Machine.execTrainMap e s
  | .trainVerify e failed => Sys2Proof.Machine.execTrainVerify e failed s
  | .trainWidth e => Sys2Proof.Machine.execTrainWidth e s
  | .trainStepLimit e => Sys2Proof.Machine.execTrainStepLimit e s
  | .trainAttemptTimeout e => Sys2Proof.Machine.execTrainAttemptTimeout e s
  | .trainRetry e => Sys2Proof.Machine.execTrainRetry e s
  | .laserPoll e temp alarm power => Sys2Proof.Machine.execLaserPoll e temp alarm power s
  | .laserPresentChange e there => Sys2Proof.Machine.execLaserPresentChange e there s
  | .laserReset e => Sys2Proof.Machine.execLaserReset e s
  | .optLaserEnable e on => Sys2Proof.Machine.execOptLaserEnable e on s
  | .refreshTick u bank rows => Sys2Proof.Machine.execRefreshTick u bank rows s
  | .rowHammerTrigger u bank rows acts => Sys2Proof.Machine.execRowHammerTrigger u bank rows acts s
  | .rfmCommand u bank => Sys2Proof.Machine.execRfmCommand u bank s
  | .thermalLevelChange u t rate => Sys2Proof.Machine.execThermalLevelChange u t rate s
  | .periodicUpdate u ok again => Sys2Proof.Machine.execPeriodicUpdate u ok again s
  | .dramChannelFenced n cause density => Sys2Proof.Machine.execDramChannelFenced n cause density s
  | .vaultReadDone id env => Sys2Proof.Machine.execVaultReadDone id env s
  | .vaultWriteDone id env => Sys2Proof.Machine.execVaultWriteDone id env s
  | .vaultMapFlush c => Sys2Proof.Machine.execVaultMapFlush c s
  | .vaultPatrol p env => Sys2Proof.Machine.execVaultPatrol p env s
  | .garbageCollection c places => Sys2Proof.Machine.execGarbageCollection c places s
  | .staticLevelling ch ce places => Sys2Proof.Machine.execStaticLevelling ch ce places s
  | .vaultProgram x places => Sys2Proof.Machine.execVaultProgram x places s
  | .ckptArm i0 => Sys2Proof.Machine.execCkptArm i0 s
  | .ckptMark i0 => Sys2Proof.Machine.execCkptMark i0 s
  | .ckptClear i0 => Sys2Proof.Machine.execCkptClear i0 s
  | .poolDoor byCreq q => Sys2Proof.Machine.execPoolDoor byCreq q s
  | .poolHostGo => Sys2Proof.Machine.execPoolHostGo s
  | .fill id env => Sys2Proof.Machine.execFill id env s
  | .copy id env => Sys2Proof.Machine.execCopy id env s
  | .cmp id env => Sys2Proof.Machine.execCmp id env s
  | .reduceSum id env => Sys2Proof.Machine.execReduceSum id env s
  | .reduceAccumulate id env => Sys2Proof.Machine.execReduceAccumulate id env s
  | .reduceReadout id env => Sys2Proof.Machine.execReduceReadout id env s
  | .poolOpEnd id partner => Sys2Proof.Machine.execPoolOpEnd id partner s
  | .vopen id => Sys2Proof.Machine.execVopen id s
  | .vclose id => Sys2Proof.Machine.execVclose id s
  | .vdraft id => Sys2Proof.Machine.execVdraft id s
  | .vdraftCopyDone id env => Sys2Proof.Machine.execVdraftCopyDone id env s
  | .vpublish id => Sys2Proof.Machine.execVpublish id s
  | .vrelease id => Sys2Proof.Machine.execVrelease id s
  | .poolVerReset region slot => Sys2Proof.Machine.execPoolVerReset region slot s
  | .grant i0 space base rw ro => Sys2Proof.Machine.execGrant i0 space base rw ro s
  | .extentRevoke i0 => Sys2Proof.Machine.execExtentRevoke i0 s
  | .revokeDrainTimeout i0 => Sys2Proof.Machine.execRevokeDrainTimeout i0 s
  | .extentFree i0 => Sys2Proof.Machine.execExtentFree i0 s
  | .limiterRefill => Sys2Proof.Machine.execLimiterRefill s
  | .tellerRefill => Sys2Proof.Machine.execTellerRefill s
  | .guaranteeWindow backlogged => Sys2Proof.Machine.execGuaranteeWindow backlogged s
  | .scaleUpdate p => Sys2Proof.Machine.execScaleUpdate p s
  | .stepInc t => Sys2Proof.Machine.execStepInc t s
  | .seedLock t => Sys2Proof.Machine.execSeedLock t s
  | .accSave core => Sys2Proof.Machine.execAccSave core s
  | .accRestore core => Sys2Proof.Machine.execAccRestore core s
  | .accClear core => Sys2Proof.Machine.execAccClear core s
  | .detSlotRestore x => Sys2Proof.Machine.execDetSlotRestore x s
  | .clockRepin d => Sys2Proof.Machine.execClockRepin d s
  | .storeRefetch block reply env => Sys2Proof.Machine.execStoreRefetch block reply env s
  | .dramRepair a home reply env => Sys2Proof.Machine.execDramRepair a home reply env s
  | .ceTableClear d => Sys2Proof.Machine.execCeTableClear d s
  | .ledgerHeadWrite d head => Sys2Proof.Machine.execLedgerHeadWrite d head s
  | .mergeWindowClose d => Sys2Proof.Machine.execMergeWindowClose d s
  | .scrubRead c t => Sys2Proof.Machine.execScrubRead c t s
  | .clrLate c => Sys2Proof.Machine.execClrLate c s
  | .passNow => Sys2Proof.Machine.execPassNow s
  | .flipArm tag preCode offset unit target => Sys2Proof.Machine.execFlipArm tag preCode offset unit target s
  | .kBlockEnd cut pass block a b init types wrong shadowWrong third => Sys2Proof.Machine.execKBlockEnd cut pass block a b init types wrong shadowWrong third s
  | .shadowTaken m => Sys2Proof.Machine.execShadowTaken m s
  | .shadowWaitTimeout n => Sys2Proof.Machine.execShadowWaitTimeout n s
  | .enginePassEnd cut pass seen code => Sys2Proof.Machine.execEnginePassEnd cut pass seen code s
  | .diagArm entry core shadow => Sys2Proof.Machine.execDiagArm entry core shadow s
  | .suspectFree i0 => Sys2Proof.Machine.execSuspectFree i0 s
  | .shelfLoad => Sys2Proof.Machine.execShelfLoad s
  | .shelfLoadDone env => Sys2Proof.Machine.execShelfLoadDone env s
  | .testRequest n set after evicted => Sys2Proof.Machine.execTestRequest n set after evicted s
  | .testAbort n => Sys2Proof.Machine.execTestAbort n s
  | .testStart n => Sys2Proof.Machine.execTestStart n s
  | .testDeferred n => Sys2Proof.Machine.execTestDeferred n s
  | .testEnd n failed => Sys2Proof.Machine.execTestEnd n failed s
  | .mirrorWriteRx seq id a data mask tag alone => Sys2Proof.Machine.execMirrorWriteRx seq id a data mask tag alone s
  | .mirrorAckRx seq id => Sys2Proof.Machine.execMirrorAckRx seq id s
  | .checkValueRx slot tensor stepCount value => Sys2Proof.Machine.execCheckValueRx slot tensor stepCount value s
  | .cmpWaitTimeout n => Sys2Proof.Machine.execCmpWaitTimeout n s
  | .replicatedOpRx seq src desc => Sys2Proof.Machine.execReplicatedOpRx seq src desc s
  | .heartbeatSend => Sys2Proof.Machine.execHeartbeatSend s
  | .heartbeatRx => Sys2Proof.Machine.execHeartbeatRx s
  | .pairLoss => Sys2Proof.Machine.execPairLoss s
  | .arbTimeout => Sys2Proof.Machine.execArbTimeout s
  | .pairSolo => Sys2Proof.Machine.execPairSolo s
  | .pairDetach => Sys2Proof.Machine.execPairDetach s
  | .pairRejoin => Sys2Proof.Machine.execPairRejoin s
  | .resetPartner => Sys2Proof.Machine.execResetPartner s
  | .formationRx digest before mapValid fresh dirty => Sys2Proof.Machine.execFormationRx digest before mapValid fresh dirty s
  | .formationRetry => Sys2Proof.Machine.execFormationRetry s
  | .resyncPiece piece => Sys2Proof.Machine.execResyncPiece piece s
  | .mmEntryFree i0 => Sys2Proof.Machine.execMmEntryFree i0 s
  | .hostRead b off len requester tag env => Sys2Proof.Machine.execHostRead b off len requester tag env s
  | .hostWrite b off data ep relaxed env => Sys2Proof.Machine.execHostWrite b off data ep relaxed env s
  | .hostReadDone id env => Sys2Proof.Machine.execHostReadDone id env s
  | .pepCplLimit id => Sys2Proof.Machine.execPepCplLimit id s
  | .winCommit => Sys2Proof.Machine.execWinCommit s
  | .winCommitDone => Sys2Proof.Machine.execWinCommitDone s
  | .cxlMemRead hpa tag env => Sys2Proof.Machine.execCxlMemRead hpa tag env s
  | .cxlMemWrite hpa tag data poison env => Sys2Proof.Machine.execCxlMemWrite hpa tag data poison env s
  | .hdmCommit i0 base size ways gran place => Sys2Proof.Machine.execHdmCommit i0 base size ways gran place s
  | .mailboxCommand op payload => Sys2Proof.Machine.execMailboxCommand op payload s
  | .configAccess x => Sys2Proof.Machine.execConfigAccess x s
  | .dmaToPool c desc data failAt env => Sys2Proof.Machine.execDmaToPool c desc data failAt env s
  | .dmaToHost c desc env => Sys2Proof.Machine.execDmaToHost c desc env s
  | .dmaDescEnd c => Sys2Proof.Machine.execDmaDescEnd c s
  | .bmeClear => Sys2Proof.Machine.execBmeClear s
  | .dmaReenable c => Sys2Proof.Machine.execDmaReenable c s
  | .endpointReset kind => Sys2Proof.Machine.execEndpointReset kind s
  | .msixSend v => Sys2Proof.Machine.execMsixSend v s
  | .l1Entry => Sys2Proof.Machine.execL1Entry s
  | .l0pNarrow => Sys2Proof.Machine.execL0pNarrow s
  | .l0pWiden => Sys2Proof.Machine.execL0pWiden s
  | .d3hotEntry => Sys2Proof.Machine.execD3hotEntry s
  | .powerOn bootSrc clkMode nor hrstLow perstLow => Sys2Proof.Machine.execPowerOn bootSrc clkMode nor hrstLow perstLow s
  | .perstAssert => Sys2Proof.Machine.execPerstAssert s
  | .perstDeassert => Sys2Proof.Machine.execPerstDeassert s
  | .hrstAssert => Sys2Proof.Machine.execHrstAssert s
  | .hrstDeassert => Sys2Proof.Machine.execHrstDeassert s
  | .dieThermalTrip d t => Sys2Proof.Machine.execDieThermalTrip d t s
  | .thermalHoldEnd die0 die1 dram => Sys2Proof.Machine.execThermalHoldEnd die0 die1 dram s
  | .partnerResetRx => Sys2Proof.Machine.execPartnerResetRx s
  | .softwareReset key keepDram => Sys2Proof.Machine.execSoftwareReset key keepDram s
  | .selfRefreshReady c => Sys2Proof.Machine.execSelfRefreshReady c s
  | .keepFailed => Sys2Proof.Machine.execKeepFailed s
  | .blockReset kind unit => Sys2Proof.Machine.execBlockReset kind unit s
  | .blockResetIdle => Sys2Proof.Machine.execBlockResetIdle s
  | .blkRstTimeout cuts => Sys2Proof.Machine.execBlkRstTimeout cuts s
  | .startupStepDone env => Sys2Proof.Machine.execStartupStepDone env s
  | .startupStepLimit units env => Sys2Proof.Machine.execStartupStepLimit units env s
  | .powerRegulate env => Sys2Proof.Machine.execPowerRegulate env s
  | .watchdogExpire => Sys2Proof.Machine.execWatchdogExpire s
  | .wdogKick v => Sys2Proof.Machine.execWdogKick v s
  | .fuseRevoke slot confirm => Sys2Proof.Machine.execFuseRevoke slot confirm s
  | .fuseRaiseMin v confirm => Sys2Proof.Machine.execFuseRaiseMin v confirm s
  | .fuseConfirmTimeout => Sys2Proof.Machine.execFuseConfirmTimeout s
  | .norUpdate => Sys2Proof.Machine.execNorUpdate s
  | .norUpdateDone env wrong => Sys2Proof.Machine.execNorUpdateDone env wrong s
  | .sessionOpen src => Sys2Proof.Machine.execSessionOpen src s
  | .sessionClose src => Sys2Proof.Machine.execSessionClose src s
  | .imgServeEnd => Sys2Proof.Machine.execImgServeEnd s
  | .imgPage src page => Sys2Proof.Machine.execImgPage src page s
  | .imgWinRead src off len => Sys2Proof.Machine.execImgWinRead src off len s
  | .attest => Sys2Proof.Machine.execAttest s
  | .attestDone => Sys2Proof.Machine.execAttestDone s
  | .i3cIndexWrite index data => Sys2Proof.Machine.execI3cIndexWrite index data s
  | .i3cRead => Sys2Proof.Machine.execI3cRead s
  | .i3cRecovery b0 b1 b2 => Sys2Proof.Machine.execI3cRecovery b0 b1 b2 s
  | .i3cCcc code => Sys2Proof.Machine.execI3cCcc code s
  | .endpointLinkUp speed width cxl => Sys2Proof.Machine.execEndpointLinkUp speed width cxl s
  | .l1Exit => Sys2Proof.Machine.execL1Exit s
  | .dmaCompletionTimeout c => Sys2Proof.Machine.execDmaCompletionTimeout c s
  | .boundaryScan x => Sys2Proof.Machine.execBoundaryScan x s

end Sys2Proof.Machine
end

