-- ==== Sys2Proof/Machine/Tick.lean ====
section
/-! DEFINITION. The passing of one nanosecond, which the table of operations leaves without a row of its own: the global
counter advances (R29, R39), and with it the tallies that the spec counts in ns. A step on an empty queue takes it. -/

namespace Sys2Proof.Machine

/-- A follower that slews back withholds one step of its counter (R245). -/
def State.counterTick (s : State) : State :=
  if s.sync.withhold then { s with sync := { s.sync with withhold := false } } else { s with count := s.count + 1 }

/-- A kernel that is ready on a gated core wakes the core, and its wait for the wake is counted (R33, R183). -/
def State.coreTick (s : State) (n : Nat) : State :=
  if (s.turn n).isNone || (s.core n).running.isSome then s
  else
    let s := s.wakeCore n
    match (s.core n).power with
    | .waking _ => s.addF (F.CORE_WAKE_STALL_COUNT n) 1
    | _ => s

/-- A unit at thermal level 2 or 3 counts the time (Table 11-12). -/
def State.throttleTick (s : State) (u : DUnit) : State := if 2 ≤ s.f u.level then s.addF (u.tally 5) 1 else s

/-- A limiter whose bucket is below 0 counts the time its source is over its limit (R313). -/
def State.limiterTick (s : State) (j : Nat) : State :=
  if s.limiterRate j = 0 ∨ 0 ≤ s.bucket j then s
  else if j < 1024 then
    if s.f (F.POOL_LIM_VALID j) = 1 then s.addF (F.POOL_LIM_OVER_OVER_NS j) 1 else s
  else s.addF F.POOL_LIM_SHARED_COUNT 1

/-- What a repair that wrote nothing back has found is served to its readers at its end and no longer (R370, R372). -/
def State.repairTick (s : State) : State :=
  { s with integ := { s.integ with repairs := s.integ.repairs.filter (fun (r : Repair) => r.found.isNone) } }

/-- The canopy stacks and the understory channels. -/
def dunits : List DUnit := (List.finRange 8).map DUnit.stack ++ (List.finRange 96).map DUnit.channel

/-- One nanosecond passes. -/
def State.tick (s : State) : State :=
  let s := s.counterTick
  let s := s.forEach (List.range 16) State.coreTick
  let s := s.forEach (List.range 16) State.kernelTick
  let s := s.forEach dunits State.throttleTick
  let s := s.forEach (s.pool.buckets.map (fun b => b.1)) State.limiterTick
  s.repairTick

end Sys2Proof.Machine
end

