-- ==== Sys2Proof/Machine/Footprint.lean ====
section
/-! DEFINITION. What a command may change: the parts of the state, the canonical form of its tables, and for every command
the parts and the registers that it can write. Everything else it leaves as it was. -/

namespace Sys2Proof.Machine

/-- The parts of the state, one for each field. -/
inductive Part where
  | count | regs | dram | stores | storePoison | storeParity | srcRecs | fences | epoch | ports
  | optics | tokens | opens | nextId | own | nextTxn | sync | canopy | integ | dramCtl
  | vault | installs | baseCache0 | baseCache1 | cores | accs | exacts | silent | pair | plans
  | stalls | pool | mint | tellers | clocks | boot | mgmt | pep | tap | irq
  | deniedAt | dieTemp | railMv | free | out | queue
  deriving DecidableEq, Repr

/-- Two states agree in a part. -/
def Part.same (s t : State) : Part → Prop
  | .count => t.count = s.count
  | .regs => t.regs = s.regs
  | .dram => t.dram = s.dram
  | .stores => t.stores = s.stores
  | .storePoison => t.storePoison = s.storePoison
  | .storeParity => t.storeParity = s.storeParity
  | .srcRecs => t.srcRecs = s.srcRecs
  | .fences => t.fences = s.fences
  | .epoch => t.epoch = s.epoch
  | .ports => t.ports = s.ports
  | .optics => t.optics = s.optics
  | .tokens => t.tokens = s.tokens
  | .opens => t.opens = s.opens
  | .nextId => t.nextId = s.nextId
  | .own => t.own = s.own
  | .nextTxn => t.nextTxn = s.nextTxn
  | .sync => t.sync = s.sync
  | .canopy => t.canopy = s.canopy
  | .integ => t.integ = s.integ
  | .dramCtl => t.dramCtl = s.dramCtl
  | .vault => t.vault = s.vault
  | .installs => t.installs = s.installs
  | .baseCache0 => t.baseCache0 = s.baseCache0
  | .baseCache1 => t.baseCache1 = s.baseCache1
  | .cores => t.cores = s.cores
  | .accs => t.accs = s.accs
  | .exacts => t.exacts = s.exacts
  | .silent => t.silent = s.silent
  | .pair => t.pair = s.pair
  | .plans => t.plans = s.plans
  | .stalls => t.stalls = s.stalls
  | .pool => t.pool = s.pool
  | .mint => t.mint = s.mint
  | .tellers => t.tellers = s.tellers
  | .clocks => t.clocks = s.clocks
  | .boot => t.boot = s.boot
  | .mgmt => t.mgmt = s.mgmt
  | .pep => t.pep = s.pep
  | .tap => t.tap = s.tap
  | .irq => t.irq = s.irq
  | .deniedAt => t.deniedAt = s.deniedAt
  | .dieTemp => t.dieTemp = s.dieTemp
  | .railMv => t.railMv = s.railMv
  | .free => t.free = s.free
  | .out => t.out = s.out
  | .queue => t.pending = s.pending

/-- The tables of a part are in canonical form: keys strictly rising, and no entry equal to what an unlisted key reads as. -/
def Part.canonical (s : State) : Part → Bool
  | .regs => Sparse.wf regReset s.regs
  | .dram => Sparse.wf zeroByte s.dram
  | .stores => Sparse.wf zeroByte s.stores
  | .storePoison => Sparse.wf clearBit s.storePoison
  | .storeParity => Sparse.wf clearBit s.storeParity
  | .srcRecs => Sparse.wf noSrcRec s.srcRecs
  | .ports => Sparse.wf portZero s.ports
  | .optics => Sparse.wf noOptic s.optics
  | .tokens => Sparse.wf noToken s.tokens
  | .canopy => Sparse.wf noLine s.canopy.lines && Sparse.wf natZero s.canopy.plru && Sparse.wf noUse s.canopy.pages && Sparse.wf noChecks s.canopy.tagCache
  | .integ => Sparse.wf ringZero s.integ.ring && Sparse.wf noScrub s.integ.scrub
  | .dramCtl => Sparse.wf noActs s.dramCtl.acts && Sparse.wf noTimes s.dramCtl.ueTimes && Sparse.wf noRefresh s.dramCtl.refresh &&
      Sparse.wf natZero s.dramCtl.rates && Sparse.wf noUpdate s.dramCtl.updates && Sparse.wf clearBit s.dramCtl.trained && Sparse.wf noChecks s.dramCtl.checkCache
  | .vault => Sparse.wf zeroByte s.vault.mem && Sparse.wf clearBit s.vault.poison && Sparse.wf noMeta s.vault.metas &&
      Sparse.wf noSeg s.vault.segs && Sparse.wf noBlock s.vault.blocks && Sparse.wf noPages s.vault.opened && Sparse.wf noTrack s.vault.ckpt
  | .cores => Sparse.wf coreZero s.cores
  | .accs => Sparse.wf accZero s.accs
  | .exacts => Sparse.wf noAcc s.exacts
  | .silent => Sparse.wf natZero s.silent.sel && Sparse.wf natZero s.silent.sh
  | .pool => Sparse.wf noVer s.pool.vers && Sparse.wf noBucket s.pool.buckets && Sparse.wf noSum s.pool.accs
  | .mint => Sparse.wf noAlloc s.mint.alloc
  | .tellers => Sparse.wf tellerZero s.tellers.st && Sparse.wf natZero s.tellers.reported
  | .pep => Sparse.wf cfgReset s.pep.config && Sparse.wf noMsix s.pep.msix && Sparse.wf noDma s.pep.dma
  | .deniedAt => Sparse.wf natZero s.deniedAt
  | .dieTemp => Sparse.wf natZero s.dieTemp
  | .railMv => Sparse.wf natZero s.railMv
  | _ => true

/-- Every table of the state is in canonical form, memory among them, so that equal contents are equal data. -/
def State.canonical (s : State) : Prop := ∀ p : Part, p.canonical s = true

/-- A register of the map with its repetitions: the offset of the first, and for each of two
numbers the stride and how many there are. -/
structure Family where
  base : Nat
  s1 : Nat
  n1 : Nat
  s2 : Nat
  n2 : Nat
  deriving DecidableEq, Repr

/-- Whether an offset is one of a family's. -/
def Family.has (x : Family) (off : Nat) : Prop := ∃ i < x.n1, ∃ j < x.n2, off = x.base + x.s1 * i + x.s2 * j

/-- The families of the register map in the map's order, in rows of sixteen. -/
def families : List (List Family) := [
  [⟨0x0, 0, 1, 0, 1⟩, ⟨0x8, 0, 1, 0, 1⟩, ⟨0x10, 0, 1, 0, 1⟩, ⟨0x100000, 0, 1, 0, 1⟩,
   ⟨0x100008, 0, 1, 0, 1⟩, ⟨0x100010, 0, 1, 0, 1⟩, ⟨0x100018, 0, 1, 0, 1⟩, ⟨0x100020, 0, 1, 0, 1⟩,
   ⟨0x100028, 0, 1, 0, 1⟩, ⟨0x100030, 0, 1, 0, 1⟩, ⟨0x100038, 0, 1, 0, 1⟩, ⟨0x100040, 0, 1, 0, 1⟩,
   ⟨0x100048, 0, 1, 0, 1⟩, ⟨0x100100, 8, 25, 0, 1⟩, ⟨0x200000, 0, 1, 0, 1⟩, ⟨0x200008, 0, 1, 0, 1⟩],
  [⟨0x200010, 0, 1, 0, 1⟩, ⟨0x200018, 0, 1, 0, 1⟩, ⟨0x200020, 0, 1, 0, 1⟩, ⟨0x200028, 0, 1, 0, 1⟩,
   ⟨0x200030, 0, 1, 0, 1⟩, ⟨0x200038, 0, 1, 0, 1⟩, ⟨0x200040, 0, 1, 0, 1⟩, ⟨0x300000, 0, 1, 0, 1⟩,
   ⟨0x300008, 0, 1, 0, 1⟩, ⟨0x300010, 0, 1, 0, 1⟩, ⟨0x300018, 0, 1, 0, 1⟩, ⟨0x300020, 0, 1, 0, 1⟩,
   ⟨0x300028, 0, 1, 0, 1⟩, ⟨0x300030, 0, 1, 0, 1⟩, ⟨0x300038, 0, 1, 0, 1⟩, ⟨0x300100, 8, 34, 0, 1⟩],
  [⟨0x301000, 32, 64, 0, 1⟩, ⟨0x301008, 32, 64, 0, 1⟩, ⟨0x301010, 32, 64, 0, 1⟩, ⟨0x308000, 8, 4096, 0, 1⟩,
   ⟨0x400000, 0, 1, 0, 1⟩, ⟨0x400008, 0, 1, 0, 1⟩, ⟨0x400010, 0, 1, 0, 1⟩, ⟨0x400018, 0, 1, 0, 1⟩,
   ⟨0x400020, 0, 1, 0, 1⟩, ⟨0x400028, 0, 1, 0, 1⟩, ⟨0x400100, 32, 16, 0, 1⟩, ⟨0x400108, 32, 16, 0, 1⟩,
   ⟨0x400110, 32, 16, 0, 1⟩, ⟨0x400300, 0, 1, 0, 1⟩, ⟨0x410000, 32, 4096, 0, 1⟩, ⟨0x410008, 32, 4096, 0, 1⟩],
  [⟨0x410010, 32, 4096, 0, 1⟩, ⟨0x410018, 32, 4096, 0, 1⟩, ⟨0x500000, 0, 1, 0, 1⟩, ⟨0x500008, 0, 1, 0, 1⟩,
   ⟨0x500010, 8, 2, 0, 1⟩, ⟨0x500020, 8, 2, 0, 1⟩, ⟨0x500030, 8, 2, 0, 1⟩, ⟨0x500040, 0, 1, 0, 1⟩,
   ⟨0x500048, 0, 1, 0, 1⟩, ⟨0x500050, 0, 1, 0, 1⟩, ⟨0x500100, 8, 64, 0, 1⟩, ⟨0x500300, 0, 1, 0, 1⟩,
   ⟨0x500308, 0, 1, 0, 1⟩, ⟨0x500310, 0, 1, 0, 1⟩, ⟨0x501000, 64, 2, 8, 8⟩, ⟨0x502000, 4096, 2, 16, 256⟩],
  [⟨0x502008, 4096, 2, 16, 256⟩, ⟨0x600000, 0, 1, 0, 1⟩, ⟨0x600008, 0, 1, 0, 1⟩, ⟨0x600100, 64, 8, 0, 1⟩,
   ⟨0x600108, 64, 8, 0, 1⟩, ⟨0x600110, 64, 8, 0, 1⟩, ⟨0x600118, 64, 8, 0, 1⟩, ⟨0x600120, 64, 8, 0, 1⟩,
   ⟨0x600128, 64, 8, 0, 1⟩, ⟨0x600130, 64, 8, 0, 1⟩, ⟨0x700000, 0, 1, 0, 1⟩, ⟨0x700008, 0, 1, 0, 1⟩,
   ⟨0x700010, 0, 1, 0, 1⟩, ⟨0x700018, 0, 1, 0, 1⟩, ⟨0x700020, 0, 1, 0, 1⟩, ⟨0x700028, 0, 1, 0, 1⟩],
  [⟨0x700030, 0, 1, 0, 1⟩, ⟨0x700038, 0, 1, 0, 1⟩, ⟨0x700040, 0, 1, 0, 1⟩, ⟨0x700048, 0, 1, 0, 1⟩,
   ⟨0x700100, 8, 64, 0, 1⟩, ⟨0x700300, 0, 1, 0, 1⟩, ⟨0x700308, 0, 1, 0, 1⟩, ⟨0x700400, 8, 64, 0, 1⟩,
   ⟨0x701000, 512, 64, 8, 64⟩, ⟨0x800000, 64, 8, 0, 1⟩, ⟨0x800008, 64, 8, 0, 1⟩, ⟨0x800010, 64, 8, 0, 1⟩,
   ⟨0x800018, 64, 8, 0, 1⟩, ⟨0x800020, 64, 8, 0, 1⟩, ⟨0x800028, 64, 8, 0, 1⟩, ⟨0x800400, 0, 1, 0, 1⟩],
  [⟨0x800408, 0, 1, 0, 1⟩, ⟨0x800410, 0, 1, 0, 1⟩, ⟨0x801000, 64, 16, 8, 6⟩, ⟨0x808000, 0, 1, 0, 1⟩,
   ⟨0x808100, 64, 8, 0, 1⟩, ⟨0x808108, 64, 8, 8, 6⟩, ⟨0x900000, 0, 1, 0, 1⟩, ⟨0x900008, 0, 1, 0, 1⟩,
   ⟨0x900010, 0, 1, 0, 1⟩, ⟨0x900018, 0, 1, 0, 1⟩, ⟨0x900040, 8, 8, 0, 1⟩, ⟨0x900100, 8, 8, 0, 1⟩,
   ⟨0x901000, 64, 96, 0, 1⟩, ⟨0x901008, 64, 96, 8, 6⟩, ⟨0xA00000, 0, 1, 0, 1⟩, ⟨0xA00008, 0, 1, 0, 1⟩],
  [⟨0xA00010, 0, 1, 0, 1⟩, ⟨0xA00018, 0, 1, 0, 1⟩, ⟨0xA00040, 8, 8, 0, 1⟩, ⟨0xA01000, 64, 32, 0, 1⟩,
   ⟨0xA01008, 64, 32, 8, 6⟩, ⟨0xA02000, 32, 64, 0, 1⟩, ⟨0xA02008, 32, 64, 0, 1⟩, ⟨0xA02010, 32, 64, 0, 1⟩,
   ⟨0xA02018, 32, 64, 0, 1⟩, ⟨0xB00000, 0, 1, 0, 1⟩, ⟨0xB00008, 0, 1, 0, 1⟩, ⟨0xB00010, 0, 1, 0, 1⟩,
   ⟨0xB00018, 0, 1, 0, 1⟩, ⟨0xB00020, 0, 1, 0, 1⟩, ⟨0xB00100, 8, 64, 0, 1⟩, ⟨0xB01000, 128, 18, 0, 1⟩],
  [⟨0xB01008, 128, 18, 0, 1⟩, ⟨0xB01010, 128, 18, 0, 1⟩, ⟨0xB01018, 128, 18, 8, 7⟩, ⟨0xC00000, 64, 18, 0, 1⟩,
   ⟨0xC00008, 64, 18, 0, 1⟩, ⟨0xC00010, 64, 18, 0, 1⟩, ⟨0xC00018, 64, 18, 0, 1⟩, ⟨0xC00020, 64, 18, 0, 1⟩,
   ⟨0xC00028, 64, 18, 0, 1⟩, ⟨0xD00000, 0, 1, 0, 1⟩, ⟨0xD00008, 0, 1, 0, 1⟩, ⟨0xD00010, 0, 1, 0, 1⟩,
   ⟨0xD00018, 0, 1, 0, 1⟩, ⟨0xD00040, 0, 1, 0, 1⟩, ⟨0xD00048, 0, 1, 0, 1⟩, ⟨0xD00050, 0, 1, 0, 1⟩],
  [⟨0xD00058, 0, 1, 0, 1⟩, ⟨0xD00100, 32, 16, 0, 1⟩, ⟨0xD00108, 32, 16, 0, 1⟩, ⟨0xD00110, 32, 16, 0, 1⟩,
   ⟨0xD00118, 32, 16, 0, 1⟩, ⟨0xD01000, 64, 4, 0, 1⟩, ⟨0xD01008, 64, 4, 0, 1⟩, ⟨0xD01010, 64, 4, 0, 1⟩,
   ⟨0xD01018, 64, 4, 0, 1⟩, ⟨0xD01020, 64, 4, 0, 1⟩, ⟨0xD02000, 8, 256, 0, 1⟩, ⟨0xE00000, 0, 1, 0, 1⟩,
   ⟨0xE00008, 0, 1, 0, 1⟩, ⟨0xE00010, 0, 1, 0, 1⟩, ⟨0xE00040, 8, 8, 0, 1⟩, ⟨0xE00080, 8, 8, 0, 1⟩],
  [⟨0xE000C0, 0, 1, 0, 1⟩, ⟨0xE000C8, 0, 1, 0, 1⟩, ⟨0xE000D0, 0, 1, 0, 1⟩, ⟨0xE000D8, 0, 1, 0, 1⟩,
   ⟨0xE00100, 0, 1, 0, 1⟩, ⟨0xE00108, 0, 1, 0, 1⟩, ⟨0xE00110, 0, 1, 0, 1⟩, ⟨0xE00118, 0, 1, 0, 1⟩,
   ⟨0xE00200, 8, 16, 0, 1⟩, ⟨0xE00400, 8, 255, 0, 1⟩, ⟨0xE00C00, 8, 9, 0, 1⟩, ⟨0xE01000, 16, 1024, 0, 1⟩,
   ⟨0xE01008, 16, 1024, 0, 1⟩, ⟨0xE20000, 8, 16384, 0, 1⟩, ⟨0xF00000, 0, 1, 0, 1⟩, ⟨0xF00008, 0, 1, 0, 1⟩],
  [⟨0xF00010, 0, 1, 0, 1⟩, ⟨0xF00018, 0, 1, 0, 1⟩, ⟨0xF00020, 0, 1, 0, 1⟩, ⟨0xF00040, 0, 1, 0, 1⟩,
   ⟨0xF00048, 0, 1, 0, 1⟩, ⟨0xF00050, 0, 1, 0, 1⟩, ⟨0xF00058, 0, 1, 0, 1⟩, ⟨0xF00060, 0, 1, 0, 1⟩,
   ⟨0xF00068, 0, 1, 0, 1⟩, ⟨0xF00100, 32, 8, 0, 1⟩, ⟨0xF00108, 32, 8, 0, 1⟩, ⟨0xF00110, 32, 8, 0, 1⟩,
   ⟨0xF00118, 32, 8, 0, 1⟩, ⟨0x1000000, 1048576, 16, 0, 1⟩, ⟨0x1000008, 1048576, 16, 0, 1⟩, ⟨0x1000010, 1048576, 16, 0, 1⟩],
  [⟨0x1000018, 1048576, 16, 0, 1⟩, ⟨0x1000020, 1048576, 16, 0, 1⟩, ⟨0x1000028, 1048576, 16, 0, 1⟩, ⟨0x1000030, 1048576, 16, 0, 1⟩,
   ⟨0x1000038, 1048576, 16, 0, 1⟩, ⟨0x1000040, 1048576, 16, 0, 1⟩, ⟨0x1000048, 1048576, 16, 0, 1⟩, ⟨0x1000050, 1048576, 16, 0, 1⟩,
   ⟨0x2000000, 64, 4096, 8, 8⟩, ⟨0x2040000, 0, 1, 0, 1⟩, ⟨0x2040008, 0, 1, 0, 1⟩, ⟨0x2100000, 8, 4096, 0, 1⟩,
   ⟨0x2180000, 8, 4096, 0, 1⟩, ⟨0x2200000, 8, 4096, 0, 1⟩, ⟨0x2280000, 8, 64, 0, 1⟩, ⟨0x2280200, 0, 1, 0, 1⟩],
  [⟨0x3000000, 0, 1, 0, 1⟩, ⟨0x3000008, 0, 1, 0, 1⟩, ⟨0x3000010, 0, 1, 0, 1⟩, ⟨0x3000018, 0, 1, 0, 1⟩,
   ⟨0x3000020, 0, 1, 0, 1⟩, ⟨0x3000040, 8, 8, 0, 1⟩, ⟨0x3000080, 32, 4, 8, 4⟩, ⟨0x3000100, 0, 1, 0, 1⟩,
   ⟨0x3000108, 0, 1, 0, 1⟩, ⟨0x3000110, 0, 1, 0, 1⟩, ⟨0x3000118, 0, 1, 0, 1⟩, ⟨0x3000120, 0, 1, 0, 1⟩,
   ⟨0x3000140, 8, 4, 0, 1⟩, ⟨0x3000160, 0, 1, 0, 1⟩, ⟨0x3000168, 0, 1, 0, 1⟩, ⟨0x3000180, 0, 1, 0, 1⟩],
  [⟨0x3000188, 0, 1, 0, 1⟩, ⟨0x3080000, 8, 65536, 0, 1⟩, ⟨0x3100000, 0, 1, 0, 1⟩, ⟨0x3100008, 0, 1, 0, 1⟩,
   ⟨0x3100010, 0, 1, 0, 1⟩, ⟨0x3100018, 0, 1, 0, 1⟩, ⟨0x3100020, 0, 1, 0, 1⟩, ⟨0x3100028, 0, 1, 0, 1⟩,
   ⟨0x3100040, 0, 1, 0, 1⟩, ⟨0x3100048, 0, 1, 0, 1⟩, ⟨0x3100050, 0, 1, 0, 1⟩, ⟨0x3100058, 0, 1, 0, 1⟩,
   ⟨0x3100060, 0, 1, 0, 1⟩, ⟨0x3100100, 16, 16, 0, 1⟩, ⟨0x3100108, 16, 16, 0, 1⟩, ⟨0x3100200, 32, 16, 0, 1⟩],
  [⟨0x3100208, 32, 16, 0, 1⟩, ⟨0x3100210, 32, 16, 0, 1⟩, ⟨0x3100218, 32, 16, 0, 1⟩, ⟨0x3100400, 32, 16, 0, 1⟩,
   ⟨0x3100408, 32, 16, 0, 1⟩, ⟨0x3100410, 32, 16, 0, 1⟩, ⟨0x3100418, 32, 16, 0, 1⟩]]

/-- The family of a number. -/
def family (k : Nat) : Family := (families.getD (k / 16) []).getD (k % 16) ⟨0, 0, 0, 0, 0⟩

/-- Whether an offset belongs to one of the numbered families. -/
def inFamilies (l : List Nat) (off : Nat) : Prop := ∃ k ∈ l, (family k).has off

/-! The numbers of the families that commands write. -/
namespace Fam
/-- GLB_EPOCH. -/
def GLB_EPOCH : Nat := 2
/-- AO_BOOT. -/
def AO_BOOT : Nat := 8
/-- AO_CLK. -/
def AO_CLK : Nat := 9
/-- AO_THERM. -/
def AO_THERM : Nat := 10
/-- AO_PWR. -/
def AO_PWR : Nat := 11
/-- AO_BOOT_STEP. -/
def AO_BOOT_STEP : Nat := 13
/-- SIT_LOAD. -/
def SIT_LOAD : Nat := 14
/-- SIT_STATUS. -/
def SIT_STATUS : Nat := 17
/-- SIT_EPOCH_CTRL. -/
def SIT_EPOCH_CTRL : Nat := 20
/-- SIT_EPOCH_UNITS. -/
def SIT_EPOCH_UNITS : Nat := 21
/-- SIT_EPOCH_ACKED. -/
def SIT_EPOCH_ACKED : Nat := 22
/-- TLR_MISS_STS. -/
def TLR_MISS_STS : Nat := 24
/-- TLR_CAP_STS. -/
def TLR_CAP_STS : Nat := 25
/-- TLR_PORT. -/
def TLR_PORT : Nat := 31
/-- DET_CX_STS. -/
def DET_CX_STS : Nat := 37
/-- DET_CX_BROKEN. -/
def DET_CX_BROKEN : Nat := 38
/-- DET_ACC_CMD. -/
def DET_ACC_CMD : Nat := 40
/-- DET_SLOT_RESTORE. -/
def DET_SLOT_RESTORE : Nat := 41
/-- DET_CX_CYCLES. -/
def DET_CX_CYCLES : Nat := 42
/-- DET_CX_WAIT. -/
def DET_CX_WAIT : Nat := 43
/-- DET_CX_KERNEL. -/
def DET_CX_KERNEL : Nat := 44
/-- DET_STEP. -/
def DET_STEP : Nat := 48
/-- DET_TAG_CTL. -/
def DET_TAG_CTL : Nat := 49
/-- LDG_HEAD. -/
def LDG_HEAD : Nat := 52
/-- LDG_TAIL. -/
def LDG_TAIL : Nat := 53
/-- LDG_STS. -/
def LDG_STS : Nat := 54
/-- LDG_SECDED_CE. -/
def LDG_SECDED_CE : Nat := 56
/-- LDG_POISON_READS. -/
def LDG_POISON_READS : Nat := 57
/-- LDG_TAG_POISON. -/
def LDG_TAG_POISON : Nat := 58
/-- LDG_FLIP_SEL. -/
def LDG_FLIP_SEL : Nat := 60
/-- LDG_CE_ADDR. -/
def LDG_CE_ADDR : Nat := 63
/-- LDG_CE_INFO. -/
def LDG_CE_INFO : Nat := 64
/-- CLR_STS. -/
def CLR_STS : Nat := 67
/-- CLR_LAST_PASS_END. -/
def CLR_LAST_PASS_END : Nat := 68
/-- CLR_GRAINS. -/
def CLR_GRAINS : Nat := 69
/-- CLR_CORRECTED. -/
def CLR_CORRECTED : Nat := 70
/-- CLR_REPAIRED. -/
def CLR_REPAIRED : Nat := 71
/-- CLR_POISONED. -/
def CLR_POISONED : Nat := 72
/-- CLR_MARKED_SKIPPED. -/
def CLR_MARKED_SKIPPED : Nat := 73
/-- MNT_JQ_CFG. -/
def MNT_JQ_CFG : Nat := 75
/-- MNT_JQ_HEAD. -/
def MNT_JQ_HEAD : Nat := 77
/-- MNT_STATUS. -/
def MNT_STATUS : Nat := 78
/-- MNT_TILES_ENC. -/
def MNT_TILES_ENC : Nat := 79
/-- MNT_TILES_RAW. -/
def MNT_TILES_RAW : Nat := 80
/-- MNT_GRAINS_OUT. -/
def MNT_GRAINS_OUT : Nat := 81
/-- MNT_BASE_HITS. -/
def MNT_BASE_HITS : Nat := 82
/-- MNT_BASE_MISSES. -/
def MNT_BASE_MISSES : Nat := 83
/-- MNT_SLOT_CMD. -/
def MNT_SLOT_CMD : Nat := 85
/-- MNT_SLOT_RESULT. -/
def MNT_SLOT_RESULT : Nat := 86
/-- MNT_SLOT_INFO. -/
def MNT_SLOT_INFO : Nat := 87
/-- MNT_SLOT_TAB. -/
def MNT_SLOT_TAB : Nat := 88
/-- CAN_CTRL. -/
def CAN_CTRL : Nat := 90
/-- CAN_HITS. -/
def CAN_HITS : Nat := 92
/-- CAN_MISSES. -/
def CAN_MISSES : Nat := 93
/-- CAN_WBACKS. -/
def CAN_WBACKS : Nat := 94
/-- CAN_DSTS. -/
def CAN_DSTS : Nat := 100
/-- CAN_TALLY. -/
def CAN_TALLY : Nat := 101
/-- UND_STS. -/
def UND_STS : Nat := 108
/-- UND_TALLY. -/
def UND_TALLY : Nat := 109
/-- VLT_CKPT_CMD. -/
def VLT_CKPT_CMD : Nat := 112
/-- VLT_PAGES. -/
def VLT_PAGES : Nat := 114
/-- VLT_CH_STS. -/
def VLT_CH_STS : Nat := 115
/-- VLT_CH_TALLY. -/
def VLT_CH_TALLY : Nat := 116
/-- VLT_CKPT_STS. -/
def VLT_CKPT_STS : Nat := 119
/-- VLT_CKPT_MARK. -/
def VLT_CKPT_MARK : Nat := 120
/-- JX_SYNC_STS. -/
def JX_SYNC_STS : Nat := 124
/-- JX_TOKENS. -/
def JX_TOKENS : Nat := 125
/-- JX_PORT_CFG. -/
def JX_PORT_CFG : Nat := 127
/-- JX_PORT_STS. -/
def JX_PORT_STS : Nat := 128
/-- JX_PORT_CREDIT. -/
def JX_PORT_CREDIT : Nat := 129
/-- JX_PORT_TALLY. -/
def JX_PORT_TALLY : Nat := 130
/-- OPT_STS. -/
def OPT_STS : Nat := 132
/-- OPT_LANEMAP. -/
def OPT_LANEMAP : Nat := 133
/-- OPT_LASER. -/
def OPT_LASER : Nat := 134
/-- OPT_RXPWR. -/
def OPT_RXPWR : Nat := 135
/-- OPT_TRAINS. -/
def OPT_TRAINS : Nat := 136
/-- PEP_STS. -/
def PEP_STS : Nat := 138
/-- PEP_WIN_COMMIT. -/
def PEP_WIN_COMMIT : Nat := 140
/-- PEP_UR. -/
def PEP_UR : Nat := 143
/-- PEP_CA. -/
def PEP_CA : Nat := 144
/-- PEP_WIN_ACT_BASE. -/
def PEP_WIN_ACT_BASE : Nat := 147
/-- PEP_WIN_ACT_CTL. -/
def PEP_WIN_ACT_CTL : Nat := 148
/-- PEP_DMA_CFG. -/
def PEP_DMA_CFG : Nat := 150
/-- PEP_DMA_HEAD. -/
def PEP_DMA_HEAD : Nat := 152
/-- PEP_DMA_STS. -/
def PEP_DMA_STS : Nat := 153
/-- POOL_STATUS. -/
def POOL_STATUS : Nat := 156
/-- POOL_HOST_GO. -/
def POOL_HOST_GO : Nat := 160
/-- POOL_HOST_STS. -/
def POOL_HOST_STS : Nat := 161
/-- POOL_DENIALS. -/
def POOL_DENIALS : Nat := 164
/-- POOL_REVOKED_REQS. -/
def POOL_REVOKED_REQS : Nat := 165
/-- POOL_OPS_DONE. -/
def POOL_OPS_DONE : Nat := 166
/-- POOL_EXT. -/
def POOL_EXT : Nat := 173
/-- PAIR_STS. -/
def PAIR_STS : Nat := 177
/-- PAIR_CMD. -/
def PAIR_CMD : Nat := 178
/-- PAIR_FWD_WRITES. -/
def PAIR_FWD_WRITES : Nat := 179
/-- PAIR_FWD_BYTES. -/
def PAIR_FWD_BYTES : Nat := 180
/-- PAIR_COMPARED. -/
def PAIR_COMPARED : Nat := 181
/-- PAIR_UNCOMPARED. -/
def PAIR_UNCOMPARED : Nat := 182
/-- PAIR_MISMATCHES. -/
def PAIR_MISMATCHES : Nat := 183
/-- PAIR_RESYNC_PAGES. -/
def PAIR_RESYNC_PAGES : Nat := 184
/-- PAIR_MM. -/
def PAIR_MM : Nat := 185
/-- PAIR_MM_STEP. -/
def PAIR_MM_STEP : Nat := 186
/-- PAIR_MM_FIRST. -/
def PAIR_MM_FIRST : Nat := 187
/-- PAIR_MM_RERUN. -/
def PAIR_MM_RERUN : Nat := 188
/-- CORE_Q_CFG. -/
def CORE_Q_CFG : Nat := 190
/-- CORE_Q_HEAD. -/
def CORE_Q_HEAD : Nat := 192
/-- CORE_LAST. -/
def CORE_LAST : Nat := 194
/-- CORE_WAKE. -/
def CORE_WAKE : Nat := 196
/-- CORE_KERNELS. -/
def CORE_KERNELS : Nat := 197
/-- CORE_LATE. -/
def CORE_LATE : Nat := 199
/-- SLOT_STATUS. -/
def SLOT_STATUS : Nat := 200
/-- SLOT_RELEASE_RESULT. -/
def SLOT_RELEASE_RESULT : Nat := 202
/-- SLOT_EVENT. -/
def SLOT_EVENT : Nat := 203
/-- SLOT_BARRIER. -/
def SLOT_BARRIER : Nat := 206
/-- MGT_STS. -/
def MGT_STS : Nat := 209
/-- MGT_KEY_STS. -/
def MGT_KEY_STS : Nat := 215
/-- MGT_FUSE_CMD. -/
def MGT_FUSE_CMD : Nat := 216
/-- MGT_NOR_CMD. -/
def MGT_NOR_CMD : Nat := 219
/-- MGT_ATT_CMD. -/
def MGT_ATT_CMD : Nat := 222
/-- MGT_IMG_SESSION. -/
def MGT_IMG_SESSION : Nat := 223
/-- MGT_IMG_PAGE. -/
def MGT_IMG_PAGE : Nat := 224
/-- TST_QUAR. -/
def TST_QUAR : Nat := 228
/-- TST_DIAG_CTL. -/
def TST_DIAG_CTL : Nat := 229
/-- TST_SHELF_CTL. -/
def TST_SHELF_CTL : Nat := 231
/-- TST_SHADOWED. -/
def TST_SHADOWED : Nat := 232
/-- TST_SHADOW_SKIPPED. -/
def TST_SHADOW_SKIPPED : Nat := 233
/-- TST_MISMATCHES. -/
def TST_MISMATCHES : Nat := 234
/-- TST_UNCHECKED. -/
def TST_UNCHECKED : Nat := 235
/-- TST_QUAR_DROPS. -/
def TST_QUAR_DROPS : Nat := 236
/-- TST_SET. -/
def TST_SET : Nat := 237
/-- TST_SET_INFO. -/
def TST_SET_INFO : Nat := 238
/-- TST_SUSPECT. -/
def TST_SUSPECT : Nat := 239
/-- TST_SUSPECT_PASS. -/
def TST_SUSPECT_PASS : Nat := 240
/-- TST_SUSPECT_CRC. -/
def TST_SUSPECT_CRC : Nat := 241
/-- TST_SUSPECT_COUNT. -/
def TST_SUSPECT_COUNT : Nat := 242
/-- TST_CORE_CTL. -/
def TST_CORE_CTL : Nat := 243
/-- TST_CORE_STS. -/
def TST_CORE_STS : Nat := 244
/-- TST_CORE_LAST. -/
def TST_CORE_LAST : Nat := 245
/-- TST_CORE_TESTS. -/
def TST_CORE_TESTS : Nat := 246
end Fam

/-- The parts and the register families that a command may write; no list where it may write any register. -/
structure Footprint where
  parts : List Part
  regs : Option (List Nat)
  deriving DecidableEq, Repr

/-- From s to t nothing outside a footprint has changed. -/
def Footprint.keeps (x : Footprint) (s t : State) : Prop :=
  (∀ p : Part, p ∉ x.parts → p.same s t) ∧ ∀ l, x.regs = some l → ∀ off, ¬ inFamilies l off → t.reg off = s.reg off

/-- Parts: the link, the ledger and what a record raises. -/
def ledgerParts : List Part := [.ports, .integ, .tellers, .boot, .mgmt, .irq, .out]
/-- Parts: the memories. -/
def memoryParts : List Part := [.dram, .stores, .storePoison, .storeParity, .srcRecs, .canopy, .dramCtl, .vault]
/-- Parts: the base caches. -/
def baseParts : List Part := [.baseCache0, .baseCache1]
/-- Registers: what a ledger record and a message write. -/
def ledgerRegs : List Nat := [Fam.LDG_HEAD, Fam.LDG_TAIL, Fam.LDG_STS, Fam.LDG_FLIP_SEL, Fam.JX_PORT_STS, Fam.JX_PORT_CREDIT, Fam.JX_PORT_TALLY]
/-- Registers: what an access to memory counts. -/
def memoryRegs : List Nat := [Fam.LDG_CE_ADDR, Fam.LDG_CE_INFO, Fam.CAN_HITS, Fam.CAN_MISSES, Fam.CAN_WBACKS, Fam.CAN_TALLY, Fam.UND_TALLY, Fam.VLT_CKPT_STS]
/-- Registers: what a tile read counts. -/
def tileRegs : List Nat := [Fam.LDG_SECDED_CE, Fam.MNT_BASE_HITS, Fam.MNT_BASE_MISSES, Fam.VLT_CH_TALLY]
/-- Registers: what a fault that ends kernels writes. -/
def faultRegs : List Nat := [Fam.SIT_STATUS, Fam.SIT_EPOCH_UNITS, Fam.PAIR_STS, Fam.CORE_LAST, Fam.CORE_KERNELS, Fam.SLOT_STATUS, Fam.SLOT_EVENT, Fam.SLOT_BARRIER, Fam.TST_DIAG_CTL, Fam.TST_SUSPECT, Fam.TST_CORE_STS]
/-- Every part but the queue. -/
def allParts : List Part :=
  [.count, .regs, .dram, .stores, .storePoison, .storeParity, .srcRecs, .fences, .epoch, .ports, .optics, .tokens, .opens, .nextId, .own, .nextTxn, .sync, .canopy, .integ, .dramCtl, .vault, .installs, .baseCache0, .baseCache1, .cores, .accs, .exacts, .silent, .pair, .plans, .stalls, .pool, .mint, .tellers, .clocks, .boot, .mgmt, .pep, .tap, .irq, .deniedAt, .dieTemp, .railMv, .free, .out]
/-- Every part but the queue and the counter. -/
def wideParts : List Part := allParts.filter (fun p => p != .count)

/-- What each command may write. -/
def footprintOf : Instr → Footprint
  | .registerWrite .. => ⟨wideParts, none⟩
  | .operandParity .. => ⟨[.regs, .fences, .epoch, .tokens, .cores, .silent, .pair, .stalls, .free] ++ ledgerParts
      ++ memoryParts ++ baseParts, some ([Fam.DET_CX_STS, Fam.DET_CX_BROKEN, Fam.DET_CX_CYCLES, Fam.DET_CX_WAIT,
      Fam.DET_CX_KERNEL, Fam.JX_TOKENS, Fam.CORE_Q_HEAD, Fam.CORE_LATE, Fam.TST_UNCHECKED] ++ ledgerRegs ++
      memoryRegs ++ tileRegs ++ faultRegs)⟩
  | .seqFault .. => ⟨[.regs, .fences, .epoch, .tokens, .cores, .silent, .pair, .stalls, .free] ++ ledgerParts ++
      memoryParts ++ baseParts, some ([Fam.DET_CX_STS, Fam.DET_CX_BROKEN, Fam.DET_CX_CYCLES, Fam.DET_CX_WAIT,
      Fam.DET_CX_KERNEL, Fam.JX_TOKENS, Fam.CORE_Q_HEAD, Fam.CORE_LATE, Fam.TST_UNCHECKED, Fam.TST_CORE_CTL] ++
      ledgerRegs ++ memoryRegs ++ tileRegs ++ faultRegs)⟩
  | .clusterFault .. => ⟨[.regs, .fences, .epoch, .tokens, .cores, .silent, .pair, .stalls, .free] ++ ledgerParts ++
      memoryParts ++ baseParts, some ([Fam.DET_CX_STS, Fam.DET_CX_BROKEN, Fam.DET_CX_CYCLES, Fam.DET_CX_WAIT,
      Fam.DET_CX_KERNEL, Fam.JX_TOKENS, Fam.CORE_Q_HEAD, Fam.CORE_LATE, Fam.TST_UNCHECKED, Fam.TST_CORE_CTL] ++
      ledgerRegs ++ memoryRegs ++ tileRegs ++ faultRegs)⟩
  | .dieFault .. => ⟨[.regs, .fences, .epoch, .tokens, .cores, .silent, .pair, .stalls, .free] ++ ledgerParts ++
      memoryParts ++ baseParts, some ([Fam.DET_CX_STS, Fam.DET_CX_BROKEN, Fam.DET_CX_CYCLES, Fam.DET_CX_WAIT,
      Fam.DET_CX_KERNEL, Fam.JX_TOKENS, Fam.JX_PORT_CFG, Fam.OPT_STS, Fam.OPT_LASER, Fam.CORE_Q_HEAD, Fam.CORE_LATE,
      Fam.TST_UNCHECKED, Fam.TST_CORE_CTL] ++ ledgerRegs ++ memoryRegs ++ tileRegs ++ faultRegs)⟩
  | .bridgeFailure .. => ⟨[.regs, .fences, .epoch, .tokens, .cores, .silent, .pair, .stalls, .free] ++ ledgerParts
      ++ memoryParts ++ baseParts, some ([Fam.DET_CX_STS, Fam.DET_CX_BROKEN, Fam.DET_CX_CYCLES, Fam.DET_CX_WAIT,
      Fam.DET_CX_KERNEL, Fam.JX_TOKENS, Fam.JX_PORT_CFG, Fam.OPT_STS, Fam.OPT_LASER, Fam.CORE_Q_HEAD, Fam.CORE_LATE,
      Fam.TST_UNCHECKED, Fam.TST_CORE_CTL] ++ ledgerRegs ++ memoryRegs ++ tileRegs ++ faultRegs)⟩
  | .coreWake .. => ⟨[.regs, .cores], some ([Fam.CORE_WAKE])⟩
  | .coreReady .. => ⟨[.regs, .cores], some ([Fam.CORE_WAKE])⟩
  | .coreGate .. => ⟨[.cores], some ([])⟩
  | .sitLoad .. => ⟨[.regs, .epoch, .tokens, .own, .nextTxn] ++ ledgerParts, some ([Fam.SIT_LOAD, Fam.SIT_STATUS,
      Fam.JX_TOKENS] ++ ledgerRegs)⟩
  | .imageLoadEnd .. => ⟨[.regs, .epoch, .installs, .pair, .mint, .free] ++ ledgerParts ++ memoryParts ++ baseParts,
      none⟩
  | .epochGo => ⟨[.regs, .epoch] ++ ledgerParts, some ([Fam.GLB_EPOCH, Fam.SIT_STATUS, Fam.SIT_EPOCH_CTRL,
      Fam.SIT_EPOCH_UNITS, Fam.SIT_EPOCH_ACKED] ++ ledgerRegs)⟩
  | .epochAbandon => ⟨[.regs, .epoch, .tokens] ++ ledgerParts, some ([Fam.GLB_EPOCH, Fam.SIT_STATUS,
      Fam.SIT_EPOCH_CTRL, Fam.JX_TOKENS] ++ ledgerRegs)⟩
  | .epochLaunch => ⟨[.regs, .epoch, .tokens] ++ ledgerParts, some ([Fam.GLB_EPOCH, Fam.SIT_STATUS,
      Fam.SIT_EPOCH_CTRL, Fam.SIT_EPOCH_UNITS, Fam.JX_TOKENS] ++ ledgerRegs)⟩
  | .epochAck .. => ⟨[.regs, .epoch], some ([Fam.SIT_STATUS, Fam.SIT_EPOCH_ACKED])⟩
  | .epochRefusal .. => ⟨[.regs, .epoch, .tokens] ++ ledgerParts, some ([Fam.GLB_EPOCH, Fam.SIT_STATUS,
      Fam.SIT_EPOCH_CTRL, Fam.JX_TOKENS] ++ ledgerRegs)⟩
  | .epochCommit => ⟨[.regs, .fences, .epoch, .optics, .tokens, .opens, .cores, .silent, .pair, .stalls, .pool,
      .pep, .free] ++ ledgerParts ++ memoryParts, none⟩
  | .epochTimeout => ⟨[.regs, .epoch, .tokens] ++ ledgerParts, some ([Fam.GLB_EPOCH, Fam.SIT_STATUS,
      Fam.SIT_EPOCH_CTRL, Fam.JX_TOKENS] ++ ledgerRegs)⟩
  | .oldSetRelease => ⟨[.epoch], some ([])⟩
  | .jxRd .. => ⟨wideParts, none⟩
  | .jxWr .. => ⟨wideParts, none⟩
  | .jxFlush .. => ⟨wideParts, none⟩
  | .creq .. => ⟨wideParts, none⟩
  | .canopyWb .. => ⟨[.regs], some ([Fam.CAN_CTRL])⟩
  | .canopyInv .. => ⟨[.regs], some ([Fam.CAN_CTRL])⟩
  | .canopyDrainSet .. => ⟨[.regs], some ([Fam.CAN_CTRL])⟩
  | .canopyDrainClear .. => ⟨[.regs], some ([Fam.CAN_CTRL])⟩
  | .canopyWbDone .. => ⟨[.regs, .dram, .canopy, .dramCtl] ++ ledgerParts, some ([Fam.LDG_CE_ADDR, Fam.LDG_CE_INFO,
      Fam.CAN_CTRL, Fam.CAN_WBACKS, Fam.CAN_TALLY, Fam.UND_TALLY] ++ ledgerRegs)⟩
  | .canopyDrained .. => ⟨[.regs, .dram, .canopy, .dramCtl] ++ ledgerParts, some ([Fam.LDG_CE_ADDR, Fam.LDG_CE_INFO,
      Fam.CAN_WBACKS, Fam.CAN_TALLY, Fam.UND_TALLY] ++ ledgerRegs)⟩
  | .decayBoundary => ⟨[.canopy], some ([])⟩
  | .writeExpandDone .. => ⟨wideParts, none⟩
  | .corePlanStart .. => ⟨[.nextId, .plans], some ([])⟩
  | .streamStepIssue .. => ⟨[.regs, .epoch, .tokens, .nextId, .own, .nextTxn, .cores, .plans] ++ ledgerParts, some
      ([Fam.JX_TOKENS, Fam.SLOT_EVENT] ++ ledgerRegs)⟩
  | .fetchDone .. => ⟨[.regs, .epoch, .pair, .plans, .free] ++ ledgerParts ++ memoryParts ++ baseParts, some
      ([Fam.PAIR_STS, Fam.SLOT_EVENT] ++ ledgerRegs ++ memoryRegs ++ tileRegs)⟩
  | .stallTimeout .. => ⟨[.regs, .tokens, .stalls] ++ ledgerParts, some ([Fam.JX_TOKENS] ++ ledgerRegs)⟩
  | .mintJobFetch => ⟨[.regs, .tokens, .nextId, .pair, .mint, .free] ++ ledgerParts ++ memoryParts ++ baseParts,
      some ([Fam.MNT_JQ_CFG, Fam.MNT_JQ_HEAD, Fam.MNT_STATUS, Fam.MNT_SLOT_INFO, Fam.JX_TOKENS, Fam.PAIR_STS,
      Fam.SLOT_EVENT] ++ ledgerRegs ++ memoryRegs ++ tileRegs)⟩
  | .mintCompress => ⟨[.regs, .pair, .mint, .free] ++ ledgerParts ++ memoryParts ++ baseParts, some
      ([Fam.LDG_POISON_READS, Fam.LDG_TAG_POISON, Fam.MNT_JQ_HEAD, Fam.MNT_STATUS, Fam.MNT_TILES_ENC,
      Fam.MNT_TILES_RAW, Fam.MNT_GRAINS_OUT, Fam.MNT_SLOT_INFO, Fam.PAIR_STS] ++ ledgerRegs ++ memoryRegs ++
      tileRegs)⟩
  | .mintEncode => ⟨[.regs, .pair, .mint, .free] ++ ledgerParts ++ memoryParts ++ baseParts, some
      ([Fam.LDG_POISON_READS, Fam.LDG_TAG_POISON, Fam.MNT_JQ_HEAD, Fam.MNT_STATUS, Fam.MNT_TILES_ENC,
      Fam.MNT_TILES_RAW, Fam.MNT_GRAINS_OUT, Fam.MNT_SLOT_INFO, Fam.PAIR_STS] ++ ledgerRegs ++ memoryRegs ++
      tileRegs)⟩
  | .mintBuild => ⟨[.regs, .pair, .mint, .free] ++ ledgerParts ++ memoryParts ++ baseParts, some
      ([Fam.LDG_POISON_READS, Fam.LDG_TAG_POISON, Fam.MNT_JQ_HEAD, Fam.MNT_STATUS, Fam.MNT_TILES_ENC,
      Fam.MNT_TILES_RAW, Fam.MNT_GRAINS_OUT, Fam.MNT_SLOT_INFO, Fam.PAIR_STS] ++ ledgerRegs ++ memoryRegs ++
      tileRegs)⟩
  | .mintDecode => ⟨[.regs, .pair, .mint, .free] ++ ledgerParts ++ memoryParts ++ baseParts, some
      ([Fam.LDG_POISON_READS, Fam.LDG_TAG_POISON, Fam.MNT_JQ_HEAD, Fam.MNT_STATUS, Fam.MNT_SLOT_INFO, Fam.PAIR_STS]
      ++ ledgerRegs ++ memoryRegs ++ tileRegs)⟩
  | .mintRelease => ⟨[.regs, .pair, .mint] ++ ledgerParts ++ memoryParts ++ baseParts, some ([Fam.LDG_SECDED_CE,
      Fam.MNT_JQ_HEAD, Fam.MNT_STATUS, Fam.MNT_SLOT_INFO, Fam.PAIR_STS] ++ ledgerRegs ++ memoryRegs)⟩
  | .mintPass1End .. => ⟨[.regs, .installs, .pair, .mint, .free] ++ ledgerParts ++ memoryParts ++ baseParts, some
      ([Fam.LDG_POISON_READS, Fam.LDG_TAG_POISON, Fam.MNT_STATUS, Fam.MNT_TILES_ENC, Fam.MNT_TILES_RAW,
      Fam.MNT_GRAINS_OUT, Fam.MNT_SLOT_INFO, Fam.MNT_SLOT_TAB, Fam.PAIR_STS] ++ ledgerRegs ++ memoryRegs ++
      tileRegs)⟩
  | .mintJobEnd .. => ⟨[.regs, .tokens, .pair, .mint] ++ ledgerParts ++ memoryParts, some ([Fam.MNT_STATUS,
      Fam.MNT_SLOT_INFO, Fam.JX_TOKENS, Fam.PAIR_STS, Fam.SLOT_EVENT] ++ ledgerRegs ++ memoryRegs)⟩
  | .slotLock .. => ⟨[.regs] ++ ledgerParts, some ([Fam.MNT_STATUS, Fam.MNT_SLOT_CMD, Fam.MNT_SLOT_RESULT,
      Fam.MNT_SLOT_INFO] ++ ledgerRegs)⟩
  | .slotUnlock .. => ⟨[.regs], some ([Fam.MNT_SLOT_CMD, Fam.MNT_SLOT_RESULT, Fam.MNT_SLOT_INFO])⟩
  | .slotRetire .. => ⟨[.regs, .mint] ++ ledgerParts, some ([Fam.MNT_STATUS, Fam.MNT_SLOT_CMD, Fam.MNT_SLOT_RESULT,
      Fam.MNT_SLOT_INFO] ++ ledgerRegs)⟩
  | .slotActivate .. => ⟨[.regs, .mint] ++ ledgerParts, some ([Fam.MNT_STATUS, Fam.MNT_SLOT_CMD,
      Fam.MNT_SLOT_RESULT, Fam.MNT_SLOT_INFO] ++ ledgerRegs)⟩
  | .slotInstall .. => ⟨[.regs, .installs] ++ ledgerParts, some ([Fam.MNT_STATUS, Fam.MNT_SLOT_CMD,
      Fam.MNT_SLOT_RESULT, Fam.MNT_SLOT_INFO] ++ ledgerRegs)⟩
  | .slotClear .. => ⟨[.regs] ++ ledgerParts, some ([Fam.MNT_STATUS, Fam.MNT_SLOT_CMD, Fam.MNT_SLOT_RESULT,
      Fam.MNT_SLOT_INFO, Fam.MNT_SLOT_TAB] ++ ledgerRegs)⟩
  | .slotCmdReserved .. => ⟨[.regs] ++ ledgerParts, some ([Fam.MNT_STATUS, Fam.MNT_SLOT_CMD, Fam.MNT_SLOT_RESULT] ++
      ledgerRegs)⟩
  | .slotInstallDone .. => ⟨[.regs, .installs, .mint], some ([Fam.MNT_SLOT_CMD, Fam.MNT_SLOT_INFO,
      Fam.MNT_SLOT_TAB])⟩
  | .drainSetEmpty .. => ⟨[.regs, .mint], some ([Fam.MNT_SLOT_INFO])⟩
  | .descFetch .. => ⟨[.regs, .nextId, .cores, .plans, .free] ++ ledgerParts ++ memoryParts ++ baseParts, some
      ([Fam.CORE_Q_CFG] ++ ledgerRegs ++ memoryRegs ++ tileRegs)⟩
  | .kernelStart .. => ⟨[.regs, .fences, .epoch, .tokens, .nextId, .cores, .silent, .pair] ++ ledgerParts ++
      memoryParts, some ([Fam.DET_CX_STS, Fam.DET_CX_BROKEN, Fam.JX_TOKENS, Fam.CORE_Q_HEAD, Fam.CORE_LATE,
      Fam.TST_SHADOW_SKIPPED] ++ ledgerRegs ++ memoryRegs ++ faultRegs)⟩
  | .kernelEnd .. => ⟨[.regs, .fences, .epoch, .tokens, .cores, .exacts, .silent, .pair, .stalls, .mint, .free] ++
      ledgerParts ++ memoryParts ++ baseParts, some ([Fam.DET_CX_STS, Fam.DET_CX_BROKEN, Fam.DET_CX_CYCLES,
      Fam.DET_CX_WAIT, Fam.DET_CX_KERNEL, Fam.LDG_POISON_READS, Fam.LDG_TAG_POISON, Fam.MNT_SLOT_INFO,
      Fam.JX_TOKENS, Fam.PAIR_COMPARED, Fam.PAIR_MISMATCHES, Fam.PAIR_MM, Fam.PAIR_MM_STEP, Fam.PAIR_MM_FIRST,
      Fam.PAIR_MM_RERUN] ++ ledgerRegs ++ memoryRegs ++ tileRegs ++ faultRegs)⟩
  | .eventSet .. => ⟨[.regs], some ([Fam.SLOT_EVENT])⟩
  | .eventAdd .. => ⟨[.regs, .irq], some ([Fam.SLOT_EVENT])⟩
  | .eventDec .. => ⟨[.regs, .out], some ([Fam.SLOT_EVENT])⟩
  | .barrierArrive .. => ⟨[.regs] ++ ledgerParts, some ([Fam.SLOT_EVENT, Fam.SLOT_BARRIER] ++ ledgerRegs)⟩
  | .slotRelease .. => ⟨[.regs], some ([Fam.SLOT_STATUS, Fam.SLOT_RELEASE_RESULT])⟩
  | .expFwd .. => ⟨[.regs, .fences, .epoch, .tokens, .nextId, .cores, .exacts, .silent, .pair, .stalls, .mint,
      .free] ++ ledgerParts ++ memoryParts ++ baseParts, some ([Fam.DET_CX_STS, Fam.DET_CX_BROKEN,
      Fam.DET_CX_CYCLES, Fam.DET_CX_WAIT, Fam.DET_CX_KERNEL, Fam.LDG_POISON_READS, Fam.LDG_TAG_POISON,
      Fam.MNT_SLOT_INFO, Fam.JX_TOKENS, Fam.PAIR_COMPARED, Fam.PAIR_MISMATCHES, Fam.PAIR_MM, Fam.PAIR_MM_STEP,
      Fam.PAIR_MM_FIRST, Fam.PAIR_MM_RERUN] ++ ledgerRegs ++ memoryRegs ++ tileRegs ++ faultRegs)⟩
  | .expBwd .. => ⟨[.regs, .fences, .epoch, .tokens, .nextId, .cores, .exacts, .silent, .pair, .stalls, .mint,
      .free] ++ ledgerParts ++ memoryParts ++ baseParts, some ([Fam.DET_CX_STS, Fam.DET_CX_BROKEN,
      Fam.DET_CX_CYCLES, Fam.DET_CX_WAIT, Fam.DET_CX_KERNEL, Fam.LDG_POISON_READS, Fam.LDG_TAG_POISON,
      Fam.MNT_SLOT_INFO, Fam.JX_TOKENS, Fam.PAIR_COMPARED, Fam.PAIR_MISMATCHES, Fam.PAIR_MM, Fam.PAIR_MM_STEP,
      Fam.PAIR_MM_FIRST, Fam.PAIR_MM_RERUN] ++ ledgerRegs ++ memoryRegs ++ tileRegs ++ faultRegs)⟩
  | .expClose .. => ⟨[.regs, .fences, .epoch, .tokens, .nextId, .cores, .exacts, .silent, .pair, .stalls, .mint,
      .free] ++ ledgerParts ++ memoryParts ++ baseParts, some ([Fam.DET_CX_STS, Fam.DET_CX_BROKEN,
      Fam.DET_CX_CYCLES, Fam.DET_CX_WAIT, Fam.DET_CX_KERNEL, Fam.LDG_POISON_READS, Fam.LDG_TAG_POISON,
      Fam.MNT_SLOT_INFO, Fam.JX_TOKENS, Fam.PAIR_COMPARED, Fam.PAIR_MISMATCHES, Fam.PAIR_MM, Fam.PAIR_MM_STEP,
      Fam.PAIR_MM_FIRST, Fam.PAIR_MM_RERUN] ++ ledgerRegs ++ memoryRegs ++ tileRegs ++ faultRegs)⟩
  | .expGroupCombine .. => ⟨[.regs, .fences, .epoch, .tokens, .cores, .exacts, .silent, .pair, .stalls, .mint,
      .free] ++ ledgerParts ++ memoryParts ++ baseParts, some ([Fam.DET_CX_STS, Fam.DET_CX_BROKEN,
      Fam.DET_CX_CYCLES, Fam.DET_CX_WAIT, Fam.DET_CX_KERNEL, Fam.LDG_POISON_READS, Fam.LDG_TAG_POISON,
      Fam.MNT_SLOT_INFO, Fam.JX_TOKENS, Fam.PAIR_COMPARED, Fam.PAIR_MISMATCHES, Fam.PAIR_MM, Fam.PAIR_MM_STEP,
      Fam.PAIR_MM_FIRST, Fam.PAIR_MM_RERUN] ++ ledgerRegs ++ memoryRegs ++ tileRegs ++ faultRegs)⟩
  | .flitRx .. => ⟨[.count, .regs, .fences, .epoch, .optics, .tokens, .opens, .own, .nextTxn, .sync, .installs,
      .cores, .accs, .exacts, .silent, .pair, .plans, .stalls, .pool, .mint, .clocks, .pep, .deniedAt, .free] ++
      ledgerParts ++ memoryParts ++ baseParts, none⟩
  | .badFlit .. => ⟨[.regs, .ports, .out], some ([Fam.JX_PORT_TALLY])⟩
  | .linkInit .. => ⟨[.regs, .epoch, .optics, .tokens, .own, .nextTxn, .free] ++ ledgerParts, some ([Fam.JX_TOKENS,
      Fam.JX_PORT_CFG, Fam.OPT_STS, Fam.OPT_LASER, Fam.OPT_TRAINS] ++ ledgerRegs)⟩
  | .replayRx .. => ⟨[.regs, .optics, .free] ++ ledgerParts, some ([Fam.OPT_STS, Fam.OPT_LASER, Fam.OPT_TRAINS] ++
      ledgerRegs)⟩
  | .initTimer .. => ⟨[.ports, .out], some ([])⟩
  | .replayTimer .. => ⟨[.regs, .optics, .free] ++ ledgerParts, some ([Fam.OPT_STS, Fam.OPT_LASER, Fam.OPT_TRAINS]
      ++ ledgerRegs)⟩
  | .ackTimer .. => ⟨[.ports, .out], some ([])⟩
  | .creditTimer .. => ⟨[.ports, .out], some ([])⟩
  | .retrain .. => ⟨[.regs, .ports, .optics, .free, .out], some ([Fam.JX_PORT_CFG, Fam.JX_PORT_STS, Fam.OPT_STS,
      Fam.OPT_LASER, Fam.OPT_TRAINS])⟩
  | .deferDecision .. => ⟨[.regs, .tokens, .opens, .free] ++ ledgerParts, some ([Fam.JX_TOKENS] ++ ledgerRegs)⟩
  | .deferComplete .. => ⟨wideParts, none⟩
  | .responseRx .. => ⟨[.regs, .fences, .epoch, .optics, .tokens, .opens, .own, .nextTxn, .sync, .installs, .cores,
      .accs, .exacts, .silent, .pair, .plans, .stalls, .pool, .mint, .clocks, .pep, .deniedAt, .free] ++ ledgerParts
      ++ memoryParts ++ baseParts, none⟩
  | .completionRx .. => ⟨[.regs, .epoch, .tokens, .opens, .own, .nextTxn, .pair, .plans, .pool, .pep, .free] ++
      ledgerParts ++ memoryParts, some ([Fam.VLT_CH_TALLY, Fam.JX_TOKENS, Fam.PEP_UR, Fam.PAIR_STS, Fam.SLOT_EVENT]
      ++ ledgerRegs ++ memoryRegs)⟩
  | .ownReqTimeout .. => ⟨[.regs, .fences, .epoch, .optics, .tokens, .opens, .own, .nextTxn, .sync, .installs,
      .cores, .accs, .exacts, .silent, .pair, .plans, .stalls, .pool, .mint, .clocks, .pep, .deniedAt, .free] ++
      ledgerParts ++ memoryParts ++ baseParts, none⟩
  | .ownDeferTimeout .. => ⟨[.regs, .epoch, .tokens, .opens, .own, .pair, .plans, .pool, .pep, .free] ++ ledgerParts
      ++ memoryParts, some ([Fam.VLT_CH_TALLY, Fam.JX_TOKENS, Fam.PEP_UR, Fam.PAIR_STS, Fam.SLOT_EVENT] ++
      ledgerRegs ++ memoryRegs)⟩
  | .syncRequest .. => ⟨[.regs, .tokens] ++ ledgerParts, some ([Fam.JX_TOKENS] ++ ledgerRegs)⟩
  | .syncReply .. => ⟨[.count, .regs, .sync] ++ ledgerParts, some ([Fam.JX_SYNC_STS] ++ ledgerRegs)⟩
  | .syncInterval => ⟨[.regs, .tokens, .sync] ++ ledgerParts, some ([Fam.JX_SYNC_STS, Fam.JX_TOKENS] ++ ledgerRegs)⟩
  | .syncSlew => ⟨[.count, .sync], some ([])⟩
  | .trainingBlockRx .. => ⟨[.regs, .optics, .free, .out], some ([Fam.OPT_STS])⟩
  | .trainLaser .. => ⟨[.regs, .optics, .free, .out], some ([Fam.OPT_STS])⟩
  | .trainSignal .. => ⟨[.regs, .optics, .free, .out], some ([Fam.OPT_STS])⟩
  | .trainEqualise .. => ⟨[.regs, .optics, .free, .out], some ([Fam.OPT_STS])⟩
  | .trainMap .. => ⟨[.regs, .optics, .tokens, .free] ++ ledgerParts, some ([Fam.JX_TOKENS, Fam.JX_PORT_CFG,
      Fam.OPT_STS, Fam.OPT_LASER] ++ ledgerRegs)⟩
  | .trainVerify .. => ⟨[.regs, .optics, .free, .out], some ([Fam.OPT_STS])⟩
  | .trainWidth .. => ⟨[.regs, .optics, .tokens, .free] ++ ledgerParts, some ([Fam.JX_TOKENS, Fam.JX_PORT_CFG,
      Fam.OPT_STS, Fam.OPT_LANEMAP, Fam.OPT_LASER] ++ ledgerRegs)⟩
  | .trainStepLimit .. => ⟨[.regs, .optics, .tokens] ++ ledgerParts, some ([Fam.JX_TOKENS, Fam.JX_PORT_CFG,
      Fam.OPT_STS, Fam.OPT_LASER] ++ ledgerRegs)⟩
  | .trainAttemptTimeout .. => ⟨[.regs, .optics, .tokens] ++ ledgerParts, some ([Fam.JX_TOKENS, Fam.JX_PORT_CFG,
      Fam.OPT_STS, Fam.OPT_LASER] ++ ledgerRegs)⟩
  | .trainRetry .. => ⟨[.regs, .optics, .free, .out], some ([Fam.JX_PORT_STS, Fam.OPT_STS, Fam.OPT_LASER,
      Fam.OPT_TRAINS])⟩
  | .laserPoll .. => ⟨[.regs, .optics, .free] ++ ledgerParts, some ([Fam.OPT_STS, Fam.OPT_LASER, Fam.OPT_RXPWR,
      Fam.OPT_TRAINS] ++ ledgerRegs)⟩
  | .laserPresentChange .. => ⟨[.regs, .optics, .free] ++ ledgerParts, some ([Fam.OPT_STS, Fam.OPT_LASER,
      Fam.OPT_TRAINS] ++ ledgerRegs)⟩
  | .laserReset .. => ⟨[.regs, .ports, .optics, .free, .out], some ([Fam.JX_PORT_STS, Fam.OPT_STS, Fam.OPT_LASER,
      Fam.OPT_TRAINS])⟩
  | .optLaserEnable .. => ⟨[.regs, .optics, .tokens, .free] ++ ledgerParts, some ([Fam.JX_TOKENS, Fam.JX_PORT_CFG,
      Fam.OPT_STS, Fam.OPT_LASER, Fam.OPT_TRAINS] ++ ledgerRegs)⟩
  | .refreshTick .. => ⟨[.dramCtl, .out], some ([])⟩
  | .rowHammerTrigger .. => ⟨[.regs, .dramCtl, .out], some ([Fam.CAN_TALLY, Fam.UND_TALLY])⟩
  | .rfmCommand .. => ⟨[.regs, .out], some ([Fam.CAN_TALLY, Fam.UND_TALLY])⟩
  | .thermalLevelChange .. => ⟨[.regs, .fences, .epoch, .optics, .tokens, .opens, .own, .nextTxn, .sync, .canopy,
      .dramCtl, .vault, .installs, .cores, .accs, .exacts, .silent, .pair, .plans, .stalls, .pool, .mint, .clocks,
      .pep, .deniedAt, .free] ++ ledgerParts ++ baseParts, none⟩
  | .periodicUpdate .. => ⟨[.regs, .fences, .epoch, .tokens, .cores, .silent, .pair, .stalls, .free] ++ ledgerParts
      ++ memoryParts ++ baseParts, some ([Fam.DET_CX_STS, Fam.DET_CX_BROKEN, Fam.DET_CX_CYCLES, Fam.DET_CX_WAIT,
      Fam.DET_CX_KERNEL, Fam.CAN_DSTS, Fam.UND_STS, Fam.JX_TOKENS, Fam.CORE_Q_HEAD, Fam.CORE_LATE,
      Fam.TST_UNCHECKED, Fam.TST_CORE_CTL] ++ ledgerRegs ++ memoryRegs ++ tileRegs ++ faultRegs)⟩
  | .dramChannelFenced .. => ⟨[.regs] ++ ledgerParts, some ([Fam.CAN_DSTS, Fam.UND_STS] ++ ledgerRegs)⟩
  | .vaultReadDone .. => ⟨[.regs, .epoch, .tokens, .opens, .vault, .pool, .pep, .free] ++ ledgerParts, some
      ([Fam.LDG_POISON_READS, Fam.LDG_TAG_POISON, Fam.VLT_CH_TALLY, Fam.VLT_CKPT_STS, Fam.JX_TOKENS, Fam.PEP_UR] ++
      ledgerRegs)⟩
  | .vaultWriteDone .. => ⟨[.regs, .epoch, .tokens, .opens, .vault, .pool, .pep, .free] ++ ledgerParts, some
      ([Fam.VLT_CH_TALLY, Fam.VLT_CKPT_STS, Fam.JX_TOKENS, Fam.PEP_UR] ++ ledgerRegs)⟩
  | .vaultMapFlush .. => ⟨[.regs, .tokens, .opens, .vault, .pool, .pep, .free] ++ ledgerParts, some
      ([Fam.VLT_CKPT_STS, Fam.JX_TOKENS, Fam.PEP_UR] ++ ledgerRegs)⟩
  | .vaultPatrol .. => ⟨[.regs, .vault] ++ ledgerParts, some ([Fam.VLT_CH_TALLY, Fam.VLT_CKPT_STS] ++ ledgerRegs)⟩
  | .garbageCollection .. => ⟨[.regs, .vault], some ([Fam.VLT_CH_STS, Fam.VLT_CH_TALLY])⟩
  | .staticLevelling .. => ⟨[.regs, .vault], some ([Fam.VLT_CH_TALLY])⟩
  | .vaultProgram .. => ⟨[.regs, .vault] ++ ledgerParts, some ([Fam.VLT_PAGES, Fam.VLT_CH_TALLY] ++ ledgerRegs)⟩
  | .ckptArm .. => ⟨[.regs, .vault], some ([Fam.VLT_CKPT_CMD, Fam.VLT_CKPT_STS])⟩
  | .ckptMark .. => ⟨[.regs, .vault], some ([Fam.VLT_CKPT_CMD, Fam.VLT_CKPT_STS, Fam.VLT_CKPT_MARK])⟩
  | .ckptClear .. => ⟨[.regs, .vault], some ([Fam.VLT_CKPT_CMD, Fam.VLT_CKPT_STS])⟩
  | .poolDoor .. => ⟨wideParts, none⟩
  | .poolHostGo => ⟨[.regs, .nextId, .pair, .pool, .out], some ([Fam.POOL_HOST_GO, Fam.POOL_HOST_STS,
      Fam.POOL_REVOKED_REQS])⟩
  | .fill .. => ⟨[.regs, .epoch, .pair, .pool, .deniedAt] ++ ledgerParts ++ memoryParts, some ([Fam.VLT_CH_TALLY,
      Fam.POOL_STATUS, Fam.POOL_DENIALS, Fam.POOL_REVOKED_REQS, Fam.PAIR_STS] ++ ledgerRegs ++ memoryRegs)⟩
  | .copy .. => ⟨[.regs, .epoch, .pair, .pool, .deniedAt, .free] ++ ledgerParts ++ memoryParts ++ baseParts, some
      ([Fam.LDG_POISON_READS, Fam.LDG_TAG_POISON, Fam.POOL_STATUS, Fam.POOL_DENIALS, Fam.POOL_REVOKED_REQS,
      Fam.PAIR_STS] ++ ledgerRegs ++ memoryRegs ++ tileRegs)⟩
  | .cmp .. => ⟨[.regs, .epoch, .pool, .deniedAt, .free] ++ ledgerParts ++ memoryParts ++ baseParts, some
      ([Fam.LDG_POISON_READS, Fam.LDG_TAG_POISON, Fam.POOL_STATUS, Fam.POOL_DENIALS, Fam.POOL_REVOKED_REQS] ++
      ledgerRegs ++ memoryRegs ++ tileRegs)⟩
  | .reduceSum .. => ⟨[.regs, .epoch, .pair, .pool, .deniedAt, .free] ++ ledgerParts ++ memoryParts ++ baseParts,
      some ([Fam.LDG_POISON_READS, Fam.LDG_TAG_POISON, Fam.POOL_STATUS, Fam.POOL_DENIALS, Fam.POOL_REVOKED_REQS,
      Fam.PAIR_STS] ++ ledgerRegs ++ memoryRegs ++ tileRegs)⟩
  | .reduceAccumulate .. => ⟨[.regs, .epoch, .pair, .pool, .deniedAt, .free] ++ ledgerParts ++ memoryParts ++
      baseParts, some ([Fam.LDG_POISON_READS, Fam.LDG_TAG_POISON, Fam.POOL_STATUS, Fam.POOL_DENIALS,
      Fam.POOL_REVOKED_REQS, Fam.PAIR_STS] ++ ledgerRegs ++ memoryRegs ++ tileRegs)⟩
  | .reduceReadout .. => ⟨[.regs, .epoch, .pair, .pool, .deniedAt, .free] ++ ledgerParts ++ memoryParts ++
      baseParts, some ([Fam.LDG_POISON_READS, Fam.LDG_TAG_POISON, Fam.POOL_STATUS, Fam.POOL_DENIALS,
      Fam.POOL_REVOKED_REQS, Fam.PAIR_STS] ++ ledgerRegs ++ memoryRegs ++ tileRegs)⟩
  | .poolOpEnd .. => ⟨[.regs, .epoch, .tokens, .opens, .nextId, .pair, .pool, .mint, .free] ++ ledgerParts ++
      memoryParts ++ baseParts, some ([Fam.MNT_SLOT_INFO, Fam.JX_TOKENS, Fam.POOL_HOST_GO, Fam.POOL_HOST_STS,
      Fam.POOL_OPS_DONE, Fam.PAIR_STS, Fam.PAIR_FWD_WRITES, Fam.PAIR_FWD_BYTES, Fam.PAIR_MISMATCHES, Fam.SLOT_EVENT]
      ++ ledgerRegs ++ memoryRegs ++ tileRegs)⟩
  | .vopen .. => ⟨[.regs, .epoch, .pool, .deniedAt] ++ ledgerParts, some ([Fam.POOL_STATUS, Fam.POOL_DENIALS,
      Fam.POOL_REVOKED_REQS] ++ ledgerRegs)⟩
  | .vclose .. => ⟨[.regs, .epoch, .pool, .deniedAt] ++ ledgerParts, some ([Fam.POOL_STATUS, Fam.POOL_DENIALS,
      Fam.POOL_REVOKED_REQS] ++ ledgerRegs)⟩
  | .vdraft .. => ⟨[.regs, .epoch, .pool, .deniedAt] ++ ledgerParts, some ([Fam.POOL_STATUS, Fam.POOL_DENIALS,
      Fam.POOL_REVOKED_REQS] ++ ledgerRegs)⟩
  | .vdraftCopyDone .. => ⟨[.regs, .epoch, .pair, .pool, .free] ++ ledgerParts ++ memoryParts ++ baseParts, some
      ([Fam.LDG_POISON_READS, Fam.LDG_TAG_POISON, Fam.POOL_STATUS, Fam.PAIR_STS] ++ ledgerRegs ++ memoryRegs ++
      tileRegs)⟩
  | .vpublish .. => ⟨[.regs, .epoch, .pool, .deniedAt] ++ ledgerParts, some ([Fam.POOL_STATUS, Fam.POOL_DENIALS,
      Fam.POOL_REVOKED_REQS] ++ ledgerRegs)⟩
  | .vrelease .. => ⟨[.regs, .epoch, .pair, .pool, .deniedAt, .free] ++ ledgerParts ++ memoryParts, some
      ([Fam.POOL_STATUS, Fam.POOL_DENIALS, Fam.POOL_REVOKED_REQS, Fam.PAIR_STS] ++ ledgerRegs ++ memoryRegs)⟩
  | .poolVerReset .. => ⟨[.pool], some ([])⟩
  | .grant .. => ⟨[.regs] ++ ledgerParts, some ([Fam.POOL_STATUS, Fam.POOL_EXT] ++ ledgerRegs)⟩
  | .extentRevoke .. => ⟨[.regs, .pool], some ([Fam.POOL_EXT])⟩
  | .revokeDrainTimeout .. => ⟨[.regs, .tokens, .opens, .pair, .pool, .pep, .free] ++ ledgerParts ++ memoryParts,
      some ([Fam.JX_TOKENS, Fam.PEP_UR, Fam.POOL_HOST_GO, Fam.POOL_HOST_STS, Fam.POOL_REVOKED_REQS,
      Fam.POOL_OPS_DONE, Fam.PAIR_STS, Fam.SLOT_EVENT] ++ ledgerRegs ++ memoryRegs)⟩
  | .extentFree .. => ⟨[.regs, .tokens, .pool] ++ ledgerParts, some ([Fam.JX_TOKENS, Fam.POOL_STATUS, Fam.POOL_EXT]
      ++ ledgerRegs)⟩
  | .limiterRefill => ⟨[.pool], some ([])⟩
  | .tellerRefill => ⟨[.tellers], some ([])⟩
  | .guaranteeWindow .. => ⟨[.regs, .tokens] ++ ledgerParts, some ([Fam.TLR_MISS_STS, Fam.JX_TOKENS] ++ ledgerRegs)⟩
  | .scaleUpdate .. => ⟨[.regs, .tokens] ++ ledgerParts, some ([Fam.TLR_CAP_STS, Fam.TLR_PORT, Fam.JX_TOKENS] ++
      ledgerRegs)⟩
  | .stepInc .. => ⟨[.regs], some ([Fam.DET_STEP])⟩
  | .seedLock .. => ⟨[.regs], some ([Fam.DET_TAG_CTL])⟩
  | .accSave .. => ⟨[.regs, .pair] ++ ledgerParts ++ memoryParts, some ([Fam.DET_ACC_CMD, Fam.PAIR_STS] ++
      ledgerRegs ++ memoryRegs)⟩
  | .accRestore .. => ⟨[.regs, .cores, .exacts, .free] ++ ledgerParts ++ memoryParts ++ baseParts, some
      ([Fam.DET_ACC_CMD] ++ ledgerRegs ++ memoryRegs ++ tileRegs)⟩
  | .accClear .. => ⟨[.regs, .cores, .exacts] ++ ledgerParts, some ([Fam.DET_ACC_CMD] ++ ledgerRegs)⟩
  | .detSlotRestore .. => ⟨[.regs] ++ ledgerParts, some ([Fam.DET_SLOT_RESTORE, Fam.MNT_STATUS, Fam.MNT_SLOT_INFO,
      Fam.MNT_SLOT_TAB] ++ ledgerRegs)⟩
  | .clockRepin .. => ⟨[.regs, .clocks], some ([Fam.AO_CLK])⟩
  | .storeRefetch .. => ⟨[.regs, .cores, .free] ++ ledgerParts ++ memoryParts ++ baseParts, some ([Fam.DET_CX_STS,
      Fam.DET_CX_BROKEN] ++ ledgerRegs ++ memoryRegs ++ tileRegs)⟩
  | .dramRepair .. => ⟨[.regs, .tokens, .opens, .pair, .pool, .mint, .pep, .free] ++ ledgerParts ++ memoryParts ++
      baseParts, some ([Fam.CLR_REPAIRED, Fam.CLR_POISONED, Fam.MNT_SLOT_INFO, Fam.JX_TOKENS, Fam.PEP_UR,
      Fam.PAIR_STS, Fam.PAIR_RESYNC_PAGES] ++ ledgerRegs ++ memoryRegs ++ tileRegs)⟩
  | .ceTableClear .. => ⟨[.regs], none⟩
  | .ledgerHeadWrite .. => ⟨[.regs], some ([Fam.LDG_HEAD])⟩
  | .mergeWindowClose .. => ⟨[.regs] ++ ledgerParts, some (ledgerRegs)⟩
  | .scrubRead .. => ⟨[.regs, .dram, .dramCtl] ++ ledgerParts, some ([Fam.LDG_CE_ADDR, Fam.LDG_CE_INFO, Fam.CLR_STS,
      Fam.CLR_LAST_PASS_END, Fam.CLR_GRAINS, Fam.CLR_CORRECTED, Fam.CLR_MARKED_SKIPPED, Fam.CAN_TALLY,
      Fam.UND_TALLY] ++ ledgerRegs)⟩
  | .clrLate .. => ⟨[.regs] ++ ledgerParts, some ([Fam.CLR_STS] ++ ledgerRegs)⟩
  | .passNow => ⟨[.regs, .integ], some ([Fam.CLR_STS])⟩
  | .flipArm .. => ⟨[.regs], some ([Fam.LDG_FLIP_SEL])⟩
  | .kBlockEnd .. => ⟨[.regs, .fences, .epoch, .tokens, .cores, .accs, .silent, .pair, .stalls, .free] ++
      ledgerParts ++ memoryParts ++ baseParts, some ([Fam.DET_CX_STS, Fam.DET_CX_BROKEN, Fam.DET_CX_CYCLES,
      Fam.DET_CX_WAIT, Fam.DET_CX_KERNEL, Fam.LDG_POISON_READS, Fam.LDG_TAG_POISON, Fam.JX_TOKENS, Fam.CORE_Q_HEAD,
      Fam.CORE_LATE, Fam.TST_QUAR, Fam.TST_MISMATCHES, Fam.TST_UNCHECKED, Fam.TST_QUAR_DROPS, Fam.TST_SUSPECT_PASS,
      Fam.TST_SUSPECT_CRC, Fam.TST_SUSPECT_COUNT] ++ ledgerRegs ++ memoryRegs ++ tileRegs ++ faultRegs)⟩
  | .shadowTaken .. => ⟨[.regs, .fences, .epoch, .tokens, .cores, .silent, .pair] ++ ledgerParts ++ memoryParts,
      some ([Fam.DET_CX_STS, Fam.DET_CX_BROKEN, Fam.JX_TOKENS, Fam.CORE_Q_HEAD, Fam.CORE_LATE, Fam.TST_SHADOWED] ++
      ledgerRegs ++ memoryRegs ++ faultRegs)⟩
  | .shadowWaitTimeout .. => ⟨[.regs, .fences, .epoch, .tokens, .cores, .silent, .pair] ++ ledgerParts ++
      memoryParts, some ([Fam.DET_CX_STS, Fam.DET_CX_BROKEN, Fam.JX_TOKENS, Fam.CORE_Q_HEAD, Fam.CORE_LATE,
      Fam.TST_SHADOW_SKIPPED] ++ ledgerRegs ++ memoryRegs ++ faultRegs)⟩
  | .enginePassEnd .. => ⟨[.regs, .fences, .epoch, .tokens, .cores, .exacts, .silent, .pair, .stalls, .mint, .free]
      ++ ledgerParts ++ memoryParts ++ baseParts, some ([Fam.DET_CX_STS, Fam.DET_CX_BROKEN, Fam.DET_CX_CYCLES,
      Fam.DET_CX_WAIT, Fam.DET_CX_KERNEL, Fam.LDG_POISON_READS, Fam.LDG_TAG_POISON, Fam.MNT_SLOT_INFO,
      Fam.JX_TOKENS, Fam.TST_MISMATCHES, Fam.TST_SUSPECT_PASS, Fam.TST_SUSPECT_CRC, Fam.TST_SUSPECT_COUNT,
      Fam.TST_CORE_LAST] ++ ledgerRegs ++ memoryRegs ++ tileRegs ++ faultRegs)⟩
  | .diagArm .. => ⟨[.regs], some ([Fam.TST_DIAG_CTL])⟩
  | .suspectFree .. => ⟨[.regs], some ([Fam.TST_SUSPECT])⟩
  | .shelfLoad => ⟨[.regs], some ([Fam.TST_SHELF_CTL])⟩
  | .shelfLoadDone .. => ⟨[.regs, .silent, .free] ++ ledgerParts ++ memoryParts ++ baseParts, some
      ([Fam.TST_SHELF_CTL, Fam.TST_SET, Fam.TST_SET_INFO] ++ ledgerRegs ++ memoryRegs ++ tileRegs)⟩
  | .testRequest .. => ⟨[.regs, .silent], some ([Fam.TST_CORE_CTL, Fam.TST_CORE_STS])⟩
  | .testAbort .. => ⟨[.regs, .tokens, .silent] ++ ledgerParts, some ([Fam.JX_TOKENS, Fam.TST_CORE_CTL,
      Fam.TST_CORE_STS] ++ ledgerRegs)⟩
  | .testStart .. => ⟨[.regs, .cores, .silent], some ([Fam.TST_CORE_STS])⟩
  | .testDeferred .. => ⟨[.regs, .tokens] ++ ledgerParts, some ([Fam.JX_TOKENS, Fam.TST_CORE_STS] ++ ledgerRegs)⟩
  | .testEnd .. => ⟨[.regs, .fences, .epoch, .tokens, .cores, .silent, .pair, .stalls, .free] ++ ledgerParts ++
      memoryParts ++ baseParts, some ([Fam.DET_CX_STS, Fam.DET_CX_BROKEN, Fam.DET_CX_CYCLES, Fam.DET_CX_WAIT,
      Fam.DET_CX_KERNEL, Fam.JX_TOKENS, Fam.CORE_Q_HEAD, Fam.CORE_LATE, Fam.TST_UNCHECKED, Fam.TST_CORE_CTL,
      Fam.TST_CORE_TESTS] ++ ledgerRegs ++ memoryRegs ++ tileRegs ++ faultRegs)⟩
  | .mirrorWriteRx .. => ⟨[.regs, .tokens, .opens, .pair, .pool, .mint, .pep, .free] ++ ledgerParts ++ memoryParts
      ++ baseParts, some ([Fam.MNT_SLOT_INFO, Fam.JX_TOKENS, Fam.PEP_UR, Fam.PAIR_STS, Fam.PAIR_RESYNC_PAGES] ++
      ledgerRegs ++ memoryRegs ++ tileRegs)⟩
  | .mirrorAckRx .. => ⟨[.regs, .tokens, .opens, .pair, .pool, .mint, .pep, .free] ++ ledgerParts ++ memoryParts ++
      baseParts, some ([Fam.MNT_SLOT_INFO, Fam.JX_TOKENS, Fam.PEP_UR, Fam.PAIR_STS, Fam.PAIR_RESYNC_PAGES] ++
      ledgerRegs ++ memoryRegs ++ tileRegs)⟩
  | .checkValueRx .. => ⟨[.regs, .fences, .epoch, .tokens, .cores, .silent, .pair, .stalls] ++ ledgerParts ++
      memoryParts, some ([Fam.JX_TOKENS, Fam.PAIR_COMPARED, Fam.PAIR_MISMATCHES, Fam.PAIR_MM, Fam.PAIR_MM_STEP,
      Fam.PAIR_MM_FIRST, Fam.PAIR_MM_RERUN] ++ ledgerRegs ++ memoryRegs ++ faultRegs)⟩
  | .cmpWaitTimeout .. => ⟨[.regs, .fences, .epoch, .tokens, .cores, .silent, .pair, .stalls] ++ ledgerParts ++
      memoryParts, some ([Fam.JX_TOKENS, Fam.PAIR_UNCOMPARED] ++ ledgerRegs ++ memoryRegs ++ faultRegs)⟩
  | .replicatedOpRx .. => ⟨[.nextId, .pair, .pool], some ([])⟩
  | .heartbeatSend => ⟨[.pair, .out], some ([])⟩
  | .heartbeatRx => ⟨[.regs, .fences, .epoch, .tokens, .opens, .nextId, .cores, .silent, .pair, .stalls, .pool,
      .mint, .pep, .free] ++ ledgerParts ++ memoryParts ++ baseParts, some ([Fam.MNT_SLOT_INFO, Fam.JX_TOKENS,
      Fam.PEP_UR, Fam.PAIR_FWD_WRITES, Fam.PAIR_FWD_BYTES, Fam.PAIR_UNCOMPARED, Fam.PAIR_RESYNC_PAGES] ++ ledgerRegs
      ++ memoryRegs ++ tileRegs ++ faultRegs)⟩
  | .pairLoss => ⟨[.regs, .tokens, .opens, .pair, .free] ++ ledgerParts, some ([Fam.JX_TOKENS, Fam.PAIR_STS] ++
      ledgerRegs)⟩
  | .arbTimeout => ⟨[.regs, .fences, .epoch, .tokens, .opens, .cores, .silent, .pair, .stalls, .pool, .mint, .pep,
      .free] ++ ledgerParts ++ memoryParts ++ baseParts, some ([Fam.MNT_SLOT_INFO, Fam.JX_TOKENS, Fam.PEP_UR,
      Fam.PAIR_UNCOMPARED] ++ ledgerRegs ++ memoryRegs ++ tileRegs ++ faultRegs)⟩
  | .pairSolo => ⟨[.regs, .fences, .epoch, .tokens, .opens, .cores, .silent, .pair, .stalls, .pool, .mint, .pep,
      .free] ++ ledgerParts ++ memoryParts ++ baseParts, some ([Fam.MNT_SLOT_INFO, Fam.JX_TOKENS, Fam.PEP_UR,
      Fam.PAIR_CMD, Fam.PAIR_UNCOMPARED] ++ ledgerRegs ++ memoryRegs ++ tileRegs ++ faultRegs)⟩
  | .pairDetach => ⟨[.regs, .fences, .epoch, .tokens, .opens, .cores, .silent, .pair, .stalls, .pool, .pep, .free]
      ++ ledgerParts ++ memoryParts, some ([Fam.JX_TOKENS, Fam.PEP_UR, Fam.PAIR_CMD, Fam.PAIR_UNCOMPARED] ++
      ledgerRegs ++ memoryRegs ++ faultRegs)⟩
  | .pairRejoin => ⟨[.regs, .fences, .epoch, .tokens, .opens, .cores, .silent, .pair, .stalls, .pool, .pep, .free]
      ++ ledgerParts ++ memoryParts, some ([Fam.JX_TOKENS, Fam.PEP_UR, Fam.PAIR_CMD, Fam.PAIR_UNCOMPARED] ++
      ledgerRegs ++ memoryRegs ++ faultRegs)⟩
  | .resetPartner => ⟨[.regs, .out], some ([Fam.PAIR_CMD])⟩
  | .formationRx .. => ⟨[.regs, .tokens, .pair] ++ ledgerParts, some ([Fam.JX_TOKENS, Fam.PAIR_STS] ++ ledgerRegs)⟩
  | .formationRetry => ⟨[.pair, .out], some ([])⟩
  | .resyncPiece .. => ⟨[.regs, .tokens, .opens, .nextId, .pair, .pool, .mint, .pep, .free] ++ ledgerParts ++
      memoryParts ++ baseParts, some ([Fam.MNT_SLOT_INFO, Fam.JX_TOKENS, Fam.PEP_UR, Fam.PAIR_STS,
      Fam.PAIR_RESYNC_PAGES] ++ ledgerRegs ++ memoryRegs ++ tileRegs)⟩
  | .mmEntryFree .. => ⟨[.regs], some ([Fam.PAIR_MM])⟩
  | .hostRead .. => ⟨wideParts, none⟩
  | .hostWrite .. => ⟨wideParts, none⟩
  | .hostReadDone .. => ⟨wideParts, none⟩
  | .pepCplLimit .. => ⟨[.regs, .opens] ++ ledgerParts, some ([Fam.PEP_CA] ++ ledgerRegs)⟩
  | .winCommit => ⟨[.regs, .pep], some ([Fam.PEP_WIN_COMMIT, Fam.PEP_WIN_ACT_BASE, Fam.PEP_WIN_ACT_CTL])⟩
  | .winCommitDone => ⟨[.regs, .pep], some ([Fam.PEP_WIN_COMMIT])⟩
  | .cxlMemRead .. => ⟨wideParts, none⟩
  | .cxlMemWrite .. => ⟨wideParts, none⟩
  | .hdmCommit .. => ⟨[.pep], some ([])⟩
  | .mailboxCommand .. => ⟨[.free, .out], some ([])⟩
  | .configAccess .. => ⟨[.regs, .epoch, .opens, .pep, .free] ++ ledgerParts, none⟩
  | .dmaToPool .. => ⟨wideParts, none⟩
  | .dmaToHost .. => ⟨wideParts, none⟩
  | .dmaDescEnd .. => ⟨[.regs, .pep] ++ ledgerParts, some ([Fam.PEP_DMA_HEAD, Fam.PEP_DMA_STS] ++ ledgerRegs)⟩
  | .bmeClear => ⟨[.regs, .epoch, .opens, .pep] ++ ledgerParts, some ([Fam.SIT_LOAD, Fam.SIT_STATUS, Fam.PEP_STS,
      Fam.PEP_DMA_CFG, Fam.PEP_DMA_STS] ++ ledgerRegs)⟩
  | .dmaReenable .. => ⟨[.regs, .pep, .out], some ([Fam.PEP_DMA_CFG, Fam.PEP_DMA_HEAD])⟩
  | .endpointReset .. => ⟨[.regs, .epoch, .opens, .pep] ++ ledgerParts, none⟩
  | .msixSend .. => ⟨[.irq, .out], some ([])⟩
  | .l1Entry => ⟨[.regs], some ([Fam.PEP_STS])⟩
  | .l0pNarrow => ⟨[.regs], some ([Fam.PEP_STS])⟩
  | .l0pWiden => ⟨[.regs], some ([Fam.PEP_STS])⟩
  | .d3hotEntry => ⟨[.regs, .epoch, .opens, .pep] ++ ledgerParts, some ([Fam.SIT_LOAD, Fam.SIT_STATUS, Fam.PEP_STS,
      Fam.PEP_DMA_CFG, Fam.PEP_DMA_STS] ++ ledgerRegs)⟩
  | .powerOn .. => ⟨[.count, .regs, .fences, .epoch, .ports, .optics, .tokens, .opens, .own, .nextTxn, .sync,
      .integ, .installs, .cores, .accs, .exacts, .silent, .pair, .plans, .stalls, .pool, .mint, .tellers, .clocks,
      .boot, .mgmt, .pep, .tap, .irq, .deniedAt] ++ memoryParts ++ baseParts, none⟩
  | .perstAssert => ⟨[.regs, .fences, .epoch, .optics, .tokens, .opens, .own, .nextTxn, .sync, .canopy, .dramCtl,
      .vault, .installs, .cores, .accs, .exacts, .silent, .pair, .plans, .stalls, .pool, .mint, .clocks, .pep,
      .deniedAt, .free] ++ ledgerParts ++ baseParts, none⟩
  | .perstDeassert => ⟨[.boot, .out], some ([])⟩
  | .hrstAssert => ⟨[.regs, .fences, .epoch, .optics, .tokens, .opens, .own, .nextTxn, .sync, .canopy, .dramCtl,
      .vault, .installs, .cores, .accs, .exacts, .silent, .pair, .plans, .stalls, .pool, .mint, .clocks, .pep,
      .deniedAt, .free] ++ ledgerParts ++ baseParts, none⟩
  | .hrstDeassert => ⟨[.regs, .boot], some ([Fam.AO_BOOT, Fam.AO_BOOT_STEP])⟩
  | .dieThermalTrip .. => ⟨[.regs, .fences, .epoch, .optics, .tokens, .opens, .own, .nextTxn, .sync, .canopy,
      .dramCtl, .vault, .installs, .cores, .accs, .exacts, .silent, .pair, .plans, .stalls, .pool, .mint, .clocks,
      .pep, .deniedAt, .dieTemp, .free] ++ ledgerParts ++ baseParts, none⟩
  | .thermalHoldEnd .. => ⟨[.regs, .boot, .dieTemp], some ([Fam.AO_BOOT, Fam.AO_THERM, Fam.AO_BOOT_STEP])⟩
  | .partnerResetRx => ⟨[.regs, .fences, .epoch, .optics, .tokens, .opens, .own, .nextTxn, .sync, .canopy, .dramCtl,
      .vault, .installs, .cores, .accs, .exacts, .silent, .pair, .plans, .stalls, .pool, .mint, .clocks, .pep,
      .deniedAt, .free] ++ ledgerParts ++ baseParts, none⟩
  | .softwareReset .. => ⟨[.regs, .fences, .epoch, .optics, .tokens, .opens, .own, .nextTxn, .sync, .canopy,
      .dramCtl, .vault, .installs, .cores, .accs, .exacts, .silent, .pair, .plans, .stalls, .pool, .mint, .clocks,
      .pep, .deniedAt, .free] ++ ledgerParts ++ baseParts, none⟩
  | .selfRefreshReady .. => ⟨[.regs, .fences, .epoch, .optics, .tokens, .opens, .own, .nextTxn, .sync, .canopy,
      .dramCtl, .vault, .installs, .cores, .accs, .exacts, .silent, .pair, .plans, .stalls, .pool, .mint, .clocks,
      .pep, .deniedAt, .free] ++ ledgerParts ++ baseParts, none⟩
  | .keepFailed => ⟨[.regs, .fences, .epoch, .optics, .tokens, .opens, .own, .nextTxn, .sync, .canopy, .dramCtl,
      .vault, .installs, .cores, .accs, .exacts, .silent, .pair, .plans, .stalls, .pool, .mint, .clocks, .pep,
      .deniedAt, .free] ++ ledgerParts ++ baseParts, none⟩
  | .blockReset .. => ⟨[.regs, .fences, .epoch, .optics, .tokens, .opens, .installs, .cores, .accs, .exacts,
      .silent, .pair, .plans, .stalls, .pool, .mint, .pep, .deniedAt, .free] ++ ledgerParts ++ memoryParts, none⟩
  | .blockResetIdle => ⟨[.regs, .fences, .epoch, .optics, .tokens, .opens, .installs, .cores, .accs, .exacts,
      .silent, .pair, .plans, .stalls, .pool, .mint, .pep, .deniedAt, .free] ++ ledgerParts ++ memoryParts, none⟩
  | .blkRstTimeout .. => ⟨[.regs, .fences, .epoch, .optics, .tokens, .opens, .installs, .cores, .accs, .exacts,
      .silent, .pair, .plans, .stalls, .pool, .mint, .pep, .deniedAt, .free] ++ ledgerParts ++ memoryParts ++
      baseParts, none⟩
  | .startupStepDone .. => ⟨[.regs, .fences, .epoch, .optics, .tokens, .opens, .own, .nextTxn, .sync, .installs,
      .cores, .accs, .exacts, .silent, .pair, .plans, .stalls, .pool, .mint, .clocks, .pep, .deniedAt, .free] ++
      ledgerParts ++ memoryParts ++ baseParts, none⟩
  | .startupStepLimit .. => ⟨[.regs, .fences, .epoch, .optics, .tokens, .opens, .own, .nextTxn, .sync, .installs,
      .cores, .accs, .exacts, .silent, .pair, .plans, .stalls, .pool, .mint, .clocks, .pep, .deniedAt, .free] ++
      ledgerParts ++ memoryParts ++ baseParts, none⟩
  | .powerRegulate .. => ⟨[.regs, .cores, .clocks, .dieTemp] ++ ledgerParts, some ([Fam.AO_CLK, Fam.AO_THERM,
      Fam.AO_PWR, Fam.DET_CX_STS, Fam.DET_CX_BROKEN, Fam.CAN_DSTS] ++ ledgerRegs)⟩
  | .watchdogExpire => ⟨[.regs, .pair, .free] ++ ledgerParts ++ memoryParts, none⟩
  | .wdogKick .. => ⟨[.mgmt], some ([])⟩
  | .fuseRevoke .. => ⟨[.regs] ++ ledgerParts, some ([Fam.MGT_STS, Fam.MGT_KEY_STS, Fam.MGT_FUSE_CMD] ++
      ledgerRegs)⟩
  | .fuseRaiseMin .. => ⟨[.regs] ++ ledgerParts, some ([Fam.MGT_STS, Fam.MGT_KEY_STS, Fam.MGT_FUSE_CMD] ++
      ledgerRegs)⟩
  | .fuseConfirmTimeout => ⟨[.regs, .mgmt], some ([Fam.MGT_FUSE_CMD])⟩
  | .norUpdate => ⟨[.regs, .mgmt], some ([Fam.MGT_NOR_CMD])⟩
  | .norUpdateDone .. => ⟨[.regs, .free] ++ ledgerParts ++ memoryParts ++ baseParts, some ([Fam.MGT_STS,
      Fam.MGT_NOR_CMD] ++ ledgerRegs ++ memoryRegs ++ tileRegs)⟩
  | .sessionOpen .. => ⟨[.regs, .mgmt, .out], some ([Fam.MGT_IMG_SESSION])⟩
  | .sessionClose .. => ⟨[.regs, .out], some ([Fam.MGT_IMG_SESSION])⟩
  | .imgServeEnd => ⟨[.regs] ++ ledgerParts, some ([Fam.MGT_IMG_SESSION] ++ ledgerRegs)⟩
  | .imgPage .. => ⟨[.regs, .mgmt, .out], some ([Fam.MGT_IMG_PAGE])⟩
  | .imgWinRead .. => ⟨[.mgmt, .out], some ([])⟩
  | .attest => ⟨[.regs, .mgmt], some ([Fam.MGT_ATT_CMD])⟩
  | .attestDone => ⟨[.regs, .pair, .free] ++ ledgerParts ++ memoryParts, some ([Fam.PAIR_STS, Fam.MGT_STS,
      Fam.MGT_ATT_CMD] ++ ledgerRegs ++ memoryRegs)⟩
  | .i3cIndexWrite .. => ⟨[.regs, .fences, .epoch, .optics, .tokens, .opens, .own, .nextTxn, .sync, .canopy,
      .dramCtl, .vault, .installs, .cores, .accs, .exacts, .silent, .pair, .plans, .stalls, .pool, .mint, .clocks,
      .pep, .deniedAt, .free] ++ ledgerParts ++ baseParts, none⟩
  | .i3cRead => ⟨[.mgmt, .out], some ([])⟩
  | .i3cRecovery .. => ⟨[.regs, .fences, .epoch, .optics, .tokens, .opens, .own, .nextTxn, .sync, .canopy, .dramCtl,
      .vault, .installs, .cores, .accs, .exacts, .silent, .pair, .plans, .stalls, .pool, .mint, .clocks, .pep,
      .deniedAt, .free] ++ ledgerParts ++ baseParts, none⟩
  | .i3cCcc .. => ⟨[.mgmt, .free, .out], some ([])⟩
  | .endpointLinkUp .. => ⟨[.regs, .pep], some ([Fam.PEP_STS])⟩
  | .l1Exit => ⟨[.regs], some ([Fam.PEP_STS])⟩
  | .dmaCompletionTimeout .. => ⟨[.pep], some ([])⟩
  | .boundaryScan .. => ⟨[.tap, .out], some ([])⟩

/-- The commands that can begin a reset, or complete what a reset waits for: by a register write or an access that reaches
a register, a pin, a threshold, the link, a plan's port or the end of a start-up step. A fence can go only with one of
these (R18). -/
def mayUnfence : Instr → Bool
  | .registerWrite .. | .jxRd .. | .jxWr .. | .jxFlush .. | .creq .. | .writeExpandDone .. | .flitRx .. |
  .deferComplete .. | .responseRx .. | .ownReqTimeout .. | .thermalLevelChange .. | .poolDoor .. | .hostRead .. |
  .hostWrite .. | .hostReadDone .. | .cxlMemRead .. | .cxlMemWrite .. | .dmaToPool .. | .dmaToHost .. | .powerOn ..
  | .perstAssert | .hrstAssert | .dieThermalTrip .. | .partnerResetRx | .softwareReset .. | .selfRefreshReady .. |
  .keepFailed | .blockReset .. | .blockResetIdle | .blkRstTimeout .. | .startupStepDone .. | .startupStepLimit .. |
  .i3cIndexWrite .. | .i3cRecovery .. => true
  | _ => false

/-- The command that sets the counter back: power-on (R245). -/
def rewinds : Instr → Bool
  | .powerOn .. => true
  | _ => false

end Sys2Proof.Machine
end

