-- ==== Sys2Proof/Safety.lean ====
section
/-! DEFINITION. What claims are stated with: a command's answer, runs of steps, and what makes a run safe. -/

namespace Sys2Proof.Machine

/-- A command answers a next state, and that state has a property. -/
def Answers (c : Instr) (s : State) (P : State → Prop) : Prop := ∃ t, exec c s = .next t ∧ P t

/-- A step answers a next state. -/
def StepsTo (s t : State) : Prop := step s = .next t

/-- A run of steps from one state to another. -/
inductive Runs : State → State → Prop where
  | refl (s : State) : Runs s s
  | cons {s t u : State} (h : StepsTo s t) (r : Runs t u) : Runs s u

/-- A run is safe when no step of it stops: from every state that it reaches, the next step answers a next state. -/
def SafeFrom (s : State) : Prop := ∀ t, Runs s t → ∃ u, StepsTo t u

/-- The state in which an open request is served while no older epoch stands: a JX request has the class that it took when it
was accepted (R330). -/
def State.servedAs (s : State) (o : OpenReq) : State :=
  { s with epoch := { s.epoch with classAs := if o.host.isSome then s.epoch.classAs else some (o.req.tag, o.cls) } }

/-- No read of the partner's image stands failed; a command that fails one settles it at once (R484). -/
def State.imageSettled (s : State) : Prop := ∀ r, s.epoch.read = some r → r.stage ≠ 5

/-- A message has been sent at a port, or waits there for credits and replay room. -/
def State.sends (s : State) (p : Nat) (m : Msg) : Prop := (∃ n, Out.msg p n m ∈ s.out) ∨ ∃ q ∈ (s.port p).queue, q.msg = m

end Sys2Proof.Machine
end

