-- ==== Sys2Proof/Certificates/Slice0/Obligations.lean ====
section
/-! DEFINITION. The statements for the provers, chapter by chapter. -/

open Sys2Proof Sys2Proof.Machine

/-! ## The machine as a whole -/

/-- The command at the front of the queue is what a step runs, with the rest of the queue behind it. -/
def Obligations.StepRunsFrontCommand : Prop :=
  ∀ (c : Instr) (rest : List Instr) (s : State), s.pending = c :: rest → step s = exec c { s with pending := rest }

/-- The model's own choice (log entry 3): on an empty queue one nanosecond passes. The count advances by one, unless the
synchronisation withholds this step (R245); memory, fences, what has been sent and the empty queue stay as they were. -/
def Obligations.EmptyQueueLetsOneNanosecondPass : Prop :=
  ∀ s : State, s.pending = [] → ∃ t, step s = .next t ∧
    t.count = (if s.sync.withhold then s.count else s.count + 1) ∧ t.sync.withhold = false ∧
    t.dram = s.dram ∧ t.stores = s.stores ∧ t.vault = s.vault ∧ t.fences = s.fences ∧ t.out = s.out ∧ t.pending = []

/-- The state after reset is in canonical form, holds no command and nothing sent, no fence, and nothing in memory. -/
def Obligations.ResetStateIsCanonicalAndEmpty : Prop :=
  State.reset.canonical ∧ State.reset.pending = [] ∧ State.reset.out = [] ∧ State.reset.fences = [] ∧
    State.reset.dram = [] ∧ State.reset.stores = [] ∧ State.reset.count = 0

/-- Every table of the state, memory and the register file among them, keeps its canonical form over every step. -/
def Obligations.EveryStepKeepsCanonicalForm : Prop :=
  ∀ s t : State, s.canonical → StepsTo s t → t.canonical

/-- The number that the next request takes stays above that of every open request, over every step; it is so after reset. -/
def Obligations.EveryStepKeepsRequestNumbersFresh : Prop :=
  State.reset.fresh ∧ ∀ s t : State, StepsTo s t → s.fresh → t.fresh

/-- No command stops the device: from every state, along every run, the next step answers a next state. -/
def Obligations.NoRunEverStops : Prop :=
  ∀ s : State, SafeFrom s

/-- A command changes nothing outside its footprint: the parts of the state that it does not name are as they were, and
so is every register of the families that it does not name. -/
def Obligations.CommandKeepsAllOutsideItsFootprint : Prop :=
  ∀ (c : Instr) (s t : State), exec c s = .next t → (footprintOf c).keeps s t

/-- The queue of waiting commands is changed by steps alone, and each step takes exactly the command in front. -/
def Obligations.StepTakesExactlyTheFrontCommand : Prop :=
  (∀ (c : Instr) (s t : State), exec c s = .next t → t.pending = s.pending) ∧
    ∀ s t : State, StepsTo s t → t.pending = s.pending.drop 1

/-- The global counter never goes back over a step, whatever the command, until power is applied again (R245). -/
def Obligations.CounterNeverGoesBack : Prop :=
  ∀ s t : State, StepsTo s t → (∀ c, s.pending.head? = some c → rewinds c = false) → s.count ≤ t.count

/-- A fence stays in force over every command that begins no reset (R15, R17). -/
def Obligations.FencesStayUntilAReset : Prop :=
  ∀ (c : Instr) (s t : State), exec c s = .next t → mayUnfence c = false → ∀ u ∈ s.fences, u ∈ t.fences

/-- What the device has sent stays sent: every step only appends to it. -/
def Obligations.StepsOnlyAppendToWhatWasSent : Prop :=
  ∀ s t : State, StepsTo s t → ∃ l, t.out = s.out ++ l

/-! ## Registers -/

/-- Writing a field of a register sets that field, cut to its width, and leaves every other field of the register and every
other register as they were. -/
def Obligations.FieldWriteSetsThatFieldAlone : Prop :=
  ∀ (s : State) (x : Fld) (v : Nat), s.canonical → x.lo ≤ x.hi → x.hi < 64 →
    (s.setF x v).f x = v % 2 ^ (x.hi + 1 - x.lo) ∧
    (∀ y : Fld, y.off = x.off → (y.hi < x.lo ∨ x.hi < y.lo) → y.lo ≤ y.hi → y.hi < 64 → (s.setF x v).f y = s.f y) ∧
    (∀ off, off ≠ x.off → (s.setF x v).reg off = s.reg off) ∧ (s.setF x v).canonical

/-! ## Events, barriers and result slots (chapter 7) -/

/-- Event counters: SET writes the value, ADD adds modulo 2³² and raises the vectors bound to the counter, DEC subtracts
when the value is large enough and tells its issuer whether it did. Every other counter stays, and nothing else is
written (R181).

Barriers: an arrival that is not the last adds one to ARRIVED; the last sets it to 0, adds one to GEN and, where an
event is enabled, adds one to that event counter (R182).

SLOT_RELEASE frees a READY slot whose SEQ is given and answers OK; a wrong SEQ or an ARMED slot answers CONFLICT and a
FREE one SLOT_FREE, the slot left as it was (R185, Table 7-7). -/
def Obligations.EventsBarriersAndSlotReleaseFollowTheirRules : Prop :=
  (
    ∀ (i : Fin 4096) (s : State), s.canonical →
      (∀ v : W32, Answers (.eventSet i v) s fun t =>
        t.event i = v.toNat ∧ (∀ j : Fin 4096, j ≠ i → t.event j = s.event j) ∧ t = { s with regs := t.regs }) ∧
      (∀ n : W32, Answers (.eventAdd i n) s fun t =>
        t.event i = (s.event i + n.toNat) % 2 ^ 32 ∧ (∀ j : Fin 4096, j ≠ i → t.event j = s.event j) ∧
          (∀ v ∈ s.vectorsOf i, v ∈ t.irq) ∧ t = { s with regs := t.regs, irq := t.irq }) ∧
      (∀ n : W32, Answers (.eventDec i n) s fun t =>
        (if n.toNat ≤ s.event i then t.event i = s.event i - n.toNat else t.event i = s.event i) ∧
          t.out = s.out ++ [.decResult i (decide (n.toNat ≤ s.event i))] ∧ (∀ j : Fin 4096, j ≠ i → t.event j = s.event j) ∧
          t = { s with regs := t.regs, out := t.out })) ∧
  (
    ∀ (b : Fin 64) (tag : Tag) (s : State), s.canonical → 0 < s.f (F.SLOT_BARRIER_COUNT b) →
      Answers (.barrierArrive b tag) s fun t =>
        (s.f (F.SLOT_BARRIER_ARRIVED b) + 1 < s.f (F.SLOT_BARRIER_COUNT b) →
          t.f (F.SLOT_BARRIER_ARRIVED b) = s.f (F.SLOT_BARRIER_ARRIVED b) + 1 ∧ t.f (F.SLOT_BARRIER_GEN b) = s.f (F.SLOT_BARRIER_GEN b)) ∧
        (s.f (F.SLOT_BARRIER_ARRIVED b) + 1 = s.f (F.SLOT_BARRIER_COUNT b) →
          t.f (F.SLOT_BARRIER_ARRIVED b) = 0 ∧
          t.f (F.SLOT_BARRIER_GEN b) = (s.f (F.SLOT_BARRIER_GEN b) + 1) % 2 ^ ((F.SLOT_BARRIER_GEN b).hi + 1 - (F.SLOT_BARRIER_GEN b).lo) ∧
          (s.f (F.SLOT_BARRIER_EVENT_EN b) = 1 →
            t.event (s.f (F.SLOT_BARRIER_EVENT b)) = (s.event (s.f (F.SLOT_BARRIER_EVENT b)) + 1) % 2 ^ 32))) ∧
  (
    ∀ (n : Fin 4096) (seq : W32) (s : State), s.canonical →
      Answers (.slotRelease n seq) s fun t =>
        (s.slotState n = 2 ∧ s.slotSeq n = seq.toNat →
          t.slotState n = 0 ∧ t.slotSeq n = s.slotSeq n ∧ t.f F.SLOT_RELEASE_RESULT_RESULT = stOk) ∧
        (s.slotState n = 2 ∧ s.slotSeq n ≠ seq.toNat ∨ s.slotState n = 1 →
          t.slotWord n 0 = s.slotWord n 0 ∧ t.f F.SLOT_RELEASE_RESULT_RESULT = stConflict) ∧
        (s.slotState n = 0 → t.slotWord n 0 = s.slotWord n 0 ∧ t.f F.SLOT_RELEASE_RESULT_RESULT = stSlotFree) ∧
        t = { s with regs := t.regs })

/-! ## Table slots (chapter 5) -/

/-- The slot commands on a slot in a state that admits them: LOCK and UNLOCK set and clear LOCK, RETIRE starts the drain,
ACTIVATE makes a draining or retired slot ACTIVE, CLEAR frees an overwritable one; each reports RESULT 0 (R134, R136).

An install of valid staged tables makes the slot INSTALLING until it ends, and ACTIVE with the next generation and the
given planes then; a drain set whose members have all ended retires its slot (R133, R134, R136).

A slot command with OP 0 or 7, and LOCK, RETIRE, ACTIVATE, CLEAR or INSTALL on a slot that does not admit it, changes no
slot: it reports SLOT_BUSY (R136). -/
def Obligations.SlotCommandsMoveTableSlots : Prop :=
  (
    ∀ (i : Fin 64) (s : State), s.canonical →
      (s.slotSt i ≠ slotFree → Answers (.slotLock i) s fun t =>
        t.f (F.MNT_SLOT_INFO_LOCK i) = 1 ∧ t.slotSt i = s.slotSt i ∧ t.f F.MNT_SLOT_RESULT_CODE = 0) ∧
      (Answers (.slotUnlock i) s fun t =>
        t.f (F.MNT_SLOT_INFO_LOCK i) = 0 ∧ t.slotSt i = s.slotSt i ∧ t.f F.MNT_SLOT_RESULT_CODE = 0) ∧
      (s.slotSt i = slotActive → Answers (.slotRetire i) s fun t =>
        t.slotSt i = slotDraining ∧ (i.val, s.liveKernels ++ s.liveEncoders i) ∈ t.mint.drainSets ∧ t.f F.MNT_SLOT_RESULT_CODE = 0) ∧
      (s.slotSt i = slotDraining ∨ s.slotSt i = slotRetired → Answers (.slotActivate i) s fun t =>
        t.slotSt i = slotActive ∧ (∀ d ∈ t.mint.drainSets, d.1 ≠ i.val) ∧ t.f F.MNT_SLOT_RESULT_CODE = 0) ∧
      (s.overwritable i = true → Answers (.slotClear i) s fun t =>
        t.slotSt i = slotFree ∧ t.f (F.MNT_SLOT_INFO_GEN i) = s.f (F.MNT_SLOT_INFO_GEN i) ∧
          t.f (F.MNT_SLOT_INFO_PLANES i) = 0 ∧ t.f F.MNT_SLOT_RESULT_CODE = 0)) ∧
  (
    ∀ (i : Fin 64) (s : State), s.canonical →
      (∀ (planes : Fin 8) (xor : Bool), s.installable i = true → 1 ≤ planes.val → planes.val ≤ 4 →
        tablesValid planes s.stagedTables = true → Answers (.slotInstall i planes xor) s fun t =>
          t.slotSt i = slotInstalling ∧ t.f F.MNT_SLOT_CMD_GO = 1 ∧
            ∃ x ∈ t.installs, x.slot = i.val ∧ x.planes = planes.val ∧ x.xor = xor ∧ x.gen = s.nextGen i) ∧
      (∀ x : SlotInstall, s.installs.find? (fun y => y.slot == i.val) = some x → x.planes < 8 →
        Answers (.slotInstallDone i) s fun t =>
          t.slotSt i = slotActive ∧ t.f (F.MNT_SLOT_INFO_GEN i) = x.gen % 256 ∧ t.f (F.MNT_SLOT_INFO_PLANES i) = x.planes ∧
            t.f (F.MNT_SLOT_INFO_DAMAGED i) = 0 ∧ ∀ y ∈ t.installs, y.slot ≠ i.val) ∧
      (∀ set : List Nat, s.slotSt i = slotDraining → s.mint.drainSets.find? (fun d => d.1 == i.val) = some (i.val, set) →
        (∀ m ∈ set, m ∉ s.liveKernels ∧ m ∉ s.mint.jobs.map MintJob.id) → Answers (.drainSetEmpty i) s fun t =>
          t.slotSt i = slotRetired ∧ ∀ d ∈ t.mint.drainSets, d.1 ≠ i.val)) ∧
  (
    ∀ (i : Fin 64) (s : State), s.canonical →
      (∀ seven : Bool, Answers (.slotCmdReserved i seven) s fun t =>
        t.f F.MNT_SLOT_RESULT_CODE = cSlotBusy ∧ ∀ j : Fin 64, t.reg (R.MNT_SLOT_INFO j) = s.reg (R.MNT_SLOT_INFO j)) ∧
      (s.slotSt i = slotFree → Answers (.slotLock i) s fun t =>
        t.f F.MNT_SLOT_RESULT_CODE = cSlotBusy ∧ ∀ j : Fin 64, t.reg (R.MNT_SLOT_INFO j) = s.reg (R.MNT_SLOT_INFO j)) ∧
      (s.slotSt i ≠ slotActive → Answers (.slotRetire i) s fun t =>
        t.f F.MNT_SLOT_RESULT_CODE = cSlotBusy ∧ ∀ j : Fin 64, t.reg (R.MNT_SLOT_INFO j) = s.reg (R.MNT_SLOT_INFO j)) ∧
      (s.overwritable i = false → Answers (.slotClear i) s fun t =>
        t.f F.MNT_SLOT_RESULT_CODE = cSlotBusy ∧ ∀ j : Fin 64, t.reg (R.MNT_SLOT_INFO j) = s.reg (R.MNT_SLOT_INFO j)) ∧
      (s.slotSt i ≠ slotDraining → s.slotSt i ≠ slotRetired → Answers (.slotActivate i) s fun t =>
        t.f F.MNT_SLOT_RESULT_CODE = cSlotBusy ∧ ∀ j : Fin 64, t.reg (R.MNT_SLOT_INFO j) = s.reg (R.MNT_SLOT_INFO j)) ∧
      (∀ (planes : Fin 8) (xor : Bool), s.installable i = false → Answers (.slotInstall i planes xor) s fun t =>
        t.f F.MNT_SLOT_RESULT_CODE = cSlotBusy ∧ ∀ j : Fin 64, t.reg (R.MNT_SLOT_INFO j) = s.reg (R.MNT_SLOT_INFO j)))

/-! ## The canopy cache (chapter 3) -/

/-- The canopy cache's commands: WB, INV and DRAIN set their bits; the end of WB or INV clears both and, under INV, leaves
the stack no line; the end of a drain leaves it no line, so that DRAINED reads 1; after DRAIN is written 0 both read 0 (R74,
Table 3-13). The four writes change nothing but CAN_CTRL of the stack.

At a decay boundary every listed page's counter is halved, rounding down, and the boundary passes (R78). -/
def Obligations.CanopyCommandsAndDecayDoTheirWork : Prop :=
  (
    ∀ (c : Fin 8) (s : State), s.canonical →
      let only (t : State) : Prop := t = { s with regs := t.regs } ∧ ∀ off, off ≠ R.CAN_CTRL c → t.reg off = s.reg off
      (Answers (.canopyWb c) s fun t =>
        t.f (F.CAN_CTRL_WB c) = 1 ∧ t.f (F.CAN_CTRL_INV c) = s.f (F.CAN_CTRL_INV c) ∧ t.f (F.CAN_CTRL_DRAIN c) = s.f (F.CAN_CTRL_DRAIN c) ∧ only t) ∧
      (Answers (.canopyInv c) s fun t =>
        t.f (F.CAN_CTRL_INV c) = 1 ∧ t.f (F.CAN_CTRL_WB c) = s.f (F.CAN_CTRL_WB c) ∧ t.f (F.CAN_CTRL_DRAIN c) = s.f (F.CAN_CTRL_DRAIN c) ∧ only t) ∧
      (Answers (.canopyDrainSet c) s fun t =>
        t.f (F.CAN_CTRL_DRAIN c) = 1 ∧ t.f (F.CAN_CTRL_WB c) = s.f (F.CAN_CTRL_WB c) ∧ t.f (F.CAN_CTRL_INV c) = s.f (F.CAN_CTRL_INV c) ∧ only t) ∧
      (Answers (.canopyDrainClear c) s fun t => t.f (F.CAN_CTRL_DRAIN c) = 0 ∧ t.drained c = false ∧ only t) ∧
      (s.f (F.CAN_CTRL_WB c) = 1 → s.f (F.CAN_CTRL_INV c) = 0 → s.linesOf c = [] → Answers (.canopyWbDone c) s fun t =>
        t.f (F.CAN_CTRL_WB c) = 0 ∧ t.linesOf c = [] ∧ only t) ∧
      (s.f (F.CAN_CTRL_INV c) = 1 → Answers (.canopyWbDone c) s fun t =>
        t.f (F.CAN_CTRL_WB c) = 0 ∧ t.f (F.CAN_CTRL_INV c) = 0 ∧ t.linesOf c = []) ∧
      (s.f (F.CAN_CTRL_DRAIN c) = 1 → Answers (.canopyDrained c) s fun t => t.linesOf c = [] ∧ t.drained c = true)) ∧
  (
    ∀ s : State, s.canonical → 0 < s.decayNs → (s.canopy.decayAt / s.decayNs + 1) * s.decayNs ≤ s.count →
      Answers .decayBoundary s fun t =>
        (∀ p, (t.pageUse p).counter = (s.pageUse p).counter / 2) ∧
          t.canopy.decayAt = (s.canopy.decayAt / s.decayNs + 1) * s.decayNs)

/-! ## Faults and fences (chapters 1 and 6) -/

/-- A fault fences its unit: an engine's operand fault its engine, a sequencer fault its core, a cluster fault its cluster,
a die fault its die, a bridge failure die 1 and not die 0. The kernel that an engine's or a sequencer's fault concerns runs
no longer. A lost tag grain that the tag cache holds fences nothing. A fault of a unit that is fenced already changes nothing, unless
it comes in the same cycle as the fault that fenced a unit holding its own: then its record and its fence are added (R15, R17,
R19, R168, R180, R373). -/
def Obligations.FaultsFenceTheirUnit : Prop :=
  ∀ s : State, s.canonical →
    (∀ cut : KernelCut, s.engineFenced cut.core = false → Answers (.operandParity cut) s fun t =>
      FenceUnit.engine cut.core.val ∈ t.fences ∧ (∀ u ∈ t.fences, u ∈ s.fences ∨ u = .engine cut.core.val) ∧
        ((s.core cut.core).running.isSome = true → (t.core cut.core).running = none)) ∧
    (∀ cut : KernelCut, s.coreFenced cut.core = false → Answers (.seqFault cut) s fun t =>
      FenceUnit.core cut.core.val ∈ t.fences ∧ (∀ u ∈ t.fences, u ∈ s.fences ∨ u = .core cut.core.val) ∧ (t.core cut.core).running = none) ∧
    (∀ (c : Fin 8) (cuts : List KernelCut), s.clusterFenced c = false →
      (Answers (.clusterFault c .check cuts) s fun t => FenceUnit.cluster c.val ∈ t.fences) ∧
      (∀ i, (s.tagCache c).contains i = false → Answers (.clusterFault c (.tagGrain i) cuts) s fun t => FenceUnit.cluster c.val ∈ t.fences)) ∧
    (∀ (c : Fin 8) (cuts : List KernelCut) (i : Nat), (s.tagCache c).contains i = true →
      Answers (.clusterFault c (.tagGrain i) cuts) s fun t => t.fences = s.fences ∧ t.regs = s.regs) ∧
    (∀ (d : Fin 2) (cuts : List KernelCut), s.dieFenced d = false →
      Answers (.dieFault d cuts) s fun t => FenceUnit.die d.val ∈ t.fences ∧ (∀ u ∈ t.fences, u ∈ s.fences ∨ u = .die d.val)) ∧
    (∀ cuts : List KernelCut, s.dieFenced 1 = false → Answers (.bridgeFailure cuts) s fun t =>
      FenceUnit.die 1 ∈ t.fences ∧ (∀ u ∈ t.fences, u ∈ s.fences ∨ u = .die 1)) ∧
    (∀ cut : KernelCut, s.engineFenced cut.core = true →
      (s.faultsTogether (.engine cut.core) = false → exec (.operandParity cut) s = .next s) ∧
      (s.faultsTogether (.engine cut.core) = true → Answers (.operandParity cut) s fun t => t.fences = s.fences ++ [.engine cut.core.val])) ∧
    (∀ cut : KernelCut, s.coreFenced cut.core = true →
      (s.faultsTogether (.core cut.core) = false → exec (.seqFault cut) s = .next s) ∧
      (s.faultsTogether (.core cut.core) = true → Answers (.seqFault cut) s fun t => t.fences = s.fences ++ [.core cut.core.val]))

/-! ## Cores and their queues (chapters 1 and 7) -/

/-- Core power: a wake makes a clock-gated core ready 200 ns later and a power-gated one 6 µs later; a waking core is awake
once its time has come; an idle awake core is gated as its idle mode says once it has idled long enough. No other core's
state changes (R33, R183). CORE_WAKE.WAKE reads 1 until the core is ready (Table 0-2).

A descriptor fetch: from the device queue its first entry becomes the fetched head; from the software ring the 64 bytes
at HEAD do, when the queue is enabled, not empty, and its memory reads without poison (R174). A descriptor that names a
stream plan is left to another statement. -/
def Obligations.CoresWakeGateAndFetch : Prop :=
  (
    ∀ (n : Fin 16) (s : State), s.canonical →
      (s.coreFenced n = false → (s.core n).power = .clockGated → Answers (.coreWake n) s fun t =>
        t.core n = { s.core n with power := .waking (s.count + 200) } ∧ t.f (F.CORE_WAKE_WAKE n) = 1 ∧
          ∀ m : Fin 16, m ≠ n → t.core m = s.core m) ∧
      (s.coreFenced n = false → (s.core n).power = .powerGated → Answers (.coreWake n) s fun t =>
        t.core n = { s.core n with power := .waking (s.count + 6000) } ∧ t.f (F.CORE_WAKE_WAKE n) = 1 ∧
          ∀ m : Fin 16, m ≠ n → t.core m = s.core m) ∧
      (∀ k, (s.core n).power = .waking k → k ≤ s.count → Answers (.coreReady n) s fun t =>
        t.core n = { s.core n with power := .awake, idleSince := s.count } ∧ t.f (F.CORE_WAKE_WAKE n) = 0 ∧
          ∀ m : Fin 16, m ≠ n → t.core m = s.core m) ∧
      (s.idleMode n ≠ 0 → (s.core n).power = .awake → (s.core n).running = none → s.turn n = none → s.testing n = false →
        s.shadowing n = none → s.shadowOf n = none → s.coreFenced n = false →
        (s.core n).idleSince + s.epoch.active.str.clockPower.idleNs.getD n 0 ≤ s.count → Answers (.coreGate n) s fun t =>
          t.core n = { s.core n with power := if s.idleMode n = 1 then .clockGated else .powerGated } ∧
            ∀ m : Fin 16, m ≠ n → t.core m = s.core m)) ∧
  (
    ∀ (n : Fin 16) (s : State), s.canonical → s.coreFenced n = false → s.testing n = false → s.coreStopped n = false →
      (∀ (uid lead : Nat) (desc : Bytes) (rest : List DqEntry), (s.core n).dqHead = none →
        (s.core n).dq = ⟨uid, desc, .expert lead⟩ :: rest → kdPlan desc = 2 ^ 32 - 1 → Answers (.descFetch n true) s fun t =>
          (t.core n).dqHead = some ⟨uid, desc, 0, [], some (.expert lead)⟩ ∧ (t.core n).dq = rest ∧ (t.core n).sw = (s.core n).sw) ∧
      (s.f (F.CORE_Q_CFG_ENABLE n) = 1 → (s.core n).sw = none → s.f (F.CORE_Q_HEAD_INDEX n) ≠ s.f (F.CORE_Q_TAIL_INDEX n) →
        s.fetchStopped n (s.f (F.CORE_Q_HEAD_INDEX n)) = false → s.plainRange (s.ringEntry n (s.f (F.CORE_Q_HEAD_INDEX n))) 64 = true →
        let r := s.readAny (s.ringEntry n (s.f (F.CORE_Q_HEAD_INDEX n))) 64 (coreConsumer n 0) {} none
        r.2.ready = true → r.2.poison = [] → kdPlan r.2.data = 2 ^ 32 - 1 → Answers (.descFetch n false) s fun t =>
          ∃ uid, (t.core n).sw = some ⟨uid, r.2.data, s.ringEntry n (s.f (F.CORE_Q_HEAD_INDEX n)), [], none⟩))

/-- A kernel whose turn has come starts on an idle, awake core, when it passes the checks, uses no engine and is no part of a
diagnosis: it runs from now, its slot is ARMED with the next SEQ, and HEAD passes it when it came from the software ring
(R175, R176, R184).

One whose descriptor has an uncorrectable word is refused with DESC_ECC instead: its core stays idle, KERNELS counts it and CORE_LAST
shows the code with outcome 3 (R178, R179).

The end of a kernel that is neither a lead of the expert service nor under comparison: once its code's outputs are written
(kernelOutputs), its core is idle from now, CORE_LAST shows its code, flags and DONE byte, and KERNELS counts it (R179). -/
def Obligations.KernelsStartAndEnd : Prop :=
  (
    ∀ (n : Fin 16) (code : KCode) (s : State) (fromDq : Bool) (x : Fetched), s.canonical →
      s.coreFenced n = false → (s.core n).running = none → s.testing n = false → s.coreStopped n = false → s.shadowing n = none →
      s.shadowOf n = none → s.turn n = some (fromDq, x) → x.isShadow = false → s.awake n = true → s.usesEngine n x.desc = false →
      s.diagFor n x = none → s.cxCore n = false →
      (s.kCheck n x code = none → Answers (.kernelStart n code []) s fun t =>
        (∃ r, (t.core n).running = some r ∧ r.uid = x.uid ∧ r.desc = x.desc ∧ r.startedAt = s.count ∧
          r.armed = decide (kdSlot x.desc < 4096) ∧ r.seedLo = (s.snapshotOf x).1 ∧ r.waits = code.waits ∧ r.flags = 0) ∧
        (kdSlot x.desc < 4096 → t.slotState (kdSlot x.desc) = 1 ∧ t.slotSeq (kdSlot x.desc) = (s.slotSeq (kdSlot x.desc) + 1) % 2 ^ 32) ∧
        (t.f (F.CORE_Q_HEAD_INDEX n) = if fromDq then s.f (F.CORE_Q_HEAD_INDEX n) else (s.f (F.CORE_Q_HEAD_INDEX n) + 1) % 65536)) ∧
      (x.bad ≠ [] → x.producer = none → Answers (.kernelStart n code []) s fun t =>
        (t.core n).running = none ∧ t.reg (R.CORE_LAST n) = BitVec.ofNat 64 (0x0730 + 2 ^ 32 * 3) ∧
        t.f (F.CORE_KERNELS_COUNT n) = (s.f (F.CORE_KERNELS_COUNT n) + 1) % 2 ^ 64)) ∧
  (
    ∀ (n : Fin 16) (run : KernelRun) (s u : State) (r : Running) (e : KernelFin), s.canonical → s.epoch.old = [] →
      (s.core n).running = some r → expertIds.contains (kdKernel r.desc) = false → s.coreFenced n = false → s.comparing n r = false →
      s.stallOf n = none → u.pairState ≠ psPaired → (s.setBypass r.cx).kernelOutputs n r run = (u, some e) → Answers (.kernelEnd n run) s fun t =>
        (t.core n).running = none ∧
        t.reg (R.CORE_LAST n) = BitVec.ofNat 64 (e.code + 2 ^ 16 * e.flags + 2 ^ 32 * doneByte e.outcome r.late) ∧
        t.f (F.CORE_KERNELS_COUNT n) = (s.f (F.CORE_KERNELS_COUNT n) + 1) % 2 ^ 64)

/-- The expert service with a group of several cores: a checked message of any of the three kinds makes the lead wait, holding
the message and its entries, while its partners' entries are posted (R192).

A message that passes the checks and whose work (svcBody) is done ends its kernel: alone at once, and for a group when its
barrier's generation has completed (R192, R203, R205, R208).

A message that a check refuses ends its kernel with that code and outcome 3 (R197). -/
def Obligations.ExpertServiceRunsItsGroup : Prop :=
  ∀ (n : Fin 16) (kind : SvcKind) (plans : List (Nat × Nat)) (time : KernelTime) (c : Instr) (s : State) (r : Running),
    s.canonical → s.epoch.old = [] →
    c = (match kind with | .fwd => .expFwd n plans time | .bwd => .expBwd n plans time | .close => .expClose n plans time) →
    (∀ (m : Bytes) (es : List ExpEntry) (headBad : Bool), (s.setBypass r.cx).svcRunning kind n = some r → r.exp = none → (s.setBypass r.cx).svcCheck kind n r = .ok m es headBad →
      (partnersOf n es ≠ [] → (∀ p ∈ partnersOf n es, s.coreFenced p = false ∧ (s.core p).depth < 64) → Answers c s fun t =>
        ∃ w, (t.core n).running = some { r with exp := some w } ∧ w.msg = m ∧ w.entries = es ∧ w.bad = []) ∧
      (∀ (d : SvcDone) (u : State) (fin : KernelFin), partnersOf n es = [] → (s.setBypass r.cx).svcBody kind n r m es headBad [] = .ok d →
        (let p := d.st.kernelPoison n r d.first
         p.1.kernelOutputs n { p.2 with flags := r.flags ||| d.flags, badOut := r.badOut || d.bad }
          { dataAddr := d.dataAddr, dataLen := d.dataLen, time := time } = (u, some fin)) → u.pairState ≠ psPaired →
        Answers c s fun t => (t.core n).running = none ∧
          t.reg (R.CORE_LAST n) = BitVec.ofNat 64 (fin.code + 2 ^ 16 * fin.flags + 2 ^ 32 * doneByte fin.outcome r.late))) ∧
    (∀ code addr : Nat, (s.setBypass r.cx).svcRunning kind n = some r → r.exp = none → (s.setBypass r.cx).svcCheck kind n r = .refuse code addr → Answers c s fun t =>
      (t.core n).running = none ∧ t.reg (R.CORE_LAST n) = BitVec.ofNat 64 (code + 2 ^ 32 * doneByte 3 r.late)) ∧
    (∀ (w : ExpWait) (d : SvcDone) (u : State) (fin : KernelFin), (s.core n).running = some r → r.exp = some w →
      svcKindOf (kdKernel r.desc) = some kind → s.coreFenced n = false → s.comparing n r = false → s.stallOf n = none →
      s.f (F.SLOT_BARRIER_GEN (svcBarrier n)) ≠ w.gen →
      (let h := (⟨s.setBypass r.cx, none, none⟩ : Loads).get (msgSave w.msg) 64 (coreConsumer n (kdTag r.desc))
       (s.setBypass r.cx).svcBody kind n r w.msg w.entries (kind == .bwd && h.1.first.isSome) w.bad = .ok d) →
      (let p := d.st.kernelPoison n r d.first
       p.1.kernelOutputs n { p.2 with flags := r.flags ||| d.flags, badOut := r.badOut || (d.bad || !w.bad.isEmpty) }
        { dataAddr := d.dataAddr, dataLen := d.dataLen, time := time } = (u, some fin)) → u.pairState ≠ psPaired →
      Answers (.expGroupCombine n time) s fun t => (t.core n).running = none ∧
        t.reg (R.CORE_LAST n) = BitVec.ofNat 64 (fin.code + 2 ^ 16 * fin.flags + 2 ^ 32 * doneByte fin.outcome r.late))

/-! ## Stream plans (chapter 3) -/

/-- CORE_PLAN_START starts an installed plan in its cluster when that has room: the plan is the newest, at its first step
(R90, R189).

Issuing a ready step: a local FETCH is issued and the plan goes on to the next step; a SIGNAL advances the plan and adds
1 to its event (R91).

An issued FETCH whose data is all there completes: it is no longer issued, and its event is counted. A local FETCH needs
a source that reads without a repair, a remote one every byte it asked for (R91, R92).

A core's stall that has reached its plan's deadline is reported once: it is kept as reported, and a second report does nothing
(R94). -/
def Obligations.StreamPlansRunTheirSteps : Prop :=
  (
    ∀ (n : Fin 16) (id : W32) (s : State) (p : Program), s.program 2 id.toNat n = some p →
      s.planRoom (fieldLe p.bytes 4 1 % 8) = true → s.clusterFenced (fieldLe p.bytes 4 1 % 8) = false →
      Answers (.corePlanStart n id) s fun t =>
        t.plans = s.plans ++ [{ uid := s.nextId, id := p.id, cluster := fieldLe p.bytes 4 1 % 8, bytes := p.bytes, next := 0,
                                repeats := [], strides := [], issued := [], epoch := s.f F.GLB_EPOCH_CURRENT }] ∧ t.regs = s.regs) ∧
  (
    ∀ (u : Nat) (s : State) (p : Plan), s.canonical → s.epoch.old = [] → s.plan u = some p → p.next < p.steps → s.stepReady (p.step p.next) = true →
      s.clusterFenced p.cluster = false →
      (stOp (p.step p.next) = 1 → stRemote (p.step p.next) = false → Answers (.streamStepIssue u) s fun t =>
        t.plan u = some { p with next := p.next + 1, issued := p.issued ++
          [{ no := s.nextId, step := p.next, src := BitVec.ofInt 56 ((stSrc (p.step p.next) : Int) + p.stride p.next), asked := 0, got := 0, grains := locGrains (p.step p.next) }] }) ∧
      (stOp (p.step p.next) = 3 → stDone (p.step p.next) < 4096 → Answers (.streamStepIssue u) s fun t =>
        (p.next + 1 < p.steps → t.plan u = some { p with next := p.next + 1 }) ∧
          t.event (stDone (p.step p.next)) = (s.event (stDone (p.step p.next)) + 1) % 2 ^ 32)) ∧
  (
    ∀ (u no : Nat) (env : VaultEnv) (s : State) (p : Plan) (x : FetchStep), s.canonical → s.epoch.old = [] → s.plan u = some p →
      p.issued.find? (fun y => y.no == no) = some x → s.clusterFenced p.cluster = false → stDone (p.step x.step) < 4096 →
      (stRemote (p.step x.step) = true ∧ fetchBytesOf (p.step x.step) x.src ≤ x.got ∨
        stRemote (p.step x.step) = false ∧
          (s.fetchRead x.src (stCount (p.step x.step)) (planConsumer p) env).2.ready = true) →
      Answers (.fetchDone u no env) s fun t =>
        (∀ q, t.plan u = some q → ∀ y ∈ q.issued, y.no ≠ no) ∧
          t.event (stDone (p.step x.step)) = (s.event (stDone (p.step x.step)) + 1) % 2 ^ 32) ∧
  (
    ∀ (core : Fin 16) (s : State) (x : Stall) (p : Plan) (step cause : Nat), s.stallOf core = some x →
      s.stallCause x.event = some (p, step, cause) → p.deadline ≠ 0 → x.since + p.deadline ≤ s.count →
      (x.told = false → Answers (.stallTimeout core) s fun t => t.stallOf core = some { x with told := true } ∧
        (∀ y ∈ s.stalls, y.core ≠ core → y ∈ t.stalls)) ∧
      (x.told = true → exec (.stallTimeout core) s = .next s))

/-! ## Silent errors and field test (chapter 17) -/

/-- A K-block whose lanes agree, of a kernel without a shadow, adds the block value of each cell of its operand tiles to its accumulator,
and the kernel's flags take the cells' (R145, R149, R150, R154, R393). The first block of a pass, which loads the
accumulators, is not in this statement.

A pass of a shadowed kernel on which the two engines agree is noted in TST_CORE_LAST of both cores, and, without code to follow
it, changes nothing else (R398).

At the end of a pass of a kernel without a shadow, the steps of its code run on what the accumulators hold: what they write is in memory
and their flags are the kernel's (R144, R155). -/
def Obligations.AgreeingBlocksAndPassesAreTaken : Prop :=
  (
    ∀ (cut : KernelCut) (pass block : W32) (aAt bAt : OperandAt) (init : List (Nat × PA × Nat)) (types : Option (Nat × Nat))
      (wrong shadowWrong : List WrongSum) (third : Option W32) (s : State) (r : Running) (ta tb : ElemType),
      s.canonical → s.epoch.old = [] → block ≠ 0 → (s.core cut.core).running = some r → s.shadowOf cut.core = none →
      r.pair types = some (ta, tb) →
      let x := (⟨s.setBypass r.cx, none, none⟩ : Loads).side cut.core r.desc ta aAt 128
      let y := x.1.side cut.core r.desc tb bAt 512
      let o : BlockOps := ⟨x.2.scales, y.2.scales, x.2.rows, y.2.rows⟩
      let a := (List.range x.2.bad.length).map (kValues ta (rowElems ta x.2.rows))
      let b := (List.range y.2.bad.length).map (kValues tb (rowElems tb y.2.rows))
      let sums := blockSums a b wrong
      y.1.wait = none → laneCheck (ta.fmt == .bf16) a b sums = none →
      Answers (.kBlockEnd cut pass block aAt bAt init types wrong shadowWrong third) s fun t =>
        ∀ m < a.length, ∀ k < b.length,
          let v := cellV ta o (a.getD m []) (b.getD k []) ((sums.getD m []).getD k none) m k
          t.acc cut.core m k = (accAdd ta (s.acc cut.core m k) v.1).1 ∧
            ∃ r', (t.core cut.core).running = some r' ∧ r'.desc = r.desc ∧
              ∀ i < 16, (v.2 ||| (accAdd ta (s.acc cut.core m k) v.1).2).testBit i = true → r'.flags.testBit i = true) ∧
  (
    ∀ (cut : KernelCut) (pass : W32) (s : State) (r : Running) (x : Shadow), s.canonical → s.epoch.old = [] →
      (s.core cut.core).running = some r → s.shadowOf cut.core = some x → x.taken = true → x.diag = none → x.shadow < 16 →
      Answers (.enginePassEnd cut pass none []) s fun t =>
        t.f (F.TST_CORE_LAST_COUNT cut.core) = s.count % 2 ^ 64 ∧ t.f (F.TST_CORE_LAST_COUNT x.shadow) = s.count % 2 ^ 64 ∧
          t.core cut.core = s.core cut.core ∧ t = { s with regs := t.regs, cores := t.cores }) ∧
  (
    ∀ (cut : KernelCut) (pass : W32) (code : List KStep) (s : State) (r : Running), s.canonical → s.epoch.old = [] →
      (s.core cut.core).running = some r → s.shadowOf cut.core = none →
      let e := (s.setBypass r.cx).runCode cut.core r code
      e.wait = false → Answers (.enginePassEnd cut pass none code) s fun t =>
        t.dram = (e.st.kernelPoison cut.core r e.first).1.dram ∧ t.stores = (e.st.kernelPoison cut.core r e.first).1.stores ∧
          ∃ r', (t.core cut.core).running = some r' ∧ r'.flags = r.flags ||| e.flags ∧ r'.badOut = (r.badOut || e.bad))

/-- A shadow entry that its core takes counts as SHADOWED and is no longer queued; one not taken in time counts as SKIPPED
(R397).

Arming a diagnosis of an OPEN entry on unfenced cores outside its engines' clusters sets ARM; otherwise ARM reads 0.
Freeing a suspect entry makes it FREE and leaves the others (R399, R400). -/
def Obligations.ShadowsAndDiagnosesAreTakenOrWithdrawn : Prop :=
  (
    ∀ s : State, s.canonical →
      (∀ (m : Fin 16) (n : Nat) (c : CoreSt) (x : Shadow), s.coreFenced m = false → (s.core m).running = none → s.testing m = false →
        s.shadowing m = none → s.awake m = true → (s.core m).shadowHead = some (n, c) → s.shadowOf n = some x →
        Answers (.shadowTaken m) s fun t =>
          t.f F.TST_SHADOWED_COUNT = (s.f F.TST_SHADOWED_COUNT + 1) % 2 ^ 64 ∧
            (s.coreFenced n = true → n ≠ m.val → t.core m = c ∧ t.shadowOf n = some { x with taken := true, startedAt := s.count })) ∧
      (∀ (n : Fin 16) (x : Shadow), s.shadowOf n = some x → x.taken = false → x.postedAt + 1000 * s.f F.TST_CFG_SHADOW_WAIT_US ≤ s.count →
        Answers (.shadowWaitTimeout n) s fun t =>
          t.f F.TST_SHADOW_SKIPPED_COUNT = (s.f F.TST_SHADOW_SKIPPED_COUNT + 1) % 2 ^ 64)) ∧
  (
    ∀ s : State, s.canonical →
      (∀ entry core shadow : Fin 16, Answers (.diagArm entry core shadow) s fun t =>
        t.f F.TST_DIAG_CTL_ENTRY = entry.val ∧ t.f F.TST_DIAG_CTL_CORE = core.val ∧ t.f F.TST_DIAG_CTL_SHADOW = shadow.val ∧
        (s.f (F.TST_SUSPECT_STATE entry) = 1 ∧ s.coreFenced core = false ∧ s.coreFenced shadow = false ∧
            clusterOfCore shadow ≠ clusterOfCore (s.f (F.TST_SUSPECT_ENGINE_A entry)) ∧
            (s.f (F.TST_SUSPECT_KIND entry) = 1 → clusterOfCore shadow ≠ clusterOfCore (s.f (F.TST_SUSPECT_ENGINE_B entry))) →
          t.f F.TST_DIAG_CTL_ARM = 1) ∧
        (s.f (F.TST_SUSPECT_STATE entry) ≠ 1 → t.f F.TST_DIAG_CTL_ARM = 0)) ∧
      (∀ i : Fin 16, Answers (.suspectFree i) s fun t =>
        t.f (F.TST_SUSPECT_STATE i) = 0 ∧ ∀ j : Fin 16, j ≠ i → t.reg (R.TST_SUSPECT j) = s.reg (R.TST_SUSPECT j)))

/-- A shelf load sets GO; when the package and its body can be read, its end clears GO and reports what the checks of R404
found: RESULT 0 with the set held, or RESULT 1 with SHELF_REJECT (R404).

A field test that is asked for with an evicted, unfenced core and a held set is PENDING; ABORT ends a PENDING test with
OUTCOME 3; it starts, TESTING, when its stop index is reached on an idle core; it is DEFERRED past its deadline; it ends
with OUTCOME 1, or with OUTCOME 2 and its core fenced when a pattern failed (R405 to R407). -/
def Obligations.ShelfAndFieldTestsRun : Prop :=
  (
    ∀ s : State, s.canonical →
      (Answers .shelfLoad s fun t => t.f F.TST_SHELF_CTL_GO = 1 ∧ t = { s with regs := t.regs }) ∧
      (∀ env : VaultEnv, s.f F.TST_SHELF_CTL_GO = 1 →
        let a : PA := BitVec.ofNat 56 (s.f F.TST_SHELF_SRC_ADDR)
        let h := s.readAny a 4096 ⟨13, 0, 13, 0⟩ env none
        let b := h.1.readAny (BitVec.ofNat 56 (a.toNat + 4096)) (4096 * (min (fieldLe h.2.data 0x18 8) 0x10000000 / 4096)) ⟨13, 0, 13, 0⟩ env none
        h.2.ready = true → b.2.ready = true → Answers (.shelfLoadDone env) s fun t =>
          t.f F.TST_SHELF_CTL_GO = 0 ∧
            t.f F.TST_SHELF_CTL_RESULT = (if ((b.1.setF F.TST_SHELF_CTL_GO 0).shelfCheck h.2.data b.2.data).isNone then 0 else 1))) ∧
  (
    ∀ (n : Fin 16) (s : State), s.canonical →
      (∀ (set : Fin 16) (after : W16), s.testOf n = none → s.coreFenced n = false → s.f (F.TST_SET_INFO_STATE set) = 1 →
        Answers (.testRequest n set after true) s fun t =>
          t.f (F.TST_CORE_STS_STATE n) = 1 ∧ t.f (F.TST_CORE_CTL_GO n) = 1 ∧ t.f (F.TST_CORE_CTL_SET n) = set.val ∧
            ∃ x ∈ t.silent.tests, x.core = n.val ∧ x.goAt = s.count) ∧
      (∀ x : FieldTest, s.testOf n = some x → s.testing n = false → Answers (.testAbort n) s fun t =>
        t.f (F.TST_CORE_STS_OUTCOME n) = 3 ∧ t.f (F.TST_CORE_STS_STATE n) = 0 ∧ t.testOf n = none) ∧
      (∀ x : FieldTest, s.testOf n = some x → s.testing n = false → s.f (F.CORE_Q_HEAD_INDEX n) = x.stop → (s.core n).running = none →
        (s.core n).sw = none → (s.core n).depth = 0 → s.shadowing n = none → Answers (.testStart n) s fun t =>
          t.f (F.TST_CORE_STS_STATE n) = 2 ∧ ∃ y, t.testOf n = some y ∧ y.startedAt = s.count) ∧
      (∀ x : FieldTest, s.testOf n = some x → s.testing n = false → s.f (F.TST_CORE_STS_DEFERRED n) = 0 →
        x.goAt + 1000000 * s.f F.TST_CFG_DEADLINE_MS ≤ s.count → Answers (.testDeferred n) s fun t =>
          t.f (F.TST_CORE_STS_DEFERRED n) = 1) ∧
      (∀ x : FieldTest, s.testOf n = some x → s.testing n = true →
        (Answers (.testEnd n none) s fun t =>
          t.f (F.TST_CORE_STS_OUTCOME n) = 1 ∧ t.f (F.TST_CORE_STS_STATE n) = 0 ∧ t.f (F.TST_CORE_TESTS_COUNT n) = (s.f (F.TST_CORE_TESTS_COUNT n) + 1) % 2 ^ 64 ∧
            t.f (F.TST_CORE_STS_ENGINE n) = 0) ∧
        (∀ k : W32, s.coreFenced n = false → Answers (.testEnd n (some k)) s fun t =>
          FenceUnit.core n.val ∈ t.fences ∧ t.f (F.TST_CORE_TESTS_COUNT n) = (s.f (F.TST_CORE_TESTS_COUNT n) + 1) % 2 ^ 64)))

/-! ## Control space, images and epochs (chapters 1 and 2) -/

/-- A write to a register without a row of its own acts on its fields by their access codes: a read-write field that lies in
the written part takes the written bits and a field outside that part is kept, a write-1-to-set bit is never cleared, and
no other register changes. The registers here are the trust entries and the seed locks (R7, R36).

A write of a source to a part of a register, or to an offset that no register starts at, is UNSUPPORTED and changes nothing
(R36).

A control request of eight bytes that passes the checks at acceptance and follows no earlier one: a write sets its
register, and a read is answered with a CRSP that holds what the register reads as. The register here is the seed of a tag
that is not locked (R36, R225). -/
def Obligations.ControlAccessesReachRegisters : Prop :=
  (
    ∀ (src : Node) (off : Fin 268435456) (v : W64) (tag : Tag) (host : Bool) (s : State), s.canonical → s.inService = true →
      tag ≠ 0 ∨ host = true →
      (∀ i : Fin 16, off.val = R.POOL_TRUST i →
        Answers (.registerWrite src off .whole v tag host) s (fun t =>
          t.f (F.POOL_TRUST_VALID i) = bitsOf v.toNat 63 63 ∧ t.f (F.POOL_TRUST_DRAM i) = bitsOf v.toNat 52 52 ∧
          t.f (F.POOL_TRUST_MASK i) = bitsOf v.toNat 31 16 ∧ t.f (F.POOL_TRUST_MATCH i) = bitsOf v.toNat 15 0 ∧
          (∀ o, o ≠ R.POOL_TRUST i → t.reg o = s.reg o) ∧ t.dram = s.dram) ∧
        Answers (.registerWrite src off .low v tag true) s (fun t =>
          t.f (F.POOL_TRUST_MASK i) = bitsOf v.toNat 31 16 ∧ t.f (F.POOL_TRUST_MATCH i) = bitsOf v.toNat 15 0 ∧
          t.f (F.POOL_TRUST_VALID i) = s.f (F.POOL_TRUST_VALID i) ∧ t.f (F.POOL_TRUST_DRAM i) = s.f (F.POOL_TRUST_DRAM i))) ∧
      (∀ k : Fin 4096, off.val = R.DET_TAG_CTL k → s.f (F.DET_TAG_CTL_LOCK k) = 1 →
        Answers (.registerWrite src off .whole v tag host) s fun t => t.f (F.DET_TAG_CTL_LOCK k) = 1) ∧
      (∀ part : RegPart, part ≠ .whole ∨ off.val % 8 ≠ 0 →
        exec (.registerWrite src off part v tag false) s = .next (s.emit (.ctrl src off stUnsupported [])))) ∧
  (
    ∀ (q : Req) (tag : Fin 4096) (s : State), s.canonical → s.inService = true → q.addr = poolAddr 8 (R.DET_SEED_LO tag) → q.len = 8 →
      (∀ v : W64, q.data = leBytes 8 v.toNat → tag ≠ 0 → s.f (F.DET_TAG_CTL_LOCK tag) = 0 →
        ((s.unstage .creqWrite q).acceptCheck .creqWrite q).2 = none →
        s.fresh → (∀ o ∈ s.opens, mustFollow .creqWrite q none o = false) →
        Answers (.creq true q) s fun t => t.reg (R.DET_SEED_LO tag) = v ∧ t.opens = s.opens ∧ t.dram = s.dram) ∧
      (((s.unstage .creqRead q).acceptCheck .creqRead q).2 = none → s.portActive q.port = true →
        s.fresh → (∀ o ∈ s.opens, mustFollow .creqRead q none o = false) →
        Answers (.creq false q) s fun t => t.opens = s.opens ∧ t.reg (R.DET_SEED_LO tag) = s.reg (R.DET_SEED_LO tag) ∧
          ∃ m, t.sends q.port m ∧ m.ftype = .crsp ∧ m.dst = q.src ∧ m.txn = q.txn ∧ m.attr = stOk ∧
            m.payload = leBytes 4 8 ++ List.replicate 12 0 ++ leBytes 8 (s.reg (R.DET_SEED_LO tag)).toNat))

/-- A load starts by a write of GO, and is refused while another runs or a change is under way. When the checks of its bytes
fail, nothing of it is staged and LAST_OUTCOME is 2; when they pass, what it carries is staged and LAST_OUTCOME is 1 (R47,
R50, R51). -/
def Obligations.ImageLoadStagesOrFails : Prop :=
  ∀ s : State, s.canonical → s.inService = true →
    (∀ src : Fin 4,
      (s.epoch.load = none → s.changing = false → Answers (.sitLoad src) s fun t =>
        t.f F.SIT_LOAD_GO = 1 ∧ t.f F.SIT_LOAD_SRC = src.val ∧ t.f F.SIT_STATUS_STATE = sitLoading ∧
          t.epoch.load = some ⟨src.val, (s.reg R.SIT_SRC_ADDR).toNat, s.f F.SIT_SRC_LEN_LEN, false⟩) ∧
      ((s.epoch.load ≠ none ∨ s.changing = true) → Answers (.sitLoad src) s fun t =>
        t.f F.SIT_STATUS_LAST_ERR = 0x071B ∧ t.epoch = s.epoch ∧ t.f F.SIT_STATUS_STATE = s.f F.SIT_STATUS_STATE)) ∧
    (∀ (img : Bytes) (bad : List Nat) (env : VaultEnv) (l : Load), s.epoch.load = some l → l.atStart = false →
      l.src = srcHost →
      (∀ e, s.checkImage img bad l.len l.addr false = .error e → Answers (.imageLoadEnd img bad env) s fun t =>
        t.epoch.load = none ∧ t.f F.SIT_LOAD_GO = 0 ∧ t.f F.SIT_STATUS_LAST_OUTCOME = 2 ∧ t.f F.SIT_STATUS_LAST_ERR = e.code % 2 ^ 16 ∧
          t.epoch.stagedStr = s.epoch.stagedStr ∧ t.epoch.stagedProg = s.epoch.stagedProg ∧ t.epoch.active = s.epoch.active) ∧
      (∀ x, s.checkImage img bad l.len l.addr false = .ok x → Answers (.imageLoadEnd img bad env) s fun t =>
        t.epoch.load = none ∧ t.f F.SIT_LOAD_GO = 0 ∧ t.f F.SIT_STATUS_LAST_OUTCOME = 1 ∧ t.epoch.active = s.epoch.active ∧
          (x.str.isSome ∨ x.progs.isSome → t.epoch.stagedStr = x.str ∧ t.epoch.stagedProg = x.progs ∧
            t.f F.SIT_STATUS_STAGED = x.str.isSome.toNat + 2 * x.progs.isSome.toNat)))

/-- A staged change is ARMED by GO with a launch count far enough ahead, COLLECTING from its launch, and COMMITTING once
every concerned unit has acknowledged; at the commit count its set is active, CURRENT has advanced, and the old set is kept
until nothing accepted under it remains (R53, R55, R56). -/
def Obligations.EpochChangeCommits : Prop :=
  ∀ s : State, s.canonical →
    (s.f F.SIT_STATUS_STATE = sitStaged → s.f F.SIT_STATUS_STAGED ≠ 0 → s.count + 5000 ≤ (s.reg R.SIT_EPOCH_LAUNCH).toNat →
      Answers .epochGo s fun t => t.f F.SIT_STATUS_STATE = sitArmed ∧ t.f F.SIT_EPOCH_CTRL_GO = 1 ∧ t.f F.GLB_EPOCH_PENDING = 1 ∧
        t.f F.SIT_EPOCH_ACKED_MASK = 0 ∧ t.epoch.launch = (s.reg R.SIT_EPOCH_LAUNCH).toNat) ∧
    (s.f F.SIT_STATUS_STATE = sitArmed → s.epoch.launch ≤ s.count → s.notDrained s.stagedSet.str = none →
      s.oversubscribed s.stagedSet.str = none → s.unfencedUnits (s.f F.SIT_EPOCH_UNITS_MASK) ≠ 0 →
      Answers .epochLaunch s fun t => t.f F.SIT_STATUS_STATE = sitCollecting ∧ t.epoch.pending = some s.stagedSet ∧
        t.f F.SIT_EPOCH_UNITS_MASK = s.unfencedUnits (s.f F.SIT_EPOCH_UNITS_MASK) ∧ t.epoch.active = s.epoch.active) ∧
    (∀ u : Fin 47, s.f F.SIT_STATUS_STATE = sitCollecting → s.bit F.SIT_EPOCH_UNITS_MASK u = true → s.count ≤ s.epochDeadline →
      Answers (.epochAck u) s fun t => t.bit F.SIT_EPOCH_ACKED_MASK u = true ∧
        ((∀ i < 64, s.bit F.SIT_EPOCH_UNITS_MASK i = true → i = u.val ∨ s.bit F.SIT_EPOCH_ACKED_MASK i = true) →
          t.f F.SIT_STATUS_STATE = sitCommitting ∧ t.epoch.commit = s.count + 1000) ∧
        (∀ i < 64, s.bit F.SIT_EPOCH_UNITS_MASK i = true → i ≠ u.val → s.bit F.SIT_EPOCH_ACKED_MASK i = false →
          t.f F.SIT_STATUS_STATE = sitCollecting)) ∧
    (∀ x, s.epoch.pending = some x → s.f F.SIT_STATUS_STATE = sitCommitting → s.epoch.commit ≤ s.count →
      Answers .epochCommit s fun t => t.epoch.active = x ∧ t.f F.GLB_EPOCH_CURRENT = (s.f F.GLB_EPOCH_CURRENT + 1) % 2 ^ 32 ∧
        t.f F.SIT_STATUS_STATE = sitIdle ∧ t.f F.SIT_STATUS_LAST_OUTCOME = 3 ∧ t.f F.GLB_EPOCH_PENDING = 0 ∧
        t.epoch.stagedStr = none ∧ t.epoch.stagedProg = none ∧ (s.f F.GLB_EPOCH_CURRENT, s.epoch.active) ∈ t.epoch.old) ∧
    Answers .oldSetRelease s fun t => t = { s with epoch := t.epoch } ∧ t.epoch.active = s.epoch.active ∧
      ∀ x, x ∈ t.epoch.old ↔ x ∈ s.epoch.old ∧ s.epochUsed x.1 = true

/-- A change rolls back, and the staged sections stay staged, when it is abandoned before its commit, when a concerned unit
refuses it, and when acknowledgements are missing at the deadline: STATE is STAGED, LAST_OUTCOME is 4 and nothing is
pending. A staged set may be launched again with a new count, and a new load may start; after a commit STATE is IDLE (R54). -/
def Obligations.EpochChangeRollsBack : Prop :=
  ∀ s : State, s.canonical →
    let back (t : State) : Prop := t.f F.SIT_STATUS_STATE = sitStaged ∧ t.f F.SIT_STATUS_LAST_OUTCOME = 4 ∧ t.f F.GLB_EPOCH_PENDING = 0 ∧
      t.f F.SIT_EPOCH_CTRL_GO = 0 ∧ t.epoch.pending = none ∧ t.epoch.active = s.epoch.active ∧ t.epoch.stagedStr = s.epoch.stagedStr ∧
      t.epoch.stagedProg = s.epoch.stagedProg ∧ t.f F.GLB_EPOCH_CURRENT = s.f F.GLB_EPOCH_CURRENT
    (s.f F.SIT_STATUS_STATE = sitArmed ∨ s.f F.SIT_STATUS_STATE = sitCollecting → Answers .epochAbandon s back) ∧
    (∀ u : Fin 47, s.f F.SIT_STATUS_STATE = sitCollecting → s.bit F.SIT_EPOCH_UNITS_MASK u = true → Answers (.epochRefusal u) s back) ∧
    (s.f F.SIT_STATUS_STATE = sitCollecting → s.epochDeadline ≤ s.count → Answers .epochTimeout s back) ∧
    (s.f F.SIT_STATUS_STATE = sitStaged →
      (s.f F.SIT_STATUS_STAGED ≠ 0 → s.count + 5000 ≤ (s.reg R.SIT_EPOCH_LAUNCH).toNat → Answers .epochGo s fun t =>
        t.f F.SIT_STATUS_STATE = sitArmed ∧ t.epoch.launch = (s.reg R.SIT_EPOCH_LAUNCH).toNat) ∧
      (s.inService = true → s.epoch.load = none → ∀ src : Fin 4, Answers (.sitLoad src) s fun t => t.f F.SIT_STATUS_STATE = sitLoading)) ∧
    (∀ x, s.epoch.pending = some x → s.f F.SIT_STATUS_STATE = sitCommitting → s.epoch.commit ≤ s.count →
      Answers .epochCommit s fun t => t.f F.SIT_STATUS_STATE = sitIdle)

/-! ## Requests on the link (chapters 4 and 9) -/

/-- A read of PLAIN memory that passes the checks at acceptance, follows no earlier request and waits for nothing is
answered at once, with the bytes that its range reads as, and stays open no longer. A request that the checks turn away is
answered with their status and moves no data (R85, R223, R224, R233).

A write of PLAIN memory that passes the checks at acceptance, follows no earlier request and waits for nothing stores
its bytes in its range, and is answered OK (R86, R223, R233). -/
def Obligations.JxReadsAndWritesReachMemory : Prop :=
  (
    ∀ (q : Req) (s : State), s.canonical → s.fresh → s.inService = true →
      let r := (s.unstage .rd q).acceptCheck .rd q
      (let v := (r.1.openHeld .rd q .busy).touchStart (r.1.openOf .rd q .busy)
        let x := v.readRange q.addr q.len 1 q.tag
        r.2 = none → (∀ o ∈ s.opens, mustFollow .rd q none o = false) → spaceOf q.addr ≤ 2 ∨ spaceOf q.addr = 4 →
        v.clusterHeld (ownerOf (pageOf q.addr)) = false → v.touchesMirror q.addr q.len = false → v.readsByPartner q.addr q.len = false →
        v.tileOf q.addr = none → x.2.repair = none → x.2.refetch = none → x.2.poison = [] → x.1.portActive q.port = true →
        Answers (.jxRd q {}) s fun t => t.opens = r.1.opens ∧ t.dram = x.1.dram ∧ t.stores = x.1.stores ∧
          ∃ m, t.sends q.port m ∧ m.ftype = .rspd ∧ m.dst = q.src ∧ m.txn = q.txn ∧ m.attr = stOk ∧
            m.payload = leBytes 4 x.2.data.length ++ leBytes 4 0 ++ List.replicate 8 0 ++ x.2.data) ∧
      (∀ st, r.2 = some st → st ≠ stOk → st ≠ stPoison → r.1.portActive q.port = true →
        Answers (.jxRd q {}) s fun t => t.opens = r.1.opens ∧ t.dram = s.dram ∧ t.stores = s.stores ∧
          ∃ m, t.sends q.port m ∧ m.ftype = .rsp ∧ m.dst = q.src ∧ m.txn = q.txn ∧ m.attr = st)) ∧
  (
    ∀ (q : Req) (s : State), s.canonical → s.fresh → s.inService = true → q.data.length = q.len →
      let r := (s.unstage .wr q).acceptCheck .wr q
      (let v := (r.1.openHeld .wr q .busy).touchStart (r.1.openOf .wr q .busy)
        let x := v.writeRange q.addr q.data q.tag
        r.2 = none → (∀ o ∈ s.opens, mustFollow .wr q none o = false) → spaceOf q.addr ≤ 2 ∨ spaceOf q.addr = 4 →
        v.mintReads q.addr = false → v.clusterHeld (ownerOf (pageOf q.addr)) = false → v.touchesMirror q.addr q.len = false → v.tileOf q.addr = none →
        v.touchesRegionArea q.addr q.len = false → v.touchesFencedGrain q.addr q.len = false → v.grainHeld q.addr q.len = none →
        x.portActive q.port = true →
        Answers (.jxWr q {}) s fun t => t.opens = r.1.opens ∧ t.dram = x.dram ∧ t.stores = x.stores ∧
          ∃ m, t.sends q.port m ∧ m.ftype = .rsp ∧ m.dst = q.src ∧ m.txn = q.txn ∧ m.attr = stOk) ∧
      (∀ st, r.2 = some st → atDoor .wr q = false → r.1.portActive q.port = true →
        Answers (.jxWr q {}) s fun t => t.opens = r.1.opens ∧ t.dram = s.dram ∧ t.stores = s.stores ∧
          ∃ m, t.sends q.port m ∧ m.ftype = .rsp ∧ m.dst = q.src ∧ m.txn = q.txn ∧ m.attr = st))

/-- A FLUSH with no earlier open write of its source is answered OK; with one, it stays open and follows it. A request that
still waits without a token takes a DEFER; one whose wait is over, with nothing before it, is tried again and, when it can
be served, completes (R233, R236, R239).

When the decode of a write-expand ends with a slot, the write is applied to that slot, the directory entry is the one
that expanding writes, and the request is open no longer (R86). -/
def Obligations.WaitingRequestsComplete : Prop :=
  (
    ∀ s : State, s.canonical → s.fresh →
      (∀ q : Req, s.inService = true → ((s.unstage .flush q).acceptCheck .flush q).2 = none → s.portActive q.port = true →
        ((∀ o ∈ s.opens, mustFollow .flush q none o = false) → Answers (.jxFlush q) s fun t => t.opens = s.opens ∧
          ∃ m, t.sends q.port m ∧ m.ftype = .rsp ∧ m.dst = q.src ∧ m.txn = q.txn ∧ m.attr = stOk) ∧
        (∀ o ∈ s.opens, mustFollow .flush q none o = true → Answers (.jxFlush q) s fun t =>
          ∃ x ∈ t.opens, x.id = s.nextId ∧ x.kind = .flush ∧ x.req = q ∧ x.wait = .order)) ∧
      (∀ (id : Nat) (o : OpenReq), s.openAt id = some o → o.token = none → o.host = none → o.revoked = false →
        0 < s.tokensLeft o.req.port → (s.freeToken (dieOfPort o.req.port)).isSome = true →
        Answers (.deferDecision id) s fun t => ∃ x ∈ t.opens, x.id = id ∧ x.req = o.req ∧ x.token.isSome = true) ∧
      (∀ (id : Nat) (o : OpenReq), s.openAt id = some o → o.kind = .flush → o.wait = .order → o.revoked = false → o.host = none →
        s.epoch.old = [] → s.heldBefore o = false → (∀ x ∈ s.opens, x.id < id → mustFollow .flush o.req none x = false) →
        Answers (.deferComplete id {}) s fun t => t.openAt id = none ∧ ∀ x ∈ s.opens, x.id ≠ id → x ∈ t.opens)) ∧
  (
    ∀ (id slot : Nat) (o : OpenReq) (x : TileRef) (u s : State), s.canonical → s.openAt id = some o → o.wait = .expand →
      s.tileOf o.req.addr = some x → s.readsFirst o = false → o.revoked = false → s.epoch.old = [] →
      (∀ p ∈ s.opens, p.wait ≠ .behindExpand) →
      ((s.touchStart o).servedAs o).expandTile x (o.consumer 2) = (u, .ok slot) →
      u.touchesFencedGrain (BitVec.ofNat 56 ((x.expAddr slot).toNat + o.req.addr.toNat % 4096)) o.req.len = false →
      let w := (u.writeTile x.region o.req.addr o.req.data o.badGrains (o.consumer 2)).1
      Answers (.writeExpandDone id {}) s fun t => t.openAt id = none ∧ t.dram = w.dram ∧ t.stores = w.stores)

/-! ## The link layer (chapter 9) -/

/-- What arrives on an ACTIVE port: a bad flit makes the receiver send a NAK, once; a REPLAY that starts no more than 512
flits back ends that state and names the duplicates to discard, and any other starts a retrain; a code word that decodes is
counted, and one that does not is a bad flit (R231).

A port in INIT sends an INIT flit every 100 ns and is ACTIVE, with the peer's buffers as its credits and its counters
0, once an INIT arrives that has seen its own. A retrain of a port that is UP keeps its replay buffer (R230, R232).

On an ACTIVE port the timers send what is due: the acknowledgement, the credits owed, the NAK again while the receiver
waits for a replay, and a replay of every unacknowledged flit when none has been acknowledged for REPLAY_NS (R227, R231). -/
def Obligations.LinkReceivesInitialisesAndSends : Prop :=
  (
    ∀ (p : Fin 18) (s : State), s.canonical → s.linkState p = lkActive →
      ((s.port p).rx = .normal → Answers (.badFlit p) s fun t => (t.port p).rx = .nakSent ∧
        t.f (F.JX_PORT_TALLY_COUNT p 2) = (s.f (F.JX_PORT_TALLY_COUNT p 2) + 1) % 2 ^ 64 ∧
        ∃ f : Flit, f.nak = true ∧ f.lvalid = true ∧ f.lseq = s.f (F.JX_PORT_STS_RX_EXPECT p) ∧
          t.out = s.out ++ [.flit p f (s.onLanes p f.word)]) ∧
      ((s.port p).rx = .nakSent → Answers (.badFlit p) s fun t => t.ports = s.ports ∧ t.out = s.out) ∧
      (∀ (start : Fin 1024) (header : W64), let k := (s.f (F.JX_PORT_STS_RX_EXPECT p) + 1024 - start.val) % 1024
        (k ≤ 512 → Answers (.replayRx p start header) s fun t => (t.port p).rx = .normal ∧ (t.port p).dup = k ∧ t.regs = s.regs) ∧
        (512 < k → s.f (F.OPT_STS_STATE p) = 7 → Answers (.replayRx p start header) s fun t =>
          t.linkState p = lkRetrain ∧ (t.port p).kept = true ∧ t.f (F.OPT_STS_STATE p) = 3)) ∧
      (∀ lanes : List (List (Fin 4)), s.portFenced p = false → s.imageSettled →
        (flitDecode (s.wordRx p lanes) = none → Answers (.flitRx p lanes) s fun t =>
          t.regs = (s.badFlit p).regs ∧ t.ports = (s.badFlit p).ports) ∧
        (∀ (b : Bytes) (n : Nat), flitDecode (s.wordRx p lanes) = some (b, n) → (flitOf b).ftype = 0 → (flitOf b).attr = 0 →
          (flitOf b).nak = false → (flitOf b).lvalid = false → (s.port p).queue = [] → Answers (.flitRx p lanes) s fun t =>
            t.f (F.JX_PORT_TALLY_COUNT p 1) = (s.f (F.JX_PORT_TALLY_COUNT p 1) + 1) % 2 ^ 64 ∧
            (t.port p).crSeen = (s.port p).crSeen.set (flitOf b).crVc ((flitOf b).crCount % 64)))) ∧
  (
    ∀ (p : Fin 18) (s : State), s.canonical →
      (∀ req rsp ntc ctl : W16, s.linkState p = lkInit →
        Answers (.linkInit p false req rsp ntc ctl) s (fun t => (t.port p).initSeen = true ∧ t.linkState p = lkInit) ∧
        ((s.port p).kept = false → (s.port p).queue = [] → s.f F.AO_BOOT_STATE ≠ 1 → req.toNat ≤ 256 → rsp.toNat ≤ 256 → ntc.toNat ≤ 64 → ctl.toNat ≤ 32 →
          Answers (.linkInit p true req rsp ntc ctl) s fun t => t.linkState p = lkActive ∧ t.f (F.JX_PORT_STS_TX_NEXT p) = 0 ∧
            t.f (F.JX_PORT_STS_TX_ACKED p) = 0 ∧ t.f (F.JX_PORT_STS_RX_EXPECT p) = 0 ∧ t.f (F.JX_PORT_CREDIT_REQ p) = req.toNat ∧
            t.f (F.JX_PORT_CREDIT_RSP p) = rsp.toNat ∧ t.f (F.JX_PORT_CREDIT_NTC p) = ntc.toNat ∧
            t.f (F.JX_PORT_CREDIT_CTL p) = ctl.toNat ∧ (t.port p).replay = [])) ∧
      (s.linkState p = lkInit → (s.port p).initSentAt + 100 ≤ s.count → Answers (.initTimer p) s fun t =>
        (t.port p).initSentAt = s.count ∧ ∃ f : Flit, f.ftype = 1 ∧ t.out = s.out ++ [.flit p f (s.onLanes p f.word)]) ∧
      (s.linkState p = lkActive → s.f (F.OPT_STS_STATE p) = 7 → Answers (.retrain p) s fun t =>
        t.linkState p = lkRetrain ∧ (t.port p).kept = true ∧ (t.port p).replay = (s.port p).replay ∧
          t.f (F.OPT_STS_STATE p) = 3 ∧ t.f (F.OPT_TRAINS_COUNT p) = (s.f (F.OPT_TRAINS_COUNT p) + 1) % 2 ^ 64 ∧
          t.f (F.JX_PORT_CFG_RETRAIN p) = 1)) ∧
  (
    ∀ (p : Fin 18) (s : State), s.canonical → s.linkState p = lkActive →
      Answers (.ackTimer p) s (fun t => (t.port p).lastAck = s.count ∧ t.regs = s.regs ∧
        ∃ f : Flit, f.lvalid = true ∧ f.lseq = s.f (F.JX_PORT_STS_RX_EXPECT p) ∧ t.out = s.out ++ [.flit p f (s.onLanes p f.word)]) ∧
      Answers (.creditTimer p) s (fun t => t.regs = s.regs ∧ ∀ vc < 4, (s.port p).announced.length = 4 → s.owed p vc ≤ 315 →
        (t.port p).announced.getD vc 0 = (s.port p).announced.getD vc 0 + s.owed p vc) ∧
      ((s.port p).rx = .nakSent → (s.port p).nakAt + s.f (F.JX_PORT_CFG_REPLAY_NS p) ≤ s.count → (s.port p).replay = [] →
        Answers (.replayTimer p) s fun t => (t.port p).nakAt = s.count ∧ ∃ f : Flit, f.nak = true ∧ t.out = s.out ++ [.flit p f (s.onLanes p f.word)]) ∧
      ((s.port p).rx = .normal → (s.port p).replay ≠ [] → (s.port p).progressAt + s.f (F.JX_PORT_CFG_REPLAY_NS p) ≤ s.count →
        (s.port p).ackedAtReplay ≠ s.f (F.JX_PORT_STS_TX_ACKED p) →
        Answers (.replayTimer p) s fun t => (t.port p).progressAt = s.count ∧ (t.port p).replay = (s.port p).replay ∧
          t.f (F.JX_PORT_TALLY_COUNT p 3) = (s.f (F.JX_PORT_TALLY_COUNT p 3) + 1) % 2 ^ 64 ∧
          t.out.length = s.out.length + 1 + (s.port p).replay.length))

/-- The device's own read: a DEFER keeps it with its token, a COMPLETION with that token ends it, a missing first response
has it issued once more and then fails it, and a COMPLETION that does not come in time fails it (R236, R243). -/
def Obligations.OwnRequestEndsOrIsReissued : Prop :=
  ∀ (p : Fin 18) (txn : W16) (o : OwnReq) (s : State), s.canonical → s.imageSettled → s.ownOf txn = some o →
    (∀ (token mask : W32) (data : Bytes), o.token = none →
      Answers (.responseRx p o.dst txn (Fin.ofNat 16 stDefer) token mask data) s fun t =>
        ∃ x ∈ t.own, x.txn = txn ∧ x.token = some token ∧ x.deferAt = s.count ∧ x.addr = o.addr ∧ x.purpose = o.purpose) ∧
    (∀ (src : Node) (status : Fin 16) (token mask : W32) (data : Bytes), src ≠ o.dst →
      Answers (.responseRx p src txn status token mask data) s fun t => t.own = s.own ∧
        t.f (F.JX_PORT_TALLY_COUNT p 6) = (s.f (F.JX_PORT_TALLY_COUNT p 6) + 1) % 2 ^ 64) ∧
    (∀ (status : Fin 16) (token mask : W32) (data : Bytes) (i : Nat), o.token = some token → o.purpose = .mirrorRead i →
      Answers (.completionRx p o.dst txn token status mask data) s fun t => t.ownOf txn = none ∧ t.openAt i = none) ∧
    (o.token = none → o.sentAt + s.f F.JX_REQ_TIMEOUT_NS ≤ s.count →
      (o.again = false → Answers (.ownReqTimeout txn) s fun t =>
        ∃ x ∈ t.own, x.again = true ∧ x.sentAt = s.count ∧ x.addr = o.addr ∧ x.purpose = o.purpose ∧ x.token = none) ∧
      (∀ i, o.again = true → o.purpose = .mirrorRead i → Answers (.ownReqTimeout txn) s fun t => t.ownOf txn = none ∧ t.openAt i = none)) ∧
    (∀ (token : W32) (i : Nat), o.token = some token → o.purpose = .mirrorRead i →
      o.deferAt + 1000000 * s.f F.JX_REQ_TIMEOUT_DEFER_MS ≤ s.count →
      Answers (.ownDeferTimeout txn) s fun t => t.ownOf txn = none ∧ t.openAt i = none)

/-- A SYNC request is answered with its own T1 and number and both stamps. A follower asks its master every INTERVAL_US. A
sample within 64 ns of the least delay moves the counter forward at once when it is more than 1,000 ns behind, and
otherwise leaves a correction that the counter makes 1 ns at a time, every 256 ns (R244, R245). -/
def Obligations.FollowerFollowsItsMaster : Prop :=
  ∀ s : State, s.canonical →
    (∀ (src : Node) (t1 t2 t3 seq : W64) (p : Nat), s.route (s.syncMsg src 2 t1.toNat t2.toNat t3.toNat seq.toNat) = some p →
      Answers (.syncRequest src t1 t2 t3 seq) s fun t => t.sends p (s.syncMsg src 2 t1.toNat t2.toNat t3.toNat seq.toNat)) ∧
    (s.f F.JX_SYNC_CFG_ROLE = 1 → s.sync.sentAt + 1000 * s.f F.JX_SYNC_CFG_INTERVAL_US ≤ s.count →
      Answers .syncInterval s fun t => t.sync.sentAt = s.count ∧ t.sync.seq = s.sync.seq + 1 ∧
        (s.sync.acceptedAt + 4000 * s.f F.JX_SYNC_CFG_INTERVAL_US ≤ s.count → t.f F.JX_SYNC_STS_LOCKED = 0)) ∧
    (∀ (p : Fin 18) (t1 t2 t3 t4 seq : W64), s.f F.JX_SYNC_CFG_ROLE = 1 → seq.toNat = s.sync.seq →
      let theta : Int := (((t2.toNat : Int) - t1.toNat) + ((t3.toNat : Int) - t4.toNat)) / 2
      let d : Int := (((t4.toNat : Int) - t1.toNat) - ((t3.toNat : Int) - t2.toNat)) / 2
      (∀ x ∈ s.sync.delays, d ≤ x + 1024) → Answers (.syncReply p t1 t2 t3 t4 seq) s fun t =>
        (16000 < theta → t.count = s.count + (theta / 16).toNat ∧ t.sync.slew = 0) ∧
        (theta ≤ 16000 → t.count = s.count ∧ t.sync.slew = theta) ∧
        t.f F.JX_SYNC_STS_OFFSET = (BitVec.ofInt 32 theta).toNat ∧
        (256 < theta.natAbs → t.f F.JX_SYNC_STS_LOCKED = 0) ∧
        (theta.natAbs ≤ 64 → 2 ≤ s.sync.good → t.f F.JX_SYNC_STS_LOCKED = 1)) ∧
    (s.sync.slewAt + 256 ≤ s.count → Answers .syncSlew s fun t =>
      (16 ≤ s.sync.slew → t.count = s.count + 1 ∧ t.sync.slew = s.sync.slew - 16) ∧
      (s.sync.slew ≤ -16 → t.count = s.count ∧ t.sync.withhold = true ∧ t.sync.slew = s.sync.slew + 16))

/-! ## Optical ports and DRAM controllers (chapters 10 and 11) -/

/-- A training attempt goes from step to step: LASER ends with every channel powered, SIGNAL with four or more lanes locked,
EQUALISE with four or more lanes locked again and the channels that the width had turned off in range, MAP with every locked lane
mapped to a peer of the same kind, VERIFY, when a lane passes, with RX_GOOD, and WIDTH, when both sides took eight lanes, with the port UP in INIT. A good training block sets what its lane hears (R254
to R256).

A step past its limit, or an attempt past its time, fails: the port is DOWN with its lasers off, FAIL_STEP names the
step, and after RETRY_MS a new attempt begins (R255, R257).

A poll that is due shows the received power and, of a module that is present and driven, the monitors; a module that goes turns its channels off; RESET pulses the module and retrains an UP
port; ENABLE 0 holds the port OFF with its channels off, and ENABLE 1 starts an attempt of a port that is OFF (R252, R253,
R262). -/
def Obligations.OpticalPortsTrainAndFail : Prop :=
  (
    ∀ (e : Fin 18) (s : State), s.canonical →
      (∀ (lane : Fin 8) (b : Bytes), 2 ≤ s.trainStep e → trainGood b = true → (s.optic e).heard.length = 8 →
        Answers (.trainingBlockRx e lane b) s fun t => (t.optic e).heard.getD lane 8 = fieldLe b 9 1 % 8 ∧
          (t.optic e).peerPhase = fieldLe b 8 1 ∧ (t.optic e).peerWidth = fieldLe b 13 1 ∧
          t.f (F.OPT_STS_PEER_RX_GOOD e) = fieldLe b 10 1) ∧
      (s.trainStep e = 1 → s.powered e = true → Answers (.trainLaser e) s fun t => t.trainStep e = 2 ∧ (t.optic e).stepAt = s.count) ∧
      (∀ locked : Byte, s.trainStep e = 2 → 4 ≤ (maskBits locked.toNat).length →
        Answers (.trainSignal e locked) s fun t => t.trainStep e = 3 ∧ (t.optic e).locked = locked.toNat) ∧
      (s.trainStep e = 3 → 4 ≤ (maskBits (s.optic e).locked).length → s.f (F.OPT_LASER_PRESENT e) = 1 →
        s.f (F.OPT_LASER_ALARM e) &&& (s.optic e).back = 0 → Answers (.trainEqualise e) s fun t => t.trainStep e = 4) ∧
      (s.trainStep e = 4 → (∀ l ∈ maskBits (s.optic e).locked, (s.optic e).heard.getD l 8 < 8) →
        (s.optic e).peerMirror = decide (16 ≤ e.val) → Answers (.trainMap e) s fun t => t.trainStep e = 5) ∧
      (∀ failed : List Nat, s.trainStep e = 5 →
        (∃ l ∈ maskBits (s.optic e).locked, failed.getD l 5 ≤ 4 ∧ (s.optic e).heard.getD l 8 < 8) → Answers (.trainVerify e failed) s fun t => t.trainStep e = 6 ∧
        ∀ k < 8, (t.f (F.OPT_STS_RX_GOOD e)).testBit k = true ↔
          ∃ l ∈ maskBits (s.optic e).locked, failed.getD l 5 ≤ 4 ∧ (s.optic e).heard.getD l 8 = k) ∧
      (s.trainStep e = 6 → (s.optic e).peerPhase = 5 → (s.optic e).peerWidth = 8 → s.ownWidth e = some 8 →
        Answers (.trainWidth e) s fun t => t.f (F.OPT_STS_STATE e) = 7 ∧ t.linkState e = lkInit ∧ t.f (F.OPT_STS_WIDTH8 e) = 1 ∧
          t.f (F.OPT_STS_TRAIN_FAILS e) = 0 ∧ t.f (F.OPT_LANEMAP_MAP e) = laneMap 8 (s.f (F.OPT_STS_RX_GOOD e)) (s.optic e).heard)) ∧
  (
    ∀ (e : Fin 18) (s : State), s.canonical →
      let failed (t : State) : Prop := t.f (F.OPT_STS_STATE e) = 8 ∧ t.f (F.OPT_STS_FAIL_STEP e) = s.trainStep e ∧
        t.linkState e = lkDown ∧ t.f (F.OPT_LASER_CH_ON e) = 0 ∧ (t.optic e).waitAt = s.count ∧
        t.f (F.OPT_STS_TRAIN_FAILS e) = min 255 (s.f (F.OPT_STS_TRAIN_FAILS e) + 1)
      (s.trainStep e ≠ 0 → (s.optic e).stepAt + stepLimit (s.trainStep e) < s.count → Answers (.trainStepLimit e) s failed) ∧
      (s.trainStep e ≠ 0 → (s.optic e).attemptAt + 1000000 * s.f (F.OPT_CFG_TRAIN_TIMEOUT_MS e) < s.count →
        Answers (.trainAttemptTimeout e) s failed) ∧
      (s.f (F.OPT_STS_STATE e) = 8 → (s.optic e).waitAt + 1000000 * s.f (F.OPT_CFG_RETRY_MS e) ≤ s.count → s.mayTrain e = true →
        Answers (.trainRetry e) s fun t => t.trainStep e = 1 ∧ t.linkState e = lkTraining ∧ (t.optic e).attemptAt = s.count ∧
          t.f (F.OPT_TRAINS_COUNT e) = (s.f (F.OPT_TRAINS_COUNT e) + 1) % 2 ^ 64)) ∧
  (
    ∀ (e : Fin 18) (s : State), s.canonical →
      (∀ (temp : W16) (alarm : Byte) (power : W64), (s.optic e).pollAt ≤ s.count →
        (s.f (F.OPT_LASER_PRESENT e) = 1 → s.drives (.laser e) = true → Answers (.laserPoll e temp alarm power) s fun t =>
          t.f (F.OPT_LASER_TEMP e) = temp.toNat ∧ t.f (F.OPT_LASER_ALARM e) = alarm.toNat ∧ t.f (F.OPT_RXPWR_POWER e) = power.toNat ∧
          .laserPoll (laserBus e) e ∈ t.out) ∧
        (s.f (F.OPT_LASER_PRESENT e) = 0 ∨ s.drives (.laser e) = false → Answers (.laserPoll e temp alarm power) s fun t =>
          t.f (F.OPT_RXPWR_POWER e) = power.toNat ∧ t.out = s.out ∧ ∀ o, o ≠ R.OPT_RXPWR e → t.reg o = s.reg o)) ∧
      (s.f (F.OPT_LASER_PRESENT e) = 1 → Answers (.laserPresentChange e false) s fun t =>
        t.f (F.OPT_LASER_PRESENT e) = 0 ∧ t.f (F.OPT_LASER_CH_ON e) = 0) ∧
      (s.f (F.OPT_STS_STATE e) = 7 → s.drives (.laser e) = true → Answers (.laserReset e) s fun t =>
        .laser e 256 ∈ t.out ∧ t.linkState e = lkRetrain ∧ t.trainStep e = 3 ∧ t.f (F.OPT_LASER_RESET e) = 1) ∧
      Answers (.optLaserEnable e false) s (fun t => t.f (F.OPT_LASER_ENABLE e) = 0 ∧ t.f (F.OPT_STS_STATE e) = 0 ∧
        t.f (F.OPT_LASER_CH_ON e) = 0 ∧ t.linkState e = lkDown) ∧
      (s.f (F.OPT_STS_STATE e) = 0 → s.portHeldOff e = false → s.f (F.JX_PORT_CFG_ENABLE e) = 1 → s.portFenced e = false →
        Answers (.optLaserEnable e true) s fun t => t.f (F.OPT_LASER_ENABLE e) = 1 ∧ t.trainStep e = 1))

/-- A refresh that is due goes to the bank's next row, and the one to the last row empties the bank's activate table. An activate
is counted. At the row-hammer threshold the neighbours of the row
are refreshed and its count starts again. Refresh management is counted (R275 to R278).

A readout sets a unit's temperature, level and refresh range. An update that is due is counted. A channel whose update fails twice,
that fails its training, or whose density does not match, is fenced (R273, R274, R284, R285). -/
def Obligations.DramUnitsAreRefreshedAndWatched : Prop :=
  (
    ∀ (u : Fin 608) (bank : Fin 256) (s : State), s.canonical →
      (∀ rows : Fin 262145,
        let b := Sparse.get noRefresh s.dramCtl.refresh (256 * u.val + bank.val)
        (s.dramCtl.selfRefresh = false → b.due ≤ s.count → Answers (.refreshTick u bank rows) s fun t =>
          t.out = s.out ++ [.refresh u bank b.row] ∧ t.regs = s.regs ∧
          t.acts u bank = (if rows.val ≤ b.row + 1 then [] else s.acts u bank) ∧
          Sparse.get noRefresh t.dramCtl.refresh (256 * u.val + bank.val) =
            ⟨if rows.val ≤ b.row + 1 then 0 else b.row + 1, s.count + s.refreshWindow u / rows.val⟩) ∧
        (s.dramCtl.selfRefresh = true ∨ s.count < b.due → exec (.refreshTick u bank rows) s = .next s)) ∧
      (∀ (rows : Fin 262145) (row : Fin 262144), s.f (if u.val < 512 then F.CAN_DCFG_RH_EN else F.UND_DCFG_RH_EN) = 0 →
        Answers (.rowHammerTrigger u bank rows [row]) s fun t => t.acts u bank = actStep (s.acts u bank) row ∧ t.out = s.out ∧ t.regs = s.regs) ∧
      (∀ (rows : Fin 262145) (x : ActEntry), s.f (if u.val < 512 then F.CAN_DCFG_RH_EN else F.UND_DCFG_RH_EN) = 1 →
        s.acts u bank = [x] → s.f (if u.val < 512 then F.CAN_DCFG_RH_THRESHOLD else F.UND_DCFG_RH_THRESHOLD) ≤ x.count →
        Answers (.rowHammerTrigger u bank rows []) s fun t => t.acts u bank = [{ x with count := 0 }] ∧
          t.out = s.out ++ (s.neighbours (if u.val < 512 then 0 else 1) rows x.row).map (fun n => .refresh u bank n) ∧
          t.f ((dunitOf u).tally 2) = (s.f ((dunitOf u).tally 2) + 1) % 2 ^ 64) ∧
      Answers (.rfmCommand u bank) s (fun t => t.f ((dunitOf u).tally 3) = (s.f ((dunitOf u).tally 3) + 1) % 2 ^ 64)) ∧
  (
    ∀ s : State, s.canonical →
      (∀ (k : Fin 104) (t : Int) (rate : Fin 17), s.dramTrips (dunitAt k) t = false →
        Answers (.thermalLevelChange k t rate) s fun u => u.f (dunitAt k).temp = (t % 2 ^ 16).toNat ∧
          u.f (dunitAt k).level =
            thermalLevel (s.f (dunitAt k).level) t (s.f (dunitAt k).highC) (s.f (dunitAt k).t2C) (s.f (dunitAt k).t3C) ∧
          (1 ≤ u.f (dunitAt k).level → u.f (dunitAt k).refHigh = 1) ∧ (8 ≤ k.val → 1 < rate.val → u.f (dunitAt k).refHigh = 1) ∧ u.f (dunitAt k).state = s.f (dunitAt k).state) ∧
      (∀ k : Fin 104, s.f (dunitAt k).state ≠ 6 → s.clusterFenced (dunitAt k).cluster = false → s.updateDue (dunitAt k) = true →
        Answers (.periodicUpdate k true false) s fun u =>
          u.f ((dunitAt k).tally 4) = (s.f ((dunitAt k).tally 4) + 1) % 2 ^ 64 ∧ u.fences = s.fences) ∧
      (∀ n : Fin 96, s.f (F.UND_STS_STATE n) ≠ 6 → s.clusterFenced (clusterOfChannel n) = false →
        (∀ k : Fin 104, k.val = 8 + n.val → s.updateDue (dunitAt k) = true → Answers (.periodicUpdate k false false) s fun u => u.f (F.UND_STS_STATE n) = 6) ∧
        (∀ (cause : Fin 4) (density : Fin 256), (cause = 2 → s.errorBurst n = true) →
          (cause = 3 → density.val ≠ s.f F.UND_POP_GIB) → Answers (.dramChannelFenced n cause density) s fun u =>
            u.f (F.UND_STS_STATE n) = 6 ∧ u.fences = s.fences) ∧
        (∀ density : Fin 256, density.val = s.f F.UND_POP_GIB → exec (.dramChannelFenced n 3 density) s = .next s)))

/-! ## The vault and the mint (chapters 5 and 12) -/

/-- A vault read that comes next for its pages ends, open no longer. A one-block write that comes next puts its bytes in its
block; it ends at once when its page's map entry is programmed and waits for the map flush otherwise, and is DENIED, with
nothing written, where no place is left. The flush programs the map entries of a cluster's pages and ends the writes that
waited there (R294 to R296, R301).

Patrol leaves a page alone whose blocks all read cleanly, records a block that is uncorrectable, and moves a segment in which
a block needed retry. Garbage collection moves the live segments of its victim and erases it, and does nothing where they cannot
all move. Levelling moves the segments of the block erased least once the
counts of a target lie more than 500 apart. A program failure retires its block (R297, R298). -/
def Obligations.VaultServesAndKeepsItsBlocks : Prop :=
  (
    ∀ s : State, s.canonical → s.epoch.old = [] →
      (∀ (id : Nat) (env : VaultEnv) (o : OpenReq), s.openAt id = some o → s.vaultReq id .rd = some o →
        let r := (s.servedAs o).readVaultReq o env
        r.2.2 = [] → Answers (.vaultReadDone id env) s fun t => t.openAt id = none ∧ t.vault = r.1.vault) ∧
      (∀ (id : Nat) (env : VaultEnv) (o : OpenReq), s.openAt id = some o → s.vaultReq id .wr = some o → o.req.len = 4096 →
        o.req.data.length = 4096 →
        let b := offsetOf o.req.addr / 4096
        (∀ (u : State) (wait : Bool), (s.servedAs o).writeVault b o.req.data [] env.places = some (u, wait) →
          Answers (.vaultWriteDone id env) s fun t => t.vaultBytes b = o.req.data ∧ t.vaultMask b = [] ∧
            (wait = true → t.opens = s.opens ∧ id ∈ t.vault.mapWait) ∧ (wait = false → t.openAt id = none)) ∧
        ((s.servedAs o).writeVault b o.req.data [] env.places = none →
          Answers (.vaultWriteDone id env) s fun t => t.openAt id = none ∧ t.vault = s.vault)) ∧
      (∀ c : Fin 8, Answers (.vaultMapFlush c) s fun t =>
        (∀ p g, ownerOf p = c.val → t.vseg p = some g → g.mapped = true) ∧
        (∀ o ∈ s.opens, o.id ∈ s.vault.mapWait → ownerOf (pageOf o.req.addr) = c.val → t.openAt o.id = none) ∧ t.vault.mem = s.vault.mem)) ∧
  (
    ∀ s : State, s.canonical →
      (∀ (p : Fin 2147483648) (env : VaultEnv),
        (s.segFenced p = false → env.mapBad = [] → env.corrected = [] → (∀ i < 512, s.vaultCrcOk (512 * p.val + i) = true) →
          (env.levels = [] → Answers (.vaultPatrol p env) s fun t => t = s) ∧
          (∀ (i : Fin 512) (g : VSeg), s.vseg p = some g → s.vaultFenced (ownerOf p) = false →
            (env.levels = [(512 * p.val + i.val, 8)] → Answers (.vaultPatrol p env) s fun t =>
              t.f (F.VLT_CH_TALLY_COUNT g.place.ch 2) = (s.f (F.VLT_CH_TALLY_COUNT g.place.ch 2) + 1) % 2 ^ 64 ∧ t.vault = s.vault) ∧
            (∀ (n : Nat) (x : VPlace), 1 ≤ n → n < 8 → env.levels = [(512 * p.val + i.val, n)] → env.places = [x] → x ≠ g.place →
              s.placeOk (ownerOf p) x = true → Answers (.vaultPatrol p env) s fun t =>
                t.f (F.VLT_CH_TALLY_COUNT g.place.ch 1) = (s.f (F.VLT_CH_TALLY_COUNT g.place.ch 1) + 1) % 2 ^ 64 ∧
                  t.vseg p = some ⟨x, g.fill, g.open_, false⟩ ∧ t.vault.mem = s.vault.mem)))) ∧
      (∀ (c : Fin 8) (x : VPlace) (places : List VPlace), s.gcVictim c = some x →
        let u := s.moveSegs x (placesBut x places)
        (u.segsIn x = [] → Answers (.garbageCollection c places) s fun t =>
          t.vblock x = { erases := (u.vblock x).erases + 1, taken := 0, retired := false } ∧ t.vault.segs = u.vault.segs) ∧
        (u.segsIn x ≠ [] → exec (.garbageCollection c places) s = .next s)) ∧
      (∀ (ch : Fin 32) (ce : Fin 8) (places : List VPlace) (g : VTarget), s.vault.targets.find? (fun t => t.ch == ch && t.ce == ce) = some g →
        ((∀ e ∈ s.blocksOf ch ce, e.2.retired = false → e.2.erases ≤ (s.lowestBlock g).1 + 500) →
          exec (.staticLevelling ch ce places) s = .next s) ∧
        (∀ (lo : Nat) (x : VPlace), s.lowestBlock g = (lo, some x) →
          (∃ e ∈ s.blocksOf ch ce, e.2.retired = false ∧ lo + 500 < e.2.erases) →
          exec (.staticLevelling ch ce places) s = .next (s.moveSegs x (placesBut x places)))) ∧
      (∀ (x : VPlace) (places : List VPlace), (s.vblock x).retired = false → Answers (.vaultProgram x places) s fun t =>
        (t.vblock x).retired = true ∧ t.f (F.VLT_CH_TALLY_COUNT x.ch 3) = (s.f (F.VLT_CH_TALLY_COUNT x.ch 3) + 1) % 2 ^ 64))

/-- The checkpoint commands on an entry: ARM makes it ARMED and tracks writes from here on, MARK makes it VALID with the
pages that were copied and not written since, with no write to them still open, and notes the count, CLEAR makes it IDLE; each ends with RESULT 0. Ranges that
are not valid end each with RESULT 1 and change nothing else (R299). -/
def Obligations.CheckpointCommandsChangeTheirEntry : Prop :=
  ∀ (i : Fin 64) (s : State), s.canonical →
    (s.ckptRangesOk i = true →
      (s.ckptCovered i + s.f (F.VLT_CKPT_SRC_PAGES i) ≤ 2 ^ 21 → Answers (.ckptArm i) s fun t => t.f (F.VLT_CKPT_STS_STATE i) = 1 ∧
        t.ckpt i = { armedId := s.nextId } ∧ t.f F.VLT_CKPT_CMD_RESULT = 0 ∧ t.f F.VLT_CKPT_CMD_GO = 0) ∧
      (s.f (F.VLT_CKPT_STS_STATE i) = 1 → Answers (.ckptMark i) s fun t => t.f (F.VLT_CKPT_STS_STATE i) = 2 ∧
        t.f (F.VLT_CKPT_MARK_COUNT i) = s.count % 2 ^ 64 ∧ t.f F.VLT_CKPT_CMD_RESULT = 0 ∧
        ∀ k, k ∈ (t.ckpt i).valid ↔ k < s.f (F.VLT_CKPT_SRC_PAGES i) ∧ k ∉ (s.ckpt i).written ∧
          Sparse.get noCover (s.ckpt i).covered k = 2 ^ 512 - 1 ∧ s.vaultWriteOpen (s.f (F.VLT_CKPT_DST_BASE i) + k) = false) ∧
      (s.f (F.VLT_CKPT_STS_STATE i) ≠ 1 → Answers (.ckptMark i) s fun t => t.f F.VLT_CKPT_CMD_RESULT = 2 ∧ t.vault = s.vault) ∧
      Answers (.ckptClear i) s (fun t => t.f (F.VLT_CKPT_STS_STATE i) = 0 ∧ t.ckpt i = {} ∧ t.f F.VLT_CKPT_CMD_RESULT = 0)) ∧
    (s.ckptRangesOk i = false → ∀ c ∈ ([.ckptArm i, .ckptMark i, .ckptClear i] : List Instr), Answers c s fun t =>
      t.f F.VLT_CKPT_CMD_RESULT = 1 ∧ t.vault = s.vault ∧ t.f (F.VLT_CKPT_STS_STATE i) = s.f (F.VLT_CKPT_STS_STATE i))

/-- The mint reads the entry at the head of its ring: a valid descriptor waits to start, and an invalid one ends with
JOB_DESC, the head moved past it. RELEASE makes its tiles EMPTY; a job that uses a slot reserves it and begins pass 1
(R125 to R128).

What jobs do to one tile, and how they end: ENCODE replaces the tile's entry with its stored form, DECODE writes the
tile's plain bytes, the end of pass 1 of a BUILD installs its slot, and a job's end writes its status, frees its slot and
advances DONE_EVENT (R123, R126, R129, R130). -/
def Obligations.MintJobsStartWorkAndEnd : Prop :=
  (
    ∀ s : State, s.canonical →
      (let a := s.jobEntry (s.f F.MNT_JQ_HEAD_INDEX)
        let r := s.readAny a 64 ⟨6, 0, 8, 0⟩ {} none
        let u : State := { r.1 with nextId := r.1.nextId + 1 }
        s.f F.MNT_JQ_CFG_ENABLE = 1 → s.f F.MNT_JQ_HEAD_INDEX ≠ s.f F.MNT_JQ_TAIL_INDEX → (∀ j ∈ s.mint.jobs, j.started = true) →
        s.plainRange a 64 = true → r.2.ready = true →
        (r.2.poison = [] → u.mjValid r.2.data = true → Answers .mintJobFetch s fun t =>
          t.f F.MNT_JQ_HEAD_INDEX = s.f F.MNT_JQ_HEAD_INDEX ∧
            ∃ j ∈ t.mint.jobs, j.id = s.nextId ∧ j.desc = r.2.data ∧ j.entry = a ∧ j.started = false ∧ j.ended = none) ∧
        (u.mjValid r.2.data = false → Answers .mintJobFetch s fun t =>
          t.f F.MNT_JQ_HEAD_INDEX = (s.f F.MNT_JQ_HEAD_INDEX + 1) % 2 ^ 16 ∧ t.f F.MNT_STATUS_LAST_ERR = 0x0510)) ∧
      (∀ (j : MintJob) (r : Region), s.mint.jobs.find? (fun x => !x.started) = some j → s.f F.MNT_JQ_CFG_ENABLE = 1 →
        s.mintHeld j = false → s.packedRegion (mjRegion j.desc) = some r →
        let b := { j with started := true }
        let u := (s.setJob b).jobHeadNext.setF F.MNT_STATUS_ACTIVE_JOBS (s.setJob b).jobHeadNext.runningJobs.length
        (mjOp j.desc = 5 → Answers .mintRelease s fun t =>
          t = ((u.setJob { b with todo := mjTiles j.desc }).forEach (mjTiles j.desc) (fun s l =>
              s.replaceDir (tileOfIndex r l) (s.peekDir (tileOfIndex r l)) DirEntry.empty (mjTag j.desc))).setJob
            { b with todo := [], tilesDone := j.tilesDone + (mjTiles j.desc).length, ended := some (1, 0) }) ∧
        (∀ i, mjCodec j.desc = 2 → i < 64 → u.jobSlot j.desc = some i →
          let begun (t : State) : Prop :=
            t.f (F.MNT_SLOT_INFO_RSV i) = 1 ∧ t.f F.MNT_JQ_HEAD_INDEX = (s.f F.MNT_JQ_HEAD_INDEX + 1) % 2 ^ 16 ∧
              ∃ x ∈ t.mint.jobs, x.id = j.id ∧ x.started = true ∧ x.inPass1 = true ∧ x.slot = some i ∧ x.todo = mjTiles j.desc ∧
                x.counts = noCounts (planesOf (mjWidth j.desc))
          (mjOp j.desc = 1 → Answers .mintCompress s begun) ∧ (mjOp j.desc = 3 → Answers .mintBuild s begun)))) ∧
  (
    ∀ s : State, s.canonical →
      (∀ (u v w : State) (j k : MintJob) (r : Region) (l : Nat) (bs base : Bytes), s.mintStart 2 = (u, some (j, r)) → j.todo = [l] →
        j.skipped = [] → ∀ j' : MintJob, u.jobSource { j with reading := false } r l = (v, j', .plain bs base) →
        v.packTile j' r l bs base = (w, k, true) → Answers .mintEncode s fun t => t = w.setJob { k with todo := [], ended := some (1, 0) } ∧ k.tilesDone = j.tilesDone + 1) ∧
      (∀ (u v w : State) (j : MintJob) (r : Region) (l : Nat) (bs : Bytes) (f : Option PA) (why : BadBy),
        s.mintStart 4 = (u, some (j, r)) → j.todo = [l] → j.skipped = [] →
        u.decodeTile (tileOfIndex r l) ⟨6, (tileOfIndex r l).cluster, 8, mjTag j.desc⟩ none = (v, .plain bs [] f why) →
        v.writeAny (BitVec.ofNat 56 ((mjAddr j.desc).toNat + 4096 * (l - mjFirst j.desc))) bs [] (mjTag j.desc) [] = some w →
        Answers .mintDecode s fun t => t = w.setJob { j with todo := [], ended := some (1, 0) }) ∧
      (∀ (id : Nat) (j k : MintJob) (r : Region) (u : State),
        s.mint.jobs.find? (fun x => x.id == id && x.started && x.ended.isNone) = some j → j.inPass1 = true →
        s.packedRegion (mjRegion j.desc) = some r →
        s.pass1 j r j.todo = (u, k) → k.todo = [] → mjOp k.desc = 3 →
        ((∀ c ∈ k.counts, ∀ n ∈ c, n = 0) → Answers (.mintPass1End id) s fun t =>
          t = u.setJob { k with inPass1 := false, todo := [], ended := some (jobOutcome k) }) ∧
        (∀ i, k.slot = some i → i < 64 → (∃ c ∈ k.counts, ∃ n ∈ c, n ≠ 0) → Answers (.mintPass1End id) s fun t => t.slotSt i = slotActive ∧
          t.f (F.MNT_SLOT_INFO_DAMAGED i) = 0 ∧ t.f (F.MNT_SLOT_INFO_XOR i) = (if mjXor k.desc then 1 else 0))) ∧
      (∀ (id done code : Nat) (j : MintJob), s.mint.jobs.find? (fun x => x.id == id) = some j → j.ended = some (done, code) →
        Answers (.mintJobEnd id) s fun t => (∀ x ∈ t.mint.jobs, x.id ≠ id) ∧ (∀ i, j.slot = some i → i < 64 → t.f (F.MNT_SLOT_INFO_RSV i) = 0) ∧
          t.dram = (s.writeRange (BitVec.ofNat 56 (j.entry.toNat + 0x30)) (jobStatus j done code) (mjTag j.desc)).dram ∧
          (j.trusted = true → mjDone j.desc < 4096 → t.event (mjDone j.desc) = (s.event (mjDone j.desc) + 1) % 2 ^ 32)))

/-! ## The pool (chapter 13) -/

/-- An operation at the door, by WR or CREQ, or from the host driver, is queued with its descriptor; a request at the door
takes a DEFER and stays open for it. The end of an operation removes it, counts it, advances its DONE_EVENT and ends its
request, or shows its status to the host driver (R314, R319).

The effect of a pool operation that starts, its checks passing and its pages held by no earlier access to the vault, or that has
started and waited, and whose reads wait for nothing and meet no poison: FILL writes its pattern, COPY the bytes
of its source, CMP gives the CRC or the first difference, and the REDUCE operations write the reads of the exact sums, the
accumulators with the sources added, or the reads of the accumulators. Each notes status OK (R316, R317). -/
def Obligations.PoolOperationsRun : Prop :=
  (
    ∀ s : State, s.canonical →
      (∀ (byCreq : Bool) (q : Req), s.inService = true → q.addr = poolAddr 8 (R.POOL_DOOR 0) → q.len = 64 → q.data.length = 64 → q.epv = false →
        let k : ReqKind := if byCreq then .creqWrite else .wr
        let u := s.unstage k q
        badForm k q = false → u.offPair k q = false → u.opRevoked q.data q.src = false →
        Answers (.poolDoor byCreq q) s fun t =>
          (∃ x ∈ t.pool.ops, x.id = s.nextId ∧ x.desc = q.data ∧ x.src = q.src ∧ x.started = false) ∧
          ∃ x ∈ t.opens, x.id = s.nextId ∧ x.req = q ∧ x.wait = .poolOp s.nextId) ∧
      (s.f F.POOL_HOST_GO_GO = 0 → (s.setF F.POOL_HOST_GO_GO 1).opRevoked s.hostDesc s.hostNode = false →
        Answers .poolHostGo s fun t => t.f F.POOL_HOST_GO_GO = 1 ∧
          ∃ x ∈ t.pool.ops, x.id = s.nextId ∧ x.desc = s.hostDesc ∧ x.host = true ∧ x.started = false) ∧
      (∀ (id : Nat) (partner : Option Bytes) (o : PoolOp) (r : PoolResult), s.epoch.old = [] →
        s.pool.ops.find? (fun x => x.id == id && !x.copying) = some o → o.result = some r → o.replicated = false → s.opMapped o = true →
        s.mirroring = false → s.pair.out = [] → s.pair.inbox = [] →
        Answers (.poolOpEnd id partner) s fun t => (∀ x ∈ t.pool.ops, x.id ≠ id) ∧ t.openAt id = none ∧
          t.f F.POOL_OPS_DONE_COUNT = (s.f F.POOL_OPS_DONE_COUNT + 1) % 2 ^ 64 ∧
          (opDone o.desc < 4096 → t.event (opDone o.desc) = (s.event (opDone o.desc) + 1) % 2 ^ 32) ∧
          (o.host = true → r.status ≤ 9 → t.f F.POOL_HOST_GO_GO = 0 ∧ t.f F.POOL_HOST_STS_STATUS = r.status))) ∧
  (
    ∀ (id : Nat) (env : VaultEnv) (o : PoolOp) (s : State), s.canonical → s.epoch.old = [] → s.opDescOk o.desc = true →
      let d := o.desc
      let k := opConsumer o
      let done (t u : State) (r : PoolResult) : Prop := t.dram = u.dram ∧ t.stores = u.stores ∧ t.vault = u.vault ∧ t.regs = u.regs ∧
        ∃ x ∈ t.pool.ops, x.id = id ∧ x.desc = d ∧ x.started = true ∧ x.result = some r
      let may (u : State) (l : List (PA × Nat)) : Prop := o.started = false → u.opChecks o l = stOk ∧ l.all vaultAligned = true ∧
        (opWrites d).any (fun w => u.vaultHeld w.1 w.2) = false
      let begun (u : State) (l : List (PA × Nat)) : State × PoolOp :=
        if o.started then (s, o) else ((u.setOp (u.startOp o l)).chargeHost o.src (opCharge d), u.startOp o l)
      let v := begun s []
      (∀ u, s.poolNext id .fill = some o → may s [] →
        v.1.writeAny (opDst d) (gather (opLen d / 8) (fun _ => leBytes 8 (opArg d))) [] (opTag d) env.places = some u →
        Answers (.fill id env) s fun t => done t u (plainResult stOk)) ∧
      (∀ u, s.poolNext id .copy = some o → may s [] →
        let r := if opStored d && v.1.touchesPacked (opSrc d) (opLen d) then v.1.readStoredAny (opSrc d) (opLen d / 4096) k
          else v.1.readAny (opSrc d) (opLen d) k env none
        r.2.ready = true → r.2.first = none →
        r.1.writeAny (opDst d) r.2.data r.2.poison (opTag d) env.places = some u →
        Answers (.copy id env) s fun t => done t u (plainResult stOk)) ∧
      (s.poolNext id .cmp = some o → may s [] →
        let r := v.1.readAny (opSrc d) (opLen d) k env none
        let r2 := r.1.readAny (BitVec.ofNat 56 (opArg d)) (opLen d) k env none
        r.2.ready = true → r.2.poison = [] →
        (opCrc d = true → Answers (.cmp id env) s fun t => done t r.1 { plainResult stOk with value := (crc32c r.2.data).toNat }) ∧
        (opCrc d = false → r2.2.ready = true → r2.2.poison = [] → Answers (.cmp id env) s fun t =>
          done t r2.1 { plainResult stOk with value := (firstDiff 0 r.2.data r2.2.data).getD (2 ^ 64 - 1) })) ∧
      (∀ (m : State) (c : List (PA × Nat)), (o.started = false → listRanges s o = (m, some c)) → may m c →
        let v := begun m c
        let l := v.1.sourceList v.2
        l.2.2.ready = true → l.2.2.poison = [] → l.2.2.first = none →
        (∀ u, s.poolNext id .sum = some o →
          let x := l.1.sumSources v.2 env l.2.1 (List.replicate (opLen d) ({}, false))
          x.2.wait = none → x.2.first = none → (x.1.keepSums (opDst d) (typeSize (opDstType d)) x.2.accs).writeElems v.2 env x.2.accs = some u →
          Answers (.reduceSum id env) s fun t => done t u (plainResult stOk)) ∧
        (∀ u, s.poolNext id .accumulate = some o →
          let a := l.1.readAccs (opDst d) (opLen d) v.2 env
          let x := a.1.sumSources v.2 env l.2.1 (a.2.1.map (fun p => (p.1, p.2 || false)))
          a.2.2.ready = true → a.2.2.first = none → x.2.wait = none → x.2.first = none →
          (x.1.keepSums (opDst d) 48 x.2.accs).writeAny (opDst d) (x.2.accs.flatMap (fun p => p.1.bytes)) (badAccs (opDst d) x.2.accs) (opTag d) env.places = some u →
          Answers (.reduceAccumulate id env) s fun t => done t u (plainResult stOk))) ∧
      (∀ u, s.poolNext id .readout = some o → may s [] →
        let a := v.1.readAccs (opSrc d) (opLen d) v.2 env
        a.2.2.ready = true → a.2.2.first = none → (a.1.keepSums (opSrc d) 48 a.2.1).writeElems v.2 env a.2.1 = some u →
        (opClear d = false → Answers (.reduceReadout id env) s fun t => done t u (plainResult stOk)) ∧
        (∀ w, opClear d = true → u.writeAny (opSrc d) (List.replicate (48 * opLen d) 0) [] (opTag d) env.places = some w →
          Answers (.reduceReadout id env) s fun t => done t w (plainResult stOk))))

/-- The version operations whose checks pass: VOPEN and VCLOSE count the opens of the slot that holds the version, VDRAFT
takes the lowest FREE slot for the source, the end of its copy ends the wait, VPUBLISH makes a draft of the current version
the next version and retires the published one, VRELEASE frees a draft. POOL_VER_RESET ends all opens of a slot (R323,
R324). -/
def Obligations.VersionOperationsMoveSlots : Prop :=
  ∀ (id : Nat) (o : PoolOp) (r : Region) (s : State), s.canonical → s.epoch.old = [] → s.versioned (opRegion o.desc) = some r →
    (s.opDescOk o.desc = true → s.opChecks o [] = stOk →
      (∀ k, s.poolNext id .vopen = some o → s.slotOfVersion r (s.namedVersion r (opVersion o.desc)) = some k →
        (s.verSlot r.id k).opens < 4095 → Answers (.vopen id) s fun t =>
          t.verSlot r.id k = { s.verSlot r.id k with opens := (s.verSlot r.id k).opens + 1 }) ∧
      (∀ k, s.poolNext id .vclose = some o → s.slotOfVersion r (opVersion o.desc) = some k → 0 < (s.verSlot r.id k).opens →
        Answers (.vclose id) s fun t => t.verSlot r.id k =
          (if (s.verSlot r.id k).state = verRetained ∧ (s.verSlot r.id k).opens = 1 then {}
            else { s.verSlot r.id k with opens := (s.verSlot r.id k).opens - 1 })) ∧
      (∀ b k, s.poolNext id .vdraft = some o → (∀ x, s.vcopyRanges o = some x → s.vcopyStatus o x = stOk) → s.slotOfVersion r (s.namedVersion r (opVersion o.desc)) = some b →
        k ≤ r.versions → (s.verSlot r.id k).state = verFree → (∀ j < k, (s.verSlot r.id j).state ≠ verFree) →
        Answers (.vdraft id) s fun t => (t.verSlot r.id k).state = verDraft ∧ (t.verSlot r.id k).owner = o.src ∧
          (t.verSlot r.id k).version = s.namedVersion r (opVersion o.desc) ∧ (t.verSlot r.id k).copying = opVcopy o.desc) ∧
      (∀ k, k = opSlot o.desc → s.poolNext id .vpublish = some o → k ≤ r.versions → (s.verSlot r.id k).draftOf o.src = true → (s.verSlot r.id k).copying = false →
        (s.verSlot r.id k).version = s.currentVersion r → (s.verSlot r.id (s.published r)).state = verPublished →
        Answers (.vpublish id) s fun t =>
          t.verSlot r.id k = ⟨verPublished, (s.currentVersion r + 1) % 2 ^ 32, 0, 0, false⟩ ∧
          t.verSlot r.id (s.published r) = (if (s.verSlot r.id (s.published r)).opens = 0 then {}
            else { s.verSlot r.id (s.published r) with state := verRetained })) ∧
      (∀ k, k = opSlot o.desc → s.poolNext id .vrelease = some o → k ≤ r.versions → (s.verSlot r.id k).draftOf o.src = true → (s.verSlot r.id k).copying = false →
        Answers (.vrelease id) s fun t => t.verSlot r.id k = {})) ∧
    (∀ (res : PoolResult) (env : VaultEnv) (b k : PA × Nat) (u : State), s.pool.ops.find? (fun x => x.id == id && x.copying) = some o →
      o.result = some res → o.lists = [b, k] →
      let rd := s.readAny b.1 b.2 (opConsumer o) env none
      rd.2.ready = true → rd.2.first = none →
      rd.1.writeAny k.1 rd.2.data rd.2.poison (opTag o.desc) [] = some u →
      Answers (.vdraftCopyDone id env) s fun t => t.dram = u.dram ∧ t.stores = u.stores ∧
        (t.verSlot r.id (res.slotInfo % 256)).copying = false ∧ ∃ x ∈ t.pool.ops, x.id = id ∧ x.copying = false) ∧
    (∀ (region : W16) (slot : Fin 16), opRegion o.desc = region.toNat → slot.val ≤ r.versions →
      Answers (.poolVerReset region slot) s fun t => (t.verSlot r.id slot).opens = 0 ∧
        ((s.verSlot r.id slot).state = verRetained → (t.verSlot r.id slot).state = verFree) ∧ t.dram = s.dram)

/-- The life of an extent entry: a grant makes a FREE entry ACTIVE for its extent and groups, and is refused where another
names the extent; a revoke makes it DRAINING; at the drain's timeout the work still open on it ends; once nothing is open
the entry is FREE again (R309, R325). -/
def Obligations.ExtentIsGrantedDrainedAndFreed : Prop :=
  ∀ (i : Fin 16384) (s : State), s.canonical →
    (∀ (space : Fin 4) (base : Fin 16777216) (rw ro : Byte), s.f (F.POOL_EXT_STATE i) = extFree →
      (space ≠ 3 → s.extentOf space base = none → Answers (.grant i space base rw ro) s fun t =>
        t.f (F.POOL_EXT_STATE i) = extActive ∧ t.f (F.POOL_EXT_SPACE i) = space.val ∧ t.f (F.POOL_EXT_BASE i) = base.val ∧
        t.f (F.POOL_EXT_RW_GROUP i) = rw.toNat ∧ t.f (F.POOL_EXT_RO_GROUP i) = ro.toNat ∧
        ∀ j : Fin 16384, j ≠ i → t.reg (R.POOL_EXT j) = s.reg (R.POOL_EXT j)) ∧
      ((s.extentOf space base).isSome = true → Answers (.grant i space base rw ro) s fun t =>
        t.f (F.POOL_EXT_STATE i) = extFree ∧ t.f F.POOL_STATUS_LAST_ERR = 0x0805)) ∧
    (s.f (F.POOL_EXT_STATE i) = extActive → Answers (.extentRevoke i) s fun t =>
      t.f (F.POOL_EXT_STATE i) = extDraining ∧ t.pool.drains = s.pool.drains ++ [⟨i, s.count, s.nextId, false, 0, 0, 0⟩]) ∧
    (∀ d, s.pool.drains.find? (fun x => x.entry == i.val && !x.timedOut &&
        decide (x.t0 + 1000 * s.f F.POOL_CFG_DRAIN_US ≤ s.count)) = some d → (∀ o ∈ s.drainOpens d, o.wait ≠ .expand) →
      Answers (.revokeDrainTimeout i) s fun t =>
        (∀ o ∈ s.drainOpens d, (∀ n, o.wait ≠ .poolOp n) → t.openAt o.id = none) ∧
        (∀ x ∈ s.drainOps d, ∀ y ∈ t.pool.ops, y.id ≠ x.id)) ∧
    (∀ d, s.pool.drains.find? (fun x => x.entry == i.val) = some d → s.drainOpens d = [] → s.drainOps d = [] →
      Answers (.extentFree i) s fun t => t.f (F.POOL_EXT_STATE i) = extFree ∧ ∀ x ∈ t.pool.drains, x.entry ≠ i.val)

/-- For every microsecond of the global count since the last refill a node's bucket takes its rate, up to its burst. Every microsecond of the global count a class with a
guarantee at a port takes its refill once, up to its burst; at the end of a window its sums start again, and at a memory port a
backlogged class that fell short counts a miss; a change of capacity sets CAP and SCALE (R312, R336, R339, R340). The
ceiling of the shared bucket is the model's free constant. -/
def Obligations.BucketsRefillAndWindowsEnd : Prop :=
  ∀ s : State, s.canonical →
    (s.refillsDue = 0 → exec .limiterRefill s = .next s) ∧
    (0 < s.refillsDue → Answers .limiterRefill s fun t =>
      (∀ j < 1024, s.f (F.POOL_LIM_VALID j) = 1 → s.limiterOf (BitVec.ofNat 16 (s.f (F.POOL_LIM_NODE j))) = j →
        t.bucket j = min ((1024 * s.f (F.POOL_LIM_BURST_KIB j) : Nat) : Int) (s.bucket j + (s.refillsDue * (1000 * s.f (F.POOL_LIM_RATE j)) : Nat))) ∧
      t.bucket 1024 = min ((Config.sharedBurst : Nat) : Int) (s.bucket 1024 + (s.refillsDue * (1000 * s.f F.POOL_CFG_DEFAULT_RATE) : Nat)) ∧
      t.refillsDue = 0 ∧ t.regs = s.regs) ∧
    (s.count % 1000 = 0 → s.tellers.refilledAt = s.count + 1 → exec .tellerRefill s = .next s) ∧
    (s.count % 1000 = 0 → s.tellers.refilledAt ≠ s.count + 1 → Answers .tellerRefill s fun t => ∀ p < 34, ∀ k < 64, 0 < s.guarantee p k →
      (t.teller p k).windowB = (s.teller p k).windowB + s.refill p k ∧
      (t.teller p k).bucket =
        (if ((s.refill p k * s.f (F.TLR_CLASS_CFG_BURST_US k) : Nat) : Int) < (s.teller p k).bucket + s.refill p k then
          max (s.teller p k).bucket ((s.refill p k * s.f (F.TLR_CLASS_CFG_BURST_US k) : Nat) : Int)
        else (s.teller p k).bucket + s.refill p k)) ∧
    (∀ backlogged : List (Nat × Nat), s.count % 64000 = 0 → s.tellers.windowAt ≠ s.count + 1 →
      let begun (p k : Nat) : Nat := if s.tellers.refilledAt = s.count + 1 then s.refill p k else 0
      let short (p k : Nat) : Prop := (p, k) ∈ backlogged ∧ (s.teller p k).windowS + s.refill p k + begun p k < (s.teller p k).windowB
      ((∀ p k, ¬ short p k) → Answers (.guaranteeWindow backlogged) s fun t => ∀ p < 34, ∀ k < 64, 0 < s.guarantee p k →
        t.teller p k = { s.teller p k with windowB := begun p k, windowS := 0 }) ∧
      Answers (.guaranteeWindow backlogged) s (fun t => ∀ p < 16, ∀ k < 64, 0 < s.guarantee p k → short p k →
        (t.teller p k).misses = (s.teller p k).misses + 1 ∧ t.bit F.TLR_MISS_STS_CLASS k = true)) ∧
    (∀ p : Fin 34, Answers (.scaleUpdate p) s fun t => t.f (F.TLR_PORT_CAP_MBPS p) = s.cap p ∧
      t.f (F.TLR_PORT_SCALE p) = scaleOf (s.cap p) (s.sumG p) ∧
      (scaleOf (s.cap p) (s.sumG p) < s.f (F.TLR_PORT_SCALE p) → t.bit F.TLR_CAP_STS_PORT p = true))

/-! ## Determinism and data integrity (chapters 15 and 16) -/

/-- Determinism: STEP_INC advances a tag's step counter and does nothing for tag 0, a locked seed stays locked, DET_ACC saves,
restores and clears a quiet core's exact accumulators, DET_SLOT_RESTORE fills a free slot, and a die's clocks move to the
pins in force once no CYCLE_EXACT kernel of an older epoch runs on it (R350, R352, R358, R359). -/
def Obligations.DeterminismCommandsDoTheirWork : Prop :=
  ∀ s : State, s.canonical →
    (∀ g : Tag, Answers (.stepInc g) s fun t =>
      (g ≠ 0 → t.f (F.DET_STEP_STEP g.toNat) = (s.f (F.DET_STEP_STEP g.toNat) + 1) % 2 ^ 64) ∧ (g = 0 → t = s) ∧ t = { s with regs := t.regs }) ∧
    (∀ g : Tag, g ≠ 0 → Answers (.seedLock g) s fun t => t.f (F.DET_TAG_CTL_LOCK g.toNat) = 1 ∧ t = { s with regs := t.regs }) ∧
    (∀ core : Fin 16,
      (s.coreQuiet core = true →
        (s.accAddrOk = true → (∀ l < 512, s.exactBad core l = false) → Answers (.accSave core) s fun t =>
          let u := s.writeRange (BitVec.ofNat 56 (s.f F.DET_ACC_ADDR_ADDR)) (gather 512 (fun l => (s.exact core l).bytes)) 0
          t.dram = u.dram ∧ t.stores = u.stores ∧ t.exacts = u.exacts ∧ t.f F.DET_ACC_CMD_RESULT = 0 ∧ t.f F.DET_ACC_CMD_GO = 0) ∧
        (s.accAddrOk = true →
          let r := s.readAny (BitVec.ofNat 56 (s.f F.DET_ACC_ADDR_ADDR)) 24576 (coreConsumer core 0) {} none
          r.2.ready = true → r.2.poison = [] → Answers (.accRestore core) s fun t =>
            (∀ l < 512, t.exact core l = ExactAcc.ofBytes (slice r.2.data (48 * l) 48)) ∧ t.f F.DET_ACC_CMD_RESULT = 0) ∧
        Answers (.accClear core) s fun t => (∀ l < 512, t.exact core l = {}) ∧
          (∀ n l, n ≠ core.val → l < 512 → t.exact n l = s.exact n l) ∧ t.f F.DET_ACC_CMD_RESULT = 0) ∧
      (s.coreQuiet core = false → Answers (.accClear core) s fun t => t.exacts = s.exacts ∧ t.f F.DET_ACC_CMD_RESULT = 2)) ∧
    (∀ x : SlotRestore,
      (s.slotSt x.slot = slotFree → s.f (F.MNT_SLOT_INFO_LOCK x.slot) = 0 → s.f (F.MNT_SLOT_INFO_RSV x.slot) = 0 →
        s.f (F.MNT_SLOT_INFO_DAMAGED x.slot) = 0 → 1 ≤ x.planes.val → x.planes.val ≤ 4 → tablesValid x.planes s.stagedTables = true →
        Answers (.detSlotRestore x) s fun t => t.slotSt x.slot = (if x.retired then slotRetired else slotActive) ∧
          t.f (F.MNT_SLOT_INFO_GEN x.slot) = x.gen.toNat ∧ t.f (F.MNT_SLOT_INFO_PLANES x.slot) = x.planes.val ∧
          t.f (F.MNT_SLOT_INFO_LOCK x.slot) = x.lock.toNat ∧ t.f F.DET_SLOT_RESTORE_CODE = 0) ∧
      (s.slotSt x.slot ≠ slotFree → Answers (.detSlotRestore x) s fun t => t.f F.DET_SLOT_RESTORE_CODE = cSlotBusy ∧
        ∀ j : Fin 64, t.reg (R.MNT_SLOT_INFO j) = s.reg (R.MNT_SLOT_INFO j))) ∧
    (∀ d : Fin 2, s.oldCx d = false → Answers (.clockRepin d) s fun t => t.settled d = s.pins ∧
      (d = 0 → t.clocks.engine0 = s.pins.1 ∧ t.clocks.fabric0 = s.pins.2 ∧ t.clocks.engine1 = s.clocks.engine1) ∧
      (d = 1 → t.clocks.engine1 = s.pins.1 ∧ t.clocks.fabric1 = s.pins.2 ∧ t.clocks.engine0 = s.clocks.engine0))

/-- Repair: a store block with wrong parity takes the bytes that its source answers, with good parity; a grain that the
partner's copy repairs is written back with a good code word and its repair is over; a repair of a grain that reads well by
then is dropped (R365, R369, R370).

The ledger and the clearing engines: a clear empties a die's table of corrected errors, HEAD moves up to TAIL and no
further, no merge entry outlives its window, an engine is HELD while a CYCLE_EXACT kernel runs in its cluster and otherwise
counts the grain it reads, a pass that overruns sets LATE, PASS_NOW starts a pass everywhere, and the flip mask is armed as
it is written (R368, R380, R381, R383, R385, R389). -/
def Obligations.RepairsAndLedgerWork : Prop :=
  (
    ∀ s : State, s.canonical →
      (∀ (block : BitVec 20) (bs : Bytes) (env : VaultEnv) (r : SrcRec), s.srcRec block.toNat = some r → s.blockBad block.toNat = true →
        r.node ≠ 0xFFFF → Answers (.storeRefetch block (some (bs, [])) env) s fun t =>
          t.stores = Sparse.putList zeroByte s.stores (4096 * block.toNat) (padTo 4096 (bs.take 4096)) ∧
          t.storeParity = Sparse.clear (4096 * block.toNat) (4096 * block.toNat + 4096) s.storeParity ∧ t.dram = s.dram) ∧
      (∀ (a : PA) (home : Bool) (env : VaultEnv) (r : Repair),
        s.integ.repairs.find? (fun x => x.grain == (grainOf a).toNat && x.home == home) = some r → r.found = none →
        (∀ (d : Bytes) (l : GrainLoc), r.step = 2 → s.grainNow (grainOf a) r = .bad → s.partnerCopy (grainOf a) = true →
          s.repairLoc (grainOf a) r = some l → r.op ≠ 3 → Answers (.dramRepair a home (some d) env) s fun t =>
            t.dram = (s.putGrain l (padTo 128 (d.take 128)) (rsCheck (padTo 128 (d.take 128)))).dram ∧
            ∀ x ∈ t.integ.repairs, x.grain ≠ r.grain ∨ x.home ≠ r.home) ∧
        (∀ reply, s.grainNow (grainOf a) r = .fine → r.check = false → Answers (.dramRepair a home reply env) s fun t =>
          t = { s with integ := t.integ } ∧ ∀ x ∈ t.integ.repairs, x.grain ≠ r.grain ∨ x.home ≠ r.home))) ∧
  (
    ∀ s : State, s.canonical →
      (∀ d : Fin 2, Answers (.ceTableClear d) s fun t => t.f (F.LDG_STS_CE_USED d) = 0 ∧ t.f (F.LDG_STS_CE_OVF d) = 0 ∧
        (∀ j < 256, t.reg (R.LDG_CE_ADDR d j) = 0 ∧ t.reg (R.LDG_CE_INFO d j) = 0) ∧ t = { s with regs := t.regs }) ∧
      (∀ (d : Fin 2) (head : W32), Answers (.ledgerHeadWrite d head) s fun t =>
        ((head.toNat + 2 ^ 32 - s.f (F.LDG_HEAD_SEQ d)) % 2 ^ 32 ≤ (s.f (F.LDG_TAIL_SEQ d) + 2 ^ 32 - s.f (F.LDG_HEAD_SEQ d)) % 2 ^ 32 →
          t.f (F.LDG_HEAD_SEQ d) = head.toNat) ∧
        ((s.f (F.LDG_TAIL_SEQ d) + 2 ^ 32 - s.f (F.LDG_HEAD_SEQ d)) % 2 ^ 32 < (head.toNat + 2 ^ 32 - s.f (F.LDG_HEAD_SEQ d)) % 2 ^ 32 →
          t = s)) ∧
      (∀ d : Fin 2, Answers (.mergeWindowClose d) s fun t => ∀ m ∈ t.merges d, s.count < m.openedAt + s.mergeNs) ∧
      (∀ (c : Fin 8) (w : ScrubAt), s.f F.CLR_CFG_EN = 1 → s.clusterFenced c = false →
        (s.cxRuns c = true → Answers (.scrubRead c w) s fun t => t.f (F.CLR_STS_HELD c) = 1 ∧ t = { s with regs := t.regs }) ∧
        (s.cxRuns c = false → (∀ l a, s.scrubLoc c w = some (l, a) → s.unitFenced l.unit = false) → Answers (.scrubRead c w) s fun t => t.f (F.CLR_STS_HELD c) = 0 ∧
          t.f (F.CLR_GRAINS_COUNT c) = (s.f (F.CLR_GRAINS_COUNT c) + 1) % 2 ^ 64 ∧
          ((s.scrub c).done + 1 < s.scrubGrains c → t.scrub c = { s.scrub c with done := (s.scrub c).done + 1 }) ∧
          (s.scrubGrains c ≤ (s.scrub c).done + 1 → (t.scrub c).done = 0 ∧ (t.scrub c).startedAt = s.count ∧
            t.f (F.CLR_STS_PASSES c) = (s.f (F.CLR_STS_PASSES c) + 1) % 2 ^ 32))) ∧
      (∀ c : Fin 8, (s.scrub c).late = false → (s.scrub c).startedAt + s.lateNs ≤ s.count → Answers (.clrLate c) s fun t =>
        t.f (F.CLR_STS_LATE c) = 1 ∧ (t.scrub c).late = true) ∧
      Answers .passNow s (fun t => ∀ c < 8, (t.scrub c).startedAt = s.count ∧ (t.scrub c).done = 0 ∧ (t.scrub c).fast = true ∧
        t.f (F.CLR_STS_PROGRESS c) = 0) ∧
      (∀ (g : Tag) (pre : Bool) (off : Fin 512) (unit : Fin 128) (target : Fin 16), Answers (.flipArm g pre off unit target) s fun t =>
        t.f F.LDG_FLIP_SEL_ARM = 1 ∧ t.f F.LDG_FLIP_SEL_TAG = g.toNat ∧ t.f F.LDG_FLIP_SEL_PRE_CODE = pre.toNat ∧
        t.f F.LDG_FLIP_SEL_OFFSET = off.val ∧ t.f F.LDG_FLIP_SEL_UNIT = unit.val ∧ t.f F.LDG_FLIP_SEL_TARGET = target.val ∧
        ∀ o, o ≠ R.LDG_FLIP_SEL → t.reg o = s.reg o))

/-! ## The mirrored pair (chapter 18) -/

/-- Mirrored writes: the senior places, applies and keeps a write that the other side accepted and that waits for nothing;
the other side applies the write whose place is next; an acknowledgement ends the write that it names and its request; and a piece of a page's copy is
sent by its source, no sooner than RESYNC_GBPS lets it, and applied in its place (R417, R429). -/
def Obligations.MirroredWritesGoToBothSides : Prop :=
  ∀ s : State, s.canonical → s.mirroring = true →
    (∀ (id : Nat) (a : PA) (data : Bytes) (mask : List Nat) (tag : Tag),
      (∀ w : PairWrite, w = ⟨id, none, a, data, mask, tag, false, none, none, none, false, false⟩ →
        s.senior = true → s.pair.inbox = [] → (s.setPair { s.pair with inbox := [w] }).writeWaits w = none →
        Answers (.mirrorWriteRx none id a data mask tag false) s (fun t =>
          t.dram = (s.applyWrite w).1.dram ∧ t.stores = (s.applyWrite w).1.stores ∧ t.pair.nextSeq = s.pair.nextSeq + 1 ∧
            (⟨id, some s.pair.nextSeq, a, data, mask, tag, false, none, none, none, false, false⟩ : PairWrite) ∈ t.pair.out)) ∧
      (∀ q, s.senior = false → q = s.pair.applied → s.pair.inbox = [] →
        let w : PairWrite := ⟨s.nextId, some q, a, data, mask, tag, false, none, none, none, false, false⟩
        let u := ((s.setPair { s.pair with inbox := [w] }).applyWrite w).1
        (s.setPair { s.pair with inbox := [w] }).writeWaits w = none → Answers (.mirrorWriteRx (some q) id a data mask tag false) s fun t =>
          t.dram = u.dram ∧ t.stores = u.stores ∧ t.pair.applied = q + 1) ∧
      (∀ q, s.senior = false → q < s.pair.applied → exec (.mirrorWriteRx (some q) id a data mask tag false) s = .next s)) ∧
    (∀ (seq : Nat) (w : PairWrite), s.pair.out.find? (fun x => x.seq == some seq) = some w → w.lastOf = none →
      Answers (.mirrorAckRx seq none) s fun t => t.pair.out = s.pair.out.filter (fun x => x.seq != some seq) ∧
        t.dram = s.dram ∧ ∀ i, w.openId = some i → t.openAt i = none) ∧
    (∀ (id : Nat) (a : PA) (data : Bytes) (mask : List Nat), s.senior = true →
      let last := if 2 ^ 21 ≤ offsetOf a % 2 ^ 21 + data.length then pageKey (spaceOf a) (pageOf a) else notLast
      let u := s.applyPiece ⟨id, none, a, data, mask, 0, false, none, none, some last, false, false⟩
      Answers (.resyncPiece (some (none, id, a, data, mask))) s fun t =>
        t.pair.nextSeq = s.pair.nextSeq + 1 ∧ t.dram = u.dram ∧ t.stores = u.stores) ∧
    (∀ (k : Nat), s.senior = true → s.pair.dirty.find? (fun j => !s.pair.out.any (fun w => w.lastOf == some j)) = some k →
      s.packedAt (k / 2 ^ 31) (k % 2 ^ 31) = none →
      let a := poolAddr (k / 2 ^ 31) (2 ^ 21 * (k % 2 ^ 31) + s.pair.copied)
      let r := s.readRange a 4096 1 0
      r.2.repair = none → s.pair.pieceAt + s.pieceTime ≤ s.count → Answers (.resyncPiece none) s fun t => ∃ w ∈ t.pair.out, w.a = a ∧ w.data = r.2.data ∧ w.seq.isSome = true)

/-- Compared kernels and replicated operations: equal values end the kernel and count a comparison; unequal ones also take
the lowest free mismatch entry; a value that comes early is kept; one that does not come in time is not waited for; a freed
entry reads FREE; a replicated operation is queued with its place (R421, R422, R424, R433). -/
def Obligations.PairComparesItsKernels : Prop :=
  ∀ s : State, s.canonical →
    (∀ (slot : Fin 4096) (tensor : W32) (step : W64) (value : W32) (c : Compare) (r : Running),
      s.pair.compares.find? (fun x => x.slot == slot.val && x.tensor == tensor.toNat && x.step == step.toNat) = some c →
      s.mmOf c = none → c.core < 16 → (s.core c.core).running = some r → r.uid = c.uid →
      Answers (.checkValueRx slot tensor step value) s fun t => (t.core c.core).running = none ∧
        t.f F.PAIR_COMPARED_COUNT = (s.f F.PAIR_COMPARED_COUNT + 1) % 2 ^ 64 ∧
        (value.toNat = c.value → t.f F.PAIR_MISMATCHES_COUNT = s.f F.PAIR_MISMATCHES_COUNT) ∧
        (value.toNat ≠ c.value → t.f F.PAIR_MISMATCHES_COUNT = (s.f F.PAIR_MISMATCHES_COUNT + 1) % 2 ^ 64 ∧
          (∀ i : Fin 8, s.mmState i = 0 → (∀ j < i.val, s.mmState j ≠ 0) → t.mmState i = 1 ∧
            t.f (F.PAIR_MM_SLOT i) = c.slot % 4096 ∧ t.reg (R.PAIR_MM_STEP i) = BitVec.ofNat 64 c.step))) ∧
    (∀ (slot : Fin 4096) (tensor : W32) (step : W64) (value : W32),
      s.pair.compares.find? (fun x => x.slot == slot.val && x.tensor == tensor.toNat && x.step == step.toNat) = none →
      s.pairState = psPaired → Answers (.checkValueRx slot tensor step value) s fun t =>
        t = s.setPair { s.pair with early := s.pair.early ++ [⟨slot, tensor.toNat, step.toNat, value.toNat⟩] }) ∧
    (∀ (n : Fin 16) (c : Compare) (r : Running), s.pair.compares.find? (fun x => x.core == n.val) = some c → s.pairState = psPaired →
      c.since + 1000 * s.f F.PAIR_CFG_CMP_WAIT_US ≤ s.count → (s.core n).running = some r → r.uid = c.uid →
      Answers (.cmpWaitTimeout n) s fun t => (t.core n).running = none ∧
        t.f F.PAIR_UNCOMPARED_COUNT = (s.f F.PAIR_UNCOMPARED_COUNT + 1) % 2 ^ 64) ∧
    (∀ i : Fin 8, Answers (.mmEntryFree i) s fun t => t.mmState i = 0 ∧ ∀ o, o ≠ R.PAIR_MM i → t.reg o = s.reg o) ∧
    (∀ (src : Node) (desc : Bytes), s.pairState = psPaired → s.senior = true → Answers (.replicatedOpRx none src desc) s fun t =>
      (∃ x ∈ t.pool.ops, x.id = s.nextId ∧ x.desc = desc ∧ x.src = src ∧ x.replicated = true) ∧
      t.pair.nextSeq = s.pair.nextSeq + 1 ∧ t.nextId = s.nextId + 1)

/-- The states of a pair: heartbeats go out on every ACTIVE mirror port when 10 µs have passed; their loss makes a mirroring side HELD; one that
arrives makes a HELD side PAIRED and a DETACHED or SOLO side FORMING; in HELD the senior goes on alone, SOLO, and the other
side is DETACHED, by a timeout or by command; a rejoin starts a formation (R426 to R428).

A formation (Table 18-3): sides whose digests differ stay FORMING and try again after 10 ms; two SOLO sides are SPLIT;
two fresh sides are PAIRED with side A as the senior; and a SOLO side is the source of a copy of its dirty pages, or of all
its mirrored pages (R428). -/
def Obligations.PairStatesAndFormation : Prop :=
  (
    ∀ s : State, s.canonical →
      (s.pairState ≠ psUnpaired → s.pair.beatAt + 10000 ≤ s.count → Answers .heartbeatSend s fun t => t.pair.beatAt = s.count ∧
        t.out = s.out ++ ([16, 17].filter s.portActive).map (fun p => .pair p .heartbeat) ∧ t.regs = s.regs) ∧
      (s.pairState = psPaired → s.pair.inbox = [] → Answers .heartbeatRx s fun t => t = s.setPair { s.pair with heardAt := s.count }) ∧
      (s.pairState = psHeld → Answers .heartbeatRx s fun t => t.pairState = psPaired) ∧
      (s.pairState = psDetached ∨ s.pairState = psSolo → Answers .heartbeatRx s fun t => t.pairState = psForming) ∧
      (s.mirroring = true → s.pair.heardAt + 1000 * s.f F.PAIR_CFG_LOSS_US ≤ s.count → Answers .pairLoss s fun t =>
        t.pairState = psHeld ∧ t.pair.heldAt = s.count ∧ t.f F.PAIR_STS_MAP_VALID = 1) ∧
      (s.pairState = psHeld → s.pair.heldAt + 1000000 * s.f F.PAIR_CFG_ARB_MS ≤ s.count → Answers .arbTimeout s fun t =>
        (s.senior = true → t.pairState = psSolo ∧ t.senior = true) ∧ (s.senior = false → t.pairState = psDetached)) ∧
      (s.pairState = psHeld ∨ s.pairState = psDetached → Answers .pairSolo s fun t =>
        t.pairState = psSolo ∧ t.senior = true ∧ t.f F.PAIR_CMD_RESULT = 0) ∧
      (s.pairState ≠ psHeld → s.pairState ≠ psDetached → Answers .pairSolo s fun t =>
        t.f F.PAIR_CMD_RESULT = 1 ∧ ∀ o, o ≠ R.PAIR_CMD → t.reg o = s.reg o) ∧
      (s.pairState = psHeld ∨ s.pairState = psSolo ∨ s.pairState = psSplit → Answers .pairDetach s fun t =>
        t.pairState = psDetached ∧ t.f F.PAIR_CMD_RESULT = 0) ∧
      (s.pairState = psDetached ∨ s.pairState = psSplit → Answers .pairRejoin s fun t =>
        t.pairState = psForming ∧ t.f F.PAIR_CMD_RESULT = 0) ∧
      (∀ p, s.pairState ≠ psUnpaired → s.mxFor 0 = some p → Answers .resetPartner s fun t =>
        t.out = s.out ++ [.pair p .resetPartner] ∧ t.f F.PAIR_CMD_RESULT = 0)) ∧
  (
    ∀ s : State, s.canonical → s.pairState = psForming →
      (∀ (digest : W32) (before : Fin 8) (mapValid fresh : Bool) (dirty : List Nat),
        (digest.toNat ≠ s.pairDigest → Answers (.formationRx digest before mapValid fresh dirty) s fun t =>
          t.pairState = psForming ∧ t.pair.formedAt = s.count) ∧
        (digest.toNat = s.pairDigest →
          (s.pair.before = psSolo → before.val = psSolo → Answers (.formationRx digest before mapValid fresh dirty) s fun t =>
            t.pairState = psSplit) ∧
          (s.pair.before ≠ psSolo → before.val ≠ psSolo → fresh = true → s.f F.PAIR_STS_FRESH = 1 →
            Answers (.formationRx digest before mapValid fresh dirty) s fun t => t.pairState = psPaired ∧ t.senior = !s.sideB) ∧
          (s.pair.before = psSolo → before.val ≠ psSolo → Answers (.formationRx digest before mapValid fresh dirty) s fun t =>
            t.senior = true ∧ t.pair.dirty = (if s.f F.PAIR_STS_MAP_VALID = 0 ∨ fresh = true then s.mirroredPages else s.pair.dirty) ∧
            (t.pair.dirty ≠ [] → t.pairState = psResync)))) ∧
      (s.pair.formedAt + 10000000 ≤ s.count → Answers .formationRetry s fun t => t.pair.formedAt = s.count ∧
        ∀ p, s.mxFor 0 = some p → t.out = s.out ++ [.pair p (.form s.pairDigest s.pair.before (s.f F.PAIR_STS_MAP_VALID == 1) (s.f F.PAIR_STS_FRESH == 1))]))

/-! ## The host endpoint (chapter 19) -/

/-- Accesses of the host through its BARs: a register of BAR0 is read and written, a word of BAR4 is, a BAR2 access that its
window misses is an Unsupported Request, and a posted write that carries EP changes no register. A read that waited
completes once nothing holds it, and one without a completion in time ends with Completer Abort (R36, R438 to R441).

A CXL.mem access that a committed decoder maps to the device reads or writes 64 bytes of the pool; one that none maps
reads as poisoned data, or is dropped and completed (R442). -/
def Obligations.HostAndCxlAccessesAreServed : Prop :=
  (
    ∀ s : State, s.canonical →
      (∀ (off : Fin 68719476736) (requester tag : W16), s.barsOn = true →
        (∀ len : Fin 4097, barForm .bar4 off len = true → Answers (.hostRead .bar4 off len requester tag {}) s fun t =>
          t.out = s.out ++ [.hostCpl requester.toNat tag.toNat 0 (s.bar4Read off len) []] ∧
            t.f F.PEP_RD_TLPS_COUNT = (s.f F.PEP_RD_TLPS_COUNT + 1) % 2 ^ 64) ∧
        (∀ len : Fin 4097, barForm .bar2 off len = true → s.windowAt off len false = none →
          Answers (.hostRead .bar2 off len requester tag {}) s fun t => t.f F.PEP_UR_COUNT = (s.f F.PEP_UR_COUNT + 1) % 2 ^ 64 ∧
            .hostCpl requester.toNat tag.toNat 1 [] [] ∈ t.out ∧ t.dram = s.dram ∧ t.opens = s.opens) ∧
        (∀ g : Fin 4096, off.val = R.DET_SEED_LO g → s.inService = true → s.fresh →
          (∀ o ∈ s.opens, mustFollow .rd (s.hostReq (poolAddr 8 off) 8 [] s.pepTag false) (some { requester := requester.toNat, tag := tag.toNat }) o = false) →
          Answers (.hostRead .bar0 off 8 requester tag {}) s fun t => t.opens = s.opens ∧
            t.out = s.out ++ [.hostCpl requester.toNat tag.toNat 0 (leBytes 8 (s.reg (R.DET_SEED_LO g)).toNat) []])) ∧
      (∀ (off : Fin 68719476736) (data : Bytes) (relaxed : Bool), s.barsOn = true →
        (∀ g : Fin 4096, off.val = R.DET_SEED_LO g → data.length = 8 → s.inService = true → g ≠ 0 → s.f (F.DET_TAG_CTL_LOCK g) = 0 → s.fresh →
          (∀ o ∈ s.opens, mustFollow .wr (s.hostReq (poolAddr 8 off) 8 data s.pepTag false) (some { posted := true, relaxed := relaxed }) o = false) →
          Answers (.hostWrite .bar0 off data false relaxed {}) s fun t => t.opens = s.opens ∧
            t.reg (R.DET_SEED_LO g) = BitVec.ofNat 64 (fieldLe data 0 8) ∧ t.f F.PEP_WR_TLPS_COUNT = (s.f F.PEP_WR_TLPS_COUNT + 1) % 2 ^ 64) ∧
        (off.val < 4096 → off.val % 16 = 8 → data.length = 4 → Answers (.hostWrite .bar4 off data false relaxed {}) s fun t =>
          (t.msixAt (off / 16)).data = BitVec.ofNat 32 (fieldLe data 0 4)) ∧
        (∀ b : Bar, barForm b off data.length = true → Answers (.hostWrite b off data true relaxed {}) s fun t =>
          t.out = s.out ++ [.aer 2 off] ∧ ∀ o, o ≠ R.PEP_WR_TLPS → t.reg o = s.reg o)) ∧
      (∀ (id : Nat) (o : OpenReq) (h : HostAcc), s.openAt id = some o → o.host = some h → o.kind = .rd → h.answered = false → h.dma = none →
        h.cxl = false →
        (∀ g : Fin 4096, h.posted = false → o.req.addr = poolAddr 8 (R.DET_SEED_LO g) → o.req.len = 8 → o.wait = .order → o.revoked = false → s.inService = true →
          s.epoch.old = [] → s.heldBefore o = false → (∀ x ∈ s.opens, x.id < id → mustFollow .rd o.req (some h) x = false) →
          Answers (.hostReadDone id {}) s fun t => t.openAt id = none ∧
            t.out = s.out ++ [.hostCpl h.requester h.tag 0 (leBytes 8 (s.reg (R.DET_SEED_LO g)).toNat) []]) ∧
        (o.acceptedAt + 1000 * s.f F.PEP_CFG_CPL_LIMIT_US ≤ s.count → Answers (.pepCplLimit id) s fun t =>
          .hostCpl h.requester h.tag 2 [] [] ∈ t.out ∧ t.f F.PEP_CA_COUNT = (s.f F.PEP_CA_COUNT + 1) % 2 ^ 64 ∧
            ∃ x, t.openAt id = some x ∧ x.req = o.req ∧ x.host = some { h with answered := true }))) ∧
  (
    ∀ (hpa : W64) (tag : W16) (s : State), s.canonical → s.f F.PEP_STS_CXL = 1 →
      (s.dpaOf (64 * (hpa.toNat / 64)) = none →
        Answers (.cxlMemRead hpa tag {}) s (fun t => t.out = s.out ++ [.cxlCpl tag.toNat (List.replicate 64 0) [0]] ∧ t.dram = s.dram) ∧
        ∀ data poison, Answers (.cxlMemWrite hpa tag data poison {}) s fun t => t.out = s.out ++ [.cxlCpl tag.toNat [] []] ∧ t.dram = s.dram) ∧
      (∀ d, s.dpaOf (64 * (hpa.toNat / 64)) = some d → s.inService = true → s.fresh →
        (let q := s.hostReq (poolAddr 0 d) 64 [] s.pepTag true
          let h : HostAcc := { tag := tag.toNat, cxl := true }
          let r := s.decodeSpace .rd q true
          let v := (r.1.openHost .rd q h).touchStart (r.1.hostOpenOf .rd q h)
          let x := v.readRange q.addr q.len 1 q.tag
          r.2 = none → r.1.versionsAllow q.addr q.len q.src false = true → (∀ o ∈ s.opens, mustFollow .rd q (some h) o = false) →
          spaceOf q.addr ≤ 2 → v.clusterHeld (ownerOf (pageOf q.addr)) = false → v.touchesMirror q.addr q.len = false →
          v.readsByPartner q.addr q.len = false → v.tileOf q.addr = none → x.2.repair = none → x.2.refetch = none → x.2.poison = [] →
          Answers (.cxlMemRead hpa tag {}) s fun t => .cxlCpl tag.toNat x.2.data [] ∈ t.out ∧ t.dram = x.1.dram ∧ t.opens = s.opens) ∧
        (∀ data : Bytes, data.length = 64 →
          let q := s.hostReq (poolAddr 0 d) 64 data s.pepTag true
          let h : HostAcc := { tag := tag.toNat, cxl := true }
          let r := s.decodeSpace .wr q true
          let v := (r.1.openHost .wr q h).touchStart (r.1.hostOpenOf .wr q h)
          let x := v.writeRange q.addr q.data q.tag
          r.2 = none → r.1.versionsAllow q.addr q.len q.src true = true → (∀ o ∈ s.opens, mustFollow .wr q (some h) o = false) →
          spaceOf q.addr ≤ 2 → v.clusterHeld (ownerOf (pageOf q.addr)) = false → v.touchesMirror q.addr q.len = false → v.tileOf q.addr = none →
          v.touchesRegionArea q.addr q.len = false → v.touchesFencedGrain q.addr q.len = false → v.mintReads q.addr = false → v.grainHeld q.addr q.len = none →
          Answers (.cxlMemWrite hpa tag data false {}) s fun t => .cxlCpl tag.toNat [] [] ∈ t.out ∧ t.dram = x.dram ∧ t.opens = s.opens)))

/-- The endpoint's tables: a commit of windows that may stand copies every shadow entry and ends when no request under the
old set is left, and another is refused; a decoder commit within DPA_BYTES is committed and another rejected; the mailbox
answers; a pending vector that may be sent is sent and no longer pending; and configuration requests read and write the
header, the link control, the interrupt control and the power state (R435, R436, R439, R442, R445). -/
def Obligations.EndpointTablesChange : Prop :=
  ∀ s : State, s.canonical →
    (s.f F.PEP_WIN_COMMIT_GO = 0 →
      ((List.range 16).all s.windowOk = true → Answers .winCommit s fun t => t.f F.PEP_WIN_COMMIT_GO = 1 ∧ t.f F.PEP_WIN_COMMIT_RESULT = 0 ∧
        ∀ w < 16, t.reg (R.PEP_WIN_ACT_BASE w) = s.reg (R.PEP_WIN_BASE w) ∧ t.reg (R.PEP_WIN_ACT_CTL w) = s.reg (R.PEP_WIN_CTL w)) ∧
      ((List.range 16).all s.windowOk = false → Answers .winCommit s fun t => t.f F.PEP_WIN_COMMIT_GO = 0 ∧ t.f F.PEP_WIN_COMMIT_RESULT = 1 ∧
        ∀ o, o ≠ R.PEP_WIN_COMMIT → t.reg o = s.reg o)) ∧
    (s.f F.PEP_WIN_COMMIT_GO = 1 → s.oldPending = false → Answers .winCommitDone s fun t => t.f F.PEP_WIN_COMMIT_GO = 0 ∧
      t.f F.PEP_WIN_COMMIT_COMMITS = (s.f F.PEP_WIN_COMMIT_COMMITS + 1) % 2 ^ 32) ∧
    (∀ (i : Fin 4) (base size : W64) (ways gran place : Fin 16), s.pep.hdm.length = 4 →
      let dpa := ((s.pep.hdm.take i).map HdmDecoder.span).sum
      (ways.val ≤ 3 ∧ 8 ≤ gran.val ∧ gran.val ≤ 14 ∧ place.val < 2 ^ ways.val ∧ (∀ d ∈ s.pep.hdm.take i, d.committed = true) ∧
          dpa + size.toNat / 2 ^ ways.val ≤ s.dpaBytes → Answers (.hdmCommit i base size ways gran place) s fun t =>
        t.pep.hdm = s.pep.hdm.set i ⟨base.toNat, size.toNat, ways, gran, place, dpa, true, false⟩) ∧
      (s.dpaBytes < dpa + size.toNat / 2 ^ ways.val → Answers (.hdmCommit i base size ways gran place) s fun t =>
        ∃ d, t.pep.hdm[i.val]? = some d ∧ d.committed = false ∧ d.rejected = true)) ∧
    (∀ (op : W16) (payload : Bytes),
      (op.toNat ∈ mailboxKnown → Answers (.mailboxCommand op payload) s fun t =>
        t.out = s.out ++ [.mailbox 0 (Config.mailboxReply s.free op.toNat payload)] ∧ t.regs = s.regs) ∧
      (op.toNat ∉ mailboxKnown → Answers (.mailboxCommand op payload) s fun t => t.out = s.out ++ [.mailbox 3 []] ∧ t.regs = s.regs)) ∧
    (∀ v : Fin 256, v.val ∈ s.irq → s.pep.msixEn = true → s.pep.msixMask = false → (s.msixAt v).masked = false → s.upstream = true →
      Answers (.msixSend v) s fun t => v.val ∉ t.irq ∧ (∀ x, x ≠ v.val → (x ∈ t.irq ↔ x ∈ s.irq)) ∧
        t.out = s.out ++ [.hostWrite (s.msixAt v).addr.toNat (leBytes 4 (s.msixAt v).data.toNat) [] false]) ∧
    (∀ off : Fin 4096, off.val < 0x40 → Answers (.configAccess (.read off)) s fun t =>
      t.out = s.out ++ [.configCpl ((List.range 4).map (fun i => s.cfgByte (off / 4 * 4 + i)))] ∧ t.regs = s.regs) ∧
    (∀ b : Byte, Answers (.configAccess (.write 0x3C [b])) s fun t => t.cfgByte 0x3C = b ∧ t.cfgByte 0 = s.cfgByte 0 ∧ t.regs = s.regs) ∧
    (∀ x y : Bool, Answers (.configAccess (.msixControl x y)) s (fun t => t.pep.msixEn = x ∧ t.pep.msixMask = y) ∧
      Answers (.configAccess (.linkControl x y)) s (fun t => t.pep.aspmL1 = x ∧ t.pep.l11 = y)) ∧
    Answers (.configAccess (.powerControl false)) s (fun t => t.f F.PEP_STS_D_STATE = 0)

/-- DMA: an enabled channel takes the descriptor at HEAD and moves its data between the host and the pool; one that is not
valid ends UNSUPPORTED; a done descriptor ends with its status written, its vector raised and HEAD advanced; a missing
completion ends it with HOST_ERROR; Bus Master Enable 0 aborts every channel; and a channel that is enabled again writes the
statuses it kept (R443, R444, R447). -/
def Obligations.DmaMovesItsDescriptors : Prop :=
  ∀ (c : Fin 4) (s : State), s.canonical →
    (∀ desc : Bytes, desc.length = 32 → s.dma c = {} → s.f (F.PEP_DMA_CFG_ENABLE c) = 1 → s.f (F.PEP_DMA_HEAD_INDEX c) ≠ s.f (F.PEP_DMA_TAIL_INDEX c) →
      s.upstream = true →
      (ddValid desc = false → ddOp desc = 1 → ∀ data, Answers (.dmaToPool c desc data none {}) s fun t =>
        t.dma c = { desc := some desc, ended := some dsUnsupported } ∧ t.dram = s.dram) ∧
      (s.inService = true → s.fresh → ddValid desc = true → ddPool desc % 4096 + ddLen desc ≤ 4096 →
        let u := (s.setDma c { desc := some desc }).setDma c { desc := some desc, piece := ddLen desc }
        let h : HostAcc := { dma := some c.val }
        let a : PA := BitVec.ofNat 56 (ddPool desc)
        (∀ data : Bytes, ddOp desc = 1 → data.length = ddLen desc →
          let q := u.hostReq a (ddLen desc) data (s.ddJobTag desc) false
          let r := u.decodeSpace .wr q true
          let v := (r.1.openHost .wr q h).touchStart (r.1.hostOpenOf .wr q h)
          let x := v.writeRange q.addr q.data q.tag
          r.2 = none → r.1.versionsAllow q.addr q.len q.src true = true → (∀ o ∈ s.opens, mustFollow .wr q (some h) o = false) →
          spaceOf a ≤ 2 → v.clusterHeld (ownerOf (pageOf a)) = false → v.touchesMirror a q.len = false → v.tileOf a = none →
          v.touchesRegionArea a q.len = false → v.touchesFencedGrain a q.len = false → v.mintReads a = false → v.grainHeld a q.len = none →
          Answers (.dmaToPool c desc data none {}) s fun t => t.dram = x.dram ∧ t.opens = s.opens ∧
            (t.dma c).desc = some desc ∧ (t.dma c).moved = ddLen desc ∧ (t.dma c).ended = none) ∧
        (ddOp desc = 2 →
          let q := u.hostReq a (ddLen desc) [] (s.ddJobTag desc) false
          let r := u.decodeSpace .rd q true
          let v := (r.1.openHost .rd q h).touchStart (r.1.hostOpenOf .rd q h)
          let x := v.readRange q.addr q.len 1 q.tag
          r.2 = none → r.1.versionsAllow q.addr q.len q.src false = true → (∀ o ∈ s.opens, mustFollow .rd q (some h) o = false) →
          spaceOf a ≤ 2 → v.clusterHeld (ownerOf (pageOf a)) = false → v.touchesMirror a q.len = false →
          v.readsByPartner a q.len = false → v.tileOf a = none → x.2.repair = none → x.2.refetch = none → x.2.poison = [] →
          Answers (.dmaToHost c desc {}) s fun t => t.dram = x.1.dram ∧ (t.dma c).moved = ddLen desc ∧ (t.dma c).ended = none ∧
            .hostWrite (ddHost desc) x.2.data [] ((ddFlags desc).testBit 0 && s.pep.relaxed) ∈ t.out))) ∧
    (∀ d : Bytes, (s.dma c).desc = some d →
      ((s.dma c).piece = 0 → (s.dma c).ended = none → ddLen d ≤ (s.dma c).moved → s.upstream = true → Answers (.dmaDescEnd c) s fun t =>
        t.dma c = {} ∧ t.f (F.PEP_DMA_HEAD_INDEX c) = (s.f (F.PEP_DMA_HEAD_INDEX c) + 1) % 2 ^ 16 ∧
        t.f (F.PEP_DMA_STS_LAST_STATUS c) = (if (s.dma c).poison then dsPoison else dsOk) ∧ ((ddFlags d).testBit 1 = true → 4 + c.val ∈ t.irq) ∧
        t.out = s.out ++ [.hostWrite (s.dmaEntry c (s.f (F.PEP_DMA_HEAD_INDEX c)) + 0x18)
          (leBytes 2 (if (s.dma c).poison then dsPoison else dsOk) ++ [1, 0]) [] false]) ∧
      (ddOp d = 1 → (s.dma c).ended = none → (s.dma c).moved < ddLen d → Answers (.dmaCompletionTimeout c) s fun t =>
        t = s.setDma c { s.dma c with ended := some dsHostError })) ∧
    (s.bme = true → Answers .bmeClear s fun t => t.bme = false ∧ t.f F.PEP_STS_BME = 0 ∧ (t.dma c).desc = none ∧
      ((s.dma c).desc.isSome = true → t.f (F.PEP_DMA_CFG_ENABLE c) = 0 ∧ t.f (F.PEP_DMA_STS_ABORTED c) = 1)) ∧
    (s.upstream = true → ∀ i, (s.dma c).aborted = [i] → Answers (.dmaReenable c) s fun t => t.f (F.PEP_DMA_CFG_ENABLE c) = 1 ∧
      (t.dma c).aborted = [] ∧ t.f (F.PEP_DMA_HEAD_INDEX c) = (i + 1) % 2 ^ 16 ∧
      t.out = s.out ++ [.hostWrite (s.dmaEntry c i + 0x18) (leBytes 2 dsAborted ++ [1, 0]) [] false])

/-- The link and power states of the endpoint, and its reset: L1 is entered from an idle link and left for L0 or L0p; L0p
narrows the link to four lanes and widening gives back the trained lanes; D3hot stops the DMA channels; a trained link shows
its speed and width; and an endpoint reset gives every PEP register its reset value, forgets the host's requests and leaves no
pending vector but that of its own record (R435, R446, R448). -/
def Obligations.EndpointLinkFollowsItsStates : Prop :=
  ∀ s : State, s.canonical →
    (s.pep.aspmL1 = true → s.f F.PEP_STS_LSTATE = 0 → s.dmaBusy = false → s.irq = [] → Answers .l1Entry s fun t => t.f F.PEP_STS_LSTATE = 2) ∧
    (s.f F.PEP_STS_LSTATE = 2 → Answers .l1Exit s fun t =>
      t.f F.PEP_STS_LSTATE = (if s.f F.PEP_STS_WIDTH < s.pep.lanes then 1 else 0) ∧ t.f F.PEP_STS_WIDTH = s.f F.PEP_STS_WIDTH) ∧
    (s.f F.PEP_PM_L0P_EN = 1 → s.f F.PEP_STS_LSTATE = 0 → 1 < s.f F.PEP_STS_WIDTH → Answers .l0pNarrow s fun t =>
      t.f F.PEP_STS_LSTATE = 1 ∧ t.f F.PEP_STS_WIDTH = 1) ∧
    (s.f F.PEP_STS_LSTATE = 1 → s.pep.lanes < 16 → Answers .l0pWiden s fun t => t.f F.PEP_STS_LSTATE = 0 ∧ t.f F.PEP_STS_WIDTH = s.pep.lanes) ∧
    (s.f F.PEP_STS_D_STATE ≠ 3 → Answers .d3hotEntry s fun t => t.f F.PEP_STS_D_STATE = 3 ∧ ∀ c < 4, (t.dma c).desc = none) ∧
    (∀ (speed width : Fin 5) (cxl : Bool), s.pastStep12 = true → s.pep.heldDown = false → s.boot.perst = false → s.boot.pcie32 = false →
      speed ≠ 0 → width ∈ [1, 2, 4] → Answers (.endpointLinkUp speed width cxl) s fun t => t.f F.PEP_STS_LSTATE = 0 ∧
        t.f F.PEP_STS_SPEED = speed.val ∧ t.f F.PEP_STS_WIDTH = width.val ∧
        (t.f F.PEP_STS_CXL = 1 ↔ cxl = true ∧ speed = 4 ∧ 2 ≤ width.val)) ∧
    (∀ kind : EndpointKind, Answers (.endpointReset kind) s fun t => (∀ v ∈ t.irq, v = 0) ∧ t.f F.AO_CAUSE_FLR = 1 ∧ t.dram = s.dram ∧
      (∀ off, 0x0D00000 ≤ off → off < 0x0E00000 → off ≠ R.PEP_STS → t.reg off = regReset off) ∧
      (∀ c < 4, t.dma c = {}) ∧ (∀ o ∈ t.opens, ∀ h, o.host = some h → h.answered = true ∧ h.dma = none))

/-! ## Resets and start-up (chapter 20) -/

/-- The sources of a DEVICE reset that finds the device in service: each sets its cause bit; one that discards DRAM contents
asserts at once, clears requests, fences and interrupts, and begins an attempt at step 1 unless a pin or a hold keeps the
reset; one that keeps them waits for self-refresh first; and one whose policy or key does not admit it changes no mode
(R452 to R456, R459).

Power-on is a COLD reset: the counter, the registers, memory, requests and fences take their reset values, the fuses and
the vault stay, SRC starts as the strap, and an attempt begins unless HRST_N is low (R452, R457). -/
def Obligations.PowerOnAndResetSourcesAct : Prop :=
  (
    ∀ s : State, s.canonical → s.f F.AO_BOOT_STATE = 2 → s.boot.shake = none →
      let cleared (t : State) : Prop := t.f F.AO_BOOT_DRAM_VALID = 0 ∧ t.opens = [] ∧ t.fences = [] ∧ t.irq = [] ∧ t.count = s.count ∧ t.boot.keep = false
      let begun (t : State) : Prop := cleared t ∧ t.f F.AO_BOOT_STATE = 1 ∧ t.f F.AO_BOOT_STEP = 1
      let held (t : State) : Prop := cleared t ∧ t.f F.AO_BOOT_STATE = 0
      let waits (t : State) : Prop := t.boot.shake = some s.count ∧ t.f F.AO_BOOT_STATE = 2 ∧ t.opens = s.opens ∧ t.fences = s.fences
      let keeps : Prop := s.f F.AO_BOOT_DRAM_VALID = 1 ∧ s.dramCtl.selfRefresh = false
      (s.f F.AO_RST_POLICY_KEEP_HRST = 0 → Answers .hrstAssert s fun t => t.f F.AO_CAUSE_HRST = 1 ∧ held t ∧ t.boot.hrst = true) ∧
      (s.f F.AO_RST_POLICY_KEEP_HRST = 1 → keeps → Answers .hrstAssert s fun t => t.f F.AO_CAUSE_HRST = 1 ∧ waits t ∧ t.boot.hrst = true) ∧
      (∀ (d : Fin 2) (x : Int),
        (atLeastC x (s.f F.AO_THERM_TRIP_C) = true → Answers (.dieThermalTrip d x) s fun t => t.f F.AO_CAUSE_THERMAL = 1 ∧ held t ∧
          t.boot.holdUntil = some (s.count + 1000000 * s.f F.AO_THERM_HOLD_MS)) ∧
        (atLeastC x (s.f F.AO_THERM_TRIP_C) = false → Answers (.dieThermalTrip d x) s fun t => t = { s with regs := t.regs, dieTemp := t.dieTemp })) ∧
      (s.boot.hrst = false → s.boot.holdUntil = none →
        (s.pastStep12 = true → s.f F.AO_RST_POLICY_PERST_SCOPE = 0 → s.f F.AO_RST_POLICY_KEEP_PERST = 0 → Answers .perstAssert s fun t =>
          t.f F.AO_CAUSE_PERST = 1 ∧ begun t ∧ t.boot.perst = true) ∧
        (s.f F.PAIR_CFG2_ACCEPT_RESET = 1 → s.f F.AO_RST_POLICY_KEEP_PARTNER = 0 → Answers .partnerResetRx s fun t =>
          t.f F.AO_CAUSE_PARTNER = 1 ∧ begun t) ∧
        (Answers (.softwareReset 0x5A false) s fun t => t.f F.AO_CAUSE_SOFTWARE = 1 ∧ begun t) ∧
        (keeps → Answers (.softwareReset 0x5A true) s fun t => t.f F.AO_CAUSE_SOFTWARE = 1 ∧ waits t)) ∧
      (s.pastStep12 = true → s.f F.AO_RST_POLICY_PERST_SCOPE = 1 → Answers .perstAssert s fun t => t.f F.AO_CAUSE_PERST = 1 ∧
        t.f F.AO_BOOT_STATE = 2 ∧ t.fences = s.fences ∧ t.dram = s.dram ∧ ∀ o ∈ t.opens, ∀ h, o.host = some h → h.answered = true) ∧
      (s.pastStep12 = false → Answers .perstAssert s fun t => t = { s with boot := { s.boot with perst := true } }) ∧
      (s.f F.PAIR_CFG2_ACCEPT_RESET = 0 → Answers .partnerResetRx s fun t => t.f F.AO_BOOT_STATE = 2 ∧ t.opens = s.opens ∧ t.dram = s.dram) ∧
      (∀ (key : Byte) (keep : Bool), key ≠ 0x5A → exec (.softwareReset key keep) s = .next s)) ∧
  (
    ∀ (bootSrc clkMode : Fin 4) (nor : Bytes) (perst : Bool) (s : State),
      let cold (t : State) : Prop := t.count = 0 ∧ t.dram = [] ∧ t.stores = [] ∧ t.opens = [] ∧ t.fences = [] ∧ t.cores = [] ∧
        t.mgmt.fuses = s.mgmt.fuses ∧ t.mgmt.nor = some nor ∧ t.f F.AO_STRAPS_BOOT_SRC = bootSrc.val ∧ t.f F.AO_STRAPS_CLK_MODE = clkMode.val ∧
        t.f F.AO_BOOT_SRC = bootSrc.val ∧ t.boot.perst = perst
      Answers (.powerOn bootSrc clkMode nor false perst) s (fun t => cold t ∧ t.f F.AO_BOOT_STATE = 1 ∧ t.f F.AO_BOOT_STEP = 1) ∧
      Answers (.powerOn bootSrc clkMode nor true perst) s (fun t => cold t ∧ t.f F.AO_BOOT_STATE = 0 ∧ t.boot.hrst = true))

/-- The releases and the handshake: HRST_N high and the end of a cool thermal hold begin an attempt, a hot hold repeats,
PERST# high starts the endpoint's link, a cluster without open writes reports self-refresh, the last report asserts a reset
that keeps DRAM contents, and 50 µs without all reports one that discards them (R452, R454, R465). -/
def Obligations.HeldResetsAreReleased : Prop :=
  ∀ s : State, s.canonical →
    (s.boot.hrst = true → s.f F.AO_BOOT_STATE = 0 → s.boot.shake = none → s.boot.holdUntil = none → Answers .hrstDeassert s fun t =>
      t.boot.hrst = false ∧ t.f F.AO_BOOT_STATE = 1 ∧ t.f F.AO_BOOT_STEP = 1 ∧ t.boot.stepAt = s.count) ∧
    (∀ k, s.boot.holdUntil = some k → k ≤ s.count → s.boot.hrst = false →
      (∀ a b : Int, a + 20 ≤ ((4 * s.f F.AO_THERM_TRIP_C : Nat) : Int) → b + 20 ≤ ((4 * s.f F.AO_THERM_TRIP_C : Nat) : Int) →
        Answers (.thermalHoldEnd a b []) s fun t => t.boot.holdUntil = none ∧ t.f F.AO_BOOT_STATE = 1 ∧ t.f F.AO_BOOT_STEP = 1) ∧
      (∀ (a b : Int) (l : List (Fin 104 × Int)), ((4 * s.f F.AO_THERM_TRIP_C : Nat) : Int) < a + 20 →
        Answers (.thermalHoldEnd a b l) s fun t => t.boot.holdUntil = some (s.count + 1000000 * s.f F.AO_THERM_HOLD_MS) ∧
          t.f F.AO_BOOT_STATE = s.f F.AO_BOOT_STATE)) ∧
    Answers .perstDeassert s (fun t => t.boot.perst = false ∧
      (s.pastStep12 = true → s.pep.heldDown = false → t.out = s.out ++ [.pcieLink 4])) ∧
    (∀ c : Fin 8, s.boot.shake.isSome = true → s.writesOpen c = false → s.clusterFenced c = false →
      ((∃ x ∈ s.shakeClusters, x ≠ c.val ∧ x ∉ s.dramCtl.reported) → Answers (.selfRefreshReady c) s fun t =>
        c.val ∈ t.dramCtl.reported ∧ t.f (F.CAN_DSTS_STATE c) = 5 ∧ t.boot = s.boot) ∧
      ((∀ x ∈ s.shakeClusters, x = c.val ∨ x ∈ s.dramCtl.reported) → Answers (.selfRefreshReady c) s fun t =>
        t.dram = s.dram ∧ t.boot.keep = true ∧ t.boot.shake = none ∧ t.f F.AO_CAUSE_KEPT = 1 ∧
          t.f F.AO_BOOT_DRAM_VALID = s.f F.AO_BOOT_DRAM_VALID ∧ t.opens = [] ∧ t.fences = [])) ∧
    (∀ k, s.boot.shake = some k → k + 50000 ≤ s.count → (∃ x ∈ s.shakeClusters, x ∉ s.dramCtl.reported) →
      Answers .keepFailed s fun t => t.f F.AO_BOOT_DRAM_VALID = 0 ∧ t.boot.keep = false ∧ t.boot.shake = none ∧ t.opens = [])

/-- Start-up: the action of a step ends it as passed and begins the next; step 9 leaves the stores zero; after step 24 the
device is in service. A step's first failure begins another attempt, and its second halts start-up unless the step is
optional (R462, R463, R466). -/
def Obligations.StartUpGoesFromStepToStep : Prop :=
  ∀ (env : StartEnv) (s : State), s.canonical → s.f F.AO_BOOT_STATE = 1 → s.boot.shake = none →
    (∀ k, s.f F.AO_BOOT_STEP = k →
      (k ∈ [3, 4, 5, 6, 7, 8, 9] ∨ k = 1 ∧ s.f F.AO_STRAPS_BOOT_SRC ≠ 0 ∧ s.f F.AO_STRAPS_CLK_MODE ≠ 0 → s.boot.fenceFirst = [] →
        Answers (.startupStepDone env) s fun t => t.f F.AO_BOOT_STEP = k + 1 ∧ t.f (F.AO_BOOT_STEP_PROGRESS k) = 2 ∧
          t.f (F.AO_BOOT_STEP_PROGRESS (k + 1)) = 1 ∧ t.boot.stepAt = s.count ∧ t.f F.AO_BOOT_STATE = 1 ∧ (k = 9 → t.stores = [])) ∧
      (k = 24 → Answers (.startupStepDone env) s fun t => t.f F.AO_BOOT_STATE = 2 ∧ t.f F.AO_BOOT_STEP = 0 ∧ t.inService = true ∧
        t.f (F.AO_BOOT_STEP_PROGRESS 24) = 2) ∧
      (∀ units : List Nat, k ∈ [1, 3, 4, 5, 6, 7, 9, 11] →
        (s.f (F.AO_BOOT_STEP_FAILS k) = 0 → s.boot.hrst = false → s.boot.holdUntil = none → s.boot.keep = false →
          Answers (.startupStepLimit units env) s fun t => t.f F.AO_BOOT_STATE = 1 ∧ t.f F.AO_BOOT_STEP = 1 ∧
            t.f (F.AO_BOOT_STEP_FAILS k) = 1 ∧ t.f F.AO_CAUSE_RESTART = 1 ∧ t.f F.AO_BOOT_ATTEMPTS = min 255 (s.f F.AO_BOOT_ATTEMPTS + 1)) ∧
        (s.f (F.AO_BOOT_STEP_FAILS k) = 1 → Answers (.startupStepLimit units env) s fun t =>
          t.f F.AO_BOOT_STATE = 3 ∧ t.f F.AO_BOOT_HALT_CODE = 0x0C01 ∧ t.f (F.AO_BOOT_STEP_PROGRESS k) = 3)))

/-- The reset of one block: it is refused for a unit that is not there, out of service, on a fenced die or while another
runs; otherwise it waits for its unit to be idle, and then resets it with RESULT 0, or with RESULT 1 once its time has
passed; a core's reset ends its fences (R460, R461).

One run of the regulator shows the package power; with nothing over its limit and nothing lowered the clocks stay; an
engine domain over its limit takes its die's engine clock down one step of 135 MHz (R470). -/
def Obligations.BlockResetsAndRegulatorWork : Prop :=
  (
    ∀ s : State, s.canonical →
      (∀ (kind : Fin 16) (unit : Byte), s.boot.blk = none →
        (unit.toNat < blkUnits kind → s.inService = true → s.blkOnFencedDie kind unit.toNat = false → kind.val ∉ [3, 5, 7, 11] →
          Answers (.blockReset kind unit) s fun t => t.boot.blk = some ⟨kind, unit.toNat, s.count⟩ ∧ t.f F.AO_BLK_RST_GO = 1 ∧
            t.f F.AO_CAUSE_BLOCK = 1 ∧ t.f F.AO_BLK_RST_KIND = kind.val ∧ t.f F.AO_BLK_RST_UNIT = unit.toNat ∧ t.fences = s.fences) ∧
        (blkUnits kind ≤ unit.toNat ∨ s.inService = false ∨ s.blkOnFencedDie kind unit.toNat = true →
          Answers (.blockReset kind unit) s fun t => t.f F.AO_BLK_RST_RESULT = 2 ∧ t.boot = s.boot ∧ ∀ o, o ≠ R.AO_BLK_RST → t.reg o = s.reg o)) ∧
      (∀ b : BlkReset, s.boot.blk = some b →
        (∀ (kind : Fin 16) (unit : Byte), Answers (.blockReset kind unit) s fun t => t.f F.AO_BLK_RST_RESULT = 2 ∧ t.boot = s.boot) ∧
        (s.blkIdle b.kind b.unit = true → b.kind ∈ [1, 4, 6, 8, 9, 10] → Answers .blockResetIdle s fun t =>
          t.boot.blk = none ∧ t.f F.AO_BLK_RST_GO = 0 ∧ t.f F.AO_BLK_RST_RESULT = 0 ∧
            (b.kind = 1 → FenceUnit.core b.unit ∉ t.fences ∧ FenceUnit.engine b.unit ∉ t.fences)) ∧
        (∀ cuts, s.count ≥ b.since + 1000 * s.f F.AO_BLK_RST_TIMEOUT_US → s.blkIdle b.kind b.unit = false → b.kind ∈ [1, 4, 6, 8, 9, 10] →
          Answers (.blkRstTimeout cuts) s fun t => t.boot.blk = none ∧ t.f F.AO_BLK_RST_GO = 0 ∧ t.f F.AO_BLK_RST_RESULT = 1))) ∧
  (
    ∀ (e : PowerEnv) (s : State), s.canonical → e.package ≤ 1500 → e.canopy ≤ 250 + s.f F.AO_PWR_HEAD_CAN_W →
      e.hot0 < ((4 * s.f F.AO_THERM_THROTTLE_C : Nat) : Int) → e.hot1 < ((4 * s.f F.AO_THERM_THROTTLE_C : Nat) : Int) →
      e.engine1 ≤ 460 + s.f F.AO_PWR_HEAD_ENG_W →
      (e.engine0 ≤ 460 + s.f F.AO_PWR_HEAD_ENG_W → s.boot.lowered = [] → s.boot.regulatedAt + 10000 ≤ s.count → Answers (.powerRegulate e) s fun t =>
        t.clocks = s.clocks ∧ t.f F.AO_PWR_PKG_W = e.package ∧ t.boot = { s.boot with regulatedAt := s.count }) ∧
      (460 + s.f F.AO_PWR_HEAD_ENG_W < e.engine0 → s.boot.lowered = [] → s.boot.regulatedAt + 10000 ≤ s.count → s.epoch.active.str.determinism.cycleExact = false →
        1350 + 135 ≤ s.clocks.engine0 → s.clocks.engine0 ≤ s.baseClocks.1 + 135 → s.clocks.fabric0 ≤ s.baseClocks.2 → 1200 ≤ s.clocks.fabric0 →
        Answers (.powerRegulate e) s fun t => t.clocks.engine0 = s.clocks.engine0 - 135 ∧ t.clocks.fabric0 = s.clocks.fabric0 ∧
          t.clocks.engine1 = s.clocks.engine1 ∧ 0 ∈ t.boot.lowered))

/-! ## Management and security (chapter 21) and boundary scan (chapter 22) -/

/-- The watchdog: a kick starts its period again, and once a period has passed without one the management domain resets: the
cause and event bits are set, and the stored firmware starts when its digest is the resident one (R475, R481).

Fuses: a command that is not refused is armed, its confirmation within 1 s blows the fuse and sets its event, a refused
one reports RESULT 2, and one without confirmation in time reports RESULT 3 (R480). -/
def Obligations.WatchdogAndFusesAct : Prop :=
  (
    ∀ s : State, s.canonical →
      Answers (.wdogKick 0xA5C3) s (fun t => t = { s with mgmt := { s.mgmt with wdogAt := s.count } }) ∧
      (∀ v : W16, v ≠ 0xA5C3 → exec (.wdogKick v) s = .next s) ∧
      (s.fwRuns = true → s.mgmt.wdogAt + 1000000 * s.f F.MGT_CFG_WDOG_MS ≤ s.count → Answers .watchdogExpire s fun t =>
        t.f F.AO_CAUSE_WATCHDOG = 1 ∧ t.bit F.MGT_STS_EVENTS 0 = true ∧ t.mgmt.fuseArm = none ∧ t.mgmt.report = none ∧ t.fences = s.fences ∧
        (s.residentDigest secMgmtFw = some (sm3 s.mgmt.fwStore) → t.f F.MGT_STS_FW_STATE = 1 ∧ t.mgmt.wdogAt = s.count) ∧
        (s.residentDigest secMgmtFw ≠ some (sm3 s.mgmt.fwStore) → t.f F.MGT_STS_FW_STATE = 2 ∧ t.bit F.MGT_STS_EVENTS 4 = true))) ∧
  (
    ∀ s : State, s.canonical →
      (∀ v : Byte,
        (s.fuseRefused 1 v.toNat = false →
          (Answers (.fuseRevoke v false) s fun t => t.mgmt.fuseArm = some ⟨1, v.toNat, s.count⟩ ∧ t.f F.MGT_FUSE_CMD_RESULT = 1 ∧ t.mgmt.fuses = s.mgmt.fuses) ∧
          (∀ k, s.mgmt.fuseArm = some ⟨1, v.toNat, k⟩ → s.count ≤ k + 1000000000 → Answers (.fuseRevoke v true) s fun t =>
            t.mgmt.fuseArm = none ∧ t.f F.MGT_FUSE_CMD_RESULT = 0 ∧ t.bit F.MGT_KEY_STS_REVOKED v.toNat = true ∧ t.bit F.MGT_STS_EVENTS 3 = true)) ∧
        (s.fuseRefused 2 v.toNat = false →
          (Answers (.fuseRaiseMin v false) s fun t => t.mgmt.fuseArm = some ⟨2, v.toNat, s.count⟩ ∧ t.f F.MGT_FUSE_CMD_RESULT = 1 ∧ t.mgmt.fuses = s.mgmt.fuses) ∧
          (∀ k, s.mgmt.fuseArm = some ⟨2, v.toNat, k⟩ → s.count ≤ k + 1000000000 → Answers (.fuseRaiseMin v true) s fun t =>
            t.mgmt.fuseArm = none ∧ t.f F.MGT_FUSE_CMD_RESULT = 0 ∧ t.f F.MGT_KEY_STS_MIN_SEC = v.toNat ∧ t.bit F.MGT_STS_EVENTS 3 = true)) ∧
        (s.fuseRefused 1 v.toNat = true → Answers (.fuseRevoke v false) s fun t => t.f F.MGT_FUSE_CMD_RESULT = 2 ∧ t.mgmt.fuses = s.mgmt.fuses)) ∧
      (∀ a, s.mgmt.fuseArm = some a → a.at_ + 1000000000 < s.count → Answers .fuseConfirmTimeout s fun t =>
        t.f F.MGT_FUSE_CMD_RESULT = 3 ∧ t.mgmt.fuseArm = none ∧ t.mgmt.fuses = s.mgmt.fuses))

/-- Updates of the boot NOR and attestation: an update runs unless a session is open, and programs an image that passes the
checks; a report is a snapshot for a proper destination, and when it is done its signed bytes are there (R483, R486).

The image service: a source opens a session while none of another source is open and an image is available, sets the
page, reads the image through the window and closes it; every access of another source is answered CONFLICT; a session
without an access for 1 s ends (R484, R485). -/
def Obligations.NorAttestationAndImageServiceAct : Prop :=
  (
    ∀ s : State, s.canonical →
      (s.mgmt.norUpdate = false →
        (s.sessionOpen = false → Answers .norUpdate s fun t => t.f F.MGT_NOR_CMD_GO = 1 ∧ t.mgmt.norUpdate = true) ∧
        (s.sessionOpen = true → Answers .norUpdate s fun t => t.f F.MGT_NOR_CMD_RESULT = 2 ∧ t.mgmt = s.mgmt)) ∧
      (∀ env : VaultEnv, s.mgmt.norUpdate = true → s.fwRuns = true →
        (s.f F.MGT_NOR_SRC_ADDR % 4096 ≠ 0 → Answers (.norUpdateDone env none) s fun t =>
          t.f F.MGT_NOR_CMD_GO = 0 ∧ t.f F.MGT_NOR_CMD_RESULT = 1 ∧ t.mgmt.nor = s.mgmt.nor ∧ t.mgmt.norUpdate = false) ∧
        (let a : PA := BitVec.ofNat 56 (s.f F.MGT_NOR_SRC_ADDR)
          let len := s.f F.MGT_NOR_LEN_LEN
          let r := s.readAny a len norReader env none
          a.toNat % 4096 = 0 → s.plainRange a (max 1 len) = true → len ≤ 2 ^ 26 → r.2.ready = true →
          r.1.checkForNor r.2.data r.2.poison a.toNat = .ok () → Answers (.norUpdateDone env none) s fun t =>
            t.mgmt.nor = some r.2.data ∧ t.f F.MGT_NOR_CMD_GO = 0 ∧ t.f F.MGT_NOR_CMD_RESULT = 0 ∧ t.bit F.MGT_STS_EVENTS 1 = true)) ∧
      (s.mgmt.report = none →
        (s.f F.MGT_ATT_ADDR_ADDR % 64 = 0 → s.plainRange (BitVec.ofNat 56 (s.f F.MGT_ATT_ADDR_ADDR)) 512 = true → Answers .attest s fun t =>
          t.f F.MGT_ATT_CMD_GO = 1 ∧ t.mgmt.report = some ⟨BitVec.ofNat 56 (s.f F.MGT_ATT_ADDR_ADDR), s.reportBytes⟩) ∧
        (s.f F.MGT_ATT_ADDR_ADDR % 64 ≠ 0 → Answers .attest s fun t => t.f F.MGT_ATT_CMD_RESULT = 1 ∧ t.mgmt = s.mgmt)) ∧
      (∀ r, s.mgmt.report = some r → s.fwRuns = true → Answers .attestDone s fun t =>
        let sig := (Config.attestSignature s.free (sm3 r.bytes)).take 64
        let u := s.writeRange r.addr (r.bytes ++ sig ++ List.replicate (64 - sig.length) 0) 0
        t.dram = u.dram ∧ t.stores = u.stores ∧ t.mgmt.report = none ∧ t.f F.MGT_ATT_CMD_GO = 0 ∧ t.f F.MGT_ATT_CMD_RESULT = 0 ∧
          t.bit F.MGT_STS_EVENTS 2 = true)) ∧
  (
    ∀ (src : Node) (s : State), s.canonical →
      (s.sessionOther src = false →
        (s.imageAvail = true → Answers (.sessionOpen src) s fun t => t.f F.MGT_IMG_SESSION_OPEN = 1 ∧ t.f F.MGT_IMG_SESSION_OWNER = src.toNat ∧
          t.mgmt.sessionAt = s.count ∧ t.out = s.out ++ [.ctrl src R.MGT_IMG_SESSION stOk []]) ∧
        (s.imageAvail = false → Answers (.sessionOpen src) s fun t => t = { s with out := s.out ++ [.ctrl src R.MGT_IMG_SESSION stDenied []] }) ∧
        (Answers (.sessionClose src) s fun t => t.f F.MGT_IMG_SESSION_OPEN = 0 ∧ t.f F.MGT_IMG_SESSION_OWNER = 0 ∧
          t.out = s.out ++ [.ctrl src R.MGT_IMG_SESSION stOk []]) ∧
        (∀ page : Fin 128, Answers (.imgPage src page) s fun t => t.f F.MGT_IMG_PAGE_PAGE = page.val ∧ t.out = s.out ++ [.ctrl src R.MGT_IMG_PAGE stOk []]) ∧
        (∀ (off : Fin 524288) (len : Fin 65), s.sessionOpen = true →
          524288 * s.f F.MGT_IMG_PAGE_PAGE + off.val + len.val < fieldLe (s.norBytes 0x10 8) 0 8 → Answers (.imgWinRead src off len) s fun t =>
            t.out = s.out ++ [.ctrl src (0x3080000 + off) stOk (s.norBytes (524288 * s.f F.MGT_IMG_PAGE_PAGE + off) len)] ∧
              t.mgmt.sessionAt = s.count ∧ t.regs = s.regs)) ∧
      (s.sessionOther src = true →
        (Answers (.sessionOpen src) s fun t => t = { s with out := s.out ++ [.ctrl src R.MGT_IMG_SESSION stConflict []] }) ∧
        (Answers (.sessionClose src) s fun t => t = { s with out := s.out ++ [.ctrl src R.MGT_IMG_SESSION stConflict []] }) ∧
        (∀ page : Fin 128, Answers (.imgPage src page) s fun t => t = { s with out := s.out ++ [.ctrl src R.MGT_IMG_PAGE stConflict []] })) ∧
      (s.sessionOpen = true → s.mgmt.sessionAt + 1000000000 ≤ s.count → Answers .imgServeEnd s fun t =>
        t.f F.MGT_IMG_SESSION_OPEN = 0 ∧ t.f F.MGT_IMG_SESSION_OWNER = 0))

/-- The I3C target: an index that Table 21-4 lists is selected and its register is read in eight bytes, a recovery write
resets the device or sets its boot source, and the common command codes answer and change the target's address and its
interrupt enable. The test access port goes from state to state, and shifts its register bit by bit (R487, R488, R503). -/
def Obligations.I3cTargetAndTestPortAnswer : Prop :=
  ∀ s : State, s.canonical →
    (s.i3cDriven = true →
      (∀ (index : W16) (data : Bytes), index.toNat ≠ i3cRecoveryIndex → s.fwRuns = true → (i3cRegister index.toNat).isSome = true →
        Answers (.i3cIndexWrite index data) s fun t => t.mgmt.i3cIndex = index.toNat ∧ t.mgmt.ibiPending = false ∧ t.regs = s.regs ∧ t.out = s.out) ∧
      (∀ v : W64, s.fwRuns = true → (i3cRegister s.mgmt.i3cIndex).bind s.readReg = some v → Answers .i3cRead s fun t =>
        t.out = s.out ++ [.i3c (leBytes 8 v.toNat)] ∧ t.regs = s.regs) ∧
      (∀ src : Byte, 1 ≤ src.toNat → src.toNat ≤ 3 → Answers (.i3cRecovery 0x5A 3 src) s fun t =>
        t.f F.AO_BOOT_SRC = src.toNat ∧ ∀ o, o ≠ R.AO_BOOT → t.reg o = s.reg o) ∧
      (∀ b0 b1 b2 : Byte, b0 ≠ 0x5A → Answers (.i3cRecovery b0 b1 b2) s fun t => t.regs = s.regs ∧ t.boot = s.boot) ∧
      (Answers (.i3cCcc (.enec true)) s fun t => t.mgmt.ibiEnabled = true) ∧
      (Answers (.i3cCcc (.disec true)) s fun t => t.mgmt.ibiEnabled = false) ∧
      (Answers (.i3cCcc .rstdaa) s fun t => t.mgmt.i3cAddr = 0) ∧
      (Answers (.i3cCcc .getpid) s fun t => t.out = s.out ++ [.i3c s.i3cPid]) ∧
      (∀ a : Fin 128, s.mgmt.i3cAddr = 0 → Answers (.i3cCcc (.setdasa 0x4C a)) s fun t => t.mgmt.i3cAddr = a.val ∧ t.out = s.out)) ∧
    (Answers (.boundaryScan .reset) s fun t => t = { s with tap := {} }) ∧
    (∀ (tms tdi : Bool) (balls : List Bool),
      (s.tap.state ≠ 4 → s.tap.state ≠ 11 → Answers (.boundaryScan (.clocks [(tms, tdi)] balls)) s fun t =>
        t.tap.state = tapNext s.tap.state tms ∧ t.out = s.out ∧ (s.tap.state = 3 → t.tap.scan = balls)) ∧
      (s.tap.state = 4 → ∀ b l, s.tap.scan = b :: l → Answers (.boundaryScan (.clocks [(tms, tdi)] balls)) s fun t =>
        t.tap.state = tapNext 4 tms ∧ t.tap.scan = l ++ [tdi] ∧ t.out = s.out ++ [.tdo [b]]))

/-! ## Memory, trust and the counter (chapters 1, 3, 11 and 13) -/

/-- A store of bytes changes its range and nothing else: in the stores space exactly the bytes stored, while no flip mask is
armed and the stores are not fenced, and nothing where they are; in a DRAM space without a cache only the code words of the grains that the range touches, and one whole grain
becomes its bytes with their check bytes (R268 to R271, R365). -/
def Obligations.StoringChangesOnlyItsRange : Prop :=
  ∀ (a : PA) (bs : Bytes) (tag : Tag) (s : State), s.canonical → offsetOf a + bs.length ≤ 2 ^ 52 →
    let t := s.writeRange a bs tag
    (spaceOf a = 4 → s.f F.LDG_FLIP_SEL_ARM = 0 → (∀ p ∈ pieces a bs.length, s.storeFenced (offsetOf p.1) = false) → t.dram = s.dram ∧ ∀ o, Sparse.get zeroByte t.stores o =
      if offsetOf a ≤ o ∧ o < offsetOf a + bs.length then bs.getD (o - offsetOf a) 0 else Sparse.get zeroByte s.stores o) ∧
    (spaceOf a = 4 → (∀ p ∈ pieces a bs.length, s.storeFenced (offsetOf p.1) = true) → t.stores = s.stores ∧ t.dram = s.dram) ∧
    (spaceOf a = 1 ∨ spaceOf a = 2 → t.stores = s.stores ∧
      (∀ k, (∀ p ∈ pieces a bs.length, ∀ l, s.loc (grainOf p.1) = some l →
          (k < rawKey l.unit l.data ∨ rawKey l.unit l.data + 128 ≤ k) ∧ (k < rawKey l.unit l.check ∨ rawKey l.unit l.check + 8 ≤ k)) →
        Sparse.get zeroByte t.dram k = Sparse.get zeroByte s.dram k) ∧
      (∀ l, a.toNat % 128 = 0 → bs.length = 128 → s.loc a = some l → s.unitFenced l.unit = false →
          s.dramCtl.reported.contains (clusterOfUnit l.unit) = false → s.f F.LDG_FLIP_SEL_ARM = 0 →
        t.getGrain l = (bs, rsCheck bs)))

/-- A source matches trust entry i when VALID is 1 and (SRC AND MASK) = (MATCH AND MASK); it holds a right exactly when some
entry that it matches gives it (R306). -/
def Obligations.TrustRightsAreTheOrOfTheEntriesMatched : Prop :=
  ∀ (s : State) (src : Node),
    (∀ i < 16, s.trustMatches i src = true ↔ s.f (F.POOL_TRUST_VALID i) = 1 ∧
      src.toNat &&& s.f (F.POOL_TRUST_MASK i) = s.f (F.POOL_TRUST_MATCH i) &&& s.f (F.POOL_TRUST_MASK i)) ∧
    (∀ right : Nat → Fld, s.trusted src right = true ↔ ∃ i < 16, s.f (right i) = 1 ∧ s.f (F.POOL_TRUST_VALID i) = 1 ∧
      src.toNat &&& s.f (F.POOL_TRUST_MASK i) = s.f (F.POOL_TRUST_MATCH i) &&& s.f (F.POOL_TRUST_MASK i))

/-- A read of GLB_COUNT returns the counter at the moment the read is accepted: a control request that waits for nothing is
answered with the present count, a request that is opened carries that count, and one that is served later still returns
it, from a link or from the host (R39). -/
def Obligations.CounterReadsAsAtAcceptance : Prop :=
  ∀ s : State, s.canonical → s.inService = true →
    (∀ q : Req, q.addr = poolAddr 8 R.GLB_COUNT → q.len = 8 → ((s.unstage .creqRead q).acceptCheck .creqRead q).2 = none →
      s.portActive q.port = true → s.fresh → (∀ o ∈ s.opens, mustFollow .creqRead q none o = false) →
      Answers (.creq false q) s fun t => t.opens = s.opens ∧
        ∃ m, t.sends q.port m ∧ m.ftype = .crsp ∧ m.dst = q.src ∧ m.txn = q.txn ∧ m.attr = stOk ∧
          m.payload = leBytes 4 8 ++ List.replicate 12 0 ++ leBytes 8 s.count) ∧
    (∀ (k : ReqKind) (q : Req) (w : Wait) (h : HostAcc), (s.openOf k q w).acceptedAt = s.count ∧ (s.hostOpenOf k q h).acceptedAt = s.count) ∧
    (∀ o : OpenReq, o.req.addr = poolAddr 8 R.GLB_COUNT → o.req.len = 8 →
      (o.kind = .rd ∨ o.kind = .creqRead → (s.serveControl o).2 = .done stOk 0 (leBytes 8 o.acceptedAt)) ∧
      (o.kind = .rd → (s.serveBar0 o).2 = .done stOk 0 (leBytes 8 o.acceptedAt)))
end

