-- ==== Sys2Proof/Laws/Sparse.lean ====
section
/-! SUPPORT. Sparse tables: a read after a write, and that every operation keeps the canonical form. -/

namespace Sys2Proof.Sparse

variable {α : Type} [DecidableEq α] {d : Nat → α}

/-- The canonical form of a tail: the keys lie above a bound. -/
theorem wfFrom_cons_iff (lo : Option Nat) (e : Nat × α) (t : List (Nat × α)) :
    wfFrom d lo (e :: t) = true ↔ (∀ b, lo = some b → b < e.1) ∧ e.2 ≠ d e.1 ∧ wfFrom d (some e.1) t = true := by
  cases lo <;> simp [wfFrom, Bool.and_eq_true, and_assoc]

theorem wfFrom_some_of {b : Nat} {lo : Option Nat} {m : List (Nat × α)} (h : wfFrom d lo m = true)
    (hb : ∀ e ∈ m, b < e.1) : wfFrom d (some b) m = true := by
  cases m with
  | nil => rfl
  | cons e t =>
    rw [wfFrom_cons_iff] at h ⊢
    exact ⟨fun x hx => (by cases hx; exact hb e (by simp)), h.2⟩

theorem lt_of_wfFrom {b : Nat} {m : List (Nat × α)} (h : wfFrom d (some b) m = true) : ∀ e ∈ m, b < e.1 := by
  induction m generalizing b with
  | nil => simp
  | cons e t ih =>
    rw [wfFrom_cons_iff] at h
    intro x hx
    have hb := h.1 b rfl
    rcases List.mem_cons.mp hx with rfl | hx
    · exact hb
    · exact hb.trans (ih h.2.2 x hx)

theorem wfFrom_weaken {b c : Nat} {m : List (Nat × α)} (hbc : c ≤ b) (h : wfFrom d (some b) m = true) :
    wfFrom d (some c) m = true :=
  wfFrom_some_of h fun e he => hbc.trans_lt (lt_of_wfFrom h e he)

theorem wfFrom_none_of {b : Nat} {m : List (Nat × α)} (h : wfFrom d (some b) m = true) : wfFrom d none m = true := by
  cases m with
  | nil => rfl
  | cons e t =>
    rw [wfFrom_cons_iff] at h ⊢
    exact ⟨fun x hx => (by cases hx), h.2⟩

theorem wfFrom_consEntry {lo : Option Nat} {k : Nat} {v : α} {t : List (Nat × α)} (hlo : ∀ b, lo = some b → b < k)
    (h : wfFrom d (some k) t = true) : wfFrom d lo (cons d k v t) = true := by
  unfold cons
  split
  · cases lo with
    | none => exact wfFrom_none_of h
    | some b => exact wfFrom_weaken (hlo b rfl).le h
  · rename_i hv
    exact (wfFrom_cons_iff ..).mpr ⟨hlo, hv, h⟩

theorem wfFrom_put {lo : Option Nat} {m : List (Nat × α)} {k : Nat} {v : α} (hlo : ∀ b, lo = some b → b < k)
    (h : wfFrom d lo m = true) : wfFrom d lo (put d m k v) = true := by
  induction m generalizing lo with
  | nil => exact wfFrom_consEntry hlo rfl
  | cons e t ih =>
    have h' := (wfFrom_cons_iff ..).mp h
    unfold put
    split
    · exact wfFrom_consEntry hlo ((wfFrom_cons_iff ..).mpr ⟨fun b hb => (by cases hb; assumption), h'.2⟩)
    · split
      · subst_vars
        exact wfFrom_consEntry hlo h'.2.2
      · exact (wfFrom_cons_iff ..).mpr ⟨h'.1, h'.2.1, ih (fun b hb => by cases hb; omega) h'.2.2⟩

/-- Writing one key keeps the canonical form. -/
theorem wf_put {m : List (Nat × α)} {k : Nat} {v : α} (h : wf d m = true) : wf d (put d m k v) = true :=
  wfFrom_put (fun _ hb => by cases hb) h

/-- Writing consecutive keys keeps the canonical form. -/
theorem wf_putList {m : List (Nat × α)} {k : Nat} {vs : List α} (h : wf d m = true) :
    wf d (putList d m k vs) = true := by
  induction vs generalizing m k with
  | nil => exact h
  | cons v t ih => exact ih (wf_put h)

/-- A part of a table in canonical form, by any test on entries, is in canonical form. -/
theorem wfFrom_filter {lo : Option Nat} {m : List (Nat × α)} (p : Nat × α → Bool) (h : wfFrom d lo m = true) :
    wfFrom d lo (m.filter p) = true := by
  induction m generalizing lo with
  | nil => rfl
  | cons e t ih =>
    have h' := (wfFrom_cons_iff ..).mp h
    by_cases hp : p e = true
    · rw [List.filter_cons_of_pos hp]
      exact (wfFrom_cons_iff ..).mpr ⟨h'.1, h'.2.1, ih h'.2.2⟩
    · rw [List.filter_cons_of_neg hp]
      cases lo with
      | none => exact wfFrom_none_of (ih h'.2.2)
      | some b => exact wfFrom_weaken (h'.1 b rfl).le (ih h'.2.2)

/-- Filtering keeps the canonical form. -/
theorem wf_filter {m : List (Nat × α)} (p : Nat × α → Bool) (h : wf d m = true) : wf d (m.filter p) = true :=
  wfFrom_filter p h

/-- Clearing a range of keys keeps the canonical form. -/
theorem wf_clear {m : List (Nat × α)} {lo hi : Nat} (h : wf d m = true) : wf d (clear lo hi m) = true := wf_filter _ h

/-- Dropping the keys of a test keeps the canonical form. -/
theorem wf_drop {m : List (Nat × α)} {p : Nat → Bool} (h : wf d m = true) : wf d (drop p m) = true := wf_filter _ h

omit [DecidableEq α] in
theorem get_eq_default_of_lt {m : List (Nat × α)} {k : Nat} (h : ∀ e ∈ m, k < e.1) : get d m k = d k := by
  induction m with
  | nil => rfl
  | cons e t ih =>
    have he := h e (by simp)
    rw [get, if_neg (by omega), ih fun x hx => h x (List.mem_cons_of_mem _ hx)]

theorem get_consEntry {k j : Nat} {v : α} {t : List (Nat × α)} (h : ∀ e ∈ t, k < e.1) :
    get d (cons d k v t) j = if j = k then v else get d t j := by
  unfold cons
  split
  · split
    · subst_vars; rw [get_eq_default_of_lt h]
    · rfl
  · rw [get]; simp only [eq_comm]

/-- A read after a write gives the value written, and a write leaves every other key alone. -/
theorem get_put {lo : Option Nat} {m : List (Nat × α)} {k j : Nat} {v : α} (h : wfFrom d lo m = true) :
    get d (put d m k v) j = if j = k then v else get d m j := by
  induction m generalizing lo with
  | nil => simp [put, get_consEntry, get]
  | cons e t ih =>
    have h' := (wfFrom_cons_iff ..).mp h
    have ht := lt_of_wfFrom h'.2.2
    unfold put
    split
    · rw [get_consEntry]
      intro x hx
      rcases List.mem_cons.mp hx with rfl | hx
      · assumption
      · exact (‹k < e.1›).trans (ht x hx)
    · split
      · subst_vars
        rw [get_consEntry ht]
        split
        · rfl
        · rw [get, if_neg fun hh => by simp_all]
      · rw [get, ih h'.2.2, get]
        split
        · subst_vars; rw [if_neg (by omega)]
        · rfl

/-- A read of the key just written. -/
theorem get_put_same {m : List (Nat × α)} {k : Nat} {v : α} (h : wf d m = true) : get d (put d m k v) k = v := by
  rw [get_put h, if_pos rfl]

/-- A read of another key than the one written needs no canonical form. -/
theorem get_put_ne {m : List (Nat × α)} {k j : Nat} {v : α} (hj : j ≠ k) : get d (put d m k v) j = get d m j := by
  have cons_ne : ∀ t : List (Nat × α), get d (cons d k v t) j = get d t j := by
    intro t
    unfold cons
    split
    · rfl
    · rw [get, if_neg (Ne.symm hj)]
  induction m with
  | nil => exact cons_ne []
  | cons e t ih =>
    unfold put
    split
    · exact cons_ne _
    · split
      · rw [cons_ne, get, if_neg fun hh => hj (by omega)]
      · rw [get, get, ih]

omit [DecidableEq α] in
/-- A read of a key that no filter removes. -/
theorem get_filter {m : List (Nat × α)} {p : Nat × α → Bool} {j : Nat} (hp : ∀ e ∈ m, e.1 = j → p e = true) :
    get d (m.filter p) j = get d m j := by
  induction m with
  | nil => rfl
  | cons e t ih =>
    have ih := ih fun x hx => hp x (List.mem_cons_of_mem _ hx)
    by_cases he : p e = true
    · rw [List.filter_cons_of_pos he, get, get, ih]
    · rw [List.filter_cons_of_neg he, get, if_neg fun hh => he (hp e (by simp) hh), ih]

end Sys2Proof.Sparse
end

