-- ==== Sys2Proof/Laws/Kept.lean ====
section
/-! SUPPORT. The relation that every operation of the device keeps with respect to a footprint, given as one number: bit i
for the part of number i, bit 60 where the counter may go back, bit 61 where fences may be cleared, bit 63 for any
register, and bit 64 + k for the registers of family k. -/

namespace Sys2Proof.Machine

/-- The number of a part. -/
def Part.idx : Part → Nat
  | .count => 0
  | .regs => 1
  | .dram => 2
  | .stores => 3
  | .storePoison => 4
  | .storeParity => 5
  | .srcRecs => 6
  | .fences => 7
  | .epoch => 8
  | .ports => 9
  | .optics => 10
  | .tokens => 11
  | .opens => 12
  | .nextId => 13
  | .own => 14
  | .nextTxn => 15
  | .sync => 16
  | .canopy => 17
  | .integ => 18
  | .dramCtl => 19
  | .vault => 20
  | .installs => 21
  | .baseCache0 => 22
  | .baseCache1 => 23
  | .cores => 24
  | .accs => 25
  | .exacts => 26
  | .silent => 27
  | .pair => 28
  | .plans => 29
  | .stalls => 30
  | .pool => 31
  | .mint => 32
  | .tellers => 33
  | .clocks => 34
  | .boot => 35
  | .mgmt => 36
  | .pep => 37
  | .tap => 38
  | .irq => 39
  | .deniedAt => 40
  | .dieTemp => 41
  | .railMv => 42
  | .free => 43
  | .out => 44
  | .queue => 45

/-- Every bit of one footprint is set in another. -/
def Within (a M : Nat) : Prop := a &&& M = a

theorem Within.bit {a M : Nat} (h : Within a M) (k : Nat) (hk : a.testBit k = true) : M.testBit k = true := by
  have := congrArg (fun n => n.testBit k) h
  simp only [Nat.testBit_and, hk, Bool.true_and] at this
  exact this

theorem Within.sub {a b M : Nat} (h : Within a M) (hb : b &&& a = b) : Within b M := by
  unfold Within at *
  apply Nat.eq_of_testBit_eq
  intro k
  have h1 := congrArg (fun n => n.testBit k) h
  have h2 := congrArg (fun n => n.testBit k) hb
  simp only [Nat.testBit_and] at *
  revert h1 h2
  cases b.testBit k <;> cases a.testBit k <;> cases M.testBit k <;> simp

theorem Within.rfl' {a : Nat} : Within a a := Nat.and_self a

/-- Whether a register may change under a footprint. -/
def Reach (M off : Nat) : Prop := M.testBit 63 = true ∨ ∃ k, M.testBit (64 + k) = true ∧ (family k).has off

/-- What holds from a state to a later one under a footprint: parts and registers outside it agree, tables in canonical form
stay so, the counter does not go back, fences stay, what has been sent stays sent, and request numbers stay fresh. -/
structure Kept (M : Nat) (s t : State) : Prop where
  same : ∀ p : Part, M.testBit p.idx = false → p.same s t
  table : ∀ p : Part, p.canonical s = true → p.canonical t = true
  reg : ∀ off, ¬ Reach M off → t.reg off = s.reg off
  count : M.testBit 60 = false → s.count ≤ t.count
  fences : M.testBit 61 = false → ∀ u ∈ s.fences, u ∈ t.fences
  out : ∃ l, t.out = s.out ++ l
  nextId : s.nextId ≤ t.nextId
  fresh : s.fresh → t.fresh

/-- The same for what carries a state. -/
def KeptP {β : Type} (M : Nat) (s : State) (p : State × β) : Prop := Kept M s p.1
def KeptLoads (M : Nat) (s : State) (p : Loads) : Prop := Kept M s p.st
def KeptSvcDone (M : Nat) (s : State) (p : SvcDone) : Prop := Kept M s p.st
def KeptCloseAcc (M : Nat) (s : State) (p : CloseAcc) : Prop := Kept M s p.st
def KeptKEnv (M : Nat) (s : State) (p : KEnv) : Prop := Kept M s p.st
def KeptWeightsOut (M : Nat) (s : State) (p : WeightsOut) : Prop := Kept M s p.st
def KeptO (M : Nat) (s : State) (o : Option State) : Prop := ∀ y, o = some y → Kept M s y
def KeptQ {β : Type} (M : Nat) (s : State) (o : Option (State × β)) : Prop := ∀ y, o = some y → KeptP M s y

variable {M : Nat} {s0 s x : State} {α β γ : Type}

theorem KeptP.st {p : State × β} (h : KeptP M s0 p) : Kept M s0 p.1 := h
theorem KeptLoads.st {p : Loads} (h : KeptLoads M s0 p) : Kept M s0 p.st := h
theorem KeptSvcDone.st {p : SvcDone} (h : KeptSvcDone M s0 p) : Kept M s0 p.st := h
theorem KeptCloseAcc.st {p : CloseAcc} (h : KeptCloseAcc M s0 p) : Kept M s0 p.st := h
theorem KeptKEnv.st {p : KEnv} (h : KeptKEnv M s0 p) : Kept M s0 p.st := h
theorem KeptWeightsOut.st {p : WeightsOut} (h : KeptWeightsOut M s0 p) : Kept M s0 p.st := h
theorem Kept.pair {a : State} {b : β} (h : Kept M s0 a) : KeptP M s0 (a, b) := h
theorem Kept.loads {a : Option AnyRead} {b : Option PA} (h : Kept M s0 s) : KeptLoads M s0 (Loads.mk s a b) := h

theorem Kept.refl : Kept M s s where
  same p _ := by cases p <;> rfl
  table _ h := h
  reg _ _ := rfl
  count _ := Nat.le_refl _
  fences _ _ h := h
  out := ⟨[], (List.append_nil _).symm⟩
  nextId := Nat.le_refl _
  fresh h := h

theorem false_of_bit {k : Nat} {P : Prop} (h : M.testBit k = true) (h' : M.testBit k = false) : P := by simp_all

theorem Kept.in_count {v} (hm : M.testBit 0 = true) (h : Kept M s0 x) (hw : x.count ≤ v) :
    Kept M s0 { x with count := v } := by
  refine ⟨fun p hp => ?_, fun p hp => ?_, h.reg, fun hc => (h.count hc).trans hw, h.fences, h.out, h.nextId, h.fresh⟩
  · cases p <;> first | exact h.same _ hp | exact false_of_bit hm hp
  · cases p <;> exact h.table _ hp

theorem Kept.in_dram {v} (hm : M.testBit 2 = true) (h : Kept M s0 x) (hw1 : Sparse.wf zeroByte x.dram = true → Sparse.wf zeroByte v = true) :
    Kept M s0 { x with dram := v } := by
  refine ⟨fun p hp => ?_, fun p hp => ?_, h.reg, h.count, h.fences, h.out, h.nextId, h.fresh⟩
  · cases p <;> first | exact h.same _ hp | exact false_of_bit hm hp
  · cases p <;> first | exact hw1 (h.table .dram hp) | exact h.table _ hp

theorem Kept.in_stores {v} (hm : M.testBit 3 = true) (h : Kept M s0 x) (hw1 : Sparse.wf zeroByte x.stores = true → Sparse.wf zeroByte v = true) :
    Kept M s0 { x with stores := v } := by
  refine ⟨fun p hp => ?_, fun p hp => ?_, h.reg, h.count, h.fences, h.out, h.nextId, h.fresh⟩
  · cases p <;> first | exact h.same _ hp | exact false_of_bit hm hp
  · cases p <;> first | exact hw1 (h.table .stores hp) | exact h.table _ hp

theorem Kept.in_storePoison {v} (hm : M.testBit 4 = true) (h : Kept M s0 x) (hw1 : Sparse.wf clearBit x.storePoison = true → Sparse.wf clearBit v = true) :
    Kept M s0 { x with storePoison := v } := by
  refine ⟨fun p hp => ?_, fun p hp => ?_, h.reg, h.count, h.fences, h.out, h.nextId, h.fresh⟩
  · cases p <;> first | exact h.same _ hp | exact false_of_bit hm hp
  · cases p <;> first | exact hw1 (h.table .storePoison hp) | exact h.table _ hp

theorem Kept.in_storeParity {v} (hm : M.testBit 5 = true) (h : Kept M s0 x) (hw1 : Sparse.wf clearBit x.storeParity = true → Sparse.wf clearBit v = true) :
    Kept M s0 { x with storeParity := v } := by
  refine ⟨fun p hp => ?_, fun p hp => ?_, h.reg, h.count, h.fences, h.out, h.nextId, h.fresh⟩
  · cases p <;> first | exact h.same _ hp | exact false_of_bit hm hp
  · cases p <;> first | exact hw1 (h.table .storeParity hp) | exact h.table _ hp

theorem Kept.in_srcRecs {v} (hm : M.testBit 6 = true) (h : Kept M s0 x) (hw1 : Sparse.wf noSrcRec x.srcRecs = true → Sparse.wf noSrcRec v = true) :
    Kept M s0 { x with srcRecs := v } := by
  refine ⟨fun p hp => ?_, fun p hp => ?_, h.reg, h.count, h.fences, h.out, h.nextId, h.fresh⟩
  · cases p <;> first | exact h.same _ hp | exact false_of_bit hm hp
  · cases p <;> first | exact hw1 (h.table .srcRecs hp) | exact h.table _ hp

theorem Kept.in_fences {v} (hm : M.testBit 7 = true) (h : Kept M s0 x) (hw : ∀ u ∈ x.fences, u ∈ v) :
    Kept M s0 { x with fences := v } := by
  refine ⟨fun p hp => ?_, fun p hp => ?_, h.reg, h.count, fun hf u hu => hw u (h.fences hf u hu), h.out, h.nextId, h.fresh⟩
  · cases p <;> first | exact h.same _ hp | exact false_of_bit hm hp
  · cases p <;> exact h.table _ hp

theorem Kept.in_epoch {v} (hm : M.testBit 8 = true) (h : Kept M s0 x) :
    Kept M s0 { x with epoch := v } := by
  refine ⟨fun p hp => ?_, fun p hp => ?_, h.reg, h.count, h.fences, h.out, h.nextId, h.fresh⟩
  · cases p <;> first | exact h.same _ hp | exact false_of_bit hm hp
  · cases p <;> exact h.table _ hp

theorem Kept.in_ports {v} (hm : M.testBit 9 = true) (h : Kept M s0 x) (hw1 : Sparse.wf portZero x.ports = true → Sparse.wf portZero v = true) :
    Kept M s0 { x with ports := v } := by
  refine ⟨fun p hp => ?_, fun p hp => ?_, h.reg, h.count, h.fences, h.out, h.nextId, h.fresh⟩
  · cases p <;> first | exact h.same _ hp | exact false_of_bit hm hp
  · cases p <;> first | exact hw1 (h.table .ports hp) | exact h.table _ hp

theorem Kept.in_optics {v} (hm : M.testBit 10 = true) (h : Kept M s0 x) (hw1 : Sparse.wf noOptic x.optics = true → Sparse.wf noOptic v = true) :
    Kept M s0 { x with optics := v } := by
  refine ⟨fun p hp => ?_, fun p hp => ?_, h.reg, h.count, h.fences, h.out, h.nextId, h.fresh⟩
  · cases p <;> first | exact h.same _ hp | exact false_of_bit hm hp
  · cases p <;> first | exact hw1 (h.table .optics hp) | exact h.table _ hp

theorem Kept.in_tokens {v} (hm : M.testBit 11 = true) (h : Kept M s0 x) (hw1 : Sparse.wf noToken x.tokens = true → Sparse.wf noToken v = true) :
    Kept M s0 { x with tokens := v } := by
  refine ⟨fun p hp => ?_, fun p hp => ?_, h.reg, h.count, h.fences, h.out, h.nextId, h.fresh⟩
  · cases p <;> first | exact h.same _ hp | exact false_of_bit hm hp
  · cases p <;> first | exact hw1 (h.table .tokens hp) | exact h.table _ hp

theorem Kept.in_opens {v} (hm : M.testBit 12 = true) (h : Kept M s0 x) (hw : x.fresh → ∀ o ∈ v, o.id < x.nextId) :
    Kept M s0 { x with opens := v } := by
  refine ⟨fun p hp => ?_, fun p hp => ?_, h.reg, h.count, h.fences, h.out, h.nextId, fun hf => hw (h.fresh hf)⟩
  · cases p <;> first | exact h.same _ hp | exact false_of_bit hm hp
  · cases p <;> exact h.table _ hp

theorem Kept.in_nextId {v} (hm : M.testBit 13 = true) (h : Kept M s0 x) (hw : x.nextId ≤ v) :
    Kept M s0 { x with nextId := v } := by
  refine ⟨fun p hp => ?_, fun p hp => ?_, h.reg, h.count, h.fences, h.out, h.nextId.trans hw, fun hf o ho => Nat.lt_of_lt_of_le (h.fresh hf o ho) hw⟩
  · cases p <;> first | exact h.same _ hp | exact false_of_bit hm hp
  · cases p <;> exact h.table _ hp

theorem Kept.in_own {v} (hm : M.testBit 14 = true) (h : Kept M s0 x) :
    Kept M s0 { x with own := v } := by
  refine ⟨fun p hp => ?_, fun p hp => ?_, h.reg, h.count, h.fences, h.out, h.nextId, h.fresh⟩
  · cases p <;> first | exact h.same _ hp | exact false_of_bit hm hp
  · cases p <;> exact h.table _ hp

theorem Kept.in_nextTxn {v} (hm : M.testBit 15 = true) (h : Kept M s0 x) :
    Kept M s0 { x with nextTxn := v } := by
  refine ⟨fun p hp => ?_, fun p hp => ?_, h.reg, h.count, h.fences, h.out, h.nextId, h.fresh⟩
  · cases p <;> first | exact h.same _ hp | exact false_of_bit hm hp
  · cases p <;> exact h.table _ hp

theorem Kept.in_sync {v} (hm : M.testBit 16 = true) (h : Kept M s0 x) :
    Kept M s0 { x with sync := v } := by
  refine ⟨fun p hp => ?_, fun p hp => ?_, h.reg, h.count, h.fences, h.out, h.nextId, h.fresh⟩
  · cases p <;> first | exact h.same _ hp | exact false_of_bit hm hp
  · cases p <;> exact h.table _ hp

theorem Kept.in_canopy {v} (hm : M.testBit 17 = true) (h : Kept M s0 x) (hw1 : Sparse.wf noLine x.canopy.lines = true → Sparse.wf noLine v.lines = true) (hw2 : Sparse.wf natZero x.canopy.plru = true → Sparse.wf natZero v.plru = true) (hw3 : Sparse.wf noUse x.canopy.pages = true → Sparse.wf noUse v.pages = true) (hw4 : Sparse.wf noChecks x.canopy.tagCache = true → Sparse.wf noChecks v.tagCache = true) :
    Kept M s0 { x with canopy := v } := by
  refine ⟨fun p hp => ?_, fun p hp => ?_, h.reg, h.count, h.fences, h.out, h.nextId, h.fresh⟩
  · cases p <;> first | exact h.same _ hp | exact false_of_bit hm hp
  · cases p
    case canopy =>
      have hx := h.table .canopy hp
      simp only [Part.canonical, Bool.and_eq_true] at hx ⊢
      obtain ⟨⟨⟨a1, a2⟩, a3⟩, a4⟩ := hx
      exact ⟨⟨⟨hw1 a1, hw2 a2⟩, hw3 a3⟩, hw4 a4⟩
    all_goals exact h.table _ hp

theorem Kept.in_integ {v} (hm : M.testBit 18 = true) (h : Kept M s0 x) (hw1 : Sparse.wf ringZero x.integ.ring = true → Sparse.wf ringZero v.ring = true) (hw2 : Sparse.wf noScrub x.integ.scrub = true → Sparse.wf noScrub v.scrub = true) :
    Kept M s0 { x with integ := v } := by
  refine ⟨fun p hp => ?_, fun p hp => ?_, h.reg, h.count, h.fences, h.out, h.nextId, h.fresh⟩
  · cases p <;> first | exact h.same _ hp | exact false_of_bit hm hp
  · cases p
    case integ =>
      have hx := h.table .integ hp
      simp only [Part.canonical, Bool.and_eq_true] at hx ⊢
      obtain ⟨a1, a2⟩ := hx
      exact ⟨hw1 a1, hw2 a2⟩
    all_goals exact h.table _ hp

theorem Kept.in_dramCtl {v} (hm : M.testBit 19 = true) (h : Kept M s0 x) (hw1 : Sparse.wf noActs x.dramCtl.acts = true → Sparse.wf noActs v.acts = true) (hw2 : Sparse.wf noTimes x.dramCtl.ueTimes = true → Sparse.wf noTimes v.ueTimes = true) (hw3 : Sparse.wf noRefresh x.dramCtl.refresh = true → Sparse.wf noRefresh v.refresh = true) (hw4 : Sparse.wf natZero x.dramCtl.rates = true → Sparse.wf natZero v.rates = true) (hw5 : Sparse.wf noUpdate x.dramCtl.updates = true → Sparse.wf noUpdate v.updates = true) (hw6 : Sparse.wf clearBit x.dramCtl.trained = true → Sparse.wf clearBit v.trained = true) (hw7 : Sparse.wf noChecks x.dramCtl.checkCache = true → Sparse.wf noChecks v.checkCache = true) :
    Kept M s0 { x with dramCtl := v } := by
  refine ⟨fun p hp => ?_, fun p hp => ?_, h.reg, h.count, h.fences, h.out, h.nextId, h.fresh⟩
  · cases p <;> first | exact h.same _ hp | exact false_of_bit hm hp
  · cases p
    case dramCtl =>
      have hx := h.table .dramCtl hp
      simp only [Part.canonical, Bool.and_eq_true] at hx ⊢
      obtain ⟨⟨⟨⟨⟨⟨a1, a2⟩, a3⟩, a4⟩, a5⟩, a6⟩, a7⟩ := hx
      exact ⟨⟨⟨⟨⟨⟨hw1 a1, hw2 a2⟩, hw3 a3⟩, hw4 a4⟩, hw5 a5⟩, hw6 a6⟩, hw7 a7⟩
    all_goals exact h.table _ hp

theorem Kept.in_vault {v} (hm : M.testBit 20 = true) (h : Kept M s0 x) (hw1 : Sparse.wf zeroByte x.vault.mem = true → Sparse.wf zeroByte v.mem = true) (hw2 : Sparse.wf clearBit x.vault.poison = true → Sparse.wf clearBit v.poison = true) (hw3 : Sparse.wf noMeta x.vault.metas = true → Sparse.wf noMeta v.metas = true) (hw4 : Sparse.wf noSeg x.vault.segs = true → Sparse.wf noSeg v.segs = true) (hw5 : Sparse.wf noBlock x.vault.blocks = true → Sparse.wf noBlock v.blocks = true) (hw6 : Sparse.wf noPages x.vault.opened = true → Sparse.wf noPages v.opened = true) (hw7 : Sparse.wf noTrack x.vault.ckpt = true → Sparse.wf noTrack v.ckpt = true) :
    Kept M s0 { x with vault := v } := by
  refine ⟨fun p hp => ?_, fun p hp => ?_, h.reg, h.count, h.fences, h.out, h.nextId, h.fresh⟩
  · cases p <;> first | exact h.same _ hp | exact false_of_bit hm hp
  · cases p
    case vault =>
      have hx := h.table .vault hp
      simp only [Part.canonical, Bool.and_eq_true] at hx ⊢
      obtain ⟨⟨⟨⟨⟨⟨a1, a2⟩, a3⟩, a4⟩, a5⟩, a6⟩, a7⟩ := hx
      exact ⟨⟨⟨⟨⟨⟨hw1 a1, hw2 a2⟩, hw3 a3⟩, hw4 a4⟩, hw5 a5⟩, hw6 a6⟩, hw7 a7⟩
    all_goals exact h.table _ hp

theorem Kept.in_installs {v} (hm : M.testBit 21 = true) (h : Kept M s0 x) :
    Kept M s0 { x with installs := v } := by
  refine ⟨fun p hp => ?_, fun p hp => ?_, h.reg, h.count, h.fences, h.out, h.nextId, h.fresh⟩
  · cases p <;> first | exact h.same _ hp | exact false_of_bit hm hp
  · cases p <;> exact h.table _ hp

theorem Kept.in_baseCache0 {v} (hm : M.testBit 22 = true) (h : Kept M s0 x) :
    Kept M s0 { x with baseCache0 := v } := by
  refine ⟨fun p hp => ?_, fun p hp => ?_, h.reg, h.count, h.fences, h.out, h.nextId, h.fresh⟩
  · cases p <;> first | exact h.same _ hp | exact false_of_bit hm hp
  · cases p <;> exact h.table _ hp

theorem Kept.in_baseCache1 {v} (hm : M.testBit 23 = true) (h : Kept M s0 x) :
    Kept M s0 { x with baseCache1 := v } := by
  refine ⟨fun p hp => ?_, fun p hp => ?_, h.reg, h.count, h.fences, h.out, h.nextId, h.fresh⟩
  · cases p <;> first | exact h.same _ hp | exact false_of_bit hm hp
  · cases p <;> exact h.table _ hp

theorem Kept.in_cores {v} (hm : M.testBit 24 = true) (h : Kept M s0 x) (hw1 : Sparse.wf coreZero x.cores = true → Sparse.wf coreZero v = true) :
    Kept M s0 { x with cores := v } := by
  refine ⟨fun p hp => ?_, fun p hp => ?_, h.reg, h.count, h.fences, h.out, h.nextId, h.fresh⟩
  · cases p <;> first | exact h.same _ hp | exact false_of_bit hm hp
  · cases p <;> first | exact hw1 (h.table .cores hp) | exact h.table _ hp

theorem Kept.in_accs {v} (hm : M.testBit 25 = true) (h : Kept M s0 x) (hw1 : Sparse.wf accZero x.accs = true → Sparse.wf accZero v = true) :
    Kept M s0 { x with accs := v } := by
  refine ⟨fun p hp => ?_, fun p hp => ?_, h.reg, h.count, h.fences, h.out, h.nextId, h.fresh⟩
  · cases p <;> first | exact h.same _ hp | exact false_of_bit hm hp
  · cases p <;> first | exact hw1 (h.table .accs hp) | exact h.table _ hp

theorem Kept.in_exacts {v} (hm : M.testBit 26 = true) (h : Kept M s0 x) (hw1 : Sparse.wf noAcc x.exacts = true → Sparse.wf noAcc v = true) :
    Kept M s0 { x with exacts := v } := by
  refine ⟨fun p hp => ?_, fun p hp => ?_, h.reg, h.count, h.fences, h.out, h.nextId, h.fresh⟩
  · cases p <;> first | exact h.same _ hp | exact false_of_bit hm hp
  · cases p <;> first | exact hw1 (h.table .exacts hp) | exact h.table _ hp

theorem Kept.in_silent {v} (hm : M.testBit 27 = true) (h : Kept M s0 x) (hw1 : Sparse.wf natZero x.silent.sel = true → Sparse.wf natZero v.sel = true) (hw2 : Sparse.wf natZero x.silent.sh = true → Sparse.wf natZero v.sh = true) :
    Kept M s0 { x with silent := v } := by
  refine ⟨fun p hp => ?_, fun p hp => ?_, h.reg, h.count, h.fences, h.out, h.nextId, h.fresh⟩
  · cases p <;> first | exact h.same _ hp | exact false_of_bit hm hp
  · cases p
    case silent =>
      have hx := h.table .silent hp
      simp only [Part.canonical, Bool.and_eq_true] at hx ⊢
      obtain ⟨a1, a2⟩ := hx
      exact ⟨hw1 a1, hw2 a2⟩
    all_goals exact h.table _ hp

theorem Kept.in_pair {v} (hm : M.testBit 28 = true) (h : Kept M s0 x) :
    Kept M s0 { x with pair := v } := by
  refine ⟨fun p hp => ?_, fun p hp => ?_, h.reg, h.count, h.fences, h.out, h.nextId, h.fresh⟩
  · cases p <;> first | exact h.same _ hp | exact false_of_bit hm hp
  · cases p <;> exact h.table _ hp

theorem Kept.in_plans {v} (hm : M.testBit 29 = true) (h : Kept M s0 x) :
    Kept M s0 { x with plans := v } := by
  refine ⟨fun p hp => ?_, fun p hp => ?_, h.reg, h.count, h.fences, h.out, h.nextId, h.fresh⟩
  · cases p <;> first | exact h.same _ hp | exact false_of_bit hm hp
  · cases p <;> exact h.table _ hp

theorem Kept.in_stalls {v} (hm : M.testBit 30 = true) (h : Kept M s0 x) :
    Kept M s0 { x with stalls := v } := by
  refine ⟨fun p hp => ?_, fun p hp => ?_, h.reg, h.count, h.fences, h.out, h.nextId, h.fresh⟩
  · cases p <;> first | exact h.same _ hp | exact false_of_bit hm hp
  · cases p <;> exact h.table _ hp

theorem Kept.in_pool {v} (hm : M.testBit 31 = true) (h : Kept M s0 x) (hw1 : Sparse.wf noVer x.pool.vers = true → Sparse.wf noVer v.vers = true) (hw2 : Sparse.wf noBucket x.pool.buckets = true → Sparse.wf noBucket v.buckets = true) (hw3 : Sparse.wf noSum x.pool.accs = true → Sparse.wf noSum v.accs = true) :
    Kept M s0 { x with pool := v } := by
  refine ⟨fun p hp => ?_, fun p hp => ?_, h.reg, h.count, h.fences, h.out, h.nextId, h.fresh⟩
  · cases p <;> first | exact h.same _ hp | exact false_of_bit hm hp
  · cases p
    case pool =>
      have hx := h.table .pool hp
      simp only [Part.canonical, Bool.and_eq_true] at hx ⊢
      obtain ⟨⟨a1, a2⟩, a3⟩ := hx
      exact ⟨⟨hw1 a1, hw2 a2⟩, hw3 a3⟩
    all_goals exact h.table _ hp

theorem Kept.in_mint {v} (hm : M.testBit 32 = true) (h : Kept M s0 x) (hw1 : Sparse.wf noAlloc x.mint.alloc = true → Sparse.wf noAlloc v.alloc = true) :
    Kept M s0 { x with mint := v } := by
  refine ⟨fun p hp => ?_, fun p hp => ?_, h.reg, h.count, h.fences, h.out, h.nextId, h.fresh⟩
  · cases p <;> first | exact h.same _ hp | exact false_of_bit hm hp
  · cases p <;> first | exact hw1 (h.table .mint hp) | exact h.table _ hp

theorem Kept.in_tellers {v} (hm : M.testBit 33 = true) (h : Kept M s0 x) (hw1 : Sparse.wf tellerZero x.tellers.st = true → Sparse.wf tellerZero v.st = true) (hw2 : Sparse.wf natZero x.tellers.reported = true → Sparse.wf natZero v.reported = true) :
    Kept M s0 { x with tellers := v } := by
  refine ⟨fun p hp => ?_, fun p hp => ?_, h.reg, h.count, h.fences, h.out, h.nextId, h.fresh⟩
  · cases p <;> first | exact h.same _ hp | exact false_of_bit hm hp
  · cases p
    case tellers =>
      have hx := h.table .tellers hp
      simp only [Part.canonical, Bool.and_eq_true] at hx ⊢
      obtain ⟨a1, a2⟩ := hx
      exact ⟨hw1 a1, hw2 a2⟩
    all_goals exact h.table _ hp

theorem Kept.in_clocks {v} (hm : M.testBit 34 = true) (h : Kept M s0 x) :
    Kept M s0 { x with clocks := v } := by
  refine ⟨fun p hp => ?_, fun p hp => ?_, h.reg, h.count, h.fences, h.out, h.nextId, h.fresh⟩
  · cases p <;> first | exact h.same _ hp | exact false_of_bit hm hp
  · cases p <;> exact h.table _ hp

theorem Kept.in_boot {v} (hm : M.testBit 35 = true) (h : Kept M s0 x) :
    Kept M s0 { x with boot := v } := by
  refine ⟨fun p hp => ?_, fun p hp => ?_, h.reg, h.count, h.fences, h.out, h.nextId, h.fresh⟩
  · cases p <;> first | exact h.same _ hp | exact false_of_bit hm hp
  · cases p <;> exact h.table _ hp

theorem Kept.in_mgmt {v} (hm : M.testBit 36 = true) (h : Kept M s0 x) :
    Kept M s0 { x with mgmt := v } := by
  refine ⟨fun p hp => ?_, fun p hp => ?_, h.reg, h.count, h.fences, h.out, h.nextId, h.fresh⟩
  · cases p <;> first | exact h.same _ hp | exact false_of_bit hm hp
  · cases p <;> exact h.table _ hp

theorem Kept.in_pep {v} (hm : M.testBit 37 = true) (h : Kept M s0 x) (hw1 : Sparse.wf cfgReset x.pep.config = true → Sparse.wf cfgReset v.config = true) (hw2 : Sparse.wf noMsix x.pep.msix = true → Sparse.wf noMsix v.msix = true) (hw3 : Sparse.wf noDma x.pep.dma = true → Sparse.wf noDma v.dma = true) :
    Kept M s0 { x with pep := v } := by
  refine ⟨fun p hp => ?_, fun p hp => ?_, h.reg, h.count, h.fences, h.out, h.nextId, h.fresh⟩
  · cases p <;> first | exact h.same _ hp | exact false_of_bit hm hp
  · cases p
    case pep =>
      have hx := h.table .pep hp
      simp only [Part.canonical, Bool.and_eq_true] at hx ⊢
      obtain ⟨⟨a1, a2⟩, a3⟩ := hx
      exact ⟨⟨hw1 a1, hw2 a2⟩, hw3 a3⟩
    all_goals exact h.table _ hp

theorem Kept.in_tap {v} (hm : M.testBit 38 = true) (h : Kept M s0 x) :
    Kept M s0 { x with tap := v } := by
  refine ⟨fun p hp => ?_, fun p hp => ?_, h.reg, h.count, h.fences, h.out, h.nextId, h.fresh⟩
  · cases p <;> first | exact h.same _ hp | exact false_of_bit hm hp
  · cases p <;> exact h.table _ hp

theorem Kept.in_irq {v} (hm : M.testBit 39 = true) (h : Kept M s0 x) :
    Kept M s0 { x with irq := v } := by
  refine ⟨fun p hp => ?_, fun p hp => ?_, h.reg, h.count, h.fences, h.out, h.nextId, h.fresh⟩
  · cases p <;> first | exact h.same _ hp | exact false_of_bit hm hp
  · cases p <;> exact h.table _ hp

theorem Kept.in_deniedAt {v} (hm : M.testBit 40 = true) (h : Kept M s0 x) (hw1 : Sparse.wf natZero x.deniedAt = true → Sparse.wf natZero v = true) :
    Kept M s0 { x with deniedAt := v } := by
  refine ⟨fun p hp => ?_, fun p hp => ?_, h.reg, h.count, h.fences, h.out, h.nextId, h.fresh⟩
  · cases p <;> first | exact h.same _ hp | exact false_of_bit hm hp
  · cases p <;> first | exact hw1 (h.table .deniedAt hp) | exact h.table _ hp

theorem Kept.in_dieTemp {v} (hm : M.testBit 41 = true) (h : Kept M s0 x) (hw1 : Sparse.wf natZero x.dieTemp = true → Sparse.wf natZero v = true) :
    Kept M s0 { x with dieTemp := v } := by
  refine ⟨fun p hp => ?_, fun p hp => ?_, h.reg, h.count, h.fences, h.out, h.nextId, h.fresh⟩
  · cases p <;> first | exact h.same _ hp | exact false_of_bit hm hp
  · cases p <;> first | exact hw1 (h.table .dieTemp hp) | exact h.table _ hp

theorem Kept.in_railMv {v} (hm : M.testBit 42 = true) (h : Kept M s0 x) (hw1 : Sparse.wf natZero x.railMv = true → Sparse.wf natZero v = true) :
    Kept M s0 { x with railMv := v } := by
  refine ⟨fun p hp => ?_, fun p hp => ?_, h.reg, h.count, h.fences, h.out, h.nextId, h.fresh⟩
  · cases p <;> first | exact h.same _ hp | exact false_of_bit hm hp
  · cases p <;> first | exact hw1 (h.table .railMv hp) | exact h.table _ hp

theorem Kept.in_free {v} (hm : M.testBit 43 = true) (h : Kept M s0 x) :
    Kept M s0 { x with free := v } := by
  refine ⟨fun p hp => ?_, fun p hp => ?_, h.reg, h.count, h.fences, h.out, h.nextId, h.fresh⟩
  · cases p <;> first | exact h.same _ hp | exact false_of_bit hm hp
  · cases p <;> exact h.table _ hp

theorem Kept.in_out {v} (hm : M.testBit 44 = true) (h : Kept M s0 x) (hw : ∃ l, v = x.out ++ l) :
    Kept M s0 { x with out := v } := by
  refine ⟨fun p hp => ?_, fun p hp => ?_, h.reg, h.count, h.fences, (by obtain ⟨l, hl⟩ := h.out; obtain ⟨r, hr⟩ := hw; exact ⟨l ++ r, by simp [hr, hl]⟩), h.nextId, h.fresh⟩
  · cases p <;> first | exact h.same _ hp | exact false_of_bit hm hp
  · cases p <;> exact h.table _ hp

/-! Lists of open requests whose numbers stay below the next. -/

theorem fresh_nil : x.fresh → ∀ o ∈ ([] : List OpenReq), o.id < x.nextId := fun _ _ h => nomatch h

theorem fresh_filter {p : OpenReq → Bool} : x.fresh → ∀ o ∈ x.opens.filter p, o.id < x.nextId :=
  fun h o ho => h o (List.mem_filter.mp ho).1

theorem fresh_append {q : OpenReq} (hq : q.id < x.nextId) : x.fresh → ∀ o ∈ x.opens ++ [q], o.id < x.nextId := by
  intro h o ho
  rcases List.mem_append.mp ho with h1 | h1
  · exact h o h1
  · rw [List.mem_singleton.mp h1]; exact hq

theorem fresh_map {g : OpenReq → OpenReq} (hg : ∀ o, (g o).id = o.id) : x.fresh → ∀ o ∈ x.opens.map g, o.id < x.nextId := by
  intro h o ho
  obtain ⟨q, hq, rfl⟩ := List.mem_map.mp ho
  rw [hg]; exact h q hq

/-- A write of a register that the footprint reaches. -/
theorem Kept.setReg {off : Nat} {v : W64} (hm : M.testBit 1 = true) (hr : Reach M off) (h : Kept M s0 x) :
    Kept M s0 (x.setReg off v) := by
  refine ⟨fun p hp => ?_, fun p hp => ?_, fun o ho => ?_, h.count, h.fences, h.out, h.nextId, h.fresh⟩
  · cases p <;> first | exact h.same _ hp | exact false_of_bit hm hp
  · cases p <;> first | exact Sparse.wf_put (h.table .regs hp) | exact h.table _ hp
  · rw [← h.reg o ho]
    exact Sparse.get_put_ne fun e => ho (e ▸ hr)

theorem Kept.setF {f : Fld} {v : Nat} (hm : M.testBit 1 = true) (hr : Reach M f.off) (h : Kept M s0 x) :
    Kept M s0 (x.setF f v) := h.setReg hm hr

theorem Kept.addF {f : Fld} {v : Nat} (hm : M.testBit 1 = true) (hr : Reach M f.off) (h : Kept M s0 x) :
    Kept M s0 (x.addF f v) := h.setReg hm hr

theorem Kept.satF {f : Fld} {v : Nat} (hm : M.testBit 1 = true) (hr : Reach M f.off) (h : Kept M s0 x) :
    Kept M s0 (x.satF f v) := h.setReg hm hr

theorem Kept.setBit {f : Fld} {i : Nat} {b : Bool} (hm : M.testBit 1 = true) (hr : Reach M f.off) (h : Kept M s0 x) :
    Kept M s0 (x.setBit f i b) := h.setReg hm hr

/-- A new register file in canonical form, where any register may change. -/
theorem Kept.in_regs {v} (hm : M.testBit 1 = true) (ha : M.testBit 63 = true) (h : Kept M s0 x)
    (hw : Sparse.wf regReset x.regs = true → Sparse.wf regReset v = true) : Kept M s0 { x with regs := v } := by
  refine ⟨fun p hp => ?_, fun p hp => ?_, fun o ho => absurd (.inl ha) ho, h.count, h.fences, h.out, h.nextId, h.fresh⟩
  · cases p <;> first | exact h.same _ hp | exact false_of_bit hm hp
  · cases p <;> first | exact hw (h.table .regs hp) | exact h.table _ hp

theorem Kept.clearRegs {lo hi : Nat} (hm : M.testBit 1 = true) (ha : M.testBit 63 = true) (h : Kept M s0 x) :
    Kept M s0 (x.clearRegs lo hi) := h.in_regs hm ha Sparse.wf_clear

/-! ## Control flow -/

theorem kept_ite {c : Prop} [Decidable c] {a b : State} (ha : Kept M s0 a) (hb : Kept M s0 b) :
    Kept M s0 (if c then a else b) := by split <;> assumption

theorem keptp_ite {c : Prop} [Decidable c] {a b : State × β} (ha : KeptP M s0 a) (hb : KeptP M s0 b) :
    KeptP M s0 (if c then a else b) := by split <;> assumption

theorem kepto_ite {c : Prop} [Decidable c] {a b : Option State} (ha : KeptO M s0 a) (hb : KeptO M s0 b) :
    KeptO M s0 (if c then a else b) := by split <;> assumption

theorem keptq_ite {c : Prop} [Decidable c] {a b : Option (State × β)} (ha : KeptQ M s0 a) (hb : KeptQ M s0 b) :
    KeptQ M s0 (if c then a else b) := by split <;> assumption

theorem kepto_none : KeptO M s0 none := fun _ h => by cases h
theorem keptq_none : KeptQ M s0 (none : Option (State × β)) := fun _ h => by cases h
theorem kepto_some (h : Kept M s0 s) : KeptO M s0 (some s) := fun _ e => by cases e; exact h
theorem keptq_some {p : State × β} (h : KeptP M s0 p) : KeptQ M s0 (some p) := fun _ e => by cases e; exact h

/-- Names a proof's statement as it stands. -/
theorem Kept.seal {p : Prop} (h : p) : p := h

theorem keptq_map {γ : Type} {o : Option γ} {f : γ → State × β} (h : ∀ i, KeptP M s0 (f i)) : KeptQ M s0 (o.map f) := by
  cases o with
  | none => exact fun _ hy => by cases hy
  | some i => exact fun _ hy => by cases hy; exact h i

theorem kepto_map {γ : Type} {o : Option γ} {f : γ → State} (h : ∀ i, Kept M s0 (f i)) : KeptO M s0 (o.map f) := by
  cases o with
  | none => exact fun _ hy => by cases hy
  | some i => exact fun _ hy => by cases hy; exact h i

theorem kepto_mapq {o : Option (State × β)} {f : State × β → State} (ho : KeptQ M s0 o)
    (h : ∀ y, KeptP M s0 y → Kept M s0 (f y)) : KeptO M s0 (o.map f) := by
  cases o with
  | none => exact fun _ hy => by cases hy
  | some i => exact fun _ hy => by cases hy; exact h i (ho i rfl)

theorem kepto_mapo {o : Option State} {f : State → State} (ho : KeptO M s0 o)
    (h : ∀ y, Kept M s0 y → Kept M s0 (f y)) : KeptO M s0 (o.map f) := by
  cases o with
  | none => exact fun _ hy => by cases hy
  | some i => exact fun _ hy => by cases hy; exact h i (ho i rfl)

theorem keptq_mapo {o : Option State} {f : State → State × β} (ho : KeptO M s0 o)
    (h : ∀ y, Kept M s0 y → KeptP M s0 (f y)) : KeptQ M s0 (o.map f) := by
  cases o with
  | none => exact fun _ hy => by cases hy
  | some i => exact fun _ hy => by cases hy; exact h i (ho i rfl)

theorem keptq_mapq {o : Option (State × γ)} {f : State × γ → State × β} (ho : KeptQ M s0 o)
    (h : ∀ y, KeptP M s0 y → KeptP M s0 (f y)) : KeptQ M s0 (o.map f) := by
  cases o with
  | none => exact fun _ hy => by cases hy
  | some i => exact fun _ hy => by cases hy; exact h i (ho i rfl)

theorem kept_getD {o : Option State} (ho : KeptO M s0 o) (h : Kept M s0 s) : Kept M s0 (o.getD s) := by
  cases o
  · exact h
  · exact ho _ rfl

theorem keptq_getD {o : Option (State × β)} {p : State × β} (ho : KeptQ M s0 o) (h : KeptP M s0 p) :
    KeptP M s0 (o.getD p) := by
  cases o
  · exact h
  · exact ho _ rfl

/-- A state taken out of a pair or an option by a pattern. -/
theorem Kept.fst {p : State × β} {a : State} {b : β} (e : p = (a, b)) (h : KeptP M s0 p) : Kept M s0 a := by
  subst e; exact h

theorem KeptO.get {o : Option State} {a : State} (e : o = some a) (h : KeptO M s0 o) : Kept M s0 a := h a e

theorem KeptQ.get {o : Option (State × β)} {p : State × β} (e : o = some p) (h : KeptQ M s0 o) : KeptP M s0 p := h p e

theorem kept_foldl {g : State → α → State} {l : List α} (hg : ∀ y a, Kept M s0 y → Kept M s0 (g y a)) (h : Kept M s0 s) :
    Kept M s0 (l.foldl g s) := by
  induction l generalizing s with
  | nil => exact h
  | cons a t ih => exact ih (hg _ _ h)

theorem keptp_foldl {g : State × β → α → State × β} {l : List α} {p : State × β}
    (hg : ∀ (y : State × β) a, KeptP M s0 y → KeptP M s0 (g y a)) (h : KeptP M s0 p) : KeptP M s0 (l.foldl g p) := by
  induction l generalizing p with
  | nil => exact h
  | cons a t ih => exact ih (hg _ _ h)

theorem keptLoads_foldl {g : Loads → α → Loads} {l : List α} {p : Loads}
    (hg : ∀ (y : Loads) a, KeptLoads M s0 y → KeptLoads M s0 (g y a)) (h : KeptLoads M s0 p) : KeptLoads M s0 (l.foldl g p) := by
  induction l generalizing p with
  | nil => exact h
  | cons a t ih => exact ih (hg _ _ h)

theorem keptCloseAcc_foldl {g : CloseAcc → α → CloseAcc} {l : List α} {p : CloseAcc}
    (hg : ∀ (y : CloseAcc) a, KeptCloseAcc M s0 y → KeptCloseAcc M s0 (g y a)) (h : KeptCloseAcc M s0 p) :
    KeptCloseAcc M s0 (l.foldl g p) := by
  induction l generalizing p with
  | nil => exact h
  | cons a t ih => exact ih (hg _ _ h)

theorem kepto_foldl {g : Option State → α → Option State} {l : List α} {p : Option State}
    (hg : ∀ (y : Option State) a, KeptO M s0 y → KeptO M s0 (g y a)) (h : KeptO M s0 p) : KeptO M s0 (l.foldl g p) := by
  induction l generalizing p with
  | nil => exact h
  | cons a t ih => exact ih (hg _ _ h)

theorem keptq_foldl {g : Option (State × β) → α → Option (State × β)} {l : List α} {p : Option (State × β)}
    (hg : ∀ (y : Option (State × β)) a, KeptQ M s0 y → KeptQ M s0 (g y a)) (h : KeptQ M s0 p) : KeptQ M s0 (l.foldl g p) := by
  induction l generalizing p with
  | nil => exact h
  | cons a t ih => exact ih (hg _ _ h)

theorem Kept.in_count_back {v} (hm : M.testBit 0 = true) (hb : M.testBit 60 = true) (h : Kept M s0 x) :
    Kept M s0 { x with count := v } := by
  refine ⟨fun p hp => ?_, fun p hp => ?_, h.reg, fun hc => false_of_bit hb hc, h.fences, h.out, h.nextId, h.fresh⟩
  · cases p <;> first | exact h.same _ hp | exact false_of_bit hm hp
  · cases p <;> exact h.table _ hp

theorem Kept.in_fences_clear {v} (hm : M.testBit 7 = true) (hb : M.testBit 61 = true) (h : Kept M s0 x) :
    Kept M s0 { x with fences := v } := by
  refine ⟨fun p hp => ?_, fun p hp => ?_, h.reg, h.count, fun hc => false_of_bit hb hc, h.out, h.nextId, h.fresh⟩
  · cases p <;> first | exact h.same _ hp | exact false_of_bit hm hp
  · cases p <;> exact h.table _ hp

theorem kept_dite {c : Prop} [Decidable c] {a : c → State} {b : ¬ c → State} (ha : ∀ h, Kept M s0 (a h)) (hb : ∀ h, Kept M s0 (b h)) :
    Kept M s0 (if h : c then a h else b h) := by
  split
  · exact ha _
  · exact hb _

theorem keptp_dite {c : Prop} [Decidable c] {a : c → State × β} {b : ¬ c → State × β} (ha : ∀ h, KeptP M s0 (a h)) (hb : ∀ h, KeptP M s0 (b h)) :
    KeptP M s0 (if h : c then a h else b h) := by
  split
  · exact ha _
  · exact hb _

theorem kepto_dite {c : Prop} [Decidable c] {a : c → Option State} {b : ¬ c → Option State} (ha : ∀ h, KeptO M s0 (a h)) (hb : ∀ h, KeptO M s0 (b h)) :
    KeptO M s0 (if h : c then a h else b h) := by
  split
  · exact ha _
  · exact hb _

theorem keptq_dite {c : Prop} [Decidable c] {a : c → Option (State × β)} {b : ¬ c → Option (State × β)} (ha : ∀ h, KeptQ M s0 (a h)) (hb : ∀ h, KeptQ M s0 (b h)) :
    KeptQ M s0 (if h : c then a h else b h) := by
  split
  · exact ha _
  · exact hb _

/-- The same for reads with a result, and for a message's work. -/
def KeptLP {β : Type} (M : Nat) (s : State) (p : Loads × β) : Prop := KeptLoads M s p.1
def KeptX {γ : Type} (M : Nat) (s : State) (x : Except γ SvcDone) : Prop := ∀ d, x = .ok d → KeptSvcDone M s d

theorem KeptLP.st {p : Loads × β} (h : KeptLP M s0 p) : KeptLoads M s0 p.1 := h
theorem KeptLP.pair {a : Loads} {b : β} (h : KeptLoads M s0 a) : KeptLP M s0 (a, b) := h
theorem KeptX.get {γ : Type} {d : SvcDone} (h : KeptX M s0 (Except.ok d : Except γ SvcDone)) : KeptSvcDone M s0 d := h d rfl
theorem keptx_error {γ : Type} {e : γ} : KeptX M s0 (Except.error e : Except γ SvcDone) := fun _ h => by cases h
theorem keptx_ok {γ : Type} {d : SvcDone} (h : KeptSvcDone M s0 d) : KeptX M s0 (Except.ok d : Except γ SvcDone) := fun _ e => by cases e; exact h

theorem keptlp_ite {c : Prop} [Decidable c] {a b : Loads × β} (ha : KeptLP M s0 a) (hb : KeptLP M s0 b) :
    KeptLP M s0 (if c then a else b) := by split <;> assumption

theorem keptlp_foldl {g : Loads × β → α → Loads × β} {l : List α} {p : Loads × β}
    (hg : ∀ (y : Loads × β) a, KeptLP M s0 y → KeptLP M s0 (g y a)) (h : KeptLP M s0 p) : KeptLP M s0 (l.foldl g p) := by
  induction l generalizing p with
  | nil => exact h
  | cons a t ih => exact ih (hg _ _ h)

theorem keptKEnv_foldl {g : KEnv → α → KEnv} {l : List α} {p : KEnv}
    (hg : ∀ (y : KEnv) a, KeptKEnv M s0 y → KeptKEnv M s0 (g y a)) (h : KeptKEnv M s0 p) :
    KeptKEnv M s0 (l.foldl g p) := by
  induction l generalizing p with
  | nil => exact h
  | cons a t ih => exact ih (hg _ _ h)

theorem keptKEnv_ite {c : Prop} [Decidable c] {a b : KEnv} (ha : KeptKEnv M s0 a) (hb : KeptKEnv M s0 b) :
    KeptKEnv M s0 (if c then a else b) := by split <;> assumption

theorem keptWeightsOut_foldl {g : WeightsOut → α → WeightsOut} {l : List α} {p : WeightsOut}
    (hg : ∀ (y : WeightsOut) a, KeptWeightsOut M s0 y → KeptWeightsOut M s0 (g y a)) (h : KeptWeightsOut M s0 p) :
    KeptWeightsOut M s0 (l.foldl g p) := by
  induction l generalizing p with
  | nil => exact h
  | cons a t ih => exact ih (hg _ _ h)

theorem keptWeightsOut_ite {c : Prop} [Decidable c] {a b : WeightsOut} (ha : KeptWeightsOut M s0 a) (hb : KeptWeightsOut M s0 b) :
    KeptWeightsOut M s0 (if c then a else b) := by split <;> assumption

theorem keptCloseAcc_ite {c : Prop} [Decidable c] {a b : CloseAcc} (ha : KeptCloseAcc M s0 a) (hb : KeptCloseAcc M s0 b) :
    KeptCloseAcc M s0 (if c then a else b) := by split <;> assumption

theorem keptLoads_ite {c : Prop} [Decidable c] {a b : Loads} (ha : KeptLoads M s0 a) (hb : KeptLoads M s0 b) :
    KeptLoads M s0 (if c then a else b) := by split <;> assumption

theorem keptSvcDone_ite {c : Prop} [Decidable c] {a b : SvcDone} (ha : KeptSvcDone M s0 a) (hb : KeptSvcDone M s0 b) :
    KeptSvcDone M s0 (if c then a else b) := by split <;> assumption

theorem keptx_ite {c : Prop} [Decidable c] {a b : Except γ SvcDone} (ha : KeptX M s0 a) (hb : KeptX M s0 b) :
    KeptX M s0 (if c then a else b) := by split <;> assumption

/-- What a command answers. -/
def KeptE (M : Nat) (s : State) (o : Host.Outcome State Fault Refusal) : Prop := ∀ t, o = .next t → Kept M s t

theorem kepte_next (h : Kept M s0 s) : KeptE M s0 (.next s) := fun _ e => by cases e; exact h

theorem kepte_ite {c : Prop} [Decidable c] {a b : Host.Outcome State Fault Refusal} (ha : KeptE M s0 a) (hb : KeptE M s0 b) :
    KeptE M s0 (if c then a else b) := by split <;> assumption

theorem kept_forEach {g : State → α → State} {l : List α} (hg : ∀ y a, Kept M s0 y → Kept M s0 (g y a))
    (h : Kept M s0 s) : Kept M s0 (s.forEach l g) := kept_foldl hg h

end Sys2Proof.Machine
end

