-- ==== Sys2Proof/Laws/Reach.lean ====
section
/-! SUPPORT. Each register lies in its family. -/

namespace Sys2Proof.Machine

variable {M : Nat}

theorem Reach.zero {k : Nat} (x : Family) (h : M.testBit (64 + k) = true) (hk : family k = x) (h1 : 0 < x.n1)
    (h2 : 0 < x.n2) : Reach M x.base :=
  .inr ⟨k, h, 0, by rw [hk]; exact h1, 0, by rw [hk]; exact h2, by rw [hk]; omega⟩

theorem Reach.one {k : Nat} (x : Family) (i : Nat) (h : M.testBit (64 + k) = true) (hk : family k = x) (h1 : 0 < x.n1)
    (h2 : 0 < x.n2) : Reach M (x.base + x.s1 * (i % x.n1)) :=
  .inr ⟨k, h, i % x.n1, by rw [hk]; exact Nat.mod_lt _ h1, 0, by rw [hk]; exact h2, by rw [hk]; omega⟩

theorem Reach.two {k : Nat} (x : Family) (i j : Nat) (h : M.testBit (64 + k) = true) (hk : family k = x) (h1 : 0 < x.n1)
    (h2 : 0 < x.n2) : Reach M (x.base + x.s1 * (i % x.n1) + x.s2 * (j % x.n2)) :=
  .inr ⟨k, h, i % x.n1, by rw [hk]; exact Nat.mod_lt _ h1, j % x.n2, by rw [hk]; exact Nat.mod_lt _ h2, by rw [hk]⟩

theorem reach_IDREV (h : M.testBit 64 = true) : Reach M R.IDREV := .zero ⟨0x0, 0, 1, 0, 1⟩ (k := 0) h rfl (by decide) (by decide)
theorem reach_GLB_COUNT (h : M.testBit 65 = true) : Reach M R.GLB_COUNT := .zero ⟨0x8, 0, 1, 0, 1⟩ (k := 1) h rfl (by decide) (by decide)
theorem reach_GLB_EPOCH (h : M.testBit 66 = true) : Reach M R.GLB_EPOCH := .zero ⟨0x10, 0, 1, 0, 1⟩ (k := 2) h rfl (by decide) (by decide)
theorem reach_AO_CAUSE (h : M.testBit 67 = true) : Reach M R.AO_CAUSE := .zero ⟨0x100000, 0, 1, 0, 1⟩ (k := 3) h rfl (by decide) (by decide)
theorem reach_AO_RST_CTL (h : M.testBit 68 = true) : Reach M R.AO_RST_CTL := .zero ⟨0x100008, 0, 1, 0, 1⟩ (k := 4) h rfl (by decide) (by decide)
theorem reach_AO_RST_POLICY (h : M.testBit 69 = true) : Reach M R.AO_RST_POLICY := .zero ⟨0x100010, 0, 1, 0, 1⟩ (k := 5) h rfl (by decide) (by decide)
theorem reach_AO_BLK_RST (h : M.testBit 70 = true) : Reach M R.AO_BLK_RST := .zero ⟨0x100018, 0, 1, 0, 1⟩ (k := 6) h rfl (by decide) (by decide)
theorem reach_AO_STRAPS (h : M.testBit 71 = true) : Reach M R.AO_STRAPS := .zero ⟨0x100020, 0, 1, 0, 1⟩ (k := 7) h rfl (by decide) (by decide)
theorem reach_AO_BOOT (h : M.testBit 72 = true) : Reach M R.AO_BOOT := .zero ⟨0x100028, 0, 1, 0, 1⟩ (k := 8) h rfl (by decide) (by decide)
theorem reach_AO_CLK (h : M.testBit 73 = true) : Reach M R.AO_CLK := .zero ⟨0x100030, 0, 1, 0, 1⟩ (k := 9) h rfl (by decide) (by decide)
theorem reach_AO_THERM (h : M.testBit 74 = true) : Reach M R.AO_THERM := .zero ⟨0x100038, 0, 1, 0, 1⟩ (k := 10) h rfl (by decide) (by decide)
theorem reach_AO_PWR (h : M.testBit 75 = true) : Reach M R.AO_PWR := .zero ⟨0x100040, 0, 1, 0, 1⟩ (k := 11) h rfl (by decide) (by decide)
theorem reach_AO_KEEP_SPLIT (h : M.testBit 76 = true) : Reach M R.AO_KEEP_SPLIT := .zero ⟨0x100048, 0, 1, 0, 1⟩ (k := 12) h rfl (by decide) (by decide)
theorem reach_AO_BOOT_STEP {i : Nat} (h : M.testBit 77 = true) : Reach M (R.AO_BOOT_STEP i) := .one ⟨0x100100, 8, 25, 0, 1⟩ i (k := 13) h rfl (by decide) (by decide)
theorem reach_SIT_LOAD (h : M.testBit 78 = true) : Reach M R.SIT_LOAD := .zero ⟨0x200000, 0, 1, 0, 1⟩ (k := 14) h rfl (by decide) (by decide)
theorem reach_SIT_SRC_ADDR (h : M.testBit 79 = true) : Reach M R.SIT_SRC_ADDR := .zero ⟨0x200008, 0, 1, 0, 1⟩ (k := 15) h rfl (by decide) (by decide)
theorem reach_SIT_SRC_LEN (h : M.testBit 80 = true) : Reach M R.SIT_SRC_LEN := .zero ⟨0x200010, 0, 1, 0, 1⟩ (k := 16) h rfl (by decide) (by decide)
theorem reach_SIT_STATUS (h : M.testBit 81 = true) : Reach M R.SIT_STATUS := .zero ⟨0x200018, 0, 1, 0, 1⟩ (k := 17) h rfl (by decide) (by decide)
theorem reach_SIT_IMAGE_ID (h : M.testBit 82 = true) : Reach M R.SIT_IMAGE_ID := .zero ⟨0x200020, 0, 1, 0, 1⟩ (k := 18) h rfl (by decide) (by decide)
theorem reach_SIT_EPOCH_LAUNCH (h : M.testBit 83 = true) : Reach M R.SIT_EPOCH_LAUNCH := .zero ⟨0x200028, 0, 1, 0, 1⟩ (k := 19) h rfl (by decide) (by decide)
theorem reach_SIT_EPOCH_CTRL (h : M.testBit 84 = true) : Reach M R.SIT_EPOCH_CTRL := .zero ⟨0x200030, 0, 1, 0, 1⟩ (k := 20) h rfl (by decide) (by decide)
theorem reach_SIT_EPOCH_UNITS (h : M.testBit 85 = true) : Reach M R.SIT_EPOCH_UNITS := .zero ⟨0x200038, 0, 1, 0, 1⟩ (k := 21) h rfl (by decide) (by decide)
theorem reach_SIT_EPOCH_ACKED (h : M.testBit 86 = true) : Reach M R.SIT_EPOCH_ACKED := .zero ⟨0x200040, 0, 1, 0, 1⟩ (k := 22) h rfl (by decide) (by decide)
theorem reach_TLR_CFG (h : M.testBit 87 = true) : Reach M R.TLR_CFG := .zero ⟨0x300000, 0, 1, 0, 1⟩ (k := 23) h rfl (by decide) (by decide)
theorem reach_TLR_MISS_STS (h : M.testBit 88 = true) : Reach M R.TLR_MISS_STS := .zero ⟨0x300008, 0, 1, 0, 1⟩ (k := 24) h rfl (by decide) (by decide)
theorem reach_TLR_CAP_STS (h : M.testBit 89 = true) : Reach M R.TLR_CAP_STS := .zero ⟨0x300010, 0, 1, 0, 1⟩ (k := 25) h rfl (by decide) (by decide)
theorem reach_TLR_STAT_SEL (h : M.testBit 90 = true) : Reach M R.TLR_STAT_SEL := .zero ⟨0x300018, 0, 1, 0, 1⟩ (k := 26) h rfl (by decide) (by decide)
theorem reach_TLR_STAT_BYTES (h : M.testBit 91 = true) : Reach M R.TLR_STAT_BYTES := .zero ⟨0x300020, 0, 1, 0, 1⟩ (k := 27) h rfl (by decide) (by decide)
theorem reach_TLR_STAT_BE_BYTES (h : M.testBit 92 = true) : Reach M R.TLR_STAT_BE_BYTES := .zero ⟨0x300028, 0, 1, 0, 1⟩ (k := 28) h rfl (by decide) (by decide)
theorem reach_TLR_STAT_MISSES (h : M.testBit 93 = true) : Reach M R.TLR_STAT_MISSES := .zero ⟨0x300030, 0, 1, 0, 1⟩ (k := 29) h rfl (by decide) (by decide)
theorem reach_TLR_STAT_LAT_MISS (h : M.testBit 94 = true) : Reach M R.TLR_STAT_LAT_MISS := .zero ⟨0x300038, 0, 1, 0, 1⟩ (k := 30) h rfl (by decide) (by decide)
theorem reach_TLR_PORT {i : Nat} (h : M.testBit 95 = true) : Reach M (R.TLR_PORT i) := .one ⟨0x300100, 8, 34, 0, 1⟩ i (k := 31) h rfl (by decide) (by decide)
theorem reach_TLR_CLASS_CFG {i : Nat} (h : M.testBit 96 = true) : Reach M (R.TLR_CLASS_CFG i) := .one ⟨0x301000, 32, 64, 0, 1⟩ i (k := 32) h rfl (by decide) (by decide)
theorem reach_TLR_CLASS_MASK {i : Nat} (h : M.testBit 97 = true) : Reach M (R.TLR_CLASS_MASK i) := .one ⟨0x301008, 32, 64, 0, 1⟩ i (k := 33) h rfl (by decide) (by decide)
theorem reach_TLR_CLASS_LAT {i : Nat} (h : M.testBit 98 = true) : Reach M (R.TLR_CLASS_LAT i) := .one ⟨0x301010, 32, 64, 0, 1⟩ i (k := 34) h rfl (by decide) (by decide)
theorem reach_TLR_TAG {i : Nat} (h : M.testBit 99 = true) : Reach M (R.TLR_TAG i) := .one ⟨0x308000, 8, 4096, 0, 1⟩ i (k := 35) h rfl (by decide) (by decide)
theorem reach_DET_CFG (h : M.testBit 100 = true) : Reach M R.DET_CFG := .zero ⟨0x400000, 0, 1, 0, 1⟩ (k := 36) h rfl (by decide) (by decide)
theorem reach_DET_CX_STS (h : M.testBit 101 = true) : Reach M R.DET_CX_STS := .zero ⟨0x400008, 0, 1, 0, 1⟩ (k := 37) h rfl (by decide) (by decide)
theorem reach_DET_CX_BROKEN (h : M.testBit 102 = true) : Reach M R.DET_CX_BROKEN := .zero ⟨0x400010, 0, 1, 0, 1⟩ (k := 38) h rfl (by decide) (by decide)
theorem reach_DET_ACC_ADDR (h : M.testBit 103 = true) : Reach M R.DET_ACC_ADDR := .zero ⟨0x400018, 0, 1, 0, 1⟩ (k := 39) h rfl (by decide) (by decide)
theorem reach_DET_ACC_CMD (h : M.testBit 104 = true) : Reach M R.DET_ACC_CMD := .zero ⟨0x400020, 0, 1, 0, 1⟩ (k := 40) h rfl (by decide) (by decide)
theorem reach_DET_SLOT_RESTORE (h : M.testBit 105 = true) : Reach M R.DET_SLOT_RESTORE := .zero ⟨0x400028, 0, 1, 0, 1⟩ (k := 41) h rfl (by decide) (by decide)
theorem reach_DET_CX_CYCLES {i : Nat} (h : M.testBit 106 = true) : Reach M (R.DET_CX_CYCLES i) := .one ⟨0x400100, 32, 16, 0, 1⟩ i (k := 42) h rfl (by decide) (by decide)
theorem reach_DET_CX_WAIT {i : Nat} (h : M.testBit 107 = true) : Reach M (R.DET_CX_WAIT i) := .one ⟨0x400108, 32, 16, 0, 1⟩ i (k := 43) h rfl (by decide) (by decide)
theorem reach_DET_CX_KERNEL {i : Nat} (h : M.testBit 108 = true) : Reach M (R.DET_CX_KERNEL i) := .one ⟨0x400110, 32, 16, 0, 1⟩ i (k := 44) h rfl (by decide) (by decide)
theorem reach_DET_STEP_INC (h : M.testBit 109 = true) : Reach M R.DET_STEP_INC := .zero ⟨0x400300, 0, 1, 0, 1⟩ (k := 45) h rfl (by decide) (by decide)
theorem reach_DET_SEED_LO {i : Nat} (h : M.testBit 110 = true) : Reach M (R.DET_SEED_LO i) := .one ⟨0x410000, 32, 4096, 0, 1⟩ i (k := 46) h rfl (by decide) (by decide)
theorem reach_DET_SEED_HI {i : Nat} (h : M.testBit 111 = true) : Reach M (R.DET_SEED_HI i) := .one ⟨0x410008, 32, 4096, 0, 1⟩ i (k := 47) h rfl (by decide) (by decide)
theorem reach_DET_STEP {i : Nat} (h : M.testBit 112 = true) : Reach M (R.DET_STEP i) := .one ⟨0x410010, 32, 4096, 0, 1⟩ i (k := 48) h rfl (by decide) (by decide)
theorem reach_DET_TAG_CTL {i : Nat} (h : M.testBit 113 = true) : Reach M (R.DET_TAG_CTL i) := .one ⟨0x410018, 32, 4096, 0, 1⟩ i (k := 49) h rfl (by decide) (by decide)
theorem reach_LDG_CFG (h : M.testBit 114 = true) : Reach M R.LDG_CFG := .zero ⟨0x500000, 0, 1, 0, 1⟩ (k := 50) h rfl (by decide) (by decide)
theorem reach_LDG_MASK (h : M.testBit 115 = true) : Reach M R.LDG_MASK := .zero ⟨0x500008, 0, 1, 0, 1⟩ (k := 51) h rfl (by decide) (by decide)
theorem reach_LDG_HEAD {i : Nat} (h : M.testBit 116 = true) : Reach M (R.LDG_HEAD i) := .one ⟨0x500010, 8, 2, 0, 1⟩ i (k := 52) h rfl (by decide) (by decide)
theorem reach_LDG_TAIL {i : Nat} (h : M.testBit 117 = true) : Reach M (R.LDG_TAIL i) := .one ⟨0x500020, 8, 2, 0, 1⟩ i (k := 53) h rfl (by decide) (by decide)
theorem reach_LDG_STS {i : Nat} (h : M.testBit 118 = true) : Reach M (R.LDG_STS i) := .one ⟨0x500030, 8, 2, 0, 1⟩ i (k := 54) h rfl (by decide) (by decide)
theorem reach_LDG_CE_CTL (h : M.testBit 119 = true) : Reach M R.LDG_CE_CTL := .zero ⟨0x500040, 0, 1, 0, 1⟩ (k := 55) h rfl (by decide) (by decide)
theorem reach_LDG_SECDED_CE (h : M.testBit 120 = true) : Reach M R.LDG_SECDED_CE := .zero ⟨0x500048, 0, 1, 0, 1⟩ (k := 56) h rfl (by decide) (by decide)
theorem reach_LDG_POISON_READS (h : M.testBit 121 = true) : Reach M R.LDG_POISON_READS := .zero ⟨0x500050, 0, 1, 0, 1⟩ (k := 57) h rfl (by decide) (by decide)
theorem reach_LDG_TAG_POISON {i : Nat} (h : M.testBit 122 = true) : Reach M (R.LDG_TAG_POISON i) := .one ⟨0x500100, 8, 64, 0, 1⟩ i (k := 58) h rfl (by decide) (by decide)
theorem reach_LDG_SELFTEST (h : M.testBit 123 = true) : Reach M R.LDG_SELFTEST := .zero ⟨0x500300, 0, 1, 0, 1⟩ (k := 59) h rfl (by decide) (by decide)
theorem reach_LDG_FLIP_SEL (h : M.testBit 124 = true) : Reach M R.LDG_FLIP_SEL := .zero ⟨0x500308, 0, 1, 0, 1⟩ (k := 60) h rfl (by decide) (by decide)
theorem reach_LDG_FLIP_MASK (h : M.testBit 125 = true) : Reach M R.LDG_FLIP_MASK := .zero ⟨0x500310, 0, 1, 0, 1⟩ (k := 61) h rfl (by decide) (by decide)
theorem reach_LDG_REC {i j : Nat} (h : M.testBit 126 = true) : Reach M (R.LDG_REC i j) := .two ⟨0x501000, 64, 2, 8, 8⟩ i j (k := 62) h rfl (by decide) (by decide)
theorem reach_LDG_CE_ADDR {i j : Nat} (h : M.testBit 127 = true) : Reach M (R.LDG_CE_ADDR i j) := .two ⟨0x502000, 4096, 2, 16, 256⟩ i j (k := 63) h rfl (by decide) (by decide)
theorem reach_LDG_CE_INFO {i j : Nat} (h : M.testBit 128 = true) : Reach M (R.LDG_CE_INFO i j) := .two ⟨0x502008, 4096, 2, 16, 256⟩ i j (k := 64) h rfl (by decide) (by decide)
theorem reach_CLR_CFG (h : M.testBit 129 = true) : Reach M R.CLR_CFG := .zero ⟨0x600000, 0, 1, 0, 1⟩ (k := 65) h rfl (by decide) (by decide)
theorem reach_CLR_CTRL (h : M.testBit 130 = true) : Reach M R.CLR_CTRL := .zero ⟨0x600008, 0, 1, 0, 1⟩ (k := 66) h rfl (by decide) (by decide)
theorem reach_CLR_STS {i : Nat} (h : M.testBit 131 = true) : Reach M (R.CLR_STS i) := .one ⟨0x600100, 64, 8, 0, 1⟩ i (k := 67) h rfl (by decide) (by decide)
theorem reach_CLR_LAST_PASS_END {i : Nat} (h : M.testBit 132 = true) : Reach M (R.CLR_LAST_PASS_END i) := .one ⟨0x600108, 64, 8, 0, 1⟩ i (k := 68) h rfl (by decide) (by decide)
theorem reach_CLR_GRAINS {i : Nat} (h : M.testBit 133 = true) : Reach M (R.CLR_GRAINS i) := .one ⟨0x600110, 64, 8, 0, 1⟩ i (k := 69) h rfl (by decide) (by decide)
theorem reach_CLR_CORRECTED {i : Nat} (h : M.testBit 134 = true) : Reach M (R.CLR_CORRECTED i) := .one ⟨0x600118, 64, 8, 0, 1⟩ i (k := 70) h rfl (by decide) (by decide)
theorem reach_CLR_REPAIRED {i : Nat} (h : M.testBit 135 = true) : Reach M (R.CLR_REPAIRED i) := .one ⟨0x600120, 64, 8, 0, 1⟩ i (k := 71) h rfl (by decide) (by decide)
theorem reach_CLR_POISONED {i : Nat} (h : M.testBit 136 = true) : Reach M (R.CLR_POISONED i) := .one ⟨0x600128, 64, 8, 0, 1⟩ i (k := 72) h rfl (by decide) (by decide)
theorem reach_CLR_MARKED_SKIPPED {i : Nat} (h : M.testBit 137 = true) : Reach M (R.CLR_MARKED_SKIPPED i) := .one ⟨0x600130, 64, 8, 0, 1⟩ i (k := 73) h rfl (by decide) (by decide)
theorem reach_MNT_JQ_BASE (h : M.testBit 138 = true) : Reach M R.MNT_JQ_BASE := .zero ⟨0x700000, 0, 1, 0, 1⟩ (k := 74) h rfl (by decide) (by decide)
theorem reach_MNT_JQ_CFG (h : M.testBit 139 = true) : Reach M R.MNT_JQ_CFG := .zero ⟨0x700008, 0, 1, 0, 1⟩ (k := 75) h rfl (by decide) (by decide)
theorem reach_MNT_JQ_TAIL (h : M.testBit 140 = true) : Reach M R.MNT_JQ_TAIL := .zero ⟨0x700010, 0, 1, 0, 1⟩ (k := 76) h rfl (by decide) (by decide)
theorem reach_MNT_JQ_HEAD (h : M.testBit 141 = true) : Reach M R.MNT_JQ_HEAD := .zero ⟨0x700018, 0, 1, 0, 1⟩ (k := 77) h rfl (by decide) (by decide)
theorem reach_MNT_STATUS (h : M.testBit 142 = true) : Reach M R.MNT_STATUS := .zero ⟨0x700020, 0, 1, 0, 1⟩ (k := 78) h rfl (by decide) (by decide)
theorem reach_MNT_TILES_ENC (h : M.testBit 143 = true) : Reach M R.MNT_TILES_ENC := .zero ⟨0x700028, 0, 1, 0, 1⟩ (k := 79) h rfl (by decide) (by decide)
theorem reach_MNT_TILES_RAW (h : M.testBit 144 = true) : Reach M R.MNT_TILES_RAW := .zero ⟨0x700030, 0, 1, 0, 1⟩ (k := 80) h rfl (by decide) (by decide)
theorem reach_MNT_GRAINS_OUT (h : M.testBit 145 = true) : Reach M R.MNT_GRAINS_OUT := .zero ⟨0x700038, 0, 1, 0, 1⟩ (k := 81) h rfl (by decide) (by decide)
theorem reach_MNT_BASE_HITS (h : M.testBit 146 = true) : Reach M R.MNT_BASE_HITS := .zero ⟨0x700040, 0, 1, 0, 1⟩ (k := 82) h rfl (by decide) (by decide)
theorem reach_MNT_BASE_MISSES (h : M.testBit 147 = true) : Reach M R.MNT_BASE_MISSES := .zero ⟨0x700048, 0, 1, 0, 1⟩ (k := 83) h rfl (by decide) (by decide)
theorem reach_MNT_STAGE_TAB {i : Nat} (h : M.testBit 148 = true) : Reach M (R.MNT_STAGE_TAB i) := .one ⟨0x700100, 8, 64, 0, 1⟩ i (k := 84) h rfl (by decide) (by decide)
theorem reach_MNT_SLOT_CMD (h : M.testBit 149 = true) : Reach M R.MNT_SLOT_CMD := .zero ⟨0x700300, 0, 1, 0, 1⟩ (k := 85) h rfl (by decide) (by decide)
theorem reach_MNT_SLOT_RESULT (h : M.testBit 150 = true) : Reach M R.MNT_SLOT_RESULT := .zero ⟨0x700308, 0, 1, 0, 1⟩ (k := 86) h rfl (by decide) (by decide)
theorem reach_MNT_SLOT_INFO {i : Nat} (h : M.testBit 151 = true) : Reach M (R.MNT_SLOT_INFO i) := .one ⟨0x700400, 8, 64, 0, 1⟩ i (k := 87) h rfl (by decide) (by decide)
theorem reach_MNT_SLOT_TAB {i j : Nat} (h : M.testBit 152 = true) : Reach M (R.MNT_SLOT_TAB i j) := .two ⟨0x701000, 512, 64, 8, 64⟩ i j (k := 88) h rfl (by decide) (by decide)
theorem reach_CAN_SPLIT {i : Nat} (h : M.testBit 153 = true) : Reach M (R.CAN_SPLIT i) := .one ⟨0x800000, 64, 8, 0, 1⟩ i (k := 89) h rfl (by decide) (by decide)
theorem reach_CAN_CTRL {i : Nat} (h : M.testBit 154 = true) : Reach M (R.CAN_CTRL i) := .one ⟨0x800008, 64, 8, 0, 1⟩ i (k := 90) h rfl (by decide) (by decide)
theorem reach_CAN_STS {i : Nat} (h : M.testBit 155 = true) : Reach M (R.CAN_STS i) := .one ⟨0x800010, 64, 8, 0, 1⟩ i (k := 91) h rfl (by decide) (by decide)
theorem reach_CAN_HITS {i : Nat} (h : M.testBit 156 = true) : Reach M (R.CAN_HITS i) := .one ⟨0x800018, 64, 8, 0, 1⟩ i (k := 92) h rfl (by decide) (by decide)
theorem reach_CAN_MISSES {i : Nat} (h : M.testBit 157 = true) : Reach M (R.CAN_MISSES i) := .one ⟨0x800020, 64, 8, 0, 1⟩ i (k := 93) h rfl (by decide) (by decide)
theorem reach_CAN_WBACKS {i : Nat} (h : M.testBit 158 = true) : Reach M (R.CAN_WBACKS i) := .one ⟨0x800028, 64, 8, 0, 1⟩ i (k := 94) h rfl (by decide) (by decide)
theorem reach_CAN_PLACE (h : M.testBit 159 = true) : Reach M R.CAN_PLACE := .zero ⟨0x800400, 0, 1, 0, 1⟩ (k := 95) h rfl (by decide) (by decide)
theorem reach_CAN_PAGE_SEL (h : M.testBit 160 = true) : Reach M R.CAN_PAGE_SEL := .zero ⟨0x800408, 0, 1, 0, 1⟩ (k := 96) h rfl (by decide) (by decide)
theorem reach_CAN_PAGE_INFO (h : M.testBit 161 = true) : Reach M R.CAN_PAGE_INFO := .zero ⟨0x800410, 0, 1, 0, 1⟩ (k := 97) h rfl (by decide) (by decide)
theorem reach_CAN_STALL {i j : Nat} (h : M.testBit 162 = true) : Reach M (R.CAN_STALL i j) := .two ⟨0x801000, 64, 16, 8, 6⟩ i j (k := 98) h rfl (by decide) (by decide)
theorem reach_CAN_DCFG (h : M.testBit 163 = true) : Reach M R.CAN_DCFG := .zero ⟨0x808000, 0, 1, 0, 1⟩ (k := 99) h rfl (by decide) (by decide)
theorem reach_CAN_DSTS {i : Nat} (h : M.testBit 164 = true) : Reach M (R.CAN_DSTS i) := .one ⟨0x808100, 64, 8, 0, 1⟩ i (k := 100) h rfl (by decide) (by decide)
theorem reach_CAN_TALLY {i j : Nat} (h : M.testBit 165 = true) : Reach M (R.CAN_TALLY i j) := .two ⟨0x808108, 64, 8, 8, 6⟩ i j (k := 101) h rfl (by decide) (by decide)
theorem reach_UND_DCFG (h : M.testBit 166 = true) : Reach M R.UND_DCFG := .zero ⟨0x900000, 0, 1, 0, 1⟩ (k := 102) h rfl (by decide) (by decide)
theorem reach_UND_EN_LO (h : M.testBit 167 = true) : Reach M R.UND_EN_LO := .zero ⟨0x900008, 0, 1, 0, 1⟩ (k := 103) h rfl (by decide) (by decide)
theorem reach_UND_EN_HI (h : M.testBit 168 = true) : Reach M R.UND_EN_HI := .zero ⟨0x900010, 0, 1, 0, 1⟩ (k := 104) h rfl (by decide) (by decide)
theorem reach_UND_POP (h : M.testBit 169 = true) : Reach M R.UND_POP := .zero ⟨0x900018, 0, 1, 0, 1⟩ (k := 105) h rfl (by decide) (by decide)
theorem reach_UND_PAGES {i : Nat} (h : M.testBit 170 = true) : Reach M (R.UND_PAGES i) := .one ⟨0x900040, 8, 8, 0, 1⟩ i (k := 106) h rfl (by decide) (by decide)
theorem reach_UND_PASR {i : Nat} (h : M.testBit 171 = true) : Reach M (R.UND_PASR i) := .one ⟨0x900100, 8, 8, 0, 1⟩ i (k := 107) h rfl (by decide) (by decide)
theorem reach_UND_STS {i : Nat} (h : M.testBit 172 = true) : Reach M (R.UND_STS i) := .one ⟨0x901000, 64, 96, 0, 1⟩ i (k := 108) h rfl (by decide) (by decide)
theorem reach_UND_TALLY {i j : Nat} (h : M.testBit 173 = true) : Reach M (R.UND_TALLY i j) := .two ⟨0x901008, 64, 96, 8, 6⟩ i j (k := 109) h rfl (by decide) (by decide)
theorem reach_VLT_POP (h : M.testBit 174 = true) : Reach M R.VLT_POP := .zero ⟨0xA00000, 0, 1, 0, 1⟩ (k := 110) h rfl (by decide) (by decide)
theorem reach_VLT_PART (h : M.testBit 175 = true) : Reach M R.VLT_PART := .zero ⟨0xA00008, 0, 1, 0, 1⟩ (k := 111) h rfl (by decide) (by decide)
theorem reach_VLT_CKPT_CMD (h : M.testBit 176 = true) : Reach M R.VLT_CKPT_CMD := .zero ⟨0xA00010, 0, 1, 0, 1⟩ (k := 112) h rfl (by decide) (by decide)
theorem reach_VLT_CFG (h : M.testBit 177 = true) : Reach M R.VLT_CFG := .zero ⟨0xA00018, 0, 1, 0, 1⟩ (k := 113) h rfl (by decide) (by decide)
theorem reach_VLT_PAGES {i : Nat} (h : M.testBit 178 = true) : Reach M (R.VLT_PAGES i) := .one ⟨0xA00040, 8, 8, 0, 1⟩ i (k := 114) h rfl (by decide) (by decide)
theorem reach_VLT_CH_STS {i : Nat} (h : M.testBit 179 = true) : Reach M (R.VLT_CH_STS i) := .one ⟨0xA01000, 64, 32, 0, 1⟩ i (k := 115) h rfl (by decide) (by decide)
theorem reach_VLT_CH_TALLY {i j : Nat} (h : M.testBit 180 = true) : Reach M (R.VLT_CH_TALLY i j) := .two ⟨0xA01008, 64, 32, 8, 6⟩ i j (k := 116) h rfl (by decide) (by decide)
theorem reach_VLT_CKPT_SRC {i : Nat} (h : M.testBit 181 = true) : Reach M (R.VLT_CKPT_SRC i) := .one ⟨0xA02000, 32, 64, 0, 1⟩ i (k := 117) h rfl (by decide) (by decide)
theorem reach_VLT_CKPT_DST {i : Nat} (h : M.testBit 182 = true) : Reach M (R.VLT_CKPT_DST i) := .one ⟨0xA02008, 32, 64, 0, 1⟩ i (k := 118) h rfl (by decide) (by decide)
theorem reach_VLT_CKPT_STS {i : Nat} (h : M.testBit 183 = true) : Reach M (R.VLT_CKPT_STS i) := .one ⟨0xA02010, 32, 64, 0, 1⟩ i (k := 119) h rfl (by decide) (by decide)
theorem reach_VLT_CKPT_MARK {i : Nat} (h : M.testBit 184 = true) : Reach M (R.VLT_CKPT_MARK i) := .one ⟨0xA02018, 32, 64, 0, 1⟩ i (k := 120) h rfl (by decide) (by decide)
theorem reach_JX_NODE (h : M.testBit 185 = true) : Reach M R.JX_NODE := .zero ⟨0xB00000, 0, 1, 0, 1⟩ (k := 121) h rfl (by decide) (by decide)
theorem reach_JX_REQ_TIMEOUT (h : M.testBit 186 = true) : Reach M R.JX_REQ_TIMEOUT := .zero ⟨0xB00008, 0, 1, 0, 1⟩ (k := 122) h rfl (by decide) (by decide)
theorem reach_JX_SYNC_CFG (h : M.testBit 187 = true) : Reach M R.JX_SYNC_CFG := .zero ⟨0xB00010, 0, 1, 0, 1⟩ (k := 123) h rfl (by decide) (by decide)
theorem reach_JX_SYNC_STS (h : M.testBit 188 = true) : Reach M R.JX_SYNC_STS := .zero ⟨0xB00018, 0, 1, 0, 1⟩ (k := 124) h rfl (by decide) (by decide)
theorem reach_JX_TOKENS (h : M.testBit 189 = true) : Reach M R.JX_TOKENS := .zero ⟨0xB00020, 0, 1, 0, 1⟩ (k := 125) h rfl (by decide) (by decide)
theorem reach_JX_ROUTE {i : Nat} (h : M.testBit 190 = true) : Reach M (R.JX_ROUTE i) := .one ⟨0xB00100, 8, 64, 0, 1⟩ i (k := 126) h rfl (by decide) (by decide)
theorem reach_JX_PORT_CFG {i : Nat} (h : M.testBit 191 = true) : Reach M (R.JX_PORT_CFG i) := .one ⟨0xB01000, 128, 18, 0, 1⟩ i (k := 127) h rfl (by decide) (by decide)
theorem reach_JX_PORT_STS {i : Nat} (h : M.testBit 192 = true) : Reach M (R.JX_PORT_STS i) := .one ⟨0xB01008, 128, 18, 0, 1⟩ i (k := 128) h rfl (by decide) (by decide)
theorem reach_JX_PORT_CREDIT {i : Nat} (h : M.testBit 193 = true) : Reach M (R.JX_PORT_CREDIT i) := .one ⟨0xB01010, 128, 18, 0, 1⟩ i (k := 129) h rfl (by decide) (by decide)
theorem reach_JX_PORT_TALLY {i j : Nat} (h : M.testBit 194 = true) : Reach M (R.JX_PORT_TALLY i j) := .two ⟨0xB01018, 128, 18, 8, 7⟩ i j (k := 130) h rfl (by decide) (by decide)
theorem reach_OPT_CFG {i : Nat} (h : M.testBit 195 = true) : Reach M (R.OPT_CFG i) := .one ⟨0xC00000, 64, 18, 0, 1⟩ i (k := 131) h rfl (by decide) (by decide)
theorem reach_OPT_STS {i : Nat} (h : M.testBit 196 = true) : Reach M (R.OPT_STS i) := .one ⟨0xC00008, 64, 18, 0, 1⟩ i (k := 132) h rfl (by decide) (by decide)
theorem reach_OPT_LANEMAP {i : Nat} (h : M.testBit 197 = true) : Reach M (R.OPT_LANEMAP i) := .one ⟨0xC00010, 64, 18, 0, 1⟩ i (k := 133) h rfl (by decide) (by decide)
theorem reach_OPT_LASER {i : Nat} (h : M.testBit 198 = true) : Reach M (R.OPT_LASER i) := .one ⟨0xC00018, 64, 18, 0, 1⟩ i (k := 134) h rfl (by decide) (by decide)
theorem reach_OPT_RXPWR {i : Nat} (h : M.testBit 199 = true) : Reach M (R.OPT_RXPWR i) := .one ⟨0xC00020, 64, 18, 0, 1⟩ i (k := 135) h rfl (by decide) (by decide)
theorem reach_OPT_TRAINS {i : Nat} (h : M.testBit 200 = true) : Reach M (R.OPT_TRAINS i) := .one ⟨0xC00028, 64, 18, 0, 1⟩ i (k := 136) h rfl (by decide) (by decide)
theorem reach_PEP_CFG (h : M.testBit 201 = true) : Reach M R.PEP_CFG := .zero ⟨0xD00000, 0, 1, 0, 1⟩ (k := 137) h rfl (by decide) (by decide)
theorem reach_PEP_STS (h : M.testBit 202 = true) : Reach M R.PEP_STS := .zero ⟨0xD00008, 0, 1, 0, 1⟩ (k := 138) h rfl (by decide) (by decide)
theorem reach_PEP_PM (h : M.testBit 203 = true) : Reach M R.PEP_PM := .zero ⟨0xD00010, 0, 1, 0, 1⟩ (k := 139) h rfl (by decide) (by decide)
theorem reach_PEP_WIN_COMMIT (h : M.testBit 204 = true) : Reach M R.PEP_WIN_COMMIT := .zero ⟨0xD00018, 0, 1, 0, 1⟩ (k := 140) h rfl (by decide) (by decide)
theorem reach_PEP_RD_TLPS (h : M.testBit 205 = true) : Reach M R.PEP_RD_TLPS := .zero ⟨0xD00040, 0, 1, 0, 1⟩ (k := 141) h rfl (by decide) (by decide)
theorem reach_PEP_WR_TLPS (h : M.testBit 206 = true) : Reach M R.PEP_WR_TLPS := .zero ⟨0xD00048, 0, 1, 0, 1⟩ (k := 142) h rfl (by decide) (by decide)
theorem reach_PEP_UR (h : M.testBit 207 = true) : Reach M R.PEP_UR := .zero ⟨0xD00050, 0, 1, 0, 1⟩ (k := 143) h rfl (by decide) (by decide)
theorem reach_PEP_CA (h : M.testBit 208 = true) : Reach M R.PEP_CA := .zero ⟨0xD00058, 0, 1, 0, 1⟩ (k := 144) h rfl (by decide) (by decide)
theorem reach_PEP_WIN_BASE {i : Nat} (h : M.testBit 209 = true) : Reach M (R.PEP_WIN_BASE i) := .one ⟨0xD00100, 32, 16, 0, 1⟩ i (k := 145) h rfl (by decide) (by decide)
theorem reach_PEP_WIN_CTL {i : Nat} (h : M.testBit 210 = true) : Reach M (R.PEP_WIN_CTL i) := .one ⟨0xD00108, 32, 16, 0, 1⟩ i (k := 146) h rfl (by decide) (by decide)
theorem reach_PEP_WIN_ACT_BASE {i : Nat} (h : M.testBit 211 = true) : Reach M (R.PEP_WIN_ACT_BASE i) := .one ⟨0xD00110, 32, 16, 0, 1⟩ i (k := 147) h rfl (by decide) (by decide)
theorem reach_PEP_WIN_ACT_CTL {i : Nat} (h : M.testBit 212 = true) : Reach M (R.PEP_WIN_ACT_CTL i) := .one ⟨0xD00118, 32, 16, 0, 1⟩ i (k := 148) h rfl (by decide) (by decide)
theorem reach_PEP_DMA_BASE {i : Nat} (h : M.testBit 213 = true) : Reach M (R.PEP_DMA_BASE i) := .one ⟨0xD01000, 64, 4, 0, 1⟩ i (k := 149) h rfl (by decide) (by decide)
theorem reach_PEP_DMA_CFG {i : Nat} (h : M.testBit 214 = true) : Reach M (R.PEP_DMA_CFG i) := .one ⟨0xD01008, 64, 4, 0, 1⟩ i (k := 150) h rfl (by decide) (by decide)
theorem reach_PEP_DMA_TAIL {i : Nat} (h : M.testBit 215 = true) : Reach M (R.PEP_DMA_TAIL i) := .one ⟨0xD01010, 64, 4, 0, 1⟩ i (k := 151) h rfl (by decide) (by decide)
theorem reach_PEP_DMA_HEAD {i : Nat} (h : M.testBit 216 = true) : Reach M (R.PEP_DMA_HEAD i) := .one ⟨0xD01018, 64, 4, 0, 1⟩ i (k := 152) h rfl (by decide) (by decide)
theorem reach_PEP_DMA_STS {i : Nat} (h : M.testBit 217 = true) : Reach M (R.PEP_DMA_STS i) := .one ⟨0xD01020, 64, 4, 0, 1⟩ i (k := 153) h rfl (by decide) (by decide)
theorem reach_PEP_VEC_EVT {i : Nat} (h : M.testBit 218 = true) : Reach M (R.PEP_VEC_EVT i) := .one ⟨0xD02000, 8, 256, 0, 1⟩ i (k := 154) h rfl (by decide) (by decide)
theorem reach_POOL_CFG (h : M.testBit 219 = true) : Reach M R.POOL_CFG := .zero ⟨0xE00000, 0, 1, 0, 1⟩ (k := 155) h rfl (by decide) (by decide)
theorem reach_POOL_STATUS (h : M.testBit 220 = true) : Reach M R.POOL_STATUS := .zero ⟨0xE00008, 0, 1, 0, 1⟩ (k := 156) h rfl (by decide) (by decide)
theorem reach_POOL_EXT_REVOKE (h : M.testBit 221 = true) : Reach M R.POOL_EXT_REVOKE := .zero ⟨0xE00010, 0, 1, 0, 1⟩ (k := 157) h rfl (by decide) (by decide)
theorem reach_POOL_DOOR {i : Nat} (h : M.testBit 222 = true) : Reach M (R.POOL_DOOR i) := .one ⟨0xE00040, 8, 8, 0, 1⟩ i (k := 158) h rfl (by decide) (by decide)
theorem reach_POOL_HOST_DESC {i : Nat} (h : M.testBit 223 = true) : Reach M (R.POOL_HOST_DESC i) := .one ⟨0xE00080, 8, 8, 0, 1⟩ i (k := 159) h rfl (by decide) (by decide)
theorem reach_POOL_HOST_GO (h : M.testBit 224 = true) : Reach M R.POOL_HOST_GO := .zero ⟨0xE000C0, 0, 1, 0, 1⟩ (k := 160) h rfl (by decide) (by decide)
theorem reach_POOL_HOST_STS (h : M.testBit 225 = true) : Reach M R.POOL_HOST_STS := .zero ⟨0xE000C8, 0, 1, 0, 1⟩ (k := 161) h rfl (by decide) (by decide)
theorem reach_POOL_VER_RESET (h : M.testBit 226 = true) : Reach M R.POOL_VER_RESET := .zero ⟨0xE000D0, 0, 1, 0, 1⟩ (k := 162) h rfl (by decide) (by decide)
theorem reach_POOL_VER_SEL (h : M.testBit 227 = true) : Reach M R.POOL_VER_SEL := .zero ⟨0xE000D8, 0, 1, 0, 1⟩ (k := 163) h rfl (by decide) (by decide)
theorem reach_POOL_DENIALS (h : M.testBit 228 = true) : Reach M R.POOL_DENIALS := .zero ⟨0xE00100, 0, 1, 0, 1⟩ (k := 164) h rfl (by decide) (by decide)
theorem reach_POOL_REVOKED_REQS (h : M.testBit 229 = true) : Reach M R.POOL_REVOKED_REQS := .zero ⟨0xE00108, 0, 1, 0, 1⟩ (k := 165) h rfl (by decide) (by decide)
theorem reach_POOL_OPS_DONE (h : M.testBit 230 = true) : Reach M R.POOL_OPS_DONE := .zero ⟨0xE00110, 0, 1, 0, 1⟩ (k := 166) h rfl (by decide) (by decide)
theorem reach_POOL_LIM_SHARED (h : M.testBit 231 = true) : Reach M R.POOL_LIM_SHARED := .zero ⟨0xE00118, 0, 1, 0, 1⟩ (k := 167) h rfl (by decide) (by decide)
theorem reach_POOL_TRUST {i : Nat} (h : M.testBit 232 = true) : Reach M (R.POOL_TRUST i) := .one ⟨0xE00200, 8, 16, 0, 1⟩ i (k := 168) h rfl (by decide) (by decide)
theorem reach_POOL_GROUP {i : Nat} (h : M.testBit 233 = true) : Reach M (R.POOL_GROUP i) := .one ⟨0xE00400, 8, 255, 0, 1⟩ i (k := 169) h rfl (by decide) (by decide)
theorem reach_POOL_VER_INFO {i : Nat} (h : M.testBit 234 = true) : Reach M (R.POOL_VER_INFO i) := .one ⟨0xE00C00, 8, 9, 0, 1⟩ i (k := 170) h rfl (by decide) (by decide)
theorem reach_POOL_LIM {i : Nat} (h : M.testBit 235 = true) : Reach M (R.POOL_LIM i) := .one ⟨0xE01000, 16, 1024, 0, 1⟩ i (k := 171) h rfl (by decide) (by decide)
theorem reach_POOL_LIM_OVER {i : Nat} (h : M.testBit 236 = true) : Reach M (R.POOL_LIM_OVER i) := .one ⟨0xE01008, 16, 1024, 0, 1⟩ i (k := 172) h rfl (by decide) (by decide)
theorem reach_POOL_EXT {i : Nat} (h : M.testBit 237 = true) : Reach M (R.POOL_EXT i) := .one ⟨0xE20000, 8, 16384, 0, 1⟩ i (k := 173) h rfl (by decide) (by decide)
theorem reach_PAIR_ID (h : M.testBit 238 = true) : Reach M R.PAIR_ID := .zero ⟨0xF00000, 0, 1, 0, 1⟩ (k := 174) h rfl (by decide) (by decide)
theorem reach_PAIR_CFG (h : M.testBit 239 = true) : Reach M R.PAIR_CFG := .zero ⟨0xF00008, 0, 1, 0, 1⟩ (k := 175) h rfl (by decide) (by decide)
theorem reach_PAIR_CFG2 (h : M.testBit 240 = true) : Reach M R.PAIR_CFG2 := .zero ⟨0xF00010, 0, 1, 0, 1⟩ (k := 176) h rfl (by decide) (by decide)
theorem reach_PAIR_STS (h : M.testBit 241 = true) : Reach M R.PAIR_STS := .zero ⟨0xF00018, 0, 1, 0, 1⟩ (k := 177) h rfl (by decide) (by decide)
theorem reach_PAIR_CMD (h : M.testBit 242 = true) : Reach M R.PAIR_CMD := .zero ⟨0xF00020, 0, 1, 0, 1⟩ (k := 178) h rfl (by decide) (by decide)
theorem reach_PAIR_FWD_WRITES (h : M.testBit 243 = true) : Reach M R.PAIR_FWD_WRITES := .zero ⟨0xF00040, 0, 1, 0, 1⟩ (k := 179) h rfl (by decide) (by decide)
theorem reach_PAIR_FWD_BYTES (h : M.testBit 244 = true) : Reach M R.PAIR_FWD_BYTES := .zero ⟨0xF00048, 0, 1, 0, 1⟩ (k := 180) h rfl (by decide) (by decide)
theorem reach_PAIR_COMPARED (h : M.testBit 245 = true) : Reach M R.PAIR_COMPARED := .zero ⟨0xF00050, 0, 1, 0, 1⟩ (k := 181) h rfl (by decide) (by decide)
theorem reach_PAIR_UNCOMPARED (h : M.testBit 246 = true) : Reach M R.PAIR_UNCOMPARED := .zero ⟨0xF00058, 0, 1, 0, 1⟩ (k := 182) h rfl (by decide) (by decide)
theorem reach_PAIR_MISMATCHES (h : M.testBit 247 = true) : Reach M R.PAIR_MISMATCHES := .zero ⟨0xF00060, 0, 1, 0, 1⟩ (k := 183) h rfl (by decide) (by decide)
theorem reach_PAIR_RESYNC_PAGES (h : M.testBit 248 = true) : Reach M R.PAIR_RESYNC_PAGES := .zero ⟨0xF00068, 0, 1, 0, 1⟩ (k := 184) h rfl (by decide) (by decide)
theorem reach_PAIR_MM {i : Nat} (h : M.testBit 249 = true) : Reach M (R.PAIR_MM i) := .one ⟨0xF00100, 32, 8, 0, 1⟩ i (k := 185) h rfl (by decide) (by decide)
theorem reach_PAIR_MM_STEP {i : Nat} (h : M.testBit 250 = true) : Reach M (R.PAIR_MM_STEP i) := .one ⟨0xF00108, 32, 8, 0, 1⟩ i (k := 186) h rfl (by decide) (by decide)
theorem reach_PAIR_MM_FIRST {i : Nat} (h : M.testBit 251 = true) : Reach M (R.PAIR_MM_FIRST i) := .one ⟨0xF00110, 32, 8, 0, 1⟩ i (k := 187) h rfl (by decide) (by decide)
theorem reach_PAIR_MM_RERUN {i : Nat} (h : M.testBit 252 = true) : Reach M (R.PAIR_MM_RERUN i) := .one ⟨0xF00118, 32, 8, 0, 1⟩ i (k := 188) h rfl (by decide) (by decide)
theorem reach_CORE_Q_BASE {i : Nat} (h : M.testBit 253 = true) : Reach M (R.CORE_Q_BASE i) := .one ⟨0x1000000, 1048576, 16, 0, 1⟩ i (k := 189) h rfl (by decide) (by decide)
theorem reach_CORE_Q_CFG {i : Nat} (h : M.testBit 254 = true) : Reach M (R.CORE_Q_CFG i) := .one ⟨0x1000008, 1048576, 16, 0, 1⟩ i (k := 190) h rfl (by decide) (by decide)
theorem reach_CORE_Q_TAIL {i : Nat} (h : M.testBit 255 = true) : Reach M (R.CORE_Q_TAIL i) := .one ⟨0x1000010, 1048576, 16, 0, 1⟩ i (k := 191) h rfl (by decide) (by decide)
theorem reach_CORE_Q_HEAD {i : Nat} (h : M.testBit 256 = true) : Reach M (R.CORE_Q_HEAD i) := .one ⟨0x1000018, 1048576, 16, 0, 1⟩ i (k := 192) h rfl (by decide) (by decide)
theorem reach_CORE_STATUS {i : Nat} (h : M.testBit 257 = true) : Reach M (R.CORE_STATUS i) := .one ⟨0x1000020, 1048576, 16, 0, 1⟩ i (k := 193) h rfl (by decide) (by decide)
theorem reach_CORE_LAST {i : Nat} (h : M.testBit 258 = true) : Reach M (R.CORE_LAST i) := .one ⟨0x1000028, 1048576, 16, 0, 1⟩ i (k := 194) h rfl (by decide) (by decide)
theorem reach_CORE_PLAN_START {i : Nat} (h : M.testBit 259 = true) : Reach M (R.CORE_PLAN_START i) := .one ⟨0x1000030, 1048576, 16, 0, 1⟩ i (k := 195) h rfl (by decide) (by decide)
theorem reach_CORE_WAKE {i : Nat} (h : M.testBit 260 = true) : Reach M (R.CORE_WAKE i) := .one ⟨0x1000038, 1048576, 16, 0, 1⟩ i (k := 196) h rfl (by decide) (by decide)
theorem reach_CORE_KERNELS {i : Nat} (h : M.testBit 261 = true) : Reach M (R.CORE_KERNELS i) := .one ⟨0x1000040, 1048576, 16, 0, 1⟩ i (k := 197) h rfl (by decide) (by decide)
theorem reach_CORE_WAKE_STALL {i : Nat} (h : M.testBit 262 = true) : Reach M (R.CORE_WAKE_STALL i) := .one ⟨0x1000048, 1048576, 16, 0, 1⟩ i (k := 198) h rfl (by decide) (by decide)
theorem reach_CORE_LATE {i : Nat} (h : M.testBit 263 = true) : Reach M (R.CORE_LATE i) := .one ⟨0x1000050, 1048576, 16, 0, 1⟩ i (k := 199) h rfl (by decide) (by decide)
theorem reach_SLOT_STATUS {i j : Nat} (h : M.testBit 264 = true) : Reach M (R.SLOT_STATUS i j) := .two ⟨0x2000000, 64, 4096, 8, 8⟩ i j (k := 200) h rfl (by decide) (by decide)
theorem reach_SLOT_RELEASE (h : M.testBit 265 = true) : Reach M R.SLOT_RELEASE := .zero ⟨0x2040000, 0, 1, 0, 1⟩ (k := 201) h rfl (by decide) (by decide)
theorem reach_SLOT_RELEASE_RESULT (h : M.testBit 266 = true) : Reach M R.SLOT_RELEASE_RESULT := .zero ⟨0x2040008, 0, 1, 0, 1⟩ (k := 202) h rfl (by decide) (by decide)
theorem reach_SLOT_EVENT {i : Nat} (h : M.testBit 267 = true) : Reach M (R.SLOT_EVENT i) := .one ⟨0x2100000, 8, 4096, 0, 1⟩ i (k := 203) h rfl (by decide) (by decide)
theorem reach_SLOT_EVENT_ADD {i : Nat} (h : M.testBit 268 = true) : Reach M (R.SLOT_EVENT_ADD i) := .one ⟨0x2180000, 8, 4096, 0, 1⟩ i (k := 204) h rfl (by decide) (by decide)
theorem reach_SLOT_EVENT_DEC {i : Nat} (h : M.testBit 269 = true) : Reach M (R.SLOT_EVENT_DEC i) := .one ⟨0x2200000, 8, 4096, 0, 1⟩ i (k := 205) h rfl (by decide) (by decide)
theorem reach_SLOT_BARRIER {i : Nat} (h : M.testBit 270 = true) : Reach M (R.SLOT_BARRIER i) := .one ⟨0x2280000, 8, 64, 0, 1⟩ i (k := 206) h rfl (by decide) (by decide)
theorem reach_SLOT_BARRIER_ARRIVE (h : M.testBit 271 = true) : Reach M R.SLOT_BARRIER_ARRIVE := .zero ⟨0x2280200, 0, 1, 0, 1⟩ (k := 207) h rfl (by decide) (by decide)
theorem reach_MGT_CFG (h : M.testBit 272 = true) : Reach M R.MGT_CFG := .zero ⟨0x3000000, 0, 1, 0, 1⟩ (k := 208) h rfl (by decide) (by decide)
theorem reach_MGT_STS (h : M.testBit 273 = true) : Reach M R.MGT_STS := .zero ⟨0x3000008, 0, 1, 0, 1⟩ (k := 209) h rfl (by decide) (by decide)
theorem reach_MGT_FW_VERSION (h : M.testBit 274 = true) : Reach M R.MGT_FW_VERSION := .zero ⟨0x3000010, 0, 1, 0, 1⟩ (k := 210) h rfl (by decide) (by decide)
theorem reach_MGT_WDOG (h : M.testBit 275 = true) : Reach M R.MGT_WDOG := .zero ⟨0x3000018, 0, 1, 0, 1⟩ (k := 211) h rfl (by decide) (by decide)
theorem reach_MGT_ID_SERIAL (h : M.testBit 276 = true) : Reach M R.MGT_ID_SERIAL := .zero ⟨0x3000020, 0, 1, 0, 1⟩ (k := 212) h rfl (by decide) (by decide)
theorem reach_MGT_ID_PUB {i : Nat} (h : M.testBit 277 = true) : Reach M (R.MGT_ID_PUB i) := .one ⟨0x3000040, 8, 8, 0, 1⟩ i (k := 213) h rfl (by decide) (by decide)
theorem reach_MGT_KEY {i j : Nat} (h : M.testBit 278 = true) : Reach M (R.MGT_KEY i j) := .two ⟨0x3000080, 32, 4, 8, 4⟩ i j (k := 214) h rfl (by decide) (by decide)
theorem reach_MGT_KEY_STS (h : M.testBit 279 = true) : Reach M R.MGT_KEY_STS := .zero ⟨0x3000100, 0, 1, 0, 1⟩ (k := 215) h rfl (by decide) (by decide)
theorem reach_MGT_FUSE_CMD (h : M.testBit 280 = true) : Reach M R.MGT_FUSE_CMD := .zero ⟨0x3000108, 0, 1, 0, 1⟩ (k := 216) h rfl (by decide) (by decide)
theorem reach_MGT_NOR_SRC (h : M.testBit 281 = true) : Reach M R.MGT_NOR_SRC := .zero ⟨0x3000110, 0, 1, 0, 1⟩ (k := 217) h rfl (by decide) (by decide)
theorem reach_MGT_NOR_LEN (h : M.testBit 282 = true) : Reach M R.MGT_NOR_LEN := .zero ⟨0x3000118, 0, 1, 0, 1⟩ (k := 218) h rfl (by decide) (by decide)
theorem reach_MGT_NOR_CMD (h : M.testBit 283 = true) : Reach M R.MGT_NOR_CMD := .zero ⟨0x3000120, 0, 1, 0, 1⟩ (k := 219) h rfl (by decide) (by decide)
theorem reach_MGT_ATT_NONCE {i : Nat} (h : M.testBit 284 = true) : Reach M (R.MGT_ATT_NONCE i) := .one ⟨0x3000140, 8, 4, 0, 1⟩ i (k := 220) h rfl (by decide) (by decide)
theorem reach_MGT_ATT_ADDR (h : M.testBit 285 = true) : Reach M R.MGT_ATT_ADDR := .zero ⟨0x3000160, 0, 1, 0, 1⟩ (k := 221) h rfl (by decide) (by decide)
theorem reach_MGT_ATT_CMD (h : M.testBit 286 = true) : Reach M R.MGT_ATT_CMD := .zero ⟨0x3000168, 0, 1, 0, 1⟩ (k := 222) h rfl (by decide) (by decide)
theorem reach_MGT_IMG_SESSION (h : M.testBit 287 = true) : Reach M R.MGT_IMG_SESSION := .zero ⟨0x3000180, 0, 1, 0, 1⟩ (k := 223) h rfl (by decide) (by decide)
theorem reach_MGT_IMG_PAGE (h : M.testBit 288 = true) : Reach M R.MGT_IMG_PAGE := .zero ⟨0x3000188, 0, 1, 0, 1⟩ (k := 224) h rfl (by decide) (by decide)
theorem reach_MGT_IMG_WIN {i : Nat} (h : M.testBit 289 = true) : Reach M (R.MGT_IMG_WIN i) := .one ⟨0x3080000, 8, 65536, 0, 1⟩ i (k := 225) h rfl (by decide) (by decide)
theorem reach_TST_CFG (h : M.testBit 290 = true) : Reach M R.TST_CFG := .zero ⟨0x3100000, 0, 1, 0, 1⟩ (k := 226) h rfl (by decide) (by decide)
theorem reach_TST_QUAR_BASE (h : M.testBit 291 = true) : Reach M R.TST_QUAR_BASE := .zero ⟨0x3100008, 0, 1, 0, 1⟩ (k := 227) h rfl (by decide) (by decide)
theorem reach_TST_QUAR (h : M.testBit 292 = true) : Reach M R.TST_QUAR := .zero ⟨0x3100010, 0, 1, 0, 1⟩ (k := 228) h rfl (by decide) (by decide)
theorem reach_TST_DIAG_CTL (h : M.testBit 293 = true) : Reach M R.TST_DIAG_CTL := .zero ⟨0x3100018, 0, 1, 0, 1⟩ (k := 229) h rfl (by decide) (by decide)
theorem reach_TST_SHELF_SRC (h : M.testBit 294 = true) : Reach M R.TST_SHELF_SRC := .zero ⟨0x3100020, 0, 1, 0, 1⟩ (k := 230) h rfl (by decide) (by decide)
theorem reach_TST_SHELF_CTL (h : M.testBit 295 = true) : Reach M R.TST_SHELF_CTL := .zero ⟨0x3100028, 0, 1, 0, 1⟩ (k := 231) h rfl (by decide) (by decide)
theorem reach_TST_SHADOWED (h : M.testBit 296 = true) : Reach M R.TST_SHADOWED := .zero ⟨0x3100040, 0, 1, 0, 1⟩ (k := 232) h rfl (by decide) (by decide)
theorem reach_TST_SHADOW_SKIPPED (h : M.testBit 297 = true) : Reach M R.TST_SHADOW_SKIPPED := .zero ⟨0x3100048, 0, 1, 0, 1⟩ (k := 233) h rfl (by decide) (by decide)
theorem reach_TST_MISMATCHES (h : M.testBit 298 = true) : Reach M R.TST_MISMATCHES := .zero ⟨0x3100050, 0, 1, 0, 1⟩ (k := 234) h rfl (by decide) (by decide)
theorem reach_TST_UNCHECKED (h : M.testBit 299 = true) : Reach M R.TST_UNCHECKED := .zero ⟨0x3100058, 0, 1, 0, 1⟩ (k := 235) h rfl (by decide) (by decide)
theorem reach_TST_QUAR_DROPS (h : M.testBit 300 = true) : Reach M R.TST_QUAR_DROPS := .zero ⟨0x3100060, 0, 1, 0, 1⟩ (k := 236) h rfl (by decide) (by decide)
theorem reach_TST_SET {i : Nat} (h : M.testBit 301 = true) : Reach M (R.TST_SET i) := .one ⟨0x3100100, 16, 16, 0, 1⟩ i (k := 237) h rfl (by decide) (by decide)
theorem reach_TST_SET_INFO {i : Nat} (h : M.testBit 302 = true) : Reach M (R.TST_SET_INFO i) := .one ⟨0x3100108, 16, 16, 0, 1⟩ i (k := 238) h rfl (by decide) (by decide)
theorem reach_TST_SUSPECT {i : Nat} (h : M.testBit 303 = true) : Reach M (R.TST_SUSPECT i) := .one ⟨0x3100200, 32, 16, 0, 1⟩ i (k := 239) h rfl (by decide) (by decide)
theorem reach_TST_SUSPECT_PASS {i : Nat} (h : M.testBit 304 = true) : Reach M (R.TST_SUSPECT_PASS i) := .one ⟨0x3100208, 32, 16, 0, 1⟩ i (k := 240) h rfl (by decide) (by decide)
theorem reach_TST_SUSPECT_CRC {i : Nat} (h : M.testBit 305 = true) : Reach M (R.TST_SUSPECT_CRC i) := .one ⟨0x3100210, 32, 16, 0, 1⟩ i (k := 241) h rfl (by decide) (by decide)
theorem reach_TST_SUSPECT_COUNT {i : Nat} (h : M.testBit 306 = true) : Reach M (R.TST_SUSPECT_COUNT i) := .one ⟨0x3100218, 32, 16, 0, 1⟩ i (k := 242) h rfl (by decide) (by decide)
theorem reach_TST_CORE_CTL {i : Nat} (h : M.testBit 307 = true) : Reach M (R.TST_CORE_CTL i) := .one ⟨0x3100400, 32, 16, 0, 1⟩ i (k := 243) h rfl (by decide) (by decide)
theorem reach_TST_CORE_STS {i : Nat} (h : M.testBit 308 = true) : Reach M (R.TST_CORE_STS i) := .one ⟨0x3100408, 32, 16, 0, 1⟩ i (k := 244) h rfl (by decide) (by decide)
theorem reach_TST_CORE_LAST {i : Nat} (h : M.testBit 309 = true) : Reach M (R.TST_CORE_LAST i) := .one ⟨0x3100410, 32, 16, 0, 1⟩ i (k := 245) h rfl (by decide) (by decide)
theorem reach_TST_CORE_TESTS {i : Nat} (h : M.testBit 310 = true) : Reach M (R.TST_CORE_TESTS i) := .one ⟨0x3100418, 32, 16, 0, 1⟩ i (k := 246) h rfl (by decide) (by decide)

theorem reach_usedFld {d : Nat} (h : M.testBit 189 = true) : Reach M (usedFld d).off := by
  unfold usedFld; split <;> exact reach_JX_TOKENS h

theorem reach_peakFld {d : Nat} (h : M.testBit 189 = true) : Reach M (peakFld d).off := by
  unfold peakFld; split <;> exact reach_JX_TOKENS h

theorem reach_creditFld {p vc : Nat} (h : M.testBit 193 = true) : Reach M (creditFld p vc).off := by
  unfold creditFld; split <;> exact reach_JX_PORT_CREDIT h

theorem reach_cause {r : RstSource} (h : M.testBit 67 = true) : Reach M r.cause.off := by
  cases r <;> exact reach_AO_CAUSE h

theorem reach_temp {u : DUnit} (h : M.testBit 164 = true) (h' : M.testBit 172 = true) :
    Reach M u.temp.off := by
  cases u
  · exact reach_CAN_DSTS h
  · exact reach_UND_STS h'

theorem reach_level {u : DUnit} (h : M.testBit 164 = true) (h' : M.testBit 172 = true) :
    Reach M u.level.off := by
  cases u
  · exact reach_CAN_DSTS h
  · exact reach_UND_STS h'

theorem reach_refHigh {u : DUnit} (h : M.testBit 164 = true) (h' : M.testBit 172 = true) :
    Reach M u.refHigh.off := by
  cases u
  · exact reach_CAN_DSTS h
  · exact reach_UND_STS h'

theorem reach_state {u : DUnit} (h : M.testBit 164 = true) (h' : M.testBit 172 = true) :
    Reach M u.state.off := by
  cases u
  · exact reach_CAN_DSTS h
  · exact reach_UND_STS h'

theorem reach_speed {u : DUnit} (h : M.testBit 164 = true) (h' : M.testBit 172 = true) :
    Reach M u.speed.off := by
  cases u
  · exact reach_CAN_DSTS h
  · exact reach_UND_STS h'

theorem reach_tally {u : DUnit} {i : Nat} (h : M.testBit 165 = true) (h' : M.testBit 173 = true) :
    Reach M (u.tally i).off := by
  cases u
  · exact reach_CAN_TALLY h
  · exact reach_UND_TALLY h'

theorem reach_dramTally {u i : Nat} (h : M.testBit 165 = true) (h' : M.testBit 173 = true) :
    Reach M (dramTally u i).off := by
  unfold dramTally
  split
  · exact reach_CAN_TALLY h
  · exact reach_UND_TALLY h'

theorem Kept.regSts {f : Fld} {i : Nat} {s0 x : State} (hm : M.testBit 1 = true) (hq : M.testBit 39 = true)
    (hr : Reach M f.off) (h : Kept M s0 x) : Kept M s0 (x.regSts f i) := by
  unfold State.regSts
  refine kept_ite h ?_
  extract_lets +onlyGivenNames v
  have hv : Kept M s0 v := h.setBit hm hr
  clear_value v
  exact kept_ite (Kept.in_irq hq hv) hv

end Sys2Proof.Machine
end

