-- ==== Sys2Proof/Laws/Kept/Ops.lean ====
section
/-! SUPPORT. What the operations of Ops may write: each keeps its footprint. -/

namespace Sys2Proof.Machine

variable {M : Nat} {s0 : State}

theorem kept_bump {s : State} (hm : Within 0x80000000000 M) (h0 : Kept M s0 s) :
    Kept M s0 (State.bump s) := by
  unfold State.bump
  refine Kept.in_free (hm.bit 43 rfl) ?_
  exact h0

theorem kept_nextReq {s : State} (hm : Within 0x2000 M) (h0 : Kept M s0 s) :
    Kept M s0 (State.nextReq s) := by
  unfold State.nextReq
  refine Kept.in_nextId (hm.bit 13 rfl) ?_ (Nat.le_succ _)
  exact h0

theorem kept_emit {s : State} {o : Out} (hm : Within 0x100000000000 M) (h0 : Kept M s0 s) :
    Kept M s0 (State.emit s o) := by
  unfold State.emit
  refine Kept.in_out (hm.bit 44 rfl) ?_ (⟨_, rfl⟩)
  exact h0

theorem kept_epochGathered {s : State} (hm : Within 0x200000000000000000102 M) (h0 : Kept M s0 s) :
    Kept M s0 (State.epochGathered s) := by
  unfold State.epochGathered
  extract_lets -underBinder +onlyGivenNames v20
  (clear_value v20; revert v20; refine Kept.seal ?_; intro v20)
  refine kept_ite ?_ ?_
  · extract_lets -underBinder +onlyGivenNames v21
    have h22 : Kept M s0 v21 := by
      unfold v21
      refine Kept.setF (hm.bit 1 rfl) (reach_SIT_STATUS (hm.bit 81 rfl)) ?_
      exact h0
    (clear_value v21; revert v21; refine Kept.seal ?_; intro v21 h22)
    refine Kept.in_epoch (hm.bit 8 rfl) ?_
    exact h22
  · exact h0

theorem kept_epochFenced {s : State} (hm : Within 0x2200000000000000000102 M) (h0 : Kept M s0 s) :
    Kept M s0 (State.epochFenced s) := by
  unfold State.epochFenced
  refine kept_ite ?_ ?_
  · refine kept_epochGathered (hm.sub rfl) ?_
    refine Kept.setF (hm.bit 1 rfl) (reach_SIT_EPOCH_UNITS (hm.bit 85 rfl)) ?_
    exact h0
  · exact h0

theorem kept_addFence {s : State} {u : FenceUnit} (hm : Within 0x2200000000000000000182 M) (h0 : Kept M s0 s) :
    Kept M s0 (State.addFence s u) := by
  unfold State.addFence
  refine kept_ite ?_ ?_
  · exact h0
  · refine kept_epochFenced (hm.sub rfl) ?_
    refine Kept.in_fences (hm.bit 7 rfl) ?_ (fun _ hu => List.mem_append_left _ hu)
    exact h0

theorem kept_under {s : State} {e : ℕ} {g : State → State} (hm : Within 0x100 M) (h0 : Kept M s0 s) (h1 : ∀ c1_0, Kept M s0 c1_0 → Kept M s0 (g c1_0)) :
    Kept M s0 (State.under s e g) := by
  unfold State.under
  (generalize q21 : (List.find? (fun x ↦ x.1 == e) s.epoch.old) = x20; revert x20; refine Kept.seal ?_; intro x20 q21)
  split
  · rename_i w22
    refine h1 _ ?_
    exact h0
  · rename_i w23 w24
    extract_lets -underBinder +onlyGivenNames v25
    (clear_value v25; revert v25; refine Kept.seal ?_; intro v25)
    extract_lets -underBinder +onlyGivenNames v26
    have h27 : Kept M s0 v26 := by
      unfold v26
      refine h1 _ ?_
      refine Kept.in_epoch (hm.bit 8 rfl) ?_
      exact h0
    (clear_value v26; revert v26; refine Kept.seal ?_; intro v26 h27)
    refine Kept.in_epoch (hm.bit 8 rfl) ?_
    exact h27

theorem kept_underOpen {s : State} {id : ℕ} {g : State → State} (hm : Within 0x100 M) (h0 : Kept M s0 s) (h1 : ∀ c1_0, Kept M s0 c1_0 → Kept M s0 (g c1_0)) :
    Kept M s0 (State.underOpen s id g) := by
  unfold State.underOpen
  (generalize q21 : (List.find? (fun o ↦ o.id == id) s.opens) = x20; revert x20; refine Kept.seal ?_; intro x20 q21)
  split
  · rename_i w22 w23
    extract_lets -underBinder +onlyGivenNames v24
    (clear_value v24; revert v24; refine Kept.seal ?_; intro v24)
    extract_lets -underBinder +onlyGivenNames v25
    (clear_value v25; revert v25; refine Kept.seal ?_; intro v25)
    extract_lets -underBinder +onlyGivenNames v26
    have h27 : Kept M s0 v26 := by
      unfold v26
      refine kept_under (hm.sub rfl) ?_ ?_
      · refine Kept.in_epoch (hm.bit 8 rfl) ?_
        exact h0
      · intro y28 h29
        refine h1 _ ?_
        exact h29
    (clear_value v26; revert v26; refine Kept.seal ?_; intro v26 h27)
    refine Kept.in_epoch (hm.bit 8 rfl) ?_
    exact h27
  · rename_i w30
    refine h1 _ ?_
    exact h0

theorem kept_underOp {s : State} {id : ℕ} {g : State → State} (hm : Within 0x100 M) (h0 : Kept M s0 s) (h1 : ∀ c1_0, Kept M s0 c1_0 → Kept M s0 (g c1_0)) :
    Kept M s0 (State.underOp s id g) := by
  unfold State.underOp
  (generalize q21 : (List.find? (fun o ↦ o.id == id) s.pool.ops) = x20; revert x20; refine Kept.seal ?_; intro x20 q21)
  split
  · rename_i w22 w23
    refine kept_under (hm.sub rfl) ?_ ?_
    · exact h0
    · intro y24 h25
      refine h1 _ ?_
      exact h25
  · rename_i w26
    refine h1 _ ?_
    exact h0

theorem kept_raiseIrq {s : State} {v : ℕ} (hm : Within 0x8000000000 M) (h0 : Kept M s0 s) :
    Kept M s0 (State.raiseIrq s v) := by
  unfold State.raiseIrq
  refine Kept.in_irq (hm.bit 39 rfl) ?_
  exact h0

theorem kept_setTeller {s : State} {p : ℕ} {k : ℕ} {t : Teller} (hm : Within 0x200000000 M) (h0 : Kept M s0 s) :
    Kept M s0 (State.setTeller s p k t) := by
  unfold State.setTeller
  refine Kept.in_tellers (hm.bit 33 rfl) ?_ (Sparse.wf_put) (Kept.seal)
  exact h0

theorem kept_chargeClass {s : State} {p : ℕ} {k : ℕ} {bytes : ℕ} (hm : Within 0x200000000 M) (h0 : Kept M s0 s) :
    Kept M s0 (State.chargeClass s p k bytes) := by
  unfold State.chargeClass
  extract_lets -underBinder +onlyGivenNames v20
  (clear_value v20; revert v20; refine Kept.seal ?_; intro v20)
  refine kept_ite ?_ ?_
  · refine kept_setTeller (hm.sub rfl) ?_
    exact h0
  · refine kept_setTeller (hm.sub rfl) ?_
    exact h0

theorem kept_waited {s : State} {p : ℕ} {k : ℕ} {ns : ℕ} (hm : Within 0x200000000 M) (h0 : Kept M s0 s) :
    Kept M s0 (State.waited s p k ns) := by
  unfold State.waited
  extract_lets -underBinder +onlyGivenNames v20
  (clear_value v20; revert v20; refine Kept.seal ?_; intro v20)
  refine kept_ite ?_ ?_
  · extract_lets -underBinder +onlyGivenNames v21
    (clear_value v21; revert v21; refine Kept.seal ?_; intro v21)
    refine kept_setTeller (hm.sub rfl) ?_
    exact h0
  · exact h0

theorem kept_charge {s : State} {p : ℕ} {tag : Tag} {bytes : ℕ} (hm : Within 0x200000000 M) (h0 : Kept M s0 s) :
    Kept M s0 (State.charge s p tag bytes) := by
  unfold State.charge
  refine kept_chargeClass (hm.sub rfl) ?_
  exact h0

theorem kept_setBucket {s : State} {j : ℕ} {n : ℤ} (hm : Within 0x80000000 M) (h0 : Kept M s0 s) :
    Kept M s0 (State.setBucket s j n) := by
  unfold State.setBucket
  refine Kept.in_pool (hm.bit 31 rfl) ?_ (Kept.seal) (Sparse.wf_put) (Kept.seal)
  exact h0

theorem kept_chargeHost {s : State} {src : Node} {n : ℕ} (hm : Within 0x80000000 M) (h0 : Kept M s0 s) :
    Kept M s0 (State.chargeHost s src n) := by
  unfold State.chargeHost
  extract_lets -underBinder +onlyGivenNames v20
  (clear_value v20; revert v20; refine Kept.seal ?_; intro v20)
  refine kept_ite ?_ ?_
  · exact h0
  · refine kept_setBucket (hm.sub rfl) ?_
    exact h0

theorem kept_setToken {s : State} {i : ℕ} {t : TokenSt} (hm : Within 0x800 M) (h0 : Kept M s0 s) :
    Kept M s0 (State.setToken s i t) := by
  unfold State.setToken
  refine Kept.in_tokens (hm.bit 11 rfl) ?_ (Sparse.wf_put)
  exact h0

theorem kept_drawToken {s : State} {port : ℕ} (hm : Within 0x200000000000000000000000000000000000000000000802 M) (h0 : Kept M s0 s) :
    KeptQ M s0 (State.drawToken s port) := by
  unfold State.drawToken
  extract_lets -underBinder +onlyGivenNames v20
  (clear_value v20; revert v20; refine Kept.seal ?_; intro v20)
  refine keptq_ite ?_ ?_
  · exact keptq_none
  · refine keptq_map ?_
    intro y21
    extract_lets -underBinder +onlyGivenNames v22
    (clear_value v22; revert v22; refine Kept.seal ?_; intro v22)
    extract_lets -underBinder +onlyGivenNames v23
    have h24 : Kept M s0 v23 := by
      unfold v23
      refine kept_setToken (hm.sub rfl) ?_
      exact h0
    (clear_value v23; revert v23; refine Kept.seal ?_; intro v23 h24)
    extract_lets -underBinder +onlyGivenNames v25
    have h26 : Kept M s0 v25 := by
      unfold v25
      refine Kept.setF (hm.bit 1 rfl) (reach_usedFld (hm.bit 189 rfl)) ?_
      exact h24
    (clear_value v25; revert v25; refine Kept.seal ?_; intro v25 h26)
    extract_lets -underBinder +onlyGivenNames v27
    have h28 : Kept M s0 v27 := by
      unfold v27
      refine Kept.setF (hm.bit 1 rfl) (reach_peakFld (hm.bit 189 rfl)) ?_
      exact h26
    (clear_value v27; revert v27; refine Kept.seal ?_; intro v27 h28)
    refine Kept.pair ?_
    exact h28

theorem kept_freeTokenAt {s : State} {idx : ℕ} (hm : Within 0x200000000000000000000000000000000000000000000802 M) (h0 : Kept M s0 s) :
    Kept M s0 (State.freeTokenAt s idx) := by
  unfold State.freeTokenAt
  extract_lets -underBinder +onlyGivenNames v20
  (clear_value v20; revert v20; refine Kept.seal ?_; intro v20)
  refine kept_ite ?_ ?_
  · extract_lets -underBinder +onlyGivenNames v21
    (clear_value v21; revert v21; refine Kept.seal ?_; intro v21)
    refine Kept.setF (hm.bit 1 rfl) (reach_usedFld (hm.bit 189 rfl)) ?_
    refine kept_setToken (hm.sub rfl) ?_
    exact h0
  · exact h0

theorem kept_setPort {s : State} {p : ℕ} {x : Port} (hm : Within 0x200 M) (h0 : Kept M s0 s) :
    Kept M s0 (State.setPort s p x) := by
  unfold State.setPort
  refine Kept.in_ports (hm.bit 9 rfl) ?_ (Sparse.wf_put)
  exact h0

theorem kept_sendFlit {s : State} {p : ℕ} {f : Flit} (hm : Within 0x100000000000 M) (h0 : Kept M s0 s) :
    Kept M s0 (State.sendFlit s p f) := by
  unfold State.sendFlit
  refine kept_emit (hm.sub rfl) ?_
  exact h0

theorem kept_flipFlit {s : State} {p : ℕ} {m : Msg} {load : ℕ} (hm : Within 0x10000000000000000000100000040002 M) (h0 : Kept M s0 s) :
    Kept M s0 (State.flipFlit s p m load) := by
  unfold State.flipFlit
  refine kept_ite ?_ ?_
  · (generalize q21 : (m.cut load) = x20; revert x20; refine Kept.seal ?_; intro x20 q21)
    split
    · rename_i w22
      exact h0
    · rename_i w23 w24 w25
      extract_lets -underBinder +onlyGivenNames v26
      (clear_value v26; revert v26; refine Kept.seal ?_; intro v26)
      extract_lets -underBinder +onlyGivenNames v27
      have h28 : Kept M s0 v27 := by
        unfold v27
        refine kept_emit (hm.sub rfl) ?_
        exact h0
      (clear_value v27; revert v27; refine Kept.seal ?_; intro v27 h28)
      extract_lets -underBinder +onlyGivenNames v29
      have h30 : Kept M s0 v29 := by
        unfold v29
        refine Kept.setF (hm.bit 1 rfl) (reach_LDG_FLIP_SEL (hm.bit 124 rfl)) ?_
        exact h28
      (clear_value v29; revert v29; refine Kept.seal ?_; intro v29 h30)
      refine Kept.in_integ (hm.bit 18 rfl) ?_ (Kept.seal) (Kept.seal)
      exact h30
  · exact h0

theorem kept_sendNow {s : State} {p : ℕ} {m : Msg} {cls : ℕ} {load : ℕ} (hm : Within 0x7000000000000000010000000000000000000100200040202 M) (h0 : Kept M s0 s) :
    Kept M s0 (State.sendNow s p m cls load) := by
  unfold State.sendNow
  extract_lets -underBinder +onlyGivenNames v20
  (clear_value v20; revert v20; refine Kept.seal ?_; intro v20)
  extract_lets -underBinder +onlyGivenNames v21
  (clear_value v21; revert v21; refine Kept.seal ?_; intro v21)
  extract_lets -underBinder +onlyGivenNames v22
  (clear_value v22; revert v22; refine Kept.seal ?_; intro v22)
  extract_lets -underBinder +onlyGivenNames v23
  have h24 : Kept M s0 v23 := by
    unfold v23
    refine kept_setPort (hm.sub rfl) ?_
    exact h0
  (clear_value v23; revert v23; refine Kept.seal ?_; intro v23 h24)
  extract_lets -underBinder +onlyGivenNames v25
  have h26 : Kept M s0 v25 := by
    unfold v25
    refine Kept.setF (hm.bit 1 rfl) (reach_creditFld (hm.bit 193 rfl)) ?_
    exact h24
  (clear_value v25; revert v25; refine Kept.seal ?_; intro v25 h26)
  extract_lets -underBinder +onlyGivenNames v27
  have h28 : Kept M s0 v27 := by
    unfold v27
    refine Kept.addF (hm.bit 1 rfl) (reach_JX_PORT_STS (hm.bit 192 rfl)) ?_
    exact h26
  (clear_value v27; revert v27; refine Kept.seal ?_; intro v27 h28)
  extract_lets -underBinder +onlyGivenNames v29
  have h30 : Kept M s0 v29 := by
    unfold v29
    refine Kept.addF (hm.bit 1 rfl) (reach_JX_PORT_TALLY (hm.bit 194 rfl)) ?_
    exact h28
  (clear_value v29; revert v29; refine Kept.seal ?_; intro v29 h30)
  extract_lets -underBinder +onlyGivenNames v31
  have h32 : Kept M s0 v31 := by
    unfold v31
    refine kept_ite ?_ ?_
    · exact h30
    · refine kept_chargeClass (hm.sub rfl) ?_
      exact h30
  (clear_value v31; revert v31; refine Kept.seal ?_; intro v31 h32)
  refine kept_flipFlit (hm.sub rfl) ?_
  refine kept_emit (hm.sub rfl) ?_
  exact h32

theorem kept_pump {s : State} {p : ℕ} {b2 : ℕ} (hm : Within 0x7000000000000000010000000000000000000100200040202 M) (h0 : Kept M s0 s) :
    Kept M s0 (State.pump s p b2) := by
  induction b2 generalizing s p
  · unfold State.pump
    exact h0
  · rename_i r0 ih
    unfold State.pump
    (generalize q21 : (s.nextToSend p) = x20; revert x20; refine Kept.seal ?_; intro x20 q21)
    split
    · rename_i w22
      exact h0
    · rename_i w23 w24
      extract_lets -underBinder +onlyGivenNames v25
      (clear_value v25; revert v25; refine Kept.seal ?_; intro v25)
      extract_lets -underBinder +onlyGivenNames v26
      have h27 : Kept M s0 v26 := by
        unfold v26
        refine kept_ite ?_ ?_
        · exact h0
        · refine kept_waited (hm.sub rfl) ?_
          exact h0
      (clear_value v26; revert v26; refine Kept.seal ?_; intro v26 h27)
      extract_lets -underBinder +onlyGivenNames v28
      (clear_value v28; revert v28; refine Kept.seal ?_; intro v28)
      apply ih
      refine kept_sendNow (hm.sub rfl) ?_
      refine kept_setPort (hm.sub rfl) ?_
      exact h27

theorem kept_sendOn {s : State} {p : ℕ} {m : Msg} {load : ℕ} (hm : Within 0x7000000000000000010000000000000000000100200040202 M) (h0 : Kept M s0 s) :
    Kept M s0 (State.sendOn s p m load) := by
  unfold State.sendOn
  refine kept_ite ?_ ?_
  · refine kept_sendNow (hm.sub rfl) ?_
    exact h0
  · extract_lets -underBinder +onlyGivenNames v20
    (clear_value v20; revert v20; refine Kept.seal ?_; intro v20)
    extract_lets -underBinder +onlyGivenNames v21
    have h22 : Kept M s0 v21 := by
      unfold v21
      refine kept_setPort (hm.sub rfl) ?_
      exact h0
    (clear_value v21; revert v21; refine Kept.seal ?_; intro v21 h22)
    refine kept_pump (hm.sub rfl) ?_
    exact h22

theorem kept_countDrop {s : State} {p : ℕ} (hm : Within 0x4000000000000000000000000000000000000000000000002 M) (h0 : Kept M s0 s) :
    Kept M s0 (State.countDrop s p) := by
  unfold State.countDrop
  refine Kept.addF (hm.bit 1 rfl) (reach_JX_PORT_TALLY (hm.bit 194 rfl)) ?_
  exact h0

theorem kept_ibi {s : State} {b : ℕ} (hm : Within 0x101000000000 M) (h0 : Kept M s0 s) :
    Kept M s0 (State.ibi s b) := by
  unfold State.ibi
  refine kept_ite ?_ ?_
  · refine kept_emit (hm.sub rfl) ?_
    refine Kept.in_mgmt (hm.bit 36 rfl) ?_
    exact h0
  · exact h0

theorem kept_putRing {s : State} {d : ℕ} {r : Record} (hm : Within 0x7000000000000000010700000000000000000109200040202 M) (h0 : Kept M s0 s) :
    Kept M s0 (State.putRing s d r) := by
  unfold State.putRing
  extract_lets -underBinder +onlyGivenNames v20
  (clear_value v20; revert v20; refine Kept.seal ?_; intro v20)
  extract_lets -underBinder +onlyGivenNames v21
  (clear_value v21; revert v21; refine Kept.seal ?_; intro v21)
  extract_lets -underBinder +onlyGivenNames v22
  (clear_value v22; revert v22; refine Kept.seal ?_; intro v22)
  extract_lets -underBinder +onlyGivenNames v23
  (clear_value v23; revert v23; refine Kept.seal ?_; intro v23)
  extract_lets -underBinder +onlyGivenNames v24
  extract_lets -underBinder +onlyGivenNames v25
  have h26 : Kept M s0 v25 := by
    unfold v25
    refine Kept.in_integ (hm.bit 18 rfl) ?_ (Sparse.wf_put) (Kept.seal)
    exact h0
  (clear_value v25; revert v25; refine Kept.seal ?_; intro v25 h26)
  extract_lets -underBinder +onlyGivenNames v27
  have h28 : Kept M s0 v27 := by
    unfold v27
    refine Kept.setF (hm.bit 1 rfl) (reach_LDG_TAIL (hm.bit 117 rfl)) ?_
    exact h26
  (clear_value v27; revert v27; refine Kept.seal ?_; intro v27 h28)
  extract_lets -underBinder +onlyGivenNames v29
  have h30 : Kept M s0 v29 := by
    unfold v29
    refine kept_ite ?_ ?_
    · refine Kept.satF (hm.bit 1 rfl) (reach_LDG_STS (hm.bit 118 rfl)) ?_
      refine Kept.setF (hm.bit 1 rfl) (reach_LDG_HEAD (hm.bit 116 rfl)) ?_
      exact h28
    · exact h28
  (clear_value v29; revert v29; refine Kept.seal ?_; intro v29 h30)
  extract_lets -underBinder +onlyGivenNames v31
  (clear_value v31; revert v31; refine Kept.seal ?_; intro v31)
  extract_lets -underBinder +onlyGivenNames v32
  have h33 : Kept M s0 v32 := by
    unfold v32
    refine kept_ite ?_ ?_
    · refine kept_raiseIrq (hm.sub rfl) ?_
      exact h30
    · exact h30
  (clear_value v32; revert v32; refine Kept.seal ?_; intro v32 h33)
  extract_lets -underBinder +onlyGivenNames v34
  have h35 : Kept M s0 v34 := by
    unfold v34
    refine kept_ite ?_ ?_
    · refine kept_ibi (hm.sub rfl) ?_
      exact h33
    · exact h33
  (clear_value v34; revert v34; refine Kept.seal ?_; intro v34 h35)
  extract_lets -underBinder +onlyGivenNames v36
  (clear_value v36; revert v36; refine Kept.seal ?_; intro v36)
  refine kept_ite ?_ ?_
  · extract_lets -underBinder +onlyGivenNames v37
    (clear_value v37; revert v37; refine Kept.seal ?_; intro v37)
    (generalize q39 : (v34.route v37) = x38; revert x38; refine Kept.seal ?_; intro x38 q39)
    split
    · rename_i w40 w41
      refine kept_sendOn (hm.sub rfl) ?_
      exact h35
    · rename_i w42
      refine kept_countDrop (hm.sub rfl) ?_
      exact h35
  · exact h35

theorem kept_putRecord {s : State} {r : Record} (hm : Within 0x7000000000000000010700000000000000000109a00040202 M) (h0 : Kept M s0 s) :
    Kept M s0 (State.putRecord s r) := by
  unfold State.putRecord
  refine kept_ite ?_ ?_
  · refine Kept.in_boot (hm.bit 35 rfl) ?_
    exact h0
  · refine kept_putRing (hm.sub rfl) ?_
    exact h0

theorem kept_setMerges {s : State} {d : ℕ} {l : List Merge} (hm : Within 0x40000 M) (h0 : Kept M s0 s) :
    Kept M s0 (State.setMerges s d l) := by
  unfold State.setMerges
  refine kept_ite ?_ ?_
  · refine Kept.in_integ (hm.bit 18 rfl) ?_ (Kept.seal) (Kept.seal)
    exact h0
  · refine Kept.in_integ (hm.bit 18 rfl) ?_ (Kept.seal) (Kept.seal)
    exact h0

theorem kept_closeMerge {s : State} {m : Merge} (hm : Within 0x7000000000000000010700000000000000000109a00040202 M) (h0 : Kept M s0 s) :
    Kept M s0 (State.closeMerge s m) := by
  unfold State.closeMerge
  refine kept_ite ?_ ?_
  · exact h0
  · refine kept_putRecord (hm.sub rfl) ?_
    exact h0

theorem kept_ledger {s : State} {e : Event} (hm : Within 0x7000000000000000010700000000000000000109a00040202 M) (h0 : Kept M s0 s) :
    Kept M s0 (State.ledger s e) := by
  unfold State.ledger
  extract_lets -underBinder +onlyGivenNames v20
  (clear_value v20; revert v20; refine Kept.seal ?_; intro v20)
  extract_lets -underBinder +onlyGivenNames v21
  (clear_value v21; revert v21; refine Kept.seal ?_; intro v21)
  extract_lets -underBinder +onlyGivenNames v22
  (clear_value v22; revert v22; refine Kept.seal ?_; intro v22)
  refine kept_ite ?_ ?_
  · refine kept_putRecord (hm.sub rfl) ?_
    exact h0
  · extract_lets -underBinder +onlyGivenNames v23
    (clear_value v23; revert v23; refine Kept.seal ?_; intro v23)
    (generalize q25 : (List.find? (fun m ↦ m.record.sameKey v21 && Decidable.decide (s.count < m.openedAt + s.mergeNs)) v23) = x24; revert x24; refine Kept.seal ?_; intro x24 q25)
    split
    · rename_i w26 w27
      refine kept_setMerges (hm.sub rfl) ?_
      exact h0
    · rename_i w28
      extract_lets -underBinder +onlyGivenNames v29
      (clear_value v29; revert v29; refine Kept.seal ?_; intro v29)
      extract_lets -underBinder +onlyGivenNames v30
      (clear_value v30; revert v30; refine Kept.seal ?_; intro v30)
      extract_lets -underBinder +onlyGivenNames v31
      (clear_value v31; revert v31; refine Kept.seal ?_; intro v31)
      extract_lets -underBinder +onlyGivenNames v32
      (clear_value v32; revert v32; refine Kept.seal ?_; intro v32)
      extract_lets -underBinder +onlyGivenNames v33
      have h34 : Kept M s0 v33 := by
        unfold v33
        refine kept_setMerges (hm.sub rfl) ?_
        exact h0
      (clear_value v33; revert v33; refine Kept.seal ?_; intro v33 h34)
      refine kept_putRecord (hm.sub rfl) ?_
      refine kept_forEach ?_ ?_
      · intro y35 y36 h37
        refine kept_closeMerge (hm.sub rfl) ?_
        exact h37
      · exact h34

theorem kept_dropMsg {s : State} {m : Msg} {own : Option ℕ} (hm : Within 0x7200000000000000010700000000000000000109a00040a02 M) (h0 : Kept M s0 s) :
    Kept M s0 (State.dropMsg s m own) := by
  unfold State.dropMsg
  extract_lets -underBinder +onlyGivenNames v20
  (clear_value v20; revert v20; refine Kept.seal ?_; intro v20)
  extract_lets -underBinder +onlyGivenNames v21
  have h22 : Kept M s0 v21 := by
    unfold v21
    (generalize q24 : (m.token) = x23; revert x23; refine Kept.seal ?_; intro x23 q24)
    split
    · rename_i w25 w26
      refine kept_freeTokenAt (hm.sub rfl) ?_
      exact h0
    · rename_i w27
      exact h0
  (clear_value v21; revert v21; refine Kept.seal ?_; intro v21 h22)
  refine kept_ledger (hm.sub rfl) ?_
  refine kept_countDrop (hm.sub rfl) ?_
  exact h22

theorem kept_settleFlip {s : State} (hm : Within 0x7000000000000000010700000000000000000109a00040202 M) (h0 : Kept M s0 s) :
    Kept M s0 (State.settleFlip s) := by
  unfold State.settleFlip
  (generalize q21 : (s.integ.flitFlip) = x20; revert x20; refine Kept.seal ?_; intro x20 q21)
  split
  · rename_i w22
    exact h0
  · rename_i w23 w24 w25
    refine kept_ledger (hm.sub rfl) ?_
    refine Kept.in_integ (hm.bit 18 rfl) ?_ (Kept.seal) (Kept.seal)
    exact h0

theorem kept_sendAt {s : State} {p : ℕ} {m : Msg} {load : ℕ} (hm : Within 0x7000000000000000010700000000000000000109a00040202 M) (h0 : Kept M s0 s) :
    Kept M s0 (State.sendAt s p m load) := by
  unfold State.sendAt
  refine kept_settleFlip (hm.sub rfl) ?_
  refine kept_sendOn (hm.sub rfl) ?_
  exact h0

theorem kept_sendBy {s : State} {m : Msg} {own : Option ℕ} (hm : Within 0x7200000000000000010700000000000000000109a00040a02 M) (h0 : Kept M s0 s) :
    Kept M s0 (State.sendBy s m own) := by
  unfold State.sendBy
  (generalize q21 : (s.route m) = x20; revert x20; refine Kept.seal ?_; intro x20 q21)
  split
  · rename_i w22 w23
    refine kept_sendAt (hm.sub rfl) ?_
    exact h0
  · rename_i w24
    refine kept_dropMsg (hm.sub rfl) ?_
    exact h0

theorem kept_sendRouted {s : State} {m : Msg} (hm : Within 0x7200000000000000010700000000000000000109a00040a02 M) (h0 : Kept M s0 s) :
    Kept M s0 (State.sendRouted s m) := by
  unfold State.sendRouted
  refine kept_sendBy (hm.sub rfl) ?_
  exact h0

theorem kept_sendResponse {s : State} {p : ℕ} {m : Msg} {load : ℕ} (hm : Within 0x7200000000000000010700000000000000000109a00040a02 M) (h0 : Kept M s0 s) :
    Kept M s0 (State.sendResponse s p m load) := by
  unfold State.sendResponse
  refine kept_ite ?_ ?_
  · refine kept_sendAt (hm.sub rfl) ?_
    exact h0
  · refine kept_sendBy (hm.sub rfl) ?_
    exact h0

theorem kept_sendNotice {s : State} {dst : Node} {tag : Tag} {ntype : ℕ} {body : Bytes} (hm : Within 0x7200000000000000010700000000000000000109a00040a02 M) (h0 : Kept M s0 s) :
    Kept M s0 (State.sendNotice s dst tag ntype body) := by
  unfold State.sendNotice
  refine kept_sendRouted (hm.sub rfl) ?_
  exact h0

theorem kept_noticeTo {s : State} {dst : ℕ} {tag : Tag} {ntype : ℕ} {body : Bytes} (hm : Within 0x7200000000000000010700000000000000000109a00040a02 M) (h0 : Kept M s0 s) :
    Kept M s0 (State.noticeTo s dst tag ntype body) := by
  unfold State.noticeTo
  refine kept_ite ?_ ?_
  · exact h0
  · refine kept_sendNotice (hm.sub rfl) ?_
    exact h0

end Sys2Proof.Machine
end

