-- ==== Sys2Proof/Laws/Kept/Mem.lean ====
section
/-! SUPPORT. What the operations of Mem may write: each keeps its footprint. -/

namespace Sys2Proof.Machine

variable {M : Nat} {s0 : State}

theorem kept_flipDone {s : State} {tag : Tag} {unitKind : ℕ} {unit : ℕ} {addr : ℕ} (hm : Within 0x7000000000000000010700000000000000000109a00040202 M) (h0 : Kept M s0 s) :
    Kept M s0 (State.flipDone s tag unitKind unit addr) := by
  unfold State.flipDone
  refine kept_ledger (hm.sub rfl) ?_
  refine Kept.setF (hm.bit 1 rfl) (reach_LDG_FLIP_SEL (hm.bit 124 rfl)) ?_
  exact h0

theorem kept_rawWrite {s : State} {unit : ℕ} {raw : ℕ} {bs : Bytes} (hm : Within 0x4 M) (h0 : Kept M s0 s) :
    Kept M s0 (State.rawWrite s unit raw bs) := by
  unfold State.rawWrite
  refine Kept.in_dram (hm.bit 2 rfl) ?_ (Sparse.wf_putList)
  exact h0

theorem kept_checkUse {s : State} {l : GrainLoc} (hm : Within 0x80000 M) (h0 : Kept M s0 s) :
    Kept M s0 (State.checkUse s l) := by
  unfold State.checkUse
  extract_lets -underBinder +onlyGivenNames v20
  (clear_value v20; revert v20; refine Kept.seal ?_; intro v20)
  extract_lets -underBinder +onlyGivenNames v21
  (clear_value v21; revert v21; refine Kept.seal ?_; intro v21)
  refine Kept.in_dramCtl (hm.bit 19 rfl) ?_ (Kept.seal) (Kept.seal) (Kept.seal) (Kept.seal) (Kept.seal) (Kept.seal) (Sparse.wf_put)
  exact h0

theorem kept_putGrain {s : State} {l : GrainLoc} {data : Bytes} {check : Bytes} (hm : Within 0x80004 M) (h0 : Kept M s0 s) :
    Kept M s0 (State.putGrain s l data check) := by
  unfold State.putGrain
  refine kept_checkUse (hm.sub rfl) ?_
  refine kept_rawWrite (hm.sub rfl) ?_
  refine kept_rawWrite (hm.sub rfl) ?_
  exact h0

theorem kept_poisonGrain {s : State} {l : GrainLoc} (hm : Within 0x80004 M) (h0 : Kept M s0 s) :
    Kept M s0 (State.poisonGrain s l) := by
  unfold State.poisonGrain
  refine kept_putGrain (hm.sub rfl) ?_
  exact h0

theorem kept_writeGrain {s : State} {l : GrainLoc} {data : Bytes} {tag : Tag} {addr : ℕ} (hm : Within 0x7000000000000000010700000000000000000109a000c0206 M) (h0 : Kept M s0 s) :
    Kept M s0 (State.writeGrain s l data tag addr) := by
  unfold State.writeGrain
  extract_lets -underBinder +onlyGivenNames v20
  (clear_value v20; revert v20; refine Kept.seal ?_; intro v20)
  extract_lets -underBinder +onlyGivenNames v21
  extract_lets -underBinder +onlyGivenNames v22
  have h23 : Kept M s0 v22 := by
    unfold v22
    refine Kept.in_integ (hm.bit 18 rfl) ?_ (Kept.seal) (Kept.seal)
    exact h0
  (clear_value v22; revert v22; refine Kept.seal ?_; intro v22 h23)
  refine kept_ite ?_ ?_
  · extract_lets -underBinder +onlyGivenNames v24
    (clear_value v24; revert v24; refine Kept.seal ?_; intro v24)
    extract_lets -underBinder +onlyGivenNames v25
    have h26 : Kept M s0 v25 := by
      unfold v25
      refine kept_putGrain (hm.sub rfl) ?_
      exact h23
    (clear_value v25; revert v25; refine Kept.seal ?_; intro v25 h26)
    refine kept_flipDone (hm.sub rfl) ?_
    refine Kept.in_integ (hm.bit 18 rfl) ?_ (Kept.seal) (Kept.seal)
    exact h26
  · refine kept_putGrain (hm.sub rfl) ?_
    exact h23

theorem kept_ceEvent {s : State} {d : ℕ} {addr : ℕ} {unitKind : ℕ} {unit : ℕ} {code : ℕ} {flags : ℕ} {op : ℕ} {tag : Tag} (hm : Within 0x7000000000000000190700000000000000000109a00040202 M) (h0 : Kept M s0 s) :
    Kept M s0 (State.ceEvent s d addr unitKind unit code flags op tag) := by
  unfold State.ceEvent
  extract_lets -underBinder +onlyGivenNames v20
  (clear_value v20; revert v20; refine Kept.seal ?_; intro v20)
  extract_lets -underBinder +onlyGivenNames v21
  (clear_value v21; revert v21; refine Kept.seal ?_; intro v21)
  extract_lets -underBinder +onlyGivenNames v22
  (clear_value v22; revert v22; refine Kept.seal ?_; intro v22)
  (generalize q24 : (List.find? (fun i ↦ s.f (Sys2Proof.F.LDG_CE_ADDR_ADDR d i) == addr && s.f (Sys2Proof.F.LDG_CE_INFO_UNIT_KIND d i) == unitKind) v20) = x23; revert x23; refine Kept.seal ?_; intro x23 q24)
  split
  · rename_i w25 w26
    extract_lets -underBinder +onlyGivenNames v27
    (clear_value v27; revert v27; refine Kept.seal ?_; intro v27)
    extract_lets -underBinder +onlyGivenNames v28
    have h29 : Kept M s0 v28 := by
      unfold v28
      refine Kept.setF (hm.bit 1 rfl) (reach_LDG_CE_INFO (hm.bit 128 rfl)) ?_
      refine Kept.satF (hm.bit 1 rfl) (reach_LDG_CE_INFO (hm.bit 128 rfl)) ?_
      exact h0
    (clear_value v28; revert v28; refine Kept.seal ?_; intro v28 h29)
    refine kept_ite ?_ ?_
    · refine kept_ledger (hm.sub rfl) ?_
      exact h29
    · exact h29
  · rename_i w30
    (generalize q32 : (List.find? (fun i ↦ s.f (Sys2Proof.F.LDG_CE_INFO_UNIT_KIND d i) == 0) (List.range 256)) = x31; revert x31; refine Kept.seal ?_; intro x31 q32)
    split
    · rename_i w33 w34
      extract_lets -underBinder +onlyGivenNames v35
      have h36 : Kept M s0 v35 := by
        unfold v35
        refine Kept.setF (hm.bit 1 rfl) (reach_LDG_CE_ADDR (hm.bit 127 rfl)) ?_
        exact h0
      (clear_value v35; revert v35; refine Kept.seal ?_; intro v35 h36)
      extract_lets -underBinder +onlyGivenNames v37
      have h38 : Kept M s0 v37 := by
        unfold v37
        refine Kept.setReg (hm.bit 1 rfl) (reach_LDG_CE_INFO (hm.bit 128 rfl)) ?_
        exact h36
      (clear_value v37; revert v37; refine Kept.seal ?_; intro v37 h38)
      extract_lets -underBinder +onlyGivenNames v39
      have h40 : Kept M s0 v39 := by
        unfold v39
        refine Kept.addF (hm.bit 1 rfl) (reach_LDG_STS (hm.bit 118 rfl)) ?_
        exact h38
      (clear_value v39; revert v39; refine Kept.seal ?_; intro v39 h40)
      refine kept_ledger (hm.sub rfl) ?_
      exact h40
    · rename_i w41
      refine kept_ite ?_ ?_
      · exact h0
      · refine kept_ledger (hm.sub rfl) ?_
        refine Kept.setF (hm.bit 1 rfl) (reach_LDG_STS (hm.bit 118 rfl)) ?_
        exact h0

theorem kept_ueRead {s : State} {l : GrainLoc} (hm : Within 0x20200000000000000000000000000000000000080002 M) (h0 : Kept M s0 s) :
    Kept M s0 (State.ueRead s l) := by
  unfold State.ueRead
  extract_lets -underBinder +onlyGivenNames v20
  have h21 : Kept M s0 v20 := by
    unfold v20
    refine Kept.addF (hm.bit 1 rfl) (reach_dramTally (hm.bit 165 rfl) (hm.bit 173 rfl)) ?_
    exact h0
  (clear_value v20; revert v20; refine Kept.seal ?_; intro v20 h21)
  extract_lets -underBinder +onlyGivenNames v22
  (clear_value v22; revert v22; refine Kept.seal ?_; intro v22)
  refine Kept.in_dramCtl (hm.bit 19 rfl) ?_ (Kept.seal) (Sparse.wf_put) (Kept.seal) (Kept.seal) (Kept.seal) (Kept.seal) (Kept.seal)
  exact h21

theorem kept_readGrain {s : State} {l : GrainLoc} {addr : ℕ} {op : ℕ} {tag : Tag} (hm : Within 0x7000020200000000190700000000000000000109a000c0206 M) (h0 : Kept M s0 s) :
    KeptP M s0 (State.readGrain s l addr op tag) := by
  unfold State.readGrain
  refine keptp_ite ?_ ?_
  · refine Kept.pair ?_
    exact h0
  · extract_lets -underBinder +onlyGivenNames v20
    have h21 : Kept M s0 v20 := by
      unfold v20
      refine kept_checkUse (hm.sub rfl) ?_
      exact h0
    (clear_value v20; revert v20; refine Kept.seal ?_; intro v20 h21)
    extract_lets -underBinder +onlyGivenNames v22
    (clear_value v22; revert v22; refine Kept.seal ?_; intro v22)
    extract_lets -underBinder +onlyGivenNames v23
    (clear_value v23; revert v23; refine Kept.seal ?_; intro v23)
    (generalize q25 : (v23.2) = x24; revert x24; refine Kept.seal ?_; intro x24 q25)
    split
    · rename_i w26
      extract_lets -underBinder +onlyGivenNames v27
      (clear_value v27; revert v27; refine Kept.seal ?_; intro v27)
      extract_lets -underBinder +onlyGivenNames v28
      have h29 : Kept M s0 v28 := by
        unfold v28
        refine kept_putGrain (hm.sub rfl) ?_
        exact h21
      (clear_value v28; revert v28; refine Kept.seal ?_; intro v28 h29)
      extract_lets -underBinder +onlyGivenNames v30
      have h31 : Kept M s0 v30 := by
        unfold v30
        refine Kept.addF (hm.bit 1 rfl) (reach_dramTally (hm.bit 165 rfl) (hm.bit 173 rfl)) ?_
        exact h29
      (clear_value v30; revert v30; refine Kept.seal ?_; intro v30 h31)
      refine Kept.pair ?_
      refine kept_ceEvent (hm.sub rfl) ?_
      exact h31
    · rename_i w32
      refine Kept.pair ?_
      refine kept_ueRead (hm.sub rfl) ?_
      exact h21
    · rename_i w33
      refine Kept.pair ?_
      refine kept_ueRead (hm.sub rfl) ?_
      exact h21
    · rename_i w34 w35 w36 w37
      refine Kept.pair ?_
      exact h21

theorem kept_setStorePoison {s : State} {g : ℕ} {b : Bool} (hm : Within 0x10 M) (h0 : Kept M s0 s) :
    Kept M s0 (State.setStorePoison s g b) := by
  unfold State.setStorePoison
  refine Kept.in_storePoison (hm.bit 4 rfl) ?_ (Sparse.wf_put)
  exact h0

theorem kept_setSrcRec {s : State} {block : ℕ} {r : Option SrcRec} (hm : Within 0x40 M) (h0 : Kept M s0 s) :
    Kept M s0 (State.setSrcRec s block r) := by
  unfold State.setSrcRec
  refine Kept.in_srcRecs (hm.bit 6 rfl) ?_ (Sparse.wf_put)
  exact h0

theorem kept_setInjected {s : State} {k : ℕ} {b : Bool} (hm : Within 0x40000 M) (h0 : Kept M s0 s) :
    Kept M s0 (State.setInjected s k b) := by
  unfold State.setInjected
  extract_lets -underBinder +onlyGivenNames v20
  (clear_value v20; revert v20; refine Kept.seal ?_; intro v20)
  refine Kept.in_integ (hm.bit 18 rfl) ?_ (Kept.seal) (Kept.seal)
  exact h0

theorem kept_writeStoreGrain {s : State} {o : ℕ} {bs : Bytes} {tag : Tag} (hm : Within 0x7000000000000000010700000000000000000109a0004027a M) (h0 : Kept M s0 s) :
    Kept M s0 (State.writeStoreGrain s o bs tag) := by
  unfold State.writeStoreGrain
  refine kept_ite ?_ ?_
  · exact h0
  · extract_lets -underBinder +onlyGivenNames v20
    (clear_value v20; revert v20; refine Kept.seal ?_; intro v20)
    extract_lets -underBinder +onlyGivenNames v21
    (clear_value v21; revert v21; refine Kept.seal ?_; intro v21)
    extract_lets -underBinder +onlyGivenNames v22
    (clear_value v22; revert v22; refine Kept.seal ?_; intro v22)
    extract_lets -underBinder +onlyGivenNames v23
    (clear_value v23; revert v23; refine Kept.seal ?_; intro v23)
    extract_lets -underBinder +onlyGivenNames v24
    (clear_value v24; revert v24; refine Kept.seal ?_; intro v24)
    extract_lets -underBinder +onlyGivenNames v25
    (clear_value v25; revert v25; refine Kept.seal ?_; intro v25)
    extract_lets -underBinder +onlyGivenNames v26
    (clear_value v26; revert v26; refine Kept.seal ?_; intro v26)
    extract_lets -underBinder +onlyGivenNames v27
    (clear_value v27; revert v27; refine Kept.seal ?_; intro v27)
    extract_lets -underBinder +onlyGivenNames v28
    have h29 : Kept M s0 v28 := by
      unfold v28
      refine Kept.in_stores (x := { s with storeParity := Sys2Proof.Sparse.putList Sys2Proof.Machine.clearBit s.storeParity o v27 }) (hm.bit 3 rfl) ?_ (Sparse.wf_putList)
      refine Kept.in_storeParity (hm.bit 5 rfl) ?_ (Sparse.wf_putList)
      exact h0
    (clear_value v28; revert v28; refine Kept.seal ?_; intro v28 h29)
    extract_lets -underBinder +onlyGivenNames v30
    have h31 : Kept M s0 v30 := by
      unfold v30
      refine kept_ite ?_ ?_
      · refine kept_setStorePoison (hm.sub rfl) ?_
        exact h29
      · exact h29
    (clear_value v30; revert v30; refine Kept.seal ?_; intro v30 h31)
    extract_lets -underBinder +onlyGivenNames v32
    have h33 : Kept M s0 v32 := by
      unfold v32
      refine kept_setSrcRec (hm.sub rfl) ?_
      exact h31
    (clear_value v32; revert v32; refine Kept.seal ?_; intro v32 h33)
    refine kept_ite ?_ ?_
    · refine kept_flipDone (hm.sub rfl) ?_
      refine kept_setInjected (hm.sub rfl) ?_
      exact h33
    · refine kept_ite ?_ ?_
      · refine kept_setInjected (hm.sub rfl) ?_
        exact h33
      · exact h33

theorem kept_readStoreGrain {s : State} {g : ℕ} {op : ℕ} {tag : Tag} (hm : Within 0x7000000000000000010700000000000000000109a00040232 M) (h0 : Kept M s0 s) :
    KeptP M s0 (State.readStoreGrain s g op tag) := by
  unfold State.readStoreGrain
  refine keptp_ite ?_ ?_
  · refine Kept.pair ?_
    exact h0
  · refine keptp_ite ?_ ?_
    · refine keptp_ite ?_ ?_
      · refine Kept.pair ?_
        exact h0
      · extract_lets -underBinder +onlyGivenNames v20
        (clear_value v20; revert v20; refine Kept.seal ?_; intro v20)
        extract_lets -underBinder +onlyGivenNames v21
        have h22 : Kept M s0 v21 := by
          unfold v21
          refine Kept.in_storeParity (hm.bit 5 rfl) ?_ (Sparse.wf_clear)
          exact h0
        (clear_value v21; revert v21; refine Kept.seal ?_; intro v21 h22)
        refine Kept.pair ?_
        refine kept_ledger (hm.sub rfl) ?_
        refine kept_setStorePoison (hm.sub rfl) ?_
        exact h22
    · refine keptp_ite ?_ ?_
      · refine Kept.pair ?_
        exact h0
      · refine Kept.pair ?_
        exact h0

theorem kept_writeTags {s : State} {c : ℕ} {g : ℕ} (hm : Within 0x80004 M) (h0 : Kept M s0 s) :
    Kept M s0 (State.writeTags s c g) := by
  unfold State.writeTags
  (generalize q21 : (Sys2Proof.Machine.tagLoc c g) = x20; revert x20; refine Kept.seal ?_; intro x20 q21)
  split
  · rename_i w22 w23
    refine kept_putGrain (hm.sub rfl) ?_
    exact h0
  · rename_i w24
    exact h0

theorem kept_tagUse {s : State} {c : ℕ} {g : ℕ} {tag : Tag} (hm : Within 0x7000020200000000190700000000000000000109a000e0206 M) (h0 : Kept M s0 s) :
    Kept M s0 (State.tagUse s c g tag) := by
  unfold State.tagUse
  extract_lets -underBinder +onlyGivenNames v20
  (clear_value v20; revert v20; refine Kept.seal ?_; intro v20)
  extract_lets -underBinder +onlyGivenNames v21
  have h22 : Kept M s0 v21 := by
    unfold v21
    refine kept_ite ?_ ?_
    · exact h0
    · (generalize q24 : (Sys2Proof.Machine.tagLoc c g) = x23; revert x23; refine Kept.seal ?_; intro x23 q24)
      split
      · rename_i w25 w26
        refine kept_charge (hm.sub rfl) ?_
        refine KeptP.st ?_
        refine kept_readGrain (hm.sub rfl) ?_
        exact h0
      · rename_i w27
        exact h0
  (clear_value v21; revert v21; refine Kept.seal ?_; intro v21 h22)
  refine Kept.in_canopy (hm.bit 17 rfl) ?_ (Kept.seal) (Kept.seal) (Kept.seal) (Sparse.wf_put)
  exact h22

theorem kept_setLine {s : State} {c : ℕ} {set : ℕ} {way : ℕ} {l : Option Line} (hm : Within 0xa0004 M) (h0 : Kept M s0 s) :
    Kept M s0 (State.setLine s c set way l) := by
  unfold State.setLine
  refine kept_writeTags (hm.sub rfl) ?_
  refine Kept.in_canopy (hm.bit 17 rfl) ?_ (Sparse.wf_put) (Kept.seal) (Kept.seal) (Kept.seal)
  exact h0

theorem kept_clearTags {s : State} {c : ℕ} {k : ℕ} (hm : Within 0x4 M) (h0 : Kept M s0 s) :
    Kept M s0 (State.clearTags s c k) := by
  unfold State.clearTags
  refine kept_forEach ?_ ?_
  · intro y20 y21 h22
    refine Kept.in_dram (hm.bit 2 rfl) ?_ (Sparse.wf_clear)
    exact h22
  · exact h0

theorem kept_setPageUse {s : State} {p : ℕ} {u : PageUse} (hm : Within 0x20000 M) (h0 : Kept M s0 s) :
    Kept M s0 (State.setPageUse s p u) := by
  unfold State.setPageUse
  refine Kept.in_canopy (hm.bit 17 rfl) ?_ (Kept.seal) (Kept.seal) (Sparse.wf_put) (Kept.seal)
  exact h0

theorem kept_countPage {s : State} {p : ℕ} {line : ℕ} {tag : Tag} (hm : Within 0x20000 M) (h0 : Kept M s0 s) :
    Kept M s0 (State.countPage s p line tag) := by
  unfold State.countPage
  extract_lets -underBinder +onlyGivenNames v20
  (clear_value v20; revert v20; refine Kept.seal ?_; intro v20)
  refine kept_ite ?_ ?_
  · exact h0
  · extract_lets -underBinder +onlyGivenNames v21
    extract_lets -underBinder +onlyGivenNames v22
    have h23 : Kept M s0 v22 := by
      unfold v22
      refine Kept.in_canopy (hm.bit 17 rfl) ?_ (Kept.seal) (Kept.seal) (Kept.seal) (Kept.seal)
      exact h0
    (clear_value v22; revert v22; refine Kept.seal ?_; intro v22 h23)
    extract_lets -underBinder +onlyGivenNames v24
    (clear_value v24; revert v24; refine Kept.seal ?_; intro v24)
    extract_lets -underBinder +onlyGivenNames v25
    (clear_value v25; revert v25; refine Kept.seal ?_; intro v25)
    refine kept_setPageUse (hm.sub rfl) ?_
    exact h23

theorem kept_touchWay {s : State} {c : ℕ} {set : ℕ} {way : ℕ} (hm : Within 0x20000 M) (h0 : Kept M s0 s) :
    Kept M s0 (State.touchWay s c set way) := by
  unfold State.touchWay
  refine Kept.in_canopy (hm.bit 17 rfl) ?_ (Kept.seal) (Sparse.wf_put) (Kept.seal) (Kept.seal)
  exact h0

theorem kept_copyGrain {s : State} {src : Option GrainLoc} {dst : Option GrainLoc} {addr : ℕ} {op : ℕ} {tag : Tag} (hm : Within 0x7000020200000000190700000000000000000109a000c0206 M) (h0 : Kept M s0 s) :
    Kept M s0 (State.copyGrain s src dst addr op tag) := by
  unfold State.copyGrain
  split
  · rename_i w20 w21 w22 w23
    extract_lets -underBinder +onlyGivenNames v24
    (clear_value v24; revert v24; refine Kept.seal ?_; intro v24)
    extract_lets -underBinder +onlyGivenNames v25
    have h26 : KeptP M s0 v25 := by
      unfold v25
      refine kept_readGrain (hm.sub rfl) ?_
      exact h0
    (clear_value v25; revert v25; refine Kept.seal ?_; intro v25 h26)
    extract_lets -underBinder +onlyGivenNames v27
    have h28 : Kept M s0 v27 := by
      unfold v27
      refine kept_charge (hm.sub rfl) ?_
      exact (KeptP.st h26)
    (clear_value v27; revert v27; refine Kept.seal ?_; intro v27 h28)
    extract_lets -underBinder +onlyGivenNames v29
    have h30 : Kept M s0 v29 := by
      unfold v29
      refine kept_charge (hm.sub rfl) ?_
      exact h28
    (clear_value v29; revert v29; refine Kept.seal ?_; intro v29 h30)
    (generalize q32 : (v25.2.2) = x31; revert x31; refine Kept.seal ?_; intro x31 q32)
    split
    · rename_i w33
      refine kept_putGrain (hm.sub rfl) ?_
      exact h30
    · rename_i w34
      refine kept_putGrain (hm.sub rfl) ?_
      exact h30
    · rename_i w35
      refine kept_poisonGrain (hm.sub rfl) ?_
      exact h30
    · rename_i w36
      refine kept_putGrain (hm.sub rfl) ?_
      exact h30
    · rename_i w37
      refine kept_putGrain (hm.sub rfl) ?_
      exact h30
  · rename_i w38 w39 w40
    exact h0

theorem kept_writeBack {s : State} {c : ℕ} {set : ℕ} {way : ℕ} (hm : Within 0x7000020204000000190700000000000000000109a000e0206 M) (h0 : Kept M s0 s) :
    Kept M s0 (State.writeBack s c set way) := by
  unfold State.writeBack
  (generalize q21 : (s.line c set way) = x20; revert x20; refine Kept.seal ?_; intro x20 q21)
  split
  · rename_i w22 w23
    refine kept_ite ?_ ?_
    · extract_lets -underBinder +onlyGivenNames v24
      have h25 : Kept M s0 v24 := by
        unfold v24
        refine kept_forEach ?_ ?_
        · intro y26 y27 h28
          refine kept_copyGrain (hm.sub rfl) ?_
          exact h28
        · exact h0
      (clear_value v24; revert v24; refine Kept.seal ?_; intro v24 h25)
      refine Kept.addF (hm.bit 1 rfl) (reach_CAN_WBACKS (hm.bit 158 rfl)) ?_
      refine kept_setLine (hm.sub rfl) ?_
      exact h25
    · exact h0
  · rename_i w29
    exact h0

theorem kept_touchLine {s : State} {p : ℕ} {line : ℕ} {write : Bool} {full : Bool} {tag : Tag} (hm : Within 0x7000020207000000190700000000000000000109a000e0206 M) (h0 : Kept M s0 s) :
    Kept M s0 (State.touchLine s p line write full tag) := by
  unfold State.touchLine
  extract_lets -underBinder +onlyGivenNames v20
  (clear_value v20; revert v20; refine Kept.seal ?_; intro v20)
  extract_lets -underBinder +onlyGivenNames v21
  (clear_value v21; revert v21; refine Kept.seal ?_; intro v21)
  extract_lets -underBinder +onlyGivenNames v22
  have h23 : Kept M s0 v22 := by
    unfold v22
    refine kept_countPage (hm.sub rfl) ?_
    exact h0
  (clear_value v22; revert v22; refine Kept.seal ?_; intro v22 h23)
  extract_lets -underBinder +onlyGivenNames v24
  (clear_value v24; revert v24; refine Kept.seal ?_; intro v24)
  extract_lets -underBinder +onlyGivenNames v25
  have h26 : Kept M s0 v25 := by
    unfold v25
    refine kept_ite ?_ ?_
    · exact h23
    · refine kept_tagUse (hm.sub rfl) ?_
      exact h23
  (clear_value v25; revert v25; refine Kept.seal ?_; intro v25 h26)
  (generalize q28 : (v25.wayOf v20 v21) = x27; revert x27; refine Kept.seal ?_; intro x27 q28)
  split
  · rename_i w29 w30
    extract_lets -underBinder +onlyGivenNames v31
    have h32 : Kept M s0 v31 := by
      unfold v31
      refine Kept.addF (hm.bit 1 rfl) (reach_CAN_HITS (hm.bit 156 rfl)) ?_
      refine kept_touchWay (hm.sub rfl) ?_
      exact h26
    (clear_value v31; revert v31; refine Kept.seal ?_; intro v31 h32)
    refine kept_ite ?_ ?_
    · refine kept_setLine (hm.sub rfl) ?_
      exact h32
    · exact h32
  · rename_i w33
    extract_lets -underBinder +onlyGivenNames v34
    have h35 : Kept M s0 v34 := by
      unfold v34
      refine kept_ite ?_ ?_
      · exact h26
      · refine Kept.addF (hm.bit 1 rfl) (reach_CAN_MISSES (hm.bit 157 rfl)) ?_
        exact h26
    (clear_value v34; revert v34; refine Kept.seal ?_; intro v34 h35)
    refine kept_ite ?_ ?_
    · (generalize q37 : (v34.victim v20 v24) = x36; revert x36; refine Kept.seal ?_; intro x36 q37)
      split
      · rename_i w38
        exact h35
      · rename_i w39 w40
        extract_lets -underBinder +onlyGivenNames v41
        have h42 : Kept M s0 v41 := by
          unfold v41
          refine kept_writeBack (hm.sub rfl) ?_
          exact h35
        (clear_value v41; revert v41; refine Kept.seal ?_; intro v41 h42)
        extract_lets -underBinder +onlyGivenNames v43
        have h44 : Kept M s0 v43 := by
          unfold v43
          refine kept_ite ?_ ?_
          · exact h42
          · refine kept_forEach ?_ ?_
            · intro y45 y46 h47
              refine kept_copyGrain (hm.sub rfl) ?_
              exact h47
            · exact h42
        (clear_value v43; revert v43; refine Kept.seal ?_; intro v43 h44)
        refine kept_touchWay (hm.sub rfl) ?_
        refine kept_setLine (hm.sub rfl) ?_
        exact h44
    · exact h35

theorem kept_injectAt {s : State} {a : PA} (hm : Within 0x40000 M) (h0 : Kept M s0 s) :
    Kept M s0 (State.injectAt s a) := by
  unfold State.injectAt
  (generalize q21 : (s.loc (Sys2Proof.Machine.grainOf a)) = x20; revert x20; refine Kept.seal ?_; intro x20 q21)
  split
  · rename_i w22 w23
    refine kept_setInjected (hm.sub rfl) ?_
    exact h0
  · rename_i w24
    exact h0

theorem kept_startRepairFor {s : State} {a : PA} {tag : Tag} {op : ℕ} {check : Bool} {home : Bool} (hm : Within 0x40000 M) (h0 : Kept M s0 s) :
    Kept M s0 (State.startRepairFor s a tag op check home) := by
  unfold State.startRepairFor
  extract_lets -underBinder +onlyGivenNames v20
  (clear_value v20; revert v20; refine Kept.seal ?_; intro v20)
  refine kept_ite ?_ ?_
  · exact h0
  · refine Kept.in_integ (hm.bit 18 rfl) ?_ (Kept.seal) (Kept.seal)
    exact h0

theorem kept_startRepair {s : State} {a : PA} {tag : Tag} {op : ℕ} (hm : Within 0x40000 M) (h0 : Kept M s0 s) :
    Kept M s0 (State.startRepair s a tag op) := by
  unfold State.startRepair
  refine kept_startRepairFor (hm.sub rfl) ?_
  exact h0

theorem kept_readPool {s : State} {a : PA} {op : ℕ} {tag : Tag} (hm : Within 0x7000020200000000190700000000000000000109a000c0236 M) (h0 : Kept M s0 s) :
    KeptP M s0 (State.readPool s a op tag) := by
  unfold State.readPool
  refine keptp_ite ?_ ?_
  · refine kept_readStoreGrain (hm.sub rfl) ?_
    exact h0
  · refine keptp_ite ?_ ?_
    · refine Kept.pair ?_
      exact h0
    · (generalize q21 : (s.loc (Sys2Proof.Machine.grainOf a)) = x20; revert x20; refine Kept.seal ?_; intro x20 q21)
      split
      · rename_i w22
        refine Kept.pair ?_
        exact h0
      · rename_i w23 w24
        extract_lets -underBinder +onlyGivenNames v25
        have h26 : KeptP M s0 v25 := by
          unfold v25
          refine kept_readGrain (hm.sub rfl) ?_
          exact h0
        (clear_value v25; revert v25; refine Kept.seal ?_; intro v25 h26)
        extract_lets -underBinder +onlyGivenNames v27
        have h28 : Kept M s0 v27 := by
          unfold v27
          refine kept_charge (hm.sub rfl) ?_
          exact (KeptP.st h26)
        (clear_value v27; revert v27; refine Kept.seal ?_; intro v27 h28)
        (generalize q30 : (v25.2.2) = x29; revert x29; refine Kept.seal ?_; intro x29 q30)
        split
        · rename_i w31
          refine Kept.pair ?_
          exact h28
        · rename_i w32
          refine Kept.pair ?_
          exact h28
        · rename_i w33
          refine Kept.pair ?_
          exact h28
        · rename_i w34
          refine Kept.pair ?_
          exact h28
        · rename_i w35
          refine Kept.pair ?_
          exact h28

theorem kept_setCkpt {s : State} {i : ℕ} {t : CkptTrack} (hm : Within 0x8000000000000000000000000000000000000000100002 M) (h0 : Kept M s0 s) :
    Kept M s0 (State.setCkpt s i t) := by
  unfold State.setCkpt
  refine Kept.setF (hm.bit 1 rfl) (reach_VLT_CKPT_STS (hm.bit 183 rfl)) ?_
  refine Kept.in_vault (hm.bit 20 rfl) ?_ (Kept.seal) (Kept.seal) (Kept.seal) (Kept.seal) (Kept.seal) (Kept.seal) (Sparse.wf_put)
  exact h0

theorem kept_clearValid {s : State} {i : ℕ} {k : ℕ} (hm : Within 0x8000000000000000000000000000000000000000100002 M) (h0 : Kept M s0 s) :
    Kept M s0 (State.clearValid s i k) := by
  unfold State.clearValid
  extract_lets -underBinder +onlyGivenNames v20
  (clear_value v20; revert v20; refine Kept.seal ?_; intro v20)
  refine kept_ite ?_ ?_
  · refine kept_setCkpt (hm.sub rfl) ?_
    exact h0
  · exact h0

theorem kept_ckptSource {s : State} {space : ℕ} {page : ℕ} (hm : Within 0x8000000000000000000000000000000000000000100002 M) (h0 : Kept M s0 s) :
    Kept M s0 (State.ckptSource s space page) := by
  unfold State.ckptSource
  refine kept_forEach ?_ ?_
  · intro y20 y21 h22
    extract_lets -underBinder +onlyGivenNames v23
    (clear_value v23; revert v23; refine Kept.seal ?_; intro v23)
    extract_lets -underBinder +onlyGivenNames v24
    (clear_value v24; revert v24; refine Kept.seal ?_; intro v24)
    refine kept_setCkpt (hm.sub rfl) ?_
    exact h22
  · exact h0

theorem kept_storeGrain {s : State} {a : PA} {bs : Bytes} {tag : Tag} (hm : Within 0x7000020200000000190700000000000000000109a000c027e M) (h0 : Kept M s0 s) :
    Kept M s0 (State.storeGrain s a bs tag) := by
  unfold State.storeGrain
  refine kept_ite ?_ ?_
  · refine kept_writeStoreGrain (hm.sub rfl) ?_
    exact h0
  · (generalize q21 : (s.loc (Sys2Proof.Machine.grainOf a)) = x20; revert x20; refine Kept.seal ?_; intro x20 q21)
    split
    · rename_i w22
      exact h0
    · rename_i w23 w24
      refine kept_ite ?_ ?_
      · exact h0
      · extract_lets -underBinder +onlyGivenNames v25
        have h26 : Kept M s0 v25 := by
          unfold v25
          refine kept_charge (hm.sub rfl) ?_
          exact h0
        (clear_value v25; revert v25; refine Kept.seal ?_; intro v25 h26)
        refine kept_ite ?_ ?_
        · extract_lets -underBinder +onlyGivenNames v27
          extract_lets -underBinder +onlyGivenNames v28
          have h29 : Kept M s0 v28 := by
            unfold v28
            refine Kept.in_integ (hm.bit 18 rfl) ?_ (Kept.seal) (Kept.seal)
            exact h26
          (clear_value v28; revert v28; refine Kept.seal ?_; intro v28 h29)
          refine kept_writeGrain (hm.sub rfl) ?_
          exact h29
        · extract_lets -underBinder +onlyGivenNames v30
          have h31 : KeptP M s0 v30 := by
            unfold v30
            refine kept_readGrain (hm.sub rfl) ?_
            exact h26
          (clear_value v30; revert v30; refine Kept.seal ?_; intro v30 h31)
          (generalize q33 : (v30.2.2) = x32; revert x32; refine Kept.seal ?_; intro x32 q33)
          split
          · rename_i w34
            refine kept_writeGrain (hm.sub rfl) ?_
            exact (KeptP.st h31)
          · rename_i w35
            refine kept_writeGrain (hm.sub rfl) ?_
            exact (KeptP.st h31)
          · rename_i w36
            refine kept_poisonGrain (hm.sub rfl) ?_
            exact (KeptP.st h31)
          · rename_i w37
            refine kept_poisonGrain (hm.sub rfl) ?_
            exact (KeptP.st h31)
          · rename_i w38
            refine kept_poisonGrain (hm.sub rfl) ?_
            exact (KeptP.st h31)

theorem kept_setDirty {s : State} {d : List ℕ} {w : List ℕ} (hm : Within 0x2000000000000000000000000000000000000000000000000000010000002 M) (h0 : Kept M s0 s) :
    Kept M s0 (State.setDirty s d w) := by
  unfold State.setDirty
  refine Kept.setF (hm.bit 1 rfl) (reach_PAIR_STS (hm.bit 241 rfl)) ?_
  refine Kept.in_pair (hm.bit 28 rfl) ?_
  exact h0

theorem kept_markDirty {s : State} {k : ℕ} (hm : Within 0x2000000000000000000000000000000000000000000000000000010000002 M) (h0 : Kept M s0 s) :
    Kept M s0 (State.markDirty s k) := by
  unfold State.markDirty
  refine kept_setDirty (hm.sub rfl) ?_
  exact h0

theorem kept_noteMirror {s : State} {space : ℕ} {page : ℕ} (hm : Within 0x2000000000000000000000000000000000000000000000000000010000002 M) (h0 : Kept M s0 s) :
    Kept M s0 (State.noteMirror s space page) := by
  unfold State.noteMirror
  refine kept_ite ?_ ?_
  · extract_lets -underBinder +onlyGivenNames v20
    have h21 : Kept M s0 v20 := by
      unfold v20
      refine Kept.setF (hm.bit 1 rfl) (reach_PAIR_STS (hm.bit 241 rfl)) ?_
      exact h0
    (clear_value v20; revert v20; refine Kept.seal ?_; intro v20 h21)
    refine kept_ite ?_ ?_
    · refine kept_markDirty (hm.sub rfl) ?_
      exact h21
    · exact h21
  · exact h0

theorem kept_writePool {s : State} {a : PA} {bs : Bytes} {tag : Tag} (hm : Within 0x2000000000007008020200000000190700000000000000000109a101c027e M) (h0 : Kept M s0 s) :
    Kept M s0 (State.writePool s a bs tag) := by
  unfold State.writePool
  refine kept_storeGrain (hm.sub rfl) ?_
  refine kept_ite ?_ ?_
  · refine kept_noteMirror (hm.sub rfl) ?_
    refine kept_ckptSource (hm.sub rfl) ?_
    exact h0
  · exact h0

theorem kept_poisonPool {s : State} {a : PA} (hm : Within 0x2000000000000008000000000000000000000000000000000000010180016 M) (h0 : Kept M s0 s) :
    Kept M s0 (State.poisonPool s a) := by
  unfold State.poisonPool
  refine kept_ite ?_ ?_
  · refine kept_setStorePoison (hm.sub rfl) ?_
    exact h0
  · extract_lets -underBinder +onlyGivenNames v20
    have h21 : Kept M s0 v20 := by
      unfold v20
      refine kept_ite ?_ ?_
      · refine kept_noteMirror (hm.sub rfl) ?_
        refine kept_ckptSource (hm.sub rfl) ?_
        exact h0
      · exact h0
    (clear_value v20; revert v20; refine Kept.seal ?_; intro v20 h21)
    (generalize q23 : (v20.loc (Sys2Proof.Machine.grainOf a)) = x22; revert x22; refine Kept.seal ?_; intro x22 q23)
    split
    · rename_i w24
      exact h21
    · rename_i w25 w26
      refine kept_poisonGrain (hm.sub rfl) ?_
      exact h21

theorem kept_touchRange {s : State} {a : PA} {n : ℕ} {write : Bool} {tag : Tag} (hm : Within 0x7000020207000000190700000000000000000109a000e0206 M) (h0 : Kept M s0 s) :
    Kept M s0 (State.touchRange s a n write tag) := by
  unfold State.touchRange
  refine kept_ite ?_ ?_
  · extract_lets -underBinder +onlyGivenNames v20
    (clear_value v20; revert v20; refine Kept.seal ?_; intro v20)
    extract_lets -underBinder +onlyGivenNames v21
    (clear_value v21; revert v21; refine Kept.seal ?_; intro v21)
    refine kept_forEach ?_ ?_
    · intro y22 y23 h24
      extract_lets -underBinder +onlyGivenNames v25
      (clear_value v25; revert v25; refine Kept.seal ?_; intro v25)
      refine kept_touchLine (hm.sub rfl) ?_
      exact h24
    · exact h0
  · exact h0

theorem kept_writeRange {s : State} {a : PA} {bs : Bytes} {tag : Tag} (hm : Within 0x2000000000007008020207000000190700000000000000000109a101e027e M) (h0 : Kept M s0 s) :
    Kept M s0 (State.writeRange s a bs tag) := by
  unfold State.writeRange
  refine kept_forEach ?_ ?_
  · intro y20 y21 h22
    refine kept_writePool (hm.sub rfl) ?_
    exact h22
  · refine kept_touchRange (hm.sub rfl) ?_
    exact h0

theorem kept_readPiece {st : State × RangeRead} {op : ℕ} {tag : Tag} {p : PA × ℕ × ℕ} (hm : Within 0x7000020200000000190700000000000000000109a000c0236 M) (h0 : KeptP M s0 st) :
    KeptP M s0 (State.readPiece st op tag p) := by
  unfold State.readPiece
  extract_lets -underBinder +onlyGivenNames v20
  have h21 : KeptP M s0 v20 := by
    unfold v20
    refine kept_readPool (hm.sub rfl) ?_
    exact (KeptP.st h0)
  (clear_value v20; revert v20; refine Kept.seal ?_; intro v20 h21)
  extract_lets -underBinder +onlyGivenNames v22
  (clear_value v22; revert v22; refine Kept.seal ?_; intro v22)
  (generalize q24 : (v20.2) = x23; revert x23; refine Kept.seal ?_; intro x23 q24)
  split
  · rename_i w25 w26
    refine Kept.pair ?_
    exact (KeptP.st h21)
  · rename_i w27
    refine Kept.pair ?_
    exact (KeptP.st h21)
  · rename_i w28
    refine Kept.pair ?_
    exact (KeptP.st h21)
  · rename_i w29
    refine Kept.pair ?_
    exact (KeptP.st h21)

theorem kept_readRange {s : State} {a : PA} {n : ℕ} {op : ℕ} {tag : Tag} (hm : Within 0x7000020207000000190700000000000000000109a000e0236 M) (h0 : Kept M s0 s) :
    KeptP M s0 (State.readRange s a n op tag) := by
  unfold State.readRange
  refine keptp_foldl ?_ ?_
  · intro y20 y21 h22
    refine kept_readPiece (hm.sub rfl) ?_
    exact h22
  · refine Kept.pair ?_
    refine kept_touchRange (hm.sub rfl) ?_
    exact h0

theorem kept_fetchBytes {s : State} {a : PA} {n : ℕ} {tag : Tag} (hm : Within 0x7000020207000000190700000000000000000109a000e0236 M) (h0 : Kept M s0 s) :
    KeptP M s0 (State.fetchBytes s a n tag) := by
  unfold State.fetchBytes
  extract_lets -underBinder +onlyGivenNames v20
  have h21 : KeptP M s0 v20 := by
    unfold v20
    refine kept_readRange (hm.sub rfl) ?_
    exact h0
  (clear_value v20; revert v20; refine Kept.seal ?_; intro v20 h21)
  refine Kept.pair ?_
  exact (KeptP.st h21)

end Sys2Proof.Machine
end

