-- ==== Sys2Proof/Laws/Kept/Tiles.lean ====
section
/-! SUPPORT. What the operations of Tiles may write: each keeps its footprint. -/

namespace Sys2Proof.Machine

variable {M : Nat} {s0 : State}

theorem kept_readDir {s : State} {x : TileRef} {k : Consumer} (hm : Within 0x7000020207000000191700000000000000000109a000e027e M) (h0 : Kept M s0 s) :
    KeptP M s0 (State.readDir s x k) := by
  unfold State.readDir
  extract_lets -underBinder +onlyGivenNames v20
  (clear_value v20; revert v20; refine Kept.seal ?_; intro v20)
  extract_lets -underBinder +onlyGivenNames v21
  have h22 : Kept M s0 v21 := by
    unfold v21
    refine kept_touchRange (hm.sub rfl) ?_
    exact h0
  (clear_value v21; revert v21; refine Kept.seal ?_; intro v21 h22)
  extract_lets -underBinder +onlyGivenNames v23
  have h24 : KeptP M s0 v23 := by
    unfold v23
    refine kept_readPool (hm.sub rfl) ?_
    exact h22
  (clear_value v23; revert v23; refine Kept.seal ?_; intro v23 h24)
  (generalize q26 : (v23.2) = x25; revert x25; refine Kept.seal ?_; intro x25 q26)
  split
  · rename_i w27
    refine Kept.pair ?_
    exact (KeptP.st h24)
  · rename_i w28
    refine Kept.pair ?_
    exact (KeptP.st h24)
  · rename_i w29
    refine Kept.pair ?_
    exact (KeptP.st h24)
  · rename_i w30 w31
    extract_lets -underBinder +onlyGivenNames v32
    (clear_value v32; revert v32; refine Kept.seal ?_; intro v32)
    extract_lets -underBinder +onlyGivenNames v33
    (clear_value v33; revert v33; refine Kept.seal ?_; intro v33)
    (generalize q35 : (Sys2Proof.secdedRead 120 v33 (v32 / 2 ^ 120)) = x34; revert x34; refine Kept.seal ?_; intro x34 q35)
    split
    · rename_i w36
      refine Kept.pair ?_
      exact (KeptP.st h24)
    · rename_i w37 w38
      refine Kept.pair ?_
      refine Kept.addF (hm.bit 1 rfl) (reach_LDG_SECDED_CE (hm.bit 120 rfl)) ?_
      refine kept_storeGrain (hm.sub rfl) ?_
      exact (KeptP.st h24)
    · rename_i w39
      refine keptp_ite ?_ ?_
      · refine Kept.pair ?_
        exact (KeptP.st h24)
      · extract_lets -underBinder +onlyGivenNames v40
        have h41 : Kept M s0 v40 := by
          unfold v40
          exact (KeptP.st h24)
        extract_lets -underBinder +onlyGivenNames v42
        extract_lets -underBinder +onlyGivenNames v43
        have h44 : Kept M s0 v43 := by
          unfold v43
          refine Kept.in_integ (hm.bit 18 rfl) ?_ (Kept.seal) (Kept.seal)
          exact h41
        (clear_value v43; revert v43; refine Kept.seal ?_; intro v43 h44)
        refine Kept.pair ?_
        refine kept_ledger (hm.sub rfl) ?_
        exact h44

theorem kept_writeDir {s : State} {x : TileRef} {e : DirEntry} {tag : Tag} (hm : Within 0x2000000000007008020207000000190700000000000000000109a101e027e M) (h0 : Kept M s0 s) :
    Kept M s0 (State.writeDir s x e tag) := by
  unfold State.writeDir
  extract_lets -underBinder +onlyGivenNames v20
  (clear_value v20; revert v20; refine Kept.seal ?_; intro v20)
  extract_lets -underBinder +onlyGivenNames v21
  have h22 : Kept M s0 v21 := by
    unfold v21
    refine kept_touchRange (hm.sub rfl) ?_
    exact h0
  (clear_value v21; revert v21; refine Kept.seal ?_; intro v21 h22)
  extract_lets -underBinder +onlyGivenNames v23
  extract_lets -underBinder +onlyGivenNames v24
  have h25 : Kept M s0 v24 := by
    unfold v24
    refine Kept.in_integ (hm.bit 18 rfl) ?_ (Kept.seal) (Kept.seal)
    exact h22
  (clear_value v24; revert v24; refine Kept.seal ?_; intro v24 h25)
  refine kept_ite ?_ ?_
  · refine kept_flipDone (hm.sub rfl) ?_
    refine kept_injectAt (hm.sub rfl) ?_
    refine kept_writePool (hm.sub rfl) ?_
    exact h25
  · refine kept_writePool (hm.sub rfl) ?_
    exact h25

theorem kept_slotDamaged {s : State} {slot : ℕ} {tag : Tag} (hm : Within 0x7000000000080400010700000000000000000109a00040202 M) (h0 : Kept M s0 s) :
    Kept M s0 (State.slotDamaged s slot tag) := by
  unfold State.slotDamaged
  refine kept_ite ?_ ?_
  · exact h0
  · extract_lets -underBinder +onlyGivenNames v20
    have h21 : Kept M s0 v20 := by
      unfold v20
      refine Kept.setF (hm.bit 1 rfl) (reach_MNT_STATUS (hm.bit 142 rfl)) ?_
      refine Kept.setF (hm.bit 1 rfl) (reach_MNT_SLOT_INFO (hm.bit 151 rfl)) ?_
      exact h0
    (clear_value v20; revert v20; refine Kept.seal ?_; intro v20 h21)
    refine kept_ledger (hm.sub rfl) ?_
    exact h21

theorem kept_slotCount {s : State} {e : DirEntry} {up : Bool} (hm : Within 0x80000000000000000000000000000000000002 M) (h0 : Kept M s0 s) :
    Kept M s0 (State.slotCount s e up) := by
  unfold State.slotCount
  refine kept_ite ?_ ?_
  · extract_lets -underBinder +onlyGivenNames v20
    (clear_value v20; revert v20; refine Kept.seal ?_; intro v20)
    refine Kept.setF (hm.bit 1 rfl) (reach_MNT_SLOT_INFO (hm.bit 151 rfl)) ?_
    exact h0
  · exact h0

theorem kept_repairTile {s : State} {x : TileRef} {loc : ℕ} {grains : ℕ} {k : Consumer} (hm : Within 0x40000 M) (h0 : Kept M s0 s) :
    Kept M s0 (State.repairTile s x loc grains k) := by
  unfold State.repairTile
  refine kept_forEach ?_ ?_
  · intro y20 y21 h22
    refine kept_startRepairFor (hm.sub rfl) ?_
    exact h22
  · exact h0

theorem kept_readStored {s : State} {x : TileRef} {e : DirEntry} {k : Consumer} (hm : Within 0x7000020207000000190700000000000000000109a000e0236 M) (h0 : Kept M s0 s) :
    KeptP M s0 (State.readStored s x e k) := by
  unfold State.readStored
  extract_lets -underBinder +onlyGivenNames v20
  have h21 : Kept M s0 v20 := by
    unfold v20
    refine kept_forEach ?_ ?_
    · intro y22 y23 h24
      refine kept_touchRange (hm.sub rfl) ?_
      exact h24
    · exact h0
  (clear_value v20; revert v20; refine Kept.seal ?_; intro v20 h21)
  refine keptp_foldl ?_ ?_
  · intro y25 y26 h27
    refine kept_readPiece (hm.sub rfl) ?_
    exact h27
  · refine Kept.pair ?_
    exact h21

theorem kept_setBaseCache {s : State} {d : ℕ} {l : List BaseLine} (hm : Within 0xc00000 M) (h0 : Kept M s0 s) :
    Kept M s0 (State.setBaseCache s d l) := by
  unfold State.setBaseCache
  refine kept_ite ?_ ?_
  · refine Kept.in_baseCache0 (hm.bit 22 rfl) ?_
    exact h0
  · refine Kept.in_baseCache1 (hm.bit 23 rfl) ?_
    exact h0

theorem kept_baseKeep {s : State} {d : ℕ} {b : BaseLine} (hm : Within 0xc00000 M) (h0 : Kept M s0 s) :
    Kept M s0 (State.baseKeep s d b) := by
  unfold State.baseKeep
  refine kept_setBaseCache (hm.sub rfl) ?_
  exact h0

theorem kept_baseInvalidate {s : State} {key : ℕ} (hm : Within 0xc00000 M) (h0 : Kept M s0 s) :
    Kept M s0 (State.baseInvalidate s key) := by
  unfold State.baseInvalidate
  refine Kept.in_baseCache0 (x := { s with baseCache1 := List.filter (fun b ↦ b.key != key) s.baseCache1 }) (hm.bit 22 rfl) ?_
  refine Kept.in_baseCache1 (hm.bit 23 rfl) ?_
  exact h0

theorem kept_readExpanded {s : State} {x : TileRef} {loc : ℕ} {k : Consumer} (hm : Within 0x7000020207000000190700000000000000000109a000e0236 M) (h0 : Kept M s0 s) :
    KeptP M s0 (State.readExpanded s x loc k) := by
  unfold State.readExpanded
  extract_lets -underBinder +onlyGivenNames v20
  (clear_value v20; revert v20; refine Kept.seal ?_; intro v20)
  extract_lets -underBinder +onlyGivenNames v21
  have h22 : KeptP M s0 v21 := by
    unfold v21
    refine kept_readRange (hm.sub rfl) ?_
    exact h0
  (clear_value v21; revert v21; refine Kept.seal ?_; intro v21 h22)
  (generalize q24 : (v21.2.repair) = x23; revert x23; refine Kept.seal ?_; intro x23 q24)
  split
  · rename_i w25 w26
    refine Kept.pair ?_
    exact (KeptP.st h22)
  · rename_i w27
    refine Kept.pair ?_
    exact (KeptP.st h22)

theorem kept_tileFail {s : State} {code : ℕ} {x : TileRef} {k : Consumer} (hm : Within 0x7000000000000000010700000000000000000109a00040202 M) (h0 : Kept M s0 s) :
    KeptP M s0 (State.tileFail s code x k) := by
  unfold State.tileFail
  refine Kept.pair ?_
  refine kept_ledger (hm.sub rfl) ?_
  exact h0

theorem kept_glitchAt {s : State} {a : PA} {k : Consumer} (hm : Within 0x7000000000000000190700000000000000000109a00040202 M) (h0 : Kept M s0 s) :
    Kept M s0 (State.glitchAt s a k) := by
  unfold State.glitchAt
  refine kept_ite ?_ ?_
  · extract_lets -underBinder +onlyGivenNames v20
    (clear_value v20; revert v20; refine Kept.seal ?_; intro v20)
    refine kept_ceEvent (hm.sub rfl) ?_
    exact h0
  · (generalize q22 : (s.loc (Sys2Proof.Machine.grainOf a)) = x21; revert x21; refine Kept.seal ?_; intro x21 q22)
    split
    · rename_i w23 w24
      refine kept_ceEvent (hm.sub rfl) ?_
      exact h0
    · rename_i w25
      exact h0

theorem kept_firstRead {s : State} {x : TileRef} {e : DirEntry} {k : Consumer} (hm : Within 0x7000000000000000190700000000000000000189a00040202 M) (h0 : Kept M s0 s) :
    Kept M s0 (State.firstRead s x e k) := by
  unfold State.firstRead
  refine kept_ite ?_ ?_
  · refine kept_glitchAt (hm.sub rfl) ?_
    refine kept_bump (hm.sub rfl) ?_
    exact h0
  · refine kept_bump (hm.sub rfl) ?_
    exact h0

theorem kept_decodeStored {s : State} {x : TileRef} {e : DirEntry} {st : Bytes} {k : Consumer} {base : State → TileHeader → State × (Bytes ⊕ TileRes)} (hm : Within 0x7000000000000000010700000000000000000109a00040202 M) (h0 : Kept M s0 s) (h1 : ∀ c1_0 c1_1, Kept M s0 c1_0 → KeptP M s0 (base c1_0 c1_1)) :
    KeptP M s0 (State.decodeStored s x e st k base) := by
  unfold State.decodeStored
  refine keptp_ite ?_ ?_
  · refine Kept.pair ?_
    refine kept_repairTile (hm.sub rfl) ?_
    refine kept_ledger (hm.sub rfl) ?_
    exact h0
  · (generalize q21 : (s.decodeForm e st) = x20; revert x20; refine Kept.seal ?_; intro x20 q21)
    split
    · rename_i w22 w23
      refine Kept.pair ?_
      exact h0
    · rename_i w24 w25
      refine kept_tileFail (hm.sub rfl) ?_
      exact h0
    · rename_i w26 w27
      refine Kept.pair ?_
      exact h0
    · rename_i w28 w29 w30
      (generalize q32 : (base s w29) = x31; revert x31; refine Kept.seal ?_; intro x31 q32)
      have h33 : KeptP M s0 x31 := by
        rw [← q32]
        refine h1 _ _ ?_
        exact h0
      split
      · rename_i w34 w35 w36
        refine Kept.pair ?_
        exact (KeptP.st h33)
      · rename_i w37 w38 w39
        refine Kept.pair ?_
        exact (KeptP.st h33)

theorem kept_badBaseOf {s : State} {x : TileRef} {k : Consumer} (hm : Within 0x7000000000000000010700000000000000000109a00040202 M) (h0 : Kept M s0 s) :
    KeptP M s0 (State.badBaseOf s x k) := by
  unfold State.badBaseOf
  extract_lets -underBinder +onlyGivenNames v20
  have h21 : KeptP M s0 v20 := by
    unfold v20
    refine kept_tileFail (hm.sub rfl) ?_
    exact h0
  (clear_value v20; revert v20; refine Kept.seal ?_; intro v20 h21)
  refine Kept.pair ?_
  exact (KeptP.st h21)

theorem kept_baseGives {b : TileRef} {bad : State → State × (Bytes ⊕ TileRes)} {r : State × TileRes} (hm : Within 0x0 M) (h0 : ∀ c0_0, Kept M s0 c0_0 → KeptP M s0 (bad c0_0)) (h1 : KeptP M s0 r) :
    KeptP M s0 (State.baseGives b bad r) := by
  unfold State.baseGives
  (generalize q21 : (r.2) = x20; revert x20; refine Kept.seal ?_; intro x20 q21)
  split
  · rename_i w22 w23 w24 w25
    refine Kept.pair ?_
    exact (KeptP.st h1)
  · rename_i w26 w27 w28 w29 w30 w31
    refine Kept.pair ?_
    exact (KeptP.st h1)
  · rename_i w32
    refine h0 _ ?_
    exact (KeptP.st h1)
  · rename_i w33 w34
    refine Kept.pair ?_
    exact (KeptP.st h1)
  · rename_i w35 w36
    refine Kept.pair ?_
    exact (KeptP.st h1)

theorem kept_baseRead {s : State} {x : TileRef} {b : TileRef} {k : Consumer} {width : ℕ} (hm : Within 0x7000020207000000191700000000000000000189a000e027e M) (h0 : Kept M s0 s) :
    KeptP M s0 (State.baseRead s x b k width) := by
  unfold State.baseRead
  extract_lets -underBinder +onlyGivenNames v20
  have h21 : ∀ c_0, Kept M s0 c_0 → KeptP M s0 (v20 c_0) := by
    unfold v20
    intro y22 h23
    refine kept_badBaseOf (hm.sub rfl) ?_
    exact h23
  (clear_value v20; revert v20; refine Kept.seal ?_; intro v20 h21)
  refine keptp_ite ?_ ?_
  · refine h21 _ ?_
    exact h0
  · extract_lets -underBinder +onlyGivenNames v24
    have h25 : KeptP M s0 v24 := by
      unfold v24
      refine kept_readDir (hm.sub rfl) ?_
      exact h0
    (clear_value v24; revert v24; refine Kept.seal ?_; intro v24 h25)
    (generalize q27 : (v24.2) = x26; revert x26; refine Kept.seal ?_; intro x26 q27)
    split
    · rename_i w28 w29
      refine Kept.pair ?_
      exact (KeptP.st h25)
    · rename_i w30 w31
      refine kept_baseGives (hm.sub rfl) ?_ ?_
      · intro y32 h33
        refine h21 _ ?_
        exact h33
      · refine Kept.pair ?_
        exact (KeptP.st h25)
    · rename_i w34 w35
      (generalize q37 : (w35.state) = x36; revert x36; refine Kept.seal ?_; intro x36 q37)
      split
      · rename_i w38
        refine keptp_ite ?_ ?_
        · refine h21 _ ?_
          exact (KeptP.st h25)
        · extract_lets -underBinder +onlyGivenNames v39
          have h40 : KeptP M s0 v39 := by
            unfold v39
            refine kept_readStored (hm.sub rfl) ?_
            refine kept_firstRead (hm.sub rfl) ?_
            exact (KeptP.st h25)
          (clear_value v39; revert v39; refine Kept.seal ?_; intro v39 h40)
          (generalize q42 : (v39.2.repair) = x41; revert x41; refine Kept.seal ?_; intro x41 q42)
          (generalize q44 : (v39.2.poison) = x43; revert x43; refine Kept.seal ?_; intro x43 q44)
          split
          · rename_i w45 w46 w47
            refine Kept.pair ?_
            exact (KeptP.st h40)
          · rename_i w48 w49 w50 w51
            refine kept_baseGives (hm.sub rfl) ?_ ?_
            · intro y52 h53
              refine h21 _ ?_
              exact h53
            · refine Kept.pair ?_
              exact (KeptP.st h40)
          · rename_i w54 w55
            refine kept_baseGives (hm.sub rfl) ?_ ?_
            · intro y56 h57
              refine h21 _ ?_
              exact h57
            · refine kept_decodeStored (hm.sub rfl) ?_ ?_
              · exact (KeptP.st h40)
              · intro y58 y59 h60
                refine Kept.pair ?_
                exact h60
      · rename_i w61
        refine keptp_ite ?_ ?_
        · refine h21 _ ?_
          exact (KeptP.st h25)
        · refine kept_baseGives (hm.sub rfl) ?_ ?_
          · intro y62 h63
            refine h21 _ ?_
            exact h63
          · refine kept_readExpanded (hm.sub rfl) ?_
            exact (KeptP.st h25)
      · rename_i w64 w65 w66
        refine h21 _ ?_
        exact (KeptP.st h25)

theorem kept_basePlain {s : State} {x : TileRef} {k : Consumer} {cacheDie : Option ℕ} {h : TileHeader} (hm : Within 0x700002020700c000191700000000000000000189a00ce027e M) (h0 : Kept M s0 s) :
    KeptP M s0 (State.basePlain s x k cacheDie h) := by
  unfold State.basePlain
  extract_lets -underBinder +onlyGivenNames v20
  (clear_value v20; revert v20; refine Kept.seal ?_; intro v20)
  split
  · rename_i w21
    refine kept_baseRead (hm.sub rfl) ?_
    exact h0
  · rename_i w22 w23
    (generalize q25 : (s.baseHit w23 (BitVec.toNat v20.addr)) = x24; revert x24; refine Kept.seal ?_; intro x24 q25)
    split
    · rename_i w26 w27
      extract_lets -underBinder +onlyGivenNames v28
      have h29 : Kept M s0 v28 := by
        unfold v28
        refine kept_baseKeep (hm.sub rfl) ?_
        refine Kept.addF (hm.bit 1 rfl) (reach_MNT_BASE_HITS (hm.bit 146 rfl)) ?_
        exact h0
      (clear_value v28; revert v28; refine Kept.seal ?_; intro v28 h29)
      refine keptp_ite ?_ ?_
      · refine Kept.pair ?_
        exact h29
      · refine kept_badBaseOf (hm.sub rfl) ?_
        exact h29
    · rename_i w30
      (generalize q32 : (s.baseRead x v20 k h.width) = x31; revert x31; refine Kept.seal ?_; intro x31 q32)
      have h33 : KeptP M s0 x31 := by
        rw [← q32]
        refine kept_baseRead (hm.sub rfl) ?_
        exact h0
      split
      · rename_i w34 w35 w36
        refine Kept.pair ?_
        refine kept_baseKeep (hm.sub rfl) ?_
        refine Kept.addF (hm.bit 1 rfl) (reach_MNT_BASE_MISSES (hm.bit 147 rfl)) ?_
        exact (KeptP.st h33)
      · rename_i w37 w38 w39 w40 w41 w42
        refine Kept.pair ?_
        refine Kept.addF (hm.bit 1 rfl) (reach_MNT_BASE_MISSES (hm.bit 147 rfl)) ?_
        exact (KeptP.st h33)
      · rename_i w43 w44 w45
        exact h33

theorem kept_decodeEntry {s : State} {x : TileRef} {e : DirEntry} {k : Consumer} {cacheDie : Option ℕ} (hm : Within 0x700002020700c000191700000000000000000189a00ce027e M) (h0 : Kept M s0 s) :
    KeptP M s0 (State.decodeEntry s x e k cacheDie) := by
  unfold State.decodeEntry
  (generalize q21 : (e.state) = x20; revert x20; refine Kept.seal ?_; intro x20 q21)
  split
  · rename_i w22
    extract_lets -underBinder +onlyGivenNames v23
    have h24 : KeptP M s0 v23 := by
      unfold v23
      refine kept_readStored (hm.sub rfl) ?_
      refine kept_firstRead (hm.sub rfl) ?_
      exact h0
    (clear_value v23; revert v23; refine Kept.seal ?_; intro v23 h24)
    (generalize q26 : (v23.2.repair) = x25; revert x25; refine Kept.seal ?_; intro x25 q26)
    (generalize q28 : (v23.2.poison) = x27; revert x27; refine Kept.seal ?_; intro x27 q28)
    split
    · rename_i w29 w30 w31
      refine Kept.pair ?_
      exact (KeptP.st h24)
    · rename_i w32 w33 w34 w35
      refine Kept.pair ?_
      exact (KeptP.st h24)
    · rename_i w36 w37
      refine kept_decodeStored (hm.sub rfl) ?_ ?_
      · exact (KeptP.st h24)
      · intro y38 y39 h40
        refine kept_basePlain (hm.sub rfl) ?_
        exact h40
  · rename_i w41
    refine kept_readExpanded (hm.sub rfl) ?_
    exact h0
  · rename_i w42 w43 w44
    refine Kept.pair ?_
    exact h0

theorem kept_decodeTile {s : State} {x : TileRef} {k : Consumer} {cacheDie : Option ℕ} (hm : Within 0x700002020700c000191700000000000000000189a00ce027e M) (h0 : Kept M s0 s) :
    KeptP M s0 (State.decodeTile s x k cacheDie) := by
  unfold State.decodeTile
  extract_lets -underBinder +onlyGivenNames v20
  have h21 : KeptP M s0 v20 := by
    unfold v20
    refine kept_readDir (hm.sub rfl) ?_
    exact h0
  (clear_value v20; revert v20; refine Kept.seal ?_; intro v20 h21)
  (generalize q23 : (v20.2) = x22; revert x22; refine Kept.seal ?_; intro x22 q23)
  split
  · rename_i w24 w25
    refine Kept.pair ?_
    exact (KeptP.st h21)
  · rename_i w26 w27
    refine Kept.pair ?_
    exact (KeptP.st h21)
  · rename_i w28 w29
    refine kept_decodeEntry (hm.sub rfl) ?_
    exact (KeptP.st h21)

theorem kept_storedTile {s : State} {x : TileRef} {k : Consumer} (hm : Within 0x7000020207000000191700000000000000000189a000e027e M) (h0 : Kept M s0 s) :
    KeptP M s0 (State.storedTile s x k) := by
  unfold State.storedTile
  extract_lets -underBinder +onlyGivenNames v20
  have h21 : KeptP M s0 v20 := by
    unfold v20
    refine kept_readDir (hm.sub rfl) ?_
    exact h0
  (clear_value v20; revert v20; refine Kept.seal ?_; intro v20 h21)
  (generalize q23 : (v20.2) = x22; revert x22; refine Kept.seal ?_; intro x22 q23)
  split
  · rename_i w24 w25
    refine Kept.pair ?_
    exact (KeptP.st h21)
  · rename_i w26 w27
    refine Kept.pair ?_
    exact (KeptP.st h21)
  · rename_i w28 w29
    (generalize q31 : (w29.state) = x30; revert x30; refine Kept.seal ?_; intro x30 q31)
    split
    · rename_i w32
      extract_lets -underBinder +onlyGivenNames v33
      have h34 : KeptP M s0 v33 := by
        unfold v33
        refine kept_readStored (hm.sub rfl) ?_
        refine kept_firstRead (hm.sub rfl) ?_
        exact (KeptP.st h21)
      (clear_value v33; revert v33; refine Kept.seal ?_; intro v33 h34)
      (generalize q36 : (v33.2.repair) = x35; revert x35; refine Kept.seal ?_; intro x35 q36)
      (generalize q38 : (v33.2.poison) = x37; revert x37; refine Kept.seal ?_; intro x37 q38)
      split
      · rename_i w39 w40 w41
        refine Kept.pair ?_
        exact (KeptP.st h34)
      · rename_i w42 w43 w44 w45
        refine Kept.pair ?_
        exact (KeptP.st h34)
      · rename_i w46 w47
        refine keptp_ite ?_ ?_
        · refine Kept.pair ?_
          exact (KeptP.st h34)
        · refine Kept.pair ?_
          refine kept_repairTile (hm.sub rfl) ?_
          refine kept_ledger (hm.sub rfl) ?_
          exact (KeptP.st h34)
    · rename_i w48
      (generalize q50 : (v20.1.readExpanded x w29.loc k) = x49; revert x49; refine Kept.seal ?_; intro x49 q50)
      have h51 : KeptP M s0 x49 := by
        rw [← q50]
        refine kept_readExpanded (hm.sub rfl) ?_
        exact (KeptP.st h21)
      split
      · rename_i w52 w53 w54
        refine Kept.pair ?_
        exact (KeptP.st h51)
      · rename_i w55 w56 w57 w58 w59
        refine Kept.pair ?_
        exact (KeptP.st h51)
      · rename_i w60 w61 w62 w63 w64 w65 w66
        refine Kept.pair ?_
        exact (KeptP.st h51)
      · rename_i w67 w68
        refine Kept.pair ?_
        exact (KeptP.st h51)
      · rename_i w69 w70 w71
        refine Kept.pair ?_
        exact (KeptP.st h51)
    · rename_i w72 w73 w74
      refine Kept.pair ?_
      exact (KeptP.st h21)

end Sys2Proof.Machine
end

