-- ==== Sys2Proof/Laws/Kept/Access.lean ====
section
/-! SUPPORT. What the operations of Access may write: each keeps its footprint. -/

namespace Sys2Proof.Machine

variable {M : Nat} {s0 : State}

theorem kept_poolDenied {s : State} {port : ℕ} {src : Node} {tag : Tag} {addr : PA} (hm : Within 0x1010000007000000000000000010700000000000000000119a00040202 M) (h0 : Kept M s0 s) :
    Kept M s0 (State.poolDenied s port src tag addr) := by
  unfold State.poolDenied
  extract_lets -underBinder +onlyGivenNames v20
  have h21 : Kept M s0 v20 := by
    unfold v20
    refine Kept.addF (hm.bit 1 rfl) (reach_POOL_DENIALS (hm.bit 228 rfl)) ?_
    exact h0
  (clear_value v20; revert v20; refine Kept.seal ?_; intro v20 h21)
  extract_lets -underBinder +onlyGivenNames v22
  have h23 : Kept M s0 v22 := by
    unfold v22
    refine Kept.setF (hm.bit 1 rfl) (reach_POOL_STATUS (hm.bit 220 rfl)) ?_
    exact h21
  (clear_value v22; revert v22; refine Kept.seal ?_; intro v22 h23)
  extract_lets -underBinder +onlyGivenNames v24
  (clear_value v24; revert v24; refine Kept.seal ?_; intro v24)
  refine kept_ite ?_ ?_
  · extract_lets -underBinder +onlyGivenNames v25
    have h26 : Kept M s0 v25 := by
      unfold v25
      refine Kept.in_deniedAt (hm.bit 40 rfl) ?_ (Sparse.wf_put)
      exact h23
    (clear_value v25; revert v25; refine Kept.seal ?_; intro v25 h26)
    refine kept_ledger (hm.sub rfl) ?_
    exact h26
  · exact h23

theorem kept_setVerSlot {s : State} {id : ℕ} {k : ℕ} {v : VerSlot} (hm : Within 0x80000000 M) (h0 : Kept M s0 s) :
    Kept M s0 (State.setVerSlot s id k v) := by
  unfold State.setVerSlot
  refine Kept.in_pool (hm.bit 31 rfl) ?_ (Sparse.wf_put) (Kept.seal) (Kept.seal)
  exact h0

theorem kept_answer {s : State} {q : Req} {ft : FType} {status : ℕ} {payload : Bytes} (hm : Within 0x7200000000000000010700000000000000000189a00040a02 M) (h0 : Kept M s0 s) :
    Kept M s0 (State.answer s q ft status payload) := by
  unfold State.answer
  extract_lets -underBinder +onlyGivenNames v20
  (clear_value v20; revert v20; refine Kept.seal ?_; intro v20)
  refine kept_sendResponse (hm.sub rfl) ?_
  refine kept_ite ?_ ?_
  · refine kept_bump (hm.sub rfl) ?_
    exact h0
  · exact h0

theorem kept_answerStatus {s : State} {k : ReqKind} {q : Req} {status : ℕ} {token : ℕ} {detail : ℕ} (hm : Within 0x7200000000000000010700000000000000000189a00040a02 M) (h0 : Kept M s0 s) :
    Kept M s0 (State.answerStatus s k q status token detail) := by
  unfold State.answerStatus
  refine kept_ite ?_ ?_
  · refine kept_answer (hm.sub rfl) ?_
    exact h0
  · refine kept_answer (hm.sub rfl) ?_
    exact h0

theorem kept_answerData {s : State} {k : ReqKind} {q : Req} {data : Bytes} {mask : ℕ} (hm : Within 0x7200000000000000010700000000000000000189a00040a02 M) (h0 : Kept M s0 s) :
    Kept M s0 (State.answerData s k q data mask) := by
  unfold State.answerData
  refine kept_ite ?_ ?_
  · refine kept_answer (hm.sub rfl) ?_
    exact h0
  · refine kept_answer (hm.sub rfl) ?_
    exact h0

theorem kept_deferOpen {s : State} {o : OpenReq} (hm : Within 0x7200000000000000010700000000000000000189a00041a02 M) (ho : o.id < s.nextId) (h0 : Kept M s0 s)  :
     Kept M s0 (State.deferOpen s o) := by
  obtain ⟨f, e⟩ : ∃ f, @State.deferOpen = f := ⟨_, rfl⟩
  (rw [e]; delta State.deferOpen at e; subst e; beta_reduce)
  (generalize q21 : s.drawToken ↑o.req.port = x20; revert x20; refine Kept.seal ?_; intro x20 q21)
  split
  · exact Kept.in_opens (hm.bit 12 rfl) h0 (fresh_append ho)
  · rename_i w23 w24 w25
    have h26 : Kept M s0 w24 := KeptQ.get q21 (kept_drawToken (hm.sub rfl) h0)
    have n26 : s.nextId ≤ w24.nextId := (KeptP.st (KeptQ.get q21 (kept_drawToken Within.rfl' Kept.refl))).nextId
    extract_lets -underBinder +onlyGivenNames v27
    have h28 : Kept M s0 v27 := Kept.addF (hm.bit 1 rfl) (reach_JX_PORT_TALLY (hm.bit 194 rfl)) h26
    have n28 : o.id < v27.nextId := Nat.lt_of_lt_of_le ho n26
    (clear_value v27; revert v27; refine Kept.seal ?_; intro v27 h28 n28)
    extract_lets -underBinder +onlyGivenNames v29
    have h30 : Kept M s0 v29 := kept_answerStatus (hm.sub rfl) h28
    have n30 : o.id < v29.nextId := Nat.lt_of_lt_of_le n28 (kept_answerStatus Within.rfl' Kept.refl).nextId
    (clear_value v29; revert v29; refine Kept.seal ?_; intro v29 h30 n30)
    exact Kept.in_opens (hm.bit 12 rfl) h30 (fresh_append n30)

theorem kept_openDeferred {s : State} {k : ReqKind} {q : Req} {w : Wait} (hm : Within 0x7200000000000000010700000000000000000189a00043a02 M) (h0 : Kept M s0 s) :
    Kept M s0 (State.openDeferred s k q w) := by
  unfold State.openDeferred
  refine kept_deferOpen (hm.sub rfl) (Nat.lt_succ_self _) ?_
  exact kept_nextReq (hm.sub rfl) h0

theorem kept_openHeld {s : State} {k : ReqKind} {q : Req} {w : Wait} (hm : Within 0x3000 M) (h0 : Kept M s0 s) :
    Kept M s0 (State.openHeld s k q w) := by
  unfold State.openHeld
  refine Kept.in_opens (x := { s with nextId := s.nextId + 1 }) (hm.bit 12 rfl) ?_ (fresh_append (Nat.lt_succ_self _))
  refine Kept.in_nextId (hm.bit 13 rfl) ?_ (Nat.le_succ _)
  exact h0

theorem kept_completion {s : State} {o : OpenReq} {w : W32} {status : ℕ} {mask : ℕ} {data : Bytes} (hm : Within 0x7200000000000000010700000000000000000109a00040a02 M) (h0 : Kept M s0 s) :
    Kept M s0 (State.completion s o w status mask data) := by
  unfold State.completion
  extract_lets -underBinder +onlyGivenNames v20
  (clear_value v20; revert v20; refine Kept.seal ?_; intro v20)
  (generalize q22 : (s.route v20) = x21; revert x21; refine Kept.seal ?_; intro x21 q22)
  split
  · rename_i w23
    refine kept_dropMsg (hm.sub rfl) ?_
    exact h0
  · rename_i w24 w25
    refine kept_sendAt (hm.sub rfl) ?_
    exact h0

theorem kept_noteDrains {s : State} {id : ℕ} {rs : List (PA × ℕ)} (hm : Within 0x80000000 M) (h0 : Kept M s0 s) :
    Kept M s0 (State.noteDrains s id rs) := by
  unfold State.noteDrains
  extract_lets -underBinder +onlyGivenNames v20
  (clear_value v20; revert v20; refine Kept.seal ?_; intro v20)
  refine Kept.in_pool (hm.bit 31 rfl) ?_ (Kept.seal) (Kept.seal) (Kept.seal)
  exact h0

theorem kept_noteRevoked {s : State} {rs : List (PA × ℕ)} {ended : Bool} (hm : Within 0x2000000000000000000000000000000000000000000000000080000002 M) (h0 : Kept M s0 s) :
    Kept M s0 (State.noteRevoked s rs ended) := by
  unfold State.noteRevoked
  extract_lets -underBinder +onlyGivenNames v20
  (clear_value v20; revert v20; refine Kept.seal ?_; intro v20)
  extract_lets -underBinder +onlyGivenNames v21
  extract_lets -underBinder +onlyGivenNames v22
  have h23 : Kept M s0 v22 := by
    unfold v22
    refine Kept.in_pool (hm.bit 31 rfl) ?_ (Kept.seal) (Kept.seal) (Kept.seal)
    exact h0
  (clear_value v22; revert v22; refine Kept.seal ?_; intro v22 h23)
  refine Kept.addF (hm.bit 1 rfl) (reach_POOL_REVOKED_REQS (hm.bit 229 rfl)) ?_
  exact h23

theorem kept_hostDrop {s : State} {q : Req} (hm : Within 0x800700000000000000001070000000000000000010ba00040202 M) (h0 : Kept M s0 s) :
    Kept M s0 (State.hostDrop s q) := by
  unfold State.hostDrop
  extract_lets -underBinder +onlyGivenNames v20
  have h21 : Kept M s0 v20 := by
    unfold v20
    refine Kept.addF (hm.bit 1 rfl) (reach_PEP_UR (hm.bit 207 rfl)) ?_
    exact h0
  (clear_value v20; revert v20; refine Kept.seal ?_; intro v20 h21)
  refine kept_ite ?_ ?_
  · refine kept_ledger (hm.sub rfl) ?_
    refine Kept.in_pep (hm.bit 37 rfl) ?_ (Kept.seal) (Kept.seal) (Kept.seal)
    exact h21
  · exact h21

theorem kept_setDma {s : State} {c : ℕ} {x : DmaChan} (hm : Within 0x2000000000 M) (h0 : Kept M s0 s) :
    Kept M s0 (State.setDma s c x) := by
  unfold State.setDma
  refine Kept.in_pep (hm.bit 37 rfl) ?_ (Kept.seal) (Kept.seal) (Sparse.wf_put)
  exact h0

theorem kept_dmaPiece {s : State} {c : ℕ} {o : OpenReq} {status : ℕ} {mask : ℕ} {data : Bytes} (hm : Within 0x102000000000 M) (h0 : Kept M s0 s) :
    Kept M s0 (State.dmaPiece s c o status mask data) := by
  unfold State.dmaPiece
  extract_lets -underBinder +onlyGivenNames v20
  (clear_value v20; revert v20; refine Kept.seal ?_; intro v20)
  (generalize q22 : (v20.desc) = x21; revert x21; refine Kept.seal ?_; intro x21 q22)
  split
  · rename_i w23
    exact h0
  · rename_i w24 w25
    refine kept_ite ?_ ?_
    · extract_lets -underBinder +onlyGivenNames v26
      (clear_value v26; revert v26; refine Kept.seal ?_; intro v26)
      extract_lets -underBinder +onlyGivenNames v27
      have h28 : Kept M s0 v27 := by
        unfold v27
        refine kept_ite ?_ ?_
        · refine kept_emit (hm.sub rfl) ?_
          exact h0
        · exact h0
      (clear_value v27; revert v27; refine Kept.seal ?_; intro v27 h28)
      refine kept_setDma (hm.sub rfl) ?_
      exact h28
    · refine kept_ite ?_ ?_
      · refine kept_setDma (hm.sub rfl) ?_
        exact h0
      · refine kept_ite ?_ ?_
        · refine kept_setDma (hm.sub rfl) ?_
          exact h0
        · refine kept_setDma (hm.sub rfl) ?_
          exact h0

theorem kept_finishHost {s : State} {o : OpenReq} {h : HostAcc} {status : ℕ} {mask : ℕ} {data : Bytes} (hm : Within 0x800700000000000000001070000000000000000010ba00040202 M) (h0 : Kept M s0 s) :
    Kept M s0 (State.finishHost s o h status mask data) := by
  unfold State.finishHost
  extract_lets -underBinder +onlyGivenNames v20
  (clear_value v20; revert v20; refine Kept.seal ?_; intro v20)
  (generalize q22 : (h.dma) = x21; revert x21; refine Kept.seal ?_; intro x21 q22)
  split
  · rename_i w23 w24
    refine kept_dmaPiece (hm.sub rfl) ?_
    exact h0
  · rename_i w25
    refine kept_ite ?_ ?_
    · refine kept_ite ?_ ?_
      · extract_lets -underBinder +onlyGivenNames v26
        have h27 : Kept M s0 v26 := by
          unfold v26
          refine kept_ite ?_ ?_
          · exact h0
          · refine Kept.addF (hm.bit 1 rfl) (reach_PEP_UR (hm.bit 207 rfl)) ?_
            exact h0
        (clear_value v26; revert v26; refine Kept.seal ?_; intro v26 h27)
        refine kept_ite ?_ ?_
        · exact h27
        · refine kept_ite ?_ ?_
          · refine kept_emit (hm.sub rfl) ?_
            exact h27
          · refine kept_emit (hm.sub rfl) ?_
            exact h27
      · extract_lets -underBinder +onlyGivenNames v28
        have h29 : Kept M s0 v28 := by
          unfold v28
          refine kept_ite ?_ ?_
          · exact h0
          · refine kept_hostDrop (hm.sub rfl) ?_
            exact h0
        (clear_value v28; revert v28; refine Kept.seal ?_; intro v28 h29)
        refine kept_ite ?_ ?_
        · exact h29
        · refine kept_emit (hm.sub rfl) ?_
          exact h29
    · refine kept_ite ?_ ?_
      · refine kept_ite ?_ ?_
        · exact h0
        · refine kept_hostDrop (hm.sub rfl) ?_
          refine kept_emit (hm.sub rfl) ?_
          exact h0
      · refine kept_ite ?_ ?_
        · exact h0
        · refine kept_ite ?_ ?_
          · refine kept_emit (hm.sub rfl) ?_
            exact h0
          · refine kept_emit (hm.sub rfl) ?_
            refine Kept.addF (hm.bit 1 rfl) (reach_PEP_UR (hm.bit 207 rfl)) ?_
            exact h0

theorem kept_finish {s : State} {o : OpenReq} {status : ℕ} {mask : ℕ} {data : Bytes} (hm : Within 0x800720000000000000001070000000000000000018ba80041a02 M) (h0 : Kept M s0 s) :
    Kept M s0 (State.finish s o status mask data) := by
  unfold State.finish
  extract_lets -underBinder +onlyGivenNames v20
  have h21 : Kept M s0 v20 := by
    unfold v20
    refine Kept.in_opens (hm.bit 12 rfl) ?_ (fresh_filter)
    exact h0
  (clear_value v20; revert v20; refine Kept.seal ?_; intro v20 h21)
  extract_lets -underBinder +onlyGivenNames v22
  (clear_value v22; revert v22; refine Kept.seal ?_; intro v22)
  refine kept_ite ?_ ?_
  · exact h21
  · (generalize q24 : (o.host) = x23; revert x23; refine Kept.seal ?_; intro x23 q24)
    split
    · rename_i w25 w26
      refine kept_finishHost (hm.sub rfl) ?_
      exact h21
    · rename_i w27
      extract_lets -underBinder +onlyGivenNames v28
      have h29 : Kept M s0 v28 := by
        unfold v28
        refine kept_ite ?_ ?_
        · exact h21
        · refine kept_noteDrains (hm.sub rfl) ?_
          exact h21
      (clear_value v28; revert v28; refine Kept.seal ?_; intro v28 h29)
      (generalize q31 : (o.token) = x30; revert x30; refine Kept.seal ?_; intro x30 q31)
      split
      · rename_i w32 w33
        refine kept_completion (hm.sub rfl) ?_
        exact h29
      · rename_i w34
        refine kept_ite ?_ ?_
        · refine kept_ite ?_ ?_
          · refine kept_answerData (hm.sub rfl) ?_
            exact h29
          · refine kept_answerStatus (hm.sub rfl) ?_
            exact h29
        · refine kept_answerStatus (hm.sub rfl) ?_
          exact h29

theorem kept_setWait {s : State} {id : ℕ} {w : Wait} (hm : Within 0x1000 M) (h0 : Kept M s0 s) :
    Kept M s0 (State.setWait s id w) := by
  unfold State.setWait
  refine Kept.in_opens (hm.bit 12 rfl) ?_ (fresh_map (fun o => by (try dsimp only); split <;> rfl))
  exact h0

theorem kept_poisonConsumed {s : State} {e : Event} (hm : Within 0x7000000000000000016700000000000000000109a00040202 M) (h0 : Kept M s0 s) :
    Kept M s0 (State.poisonConsumed s e) := by
  unfold State.poisonConsumed
  refine kept_ite ?_ ?_
  · exact h0
  · extract_lets -underBinder +onlyGivenNames v20
    have h21 : Kept M s0 v20 := by
      unfold v20
      refine Kept.setBit (hm.bit 1 rfl) (reach_LDG_TAG_POISON (hm.bit 122 rfl)) ?_
      exact h0
    (clear_value v20; revert v20; refine Kept.seal ?_; intro v20 h21)
    refine kept_ledger (hm.sub rfl) ?_
    refine Kept.addF (hm.bit 1 rfl) (reach_LDG_POISON_READS (hm.bit 121 rfl)) ?_
    exact h21

theorem kept_poisonNamed {s : State} {e : Event} (hm : Within 0x7000000000000000016700000000000000000109a00040202 M) (h0 : Kept M s0 s) :
    Kept M s0 (State.poisonNamed s e) := by
  unfold State.poisonNamed
  refine kept_ite ?_ ?_
  · refine kept_ledger (hm.sub rfl) ?_
    exact h0
  · extract_lets -underBinder +onlyGivenNames v20
    have h21 : Kept M s0 v20 := by
      unfold v20
      refine Kept.setBit (hm.bit 1 rfl) (reach_LDG_TAG_POISON (hm.bit 122 rfl)) ?_
      exact h0
    (clear_value v20; revert v20; refine Kept.seal ?_; intro v20 h21)
    refine kept_ledger (hm.sub rfl) ?_
    refine Kept.addF (hm.bit 1 rfl) (reach_LDG_POISON_READS (hm.bit 121 rfl)) ?_
    exact h21

end Sys2Proof.Machine
end

