-- ==== Sys2Proof/Laws/Kept/Events.lean ====
section
/-! SUPPORT. What the operations of Events may write: each keeps its footprint. -/

namespace Sys2Proof.Machine

variable {M : Nat} {s0 : State}

theorem kept_eventSet {s : State} {i : ℕ} {v : ℕ} (hm : Within 0x8000000000000000000000000000000000000000000000000000000000000000002 M) (h0 : Kept M s0 s) :
    Kept M s0 (State.eventSet s i v) := by
  unfold State.eventSet
  refine Kept.setF (hm.bit 1 rfl) (reach_SLOT_EVENT (hm.bit 267 rfl)) ?_
  exact h0

theorem kept_eventAdd {s : State} {i : ℕ} {n : ℕ} (hm : Within 0x8000000000000000000000000000000000000000000000000000000008000000002 M) (h0 : Kept M s0 s) :
    Kept M s0 (State.eventAdd s i n) := by
  unfold State.eventAdd
  refine kept_forEach ?_ ?_
  · intro y20 y21 h22
    refine kept_raiseIrq (hm.sub rfl) ?_
    exact h22
  · refine Kept.addF (hm.bit 1 rfl) (reach_SLOT_EVENT (hm.bit 267 rfl)) ?_
    exact h0

theorem kept_eventDec {s : State} {i : ℕ} {n : ℕ} (hm : Within 0x8000000000000000000000000000000000000000000000000000000000000000002 M) (h0 : Kept M s0 s) :
    KeptP M s0 (State.eventDec s i n) := by
  unfold State.eventDec
  refine keptp_ite ?_ ?_
  · refine Kept.pair ?_
    refine Kept.setF (hm.bit 1 rfl) (reach_SLOT_EVENT (hm.bit 267 rfl)) ?_
    exact h0
  · refine Kept.pair ?_
    exact h0

theorem kept_doneEvent {s : State} {e : ℕ} (hm : Within 0x8000000000000000000000000000000000000000000000000000000008000000002 M) (h0 : Kept M s0 s) :
    Kept M s0 (State.doneEvent s e) := by
  unfold State.doneEvent
  refine kept_ite ?_ ?_
  · refine kept_eventAdd (hm.sub rfl) ?_
    exact h0
  · exact h0

theorem kept_arrive {s : State} {b : ℕ} {tag : Tag} (hm : Within 0x48000000000000000007000000000000000010700000000000000000109a00040202 M) (h0 : Kept M s0 s) :
    Kept M s0 (State.arrive s b tag) := by
  unfold State.arrive
  extract_lets -underBinder +onlyGivenNames v20
  (clear_value v20; revert v20; refine Kept.seal ?_; intro v20)
  refine kept_ite ?_ ?_
  · refine kept_ledger (hm.sub rfl) ?_
    exact h0
  · extract_lets -underBinder +onlyGivenNames v21
    (clear_value v21; revert v21; refine Kept.seal ?_; intro v21)
    refine kept_ite ?_ ?_
    · extract_lets -underBinder +onlyGivenNames v22
      have h23 : Kept M s0 v22 := by
        unfold v22
        refine Kept.addF (hm.bit 1 rfl) (reach_SLOT_BARRIER (hm.bit 270 rfl)) ?_
        refine Kept.setF (hm.bit 1 rfl) (reach_SLOT_BARRIER (hm.bit 270 rfl)) ?_
        exact h0
      (clear_value v22; revert v22; refine Kept.seal ?_; intro v22 h23)
      refine kept_ite ?_ ?_
      · refine kept_eventAdd (hm.sub rfl) ?_
        exact h23
      · exact h23
    · refine Kept.setF (hm.bit 1 rfl) (reach_SLOT_BARRIER (hm.bit 270 rfl)) ?_
      exact h0

theorem kept_slotArm {s : State} {n : ℕ} (hm : Within 0x1000000000000000000000000000000000000000000000000000000000000000002 M) (h0 : Kept M s0 s) :
    Kept M s0 (State.slotArm s n) := by
  unfold State.slotArm
  extract_lets -underBinder +onlyGivenNames v20
  (clear_value v20; revert v20; refine Kept.seal ?_; intro v20)
  extract_lets -underBinder +onlyGivenNames v21
  have h22 : Kept M s0 v21 := by
    unfold v21
    refine kept_forEach ?_ ?_
    · intro y23 y24 h25
      refine Kept.setReg (hm.bit 1 rfl) (reach_SLOT_STATUS (hm.bit 264 rfl)) ?_
      exact h25
    · exact h0
  (clear_value v21; revert v21; refine Kept.seal ?_; intro v21 h22)
  refine Kept.setReg (hm.bit 1 rfl) (reach_SLOT_STATUS (hm.bit 264 rfl)) ?_
  exact h22

theorem kept_slotReady {s : State} {n : ℕ} {e : SlotEnd} (hm : Within 0x1000000000000000000000000000000000000000000000000000000000000000002 M) (h0 : Kept M s0 s) :
    Kept M s0 (State.slotReady s n e) := by
  unfold State.slotReady
  extract_lets -underBinder +onlyGivenNames v20
  (clear_value v20; revert v20; refine Kept.seal ?_; intro v20)
  extract_lets -underBinder +onlyGivenNames v21
  (clear_value v21; revert v21; refine Kept.seal ?_; intro v21)
  extract_lets -underBinder +onlyGivenNames v22
  have h23 : Kept M s0 v22 := by
    unfold v22
    refine Kept.setReg (hm.bit 1 rfl) (reach_SLOT_STATUS (hm.bit 264 rfl)) ?_
    exact h0
  (clear_value v22; revert v22; refine Kept.seal ?_; intro v22 h23)
  extract_lets -underBinder +onlyGivenNames v24
  have h25 : Kept M s0 v24 := by
    unfold v24
    refine Kept.setReg (hm.bit 1 rfl) (reach_SLOT_STATUS (hm.bit 264 rfl)) ?_
    exact h23
  (clear_value v24; revert v24; refine Kept.seal ?_; intro v24 h25)
  extract_lets -underBinder +onlyGivenNames v26
  have h27 : Kept M s0 v26 := by
    unfold v26
    refine Kept.setReg (hm.bit 1 rfl) (reach_SLOT_STATUS (hm.bit 264 rfl)) ?_
    exact h25
  (clear_value v26; revert v26; refine Kept.seal ?_; intro v26 h27)
  extract_lets -underBinder +onlyGivenNames v28
  have h29 : Kept M s0 v28 := by
    unfold v28
    refine Kept.setReg (hm.bit 1 rfl) (reach_SLOT_STATUS (hm.bit 264 rfl)) ?_
    exact h27
  (clear_value v28; revert v28; refine Kept.seal ?_; intro v28 h29)
  extract_lets -underBinder +onlyGivenNames v30
  have h31 : Kept M s0 v30 := by
    unfold v30
    refine Kept.setReg (hm.bit 1 rfl) (reach_SLOT_STATUS (hm.bit 264 rfl)) ?_
    exact h29
  (clear_value v30; revert v30; refine Kept.seal ?_; intro v30 h31)
  refine Kept.setReg (hm.bit 1 rfl) (reach_SLOT_STATUS (hm.bit 264 rfl)) ?_
  exact h31

theorem kept_slotRelease {s : State} {n : ℕ} {seq : ℕ} (hm : Within 0x1000000000000000000000000000000000000000000000000000000000000000002 M) (h0 : Kept M s0 s) :
    KeptP M s0 (State.slotRelease s n seq) := by
  unfold State.slotRelease
  (generalize q21 : (s.slotState n) = x20; revert x20; refine Kept.seal ?_; intro x20 q21)
  split
  · rename_i w22
    refine Kept.pair ?_
    exact h0
  · rename_i w23
    refine Kept.pair ?_
    exact h0
  · rename_i w24 w25 w26
    refine keptp_ite ?_ ?_
    · refine Kept.pair ?_
      refine Kept.setReg (hm.bit 1 rfl) (reach_SLOT_STATUS (hm.bit 264 rfl)) ?_
      exact h0
    · refine Kept.pair ?_
      exact h0

theorem kept_execEventSet {i : Fin 4096} {v : W32} {s : State} (hm : Within 0x8000000000000000000000000000000000000000000000000000000000000000002 M) (h0 : Kept M s0 s) :
    KeptE M s0 (execEventSet i v s) := by
  unfold execEventSet
  refine kepte_next ?_
  refine kept_eventSet (hm.sub rfl) ?_
  exact h0

theorem kept_execEventAdd {i : Fin 4096} {n : W32} {s : State} (hm : Within 0x8000000000000000000000000000000000000000000000000000000008000000002 M) (h0 : Kept M s0 s) :
    KeptE M s0 (execEventAdd i n s) := by
  unfold execEventAdd
  refine kepte_next ?_
  refine kept_eventAdd (hm.sub rfl) ?_
  exact h0

theorem kept_execEventDec {i : Fin 4096} {n : W32} {s : State} (hm : Within 0x8000000000000000000000000000000000000000000000000000000100000000002 M) (h0 : Kept M s0 s) :
    KeptE M s0 (execEventDec i n s) := by
  unfold execEventDec
  extract_lets -underBinder +onlyGivenNames v20
  have h21 : KeptP M s0 v20 := by
    unfold v20
    refine kept_eventDec (hm.sub rfl) ?_
    exact h0
  (clear_value v20; revert v20; refine Kept.seal ?_; intro v20 h21)
  refine kepte_next ?_
  refine kept_emit (hm.sub rfl) ?_
  exact (KeptP.st h21)

theorem kept_execBarrierArrive {b : Fin 64} {tag : Tag} {s : State} (hm : Within 0x48000000000000000007000000000000000010700000000000000000109a00040202 M) (h0 : Kept M s0 s) :
    KeptE M s0 (execBarrierArrive b tag s) := by
  unfold execBarrierArrive
  refine kepte_next ?_
  refine kept_arrive (hm.sub rfl) ?_
  exact h0

theorem kept_execSlotRelease {n : Fin 4096} {seq : W32} {s : State} (hm : Within 0x5000000000000000000000000000000000000000000000000000000000000000002 M) (h0 : Kept M s0 s) :
    KeptE M s0 (execSlotRelease n seq s) := by
  unfold execSlotRelease
  extract_lets -underBinder +onlyGivenNames v20
  have h21 : KeptP M s0 v20 := by
    unfold v20
    refine kept_slotRelease (hm.sub rfl) ?_
    exact h0
  (clear_value v20; revert v20; refine Kept.seal ?_; intro v20 h21)
  refine kepte_next ?_
  refine Kept.setF (hm.bit 1 rfl) (reach_SLOT_RELEASE_RESULT (hm.bit 266 rfl)) ?_
  exact (KeptP.st h21)

end Sys2Proof.Machine
end

