-- ==== Sys2Proof/Laws/Kept/Dram.lean ====
section
/-! SUPPORT. What the operations of Dram may write: each keeps its footprint. -/

namespace Sys2Proof.Machine

variable {M : Nat} {s0 : State}

theorem kept_setActs {s : State} {unit : ℕ} {bank : ℕ} {l : List ActEntry} (hm : Within 0x80000 M) (h0 : Kept M s0 s) :
    Kept M s0 (State.setActs s unit bank l) := by
  unfold State.setActs
  refine Kept.in_dramCtl (hm.bit 19 rfl) ?_ (Sparse.wf_put) (Kept.seal) (Kept.seal) (Kept.seal) (Kept.seal) (Kept.seal) (Kept.seal)
  exact h0

theorem kept_rowHammer {s : State} {u : Fin 608} {bank : ℕ} {rows : ℕ} (hm : Within 0x20200000000000000000000000000000100000080002 M) (h0 : Kept M s0 s) :
    Kept M s0 (State.rowHammer s u bank rows) := by
  unfold State.rowHammer
  extract_lets -underBinder +onlyGivenNames v20
  (clear_value v20; revert v20; refine Kept.seal ?_; intro v20)
  refine kept_ite ?_ ?_
  · exact h0
  · extract_lets -underBinder +onlyGivenNames v21
    (clear_value v21; revert v21; refine Kept.seal ?_; intro v21)
    extract_lets -underBinder +onlyGivenNames v22
    (clear_value v22; revert v22; refine Kept.seal ?_; intro v22)
    extract_lets -underBinder +onlyGivenNames v23
    (clear_value v23; revert v23; refine Kept.seal ?_; intro v23)
    extract_lets -underBinder +onlyGivenNames v24
    (clear_value v24; revert v24; refine Kept.seal ?_; intro v24)
    extract_lets -underBinder +onlyGivenNames v25
    have h26 : Kept M s0 v25 := by
      unfold v25
      refine kept_forEach ?_ ?_
      · intro y27 y28 h29
        refine Kept.addF (hm.bit 1 rfl) (reach_tally (hm.bit 165 rfl) (hm.bit 173 rfl)) ?_
        refine kept_forEach ?_ ?_
        · intro y30 y31 h32
          refine kept_emit (hm.sub rfl) ?_
          exact h32
        · exact h29
      · exact h0
    (clear_value v25; revert v25; refine Kept.seal ?_; intro v25 h26)
    refine kept_setActs (hm.sub rfl) ?_
    exact h26

theorem kept_activate {s : State} {a : Activate} (hm : Within 0x20200000000000000000000000000000100000080002 M) (h0 : Kept M s0 s) :
    Kept M s0 (State.activate s a) := by
  unfold State.activate
  refine kept_rowHammer (hm.sub rfl) ?_
  refine kept_setActs (hm.sub rfl) ?_
  exact h0

theorem kept_refreshTick {s : State} {u : Fin 608} {bank : Fin 256} {rows : ℕ} (hm : Within 0x100000080000 M) (h0 : Kept M s0 s) :
    Kept M s0 (State.refreshTick s u bank rows) := by
  unfold State.refreshTick
  extract_lets -underBinder +onlyGivenNames v20
  (clear_value v20; revert v20; refine Kept.seal ?_; intro v20)
  extract_lets -underBinder +onlyGivenNames v21
  (clear_value v21; revert v21; refine Kept.seal ?_; intro v21)
  refine kept_ite ?_ ?_
  · exact h0
  · extract_lets -underBinder +onlyGivenNames v22
    (clear_value v22; revert v22; refine Kept.seal ?_; intro v22)
    extract_lets -underBinder +onlyGivenNames v23
    (clear_value v23; revert v23; refine Kept.seal ?_; intro v23)
    extract_lets -underBinder +onlyGivenNames v24
    have h25 : Kept M s0 v24 := by
      unfold v24
      refine kept_emit (hm.sub rfl) ?_
      exact h0
    (clear_value v24; revert v24; refine Kept.seal ?_; intro v24 h25)
    extract_lets -underBinder +onlyGivenNames v26
    extract_lets -underBinder +onlyGivenNames v27
    have h28 : Kept M s0 v27 := by
      unfold v27
      refine Kept.in_dramCtl (hm.bit 19 rfl) ?_ (Kept.seal) (Kept.seal) (Sparse.wf_put) (Kept.seal) (Kept.seal) (Kept.seal) (Kept.seal)
      exact h25
    (clear_value v27; revert v27; refine Kept.seal ?_; intro v27 h28)
    refine kept_ite ?_ ?_
    · refine kept_setActs (hm.sub rfl) ?_
      exact h28
    · exact h28

theorem kept_dramThermal {s : State} {u : DUnit} {t : ℤ} {rate : ℕ} (hm : Within 0x7000010100000000010700000000000000000109a000c0202 M) (h0 : Kept M s0 s) :
    Kept M s0 (State.dramThermal s u t rate) := by
  unfold State.dramThermal
  extract_lets -underBinder +onlyGivenNames v20
  (clear_value v20; revert v20; refine Kept.seal ?_; intro v20)
  extract_lets -underBinder +onlyGivenNames v21
  (clear_value v21; revert v21; refine Kept.seal ?_; intro v21)
  extract_lets -underBinder +onlyGivenNames v22
  (clear_value v22; revert v22; refine Kept.seal ?_; intro v22)
  extract_lets -underBinder +onlyGivenNames v23
  (clear_value v23; revert v23; refine Kept.seal ?_; intro v23)
  extract_lets -underBinder +onlyGivenNames v24
  have h25 : Kept M s0 v24 := by
    unfold v24
    refine Kept.setF (hm.bit 1 rfl) (reach_temp (hm.bit 164 rfl) (hm.bit 172 rfl)) ?_
    exact h0
  (clear_value v24; revert v24; refine Kept.seal ?_; intro v24 h25)
  extract_lets -underBinder +onlyGivenNames v26
  have h27 : Kept M s0 v26 := by
    unfold v26
    refine Kept.setF (hm.bit 1 rfl) (reach_level (hm.bit 164 rfl) (hm.bit 172 rfl)) ?_
    exact h25
  (clear_value v26; revert v26; refine Kept.seal ?_; intro v26 h27)
  extract_lets -underBinder +onlyGivenNames v28
  have h29 : Kept M s0 v28 := by
    unfold v28
    refine Kept.setF (hm.bit 1 rfl) (reach_refHigh (hm.bit 164 rfl) (hm.bit 172 rfl)) ?_
    exact h27
  (clear_value v28; revert v28; refine Kept.seal ?_; intro v28 h29)
  extract_lets -underBinder +onlyGivenNames v30
  have h31 : Kept M s0 v30 := by
    unfold v30
    split
    · rename_i w32 w33
      exact h29
    · rename_i w34 w35
      refine Kept.in_dramCtl (hm.bit 19 rfl) ?_ (Kept.seal) (Kept.seal) (Kept.seal) (Sparse.wf_put) (Kept.seal) (Kept.seal) (Kept.seal)
      exact h29
  (clear_value v30; revert v30; refine Kept.seal ?_; intro v30 h31)
  refine kept_ite ?_ ?_
  · refine kept_ledger (hm.sub rfl) ?_
    refine kept_ibi (hm.sub rfl) ?_
    exact h31
  · exact h31

theorem kept_fenceChannel {s : State} {n : Fin 96} {cause : ℕ} (hm : Within 0x7000010100000000010700000000000000000109a00040202 M) (h0 : Kept M s0 s) :
    Kept M s0 (State.fenceChannel s n cause) := by
  unfold State.fenceChannel
  extract_lets -underBinder +onlyGivenNames v20
  (clear_value v20; revert v20; refine Kept.seal ?_; intro v20)
  refine kept_ite ?_ ?_
  · exact h0
  · refine kept_ledger (hm.sub rfl) ?_
    refine Kept.setF (hm.bit 1 rfl) (reach_state (hm.bit 164 rfl) (hm.bit 172 rfl)) ?_
    exact h0

theorem kept_densityRead {s : State} {n : Fin 96} {gib : ℕ} (hm : Within 0x7000010100000000010700000000000000000109a00040202 M) (h0 : Kept M s0 s) :
    Kept M s0 (State.densityRead s n gib) := by
  unfold State.densityRead
  refine kept_ite ?_ ?_
  · exact h0
  · refine kept_fenceChannel (hm.sub rfl) ?_
    refine kept_ledger (hm.sub rfl) ?_
    exact h0

theorem kept_dramUpdate {s : State} {u : DUnit} {ok : Bool} (hm : Within 0x7000020200000000010700000000000000000109a000c0202 M) (h0 : Kept M s0 s) :
    Kept M s0 (State.dramUpdate s u ok) := by
  unfold State.dramUpdate
  extract_lets -underBinder +onlyGivenNames v20
  have h21 : Kept M s0 v20 := by
    unfold v20
    refine Kept.addF (hm.bit 1 rfl) (reach_tally (hm.bit 165 rfl) (hm.bit 173 rfl)) ?_
    exact h0
  (clear_value v20; revert v20; refine Kept.seal ?_; intro v20 h21)
  extract_lets -underBinder +onlyGivenNames v22
  extract_lets -underBinder +onlyGivenNames v23
  have h24 : Kept M s0 v23 := by
    unfold v23
    refine Kept.in_dramCtl (hm.bit 19 rfl) ?_ (Kept.seal) (Kept.seal) (Kept.seal) (Kept.seal) (Sparse.wf_put) (Kept.seal) (Kept.seal)
    exact h21
  (clear_value v23; revert v23; refine Kept.seal ?_; intro v23 h24)
  refine kept_ite ?_ ?_
  · exact h24
  · refine kept_ledger (hm.sub rfl) ?_
    exact h24

theorem kept_execRefreshTick {u : Fin 608} {bank : Fin 256} {rows : Fin 262145} {s : State} (hm : Within 0x100000080000 M) (h0 : Kept M s0 s) :
    KeptE M s0 (execRefreshTick u bank rows s) := by
  unfold execRefreshTick
  refine kepte_next ?_
  refine kept_refreshTick (hm.sub rfl) ?_
  exact h0

theorem kept_execRowHammerTrigger {u : Fin 608} {bank : Fin 256} {rows : Fin 262145} {acts : List (Fin 262144)} {s : State} (hm : Within 0x20200000000000000000000000000000100000080002 M) (h0 : Kept M s0 s) :
    KeptE M s0 (execRowHammerTrigger u bank rows acts s) := by
  unfold execRowHammerTrigger
  refine kepte_next ?_
  refine kept_forEach ?_ ?_
  · intro y20 y21 h22
    refine kept_activate (hm.sub rfl) ?_
    exact h22
  · refine kept_rowHammer (hm.sub rfl) ?_
    exact h0

theorem kept_execRfmCommand {u : Fin 608} {bank : Fin 256} {s : State} (hm : Within 0x20200000000000000000000000000000100000000002 M) (h0 : Kept M s0 s) :
    KeptE M s0 (execRfmCommand u bank s) := by
  unfold execRfmCommand
  refine kepte_next ?_
  refine Kept.addF (hm.bit 1 rfl) (reach_tally (hm.bit 165 rfl) (hm.bit 173 rfl)) ?_
  refine kept_emit (hm.sub rfl) ?_
  exact h0

theorem kept_execDramChannelFenced {n : Fin 96} {cause : Fin 4} {density : Fin 256} {s : State} (hm : Within 0x7000010100000000010700000000000000000109a00040202 M) (h0 : Kept M s0 s) :
    KeptE M s0 (execDramChannelFenced n cause density s) := by
  unfold execDramChannelFenced
  refine kepte_ite ?_ ?_
  · refine kepte_next ?_
    exact h0
  · refine kepte_ite ?_ ?_
    · refine kepte_next ?_
      refine kept_ite ?_ ?_
      · refine kept_fenceChannel (hm.sub rfl) ?_
        exact h0
      · exact h0
    · refine kepte_ite ?_ ?_
      · refine kepte_next ?_
        refine kept_densityRead (hm.sub rfl) ?_
        exact h0
      · refine kepte_next ?_
        refine kept_fenceChannel (hm.sub rfl) ?_
        exact h0

end Sys2Proof.Machine
end

