-- ==== Sys2Proof/Laws/Kept/Vault.lean ====
section
/-! SUPPORT. What the operations of Vault may write: each keeps its footprint. -/

namespace Sys2Proof.Machine

variable {M : Nat} {s0 : State}

theorem kept_setVseg {s : State} {p : ℕ} {g : Option VSeg} (hm : Within 0x100000 M) (h0 : Kept M s0 s) :
    Kept M s0 (State.setVseg s p g) := by
  unfold State.setVseg
  refine Kept.in_vault (hm.bit 20 rfl) ?_ (Kept.seal) (Kept.seal) (Kept.seal) (Sparse.wf_put) (Kept.seal) (Kept.seal) (Kept.seal)
  exact h0

theorem kept_setVblock {s : State} {x : VPlace} {b : VBlock} (hm : Within 0x100000 M) (h0 : Kept M s0 s) :
    Kept M s0 (State.setVblock s x b) := by
  unfold State.setVblock
  refine Kept.in_vault (hm.bit 20 rfl) ?_ (Kept.seal) (Kept.seal) (Kept.seal) (Kept.seal) (Sparse.wf_put) (Kept.seal) (Kept.seal)
  exact h0

theorem kept_openVault {s : State} {p : ℕ} (hm : Within 0x100000 M) (h0 : Kept M s0 s) :
    Kept M s0 (State.openVault s p) := by
  unfold State.openVault
  extract_lets -underBinder +onlyGivenNames v20
  (clear_value v20; revert v20; refine Kept.seal ?_; intro v20)
  extract_lets -underBinder +onlyGivenNames v21
  (clear_value v21; revert v21; refine Kept.seal ?_; intro v21)
  extract_lets -underBinder +onlyGivenNames v22
  extract_lets -underBinder +onlyGivenNames v23
  have h24 : Kept M s0 v23 := by
    unfold v23
    refine Kept.in_vault (hm.bit 20 rfl) ?_ (Kept.seal) (Kept.seal) (Kept.seal) (Kept.seal) (Kept.seal) (Sparse.wf_put) (Kept.seal)
    exact h0
  (clear_value v23; revert v23; refine Kept.seal ?_; intro v23 h24)
  refine kept_forEach ?_ ?_
  · intro y25 y26 h27
    (generalize q29 : (y25.vseg y26) = x28; revert x28; refine Kept.seal ?_; intro x28 q29)
    split
    · rename_i w30 w31
      refine kept_setVseg (hm.sub rfl) ?_
      exact h27
    · rename_i w32
      exact h27
  · exact h24

theorem kept_newSegment {s : State} {p : ℕ} {x : VPlace} {fill : ℕ} {open_ : Bool} (hm : Within 0x1000000000000000000000000000000000000000100002 M) (h0 : Kept M s0 s) :
    Kept M s0 (State.newSegment s p x fill open_) := by
  unfold State.newSegment
  extract_lets -underBinder +onlyGivenNames v20
  (clear_value v20; revert v20; refine Kept.seal ?_; intro v20)
  extract_lets -underBinder +onlyGivenNames v21
  have h22 : Kept M s0 v21 := by
    unfold v21
    refine kept_setVseg (hm.sub rfl) ?_
    exact h0
  (clear_value v21; revert v21; refine Kept.seal ?_; intro v21 h22)
  extract_lets -underBinder +onlyGivenNames v23
  (clear_value v23; revert v23; refine Kept.seal ?_; intro v23)
  extract_lets -underBinder +onlyGivenNames v24
  have h25 : Kept M s0 v24 := by
    unfold v24
    refine kept_setVblock (hm.sub rfl) ?_
    exact h22
  (clear_value v24; revert v24; refine Kept.seal ?_; intro v24 h25)
  extract_lets -underBinder +onlyGivenNames v26
  have h27 : Kept M s0 v26 := by
    unfold v26
    refine kept_ite ?_ ?_
    · refine Kept.addF (hm.bit 1 rfl) (reach_VLT_CH_TALLY (hm.bit 180 rfl)) ?_
      exact h25
    · exact h25
  (clear_value v26; revert v26; refine Kept.seal ?_; intro v26 h27)
  refine Kept.addF (hm.bit 1 rfl) (reach_VLT_CH_TALLY (hm.bit 180 rfl)) ?_
  exact h27

theorem kept_putVault {s : State} {b : ℕ} {bs : Bytes} {mask : List ℕ} (hm : Within 0x100000 M) (h0 : Kept M s0 s) :
    Kept M s0 (State.putVault s b bs mask) := by
  unfold State.putVault
  extract_lets -underBinder +onlyGivenNames v20
  extract_lets -underBinder +onlyGivenNames v21
  (clear_value v21; revert v21; refine Kept.seal ?_; intro v21)
  refine Kept.in_vault (hm.bit 20 rfl) ?_ (Sparse.wf_putList) (by dsimp only; exact Sparse.wf_putList) (Sparse.wf_put) (Kept.seal) (Kept.seal) (Kept.seal) (Kept.seal)
  exact h0

theorem kept_ckptDestAccept {s : State} {p : ℕ} (hm : Within 0x8000000000000000000000000000000000000000100002 M) (h0 : Kept M s0 s) :
    Kept M s0 (State.ckptDestAccept s p) := by
  unfold State.ckptDestAccept
  refine kept_forEach ?_ ?_
  · intro y20 y21 h22
    refine kept_clearValid (hm.sub rfl) ?_
    exact h22
  · exact h0

theorem kept_ckptCover {s : State} {b : ℕ} {id : ℕ} (hm : Within 0x8000000000000000000000000000000000000000100002 M) (h0 : Kept M s0 s) :
    Kept M s0 (State.ckptCover s b id) := by
  unfold State.ckptCover
  refine kept_forEach ?_ ?_
  · intro y20 y21 h22
    extract_lets -underBinder +onlyGivenNames v23
    (clear_value v23; revert v23; refine Kept.seal ?_; intro v23)
    refine kept_ite ?_ ?_
    · extract_lets -underBinder +onlyGivenNames v24
      (clear_value v24; revert v24; refine Kept.seal ?_; intro v24)
      refine kept_setCkpt (hm.sub rfl) ?_
      exact h22
    · exact h22
  · exact h0

theorem kept_relocate {s : State} {p : ℕ} {places : List VPlace} (hm : Within 0x1000000000000000000000000000000000000000100002 M) (h0 : Kept M s0 s) :
    KeptP M s0 (State.relocate s p places) := by
  unfold State.relocate
  (generalize q21 : (s.vseg p) = x20; revert x20; refine Kept.seal ?_; intro x20 q21)
  split
  · rename_i w22 w23 w24 w25 w26
    refine keptp_ite ?_ ?_
    · refine Kept.pair ?_
      refine kept_newSegment (hm.sub rfl) ?_
      exact h0
    · refine Kept.pair ?_
      exact h0
  · rename_i w27 w28 w29
    refine Kept.pair ?_
    exact h0

theorem kept_retryMove {s : State} {p : ℕ} {places : List VPlace} (hm : Within 0x1000000000000000000000000000000000000000100002 M) (h0 : Kept M s0 s) :
    Kept M s0 (State.retryMove s p places) := by
  unfold State.retryMove
  (generalize q21 : (s.vseg p) = x20; revert x20; refine Kept.seal ?_; intro x20 q21)
  split
  · rename_i w22 w23
    refine kept_ite ?_ ?_
    · exact h0
    · (generalize q25 : (List.find? (s.placeOk (Sys2Proof.Machine.ownerOf p)) places) = x24; revert x24; refine Kept.seal ?_; intro x24 q25)
      split
      · rename_i w26 w27
        refine kept_newSegment (hm.sub rfl) ?_
        exact h0
      · rename_i w28
        exact h0
  · rename_i w29
    exact h0

theorem kept_readVault {s : State} {b : ℕ} {env : VaultEnv} {tag : Tag} (hm : Within 0x7009000000000000010700000000000000000109a00140202 M) (h0 : Kept M s0 s) :
    KeptP M s0 (State.readVault s b env tag) := by
  unfold State.readVault
  extract_lets -underBinder +onlyGivenNames v20
  (clear_value v20; revert v20; refine Kept.seal ?_; intro v20)
  extract_lets -underBinder +onlyGivenNames v21
  (clear_value v21; revert v21; refine Kept.seal ?_; intro v21)
  (generalize q23 : (s.vseg v20) = x22; revert x22; refine Kept.seal ?_; intro x22 q23)
  split
  · rename_i w24
    refine Kept.pair ?_
    exact h0
  · rename_i w25 w26
    extract_lets -underBinder +onlyGivenNames v27
    (clear_value v27; revert v27; refine Kept.seal ?_; intro v27)
    refine keptp_ite ?_ ?_
    · refine Kept.pair ?_
      exact h0
    · refine keptp_ite ?_ ?_
      · refine Kept.pair ?_
        refine kept_forEach ?_ ?_
        · intro y28 y29 h30
          refine kept_clearValid (hm.sub rfl) ?_
          exact h30
        · exact h0
      · refine keptp_ite ?_ ?_
        · refine Kept.pair ?_
          refine kept_ledger (hm.sub rfl) ?_
          exact h0
        · extract_lets -underBinder +onlyGivenNames v31
          (clear_value v31; revert v31; refine Kept.seal ?_; intro v31)
          refine keptp_ite ?_ ?_
          · refine Kept.pair ?_
            refine kept_ledger (hm.sub rfl) ?_
            refine Kept.addF (hm.bit 1 rfl) (reach_VLT_CH_TALLY (hm.bit 180 rfl)) ?_
            exact h0
          · extract_lets -underBinder +onlyGivenNames v32
            have h33 : Kept M s0 v32 := by
              unfold v32
              refine kept_ite ?_ ?_
              · refine Kept.addF (hm.bit 1 rfl) (reach_VLT_CH_TALLY (hm.bit 180 rfl)) ?_
                exact h0
              · exact h0
            (clear_value v32; revert v32; refine Kept.seal ?_; intro v32 h33)
            extract_lets -underBinder +onlyGivenNames v34
            have h35 : Kept M s0 v34 := by
              unfold v34
              refine kept_ite ?_ ?_
              · exact h33
              · refine kept_retryMove (hm.sub rfl) ?_
                refine Kept.addF (hm.bit 1 rfl) (reach_VLT_CH_TALLY (hm.bit 180 rfl)) ?_
                exact h33
            (clear_value v34; revert v34; refine Kept.seal ?_; intro v34 h35)
            refine Kept.pair ?_
            exact h35

theorem kept_spoilPage {s : State} {p : ℕ} {fill : ℕ} (hm : Within 0x100000 M) (h0 : Kept M s0 s) :
    Kept M s0 (State.spoilPage s p fill) := by
  unfold State.spoilPage
  refine kept_ite ?_ ?_
  · refine kept_forEach ?_ ?_
    · intro y20 y21 h22
      refine kept_putVault (hm.sub rfl) ?_
      exact h22
    · exact h0
  · exact h0

theorem kept_writeVault {s : State} {b : ℕ} {bs : Bytes} {mask : List ℕ} {places : List VPlace} (hm : Within 0x1000000000000000000000000000000000000000100002 M) (h0 : Kept M s0 s) :
    KeptQ M s0 (State.writeVault s b bs mask places) := by
  unfold State.writeVault
  extract_lets -underBinder +onlyGivenNames v20
  (clear_value v20; revert v20; refine Kept.seal ?_; intro v20)
  extract_lets -underBinder +onlyGivenNames v21
  (clear_value v21; revert v21; refine Kept.seal ?_; intro v21)
  extract_lets -underBinder +onlyGivenNames v22
  have h23 : ∀ c_0 c_1, Kept M s0 c_0 → KeptQ M s0 (v22 c_0 c_1) := by
    unfold v22
    intro y24 y25 h26
    refine keptq_some ?_
    refine Kept.pair ?_
    refine kept_openVault (hm.sub rfl) ?_
    refine kept_putVault (hm.sub rfl) ?_
    exact h26
  (clear_value v22; revert v22; refine Kept.seal ?_; intro v22 h23)
  (generalize q28 : (s.vseg v20) = x27; revert x27; refine Kept.seal ?_; intro x27 q28)
  split
  · rename_i w29 w30
    refine keptq_ite ?_ ?_
    · refine h23 _ _ ?_
      refine Kept.addF (hm.bit 1 rfl) (reach_VLT_CH_TALLY (hm.bit 180 rfl)) ?_
      refine kept_setVseg (hm.sub rfl) ?_
      exact h0
    · (generalize q32 : (List.find? (fun x ↦ s.placeOk (Sys2Proof.Machine.ownerOf v20) x) places) = x31; revert x31; refine Kept.seal ?_; intro x31 q32)
      split
      · rename_i w33 w34
        refine h23 _ _ ?_
        refine kept_newSegment (hm.sub rfl) ?_
        refine kept_spoilPage (hm.sub rfl) ?_
        exact h0
      · rename_i w35
        exact keptq_none
  · rename_i w36
    (generalize q38 : (List.find? (fun x ↦ s.placeOk (Sys2Proof.Machine.ownerOf v20) x) places) = x37; revert x37; refine Kept.seal ?_; intro x37 q38)
    split
    · rename_i w39 w40
      refine h23 _ _ ?_
      refine kept_newSegment (hm.sub rfl) ?_
      exact h0
    · rename_i w41
      exact keptq_none

theorem kept_readVaultReq {s : State} {o : OpenReq} {env : VaultEnv} (hm : Within 0x7009000000000000010700000000000000000109a00140202 M) (h0 : Kept M s0 s) :
    KeptP M s0 (State.readVaultReq s o env) := by
  unfold State.readVaultReq
  refine keptp_foldl ?_ ?_
  · intro y20 y21 h22
    extract_lets -underBinder +onlyGivenNames v23
    have h24 : KeptP M s0 v23 := by
      unfold v23
      refine kept_readVault (hm.sub rfl) ?_
      exact (KeptP.st h22)
    (clear_value v23; revert v23; refine Kept.seal ?_; intro v23 h24)
    refine Kept.pair ?_
    exact (KeptP.st h24)
  · refine Kept.pair ?_
    exact h0

theorem kept_vaultReadDone {s : State} {id : ℕ} {env : VaultEnv} (hm : Within 0x800720900000000000001670000000000000000018ba80141a02 M) (h0 : Kept M s0 s) :
    Kept M s0 (State.vaultReadDone s id env) := by
  unfold State.vaultReadDone
  (generalize q21 : (s.vaultReq id Sys2Proof.Machine.ReqKind.rd) = x20; revert x20; refine Kept.seal ?_; intro x20 q21)
  split
  · rename_i w22
    exact h0
  · rename_i w23 w24
    extract_lets -underBinder +onlyGivenNames v25
    have h26 : KeptP M s0 v25 := by
      unfold v25
      refine kept_readVaultReq (hm.sub rfl) ?_
      exact h0
    (clear_value v25; revert v25; refine Kept.seal ?_; intro v25 h26)
    extract_lets -underBinder +onlyGivenNames v27
    have h28 : Kept M s0 v27 := by
      unfold v27
      refine kept_ite ?_ ?_
      · exact (KeptP.st h26)
      · refine kept_poisonConsumed (hm.sub rfl) ?_
        exact (KeptP.st h26)
    (clear_value v27; revert v27; refine Kept.seal ?_; intro v27 h28)
    refine kept_finish (hm.sub rfl) ?_
    exact h28

theorem kept_vaultCovers {s : State} {id : ℕ} {a : PA} {n : ℕ} (hm : Within 0x8000000000000000000000000000000000000000100002 M) (h0 : Kept M s0 s) :
    Kept M s0 (State.vaultCovers s id a n) := by
  unfold State.vaultCovers
  refine kept_forEach ?_ ?_
  · intro y20 y21 h22
    refine kept_ckptCover (hm.sub rfl) ?_
    exact h22
  · exact h0

theorem kept_vaultWritten {s : State} {o : OpenReq} (hm : Within 0x800720800000000000001070000000000000000018ba80141a02 M) (h0 : Kept M s0 s) :
    Kept M s0 (State.vaultWritten s o) := by
  unfold State.vaultWritten
  refine kept_finish (hm.sub rfl) ?_
  refine kept_vaultCovers (hm.sub rfl) ?_
  exact h0

theorem kept_vaultWriteDone {s : State} {id : ℕ} {env : VaultEnv} (hm : Within 0x800720900000000000001070000000000000000018ba80141a02 M) (h0 : Kept M s0 s) :
    Kept M s0 (State.vaultWriteDone s id env) := by
  unfold State.vaultWriteDone
  (generalize q21 : (s.vaultReq id Sys2Proof.Machine.ReqKind.wr) = x20; revert x20; refine Kept.seal ?_; intro x20 q21)
  split
  · rename_i w22
    exact h0
  · rename_i w23 w24
    extract_lets -underBinder +onlyGivenNames v25
    have h26 : KeptQ M s0 v25 := by
      unfold v25
      refine keptq_foldl ?_ ?_
      · intro y27 y28 h29
        split
        · rename_i w30
          exact h29
        · rename_i w31 w32 w33
          (generalize q35 : (w32.writeVault y28.1 (Sys2Proof.slice w24.req.data (4096 * y28.2) 4096) [] env.places) = x34; revert x34; refine Kept.seal ?_; intro x34 q35)
          have h36 : KeptQ M s0 x34 := by
            rw [← q35]
            refine kept_writeVault (hm.sub rfl) ?_
            exact (KeptP.st (KeptQ.get rfl h29))
          split
          · rename_i w37
            exact h36
          · rename_i w38 w39 w40
            refine keptq_some ?_
            refine Kept.pair ?_
            exact (KeptP.st (KeptQ.get rfl h36))
      · refine keptq_some ?_
        refine Kept.pair ?_
        exact h0
    (clear_value v25; revert v25; refine Kept.seal ?_; intro v25 h26)
    split
    · rename_i w41
      refine kept_finish (hm.sub rfl) ?_
      exact h0
    · rename_i w42 w43
      refine Kept.in_vault (hm.bit 20 rfl) ?_ (Kept.seal) (Kept.seal) (Kept.seal) (Kept.seal) (Kept.seal) (Kept.seal) (Kept.seal)
      exact (KeptP.st (KeptQ.get rfl h26))
    · rename_i w44 w45
      refine kept_vaultWritten (hm.sub rfl) ?_
      exact (KeptP.st (KeptQ.get rfl h26))

theorem kept_vaultMapFlush {s : State} {c : ℕ} (hm : Within 0x800720800000000000001070000000000000000018ba80141a02 M) (h0 : Kept M s0 s) :
    Kept M s0 (State.vaultMapFlush s c) := by
  unfold State.vaultMapFlush
  extract_lets -underBinder +onlyGivenNames v20
  (clear_value v20; revert v20; refine Kept.seal ?_; intro v20)
  extract_lets -underBinder +onlyGivenNames v21
  have h22 : Kept M s0 v21 := by
    unfold v21
    refine kept_forEach ?_ ?_
    · intro y23 y24 h25
      (generalize q27 : (y23.vseg y24) = x26; revert x26; refine Kept.seal ?_; intro x26 q27)
      split
      · rename_i w28 w29
        refine kept_setVseg (hm.sub rfl) ?_
        exact h25
      · rename_i w30
        exact h25
    · exact h0
  (clear_value v21; revert v21; refine Kept.seal ?_; intro v21 h22)
  extract_lets -underBinder +onlyGivenNames v31
  (clear_value v31; revert v31; refine Kept.seal ?_; intro v31)
  extract_lets -underBinder +onlyGivenNames v32
  extract_lets -underBinder +onlyGivenNames v33
  have h34 : Kept M s0 v33 := by
    unfold v33
    refine Kept.in_vault (hm.bit 20 rfl) ?_ (Kept.seal) (Kept.seal) (Kept.seal) (Kept.seal) (Kept.seal) (Kept.seal) (Kept.seal)
    exact h22
  (clear_value v33; revert v33; refine Kept.seal ?_; intro v33 h34)
  refine kept_forEach ?_ ?_
  · intro y35 y36 h37
    refine kept_vaultWritten (hm.sub rfl) ?_
    exact h37
  · exact h34

theorem kept_eraseRange {s : State} {ch : Fin 32} (hm : Within 0x800000000000000000000000000000000000000000002 M) (h0 : Kept M s0 s) :
    Kept M s0 (State.eraseRange s ch) := by
  unfold State.eraseRange
  extract_lets -underBinder +onlyGivenNames v20
  (clear_value v20; revert v20; refine Kept.seal ?_; intro v20)
  extract_lets -underBinder +onlyGivenNames v21
  (clear_value v21; revert v21; refine Kept.seal ?_; intro v21)
  extract_lets -underBinder +onlyGivenNames v22
  (clear_value v22; revert v22; refine Kept.seal ?_; intro v22)
  refine Kept.setF (hm.bit 1 rfl) (reach_VLT_CH_STS (hm.bit 179 rfl)) ?_
  refine Kept.setF (hm.bit 1 rfl) (reach_VLT_CH_STS (hm.bit 179 rfl)) ?_
  exact h0

theorem kept_moveSegs {s : State} {x : VPlace} {places : List VPlace} (hm : Within 0x1000000000000000000000000000000000000000100002 M) (h0 : Kept M s0 s) :
    Kept M s0 (State.moveSegs s x places) := by
  unfold State.moveSegs
  refine KeptP.st ?_
  refine keptp_foldl ?_ ?_
  · intro y20 y21 h22
    refine kept_relocate (hm.sub rfl) ?_
    exact (KeptP.st h22)
  · refine Kept.pair ?_
    exact h0

theorem kept_garbageCollect {s : State} {c : ℕ} {places : List VPlace} (hm : Within 0x1800000000000000000000000000000000000000100002 M) (h0 : Kept M s0 s) :
    Kept M s0 (State.garbageCollect s c places) := by
  unfold State.garbageCollect
  (generalize q21 : (s.gcVictim c) = x20; revert x20; refine Kept.seal ?_; intro x20 q21)
  split
  · rename_i w22
    exact h0
  · rename_i w23 w24
    extract_lets -underBinder +onlyGivenNames v25
    have h26 : Kept M s0 v25 := by
      unfold v25
      refine kept_moveSegs (hm.sub rfl) ?_
      exact h0
    (clear_value v25; revert v25; refine Kept.seal ?_; intro v25 h26)
    refine kept_ite ?_ ?_
    · exact h0
    · refine kept_eraseRange (hm.sub rfl) ?_
      refine kept_setVblock (hm.sub rfl) ?_
      exact h26

theorem kept_levelTarget {s : State} {ch : Fin 32} {ce : Fin 8} {places : List VPlace} (hm : Within 0x1000000000000000000000000000000000000000100002 M) (h0 : Kept M s0 s) :
    Kept M s0 (State.levelTarget s ch ce places) := by
  unfold State.levelTarget
  (generalize q21 : (List.find? (fun t ↦ t.ch == ch && t.ce == ce) s.vault.targets) = x20; revert x20; refine Kept.seal ?_; intro x20 q21)
  split
  · rename_i w22
    exact h0
  · rename_i w23 w24
    extract_lets -underBinder +onlyGivenNames v25
    (clear_value v25; revert v25; refine Kept.seal ?_; intro v25)
    (generalize q27 : (s.lowestBlock w24) = x26; revert x26; refine Kept.seal ?_; intro x26 q27)
    split
    · rename_i w28 w29 w30
      refine kept_ite ?_ ?_
      · refine kept_moveSegs (hm.sub rfl) ?_
        exact h0
      · exact h0
    · rename_i w31 w32
      exact h0

theorem kept_vaultWear {s : State} {c : ℕ} (hm : Within 0x7000400000000000010700000000000000000109a00140202 M) (h0 : Kept M s0 s) :
    Kept M s0 (State.vaultWear s c) := by
  unfold State.vaultWear
  extract_lets -underBinder +onlyGivenNames v20
  (clear_value v20; revert v20; refine Kept.seal ?_; intro v20)
  extract_lets -underBinder +onlyGivenNames v21
  (clear_value v21; revert v21; refine Kept.seal ?_; intro v21)
  refine kept_ite ?_ ?_
  · exact h0
  · extract_lets -underBinder +onlyGivenNames v22
    extract_lets -underBinder +onlyGivenNames v23
    have h24 : Kept M s0 v23 := by
      unfold v23
      refine Kept.in_vault (hm.bit 20 rfl) ?_ (Kept.seal) (Kept.seal) (Kept.seal) (Kept.seal) (Kept.seal) (Kept.seal) (Kept.seal)
      exact h0
    (clear_value v23; revert v23; refine Kept.seal ?_; intro v23 h24)
    refine kept_ledger (hm.sub rfl) ?_
    refine Kept.setF (hm.bit 1 rfl) (reach_VLT_PAGES (hm.bit 178 rfl)) ?_
    exact h24

theorem kept_vaultProgramFail {s : State} {x : VPlace} {places : List VPlace} (hm : Within 0x7001400000000000010700000000000000000109a00140202 M) (h0 : Kept M s0 s) :
    Kept M s0 (State.vaultProgramFail s x places) := by
  unfold State.vaultProgramFail
  extract_lets -underBinder +onlyGivenNames v20
  (clear_value v20; revert v20; refine Kept.seal ?_; intro v20)
  refine kept_ite ?_ ?_
  · exact h0
  · extract_lets -underBinder +onlyGivenNames v21
    (clear_value v21; revert v21; refine Kept.seal ?_; intro v21)
    extract_lets -underBinder +onlyGivenNames v22
    have h23 : Kept M s0 v22 := by
      unfold v22
      refine kept_setVblock (hm.sub rfl) ?_
      exact h0
    (clear_value v22; revert v22; refine Kept.seal ?_; intro v22 h23)
    extract_lets -underBinder +onlyGivenNames v24
    have h25 : Kept M s0 v24 := by
      unfold v24
      refine Kept.addF (hm.bit 1 rfl) (reach_VLT_CH_TALLY (hm.bit 180 rfl)) ?_
      exact h23
    (clear_value v24; revert v24; refine Kept.seal ?_; intro v24 h25)
    extract_lets -underBinder +onlyGivenNames v26
    (clear_value v26; revert v26; refine Kept.seal ?_; intro v26)
    extract_lets -underBinder +onlyGivenNames v27
    have h28 : Kept M s0 v27 := by
      unfold v27
      refine kept_ledger (hm.sub rfl) ?_
      exact h25
    (clear_value v27; revert v27; refine Kept.seal ?_; intro v27 h28)
    refine kept_vaultWear (hm.sub rfl) ?_
    refine kept_moveSegs (hm.sub rfl) ?_
    exact h28

theorem kept_vaultPatrol {s : State} {p : ℕ} {env : VaultEnv} (hm : Within 0x7009000000000000010700000000000000000109a00140202 M) (h0 : Kept M s0 s) :
    Kept M s0 (State.vaultPatrol s p env) := by
  unfold State.vaultPatrol
  refine kept_foldl ?_ ?_
  · intro y20 y21 h22
    refine KeptP.st ?_
    refine kept_readVault (hm.sub rfl) ?_
    exact h22
  · exact h0

theorem kept_fenceVch {s : State} {n : Fin 32} {code : ℕ} {ce : ℕ} (hm : Within 0x7000800000000000010700000000000000000109a00040202 M) (h0 : Kept M s0 s) :
    Kept M s0 (State.fenceVch s n code ce) := by
  unfold State.fenceVch
  refine kept_ledger (hm.sub rfl) ?_
  refine Kept.setF (hm.bit 1 rfl) (reach_VLT_CH_STS (hm.bit 179 rfl)) ?_
  exact h0

theorem kept_ckptResult {s : State} {i : ℕ} {op : ℕ} {result : ℕ} (hm : Within 0x100000000000000000000000000000000000000000002 M) (h0 : Kept M s0 s) :
    Kept M s0 (State.ckptResult s i op result) := by
  unfold State.ckptResult
  refine Kept.setF (hm.bit 1 rfl) (reach_VLT_CKPT_CMD (hm.bit 176 rfl)) ?_
  refine Kept.setF (hm.bit 1 rfl) (reach_VLT_CKPT_CMD (hm.bit 176 rfl)) ?_
  refine Kept.setF (hm.bit 1 rfl) (reach_VLT_CKPT_CMD (hm.bit 176 rfl)) ?_
  refine Kept.setF (hm.bit 1 rfl) (reach_VLT_CKPT_CMD (hm.bit 176 rfl)) ?_
  exact h0

theorem kept_ckptArm {s : State} {i : ℕ} (hm : Within 0x8100000000000000000000000000000000000000100002 M) (h0 : Kept M s0 s) :
    Kept M s0 (State.ckptArm s i) := by
  unfold State.ckptArm
  refine kept_ite ?_ ?_
  · refine kept_ckptResult (hm.sub rfl) ?_
    exact h0
  · refine kept_ite ?_ ?_
    · refine kept_ckptResult (hm.sub rfl) ?_
      exact h0
    · refine kept_ckptResult (hm.sub rfl) ?_
      refine Kept.setF (hm.bit 1 rfl) (reach_VLT_CKPT_STS (hm.bit 183 rfl)) ?_
      refine kept_setCkpt (hm.sub rfl) ?_
      exact h0

theorem kept_ckptMark {s : State} {i : ℕ} (hm : Within 0x18100000000000000000000000000000000000000100002 M) (h0 : Kept M s0 s) :
    Kept M s0 (State.ckptMark s i) := by
  unfold State.ckptMark
  refine kept_ite ?_ ?_
  · refine kept_ckptResult (hm.sub rfl) ?_
    exact h0
  · refine kept_ite ?_ ?_
    · refine kept_ckptResult (hm.sub rfl) ?_
      exact h0
    · extract_lets -underBinder +onlyGivenNames v20
      (clear_value v20; revert v20; refine Kept.seal ?_; intro v20)
      extract_lets -underBinder +onlyGivenNames v21
      (clear_value v21; revert v21; refine Kept.seal ?_; intro v21)
      extract_lets -underBinder +onlyGivenNames v22
      have h23 : Kept M s0 v22 := by
        unfold v22
        refine kept_setCkpt (hm.sub rfl) ?_
        exact h0
      (clear_value v22; revert v22; refine Kept.seal ?_; intro v22 h23)
      refine kept_ckptResult (hm.sub rfl) ?_
      refine Kept.setF (hm.bit 1 rfl) (reach_VLT_CKPT_MARK (hm.bit 184 rfl)) ?_
      refine Kept.setF (hm.bit 1 rfl) (reach_VLT_CKPT_STS (hm.bit 183 rfl)) ?_
      exact h23

theorem kept_ckptClear {s : State} {i : ℕ} (hm : Within 0x8100000000000000000000000000000000000000100002 M) (h0 : Kept M s0 s) :
    Kept M s0 (State.ckptClear s i) := by
  unfold State.ckptClear
  refine kept_ite ?_ ?_
  · refine kept_ckptResult (hm.sub rfl) ?_
    exact h0
  · refine kept_ckptResult (hm.sub rfl) ?_
    refine Kept.setF (hm.bit 1 rfl) (reach_VLT_CKPT_STS (hm.bit 183 rfl)) ?_
    refine kept_setCkpt (hm.sub rfl) ?_
    exact h0

theorem kept_execVaultReadDone {id : ℕ} {env : VaultEnv} {s : State} (hm : Within 0x800720900000000000001670000000000000000018ba80141b02 M) (h0 : Kept M s0 s) :
    KeptE M s0 (execVaultReadDone id env s) := by
  unfold execVaultReadDone
  refine kepte_next ?_
  refine kept_underOpen (hm.sub rfl) ?_ ?_
  · exact h0
  · intro y20 h21
    refine kept_vaultReadDone (hm.sub rfl) ?_
    exact h21

theorem kept_execVaultWriteDone {id : ℕ} {env : VaultEnv} {s : State} (hm : Within 0x800720900000000000001070000000000000000018ba80141b02 M) (h0 : Kept M s0 s) :
    KeptE M s0 (execVaultWriteDone id env s) := by
  unfold execVaultWriteDone
  refine kepte_next ?_
  refine kept_underOpen (hm.sub rfl) ?_ ?_
  · exact h0
  · intro y20 h21
    refine kept_vaultWriteDone (hm.sub rfl) ?_
    exact h21

theorem kept_execVaultMapFlush {c : Fin 8} {s : State} (hm : Within 0x800720800000000000001070000000000000000018ba80141a02 M) (h0 : Kept M s0 s) :
    KeptE M s0 (execVaultMapFlush c s) := by
  unfold execVaultMapFlush
  refine kepte_next ?_
  refine kept_vaultMapFlush (hm.sub rfl) ?_
  exact h0

theorem kept_execVaultPatrol {p : Fin 2147483648} {env : VaultEnv} {s : State} (hm : Within 0x7009000000000000010700000000000000000109a00140202 M) (h0 : Kept M s0 s) :
    KeptE M s0 (execVaultPatrol p env s) := by
  unfold execVaultPatrol
  refine kepte_next ?_
  refine kept_vaultPatrol (hm.sub rfl) ?_
  exact h0

theorem kept_execGarbageCollection {c : Fin 8} {places : List VPlace} {s : State} (hm : Within 0x1800000000000000000000000000000000000000100002 M) (h0 : Kept M s0 s) :
    KeptE M s0 (execGarbageCollection c places s) := by
  unfold execGarbageCollection
  refine kepte_next ?_
  refine kept_garbageCollect (hm.sub rfl) ?_
  exact h0

theorem kept_execStaticLevelling {ch : Fin 32} {ce : Fin 8} {places : List VPlace} {s : State} (hm : Within 0x1000000000000000000000000000000000000000100002 M) (h0 : Kept M s0 s) :
    KeptE M s0 (execStaticLevelling ch ce places s) := by
  unfold execStaticLevelling
  refine kepte_next ?_
  refine kept_levelTarget (hm.sub rfl) ?_
  exact h0

theorem kept_execVaultProgram {x : VPlace} {places : List VPlace} {s : State} (hm : Within 0x7001400000000000010700000000000000000109a00140202 M) (h0 : Kept M s0 s) :
    KeptE M s0 (execVaultProgram x places s) := by
  unfold execVaultProgram
  refine kepte_next ?_
  refine kept_vaultProgramFail (hm.sub rfl) ?_
  exact h0

theorem kept_execCkptArm {i : Fin 64} {s : State} (hm : Within 0x8100000000000000000000000000000000000000100002 M) (h0 : Kept M s0 s) :
    KeptE M s0 (execCkptArm i s) := by
  unfold execCkptArm
  refine kepte_next ?_
  refine kept_ckptArm (hm.sub rfl) ?_
  exact h0

theorem kept_execCkptMark {i : Fin 64} {s : State} (hm : Within 0x18100000000000000000000000000000000000000100002 M) (h0 : Kept M s0 s) :
    KeptE M s0 (execCkptMark i s) := by
  unfold execCkptMark
  refine kepte_next ?_
  refine kept_ckptMark (hm.sub rfl) ?_
  exact h0

theorem kept_execCkptClear {i : Fin 64} {s : State} (hm : Within 0x8100000000000000000000000000000000000000100002 M) (h0 : Kept M s0 s) :
    KeptE M s0 (execCkptClear i s) := by
  unfold execCkptClear
  refine kepte_next ?_
  refine kept_ckptClear (hm.sub rfl) ?_
  exact h0

end Sys2Proof.Machine
end

