-- ==== Sys2Proof/Laws/Kept/Ranges.lean ====
section
/-! SUPPORT. What the operations of Ranges may write: each keeps its footprint. -/

namespace Sys2Proof.Machine

variable {M : Nat} {s0 : State}

theorem kept_readPlainAny {s : State} {a : PA} {n : ℕ} {op : ℕ} {tag : Tag} (hm : Within 0x7000020207000000190700000000000000000109a000e0236 M) (h0 : Kept M s0 s) :
    KeptP M s0 (State.readPlainAny s a n op tag) := by
  unfold State.readPlainAny
  extract_lets -underBinder +onlyGivenNames v20
  have h21 : KeptP M s0 v20 := by
    unfold v20
    refine kept_readRange (hm.sub rfl) ?_
    exact h0
  (clear_value v20; revert v20; refine Kept.seal ?_; intro v20 h21)
  refine Kept.pair ?_
  exact (KeptP.st h21)

theorem kept_readTileAny {s : State} {r : Region} {a : PA} {n : ℕ} {k : Consumer} {cacheDie : Option ℕ} (hm : Within 0x700002020700c000191700000000000000000189a00ce027e M) (h0 : Kept M s0 s) :
    KeptP M s0 (State.readTileAny s r a n k cacheDie) := by
  unfold State.readTileAny
  extract_lets -underBinder +onlyGivenNames v20
  (clear_value v20; revert v20; refine Kept.seal ?_; intro v20)
  extract_lets -underBinder +onlyGivenNames v21
  (clear_value v21; revert v21; refine Kept.seal ?_; intro v21)
  (generalize q23 : (s.decodeTile v20 k cacheDie) = x22; revert x22; refine Kept.seal ?_; intro x22 q23)
  have h24 : KeptP M s0 x22 := by
    rw [← q23]
    refine kept_decodeTile (hm.sub rfl) ?_
    exact h0
  split
  · rename_i w25 w26 w27 w28 w29 w30
    extract_lets -underBinder +onlyGivenNames v31
    (clear_value v31; revert v31; refine Kept.seal ?_; intro v31)
    refine Kept.pair ?_
    exact (KeptP.st h24)
  · rename_i w32 w33
    refine Kept.pair ?_
    exact (KeptP.st h24)
  · rename_i w34 w35 w36
    refine Kept.pair ?_
    exact (KeptP.st h24)
  · rename_i w37 w38 w39
    refine Kept.pair ?_
    exact (KeptP.st h24)

theorem kept_readPiece4K {s : State} {a : PA} {n : ℕ} {k : Consumer} {env : VaultEnv} {cacheDie : Option ℕ} (hm : Within 0x700902020700c000191700000000000000000189a00de027e M) (h0 : Kept M s0 s) :
    KeptP M s0 (State.readPiece4K s a n k env cacheDie) := by
  unfold State.readPiece4K
  refine keptp_ite ?_ ?_
  · refine Kept.pair ?_
    exact h0
  · refine keptp_ite ?_ ?_
    · extract_lets -underBinder +onlyGivenNames v20
      have h21 : KeptP M s0 v20 := by
        unfold v20
        refine kept_readVault (hm.sub rfl) ?_
        exact h0
      (clear_value v20; revert v20; refine Kept.seal ?_; intro v20 h21)
      extract_lets -underBinder +onlyGivenNames v22
      (clear_value v22; revert v22; refine Kept.seal ?_; intro v22)
      extract_lets -underBinder +onlyGivenNames v23
      (clear_value v23; revert v23; refine Kept.seal ?_; intro v23)
      extract_lets -underBinder +onlyGivenNames v24
      (clear_value v24; revert v24; refine Kept.seal ?_; intro v24)
      refine Kept.pair ?_
      exact (KeptP.st h21)
    · (generalize q26 : (s.packedAt (Sys2Proof.Machine.spaceOf a) (Sys2Proof.Machine.pageOf a)) = x25; revert x25; refine Kept.seal ?_; intro x25 q26)
      split
      · rename_i w27 w28
        refine kept_readTileAny (hm.sub rfl) ?_
        exact h0
      · rename_i w29
        refine kept_readPlainAny (hm.sub rfl) ?_
        exact h0

theorem kept_readAny {s : State} {a : PA} {n : ℕ} {k : Consumer} {env : VaultEnv} {cacheDie : Option ℕ} (hm : Within 0x700902020700c000191700000000000000000189a00de027e M) (h0 : Kept M s0 s) :
    KeptP M s0 (State.readAny s a n k env cacheDie) := by
  unfold State.readAny
  refine keptp_foldl ?_ ?_
  · intro y20 y21 h22
    extract_lets -underBinder +onlyGivenNames v23
    have h24 : KeptP M s0 v23 := by
      unfold v23
      refine kept_readPiece4K (hm.sub rfl) ?_
      exact (KeptP.st h22)
    (clear_value v23; revert v23; refine Kept.seal ?_; intro v23 h24)
    refine Kept.pair ?_
    exact (KeptP.st h24)
  · refine Kept.pair ?_
    exact h0

theorem kept_readWaits {s : State} {r : AnyRead} {tag : Tag} {op : ℕ} (hm : Within 0x40000 M) (h0 : Kept M s0 s) :
    Kept M s0 (State.readWaits s r tag op) := by
  unfold State.readWaits
  (generalize q21 : (r.repair) = x20; revert x20; refine Kept.seal ?_; intro x20 q21)
  split
  · rename_i w22 w23
    refine kept_startRepair (hm.sub rfl) ?_
    exact h0
  · rename_i w24
    exact h0

theorem kept_readStoredAny {s : State} {a : PA} {tiles : ℕ} {k : Consumer} (hm : Within 0x7000020207000000191700000000000000000189a000e027e M) (h0 : Kept M s0 s) :
    KeptP M s0 (State.readStoredAny s a tiles k) := by
  unfold State.readStoredAny
  extract_lets -underBinder +onlyGivenNames v20
  (clear_value v20; revert v20; refine Kept.seal ?_; intro v20)
  extract_lets -underBinder +onlyGivenNames v21
  have h22 : KeptP M s0 v21 := by
    unfold v21
    refine keptp_foldl ?_ ?_
    · intro y23 y24 h25
      extract_lets -underBinder +onlyGivenNames v26
      (clear_value v26; revert v26; refine Kept.seal ?_; intro v26)
      split
      rename_i w27 w28 w29 w30
      extract_lets -underBinder +onlyGivenNames v31
      (clear_value v31; revert v31; refine Kept.seal ?_; intro v31)
      extract_lets -underBinder +onlyGivenNames v32
      have h33 : ∀ c_0 c_1 c_2 c_3, Kept M s0 c_0 → KeptP M s0 (v32 c_0 c_1 c_2 c_3) := by
        unfold v32
        intro y34 y35 y36 y37 h38
        extract_lets -underBinder +onlyGivenNames v39
        (clear_value v39; revert v39; refine Kept.seal ?_; intro v39)
        refine Kept.pair ?_
        exact h38
      (clear_value v32; revert v32; refine Kept.seal ?_; intro v32 h33)
      (generalize q41 : (w28.packedAt (Sys2Proof.Machine.spaceOf v26) (Sys2Proof.Machine.pageOf v26)) = x40; revert x40; refine Kept.seal ?_; intro x40 q41)
      split
      · rename_i w42
        exact h25
      · rename_i w43 w44
        (generalize q46 : (w28.storedTile (Sys2Proof.Machine.tileAt w44 v26) k) = x45; revert x45; refine Kept.seal ?_; intro x45 q46)
        have h47 : KeptP M s0 x45 := by
          rw [← q46]
          refine kept_storedTile (hm.sub rfl) ?_
          exact (KeptP.st h25)
        split
        · rename_i w48 w49 w50 w51 w52
          refine h33 _ _ _ _ ?_
          exact (KeptP.st h47)
        · rename_i w53 w54
          refine h33 _ _ _ _ ?_
          exact (KeptP.st h47)
        · rename_i w55 w56 w57
          refine Kept.pair ?_
          exact (KeptP.st h47)
    · refine Kept.pair ?_
      exact h0
  (clear_value v21; revert v21; refine Kept.seal ?_; intro v21 h22)
  refine Kept.pair ?_
  exact (KeptP.st h22)

theorem kept_writeAny {s : State} {a : PA} {bs : Bytes} {bad : List ℕ} {tag : Tag} {places : List VPlace} (hm : Within 0x2000000000007009020207000000190700000000000000000109a101e027e M) (h0 : Kept M s0 s) :
    KeptO M s0 (State.writeAny s a bs bad tag places) := by
  unfold State.writeAny
  refine kepto_ite ?_ ?_
  · refine kepto_ite ?_ ?_
    · exact kepto_none
    · refine kepto_foldl ?_ ?_
      · intro y20 y21 h22
        split
        · rename_i w23
          exact h22
        · rename_i w24 w25
          extract_lets -underBinder +onlyGivenNames v26
          have h27 : Kept M s0 v26 := by
            unfold v26
            refine kept_ckptDestAccept (hm.sub rfl) ?_
            exact (KeptO.get rfl h22)
          (clear_value v26; revert v26; refine Kept.seal ?_; intro v26 h27)
          extract_lets -underBinder +onlyGivenNames v28
          (clear_value v28; revert v28; refine Kept.seal ?_; intro v28)
          refine kepto_mapq ?_ ?_
          · refine kept_writeVault (hm.sub rfl) ?_
            exact h27
          · intro y29 h30
            exact (KeptP.st h30)
      · refine kepto_some ?_
        exact h0
  · extract_lets -underBinder +onlyGivenNames v31
    have h32 : Kept M s0 v31 := by
      unfold v31
      refine kept_writeRange (hm.sub rfl) ?_
      exact h0
    (clear_value v31; revert v31; refine Kept.seal ?_; intro v31 h32)
    refine kepto_some ?_
    refine kept_forEach ?_ ?_
    · intro y33 y34 h35
      refine kept_poisonPool (hm.sub rfl) ?_
      exact h35
    · exact h32

end Sys2Proof.Machine
end

