-- ==== Sys2Proof/Laws/Kept/Slots.lean ====
section
/-! SUPPORT. What the operations of Slots may write: each keeps its footprint. -/

namespace Sys2Proof.Machine

variable {M : Nat} {s0 : State}

theorem kept_setTables {s : State} {i : ℕ} {bs : Bytes} (hm : Within 0x100000000000000000000000000000000000002 M) (h0 : Kept M s0 s) :
    Kept M s0 (State.setTables s i bs) := by
  unfold State.setTables
  refine kept_forEach ?_ ?_
  · intro y20 y21 h22
    refine Kept.setReg (hm.bit 1 rfl) (reach_MNT_SLOT_TAB (hm.bit 152 rfl)) ?_
    exact h22
  · exact h0

theorem kept_beginInstall {s : State} {x : SlotInstall} (hm : Within 0x80000000000000000000000000000000200002 M) (h0 : Kept M s0 s) :
    Kept M s0 (State.beginInstall s x) := by
  unfold State.beginInstall
  extract_lets -underBinder +onlyGivenNames v20
  have h21 : Kept M s0 v20 := by
    unfold v20
    refine Kept.setF (hm.bit 1 rfl) (reach_MNT_SLOT_INFO (hm.bit 151 rfl)) ?_
    exact h0
  (clear_value v20; revert v20; refine Kept.seal ?_; intro v20 h21)
  refine Kept.in_installs (hm.bit 21 rfl) ?_
  exact h21

theorem kept_endInstall {s : State} {x : SlotInstall} (hm : Within 0x180000000000000000000000000000100200002 M) (h0 : Kept M s0 s) :
    Kept M s0 (State.endInstall s x) := by
  unfold State.endInstall
  extract_lets -underBinder +onlyGivenNames v20
  extract_lets -underBinder +onlyGivenNames v21
  have h22 : Kept M s0 v21 := by
    unfold v21
    refine Kept.in_installs (x := { s with mint := { jobs := v20.jobs, drainSets := List.filter (fun d ↦ d.1 != x.slot) s.mint.drainSets, alloc := v20.alloc, leaks := v20.leaks } }) (hm.bit 21 rfl) ?_
    refine Kept.in_mint (hm.bit 32 rfl) ?_ (Kept.seal)
    exact h0
  (clear_value v21; revert v21; refine Kept.seal ?_; intro v21 h22)
  extract_lets -underBinder +onlyGivenNames v23
  have h24 : Kept M s0 v23 := by
    unfold v23
    refine kept_setTables (hm.sub rfl) ?_
    exact h22
  (clear_value v23; revert v23; refine Kept.seal ?_; intro v23 h24)
  extract_lets -underBinder +onlyGivenNames v25
  have h26 : Kept M s0 v25 := by
    unfold v25
    refine Kept.setF (hm.bit 1 rfl) (reach_MNT_SLOT_INFO (hm.bit 151 rfl)) ?_
    exact h24
  (clear_value v25; revert v25; refine Kept.seal ?_; intro v25 h26)
  extract_lets -underBinder +onlyGivenNames v27
  have h28 : Kept M s0 v27 := by
    unfold v27
    refine Kept.setF (hm.bit 1 rfl) (reach_MNT_SLOT_INFO (hm.bit 151 rfl)) ?_
    exact h26
  (clear_value v27; revert v27; refine Kept.seal ?_; intro v27 h28)
  extract_lets -underBinder +onlyGivenNames v29
  have h30 : Kept M s0 v29 := by
    unfold v29
    refine Kept.setF (hm.bit 1 rfl) (reach_MNT_SLOT_INFO (hm.bit 151 rfl)) ?_
    exact h28
  (clear_value v29; revert v29; refine Kept.seal ?_; intro v29 h30)
  extract_lets -underBinder +onlyGivenNames v31
  have h32 : Kept M s0 v31 := by
    unfold v31
    refine Kept.setF (hm.bit 1 rfl) (reach_MNT_SLOT_INFO (hm.bit 151 rfl)) ?_
    exact h30
  (clear_value v31; revert v31; refine Kept.seal ?_; intro v31 h32)
  extract_lets -underBinder +onlyGivenNames v33
  have h34 : Kept M s0 v33 := by
    unfold v33
    (generalize q36 : (x.lock) = x35; revert x35; refine Kept.seal ?_; intro x35 q36)
    split
    · rename_i w37 w38
      refine Kept.setF (hm.bit 1 rfl) (reach_MNT_SLOT_INFO (hm.bit 151 rfl)) ?_
      exact h32
    · rename_i w39
      exact h32
  (clear_value v33; revert v33; refine Kept.seal ?_; intro v33 h34)
  refine Kept.setF (hm.bit 1 rfl) (reach_MNT_SLOT_INFO (hm.bit 151 rfl)) ?_
  exact h34

theorem kept_slotCmdDone {s : State} {i : ℕ} {op : ℕ} (hm : Within 0x60000000000000000000000000000000000002 M) (h0 : Kept M s0 s) :
    Kept M s0 (State.slotCmdDone s i op) := by
  unfold State.slotCmdDone
  refine Kept.setF (hm.bit 1 rfl) (reach_MNT_SLOT_RESULT (hm.bit 150 rfl)) ?_
  refine Kept.setF (hm.bit 1 rfl) (reach_MNT_SLOT_CMD (hm.bit 149 rfl)) ?_
  refine Kept.setF (hm.bit 1 rfl) (reach_MNT_SLOT_CMD (hm.bit 149 rfl)) ?_
  refine Kept.setF (hm.bit 1 rfl) (reach_MNT_SLOT_CMD (hm.bit 149 rfl)) ?_
  exact h0

theorem kept_slotRefuse {s : State} {i : ℕ} {op : ℕ} {code : ℕ} (hm : Within 0x7000000000060400010700000000000000000109a00040202 M) (h0 : Kept M s0 s) :
    Kept M s0 (State.slotRefuse s i op code) := by
  unfold State.slotRefuse
  extract_lets -underBinder +onlyGivenNames v20
  have h21 : Kept M s0 v20 := by
    unfold v20
    refine Kept.setF (hm.bit 1 rfl) (reach_MNT_SLOT_RESULT (hm.bit 150 rfl)) ?_
    refine kept_slotCmdDone (hm.sub rfl) ?_
    exact h0
  (clear_value v20; revert v20; refine Kept.seal ?_; intro v20 h21)
  refine kept_ledger (hm.sub rfl) ?_
  refine Kept.setF (hm.bit 1 rfl) (reach_MNT_STATUS (hm.bit 142 rfl)) ?_
  exact h21

theorem kept_slotLock {s : State} {i : ℕ} (hm : Within 0x70000000000e0400010700000000000000000109a00040202 M) (h0 : Kept M s0 s) :
    Kept M s0 (State.slotLock s i) := by
  unfold State.slotLock
  refine kept_ite ?_ ?_
  · refine kept_slotRefuse (hm.sub rfl) ?_
    exact h0
  · refine kept_slotCmdDone (hm.sub rfl) ?_
    refine Kept.setF (hm.bit 1 rfl) (reach_MNT_SLOT_INFO (hm.bit 151 rfl)) ?_
    exact h0

theorem kept_slotUnlock {s : State} {i : ℕ} (hm : Within 0xe0000000000000000000000000000000000002 M) (h0 : Kept M s0 s) :
    Kept M s0 (State.slotUnlock s i) := by
  unfold State.slotUnlock
  refine kept_slotCmdDone (hm.sub rfl) ?_
  refine Kept.setF (hm.bit 1 rfl) (reach_MNT_SLOT_INFO (hm.bit 151 rfl)) ?_
  exact h0

theorem kept_slotRetire {s : State} {i : ℕ} (hm : Within 0x70000000000e0400010700000000000000000109b00040202 M) (h0 : Kept M s0 s) :
    Kept M s0 (State.slotRetire s i) := by
  unfold State.slotRetire
  refine kept_ite ?_ ?_
  · refine kept_slotRefuse (hm.sub rfl) ?_
    exact h0
  · extract_lets -underBinder +onlyGivenNames v20
    (clear_value v20; revert v20; refine Kept.seal ?_; intro v20)
    extract_lets -underBinder +onlyGivenNames v21
    have h22 : Kept M s0 v21 := by
      unfold v21
      refine Kept.setF (hm.bit 1 rfl) (reach_MNT_SLOT_INFO (hm.bit 151 rfl)) ?_
      exact h0
    (clear_value v21; revert v21; refine Kept.seal ?_; intro v21 h22)
    refine kept_slotCmdDone (hm.sub rfl) ?_
    refine Kept.in_mint (hm.bit 32 rfl) ?_ (Kept.seal)
    exact h22

theorem kept_slotActivate {s : State} {i : ℕ} (hm : Within 0x70000000000e0400010700000000000000000109b00040202 M) (h0 : Kept M s0 s) :
    Kept M s0 (State.slotActivate s i) := by
  unfold State.slotActivate
  refine kept_ite ?_ ?_
  · extract_lets -underBinder +onlyGivenNames v20
    have h21 : Kept M s0 v20 := by
      unfold v20
      refine Kept.setF (hm.bit 1 rfl) (reach_MNT_SLOT_INFO (hm.bit 151 rfl)) ?_
      exact h0
    (clear_value v20; revert v20; refine Kept.seal ?_; intro v20 h21)
    refine kept_slotCmdDone (hm.sub rfl) ?_
    refine Kept.in_mint (hm.bit 32 rfl) ?_ (Kept.seal)
    exact h21
  · refine kept_slotRefuse (hm.sub rfl) ?_
    exact h0

theorem kept_slotInstall {s : State} {i : ℕ} {planes : ℕ} {xor : Bool} (hm : Within 0x70000000000e0400010700000000000000000109a00240202 M) (h0 : Kept M s0 s) :
    Kept M s0 (State.slotInstall s i planes xor) := by
  unfold State.slotInstall
  extract_lets -underBinder +onlyGivenNames v20
  have h21 : Kept M s0 v20 := by
    unfold v20
    refine Kept.setF (hm.bit 1 rfl) (reach_MNT_SLOT_CMD (hm.bit 149 rfl)) ?_
    refine Kept.setF (hm.bit 1 rfl) (reach_MNT_SLOT_CMD (hm.bit 149 rfl)) ?_
    exact h0
  (clear_value v20; revert v20; refine Kept.seal ?_; intro v20 h21)
  refine kept_ite ?_ ?_
  · refine kept_slotRefuse (hm.sub rfl) ?_
    exact h21
  · refine kept_ite ?_ ?_
    · refine kept_slotRefuse (hm.sub rfl) ?_
      exact h21
    · refine kept_ite ?_ ?_
      · refine kept_slotRefuse (hm.sub rfl) ?_
        exact h21
      · extract_lets -underBinder +onlyGivenNames v22
        have h23 : Kept M s0 v22 := by
          unfold v22
          refine kept_beginInstall (hm.sub rfl) ?_
          exact h21
        (clear_value v22; revert v22; refine Kept.seal ?_; intro v22 h23)
        refine Kept.setF (hm.bit 1 rfl) (reach_MNT_SLOT_CMD (hm.bit 149 rfl)) ?_
        refine kept_slotCmdDone (hm.sub rfl) ?_
        exact h23

theorem kept_slotClear {s : State} {i : ℕ} (hm : Within 0x70000000001e0400010700000000000000000109a00040202 M) (h0 : Kept M s0 s) :
    Kept M s0 (State.slotClear s i) := by
  unfold State.slotClear
  refine kept_ite ?_ ?_
  · refine kept_slotRefuse (hm.sub rfl) ?_
    exact h0
  · extract_lets -underBinder +onlyGivenNames v20
    have h21 : Kept M s0 v20 := by
      unfold v20
      refine Kept.setF (hm.bit 1 rfl) (reach_MNT_SLOT_INFO (hm.bit 151 rfl)) ?_
      refine kept_setTables (hm.sub rfl) ?_
      exact h0
    (clear_value v20; revert v20; refine Kept.seal ?_; intro v20 h21)
    refine kept_slotCmdDone (hm.sub rfl) ?_
    refine Kept.setF (hm.bit 1 rfl) (reach_MNT_SLOT_INFO (hm.bit 151 rfl)) ?_
    refine Kept.setF (hm.bit 1 rfl) (reach_MNT_SLOT_INFO (hm.bit 151 rfl)) ?_
    exact h21

theorem kept_installDone {s : State} {i : ℕ} (hm : Within 0x1a0000000000000000000000000000100200002 M) (h0 : Kept M s0 s) :
    Kept M s0 (State.installDone s i) := by
  unfold State.installDone
  (generalize q21 : (List.find? (fun x ↦ x.slot == i) s.installs) = x20; revert x20; refine Kept.seal ?_; intro x20 q21)
  split
  · rename_i w22 w23
    extract_lets -underBinder +onlyGivenNames v24
    have h25 : Kept M s0 v24 := by
      unfold v24
      refine kept_endInstall (hm.sub rfl) ?_
      exact h0
    (clear_value v24; revert v24; refine Kept.seal ?_; intro v24 h25)
    refine kept_ite ?_ ?_
    · refine Kept.setF (hm.bit 1 rfl) (reach_MNT_SLOT_CMD (hm.bit 149 rfl)) ?_
      exact h25
    · exact h25
  · rename_i w26
    exact h0

theorem kept_drainSetEmpty {s : State} {i : ℕ} (hm : Within 0x80000000000000000000000000000100000002 M) (h0 : Kept M s0 s) :
    Kept M s0 (State.drainSetEmpty s i) := by
  unfold State.drainSetEmpty
  (generalize q21 : (List.find? (fun d ↦ d.1 == i) s.mint.drainSets) = x20; revert x20; refine Kept.seal ?_; intro x20 q21)
  split
  · rename_i w22 w23
    extract_lets -underBinder +onlyGivenNames v24
    (clear_value v24; revert v24; refine Kept.seal ?_; intro v24)
    refine kept_ite ?_ ?_
    · exact h0
    · extract_lets -underBinder +onlyGivenNames v25
      have h26 : Kept M s0 v25 := by
        unfold v25
        refine Kept.setF (hm.bit 1 rfl) (reach_MNT_SLOT_INFO (hm.bit 151 rfl)) ?_
        exact h0
      (clear_value v25; revert v25; refine Kept.seal ?_; intro v25 h26)
      refine Kept.in_mint (hm.bit 32 rfl) ?_ (Kept.seal)
      exact h26
  · rename_i w27
    exact h0

theorem kept_execSlotLock {i : Fin 64} {s : State} (hm : Within 0x70000000000e0400010700000000000000000109a00040202 M) (h0 : Kept M s0 s) :
    KeptE M s0 (execSlotLock i s) := by
  unfold execSlotLock
  refine kepte_next ?_
  refine kept_slotLock (hm.sub rfl) ?_
  exact h0

theorem kept_execSlotUnlock {i : Fin 64} {s : State} (hm : Within 0xe0000000000000000000000000000000000002 M) (h0 : Kept M s0 s) :
    KeptE M s0 (execSlotUnlock i s) := by
  unfold execSlotUnlock
  refine kepte_next ?_
  refine kept_slotUnlock (hm.sub rfl) ?_
  exact h0

theorem kept_execSlotRetire {i : Fin 64} {s : State} (hm : Within 0x70000000000e0400010700000000000000000109b00040202 M) (h0 : Kept M s0 s) :
    KeptE M s0 (execSlotRetire i s) := by
  unfold execSlotRetire
  refine kepte_next ?_
  refine kept_slotRetire (hm.sub rfl) ?_
  exact h0

theorem kept_execSlotActivate {i : Fin 64} {s : State} (hm : Within 0x70000000000e0400010700000000000000000109b00040202 M) (h0 : Kept M s0 s) :
    KeptE M s0 (execSlotActivate i s) := by
  unfold execSlotActivate
  refine kepte_next ?_
  refine kept_slotActivate (hm.sub rfl) ?_
  exact h0

theorem kept_execSlotInstall {i : Fin 64} {planes : Fin 8} {xor : Bool} {s : State} (hm : Within 0x70000000000e0400010700000000000000000109a00240202 M) (h0 : Kept M s0 s) :
    KeptE M s0 (execSlotInstall i planes xor s) := by
  unfold execSlotInstall
  refine kepte_next ?_
  refine kept_slotInstall (hm.sub rfl) ?_
  exact h0

theorem kept_execSlotClear {i : Fin 64} {s : State} (hm : Within 0x70000000001e0400010700000000000000000109a00040202 M) (h0 : Kept M s0 s) :
    KeptE M s0 (execSlotClear i s) := by
  unfold execSlotClear
  refine kepte_next ?_
  refine kept_slotClear (hm.sub rfl) ?_
  exact h0

theorem kept_execSlotCmdReserved {i : Fin 64} {seven : Bool} {s : State} (hm : Within 0x7000000000060400010700000000000000000109a00040202 M) (h0 : Kept M s0 s) :
    KeptE M s0 (execSlotCmdReserved i seven s) := by
  unfold execSlotCmdReserved
  refine kepte_next ?_
  refine kept_slotRefuse (hm.sub rfl) ?_
  exact h0

theorem kept_execSlotInstallDone {i : Fin 64} {s : State} (hm : Within 0x1a0000000000000000000000000000100200002 M) (h0 : Kept M s0 s) :
    KeptE M s0 (execSlotInstallDone i s) := by
  unfold execSlotInstallDone
  refine kepte_next ?_
  refine kept_installDone (hm.sub rfl) ?_
  exact h0

theorem kept_execDrainSetEmpty {i : Fin 64} {s : State} (hm : Within 0x80000000000000000000000000000100000002 M) (h0 : Kept M s0 s) :
    KeptE M s0 (execDrainSetEmpty i s) := by
  unfold execDrainSetEmpty
  refine kepte_next ?_
  refine kept_drainSetEmpty (hm.sub rfl) ?_
  exact h0

end Sys2Proof.Machine
end

