-- ==== Sys2Proof/Laws/Kept/Mint.lean ====
section
/-! SUPPORT. What the operations of Mint may write: each keeps its footprint. -/

namespace Sys2Proof.Machine

variable {M : Nat} {s0 : State}

theorem kept_replaceDir {s : State} {x : TileRef} {old : DirEntry} {new : DirEntry} {tag : Tag} (hm : Within 0x2000000000007008020207080000190700000000000000000109b10de027e M) (h0 : Kept M s0 s) :
    Kept M s0 (State.replaceDir s x old new tag) := by
  unfold State.replaceDir
  extract_lets -underBinder +onlyGivenNames v20
  (clear_value v20; revert v20; refine Kept.seal ?_; intro v20)
  extract_lets -underBinder +onlyGivenNames v21
  (clear_value v21; revert v21; refine Kept.seal ?_; intro v21)
  extract_lets -underBinder +onlyGivenNames v22
  extract_lets -underBinder +onlyGivenNames v23
  have h24 : Kept M s0 v23 := by
    unfold v23
    refine Kept.in_mint (hm.bit 32 rfl) ?_ (Sparse.wf_put)
    exact h0
  (clear_value v23; revert v23; refine Kept.seal ?_; intro v23 h24)
  refine kept_baseInvalidate (hm.sub rfl) ?_
  refine kept_writeDir (hm.sub rfl) ?_
  refine kept_slotCount (hm.sub rfl) ?_
  refine kept_slotCount (hm.sub rfl) ?_
  exact h24

theorem kept_writeStored {s : State} {x : TileRef} {loc : ℕ} {st : Bytes} {tag : Tag} (hm : Within 0x2000000000007008020207000000190700000000000000000109a101e027e M) (h0 : Kept M s0 s) :
    Kept M s0 (State.writeStored s x loc st tag) := by
  unfold State.writeStored
  extract_lets -underBinder +onlyGivenNames v20
  (clear_value v20; revert v20; refine Kept.seal ?_; intro v20)
  extract_lets -underBinder +onlyGivenNames v21
  (clear_value v21; revert v21; refine Kept.seal ?_; intro v21)
  extract_lets -underBinder +onlyGivenNames v22
  (clear_value v22; revert v22; refine Kept.seal ?_; intro v22)
  extract_lets -underBinder +onlyGivenNames v23
  have h24 : Kept M s0 v23 := by
    unfold v23
    refine kept_ite ?_ ?_
    · refine kept_flipDone (hm.sub rfl) ?_
      exact h0
    · exact h0
  (clear_value v23; revert v23; refine Kept.seal ?_; intro v23 h24)
  extract_lets -underBinder +onlyGivenNames v25
  have h26 : Kept M s0 v25 := by
    unfold v25
    refine kept_forEach ?_ ?_
    · intro y27 y28 h29
      refine kept_writeRange (hm.sub rfl) ?_
      exact h29
    · exact h24
  (clear_value v25; revert v25; refine Kept.seal ?_; intro v25 h26)
  refine kept_ite ?_ ?_
  · refine kept_injectAt (hm.sub rfl) ?_
    refine kept_injectAt (hm.sub rfl) ?_
    exact h26
  · exact h26

theorem kept_mintError {s : State} {e : Event} (hm : Within 0x7000000000000400010700000000000000000109a00040202 M) (h0 : Kept M s0 s) :
    Kept M s0 (State.mintError s e) := by
  unfold State.mintError
  refine kept_ledger (hm.sub rfl) ?_
  refine Kept.setF (hm.bit 1 rfl) (reach_MNT_STATUS (hm.bit 142 rfl)) ?_
  exact h0

theorem kept_setJob {s : State} {j : MintJob} (hm : Within 0x100000000 M) (h0 : Kept M s0 s) :
    Kept M s0 (State.setJob s j) := by
  unfold State.setJob
  refine Kept.in_mint (hm.bit 32 rfl) ?_ (Kept.seal)
  exact h0

theorem kept_jobEnd {s : State} {j : MintJob} {done : ℕ} {code : ℕ} (hm : Within 0x8000002000000000007208020207080400190700000000000000000109b101e0a7e M) (h0 : Kept M s0 s) :
    Kept M s0 (State.jobEnd s j done code) := by
  unfold State.jobEnd
  extract_lets -underBinder +onlyGivenNames v20
  (clear_value v20; revert v20; refine Kept.seal ?_; intro v20)
  extract_lets -underBinder +onlyGivenNames v21
  have h22 : Kept M s0 v21 := by
    unfold v21
    refine kept_writeRange (hm.sub rfl) ?_
    exact h0
  (clear_value v21; revert v21; refine Kept.seal ?_; intro v21 h22)
  extract_lets -underBinder +onlyGivenNames v23
  extract_lets -underBinder +onlyGivenNames v24
  have h25 : Kept M s0 v24 := by
    unfold v24
    refine Kept.in_mint (hm.bit 32 rfl) ?_ (Kept.seal)
    exact h22
  (clear_value v24; revert v24; refine Kept.seal ?_; intro v24 h25)
  extract_lets -underBinder +onlyGivenNames v26
  have h27 : Kept M s0 v26 := by
    unfold v26
    (generalize q29 : (j.slot) = x28; revert x28; refine Kept.seal ?_; intro x28 q29)
    split
    · rename_i w30 w31
      refine Kept.setF (hm.bit 1 rfl) (reach_MNT_SLOT_INFO (hm.bit 151 rfl)) ?_
      exact h25
    · rename_i w32
      exact h25
  (clear_value v26; revert v26; refine Kept.seal ?_; intro v26 h27)
  extract_lets -underBinder +onlyGivenNames v33
  have h34 : Kept M s0 v33 := by
    unfold v33
    refine Kept.setF (hm.bit 1 rfl) (reach_MNT_STATUS (hm.bit 142 rfl)) ?_
    exact h27
  (clear_value v33; revert v33; refine Kept.seal ?_; intro v33 h34)
  refine kept_ite ?_ ?_
  · extract_lets -underBinder +onlyGivenNames v35
    have h36 : Kept M s0 v35 := by
      unfold v35
      refine kept_doneEvent (hm.sub rfl) ?_
      exact h34
    (clear_value v35; revert v35; refine Kept.seal ?_; intro v35 h36)
    refine kept_ite ?_ ?_
    · exact h36
    · refine kept_sendNotice (hm.sub rfl) ?_
      exact h36
  · exact h34

theorem kept_jobHeadNext {s : State} (hm : Within 0x200000000000000000000000000000000002 M) (h0 : Kept M s0 s) :
    Kept M s0 (State.jobHeadNext s) := by
  unfold State.jobHeadNext
  refine Kept.addF (hm.bit 1 rfl) (reach_MNT_JQ_HEAD (hm.bit 141 rfl)) ?_
  exact h0

theorem kept_mintFetch {s : State} (hm : Within 0x800000200000000000720902020708c680191700000000000000000189b10de2a7e M) (h0 : Kept M s0 s) :
    Kept M s0 (State.mintFetch s) := by
  unfold State.mintFetch
  extract_lets -underBinder +onlyGivenNames v20
  (clear_value v20; revert v20; refine Kept.seal ?_; intro v20)
  extract_lets -underBinder +onlyGivenNames v21
  (clear_value v21; revert v21; refine Kept.seal ?_; intro v21)
  refine kept_ite ?_ ?_
  · exact h0
  · refine kept_ite ?_ ?_
    · refine kept_mintError (hm.sub rfl) ?_
      refine Kept.setF (hm.bit 1 rfl) (reach_MNT_JQ_CFG (hm.bit 139 rfl)) ?_
      exact h0
    · extract_lets -underBinder +onlyGivenNames v22
      have h23 : KeptP M s0 v22 := by
        unfold v22
        refine kept_readAny (hm.sub rfl) ?_
        exact h0
      (clear_value v22; revert v22; refine Kept.seal ?_; intro v22 h23)
      refine kept_ite ?_ ?_
      · refine kept_readWaits (hm.sub rfl) ?_
        exact (KeptP.st h23)
      · extract_lets -underBinder +onlyGivenNames v24
        (clear_value v24; revert v24; refine Kept.seal ?_; intro v24)
        extract_lets -underBinder +onlyGivenNames v25
        have h26 : Kept M s0 v25 := by
          unfold v25
          refine kept_nextReq (hm.sub rfl) ?_
          exact (KeptP.st h23)
        (clear_value v25; revert v25; refine Kept.seal ?_; intro v25 h26)
        refine kept_ite ?_ ?_
        · refine Kept.in_mint (hm.bit 32 rfl) ?_ (Kept.seal)
          exact h26
        · extract_lets -underBinder +onlyGivenNames v27
          (clear_value v27; revert v27; refine Kept.seal ?_; intro v27)
          extract_lets -underBinder +onlyGivenNames v28
          have h29 : Kept M s0 v28 := by
            unfold v28
            refine kept_mintError (hm.sub rfl) ?_
            refine kept_jobHeadNext (hm.sub rfl) ?_
            exact h26
          (clear_value v28; revert v28; refine Kept.seal ?_; intro v28 h29)
          refine kept_jobEnd (hm.sub rfl) ?_
          exact h29

theorem kept_baseCheck1 {s : State} {r : Region} {d : Bytes} {l : ℕ} (hm : Within 0x7000020207000000191700000000000000000109a000e027e M) (h0 : Kept M s0 s) :
    KeptP M s0 (State.baseCheck1 s r d l) := by
  unfold State.baseCheck1
  extract_lets -underBinder +onlyGivenNames v20
  (clear_value v20; revert v20; refine Kept.seal ?_; intro v20)
  refine keptp_ite ?_ ?_
  · refine Kept.pair ?_
    exact h0
  · (generalize q22 : (s.readDir v20 { unitKind := 6, unit := v20.cluster, op := 8, tag := Sys2Proof.Machine.mjTag d }) = x21; revert x21; refine Kept.seal ?_; intro x21 q22)
    have h23 : KeptP M s0 x21 := by
      rw [← q22]
      refine kept_readDir (hm.sub rfl) ?_
      exact h0
    split
    · rename_i w24 w25 w26
      refine Kept.pair ?_
      exact (KeptP.st h23)
    · rename_i w27 w28 w29
      refine Kept.pair ?_
      exact (KeptP.st h23)
    · rename_i w30 w31 w32
      refine Kept.pair ?_
      exact (KeptP.st h23)

theorem kept_baseCheck {s : State} {r : Region} {d : Bytes} (hm : Within 0x7000020207000000191700000000000000000109a000e027e M) (h0 : Kept M s0 s) :
    KeptP M s0 (State.baseCheck s r d) := by
  unfold State.baseCheck
  refine keptp_ite ?_ ?_
  · refine Kept.pair ?_
    exact h0
  · refine keptp_foldl ?_ ?_
    · intro y20 y21 h22
      (generalize q24 : (y20.2) = x23; revert x23; refine Kept.seal ?_; intro x23 q24)
      split
      · rename_i w25
        refine kept_baseCheck1 (hm.sub rfl) ?_
        exact (KeptP.st h22)
      · rename_i w26 w27
        exact h22
    · refine Kept.pair ?_
      exact h0

theorem kept_jobFails {s : State} {j : MintJob} {code : ℕ} {addr : ℕ} (hm : Within 0x7000000000000400010700000000000000000109b00040202 M) (h0 : Kept M s0 s) :
    Kept M s0 (State.jobFails s j code addr) := by
  unfold State.jobFails
  refine kept_setJob (hm.sub rfl) ?_
  refine kept_mintError (hm.sub rfl) ?_
  exact h0

theorem kept_mintStart {s : State} {op : ℕ} (hm : Within 0x7000020207080600191700000000000000000109b000e027e M) (h0 : Kept M s0 s) :
    KeptP M s0 (State.mintStart s op) := by
  unfold State.mintStart
  (generalize q21 : (List.find? (fun j ↦ !j.started) s.mint.jobs) = x20; revert x20; refine Kept.seal ?_; intro x20 q21)
  split
  · rename_i w22
    refine Kept.pair ?_
    exact h0
  · rename_i w23 w24
    extract_lets -underBinder +onlyGivenNames v25
    (clear_value v25; revert v25; refine Kept.seal ?_; intro v25)
    refine keptp_ite ?_ ?_
    · refine Kept.pair ?_
      exact h0
    · (generalize q27 : (s.packedRegion (Sys2Proof.Machine.mjRegion v25)) = x26; revert x26; refine Kept.seal ?_; intro x26 q27)
      split
      · rename_i w28
        refine Kept.pair ?_
        exact h0
      · rename_i w29 w30
        extract_lets -underBinder +onlyGivenNames v31
        have h32 : KeptP M s0 v31 := by
          unfold v31
          refine kept_baseCheck (hm.sub rfl) ?_
          exact h0
        (clear_value v31; revert v31; refine Kept.seal ?_; intro v31 h32)
        (generalize q34 : (v31.2) = x33; revert x33; refine Kept.seal ?_; intro x33 q34)
        split
        · rename_i w35 w36
          refine Kept.pair ?_
          refine kept_startRepair (hm.sub rfl) ?_
          exact (KeptP.st h32)
        · rename_i w37 w38
          extract_lets -underBinder +onlyGivenNames v39
          (clear_value v39; revert v39; refine Kept.seal ?_; intro v39)
          extract_lets -underBinder +onlyGivenNames v40
          have h41 : Kept M s0 v40 := by
            unfold v40
            refine kept_jobHeadNext (hm.sub rfl) ?_
            refine kept_setJob (hm.sub rfl) ?_
            exact (KeptP.st h32)
          (clear_value v40; revert v40; refine Kept.seal ?_; intro v40 h41)
          extract_lets -underBinder +onlyGivenNames v42
          have h43 : Kept M s0 v42 := by
            unfold v42
            refine Kept.setF (hm.bit 1 rfl) (reach_MNT_STATUS (hm.bit 142 rfl)) ?_
            exact h41
          (clear_value v42; revert v42; refine Kept.seal ?_; intro v42 h43)
          refine keptp_ite ?_ ?_
          · refine Kept.pair ?_
            refine kept_jobFails (hm.sub rfl) ?_
            exact h43
          · split
            · rename_i w44 w45
              refine Kept.pair ?_
              refine kept_jobFails (hm.sub rfl) ?_
              exact h43
            · rename_i w46 w47
              refine keptp_ite ?_ ?_
              · (generalize q49 : (v42.jobSlot v25) = x48; revert x48; refine Kept.seal ?_; intro x48 q49)
                split
                · rename_i w50
                  refine Kept.pair ?_
                  refine kept_jobFails (hm.sub rfl) ?_
                  exact h43
                · rename_i w51 w52
                  extract_lets -underBinder +onlyGivenNames v53
                  (clear_value v53; revert v53; refine Kept.seal ?_; intro v53)
                  refine Kept.pair ?_
                  refine kept_setJob (hm.sub rfl) ?_
                  refine Kept.setF (hm.bit 1 rfl) (reach_MNT_SLOT_INFO (hm.bit 151 rfl)) ?_
                  exact h43
              · extract_lets -underBinder +onlyGivenNames v54
                (clear_value v54; revert v54; refine Kept.seal ?_; intro v54)
                refine Kept.pair ?_
                refine kept_setJob (hm.sub rfl) ?_
                exact h43

theorem kept_jobDecode {s : State} {x : TileRef} {k : Consumer} {isBase : Bool} (hm : Within 0x700002020700c000191700000000000000000189a00ce027e M) (h0 : Kept M s0 s) :
    KeptP M s0 (State.jobDecode s x k isBase) := by
  unfold State.jobDecode
  (generalize q21 : (s.decodeTile x k Option.none) = x20; revert x20; refine Kept.seal ?_; intro x20 q21)
  have h22 : KeptP M s0 x20 := by
    rw [← q21]
    refine kept_decodeTile (hm.sub rfl) ?_
    exact h0
  split
  · rename_i w23 w24 w25 w26 w27
    refine Kept.pair ?_
    exact (KeptP.st h22)
  · rename_i w28 w29 w30 w31 w32 w33 w34
    refine Kept.pair ?_
    exact (KeptP.st h22)
  · rename_i w35 w36
    refine Kept.pair ?_
    exact (KeptP.st h22)
  · rename_i w37 w38 w39
    refine Kept.pair ?_
    exact (KeptP.st h22)
  · rename_i w40 w41 w42
    refine Kept.pair ?_
    refine kept_startRepair (hm.sub rfl) ?_
    exact (KeptP.st h22)

theorem kept_keepBase {s : State} {j : MintJob} {i : ℕ} {x : TileRef} {k : Consumer} (hm : Within 0x700002020700c000191700000000000000000189a00ce027e M) (h0 : Kept M s0 s) :
    KeptP M s0 (State.keepBase s j i x k) := by
  unfold State.keepBase
  (generalize q21 : (s.jobDecode x k Bool.true) = x20; revert x20; refine Kept.seal ?_; intro x20 q21)
  have h22 : KeptP M s0 x20 := by
    rw [← q21]
    refine kept_jobDecode (hm.sub rfl) ?_
    exact h0
  split
  · rename_i w23 w24 w25 w26
    refine Kept.pair ?_
    exact (KeptP.st h22)
  · rename_i w27 w28 w29
    refine Kept.pair ?_
    exact (KeptP.st h22)
  · rename_i w30 w31
    refine Kept.pair ?_
    exact (KeptP.st h22)

theorem kept_jobBase {s : State} {j : MintJob} {r : Region} {i : ℕ} {k : Consumer} (hm : Within 0x700002020700c000191700000000000000000189a00ce027e M) (h0 : Kept M s0 s) :
    KeptP M s0 (State.jobBase s j r i k) := by
  unfold State.jobBase
  extract_lets -underBinder +onlyGivenNames v20
  (clear_value v20; revert v20; refine Kept.seal ?_; intro v20)
  (generalize q22 : (j.base) = x21; revert x21; refine Kept.seal ?_; intro x21 q22)
  split
  · rename_i w23 w24 w25
    refine keptp_ite ?_ ?_
    · refine Kept.pair ?_
      exact h0
    · refine kept_keepBase (hm.sub rfl) ?_
      exact h0
  · rename_i w26
    refine kept_keepBase (hm.sub rfl) ?_
    exact h0

theorem kept_jobSource {s : State} {j : MintJob} {r : Region} {l : ℕ} (hm : Within 0x700902020700c000191700000000000000000189a00de027e M) (h0 : Kept M s0 s) :
    KeptP M s0 (State.jobSource s j r l) := by
  unfold State.jobSource
  extract_lets -underBinder +onlyGivenNames v20
  (clear_value v20; revert v20; refine Kept.seal ?_; intro v20)
  extract_lets -underBinder +onlyGivenNames v21
  (clear_value v21; revert v21; refine Kept.seal ?_; intro v21)
  extract_lets -underBinder +onlyGivenNames v22
  (clear_value v22; revert v22; refine Kept.seal ?_; intro v22)
  extract_lets -underBinder +onlyGivenNames v23
  (clear_value v23; revert v23; refine Kept.seal ?_; intro v23)
  extract_lets -underBinder +onlyGivenNames v24
  have h25 : KeptP M s0 v24 := by
    unfold v24
    refine kept_readAny (hm.sub rfl) ?_
    exact h0
  (clear_value v24; revert v24; refine Kept.seal ?_; intro v24 h25)
  extract_lets -underBinder +onlyGivenNames v26
  have h27 : KeptP M s0 v26 := by
    unfold v26
    refine keptp_ite ?_ ?_
    · refine kept_jobDecode (hm.sub rfl) ?_
      exact h0
    · (generalize q29 : (v24.2.repair) = x28; revert x28; refine Kept.seal ?_; intro x28 q29)
      (generalize q31 : (v24.2.first) = x30; revert x30; refine Kept.seal ?_; intro x30 q31)
      split
      · rename_i w32 w33 w34
        refine Kept.pair ?_
        refine kept_startRepair (hm.sub rfl) ?_
        exact (KeptP.st h25)
      · rename_i w35 w36 w37
        refine Kept.pair ?_
        exact (KeptP.st h25)
      · rename_i w38 w39
        refine keptp_ite ?_ ?_
        · refine Kept.pair ?_
          exact (KeptP.st h25)
        · refine Kept.pair ?_
          exact (KeptP.st h25)
  (clear_value v26; revert v26; refine Kept.seal ?_; intro v26 h27)
  split
  · rename_i w40 w41 w42 w43
    refine keptp_ite ?_ ?_
    · (generalize q45 : (w41.jobBase j r (Sys2Proof.Machine.mjBaseOf v20 l) v22) = x44; revert x44; refine Kept.seal ?_; intro x44 q45)
      have h46 : KeptP M s0 x44 := by
        rw [← q45]
        refine kept_jobBase (hm.sub rfl) ?_
        exact (KeptP.st h27)
      split
      · rename_i w47 w48 w49 w50 w51
        refine Kept.pair ?_
        exact (KeptP.st h46)
      · rename_i w52 w53
        exact h46
    · refine Kept.pair ?_
      exact (KeptP.st h27)
  · rename_i w54 w55
    refine Kept.pair ?_
    exact (KeptP.st h27)

theorem kept_jobSkip {s : State} {j : MintJob} {l : ℕ} {k : Skip} (hm : Within 0x7000000000000400016700000000000000000109b00040202 M) (h0 : Kept M s0 s) :
    KeptP M s0 (State.jobSkip s j l k) := by
  unfold State.jobSkip
  extract_lets -underBinder +onlyGivenNames v20
  (clear_value v20; revert v20; refine Kept.seal ?_; intro v20)
  extract_lets -underBinder +onlyGivenNames v21
  (clear_value v21; revert v21; refine Kept.seal ?_; intro v21)
  extract_lets -underBinder +onlyGivenNames v22
  have h23 : Kept M s0 v22 := by
    unfold v22
    split
    · rename_i w24 w25 w26
      refine kept_ite ?_ ?_
      · refine kept_poisonNamed (hm.sub rfl) ?_
        refine Kept.setF (hm.bit 1 rfl) (reach_MNT_STATUS (hm.bit 142 rfl)) ?_
        exact h0
      · exact h0
    · rename_i w27 w28
      exact h0
  (clear_value v22; revert v22; refine Kept.seal ?_; intro v22 h23)
  extract_lets -underBinder +onlyGivenNames v29
  (clear_value v29; revert v29; refine Kept.seal ?_; intro v29)
  refine Kept.pair ?_
  refine kept_setJob (hm.sub rfl) ?_
  exact h23

theorem kept_packTile {s : State} {j : MintJob} {r : Region} {l : ℕ} {bs : Bytes} {base : Bytes} (hm : Within 0x2000000000007008020207083c00190700000000000000000109b10de027e M) (h0 : Kept M s0 s) :
    KeptP M s0 (State.packTile s j r l bs base) := by
  unfold State.packTile
  extract_lets -underBinder +onlyGivenNames v20
  (clear_value v20; revert v20; refine Kept.seal ?_; intro v20)
  extract_lets -underBinder +onlyGivenNames v21
  (clear_value v21; revert v21; refine Kept.seal ?_; intro v21)
  extract_lets -underBinder +onlyGivenNames v22
  (clear_value v22; revert v22; refine Kept.seal ?_; intro v22)
  extract_lets -underBinder +onlyGivenNames v23
  (clear_value v23; revert v23; refine Kept.seal ?_; intro v23)
  extract_lets -underBinder +onlyGivenNames v24
  (clear_value v24; revert v24; refine Kept.seal ?_; intro v24)
  (generalize q26 : (s.heapPlace r v21.cluster v24.grains) = x25; revert x25; refine Kept.seal ?_; intro x25 q26)
  split
  · rename_i w27
    refine Kept.pair ?_
    refine kept_mintError (hm.sub rfl) ?_
    exact h0
  · rename_i w28 w29
    extract_lets -underBinder +onlyGivenNames v30
    (clear_value v30; revert v30; refine Kept.seal ?_; intro v30)
    extract_lets -underBinder +onlyGivenNames v31
    have h32 : Kept M s0 v31 := by
      unfold v31
      refine kept_replaceDir (hm.sub rfl) ?_
      refine kept_writeStored (hm.sub rfl) ?_
      exact h0
    (clear_value v31; revert v31; refine Kept.seal ?_; intro v31 h32)
    extract_lets -underBinder +onlyGivenNames v33
    have h34 : Kept M s0 v33 := by
      unfold v33
      refine Kept.addF (hm.bit 1 rfl) (reach_MNT_TILES_ENC (hm.bit 143 rfl)) ?_
      exact h32
    (clear_value v33; revert v33; refine Kept.seal ?_; intro v33 h34)
    extract_lets -underBinder +onlyGivenNames v35
    have h36 : Kept M s0 v35 := by
      unfold v35
      refine kept_ite ?_ ?_
      · refine Kept.addF (hm.bit 1 rfl) (reach_MNT_TILES_RAW (hm.bit 144 rfl)) ?_
        exact h34
      · exact h34
    (clear_value v35; revert v35; refine Kept.seal ?_; intro v35 h36)
    extract_lets -underBinder +onlyGivenNames v37
    have h38 : Kept M s0 v37 := by
      unfold v37
      refine Kept.addF (hm.bit 1 rfl) (reach_MNT_GRAINS_OUT (hm.bit 145 rfl)) ?_
      exact h36
    (clear_value v37; revert v37; refine Kept.seal ?_; intro v37 h38)
    refine Kept.pair ?_
    exact h38

theorem kept_pass2 {s : State} {j : MintJob} {r : Region} {b3 : List ℕ} (hm : Within 0x200000000000700902020708fc00197700000000000000000189b10de027e M) (h0 : Kept M s0 s) :
    Kept M s0 (State.pass2 s j r b3) := by
  induction b3 generalizing s j r
  · unfold State.pass2
    refine kept_setJob (hm.sub rfl) ?_
    exact h0
  · rename_i r0 r1 ih
    unfold State.pass2
    refine kept_ite ?_ ?_
    · apply ih
      exact h0
    · (generalize q21 : (s.jobSource { id := j.id, desc := j.desc, entry := j.entry, index := j.index, started := j.started, slot := j.slot, inPass1 := j.inPass1, todo := j.todo, counts := j.counts, base := j.base, skipped := j.skipped, tilesDone := j.tilesDone, tilesRaw := j.tilesRaw, installed := j.installed, trusted := j.trusted, ended := j.ended } r r0) = x20; revert x20; refine Kept.seal ?_; intro x20 q21)
      have h22 : KeptP M s0 x20 := by
        rw [← q21]
        refine kept_jobSource (hm.sub rfl) ?_
        exact h0
      split
      · rename_i w23 w24 w25
        refine kept_setJob (hm.sub rfl) ?_
        exact (KeptP.st h22)
      · rename_i w26 w27 w28 w29
        extract_lets -underBinder +onlyGivenNames v30
        have h31 : KeptP M s0 v30 := by
          unfold v30
          refine kept_jobSkip (hm.sub rfl) ?_
          exact (KeptP.st h22)
        (clear_value v30; revert v30; refine Kept.seal ?_; intro v30 h31)
        apply ih
        exact (KeptP.st h31)
      · rename_i w32 w33 w34 w35 w36
        (generalize q38 : (w33.packTile w34 r r0 w35 w36) = x37; revert x37; refine Kept.seal ?_; intro x37 q38)
        have h39 : KeptP M s0 x37 := by
          rw [← q38]
          refine kept_packTile (hm.sub rfl) ?_
          exact (KeptP.st h22)
        split
        · rename_i w40 w41 w42
          apply ih
          exact (KeptP.st h39)
        · rename_i w43 w44 w45
          refine kept_setJob (hm.sub rfl) ?_
          exact (KeptP.st h39)

theorem kept_mintDecode {s : State} {j : MintJob} {r : Region} {b3 : List ℕ} (hm : Within 0x200000000000700902020700c400197700000000000000000189b10de027e M) (h0 : Kept M s0 s) :
    Kept M s0 (State.mintDecode s j r b3) := by
  induction b3 generalizing s j r
  · unfold State.mintDecode
    refine kept_setJob (hm.sub rfl) ?_
    exact h0
  · rename_i r0 r1 ih
    unfold State.mintDecode
    extract_lets -underBinder +onlyGivenNames v20
    (clear_value v20; revert v20; refine Kept.seal ?_; intro v20)
    extract_lets -underBinder +onlyGivenNames v21
    (clear_value v21; revert v21; refine Kept.seal ?_; intro v21)
    extract_lets -underBinder +onlyGivenNames v22
    (clear_value v22; revert v22; refine Kept.seal ?_; intro v22)
    extract_lets -underBinder +onlyGivenNames v23
    have h24 : ∀ c_0 c_1 c_2, Kept M s0 c_0 → Kept M s0 (v23 c_0 c_1 c_2) := by
      unfold v23
      intro y25 y26 y27 h28
      refine kept_getD ?_ ?_
      · refine kept_writeAny (hm.sub rfl) ?_
        exact h28
      · exact h28
    (clear_value v23; revert v23; refine Kept.seal ?_; intro v23 h24)
    (generalize q30 : (s.decodeTile v21 { unitKind := 6, unit := v21.cluster, op := 8, tag := Sys2Proof.Machine.mjTag v20 } Option.none) = x29; revert x29; refine Kept.seal ?_; intro x29 q30)
    have h31 : KeptP M s0 x29 := by
      rw [← q30]
      refine kept_decodeTile (hm.sub rfl) ?_
      exact h0
    split
    · rename_i w32 w33 w34 w35 w36
      apply ih
      refine h24 _ _ _ ?_
      exact (KeptP.st h31)
    · rename_i w37 w38 w39 w40 w41 w42 w43
      extract_lets -underBinder +onlyGivenNames v44
      have h45 : KeptP M s0 v44 := by
        unfold v44
        refine kept_jobSkip (hm.sub rfl) ?_
        refine h24 _ _ _ ?_
        exact (KeptP.st h31)
      (clear_value v44; revert v44; refine Kept.seal ?_; intro v44 h45)
      apply ih
      exact (KeptP.st h45)
    · rename_i w46 w47
      extract_lets -underBinder +onlyGivenNames v48
      have h49 : KeptP M s0 v48 := by
        unfold v48
        refine kept_jobSkip (hm.sub rfl) ?_
        refine h24 _ _ _ ?_
        exact (KeptP.st h31)
      (clear_value v48; revert v48; refine Kept.seal ?_; intro v48 h49)
      apply ih
      exact (KeptP.st h49)
    · rename_i w50 w51 w52
      refine kept_setJob (hm.sub rfl) ?_
      exact (KeptP.st h31)
    · rename_i w53 w54 w55
      refine kept_setJob (hm.sub rfl) ?_
      refine kept_startRepair (hm.sub rfl) ?_
      exact (KeptP.st h31)

theorem kept_mintRelease {s : State} {j : MintJob} {r : Region} {ls : List ℕ} (hm : Within 0x2000000000007008020207080000190700000000000000000109b10de027e M) (h0 : Kept M s0 s) :
    Kept M s0 (State.mintRelease s j r ls) := by
  unfold State.mintRelease
  extract_lets -underBinder +onlyGivenNames v20
  have h21 : Kept M s0 v20 := by
    unfold v20
    refine kept_forEach ?_ ?_
    · intro y22 y23 h24
      extract_lets -underBinder +onlyGivenNames v25
      (clear_value v25; revert v25; refine Kept.seal ?_; intro v25)
      refine kept_replaceDir (hm.sub rfl) ?_
      exact h24
    · exact h0
  (clear_value v20; revert v20; refine Kept.seal ?_; intro v20 h21)
  refine kept_setJob (hm.sub rfl) ?_
  exact h21

theorem kept_pass1 {s : State} {j : MintJob} {r : Region} {b3 : List ℕ} (hm : Within 0x700902020700c400197700000000000000000189b00de027e M) (h0 : Kept M s0 s) :
    KeptP M s0 (State.pass1 s j r b3) := by
  induction b3 generalizing s j r
  · unfold State.pass1
    refine Kept.pair ?_
    exact h0
  · rename_i r0 r1 ih
    unfold State.pass1
    (generalize q21 : (s.jobSource j r r0) = x20; revert x20; refine Kept.seal ?_; intro x20 q21)
    have h22 : KeptP M s0 x20 := by
      rw [← q21]
      refine kept_jobSource (hm.sub rfl) ?_
      exact h0
    split
    · rename_i w23 w24 w25
      refine Kept.pair ?_
      exact (KeptP.st h22)
    · rename_i w26 w27 w28 w29
      extract_lets -underBinder +onlyGivenNames v30
      have h31 : KeptP M s0 v30 := by
        unfold v30
        refine kept_jobSkip (hm.sub rfl) ?_
        exact (KeptP.st h22)
      (clear_value v30; revert v30; refine Kept.seal ?_; intro v30 h31)
      apply ih
      exact (KeptP.st h31)
    · rename_i w32 w33 w34 w35 w36
      extract_lets -underBinder +onlyGivenNames v37
      (clear_value v37; revert v37; refine Kept.seal ?_; intro v37)
      extract_lets -underBinder +onlyGivenNames v38
      (clear_value v38; revert v38; refine Kept.seal ?_; intro v38)
      apply ih
      exact (KeptP.st h22)

theorem kept_pass1End {s : State} {id : ℕ} (hm : Within 0x200000000000700902020718fc00197700000000000000000189b10fe027e M) (h0 : Kept M s0 s) :
    Kept M s0 (State.pass1End s id) := by
  unfold State.pass1End
  (generalize q21 : (List.find? (fun j ↦ j.id == id && j.started && j.ended.isNone) s.mint.jobs) = x20; revert x20; refine Kept.seal ?_; intro x20 q21)
  split
  · rename_i w22
    exact h0
  · rename_i w23 w24
    (generalize q26 : (s.packedRegion (Sys2Proof.Machine.mjRegion w24.desc)) = x25; revert x25; refine Kept.seal ?_; intro x25 q26)
    split
    · rename_i w27
      exact h0
    · rename_i w28 w29
      refine kept_ite ?_ ?_
      · refine kept_pass2 (hm.sub rfl) ?_
        exact h0
      · (generalize q31 : (s.pass1 w24 w29 w24.todo) = x30; revert x30; refine Kept.seal ?_; intro x30 q31)
        have h32 : KeptP M s0 x30 := by
          rw [← q31]
          refine kept_pass1 (hm.sub rfl) ?_
          exact h0
        split
        rename_i w33 w34 w35
        extract_lets -underBinder +onlyGivenNames v36
        (clear_value v36; revert v36; refine Kept.seal ?_; intro v36)
        refine kept_ite ?_ ?_
        · refine kept_setJob (hm.sub rfl) ?_
          exact (KeptP.st h32)
        · refine kept_ite ?_ ?_
          · refine kept_setJob (hm.sub rfl) ?_
            exact (KeptP.st h32)
          · extract_lets -underBinder +onlyGivenNames v37
            (clear_value v37; revert v37; refine Kept.seal ?_; intro v37)
            extract_lets -underBinder +onlyGivenNames v38
            (clear_value v38; revert v38; refine Kept.seal ?_; intro v38)
            extract_lets -underBinder +onlyGivenNames v39
            have h40 : Kept M s0 v39 := by
              unfold v39
              refine kept_endInstall (hm.sub rfl) ?_
              refine kept_beginInstall (hm.sub rfl) ?_
              exact (KeptP.st h32)
            (clear_value v39; revert v39; refine Kept.seal ?_; intro v39 h40)
            extract_lets -underBinder +onlyGivenNames v41
            (clear_value v41; revert v41; refine Kept.seal ?_; intro v41)
            refine kept_ite ?_ ?_
            · refine kept_setJob (hm.sub rfl) ?_
              exact h40
            · refine kept_pass2 (hm.sub rfl) ?_
              refine kept_setJob (hm.sub rfl) ?_
              exact h40

theorem kept_mintResume {s : State} {op : ℕ} {go : State → MintJob → Region → List ℕ → State} (hm : Within 0x0 M) (h0 : Kept M s0 s) (h1 : ∀ c1_0 c1_1 c1_2 c1_3, Kept M s0 c1_0 → Kept M s0 (go c1_0 c1_1 c1_2 c1_3)) :
    Kept M s0 (State.mintResume s op go) := by
  unfold State.mintResume
  (generalize q21 : (List.find? (fun j ↦ j.started && j.ended.isNone && !j.inPass1 && Sys2Proof.Machine.mjOp j.desc == op) s.mint.jobs) = x20; revert x20; refine Kept.seal ?_; intro x20 q21)
  split
  · rename_i w22 w23
    (generalize q25 : (s.packedRegion (Sys2Proof.Machine.mjRegion w23.desc)) = x24; revert x24; refine Kept.seal ?_; intro x24 q25)
    split
    · rename_i w26 w27
      refine h1 _ _ _ _ ?_
      exact h0
    · rename_i w28
      exact h0
  · rename_i w29
    exact h0

theorem kept_mintGo {s : State} {op : ℕ} {go : State → MintJob → Region → List ℕ → State} (hm : Within 0x7000020207080600191700000000000000000109b000e027e M) (h0 : Kept M s0 s) (h1 : ∀ c1_0 c1_1 c1_2 c1_3, Kept M s0 c1_0 → Kept M s0 (go c1_0 c1_1 c1_2 c1_3)) :
    Kept M s0 (State.mintGo s op go) := by
  unfold State.mintGo
  (generalize q21 : (s.mintStart op) = x20; revert x20; refine Kept.seal ?_; intro x20 q21)
  have h22 : KeptP M s0 x20 := by
    rw [← q21]
    refine kept_mintStart (hm.sub rfl) ?_
    exact h0
  split
  · rename_i w23 w24 w25 w26
    refine h1 _ _ _ _ ?_
    exact (KeptP.st h22)
  · rename_i w27 w28
    refine kept_mintResume (hm.sub rfl) ?_ ?_
    · exact (KeptP.st h22)
    · intro y29 y30 y31 y32 h33
      refine h1 _ _ _ _ ?_
      exact h33

theorem kept_beginPass1 {s : State} {j : MintJob} {r : Region} {l : List ℕ} (hm : Within 0x200000000000700902020708fc00197700000000000000000189b10de027e M) (h0 : Kept M s0 s) :
    Kept M s0 (beginPass1 s j r l) := by
  unfold beginPass1
  refine kept_ite ?_ ?_
  · refine kept_setJob (hm.sub rfl) ?_
    exact h0
  · refine kept_ite ?_ ?_
    · refine kept_setJob (hm.sub rfl) ?_
      exact h0
    · refine kept_pass2 (hm.sub rfl) ?_
      exact h0

theorem kept_execMintJobFetch {s : State} (hm : Within 0x800000200000000000720902020708c680191700000000000000000189b10de2a7e M) (h0 : Kept M s0 s) :
    KeptE M s0 (execMintJobFetch s) := by
  unfold execMintJobFetch
  refine kepte_next ?_
  refine kept_mintFetch (hm.sub rfl) ?_
  exact h0

theorem kept_execMintCompress {s : State} (hm : Within 0x200000000000700902020708fe00197700000000000000000189b10de027e M) (h0 : Kept M s0 s) :
    KeptE M s0 (execMintCompress s) := by
  unfold execMintCompress
  refine kepte_next ?_
  refine kept_mintGo (hm.sub rfl) ?_ ?_
  · exact h0
  · intro y20 y21 y22 y23 h24
    refine kept_beginPass1 (hm.sub rfl) ?_
    exact h24

theorem kept_execMintEncode {s : State} (hm : Within 0x200000000000700902020708fe00197700000000000000000189b10de027e M) (h0 : Kept M s0 s) :
    KeptE M s0 (execMintEncode s) := by
  unfold execMintEncode
  refine kepte_next ?_
  refine kept_mintGo (hm.sub rfl) ?_ ?_
  · exact h0
  · intro y20 y21 y22 y23 h24
    refine kept_pass2 (hm.sub rfl) ?_
    exact h24

theorem kept_execMintBuild {s : State} (hm : Within 0x200000000000700902020708fe00197700000000000000000189b10de027e M) (h0 : Kept M s0 s) :
    KeptE M s0 (execMintBuild s) := by
  unfold execMintBuild
  refine kepte_next ?_
  refine kept_mintGo (hm.sub rfl) ?_ ?_
  · exact h0
  · intro y20 y21 y22 y23 h24
    refine kept_beginPass1 (hm.sub rfl) ?_
    exact h24

theorem kept_execMintDecode {s : State} (hm : Within 0x200000000000700902020708c600197700000000000000000189b10de027e M) (h0 : Kept M s0 s) :
    KeptE M s0 (execMintDecode s) := by
  unfold execMintDecode
  refine kepte_next ?_
  refine kept_mintGo (hm.sub rfl) ?_ ?_
  · exact h0
  · intro y20 y21 y22 y23 h24
    refine kept_mintDecode (hm.sub rfl) ?_
    exact h24

theorem kept_execMintRelease {s : State} (hm : Within 0x2000000000007008020207080600191700000000000000000109b10de027e M) (h0 : Kept M s0 s) :
    KeptE M s0 (execMintRelease s) := by
  unfold execMintRelease
  refine kepte_next ?_
  refine kept_mintGo (hm.sub rfl) ?_ ?_
  · exact h0
  · intro y20 y21 y22 y23 h24
    refine kept_mintRelease (hm.sub rfl) ?_
    exact h24

theorem kept_execMintPass1End {id : ℕ} {s : State} (hm : Within 0x200000000000700902020718fc00197700000000000000000189b10fe027e M) (h0 : Kept M s0 s) :
    KeptE M s0 (execMintPass1End id s) := by
  unfold execMintPass1End
  refine kepte_next ?_
  refine kept_pass1End (hm.sub rfl) ?_
  exact h0

theorem kept_execMintJobEnd {id : ℕ} {s : State} (hm : Within 0x8000002000000000007208020207080400190700000000000000000109b101e0a7e M) (h0 : Kept M s0 s) :
    KeptE M s0 (execMintJobEnd id s) := by
  unfold execMintJobEnd
  refine kepte_next ?_
  (generalize q21 : (List.find? (fun j ↦ j.id == id) s.mint.jobs) = x20; revert x20; refine Kept.seal ?_; intro x20 q21)
  split
  · rename_i w22 w23
    (generalize q25 : (w23.ended) = x24; revert x24; refine Kept.seal ?_; intro x24 q25)
    split
    · rename_i w26 w27
      refine kept_jobEnd (hm.sub rfl) ?_
      exact h0
    · rename_i w28
      exact h0
  · rename_i w29
    exact h0

end Sys2Proof.Machine
end

