-- ==== Sys2Proof/Laws/Kept/Expand.lean ====
section
/-! SUPPORT. What the operations of Expand may write: each keeps its footprint. -/

namespace Sys2Proof.Machine

variable {M : Nat} {s0 : State}

theorem kept_expandInto {s : State} {x : TileRef} {old : DirEntry} {width : ℕ} {bs : Bytes} {bad : List ℕ} {tag : Tag} (hm : Within 0x2000000000007008020207080000190700000000000000000109b10de027e M) (h0 : Kept M s0 s) :
    KeptP M s0 (State.expandInto s x old width bs bad tag) := by
  unfold State.expandInto
  (generalize q21 : (s.expPlace x.region x.cluster) = x20; revert x20; refine Kept.seal ?_; intro x20 q21)
  split
  · rename_i w22
    refine Kept.pair ?_
    exact h0
  · rename_i w23 w24
    extract_lets -underBinder +onlyGivenNames v25
    (clear_value v25; revert v25; refine Kept.seal ?_; intro v25)
    extract_lets -underBinder +onlyGivenNames v26
    have h27 : Kept M s0 v26 := by
      unfold v26
      refine kept_writeRange (hm.sub rfl) ?_
      exact h0
    (clear_value v26; revert v26; refine Kept.seal ?_; intro v26 h27)
    extract_lets -underBinder +onlyGivenNames v28
    have h29 : Kept M s0 v28 := by
      unfold v28
      refine kept_forEach ?_ ?_
      · intro y30 y31 h32
        refine kept_poisonPool (hm.sub rfl) ?_
        exact h32
      · exact h27
    (clear_value v28; revert v28; refine Kept.seal ?_; intro v28 h29)
    refine Kept.pair ?_
    refine kept_replaceDir (hm.sub rfl) ?_
    exact h29

theorem kept_expandTile {s : State} {x : TileRef} {k : Consumer} (hm : Within 0x200000000000700802020708c000191700000000000000000189b10de027e M) (h0 : Kept M s0 s) :
    KeptP M s0 (State.expandTile s x k) := by
  unfold State.expandTile
  (generalize q21 : (s.readDir x k) = x20; revert x20; refine Kept.seal ?_; intro x20 q21)
  have h22 : KeptP M s0 x20 := by
    rw [← q21]
    refine kept_readDir (hm.sub rfl) ?_
    exact h0
  split
  · rename_i w23 w24 w25
    refine Kept.pair ?_
    refine kept_startRepair (hm.sub rfl) ?_
    exact (KeptP.st h22)
  · rename_i w26 w27 w28
    extract_lets -underBinder +onlyGivenNames v29
    (clear_value v29; revert v29; refine Kept.seal ?_; intro v29)
    refine kept_expandInto (hm.sub rfl) ?_
    exact (KeptP.st h22)
  · rename_i w30 w31 w32
    (generalize q34 : (w32.state) = x33; revert x33; refine Kept.seal ?_; intro x33 q34)
    split
    · rename_i w35
      refine Kept.pair ?_
      exact (KeptP.st h22)
    · rename_i w36
      refine keptp_ite ?_ ?_
      · refine Kept.pair ?_
        exact (KeptP.st h22)
      · (generalize q38 : (w31.decodeEntry x w32 k Option.none) = x37; revert x37; refine Kept.seal ?_; intro x37 q38)
        have h39 : KeptP M s0 x37 := by
          rw [← q38]
          refine kept_decodeEntry (hm.sub rfl) ?_
          exact (KeptP.st h22)
        split
        · rename_i w40 w41 w42 w43 w44 w45
          refine kept_expandInto (hm.sub rfl) ?_
          exact (KeptP.st h39)
        · rename_i w46 w47
          refine Kept.pair ?_
          exact (KeptP.st h39)
        · rename_i w48 w49 w50
          refine Kept.pair ?_
          exact (KeptP.st h39)
        · rename_i w51 w52 w53
          refine Kept.pair ?_
          refine kept_startRepair (hm.sub rfl) ?_
          exact (KeptP.st h39)
    · rename_i w54 w55 w56
      refine Kept.pair ?_
      exact (KeptP.st h22)

theorem kept_expandFull {s : State} {x : TileRef} {a : PA} {k : Consumer} (hm : Within 0x7000000000000000010700000000000000000109a00040202 M) (h0 : Kept M s0 s) :
    Kept M s0 (State.expandFull s x a k) := by
  unfold State.expandFull
  refine kept_ledger (hm.sub rfl) ?_
  exact h0

theorem kept_writeTile {s : State} {r : Region} {a : PA} {bs : Bytes} {bad : List ℕ} {k : Consumer} (hm : Within 0x200000000000700802020708c000191700000000000000000189b10de027e M) (h0 : Kept M s0 s) :
    KeptP M s0 (State.writeTile s r a bs bad k) := by
  unfold State.writeTile
  extract_lets -underBinder +onlyGivenNames v20
  (clear_value v20; revert v20; refine Kept.seal ?_; intro v20)
  refine keptp_ite ?_ ?_
  · refine Kept.pair ?_
    exact h0
  · (generalize q22 : (s.expandTile v20 k) = x21; revert x21; refine Kept.seal ?_; intro x21 q22)
    have h23 : KeptP M s0 x21 := by
      rw [← q22]
      refine kept_expandTile (hm.sub rfl) ?_
      exact h0
    split
    · rename_i w24 w25 w26
      extract_lets -underBinder +onlyGivenNames v27
      (clear_value v27; revert v27; refine Kept.seal ?_; intro v27)
      extract_lets -underBinder +onlyGivenNames v28
      have h29 : Kept M s0 v28 := by
        unfold v28
        refine kept_baseInvalidate (hm.sub rfl) ?_
        refine kept_writeRange (hm.sub rfl) ?_
        exact (KeptP.st h23)
      (clear_value v28; revert v28; refine Kept.seal ?_; intro v28 h29)
      refine Kept.pair ?_
      refine kept_forEach ?_ ?_
      · intro y30 y31 h32
        refine kept_poisonPool (hm.sub rfl) ?_
        exact h32
      · exact h29
    · rename_i w33 w34
      exact h23

theorem kept_writeWork {s : State} {a : PA} {bs : Bytes} {bad : List ℕ} {k : Consumer} (hm : Within 0x200000000000700902020708c000191700000000000000000189b10de027e M) (h0 : Kept M s0 s) :
    KeptP M s0 (State.writeWork s a bs bad k) := by
  unfold State.writeWork
  refine keptp_foldl ?_ ?_
  · intro y20 y21 h22
    extract_lets -underBinder +onlyGivenNames v23
    (clear_value v23; revert v23; refine Kept.seal ?_; intro v23)
    extract_lets -underBinder +onlyGivenNames v24
    (clear_value v24; revert v24; refine Kept.seal ?_; intro v24)
    extract_lets -underBinder +onlyGivenNames v25
    (clear_value v25; revert v25; refine Kept.seal ?_; intro v25)
    extract_lets -underBinder +onlyGivenNames v26
    (clear_value v26; revert v26; refine Kept.seal ?_; intro v26)
    (generalize q28 : (y20.1.packedAt (Sys2Proof.Machine.spaceOf y21.1) (Sys2Proof.Machine.pageOf y21.1)) = x27; revert x27; refine Kept.seal ?_; intro x27 q28)
    split
    · rename_i w29 w30
      refine keptp_ite ?_ ?_
      · (generalize q32 : (y20.1.writeTile w30 y21.1 v25 v26 k) = x31; revert x31; refine Kept.seal ?_; intro x31 q32)
        have h33 : KeptP M s0 x31 := by
          rw [← q32]
          refine kept_writeTile (hm.sub rfl) ?_
          exact (KeptP.st h22)
        split
        · rename_i w34 w35 w36
          refine Kept.pair ?_
          exact (KeptP.st h33)
        · rename_i w37 w38
          refine Kept.pair ?_
          refine kept_expandFull (hm.sub rfl) ?_
          exact (KeptP.st h33)
        · rename_i w39 w40
          refine Kept.pair ?_
          exact (KeptP.st h33)
        · rename_i w41 w42
          refine Kept.pair ?_
          exact (KeptP.st h33)
      · exact h22
    · rename_i w43
      refine keptp_ite ?_ ?_
      · refine Kept.pair ?_
        refine kept_getD ?_ ?_
        · refine kept_writeAny (hm.sub rfl) ?_
          exact (KeptP.st h22)
        · exact (KeptP.st h22)
      · exact h22
  · refine Kept.pair ?_
    exact h0

theorem kept_retry {b0 : State} {s : State} (hm : Within 0x40000 M) (h0 : Kept M s0 b0) (h1 : Kept M s0 s) :
    Kept M s0 (State.retry b0 s) := by
  unfold State.retry
  refine Kept.in_integ (hm.bit 18 rfl) ?_ (Kept.seal) (Kept.seal)
  exact h0

end Sys2Proof.Machine
end

