-- ==== Sys2Proof/Laws/Kept/Wire.lean ====
section
/-! SUPPORT. What the operations of Wire may write: each keeps its footprint. -/

namespace Sys2Proof.Machine

variable {M : Nat} {s0 : State}

theorem kept_setOptic {s : State} {e : ℕ} {x : Optic} (hm : Within 0x400 M) (h0 : Kept M s0 s) :
    Kept M s0 (State.setOptic s e x) := by
  unfold State.setOptic
  refine Kept.in_optics (hm.bit 10 rfl) ?_ (Sparse.wf_put)
  exact h0

theorem kept_lasers {s : State} {e : ℕ} {mask : ℕ} (hm : Within 0x40000000000000000000000000000000000000100000000002 M) (h0 : Kept M s0 s) :
    Kept M s0 (State.lasers s e mask) := by
  unfold State.lasers
  extract_lets -underBinder +onlyGivenNames v20
  (clear_value v20; revert v20; refine Kept.seal ?_; intro v20)
  refine kept_ite ?_ ?_
  · exact h0
  · refine kept_emit (hm.sub rfl) ?_
    refine Kept.setF (hm.bit 1 rfl) (reach_OPT_LASER (hm.bit 198 rfl)) ?_
    exact h0

theorem kept_sendBlocks {s : State} {e : ℕ} (hm : Within 0x180000000000 M) (h0 : Kept M s0 s) :
    Kept M s0 (State.sendBlocks s e) := by
  unfold State.sendBlocks
  refine kept_bump (hm.sub rfl) ?_
  refine kept_forEach ?_ ?_
  · intro y20 y21 h22
    refine kept_emit (hm.sub rfl) ?_
    exact h22
  · exact h0

end Sys2Proof.Machine
end

