-- ==== Sys2Proof/Laws/Kept/Own.lean ====
section
/-! SUPPORT. What the operations of Own may write: each keeps its footprint. -/

namespace Sys2Proof.Machine

variable {M : Nat} {s0 : State}

theorem kept_sendOwn {s : State} {o : OwnReq} (hm : Within 0x7200000000000000010700000000000000000109a00040a02 M) (h0 : Kept M s0 s) :
    Kept M s0 (State.sendOwn s o) := by
  unfold State.sendOwn
  extract_lets -underBinder +onlyGivenNames v20
  (clear_value v20; revert v20; refine Kept.seal ?_; intro v20)
  (generalize q22 : (s.ownPort o) = x21; revert x21; refine Kept.seal ?_; intro x21 q22)
  split
  · rename_i w23 w24
    refine kept_sendAt (hm.sub rfl) ?_
    exact h0
  · rename_i w25
    refine kept_dropMsg (hm.sub rfl) ?_
    exact h0

theorem kept_ownSend {s : State} {o : OwnReq} (hm : Within 0x7200000000000000010700000000000000000109a0004ca02 M) (h0 : Kept M s0 s) :
    Kept M s0 (State.ownSend s o) := by
  unfold State.ownSend
  extract_lets -underBinder +onlyGivenNames v20
  (clear_value v20; revert v20; refine Kept.seal ?_; intro v20)
  extract_lets -underBinder +onlyGivenNames v21
  (clear_value v21; revert v21; refine Kept.seal ?_; intro v21)
  refine kept_sendOwn (hm.sub rfl) ?_
  refine Kept.in_own (x := { s with nextTxn := (BitVec.toNat v20 + 1) % 65536 }) (hm.bit 14 rfl) ?_
  refine Kept.in_nextTxn (hm.bit 15 rfl) ?_
  exact h0

theorem kept_ownRead {s : State} {dst : Node} {tag : Tag} {a : PA} {len : ℕ} {purpose : Purpose} {pass : Bool} (hm : Within 0x7200000000000000010700000000000000000109a0004ca02 M) (h0 : Kept M s0 s) :
    Kept M s0 (State.ownRead s dst tag a len purpose pass) := by
  unfold State.ownRead
  refine kept_ownSend (hm.sub rfl) ?_
  exact h0

theorem kept_ownDrop {s : State} {t : W16} (hm : Within 0x4000 M) (h0 : Kept M s0 s) :
    Kept M s0 (State.ownDrop s t) := by
  unfold State.ownDrop
  refine Kept.in_own (hm.bit 14 rfl) ?_
  exact h0

theorem kept_ownTimeout {s : State} {o : OwnReq} (hm : Within 0x7000000000000000010700000000000000000109a00040202 M) (h0 : Kept M s0 s) :
    Kept M s0 (State.ownTimeout s o) := by
  unfold State.ownTimeout
  extract_lets -underBinder +onlyGivenNames v20
  (clear_value v20; revert v20; refine Kept.seal ?_; intro v20)
  refine kept_ledger (hm.sub rfl) ?_
  exact h0

theorem kept_setRead {s : State} {r : Option ImageRead} (hm : Within 0x100 M) (h0 : Kept M s0 s) :
    Kept M s0 (State.setRead s r) := by
  unfold State.setRead
  refine Kept.in_epoch (hm.bit 8 rfl) ?_
  exact h0

theorem kept_imageAsk {s : State} {dst : Node} {off : ℕ} {w : Option W64} (hm : Within 0x7200000000000000010700000000000000000109a0004ca02 M) (h0 : Kept M s0 s) :
    Kept M s0 (State.imageAsk s dst off w) := by
  unfold State.imageAsk
  refine kept_ownSend (hm.sub rfl) ?_
  exact h0

theorem kept_imageOpen {s : State} {dst : Node} (hm : Within 0x7200000000000000010700000000000000000109a0004cb02 M) (h0 : Kept M s0 s) :
    Kept M s0 (State.imageOpen s dst) := by
  unfold State.imageOpen
  refine kept_imageAsk (hm.sub rfl) ?_
  refine kept_setRead (hm.sub rfl) ?_
  exact h0

theorem kept_imageNext {s : State} {r : ImageRead} (hm : Within 0x7200000000000000010700000000000000000109a0004cb02 M) (h0 : Kept M s0 s) :
    Kept M s0 (State.imageNext s r) := by
  unfold State.imageNext
  extract_lets -underBinder +onlyGivenNames v20
  (clear_value v20; revert v20; refine Kept.seal ?_; intro v20)
  refine kept_ite ?_ ?_
  · refine kept_imageAsk (hm.sub rfl) ?_
    refine kept_setRead (hm.sub rfl) ?_
    exact h0
  · refine kept_ite ?_ ?_
    · refine kept_imageAsk (hm.sub rfl) ?_
      refine kept_setRead (hm.sub rfl) ?_
      exact h0
    · refine kept_imageAsk (hm.sub rfl) ?_
      refine kept_setRead (hm.sub rfl) ?_
      exact h0

theorem kept_imageAnswer {s : State} {status : ℕ} {data : Bytes} (hm : Within 0x7200000000000000010700000000000000000109a0004cb02 M) (h0 : Kept M s0 s) :
    Kept M s0 (State.imageAnswer s status data) := by
  unfold State.imageAnswer
  (generalize q21 : (s.epoch.read) = x20; revert x20; refine Kept.seal ?_; intro x20 q21)
  split
  · rename_i w22
    exact h0
  · rename_i w23 w24
    refine kept_ite ?_ ?_
    · refine kept_setRead (hm.sub rfl) ?_
      exact h0
    · refine kept_ite ?_ ?_
      · refine kept_setRead (hm.sub rfl) ?_
        exact h0
      · refine kept_ite ?_ ?_
        · refine kept_imageNext (hm.sub rfl) ?_
          exact h0
        · refine kept_imageNext (hm.sub rfl) ?_
          exact h0

theorem kept_imageLost {s : State} (hm : Within 0x100 M) (h0 : Kept M s0 s) :
    Kept M s0 (State.imageLost s) := by
  unfold State.imageLost
  (generalize q21 : (s.epoch.read) = x20; revert x20; refine Kept.seal ?_; intro x20 q21)
  split
  · rename_i w22
    exact h0
  · rename_i w23 w24
    refine kept_setRead (hm.sub rfl) ?_
    exact h0

theorem kept_imageAtStart {s : State} (hm : Within 0x7200000000000000010700000000000000000109a0004cb02 M) (h0 : Kept M s0 s) :
    Kept M s0 (State.imageAtStart s) := by
  unfold State.imageAtStart
  refine kept_ite ?_ ?_
  · refine kept_imageOpen (hm.sub rfl) ?_
    exact h0
  · exact h0

theorem kept_setBypass {s : State} {b : Bool} (hm : Within 0x20000 M) (h0 : Kept M s0 s) :
    Kept M s0 (State.setBypass s b) := by
  unfold State.setBypass
  refine Kept.in_canopy (hm.bit 17 rfl) ?_ (Kept.seal) (Kept.seal) (Kept.seal) (Kept.seal)
  exact h0

theorem kept_underCore {s : State} {n : ℕ} {g : State → State} (hm : Within 0x20100 M) (h0 : Kept M s0 s) (h1 : ∀ c1_0, Kept M s0 c1_0 → Kept M s0 (g c1_0)) :
    Kept M s0 (State.underCore s n g) := by
  unfold State.underCore
  (generalize q21 : ((s.core n).running) = x20; revert x20; refine Kept.seal ?_; intro x20 q21)
  split
  · rename_i w22 w23
    refine kept_setBypass (hm.sub rfl) ?_
    refine kept_under (hm.sub rfl) ?_ ?_
    · refine kept_setBypass (hm.sub rfl) ?_
      exact h0
    · intro y24 h25
      refine h1 _ ?_
      exact h25
  · rename_i w26
    refine h1 _ ?_
    exact h0

theorem kept_setCore {s : State} {n : ℕ} {c : CoreSt} (hm : Within 0x1000000 M) (h0 : Kept M s0 s) :
    Kept M s0 (State.setCore s n c) := by
  unfold State.setCore
  refine Kept.in_cores (hm.bit 24 rfl) ?_ (Sparse.wf_put)
  exact h0

theorem kept_wakeCore {s : State} {n : ℕ} (hm : Within 0x1000000 M) (h0 : Kept M s0 s) :
    Kept M s0 (State.wakeCore s n) := by
  unfold State.wakeCore
  extract_lets -underBinder +onlyGivenNames v20
  (clear_value v20; revert v20; refine Kept.seal ?_; intro v20)
  refine kept_ite ?_ ?_
  · exact h0
  · (generalize q22 : (v20.power) = x21; revert x21; refine Kept.seal ?_; intro x21 q22)
    split
    · rename_i w23
      refine kept_setCore (hm.sub rfl) ?_
      exact h0
    · rename_i w24
      refine kept_setCore (hm.sub rfl) ?_
      exact h0
    · rename_i w25 w26 w27
      exact h0

theorem kept_wakeCommand {s : State} {n : ℕ} (hm : Within 0x100000000000000000000000000000000000000000000000000000000001000002 M) (h0 : Kept M s0 s) :
    Kept M s0 (State.wakeCommand s n) := by
  unfold State.wakeCommand
  extract_lets -underBinder +onlyGivenNames v20
  have h21 : Kept M s0 v20 := by
    unfold v20
    refine kept_wakeCore (hm.sub rfl) ?_
    exact h0
  (clear_value v20; revert v20; refine Kept.seal ?_; intro v20 h21)
  (generalize q23 : ((v20.core n).power) = x22; revert x22; refine Kept.seal ?_; intro x22 q23)
  split
  · rename_i w24 w25
    refine Kept.setF (hm.bit 1 rfl) (reach_CORE_WAKE (hm.bit 260 rfl)) ?_
    exact h21
  · rename_i w26 w27
    exact h21

theorem kept_coreReady {s : State} {n : ℕ} (hm : Within 0x100000000000000000000000000000000000000000000000000000000001000002 M) (h0 : Kept M s0 s) :
    Kept M s0 (State.coreReady s n) := by
  unfold State.coreReady
  extract_lets -underBinder +onlyGivenNames v20
  (clear_value v20; revert v20; refine Kept.seal ?_; intro v20)
  (generalize q22 : (v20.power) = x21; revert x21; refine Kept.seal ?_; intro x21 q22)
  split
  · rename_i w23 w24
    refine kept_ite ?_ ?_
    · refine Kept.setF (hm.bit 1 rfl) (reach_CORE_WAKE (hm.bit 260 rfl)) ?_
      refine kept_setCore (hm.sub rfl) ?_
      exact h0
    · exact h0
  · rename_i w25 w26
    exact h0

end Sys2Proof.Machine
end

