-- ==== Sys2Proof/Laws/Kept/Streams.lean ====
section
/-! SUPPORT. What the operations of Streams may write: each keeps its footprint. -/

namespace Sys2Proof.Machine

variable {M : Nat} {s0 : State}

theorem kept_setPlan {s : State} {p : Plan} (hm : Within 0x20000000 M) (h0 : Kept M s0 s) :
    Kept M s0 (State.setPlan s p) := by
  unfold State.setPlan
  refine kept_ite ?_ ?_
  · refine Kept.in_plans (hm.bit 29 rfl) ?_
    exact h0
  · refine Kept.in_plans (hm.bit 29 rfl) ?_
    exact h0

theorem kept_addPlan {s : State} {p : Program} (hm : Within 0x20002000 M) (h0 : Kept M s0 s) :
    Kept M s0 (State.addPlan s p) := by
  unfold State.addPlan
  refine Kept.in_nextId (x := { s with plans := s.plans ++ [{ uid := s.nextId, id := p.id, cluster := Sys2Proof.fieldLe p.bytes 4 1 % 8, bytes := p.bytes, next := 0, repeats := [], strides := [], issued := [], epoch := s.f Sys2Proof.F.GLB_EPOCH_CURRENT }] }) (hm.bit 13 rfl) ?_ (Nat.le_succ _)
  refine Kept.in_plans (hm.bit 29 rfl) ?_
  exact h0

theorem kept_startPlan {s : State} {core : ℕ} {id : ℕ} (hm : Within 0x20002000 M) (h0 : Kept M s0 s) :
    KeptO M s0 (State.startPlan s core id) := by
  unfold State.startPlan
  (generalize q21 : (s.program 2 id core) = x20; revert x20; refine Kept.seal ?_; intro x20 q21)
  split
  · rename_i w22
    refine kepto_some ?_
    exact h0
  · rename_i w23 w24
    extract_lets -underBinder +onlyGivenNames v25
    (clear_value v25; revert v25; refine Kept.seal ?_; intro v25)
    refine kepto_ite ?_ ?_
    · refine kepto_some ?_
      refine kept_addPlan (hm.sub rfl) ?_
      exact h0
    · exact kepto_none

theorem kept_askPiece {s : State} {p : Plan} {x : FetchStep} (hm : Within 0x7200000000000000010700000000000000000109a0004ca02 M) (h0 : Kept M s0 s) :
    KeptP M s0 (State.askPiece s p x) := by
  unfold State.askPiece
  extract_lets -underBinder +onlyGivenNames v20
  (clear_value v20; revert v20; refine Kept.seal ?_; intro v20)
  extract_lets -underBinder +onlyGivenNames v21
  (clear_value v21; revert v21; refine Kept.seal ?_; intro v21)
  refine keptp_ite ?_ ?_
  · refine Kept.pair ?_
    exact h0
  · extract_lets -underBinder +onlyGivenNames v22
    (clear_value v22; revert v22; refine Kept.seal ?_; intro v22)
    extract_lets -underBinder +onlyGivenNames v23
    (clear_value v23; revert v23; refine Kept.seal ?_; intro v23)
    refine Kept.pair ?_
    refine kept_ownRead (hm.sub rfl) ?_
    exact h0

theorem kept_stepIssue {s : State} {u : ℕ} (hm : Within 0x8000000000000000007200000000000000010700000000000000000109a2104ea02 M) (h0 : Kept M s0 s) :
    Kept M s0 (State.stepIssue s u) := by
  unfold State.stepIssue
  (generalize q21 : (s.plan u) = x20; revert x20; refine Kept.seal ?_; intro x20 q21)
  split
  · rename_i w22
    exact h0
  · rename_i w23 w24
    extract_lets -underBinder +onlyGivenNames v25
    (clear_value v25; revert v25; refine Kept.seal ?_; intro v25)
    refine kept_ite ?_ ?_
    · exact h0
    · (generalize q27 : (Sys2Proof.Machine.stOp v25) = x26; revert x26; refine Kept.seal ?_; intro x26 q27)
      split
      · rename_i w28
        extract_lets -underBinder +onlyGivenNames v29
        (clear_value v29; revert v29; refine Kept.seal ?_; intro v29)
        extract_lets -underBinder +onlyGivenNames v30
        have h31 : Kept M s0 v30 := by
          unfold v30
          refine Kept.in_nextId (hm.bit 13 rfl) ?_ (Nat.le_succ _)
          exact h0
        (clear_value v30; revert v30; refine Kept.seal ?_; intro v30 h31)
        extract_lets -underBinder +onlyGivenNames v32
        have h33 : KeptP M s0 v32 := by
          unfold v32
          refine keptp_ite ?_ ?_
          · refine kept_askPiece (hm.sub rfl) ?_
            exact h31
          · refine Kept.pair ?_
            exact h31
        (clear_value v32; revert v32; refine Kept.seal ?_; intro v32 h33)
        refine kept_setPlan (hm.sub rfl) ?_
        exact (KeptP.st h33)
      · rename_i w34
        refine kept_doneEvent (hm.sub rfl) ?_
        refine kept_setPlan (hm.sub rfl) ?_
        refine kept_wakeCore (hm.sub rfl) ?_
        exact h0
      · rename_i w35
        extract_lets -underBinder +onlyGivenNames v36
        (clear_value v36; revert v36; refine Kept.seal ?_; intro v36)
        extract_lets -underBinder +onlyGivenNames v37
        have h38 : Kept M s0 v37 := by
          unfold v37
          refine kept_setPlan (hm.sub rfl) ?_
          exact h0
        (clear_value v37; revert v37; refine Kept.seal ?_; intro v37 h38)
        refine kept_ite ?_ ?_
        · refine kept_doneEvent (hm.sub rfl) ?_
          exact h38
        · exact h38
      · rename_i w39 w40 w41 w42
        refine kept_doneEvent (hm.sub rfl) ?_
        refine kept_setPlan (hm.sub rfl) ?_
        exact h0

theorem kept_setSrcRecs {s : State} {b : Bytes} {src : PA} {n : ℕ} (hm : Within 0x40 M) (h0 : Kept M s0 s) :
    Kept M s0 (State.setSrcRecs s b src n) := by
  unfold State.setSrcRecs
  extract_lets -underBinder +onlyGivenNames v20
  (clear_value v20; revert v20; refine Kept.seal ?_; intro v20)
  refine kept_ite ?_ ?_
  · extract_lets -underBinder +onlyGivenNames v21
    (clear_value v21; revert v21; refine Kept.seal ?_; intro v21)
    extract_lets -underBinder +onlyGivenNames v22
    (clear_value v22; revert v22; refine Kept.seal ?_; intro v22)
    refine kept_forEach ?_ ?_
    · intro y23 y24 h25
      refine kept_setSrcRec (hm.sub rfl) ?_
      exact h25
    · exact h0
  · exact h0

theorem kept_fetchEnd {s : State} {p : Plan} {x : FetchStep} (hm : Within 0x8000000000000000000000000000000000000000000000000000000008020000002 M) (h0 : Kept M s0 s) :
    Kept M s0 (State.fetchEnd s p x) := by
  unfold State.fetchEnd
  refine kept_doneEvent (hm.sub rfl) ?_
  refine kept_setPlan (hm.sub rfl) ?_
  exact h0

theorem kept_fetchRead {s : State} {src : PA} {count : ℕ} {k : Consumer} {env : VaultEnv} (hm : Within 0x700902020700c000191700000000000000000189a00de027e M) (h0 : Kept M s0 s) :
    KeptP M s0 (State.fetchRead s src count k env) := by
  unfold State.fetchRead
  extract_lets -underBinder +onlyGivenNames v20
  (clear_value v20; revert v20; refine Kept.seal ?_; intro v20)
  refine keptp_ite ?_ ?_
  · refine Kept.pair ?_
    exact h0
  · refine keptp_ite ?_ ?_
    · refine kept_readStoredAny (hm.sub rfl) ?_
      exact h0
    · refine kept_readAny (hm.sub rfl) ?_
      exact h0

theorem kept_fetchWrite {s : State} {p : Plan} {b : Bytes} {off : ℕ} {data : Bytes} {bad : List ℕ} (hm : Within 0x2000000000007009020207000000190700000000000000000109a101e027e M) (h0 : Kept M s0 s) :
    Kept M s0 (State.fetchWrite s p b off data bad) := by
  unfold State.fetchWrite
  extract_lets -underBinder +onlyGivenNames v20
  (clear_value v20; revert v20; refine Kept.seal ?_; intro v20)
  refine kept_ite ?_ ?_
  · refine kept_getD ?_ ?_
    · refine kept_writeAny (hm.sub rfl) ?_
      exact h0
    · exact h0
  · exact h0

theorem kept_fetchDone {s : State} {u : ℕ} {no : ℕ} {env : VaultEnv} (hm : Within 0x800000200000000000700902020700c000191700000000000000000189a30de027e M) (h0 : Kept M s0 s) :
    Kept M s0 (State.fetchDone s u no env) := by
  unfold State.fetchDone
  (generalize q21 : (s.plan u) = x20; revert x20; refine Kept.seal ?_; intro x20 q21)
  split
  · rename_i w22
    exact h0
  · rename_i w23 w24
    (generalize q26 : (List.find? (fun x ↦ x.no == no) w24.issued) = x25; revert x25; refine Kept.seal ?_; intro x25 q26)
    split
    · rename_i w27
      exact h0
    · rename_i w28 w29
      extract_lets -underBinder +onlyGivenNames v30
      (clear_value v30; revert v30; refine Kept.seal ?_; intro v30)
      refine kept_ite ?_ ?_
      · exact h0
      · refine kept_ite ?_ ?_
        · refine kept_ite ?_ ?_
          · exact h0
          · extract_lets -underBinder +onlyGivenNames v31
            (clear_value v31; revert v31; refine Kept.seal ?_; intro v31)
            extract_lets -underBinder +onlyGivenNames v32
            (clear_value v32; revert v32; refine Kept.seal ?_; intro v32)
            extract_lets -underBinder +onlyGivenNames v33
            have h34 : Kept M s0 v33 := by
              unfold v33
              refine kept_ite ?_ ?_
              · refine kept_fetchWrite (hm.sub rfl) ?_
                exact h0
              · exact h0
            (clear_value v33; revert v33; refine Kept.seal ?_; intro v33 h34)
            refine kept_fetchEnd (hm.sub rfl) ?_
            refine kept_ite ?_ ?_
            · refine kept_setSrcRecs (hm.sub rfl) ?_
              exact h34
            · exact h34
        · extract_lets -underBinder +onlyGivenNames v35
          have h36 : KeptP M s0 v35 := by
            unfold v35
            refine kept_fetchRead (hm.sub rfl) ?_
            exact h0
          (clear_value v35; revert v35; refine Kept.seal ?_; intro v35 h36)
          refine kept_ite ?_ ?_
          · refine kept_readWaits (hm.sub rfl) ?_
            exact (KeptP.st h36)
          · extract_lets -underBinder +onlyGivenNames v37
            (clear_value v37; revert v37; refine Kept.seal ?_; intro v37)
            extract_lets -underBinder +onlyGivenNames v38
            have h39 : Kept M s0 v38 := by
              unfold v38
              refine kept_fetchWrite (hm.sub rfl) ?_
              exact (KeptP.st h36)
            (clear_value v38; revert v38; refine Kept.seal ?_; intro v38 h39)
            refine kept_fetchEnd (hm.sub rfl) ?_
            refine kept_ite ?_ ?_
            · refine kept_setSrcRecs (hm.sub rfl) ?_
              exact h39
            · exact h39

theorem kept_fetchPiece {s : State} {no : ℕ} {o : OwnReq} {data : Bytes} {bad : List ℕ} (hm : Within 0x2000000000007209020207000000190700000000000000000109a301eca7e M) (h0 : Kept M s0 s) :
    Kept M s0 (State.fetchPiece s no o data bad) := by
  unfold State.fetchPiece
  (generalize q21 : (List.find? (fun p ↦ p.issued.any fun x ↦ x.no == no) s.plans) = x20; revert x20; refine Kept.seal ?_; intro x20 q21)
  split
  · rename_i w22
    exact h0
  · rename_i w23 w24
    (generalize q26 : (List.find? (fun x ↦ x.no == no) w24.issued) = x25; revert x25; refine Kept.seal ?_; intro x25 q26)
    split
    · rename_i w27
      exact h0
    · rename_i w28 w29
      extract_lets -underBinder +onlyGivenNames v30
      (clear_value v30; revert v30; refine Kept.seal ?_; intro v30)
      extract_lets -underBinder +onlyGivenNames v31
      (clear_value v31; revert v31; refine Kept.seal ?_; intro v31)
      extract_lets -underBinder +onlyGivenNames v32
      (clear_value v32; revert v32; refine Kept.seal ?_; intro v32)
      extract_lets -underBinder +onlyGivenNames v33
      have h34 : Kept M s0 v33 := by
        unfold v33
        refine kept_ite ?_ ?_
        · refine kept_fetchWrite (hm.sub rfl) ?_
          exact h0
        · refine kept_fetchWrite (hm.sub rfl) ?_
          exact h0
      (clear_value v33; revert v33; refine Kept.seal ?_; intro v33 h34)
      extract_lets -underBinder +onlyGivenNames v35
      (clear_value v35; revert v35; refine Kept.seal ?_; intro v35)
      extract_lets -underBinder +onlyGivenNames v36
      have h37 : KeptP M s0 v36 := by
        unfold v36
        refine kept_askPiece (hm.sub rfl) ?_
        exact h34
      (clear_value v36; revert v36; refine Kept.seal ?_; intro v36 h37)
      refine kept_setPlan (hm.sub rfl) ?_
      exact (KeptP.st h37)

theorem kept_fetchFail {s : State} {no : ℕ} (hm : Within 0x8000002000000000007009020207000000190700000000000000000109a301e027e M) (h0 : Kept M s0 s) :
    Kept M s0 (State.fetchFail s no) := by
  unfold State.fetchFail
  (generalize q21 : (List.find? (fun p ↦ p.issued.any fun x ↦ x.no == no) s.plans) = x20; revert x20; refine Kept.seal ?_; intro x20 q21)
  split
  · rename_i w22
    exact h0
  · rename_i w23 w24
    (generalize q26 : (List.find? (fun x ↦ x.no == no) w24.issued) = x25; revert x25; refine Kept.seal ?_; intro x25 q26)
    split
    · rename_i w27
      exact h0
    · rename_i w28 w29
      extract_lets -underBinder +onlyGivenNames v30
      (clear_value v30; revert v30; refine Kept.seal ?_; intro v30)
      extract_lets -underBinder +onlyGivenNames v31
      (clear_value v31; revert v31; refine Kept.seal ?_; intro v31)
      refine kept_fetchEnd (hm.sub rfl) ?_
      refine kept_fetchWrite (hm.sub rfl) ?_
      exact h0

theorem kept_addStall {s : State} {core : ℕ} {cause : ℕ} {ns : ℕ} (hm : Within 0x40000000000000000000000000000000000000002 M) (h0 : Kept M s0 s) :
    Kept M s0 (State.addStall s core cause ns) := by
  unfold State.addStall
  extract_lets -underBinder +onlyGivenNames v20
  have h21 : Kept M s0 v20 := by
    unfold v20
    refine Kept.addF (hm.bit 1 rfl) (reach_CAN_STALL (hm.bit 162 rfl)) ?_
    exact h0
  (clear_value v20; revert v20; refine Kept.seal ?_; intro v20 h21)
  refine kept_ite ?_ ?_
  · refine Kept.addF (hm.bit 1 rfl) (reach_CAN_STALL (hm.bit 162 rfl)) ?_
    exact h21
  · exact h21

theorem kept_endStall {s : State} {n : ℕ} (hm : Within 0x40000000 M) (h0 : Kept M s0 s) :
    Kept M s0 (State.endStall s n) := by
  unfold State.endStall
  refine Kept.in_stalls (hm.bit 30 rfl) ?_
  exact h0

theorem kept_kernelTick {s : State} {n : ℕ} (hm : Within 0x40000000000000000000000000000000041000002 M) (h0 : Kept M s0 s) :
    Kept M s0 (State.kernelTick s n) := by
  unfold State.kernelTick
  extract_lets -underBinder +onlyGivenNames v20
  (clear_value v20; revert v20; refine Kept.seal ?_; intro v20)
  (generalize q22 : (v20.running) = x21; revert x21; refine Kept.seal ?_; intro x21 q22)
  split
  · rename_i w23
    exact h0
  · rename_i w24 w25
    (generalize q27 : (w25.waits) = x26; revert x26; refine Kept.seal ?_; intro x26 q27)
    split
    · rename_i w28
      exact h0
    · rename_i w29 w30 w31
      refine kept_ite ?_ ?_
      · refine kept_setCore (hm.sub rfl) ?_
        exact h0
      · refine kept_ite ?_ ?_
        · refine kept_endStall (hm.sub rfl) ?_
          refine kept_setCore (hm.sub rfl) ?_
          exact h0
        · (generalize q33 : (s.stallCause ↑w30.event) = x32; revert x32; refine Kept.seal ?_; intro x32 q33)
          split
          · rename_i w34
            refine kept_endStall (hm.sub rfl) ?_
            exact h0
          · rename_i w35 w36 w37 w38
            extract_lets -underBinder +onlyGivenNames v39
            have h40 : Kept M s0 v39 := by
              unfold v39
              refine kept_addStall (hm.sub rfl) ?_
              exact h0
            (clear_value v39; revert v39; refine Kept.seal ?_; intro v39 h40)
            refine kept_ite ?_ ?_
            · exact h40
            · refine Kept.in_stalls (hm.bit 30 rfl) ?_
              exact h40

theorem kept_stallTimeout {s : State} {core : ℕ} (hm : Within 0x7200000000000000010700000000000000000109a40040a02 M) (h0 : Kept M s0 s) :
    Kept M s0 (State.stallTimeout s core) := by
  unfold State.stallTimeout
  (generalize q21 : (s.stallOf core) = x20; revert x20; refine Kept.seal ?_; intro x20 q21)
  split
  · rename_i w22
    exact h0
  · rename_i w23 w24
    (generalize q26 : (s.stallCause w24.event) = x25; revert x25; refine Kept.seal ?_; intro x25 q26)
    split
    · rename_i w27
      exact h0
    · rename_i w28 w29 w30 w31
      refine kept_ite ?_ ?_
      · exact h0
      · refine kept_noticeTo (hm.sub rfl) ?_
        refine Kept.in_stalls (hm.bit 30 rfl) ?_
        exact h0

theorem kept_underPlan {s : State} {u : ℕ} {g : State → State} (hm : Within 0x100 M) (h0 : Kept M s0 s) (h1 : ∀ c1_0, Kept M s0 c1_0 → Kept M s0 (g c1_0)) :
    Kept M s0 (State.underPlan s u g) := by
  unfold State.underPlan
  (generalize q21 : (s.plan u) = x20; revert x20; refine Kept.seal ?_; intro x20 q21)
  split
  · rename_i w22 w23
    refine kept_under (hm.sub rfl) ?_ ?_
    · exact h0
    · intro y24 h25
      refine h1 _ ?_
      exact h25
  · rename_i w26
    refine h1 _ ?_
    exact h0

theorem kept_execCorePlanStart {n : Fin 16} {id : W32} {s : State} (hm : Within 0x20002000 M) (h0 : Kept M s0 s) :
    KeptE M s0 (execCorePlanStart n id s) := by
  unfold execCorePlanStart
  refine kepte_next ?_
  refine kept_getD ?_ ?_
  · refine kept_startPlan (hm.sub rfl) ?_
    exact h0
  · exact h0

theorem kept_execStreamStepIssue {plan : ℕ} {s : State} (hm : Within 0x8000000000000000007200000000000000010700000000000000000109a2104eb02 M) (h0 : Kept M s0 s) :
    KeptE M s0 (execStreamStepIssue plan s) := by
  unfold execStreamStepIssue
  refine kepte_next ?_
  refine kept_underPlan (hm.sub rfl) ?_ ?_
  · exact h0
  · intro y20 h21
    refine kept_stepIssue (hm.sub rfl) ?_
    exact h21

theorem kept_execFetchDone {plan : ℕ} {no : ℕ} {env : VaultEnv} {s : State} (hm : Within 0x800000200000000000700902020700c000191700000000000000000189a30de037e M) (h0 : Kept M s0 s) :
    KeptE M s0 (execFetchDone plan no env s) := by
  unfold execFetchDone
  refine kepte_next ?_
  refine kept_underPlan (hm.sub rfl) ?_ ?_
  · exact h0
  · intro y20 h21
    refine kept_fetchDone (hm.sub rfl) ?_
    exact h21

theorem kept_execStallTimeout {core : Fin 16} {s : State} (hm : Within 0x7200000000000000010700000000000000000109a40040a02 M) (h0 : Kept M s0 s) :
    KeptE M s0 (execStallTimeout core s) := by
  unfold execStallTimeout
  refine kepte_next ?_
  refine kept_stallTimeout (hm.sub rfl) ?_
  exact h0

end Sys2Proof.Machine
end

