-- ==== Sys2Proof/Laws/Kept/Suspects.lean ====
section
/-! SUPPORT. What the operations of Suspects may write: each keeps its footprint. -/

namespace Sys2Proof.Machine

variable {M : Nat} {s0 : State}

theorem kept_testNotice {s : State} {core : ℕ} {kind : ℕ} {outcome : ℕ} {which : ℕ} {index : ℕ} {start : ℕ} (hm : Within 0x7200000000000000010700000000000000000109a00040a02 M) (h0 : Kept M s0 s) :
    Kept M s0 (State.testNotice s core kind outcome which index start) := by
  unfold State.testNotice
  refine kept_noticeTo (hm.sub rfl) ?_
  exact h0

theorem kept_markSuspect {s : State} {n : ℕ} (hm : Within 0x100000000000000000000000000000000000000000000000000000000000000000000000000002 M) (h0 : Kept M s0 s) :
    Kept M s0 (State.markSuspect s n) := by
  unfold State.markSuspect
  refine Kept.setF (hm.bit 1 rfl) (reach_TST_CORE_STS (hm.bit 308 rfl)) ?_
  exact h0

theorem kept_engineOk {s : State} {n : ℕ} (hm : Within 0x100000000000000000000000000000000000000000000000000000000000000000000000000002 M) (h0 : Kept M s0 s) :
    Kept M s0 (State.engineOk s n) := by
  unfold State.engineOk
  refine Kept.setF (hm.bit 1 rfl) (reach_TST_CORE_STS (hm.bit 308 rfl)) ?_
  exact h0

theorem kept_openSuspect {s : State} {kind : ℕ} {a : ℕ} {b : ℕ} {tag : Tag} {kernel : ℕ} {pass : ℕ} {block : ℕ} {crcA : ℕ} {crcB : ℕ} (hm : Within 0x78000000000000000000000000000000000000000000000000000000000000000000000000002 M) (h0 : Kept M s0 s) :
    KeptP M s0 (State.openSuspect s kind a b tag kernel pass block crcA crcB) := by
  unfold State.openSuspect
  (generalize q21 : (s.suspectPlace) = x20; revert x20; refine Kept.seal ?_; intro x20 q21)
  split
  · rename_i w22
    refine Kept.pair ?_
    exact h0
  · rename_i w23 w24
    extract_lets -underBinder +onlyGivenNames v25
    have h26 : Kept M s0 v25 := by
      unfold v25
      refine Kept.setReg (hm.bit 1 rfl) (reach_TST_SUSPECT (hm.bit 303 rfl)) ?_
      exact h0
    (clear_value v25; revert v25; refine Kept.seal ?_; intro v25 h26)
    extract_lets -underBinder +onlyGivenNames v27
    have h28 : Kept M s0 v27 := by
      unfold v27
      refine Kept.setReg (hm.bit 1 rfl) (reach_TST_SUSPECT_PASS (hm.bit 304 rfl)) ?_
      exact h26
    (clear_value v27; revert v27; refine Kept.seal ?_; intro v27 h28)
    extract_lets -underBinder +onlyGivenNames v29
    have h30 : Kept M s0 v29 := by
      unfold v29
      refine Kept.setReg (hm.bit 1 rfl) (reach_TST_SUSPECT_CRC (hm.bit 305 rfl)) ?_
      exact h28
    (clear_value v29; revert v29; refine Kept.seal ?_; intro v29 h30)
    refine Kept.pair ?_
    refine Kept.setReg (hm.bit 1 rfl) (reach_TST_SUSPECT_COUNT (hm.bit 306 rfl)) ?_
    exact h30

theorem kept_capture {s : State} {h : CaptureHead} {b : BlockOps} {suspect : ℕ} {start : ℕ} (hm : Within 0x1010000000000002000000000007208020207000000190700000000000000000109a181e0a7e M) (h0 : Kept M s0 s) :
    Kept M s0 (State.capture s h b suspect start) := by
  unfold State.capture
  extract_lets -underBinder +onlyGivenNames v20
  (clear_value v20; revert v20; refine Kept.seal ?_; intro v20)
  extract_lets -underBinder +onlyGivenNames v21
  (clear_value v21; revert v21; refine Kept.seal ?_; intro v21)
  refine kept_ite ?_ ?_
  · exact h0
  · refine kept_ite ?_ ?_
    · extract_lets -underBinder +onlyGivenNames v22
      have h23 : Kept M s0 v22 := by
        unfold v22
        refine Kept.addF (hm.bit 1 rfl) (reach_TST_QUAR_DROPS (hm.bit 300 rfl)) ?_
        exact h0
      (clear_value v22; revert v22; refine Kept.seal ?_; intro v22 h23)
      refine kept_ite ?_ ?_
      · exact h23
      · refine kept_ledger (hm.sub rfl) ?_
        refine Kept.in_silent (hm.bit 27 rfl) ?_ (Kept.seal) (Kept.seal)
        exact h23
    · extract_lets -underBinder +onlyGivenNames v24
      (clear_value v24; revert v24; refine Kept.seal ?_; intro v24)
      extract_lets -underBinder +onlyGivenNames v25
      have h26 : Kept M s0 v25 := by
        unfold v25
        refine kept_writeRange (hm.sub rfl) ?_
        exact h0
      (clear_value v25; revert v25; refine Kept.seal ?_; intro v25 h26)
      refine kept_testNotice (hm.sub rfl) ?_
      refine Kept.setF (hm.bit 1 rfl) (reach_TST_QUAR (hm.bit 292 rfl)) ?_
      exact h26

theorem kept_diagResult {s : State} {i : ℕ} {result : ℕ} {start : ℕ} {yt : Option ℕ} (hm : Within 0x108020000000000000000000000007200000000000000010700000002200000000109a00040b82 M) (h0 : Kept M s0 s) :
    Kept M s0 (State.diagResult s i result start yt) := by
  unfold State.diagResult
  extract_lets -underBinder +onlyGivenNames v20
  (clear_value v20; revert v20; refine Kept.seal ?_; intro v20)
  extract_lets -underBinder +onlyGivenNames v21
  (clear_value v21; revert v21; refine Kept.seal ?_; intro v21)
  extract_lets -underBinder +onlyGivenNames v22
  (clear_value v22; revert v22; refine Kept.seal ?_; intro v22)
  extract_lets -underBinder +onlyGivenNames v23
  (clear_value v23; revert v23; refine Kept.seal ?_; intro v23)
  extract_lets -underBinder +onlyGivenNames v24
  have h25 : Kept M s0 v24 := by
    unfold v24
    refine Kept.setF (hm.bit 1 rfl) (reach_TST_SUSPECT (hm.bit 303 rfl)) ?_
    exact h0
  (clear_value v24; revert v24; refine Kept.seal ?_; intro v24 h25)
  extract_lets -underBinder +onlyGivenNames v26
  have h27 : Kept M s0 v26 := by
    unfold v26
    refine Kept.setF (hm.bit 1 rfl) (reach_TST_DIAG_CTL (hm.bit 293 rfl)) ?_
    exact h25
  (clear_value v26; revert v26; refine Kept.seal ?_; intro v26 h27)
  extract_lets -underBinder +onlyGivenNames v28
  have h29 : Kept M s0 v28 := by
    unfold v28
    refine kept_addFence (hm.sub rfl) ?_
    exact h27
  (clear_value v28; revert v28; refine Kept.seal ?_; intro v28 h29)
  extract_lets -underBinder +onlyGivenNames v30
  have h31 : Kept M s0 v30 := by
    unfold v30
    refine kept_ite ?_ ?_
    · refine kept_ite ?_ ?_
      · refine kept_engineOk (hm.sub rfl) ?_
        exact h29
      · exact h29
    · refine kept_ite ?_ ?_
      · refine kept_engineOk (hm.sub rfl) ?_
        exact h27
      · refine kept_ite ?_ ?_
        · refine kept_ite ?_ ?_
          · refine kept_engineOk (hm.sub rfl) ?_
            refine kept_engineOk (hm.sub rfl) ?_
            exact h27
          · refine kept_engineOk (hm.sub rfl) ?_
            exact h27
        · exact h27
  (clear_value v30; revert v30; refine Kept.seal ?_; intro v30 h31)
  extract_lets -underBinder +onlyGivenNames v32
  have h33 : Kept M s0 v32 := by
    unfold v32
    refine kept_ledger (hm.sub rfl) ?_
    exact h31
  (clear_value v32; revert v32; refine Kept.seal ?_; intro v32 h33)
  refine kept_testNotice (hm.sub rfl) ?_
  exact h33

theorem kept_setShadow {s : State} {x : Shadow} (hm : Within 0x8000000 M) (h0 : Kept M s0 s) :
    Kept M s0 (State.setShadow s x) := by
  unfold State.setShadow
  refine Kept.in_silent (hm.bit 27 rfl) ?_ (Kept.seal) (Kept.seal)
  exact h0

theorem kept_dropShadow {s : State} {core : ℕ} (hm : Within 0x9000000 M) (h0 : Kept M s0 s) :
    Kept M s0 (State.dropShadow s core) := by
  unfold State.dropShadow
  (generalize q21 : (s.shadowOf core) = x20; revert x20; refine Kept.seal ?_; intro x20 q21)
  split
  · rename_i w22
    exact h0
  · rename_i w23 w24
    extract_lets -underBinder +onlyGivenNames v25
    (clear_value v25; revert v25; refine Kept.seal ?_; intro v25)
    extract_lets -underBinder +onlyGivenNames v26
    (clear_value v26; revert v26; refine Kept.seal ?_; intro v26)
    extract_lets -underBinder +onlyGivenNames v27
    have h28 : Kept M s0 v27 := by
      unfold v27
      refine kept_setCore (hm.sub rfl) ?_
      exact h0
    (clear_value v27; revert v27; refine Kept.seal ?_; intro v27 h28)
    refine Kept.in_silent (hm.bit 27 rfl) ?_ (Kept.seal) (Kept.seal)
    exact h28

theorem kept_shadowEnd {s : State} {core : ℕ} (hm : Within 0x108020000000000000000000000007200000000000000010700000002200000000109a09040b82 M) (h0 : Kept M s0 s) :
    Kept M s0 (State.shadowEnd s core) := by
  unfold State.shadowEnd
  (generalize q21 : (s.shadowOf core) = x20; revert x20; refine Kept.seal ?_; intro x20 q21)
  split
  · rename_i w22
    exact h0
  · rename_i w23 w24
    extract_lets -underBinder +onlyGivenNames v25
    have h26 : Kept M s0 v25 := by
      unfold v25
      refine kept_dropShadow (hm.sub rfl) ?_
      exact h0
    (clear_value v25; revert v25; refine Kept.seal ?_; intro v25 h26)
    (generalize q28 : (w24.diag) = x27; revert x27; refine Kept.seal ?_; intro x27 q28)
    split
    · rename_i w29 w30
      refine kept_ite ?_ ?_
      · refine kept_diagResult (hm.sub rfl) ?_
        exact h26
      · exact h26
    · rename_i w31
      exact h26

end Sys2Proof.Machine
end

