-- ==== Sys2Proof/Laws/Kept/Kernels.lean ====
section
/-! SUPPORT. What the operations of Kernels may write: each keeps its footprint. -/

namespace Sys2Proof.Machine

variable {M : Nat} {s0 : State}

theorem kept_dqPost {s : State} {n : ℕ} {desc : Bytes} {p : Producer} (hm : Within 0x1002000 M) (h0 : Kept M s0 s) :
    KeptO M s0 (State.dqPost s n desc p) := by
  unfold State.dqPost
  extract_lets -underBinder +onlyGivenNames v20
  (clear_value v20; revert v20; refine Kept.seal ?_; intro v20)
  refine kepto_ite ?_ ?_
  · refine kepto_some ?_
    refine kept_nextReq (hm.sub rfl) ?_
    refine kept_setCore (hm.sub rfl) ?_
    exact h0
  · exact kepto_none

theorem kept_planAtFetch {s : State} {n : ℕ} {d : Bytes} (hm : Within 0x20002000 M) (h0 : Kept M s0 s) :
    KeptO M s0 (State.planAtFetch s n d) := by
  unfold State.planAtFetch
  refine kepto_ite ?_ ?_
  · refine kepto_some ?_
    exact h0
  · refine kept_startPlan (hm.sub rfl) ?_
    exact h0

theorem kept_swFetch {s : State} {n : ℕ} (hm : Within 0x400000000000000700902020700c000191700000000000000000189a21de227e M) (h0 : Kept M s0 s) :
    Kept M s0 (State.swFetch s n) := by
  unfold State.swFetch
  extract_lets -underBinder +onlyGivenNames v20
  (clear_value v20; revert v20; refine Kept.seal ?_; intro v20)
  extract_lets -underBinder +onlyGivenNames v21
  (clear_value v21; revert v21; refine Kept.seal ?_; intro v21)
  extract_lets -underBinder +onlyGivenNames v22
  (clear_value v22; revert v22; refine Kept.seal ?_; intro v22)
  refine kept_ite ?_ ?_
  · exact h0
  · refine kept_ite ?_ ?_
    · refine kept_ledger (hm.sub rfl) ?_
      refine Kept.setF (hm.bit 1 rfl) (reach_CORE_Q_CFG (hm.bit 254 rfl)) ?_
      exact h0
    · extract_lets -underBinder +onlyGivenNames v23
      have h24 : KeptP M s0 v23 := by
        unfold v23
        refine kept_readAny (hm.sub rfl) ?_
        exact h0
      (clear_value v23; revert v23; refine Kept.seal ?_; intro v23 h24)
      refine kept_ite ?_ ?_
      · refine kept_readWaits (hm.sub rfl) ?_
        exact (KeptP.st h24)
      · extract_lets -underBinder +onlyGivenNames v25
        (clear_value v25; revert v25; refine Kept.seal ?_; intro v25)
        (generalize q27 : (if v25 = Bool.true then Option.some v23.1 else v23.1.planAtFetch n v23.2.data) = x26; revert x26; refine Kept.seal ?_; intro x26 q27)
        have h28 : KeptO M s0 x26 := by
          rw [← q27]
          refine kepto_ite ?_ ?_
          · refine kepto_some ?_
            exact (KeptP.st h24)
          · refine kept_planAtFetch (hm.sub rfl) ?_
            exact (KeptP.st h24)
        split
        · rename_i w29
          exact h0
        · rename_i w30 w31
          refine kept_wakeCore (hm.sub rfl) ?_
          refine kept_nextReq (hm.sub rfl) ?_
          refine kept_setCore (hm.sub rfl) ?_
          exact (KeptO.get rfl h28)

theorem kept_dqFetch {s : State} {n : ℕ} (hm : Within 0x21002000 M) (h0 : Kept M s0 s) :
    Kept M s0 (State.dqFetch s n) := by
  unfold State.dqFetch
  extract_lets -underBinder +onlyGivenNames v20
  (clear_value v20; revert v20; refine Kept.seal ?_; intro v20)
  (generalize q22 : (v20.dqHead) = x21; revert x21; refine Kept.seal ?_; intro x21 q22)
  (generalize q24 : (v20.dq) = x23; revert x23; refine Kept.seal ?_; intro x23 q24)
  split
  · rename_i w25 w26 w27 w28
    extract_lets -underBinder +onlyGivenNames v29
    (clear_value v29; revert v29; refine Kept.seal ?_; intro v29)
    (generalize q31 : (if v29 = Bool.true then Option.some s else s.planAtFetch n w27.desc) = x30; revert x30; refine Kept.seal ?_; intro x30 q31)
    have h32 : KeptO M s0 x30 := by
      rw [← q31]
      refine kepto_ite ?_ ?_
      · refine kepto_some ?_
        exact h0
      · refine kept_planAtFetch (hm.sub rfl) ?_
        exact h0
    split
    · rename_i w33
      exact h0
    · rename_i w34 w35
      refine kept_wakeCore (hm.sub rfl) ?_
      refine kept_setCore (hm.sub rfl) ?_
      exact (KeptO.get rfl h32)
  · rename_i w36 w37 w38
    exact h0

theorem kept_descFetch {s : State} {n : ℕ} {fromDq : Bool} (hm : Within 0x400000000000000700902020700c000191700000000000000000189a21de227e M) (h0 : Kept M s0 s) :
    Kept M s0 (State.descFetch s n fromDq) := by
  unfold State.descFetch
  refine kept_ite ?_ ?_
  · exact h0
  · refine kept_ite ?_ ?_
    · refine kept_dqFetch (hm.sub rfl) ?_
      exact h0
    · refine kept_swFetch (hm.sub rfl) ?_
      exact h0

theorem kept_eccFound {s : State} {n : ℕ} {l : List (Bool × Fin 8)} (hm : Within 0x1000000 M) (h0 : Kept M s0 s) :
    Kept M s0 (State.eccFound s n l) := by
  unfold State.eccFound
  extract_lets -underBinder +onlyGivenNames v20
  (clear_value v20; revert v20; refine Kept.seal ?_; intro v20)
  extract_lets -underBinder +onlyGivenNames v21
  (clear_value v21; revert v21; refine Kept.seal ?_; intro v21)
  refine kept_ite ?_ ?_
  · exact h0
  · refine kept_setCore (hm.sub rfl) ?_
    exact h0

theorem kept_shareLost {s : State} {lead : ℕ} {n : ℕ} (hm : Within 0x1000000 M) (h0 : Kept M s0 s) :
    Kept M s0 (State.shareLost s lead n) := by
  unfold State.shareLost
  extract_lets -underBinder +onlyGivenNames v20
  (clear_value v20; revert v20; refine Kept.seal ?_; intro v20)
  (generalize q22 : (v20.running) = x21; revert x21; refine Kept.seal ?_; intro x21 q22)
  split
  · rename_i w23 w24
    (generalize q26 : (w24.exp) = x25; revert x25; refine Kept.seal ?_; intro x25 q26)
    split
    · rename_i w27 w28
      refine kept_setCore (hm.sub rfl) ?_
      exact h0
    · rename_i w29
      exact h0
  · rename_i w30
    exact h0

theorem kept_kernelEnds {s : State} {n : ℕ} {x : Fetched} {armed : Bool} {late : Bool} {trusted : Bool} {e : KernelFin} (hm : Within 0x49240002000000000007208020207000000190700000000000000000109a111e0a7e M) (h0 : Kept M s0 s) :
    Kept M s0 (State.kernelEnds s n x armed late trusted e) := by
  unfold State.kernelEnds
  extract_lets -underBinder +onlyGivenNames v20
  (clear_value v20; revert v20; refine Kept.seal ?_; intro v20)
  extract_lets -underBinder +onlyGivenNames v21
  (clear_value v21; revert v21; refine Kept.seal ?_; intro v21)
  extract_lets -underBinder +onlyGivenNames v22
  (clear_value v22; revert v22; refine Kept.seal ?_; intro v22)
  extract_lets -underBinder +onlyGivenNames v23
  (clear_value v23; revert v23; refine Kept.seal ?_; intro v23)
  extract_lets -underBinder +onlyGivenNames v24
  have h25 : Kept M s0 v24 := by
    unfold v24
    (generalize q27 : (x.producer) = x26; revert x26; refine Kept.seal ?_; intro x26 q27)
    split
    · rename_i w28
      refine kept_writeRange (hm.sub rfl) ?_
      exact h0
    · rename_i w29 w30
      refine kept_ite ?_ ?_
      · exact h0
      · refine kept_shareLost (hm.sub rfl) ?_
        exact h0
    · rename_i w31 w32
      exact h0
  (clear_value v24; revert v24; refine Kept.seal ?_; intro v24 h25)
  extract_lets -underBinder +onlyGivenNames v33
  have h34 : Kept M s0 v33 := by
    unfold v33
    refine Kept.setReg (hm.bit 1 rfl) (reach_CORE_LAST (hm.bit 258 rfl)) ?_
    exact h25
  (clear_value v33; revert v33; refine Kept.seal ?_; intro v33 h34)
  extract_lets -underBinder +onlyGivenNames v35
  have h36 : Kept M s0 v35 := by
    unfold v35
    refine Kept.addF (hm.bit 1 rfl) (reach_CORE_KERNELS (hm.bit 261 rfl)) ?_
    exact h34
  (clear_value v35; revert v35; refine Kept.seal ?_; intro v35 h36)
  refine kept_ite ?_ ?_
  · exact h36
  · extract_lets -underBinder +onlyGivenNames v37
    have h38 : Kept M s0 v37 := by
      unfold v37
      refine kept_ite ?_ ?_
      · refine kept_slotReady (hm.sub rfl) ?_
        exact h36
      · exact h36
    (clear_value v37; revert v37; refine Kept.seal ?_; intro v37 h38)
    extract_lets -underBinder +onlyGivenNames v39
    have h40 : Kept M s0 v39 := by
      unfold v39
      refine kept_doneEvent (hm.sub rfl) ?_
      exact h38
    (clear_value v39; revert v39; refine Kept.seal ?_; intro v39 h40)
    extract_lets -underBinder +onlyGivenNames v41
    have h42 : Kept M s0 v41 := by
      unfold v41
      refine kept_ite ?_ ?_
      · refine kept_arrive (hm.sub rfl) ?_
        exact h40
      · exact h40
    (clear_value v41; revert v41; refine Kept.seal ?_; intro v41 h42)
    refine kept_ite ?_ ?_
    · refine kept_sendNotice (hm.sub rfl) ?_
      exact h42
    · exact h42

theorem kept_leaveQueue {s : State} {n : ℕ} {fromDq : Bool} (hm : Within 0x10000000000000000000000000000000000000000000000000000000001000002 M) (h0 : Kept M s0 s) :
    Kept M s0 (State.leaveQueue s n fromDq) := by
  unfold State.leaveQueue
  extract_lets -underBinder +onlyGivenNames v20
  (clear_value v20; revert v20; refine Kept.seal ?_; intro v20)
  refine kept_ite ?_ ?_
  · refine kept_setCore (hm.sub rfl) ?_
    exact h0
  · refine Kept.addF (hm.bit 1 rfl) (reach_CORE_Q_HEAD (hm.bit 256 rfl)) ?_
    refine kept_setCore (hm.sub rfl) ?_
    exact h0

theorem kept_refuse {s : State} {n : ℕ} {fromDq : Bool} {x : Fetched} {code : ℕ} {addr : ℕ} (hm : Within 0x49250002000000000007208020207000000190700000000000000000109a111e0a7e M) (h0 : Kept M s0 s) :
    Kept M s0 (State.refuse s n fromDq x code addr) := by
  unfold State.refuse
  extract_lets -underBinder +onlyGivenNames v20
  (clear_value v20; revert v20; refine Kept.seal ?_; intro v20)
  extract_lets -underBinder +onlyGivenNames v21
  (clear_value v21; revert v21; refine Kept.seal ?_; intro v21)
  extract_lets -underBinder +onlyGivenNames v22
  have h23 : Kept M s0 v22 := by
    unfold v22
    refine kept_leaveQueue (hm.sub rfl) ?_
    exact h0
  (clear_value v22; revert v22; refine Kept.seal ?_; intro v22 h23)
  extract_lets -underBinder +onlyGivenNames v24
  (clear_value v24; revert v24; refine Kept.seal ?_; intro v24)
  extract_lets -underBinder +onlyGivenNames v25
  have h26 : Kept M s0 v25 := by
    unfold v25
    refine kept_setCore (hm.sub rfl) ?_
    exact h23
  (clear_value v25; revert v25; refine Kept.seal ?_; intro v25 h26)
  extract_lets -underBinder +onlyGivenNames v27
  have h28 : Kept M s0 v27 := by
    unfold v27
    refine kept_ledger (hm.sub rfl) ?_
    exact h26
  (clear_value v27; revert v27; refine Kept.seal ?_; intro v27 h28)
  extract_lets -underBinder +onlyGivenNames v29
  have h30 : Kept M s0 v29 := by
    unfold v29
    split
    · rename_i w31 w32
      refine kept_slotArm (hm.sub rfl) ?_
      exact h28
    · rename_i w33
      exact h28
  (clear_value v29; revert v29; refine Kept.seal ?_; intro v29 h30)
  refine kept_kernelEnds (hm.sub rfl) ?_
  exact h30

theorem kept_cxBreak {s : State} {n : ℕ} {cause : ℕ} (hm : Within 0x7000000000000000010700060000000000000109a01040202 M) (h0 : Kept M s0 s) :
    Kept M s0 (State.cxBreak s n cause) := by
  unfold State.cxBreak
  extract_lets -underBinder +onlyGivenNames v20
  (clear_value v20; revert v20; refine Kept.seal ?_; intro v20)
  (generalize q22 : (v20.running) = x21; revert x21; refine Kept.seal ?_; intro x21 q22)
  split
  · rename_i w23 w24
    refine kept_ite ?_ ?_
    · extract_lets -underBinder +onlyGivenNames v25
      have h26 : Kept M s0 v25 := by
        unfold v25
        refine kept_setCore (hm.sub rfl) ?_
        exact h0
      (clear_value v25; revert v25; refine Kept.seal ?_; intro v25 h26)
      extract_lets -underBinder +onlyGivenNames v27
      have h28 : Kept M s0 v27 := by
        unfold v27
        refine Kept.setF (hm.bit 1 rfl) (reach_DET_CX_STS (hm.bit 101 rfl)) ?_
        refine Kept.setF (hm.bit 1 rfl) (reach_DET_CX_STS (hm.bit 101 rfl)) ?_
        exact h26
      (clear_value v27; revert v27; refine Kept.seal ?_; intro v27 h28)
      extract_lets -underBinder +onlyGivenNames v29
      have h30 : Kept M s0 v29 := by
        unfold v29
        refine Kept.addF (hm.bit 1 rfl) (reach_DET_CX_BROKEN (hm.bit 102 rfl)) ?_
        refine Kept.setBit (hm.bit 1 rfl) (reach_DET_CX_STS (hm.bit 101 rfl)) ?_
        exact h28
      (clear_value v29; revert v29; refine Kept.seal ?_; intro v29 h30)
      refine kept_ledger (hm.sub rfl) ?_
      exact h30
    · exact h0
  · rename_i w31
    exact h0

theorem kept_cxCounts {s : State} {n : ℕ} {r : Running} {cycles : ℕ} {wait : ℕ} (hm : Within 0x1c00000000000000000000000002 M) (h0 : Kept M s0 s) :
    Kept M s0 (State.cxCounts s n r cycles wait) := by
  unfold State.cxCounts
  refine kept_ite ?_ ?_
  · extract_lets -underBinder +onlyGivenNames v20
    have h21 : Kept M s0 v20 := by
      unfold v20
      refine Kept.setF (hm.bit 1 rfl) (reach_DET_CX_WAIT (hm.bit 107 rfl)) ?_
      refine Kept.setF (hm.bit 1 rfl) (reach_DET_CX_CYCLES (hm.bit 106 rfl)) ?_
      exact h0
    (clear_value v20; revert v20; refine Kept.seal ?_; intro v20 h21)
    refine Kept.setF (hm.bit 1 rfl) (reach_DET_CX_KERNEL (hm.bit 108 rfl)) ?_
    refine Kept.setF (hm.bit 1 rfl) (reach_DET_CX_KERNEL (hm.bit 108 rfl)) ?_
    exact h21
  · exact h0

theorem kept_launch {s : State} {n : ℕ} {fromDq : Bool} {x : Fetched} {kc : KCode} (hm : Within 0x108020000049a50002000000000007208020207000000190700060002200000000109a191e0bfe M) (h0 : Kept M s0 s) :
    Kept M s0 (State.launch s n fromDq x kc) := by
  unfold State.launch
  (generalize q21 : (s.kCheck n x kc) = x20; revert x20; refine Kept.seal ?_; intro x20 q21)
  split
  · rename_i w22 w23 w24
    refine kept_refuse (hm.sub rfl) ?_
    refine kept_shadowEnd (hm.sub rfl) ?_
    exact h0
  · rename_i w25
    extract_lets -underBinder +onlyGivenNames v26
    (clear_value v26; revert v26; refine Kept.seal ?_; intro v26)
    extract_lets -underBinder +onlyGivenNames v27
    (clear_value v27; revert v27; refine Kept.seal ?_; intro v27)
    extract_lets -underBinder +onlyGivenNames v28
    (clear_value v28; revert v28; refine Kept.seal ?_; intro v28)
    extract_lets -underBinder +onlyGivenNames v29
    have h30 : Kept M s0 v29 := by
      unfold v29
      refine kept_leaveQueue (hm.sub rfl) ?_
      exact h0
    (clear_value v29; revert v29; refine Kept.seal ?_; intro v29 h30)
    extract_lets -underBinder +onlyGivenNames v31
    have h32 : Kept M s0 v31 := by
      unfold v31
      split
      · rename_i w33 w34
        refine kept_slotArm (hm.sub rfl) ?_
        exact h30
      · rename_i w35
        exact h30
    (clear_value v31; revert v31; refine Kept.seal ?_; intro v31 h32)
    extract_lets -underBinder +onlyGivenNames v36
    have h37 : Kept M s0 v36 := by
      unfold v36
      refine kept_ite ?_ ?_
      · refine Kept.addF (hm.bit 1 rfl) (reach_CORE_LATE (hm.bit 263 rfl)) ?_
        exact h32
      · exact h32
    (clear_value v36; revert v36; refine Kept.seal ?_; intro v36 h37)
    extract_lets -underBinder +onlyGivenNames v38
    (clear_value v38; revert v38; refine Kept.seal ?_; intro v38)
    extract_lets -underBinder +onlyGivenNames v39
    (clear_value v39; revert v39; refine Kept.seal ?_; intro v39)
    extract_lets -underBinder +onlyGivenNames v40
    (clear_value v40; revert v40; refine Kept.seal ?_; intro v40)
    extract_lets -underBinder +onlyGivenNames v41
    have h42 : Kept M s0 v41 := by
      unfold v41
      refine kept_setCore (hm.sub rfl) ?_
      exact h37
    (clear_value v41; revert v41; refine Kept.seal ?_; intro v41 h42)
    refine kept_ite ?_ ?_
    · refine kept_cxBreak (hm.sub rfl) ?_
      exact h42
    · exact h42

theorem kept_setExact {s : State} {n : ℕ} {l : ℕ} {a : ExactAcc} (hm : Within 0x4000000 M) (h0 : Kept M s0 s) :
    Kept M s0 (State.setExact s n l a) := by
  unfold State.setExact
  refine Kept.in_exacts (hm.bit 26 rfl) ?_ (Sparse.wf_put)
  exact h0

theorem kept_leaveCore {s : State} {n : ℕ} (hm : Within 0x108020000000000000000000000007200000000000000010700000002200000000109a49040b82 M) (h0 : Kept M s0 s) :
    Kept M s0 (State.leaveCore s n) := by
  unfold State.leaveCore
  extract_lets -underBinder +onlyGivenNames v20
  have h21 : Kept M s0 v20 := by
    unfold v20
    refine kept_shadowEnd (hm.sub rfl) ?_
    exact h0
  (clear_value v20; revert v20; refine Kept.seal ?_; intro v20 h21)
  refine kept_endStall (hm.sub rfl) ?_
  refine kept_setCore (hm.sub rfl) ?_
  exact h21

theorem kept_kernelFinish {s : State} {n : ℕ} {r : Running} {e : KernelFin} (hm : Within 0x108020000049240002000000000007208020207000000190700000002200000000109a591e0bfe M) (h0 : Kept M s0 s) :
    Kept M s0 (State.kernelFinish s n r e) := by
  unfold State.kernelFinish
  refine kept_kernelEnds (hm.sub rfl) ?_
  refine kept_leaveCore (hm.sub rfl) ?_
  exact h0

theorem kept_dataCheck {s : State} {n : ℕ} {tag : Tag} {a : PA} {len : ℕ} (hm : Within 0x700902020700c000191700000000000000000189a00de027e M) (h0 : Kept M s0 s) :
    KeptP M s0 (State.dataCheck s n tag a len) := by
  unfold State.dataCheck
  extract_lets -underBinder +onlyGivenNames v20
  have h21 : KeptP M s0 v20 := by
    unfold v20
    refine kept_readAny (hm.sub rfl) ?_
    exact h0
  (clear_value v20; revert v20; refine Kept.seal ?_; intro v20 h21)
  refine Kept.pair ?_
  exact (KeptP.st h21)

theorem kept_poisonRanges {s : State} {l : List (PA × ℕ)} (hm : Within 0x2000000000000008000000000000000000000000000000000000010180016 M) (h0 : Kept M s0 s) :
    Kept M s0 (State.poisonRanges s l) := by
  unfold State.poisonRanges
  refine kept_forEach ?_ ?_
  · intro y20 y21 h22
    refine kept_forEach ?_ ?_
    · intro y23 y24 h25
      refine kept_poisonPool (hm.sub rfl) ?_
      exact h25
    · exact h22
  · exact h0

theorem kept_abortKernel {s : State} {n : ℕ} {code : ℕ} {cut : KernelCut} (hm : Within 0x10802000004924000200000000000720902020700c000191701c00002200000000189a59de0bfe M) (h0 : Kept M s0 s) :
    Kept M s0 (State.abortKernel s n code cut) := by
  unfold State.abortKernel
  (generalize q21 : ((s.core n).running) = x20; revert x20; refine Kept.seal ?_; intro x20 q21)
  split
  · rename_i w22
    exact h0
  · rename_i w23 w24
    extract_lets -underBinder +onlyGivenNames v25
    have h26 : Kept M s0 v25 := by
      unfold v25
      refine kept_poisonRanges (hm.sub rfl) ?_
      exact h0
    (clear_value v25; revert v25; refine Kept.seal ?_; intro v25 h26)
    extract_lets -underBinder +onlyGivenNames v27
    have h28 : Kept M s0 v27 := by
      unfold v27
      refine kept_cxCounts (hm.sub rfl) ?_
      exact h26
    (clear_value v27; revert v27; refine Kept.seal ?_; intro v27 h28)
    extract_lets -underBinder +onlyGivenNames v29
    (clear_value v29; revert v29; refine Kept.seal ?_; intro v29)
    extract_lets -underBinder +onlyGivenNames v30
    have h31 : Kept M s0 v30 := by
      unfold v30
      refine kept_setCore (hm.sub rfl) ?_
      exact h28
    (clear_value v30; revert v30; refine Kept.seal ?_; intro v30 h31)
    extract_lets -underBinder +onlyGivenNames v32
    have h33 : KeptP M s0 v32 := by
      unfold v32
      refine kept_dataCheck (hm.sub rfl) ?_
      exact h31
    (clear_value v32; revert v32; refine Kept.seal ?_; intro v32 h33)
    extract_lets -underBinder +onlyGivenNames v34
    (clear_value v34; revert v34; refine Kept.seal ?_; intro v34)
    refine kept_kernelFinish (hm.sub rfl) ?_
    refine kept_bump (hm.sub rfl) ?_
    exact (KeptP.st h33)

theorem kept_coreGate {s : State} {n : ℕ} (hm : Within 0x1000000 M) (h0 : Kept M s0 s) :
    Kept M s0 (State.coreGate s n) := by
  unfold State.coreGate
  extract_lets -underBinder +onlyGivenNames v20
  (clear_value v20; revert v20; refine Kept.seal ?_; intro v20)
  extract_lets -underBinder +onlyGivenNames v21
  (clear_value v21; revert v21; refine Kept.seal ?_; intro v21)
  refine kept_ite ?_ ?_
  · exact h0
  · refine kept_setCore (hm.sub rfl) ?_
    exact h0

theorem kept_execDescFetch {n : Fin 16} {fromDq : Bool} {s : State} (hm : Within 0x400000000000000700902020700c000191700000000000000000189a21de227e M) (h0 : Kept M s0 s) :
    KeptE M s0 (execDescFetch n fromDq s) := by
  unfold execDescFetch
  refine kepte_next ?_
  refine kept_descFetch (hm.sub rfl) ?_
  exact h0

theorem kept_execCoreWake {n : Fin 16} {s : State} (hm : Within 0x100000000000000000000000000000000000000000000000000000000001000002 M) (h0 : Kept M s0 s) :
    KeptE M s0 (execCoreWake n s) := by
  unfold execCoreWake
  refine kepte_next ?_
  refine kept_wakeCommand (hm.sub rfl) ?_
  exact h0

theorem kept_execCoreReady {n : Fin 16} {s : State} (hm : Within 0x100000000000000000000000000000000000000000000000000000000001000002 M) (h0 : Kept M s0 s) :
    KeptE M s0 (execCoreReady n s) := by
  unfold execCoreReady
  refine kepte_next ?_
  refine kept_coreReady (hm.sub rfl) ?_
  exact h0

theorem kept_execCoreGate {n : Fin 16} {s : State} (hm : Within 0x1000000 M) (h0 : Kept M s0 s) :
    KeptE M s0 (execCoreGate n s) := by
  unfold execCoreGate
  refine kepte_next ?_
  refine kept_coreGate (hm.sub rfl) ?_
  exact h0

end Sys2Proof.Machine
end

