-- ==== Sys2Proof/Laws/Kept/Compute.lean ====
section
/-! SUPPORT. What the operations of Compute may write: each keeps its footprint. -/

namespace Sys2Proof.Machine

variable {M : Nat} {s0 : State}

theorem kept_leftStores {s : State} {core : ℕ} {a : PA} (hm : Within 0x7000000000000000010700060000000000000109a01040202 M) (h0 : Kept M s0 s) :
    Kept M s0 (State.leftStores s core a) := by
  unfold State.leftStores
  refine kept_ite ?_ ?_
  · exact h0
  · refine kept_cxBreak (hm.sub rfl) ?_
    exact h0

theorem kept_loads_get {l : Loads} {a : ℕ} {n : ℕ} {k : Consumer} (hm : Within 0x700902020700c000191700060000000000000189a01de027e M) (h0 : KeptLoads M s0 l) :
    KeptLP M s0 (Loads.get l a n k) := by
  unfold Loads.get
  extract_lets -underBinder +onlyGivenNames v20
  (clear_value v20; revert v20; refine Kept.seal ?_; intro v20)
  extract_lets -underBinder +onlyGivenNames v21
  have h22 : KeptLoads M s0 v21 := by
    unfold v21
    refine Kept.loads ?_
    refine kept_leftStores (hm.sub rfl) ?_
    exact (KeptLoads.st h0)
  (clear_value v21; revert v21; refine Kept.seal ?_; intro v21 h22)
  refine keptlp_ite ?_ ?_
  · extract_lets -underBinder +onlyGivenNames v23
    have h24 : KeptP M s0 v23 := by
      unfold v23
      refine kept_readAny (hm.sub rfl) ?_
      exact (KeptLoads.st h22)
    (clear_value v23; revert v23; refine Kept.seal ?_; intro v23 h24)
    refine KeptLP.pair ?_
    refine Kept.loads ?_
    exact (KeptP.st h24)
  · refine KeptLP.pair ?_
    refine Kept.loads ?_
    exact (KeptLoads.st h22)

theorem kept_loads_settle {l : Loads} {tag : Tag} (hm : Within 0x40000 M) (h0 : KeptLoads M s0 l) :
    Kept M s0 (Loads.settle l tag) := by
  unfold Loads.settle
  (generalize q21 : (l.wait) = x20; revert x20; refine Kept.seal ?_; intro x20 q21)
  split
  · rename_i w22 w23
    refine kept_readWaits (hm.sub rfl) ?_
    exact (KeptLoads.st h0)
  · rename_i w24
    exact (KeptLoads.st h0)

theorem kept_loads_lookup {l : Loads} {n : ℕ} {ref : ℕ} {k : Consumer} {off : ℕ} {b5 : ℕ} (hm : Within 0x700902020700c000191700060000000000000189a01de027e M) (h0 : KeptLoads M s0 l) :
    KeptLP M s0 (Loads.lookup l n ref k off b5) := by
  induction b5 generalizing l n ref k off
  · unfold Loads.lookup
    refine KeptLP.pair ?_
    exact h0
  · rename_i r0 ih
    unfold Loads.lookup
    refine keptlp_ite ?_ ?_
    · refine KeptLP.pair ?_
      exact h0
    · extract_lets -underBinder +onlyGivenNames v20
      have h21 : KeptLP M s0 v20 := by
        unfold v20
        refine kept_loads_get (hm.sub rfl) ?_
        exact h0
      (clear_value v20; revert v20; refine Kept.seal ?_; intro v20 h21)
      extract_lets -underBinder +onlyGivenNames v22
      (clear_value v22; revert v22; refine Kept.seal ?_; intro v22)
      refine keptlp_ite ?_ ?_
      · refine KeptLP.pair ?_
        exact (KeptLP.st h21)
      · refine keptlp_ite ?_ ?_
        · refine KeptLP.pair ?_
          exact (KeptLP.st h21)
        · refine keptlp_ite ?_ ?_
          · refine KeptLP.pair ?_
            exact (KeptLP.st h21)
          · apply ih
            exact (KeptLP.st h21)

theorem kept_loads_tileFails {l : Loads} {n : ℕ} {k : Consumer} {a : PA} {code : ℕ} {flags : ℕ} (hm : Within 0x7000000000000000010700000000000000000109a00040202 M) (h0 : KeptLoads M s0 l) :
    KeptLP M s0 (Loads.tileFails l n k a code flags) := by
  unfold Loads.tileFails
  refine KeptLP.pair ?_
  refine Kept.loads ?_
  refine kept_ledger (hm.sub rfl) ?_
  exact (KeptLoads.st h0)

theorem kept_spoilStored {s : State} {a : PA} {grains : ℕ} {k : Consumer} (hm : Within 0x40030 M) (h0 : Kept M s0 s) :
    Kept M s0 (State.spoilStored s a grains k) := by
  unfold State.spoilStored
  refine kept_forEach ?_ ?_
  · intro y20 y21 h22
    extract_lets -underBinder +onlyGivenNames v23
    (clear_value v23; revert v23; refine Kept.seal ?_; intro v23)
    refine kept_ite ?_ ?_
    · extract_lets -underBinder +onlyGivenNames v24
      (clear_value v24; revert v24; refine Kept.seal ?_; intro v24)
      refine kept_ite ?_ ?_
      · refine Kept.in_storeParity (hm.bit 5 rfl) ?_ (Sparse.wf_put)
        exact h22
      · refine kept_setStorePoison (hm.sub rfl) ?_
        exact h22
    · refine kept_startRepairFor (hm.sub rfl) ?_
      exact h22
  · exact h0

theorem kept_loads_delta {l : Loads} {n : ℕ} {d : Bytes} {k : Consumer} {a : PA} {h : TileHeader} {res : Bytes} (hm : Within 0x700902020700c000191700060000000000000189a01de027e M) (h0 : KeptLoads M s0 l) :
    KeptLP M s0 (Loads.delta l n d k a h res) := by
  unfold Loads.delta
  extract_lets -underBinder +onlyGivenNames v20
  have h21 : KeptLP M s0 v20 := by
    unfold v20
    refine keptlp_ite ?_ ?_
    · refine KeptLP.pair ?_
      exact h0
    · refine kept_loads_lookup (hm.sub rfl) ?_
      exact h0
  (clear_value v20; revert v20; refine Kept.seal ?_; intro v20 h21)
  (generalize q23 : (v20.2) = x22; revert x22; refine Kept.seal ?_; intro x22 q23)
  split
  · rename_i w24
    refine kept_loads_tileFails (hm.sub rfl) ?_
    exact (KeptLP.st h21)
  · rename_i w25
    refine KeptLP.pair ?_
    exact (KeptLP.st h21)
  · rename_i w26 w27
    extract_lets -underBinder +onlyGivenNames v28
    have h29 : KeptLP M s0 v28 := by
      unfold v28
      refine kept_loads_get (hm.sub rfl) ?_
      exact (KeptLP.st h21)
    (clear_value v28; revert v28; refine Kept.seal ?_; intro v28 h29)
    refine keptlp_ite ?_ ?_
    · refine KeptLP.pair ?_
      exact (KeptLP.st h29)
    · refine KeptLP.pair ?_
      exact (KeptLP.st h29)

theorem kept_loads_formed {l : Loads} {n : ℕ} {d : Bytes} {k : Consumer} {a : PA} {e : DirEntry} {st : Bytes} (hm : Within 0x700902020700c000191700060000000000000189a01de027e M) (h0 : KeptLoads M s0 l) :
    KeptLP M s0 (Loads.formed l n d k a e st) := by
  unfold Loads.formed
  (generalize q21 : (l.st.decodeForm e st) = x20; revert x20; refine Kept.seal ?_; intro x20 q21)
  split
  · rename_i w22 w23
    refine KeptLP.pair ?_
    exact h0
  · rename_i w24 w25
    refine kept_loads_tileFails (hm.sub rfl) ?_
    exact h0
  · rename_i w26 w27
    refine KeptLP.pair ?_
    refine Kept.loads ?_
    exact (KeptLoads.st h0)
  · rename_i w28 w29 w30
    refine kept_loads_delta (hm.sub rfl) ?_
    exact h0

theorem kept_loads_tile {l : Loads} {n : ℕ} {d : Bytes} {t : TileAt} (hm : Within 0x700902020700c000191700060000000000000189a01de027e M) (h0 : KeptLoads M s0 l) :
    KeptLP M s0 (Loads.tile l n d t) := by
  unfold Loads.tile
  extract_lets -underBinder +onlyGivenNames v20
  (clear_value v20; revert v20; refine Kept.seal ?_; intro v20)
  (generalize q22 : (t.stored) = x21; revert x21; refine Kept.seal ?_; intro x21 q22)
  split
  · rename_i w23
    refine kept_loads_get (hm.sub rfl) ?_
    exact h0
  · rename_i w24 w25
    extract_lets -underBinder +onlyGivenNames v26
    have h27 : KeptLP M s0 v26 := by
      unfold v26
      refine kept_loads_get (hm.sub rfl) ?_
      exact h0
    (clear_value v26; revert v26; refine Kept.seal ?_; intro v26 h27)
    extract_lets -underBinder +onlyGivenNames v28
    (clear_value v28; revert v28; refine Kept.seal ?_; intro v28)
    extract_lets -underBinder +onlyGivenNames v29
    have h30 : KeptLP M s0 v29 := by
      unfold v29
      refine kept_loads_get (hm.sub rfl) ?_
      exact (KeptLP.st h27)
    (clear_value v29; revert v29; refine Kept.seal ?_; intro v29 h30)
    extract_lets -underBinder +onlyGivenNames v31
    (clear_value v31; revert v31; refine Kept.seal ?_; intro v31)
    refine keptlp_ite ?_ ?_
    · refine KeptLP.pair ?_
      exact (KeptLP.st h30)
    · extract_lets -underBinder +onlyGivenNames v32
      have h33 : Kept M s0 v32 := by
        unfold v32
        exact (KeptLoads.st (KeptLP.st h30))
      (clear_value v32; revert v32; refine Kept.seal ?_; intro v32 h33)
      extract_lets -underBinder +onlyGivenNames v34
      have h35 : KeptLoads M s0 v34 := by
        unfold v34
        exact (KeptLP.st h30)
      (clear_value v34; revert v34; refine Kept.seal ?_; intro v34 h35)
      extract_lets -underBinder +onlyGivenNames v36
      have h37 : KeptLoads M s0 v36 := by
        unfold v36
        refine Kept.loads ?_
        refine kept_ite ?_ ?_
        · refine kept_glitchAt (hm.sub rfl) ?_
          refine kept_bump (hm.sub rfl) ?_
          exact h33
        · refine kept_bump (hm.sub rfl) ?_
          exact h33
      (clear_value v36; revert v36; refine Kept.seal ?_; intro v36 h37)
      refine keptlp_ite ?_ ?_
      · extract_lets -underBinder +onlyGivenNames v38
        (clear_value v38; revert v38; refine Kept.seal ?_; intro v38)
        extract_lets -underBinder +onlyGivenNames v39
        have h40 : KeptLP M s0 v39 := by
          unfold v39
          refine kept_loads_tileFails (hm.sub rfl) ?_
          exact h37
        (clear_value v39; revert v39; refine Kept.seal ?_; intro v39 h40)
        refine KeptLP.pair ?_
        extract_lets -underBinder +onlyGivenNames v41
        have h42 : KeptLoads M s0 v41 := by
          unfold v41
          exact (KeptLP.st h40)
        (clear_value v41; revert v41; refine Kept.seal ?_; intro v41 h42)
        refine Kept.loads ?_
        refine kept_spoilStored (hm.sub rfl) ?_
        exact (KeptLoads.st (KeptLP.st h40))
      · refine kept_loads_formed (hm.sub rfl) ?_
        exact h37

theorem kept_loads_weightTile {l : Loads} {n : ℕ} {d : Bytes} {a : ℕ} (hm : Within 0x700902020700c000191700060000000000000189a01de027e M) (h0 : KeptLoads M s0 l) :
    KeptLP M s0 (Loads.weightTile l n d a) := by
  unfold Loads.weightTile
  extract_lets -underBinder +onlyGivenNames v20
  (clear_value v20; revert v20; refine Kept.seal ?_; intro v20)
  extract_lets -underBinder +onlyGivenNames v21
  (clear_value v21; revert v21; refine Kept.seal ?_; intro v21)
  (generalize q23 : (l.st.packedAt (Sys2Proof.Machine.spaceOf v20) (Sys2Proof.Machine.pageOf v20)) = x22; revert x22; refine Kept.seal ?_; intro x22 q23)
  split
  · rename_i w24
    refine kept_loads_get (hm.sub rfl) ?_
    exact h0
  · rename_i w25 w26
    extract_lets -underBinder +onlyGivenNames v27
    (clear_value v27; revert v27; refine Kept.seal ?_; intro v27)
    (generalize q29 : (l.st.readDir v27 v21) = x28; revert x28; refine Kept.seal ?_; intro x28 q29)
    have h30 : KeptP M s0 x28 := by
      rw [← q29]
      refine kept_readDir (hm.sub rfl) ?_
      exact (KeptLoads.st h0)
    split
    · rename_i w31 w32 w33
      refine keptlp_ite ?_ ?_
      · extract_lets -underBinder +onlyGivenNames v34
        have h35 : KeptP M s0 v34 := by
          unfold v34
          refine kept_readStored (hm.sub rfl) ?_
          refine kept_firstRead (hm.sub rfl) ?_
          exact (KeptP.st h30)
        (clear_value v34; revert v34; refine Kept.seal ?_; intro v34 h35)
        (generalize q37 : (v34.2.repair) = x36; revert x36; refine Kept.seal ?_; intro x36 q37)
        (generalize q39 : (v34.2.poison) = x38; revert x38; refine Kept.seal ?_; intro x38 q39)
        split
        · rename_i w40 w41 w42
          refine KeptLP.pair ?_
          refine Kept.loads ?_
          exact (KeptP.st h35)
        · rename_i w43 w44 w45 w46
          refine KeptLP.pair ?_
          refine Kept.loads ?_
          exact (KeptP.st h35)
        · rename_i w47 w48
          refine keptlp_ite ?_ ?_
          · refine kept_loads_formed (hm.sub rfl) ?_
            refine Kept.loads ?_
            exact (KeptP.st h35)
          · refine KeptLP.pair ?_
            refine Kept.loads ?_
            refine kept_repairTile (hm.sub rfl) ?_
            refine kept_ledger (hm.sub rfl) ?_
            exact (KeptP.st h35)
      · refine kept_loads_get (hm.sub rfl) ?_
        exact h0
    · rename_i w49 w50
      refine kept_loads_get (hm.sub rfl) ?_
      exact h0

theorem kept_loads_matrix {l : Loads} {n : ℕ} {d : Bytes} {a : ℕ} {size : ℕ} (hm : Within 0x700902020700c000191700060000000000000189a01de027e M) (h0 : KeptLoads M s0 l) :
    KeptLP M s0 (Loads.matrix l n d a size) := by
  unfold Loads.matrix
  refine keptlp_foldl ?_ ?_
  · intro y20 y21 h22
    extract_lets -underBinder +onlyGivenNames v23
    have h24 : KeptLP M s0 v23 := by
      unfold v23
      refine kept_loads_weightTile (hm.sub rfl) ?_
      exact (KeptLP.st h22)
    (clear_value v23; revert v23; refine Kept.seal ?_; intro v23 h24)
    refine KeptLP.pair ?_
    exact (KeptLP.st h24)
  · refine KeptLP.pair ?_
    exact h0

theorem kept_loads_side {l : Loads} {n : ℕ} {d : Bytes} {t : ElemType} {o : OperandAt} {lines : ℕ} (hm : Within 0x700902020700c000191700060000000000000189a01de027e M) (h0 : KeptLoads M s0 l) :
    KeptLP M s0 (Loads.side l n d t o lines) := by
  unfold Loads.side
  extract_lets -underBinder +onlyGivenNames v20
  (clear_value v20; revert v20; refine Kept.seal ?_; intro v20)
  extract_lets -underBinder +onlyGivenNames v21
  have h22 : KeptLP M s0 v21 := by
    unfold v21
    refine keptlp_foldl ?_ ?_
    · intro y23 y24 h25
      extract_lets -underBinder +onlyGivenNames v26
      have h27 : KeptLP M s0 v26 := by
        unfold v26
        refine kept_loads_tile (hm.sub rfl) ?_
        exact (KeptLP.st h25)
      (clear_value v26; revert v26; refine Kept.seal ?_; intro v26 h27)
      refine KeptLP.pair ?_
      exact (KeptLP.st h27)
    · refine KeptLP.pair ?_
      exact h0
  (clear_value v21; revert v21; refine Kept.seal ?_; intro v21 h22)
  extract_lets -underBinder +onlyGivenNames v28
  have h29 : KeptLP M s0 v28 := by
    unfold v28
    refine keptlp_foldl ?_ ?_
    · intro y30 y31 h32
      extract_lets -underBinder +onlyGivenNames v33
      have h34 : KeptLP M s0 v33 := by
        unfold v33
        refine kept_loads_tile (hm.sub rfl) ?_
        exact (KeptLP.st h32)
      (clear_value v33; revert v33; refine Kept.seal ?_; intro v33 h34)
      refine KeptLP.pair ?_
      exact (KeptLP.st h34)
    · refine KeptLP.pair ?_
      exact (KeptLP.st h22)
  (clear_value v28; revert v28; refine Kept.seal ?_; intro v28 h29)
  extract_lets -underBinder +onlyGivenNames v35
  (clear_value v35; revert v35; refine Kept.seal ?_; intro v35)
  extract_lets -underBinder +onlyGivenNames v36
  (clear_value v36; revert v36; refine Kept.seal ?_; intro v36)
  extract_lets -underBinder +onlyGivenNames v37
  (clear_value v37; revert v37; refine Kept.seal ?_; intro v37)
  extract_lets -underBinder +onlyGivenNames v38
  (clear_value v38; revert v38; refine Kept.seal ?_; intro v38)
  refine KeptLP.pair ?_
  exact (KeptLP.st h29)

theorem kept_setAcc {s : State} {core : ℕ} {m : ℕ} {n : ℕ} {v : W32} (hm : Within 0x2000000 M) (h0 : Kept M s0 s) :
    Kept M s0 (State.setAcc s core m n v) := by
  unfold State.setAcc
  refine Kept.in_accs (hm.bit 25 rfl) ?_ (Sparse.wf_put)
  exact h0

theorem kept_spoilAcc {s : State} {core : ℕ} {m : ℕ} {n : ℕ} (hm : Within 0x1000000 M) (h0 : Kept M s0 s) :
    Kept M s0 (State.spoilAcc s core m n) := by
  unfold State.spoilAcc
  extract_lets -underBinder +onlyGivenNames v20
  (clear_value v20; revert v20; refine Kept.seal ?_; intro v20)
  refine kept_setCore (hm.sub rfl) ?_
  exact h0

theorem kept_clearAccs {s : State} {core : ℕ} (hm : Within 0x3000000 M) (h0 : Kept M s0 s) :
    Kept M s0 (State.clearAccs s core) := by
  unfold State.clearAccs
  extract_lets -underBinder +onlyGivenNames v20
  have h21 : Kept M s0 v20 := by
    unfold v20
    refine Kept.in_accs (hm.bit 25 rfl) ?_ (Sparse.wf_clear)
    exact h0
  (clear_value v20; revert v20; refine Kept.seal ?_; intro v20 h21)
  refine kept_setCore (hm.sub rfl) ?_
  exact h21

theorem kept_loads_accs {l : Loads} {core : ℕ} {d : Bytes} {init : List (ℕ × PA × ℕ)} (hm : Within 0x700902020700c000191700060000000000000189a03de027e M) (h0 : KeptLoads M s0 l) :
    KeptLoads M s0 (Loads.accs l core d init) := by
  unfold Loads.accs
  extract_lets -underBinder +onlyGivenNames v20
  have h21 : KeptLoads M s0 v20 := by
    unfold v20
    refine Kept.loads ?_
    refine kept_clearAccs (hm.sub rfl) ?_
    exact (KeptLoads.st h0)
  (clear_value v20; revert v20; refine Kept.seal ?_; intro v20 h21)
  refine keptLoads_ite ?_ ?_
  · exact h21
  · refine keptLoads_foldl ?_ ?_
    · intro y22 y23 h24
      extract_lets -underBinder +onlyGivenNames v25
      have h26 : KeptLP M s0 v25 := by
        unfold v25
        refine kept_loads_get (hm.sub rfl) ?_
        exact h24
      (clear_value v25; revert v25; refine Kept.seal ?_; intro v25 h26)
      extract_lets -underBinder +onlyGivenNames v27
      have h28 : Kept M s0 v27 := by
        unfold v27
        refine kept_forEach ?_ ?_
        · intro y29 y30 h31
          extract_lets -underBinder +onlyGivenNames v32
          (clear_value v32; revert v32; refine Kept.seal ?_; intro v32)
          extract_lets -underBinder +onlyGivenNames v33
          have h34 : Kept M s0 v33 := by
            unfold v33
            refine kept_setAcc (hm.sub rfl) ?_
            exact h31
          (clear_value v33; revert v33; refine Kept.seal ?_; intro v33 h34)
          refine kept_ite ?_ ?_
          · refine kept_spoilAcc (hm.sub rfl) ?_
            exact h34
          · exact h34
        · exact (KeptLoads.st (KeptLP.st h26))
      (clear_value v27; revert v27; refine Kept.seal ?_; intro v27 h28)
      extract_lets -underBinder +onlyGivenNames v35
      have h36 : KeptLoads M s0 v35 := by
        unfold v35
        exact (KeptLP.st h26)
      (clear_value v35; revert v35; refine Kept.seal ?_; intro v35 h36)
      refine Kept.loads ?_
      exact h28
    · exact h21

theorem kept_env_push {e : KEnv} {fmt : NumFmt} {cs : List Cell} (hm : Within 0x0 M) (h0 : KeptKEnv M s0 e) :
    KeptKEnv M s0 (KEnv.push e fmt cs) := by
  unfold KEnv.push
  show Kept M s0 _
  dsimp only
  exact (KeptKEnv.st h0)

theorem kept_env_took {e : KEnv} {l : Loads} {tag : Tag} {fmt : NumFmt} {cs : List Cell} (hm : Within 0x40000 M) (h0 : KeptKEnv M s0 e) (h1 : KeptLoads M s0 l) :
    KeptKEnv M s0 (KEnv.took e l tag fmt cs) := by
  unfold KEnv.took
  refine kept_env_push (hm.sub rfl) ?_
  show Kept M s0 _
  dsimp only
  refine kept_loads_settle (hm.sub rfl) ?_
  exact h1

theorem kept_env_put {e : KEnv} {a : PA} {fmt : NumFmt} {cs : List Cell} {k : Consumer} (hm : Within 0x200000000000700902020708c000191700060000000000000189b11de027e M) (h0 : KeptKEnv M s0 e) :
    KeptKEnv M s0 (KEnv.put e a fmt cs k) := by
  unfold KEnv.put
  extract_lets -underBinder +onlyGivenNames v20
  have h21 : KeptP M s0 v20 := by
    unfold v20
    refine kept_writeWork (hm.sub rfl) ?_
    refine kept_leftStores (hm.sub rfl) ?_
    exact (KeptKEnv.st h0)
  (clear_value v20; revert v20; refine Kept.seal ?_; intro v20 h21)
  show Kept M s0 _
  dsimp only
  exact (KeptP.st h21)

theorem kept_putExact {s : State} {n : ℕ} {l : ℕ} {a : ExactAcc} {bad : Bool} (hm : Within 0x5000000 M) (h0 : Kept M s0 s) :
    Kept M s0 (State.putExact s n l a bad) := by
  unfold State.putExact
  extract_lets -underBinder +onlyGivenNames v20
  (clear_value v20; revert v20; refine Kept.seal ?_; intro v20)
  refine kept_setExact (hm.sub rfl) ?_
  refine kept_setCore (hm.sub rfl) ?_
  exact h0

theorem kept_readExact {s : State} {n : ℕ} {l : ℕ} {tag : Tag} {fmt : NumFmt} {m : Round} {sat : Bool} (hm : Within 0x7000000000000000010700000000000000000109a00040202 M) (h0 : Kept M s0 s) :
    KeptP M s0 (State.readExact s n l tag fmt m sat) := by
  unfold State.readExact
  extract_lets -underBinder +onlyGivenNames v20
  (clear_value v20; revert v20; refine Kept.seal ?_; intro v20)
  refine Kept.pair ?_
  refine kept_ite ?_ ?_
  · refine kept_ledger (hm.sub rfl) ?_
    exact h0
  · exact h0

theorem kept_env_step {n : ℕ} {r : Running} {e : KEnv} {p : KStep} (hm : Within 0x200000000000700902020708c000191700060000000000000189b15de027e M) (h0 : KeptKEnv M s0 e) :
    KeptKEnv M s0 (KEnv.step n r e p) := by
  unfold KEnv.step
  extract_lets -underBinder +onlyGivenNames v20
  (clear_value v20; revert v20; refine Kept.seal ?_; intro v20)
  extract_lets -underBinder +onlyGivenNames v21
  (clear_value v21; revert v21; refine Kept.seal ?_; intro v21)
  extract_lets -underBinder +onlyGivenNames v22
  have h23 : KeptLoads M s0 v22 := by
    unfold v22
    refine Kept.loads ?_
    exact (KeptKEnv.st h0)
  (clear_value v22; revert v22; refine Kept.seal ?_; intro v22 h23)
  extract_lets -underBinder +onlyGivenNames v24
  (clear_value v24; revert v24; refine Kept.seal ?_; intro v24)
  refine keptKEnv_ite ?_ ?_
  · exact h0
  · split
    · rename_i w25 w26 w27 w28
      extract_lets -underBinder +onlyGivenNames v29
      have h30 : KeptLP M s0 v29 := by
        unfold v29
        refine kept_loads_get (hm.sub rfl) ?_
        exact h23
      (clear_value v29; revert v29; refine Kept.seal ?_; intro v29 h30)
      refine kept_env_took (hm.sub rfl) ?_ ?_
      · exact h0
      · exact (KeptLP.st h30)
    · rename_i w31 w32 w33
      extract_lets -underBinder +onlyGivenNames v34
      have h35 : KeptLP M s0 v34 := by
        unfold v34
        refine kept_loads_tile (hm.sub rfl) ?_
        exact h23
      (clear_value v34; revert v34; refine Kept.seal ?_; intro v34 h35)
      refine kept_env_took (hm.sub rfl) ?_ ?_
      · exact h0
      · exact (KeptLP.st h35)
    · rename_i w36 w37 w38 w39
      refine kept_env_push (hm.sub rfl) ?_
      exact h0
    · rename_i w40 w41 w42
      refine kept_env_push (hm.sub rfl) ?_
      exact h0
    · rename_i w43 w44 w45
      refine kept_env_push (hm.sub rfl) ?_
      exact h0
    · rename_i w46 w47 w48
      refine kept_env_push (hm.sub rfl) ?_
      exact h0
    · rename_i w49 w50 w51
      refine kept_env_push (hm.sub rfl) ?_
      exact h0
    · rename_i w52 w53 w54 w55
      refine kept_env_push (hm.sub rfl) ?_
      exact h0
    · rename_i w56 w57 w58 w59
      refine kept_env_push (hm.sub rfl) ?_
      exact h0
    · rename_i w60 w61 w62 w63 w64 w65
      refine kept_env_push (hm.sub rfl) ?_
      exact h0
    · rename_i w66 w67 w68 w69 w70 w71
      refine kept_env_push (hm.sub rfl) ?_
      exact h0
    · rename_i w72 w73 w74 w75 w76
      extract_lets -underBinder +onlyGivenNames v77
      (clear_value v77; revert v77; refine Kept.seal ?_; intro v77)
      refine kept_env_push (hm.sub rfl) ?_
      refine kept_env_push (hm.sub rfl) ?_
      exact h0
    · rename_i w78 w79
      refine kept_env_push (hm.sub rfl) ?_
      exact h0
    · rename_i w80 w81 w82
      show Kept M s0 _
      dsimp only
      refine kept_forEach ?_ ?_
      · intro y83 y84 h85
        refine kept_putExact (hm.sub rfl) ?_
        exact h85
      · exact (KeptKEnv.st h0)
    · rename_i w86 w87 w88
      extract_lets -underBinder +onlyGivenNames v89
      (clear_value v89; revert v89; refine Kept.seal ?_; intro v89)
      extract_lets -underBinder +onlyGivenNames v90
      have h91 : Kept M s0 v90 := by
        unfold v90
        refine kept_forEach ?_ ?_
        · intro y92 y93 h94
          extract_lets -underBinder +onlyGivenNames v95
          (clear_value v95; revert v95; refine Kept.seal ?_; intro v95)
          refine kept_putExact (hm.sub rfl) ?_
          exact h94
        · exact (KeptKEnv.st h0)
      (clear_value v90; revert v90; refine Kept.seal ?_; intro v90 h91)
      show Kept M s0 _
      dsimp only
      exact h91
    · rename_i w96 w97 w98
      show Kept M s0 _
      dsimp only
      refine kept_putExact (hm.sub rfl) ?_
      exact (KeptKEnv.st h0)
    · rename_i w99 w100 w101 w102 w103
      extract_lets -underBinder +onlyGivenNames v104
      have h105 : KeptP M s0 v104 := by
        unfold v104
        refine keptp_foldl ?_ ?_
        · intro y106 y107 h108
          extract_lets -underBinder +onlyGivenNames v109
          have h110 : KeptP M s0 v109 := by
            unfold v109
            refine kept_readExact (hm.sub rfl) ?_
            exact (KeptP.st h108)
          (clear_value v109; revert v109; refine Kept.seal ?_; intro v109 h110)
          refine Kept.pair ?_
          exact (KeptP.st h110)
        · refine Kept.pair ?_
          exact (KeptKEnv.st h0)
      (clear_value v104; revert v104; refine Kept.seal ?_; intro v104 h105)
      refine kept_env_push (hm.sub rfl) ?_
      show Kept M s0 _
      dsimp only
      exact (KeptP.st h105)
    · rename_i w111 w112 w113
      refine kept_env_put (hm.sub rfl) ?_
      exact h0
    · rename_i w114 w115 w116 w117 w118
      refine kept_env_put (hm.sub rfl) ?_
      exact h0

theorem kept_runCode {s : State} {n : ℕ} {r : Running} {code : List KStep} (hm : Within 0x200000000000700902020708c000191700060000000000000189b15de027e M) (h0 : Kept M s0 s) :
    KeptKEnv M s0 (State.runCode s n r code) := by
  unfold State.runCode
  refine keptKEnv_foldl ?_ ?_
  · intro y20 y21 h22
    refine kept_env_step (hm.sub rfl) ?_
    exact h22
  · show Kept M s0 _
    dsimp only
    exact h0

theorem kept_kernelPoison {s : State} {n : ℕ} {r : Running} {first : Option PA} (hm : Within 0x7000000000000000016700000000000000000109a00040202 M) (h0 : Kept M s0 s) :
    KeptP M s0 (State.kernelPoison s n r first) := by
  unfold State.kernelPoison
  split
  · rename_i w20 w21
    refine keptp_ite ?_ ?_
    · refine Kept.pair ?_
      exact h0
    · refine Kept.pair ?_
      refine kept_poisonConsumed (hm.sub rfl) ?_
      exact h0
  · rename_i w22
    refine Kept.pair ?_
    exact h0

theorem kept_setRunning {s : State} {n : ℕ} {r : Running} (hm : Within 0x1000000 M) (h0 : Kept M s0 s) :
    Kept M s0 (State.setRunning s n r) := by
  unfold State.setRunning
  refine kept_setCore (hm.sub rfl) ?_
  exact h0

theorem kept_codeEnds {b0 : State} {n : ℕ} {r : Running} {e : KEnv} (hm : Within 0x7000000000000000016700000000000000000109a01040202 M) (h0 : Kept M s0 b0) (h1 : KeptKEnv M s0 e) :
    Kept M s0 (State.codeEnds b0 n r e) := by
  unfold State.codeEnds
  refine kept_ite ?_ ?_
  · refine kept_retry (hm.sub rfl) ?_ ?_
    · exact h0
    · exact (KeptKEnv.st h1)
  · extract_lets -underBinder +onlyGivenNames v20
    have h21 : KeptP M s0 v20 := by
      unfold v20
      refine kept_kernelPoison (hm.sub rfl) ?_
      exact (KeptKEnv.st h1)
    (clear_value v20; revert v20; refine Kept.seal ?_; intro v20 h21)
    refine kept_setRunning (hm.sub rfl) ?_
    exact (KeptP.st h21)

theorem kept_kernelOutputs {b0 : State} {n : ℕ} {r : Running} {k : KernelRun} (hm : Within 0x200000000000700902020708c000197701c60000000000000189b15de027e M) (h0 : Kept M s0 b0) :
    KeptP M s0 (State.kernelOutputs b0 n r k) := by
  unfold State.kernelOutputs
  extract_lets -underBinder +onlyGivenNames v20
  (clear_value v20; revert v20; refine Kept.seal ?_; intro v20)
  extract_lets -underBinder +onlyGivenNames v21
  have h22 : KeptKEnv M s0 v21 := by
    unfold v21
    refine kept_runCode (hm.sub rfl) ?_
    exact h0
  (clear_value v21; revert v21; refine Kept.seal ?_; intro v21 h22)
  extract_lets -underBinder +onlyGivenNames v23
  have h24 : Kept M s0 v23 := by
    unfold v23
    refine KeptP.st ?_
    refine kept_kernelPoison (hm.sub rfl) ?_
    exact (KeptKEnv.st h22)
  extract_lets -underBinder +onlyGivenNames v25
  have h26 : Kept M s0 v25 := by
    unfold v25
    refine kept_ite ?_ ?_
    · refine kept_cxBreak (hm.sub rfl) ?_
      exact h24
    · exact h24
  (clear_value v25; revert v25; refine Kept.seal ?_; intro v25 h26)
  extract_lets -underBinder +onlyGivenNames v27
  have h28 : Kept M s0 v27 := by
    unfold v27
    refine kept_cxCounts (hm.sub rfl) ?_
    exact h26
  (clear_value v27; revert v27; refine Kept.seal ?_; intro v27 h28)
  extract_lets -underBinder +onlyGivenNames v29
  have h30 : KeptP M s0 v29 := by
    unfold v29
    refine kept_dataCheck (hm.sub rfl) ?_
    exact h28
  (clear_value v29; revert v29; refine Kept.seal ?_; intro v29 h30)
  refine keptp_ite ?_ ?_
  · refine Kept.pair ?_
    refine kept_retry (hm.sub rfl) ?_ ?_
    · exact h0
    · refine kept_readWaits (hm.sub rfl) ?_
      exact (KeptP.st h30)
  · refine Kept.pair ?_
    exact (KeptP.st h30)

end Sys2Proof.Machine
end

