-- ==== Sys2Proof/Laws/Kept/Det.lean ====
section
/-! SUPPORT. What the operations of Det may write: each keeps its footprint. -/

namespace Sys2Proof.Machine

variable {M : Nat} {s0 : State}

theorem kept_stepInc {s : State} {t : Tag} (hm : Within 0x10000000000000000000000000002 M) (h0 : Kept M s0 s) :
    Kept M s0 (State.stepInc s t) := by
  unfold State.stepInc
  refine kept_ite ?_ ?_
  · exact h0
  · refine Kept.addF (hm.bit 1 rfl) (reach_DET_STEP (hm.bit 112 rfl)) ?_
    exact h0

theorem kept_seedLock {s : State} {t : Tag} (hm : Within 0x20000000000000000000000000002 M) (h0 : Kept M s0 s) :
    Kept M s0 (State.seedLock s t) := by
  unfold State.seedLock
  refine kept_ite ?_ ?_
  · exact h0
  · refine Kept.setF (hm.bit 1 rfl) (reach_DET_TAG_CTL (hm.bit 113 rfl)) ?_
    exact h0

theorem kept_accResult {s : State} {core : ℕ} {op : ℕ} {result : ℕ} (hm : Within 0x7000000000000000010700100000000000000109a00040202 M) (h0 : Kept M s0 s) :
    Kept M s0 (State.accResult s core op result) := by
  unfold State.accResult
  extract_lets -underBinder +onlyGivenNames v20
  have h21 : Kept M s0 v20 := by
    unfold v20
    refine Kept.setF (hm.bit 1 rfl) (reach_DET_ACC_CMD (hm.bit 104 rfl)) ?_
    refine Kept.setF (hm.bit 1 rfl) (reach_DET_ACC_CMD (hm.bit 104 rfl)) ?_
    exact h0
  (clear_value v20; revert v20; refine Kept.seal ?_; intro v20 h21)
  extract_lets -underBinder +onlyGivenNames v22
  have h23 : Kept M s0 v22 := by
    unfold v22
    refine Kept.setF (hm.bit 1 rfl) (reach_DET_ACC_CMD (hm.bit 104 rfl)) ?_
    refine Kept.setF (hm.bit 1 rfl) (reach_DET_ACC_CMD (hm.bit 104 rfl)) ?_
    exact h21
  (clear_value v22; revert v22; refine Kept.seal ?_; intro v22 h23)
  refine kept_ite ?_ ?_
  · refine kept_ledger (hm.sub rfl) ?_
    exact h23
  · exact h23

theorem kept_accChecks {s : State} {core : ℕ} {op : ℕ} {needsAddr : Bool} {go : State → State} (hm : Within 0x7000000000000000010700100000000000000109a00040202 M) (h0 : Kept M s0 s) (h1 : ∀ c1_0, Kept M s0 c1_0 → Kept M s0 (go c1_0)) :
    Kept M s0 (State.accChecks s core op needsAddr go) := by
  unfold State.accChecks
  refine kept_ite ?_ ?_
  · refine kept_accResult (hm.sub rfl) ?_
    exact h0
  · refine kept_ite ?_ ?_
    · refine kept_accResult (hm.sub rfl) ?_
      exact h0
    · refine h1 _ ?_
      exact h0

theorem kept_accSave {s : State} {core : ℕ} (hm : Within 0x2000000000007008020207000000190700100000000000000109a101e027e M) (h0 : Kept M s0 s) :
    Kept M s0 (State.accSave s core) := by
  unfold State.accSave
  refine kept_accChecks (hm.sub rfl) ?_ ?_
  · exact h0
  · intro y20 h21
    extract_lets -underBinder +onlyGivenNames v22
    (clear_value v22; revert v22; refine Kept.seal ?_; intro v22)
    extract_lets -underBinder +onlyGivenNames v23
    (clear_value v23; revert v23; refine Kept.seal ?_; intro v23)
    extract_lets -underBinder +onlyGivenNames v24
    have h25 : Kept M s0 v24 := by
      unfold v24
      refine kept_writeRange (hm.sub rfl) ?_
      exact h21
    (clear_value v24; revert v24; refine Kept.seal ?_; intro v24 h25)
    refine kept_accResult (hm.sub rfl) ?_
    refine kept_forEach ?_ ?_
    · intro y26 y27 h28
      refine kept_poisonPool (hm.sub rfl) ?_
      exact h28
    · exact h25

theorem kept_accRestore {s : State} {core : ℕ} (hm : Within 0x700902020700c000191700100000000000000189a05de027e M) (h0 : Kept M s0 s) :
    Kept M s0 (State.accRestore s core) := by
  unfold State.accRestore
  refine kept_accChecks (hm.sub rfl) ?_ ?_
  · exact h0
  · intro y20 h21
    extract_lets -underBinder +onlyGivenNames v22
    (clear_value v22; revert v22; refine Kept.seal ?_; intro v22)
    extract_lets -underBinder +onlyGivenNames v23
    have h24 : KeptP M s0 v23 := by
      unfold v23
      refine kept_readAny (hm.sub rfl) ?_
      exact h21
    (clear_value v23; revert v23; refine Kept.seal ?_; intro v23 h24)
    refine kept_ite ?_ ?_
    · refine Kept.setF (hm.bit 1 rfl) (reach_DET_ACC_CMD (hm.bit 104 rfl)) ?_
      refine Kept.setF (hm.bit 1 rfl) (reach_DET_ACC_CMD (hm.bit 104 rfl)) ?_
      refine Kept.setF (hm.bit 1 rfl) (reach_DET_ACC_CMD (hm.bit 104 rfl)) ?_
      refine kept_readWaits (hm.sub rfl) ?_
      exact (KeptP.st h24)
    · extract_lets -underBinder +onlyGivenNames v25
      (clear_value v25; revert v25; refine Kept.seal ?_; intro v25)
      extract_lets -underBinder +onlyGivenNames v26
      (clear_value v26; revert v26; refine Kept.seal ?_; intro v26)
      extract_lets -underBinder +onlyGivenNames v27
      have h28 : Kept M s0 v27 := by
        unfold v27
        refine kept_forEach ?_ ?_
        · intro y29 y30 h31
          extract_lets -underBinder +onlyGivenNames v32
          (clear_value v32; revert v32; refine Kept.seal ?_; intro v32)
          refine kept_putExact (hm.sub rfl) ?_
          exact h31
        · exact (KeptP.st h24)
      (clear_value v27; revert v27; refine Kept.seal ?_; intro v27 h28)
      refine kept_accResult (hm.sub rfl) ?_
      exact h28

theorem kept_accClear {s : State} {core : ℕ} (hm : Within 0x7000000000000000010700100000000000000109a05040202 M) (h0 : Kept M s0 s) :
    Kept M s0 (State.accClear s core) := by
  unfold State.accClear
  refine kept_accChecks (hm.sub rfl) ?_ ?_
  · exact h0
  · intro y20 h21
    extract_lets -underBinder +onlyGivenNames v22
    have h23 : Kept M s0 v22 := by
      unfold v22
      refine Kept.in_exacts (hm.bit 26 rfl) ?_ (Sparse.wf_clear)
      exact h21
    (clear_value v22; revert v22; refine Kept.seal ?_; intro v22 h23)
    refine kept_accResult (hm.sub rfl) ?_
    refine kept_setCore (hm.sub rfl) ?_
    exact h23

theorem kept_restoreEnd {s : State} {x : SlotRestore} {code : ℕ} (hm : Within 0x7000000000000400010700200000000000000109a00040202 M) (h0 : Kept M s0 s) :
    Kept M s0 (State.restoreEnd s x code) := by
  unfold State.restoreEnd
  extract_lets -underBinder +onlyGivenNames v20
  have h21 : Kept M s0 v20 := by
    unfold v20
    refine Kept.setF (hm.bit 1 rfl) (reach_DET_SLOT_RESTORE (hm.bit 105 rfl)) ?_
    refine Kept.setF (hm.bit 1 rfl) (reach_DET_SLOT_RESTORE (hm.bit 105 rfl)) ?_
    exact h0
  (clear_value v20; revert v20; refine Kept.seal ?_; intro v20 h21)
  extract_lets -underBinder +onlyGivenNames v22
  have h23 : Kept M s0 v22 := by
    unfold v22
    refine Kept.setF (hm.bit 1 rfl) (reach_DET_SLOT_RESTORE (hm.bit 105 rfl)) ?_
    refine Kept.setF (hm.bit 1 rfl) (reach_DET_SLOT_RESTORE (hm.bit 105 rfl)) ?_
    exact h21
  (clear_value v22; revert v22; refine Kept.seal ?_; intro v22 h23)
  extract_lets -underBinder +onlyGivenNames v24
  have h25 : Kept M s0 v24 := by
    unfold v24
    refine Kept.setF (hm.bit 1 rfl) (reach_DET_SLOT_RESTORE (hm.bit 105 rfl)) ?_
    refine Kept.setF (hm.bit 1 rfl) (reach_DET_SLOT_RESTORE (hm.bit 105 rfl)) ?_
    exact h23
  (clear_value v24; revert v24; refine Kept.seal ?_; intro v24 h25)
  extract_lets -underBinder +onlyGivenNames v26
  have h27 : Kept M s0 v26 := by
    unfold v26
    refine Kept.setF (hm.bit 1 rfl) (reach_DET_SLOT_RESTORE (hm.bit 105 rfl)) ?_
    refine Kept.setF (hm.bit 1 rfl) (reach_DET_SLOT_RESTORE (hm.bit 105 rfl)) ?_
    exact h25
  (clear_value v26; revert v26; refine Kept.seal ?_; intro v26 h27)
  refine kept_ite ?_ ?_
  · exact h27
  · refine kept_ledger (hm.sub rfl) ?_
    refine Kept.setF (hm.bit 1 rfl) (reach_MNT_STATUS (hm.bit 142 rfl)) ?_
    exact h27

theorem kept_slotRestore {s : State} {x : SlotRestore} (hm : Within 0x7000000000180400010700200000000000000109a00040202 M) (h0 : Kept M s0 s) :
    Kept M s0 (State.slotRestore s x) := by
  unfold State.slotRestore
  extract_lets -underBinder +onlyGivenNames v20
  (clear_value v20; revert v20; refine Kept.seal ?_; intro v20)
  refine kept_ite ?_ ?_
  · refine kept_restoreEnd (hm.sub rfl) ?_
    exact h0
  · refine kept_ite ?_ ?_
    · refine kept_restoreEnd (hm.sub rfl) ?_
      exact h0
    · refine kept_ite ?_ ?_
      · refine kept_restoreEnd (hm.sub rfl) ?_
        exact h0
      · extract_lets -underBinder +onlyGivenNames v21
        have h22 : Kept M s0 v21 := by
          unfold v21
          refine kept_setTables (hm.sub rfl) ?_
          exact h0
        (clear_value v21; revert v21; refine Kept.seal ?_; intro v21 h22)
        extract_lets -underBinder +onlyGivenNames v23
        have h24 : Kept M s0 v23 := by
          unfold v23
          refine Kept.setF (hm.bit 1 rfl) (reach_MNT_SLOT_INFO (hm.bit 151 rfl)) ?_
          refine Kept.setF (hm.bit 1 rfl) (reach_MNT_SLOT_INFO (hm.bit 151 rfl)) ?_
          exact h22
        (clear_value v23; revert v23; refine Kept.seal ?_; intro v23 h24)
        extract_lets -underBinder +onlyGivenNames v25
        have h26 : Kept M s0 v25 := by
          unfold v25
          refine Kept.setF (hm.bit 1 rfl) (reach_MNT_SLOT_INFO (hm.bit 151 rfl)) ?_
          refine Kept.setF (hm.bit 1 rfl) (reach_MNT_SLOT_INFO (hm.bit 151 rfl)) ?_
          exact h24
        (clear_value v25; revert v25; refine Kept.seal ?_; intro v25 h26)
        extract_lets -underBinder +onlyGivenNames v27
        have h28 : Kept M s0 v27 := by
          unfold v27
          refine Kept.setF (hm.bit 1 rfl) (reach_MNT_SLOT_INFO (hm.bit 151 rfl)) ?_
          exact h26
        (clear_value v27; revert v27; refine Kept.seal ?_; intro v27 h28)
        refine kept_restoreEnd (hm.sub rfl) ?_
        refine Kept.setF (hm.bit 1 rfl) (reach_MNT_SLOT_INFO (hm.bit 151 rfl)) ?_
        exact h28

theorem kept_setClocks {s : State} {d : ℕ} {e : ℕ} {f : ℕ} (hm : Within 0x2000000000400000002 M) (h0 : Kept M s0 s) :
    Kept M s0 (State.setClocks s d e f) := by
  unfold State.setClocks
  extract_lets -underBinder +onlyGivenNames v20
  (clear_value v20; revert v20; refine Kept.seal ?_; intro v20)
  extract_lets -underBinder +onlyGivenNames v21
  (clear_value v21; revert v21; refine Kept.seal ?_; intro v21)
  extract_lets -underBinder +onlyGivenNames v22
  have h23 : Kept M s0 v22 := by
    unfold v22
    refine Kept.in_clocks (hm.bit 34 rfl) ?_
    exact h0
  (clear_value v22; revert v22; refine Kept.seal ?_; intro v22 h23)
  refine Kept.setF (hm.bit 1 rfl) (reach_AO_CLK (hm.bit 73 rfl)) ?_
  refine Kept.setF (hm.bit 1 rfl) (reach_AO_CLK (hm.bit 73 rfl)) ?_
  exact h23

theorem kept_clockRepin {s : State} {d : ℕ} (hm : Within 0x2000000000400000002 M) (h0 : Kept M s0 s) :
    Kept M s0 (State.clockRepin s d) := by
  unfold State.clockRepin
  refine kept_ite ?_ ?_
  · exact h0
  · extract_lets -underBinder +onlyGivenNames v20
    (clear_value v20; revert v20; refine Kept.seal ?_; intro v20)
    extract_lets -underBinder +onlyGivenNames v21
    (clear_value v21; revert v21; refine Kept.seal ?_; intro v21)
    extract_lets -underBinder +onlyGivenNames v22
    have h23 : Kept M s0 v22 := by
      unfold v22
      refine Kept.in_clocks (hm.bit 34 rfl) ?_
      exact h0
    (clear_value v22; revert v22; refine Kept.seal ?_; intro v22 h23)
    refine kept_setClocks (hm.sub rfl) ?_
    exact h23

theorem kept_execStepInc {t : Tag} {s : State} (hm : Within 0x10000000000000000000000000002 M) (h0 : Kept M s0 s) :
    KeptE M s0 (execStepInc t s) := by
  unfold execStepInc
  refine kepte_next ?_
  refine kept_stepInc (hm.sub rfl) ?_
  exact h0

theorem kept_execSeedLock {t : Tag} {s : State} (hm : Within 0x20000000000000000000000000002 M) (h0 : Kept M s0 s) :
    KeptE M s0 (execSeedLock t s) := by
  unfold execSeedLock
  refine kepte_next ?_
  refine kept_seedLock (hm.sub rfl) ?_
  exact h0

theorem kept_execAccSave {core : Fin 16} {s : State} (hm : Within 0x2000000000007008020207000000190700100000000000000109a101e027e M) (h0 : Kept M s0 s) :
    KeptE M s0 (execAccSave core s) := by
  unfold execAccSave
  refine kepte_next ?_
  refine kept_accSave (hm.sub rfl) ?_
  exact h0

theorem kept_execAccRestore {core : Fin 16} {s : State} (hm : Within 0x700902020700c000191700100000000000000189a05de027e M) (h0 : Kept M s0 s) :
    KeptE M s0 (execAccRestore core s) := by
  unfold execAccRestore
  refine kepte_next ?_
  refine kept_accRestore (hm.sub rfl) ?_
  exact h0

theorem kept_execAccClear {core : Fin 16} {s : State} (hm : Within 0x7000000000000000010700100000000000000109a05040202 M) (h0 : Kept M s0 s) :
    KeptE M s0 (execAccClear core s) := by
  unfold execAccClear
  refine kepte_next ?_
  refine kept_accClear (hm.sub rfl) ?_
  exact h0

theorem kept_execDetSlotRestore {x : SlotRestore} {s : State} (hm : Within 0x7000000000180400010700200000000000000109a00040202 M) (h0 : Kept M s0 s) :
    KeptE M s0 (execDetSlotRestore x s) := by
  unfold execDetSlotRestore
  refine kepte_next ?_
  refine kept_slotRestore (hm.sub rfl) ?_
  exact h0

theorem kept_execClockRepin {d : Fin 2} {s : State} (hm : Within 0x2000000000400000002 M) (h0 : Kept M s0 s) :
    KeptE M s0 (execClockRepin d s) := by
  unfold execClockRepin
  refine kepte_next ?_
  refine kept_clockRepin (hm.sub rfl) ?_
  exact h0

end Sys2Proof.Machine
end

