-- ==== Sys2Proof/Laws/Kept/PoolOps.lean ====
section
/-! SUPPORT. What the operations of PoolOps may write: each keeps its footprint. -/

namespace Sys2Proof.Machine

variable {M : Nat} {s0 : State}

theorem kept_poolQueue {s : State} {d : Bytes} {src : Node} {host : Bool} {replicated : Bool} (hm : Within 0x80000000 M) (h0 : Kept M s0 s) :
    Kept M s0 (State.poolQueue s d src host replicated) := by
  unfold State.poolQueue
  refine Kept.in_pool (hm.bit 31 rfl) ?_ (Kept.seal) (Kept.seal) (Kept.seal)
  exact h0

theorem kept_poolDoor {s : State} {k : ReqKind} {q : Req} {replicated : Bool} (hm : Within 0x2000000007200000000000000010700000000000000000189a80043a02 M) (h0 : Kept M s0 s) :
    Kept M s0 (State.poolDoor s k q replicated) := by
  unfold State.poolDoor
  refine kept_ite ?_ ?_
  · refine kept_answerStatus (hm.sub rfl) ?_
    refine kept_noteRevoked (hm.sub rfl) ?_
    exact h0
  · extract_lets -underBinder +onlyGivenNames v20
    (clear_value v20; revert v20; refine Kept.seal ?_; intro v20)
    refine kept_openDeferred (hm.sub rfl) ?_
    refine kept_poolQueue (hm.sub rfl) ?_
    exact h0

theorem kept_poolHostGo {s : State} {replicated : Bool} (hm : Within 0x2300000000000000000000000000000000000000000000000080002002 M) (h0 : Kept M s0 s) :
    Kept M s0 (State.poolHostGo s replicated) := by
  unfold State.poolHostGo
  refine kept_ite ?_ ?_
  · exact h0
  · extract_lets -underBinder +onlyGivenNames v20
    (clear_value v20; revert v20; refine Kept.seal ?_; intro v20)
    extract_lets -underBinder +onlyGivenNames v21
    have h22 : Kept M s0 v21 := by
      unfold v21
      refine Kept.setF (hm.bit 1 rfl) (reach_POOL_HOST_GO (hm.bit 224 rfl)) ?_
      exact h0
    (clear_value v21; revert v21; refine Kept.seal ?_; intro v21 h22)
    refine kept_ite ?_ ?_
    · extract_lets -underBinder +onlyGivenNames v23
      have h24 : Kept M s0 v23 := by
        unfold v23
        refine kept_noteRevoked (hm.sub rfl) ?_
        exact h22
      (clear_value v23; revert v23; refine Kept.seal ?_; intro v23 h24)
      refine Kept.setF (hm.bit 1 rfl) (reach_POOL_HOST_STS (hm.bit 225 rfl)) ?_
      refine Kept.setF (hm.bit 1 rfl) (reach_POOL_HOST_STS (hm.bit 225 rfl)) ?_
      refine Kept.setF (hm.bit 1 rfl) (reach_POOL_HOST_GO (hm.bit 224 rfl)) ?_
      exact h24
    · refine kept_nextReq (hm.sub rfl) ?_
      refine kept_poolQueue (hm.sub rfl) ?_
      exact h22

theorem kept_setOp {s : State} {o : PoolOp} (hm : Within 0x80000000 M) (h0 : Kept M s0 s) :
    Kept M s0 (State.setOp s o) := by
  unfold State.setOp
  refine Kept.in_pool (hm.bit 31 rfl) ?_ (Kept.seal) (Kept.seal) (Kept.seal)
  exact h0

theorem kept_opResultIs {s : State} {o : PoolOp} {r : PoolResult} (hm : Within 0x80000000 M) (h0 : Kept M s0 s) :
    Kept M s0 (State.opResultIs s o r) := by
  unfold State.opResultIs
  refine kept_setOp (hm.sub rfl) ?_
  exact h0

theorem kept_opRefuse {s : State} {o : PoolOp} {status : ℕ} {reads : List (PA × ℕ)} {writes : List (PA × ℕ)} (hm : Within 0x3010000007000000000000000010700000000000000000119a80040202 M) (h0 : Kept M s0 s) :
    Kept M s0 (State.opRefuse s o status reads writes) := by
  unfold State.opRefuse
  extract_lets -underBinder +onlyGivenNames v20
  (clear_value v20; revert v20; refine Kept.seal ?_; intro v20)
  extract_lets -underBinder +onlyGivenNames v21
  have h22 : Kept M s0 v21 := by
    unfold v21
    refine kept_opResultIs (hm.sub rfl) ?_
    exact h0
  (clear_value v21; revert v21; refine Kept.seal ?_; intro v21 h22)
  refine kept_ite ?_ ?_
  · refine kept_ledger (hm.sub rfl) ?_
    refine Kept.setF (hm.bit 1 rfl) (reach_POOL_STATUS (hm.bit 220 rfl)) ?_
    exact h22
  · refine kept_ite ?_ ?_
    · refine kept_noteRevoked (hm.sub rfl) ?_
      exact h22
    · split
      · rename_i w23 w24
        refine kept_poolDenied (hm.sub rfl) ?_
        exact h22
      · rename_i w25
        exact h22

theorem kept_opWork {s : State} {o : PoolOp} {effect : State → PoolOp → State × Option PoolResult} (hm : Within 0x80000000 M) (h0 : Kept M s0 s) (h1 : ∀ c1_0 c1_1, Kept M s0 c1_0 → KeptP M s0 (effect c1_0 c1_1)) :
    Kept M s0 (State.opWork s o effect) := by
  unfold State.opWork
  (generalize q21 : (effect s o) = x20; revert x20; refine Kept.seal ?_; intro x20 q21)
  have h22 : KeptP M s0 x20 := by
    rw [← q21]
    refine h1 _ _ ?_
    exact h0
  split
  · rename_i w23 w24
    exact (KeptP.st h22)
  · rename_i w25 w26 w27
    refine kept_opResultIs (hm.sub rfl) ?_
    exact (KeptP.st h22)

theorem kept_poolRun {s : State} {id : ℕ} {k : PoolKind} {more : State → PoolOp → State × Option (List (PA × ℕ))} {effect : State → PoolOp → State × Option PoolResult} (hm : Within 0x3010000007000000000000000010700000000000000000119a80040202 M) (h0 : Kept M s0 s) (h1 : ∀ c1_0 c1_1, Kept M s0 c1_0 → KeptP M s0 (more c1_0 c1_1)) (h2 : ∀ c2_0 c2_1, Kept M s0 c2_0 → KeptP M s0 (effect c2_0 c2_1)) :
    Kept M s0 (State.poolRun s id k more effect) := by
  unfold State.poolRun
  (generalize q21 : (s.poolNext id k) = x20; revert x20; refine Kept.seal ?_; intro x20 q21)
  split
  · rename_i w22
    exact h0
  · rename_i w23 w24
    refine kept_ite ?_ ?_
    · refine kept_opWork (hm.sub rfl) ?_ ?_
      · exact h0
      · intro y25 y26 h27
        refine h2 _ _ ?_
        exact h27
    · refine kept_ite ?_ ?_
      · refine kept_opRefuse (hm.sub rfl) ?_
        exact h0
      · (generalize q29 : (more s w24) = x28; revert x28; refine Kept.seal ?_; intro x28 q29)
        have h30 : KeptP M s0 x28 := by
          rw [← q29]
          refine h1 _ _ ?_
          exact h0
        split
        · rename_i w31 w32
          exact (KeptP.st h30)
        · rename_i w33 w34 w35
          extract_lets -underBinder +onlyGivenNames v36
          (clear_value v36; revert v36; refine Kept.seal ?_; intro v36)
          refine kept_ite ?_ ?_
          · refine kept_opRefuse (hm.sub rfl) ?_
            exact (KeptP.st h30)
          · refine kept_ite ?_ ?_
            · exact (KeptP.st h30)
            · extract_lets -underBinder +onlyGivenNames v37
              (clear_value v37; revert v37; refine Kept.seal ?_; intro v37)
              refine kept_opWork (hm.sub rfl) ?_ ?_
              · refine kept_chargeHost (hm.sub rfl) ?_
                refine kept_setOp (hm.sub rfl) ?_
                exact (KeptP.st h30)
              · intro y38 y39 h40
                refine h2 _ _ ?_
                exact h40

theorem kept_noMore {s : State} {b1 : PoolOp} (hm : Within 0x0 M) (h0 : Kept M s0 s) :
    KeptP M s0 (noMore s b1) := by
  unfold noMore
  refine Kept.pair ?_
  exact h0

theorem kept_opPoison {s : State} {o : PoolOp} {a : PA} (hm : Within 0x10000007000000000000000016700000000000000000109a00040202 M) (h0 : Kept M s0 s) :
    Kept M s0 (State.opPoison s o a) := by
  unfold State.opPoison
  refine kept_poisonNamed (hm.sub rfl) ?_
  refine Kept.setF (hm.bit 1 rfl) (reach_POOL_STATUS (hm.bit 220 rfl)) ?_
  exact h0

theorem kept_opWrote {s : State} {o : PoolOp} {first : Option PA} (hm : Within 0x10000007000000000000000016700000000000000000109a00040202 M) (h0 : Kept M s0 s) :
    KeptP M s0 (State.opWrote s o first) := by
  unfold State.opWrote
  split
  · rename_i w20
    refine Kept.pair ?_
    exact h0
  · rename_i w21 w22
    refine Kept.pair ?_
    refine kept_opPoison (hm.sub rfl) ?_
    exact h0

theorem kept_fillEffect {env : VaultEnv} {s : State} {o : PoolOp} (hm : Within 0x2000000000007009020207000000190700000000000000000109a101e027e M) (h0 : Kept M s0 s) :
    KeptP M s0 (fillEffect env s o) := by
  unfold fillEffect
  extract_lets -underBinder +onlyGivenNames v20
  (clear_value v20; revert v20; refine Kept.seal ?_; intro v20)
  extract_lets -underBinder +onlyGivenNames v21
  (clear_value v21; revert v21; refine Kept.seal ?_; intro v21)
  (generalize q23 : (s.writeAny (Sys2Proof.Machine.opDst v20) v21 [] (Sys2Proof.Machine.opTag v20) env.places) = x22; revert x22; refine Kept.seal ?_; intro x22 q23)
  have h24 : KeptO M s0 x22 := by
    rw [← q23]
    refine kept_writeAny (hm.sub rfl) ?_
    exact h0
  split
  · rename_i w25 w26
    refine Kept.pair ?_
    exact (KeptO.get rfl h24)
  · rename_i w27
    refine Kept.pair ?_
    exact h0

theorem kept_copyEffect {env : VaultEnv} {s : State} {o : PoolOp} (hm : Within 0x200001000000700902020700c000197700000000000000000189a10de027e M) (h0 : Kept M s0 s) :
    KeptP M s0 (copyEffect env s o) := by
  unfold copyEffect
  extract_lets -underBinder +onlyGivenNames v20
  (clear_value v20; revert v20; refine Kept.seal ?_; intro v20)
  extract_lets -underBinder +onlyGivenNames v21
  (clear_value v21; revert v21; refine Kept.seal ?_; intro v21)
  extract_lets -underBinder +onlyGivenNames v22
  have h23 : KeptP M s0 v22 := by
    unfold v22
    refine keptp_ite ?_ ?_
    · refine kept_readStoredAny (hm.sub rfl) ?_
      exact h0
    · refine kept_readAny (hm.sub rfl) ?_
      exact h0
  (clear_value v22; revert v22; refine Kept.seal ?_; intro v22 h23)
  refine keptp_ite ?_ ?_
  · refine Kept.pair ?_
    refine kept_readWaits (hm.sub rfl) ?_
    exact (KeptP.st h23)
  · (generalize q25 : (v22.1.writeAny (Sys2Proof.Machine.opDst v20) v22.2.data v22.2.poison (Sys2Proof.Machine.opTag v20) env.places) = x24; revert x24; refine Kept.seal ?_; intro x24 q25)
    have h26 : KeptO M s0 x24 := by
      rw [← q25]
      refine kept_writeAny (hm.sub rfl) ?_
      exact (KeptP.st h23)
    split
    · rename_i w27 w28
      refine kept_opWrote (hm.sub rfl) ?_
      exact (KeptO.get rfl h26)
    · rename_i w29
      refine Kept.pair ?_
      exact (KeptP.st h23)

theorem kept_cmpEffect {env : VaultEnv} {s : State} {o : PoolOp} (hm : Within 0x1000000700902020700c000197700000000000000000189a00de027e M) (h0 : Kept M s0 s) :
    KeptP M s0 (cmpEffect env s o) := by
  unfold cmpEffect
  extract_lets -underBinder +onlyGivenNames v20
  (clear_value v20; revert v20; refine Kept.seal ?_; intro v20)
  extract_lets -underBinder +onlyGivenNames v21
  (clear_value v21; revert v21; refine Kept.seal ?_; intro v21)
  extract_lets -underBinder +onlyGivenNames v22
  have h23 : KeptP M s0 v22 := by
    unfold v22
    refine kept_readAny (hm.sub rfl) ?_
    exact h0
  (clear_value v22; revert v22; refine Kept.seal ?_; intro v22 h23)
  extract_lets -underBinder +onlyGivenNames v24
  have h25 : KeptP M s0 v24 := by
    unfold v24
    refine keptp_ite ?_ ?_
    · refine Kept.pair ?_
      exact (KeptP.st h23)
    · refine kept_readAny (hm.sub rfl) ?_
      exact (KeptP.st h23)
  (clear_value v24; revert v24; refine Kept.seal ?_; intro v24 h25)
  extract_lets -underBinder +onlyGivenNames v26
  (clear_value v26; revert v26; refine Kept.seal ?_; intro v26)
  extract_lets -underBinder +onlyGivenNames v27
  (clear_value v27; revert v27; refine Kept.seal ?_; intro v27)
  extract_lets -underBinder +onlyGivenNames v28
  (clear_value v28; revert v28; refine Kept.seal ?_; intro v28)
  refine keptp_ite ?_ ?_
  · refine Kept.pair ?_
    refine kept_readWaits (hm.sub rfl) ?_
    exact (KeptP.st h25)
  · refine keptp_ite ?_ ?_
    · refine Kept.pair ?_
      refine kept_readWaits (hm.sub rfl) ?_
      exact (KeptP.st h25)
    · extract_lets -underBinder +onlyGivenNames v29
      (clear_value v29; revert v29; refine Kept.seal ?_; intro v29)
      refine keptp_ite ?_ ?_
      · extract_lets -underBinder +onlyGivenNames v30
        (clear_value v30; revert v30; refine Kept.seal ?_; intro v30)
        extract_lets -underBinder +onlyGivenNames v31
        have h32 : Kept M s0 v31 := by
          unfold v31
          refine kept_opPoison (hm.sub rfl) ?_
          exact (KeptP.st h25)
        (clear_value v31; revert v31; refine Kept.seal ?_; intro v31 h32)
        refine Kept.pair ?_
        refine kept_bump (hm.sub rfl) ?_
        exact h32
      · extract_lets -underBinder +onlyGivenNames v33
        (clear_value v33; revert v33; refine Kept.seal ?_; intro v33)
        refine Kept.pair ?_
        exact (KeptP.st h25)

theorem kept_sourceList {s : State} {o : PoolOp} (hm : Within 0x700902020700c000191700000000000000000189a00de027e M) (h0 : Kept M s0 s) :
    KeptP M s0 (State.sourceList s o) := by
  unfold State.sourceList
  extract_lets -underBinder +onlyGivenNames v20
  (clear_value v20; revert v20; refine Kept.seal ?_; intro v20)
  extract_lets -underBinder +onlyGivenNames v21
  have h22 : KeptP M s0 v21 := by
    unfold v21
    refine kept_readAny (hm.sub rfl) ?_
    exact h0
  (clear_value v21; revert v21; refine Kept.seal ?_; intro v21 h22)
  refine Kept.pair ?_
  exact (KeptP.st h22)

theorem kept_listRanges {s : State} {o : PoolOp} (hm : Within 0x700902020700c000191700000000000000000189a00de027e M) (h0 : Kept M s0 s) :
    KeptP M s0 (listRanges s o) := by
  unfold listRanges
  refine keptp_ite ?_ ?_
  · extract_lets -underBinder +onlyGivenNames v20
    have h21 : KeptP M s0 v20 := by
      unfold v20
      refine kept_sourceList (hm.sub rfl) ?_
      exact h0
    (clear_value v20; revert v20; refine Kept.seal ?_; intro v20 h21)
    refine keptp_ite ?_ ?_
    · refine Kept.pair ?_
      exact (KeptP.st h21)
    · refine Kept.pair ?_
      refine kept_readWaits (hm.sub rfl) ?_
      exact (KeptP.st h21)
  · refine Kept.pair ?_
    exact h0

theorem kept_sumSources {s : State} {o : PoolOp} {env : VaultEnv} {srcs : List PA} {accs : List (ExactAcc × Bool)} (hm : Within 0x700902020700c000191700000000000000000189a00de027e M) (h0 : Kept M s0 s) :
    KeptP M s0 (State.sumSources s o env srcs accs) := by
  unfold State.sumSources
  extract_lets -underBinder +onlyGivenNames v20
  (clear_value v20; revert v20; refine Kept.seal ?_; intro v20)
  refine keptp_foldl ?_ ?_
  · intro y21 y22 h23
    extract_lets -underBinder +onlyGivenNames v24
    have h25 : KeptP M s0 v24 := by
      unfold v24
      refine kept_readAny (hm.sub rfl) ?_
      exact (KeptP.st h23)
    (clear_value v24; revert v24; refine Kept.seal ?_; intro v24 h25)
    refine Kept.pair ?_
    exact (KeptP.st h25)
  · refine Kept.pair ?_
    exact h0

theorem kept_keepSums {s : State} {a : PA} {size : ℕ} {accs : List (ExactAcc × Bool)} (hm : Within 0x80000000 M) (h0 : Kept M s0 s) :
    Kept M s0 (State.keepSums s a size accs) := by
  unfold State.keepSums
  refine kept_forEach ?_ ?_
  · intro y20 y21 h22
    extract_lets -underBinder +onlyGivenNames v23
    (clear_value v23; revert v23; refine Kept.seal ?_; intro v23)
    refine Kept.in_pool (hm.bit 31 rfl) ?_ (Kept.seal) (Kept.seal) (Sparse.wf_put)
    exact h22
  · exact h0

theorem kept_writeElems {s : State} {o : PoolOp} {env : VaultEnv} {accs : List (ExactAcc × Bool)} (hm : Within 0x2000000000007009020207000000190700000000000000000109a101e027e M) (h0 : Kept M s0 s) :
    KeptO M s0 (State.writeElems s o env accs) := by
  unfold State.writeElems
  extract_lets -underBinder +onlyGivenNames v20
  (clear_value v20; revert v20; refine Kept.seal ?_; intro v20)
  extract_lets -underBinder +onlyGivenNames v21
  (clear_value v21; revert v21; refine Kept.seal ?_; intro v21)
  extract_lets -underBinder +onlyGivenNames v22
  (clear_value v22; revert v22; refine Kept.seal ?_; intro v22)
  extract_lets -underBinder +onlyGivenNames v23
  (clear_value v23; revert v23; refine Kept.seal ?_; intro v23)
  refine kepto_mapo ?_ ?_
  · refine kept_writeAny (hm.sub rfl) ?_
    exact h0
  · intro y24 h25
    refine kept_ite ?_ ?_
    · refine kept_ledger (hm.sub rfl) ?_
      exact h25
    · exact h25

theorem kept_sumEffect {env : VaultEnv} {s : State} {o : PoolOp} (hm : Within 0x200001000000700902020700c000197700000000000000000189a90de027e M) (h0 : Kept M s0 s) :
    KeptP M s0 (sumEffect env s o) := by
  unfold sumEffect
  extract_lets -underBinder +onlyGivenNames v20
  have h21 : KeptP M s0 v20 := by
    unfold v20
    refine kept_sourceList (hm.sub rfl) ?_
    exact h0
  (clear_value v20; revert v20; refine Kept.seal ?_; intro v20 h21)
  refine keptp_ite ?_ ?_
  · refine Kept.pair ?_
    refine kept_readWaits (hm.sub rfl) ?_
    exact (KeptP.st h21)
  · extract_lets -underBinder +onlyGivenNames v22
    (clear_value v22; revert v22; refine Kept.seal ?_; intro v22)
    extract_lets -underBinder +onlyGivenNames v23
    have h24 : KeptP M s0 v23 := by
      unfold v23
      refine kept_sumSources (hm.sub rfl) ?_
      exact (KeptP.st h21)
    (clear_value v23; revert v23; refine Kept.seal ?_; intro v23 h24)
    (generalize q26 : (v23.2.wait) = x25; revert x25; refine Kept.seal ?_; intro x25 q26)
    split
    · rename_i w27 w28
      refine Kept.pair ?_
      refine kept_readWaits (hm.sub rfl) ?_
      exact (KeptP.st h24)
    · rename_i w29
      (generalize q31 : ((v23.1.keepSums (Sys2Proof.Machine.opDst o.desc) (Sys2Proof.Machine.typeSize (Sys2Proof.Machine.opDstType o.desc)) v23.2.accs).writeElems o env v23.2.accs) = x30; revert x30; refine Kept.seal ?_; intro x30 q31)
      have h32 : KeptO M s0 x30 := by
        rw [← q31]
        refine kept_writeElems (hm.sub rfl) ?_
        refine kept_keepSums (hm.sub rfl) ?_
        exact (KeptP.st h24)
      split
      · rename_i w33 w34
        refine kept_opWrote (hm.sub rfl) ?_
        exact (KeptO.get rfl h32)
      · rename_i w35
        refine Kept.pair ?_
        exact (KeptP.st h24)

theorem kept_readAccs {s : State} {a : PA} {n : ℕ} {o : PoolOp} {env : VaultEnv} (hm : Within 0x700902020700c000191700000000000000000189a00de027e M) (h0 : Kept M s0 s) :
    KeptP M s0 (State.readAccs s a n o env) := by
  unfold State.readAccs
  extract_lets -underBinder +onlyGivenNames v20
  have h21 : KeptP M s0 v20 := by
    unfold v20
    refine kept_readAny (hm.sub rfl) ?_
    exact h0
  (clear_value v20; revert v20; refine Kept.seal ?_; intro v20 h21)
  refine Kept.pair ?_
  exact (KeptP.st h21)

theorem kept_accumulateEffect {env : VaultEnv} {s : State} {o : PoolOp} (hm : Within 0x200001000000700902020700c000197700000000000000000189a90de027e M) (h0 : Kept M s0 s) :
    KeptP M s0 (accumulateEffect env s o) := by
  unfold accumulateEffect
  extract_lets -underBinder +onlyGivenNames v20
  have h21 : KeptP M s0 v20 := by
    unfold v20
    refine kept_sourceList (hm.sub rfl) ?_
    exact h0
  (clear_value v20; revert v20; refine Kept.seal ?_; intro v20 h21)
  extract_lets -underBinder +onlyGivenNames v22
  have h23 : KeptP M s0 v22 := by
    unfold v22
    refine kept_readAccs (hm.sub rfl) ?_
    exact (KeptP.st h21)
  (clear_value v22; revert v22; refine Kept.seal ?_; intro v22 h23)
  refine keptp_ite ?_ ?_
  · refine Kept.pair ?_
    refine kept_readWaits (hm.sub rfl) ?_
    exact (KeptP.st h23)
  · refine keptp_ite ?_ ?_
    · refine Kept.pair ?_
      refine kept_readWaits (hm.sub rfl) ?_
      exact (KeptP.st h23)
    · extract_lets -underBinder +onlyGivenNames v24
      (clear_value v24; revert v24; refine Kept.seal ?_; intro v24)
      extract_lets -underBinder +onlyGivenNames v25
      have h26 : KeptP M s0 v25 := by
        unfold v25
        refine kept_sumSources (hm.sub rfl) ?_
        exact (KeptP.st h23)
      (clear_value v25; revert v25; refine Kept.seal ?_; intro v25 h26)
      (generalize q28 : (v25.2.wait) = x27; revert x27; refine Kept.seal ?_; intro x27 q28)
      split
      · rename_i w29 w30
        refine Kept.pair ?_
        refine kept_readWaits (hm.sub rfl) ?_
        exact (KeptP.st h26)
      · rename_i w31
        (generalize q33 : ((v25.1.keepSums (Sys2Proof.Machine.opDst o.desc) 48 v25.2.accs).writeAny (Sys2Proof.Machine.opDst o.desc) (List.flatMap (fun a ↦ a.1.bytes) v25.2.accs) (Sys2Proof.Machine.badAccs (Sys2Proof.Machine.opDst o.desc) v25.2.accs) (Sys2Proof.Machine.opTag o.desc) env.places) = x32; revert x32; refine Kept.seal ?_; intro x32 q33)
        have h34 : KeptO M s0 x32 := by
          rw [← q33]
          refine kept_writeAny (hm.sub rfl) ?_
          refine kept_keepSums (hm.sub rfl) ?_
          exact (KeptP.st h26)
        split
        · rename_i w35 w36
          refine kept_opWrote (hm.sub rfl) ?_
          exact (KeptO.get rfl h34)
        · rename_i w37
          refine Kept.pair ?_
          exact (KeptP.st h26)

theorem kept_readoutEffect {env : VaultEnv} {s : State} {o : PoolOp} (hm : Within 0x200001000000700902020700c000197700000000000000000189a90de027e M) (h0 : Kept M s0 s) :
    KeptP M s0 (readoutEffect env s o) := by
  unfold readoutEffect
  extract_lets -underBinder +onlyGivenNames v20
  have h21 : KeptP M s0 v20 := by
    unfold v20
    refine kept_readAccs (hm.sub rfl) ?_
    exact h0
  (clear_value v20; revert v20; refine Kept.seal ?_; intro v20 h21)
  refine keptp_ite ?_ ?_
  · refine Kept.pair ?_
    refine kept_readWaits (hm.sub rfl) ?_
    exact (KeptP.st h21)
  · (generalize q23 : ((v20.1.keepSums (Sys2Proof.Machine.opSrc o.desc) 48 v20.2.1).writeElems o env v20.2.1) = x22; revert x22; refine Kept.seal ?_; intro x22 q23)
    have h24 : KeptO M s0 x22 := by
      rw [← q23]
      refine kept_writeElems (hm.sub rfl) ?_
      refine kept_keepSums (hm.sub rfl) ?_
      exact (KeptP.st h21)
    split
    · rename_i w25
      refine Kept.pair ?_
      exact (KeptP.st h21)
    · rename_i w26 w27
      refine keptp_ite ?_ ?_
      · (generalize q29 : (w27.writeAny (Sys2Proof.Machine.opSrc o.desc) (List.replicate (48 * Sys2Proof.Machine.opLen o.desc) 0) [] (Sys2Proof.Machine.opTag o.desc) env.places) = x28; revert x28; refine Kept.seal ?_; intro x28 q29)
        have h30 : KeptO M s0 x28 := by
          rw [← q29]
          refine kept_writeAny (hm.sub rfl) ?_
          exact (KeptO.get rfl h24)
        split
        · rename_i w31 w32
          refine kept_opWrote (hm.sub rfl) ?_
          exact (KeptO.get rfl h30)
        · rename_i w33
          refine Kept.pair ?_
          exact (KeptO.get rfl h24)
      · refine kept_opWrote (hm.sub rfl) ?_
        exact (KeptO.get rfl h24)

theorem kept_vopen {s : State} {o : PoolOp} {r : Region} (hm : Within 0x80000000 M) (h0 : Kept M s0 s) :
    KeptP M s0 (State.vopen s o r) := by
  unfold State.vopen
  extract_lets -underBinder +onlyGivenNames v20
  (clear_value v20; revert v20; refine Kept.seal ?_; intro v20)
  (generalize q22 : (s.slotOfVersion r v20) = x21; revert x21; refine Kept.seal ?_; intro x21 q22)
  split
  · rename_i w23
    refine Kept.pair ?_
    exact h0
  · rename_i w24 w25
    extract_lets -underBinder +onlyGivenNames v26
    (clear_value v26; revert v26; refine Kept.seal ?_; intro v26)
    refine keptp_ite ?_ ?_
    · refine Kept.pair ?_
      exact h0
    · refine Kept.pair ?_
      refine kept_setVerSlot (hm.sub rfl) ?_
      exact h0

theorem kept_vclose {s : State} {o : PoolOp} {r : Region} (hm : Within 0x80000000 M) (h0 : Kept M s0 s) :
    KeptP M s0 (State.vclose s o r) := by
  unfold State.vclose
  extract_lets -underBinder +onlyGivenNames v20
  (clear_value v20; revert v20; refine Kept.seal ?_; intro v20)
  (generalize q22 : (s.slotOfVersion r v20) = x21; revert x21; refine Kept.seal ?_; intro x21 q22)
  split
  · rename_i w23
    refine Kept.pair ?_
    exact h0
  · rename_i w24 w25
    extract_lets -underBinder +onlyGivenNames v26
    refine keptp_ite ?_ ?_
    · refine Kept.pair ?_
      exact h0
    · extract_lets -underBinder +onlyGivenNames v27
      refine Kept.pair ?_
      refine kept_setVerSlot (hm.sub rfl) ?_
      exact h0

theorem kept_vdraft {s : State} {o : PoolOp} {r : Region} (hm : Within 0x80000000 M) (h0 : Kept M s0 s) :
    KeptP M s0 (State.vdraft s o r) := by
  unfold State.vdraft
  extract_lets -underBinder +onlyGivenNames v20
  (clear_value v20; revert v20; refine Kept.seal ?_; intro v20)
  (generalize q22 : (s.slotOfVersion r v20) = x21; revert x21; refine Kept.seal ?_; intro x21 q22)
  split
  · rename_i w23
    refine Kept.pair ?_
    exact h0
  · rename_i w24 w25
    (generalize q27 : (s.freeSlot r) = x26; revert x26; refine Kept.seal ?_; intro x26 q27)
    split
    · rename_i w28
      refine Kept.pair ?_
      exact h0
    · rename_i w29 w30
      refine Kept.pair ?_
      refine kept_setVerSlot (hm.sub rfl) ?_
      exact h0

theorem kept_vpublish {s : State} {o : PoolOp} {r : Region} (hm : Within 0x80000000 M) (h0 : Kept M s0 s) :
    KeptP M s0 (State.vpublish s o r) := by
  unfold State.vpublish
  extract_lets -underBinder +onlyGivenNames v20
  (clear_value v20; revert v20; refine Kept.seal ?_; intro v20)
  extract_lets -underBinder +onlyGivenNames v21
  (clear_value v21; revert v21; refine Kept.seal ?_; intro v21)
  refine keptp_ite ?_ ?_
  · refine Kept.pair ?_
    exact h0
  · refine keptp_ite ?_ ?_
    · refine Kept.pair ?_
      exact h0
    · extract_lets -underBinder +onlyGivenNames v22
      (clear_value v22; revert v22; refine Kept.seal ?_; intro v22)
      extract_lets -underBinder +onlyGivenNames v23
      (clear_value v23; revert v23; refine Kept.seal ?_; intro v23)
      extract_lets -underBinder +onlyGivenNames v24
      (clear_value v24; revert v24; refine Kept.seal ?_; intro v24)
      extract_lets -underBinder +onlyGivenNames v25
      have h26 : Kept M s0 v25 := by
        unfold v25
        refine kept_setVerSlot (hm.sub rfl) ?_
        exact h0
      (clear_value v25; revert v25; refine Kept.seal ?_; intro v25 h26)
      refine Kept.pair ?_
      refine kept_setVerSlot (hm.sub rfl) ?_
      exact h26

theorem kept_undefine {s : State} {a : PA} {n : ℕ} (hm : Within 0x2000000000007008020207000000190700000000000000000189a101e027e M) (h0 : Kept M s0 s) :
    Kept M s0 (State.undefine s a n) := by
  unfold State.undefine
  refine kept_bump (hm.sub rfl) ?_
  refine kept_writeRange (hm.sub rfl) ?_
  exact h0

theorem kept_vrelease {s : State} {o : PoolOp} {r : Region} (hm : Within 0x2000000000007008020207000000190700000000000000000189a901e027e M) (h0 : Kept M s0 s) :
    KeptP M s0 (State.vrelease s o r) := by
  unfold State.vrelease
  extract_lets -underBinder +onlyGivenNames v20
  (clear_value v20; revert v20; refine Kept.seal ?_; intro v20)
  extract_lets -underBinder +onlyGivenNames v21
  (clear_value v21; revert v21; refine Kept.seal ?_; intro v21)
  refine keptp_ite ?_ ?_
  · refine Kept.pair ?_
    exact h0
  · refine keptp_ite ?_ ?_
    · refine Kept.pair ?_
      exact h0
    · refine Kept.pair ?_
      refine kept_undefine (hm.sub rfl) ?_
      refine kept_setVerSlot (hm.sub rfl) ?_
      exact h0

theorem kept_versionEffect {useSlot : Bool} {g : State → PoolOp → Region → State × PoolResult} {s : State} {o : PoolOp} (hm : Within 0x0 M) (h0 : ∀ c0_0 c0_1 c0_2, Kept M s0 c0_0 → KeptP M s0 (g c0_0 c0_1 c0_2)) (h1 : Kept M s0 s) :
    KeptP M s0 (versionEffect useSlot g s o) := by
  unfold versionEffect
  (generalize q21 : (s.versioned (Sys2Proof.Machine.opRegion o.desc)) = x20; revert x20; refine Kept.seal ?_; intro x20 q21)
  split
  · rename_i w22
    refine Kept.pair ?_
    exact h1
  · rename_i w23 w24
    refine keptp_ite ?_ ?_
    · refine Kept.pair ?_
      exact h1
    · extract_lets -underBinder +onlyGivenNames v25
      have h26 : KeptP M s0 v25 := by
        unfold v25
        refine h0 _ _ _ ?_
        exact h1
      (clear_value v25; revert v25; refine Kept.seal ?_; intro v25 h26)
      refine Kept.pair ?_
      exact (KeptP.st h26)

theorem kept_vdraftRun {s : State} {id : ℕ} (hm : Within 0x3010000007000000000000000010700000000000000000119a80040202 M) (h0 : Kept M s0 s) :
    Kept M s0 (State.vdraftRun s id) := by
  unfold State.vdraftRun
  (generalize q21 : (s.poolNext id Sys2Proof.Machine.PoolKind.vdraft) = x20; revert x20; refine Kept.seal ?_; intro x20 q21)
  split
  · rename_i w22
    exact h0
  · rename_i w23 w24
    extract_lets -underBinder +onlyGivenNames v25
    (clear_value v25; revert v25; refine Kept.seal ?_; intro v25)
    extract_lets -underBinder +onlyGivenNames v26
    (clear_value v26; revert v26; refine Kept.seal ?_; intro v26)
    extract_lets -underBinder +onlyGivenNames v27
    (clear_value v27; revert v27; refine Kept.seal ?_; intro v27)
    extract_lets -underBinder +onlyGivenNames v28
    (clear_value v28; revert v28; refine Kept.seal ?_; intro v28)
    refine kept_ite ?_ ?_
    · refine kept_opRefuse (hm.sub rfl) ?_
      exact h0
    · (generalize q30 : (Sys2Proof.Machine.versionEffect Bool.false Sys2Proof.Machine.State.vdraft s w24) = x29; revert x29; refine Kept.seal ?_; intro x29 q30)
      have h31 : KeptP M s0 x29 := by
        rw [← q30]
        refine kept_versionEffect (hm.sub rfl) ?_ ?_
        · intro y32 y33 y34 h35
          refine kept_vdraft (hm.sub rfl) ?_
          exact h35
        · exact h0
      split
      · rename_i w36 w37 w38
        refine kept_ite ?_ ?_
        · extract_lets -underBinder +onlyGivenNames v39
          (clear_value v39; revert v39; refine Kept.seal ?_; intro v39)
          refine kept_setOp (hm.sub rfl) ?_
          refine kept_chargeHost (hm.sub rfl) ?_
          exact (KeptP.st h31)
        · refine kept_opResultIs (hm.sub rfl) ?_
          exact (KeptP.st h31)
      · rename_i w40 w41
        exact (KeptP.st h31)

theorem kept_copyOver {s : State} {o : PoolOp} (hm : Within 0x80000000 M) (h0 : Kept M s0 s) :
    Kept M s0 (State.copyOver s o) := by
  unfold State.copyOver
  (generalize q21 : (s.versioned (Sys2Proof.Machine.opRegion o.desc)) = x20; revert x20; refine Kept.seal ?_; intro x20 q21)
  (generalize q23 : (o.result) = x22; revert x22; refine Kept.seal ?_; intro x22 q23)
  split
  · rename_i w24 w25 w26 w27
    extract_lets -underBinder +onlyGivenNames v28
    (clear_value v28; revert v28; refine Kept.seal ?_; intro v28)
    refine kept_setVerSlot (hm.sub rfl) ?_
    exact h0
  · rename_i w29 w30 w31
    exact h0

theorem kept_vdraftCopyDone {s : State} {id : ℕ} {env : VaultEnv} (hm : Within 0x200001000000700902020700c000197700000000000000000189a90de027e M) (h0 : Kept M s0 s) :
    Kept M s0 (State.vdraftCopyDone s id env) := by
  unfold State.vdraftCopyDone
  (generalize q21 : (List.find? (fun o ↦ o.id == id && o.copying) s.pool.ops) = x20; revert x20; refine Kept.seal ?_; intro x20 q21)
  split
  · rename_i w22
    exact h0
  · rename_i w23 w24
    (generalize q26 : (w24.lists) = x25; revert x25; refine Kept.seal ?_; intro x25 q26)
    (generalize q28 : (w24.result) = x27; revert x27; refine Kept.seal ?_; intro x27 q28)
    split
    · rename_i w29 w30 w31 w32 w33
      extract_lets -underBinder +onlyGivenNames v34
      have h35 : KeptP M s0 v34 := by
        unfold v34
        refine kept_readAny (hm.sub rfl) ?_
        exact h0
      (clear_value v34; revert v34; refine Kept.seal ?_; intro v34 h35)
      refine kept_ite ?_ ?_
      · refine kept_readWaits (hm.sub rfl) ?_
        exact (KeptP.st h35)
      · (generalize q37 : (v34.1.writeAny w32.1 v34.2.data v34.2.poison (Sys2Proof.Machine.opTag w24.desc) []) = x36; revert x36; refine Kept.seal ?_; intro x36 q37)
        have h38 : KeptO M s0 x36 := by
          rw [← q37]
          refine kept_writeAny (hm.sub rfl) ?_
          exact (KeptP.st h35)
        split
        · rename_i w39
          exact (KeptP.st h35)
        · rename_i w40 w41
          extract_lets -underBinder +onlyGivenNames v42
          have h43 : Kept M s0 v42 := by
            unfold v42
            refine kept_copyOver (hm.sub rfl) ?_
            exact (KeptO.get rfl h38)
          (clear_value v42; revert v42; refine Kept.seal ?_; intro v42 h43)
          (generalize q45 : (v34.2.first) = x44; revert x44; refine Kept.seal ?_; intro x44 q45)
          split
          · rename_i w46 w47
            refine kept_setOp (hm.sub rfl) ?_
            refine kept_opPoison (hm.sub rfl) ?_
            exact h43
          · rename_i w48
            refine kept_setOp (hm.sub rfl) ?_
            exact h43
    · rename_i w49 w50 w51
      exact h0

theorem kept_poolEnd {s : State} {o : PoolOp} {r : PoolResult} (hm : Within 0x8000002004300000007208020207000000190700000000000000000189a901e1a7e M) (h0 : Kept M s0 s) :
    Kept M s0 (State.poolEnd s o r) := by
  unfold State.poolEnd
  extract_lets -underBinder +onlyGivenNames v20
  (clear_value v20; revert v20; refine Kept.seal ?_; intro v20)
  extract_lets -underBinder +onlyGivenNames v21
  (clear_value v21; revert v21; refine Kept.seal ?_; intro v21)
  extract_lets -underBinder +onlyGivenNames v22
  have h23 : Kept M s0 v22 := by
    unfold v22
    refine kept_ite ?_ ?_
    · refine kept_writeRange (hm.sub rfl) ?_
      exact h0
    · exact h0
  (clear_value v22; revert v22; refine Kept.seal ?_; intro v22 h23)
  extract_lets -underBinder +onlyGivenNames v24
  have h25 : Kept M s0 v24 := by
    unfold v24
    refine kept_ite ?_ ?_
    · refine kept_forEach ?_ ?_
      · intro y26 y27 h28
        refine kept_ite ?_ ?_
        · refine kept_vaultCovers (hm.sub rfl) ?_
          exact h28
        · exact h28
      · exact h23
    · exact h23
  (clear_value v24; revert v24; refine Kept.seal ?_; intro v24 h25)
  extract_lets -underBinder +onlyGivenNames v29
  have h30 : Kept M s0 v29 := by
    unfold v29
    refine kept_doneEvent (hm.sub rfl) ?_
    exact h25
  (clear_value v29; revert v29; refine Kept.seal ?_; intro v29 h30)
  extract_lets -underBinder +onlyGivenNames v31
  have h32 : Kept M s0 v31 := by
    unfold v31
    refine Kept.addF (hm.bit 1 rfl) (reach_POOL_OPS_DONE (hm.bit 230 rfl)) ?_
    exact h30
  (clear_value v31; revert v31; refine Kept.seal ?_; intro v31 h32)
  extract_lets -underBinder +onlyGivenNames v33
  extract_lets -underBinder +onlyGivenNames v34
  have h35 : Kept M s0 v34 := by
    unfold v34
    refine Kept.in_pool (hm.bit 31 rfl) ?_ (Kept.seal) (Kept.seal) (Kept.seal)
    exact h32
  (clear_value v34; revert v34; refine Kept.seal ?_; intro v34 h35)
  extract_lets -underBinder +onlyGivenNames v36
  have h37 : Kept M s0 v36 := by
    unfold v36
    refine kept_ite ?_ ?_
    · exact h35
    · refine kept_noteDrains (hm.sub rfl) ?_
      exact h35
  (clear_value v36; revert v36; refine Kept.seal ?_; intro v36 h37)
  extract_lets -underBinder +onlyGivenNames v38
  have h39 : Kept M s0 v38 := by
    unfold v38
    refine kept_ite ?_ ?_
    · refine Kept.setF (hm.bit 1 rfl) (reach_POOL_HOST_STS (hm.bit 225 rfl)) ?_
      refine Kept.setF (hm.bit 1 rfl) (reach_POOL_HOST_STS (hm.bit 225 rfl)) ?_
      refine Kept.setF (hm.bit 1 rfl) (reach_POOL_HOST_GO (hm.bit 224 rfl)) ?_
      exact h37
    · exact h37
  (clear_value v38; revert v38; refine Kept.seal ?_; intro v38 h39)
  (generalize q41 : (List.find? (fun q ↦ q.id == o.id) v38.opens) = x40; revert x40; refine Kept.seal ?_; intro x40 q41)
  split
  · rename_i w42 w43
    extract_lets -underBinder +onlyGivenNames v44
    have h45 : Kept M s0 v44 := by
      unfold v44
      refine Kept.in_opens (hm.bit 12 rfl) ?_ (fresh_filter)
      exact h39
    (clear_value v44; revert v44; refine Kept.seal ?_; intro v44 h45)
    (generalize q47 : (w43.token) = x46; revert x46; refine Kept.seal ?_; intro x46 q47)
    split
    · rename_i w48 w49
      refine kept_completion (hm.sub rfl) ?_
      exact h45
    · rename_i w50
      refine kept_answerStatus (hm.sub rfl) ?_
      exact h45
  · rename_i w51
    exact h39

theorem kept_verReset {s : State} {region : ℕ} {slot : ℕ} (hm : Within 0x80000000 M) (h0 : Kept M s0 s) :
    Kept M s0 (State.verReset s region slot) := by
  unfold State.verReset
  (generalize q21 : (s.versioned region) = x20; revert x20; refine Kept.seal ?_; intro x20 q21)
  split
  · rename_i w22
    exact h0
  · rename_i w23 w24
    refine kept_ite ?_ ?_
    · exact h0
    · extract_lets -underBinder +onlyGivenNames v25
      (clear_value v25; revert v25; refine Kept.seal ?_; intro v25)
      refine kept_setVerSlot (hm.sub rfl) ?_
      exact h0

theorem kept_grant {s : State} {i : ℕ} {space : ℕ} {base : ℕ} {rw : ℕ} {ro : ℕ} (hm : Within 0x200010000007000000000000000010700000000000000000109a00040202 M) (h0 : Kept M s0 s) :
    Kept M s0 (State.grant s i space base rw ro) := by
  unfold State.grant
  refine kept_ite ?_ ?_
  · exact h0
  · refine kept_ite ?_ ?_
    · refine kept_ledger (hm.sub rfl) ?_
      refine Kept.setF (hm.bit 1 rfl) (reach_POOL_STATUS (hm.bit 220 rfl)) ?_
      exact h0
    · extract_lets -underBinder +onlyGivenNames v20
      have h21 : Kept M s0 v20 := by
        unfold v20
        refine Kept.setF (hm.bit 1 rfl) (reach_POOL_EXT (hm.bit 237 rfl)) ?_
        exact h0
      (clear_value v20; revert v20; refine Kept.seal ?_; intro v20 h21)
      extract_lets -underBinder +onlyGivenNames v22
      have h23 : Kept M s0 v22 := by
        unfold v22
        refine Kept.setF (hm.bit 1 rfl) (reach_POOL_EXT (hm.bit 237 rfl)) ?_
        exact h21
      (clear_value v22; revert v22; refine Kept.seal ?_; intro v22 h23)
      extract_lets -underBinder +onlyGivenNames v24
      have h25 : Kept M s0 v24 := by
        unfold v24
        refine Kept.setF (hm.bit 1 rfl) (reach_POOL_EXT (hm.bit 237 rfl)) ?_
        exact h23
      (clear_value v24; revert v24; refine Kept.seal ?_; intro v24 h25)
      extract_lets -underBinder +onlyGivenNames v26
      have h27 : Kept M s0 v26 := by
        unfold v26
        refine Kept.setF (hm.bit 1 rfl) (reach_POOL_EXT (hm.bit 237 rfl)) ?_
        exact h25
      (clear_value v26; revert v26; refine Kept.seal ?_; intro v26 h27)
      refine Kept.setF (hm.bit 1 rfl) (reach_POOL_EXT (hm.bit 237 rfl)) ?_
      exact h27

theorem kept_extentRevoke {s : State} {i : ℕ} (hm : Within 0x200000000000000000000000000000000000000000000000000080000002 M) (h0 : Kept M s0 s) :
    Kept M s0 (State.extentRevoke s i) := by
  unfold State.extentRevoke
  refine kept_ite ?_ ?_
  · exact h0
  · extract_lets -underBinder +onlyGivenNames v20
    have h21 : Kept M s0 v20 := by
      unfold v20
      refine Kept.setF (hm.bit 1 rfl) (reach_POOL_EXT (hm.bit 237 rfl)) ?_
      exact h0
    (clear_value v20; revert v20; refine Kept.seal ?_; intro v20 h21)
    extract_lets -underBinder +onlyGivenNames v22
    (clear_value v22; revert v22; refine Kept.seal ?_; intro v22)
    refine Kept.in_pool (hm.bit 31 rfl) ?_ (Kept.seal) (Kept.seal) (Kept.seal)
    exact h21

theorem kept_revokeOpen {s : State} {o : OpenReq} (hm : Within 0x200000800720000000000000001070000000000000000018ba80041a02 M) (h0 : Kept M s0 s) :
    Kept M s0 (State.revokeOpen s o) := by
  unfold State.revokeOpen
  extract_lets -underBinder +onlyGivenNames v20
  have h21 : Kept M s0 v20 := by
    unfold v20
    refine kept_noteRevoked (hm.sub rfl) h0
  (clear_value v20; revert v20; refine Kept.seal ?_; intro v20 h21)
  extract_lets -underBinder +onlyGivenNames v22
  have h23 : Kept M s0 v22 := by
    unfold v22
    refine kept_finish (hm.sub rfl) h21
  (clear_value v22; revert v22; refine Kept.seal ?_; intro v22 h23)
  split
  · rename_i h
    exact Kept.in_opens (hm.bit 12 rfl) h23 (fresh_append h.2)
  · exact h23

theorem kept_revokeOp {s : State} {o : PoolOp} (hm : Within 0x8000002006300000007208020207000000190700000000000000000189a901e1a7e M) (h0 : Kept M s0 s) :
    Kept M s0 (State.revokeOp s o) := by
  unfold State.revokeOp
  extract_lets -underBinder +onlyGivenNames v20
  have h21 : Kept M s0 v20 := by
    unfold v20
    refine kept_noteRevoked (hm.sub rfl) ?_
    exact h0
  (clear_value v20; revert v20; refine Kept.seal ?_; intro v20 h21)
  extract_lets -underBinder +onlyGivenNames v22
  have h23 : Kept M s0 v22 := by
    unfold v22
    refine kept_ite ?_ ?_
    · refine kept_forEach ?_ ?_
      · intro y24 y25 h26
        refine kept_ite ?_ ?_
        · exact h26
        · refine kept_undefine (hm.sub rfl) ?_
          exact h26
      · exact h21
    · exact h21
  (clear_value v22; revert v22; refine Kept.seal ?_; intro v22 h23)
  extract_lets -underBinder +onlyGivenNames v27
  have h28 : Kept M s0 v27 := by
    unfold v27
    refine kept_ite ?_ ?_
    · refine kept_copyOver (hm.sub rfl) ?_
      exact h23
    · exact h23
  (clear_value v27; revert v27; refine Kept.seal ?_; intro v27 h28)
  refine kept_poolEnd (hm.sub rfl) ?_
  exact h28

theorem kept_revokeTimeout {s : State} {i : ℕ} (hm : Within 0x800000200630000800720802020700000019070000000000000000018ba901e1a7e M) (h0 : Kept M s0 s) :
    Kept M s0 (State.revokeTimeout s i) := by
  unfold State.revokeTimeout
  (generalize q21 : (List.find? (fun d ↦ d.entry == i && !d.timedOut && Decidable.decide (d.t0 + 1000 * s.f Sys2Proof.F.POOL_CFG_DRAIN_US ≤ s.count)) s.pool.drains) = x20; revert x20; refine Kept.seal ?_; intro x20 q21)
  split
  · rename_i w22
    exact h0
  · rename_i w23 w24
    extract_lets -underBinder +onlyGivenNames v25
    (clear_value v25; revert v25; refine Kept.seal ?_; intro v25)
    extract_lets -underBinder +onlyGivenNames v26
    (clear_value v26; revert v26; refine Kept.seal ?_; intro v26)
    extract_lets -underBinder +onlyGivenNames v27
    extract_lets -underBinder +onlyGivenNames v28
    have h29 : Kept M s0 v28 := by
      unfold v28
      refine Kept.in_pool (hm.bit 31 rfl) ?_ (Kept.seal) (Kept.seal) (Kept.seal)
      exact h0
    (clear_value v28; revert v28; refine Kept.seal ?_; intro v28 h29)
    refine kept_forEach ?_ ?_
    · intro y30 y31 h32
      refine kept_revokeOp (hm.sub rfl) ?_
      exact h32
    · refine kept_forEach ?_ ?_
      · intro y33 y34 h35
        refine kept_revokeOpen (hm.sub rfl) ?_
        exact h35
      · exact h29

theorem kept_extentFree {s : State} {i : ℕ} (hm : Within 0x200010000007200000000000000010700000000000000000109a80040a02 M) (h0 : Kept M s0 s) :
    Kept M s0 (State.extentFree s i) := by
  unfold State.extentFree
  (generalize q21 : (List.find? (fun d ↦ d.entry == i) s.pool.drains) = x20; revert x20; refine Kept.seal ?_; intro x20 q21)
  split
  · rename_i w22
    exact h0
  · rename_i w23 w24
    refine kept_ite ?_ ?_
    · exact h0
    · extract_lets -underBinder +onlyGivenNames v25
      (clear_value v25; revert v25; refine Kept.seal ?_; intro v25)
      extract_lets -underBinder +onlyGivenNames v26
      have h27 : Kept M s0 v26 := by
        unfold v26
        refine Kept.setF (hm.bit 1 rfl) (reach_POOL_EXT (hm.bit 237 rfl)) ?_
        exact h0
      (clear_value v26; revert v26; refine Kept.seal ?_; intro v26 h27)
      extract_lets -underBinder +onlyGivenNames v28
      extract_lets -underBinder +onlyGivenNames v29
      have h30 : Kept M s0 v29 := by
        unfold v29
        refine Kept.in_pool (hm.bit 31 rfl) ?_ (Kept.seal) (Kept.seal) (Kept.seal)
        exact h27
      (clear_value v29; revert v29; refine Kept.seal ?_; intro v29 h30)
      extract_lets -underBinder +onlyGivenNames v31
      have h32 : Kept M s0 v31 := by
        unfold v31
        refine kept_noticeTo (hm.sub rfl) ?_
        exact h30
      (clear_value v31; revert v31; refine Kept.seal ?_; intro v31 h32)
      refine kept_ite ?_ ?_
      · exact h32
      · refine kept_ledger (hm.sub rfl) ?_
        refine Kept.setF (hm.bit 1 rfl) (reach_POOL_STATUS (hm.bit 220 rfl)) ?_
        exact h32

theorem kept_limiterRefill {s : State} (hm : Within 0x80000000 M) (h0 : Kept M s0 s) :
    Kept M s0 (State.limiterRefill s) := by
  unfold State.limiterRefill
  extract_lets -underBinder +onlyGivenNames v20
  (clear_value v20; revert v20; refine Kept.seal ?_; intro v20)
  extract_lets -underBinder +onlyGivenNames v21
  have h22 : ∀ c_0 c_1, Kept M s0 c_0 → Kept M s0 (v21 c_0 c_1) := by
    unfold v21
    intro y23 y24 h25
    refine kept_setBucket (hm.sub rfl) ?_
    exact h25
  (clear_value v21; revert v21; refine Kept.seal ?_; intro v21 h22)
  refine kept_ite ?_ ?_
  · exact h0
  · extract_lets -underBinder +onlyGivenNames v26
    (clear_value v26; revert v26; refine Kept.seal ?_; intro v26)
    extract_lets -underBinder +onlyGivenNames v27
    have h28 : Kept M s0 v27 := by
      unfold v27
      refine kept_forEach ?_ ?_
      · intro y29 y30 h31
        refine h22 _ _ ?_
        exact h31
      · exact h0
    (clear_value v27; revert v27; refine Kept.seal ?_; intro v27 h28)
    extract_lets -underBinder +onlyGivenNames v32
    have h33 : Kept M s0 v32 := by
      unfold v32
      refine kept_setBucket (hm.sub rfl) ?_
      exact h28
    (clear_value v32; revert v32; refine Kept.seal ?_; intro v32 h33)
    refine Kept.in_pool (hm.bit 31 rfl) ?_ (Kept.seal) (Kept.seal) (Kept.seal)
    exact h33

theorem kept_execFill {id : ℕ} {env : VaultEnv} {s : State} (hm : Within 0x2003010000007009020207000000190700000000000000000119a901e037e M) (h0 : Kept M s0 s) :
    KeptE M s0 (execFill id env s) := by
  unfold execFill
  refine kepte_next ?_
  refine kept_underOp (hm.sub rfl) ?_ ?_
  · exact h0
  · intro y20 h21
    refine kept_poolRun (hm.sub rfl) ?_ ?_ ?_
    · exact h21
    · intro y22 y23 h24
      refine kept_noMore (hm.sub rfl) ?_
      exact h24
    · intro y25 y26 h27
      refine kept_fillEffect (hm.sub rfl) ?_
      exact h27

theorem kept_execCopy {id : ℕ} {env : VaultEnv} {s : State} (hm : Within 0x200301000000700902020700c000197700000000000000000199a90de037e M) (h0 : Kept M s0 s) :
    KeptE M s0 (execCopy id env s) := by
  unfold execCopy
  refine kepte_next ?_
  refine kept_underOp (hm.sub rfl) ?_ ?_
  · exact h0
  · intro y20 h21
    refine kept_poolRun (hm.sub rfl) ?_ ?_ ?_
    · exact h21
    · intro y22 y23 h24
      refine kept_noMore (hm.sub rfl) ?_
      exact h24
    · intro y25 y26 h27
      refine kept_copyEffect (hm.sub rfl) ?_
      exact h27

theorem kept_execCmp {id : ℕ} {env : VaultEnv} {s : State} (hm : Within 0x301000000700902020700c000197700000000000000000199a80de037e M) (h0 : Kept M s0 s) :
    KeptE M s0 (execCmp id env s) := by
  unfold execCmp
  refine kepte_next ?_
  refine kept_underOp (hm.sub rfl) ?_ ?_
  · exact h0
  · intro y20 h21
    refine kept_poolRun (hm.sub rfl) ?_ ?_ ?_
    · exact h21
    · intro y22 y23 h24
      refine kept_noMore (hm.sub rfl) ?_
      exact h24
    · intro y25 y26 h27
      refine kept_cmpEffect (hm.sub rfl) ?_
      exact h27

theorem kept_execReduceSum {id : ℕ} {env : VaultEnv} {s : State} (hm : Within 0x200301000000700902020700c000197700000000000000000199a90de037e M) (h0 : Kept M s0 s) :
    KeptE M s0 (execReduceSum id env s) := by
  unfold execReduceSum
  refine kepte_next ?_
  refine kept_underOp (hm.sub rfl) ?_ ?_
  · exact h0
  · intro y20 h21
    refine kept_poolRun (hm.sub rfl) ?_ ?_ ?_
    · exact h21
    · intro y22 y23 h24
      refine kept_listRanges (hm.sub rfl) ?_
      exact h24
    · intro y25 y26 h27
      refine kept_sumEffect (hm.sub rfl) ?_
      exact h27

theorem kept_execReduceAccumulate {id : ℕ} {env : VaultEnv} {s : State} (hm : Within 0x200301000000700902020700c000197700000000000000000199a90de037e M) (h0 : Kept M s0 s) :
    KeptE M s0 (execReduceAccumulate id env s) := by
  unfold execReduceAccumulate
  refine kepte_next ?_
  refine kept_underOp (hm.sub rfl) ?_ ?_
  · exact h0
  · intro y20 h21
    refine kept_poolRun (hm.sub rfl) ?_ ?_ ?_
    · exact h21
    · intro y22 y23 h24
      refine kept_listRanges (hm.sub rfl) ?_
      exact h24
    · intro y25 y26 h27
      refine kept_accumulateEffect (hm.sub rfl) ?_
      exact h27

theorem kept_execReduceReadout {id : ℕ} {env : VaultEnv} {s : State} (hm : Within 0x200301000000700902020700c000197700000000000000000199a90de037e M) (h0 : Kept M s0 s) :
    KeptE M s0 (execReduceReadout id env s) := by
  unfold execReduceReadout
  refine kepte_next ?_
  refine kept_underOp (hm.sub rfl) ?_ ?_
  · exact h0
  · intro y20 h21
    refine kept_poolRun (hm.sub rfl) ?_ ?_ ?_
    · exact h21
    · intro y22 y23 h24
      refine kept_noMore (hm.sub rfl) ?_
      exact h24
    · intro y25 y26 h27
      refine kept_readoutEffect (hm.sub rfl) ?_
      exact h27

theorem kept_execVopen {id : ℕ} {s : State} (hm : Within 0x3010000007000000000000000010700000000000000000119a80040302 M) (h0 : Kept M s0 s) :
    KeptE M s0 (execVopen id s) := by
  unfold execVopen
  refine kepte_next ?_
  refine kept_underOp (hm.sub rfl) ?_ ?_
  · exact h0
  · intro y20 h21
    refine kept_poolRun (hm.sub rfl) ?_ ?_ ?_
    · exact h21
    · intro y22 y23 h24
      refine kept_noMore (hm.sub rfl) ?_
      exact h24
    · intro y25 y26 h27
      refine kept_versionEffect (hm.sub rfl) ?_ ?_
      · intro y28 y29 y30 h31
        refine kept_vopen (hm.sub rfl) ?_
        exact h31
      · exact h27

theorem kept_execVclose {id : ℕ} {s : State} (hm : Within 0x3010000007000000000000000010700000000000000000119a80040302 M) (h0 : Kept M s0 s) :
    KeptE M s0 (execVclose id s) := by
  unfold execVclose
  refine kepte_next ?_
  refine kept_underOp (hm.sub rfl) ?_ ?_
  · exact h0
  · intro y20 h21
    refine kept_poolRun (hm.sub rfl) ?_ ?_ ?_
    · exact h21
    · intro y22 y23 h24
      refine kept_noMore (hm.sub rfl) ?_
      exact h24
    · intro y25 y26 h27
      refine kept_versionEffect (hm.sub rfl) ?_ ?_
      · intro y28 y29 y30 h31
        refine kept_vclose (hm.sub rfl) ?_
        exact h31
      · exact h27

theorem kept_execVdraft {id : ℕ} {s : State} (hm : Within 0x3010000007000000000000000010700000000000000000119a80040302 M) (h0 : Kept M s0 s) :
    KeptE M s0 (execVdraft id s) := by
  unfold execVdraft
  refine kepte_next ?_
  refine kept_underOp (hm.sub rfl) ?_ ?_
  · exact h0
  · intro y20 h21
    refine kept_vdraftRun (hm.sub rfl) ?_
    exact h21

theorem kept_execVdraftCopyDone {id : ℕ} {env : VaultEnv} {s : State} (hm : Within 0x200001000000700902020700c000197700000000000000000189a90de037e M) (h0 : Kept M s0 s) :
    KeptE M s0 (execVdraftCopyDone id env s) := by
  unfold execVdraftCopyDone
  refine kepte_next ?_
  refine kept_underOp (hm.sub rfl) ?_ ?_
  · exact h0
  · intro y20 h21
    refine kept_vdraftCopyDone (hm.sub rfl) ?_
    exact h21

theorem kept_execVpublish {id : ℕ} {s : State} (hm : Within 0x3010000007000000000000000010700000000000000000119a80040302 M) (h0 : Kept M s0 s) :
    KeptE M s0 (execVpublish id s) := by
  unfold execVpublish
  refine kepte_next ?_
  refine kept_underOp (hm.sub rfl) ?_ ?_
  · exact h0
  · intro y20 h21
    refine kept_poolRun (hm.sub rfl) ?_ ?_ ?_
    · exact h21
    · intro y22 y23 h24
      refine kept_noMore (hm.sub rfl) ?_
      exact h24
    · intro y25 y26 h27
      refine kept_versionEffect (hm.sub rfl) ?_ ?_
      · intro y28 y29 y30 h31
        refine kept_vpublish (hm.sub rfl) ?_
        exact h31
      · exact h27

theorem kept_execVrelease {id : ℕ} {s : State} (hm : Within 0x2003010000007008020207000000190700000000000000000199a901e037e M) (h0 : Kept M s0 s) :
    KeptE M s0 (execVrelease id s) := by
  unfold execVrelease
  refine kepte_next ?_
  refine kept_underOp (hm.sub rfl) ?_ ?_
  · exact h0
  · intro y20 h21
    refine kept_poolRun (hm.sub rfl) ?_ ?_ ?_
    · exact h21
    · intro y22 y23 h24
      refine kept_noMore (hm.sub rfl) ?_
      exact h24
    · intro y25 y26 h27
      refine kept_versionEffect (hm.sub rfl) ?_ ?_
      · intro y28 y29 y30 h31
        refine kept_vrelease (hm.sub rfl) ?_
        exact h31
      · exact h27

theorem kept_execPoolVerReset {region : W16} {slot : Fin 16} {s : State} (hm : Within 0x80000000 M) (h0 : Kept M s0 s) :
    KeptE M s0 (execPoolVerReset region slot s) := by
  unfold execPoolVerReset
  refine kepte_next ?_
  refine kept_verReset (hm.sub rfl) ?_
  exact h0

theorem kept_execGrant {i : Fin 16384} {space : Fin 4} {base : Fin 16777216} {rw : Byte} {ro : Byte} {s : State} (hm : Within 0x200010000007000000000000000010700000000000000000109a00040202 M) (h0 : Kept M s0 s) :
    KeptE M s0 (execGrant i space base rw ro s) := by
  unfold execGrant
  refine kepte_next ?_
  refine kept_grant (hm.sub rfl) ?_
  exact h0

theorem kept_execExtentRevoke {i : Fin 16384} {s : State} (hm : Within 0x200000000000000000000000000000000000000000000000000080000002 M) (h0 : Kept M s0 s) :
    KeptE M s0 (execExtentRevoke i s) := by
  unfold execExtentRevoke
  refine kepte_next ?_
  refine kept_extentRevoke (hm.sub rfl) ?_
  exact h0

theorem kept_execRevokeDrainTimeout {i : Fin 16384} {s : State} (hm : Within 0x800000200630000800720802020700000019070000000000000000018ba901e1a7e M) (h0 : Kept M s0 s) :
    KeptE M s0 (execRevokeDrainTimeout i s) := by
  unfold execRevokeDrainTimeout
  refine kepte_next ?_
  refine kept_revokeTimeout (hm.sub rfl) ?_
  exact h0

theorem kept_execExtentFree {i : Fin 16384} {s : State} (hm : Within 0x200010000007200000000000000010700000000000000000109a80040a02 M) (h0 : Kept M s0 s) :
    KeptE M s0 (execExtentFree i s) := by
  unfold execExtentFree
  refine kepte_next ?_
  refine kept_extentFree (hm.sub rfl) ?_
  exact h0

theorem kept_execLimiterRefill {s : State} (hm : Within 0x80000000 M) (h0 : Kept M s0 s) :
    KeptE M s0 (execLimiterRefill s) := by
  unfold execLimiterRefill
  refine kepte_next ?_
  refine kept_limiterRefill (hm.sub rfl) ?_
  exact h0

end Sys2Proof.Machine
end

