-- ==== Sys2Proof/Laws/Kept/Pair.lean ====
section
/-! SUPPORT. What the operations of Pair may write: each keeps its footprint. -/

namespace Sys2Proof.Machine

variable {M : Nat} {s0 : State}

theorem kept_pairSend {s : State} {d : ℕ} {m : PairMsg} (hm : Within 0x100000000000 M) (h0 : Kept M s0 s) :
    Kept M s0 (State.pairSend s d m) := by
  unfold State.pairSend
  (generalize q21 : (s.mxFor d) = x20; revert x20; refine Kept.seal ?_; intro x20 q21)
  split
  · rename_i w22 w23
    refine kept_emit (hm.sub rfl) ?_
    exact h0
  · rename_i w24
    exact h0

theorem kept_pairNotice {s : State} {event : ℕ} {result : ℕ} {index : ℕ} (hm : Within 0x7200000000000000010700000000000000000109a00040a02 M) (h0 : Kept M s0 s) :
    Kept M s0 (State.pairNotice s event result index) := by
  unfold State.pairNotice
  refine kept_noticeTo (hm.sub rfl) ?_
  exact h0

theorem kept_setPair {s : State} {p : Pair} (hm : Within 0x10000000 M) (h0 : Kept M s0 s) :
    Kept M s0 (State.setPair s p) := by
  unfold State.setPair
  refine Kept.in_pair (hm.bit 28 rfl) ?_
  exact h0

theorem kept_applyPiece {s : State} {w : PairWrite} (hm : Within 0x2000000000007008020207080000190700000000000000000109b10de027e M) (h0 : Kept M s0 s) :
    Kept M s0 (State.applyPiece s w) := by
  unfold State.applyPiece
  extract_lets -underBinder +onlyGivenNames v20
  have h21 : ∀ c_0, Kept M s0 c_0 → Kept M s0 (v20 c_0) := by
    unfold v20
    intro y22 h23
    refine kept_forEach ?_ ?_
    · intro y24 y25 h26
      refine kept_poisonPool (hm.sub rfl) ?_
      exact h26
    · refine kept_writeRange (hm.sub rfl) ?_
      exact h23
  (clear_value v20; revert v20; refine Kept.seal ?_; intro v20 h21)
  (generalize q28 : (List.find? (fun r ↦ r.packed && r.space == Sys2Proof.Machine.spaceOf w.a && Sys2Proof.Machine.inPages (Sys2Proof.Machine.pageOf w.a) r.dirBase r.dirPages) s.regions) = x27; revert x27; refine Kept.seal ?_; intro x27 q28)
  split
  · rename_i w29
    refine h21 _ ?_
    exact h0
  · rename_i w30 w31
    extract_lets -underBinder +onlyGivenNames v32
    (clear_value v32; revert v32; refine Kept.seal ?_; intro v32)
    extract_lets -underBinder +onlyGivenNames v33
    have h34 : Kept M s0 v33 := by
      unfold v33
      refine kept_forEach ?_ ?_
      · intro y35 y36 h37
        refine kept_slotCount (hm.sub rfl) ?_
        exact h37
      · exact h0
    (clear_value v33; revert v33; refine Kept.seal ?_; intro v33 h34)
    extract_lets -underBinder +onlyGivenNames v38
    extract_lets -underBinder +onlyGivenNames v39
    have h40 : Kept M s0 v39 := by
      unfold v39
      refine h21 _ ?_
      refine Kept.in_mint (hm.bit 32 rfl) ?_ (Sparse.wf_filter _)
      exact h34
    (clear_value v39; revert v39; refine Kept.seal ?_; intro v39 h40)
    refine kept_forEach ?_ ?_
    · intro y41 y42 h43
      refine kept_baseInvalidate (hm.sub rfl) ?_
      refine kept_slotCount (hm.sub rfl) ?_
      exact h43
    · exact h40

theorem kept_applyWrite {s : State} {w : PairWrite} (hm : Within 0x200000000000700902020708c000191700000000000000000189b10de027e M) (h0 : Kept M s0 s) :
    KeptP M s0 (State.applyWrite s w) := by
  unfold State.applyWrite
  extract_lets -underBinder +onlyGivenNames v20
  have h21 : KeptP M s0 v20 := by
    unfold v20
    refine kept_writeWork (hm.sub rfl) ?_
    exact h0
  (clear_value v20; revert v20; refine Kept.seal ?_; intro v20 h21)
  refine Kept.pair ?_
  exact (KeptP.st h21)

theorem kept_writeWaits {s : State} {w : PairWrite} (hm : Within 0x200000000000700902020708c000191700000000000000000189b10de027e M) (h0 : Kept M s0 s) :
    KeptO M s0 (State.writeWaits s w) := by
  unfold State.writeWaits
  refine kepto_ite ?_ ?_
  · exact kepto_none
  · extract_lets -underBinder +onlyGivenNames v20
    have h21 : KeptP M s0 v20 := by
      unfold v20
      refine kept_writeWork (hm.sub rfl) ?_
      exact h0
    (clear_value v20; revert v20; refine Kept.seal ?_; intro v20 h21)
    refine kepto_ite ?_ ?_
    · refine kepto_some ?_
      refine kept_retry (hm.sub rfl) ?_ ?_
      · exact h0
      · exact (KeptP.st h21)
    · exact kepto_none

theorem kept_mirrorDone {s : State} {w : PairWrite} (hm : Within 0x800720000000000000001070000000000000000018ba80041a02 M) (h0 : Kept M s0 s) :
    Kept M s0 (State.mirrorDone s w) := by
  unfold State.mirrorDone
  (generalize q21 : (w.openId) = x20; revert x20; refine Kept.seal ?_; intro x20 q21)
  split
  · rename_i w22 w23
    (generalize q25 : (List.find? (fun o ↦ o.id == w23) s.opens) = x24; revert x24; refine Kept.seal ?_; intro x24 q25)
    split
    · rename_i w26 w27
      refine kept_finish (hm.sub rfl) ?_
      exact h0
    · rename_i w28
      exact h0
  · rename_i w29
    exact h0

theorem kept_setPairState {s : State} {st : ℕ} (hm : Within 0x2000000000007200000000000000010700000000000000000109a00040a02 M) (h0 : Kept M s0 s) :
    Kept M s0 (State.setPairState s st) := by
  unfold State.setPairState
  extract_lets -underBinder +onlyGivenNames v20
  have h21 : Kept M s0 v20 := by
    unfold v20
    refine Kept.setF (hm.bit 1 rfl) (reach_PAIR_STS (hm.bit 241 rfl)) ?_
    exact h0
  (clear_value v20; revert v20; refine Kept.seal ?_; intro v20 h21)
  refine kept_ite ?_ ?_
  · exact h21
  · refine kept_pairNotice (hm.sub rfl) ?_
    exact h21

theorem kept_placeOwn {s : State} {w : PairWrite} (hm : Within 0x200000000000700902020708c000191700000000000000000189b10de027e M) (h0 : Kept M s0 s) :
    Kept M s0 (State.placeOwn s w) := by
  unfold State.placeOwn
  extract_lets -underBinder +onlyGivenNames v20
  (clear_value v20; revert v20; refine Kept.seal ?_; intro v20)
  extract_lets -underBinder +onlyGivenNames v21
  have h22 : KeptP M s0 v21 := by
    unfold v21
    refine keptp_ite ?_ ?_
    · refine Kept.pair ?_
      exact h0
    · refine kept_applyWrite (hm.sub rfl) ?_
      exact h0
  (clear_value v21; revert v21; refine Kept.seal ?_; intro v21 h22)
  extract_lets -underBinder +onlyGivenNames v23
  (clear_value v23; revert v23; refine Kept.seal ?_; intro v23)
  extract_lets -underBinder +onlyGivenNames v24
  have h25 : Kept M s0 v24 := by
    unfold v24
    refine kept_setPair (hm.sub rfl) ?_
    exact (KeptP.st h22)
  (clear_value v24; revert v24; refine Kept.seal ?_; intro v24 h25)
  refine kept_pairSend (hm.sub rfl) ?_
  exact h25

theorem kept_mirrorStart {s : State} {a : PA} {data : Bytes} {mask : List ℕ} {tag : Tag} {openId : Option ℕ} {op : Option ℕ} {lastOf : Option ℕ} (hm : Within 0x1a00000000000700902020708c000191700000000000000000189b10de227e M) (h0 : Kept M s0 s) :
    Kept M s0 (State.mirrorStart s a data mask tag openId op lastOf) := by
  unfold State.mirrorStart
  extract_lets -underBinder +onlyGivenNames v20
  (clear_value v20; revert v20; refine Kept.seal ?_; intro v20)
  extract_lets -underBinder +onlyGivenNames v21
  (clear_value v21; revert v21; refine Kept.seal ?_; intro v21)
  extract_lets -underBinder +onlyGivenNames v22
  have h23 : Kept M s0 v22 := by
    unfold v22
    refine kept_nextReq (hm.sub rfl) ?_
    exact h0
  (clear_value v22; revert v22; refine Kept.seal ?_; intro v22 h23)
  extract_lets -underBinder +onlyGivenNames v24
  have h25 : Kept M s0 v24 := by
    unfold v24
    refine kept_ite ?_ ?_
    · exact h23
    · refine Kept.addF (hm.bit 1 rfl) (reach_PAIR_FWD_BYTES (hm.bit 244 rfl)) ?_
      refine Kept.addF (hm.bit 1 rfl) (reach_PAIR_FWD_WRITES (hm.bit 243 rfl)) ?_
      exact h23
  (clear_value v24; revert v24; refine Kept.seal ?_; intro v24 h25)
  extract_lets -underBinder +onlyGivenNames v26
  (clear_value v26; revert v26; refine Kept.seal ?_; intro v26)
  refine kept_ite ?_ ?_
  · (generalize q28 : (v24.writeWaits { id := v26.id, seq := v26.seq, a := v26.a, data := v26.data, mask := v26.mask, tag := v26.tag, alone := v26.alone, openId := v26.openId, op := v26.op, lastOf := v26.lastOf, own := Bool.true, full := v26.full }) = x27; revert x27; refine Kept.seal ?_; intro x27 q28)
    have h29 : KeptO M s0 x27 := by
      rw [← q28]
      refine kept_writeWaits (hm.sub rfl) ?_
      exact h25
    (generalize q31 : (v24.pair.inbox) = x30; revert x30; refine Kept.seal ?_; intro x30 q31)
    split
    · rename_i w32 w33
      refine kept_placeOwn (hm.sub rfl) ?_
      exact h25
    · rename_i w34 w35 w36
      refine kept_setPair (hm.sub rfl) ?_
      refine kept_getD ?_ ?_
      · exact h29
      · exact h25
  · extract_lets -underBinder +onlyGivenNames v37
    (clear_value v37; revert v37; refine Kept.seal ?_; intro v37)
    extract_lets -underBinder +onlyGivenNames v38
    have h39 : Kept M s0 v38 := by
      unfold v38
      refine kept_setPair (hm.sub rfl) ?_
      exact h25
    (clear_value v38; revert v38; refine Kept.seal ?_; intro v38 h39)
    refine kept_pairSend (hm.sub rfl) ?_
    exact h39

theorem kept_dirtyAlone {s : State} {w : PairWrite} (hm : Within 0x2000000000000000000000000000000000000000000000000000010000002 M) (h0 : Kept M s0 s) :
    Kept M s0 (State.dirtyAlone s w) := by
  unfold State.dirtyAlone
  refine kept_ite ?_ ?_
  · refine kept_forEach ?_ ?_
    · intro y20 y21 h22
      refine kept_markDirty (hm.sub rfl) ?_
      exact h22
    · exact h0
  · exact h0

theorem kept_resyncDone {s : State} (hm : Within 0x2000000000007200000000000000010700000000000000000109a00040a02 M) (h0 : Kept M s0 s) :
    Kept M s0 (State.resyncDone s) := by
  unfold State.resyncDone
  refine kept_ite ?_ ?_
  · refine kept_setPairState (hm.sub rfl) ?_
    exact h0
  · exact h0

theorem kept_pageCopied {s : State} {w : PairWrite} (hm : Within 0x102000000000007200000000000000010700000000000000000109a10040a02 M) (h0 : Kept M s0 s) :
    Kept M s0 (State.pageCopied s w) := by
  unfold State.pageCopied
  (generalize q21 : (w.lastOf) = x20; revert x20; refine Kept.seal ?_; intro x20 q21)
  split
  · rename_i w22 w23
    refine kept_ite ?_ ?_
    · exact h0
    · extract_lets -underBinder +onlyGivenNames v24
      have h25 : Kept M s0 v24 := by
        unfold v24
        refine Kept.addF (hm.bit 1 rfl) (reach_PAIR_RESYNC_PAGES (hm.bit 248 rfl)) ?_
        refine kept_setDirty (hm.sub rfl) ?_
        exact h0
      (clear_value v24; revert v24; refine Kept.seal ?_; intro v24 h25)
      refine kept_resyncDone (hm.sub rfl) ?_
      exact h25
  · rename_i w26
    exact h0

theorem kept_pageArrived {s : State} {w : PairWrite} (hm : Within 0x2000000000000000000000000000000000000000000000000000010000002 M) (h0 : Kept M s0 s) :
    Kept M s0 (State.pageArrived s w) := by
  unfold State.pageArrived
  (generalize q21 : (w.lastOf) = x20; revert x20; refine Kept.seal ?_; intro x20 q21)
  split
  · rename_i w22 w23
    refine kept_ite ?_ ?_
    · exact h0
    · refine kept_setDirty (hm.sub rfl) ?_
      exact h0
  · rename_i w24
    exact h0

theorem kept_applyInbox {s : State} {w : PairWrite} {q : ℕ} (hm : Within 0x10200000000800720902020708c00019170000000000000000018bb90de1a7e M) (h0 : Kept M s0 s) :
    Kept M s0 (State.applyInbox s w q) := by
  unfold State.applyInbox
  extract_lets -underBinder +onlyGivenNames v20
  have h21 : KeptP M s0 v20 := by
    unfold v20
    refine kept_applyWrite (hm.sub rfl) ?_
    exact h0
  (clear_value v20; revert v20; refine Kept.seal ?_; intro v20 h21)
  extract_lets -underBinder +onlyGivenNames v22
  have h23 : KeptP M s0 v22 := by
    unfold v22
    refine keptp_ite ?_ ?_
    · refine keptp_ite ?_ ?_
      · refine Kept.pair ?_
        exact h0
      · refine kept_applyWrite (hm.sub rfl) ?_
        exact h0
    · refine keptp_ite ?_ ?_
      · refine Kept.pair ?_
        refine kept_applyPiece (hm.sub rfl) ?_
        exact h0
      · refine Kept.pair ?_
        refine kept_dirtyAlone (hm.sub rfl) ?_
        exact (KeptP.st h21)
  (clear_value v22; revert v22; refine Kept.seal ?_; intro v22 h23)
  extract_lets -underBinder +onlyGivenNames v24
  (clear_value v24; revert v24; refine Kept.seal ?_; intro v24)
  extract_lets -underBinder +onlyGivenNames v25
  have h26 : Kept M s0 v25 := by
    unfold v25
    refine kept_setPair (hm.sub rfl) ?_
    exact (KeptP.st h23)
  (clear_value v25; revert v25; refine Kept.seal ?_; intro v25 h26)
  extract_lets -underBinder +onlyGivenNames v27
  have h28 : Kept M s0 v27 := by
    unfold v27
    refine kept_ite ?_ ?_
    · refine kept_pageCopied (hm.sub rfl) ?_
      exact h26
    · refine kept_pageArrived (hm.sub rfl) ?_
      exact h26
  (clear_value v27; revert v27; refine Kept.seal ?_; intro v27 h28)
  extract_lets -underBinder +onlyGivenNames v29
  have h30 : Kept M s0 v29 := by
    unfold v29
    refine kept_pairSend (hm.sub rfl) ?_
    refine kept_mirrorDone (hm.sub rfl) ?_
    exact h28
  (clear_value v29; revert v29; refine Kept.seal ?_; intro v29 h30)
  refine kept_resyncDone (hm.sub rfl) ?_
  exact h30

theorem kept_placeOther {s : State} {w : PairWrite} (hm : Within 0x200000000000700902020708c000191700000000000000000189b10de027e M) (h0 : Kept M s0 s) :
    Kept M s0 (State.placeOther s w) := by
  unfold State.placeOther
  extract_lets -underBinder +onlyGivenNames v20
  (clear_value v20; revert v20; refine Kept.seal ?_; intro v20)
  extract_lets -underBinder +onlyGivenNames v21
  have h22 : KeptP M s0 v21 := by
    unfold v21
    refine kept_applyWrite (hm.sub rfl) ?_
    exact h0
  (clear_value v21; revert v21; refine Kept.seal ?_; intro v21 h22)
  extract_lets -underBinder +onlyGivenNames v23
  have h24 : Kept M s0 v23 := by
    unfold v23
    refine kept_dirtyAlone (hm.sub rfl) ?_
    exact (KeptP.st h22)
  (clear_value v23; revert v23; refine Kept.seal ?_; intro v23 h24)
  extract_lets -underBinder +onlyGivenNames v25
  (clear_value v25; revert v25; refine Kept.seal ?_; intro v25)
  extract_lets -underBinder +onlyGivenNames v26
  have h27 : Kept M s0 v26 := by
    unfold v26
    refine kept_setPair (hm.sub rfl) ?_
    exact h24
  (clear_value v26; revert v26; refine Kept.seal ?_; intro v26 h27)
  refine kept_pairSend (hm.sub rfl) ?_
  exact h27

theorem kept_inboxStep {s : State} {w : PairWrite} (hm : Within 0x10200000000800720902020708c00019170000000000000000018bb90de1a7e M) (h0 : Kept M s0 s) :
    Kept M s0 (State.inboxStep s w) := by
  unfold State.inboxStep
  (generalize q21 : (w.seq) = x20; revert x20; refine Kept.seal ?_; intro x20 q21)
  split
  · rename_i w22 w23
    refine kept_applyInbox (hm.sub rfl) ?_
    exact h0
  · rename_i w24
    extract_lets -underBinder +onlyGivenNames v25
    (clear_value v25; revert v25; refine Kept.seal ?_; intro v25)
    extract_lets -underBinder +onlyGivenNames v26
    have h27 : Kept M s0 v26 := by
      unfold v26
      refine kept_setPair (hm.sub rfl) ?_
      exact h0
    (clear_value v26; revert v26; refine Kept.seal ?_; intro v26 h27)
    refine kept_ite ?_ ?_
    · refine kept_placeOwn (hm.sub rfl) ?_
      exact h27
    · refine kept_placeOther (hm.sub rfl) ?_
      exact h27

theorem kept_drainInbox {s : State} {b1 : ℕ} (hm : Within 0x10200000000800720902020708c00019170000000000000000018bb90de1a7e M) (h0 : Kept M s0 s) :
    Kept M s0 (State.drainInbox s b1) := by
  induction b1 generalizing s
  · unfold State.drainInbox
    exact h0
  · rename_i r0 ih
    unfold State.drainInbox
    (generalize q21 : (s.inboxNext) = x20; revert x20; refine Kept.seal ?_; intro x20 q21)
    split
    · rename_i w22 w23
      (generalize q25 : (s.writeWaits w23) = x24; revert x24; refine Kept.seal ?_; intro x24 q25)
      have h26 : KeptO M s0 x24 := by
        rw [← q25]
        refine kept_writeWaits (hm.sub rfl) ?_
        exact h0
      split
      · rename_i w27 w28
        exact (KeptO.get rfl h26)
      · rename_i w29
        apply ih
        refine kept_inboxStep (hm.sub rfl) ?_
        exact h0
    · rename_i w30
      exact h0

theorem kept_drainWrites {s : State} (hm : Within 0x10200000000800720902020708c00019170000000000000000018bb90de1a7e M) (h0 : Kept M s0 s) :
    Kept M s0 (State.drainWrites s) := by
  unfold State.drainWrites
  refine kept_drainInbox (hm.sub rfl) ?_
  exact h0

theorem kept_enterInbox {s : State} {w : PairWrite} (hm : Within 0x10200000000800720902020708c00019170000000000000000018bb90de1a7e M) (h0 : Kept M s0 s) :
    Kept M s0 (State.enterInbox s w) := by
  unfold State.enterInbox
  refine kept_drainWrites (hm.sub rfl) ?_
  refine kept_setPair (hm.sub rfl) ?_
  exact h0

theorem kept_mirrorWriteRx {s : State} {seq : Option ℕ} {id : ℕ} {a : PA} {data : Bytes} {mask : List ℕ} {tag : Tag} {alone : Bool} (hm : Within 0x10200000000800720902020708c00019170000000000000000018bb90de1a7e M) (h0 : Kept M s0 s) :
    Kept M s0 (State.mirrorWriteRx s seq id a data mask tag alone) := by
  unfold State.mirrorWriteRx
  refine kept_ite ?_ ?_
  · exact h0
  · split
    · rename_i w20 w21
      refine kept_ite ?_ ?_
      · exact h0
      · refine kept_enterInbox (hm.sub rfl) ?_
        exact h0
    · rename_i w22
      refine kept_ite ?_ ?_
      · exact h0
      · refine kept_enterInbox (hm.sub rfl) ?_
        exact h0

theorem kept_mirrorAckRx {s : State} {seq : ℕ} {id : Option ℕ} (hm : Within 0x10200000000800720902020708c00019170000000000000000018bb90de1a7e M) (h0 : Kept M s0 s) :
    Kept M s0 (State.mirrorAckRx s seq id) := by
  unfold State.mirrorAckRx
  split
  · rename_i w20
    (generalize q22 : (List.find? (fun w ↦ w.seq == Option.some seq) s.pair.out) = x21; revert x21; refine Kept.seal ?_; intro x21 q22)
    split
    · rename_i w23
      exact h0
    · rename_i w24 w25
      extract_lets -underBinder +onlyGivenNames v26
      (clear_value v26; revert v26; refine Kept.seal ?_; intro v26)
      extract_lets -underBinder +onlyGivenNames v27
      have h28 : Kept M s0 v27 := by
        unfold v27
        refine kept_setPair (hm.sub rfl) ?_
        exact h0
      (clear_value v27; revert v27; refine Kept.seal ?_; intro v27 h28)
      refine kept_pageCopied (hm.sub rfl) ?_
      refine kept_mirrorDone (hm.sub rfl) ?_
      exact h28
  · rename_i w29 w30
    (generalize q32 : (List.find? (fun w ↦ w.id == w30 && w.seq.isNone) s.pair.out) = x31; revert x31; refine Kept.seal ?_; intro x31 q32)
    split
    · rename_i w33
      exact h0
    · rename_i w34 w35
      extract_lets -underBinder +onlyGivenNames v36
      (clear_value v36; revert v36; refine Kept.seal ?_; intro v36)
      extract_lets -underBinder +onlyGivenNames v37
      have h38 : Kept M s0 v37 := by
        unfold v37
        refine kept_setPair (hm.sub rfl) ?_
        exact h0
      (clear_value v37; revert v37; refine Kept.seal ?_; intro v37 h38)
      refine kept_enterInbox (hm.sub rfl) ?_
      exact h38

theorem kept_holdWrite {s : State} {k : ReqKind} {q : Req} (hm : Within 0x7200000000000000010700000000000000000189a00043a02 M) (h0 : Kept M s0 s) :
    Kept M s0 (State.holdWrite s k q) := by
  unfold State.holdWrite
  refine kept_openDeferred (hm.sub rfl) ?_
  exact h0

theorem kept_compareEnds {s : State} {c : Compare} {e : KernelFin} (hm : Within 0x108020000049240002000000000007208020207000000190700000002200000000109a591e0bfe M) (h0 : Kept M s0 s) :
    Kept M s0 (State.compareEnds s c e) := by
  unfold State.compareEnds
  (generalize q21 : ((s.core c.core).running) = x20; revert x20; refine Kept.seal ?_; intro x20 q21)
  split
  · rename_i w22 w23
    refine kept_ite ?_ ?_
    · refine kept_kernelFinish (hm.sub rfl) ?_
      exact h0
    · exact h0
  · rename_i w24
    exact h0

theorem kept_mismatchEnds {s : State} {c : Compare} (hm : Within 0x108020000049240002000000000007208020207000000190700000002200000000109a591e0bfe M) (h0 : Kept M s0 s) :
    Kept M s0 (State.mismatchEnds s c) := by
  unfold State.mismatchEnds
  refine kept_compareEnds (hm.sub rfl) ?_
  refine kept_poisonRanges (hm.sub rfl) ?_
  exact h0

theorem kept_mismatch {s : State} {c : Compare} {a : ℕ} {b : ℕ} (hm : Within 0x108020000049241e82000000000007208020207000000190700000002200000000109a591e0bfe M) (h0 : Kept M s0 s) :
    Kept M s0 (State.mismatch s c a b) := by
  unfold State.mismatch
  extract_lets -underBinder +onlyGivenNames v20
  (clear_value v20; revert v20; refine Kept.seal ?_; intro v20)
  extract_lets -underBinder +onlyGivenNames v21
  have h22 : Kept M s0 v21 := by
    unfold v21
    refine Kept.addF (hm.bit 1 rfl) (reach_PAIR_MISMATCHES (hm.bit 247 rfl)) ?_
    refine kept_mismatchEnds (hm.sub rfl) ?_
    exact h0
  (clear_value v21; revert v21; refine Kept.seal ?_; intro v21 h22)
  extract_lets -underBinder +onlyGivenNames v23
  (clear_value v23; revert v23; refine Kept.seal ?_; intro v23)
  extract_lets -underBinder +onlyGivenNames v24
  have h25 : Kept M s0 v24 := by
    unfold v24
    split
    · rename_i w26 w27
      extract_lets -underBinder +onlyGivenNames v28
      have h29 : Kept M s0 v28 := by
        unfold v28
        refine Kept.setReg (hm.bit 1 rfl) (reach_PAIR_MM (hm.bit 249 rfl)) ?_
        exact h22
      (clear_value v28; revert v28; refine Kept.seal ?_; intro v28 h29)
      extract_lets -underBinder +onlyGivenNames v30
      have h31 : Kept M s0 v30 := by
        unfold v30
        refine Kept.setReg (hm.bit 1 rfl) (reach_PAIR_MM_STEP (hm.bit 250 rfl)) ?_
        exact h29
      (clear_value v30; revert v30; refine Kept.seal ?_; intro v30 h31)
      extract_lets -underBinder +onlyGivenNames v32
      have h33 : Kept M s0 v32 := by
        unfold v32
        refine Kept.setReg (hm.bit 1 rfl) (reach_PAIR_MM_FIRST (hm.bit 251 rfl)) ?_
        exact h31
      (clear_value v32; revert v32; refine Kept.seal ?_; intro v32 h33)
      refine Kept.setReg (hm.bit 1 rfl) (reach_PAIR_MM_RERUN (hm.bit 252 rfl)) ?_
      exact h33
    · rename_i w34
      exact h22
  (clear_value v24; revert v24; refine Kept.seal ?_; intro v24 h25)
  refine kept_pairNotice (hm.sub rfl) ?_
  refine kept_ledger (hm.sub rfl) ?_
  exact h25

theorem kept_mmClassify {s : State} {c : Compare} {i : ℕ} {a : ℕ} {b : ℕ} (hm : Within 0x108020000049241282000000000007208020207000000190700000002200000000109a591e0bfe M) (h0 : Kept M s0 s) :
    Kept M s0 (State.mmClassify s c i a b) := by
  unfold State.mmClassify
  extract_lets -underBinder +onlyGivenNames v20
  (clear_value v20; revert v20; refine Kept.seal ?_; intro v20)
  extract_lets -underBinder +onlyGivenNames v21
  have h22 : Kept M s0 v21 := by
    unfold v21
    refine Kept.setF (hm.bit 1 rfl) (reach_PAIR_MM (hm.bit 249 rfl)) ?_
    refine Kept.setReg (hm.bit 1 rfl) (reach_PAIR_MM_RERUN (hm.bit 252 rfl)) ?_
    exact h0
  (clear_value v21; revert v21; refine Kept.seal ?_; intro v21 h22)
  extract_lets -underBinder +onlyGivenNames v23
  have h24 : Kept M s0 v23 := by
    unfold v23
    refine Kept.setF (hm.bit 1 rfl) (reach_PAIR_MM (hm.bit 249 rfl)) ?_
    exact h22
  (clear_value v23; revert v23; refine Kept.seal ?_; intro v23 h24)
  extract_lets -underBinder +onlyGivenNames v25
  (clear_value v25; revert v25; refine Kept.seal ?_; intro v25)
  extract_lets -underBinder +onlyGivenNames v26
  have h27 : Kept M s0 v26 := by
    unfold v26
    refine kept_ite ?_ ?_
    · exact h24
    · refine Kept.addF (hm.bit 1 rfl) (reach_PAIR_MISMATCHES (hm.bit 247 rfl)) ?_
      exact h24
  (clear_value v26; revert v26; refine Kept.seal ?_; intro v26 h27)
  extract_lets -underBinder +onlyGivenNames v28
  have h29 : Kept M s0 v28 := by
    unfold v28
    refine kept_ite ?_ ?_
    · refine kept_compareEnds (hm.sub rfl) ?_
      exact h27
    · refine kept_mismatchEnds (hm.sub rfl) ?_
      exact h27
  (clear_value v28; revert v28; refine Kept.seal ?_; intro v28 h29)
  refine kept_pairNotice (hm.sub rfl) ?_
  refine kept_ledger (hm.sub rfl) ?_
  exact h29

theorem kept_compareNow {s : State} {c : Compare} {theirs : ℕ} (hm : Within 0x108020000049241ea2000000000007208020207000000190700000002200000000109a591e0bfe M) (h0 : Kept M s0 s) :
    Kept M s0 (State.compareNow s c theirs) := by
  unfold State.compareNow
  extract_lets -underBinder +onlyGivenNames v20
  (clear_value v20; revert v20; refine Kept.seal ?_; intro v20)
  extract_lets -underBinder +onlyGivenNames v21
  (clear_value v21; revert v21; refine Kept.seal ?_; intro v21)
  extract_lets -underBinder +onlyGivenNames v22
  have h23 : Kept M s0 v22 := by
    unfold v22
    refine Kept.addF (hm.bit 1 rfl) (reach_PAIR_COMPARED (hm.bit 245 rfl)) ?_
    exact h0
  (clear_value v22; revert v22; refine Kept.seal ?_; intro v22 h23)
  (generalize q25 : (v22.mmOf c) = x24; revert x24; refine Kept.seal ?_; intro x24 q25)
  split
  · rename_i w26 w27
    refine kept_mmClassify (hm.sub rfl) ?_
    exact h23
  · rename_i w28
    refine kept_ite ?_ ?_
    · refine kept_compareEnds (hm.sub rfl) ?_
      exact h23
    · refine kept_mismatch (hm.sub rfl) ?_
      exact h23

theorem kept_kernelEnd {s : State} {n : ℕ} {r : Running} {e : KernelFin} (hm : Within 0x108020000049241ea2000000000007208020207000000190700000002200000000109a591e0bfe M) (h0 : Kept M s0 s) :
    Kept M s0 (State.kernelEnd s n r e) := by
  unfold State.kernelEnd
  refine kept_ite ?_ ?_
  · extract_lets -underBinder +onlyGivenNames v20
    (clear_value v20; revert v20; refine Kept.seal ?_; intro v20)
    extract_lets -underBinder +onlyGivenNames v21
    (clear_value v21; revert v21; refine Kept.seal ?_; intro v21)
    extract_lets -underBinder +onlyGivenNames v22
    have h23 : Kept M s0 v22 := by
      unfold v22
      refine kept_pairSend (hm.sub rfl) ?_
      exact h0
    (clear_value v22; revert v22; refine Kept.seal ?_; intro v22 h23)
    (generalize q25 : (List.find? v21 v22.pair.early) = x24; revert x24; refine Kept.seal ?_; intro x24 q25)
    split
    · rename_i w26 w27
      refine kept_compareNow (hm.sub rfl) ?_
      refine kept_setPair (hm.sub rfl) ?_
      exact h23
    · rename_i w28
      refine kept_setPair (hm.sub rfl) ?_
      exact h23
  · refine kept_kernelFinish (hm.sub rfl) ?_
    exact h0

theorem kept_checkValueRx {s : State} {slot : ℕ} {tensor : ℕ} {step : ℕ} {value : ℕ} (hm : Within 0x108020000049241ea2000000000007208020207000000190700000002200000000109a591e0bfe M) (h0 : Kept M s0 s) :
    Kept M s0 (State.checkValueRx s slot tensor step value) := by
  unfold State.checkValueRx
  (generalize q21 : (List.find? (fun c ↦ c.slot == slot && c.tensor == tensor && c.step == step) s.pair.compares) = x20; revert x20; refine Kept.seal ?_; intro x20 q21)
  split
  · rename_i w22 w23
    refine kept_compareNow (hm.sub rfl) ?_
    refine kept_setPair (hm.sub rfl) ?_
    exact h0
  · rename_i w24
    refine kept_ite ?_ ?_
    · refine kept_setPair (hm.sub rfl) ?_
      exact h0
    · exact h0

theorem kept_uncompared {s : State} {c : Compare} (hm : Within 0x108020000049240042000000000007208020207000000190700000002200000000109a591e0bfe M) (h0 : Kept M s0 s) :
    Kept M s0 (State.uncompared s c) := by
  unfold State.uncompared
  refine kept_compareEnds (hm.sub rfl) ?_
  refine Kept.addF (hm.bit 1 rfl) (reach_PAIR_UNCOMPARED (hm.bit 246 rfl)) ?_
  refine kept_setPair (hm.sub rfl) ?_
  exact h0

theorem kept_cmpWaitTimeout {s : State} {n : ℕ} (hm : Within 0x108020000049240042000000000007208020207000000190700000002200000000109a591e0bfe M) (h0 : Kept M s0 s) :
    Kept M s0 (State.cmpWaitTimeout s n) := by
  unfold State.cmpWaitTimeout
  (generalize q21 : (List.find? (fun c ↦ c.core == n) s.pair.compares) = x20; revert x20; refine Kept.seal ?_; intro x20 q21)
  split
  · rename_i w22 w23
    refine kept_ite ?_ ?_
    · refine kept_uncompared (hm.sub rfl) ?_
      exact h0
    · exact h0
  · rename_i w24
    exact h0

theorem kept_kernelEndCmd {s : State} {n : ℕ} {k : KernelRun} (hm : Within 0x108020000049241ea200000000000720902020708c000197701c60002200000000189b5dde0bfe M) (h0 : Kept M s0 s) :
    Kept M s0 (State.kernelEndCmd s n k) := by
  unfold State.kernelEndCmd
  (generalize q21 : ((s.core n).running) = x20; revert x20; refine Kept.seal ?_; intro x20 q21)
  split
  · rename_i w22
    exact h0
  · rename_i w23 w24
    extract_lets -underBinder +onlyGivenNames v25
    (clear_value v25; revert v25; refine Kept.seal ?_; intro v25)
    refine kept_ite ?_ ?_
    · exact h0
    · (generalize q27 : (s.kernelOutputs n w24 k) = x26; revert x26; refine Kept.seal ?_; intro x26 q27)
      have h28 : KeptP M s0 x26 := by
        rw [← q27]
        refine kept_kernelOutputs (hm.sub rfl) ?_
        exact h0
      split
      · rename_i w29 w30 w31
        refine kept_kernelEnd (hm.sub rfl) ?_
        exact (KeptP.st h28)
      · rename_i w32 w33
        exact (KeptP.st h28)

theorem kept_replicate {s : State} {key : ℕ} {src : Node} {d : Bytes} (hm : Within 0x100010000000 M) (h0 : Kept M s0 s) :
    Kept M s0 (State.replicate s key src d) := by
  unfold State.replicate
  extract_lets -underBinder +onlyGivenNames v20
  (clear_value v20; revert v20; refine Kept.seal ?_; intro v20)
  extract_lets -underBinder +onlyGivenNames v21
  (clear_value v21; revert v21; refine Kept.seal ?_; intro v21)
  extract_lets -underBinder +onlyGivenNames v22
  have h23 : Kept M s0 v22 := by
    unfold v22
    refine kept_ite ?_ ?_
    · refine kept_setPair (hm.sub rfl) ?_
      exact h0
    · exact h0
  (clear_value v22; revert v22; refine Kept.seal ?_; intro v22 h23)
  refine kept_pairSend (hm.sub rfl) ?_
  exact h23

theorem kept_poolSubmit {s : State} {k : ReqKind} {q : Req} (hm : Within 0x2000000007200000000000000010700000000000000000189a90043a02 M) (h0 : Kept M s0 s) :
    Kept M s0 (State.poolSubmit s k q) := by
  unfold State.poolSubmit
  extract_lets -underBinder +onlyGivenNames v20
  (clear_value v20; revert v20; refine Kept.seal ?_; intro v20)
  extract_lets -underBinder +onlyGivenNames v21
  (clear_value v21; revert v21; refine Kept.seal ?_; intro v21)
  extract_lets -underBinder +onlyGivenNames v22
  have h23 : Kept M s0 v22 := by
    unfold v22
    refine kept_poolDoor (hm.sub rfl) ?_
    exact h0
  (clear_value v22; revert v22; refine Kept.seal ?_; intro v22 h23)
  refine kept_ite ?_ ?_
  · refine kept_replicate (hm.sub rfl) ?_
    exact h23
  · exact h23

theorem kept_poolHostSubmit {s : State} (hm : Within 0x2300000000000000000000000000000000000000000000100090002002 M) (h0 : Kept M s0 s) :
    Kept M s0 (State.poolHostSubmit s) := by
  unfold State.poolHostSubmit
  extract_lets -underBinder +onlyGivenNames v20
  (clear_value v20; revert v20; refine Kept.seal ?_; intro v20)
  extract_lets -underBinder +onlyGivenNames v21
  (clear_value v21; revert v21; refine Kept.seal ?_; intro v21)
  extract_lets -underBinder +onlyGivenNames v22
  (clear_value v22; revert v22; refine Kept.seal ?_; intro v22)
  extract_lets -underBinder +onlyGivenNames v23
  have h24 : Kept M s0 v23 := by
    unfold v23
    refine kept_poolHostGo (hm.sub rfl) ?_
    exact h0
  (clear_value v23; revert v23; refine Kept.seal ?_; intro v23 h24)
  refine kept_ite ?_ ?_
  · refine kept_replicate (hm.sub rfl) ?_
    exact h24
  · exact h24

theorem kept_replicatedOpRx {s : State} {seq : Option ℕ} {src : Node} {d : Bytes} (hm : Within 0x90002000 M) (h0 : Kept M s0 s) :
    Kept M s0 (State.replicatedOpRx s seq src d) := by
  unfold State.replicatedOpRx
  extract_lets -underBinder +onlyGivenNames v20
  have h21 : ∀ c_0, Kept M s0 c_0 → Kept M s0 (v20 c_0) := by
    unfold v20
    intro y22 h23
    refine kept_nextReq (hm.sub rfl) ?_
    refine kept_poolQueue (hm.sub rfl) ?_
    exact h23
  (clear_value v20; revert v20; refine Kept.seal ?_; intro v20 h21)
  refine kept_ite ?_ ?_
  · exact h0
  · split
    · rename_i w24 w25
      refine kept_ite ?_ ?_
      · exact h0
      · refine kept_setPair (hm.sub rfl) ?_
        refine h21 _ ?_
        exact h0
    · rename_i w26
      refine kept_ite ?_ ?_
      · refine kept_setPair (hm.sub rfl) ?_
        refine h21 _ ?_
        exact h0
      · exact h0

theorem kept_forwardOp {s : State} {o : PoolOp} (hm : Within 0x1a00000000000700902020708c000191700000000000000000189b10de227e M) (h0 : Kept M s0 s) :
    Kept M s0 (State.forwardOp s o) := by
  unfold State.forwardOp
  refine kept_forEach ?_ ?_
  · intro y20 y21 h22
    extract_lets -underBinder +onlyGivenNames v23
    have h24 : KeptP M s0 v23 := by
      unfold v23
      refine kept_readRange (hm.sub rfl) ?_
      exact h22
    (clear_value v23; revert v23; refine Kept.seal ?_; intro v23 h24)
    refine kept_mirrorStart (hm.sub rfl) ?_
    exact (KeptP.st h24)
  · exact h0

theorem kept_opMismatch {s : State} {o : PoolOp} {r : PoolResult} (hm : Within 0x8000082004300000007208020207000000190700000000000000000189a901e1a7e M) (h0 : Kept M s0 s) :
    Kept M s0 (State.opMismatch s o r) := by
  unfold State.opMismatch
  extract_lets -underBinder +onlyGivenNames v20
  have h21 : Kept M s0 v20 := by
    unfold v20
    refine kept_poisonRanges (hm.sub rfl) ?_
    exact h0
  (clear_value v20; revert v20; refine Kept.seal ?_; intro v20 h21)
  extract_lets -underBinder +onlyGivenNames v22
  have h23 : Kept M s0 v22 := by
    unfold v22
    refine Kept.addF (hm.bit 1 rfl) (reach_PAIR_MISMATCHES (hm.bit 247 rfl)) ?_
    exact h21
  (clear_value v22; revert v22; refine Kept.seal ?_; intro v22 h23)
  extract_lets -underBinder +onlyGivenNames v24
  (clear_value v24; revert v24; refine Kept.seal ?_; intro v24)
  extract_lets -underBinder +onlyGivenNames v25
  have h26 : Kept M s0 v25 := by
    unfold v25
    refine kept_ledger (hm.sub rfl) ?_
    exact h23
  (clear_value v25; revert v25; refine Kept.seal ?_; intro v25 h26)
  refine kept_poolEnd (hm.sub rfl) ?_
  exact h26

theorem kept_poolOpEnd {s : State} {id : ℕ} {partner : Option Bytes} (hm : Within 0x800009a00430000000720902020708c000191700000000000000000189b90de3a7e M) (h0 : Kept M s0 s) :
    Kept M s0 (State.poolOpEnd s id partner) := by
  unfold State.poolOpEnd
  (generalize q21 : (List.find? (fun o ↦ o.id == id && !o.copying) s.pool.ops) = x20; revert x20; refine Kept.seal ?_; intro x20 q21)
  split
  · rename_i w22
    exact h0
  · rename_i w23 w24
    (generalize q26 : (w24.result) = x25; revert x25; refine Kept.seal ?_; intro x25 q26)
    split
    · rename_i w27
      exact h0
    · rename_i w28 w29
      refine kept_ite ?_ ?_
      · exact h0
      · refine kept_ite ?_ ?_
        · extract_lets -underBinder +onlyGivenNames v30
          have h31 : Kept M s0 v30 := by
            unfold v30
            refine kept_ite ?_ ?_
            · exact h0
            · refine kept_pairSend (hm.sub rfl) ?_
              refine kept_setOp (hm.sub rfl) ?_
              exact h0
          (clear_value v30; revert v30; refine Kept.seal ?_; intro v30 h31)
          split
          · rename_i w32
            exact h31
          · rename_i w33 w34
            refine kept_ite ?_ ?_
            · refine kept_poolEnd (hm.sub rfl) ?_
              exact h31
            · refine kept_opMismatch (hm.sub rfl) ?_
              exact h31
        · refine kept_ite ?_ ?_
          · refine kept_ite ?_ ?_
            · exact h0
            · refine kept_poolEnd (hm.sub rfl) ?_
              exact h0
          · refine kept_forwardOp (hm.sub rfl) ?_
            refine kept_setOp (hm.sub rfl) ?_
            exact h0

theorem kept_heartbeatSend {s : State} (hm : Within 0x100010000000 M) (h0 : Kept M s0 s) :
    Kept M s0 (State.heartbeatSend s) := by
  unfold State.heartbeatSend
  refine kept_ite ?_ ?_
  · exact h0
  · refine kept_forEach ?_ ?_
    · intro y20 y21 h22
      refine kept_emit (hm.sub rfl) ?_
      exact h22
    · refine kept_setPair (hm.sub rfl) ?_
      exact h0

theorem kept_deferOne {s : State} {o : OpenReq} (hm : Within 0x7200000000000000010700000000000000000189a00041a02 M) (h0 : Kept M s0 s) :
    Kept M s0 (State.deferOne s o) := by
  unfold State.deferOne
  split
  · exact h0
  · rename_i h
    simp only [Bool.or_eq_true, decide_eq_true_eq, not_or, Nat.not_le] at h
    exact kept_deferOpen (hm.sub rfl) h.2 (Kept.in_opens (hm.bit 12 rfl) h0 fresh_filter)

theorem kept_deferNow {s : State} {o : OpenReq} (hm : Within 0x7200000000000000010700000000000000000189a00041a02 M) (h0 : Kept M s0 s) :
    Kept M s0 (State.deferNow s o) := by
  unfold State.deferNow
  extract_lets -underBinder +onlyGivenNames v20
  have h21 : Kept M s0 v20 := by
    unfold v20
    refine kept_deferOne (hm.sub rfl) ?_
    exact h0
  (clear_value v20; revert v20; refine Kept.seal ?_; intro v20 h21)
  refine kept_forEach ?_ ?_
  · intro y22 y23 h24
    refine kept_ite ?_ ?_
    · refine kept_deferOne (hm.sub rfl) ?_
      exact h24
    · exact h24
  · exact h21

theorem kept_pairLoss {s : State} (hm : Within 0x2000000000007200000000000000010700000000000000000189a10041a02 M) (h0 : Kept M s0 s) :
    Kept M s0 (State.pairLoss s) := by
  unfold State.pairLoss
  extract_lets -underBinder +onlyGivenNames v20
  (clear_value v20; revert v20; refine Kept.seal ?_; intro v20)
  refine kept_ite ?_ ?_
  · extract_lets -underBinder +onlyGivenNames v21
    (clear_value v21; revert v21; refine Kept.seal ?_; intro v21)
    extract_lets -underBinder +onlyGivenNames v22
    have h23 : Kept M s0 v22 := by
      unfold v22
      refine Kept.setF (hm.bit 1 rfl) (reach_PAIR_STS (hm.bit 241 rfl)) ?_
      refine kept_setPairState (hm.sub rfl) ?_
      exact h0
    (clear_value v22; revert v22; refine Kept.seal ?_; intro v22 h23)
    extract_lets -underBinder +onlyGivenNames v24
    (clear_value v24; revert v24; refine Kept.seal ?_; intro v24)
    extract_lets -underBinder +onlyGivenNames v25
    have h26 : Kept M s0 v25 := by
      unfold v25
      refine kept_setPair (hm.sub rfl) ?_
      exact h23
    (clear_value v25; revert v25; refine Kept.seal ?_; intro v25 h26)
    extract_lets -underBinder +onlyGivenNames v27
    have h28 : Kept M s0 v27 := by
      unfold v27
      refine kept_ledger (hm.sub rfl) ?_
      exact h26
    (clear_value v27; revert v27; refine Kept.seal ?_; intro v27 h28)
    extract_lets -underBinder +onlyGivenNames v29
    have h30 : Kept M s0 v29 := by
      unfold v29
      refine kept_pairNotice (hm.sub rfl) ?_
      exact h28
    (clear_value v29; revert v29; refine Kept.seal ?_; intro v29 h30)
    extract_lets -underBinder +onlyGivenNames v31
    have h32 : Kept M s0 v31 := by
      unfold v31
      refine kept_forEach ?_ ?_
      · intro y33 y34 h35
        refine kept_deferNow (hm.sub rfl) ?_
        exact h35
      · exact h30
    (clear_value v31; revert v31; refine Kept.seal ?_; intro v31 h32)
    refine kept_ite ?_ ?_
    · refine kept_forEach ?_ ?_
      · intro y36 y37 h38
        refine kept_forEach ?_ ?_
        · intro y39 y40 h41
          refine kept_markDirty (hm.sub rfl) ?_
          exact h41
        · exact h38
      · exact h32
    · exact h32
  · exact h0

theorem kept_resumeHeld {s : State} (hm : Within 0x1a00000000000700902020708c000191700000000000000000189b10de327e M) (h0 : Kept M s0 s) :
    Kept M s0 (State.resumeHeld s) := by
  unfold State.resumeHeld
  extract_lets -underBinder +onlyGivenNames v20
  (clear_value v20; revert v20; refine Kept.seal ?_; intro v20)
  refine kept_forEach ?_ ?_
  · intro y21 y22 h23
    extract_lets -underBinder +onlyGivenNames v24
    (clear_value v24; revert v24; refine Kept.seal ?_; intro v24)
    refine kept_setWait (hm.sub rfl) ?_
    refine kept_mirrorStart (hm.sub rfl) ?_
    exact h23
  · exact h0

theorem kept_endCompares {s : State} (hm : Within 0x108020000049240042000000000007208020207000000190700000002200000000109a591e0bfe M) (h0 : Kept M s0 s) :
    Kept M s0 (State.endCompares s) := by
  unfold State.endCompares
  refine kept_setPair (hm.sub rfl) ?_
  refine kept_forEach ?_ ?_
  · intro y20 y21 h22
    refine kept_uncompared (hm.sub rfl) ?_
    exact h22
  · exact h0

theorem kept_sendForm {s : State} (hm : Within 0x100010000000 M) (h0 : Kept M s0 s) :
    Kept M s0 (State.sendForm s) := by
  unfold State.sendForm
  refine kept_pairSend (hm.sub rfl) ?_
  refine kept_setPair (hm.sub rfl) ?_
  exact h0

theorem kept_failPair {s : State} {status : ℕ} (hm : Within 0x800720000000000000001070000000000000000018ba90041a02 M) (h0 : Kept M s0 s) :
    Kept M s0 (State.failPair s status) := by
  unfold State.failPair
  extract_lets -underBinder +onlyGivenNames v20
  (clear_value v20; revert v20; refine Kept.seal ?_; intro v20)
  refine kept_forEach ?_ ?_
  · intro y21 y22 h23
    refine kept_finish (hm.sub rfl) ?_
    exact h23
  · refine kept_setPair (hm.sub rfl) ?_
    exact h0

theorem kept_enterForming {s : State} (hm : Within 0x10802000004924004200000000800720802020700000019070000000220000000018bad91e1bfe M) (h0 : Kept M s0 s) :
    Kept M s0 (State.enterForming s) := by
  unfold State.enterForming
  extract_lets -underBinder +onlyGivenNames v20
  (clear_value v20; revert v20; refine Kept.seal ?_; intro v20)
  extract_lets -underBinder +onlyGivenNames v21
  have h22 : Kept M s0 v21 := by
    unfold v21
    refine kept_setPair (hm.sub rfl) ?_
    exact h0
  (clear_value v21; revert v21; refine Kept.seal ?_; intro v21 h22)
  extract_lets -underBinder +onlyGivenNames v23
  have h24 : Kept M s0 v23 := by
    unfold v23
    refine kept_setPairState (hm.sub rfl) ?_
    refine kept_failPair (hm.sub rfl) ?_
    refine kept_endCompares (hm.sub rfl) ?_
    exact h22
  (clear_value v23; revert v23; refine Kept.seal ?_; intro v23 h24)
  refine kept_sendForm (hm.sub rfl) ?_
  exact h24

theorem kept_heartbeatRx {s : State} (hm : Within 0x10802000004924015a00000000800720902020708c00019170000000220000000018bbd9de3bfe M) (h0 : Kept M s0 s) :
    Kept M s0 (State.heartbeatRx s) := by
  unfold State.heartbeatRx
  refine kept_ite ?_ ?_
  · exact h0
  · extract_lets -underBinder +onlyGivenNames v20
    (clear_value v20; revert v20; refine Kept.seal ?_; intro v20)
    extract_lets -underBinder +onlyGivenNames v21
    have h22 : Kept M s0 v21 := by
      unfold v21
      refine kept_setPair (hm.sub rfl) ?_
      exact h0
    (clear_value v21; revert v21; refine Kept.seal ?_; intro v21 h22)
    refine kept_ite ?_ ?_
    · refine kept_drainWrites (hm.sub rfl) ?_
      refine kept_resumeHeld (hm.sub rfl) ?_
      refine kept_setPairState (hm.sub rfl) ?_
      exact h22
    · refine kept_ite ?_ ?_
      · refine kept_drainWrites (hm.sub rfl) ?_
        exact h22
      · refine kept_ite ?_ ?_
        · refine kept_enterForming (hm.sub rfl) ?_
          exact h22
        · exact h22

theorem kept_applyHeld {s : State} {a : PA} {data : Bytes} {mask : List ℕ} {tag : Tag} {openId : Option ℕ} (hm : Within 0x200000000800720902020708c00019170000000000000000018bb90de1a7e M) (h0 : Kept M s0 s) :
    Kept M s0 (State.applyHeld s a data mask tag openId) := by
  unfold State.applyHeld
  extract_lets -underBinder +onlyGivenNames v20
  have h21 : KeptP M s0 v20 := by
    unfold v20
    refine kept_writeWork (hm.sub rfl) ?_
    exact h0
  (clear_value v20; revert v20; refine Kept.seal ?_; intro v20 h21)
  split
  · rename_i w22
    exact (KeptP.st h21)
  · rename_i w23 w24
    refine kept_ite ?_ ?_
    · refine kept_setWait (hm.sub rfl) ?_
      refine kept_retry (hm.sub rfl) ?_ ?_
      · exact h0
      · exact (KeptP.st h21)
    · (generalize q26 : (List.find? (fun o ↦ o.id == w24) s.opens) = x25; revert x25; refine Kept.seal ?_; intro x25 q26)
      split
      · rename_i w27 w28
        refine kept_finish (hm.sub rfl) ?_
        exact (KeptP.st h21)
      · rename_i w29
        exact (KeptP.st h21)

theorem kept_enterSolo {s : State} (hm : Within 0x10802000004924004200000000800720902020708c00019170000000220000000018bbd9de1bfe M) (h0 : Kept M s0 s) :
    Kept M s0 (State.enterSolo s) := by
  unfold State.enterSolo
  extract_lets -underBinder +onlyGivenNames v20
  have h21 : Kept M s0 v20 := by
    unfold v20
    refine kept_endCompares (hm.sub rfl) ?_
    exact h0
  (clear_value v20; revert v20; refine Kept.seal ?_; intro v20 h21)
  extract_lets -underBinder +onlyGivenNames v22
  have h23 : Kept M s0 v22 := by
    unfold v22
    refine kept_ite ?_ ?_
    · exact h21
    · refine kept_setDirty (hm.sub rfl) ?_
      exact h21
  (clear_value v22; revert v22; refine Kept.seal ?_; intro v22 h23)
  extract_lets -underBinder +onlyGivenNames v24
  have h25 : Kept M s0 v24 := by
    unfold v24
    refine Kept.setF (hm.bit 1 rfl) (reach_PAIR_STS (hm.bit 241 rfl)) ?_
    refine kept_setPairState (hm.sub rfl) ?_
    exact h23
  (clear_value v24; revert v24; refine Kept.seal ?_; intro v24 h25)
  extract_lets -underBinder +onlyGivenNames v26
  (clear_value v26; revert v26; refine Kept.seal ?_; intro v26)
  extract_lets -underBinder +onlyGivenNames v27
  have h28 : Kept M s0 v27 := by
    unfold v27
    refine kept_forEach ?_ ?_
    · intro y29 y30 h31
      refine kept_applyHeld (hm.sub rfl) ?_
      exact h31
    · exact h25
  (clear_value v27; revert v27; refine Kept.seal ?_; intro v27 h28)
  extract_lets -underBinder +onlyGivenNames v32
  (clear_value v32; revert v32; refine Kept.seal ?_; intro v32)
  extract_lets -underBinder +onlyGivenNames v33
  have h34 : Kept M s0 v33 := by
    unfold v33
    refine kept_forEach ?_ ?_
    · intro y35 y36 h37
      refine kept_applyHeld (hm.sub rfl) ?_
      exact h37
    · exact h28
  (clear_value v33; revert v33; refine Kept.seal ?_; intro v33 h34)
  refine kept_failPair (hm.sub rfl) ?_
  exact h34

theorem kept_enterDetached {s : State} (hm : Within 0x10802000004924004200000000800720802020700000019070000000220000000018bad91e1bfe M) (h0 : Kept M s0 s) :
    Kept M s0 (State.enterDetached s) := by
  unfold State.enterDetached
  refine kept_setPairState (hm.sub rfl) ?_
  refine kept_failPair (hm.sub rfl) ?_
  refine kept_endCompares (hm.sub rfl) ?_
  exact h0

theorem kept_arbTimeout {s : State} (hm : Within 0x10802000004924004200000000800720902020708c00019170000000220000000018bbd9de1bfe M) (h0 : Kept M s0 s) :
    Kept M s0 (State.arbTimeout s) := by
  unfold State.arbTimeout
  refine kept_ite ?_ ?_
  · refine kept_ite ?_ ?_
    · refine kept_enterSolo (hm.sub rfl) ?_
      exact h0
    · refine kept_enterDetached (hm.sub rfl) ?_
      exact h0
  · exact h0

theorem kept_pairCmd {s : State} {op : ℕ} {ok : Bool} {g : State → State} (hm : Within 0x4000000000000000000000000000000000000000000000000000000000002 M) (h0 : Kept M s0 s) (h1 : ∀ c1_0, Kept M s0 c1_0 → Kept M s0 (g c1_0)) :
    Kept M s0 (State.pairCmd s op ok g) := by
  unfold State.pairCmd
  extract_lets -underBinder +onlyGivenNames v20
  have h21 : Kept M s0 v20 := by
    unfold v20
    refine Kept.setF (hm.bit 1 rfl) (reach_PAIR_CMD (hm.bit 242 rfl)) ?_
    refine Kept.setF (hm.bit 1 rfl) (reach_PAIR_CMD (hm.bit 242 rfl)) ?_
    exact h0
  (clear_value v20; revert v20; refine Kept.seal ?_; intro v20 h21)
  refine kept_ite ?_ ?_
  · refine h1 _ ?_
    refine Kept.setF (hm.bit 1 rfl) (reach_PAIR_CMD (hm.bit 242 rfl)) ?_
    exact h21
  · refine Kept.setF (hm.bit 1 rfl) (reach_PAIR_CMD (hm.bit 242 rfl)) ?_
    exact h21

theorem kept_pairSolo {s : State} (hm : Within 0x10802000004924004600000000800720902020708c00019170000000220000000018bbd9de1bfe M) (h0 : Kept M s0 s) :
    Kept M s0 (State.pairSolo s) := by
  unfold State.pairSolo
  refine kept_pairCmd (hm.sub rfl) ?_ ?_
  · exact h0
  · intro y20 h21
    refine kept_enterSolo (hm.sub rfl) ?_
    exact h21

theorem kept_pairDetach {s : State} (hm : Within 0x10802000004924004600000000800720802020700000019070000000220000000018bad91e1bfe M) (h0 : Kept M s0 s) :
    Kept M s0 (State.pairDetach s) := by
  unfold State.pairDetach
  refine kept_pairCmd (hm.sub rfl) ?_ ?_
  · exact h0
  · intro y20 h21
    refine kept_enterDetached (hm.sub rfl) ?_
    exact h21

theorem kept_pairRejoin {s : State} (hm : Within 0x10802000004924004600000000800720802020700000019070000000220000000018bad91e1bfe M) (h0 : Kept M s0 s) :
    Kept M s0 (State.pairRejoin s) := by
  unfold State.pairRejoin
  refine kept_pairCmd (hm.sub rfl) ?_ ?_
  · exact h0
  · intro y20 h21
    refine kept_enterForming (hm.sub rfl) ?_
    exact h21

theorem kept_resetPartner {s : State} (hm : Within 0x4000000000000000000000000000000000000000000000000100000000002 M) (h0 : Kept M s0 s) :
    Kept M s0 (State.resetPartner s) := by
  unfold State.resetPartner
  refine kept_pairCmd (hm.sub rfl) ?_ ?_
  · exact h0
  · intro y20 h21
    refine kept_pairSend (hm.sub rfl) ?_
    exact h21

theorem kept_formed {s : State} {source : Bool} {copy : List ℕ} {sync : Bool} (hm : Within 0x2000000000007200000000000000010700000000000000000109a10040a02 M) (h0 : Kept M s0 s) :
    Kept M s0 (State.formed s source copy sync) := by
  unfold State.formed
  extract_lets -underBinder +onlyGivenNames v20
  (clear_value v20; revert v20; refine Kept.seal ?_; intro v20)
  extract_lets -underBinder +onlyGivenNames v21
  have h22 : Kept M s0 v21 := by
    unfold v21
    refine kept_setPair (hm.sub rfl) ?_
    exact h0
  (clear_value v21; revert v21; refine Kept.seal ?_; intro v21 h22)
  extract_lets -underBinder +onlyGivenNames v23
  have h24 : Kept M s0 v23 := by
    unfold v23
    refine Kept.setF (hm.bit 1 rfl) (reach_PAIR_STS (hm.bit 241 rfl)) ?_
    exact h22
  (clear_value v23; revert v23; refine Kept.seal ?_; intro v23 h24)
  extract_lets -underBinder +onlyGivenNames v25
  have h26 : Kept M s0 v25 := by
    unfold v25
    refine kept_ite ?_ ?_
    · refine kept_setDirty (hm.sub rfl) ?_
      exact h24
    · refine kept_setDirty (hm.sub rfl) ?_
      exact h24
  (clear_value v25; revert v25; refine Kept.seal ?_; intro v25 h26)
  extract_lets -underBinder +onlyGivenNames v27
  have h28 : Kept M s0 v27 := by
    unfold v27
    refine kept_setPairState (hm.sub rfl) ?_
    exact h26
  (clear_value v27; revert v27; refine Kept.seal ?_; intro v27 h28)
  refine kept_resyncDone (hm.sub rfl) ?_
  exact h28

theorem kept_formationRx {s : State} {digest : ℕ} {before : ℕ} {mapValid : Bool} {fresh : Bool} {dirty : List ℕ} (hm : Within 0x2000000000007200000000000000010700000000000000000109a10040a02 M) (h0 : Kept M s0 s) :
    Kept M s0 (State.formationRx s digest before mapValid fresh dirty) := by
  unfold State.formationRx
  refine kept_ite ?_ ?_
  · exact h0
  · extract_lets -underBinder +onlyGivenNames v20
    (clear_value v20; revert v20; refine Kept.seal ?_; intro v20)
    extract_lets -underBinder +onlyGivenNames v21
    (clear_value v21; revert v21; refine Kept.seal ?_; intro v21)
    extract_lets -underBinder +onlyGivenNames v22
    (clear_value v22; revert v22; refine Kept.seal ?_; intro v22)
    refine kept_ite ?_ ?_
    · refine kept_ledger (hm.sub rfl) ?_
      refine kept_setPair (hm.sub rfl) ?_
      exact h0
    · refine kept_ite ?_ ?_
      · refine kept_ledger (hm.sub rfl) ?_
        refine kept_setPairState (hm.sub rfl) ?_
        exact h0
      · refine kept_ite ?_ ?_
        · refine kept_formed (hm.sub rfl) ?_
          exact h0
        · refine kept_ite ?_ ?_
          · refine kept_formed (hm.sub rfl) ?_
            exact h0
          · refine kept_ite ?_ ?_
            · refine kept_formed (hm.sub rfl) ?_
              exact h0
            · refine kept_formed (hm.sub rfl) ?_
              exact h0

theorem kept_formationRetry {s : State} (hm : Within 0x100010000000 M) (h0 : Kept M s0 s) :
    Kept M s0 (State.formationRetry s) := by
  unfold State.formationRetry
  refine kept_ite ?_ ?_
  · refine kept_sendForm (hm.sub rfl) ?_
    exact h0
  · exact h0

theorem kept_resyncSend {s : State} (hm : Within 0x102000000000007200020207000000190700000000000000000109a100e2a36 M) (h0 : Kept M s0 s) :
    Kept M s0 (State.resyncSend s) := by
  unfold State.resyncSend
  refine kept_ite ?_ ?_
  · exact h0
  · (generalize q21 : (List.find? (fun k ↦ !s.pair.out.any fun w ↦ w.lastOf == Option.some k) s.pair.dirty) = x20; revert x20; refine Kept.seal ?_; intro x20 q21)
    split
    · rename_i w22
      exact h0
    · rename_i w23 w24
      extract_lets -underBinder +onlyGivenNames v25
      (clear_value v25; revert v25; refine Kept.seal ?_; intro v25)
      extract_lets -underBinder +onlyGivenNames v26
      (clear_value v26; revert v26; refine Kept.seal ?_; intro v26)
      refine kept_ite ?_ ?_
      · refine kept_pageCopied (hm.sub rfl) ?_
        exact h0
      · extract_lets -underBinder +onlyGivenNames v27
        (clear_value v27; revert v27; refine Kept.seal ?_; intro v27)
        extract_lets -underBinder +onlyGivenNames v28
        have h29 : KeptP M s0 v28 := by
          unfold v28
          refine kept_readRange (hm.sub rfl) ?_
          exact h0
        (clear_value v28; revert v28; refine Kept.seal ?_; intro v28 h29)
        (generalize q31 : (v28.2.repair) = x30; revert x30; refine Kept.seal ?_; intro x30 q31)
        split
        · rename_i w32 w33
          refine kept_startRepair (hm.sub rfl) ?_
          exact (KeptP.st h29)
        · rename_i w34
          extract_lets -underBinder +onlyGivenNames v35
          have h36 : Kept M s0 v35 := by
            unfold v35
            exact (KeptP.st h29)
          extract_lets -underBinder +onlyGivenNames v37
          (clear_value v37; revert v37; refine Kept.seal ?_; intro v37)
          extract_lets -underBinder +onlyGivenNames v38
          (clear_value v38; revert v38; refine Kept.seal ?_; intro v38)
          extract_lets -underBinder +onlyGivenNames v39
          (clear_value v39; revert v39; refine Kept.seal ?_; intro v39)
          extract_lets -underBinder +onlyGivenNames v40
          (clear_value v40; revert v40; refine Kept.seal ?_; intro v40)
          extract_lets -underBinder +onlyGivenNames v41
          (clear_value v41; revert v41; refine Kept.seal ?_; intro v41)
          extract_lets -underBinder +onlyGivenNames v42
          have h43 : Kept M s0 v42 := by
            unfold v42
            refine kept_nextReq (hm.sub rfl) ?_
            exact h36
          (clear_value v42; revert v42; refine Kept.seal ?_; intro v42 h43)
          extract_lets -underBinder +onlyGivenNames v44
          (clear_value v44; revert v44; refine Kept.seal ?_; intro v44)
          extract_lets -underBinder +onlyGivenNames v45
          have h46 : Kept M s0 v45 := by
            unfold v45
            refine kept_setPair (hm.sub rfl) ?_
            exact h43
          (clear_value v45; revert v45; refine Kept.seal ?_; intro v45 h46)
          refine kept_pairSend (hm.sub rfl) ?_
          exact h46

theorem kept_pieceRx {s : State} {place : Option ℕ} {id : ℕ} {a : PA} {data : Bytes} {mask : List ℕ} (hm : Within 0x10200000000800720902020708c00019170000000000000000018bb90de1a7e M) (h0 : Kept M s0 s) :
    Kept M s0 (State.pieceRx s place id a data mask) := by
  unfold State.pieceRx
  extract_lets -underBinder +onlyGivenNames v20
  (clear_value v20; revert v20; refine Kept.seal ?_; intro v20)
  extract_lets -underBinder +onlyGivenNames v21
  (clear_value v21; revert v21; refine Kept.seal ?_; intro v21)
  split
  · rename_i w22 w23
    refine kept_ite ?_ ?_
    · exact h0
    · refine kept_enterInbox (hm.sub rfl) ?_
      exact h0
  · rename_i w24
    refine kept_ite ?_ ?_
    · exact h0
    · extract_lets -underBinder +onlyGivenNames v25
      (clear_value v25; revert v25; refine Kept.seal ?_; intro v25)
      extract_lets -underBinder +onlyGivenNames v26
      have h27 : Kept M s0 v26 := by
        unfold v26
        refine kept_pageArrived (hm.sub rfl) ?_
        refine kept_applyPiece (hm.sub rfl) ?_
        exact h0
      (clear_value v26; revert v26; refine Kept.seal ?_; intro v26 h27)
      refine kept_pairSend (hm.sub rfl) ?_
      refine kept_setPair (hm.sub rfl) ?_
      exact h27

theorem kept_resyncPiece {s : State} {piece : Option (Option ℕ × ℕ × PA × Bytes × List ℕ)} (hm : Within 0x10200000000800720902020708c00019170000000000000000018bb90de3a7e M) (h0 : Kept M s0 s) :
    Kept M s0 (State.resyncPiece s piece) := by
  unfold State.resyncPiece
  refine kept_ite ?_ ?_
  · exact h0
  · split
    · rename_i w20
      refine kept_ite ?_ ?_
      · refine kept_resyncSend (hm.sub rfl) ?_
        exact h0
      · exact h0
    · rename_i w21 w22 w23 w24 w25 w26
      refine kept_pieceRx (hm.sub rfl) ?_
      exact h0

theorem kept_mmFree {s : State} {i : ℕ} (hm : Within 0x200000000000000000000000000000000000000000000000000000000000002 M) (h0 : Kept M s0 s) :
    Kept M s0 (State.mmFree s i) := by
  unfold State.mmFree
  refine Kept.setF (hm.bit 1 rfl) (reach_PAIR_MM (hm.bit 249 rfl)) ?_
  exact h0

theorem kept_pairApply {s : State} {changed : Bool} (hm : Within 0x10802000004924004240000000800720802020700000019070000000220000000018bad91e1bfe M) (h0 : Kept M s0 s) :
    Kept M s0 (State.pairApply s changed) := by
  unfold State.pairApply
  (generalize q21 : (s.mirror) = x20; revert x20; refine Kept.seal ?_; intro x20 q21)
  split
  · rename_i w22 w23
    extract_lets -underBinder +onlyGivenNames v24
    have h25 : Kept M s0 v24 := by
      unfold v24
      refine Kept.setReg (hm.bit 1 rfl) (reach_PAIR_ID (hm.bit 238 rfl)) ?_
      exact h0
    (clear_value v24; revert v24; refine Kept.seal ?_; intro v24 h25)
    refine kept_ite ?_ ?_
    · refine kept_enterForming (hm.sub rfl) ?_
      exact h25
    · exact h25
  · rename_i w26
    refine kept_ite ?_ ?_
    · refine Kept.setF (hm.bit 1 rfl) (reach_PAIR_STS (hm.bit 241 rfl)) ?_
      refine kept_failPair (hm.sub rfl) ?_
      refine kept_endCompares (hm.sub rfl) ?_
      refine Kept.setReg (hm.bit 1 rfl) (reach_PAIR_ID (hm.bit 238 rfl)) ?_
      exact h0
    · exact h0

theorem kept_execKernelEnd {n : Fin 16} {run : KernelRun} {s : State} (hm : Within 0x108020000049241ea200000000000720902020708c000197701c60002200000000189b5dde0bfe M) (h0 : Kept M s0 s) :
    KeptE M s0 (execKernelEnd n run s) := by
  unfold execKernelEnd
  refine kepte_next ?_
  refine kept_underCore (hm.sub rfl) ?_ ?_
  · exact h0
  · intro y20 h21
    refine kept_kernelEndCmd (hm.sub rfl) ?_
    exact h21

theorem kept_execPoolHostGo {s : State} (hm : Within 0x2300000000000000000000000000000000000000000000100090002002 M) (h0 : Kept M s0 s) :
    KeptE M s0 (execPoolHostGo s) := by
  unfold execPoolHostGo
  refine kepte_next ?_
  refine kept_poolHostSubmit (hm.sub rfl) ?_
  exact h0

theorem kept_execPoolOpEnd {id : ℕ} {partner : Option Bytes} {s : State} (hm : Within 0x800009a00430000000720902020708c000191700000000000000000189b90de3b7e M) (h0 : Kept M s0 s) :
    KeptE M s0 (execPoolOpEnd id partner s) := by
  unfold execPoolOpEnd
  refine kepte_next ?_
  refine kept_underOp (hm.sub rfl) ?_ ?_
  · exact h0
  · intro y20 h21
    refine kept_poolOpEnd (hm.sub rfl) ?_
    exact h21

theorem kept_execMirrorWriteRx {seq : Option ℕ} {id : ℕ} {a : PA} {data : Bytes} {mask : List ℕ} {tag : Tag} {alone : Bool} {s : State} (hm : Within 0x10200000000800720902020708c00019170000000000000000018bb90de1a7e M) (h0 : Kept M s0 s) :
    KeptE M s0 (execMirrorWriteRx seq id a data mask tag alone s) := by
  unfold execMirrorWriteRx
  refine kepte_next ?_
  refine kept_mirrorWriteRx (hm.sub rfl) ?_
  exact h0

theorem kept_execMirrorAckRx {seq : ℕ} {id : Option ℕ} {s : State} (hm : Within 0x10200000000800720902020708c00019170000000000000000018bb90de1a7e M) (h0 : Kept M s0 s) :
    KeptE M s0 (execMirrorAckRx seq id s) := by
  unfold execMirrorAckRx
  refine kepte_next ?_
  refine kept_mirrorAckRx (hm.sub rfl) ?_
  exact h0

theorem kept_execCheckValueRx {slot : Fin 4096} {tensor : W32} {stepCount : W64} {value : W32} {s : State} (hm : Within 0x108020000049241ea2000000000007208020207000000190700000002200000000109a591e0bfe M) (h0 : Kept M s0 s) :
    KeptE M s0 (execCheckValueRx slot tensor stepCount value s) := by
  unfold execCheckValueRx
  refine kepte_next ?_
  refine kept_checkValueRx (hm.sub rfl) ?_
  exact h0

theorem kept_execCmpWaitTimeout {n : Fin 16} {s : State} (hm : Within 0x108020000049240042000000000007208020207000000190700000002200000000109a591e0bfe M) (h0 : Kept M s0 s) :
    KeptE M s0 (execCmpWaitTimeout n s) := by
  unfold execCmpWaitTimeout
  refine kepte_next ?_
  refine kept_cmpWaitTimeout (hm.sub rfl) ?_
  exact h0

theorem kept_execReplicatedOpRx {seq : Option ℕ} {src : Node} {desc : Bytes} {s : State} (hm : Within 0x90002000 M) (h0 : Kept M s0 s) :
    KeptE M s0 (execReplicatedOpRx seq src desc s) := by
  unfold execReplicatedOpRx
  refine kepte_next ?_
  refine kept_replicatedOpRx (hm.sub rfl) ?_
  exact h0

theorem kept_execHeartbeatSend {s : State} (hm : Within 0x100010000000 M) (h0 : Kept M s0 s) :
    KeptE M s0 (execHeartbeatSend s) := by
  unfold execHeartbeatSend
  refine kepte_next ?_
  refine kept_heartbeatSend (hm.sub rfl) ?_
  exact h0

theorem kept_execHeartbeatRx {s : State} (hm : Within 0x10802000004924015a00000000800720902020708c00019170000000220000000018bbd9de3bfe M) (h0 : Kept M s0 s) :
    KeptE M s0 (execHeartbeatRx s) := by
  unfold execHeartbeatRx
  refine kepte_next ?_
  refine kept_heartbeatRx (hm.sub rfl) ?_
  exact h0

theorem kept_execPairLoss {s : State} (hm : Within 0x2000000000007200000000000000010700000000000000000189a10041a02 M) (h0 : Kept M s0 s) :
    KeptE M s0 (execPairLoss s) := by
  unfold execPairLoss
  refine kepte_next ?_
  refine kept_pairLoss (hm.sub rfl) ?_
  exact h0

theorem kept_execArbTimeout {s : State} (hm : Within 0x10802000004924004200000000800720902020708c00019170000000220000000018bbd9de1bfe M) (h0 : Kept M s0 s) :
    KeptE M s0 (execArbTimeout s) := by
  unfold execArbTimeout
  refine kepte_next ?_
  refine kept_arbTimeout (hm.sub rfl) ?_
  exact h0

theorem kept_execPairSolo {s : State} (hm : Within 0x10802000004924004600000000800720902020708c00019170000000220000000018bbd9de1bfe M) (h0 : Kept M s0 s) :
    KeptE M s0 (execPairSolo s) := by
  unfold execPairSolo
  refine kepte_next ?_
  refine kept_pairSolo (hm.sub rfl) ?_
  exact h0

theorem kept_execPairDetach {s : State} (hm : Within 0x10802000004924004600000000800720802020700000019070000000220000000018bad91e1bfe M) (h0 : Kept M s0 s) :
    KeptE M s0 (execPairDetach s) := by
  unfold execPairDetach
  refine kepte_next ?_
  refine kept_pairDetach (hm.sub rfl) ?_
  exact h0

theorem kept_execPairRejoin {s : State} (hm : Within 0x10802000004924004600000000800720802020700000019070000000220000000018bad91e1bfe M) (h0 : Kept M s0 s) :
    KeptE M s0 (execPairRejoin s) := by
  unfold execPairRejoin
  refine kepte_next ?_
  refine kept_pairRejoin (hm.sub rfl) ?_
  exact h0

theorem kept_execResetPartner {s : State} (hm : Within 0x4000000000000000000000000000000000000000000000000100000000002 M) (h0 : Kept M s0 s) :
    KeptE M s0 (execResetPartner s) := by
  unfold execResetPartner
  refine kepte_next ?_
  refine kept_resetPartner (hm.sub rfl) ?_
  exact h0

theorem kept_execFormationRx {digest : W32} {before : Fin 8} {mapValid : Bool} {fresh : Bool} {dirty : List ℕ} {s : State} (hm : Within 0x2000000000007200000000000000010700000000000000000109a10040a02 M) (h0 : Kept M s0 s) :
    KeptE M s0 (execFormationRx digest before mapValid fresh dirty s) := by
  unfold execFormationRx
  refine kepte_next ?_
  refine kept_formationRx (hm.sub rfl) ?_
  exact h0

theorem kept_execFormationRetry {s : State} (hm : Within 0x100010000000 M) (h0 : Kept M s0 s) :
    KeptE M s0 (execFormationRetry s) := by
  unfold execFormationRetry
  refine kepte_next ?_
  refine kept_formationRetry (hm.sub rfl) ?_
  exact h0

theorem kept_execResyncPiece {piece : Option (Option ℕ × ℕ × PA × Bytes × List ℕ)} {s : State} (hm : Within 0x10200000000800720902020708c00019170000000000000000018bb90de3a7e M) (h0 : Kept M s0 s) :
    KeptE M s0 (execResyncPiece piece s) := by
  unfold execResyncPiece
  refine kepte_next ?_
  refine kept_resyncPiece (hm.sub rfl) ?_
  exact h0

theorem kept_execMmEntryFree {i : Fin 8} {s : State} (hm : Within 0x200000000000000000000000000000000000000000000000000000000000002 M) (h0 : Kept M s0 s) :
    KeptE M s0 (execMmEntryFree i s) := by
  unfold execMmEntryFree
  refine kepte_next ?_
  refine kept_mmFree (hm.sub rfl) ?_
  exact h0

end Sys2Proof.Machine
end

