-- ==== Sys2Proof/Laws/Kept/Link.lean ====
section
/-! SUPPORT. What the operations of Link may write: each keeps its footprint. -/

namespace Sys2Proof.Machine

variable {M : Nat} {s0 : State}

theorem kept_portTally {s : State} {p : ℕ} {i : ℕ} {n : ℕ} (hm : Within 0x4000000000000000000000000000000000000000000000002 M) (h0 : Kept M s0 s) :
    Kept M s0 (State.portTally s p i n) := by
  unfold State.portTally
  refine Kept.addF (hm.bit 1 rfl) (reach_JX_PORT_TALLY (hm.bit 194 rfl)) ?_
  exact h0

theorem kept_updPort {s : State} {p : ℕ} {g : Port → Port} (hm : Within 0x200 M) (h0 : Kept M s0 s) :
    Kept M s0 (State.updPort s p g) := by
  unfold State.updPort
  refine kept_setPort (hm.sub rfl) ?_
  exact h0

theorem kept_startTraining {s : State} {e : ℕ} {step : ℕ} (hm : Within 0x150000000000000000000000000000000000000180000000402 M) (h0 : Kept M s0 s) :
    Kept M s0 (State.startTraining s e step) := by
  unfold State.startTraining
  extract_lets -underBinder +onlyGivenNames v20
  (clear_value v20; revert v20; refine Kept.seal ?_; intro v20)
  extract_lets -underBinder +onlyGivenNames v21
  (clear_value v21; revert v21; refine Kept.seal ?_; intro v21)
  extract_lets -underBinder +onlyGivenNames v22
  have h23 : Kept M s0 v22 := by
    unfold v22
    refine Kept.setF (hm.bit 1 rfl) (reach_OPT_STS (hm.bit 196 rfl)) ?_
    refine Kept.setF (hm.bit 1 rfl) (reach_OPT_STS (hm.bit 196 rfl)) ?_
    refine Kept.addF (hm.bit 1 rfl) (reach_OPT_TRAINS (hm.bit 200 rfl)) ?_
    exact h0
  (clear_value v22; revert v22; refine Kept.seal ?_; intro v22 h23)
  refine kept_ite ?_ ?_
  · refine kept_lasers (hm.sub rfl) ?_
    refine kept_setOptic (hm.sub rfl) ?_
    exact h23
  · refine kept_sendBlocks (hm.sub rfl) ?_
    refine kept_lasers (hm.sub rfl) ?_
    refine kept_setOptic (hm.sub rfl) ?_
    exact h23

theorem kept_retrainPort {s : State} {p : ℕ} (hm : Within 0x151000000000000000000000000000000000000180000000602 M) (h0 : Kept M s0 s) :
    Kept M s0 (State.retrainPort s p) := by
  unfold State.retrainPort
  refine kept_ite ?_ ?_
  · extract_lets -underBinder +onlyGivenNames v20
    (clear_value v20; revert v20; refine Kept.seal ?_; intro v20)
    refine kept_startTraining (hm.sub rfl) ?_
    refine kept_updPort (hm.sub rfl) ?_
    refine Kept.setF (hm.bit 1 rfl) (reach_JX_PORT_STS (hm.bit 192 rfl)) ?_
    exact h0
  · exact h0

theorem kept_linkRetrain {s : State} {p : ℕ} (hm : Within 0x157000000000000000010700000000000000000189a00040602 M) (h0 : Kept M s0 s) :
    Kept M s0 (State.linkRetrain s p) := by
  unfold State.linkRetrain
  refine kept_retrainPort (hm.sub rfl) ?_
  refine kept_ledger (hm.sub rfl) ?_
  exact h0

theorem kept_freeTokens {s : State} {l : List TokenWait} (hm : Within 0x200000000000000000000000000000000000000000000802 M) (h0 : Kept M s0 s) :
    Kept M s0 (State.freeTokens s l) := by
  unfold State.freeTokens
  refine kept_forEach ?_ ?_
  · intro y20 y21 h22
    refine kept_freeTokenAt (hm.sub rfl) ?_
    exact h22
  · exact h0

theorem kept_retrainOver {s : State} {p : ℕ} (hm : Within 0x40800000000000000000000000000000000000000000000002 M) (h0 : Kept M s0 s) :
    Kept M s0 (State.retrainOver s p) := by
  unfold State.retrainOver
  refine Kept.setF (hm.bit 1 rfl) (reach_OPT_LASER (hm.bit 198 rfl)) ?_
  refine Kept.setF (hm.bit 1 rfl) (reach_JX_PORT_CFG (hm.bit 191 rfl)) ?_
  exact h0

theorem kept_linkDown {s : State} {p : ℕ} (hm : Within 0x47a00000000000000010700000000000000000109a00040a02 M) (h0 : Kept M s0 s) :
    Kept M s0 (State.linkDown s p) := by
  unfold State.linkDown
  extract_lets -underBinder +onlyGivenNames v20
  (clear_value v20; revert v20; refine Kept.seal ?_; intro v20)
  extract_lets -underBinder +onlyGivenNames v21
  have h22 : Kept M s0 v21 := by
    unfold v21
    refine kept_retrainOver (hm.sub rfl) ?_
    refine Kept.setF (hm.bit 1 rfl) (reach_JX_PORT_STS (hm.bit 192 rfl)) ?_
    exact h0
  (clear_value v21; revert v21; refine Kept.seal ?_; intro v21 h22)
  extract_lets -underBinder +onlyGivenNames v23
  have h24 : Kept M s0 v23 := by
    unfold v23
    refine kept_setPort (hm.sub rfl) ?_
    exact h22
  (clear_value v23; revert v23; refine Kept.seal ?_; intro v23 h24)
  refine kept_forEach ?_ ?_
  · intro y25 y26 h27
    refine kept_sendBy (hm.sub rfl) ?_
    exact h27
  · refine kept_freeTokens (hm.sub rfl) ?_
    exact h24

theorem kept_portOff {s : State} {p : ℕ} (hm : Within 0x57a00000000000000010700000000000000000109a00040a02 M) (h0 : Kept M s0 s) :
    Kept M s0 (State.portOff s p) := by
  unfold State.portOff
  refine kept_linkDown (hm.sub rfl) ?_
  refine kept_lasers (hm.sub rfl) ?_
  refine Kept.setF (hm.bit 1 rfl) (reach_OPT_STS (hm.bit 196 rfl)) ?_
  exact h0

theorem kept_announce {s : State} {p : ℕ} {vc : ℕ} (hm : Within 0x100000000200 M) (h0 : Kept M s0 s) :
    Kept M s0 (State.announce s p vc) := by
  unfold State.announce
  extract_lets -underBinder +onlyGivenNames v20
  (clear_value v20; revert v20; refine Kept.seal ?_; intro v20)
  refine kept_ite ?_ ?_
  · exact h0
  · extract_lets -underBinder +onlyGivenNames v21
    have h22 : Kept M s0 v21 := by
      unfold v21
      refine kept_updPort (hm.sub rfl) ?_
      exact h0
    (clear_value v21; revert v21; refine Kept.seal ?_; intro v21 h22)
    refine kept_sendFlit (hm.sub rfl) ?_
    exact h22

theorem kept_creditTimer {s : State} {p : ℕ} (hm : Within 0x100000000200 M) (h0 : Kept M s0 s) :
    Kept M s0 (State.creditTimer s p) := by
  unfold State.creditTimer
  refine kept_ite ?_ ?_
  · exact h0
  · refine kept_forEach ?_ ?_
    · intro y20 y21 h22
      refine kept_announce (hm.sub rfl) ?_
      exact h22
    · exact h0

theorem kept_freeHeld {s : State} {p : ℕ} {vc : ℕ} {n : ℕ} (hm : Within 0x100000000200 M) (h0 : Kept M s0 s) :
    Kept M s0 (State.freeHeld s p vc n) := by
  unfold State.freeHeld
  extract_lets -underBinder +onlyGivenNames v20
  have h21 : Kept M s0 v20 := by
    unfold v20
    refine kept_updPort (hm.sub rfl) ?_
    exact h0
  (clear_value v20; revert v20; refine Kept.seal ?_; intro v20 h21)
  refine kept_ite ?_ ?_
  · refine kept_announce (hm.sub rfl) ?_
    exact h21
  · exact h21

theorem kept_replayAll {s : State} {p : ℕ} (hm : Within 0x157000000000000000010700000000000000000189a00040602 M) (h0 : Kept M s0 s) :
    Kept M s0 (State.replayAll s p) := by
  unfold State.replayAll
  extract_lets -underBinder +onlyGivenNames v20
  (clear_value v20; revert v20; refine Kept.seal ?_; intro v20)
  extract_lets -underBinder +onlyGivenNames v21
  (clear_value v21; revert v21; refine Kept.seal ?_; intro v21)
  extract_lets -underBinder +onlyGivenNames v22
  (clear_value v22; revert v22; refine Kept.seal ?_; intro v22)
  extract_lets -underBinder +onlyGivenNames v23
  have h24 : Kept M s0 v23 := by
    unfold v23
    refine kept_sendFlit (hm.sub rfl) ?_
    exact h0
  (clear_value v23; revert v23; refine Kept.seal ?_; intro v23 h24)
  extract_lets -underBinder +onlyGivenNames v25
  have h26 : Kept M s0 v25 := by
    unfold v25
    refine kept_forEach ?_ ?_
    · intro y27 y28 h29
      refine kept_sendFlit (hm.sub rfl) ?_
      exact h29
    · exact h24
  (clear_value v25; revert v25; refine Kept.seal ?_; intro v25 h26)
  extract_lets -underBinder +onlyGivenNames v30
  have h31 : Kept M s0 v30 := by
    unfold v30
    refine Kept.setF (hm.bit 1 rfl) (reach_JX_PORT_STS (hm.bit 192 rfl)) ?_
    refine kept_portTally (hm.sub rfl) ?_
    exact h26
  (clear_value v30; revert v30; refine Kept.seal ?_; intro v30 h31)
  extract_lets -underBinder +onlyGivenNames v32
  (clear_value v32; revert v32; refine Kept.seal ?_; intro v32)
  extract_lets -underBinder +onlyGivenNames v33
  have h34 : Kept M s0 v33 := by
    unfold v33
    refine kept_setPort (hm.sub rfl) ?_
    exact h31
  (clear_value v33; revert v33; refine Kept.seal ?_; intro v33 h34)
  refine kept_ite ?_ ?_
  · refine kept_linkRetrain (hm.sub rfl) ?_
    refine Kept.setF (hm.bit 1 rfl) (reach_JX_PORT_STS (hm.bit 192 rfl)) ?_
    exact h34
  · exact h34

theorem kept_ackTo {s : State} {p : ℕ} {n : ℕ} (hm : Within 0x157200000000000000010700000000000000000189a00040e02 M) (h0 : Kept M s0 s) :
    Kept M s0 (State.ackTo s p n) := by
  unfold State.ackTo
  extract_lets -underBinder +onlyGivenNames v20
  (clear_value v20; revert v20; refine Kept.seal ?_; intro v20)
  extract_lets -underBinder +onlyGivenNames v21
  (clear_value v21; revert v21; refine Kept.seal ?_; intro v21)
  extract_lets -underBinder +onlyGivenNames v22
  (clear_value v22; revert v22; refine Kept.seal ?_; intro v22)
  refine kept_ite ?_ ?_
  · exact h0
  · refine kept_ite ?_ ?_
    · refine kept_linkRetrain (hm.sub rfl) ?_
      exact h0
    · extract_lets -underBinder +onlyGivenNames v23
      (clear_value v23; revert v23; refine Kept.seal ?_; intro v23)
      extract_lets -underBinder +onlyGivenNames v24
      have h25 : Kept M s0 v24 := by
        unfold v24
        refine Kept.setF (hm.bit 1 rfl) (reach_JX_PORT_STS (hm.bit 192 rfl)) ?_
        exact h0
      (clear_value v24; revert v24; refine Kept.seal ?_; intro v24 h25)
      extract_lets -underBinder +onlyGivenNames v26
      have h27 : Kept M s0 v26 := by
        unfold v26
        refine kept_setPort (hm.sub rfl) ?_
        exact h25
      (clear_value v26; revert v26; refine Kept.seal ?_; intro v26 h27)
      refine kept_pump (hm.sub rfl) ?_
      refine kept_freeTokens (hm.sub rfl) ?_
      exact h27

theorem kept_linkFields {s : State} {p : ℕ} {f : Flit} (hm : Within 0x157200000000000000010700000000000000000189a00040e02 M) (h0 : Kept M s0 s) :
    Kept M s0 (State.linkFields s p f) := by
  unfold State.linkFields
  extract_lets -underBinder +onlyGivenNames v20
  (clear_value v20; revert v20; refine Kept.seal ?_; intro v20)
  extract_lets -underBinder +onlyGivenNames v21
  (clear_value v21; revert v21; refine Kept.seal ?_; intro v21)
  extract_lets -underBinder +onlyGivenNames v22
  have h23 : Kept M s0 v22 := by
    unfold v22
    refine kept_setPort (hm.sub rfl) ?_
    exact h0
  (clear_value v22; revert v22; refine Kept.seal ?_; intro v22 h23)
  extract_lets -underBinder +onlyGivenNames v24
  have h25 : Kept M s0 v24 := by
    unfold v24
    refine Kept.satF (hm.bit 1 rfl) (reach_creditFld (hm.bit 193 rfl)) ?_
    exact h23
  (clear_value v24; revert v24; refine Kept.seal ?_; intro v24 h25)
  extract_lets -underBinder +onlyGivenNames v26
  have h27 : Kept M s0 v26 := by
    unfold v26
    refine kept_ite ?_ ?_
    · exact h25
    · refine kept_pump (hm.sub rfl) ?_
      exact h25
  (clear_value v26; revert v26; refine Kept.seal ?_; intro v26 h27)
  extract_lets -underBinder +onlyGivenNames v28
  have h29 : Kept M s0 v28 := by
    unfold v28
    refine kept_ite ?_ ?_
    · refine kept_ackTo (hm.sub rfl) ?_
      exact h27
    · exact h27
  (clear_value v28; revert v28; refine Kept.seal ?_; intro v28 h29)
  refine kept_ite ?_ ?_
  · refine kept_replayAll (hm.sub rfl) ?_
    exact h29
  · exact h29

theorem kept_badFlit {s : State} {p : ℕ} (hm : Within 0x4000000000000000000000000000000000000100000000202 M) (h0 : Kept M s0 s) :
    Kept M s0 (State.badFlit s p) := by
  unfold State.badFlit
  refine kept_ite ?_ ?_
  · exact h0
  · extract_lets -underBinder +onlyGivenNames v20
    have h21 : Kept M s0 v20 := by
      unfold v20
      refine kept_portTally (hm.sub rfl) ?_
      exact h0
    (clear_value v20; revert v20; refine Kept.seal ?_; intro v20 h21)
    (generalize q23 : ((v20.port p).rx) = x22; revert x22; refine Kept.seal ?_; intro x22 q23)
    split
    · rename_i w24
      exact h21
    · rename_i w25
      refine kept_sendFlit (hm.sub rfl) ?_
      refine kept_updPort (hm.sub rfl) ?_
      exact h21

theorem kept_replayRx {s : State} {p : ℕ} {start : ℕ} {header : ℕ} (hm : Within 0x157000000000000000010700000000000000000189a00040602 M) (h0 : Kept M s0 s) :
    Kept M s0 (State.replayRx s p start header) := by
  unfold State.replayRx
  refine kept_ite ?_ ?_
  · exact h0
  · extract_lets -underBinder +onlyGivenNames v20
    (clear_value v20; revert v20; refine Kept.seal ?_; intro v20)
    refine kept_ite ?_ ?_
    · refine kept_updPort (hm.sub rfl) ?_
      exact h0
    · refine kept_retrainPort (hm.sub rfl) ?_
      refine kept_ledger (hm.sub rfl) ?_
      exact h0

theorem kept_replayTimer {s : State} {p : ℕ} (hm : Within 0x157000000000000000010700000000000000000189a00040602 M) (h0 : Kept M s0 s) :
    Kept M s0 (State.replayTimer s p) := by
  unfold State.replayTimer
  refine kept_ite ?_ ?_
  · exact h0
  · extract_lets -underBinder +onlyGivenNames v20
    (clear_value v20; revert v20; refine Kept.seal ?_; intro v20)
    extract_lets -underBinder +onlyGivenNames v21
    (clear_value v21; revert v21; refine Kept.seal ?_; intro v21)
    extract_lets -underBinder +onlyGivenNames v22
    have h23 : Kept M s0 v22 := by
      unfold v22
      refine kept_ite ?_ ?_
      · refine kept_sendFlit (hm.sub rfl) ?_
        refine kept_updPort (hm.sub rfl) ?_
        exact h0
      · exact h0
    (clear_value v22; revert v22; refine Kept.seal ?_; intro v22 h23)
    refine kept_ite ?_ ?_
    · refine kept_replayAll (hm.sub rfl) ?_
      exact h23
    · exact h23

theorem kept_sendAck {s : State} {p : ℕ} (hm : Within 0x100000000200 M) (h0 : Kept M s0 s) :
    Kept M s0 (State.sendAck s p) := by
  unfold State.sendAck
  refine kept_sendFlit (hm.sub rfl) ?_
  refine kept_updPort (hm.sub rfl) ?_
  exact h0

theorem kept_ackTimer {s : State} {p : ℕ} (hm : Within 0x100000000200 M) (h0 : Kept M s0 s) :
    Kept M s0 (State.ackTimer s p) := by
  unfold State.ackTimer
  refine kept_ite ?_ ?_
  · exact h0
  · refine kept_sendAck (hm.sub rfl) ?_
    exact h0

theorem kept_linkUp {s : State} {p : ℕ} {sizes : List ℕ} (hm : Within 0x157a00000000000000010700000000000000000189a0004cf02 M) (h0 : Kept M s0 s) :
    Kept M s0 (State.linkUp s p sizes) := by
  unfold State.linkUp
  extract_lets -underBinder +onlyGivenNames v20
  (clear_value v20; revert v20; refine Kept.seal ?_; intro v20)
  extract_lets -underBinder +onlyGivenNames v21
  have h22 : Kept M s0 v21 := by
    unfold v21
    refine kept_retrainOver (hm.sub rfl) ?_
    exact h0
  (clear_value v21; revert v21; refine Kept.seal ?_; intro v21 h22)
  refine kept_ite ?_ ?_
  · extract_lets -underBinder +onlyGivenNames v23
    have h24 : Kept M s0 v23 := by
      unfold v23
      refine Kept.setF (hm.bit 1 rfl) (reach_JX_PORT_STS (hm.bit 192 rfl)) ?_
      exact h22
    (clear_value v23; revert v23; refine Kept.seal ?_; intro v23 h24)
    extract_lets -underBinder +onlyGivenNames v25
    have h26 : Kept M s0 v25 := by
      unfold v25
      refine kept_updPort (hm.sub rfl) ?_
      exact h24
    (clear_value v25; revert v25; refine Kept.seal ?_; intro v25 h26)
    refine kept_ite ?_ ?_
    · refine kept_pump (hm.sub rfl) ?_
      exact h26
    · refine kept_pump (hm.sub rfl) ?_
      refine kept_replayAll (hm.sub rfl) ?_
      exact h26
  · extract_lets -underBinder +onlyGivenNames v27
    have h28 : Kept M s0 v27 := by
      unfold v27
      refine Kept.setReg (hm.bit 1 rfl) (reach_JX_PORT_STS (hm.bit 192 rfl)) ?_
      exact h22
    (clear_value v27; revert v27; refine Kept.seal ?_; intro v27 h28)
    extract_lets -underBinder +onlyGivenNames v29
    have h30 : Kept M s0 v29 := by
      unfold v29
      refine kept_forEach ?_ ?_
      · intro y31 y32 h33
        refine Kept.setF (hm.bit 1 rfl) (reach_creditFld (hm.bit 193 rfl)) ?_
        exact h33
      · exact h28
    (clear_value v29; revert v29; refine Kept.seal ?_; intro v29 h30)
    extract_lets -underBinder +onlyGivenNames v34
    (clear_value v34; revert v34; refine Kept.seal ?_; intro v34)
    extract_lets -underBinder +onlyGivenNames v35
    have h36 : Kept M s0 v35 := by
      unfold v35
      refine kept_setPort (hm.sub rfl) ?_
      exact h30
    (clear_value v35; revert v35; refine Kept.seal ?_; intro v35 h36)
    refine kept_imageAtStart (hm.sub rfl) ?_
    refine kept_pump (hm.sub rfl) ?_
    exact h36

theorem kept_initRx {s : State} {p : ℕ} {seen : Bool} {sizes : List ℕ} (hm : Within 0x157a00000000000000010700000000000000000189a0004cf02 M) (h0 : Kept M s0 s) :
    Kept M s0 (State.initRx s p seen sizes) := by
  unfold State.initRx
  refine kept_ite ?_ ?_
  · exact h0
  · refine kept_ite ?_ ?_
    · refine kept_linkUp (hm.sub rfl) ?_
      exact h0
    · refine kept_updPort (hm.sub rfl) ?_
      exact h0

theorem kept_initTimer {s : State} {p : ℕ} (hm : Within 0x100000000200 M) (h0 : Kept M s0 s) :
    Kept M s0 (State.initTimer s p) := by
  unfold State.initTimer
  refine kept_ite ?_ ?_
  · extract_lets -underBinder +onlyGivenNames v20
    (clear_value v20; revert v20; refine Kept.seal ?_; intro v20)
    refine kept_sendFlit (hm.sub rfl) ?_
    refine kept_updPort (hm.sub rfl) ?_
    exact h0
  · exact h0

theorem kept_ownFailed {s : State} {o : OwnReq} (hm : Within 0x800000200000000800720902020700000019070000000000000000018bab01e5b7e M) (h0 : Kept M s0 s) :
    Kept M s0 (State.ownFailed s o) := by
  unfold State.ownFailed
  extract_lets -underBinder +onlyGivenNames v20
  have h21 : Kept M s0 v20 := by
    unfold v20
    refine kept_ownTimeout (hm.sub rfl) ?_
    refine kept_ownDrop (hm.sub rfl) ?_
    exact h0
  (clear_value v20; revert v20; refine Kept.seal ?_; intro v20 h21)
  (generalize q23 : (o.purpose) = x22; revert x22; refine Kept.seal ?_; intro x22 q23)
  split
  · rename_i w24
    refine kept_imageLost (hm.sub rfl) ?_
    exact h21
  · rename_i w25 w26
    refine kept_fetchFail (hm.sub rfl) ?_
    exact h21
  · rename_i w27 w28
    (generalize q30 : (List.find? (fun x ↦ x.id == w28) v20.opens) = x29; revert x29; refine Kept.seal ?_; intro x29 q30)
    split
    · rename_i w31 w32
      refine kept_finish (hm.sub rfl) ?_
      exact h21
    · rename_i w33
      exact h21

theorem kept_ownDone {s : State} {o : OwnReq} {status : ℕ} {mask : ℕ} {data : Bytes} (hm : Within 0x800000200000000800720902020700000019070000000000000000018bab01edb7e M) (h0 : Kept M s0 s) :
    Kept M s0 (State.ownDone s o status mask data) := by
  unfold State.ownDone
  extract_lets -underBinder +onlyGivenNames v20
  have h21 : Kept M s0 v20 := by
    unfold v20
    refine kept_ownDrop (hm.sub rfl) ?_
    exact h0
  (clear_value v20; revert v20; refine Kept.seal ?_; intro v20 h21)
  extract_lets -underBinder +onlyGivenNames v22
  (clear_value v22; revert v22; refine Kept.seal ?_; intro v22)
  (generalize q24 : (o.purpose) = x23; revert x23; refine Kept.seal ?_; intro x23 q24)
  split
  · rename_i w25
    refine kept_imageAnswer (hm.sub rfl) ?_
    exact h21
  · rename_i w26 w27
    refine kept_ite ?_ ?_
    · refine kept_fetchPiece (hm.sub rfl) ?_
      exact h21
    · refine kept_ite ?_ ?_
      · refine kept_fetchPiece (hm.sub rfl) ?_
        exact h21
      · refine kept_fetchFail (hm.sub rfl) ?_
        exact h21
  · rename_i w28 w29
    (generalize q31 : (List.find? (fun x ↦ x.id == w29) v20.opens) = x30; revert x30; refine Kept.seal ?_; intro x30 q31)
    split
    · rename_i w32 w33
      refine kept_finish (hm.sub rfl) ?_
      exact h21
    · rename_i w34
      exact h21

theorem kept_unmatched {s : State} {p : ℕ} (hm : Within 0x4000000000000000000000000000000000000000000000002 M) (h0 : Kept M s0 s) :
    Kept M s0 (State.unmatched s p) := by
  unfold State.unmatched
  refine kept_countDrop (hm.sub rfl) ?_
  exact h0

theorem kept_responseRx {s : State} {p : ℕ} {src : Node} {txn : W16} {status : ℕ} {token : W32} {mask : ℕ} {data : Bytes} (hm : Within 0x800000200000000800720902020700000019070000000000000000018bab01edb7e M) (h0 : Kept M s0 s) :
    Kept M s0 (State.responseRx s p src txn status token mask data) := by
  unfold State.responseRx
  (generalize q21 : (s.ownOf txn) = x20; revert x20; refine Kept.seal ?_; intro x20 q21)
  split
  · rename_i w22 w23
    refine kept_ite ?_ ?_
    · refine kept_unmatched (hm.sub rfl) ?_
      exact h0
    · refine kept_ite ?_ ?_
      · refine Kept.in_own (hm.bit 14 rfl) ?_
        exact h0
      · refine kept_ownDone (hm.sub rfl) ?_
        exact h0
  · rename_i w24
    refine kept_unmatched (hm.sub rfl) ?_
    exact h0

theorem kept_completionRx {s : State} {p : ℕ} {src : Node} {txn : W16} {token : W32} {status : ℕ} {mask : ℕ} {data : Bytes} (hm : Within 0x800000200000000800720902020700000019070000000000000000018bab01edb7e M) (h0 : Kept M s0 s) :
    Kept M s0 (State.completionRx s p src txn token status mask data) := by
  unfold State.completionRx
  (generalize q21 : (s.ownOf txn) = x20; revert x20; refine Kept.seal ?_; intro x20 q21)
  split
  · rename_i w22 w23
    refine kept_ite ?_ ?_
    · refine kept_ownDone (hm.sub rfl) ?_
      exact h0
    · refine kept_unmatched (hm.sub rfl) ?_
      exact h0
  · rename_i w24
    refine kept_unmatched (hm.sub rfl) ?_
    exact h0

theorem kept_ownReqTimeout {s : State} {txn : W16} (hm : Within 0x800000200000000800720902020700000019070000000000000000018bab01edb7e M) (h0 : Kept M s0 s) :
    Kept M s0 (State.ownReqTimeout s txn) := by
  unfold State.ownReqTimeout
  (generalize q21 : (s.ownOf txn) = x20; revert x20; refine Kept.seal ?_; intro x20 q21)
  split
  · rename_i w22 w23
    refine kept_ite ?_ ?_
    · refine kept_ite ?_ ?_
      · refine kept_ownFailed (hm.sub rfl) ?_
        exact h0
      · refine kept_ownSend (hm.sub rfl) ?_
        refine kept_ownDrop (hm.sub rfl) ?_
        exact h0
    · exact h0
  · rename_i w24
    exact h0

theorem kept_ownDeferTimeout {s : State} {txn : W16} (hm : Within 0x800000200000000800720902020700000019070000000000000000018bab01e5b7e M) (h0 : Kept M s0 s) :
    Kept M s0 (State.ownDeferTimeout s txn) := by
  unfold State.ownDeferTimeout
  (generalize q21 : (s.ownOf txn) = x20; revert x20; refine Kept.seal ?_; intro x20 q21)
  split
  · rename_i w22 w23
    refine kept_ite ?_ ?_
    · refine kept_ownFailed (hm.sub rfl) ?_
      exact h0
    · exact h0
  · rename_i w24
    exact h0

theorem kept_syncRequest {s : State} {src : Node} {t1 : ℕ} {t2 : ℕ} {t3 : ℕ} {seq : ℕ} (hm : Within 0x7200000000000000010700000000000000000109a00040a02 M) (h0 : Kept M s0 s) :
    Kept M s0 (State.syncRequest s src t1 t2 t3 seq) := by
  unfold State.syncRequest
  refine kept_sendRouted (hm.sub rfl) ?_
  exact h0

theorem kept_syncAccept {s : State} {p : ℕ} {theta : ℤ} {d : ℤ} (hm : Within 0x7100000000000000010700000000000000000109a00050203 M) (h0 : Kept M s0 s) :
    Kept M s0 (State.syncAccept s p theta d) := by
  unfold State.syncAccept
  extract_lets -underBinder +onlyGivenNames v20
  have h21 : Kept M s0 v20 := by
    unfold v20
    refine Kept.setF (hm.bit 1 rfl) (reach_JX_SYNC_STS (hm.bit 188 rfl)) ?_
    exact h0
  (clear_value v20; revert v20; refine Kept.seal ?_; intro v20 h21)
  extract_lets -underBinder +onlyGivenNames v22
  have h23 : Kept M s0 v22 := by
    unfold v22
    refine Kept.setF (hm.bit 1 rfl) (reach_JX_SYNC_STS (hm.bit 188 rfl)) ?_
    exact h21
  (clear_value v22; revert v22; refine Kept.seal ?_; intro v22 h23)
  extract_lets -underBinder +onlyGivenNames v24
  have h25 : Kept M s0 v24 := by
    unfold v24
    refine kept_ite ?_ ?_
    · refine kept_ledger (hm.sub rfl) ?_
      exact h23
    · exact h23
  (clear_value v24; revert v24; refine Kept.seal ?_; intro v24 h25)
  extract_lets -underBinder +onlyGivenNames v26
  (clear_value v26; revert v26; refine Kept.seal ?_; intro v26)
  extract_lets -underBinder +onlyGivenNames v27
  have h28 : Kept M s0 v27 := by
    unfold v27
    refine kept_ite ?_ ?_
    · refine Kept.setF (hm.bit 1 rfl) (reach_JX_SYNC_STS (hm.bit 188 rfl)) ?_
      exact h25
    · refine kept_ite ?_ ?_
      · refine Kept.setF (hm.bit 1 rfl) (reach_JX_SYNC_STS (hm.bit 188 rfl)) ?_
        exact h25
      · exact h25
  (clear_value v27; revert v27; refine Kept.seal ?_; intro v27 h28)
  refine kept_ite ?_ ?_
  · extract_lets -underBinder +onlyGivenNames v29
    refine Kept.in_count (x := { v27 with sync := have __src := v27.sync;
{ seq := __src.seq, sentAt := __src.sentAt, delays := __src.delays, slewAt := __src.slewAt, withhold := __src.withhold, good := v26, acceptedAt := v29 } }) (hm.bit 0 rfl) ?_ (by dsimp only; omega)
    refine Kept.in_sync (hm.bit 16 rfl) ?_
    exact h28
  · refine Kept.in_sync (hm.bit 16 rfl) ?_
    exact h28

theorem kept_syncReply {s : State} {p : ℕ} {t1 : ℕ} {t2 : ℕ} {t3 : ℕ} {t4 : ℕ} {seq : ℕ} (hm : Within 0x7100000000000000010700000000000000000109a00050203 M) (h0 : Kept M s0 s) :
    Kept M s0 (State.syncReply s p t1 t2 t3 t4 seq) := by
  unfold State.syncReply
  refine kept_ite ?_ ?_
  · refine kept_unmatched (hm.sub rfl) ?_
    exact h0
  · extract_lets -underBinder +onlyGivenNames v20
    (clear_value v20; revert v20; refine Kept.seal ?_; intro v20)
    extract_lets -underBinder +onlyGivenNames v21
    (clear_value v21; revert v21; refine Kept.seal ?_; intro v21)
    extract_lets -underBinder +onlyGivenNames v22
    (clear_value v22; revert v22; refine Kept.seal ?_; intro v22)
    extract_lets -underBinder +onlyGivenNames v23
    (clear_value v23; revert v23; refine Kept.seal ?_; intro v23)
    extract_lets -underBinder +onlyGivenNames v24
    (clear_value v24; revert v24; refine Kept.seal ?_; intro v24)
    extract_lets -underBinder +onlyGivenNames v25
    have h26 : Kept M s0 v25 := by
      unfold v25
      refine Kept.in_sync (hm.bit 16 rfl) ?_
      exact h0
    (clear_value v25; revert v25; refine Kept.seal ?_; intro v25 h26)
    refine kept_ite ?_ ?_
    · refine kept_syncAccept (hm.sub rfl) ?_
      exact h26
    · exact h26

theorem kept_syncInterval {s : State} (hm : Within 0x7300000000000000010700000000000000000109a00050a02 M) (h0 : Kept M s0 s) :
    Kept M s0 (State.syncInterval s) := by
  unfold State.syncInterval
  extract_lets -underBinder +onlyGivenNames v20
  (clear_value v20; revert v20; refine Kept.seal ?_; intro v20)
  refine kept_ite ?_ ?_
  · exact h0
  · extract_lets -underBinder +onlyGivenNames v21
    have h22 : Kept M s0 v21 := by
      unfold v21
      refine kept_ite ?_ ?_
      · refine Kept.setF (hm.bit 1 rfl) (reach_JX_SYNC_STS (hm.bit 188 rfl)) ?_
        exact h0
      · exact h0
    (clear_value v21; revert v21; refine Kept.seal ?_; intro v21 h22)
    extract_lets -underBinder +onlyGivenNames v23
    (clear_value v23; revert v23; refine Kept.seal ?_; intro v23)
    extract_lets -underBinder +onlyGivenNames v24
    (clear_value v24; revert v24; refine Kept.seal ?_; intro v24)
    extract_lets -underBinder +onlyGivenNames v25
    have h26 : Kept M s0 v25 := by
      unfold v25
      refine Kept.in_sync (hm.bit 16 rfl) ?_
      exact h22
    (clear_value v25; revert v25; refine Kept.seal ?_; intro v25 h26)
    refine kept_sendRouted (hm.sub rfl) ?_
    exact h26

theorem kept_syncSlew {s : State} (hm : Within 0x10001 M) (h0 : Kept M s0 s) :
    Kept M s0 (State.syncSlew s) := by
  unfold State.syncSlew
  extract_lets -underBinder +onlyGivenNames v20
  (clear_value v20; revert v20; refine Kept.seal ?_; intro v20)
  refine kept_ite ?_ ?_
  · exact h0
  · refine kept_ite ?_ ?_
    · refine Kept.in_count (x := { s with sync := { seq := v20.seq, sentAt := v20.sentAt, delays := v20.delays, slew := v20.slew - 16, slewAt := s.count, withhold := v20.withhold, good := v20.good, acceptedAt := v20.acceptedAt } }) (hm.bit 0 rfl) ?_ (Nat.le_succ _)
      refine Kept.in_sync (hm.bit 16 rfl) ?_
      exact h0
    · refine kept_ite ?_ ?_
      · refine Kept.in_sync (hm.bit 16 rfl) ?_
        exact h0
      · exact h0

theorem kept_malformed {s : State} {p : ℕ} {f : Flit} {first : Option Msg} (hm : Within 0x7200000000000000010700000000000000000189a00040a02 M) (h0 : Kept M s0 s) :
    Kept M s0 (State.malformed s p f first) := by
  unfold State.malformed
  extract_lets -underBinder +onlyGivenNames v20
  (clear_value v20; revert v20; refine Kept.seal ?_; intro v20)
  extract_lets -underBinder +onlyGivenNames v21
  have h22 : Kept M s0 v21 := by
    unfold v21
    refine kept_ledger (hm.sub rfl) ?_
    refine kept_countDrop (hm.sub rfl) ?_
    exact h0
  (clear_value v21; revert v21; refine Kept.seal ?_; intro v21 h22)
  split
  · rename_i w23 w24
    (generalize q26 : (w24.request p) = x25; revert x25; refine Kept.seal ?_; intro x25 q26)
    split
    · rename_i w27 w28 w29
      refine kept_answerStatus (hm.sub rfl) ?_
      exact h22
    · rename_i w30
      exact h22
  · rename_i w31
    exact h22

theorem kept_messageRx {s : State} {p : ℕ} {m : Msg} (hm : Within 0x800000200000000800730902020700000019070000000000000000018bab01fdb7f M) (h0 : Kept M s0 s) :
    Kept M s0 (State.messageRx s p m) := by
  unfold State.messageRx
  extract_lets -underBinder +onlyGivenNames v20
  (clear_value v20; revert v20; refine Kept.seal ?_; intro v20)
  (generalize q22 : (m.request p) = x21; revert x21; refine Kept.seal ?_; intro x21 q22)
  split
  · rename_i w23 w24
    refine kept_updPort (hm.sub rfl) ?_
    exact h0
  · rename_i w25
    extract_lets -underBinder +onlyGivenNames v26
    have h27 : Kept M s0 v26 := by
      unfold v26
      refine kept_freeHeld (hm.sub rfl) ?_
      exact h0
    (clear_value v26; revert v26; refine Kept.seal ?_; intro v26 h27)
    extract_lets -underBinder +onlyGivenNames v28
    (clear_value v28; revert v28; refine Kept.seal ?_; intro v28)
    (generalize q30 : (m.ftype) = x29; revert x29; refine Kept.seal ?_; intro x29 q30)
    split
    · rename_i w31
      refine kept_responseRx (hm.sub rfl) ?_
      exact h27
    · rename_i w32
      refine kept_responseRx (hm.sub rfl) ?_
      exact h27
    · rename_i w33
      refine kept_responseRx (hm.sub rfl) ?_
      exact h27
    · rename_i w34
      refine kept_ite ?_ ?_
      · refine kept_completionRx (hm.sub rfl) ?_
        exact h27
      · refine kept_unmatched (hm.sub rfl) ?_
        exact h27
    · rename_i w35
      refine kept_ite ?_ ?_
      · refine kept_syncRequest (hm.sub rfl) ?_
        exact h27
      · refine kept_syncReply (hm.sub rfl) ?_
        exact h27
    · rename_i w36 w37 w38 w39 w40 w41
      refine kept_unmatched (hm.sub rfl) ?_
      exact h27

theorem kept_dataFlit {s : State} {p : ℕ} {f : Flit} (hm : Within 0x800000200000000800730902020700000019070000000000000000018bab01fdb7f M) (h0 : Kept M s0 s) :
    Kept M s0 (State.dataFlit s p f) := by
  unfold State.dataFlit
  extract_lets -underBinder +onlyGivenNames v20
  (clear_value v20; revert v20; refine Kept.seal ?_; intro v20)
  extract_lets -underBinder +onlyGivenNames v21
  (clear_value v21; revert v21; refine Kept.seal ?_; intro v21)
  (generalize q23 : (List.find? v21 (s.port p).partials) = x22; revert x22; refine Kept.seal ?_; intro x22 q23)
  split
  · rename_i w24
    refine kept_freeHeld (hm.sub rfl) ?_
    refine kept_malformed (hm.sub rfl) ?_
    exact h0
  · rename_i w25 w26
    extract_lets -underBinder +onlyGivenNames v27
    have h28 : ∀ c_0, Kept M s0 c_0 → Kept M s0 (v27 c_0) := by
      unfold v27
      intro y29 h30
      refine kept_updPort (hm.sub rfl) ?_
      exact h30
    (clear_value v27; revert v27; refine Kept.seal ?_; intro v27 h28)
    extract_lets -underBinder +onlyGivenNames v31
    (clear_value v31; revert v31; refine Kept.seal ?_; intro v31)
    refine kept_ite ?_ ?_
    · refine kept_freeHeld (hm.sub rfl) ?_
      refine kept_malformed (hm.sub rfl) ?_
      refine h28 _ ?_
      exact h0
    · extract_lets -underBinder +onlyGivenNames v32
      (clear_value v32; revert v32; refine Kept.seal ?_; intro v32)
      extract_lets -underBinder +onlyGivenNames v33
      (clear_value v33; revert v33; refine Kept.seal ?_; intro v33)
      refine kept_ite ?_ ?_
      · refine kept_messageRx (hm.sub rfl) ?_
        refine h28 _ ?_
        exact h0
      · refine kept_updPort (hm.sub rfl) ?_
        exact h0

theorem kept_firstFlit {s : State} {p : ℕ} {t : FType} {f : Flit} (hm : Within 0x800000200000000800730902020700000019070000000000000000018bab01fdb7f M) (h0 : Kept M s0 s) :
    Kept M s0 (State.firstFlit s p t f) := by
  unfold State.firstFlit
  extract_lets -underBinder +onlyGivenNames v20
  (clear_value v20; revert v20; refine Kept.seal ?_; intro v20)
  extract_lets -underBinder +onlyGivenNames v21
  (clear_value v21; revert v21; refine Kept.seal ?_; intro v21)
  refine kept_ite ?_ ?_
  · refine kept_freeHeld (hm.sub rfl) ?_
    refine kept_malformed (hm.sub rfl) ?_
    exact h0
  · refine kept_ite ?_ ?_
    · refine kept_messageRx (hm.sub rfl) ?_
      exact h0
    · refine kept_updPort (hm.sub rfl) ?_
      exact h0

theorem kept_takeFlit {s : State} {p : ℕ} {f : Flit} (hm : Within 0x800000200000000815730902020700000019070000000000000000018bab01fdf7f M) (h0 : Kept M s0 s) :
    Kept M s0 (State.takeFlit s p f) := by
  unfold State.takeFlit
  extract_lets -underBinder +onlyGivenNames v20
  (clear_value v20; revert v20; refine Kept.seal ?_; intro v20)
  extract_lets -underBinder +onlyGivenNames v21
  have h22 : Kept M s0 v21 := by
    unfold v21
    refine kept_updPort (hm.sub rfl) ?_
    refine Kept.addF (hm.bit 1 rfl) (reach_JX_PORT_STS (hm.bit 192 rfl)) ?_
    exact h0
  (clear_value v21; revert v21; refine Kept.seal ?_; intro v21 h22)
  extract_lets -underBinder +onlyGivenNames v23
  have h24 : Kept M s0 v23 := by
    unfold v23
    refine kept_ite ?_ ?_
    · refine kept_sendAck (hm.sub rfl) ?_
      exact h22
    · exact h22
  (clear_value v23; revert v23; refine Kept.seal ?_; intro v23 h24)
  refine kept_ite ?_ ?_
  · refine kept_retrainPort (hm.sub rfl) ?_
    refine kept_ledger (hm.sub rfl) ?_
    exact h24
  · extract_lets -underBinder +onlyGivenNames v25
    have h26 : Kept M s0 v25 := by
      unfold v25
      refine kept_updPort (hm.sub rfl) ?_
      exact h24
    (clear_value v25; revert v25; refine Kept.seal ?_; intro v25 h26)
    refine kept_ite ?_ ?_
    · refine kept_firstFlit (hm.sub rfl) ?_
      exact h26
    · refine kept_ite ?_ ?_
      · refine kept_freeHeld (hm.sub rfl) ?_
        exact h26
      · refine kept_ite ?_ ?_
        · refine kept_freeHeld (hm.sub rfl) ?_
          refine kept_ledger (hm.sub rfl) ?_
          exact h26
        · (generalize q28 : (Sys2Proof.Machine.ftypeOf f.ftype) = x27; revert x27; refine Kept.seal ?_; intro x27 q28)
          split
          · rename_i w29 w30
            refine kept_firstFlit (hm.sub rfl) ?_
            exact h26
          · rename_i w31
            refine kept_dataFlit (hm.sub rfl) ?_
            exact h26

theorem kept_goodFlit {s : State} {p : ℕ} {f : Flit} (hm : Within 0x8000002000000008157b0902020700000019070000000000000000018bab01fdf7f M) (h0 : Kept M s0 s) :
    Kept M s0 (State.goodFlit s p f) := by
  unfold State.goodFlit
  refine kept_ite ?_ ?_
  · refine kept_malformed (hm.sub rfl) ?_
    exact h0
  · refine kept_ite ?_ ?_
    · refine kept_initRx (hm.sub rfl) ?_
      exact h0
    · refine kept_ite ?_ ?_
      · exact h0
      · extract_lets -underBinder +onlyGivenNames v20
        have h21 : Kept M s0 v20 := by
          unfold v20
          refine kept_linkFields (hm.sub rfl) ?_
          exact h0
        (clear_value v20; revert v20; refine Kept.seal ?_; intro v20 h21)
        refine kept_ite ?_ ?_
        · exact h21
        · refine kept_ite ?_ ?_
          · refine kept_ite ?_ ?_
            · refine kept_replayRx (hm.sub rfl) ?_
              exact h21
            · exact h21
          · refine kept_ite ?_ ?_
            · refine kept_malformed (hm.sub rfl) ?_
              exact h21
            · extract_lets -underBinder +onlyGivenNames v22
              (clear_value v22; revert v22; refine Kept.seal ?_; intro v22)
              (generalize q24 : (v22.rx) = x23; revert x23; refine Kept.seal ?_; intro x23 q24)
              split
              · rename_i w25
                exact h21
              · rename_i w26
                refine kept_ite ?_ ?_
                · refine kept_setPort (hm.sub rfl) ?_
                  exact h21
                · refine kept_takeFlit (hm.sub rfl) ?_
                  exact h21

theorem kept_codeWordRx {s : State} {p : ℕ} {word : Bytes} (hm : Within 0x8000002000000008157b0902020700000019070000000000000000018bab01fdf7f M) (h0 : Kept M s0 s) :
    Kept M s0 (State.codeWordRx s p word) := by
  unfold State.codeWordRx
  refine kept_ite ?_ ?_
  · exact h0
  · (generalize q21 : (Sys2Proof.flitDecode word) = x20; revert x20; refine Kept.seal ?_; intro x20 q21)
    split
    · rename_i w22
      refine kept_badFlit (hm.sub rfl) ?_
      exact h0
    · rename_i w23 w24 w25
      refine kept_goodFlit (hm.sub rfl) ?_
      refine kept_portTally (hm.sub rfl) ?_
      refine kept_portTally (hm.sub rfl) ?_
      exact h0

theorem kept_flitRx {s : State} {p : ℕ} {lanes : List (List (Fin 4))} (hm : Within 0x8000002000000008157b0902020700000019070000000000000000018bab01fdf7f M) (h0 : Kept M s0 s) :
    Kept M s0 (State.flitRx s p lanes) := by
  unfold State.flitRx
  refine kept_codeWordRx (hm.sub rfl) ?_
  exact h0

theorem kept_retrainCommand {s : State} {p : ℕ} (hm : Within 0x151800000000000000000000000000000000000180000000602 M) (h0 : Kept M s0 s) :
    Kept M s0 (State.retrainCommand s p) := by
  unfold State.retrainCommand
  refine kept_ite ?_ ?_
  · refine kept_retrainPort (hm.sub rfl) ?_
    refine Kept.setF (hm.bit 1 rfl) (reach_JX_PORT_CFG (hm.bit 191 rfl)) ?_
    exact h0
  · exact h0

theorem kept_execBadFlit {p : Fin 18} {s : State} (hm : Within 0x4000000000000000000000000000000000000100000000202 M) (h0 : Kept M s0 s) :
    KeptE M s0 (execBadFlit p s) := by
  unfold execBadFlit
  refine kepte_next ?_
  refine kept_badFlit (hm.sub rfl) ?_
  exact h0

theorem kept_execLinkInit {p : Fin 18} {seen : Bool} {req : W16} {rsp : W16} {ntc : W16} {ctl : W16} {s : State} (hm : Within 0x157a00000000000000010700000000000000000189a0004cf02 M) (h0 : Kept M s0 s) :
    KeptE M s0 (execLinkInit p seen req rsp ntc ctl s) := by
  unfold execLinkInit
  refine kepte_next ?_
  refine kept_initRx (hm.sub rfl) ?_
  exact h0

theorem kept_execReplayRx {p : Fin 18} {start : Fin 1024} {header : W64} {s : State} (hm : Within 0x157000000000000000010700000000000000000189a00040602 M) (h0 : Kept M s0 s) :
    KeptE M s0 (execReplayRx p start header s) := by
  unfold execReplayRx
  refine kepte_next ?_
  refine kept_replayRx (hm.sub rfl) ?_
  exact h0

theorem kept_execInitTimer {p : Fin 18} {s : State} (hm : Within 0x100000000200 M) (h0 : Kept M s0 s) :
    KeptE M s0 (execInitTimer p s) := by
  unfold execInitTimer
  refine kepte_next ?_
  refine kept_initTimer (hm.sub rfl) ?_
  exact h0

theorem kept_execReplayTimer {p : Fin 18} {s : State} (hm : Within 0x157000000000000000010700000000000000000189a00040602 M) (h0 : Kept M s0 s) :
    KeptE M s0 (execReplayTimer p s) := by
  unfold execReplayTimer
  refine kepte_next ?_
  refine kept_replayTimer (hm.sub rfl) ?_
  exact h0

theorem kept_execAckTimer {p : Fin 18} {s : State} (hm : Within 0x100000000200 M) (h0 : Kept M s0 s) :
    KeptE M s0 (execAckTimer p s) := by
  unfold execAckTimer
  refine kepte_next ?_
  refine kept_ackTimer (hm.sub rfl) ?_
  exact h0

theorem kept_execCreditTimer {p : Fin 18} {s : State} (hm : Within 0x100000000200 M) (h0 : Kept M s0 s) :
    KeptE M s0 (execCreditTimer p s) := by
  unfold execCreditTimer
  refine kepte_next ?_
  refine kept_creditTimer (hm.sub rfl) ?_
  exact h0

theorem kept_execRetrain {p : Fin 18} {s : State} (hm : Within 0x151800000000000000000000000000000000000180000000602 M) (h0 : Kept M s0 s) :
    KeptE M s0 (execRetrain p s) := by
  unfold execRetrain
  refine kepte_next ?_
  refine kept_retrainCommand (hm.sub rfl) ?_
  exact h0

theorem kept_execCompletionRx {p : Fin 18} {src : Node} {txn : W16} {token : W32} {status : Fin 16} {mask : W32} {data : Bytes} {s : State} (hm : Within 0x800000200000000800720902020700000019070000000000000000018bab01edb7e M) (h0 : Kept M s0 s) :
    KeptE M s0 (execCompletionRx p src txn token status mask data s) := by
  unfold execCompletionRx
  refine kepte_next ?_
  refine kept_completionRx (hm.sub rfl) ?_
  exact h0

theorem kept_execOwnDeferTimeout {txn : W16} {s : State} (hm : Within 0x800000200000000800720902020700000019070000000000000000018bab01e5b7e M) (h0 : Kept M s0 s) :
    KeptE M s0 (execOwnDeferTimeout txn s) := by
  unfold execOwnDeferTimeout
  refine kepte_next ?_
  refine kept_ownDeferTimeout (hm.sub rfl) ?_
  exact h0

theorem kept_execSyncRequest {src : Node} {t1 : W64} {t2 : W64} {t3 : W64} {seq : W64} {s : State} (hm : Within 0x7200000000000000010700000000000000000109a00040a02 M) (h0 : Kept M s0 s) :
    KeptE M s0 (execSyncRequest src t1 t2 t3 seq s) := by
  unfold execSyncRequest
  refine kepte_next ?_
  refine kept_syncRequest (hm.sub rfl) ?_
  exact h0

theorem kept_execSyncReply {p : Fin 18} {t1 : W64} {t2 : W64} {t3 : W64} {t4 : W64} {seq : W64} {s : State} (hm : Within 0x7100000000000000010700000000000000000109a00050203 M) (h0 : Kept M s0 s) :
    KeptE M s0 (execSyncReply p t1 t2 t3 t4 seq s) := by
  unfold execSyncReply
  refine kepte_next ?_
  refine kept_syncReply (hm.sub rfl) ?_
  exact h0

theorem kept_execSyncInterval {s : State} (hm : Within 0x7300000000000000010700000000000000000109a00050a02 M) (h0 : Kept M s0 s) :
    KeptE M s0 (execSyncInterval s) := by
  unfold execSyncInterval
  refine kepte_next ?_
  refine kept_syncInterval (hm.sub rfl) ?_
  exact h0

theorem kept_execSyncSlew {s : State} (hm : Within 0x10001 M) (h0 : Kept M s0 s) :
    KeptE M s0 (execSyncSlew s) := by
  unfold execSyncSlew
  refine kepte_next ?_
  refine kept_syncSlew (hm.sub rfl) ?_
  exact h0

end Sys2Proof.Machine
end

