-- ==== Sys2Proof/Laws/Kept/Fences.lean ====
section
/-! SUPPORT. What the operations of Fences may write: each keeps its footprint. -/

namespace Sys2Proof.Machine

variable {M : Nat} {s0 : State}

theorem kept_discardEntry {s : State} {n : ℕ} {desc : Bytes} {p : Producer} (hm : Within 0x48000000000000000007000000000000000010700000000000000000109a01040202 M) (h0 : Kept M s0 s) :
    Kept M s0 (State.discardEntry s n desc p) := by
  unfold State.discardEntry
  extract_lets -underBinder +onlyGivenNames v20
  have h21 : Kept M s0 v20 := by
    unfold v20
    refine kept_ledger (hm.sub rfl) ?_
    exact h0
  (clear_value v20; revert v20; refine Kept.seal ?_; intro v20 h21)
  split
  · rename_i w22 w23
    extract_lets -underBinder +onlyGivenNames v24
    have h25 : Kept M s0 v24 := by
      unfold v24
      refine kept_shareLost (hm.sub rfl) ?_
      exact h21
    (clear_value v24; revert v24; refine Kept.seal ?_; intro v24 h25)
    refine kept_ite ?_ ?_
    · refine kept_arrive (hm.sub rfl) ?_
      exact h25
    · exact h25
  · rename_i w26 w27
    exact h21

theorem kept_discardQueue {s : State} {n : ℕ} (hm : Within 0x48000000000000000007000000000000000010700000000000000000109a01040202 M) (h0 : Kept M s0 s) :
    Kept M s0 (State.discardQueue s n) := by
  unfold State.discardQueue
  extract_lets -underBinder +onlyGivenNames v20
  (clear_value v20; revert v20; refine Kept.seal ?_; intro v20)
  extract_lets -underBinder +onlyGivenNames v21
  (clear_value v21; revert v21; refine Kept.seal ?_; intro v21)
  refine kept_forEach ?_ ?_
  · intro y22 y23 h24
    refine kept_discardEntry (hm.sub rfl) ?_
    exact h24
  · refine kept_setCore (hm.sub rfl) ?_
    exact h0

theorem kept_launchWaiting {s : State} {x : Shadow} (hm : Within 0x108020000049a50002000000000007208020207000000190700060002200000000109a191e0bfe M) (h0 : Kept M s0 s) :
    Kept M s0 (State.launchWaiting s x) := by
  unfold State.launchWaiting
  (generalize q21 : (s.shadowed x) = x20; revert x20; refine Kept.seal ?_; intro x20 q21)
  split
  · rename_i w22
    exact h0
  · rename_i w23 w24
    refine kept_ite ?_ ?_
    · exact h0
    · refine kept_ite ?_ ?_
      · refine kept_ite ?_ ?_
        · exact h0
        · refine Kept.in_silent (hm.bit 27 rfl) ?_ (Kept.seal) (Kept.seal)
          exact h0
      · refine kept_launch (hm.sub rfl) ?_
        exact h0

theorem kept_uncheck {s : State} {x : Shadow} (hm : Within 0x108820000049a50002000000000007208020207000000190700060002200000000109a191e0bfe M) (h0 : Kept M s0 s) :
    Kept M s0 (State.uncheck s x) := by
  unfold State.uncheck
  extract_lets -underBinder +onlyGivenNames v20
  have h21 : Kept M s0 v20 := by
    unfold v20
    refine Kept.addF (hm.bit 1 rfl) (reach_TST_UNCHECKED (hm.bit 299 rfl)) ?_
    refine kept_shadowEnd (hm.sub rfl) ?_
    exact h0
  (clear_value v20; revert v20; refine Kept.seal ?_; intro v20 h21)
  refine kept_ite ?_ ?_
  · exact h21
  · refine kept_launchWaiting (hm.sub rfl) ?_
    exact h21

theorem kept_testAbortedBy {s : State} {n : ℕ} (hm : Within 0x180000000000000000000000000007200000000000000010700000000000000000109a08040a02 M) (h0 : Kept M s0 s) :
    Kept M s0 (State.testAbortedBy s n) := by
  unfold State.testAbortedBy
  (generalize q21 : (s.testOf n) = x20; revert x20; refine Kept.seal ?_; intro x20 q21)
  split
  · rename_i w22
    exact h0
  · rename_i w23 w24
    extract_lets -underBinder +onlyGivenNames v25
    (clear_value v25; revert v25; refine Kept.seal ?_; intro v25)
    extract_lets -underBinder +onlyGivenNames v26
    extract_lets -underBinder +onlyGivenNames v27
    have h28 : Kept M s0 v27 := by
      unfold v27
      refine Kept.in_silent (hm.bit 27 rfl) ?_ (Kept.seal) (Kept.seal)
      exact h0
    (clear_value v27; revert v27; refine Kept.seal ?_; intro v27 h28)
    extract_lets -underBinder +onlyGivenNames v29
    have h30 : Kept M s0 v29 := by
      unfold v29
      refine Kept.setF (hm.bit 1 rfl) (reach_TST_CORE_CTL (hm.bit 307 rfl)) ?_
      refine Kept.setF (hm.bit 1 rfl) (reach_TST_CORE_STS (hm.bit 308 rfl)) ?_
      refine Kept.setF (hm.bit 1 rfl) (reach_TST_CORE_STS (hm.bit 308 rfl)) ?_
      exact h28
    (clear_value v29; revert v29; refine Kept.seal ?_; intro v29 h30)
    refine kept_testNotice (hm.sub rfl) ?_
    refine kept_ledger (hm.sub rfl) ?_
    exact h30

theorem kept_coreLost {s : State} {n : ℕ} {code : ℕ} {cuts : List KernelCut} (hm : Within 0x188820000049a5000200000000000720902020700c000191701c60002200000000189a59de0bfe M) (h0 : Kept M s0 s) :
    Kept M s0 (State.coreLost s n code cuts) := by
  unfold State.coreLost
  extract_lets -underBinder +onlyGivenNames v20
  (clear_value v20; revert v20; refine Kept.seal ?_; intro v20)
  extract_lets -underBinder +onlyGivenNames v21
  have h22 : Kept M s0 v21 := by
    unfold v21
    refine kept_abortKernel (hm.sub rfl) ?_
    exact h0
  (clear_value v21; revert v21; refine Kept.seal ?_; intro v21 h22)
  extract_lets -underBinder +onlyGivenNames v23
  have h24 : Kept M s0 v23 := by
    unfold v23
    refine kept_testAbortedBy (hm.sub rfl) ?_
    exact h22
  (clear_value v23; revert v23; refine Kept.seal ?_; intro v23 h24)
  extract_lets -underBinder +onlyGivenNames v25
  have h26 : Kept M s0 v25 := by
    unfold v25
    refine kept_forEach ?_ ?_
    · intro y27 y28 h29
      refine kept_uncheck (hm.sub rfl) ?_
      exact h29
    · exact h24
  (clear_value v25; revert v25; refine Kept.seal ?_; intro v25 h26)
  extract_lets -underBinder +onlyGivenNames v30
  have h31 : Kept M s0 v30 := by
    unfold v30
    refine kept_dropShadow (hm.sub rfl) ?_
    exact h26
  (clear_value v30; revert v30; refine Kept.seal ?_; intro v30 h31)
  refine kept_discardQueue (hm.sub rfl) ?_
  exact h31

theorem kept_faultFence {s : State} {u : FenceUnit} {e : Event} (hm : Within 0x7000000000000000010700000002200000000109a00040382 M) (h0 : Kept M s0 s) :
    Kept M s0 (State.faultFence s u e) := by
  unfold State.faultFence
  extract_lets -underBinder +onlyGivenNames v20
  (clear_value v20; revert v20; refine Kept.seal ?_; intro v20)
  extract_lets -underBinder +onlyGivenNames v21
  extract_lets -underBinder +onlyGivenNames v22
  have h23 : Kept M s0 v22 := by
    unfold v22
    refine Kept.in_integ (hm.bit 18 rfl) ?_ (Kept.seal) (Kept.seal)
    exact h0
  (clear_value v22; revert v22; refine Kept.seal ?_; intro v22 h23)
  refine kept_ledger (hm.sub rfl) ?_
  refine kept_addFence (hm.sub rfl) ?_
  exact h23

theorem kept_fault {s : State} {u : FenceUnit} {e : Event} {cuts : List KernelCut} (hm : Within 0x188820000049a5000200000000000720902020700c000191701c60002200000000189a59de0bfe M) (h0 : Kept M s0 s) :
    Kept M s0 (State.fault s u e cuts) := by
  unfold State.fault
  refine kept_ite ?_ ?_
  · refine kept_ite ?_ ?_
    · refine kept_faultFence (hm.sub rfl) ?_
      exact h0
    · exact h0
  · extract_lets -underBinder +onlyGivenNames v20
    (clear_value v20; revert v20; refine Kept.seal ?_; intro v20)
    refine kept_forEach ?_ ?_
    · intro y21 y22 h23
      refine kept_coreLost (hm.sub rfl) ?_
      exact h23
    · refine kept_faultFence (hm.sub rfl) ?_
      exact h0

theorem kept_engineFault {s : State} {n : ℕ} {e : Event} {cut : KernelCut} (hm : Within 0x108820000049a5000200000000000720902020700c000191701c60002200000000189a59de0bfe M) (h0 : Kept M s0 s) :
    Kept M s0 (State.engineFault s n e cut) := by
  unfold State.engineFault
  refine kept_ite ?_ ?_
  · refine kept_ite ?_ ?_
    · refine kept_faultFence (hm.sub rfl) ?_
      exact h0
    · exact h0
  · extract_lets -underBinder +onlyGivenNames v20
    have h21 : Kept M s0 v20 := by
      unfold v20
      refine kept_abortKernel (hm.sub rfl) ?_
      refine kept_faultFence (hm.sub rfl) ?_
      exact h0
    (clear_value v20; revert v20; refine Kept.seal ?_; intro v20 h21)
    refine kept_forEach ?_ ?_
    · intro y22 y23 h24
      refine kept_uncheck (hm.sub rfl) ?_
      exact h24
    · exact h21

theorem kept_clusterFault {s : State} {c : ℕ} {why : ClusterCause} {cuts : List KernelCut} (hm : Within 0x188820000049a5000200000000000720902020700c000191701c60002200000000189a59de0bfe M) (h0 : Kept M s0 s) :
    Kept M s0 (State.clusterFault s c why cuts) := by
  unfold State.clusterFault
  extract_lets -underBinder +onlyGivenNames v20
  (clear_value v20; revert v20; refine Kept.seal ?_; intro v20)
  split
  · rename_i w21 w22
    refine kept_ite ?_ ?_
    · refine kept_writeTags (hm.sub rfl) ?_
      exact h0
    · refine kept_fault (hm.sub rfl) ?_
      exact h0
  · rename_i w23
    refine kept_fault (hm.sub rfl) ?_
    refine kept_bump (hm.sub rfl) ?_
    exact h0

theorem kept_dieLost {s : State} {d : ℕ} {e : Event} {cuts : List KernelCut} (hm : Within 0x188820000049a50002000000000057a0902020700c000191701c60002200000000189a59de0bfe M) (h0 : Kept M s0 s) :
    Kept M s0 (State.dieLost s d e cuts) := by
  unfold State.dieLost
  refine kept_ite ?_ ?_
  · exact h0
  · refine kept_forEach ?_ ?_
    · intro y20 y21 h22
      refine kept_portOff (hm.sub rfl) ?_
      exact h22
    · refine kept_fault (hm.sub rfl) ?_
      exact h0

theorem kept_dieFault {s : State} {d : ℕ} {cuts : List KernelCut} (hm : Within 0x188820000049a50002000000000057a0902020700c000191701c60002200000000189a59de0bfe M) (h0 : Kept M s0 s) :
    Kept M s0 (State.dieFault s d cuts) := by
  unfold State.dieFault
  refine kept_dieLost (hm.sub rfl) ?_
  refine kept_bump (hm.sub rfl) ?_
  exact h0

theorem kept_bridgeFailure {s : State} {cuts : List KernelCut} (hm : Within 0x188820000049a50002000000000057a0902020700c000191701c60002200000000189a59de0bfe M) (h0 : Kept M s0 s) :
    Kept M s0 (State.bridgeFailure s cuts) := by
  unfold State.bridgeFailure
  refine kept_dieLost (hm.sub rfl) ?_
  refine kept_bump (hm.sub rfl) ?_
  exact h0

theorem kept_execOperandParity {cut : KernelCut} {s : State} (hm : Within 0x108820000049a5000200000000000720902020700c000191701c60002200000000189a59de0bfe M) (h0 : Kept M s0 s) :
    KeptE M s0 (execOperandParity cut s) := by
  unfold execOperandParity
  extract_lets -underBinder +onlyGivenNames v20
  (clear_value v20; revert v20; refine Kept.seal ?_; intro v20)
  refine kepte_next ?_
  refine kept_engineFault (hm.sub rfl) ?_
  exact h0

theorem kept_execSeqFault {cut : KernelCut} {s : State} (hm : Within 0x188820000049a5000200000000000720902020700c000191701c60002200000000189a59de0bfe M) (h0 : Kept M s0 s) :
    KeptE M s0 (execSeqFault cut s) := by
  unfold execSeqFault
  extract_lets -underBinder +onlyGivenNames v20
  (clear_value v20; revert v20; refine Kept.seal ?_; intro v20)
  refine kepte_next ?_
  refine kept_fault (hm.sub rfl) ?_
  exact h0

theorem kept_execClusterFault {c : Fin 8} {why : ClusterCause} {cuts : List KernelCut} {s : State} (hm : Within 0x188820000049a5000200000000000720902020700c000191701c60002200000000189a59de0bfe M) (h0 : Kept M s0 s) :
    KeptE M s0 (execClusterFault c why cuts s) := by
  unfold execClusterFault
  refine kepte_next ?_
  refine kept_clusterFault (hm.sub rfl) ?_
  exact h0

theorem kept_execDieFault {d : Fin 2} {cuts : List KernelCut} {s : State} (hm : Within 0x188820000049a50002000000000057a0902020700c000191701c60002200000000189a59de0bfe M) (h0 : Kept M s0 s) :
    KeptE M s0 (execDieFault d cuts s) := by
  unfold execDieFault
  refine kepte_next ?_
  refine kept_dieFault (hm.sub rfl) ?_
  exact h0

theorem kept_execBridgeFailure {cuts : List KernelCut} {s : State} (hm : Within 0x188820000049a50002000000000057a0902020700c000191701c60002200000000189a59de0bfe M) (h0 : Kept M s0 s) :
    KeptE M s0 (execBridgeFailure cuts s) := by
  unfold execBridgeFailure
  refine kepte_next ?_
  refine kept_bridgeFailure (hm.sub rfl) ?_
  exact h0

end Sys2Proof.Machine
end

