-- ==== Sys2Proof/Laws/Kept/Optical.lean ====
section
/-! SUPPORT. What the operations of Optical may write: each keeps its footprint. -/

namespace Sys2Proof.Machine

variable {M : Nat} {s0 : State}

theorem kept_trainBlock {s : State} {e : ℕ} {lane : ℕ} {b : Bytes} (hm : Within 0x10000000000000000000000000000000000000180000000402 M) (h0 : Kept M s0 s) :
    Kept M s0 (State.trainBlock s e lane b) := by
  unfold State.trainBlock
  extract_lets -underBinder +onlyGivenNames v20
  (clear_value v20; revert v20; refine Kept.seal ?_; intro v20)
  refine kept_ite ?_ ?_
  · exact h0
  · extract_lets -underBinder +onlyGivenNames v21
    (clear_value v21; revert v21; refine Kept.seal ?_; intro v21)
    extract_lets -underBinder +onlyGivenNames v22
    (clear_value v22; revert v22; refine Kept.seal ?_; intro v22)
    extract_lets -underBinder +onlyGivenNames v23
    (clear_value v23; revert v23; refine Kept.seal ?_; intro v23)
    extract_lets -underBinder +onlyGivenNames v24
    (clear_value v24; revert v24; refine Kept.seal ?_; intro v24)
    extract_lets -underBinder +onlyGivenNames v25
    (clear_value v25; revert v25; refine Kept.seal ?_; intro v25)
    extract_lets -underBinder +onlyGivenNames v26
    (clear_value v26; revert v26; refine Kept.seal ?_; intro v26)
    extract_lets -underBinder +onlyGivenNames v27
    (clear_value v27; revert v27; refine Kept.seal ?_; intro v27)
    extract_lets -underBinder +onlyGivenNames v28
    have h29 : Kept M s0 v28 := by
      unfold v28
      refine kept_setOptic (hm.sub rfl) ?_
      exact h0
    (clear_value v28; revert v28; refine Kept.seal ?_; intro v28 h29)
    extract_lets -underBinder +onlyGivenNames v30
    have h31 : Kept M s0 v30 := by
      unfold v30
      refine Kept.setF (hm.bit 1 rfl) (reach_OPT_STS (hm.bit 196 rfl)) ?_
      exact h29
    (clear_value v30; revert v30; refine Kept.seal ?_; intro v30 h31)
    refine kept_ite ?_ ?_
    · refine kept_sendBlocks (hm.sub rfl) ?_
      exact h31
    · exact h31

theorem kept_newAttempt {s : State} {e : ℕ} (hm : Within 0x151000000000000000000000000000000000000180000000402 M) (h0 : Kept M s0 s) :
    Kept M s0 (State.newAttempt s e) := by
  unfold State.newAttempt
  refine kept_ite ?_ ?_
  · refine kept_startTraining (hm.sub rfl) ?_
    refine Kept.setF (hm.bit 1 rfl) (reach_JX_PORT_STS (hm.bit 192 rfl)) ?_
    exact h0
  · exact h0

theorem kept_nextStep {s : State} {e : ℕ} {step : ℕ} (hm : Within 0x10000000000000000000000000000000000000180000000402 M) (h0 : Kept M s0 s) :
    Kept M s0 (State.nextStep s e step) := by
  unfold State.nextStep
  extract_lets -underBinder +onlyGivenNames v20
  (clear_value v20; revert v20; refine Kept.seal ?_; intro v20)
  extract_lets -underBinder +onlyGivenNames v21
  (clear_value v21; revert v21; refine Kept.seal ?_; intro v21)
  extract_lets -underBinder +onlyGivenNames v22
  have h23 : Kept M s0 v22 := by
    unfold v22
    refine Kept.setF (hm.bit 1 rfl) (reach_OPT_STS (hm.bit 196 rfl)) ?_
    refine kept_setOptic (hm.sub rfl) ?_
    exact h0
  (clear_value v22; revert v22; refine Kept.seal ?_; intro v22 h23)
  refine kept_sendBlocks (hm.sub rfl) ?_
  exact h23

theorem kept_trainFail {s : State} {e : ℕ} (hm : Within 0x57a00000000000000010700000000000000000109a00040e02 M) (h0 : Kept M s0 s) :
    Kept M s0 (State.trainFail s e) := by
  unfold State.trainFail
  extract_lets -underBinder +onlyGivenNames v20
  (clear_value v20; revert v20; refine Kept.seal ?_; intro v20)
  refine kept_ite ?_ ?_
  · exact h0
  · extract_lets -underBinder +onlyGivenNames v21
    (clear_value v21; revert v21; refine Kept.seal ?_; intro v21)
    extract_lets -underBinder +onlyGivenNames v22
    (clear_value v22; revert v22; refine Kept.seal ?_; intro v22)
    extract_lets -underBinder +onlyGivenNames v23
    have h24 : Kept M s0 v23 := by
      unfold v23
      refine Kept.setF (hm.bit 1 rfl) (reach_OPT_STS (hm.bit 196 rfl)) ?_
      refine Kept.setF (hm.bit 1 rfl) (reach_OPT_STS (hm.bit 196 rfl)) ?_
      refine Kept.satF (hm.bit 1 rfl) (reach_OPT_STS (hm.bit 196 rfl)) ?_
      exact h0
    (clear_value v23; revert v23; refine Kept.seal ?_; intro v23 h24)
    extract_lets -underBinder +onlyGivenNames v25
    have h26 : Kept M s0 v25 := by
      unfold v25
      refine kept_lasers (hm.sub rfl) ?_
      refine kept_setOptic (hm.sub rfl) ?_
      exact h24
    (clear_value v25; revert v25; refine Kept.seal ?_; intro v25 h26)
    extract_lets -underBinder +onlyGivenNames v27
    have h28 : Kept M s0 v27 := by
      unfold v27
      refine kept_ite ?_ ?_
      · exact h26
      · refine kept_ledger (hm.sub rfl) ?_
        exact h26
    (clear_value v27; revert v27; refine Kept.seal ?_; intro v27 h28)
    refine kept_ite ?_ ?_
    · refine kept_linkDown (hm.sub rfl) ?_
      refine kept_ledger (hm.sub rfl) ?_
      exact h28
    · refine kept_linkDown (hm.sub rfl) ?_
      exact h28

theorem kept_trainSignal {s : State} {e : ℕ} {locked : ℕ} (hm : Within 0x10000000000000000000000000000000000000180000000402 M) (h0 : Kept M s0 s) :
    Kept M s0 (State.trainSignal s e locked) := by
  unfold State.trainSignal
  refine kept_ite ?_ ?_
  · refine kept_nextStep (hm.sub rfl) ?_
    refine kept_setOptic (hm.sub rfl) ?_
    exact h0
  · exact h0

theorem kept_trainEqualise {s : State} {e : ℕ} (hm : Within 0x10000000000000000000000000000000000000180000000402 M) (h0 : Kept M s0 s) :
    Kept M s0 (State.trainEqualise s e) := by
  unfold State.trainEqualise
  extract_lets -underBinder +onlyGivenNames v20
  (clear_value v20; revert v20; refine Kept.seal ?_; intro v20)
  refine kept_ite ?_ ?_
  · refine kept_nextStep (hm.sub rfl) ?_
    exact h0
  · exact h0

theorem kept_trainMap {s : State} {e : ℕ} (hm : Within 0x57a00000000000000010700000000000000000189a00040e02 M) (h0 : Kept M s0 s) :
    Kept M s0 (State.trainMap s e) := by
  unfold State.trainMap
  extract_lets -underBinder +onlyGivenNames v20
  (clear_value v20; revert v20; refine Kept.seal ?_; intro v20)
  refine kept_ite ?_ ?_
  · refine kept_ite ?_ ?_
    · refine kept_trainFail (hm.sub rfl) ?_
      refine kept_ledger (hm.sub rfl) ?_
      exact h0
    · refine kept_nextStep (hm.sub rfl) ?_
      exact h0
  · exact h0

theorem kept_trainVerify {s : State} {e : ℕ} {failed : List ℕ} (hm : Within 0x10000000000000000000000000000000000000180000000402 M) (h0 : Kept M s0 s) :
    Kept M s0 (State.trainVerify s e failed) := by
  unfold State.trainVerify
  extract_lets -underBinder +onlyGivenNames v20
  (clear_value v20; revert v20; refine Kept.seal ?_; intro v20)
  refine kept_ite ?_ ?_
  · extract_lets -underBinder +onlyGivenNames v21
    (clear_value v21; revert v21; refine Kept.seal ?_; intro v21)
    extract_lets -underBinder +onlyGivenNames v22
    (clear_value v22; revert v22; refine Kept.seal ?_; intro v22)
    refine kept_ite ?_ ?_
    · exact h0
    · refine kept_nextStep (hm.sub rfl) ?_
      refine Kept.setF (hm.bit 1 rfl) (reach_OPT_STS (hm.bit 196 rfl)) ?_
      exact h0
  · exact h0

theorem kept_trainWidth {s : State} {e : ℕ} (hm : Within 0x77a00000000000000010700000000000000000189a00040e02 M) (h0 : Kept M s0 s) :
    Kept M s0 (State.trainWidth s e) := by
  unfold State.trainWidth
  refine kept_ite ?_ ?_
  · exact h0
  · (generalize q21 : (s.ownWidth e) = x20; revert x20; refine Kept.seal ?_; intro x20 q21)
    split
    · rename_i w22
      refine kept_trainFail (hm.sub rfl) ?_
      exact h0
    · rename_i w23 w24
      extract_lets -underBinder +onlyGivenNames v25
      (clear_value v25; revert v25; refine Kept.seal ?_; intro v25)
      extract_lets -underBinder +onlyGivenNames v26
      (clear_value v26; revert v26; refine Kept.seal ?_; intro v26)
      extract_lets -underBinder +onlyGivenNames v27
      have h28 : Kept M s0 v27 := by
        unfold v27
        refine kept_ite ?_ ?_
        · exact h0
        · refine kept_sendBlocks (hm.sub rfl) ?_
          refine kept_setOptic (hm.sub rfl) ?_
          exact h0
      (clear_value v27; revert v27; refine Kept.seal ?_; intro v27 h28)
      refine kept_ite ?_ ?_
      · exact h28
      · extract_lets -underBinder +onlyGivenNames v29
        (clear_value v29; revert v29; refine Kept.seal ?_; intro v29)
        extract_lets -underBinder +onlyGivenNames v30
        have h31 : Kept M s0 v30 := by
          unfold v30
          refine kept_ite ?_ ?_
          · refine kept_ledger (hm.sub rfl) ?_
            exact h28
          · exact h28
        (clear_value v30; revert v30; refine Kept.seal ?_; intro v30 h31)
        extract_lets -underBinder +onlyGivenNames v32
        have h33 : Kept M s0 v32 := by
          unfold v32
          refine Kept.setF (hm.bit 1 rfl) (reach_OPT_LANEMAP (hm.bit 197 rfl)) ?_
          exact h31
        (clear_value v32; revert v32; refine Kept.seal ?_; intro v32 h33)
        extract_lets -underBinder +onlyGivenNames v34
        have h35 : Kept M s0 v34 := by
          unfold v34
          refine Kept.setF (hm.bit 1 rfl) (reach_JX_PORT_CFG (hm.bit 191 rfl)) ?_
          refine Kept.setF (hm.bit 1 rfl) (reach_OPT_STS (hm.bit 196 rfl)) ?_
          exact h33
        (clear_value v34; revert v34; refine Kept.seal ?_; intro v34 h35)
        extract_lets -underBinder +onlyGivenNames v36
        have h37 : Kept M s0 v36 := by
          unfold v36
          refine kept_lasers (hm.sub rfl) ?_
          refine Kept.setF (hm.bit 1 rfl) (reach_OPT_STS (hm.bit 196 rfl)) ?_
          refine Kept.setF (hm.bit 1 rfl) (reach_OPT_STS (hm.bit 196 rfl)) ?_
          exact h35
        (clear_value v36; revert v36; refine Kept.seal ?_; intro v36 h37)
        extract_lets -underBinder +onlyGivenNames v38
        (clear_value v38; revert v38; refine Kept.seal ?_; intro v38)
        extract_lets -underBinder +onlyGivenNames v39
        have h40 : Kept M s0 v39 := by
          unfold v39
          refine kept_setOptic (hm.sub rfl) ?_
          exact h37
        (clear_value v39; revert v39; refine Kept.seal ?_; intro v39 h40)
        refine kept_updPort (hm.sub rfl) ?_
        refine Kept.setF (hm.bit 1 rfl) (reach_JX_PORT_STS (hm.bit 192 rfl)) ?_
        exact h40

theorem kept_stepOver {s : State} {e : ℕ} (hm : Within 0x57a00000000000000010700000000000000000109a00040e02 M) (h0 : Kept M s0 s) :
    Kept M s0 (State.stepOver s e) := by
  unfold State.stepOver
  refine kept_ite ?_ ?_
  · refine kept_trainFail (hm.sub rfl) ?_
    exact h0
  · exact h0

theorem kept_attemptOver {s : State} {e : ℕ} (hm : Within 0x57a00000000000000010700000000000000000109a00040e02 M) (h0 : Kept M s0 s) :
    Kept M s0 (State.attemptOver s e) := by
  unfold State.attemptOver
  refine kept_ite ?_ ?_
  · refine kept_trainFail (hm.sub rfl) ?_
    exact h0
  · exact h0

theorem kept_trainRetry {s : State} {e : ℕ} (hm : Within 0x151000000000000000000000000000000000000180000000402 M) (h0 : Kept M s0 s) :
    Kept M s0 (State.trainRetry s e) := by
  unfold State.trainRetry
  refine kept_ite ?_ ?_
  · refine kept_newAttempt (hm.sub rfl) ?_
    exact h0
  · exact h0

theorem kept_portCommit {s : State} {e : ℕ} {old : PortGroup} {new : PortGroup} (hm : Within 0x157a00000000000000010700000000000000000189a00040e02 M) (h0 : Kept M s0 s) :
    Kept M s0 (State.portCommit s e old new) := by
  unfold State.portCommit
  extract_lets -underBinder +onlyGivenNames v20
  have h21 : Kept M s0 v20 := by
    unfold v20
    refine Kept.setF (hm.bit 1 rfl) (reach_JX_PORT_CFG (hm.bit 191 rfl)) ?_
    refine Kept.setF (hm.bit 1 rfl) (reach_JX_PORT_CFG (hm.bit 191 rfl)) ?_
    exact h0
  (clear_value v20; revert v20; refine Kept.seal ?_; intro v20 h21)
  refine kept_ite ?_ ?_
  · exact h21
  · refine kept_ite ?_ ?_
    · refine kept_portOff (hm.sub rfl) ?_
      exact h21
    · refine kept_ite ?_ ?_
      · refine kept_startTraining (hm.sub rfl) ?_
        exact h21
      · refine kept_ite ?_ ?_
        · refine kept_newAttempt (hm.sub rfl) ?_
          refine kept_linkDown (hm.sub rfl) ?_
          exact h21
        · refine kept_retrainPort (hm.sub rfl) ?_
          exact h21

theorem kept_laserPoll {s : State} {e : ℕ} {temp : ℕ} {alarm : ℕ} {power : ℕ} (hm : Within 0x1d7000000000000000010700000000000000000189a00040602 M) (h0 : Kept M s0 s) :
    Kept M s0 (State.laserPoll s e temp alarm power) := by
  unfold State.laserPoll
  refine kept_ite ?_ ?_
  · exact h0
  · extract_lets -underBinder +onlyGivenNames v20
    (clear_value v20; revert v20; refine Kept.seal ?_; intro v20)
    extract_lets -underBinder +onlyGivenNames v21
    have h22 : Kept M s0 v21 := by
      unfold v21
      refine kept_setOptic (hm.sub rfl) ?_
      exact h0
    (clear_value v21; revert v21; refine Kept.seal ?_; intro v21 h22)
    extract_lets -underBinder +onlyGivenNames v23
    have h24 : Kept M s0 v23 := by
      unfold v23
      refine Kept.setF (hm.bit 1 rfl) (reach_OPT_RXPWR (hm.bit 199 rfl)) ?_
      exact h22
    (clear_value v23; revert v23; refine Kept.seal ?_; intro v23 h24)
    refine kept_ite ?_ ?_
    · exact h24
    · extract_lets -underBinder +onlyGivenNames v25
      have h26 : Kept M s0 v25 := by
        unfold v25
        refine kept_emit (hm.sub rfl) ?_
        exact h24
      (clear_value v25; revert v25; refine Kept.seal ?_; intro v25 h26)
      extract_lets -underBinder +onlyGivenNames v27
      (clear_value v27; revert v27; refine Kept.seal ?_; intro v27)
      extract_lets -underBinder +onlyGivenNames v28
      have h29 : Kept M s0 v28 := by
        unfold v28
        refine Kept.setF (hm.bit 1 rfl) (reach_OPT_LASER (hm.bit 198 rfl)) ?_
        refine Kept.setF (hm.bit 1 rfl) (reach_OPT_LASER (hm.bit 198 rfl)) ?_
        exact h26
      (clear_value v28; revert v28; refine Kept.seal ?_; intro v28 h29)
      extract_lets -underBinder +onlyGivenNames v30
      have h31 : Kept M s0 v30 := by
        unfold v30
        refine kept_ite ?_ ?_
        · refine kept_ledger (hm.sub rfl) ?_
          exact h29
        · exact h29
      (clear_value v30; revert v30; refine Kept.seal ?_; intro v30 h31)
      refine kept_ite ?_ ?_
      · exact h31
      · refine kept_retrainPort (hm.sub rfl) ?_
        exact h31

theorem kept_laserPresent {s : State} {e : ℕ} {there : Bool} (hm : Within 0x157000000000000000010700000000000000000189a00040602 M) (h0 : Kept M s0 s) :
    Kept M s0 (State.laserPresent s e there) := by
  unfold State.laserPresent
  refine kept_ite ?_ ?_
  · exact h0
  · extract_lets -underBinder +onlyGivenNames v20
    have h21 : Kept M s0 v20 := by
      unfold v20
      refine Kept.setF (hm.bit 1 rfl) (reach_OPT_LASER (hm.bit 198 rfl)) ?_
      exact h0
    (clear_value v20; revert v20; refine Kept.seal ?_; intro v20 h21)
    refine kept_ite ?_ ?_
    · refine kept_ite ?_ ?_
      · exact h21
      · refine kept_lasers (hm.sub rfl) ?_
        exact h21
    · refine kept_retrainPort (hm.sub rfl) ?_
      refine kept_ledger (hm.sub rfl) ?_
      refine kept_lasers (hm.sub rfl) ?_
      exact h21

theorem kept_laserEnable {s : State} {e : ℕ} {on : Bool} (hm : Within 0x157a00000000000000010700000000000000000189a00040e02 M) (h0 : Kept M s0 s) :
    Kept M s0 (State.laserEnable s e on) := by
  unfold State.laserEnable
  extract_lets -underBinder +onlyGivenNames v20
  have h21 : Kept M s0 v20 := by
    unfold v20
    refine Kept.setF (hm.bit 1 rfl) (reach_OPT_LASER (hm.bit 198 rfl)) ?_
    exact h0
  (clear_value v20; revert v20; refine Kept.seal ?_; intro v20 h21)
  refine kept_ite ?_ ?_
  · refine kept_portOff (hm.sub rfl) ?_
    exact h21
  · refine kept_ite ?_ ?_
    · refine kept_newAttempt (hm.sub rfl) ?_
      exact h21
    · exact h21

theorem kept_laserReset {s : State} {e : ℕ} (hm : Within 0x151000000000000000000000000000000000000180000000602 M) (h0 : Kept M s0 s) :
    Kept M s0 (State.laserReset s e) := by
  unfold State.laserReset
  extract_lets -underBinder +onlyGivenNames v20
  have h21 : Kept M s0 v20 := by
    unfold v20
    refine kept_ite ?_ ?_
    · refine kept_emit (hm.sub rfl) ?_
      exact h0
    · exact h0
  (clear_value v20; revert v20; refine Kept.seal ?_; intro v20 h21)
  refine kept_ite ?_ ?_
  · refine kept_retrainPort (hm.sub rfl) ?_
    refine Kept.setF (hm.bit 1 rfl) (reach_OPT_LASER (hm.bit 198 rfl)) ?_
    exact h21
  · exact h21

theorem kept_execTrainingBlockRx {e : Fin 18} {lane : Fin 8} {block : Bytes} {s : State} (hm : Within 0x10000000000000000000000000000000000000180000000402 M) (h0 : Kept M s0 s) :
    KeptE M s0 (execTrainingBlockRx e lane block s) := by
  unfold execTrainingBlockRx
  refine kepte_next ?_
  refine kept_trainBlock (hm.sub rfl) ?_
  exact h0

theorem kept_execTrainLaser {e : Fin 18} {s : State} (hm : Within 0x10000000000000000000000000000000000000180000000402 M) (h0 : Kept M s0 s) :
    KeptE M s0 (execTrainLaser e s) := by
  unfold execTrainLaser
  refine kepte_next ?_
  refine kept_ite ?_ ?_
  · refine kept_nextStep (hm.sub rfl) ?_
    exact h0
  · exact h0

theorem kept_execTrainSignal {e : Fin 18} {locked : Byte} {s : State} (hm : Within 0x10000000000000000000000000000000000000180000000402 M) (h0 : Kept M s0 s) :
    KeptE M s0 (execTrainSignal e locked s) := by
  unfold execTrainSignal
  refine kepte_next ?_
  refine kept_trainSignal (hm.sub rfl) ?_
  exact h0

theorem kept_execTrainEqualise {e : Fin 18} {s : State} (hm : Within 0x10000000000000000000000000000000000000180000000402 M) (h0 : Kept M s0 s) :
    KeptE M s0 (execTrainEqualise e s) := by
  unfold execTrainEqualise
  refine kepte_next ?_
  refine kept_trainEqualise (hm.sub rfl) ?_
  exact h0

theorem kept_execTrainMap {e : Fin 18} {s : State} (hm : Within 0x57a00000000000000010700000000000000000189a00040e02 M) (h0 : Kept M s0 s) :
    KeptE M s0 (execTrainMap e s) := by
  unfold execTrainMap
  refine kepte_next ?_
  refine kept_trainMap (hm.sub rfl) ?_
  exact h0

theorem kept_execTrainVerify {e : Fin 18} {failed : List ℕ} {s : State} (hm : Within 0x10000000000000000000000000000000000000180000000402 M) (h0 : Kept M s0 s) :
    KeptE M s0 (execTrainVerify e failed s) := by
  unfold execTrainVerify
  refine kepte_next ?_
  refine kept_trainVerify (hm.sub rfl) ?_
  exact h0

theorem kept_execTrainWidth {e : Fin 18} {s : State} (hm : Within 0x77a00000000000000010700000000000000000189a00040e02 M) (h0 : Kept M s0 s) :
    KeptE M s0 (execTrainWidth e s) := by
  unfold execTrainWidth
  refine kepte_next ?_
  refine kept_trainWidth (hm.sub rfl) ?_
  exact h0

theorem kept_execTrainStepLimit {e : Fin 18} {s : State} (hm : Within 0x57a00000000000000010700000000000000000109a00040e02 M) (h0 : Kept M s0 s) :
    KeptE M s0 (execTrainStepLimit e s) := by
  unfold execTrainStepLimit
  refine kepte_next ?_
  refine kept_stepOver (hm.sub rfl) ?_
  exact h0

theorem kept_execTrainAttemptTimeout {e : Fin 18} {s : State} (hm : Within 0x57a00000000000000010700000000000000000109a00040e02 M) (h0 : Kept M s0 s) :
    KeptE M s0 (execTrainAttemptTimeout e s) := by
  unfold execTrainAttemptTimeout
  refine kepte_next ?_
  refine kept_attemptOver (hm.sub rfl) ?_
  exact h0

theorem kept_execTrainRetry {e : Fin 18} {s : State} (hm : Within 0x151000000000000000000000000000000000000180000000402 M) (h0 : Kept M s0 s) :
    KeptE M s0 (execTrainRetry e s) := by
  unfold execTrainRetry
  refine kepte_next ?_
  refine kept_trainRetry (hm.sub rfl) ?_
  exact h0

theorem kept_execLaserPoll {e : Fin 18} {temp : W16} {alarm : Byte} {power : W64} {s : State} (hm : Within 0x1d7000000000000000010700000000000000000189a00040602 M) (h0 : Kept M s0 s) :
    KeptE M s0 (execLaserPoll e temp alarm power s) := by
  unfold execLaserPoll
  refine kepte_next ?_
  refine kept_laserPoll (hm.sub rfl) ?_
  exact h0

theorem kept_execLaserPresentChange {e : Fin 18} {there : Bool} {s : State} (hm : Within 0x157000000000000000010700000000000000000189a00040602 M) (h0 : Kept M s0 s) :
    KeptE M s0 (execLaserPresentChange e there s) := by
  unfold execLaserPresentChange
  refine kepte_next ?_
  refine kept_laserPresent (hm.sub rfl) ?_
  exact h0

theorem kept_execLaserReset {e : Fin 18} {s : State} (hm : Within 0x151000000000000000000000000000000000000180000000602 M) (h0 : Kept M s0 s) :
    KeptE M s0 (execLaserReset e s) := by
  unfold execLaserReset
  refine kepte_next ?_
  refine kept_laserReset (hm.sub rfl) ?_
  exact h0

theorem kept_execOptLaserEnable {e : Fin 18} {on : Bool} {s : State} (hm : Within 0x157a00000000000000010700000000000000000189a00040e02 M) (h0 : Kept M s0 s) :
    KeptE M s0 (execOptLaserEnable e on s) := by
  unfold execOptLaserEnable
  refine kepte_next ?_
  refine kept_laserEnable (hm.sub rfl) ?_
  exact h0

end Sys2Proof.Machine
end

