-- ==== Sys2Proof/Laws/Kept/Silent.lean ====
section
/-! SUPPORT. What the operations of Silent may write: each keeps its footprint. -/

namespace Sys2Proof.Machine

variable {M : Nat} {s0 : State}

theorem kept_setSel {s : State} {n : ℕ} {v : ℕ} (hm : Within 0x8000000 M) (h0 : Kept M s0 s) :
    Kept M s0 (State.setSel s n v) := by
  unfold State.setSel
  refine Kept.in_silent (hm.bit 27 rfl) ?_ (Sparse.wf_put) (Kept.seal)
  exact h0

theorem kept_setSh {s : State} {n : ℕ} {v : ℕ} (hm : Within 0x8000000 M) (h0 : Kept M s0 s) :
    Kept M s0 (State.setSh s n v) := by
  unfold State.setSh
  refine Kept.in_silent (hm.bit 27 rfl) ?_ (Kept.seal) (Sparse.wf_put)
  exact h0

theorem kept_postShadow {s : State} {n : ℕ} {m : ℕ} {fromDq : Bool} {x : Fetched} {diag : Option ℕ} {code : KCode} (hm : Within 0x9002000 M) (h0 : Kept M s0 s) :
    Kept M s0 (State.postShadow s n m fromDq x diag code) := by
  unfold State.postShadow
  extract_lets -underBinder +onlyGivenNames v20
  (clear_value v20; revert v20; refine Kept.seal ?_; intro v20)
  extract_lets -underBinder +onlyGivenNames v21
  have h22 : Kept M s0 v21 := by
    unfold v21
    refine kept_setCore (hm.sub rfl) ?_
    exact h0
  (clear_value v21; revert v21; refine Kept.seal ?_; intro v21 h22)
  refine Kept.in_nextId (x := { v21 with silent := have __src := v21.silent;
{ sel := __src.sel, sh := __src.sh, shadows := v21.silent.shadows ++ [{ core := n, uid := x.uid, shadow := m, fromDq := fromDq, postedAt := v21.count, taken := Bool.false, checked := Bool.true, diag := diag, laneAgain := Bool.false, captured := Bool.false, passCrc := Option.none, startedAt := 0, code := code }], tests := __src.tests, bodies := __src.bodies, quarFull := __src.quarFull, unshadowed := __src.unshadowed } }) (hm.bit 13 rfl) ?_ (Nat.le_succ _)
  refine Kept.in_silent (hm.bit 27 rfl) ?_ (Kept.seal) (Kept.seal)
  exact h22

theorem kept_takeTurn {s : State} {n : ℕ} {fromDq : Bool} {x : Fetched} {code : KCode} (hm : Within 0x108220000049a50002000000000007208020207000000190700060002200000000109a191e2bfe M) (h0 : Kept M s0 s) :
    Kept M s0 (State.takeTurn s n fromDq x code) := by
  unfold State.takeTurn
  refine kept_ite ?_ ?_
  · refine kept_launch (hm.sub rfl) ?_
    refine Kept.in_silent (hm.bit 27 rfl) ?_ (Kept.seal) (Kept.seal)
    exact h0
  · (generalize q21 : (s.diagFor n x) = x20; revert x20; refine Kept.seal ?_; intro x20 q21)
    split
    · rename_i w22 w23
      extract_lets -underBinder +onlyGivenNames v24
      (clear_value v24; revert v24; refine Kept.seal ?_; intro v24)
      refine kept_ite ?_ ?_
      · refine kept_launch (hm.sub rfl) ?_
        refine kept_diagResult (hm.sub rfl) ?_
        exact h0
      · refine kept_postShadow (hm.sub rfl) ?_
        exact h0
    · rename_i w25
      refine kept_ite ?_ ?_
      · refine kept_launch (hm.sub rfl) ?_
        exact h0
      · extract_lets -underBinder +onlyGivenNames v26
        (clear_value v26; revert v26; refine Kept.seal ?_; intro v26)
        extract_lets -underBinder +onlyGivenNames v27
        have h28 : Kept M s0 v27 := by
          unfold v27
          refine kept_setSel (hm.sub rfl) ?_
          exact h0
        (clear_value v27; revert v27; refine Kept.seal ?_; intro v27 h28)
        extract_lets -underBinder +onlyGivenNames v29
        (clear_value v29; revert v29; refine Kept.seal ?_; intro v29)
        refine kept_ite ?_ ?_
        · refine kept_launch (hm.sub rfl) ?_
          exact h28
        · (generalize q31 : (v27.pickShadow n) = x30; revert x30; refine Kept.seal ?_; intro x30 q31)
          split
          · rename_i w32
            refine kept_launch (hm.sub rfl) ?_
            refine Kept.addF (hm.bit 1 rfl) (reach_TST_SHADOW_SKIPPED (hm.bit 297 rfl)) ?_
            exact h28
          · rename_i w33 w34 w35
            refine kept_postShadow (hm.sub rfl) ?_
            refine kept_setSh (hm.sub rfl) ?_
            exact h28

theorem kept_kernelStart {s : State} {n : ℕ} {code : KCode} {ecc : List (Bool × Fin 8)} (hm : Within 0x108220000049a50002000000000007208020207000000190700060002200000000109a191e2bfe M) (h0 : Kept M s0 s) :
    Kept M s0 (State.kernelStart s n code ecc) := by
  unfold State.kernelStart
  refine kept_ite ?_ ?_
  · exact h0
  · extract_lets -underBinder +onlyGivenNames v20
    have h21 : Kept M s0 v20 := by
      unfold v20
      refine kept_eccFound (hm.sub rfl) ?_
      exact h0
    (clear_value v20; revert v20; refine Kept.seal ?_; intro v20 h21)
    (generalize q23 : (v20.shadowOf n) = x22; revert x22; refine Kept.seal ?_; intro x22 q23)
    split
    · rename_i w24 w25
      refine kept_ite ?_ ?_
      · exact h21
      · refine kept_ite ?_ ?_
        · refine kept_wakeCore (hm.sub rfl) ?_
          exact h21
        · refine kept_launchWaiting (hm.sub rfl) ?_
          exact h21
    · rename_i w26
      (generalize q28 : (v20.turn n) = x27; revert x27; refine Kept.seal ?_; intro x27 q28)
      split
      · rename_i w29
        exact h21
      · rename_i w30 w31 w32
        refine kept_ite ?_ ?_
        · exact h21
        · refine kept_ite ?_ ?_
          · refine kept_wakeCore (hm.sub rfl) ?_
            exact h21
          · refine kept_ite ?_ ?_
            · exact h21
            · refine kept_takeTurn (hm.sub rfl) ?_
              exact h21

theorem kept_shadowTaken {s : State} {m : ℕ} (hm : Within 0x108120000049a50002000000000007208020207000000190700060002200000000109a191e0bfe M) (h0 : Kept M s0 s) :
    Kept M s0 (State.shadowTaken s m) := by
  unfold State.shadowTaken
  refine kept_ite ?_ ?_
  · exact h0
  · refine kept_ite ?_ ?_
    · refine kept_wakeCore (hm.sub rfl) ?_
      exact h0
    · (generalize q21 : ((s.core m).shadowHead) = x20; revert x20; refine Kept.seal ?_; intro x20 q21)
      split
      · rename_i w22
        exact h0
      · rename_i w23 w24 w25
        (generalize q27 : (s.shadowOf w24) = x26; revert x26; refine Kept.seal ?_; intro x26 q27)
        split
        · rename_i w28
          refine kept_setCore (hm.sub rfl) ?_
          exact h0
        · rename_i w29 w30
          extract_lets -underBinder +onlyGivenNames v31
          have h32 : Kept M s0 v31 := by
            unfold v31
            refine kept_setCore (hm.sub rfl) ?_
            exact h0
          (clear_value v31; revert v31; refine Kept.seal ?_; intro v31 h32)
          extract_lets -underBinder +onlyGivenNames v33
          (clear_value v33; revert v33; refine Kept.seal ?_; intro v33)
          refine kept_launchWaiting (hm.sub rfl) ?_
          refine Kept.addF (hm.bit 1 rfl) (reach_TST_SHADOWED (hm.bit 296 rfl)) ?_
          refine kept_setShadow (hm.sub rfl) ?_
          exact h32

theorem kept_shadowTimeout {s : State} {n : ℕ} (hm : Within 0x108220000049a50002000000000007208020207000000190700060002200000000109a191e0bfe M) (h0 : Kept M s0 s) :
    Kept M s0 (State.shadowTimeout s n) := by
  unfold State.shadowTimeout
  (generalize q21 : (s.shadowOf n) = x20; revert x20; refine Kept.seal ?_; intro x20 q21)
  split
  · rename_i w22
    exact h0
  · rename_i w23 w24
    refine kept_ite ?_ ?_
    · exact h0
    · refine kept_launchWaiting (hm.sub rfl) ?_
      refine Kept.addF (hm.bit 1 rfl) (reach_TST_SHADOW_SKIPPED (hm.bit 297 rfl)) ?_
      refine kept_shadowEnd (hm.sub rfl) ?_
      exact h0

theorem kept_laneFail {s : State} {n : ℕ} {r : Running} {b : BlockRun} {lane : Bool × ℕ} {cut : KernelCut} (hm : Within 0x17943000004924000200000000000720902020700c000191701c00002200000000189a59de0bfe M) (h0 : Kept M s0 s) :
    Kept M s0 (State.laneFail s n r b lane cut) := by
  unfold State.laneFail
  extract_lets -underBinder +onlyGivenNames v20
  (clear_value v20; revert v20; refine Kept.seal ?_; intro v20)
  extract_lets -underBinder +onlyGivenNames v21
  (clear_value v21; revert v21; refine Kept.seal ?_; intro v21)
  extract_lets -underBinder +onlyGivenNames v22
  have h23 : Kept M s0 v22 := by
    unfold v22
    refine kept_ledger (hm.sub rfl) ?_
    exact h0
  (clear_value v22; revert v22; refine Kept.seal ?_; intro v22 h23)
  extract_lets -underBinder +onlyGivenNames v24
  (clear_value v24; revert v24; refine Kept.seal ?_; intro v24)
  extract_lets -underBinder +onlyGivenNames v25
  have h26 : Kept M s0 v25 := by
    unfold v25
    refine kept_capture (hm.sub rfl) ?_
    exact h23
  (clear_value v25; revert v25; refine Kept.seal ?_; intro v25 h26)
  extract_lets -underBinder +onlyGivenNames v27
  have h28 : Kept M s0 v27 := by
    unfold v27
    refine Kept.addF (hm.bit 1 rfl) (reach_TST_MISMATCHES (hm.bit 298 rfl)) ?_
    refine kept_markSuspect (hm.sub rfl) ?_
    refine KeptP.st ?_
    refine kept_openSuspect (hm.sub rfl) ?_
    exact h26
  (clear_value v27; revert v27; refine Kept.seal ?_; intro v27 h28)
  extract_lets -underBinder +onlyGivenNames v29
  have h30 : Kept M s0 v29 := by
    unfold v29
    (generalize q32 : (v27.shadowOf n) = x31; revert x31; refine Kept.seal ?_; intro x31 q32)
    split
    · rename_i w33 w34
      (generalize q36 : (w34.diag) = x35; revert x35; refine Kept.seal ?_; intro x35 q36)
      split
      · rename_i w37 w38
        refine kept_ite ?_ ?_
        · refine kept_diagResult (hm.sub rfl) ?_
          exact h28
        · exact h28
      · rename_i w39
        exact h28
    · rename_i w40
      exact h28
  (clear_value v29; revert v29; refine Kept.seal ?_; intro v29 h30)
  refine kept_abortKernel (hm.sub rfl) ?_
  exact h30

theorem kept_shadowLaneFail {s : State} {x : Shadow} {r : Running} {pass : ℕ} {block : ℕ} (hm : Within 0x178c20000049a50002000000000007208020207000000190700060002200000000109a191e0bfe M) (h0 : Kept M s0 s) :
    Kept M s0 (State.shadowLaneFail s x r pass block) := by
  unfold State.shadowLaneFail
  extract_lets -underBinder +onlyGivenNames v20
  have h21 : Kept M s0 v20 := by
    unfold v20
    refine Kept.addF (hm.bit 1 rfl) (reach_TST_MISMATCHES (hm.bit 298 rfl)) ?_
    refine kept_markSuspect (hm.sub rfl) ?_
    refine KeptP.st ?_
    refine kept_openSuspect (hm.sub rfl) ?_
    exact h0
  (clear_value v20; revert v20; refine Kept.seal ?_; intro v20 h21)
  refine kept_uncheck (hm.sub rfl) ?_
  exact h21

theorem kept_addBlock {s : State} {n : ℕ} {r : Running} {t : ElemType} {a : BlockSide} {b : BlockSide} {v : BlockVals} (hm : Within 0x3000000 M) (h0 : Kept M s0 s) :
    Kept M s0 (State.addBlock s n r t a b v) := by
  unfold State.addBlock
  extract_lets -underBinder +onlyGivenNames v20
  (clear_value v20; revert v20; refine Kept.seal ?_; intro v20)
  extract_lets -underBinder +onlyGivenNames v21
  (clear_value v21; revert v21; refine Kept.seal ?_; intro v21)
  extract_lets -underBinder +onlyGivenNames v22
  have h23 : Kept M s0 v22 := by
    unfold v22
    refine kept_forEach ?_ ?_
    · intro y24 y25 h26
      extract_lets -underBinder +onlyGivenNames v27
      have h28 : Kept M s0 v27 := by
        unfold v27
        refine kept_setAcc (hm.sub rfl) ?_
        exact h26
      (clear_value v27; revert v27; refine Kept.seal ?_; intro v27 h28)
      refine kept_ite ?_ ?_
      · refine kept_spoilAcc (hm.sub rfl) ?_
        exact h28
      · exact h28
    · exact h0
  (clear_value v22; revert v22; refine Kept.seal ?_; intro v22 h23)
  refine kept_setRunning (hm.sub rfl) ?_
  exact h23

theorem kept_shadowBlock {s : State} {n : ℕ} {r : Running} {b : BlockRun} {bad : Bool} (hm : Within 0x179c30000049a50002000000000007208020207000000190700060002200000000109a191e0bfe M) (h0 : Kept M s0 s) :
    Kept M s0 (State.shadowBlock s n r b bad) := by
  unfold State.shadowBlock
  (generalize q21 : (s.shadowOf n) = x20; revert x20; refine Kept.seal ?_; intro x20 q21)
  split
  · rename_i w22
    exact h0
  · rename_i w23 w24
    extract_lets -underBinder +onlyGivenNames v25
    have h26 : Kept M s0 v25 := by
      unfold v25
      (generalize q28 : (w24.diag) = x27; revert x27; refine Kept.seal ?_; intro x27 q28)
      (generalize q30 : (b.third) = x29; revert x29; refine Kept.seal ?_; intro x29 q30)
      split
      · rename_i w31 w32 w33 w34
        refine kept_ite ?_ ?_
        · refine kept_setShadow (hm.sub rfl) ?_
          refine kept_capture (hm.sub rfl) ?_
          exact h0
        · exact h0
      · rename_i w35 w36 w37
        exact h0
    (clear_value v25; revert v25; refine Kept.seal ?_; intro v25 h26)
    refine kept_ite ?_ ?_
    · refine kept_shadowLaneFail (hm.sub rfl) ?_
      exact h26
    · exact h26

theorem kept_kBlockEnd {b0 : State} {cut : KernelCut} {q : BlockEnd} (hm : Within 0x179c30000049a5000200000000000720902020700c000197701c60002200000000189a5bde0bfe M) (h0 : Kept M s0 b0) :
    Kept M s0 (State.kBlockEnd b0 cut q) := by
  unfold State.kBlockEnd
  extract_lets -underBinder +onlyGivenNames v20
  (clear_value v20; revert v20; refine Kept.seal ?_; intro v20)
  (generalize q22 : (b0.faultedKernel v20) = x21; revert x21; refine Kept.seal ?_; intro x21 q22)
  split
  · rename_i w23
    exact h0
  · rename_i w24 w25
    (generalize q27 : (w25.pair q.types) = x26; revert x26; refine Kept.seal ?_; intro x26 q27)
    split
    · rename_i w28
      exact h0
    · rename_i w29 w30 w31
      extract_lets -underBinder +onlyGivenNames v32
      have h33 : KeptLP M s0 v32 := by
        unfold v32
        refine kept_loads_side (hm.sub rfl) ?_
        refine Kept.loads ?_
        exact h0
      (clear_value v32; revert v32; refine Kept.seal ?_; intro v32 h33)
      extract_lets -underBinder +onlyGivenNames v34
      have h35 : KeptLP M s0 v34 := by
        unfold v34
        refine kept_loads_side (hm.sub rfl) ?_
        exact (KeptLP.st h33)
      (clear_value v34; revert v34; refine Kept.seal ?_; intro v34 h35)
      extract_lets -underBinder +onlyGivenNames v36
      have h37 : KeptLoads M s0 v36 := by
        unfold v36
        refine keptLoads_ite ?_ ?_
        · refine kept_loads_accs (hm.sub rfl) ?_
          exact (KeptLP.st h35)
        · exact (KeptLP.st h35)
      (clear_value v36; revert v36; refine Kept.seal ?_; intro v36 h37)
      refine kept_ite ?_ ?_
      · refine kept_retry (hm.sub rfl) ?_ ?_
        · exact h0
        · refine kept_loads_settle (hm.sub rfl) ?_
          exact h37
      · extract_lets -underBinder +onlyGivenNames v38
        (clear_value v38; revert v38; refine Kept.seal ?_; intro v38)
        extract_lets -underBinder +onlyGivenNames v39
        (clear_value v39; revert v39; refine Kept.seal ?_; intro v39)
        extract_lets -underBinder +onlyGivenNames v40
        (clear_value v40; revert v40; refine Kept.seal ?_; intro v40)
        extract_lets -underBinder +onlyGivenNames v41
        (clear_value v41; revert v41; refine Kept.seal ?_; intro v41)
        extract_lets -underBinder +onlyGivenNames v42
        (clear_value v42; revert v42; refine Kept.seal ?_; intro v42)
        extract_lets -underBinder +onlyGivenNames v43
        (clear_value v43; revert v43; refine Kept.seal ?_; intro v43)
        extract_lets -underBinder +onlyGivenNames v44
        (clear_value v44; revert v44; refine Kept.seal ?_; intro v44)
        extract_lets -underBinder +onlyGivenNames v45
        (clear_value v45; revert v45; refine Kept.seal ?_; intro v45)
        (generalize q47 : (Sys2Proof.Machine.laneCheck (w30.fmt == Sys2Proof.Machine.NumFmt.bf16) v40 v41 v43) = x46; revert x46; refine Kept.seal ?_; intro x46 q47)
        split
        · rename_i w48 w49
          refine kept_laneFail (hm.sub rfl) ?_
          exact (KeptLoads.st (KeptLP.st h35))
        · rename_i w50
          refine kept_ite ?_ ?_
          · exact h0
          · extract_lets -underBinder +onlyGivenNames v51
            have h52 : KeptP M s0 v51 := by
              unfold v51
              refine kept_kernelPoison (hm.sub rfl) ?_
              exact (KeptLoads.st h37)
            (clear_value v51; revert v51; refine Kept.seal ?_; intro v51 h52)
            refine kept_shadowBlock (hm.sub rfl) ?_
            refine kept_addBlock (hm.sub rfl) ?_
            exact (KeptP.st h52)

theorem kept_lastCompared {s : State} {n : ℕ} {m : ℕ} (hm : Within 0x200000000000000000000000000000000000000000000000000000000000000000000000000002 M) (h0 : Kept M s0 s) :
    Kept M s0 (State.lastCompared s n m) := by
  unfold State.lastCompared
  refine Kept.setF (hm.bit 1 rfl) (reach_TST_CORE_LAST (hm.bit 309 rfl)) ?_
  refine Kept.setF (hm.bit 1 rfl) (reach_TST_CORE_LAST (hm.bit 309 rfl)) ?_
  exact h0

theorem kept_passCompare {s : State} {cut : KernelCut} {pass : ℕ} {seen : Option (W32 × W32)} (hm : Within 0x37842000004924000200000000000720902020700c000191701c00002200000000189a59de0bfe M) (h0 : Kept M s0 s) :
    Kept M s0 (State.passCompare s cut pass seen) := by
  unfold State.passCompare
  extract_lets -underBinder +onlyGivenNames v20
  (clear_value v20; revert v20; refine Kept.seal ?_; intro v20)
  (generalize q22 : ((s.core v20).running) = x21; revert x21; refine Kept.seal ?_; intro x21 q22)
  (generalize q24 : (s.shadowOf v20) = x23; revert x23; refine Kept.seal ?_; intro x23 q24)
  split
  · rename_i w25 w26 w27 w28
    refine kept_ite ?_ ?_
    · exact h0
    · extract_lets -underBinder +onlyGivenNames v29
      (clear_value v29; revert v29; refine Kept.seal ?_; intro v29)
      extract_lets -underBinder +onlyGivenNames v30
      (clear_value v30; revert v30; refine Kept.seal ?_; intro v30)
      extract_lets -underBinder +onlyGivenNames v31
      (clear_value v31; revert v31; refine Kept.seal ?_; intro v31)
      refine kept_ite ?_ ?_
      · (generalize q33 : (w28.diag) = x32; revert x32; refine Kept.seal ?_; intro x32 q33)
        split
        · rename_i w34
          exact h0
        · rename_i w35 w36
          extract_lets -underBinder +onlyGivenNames v37
          (clear_value v37; revert v37; refine Kept.seal ?_; intro v37)
          extract_lets -underBinder +onlyGivenNames v38
          have h39 : Kept M s0 v38 := by
            unfold v38
            refine kept_diagResult (hm.sub rfl) ?_
            refine kept_setShadow (hm.sub rfl) ?_
            exact h0
          (clear_value v38; revert v38; refine Kept.seal ?_; intro v38 h39)
          refine kept_ite ?_ ?_
          · refine kept_abortKernel (hm.sub rfl) ?_
            exact h39
          · refine kept_ite ?_ ?_
            · refine kept_lastCompared (hm.sub rfl) ?_
              exact h39
            · exact h39
      · refine kept_ite ?_ ?_
        · extract_lets -underBinder +onlyGivenNames v40
          (clear_value v40; revert v40; refine Kept.seal ?_; intro v40)
          extract_lets -underBinder +onlyGivenNames v41
          have h42 : Kept M s0 v41 := by
            unfold v41
            refine kept_ledger (hm.sub rfl) ?_
            exact h0
          (clear_value v41; revert v41; refine Kept.seal ?_; intro v41 h42)
          extract_lets -underBinder +onlyGivenNames v43
          have h44 : Kept M s0 v43 := by
            unfold v43
            refine KeptP.st ?_
            refine kept_openSuspect (hm.sub rfl) ?_
            exact h42
          extract_lets -underBinder +onlyGivenNames v45
          have h46 : Kept M s0 v45 := by
            unfold v45
            refine Kept.addF (hm.bit 1 rfl) (reach_TST_MISMATCHES (hm.bit 298 rfl)) ?_
            refine kept_markSuspect (hm.sub rfl) ?_
            refine kept_markSuspect (hm.sub rfl) ?_
            exact h44
          (clear_value v45; revert v45; refine Kept.seal ?_; intro v45 h46)
          refine kept_abortKernel (hm.sub rfl) ?_
          exact h46
        · refine kept_lastCompared (hm.sub rfl) ?_
          exact h0
  · rename_i w47 w48 w49
    exact h0

theorem kept_passEnd {s : State} {cut : KernelCut} {pass : ℕ} {seen : Option (W32 × W32)} {code : List KStep} (hm : Within 0x37842000004924000200000000000720902020708c000197701c60002200000000189b5dde0bfe M) (h0 : Kept M s0 s) :
    Kept M s0 (State.passEnd s cut pass seen code) := by
  unfold State.passEnd
  extract_lets -underBinder +onlyGivenNames v20
  (clear_value v20; revert v20; refine Kept.seal ?_; intro v20)
  extract_lets -underBinder +onlyGivenNames v21
  have h22 : Kept M s0 v21 := by
    unfold v21
    refine kept_passCompare (hm.sub rfl) ?_
    exact h0
  (clear_value v21; revert v21; refine Kept.seal ?_; intro v21 h22)
  (generalize q24 : ((v21.core v20).running) = x23; revert x23; refine Kept.seal ?_; intro x23 q24)
  split
  · rename_i w25 w26
    refine kept_codeEnds (hm.sub rfl) ?_ ?_
    · exact h0
    · refine kept_runCode (hm.sub rfl) ?_
      exact h22
  · rename_i w27
    exact h22

theorem kept_diagArm {s : State} {entry : ℕ} {core : ℕ} {shadow : ℕ} (hm : Within 0x20000000000000000000000000000000000000000000000000000000000000000000000002 M) (h0 : Kept M s0 s) :
    Kept M s0 (State.diagArm s entry core shadow) := by
  unfold State.diagArm
  extract_lets -underBinder +onlyGivenNames v20
  (clear_value v20; revert v20; refine Kept.seal ?_; intro v20)
  extract_lets -underBinder +onlyGivenNames v21
  (clear_value v21; revert v21; refine Kept.seal ?_; intro v21)
  extract_lets -underBinder +onlyGivenNames v22
  (clear_value v22; revert v22; refine Kept.seal ?_; intro v22)
  extract_lets -underBinder +onlyGivenNames v23
  have h24 : Kept M s0 v23 := by
    unfold v23
    refine Kept.setF (hm.bit 1 rfl) (reach_TST_DIAG_CTL (hm.bit 293 rfl)) ?_
    refine Kept.setF (hm.bit 1 rfl) (reach_TST_DIAG_CTL (hm.bit 293 rfl)) ?_
    refine Kept.setF (hm.bit 1 rfl) (reach_TST_DIAG_CTL (hm.bit 293 rfl)) ?_
    exact h0
  (clear_value v23; revert v23; refine Kept.seal ?_; intro v23 h24)
  refine kept_ite ?_ ?_
  · refine Kept.setF (hm.bit 1 rfl) (reach_TST_DIAG_CTL (hm.bit 293 rfl)) ?_
    exact h24
  · refine Kept.setF (hm.bit 1 rfl) (reach_TST_DIAG_CTL (hm.bit 293 rfl)) ?_
    exact h24

theorem kept_shelfLoad {s : State} (hm : Within 0x80000000000000000000000000000000000000000000000000000000000000000000000002 M) (h0 : Kept M s0 s) :
    Kept M s0 (State.shelfLoad s) := by
  unfold State.shelfLoad
  refine Kept.setF (hm.bit 1 rfl) (reach_TST_SHELF_CTL (hm.bit 295 rfl)) ?_
  exact h0

theorem kept_shelfWrite {s : State} {pages : List ℕ} {body : Bytes} {places : List VPlace} (hm : Within 0x1000000000000000000000000000000000000000100002 M) (h0 : Kept M s0 s) :
    Kept M s0 (State.shelfWrite s pages body places) := by
  unfold State.shelfWrite
  refine kept_forEach ?_ ?_
  · intro y20 y21 h22
    (generalize q24 : (y20.writeVault (512 * pages.getD (y21 / 512) 0 + y21 % 512) (Sys2Proof.slice body (4096 * y21) 4096) [] places) = x23; revert x23; refine Kept.seal ?_; intro x23 q24)
    have h25 : KeptQ M s0 x23 := by
      rw [← q24]
      refine kept_writeVault (hm.sub rfl) ?_
      exact h22
    split
    · rename_i w26 w27
      exact (KeptP.st (KeptQ.get rfl h25))
    · rename_i w28
      exact h22
  · exact h0

theorem kept_shelfLoadDone {s : State} {env : VaultEnv} (hm : Within 0x608000000000000000000000000700902020700c000191700000000000000000189a08de027e M) (h0 : Kept M s0 s) :
    Kept M s0 (State.shelfLoadDone s env) := by
  unfold State.shelfLoadDone
  refine kept_ite ?_ ?_
  · exact h0
  · extract_lets -underBinder +onlyGivenNames v20
    (clear_value v20; revert v20; refine Kept.seal ?_; intro v20)
    extract_lets -underBinder +onlyGivenNames v21
    have h22 : KeptP M s0 v21 := by
      unfold v21
      refine kept_readAny (hm.sub rfl) ?_
      exact h0
    (clear_value v21; revert v21; refine Kept.seal ?_; intro v21 h22)
    extract_lets -underBinder +onlyGivenNames v23
    (clear_value v23; revert v23; refine Kept.seal ?_; intro v23)
    extract_lets -underBinder +onlyGivenNames v24
    have h25 : KeptP M s0 v24 := by
      unfold v24
      refine kept_readAny (hm.sub rfl) ?_
      exact (KeptP.st h22)
    (clear_value v24; revert v24; refine Kept.seal ?_; intro v24 h25)
    refine kept_ite ?_ ?_
    · refine kept_readWaits (hm.sub rfl) ?_
      exact (KeptP.st h22)
    · refine kept_ite ?_ ?_
      · refine kept_readWaits (hm.sub rfl) ?_
        exact (KeptP.st h25)
      · extract_lets -underBinder +onlyGivenNames v26
        (clear_value v26; revert v26; refine Kept.seal ?_; intro v26)
        extract_lets -underBinder +onlyGivenNames v27
        have h28 : Kept M s0 v27 := by
          unfold v27
          refine Kept.setF (hm.bit 1 rfl) (reach_TST_SHELF_CTL (hm.bit 295 rfl)) ?_
          exact (KeptP.st h25)
        (clear_value v27; revert v27; refine Kept.seal ?_; intro v27 h28)
        extract_lets -underBinder +onlyGivenNames v29
        (clear_value v29; revert v29; refine Kept.seal ?_; intro v29)
        (generalize q31 : (v27.shelfCheck v26 v24.2.data) = x30; revert x30; refine Kept.seal ?_; intro x30 q31)
        split
        · rename_i w32 w33
          refine kept_ledger (hm.sub rfl) ?_
          refine Kept.setF (hm.bit 1 rfl) (reach_TST_SHELF_CTL (hm.bit 295 rfl)) ?_
          refine Kept.setF (hm.bit 1 rfl) (reach_TST_SHELF_CTL (hm.bit 295 rfl)) ?_
          exact h28
        · rename_i w34
          extract_lets -underBinder +onlyGivenNames v35
          (clear_value v35; revert v35; refine Kept.seal ?_; intro v35)
          extract_lets -underBinder +onlyGivenNames v36
          (clear_value v36; revert v36; refine Kept.seal ?_; intro v36)
          extract_lets -underBinder +onlyGivenNames v37
          have h38 : Kept M s0 v37 := by
            unfold v37
            refine kept_shelfWrite (hm.sub rfl) ?_
            exact h28
          (clear_value v37; revert v37; refine Kept.seal ?_; intro v37 h38)
          extract_lets -underBinder +onlyGivenNames v39
          (clear_value v39; revert v39; refine Kept.seal ?_; intro v39)
          extract_lets -underBinder +onlyGivenNames v40
          (clear_value v40; revert v40; refine Kept.seal ?_; intro v40)
          extract_lets -underBinder +onlyGivenNames v41
          extract_lets -underBinder +onlyGivenNames v42
          have h43 : Kept M s0 v42 := by
            unfold v42
            refine Kept.in_silent (hm.bit 27 rfl) ?_ (Kept.seal) (Kept.seal)
            exact h38
          (clear_value v42; revert v42; refine Kept.seal ?_; intro v42 h43)
          extract_lets -underBinder +onlyGivenNames v44
          have h45 : Kept M s0 v44 := by
            unfold v44
            refine Kept.setF (hm.bit 1 rfl) (reach_TST_SET (hm.bit 301 rfl)) ?_
            refine Kept.setF (hm.bit 1 rfl) (reach_TST_SET (hm.bit 301 rfl)) ?_
            exact h43
          (clear_value v44; revert v44; refine Kept.seal ?_; intro v44 h45)
          extract_lets -underBinder +onlyGivenNames v46
          have h47 : Kept M s0 v46 := by
            unfold v46
            refine Kept.setF (hm.bit 1 rfl) (reach_TST_SET_INFO (hm.bit 302 rfl)) ?_
            refine Kept.setF (hm.bit 1 rfl) (reach_TST_SET_INFO (hm.bit 302 rfl)) ?_
            exact h45
          (clear_value v46; revert v46; refine Kept.seal ?_; intro v46 h47)
          refine Kept.setF (hm.bit 1 rfl) (reach_TST_SHELF_CTL (hm.bit 295 rfl)) ?_
          refine Kept.setF (hm.bit 1 rfl) (reach_TST_SHELF_CTL (hm.bit 295 rfl)) ?_
          exact h47

theorem kept_testRequest {s : State} {n : ℕ} {set : ℕ} {after : ℕ} {evicted : Bool} (hm : Within 0x180000000000000000000000000000000000000000000000000000000000000000000008000002 M) (h0 : Kept M s0 s) :
    Kept M s0 (State.testRequest s n set after evicted) := by
  unfold State.testRequest
  refine kept_ite ?_ ?_
  · refine Kept.setF (hm.bit 1 rfl) (reach_TST_CORE_STS (hm.bit 308 rfl)) ?_
    exact h0
  · extract_lets -underBinder +onlyGivenNames v20
    have h21 : Kept M s0 v20 := by
      unfold v20
      refine Kept.setF (hm.bit 1 rfl) (reach_TST_CORE_CTL (hm.bit 307 rfl)) ?_
      refine Kept.setF (hm.bit 1 rfl) (reach_TST_CORE_CTL (hm.bit 307 rfl)) ?_
      refine Kept.setF (hm.bit 1 rfl) (reach_TST_CORE_CTL (hm.bit 307 rfl)) ?_
      exact h0
    (clear_value v20; revert v20; refine Kept.seal ?_; intro v20 h21)
    refine kept_ite ?_ ?_
    · refine Kept.setF (hm.bit 1 rfl) (reach_TST_CORE_STS (hm.bit 308 rfl)) ?_
      exact h21
    · extract_lets -underBinder +onlyGivenNames v22
      (clear_value v22; revert v22; refine Kept.seal ?_; intro v22)
      extract_lets -underBinder +onlyGivenNames v23
      (clear_value v23; revert v23; refine Kept.seal ?_; intro v23)
      extract_lets -underBinder +onlyGivenNames v24
      have h25 : Kept M s0 v24 := by
        unfold v24
        refine Kept.setF (hm.bit 1 rfl) (reach_TST_CORE_STS (hm.bit 308 rfl)) ?_
        refine Kept.setF (hm.bit 1 rfl) (reach_TST_CORE_STS (hm.bit 308 rfl)) ?_
        refine Kept.setF (hm.bit 1 rfl) (reach_TST_CORE_CTL (hm.bit 307 rfl)) ?_
        exact h21
      (clear_value v24; revert v24; refine Kept.seal ?_; intro v24 h25)
      refine Kept.in_silent (hm.bit 27 rfl) ?_ (Kept.seal) (Kept.seal)
      exact h25

theorem kept_dropTest {s : State} {n : ℕ} {outcome : ℕ} (hm : Within 0x180000000000000000000000000000000000000000000000000000000000000000000008000002 M) (h0 : Kept M s0 s) :
    Kept M s0 (State.dropTest s n outcome) := by
  unfold State.dropTest
  extract_lets -underBinder +onlyGivenNames v20
  extract_lets -underBinder +onlyGivenNames v21
  have h22 : Kept M s0 v21 := by
    unfold v21
    refine Kept.in_silent (hm.bit 27 rfl) ?_ (Kept.seal) (Kept.seal)
    exact h0
  (clear_value v21; revert v21; refine Kept.seal ?_; intro v21 h22)
  refine Kept.setF (hm.bit 1 rfl) (reach_TST_CORE_CTL (hm.bit 307 rfl)) ?_
  refine Kept.setF (hm.bit 1 rfl) (reach_TST_CORE_STS (hm.bit 308 rfl)) ?_
  refine Kept.setF (hm.bit 1 rfl) (reach_TST_CORE_STS (hm.bit 308 rfl)) ?_
  exact h22

theorem kept_testAbort {s : State} {n : ℕ} (hm : Within 0x180000000000000000000000000007200000000000000010700000000000000000109a08040a02 M) (h0 : Kept M s0 s) :
    Kept M s0 (State.testAbort s n) := by
  unfold State.testAbort
  (generalize q21 : (s.testOf n) = x20; revert x20; refine Kept.seal ?_; intro x20 q21)
  split
  · rename_i w22
    exact h0
  · rename_i w23 w24
    refine kept_ite ?_ ?_
    · exact h0
    · refine kept_testNotice (hm.sub rfl) ?_
      refine kept_dropTest (hm.sub rfl) ?_
      exact h0

theorem kept_testStart {s : State} {n : ℕ} (hm : Within 0x100000000000000000000000000000000000000000000000000000000000000000000009000002 M) (h0 : Kept M s0 s) :
    Kept M s0 (State.testStart s n) := by
  unfold State.testStart
  (generalize q21 : (s.testOf n) = x20; revert x20; refine Kept.seal ?_; intro x20 q21)
  split
  · rename_i w22
    exact h0
  · rename_i w23 w24
    extract_lets -underBinder +onlyGivenNames v25
    (clear_value v25; revert v25; refine Kept.seal ?_; intro v25)
    refine kept_ite ?_ ?_
    · exact h0
    · extract_lets -underBinder +onlyGivenNames v26
      (clear_value v26; revert v26; refine Kept.seal ?_; intro v26)
      extract_lets -underBinder +onlyGivenNames v27
      (clear_value v27; revert v27; refine Kept.seal ?_; intro v27)
      extract_lets -underBinder +onlyGivenNames v28
      (clear_value v28; revert v28; refine Kept.seal ?_; intro v28)
      extract_lets -underBinder +onlyGivenNames v29
      have h30 : Kept M s0 v29 := by
        unfold v29
        refine Kept.setF (hm.bit 1 rfl) (reach_TST_CORE_STS (hm.bit 308 rfl)) ?_
        refine kept_wakeCore (hm.sub rfl) ?_
        exact h0
      (clear_value v29; revert v29; refine Kept.seal ?_; intro v29 h30)
      refine Kept.in_silent (hm.bit 27 rfl) ?_ (Kept.seal) (Kept.seal)
      exact h30

theorem kept_testDeferred {s : State} {n : ℕ} (hm : Within 0x100000000000000000000000000007200000000000000010700000000000000000109a00040a02 M) (h0 : Kept M s0 s) :
    Kept M s0 (State.testDeferred s n) := by
  unfold State.testDeferred
  (generalize q21 : (s.testOf n) = x20; revert x20; refine Kept.seal ?_; intro x20 q21)
  split
  · rename_i w22
    exact h0
  · rename_i w23 w24
    refine kept_ite ?_ ?_
    · exact h0
    · refine kept_testNotice (hm.sub rfl) ?_
      refine kept_ledger (hm.sub rfl) ?_
      refine Kept.setF (hm.bit 1 rfl) (reach_TST_CORE_STS (hm.bit 308 rfl)) ?_
      exact h0

theorem kept_clearStore {s : State} {u : ℕ} (hm : Within 0x78 M) (h0 : Kept M s0 s) :
    Kept M s0 (State.clearStore s u) := by
  unfold State.clearStore
  extract_lets -underBinder +onlyGivenNames v20
  (clear_value v20; revert v20; refine Kept.seal ?_; intro v20)
  extract_lets -underBinder +onlyGivenNames v21
  (clear_value v21; revert v21; refine Kept.seal ?_; intro v21)
  refine Kept.in_stores (x := { s with storePoison := Sys2Proof.Sparse.clear (v20 / 128) (v21 / 128) s.storePoison, storeParity := Sys2Proof.Sparse.clear v20 v21 s.storeParity, srcRecs := Sys2Proof.Sparse.clear (v20 / 4096) (v21 / 4096) s.srcRecs }) (hm.bit 3 rfl) ?_ (Sparse.wf_clear)
  refine Kept.in_storePoison (x := { s with storeParity := Sys2Proof.Sparse.clear v20 v21 s.storeParity, srcRecs := Sys2Proof.Sparse.clear (v20 / 4096) (v21 / 4096) s.srcRecs }) (hm.bit 4 rfl) ?_ (Sparse.wf_clear)
  refine Kept.in_storeParity (x := { s with srcRecs := Sys2Proof.Sparse.clear (v20 / 4096) (v21 / 4096) s.srcRecs }) (hm.bit 5 rfl) ?_ (Sparse.wf_clear)
  refine Kept.in_srcRecs (hm.bit 6 rfl) ?_ (Sparse.wf_clear)
  exact h0

theorem kept_testEnd {s : State} {n : ℕ} {failed : Option W32} (hm : Within 0x588820000049a5000200000000000720902020700c000191701c60002200000000189a59de0bfe M) (h0 : Kept M s0 s) :
    Kept M s0 (State.testEnd s n failed) := by
  unfold State.testEnd
  (generalize q21 : (s.testOf n) = x20; revert x20; refine Kept.seal ?_; intro x20 q21)
  split
  · rename_i w22
    exact h0
  · rename_i w23 w24
    refine kept_ite ?_ ?_
    · exact h0
    · extract_lets -underBinder +onlyGivenNames v25
      have h26 : Kept M s0 v25 := by
        unfold v25
        refine Kept.addF (hm.bit 1 rfl) (reach_TST_CORE_TESTS (hm.bit 310 rfl)) ?_
        refine kept_clearStore (hm.sub rfl) ?_
        exact h0
      (clear_value v25; revert v25; refine Kept.seal ?_; intro v25 h26)
      split
      · rename_i w27
        refine kept_testNotice (hm.sub rfl) ?_
        refine kept_engineOk (hm.sub rfl) ?_
        refine Kept.setF (hm.bit 1 rfl) (reach_TST_CORE_STS (hm.bit 308 rfl)) ?_
        refine kept_dropTest (hm.sub rfl) ?_
        exact h26
      · rename_i w28 w29
        extract_lets -underBinder +onlyGivenNames v30
        have h31 : Kept M s0 v30 := by
          unfold v30
          refine kept_testNotice (hm.sub rfl) ?_
          refine Kept.setF (hm.bit 1 rfl) (reach_TST_CORE_STS (hm.bit 308 rfl)) ?_
          refine kept_dropTest (hm.sub rfl) ?_
          exact h26
        (clear_value v30; revert v30; refine Kept.seal ?_; intro v30 h31)
        refine kept_fault (hm.sub rfl) ?_
        exact h31

theorem kept_execKernelStart {n : Fin 16} {code : KCode} {ecc : List (Bool × Fin 8)} {s : State} (hm : Within 0x108220000049a50002000000000007208020207000000190700060002200000000109a191e2bfe M) (h0 : Kept M s0 s) :
    KeptE M s0 (execKernelStart n code ecc s) := by
  unfold execKernelStart
  refine kepte_next ?_
  refine kept_kernelStart (hm.sub rfl) ?_
  exact h0

theorem kept_execKBlockEnd {cut : KernelCut} {pass : W32} {block : W32} {a : OperandAt} {b : OperandAt} {init : List (ℕ × PA × ℕ)} {types : Option (ℕ × ℕ)} {wrong : List WrongSum} {shadowWrong : List WrongSum} {third : Option W32} {s : State} (hm : Within 0x179c30000049a5000200000000000720902020700c000197701c60002200000000189a5bde0bfe M) (h0 : Kept M s0 s) :
    KeptE M s0 (execKBlockEnd cut pass block a b init types wrong shadowWrong third s) := by
  unfold execKBlockEnd
  refine kepte_next ?_
  refine kept_underCore (hm.sub rfl) ?_ ?_
  · exact h0
  · intro y20 h21
    refine kept_kBlockEnd (hm.sub rfl) ?_
    exact h21

theorem kept_execShadowTaken {m : Fin 16} {s : State} (hm : Within 0x108120000049a50002000000000007208020207000000190700060002200000000109a191e0bfe M) (h0 : Kept M s0 s) :
    KeptE M s0 (execShadowTaken m s) := by
  unfold execShadowTaken
  refine kepte_next ?_
  refine kept_shadowTaken (hm.sub rfl) ?_
  exact h0

theorem kept_execShadowWaitTimeout {n : Fin 16} {s : State} (hm : Within 0x108220000049a50002000000000007208020207000000190700060002200000000109a191e0bfe M) (h0 : Kept M s0 s) :
    KeptE M s0 (execShadowWaitTimeout n s) := by
  unfold execShadowWaitTimeout
  refine kepte_next ?_
  refine kept_shadowTimeout (hm.sub rfl) ?_
  exact h0

theorem kept_execEnginePassEnd {cut : KernelCut} {pass : W32} {seen : Option (W32 × W32)} {code : List KStep} {s : State} (hm : Within 0x37842000004924000200000000000720902020708c000197701c60002200000000189b5dde0bfe M) (h0 : Kept M s0 s) :
    KeptE M s0 (execEnginePassEnd cut pass seen code s) := by
  unfold execEnginePassEnd
  refine kepte_next ?_
  refine kept_underCore (hm.sub rfl) ?_ ?_
  · exact h0
  · intro y20 h21
    refine kept_passEnd (hm.sub rfl) ?_
    exact h21

theorem kept_execDiagArm {entry : Fin 16} {core : Fin 16} {shadow : Fin 16} {s : State} (hm : Within 0x20000000000000000000000000000000000000000000000000000000000000000000000002 M) (h0 : Kept M s0 s) :
    KeptE M s0 (execDiagArm entry core shadow s) := by
  unfold execDiagArm
  refine kepte_next ?_
  refine kept_diagArm (hm.sub rfl) ?_
  exact h0

theorem kept_execSuspectFree {i : Fin 16} {s : State} (hm : Within 0x8000000000000000000000000000000000000000000000000000000000000000000000000002 M) (h0 : Kept M s0 s) :
    KeptE M s0 (execSuspectFree i s) := by
  unfold execSuspectFree
  refine kepte_next ?_
  refine Kept.setF (hm.bit 1 rfl) (reach_TST_SUSPECT (hm.bit 303 rfl)) ?_
  exact h0

theorem kept_execShelfLoad {s : State} (hm : Within 0x80000000000000000000000000000000000000000000000000000000000000000000000002 M) (h0 : Kept M s0 s) :
    KeptE M s0 (execShelfLoad s) := by
  unfold execShelfLoad
  refine kepte_next ?_
  refine kept_shelfLoad (hm.sub rfl) ?_
  exact h0

theorem kept_execShelfLoadDone {env : VaultEnv} {s : State} (hm : Within 0x608000000000000000000000000700902020700c000191700000000000000000189a08de027e M) (h0 : Kept M s0 s) :
    KeptE M s0 (execShelfLoadDone env s) := by
  unfold execShelfLoadDone
  refine kepte_next ?_
  refine kept_shelfLoadDone (hm.sub rfl) ?_
  exact h0

theorem kept_execTestRequest {n : Fin 16} {set : Fin 16} {after : W16} {evicted : Bool} {s : State} (hm : Within 0x180000000000000000000000000000000000000000000000000000000000000000000008000002 M) (h0 : Kept M s0 s) :
    KeptE M s0 (execTestRequest n set after evicted s) := by
  unfold execTestRequest
  refine kepte_next ?_
  refine kept_testRequest (hm.sub rfl) ?_
  exact h0

theorem kept_execTestAbort {n : Fin 16} {s : State} (hm : Within 0x180000000000000000000000000007200000000000000010700000000000000000109a08040a02 M) (h0 : Kept M s0 s) :
    KeptE M s0 (execTestAbort n s) := by
  unfold execTestAbort
  refine kepte_next ?_
  refine kept_testAbort (hm.sub rfl) ?_
  exact h0

theorem kept_execTestStart {n : Fin 16} {s : State} (hm : Within 0x100000000000000000000000000000000000000000000000000000000000000000000009000002 M) (h0 : Kept M s0 s) :
    KeptE M s0 (execTestStart n s) := by
  unfold execTestStart
  refine kepte_next ?_
  refine kept_testStart (hm.sub rfl) ?_
  exact h0

theorem kept_execTestDeferred {n : Fin 16} {s : State} (hm : Within 0x100000000000000000000000000007200000000000000010700000000000000000109a00040a02 M) (h0 : Kept M s0 s) :
    KeptE M s0 (execTestDeferred n s) := by
  unfold execTestDeferred
  refine kepte_next ?_
  refine kept_testDeferred (hm.sub rfl) ?_
  exact h0

theorem kept_execTestEnd {n : Fin 16} {failed : Option W32} {s : State} (hm : Within 0x588820000049a5000200000000000720902020700c000191701c60002200000000189a59de0bfe M) (h0 : Kept M s0 s) :
    KeptE M s0 (execTestEnd n failed s) := by
  unfold execTestEnd
  refine kepte_next ?_
  refine kept_testEnd (hm.sub rfl) ?_
  exact h0

end Sys2Proof.Machine
end

