-- ==== Sys2Proof/Laws/Kept/Tellers.lean ====
section
/-! SUPPORT. What the operations of Tellers may write: each keeps its footprint. -/

namespace Sys2Proof.Machine

variable {M : Nat} {s0 : State}

theorem kept_guaranteeReport {s : State} {p : ℕ} {cls : ℕ} {cause : ℕ} {refill : ℕ} {sum : ℕ} (hm : Within 0x7200000000000000010700000000000000000109a00040a02 M) (h0 : Kept M s0 s) :
    Kept M s0 (State.guaranteeReport s p cls cause refill sum) := by
  unfold State.guaranteeReport
  extract_lets -underBinder +onlyGivenNames v20
  (clear_value v20; revert v20; refine Kept.seal ?_; intro v20)
  extract_lets -underBinder +onlyGivenNames v21
  (clear_value v21; revert v21; refine Kept.seal ?_; intro v21)
  refine kept_ite ?_ ?_
  · exact h0
  · extract_lets -underBinder +onlyGivenNames v22
    extract_lets -underBinder +onlyGivenNames v23
    have h24 : Kept M s0 v23 := by
      unfold v23
      refine Kept.in_tellers (hm.bit 33 rfl) ?_ (Kept.seal) (Sparse.wf_put)
      exact h0
    (clear_value v23; revert v23; refine Kept.seal ?_; intro v23 h24)
    extract_lets -underBinder +onlyGivenNames v25
    have h26 : Kept M s0 v25 := by
      unfold v25
      refine kept_ite ?_ ?_
      · exact h24
      · refine kept_ledger (hm.sub rfl) ?_
        exact h24
    (clear_value v25; revert v25; refine Kept.seal ?_; intro v25 h26)
    refine kept_noticeTo (hm.sub rfl) ?_
    exact h26

theorem kept_refillClass {s : State} {p : ℕ} {k : ℕ} (hm : Within 0x200000000 M) (h0 : Kept M s0 s) :
    Kept M s0 (State.refillClass s p k) := by
  unfold State.refillClass
  extract_lets -underBinder +onlyGivenNames v20
  (clear_value v20; revert v20; refine Kept.seal ?_; intro v20)
  extract_lets -underBinder +onlyGivenNames v21
  (clear_value v21; revert v21; refine Kept.seal ?_; intro v21)
  extract_lets -underBinder +onlyGivenNames v22
  (clear_value v22; revert v22; refine Kept.seal ?_; intro v22)
  extract_lets -underBinder +onlyGivenNames v23
  (clear_value v23; revert v23; refine Kept.seal ?_; intro v23)
  refine kept_setTeller (hm.sub rfl) ?_
  exact h0

theorem kept_tellerRefill {s : State} (hm : Within 0x200000000 M) (h0 : Kept M s0 s) :
    Kept M s0 (State.tellerRefill s) := by
  unfold State.tellerRefill
  refine kept_ite ?_ ?_
  · exact h0
  · refine kept_forEach ?_ ?_
    · intro y20 y21 h22
      refine kept_forEach ?_ ?_
      · intro y23 y24 h25
        refine kept_refillClass (hm.sub rfl) ?_
        exact h25
      · exact h22
    · refine Kept.in_tellers (hm.bit 33 rfl) ?_ (Kept.seal) (Kept.seal)
      exact h0

theorem kept_windowEnd {s : State} {p : ℕ} {k : ℕ} {backlogged : Bool} (hm : Within 0x7200000000000000010700000010000000000109a00040a02 M) (h0 : Kept M s0 s) :
    Kept M s0 (State.windowEnd s p k backlogged) := by
  unfold State.windowEnd
  extract_lets -underBinder +onlyGivenNames v20
  (clear_value v20; revert v20; refine Kept.seal ?_; intro v20)
  extract_lets -underBinder +onlyGivenNames v21
  (clear_value v21; revert v21; refine Kept.seal ?_; intro v21)
  extract_lets -underBinder +onlyGivenNames v22
  (clear_value v22; revert v22; refine Kept.seal ?_; intro v22)
  extract_lets -underBinder +onlyGivenNames v23
  (clear_value v23; revert v23; refine Kept.seal ?_; intro v23)
  extract_lets -underBinder +onlyGivenNames v24
  (clear_value v24; revert v24; refine Kept.seal ?_; intro v24)
  extract_lets -underBinder +onlyGivenNames v25
  have h26 : Kept M s0 v25 := by
    unfold v25
    refine kept_setTeller (hm.sub rfl) ?_
    exact h0
  (clear_value v25; revert v25; refine Kept.seal ?_; intro v25 h26)
  refine kept_ite ?_ ?_
  · refine kept_guaranteeReport (hm.sub rfl) ?_
    refine Kept.regSts (hm.bit 1 rfl) (hm.bit 39 rfl) (reach_TLR_MISS_STS (hm.bit 88 rfl)) ?_
    exact h26
  · exact h26

theorem kept_guaranteeWindow {s : State} {backlogged : List (ℕ × ℕ)} (hm : Within 0x7200000000000000010700000010000000000109a00040a02 M) (h0 : Kept M s0 s) :
    Kept M s0 (State.guaranteeWindow s backlogged) := by
  unfold State.guaranteeWindow
  refine kept_ite ?_ ?_
  · exact h0
  · refine kept_forEach ?_ ?_
    · intro y20 y21 h22
      refine kept_forEach ?_ ?_
      · intro y23 y24 h25
        refine kept_windowEnd (hm.sub rfl) ?_
        exact h25
      · exact h22
    · refine Kept.in_tellers (hm.bit 33 rfl) ?_ (Kept.seal) (Kept.seal)
      exact h0

theorem kept_scaleUpdate {s : State} {p : ℕ} (hm : Within 0x7200000000000000010700000820000000000109a00040a02 M) (h0 : Kept M s0 s) :
    Kept M s0 (State.scaleUpdate s p) := by
  unfold State.scaleUpdate
  extract_lets -underBinder +onlyGivenNames v20
  (clear_value v20; revert v20; refine Kept.seal ?_; intro v20)
  extract_lets -underBinder +onlyGivenNames v21
  (clear_value v21; revert v21; refine Kept.seal ?_; intro v21)
  extract_lets -underBinder +onlyGivenNames v22
  (clear_value v22; revert v22; refine Kept.seal ?_; intro v22)
  extract_lets -underBinder +onlyGivenNames v23
  have h24 : Kept M s0 v23 := by
    unfold v23
    refine Kept.setF (hm.bit 1 rfl) (reach_TLR_PORT (hm.bit 95 rfl)) ?_
    refine Kept.setF (hm.bit 1 rfl) (reach_TLR_PORT (hm.bit 95 rfl)) ?_
    exact h0
  (clear_value v23; revert v23; refine Kept.seal ?_; intro v23 h24)
  refine kept_ite ?_ ?_
  · refine kept_guaranteeReport (hm.sub rfl) ?_
    refine Kept.regSts (hm.bit 1 rfl) (hm.bit 39 rfl) (reach_TLR_CAP_STS (hm.bit 89 rfl)) ?_
    exact h24
  · refine kept_ite ?_ ?_
    · refine kept_guaranteeReport (hm.sub rfl) ?_
      exact h24
    · exact h24

theorem kept_latMiss {s : State} {p : ℕ} {tag : Tag} (hm : Within 0x200000000 M) (h0 : Kept M s0 s) :
    Kept M s0 (State.latMiss s p tag) := by
  unfold State.latMiss
  extract_lets -underBinder +onlyGivenNames v20
  (clear_value v20; revert v20; refine Kept.seal ?_; intro v20)
  refine kept_ite ?_ ?_
  · refine kept_waited (hm.sub rfl) ?_
    exact h0
  · exact h0

theorem kept_execTellerRefill {s : State} (hm : Within 0x200000000 M) (h0 : Kept M s0 s) :
    KeptE M s0 (execTellerRefill s) := by
  unfold execTellerRefill
  refine kepte_next ?_
  refine kept_tellerRefill (hm.sub rfl) ?_
  exact h0

theorem kept_execGuaranteeWindow {backlogged : List (ℕ × ℕ)} {s : State} (hm : Within 0x7200000000000000010700000010000000000109a00040a02 M) (h0 : Kept M s0 s) :
    KeptE M s0 (execGuaranteeWindow backlogged s) := by
  unfold execGuaranteeWindow
  refine kepte_next ?_
  refine kept_guaranteeWindow (hm.sub rfl) ?_
  exact h0

theorem kept_execScaleUpdate {p : Fin 34} {s : State} (hm : Within 0x7200000000000000010700000820000000000109a00040a02 M) (h0 : Kept M s0 s) :
    KeptE M s0 (execScaleUpdate p s) := by
  unfold execScaleUpdate
  refine kepte_next ?_
  refine kept_scaleUpdate (hm.sub rfl) ?_
  exact h0

end Sys2Proof.Machine
end

