-- ==== Sys2Proof/Laws/Kept/Image.lean ====
section
/-! SUPPORT. What the operations of Image may write: each keeps its footprint. -/

namespace Sys2Proof.Machine

variable {M : Nat} {s0 : State}

theorem kept_sitError {s : State} {code : ℕ} {addr : ℕ} (hm : Within 0x7000000000000000010700000000200000000109a00040202 M) (h0 : Kept M s0 s) :
    Kept M s0 (State.sitError s code addr) := by
  unfold State.sitError
  refine kept_ledger (hm.sub rfl) ?_
  refine Kept.setF (hm.bit 1 rfl) (reach_SIT_STATUS (hm.bit 81 rfl)) ?_
  exact h0

theorem kept_installTables {s : State} {l : List TableEntry} (hm : Within 0x180000000000000000000000000000100200002 M) (h0 : Kept M s0 s) :
    Kept M s0 (State.installTables s l) := by
  unfold State.installTables
  refine kept_forEach ?_ ?_
  · intro y20 y21 h22
    extract_lets -underBinder +onlyGivenNames v23
    (clear_value v23; revert v23; refine Kept.seal ?_; intro v23)
    refine kept_endInstall (hm.sub rfl) ?_
    exact h22
  · exact h0

theorem kept_setDigest {s : State} {t : ℕ} {d : Bytes} (hm : Within 0x100 M) (h0 : Kept M s0 s) :
    Kept M s0 (State.setDigest s t d) := by
  unfold State.setDigest
  refine Kept.in_epoch (hm.bit 8 rfl) ?_
  exact h0

theorem kept_applyPrefix {s : State} {p : Bytes} (hm : Within 0x400000000000000000102 M) (h0 : Kept M s0 s) :
    Kept M s0 (State.applyPrefix s p) := by
  unfold State.applyPrefix
  extract_lets -underBinder +onlyGivenNames v20
  have h21 : Kept M s0 v20 := by
    unfold v20
    refine Kept.setF (hm.bit 1 rfl) (reach_SIT_IMAGE_ID (hm.bit 82 rfl)) ?_
    refine Kept.setF (hm.bit 1 rfl) (reach_SIT_IMAGE_ID (hm.bit 82 rfl)) ?_
    exact h0
  (clear_value v20; revert v20; refine Kept.seal ?_; intro v20 h21)
  refine Kept.in_epoch (hm.bit 8 rfl) ?_
  exact h21

theorem kept_applySplit {s : State} {x : Structure} {c : ℕ} (hm : Within 0x200000000000000000000000000000000000002 M) (h0 : Kept M s0 s) :
    Kept M s0 (State.applySplit s x c) := by
  unfold State.applySplit
  extract_lets -underBinder +onlyGivenNames v20
  (clear_value v20; revert v20; refine Kept.seal ?_; intro v20)
  extract_lets -underBinder +onlyGivenNames v21
  have h22 : Kept M s0 v21 := by
    unfold v21
    refine Kept.setF (hm.bit 1 rfl) (reach_CAN_SPLIT (hm.bit 153 rfl)) ?_
    refine Kept.setF (hm.bit 1 rfl) (reach_CAN_SPLIT (hm.bit 153 rfl)) ?_
    exact h0
  (clear_value v21; revert v21; refine Kept.seal ?_; intro v21 h22)
  refine Kept.setF (hm.bit 1 rfl) (reach_CAN_SPLIT (hm.bit 153 rfl)) ?_
  exact h22

theorem kept_changeRole {s : State} {c : ℕ} {old : ℕ} {new : ℕ} (hm : Within 0x80000080004 M) (h0 : Kept M s0 s) :
    Kept M s0 (State.changeRole s c old new) := by
  unfold State.changeRole
  extract_lets -underBinder +onlyGivenNames v20
  have h21 : Kept M s0 v20 := by
    unfold v20
    refine kept_ite ?_ ?_
    · exact h0
    · refine kept_clearTags (hm.sub rfl) ?_
      exact h0
  (clear_value v20; revert v20; refine Kept.seal ?_; intro v20 h21)
  refine kept_ite ?_ ?_
  · refine kept_bump (hm.sub rfl) ?_
    refine kept_forEach ?_ ?_
    · intro y22 y23 h24
      extract_lets -underBinder +onlyGivenNames v25
      (clear_value v25; revert v25; refine Kept.seal ?_; intro v25)
      refine kept_putGrain (hm.sub rfl) ?_
      exact h24
    · exact h21
  · exact h21

theorem kept_keepSplit {s : State} {c : ℕ} (hm : Within 0x10000000000000000002 M) (h0 : Kept M s0 s) :
    Kept M s0 (State.keepSplit s c) := by
  unfold State.keepSplit
  refine Kept.setReg (hm.bit 1 rfl) (reach_AO_KEEP_SPLIT (hm.bit 76 rfl)) ?_
  exact h0

theorem kept_applyPop {s : State} {x : Structure} (hm : Within 0xc7800000000000000000000000000000000000000002 M) (h0 : Kept M s0 s) :
    Kept M s0 (State.applyPop s x) := by
  unfold State.applyPop
  extract_lets -underBinder +onlyGivenNames v20
  (clear_value v20; revert v20; refine Kept.seal ?_; intro v20)
  extract_lets -underBinder +onlyGivenNames v21
  have h22 : Kept M s0 v21 := by
    unfold v21
    refine Kept.setReg (hm.bit 1 rfl) (reach_UND_EN_HI (hm.bit 168 rfl)) ?_
    refine Kept.setReg (hm.bit 1 rfl) (reach_UND_EN_LO (hm.bit 167 rfl)) ?_
    exact h0
  (clear_value v21; revert v21; refine Kept.seal ?_; intro v21 h22)
  extract_lets -underBinder +onlyGivenNames v23
  have h24 : Kept M s0 v23 := by
    unfold v23
    refine Kept.setReg (hm.bit 1 rfl) (reach_UND_POP (hm.bit 169 rfl)) ?_
    exact h22
  (clear_value v23; revert v23; refine Kept.seal ?_; intro v23 h24)
  extract_lets -underBinder +onlyGivenNames v25
  have h26 : Kept M s0 v25 := by
    unfold v25
    refine kept_forEach ?_ ?_
    · intro y27 y28 h29
      refine Kept.setF (hm.bit 1 rfl) (reach_UND_PAGES (hm.bit 170 rfl)) ?_
      refine Kept.setF (hm.bit 1 rfl) (reach_UND_PAGES (hm.bit 170 rfl)) ?_
      exact h29
    · exact h24
  (clear_value v25; revert v25; refine Kept.seal ?_; intro v25 h26)
  extract_lets -underBinder +onlyGivenNames v30
  have h31 : Kept M s0 v30 := by
    unfold v30
    refine Kept.setReg (hm.bit 1 rfl) (reach_VLT_POP (hm.bit 174 rfl)) ?_
    exact h26
  (clear_value v30; revert v30; refine Kept.seal ?_; intro v30 h31)
  refine Kept.setReg (hm.bit 1 rfl) (reach_VLT_PART (hm.bit 175 rfl)) ?_
  exact h31

theorem kept_applyClasses {s : State} {x : Structure} (hm : Within 0xf000000008000000000000002 M) (h0 : Kept M s0 s) :
    Kept M s0 (State.applyClasses s x) := by
  unfold State.applyClasses
  extract_lets -underBinder +onlyGivenNames v20
  have h21 : Kept M s0 v20 := by
    unfold v20
    refine Kept.clearRegs (hm.bit 1 rfl) (hm.bit 63 rfl) ?_
    exact h0
  (clear_value v20; revert v20; refine Kept.seal ?_; intro v20 h21)
  extract_lets -underBinder +onlyGivenNames v22
  have h23 : Kept M s0 v22 := by
    unfold v22
    refine kept_forEach ?_ ?_
    · intro y24 y25 h26
      refine Kept.setF (hm.bit 1 rfl) (reach_TLR_TAG (hm.bit 99 rfl)) ?_
      exact h26
    · exact h21
  (clear_value v22; revert v22; refine Kept.seal ?_; intro v22 h23)
  refine kept_forEach ?_ ?_
  · intro y27 y28 h29
    extract_lets -underBinder +onlyGivenNames v30
    (clear_value v30; revert v30; refine Kept.seal ?_; intro v30)
    extract_lets -underBinder +onlyGivenNames v31
    have h32 : Kept M s0 v31 := by
      unfold v31
      refine Kept.setReg (hm.bit 1 rfl) (reach_TLR_CLASS_CFG (hm.bit 96 rfl)) ?_
      exact h29
    (clear_value v31; revert v31; refine Kept.seal ?_; intro v31 h32)
    extract_lets -underBinder +onlyGivenNames v33
    have h34 : Kept M s0 v33 := by
      unfold v33
      refine Kept.setReg (hm.bit 1 rfl) (reach_TLR_CLASS_MASK (hm.bit 97 rfl)) ?_
      exact h32
    (clear_value v33; revert v33; refine Kept.seal ?_; intro v33 h34)
    refine Kept.setReg (hm.bit 1 rfl) (reach_TLR_CLASS_LAT (hm.bit 98 rfl)) ?_
    exact h34
  · exact h23

theorem kept_applySums {s : State} (hm : Within 0x7200000000000000010700000820000000000109a00040a02 M) (h0 : Kept M s0 s) :
    Kept M s0 (State.applySums s) := by
  unfold State.applySums
  refine kept_forEach ?_ ?_
  · intro y20 y21 h22
    refine kept_scaleUpdate (hm.sub rfl) ?_
    refine Kept.setF (hm.bit 1 rfl) (reach_TLR_PORT (hm.bit 95 rfl)) ?_
    exact h22
  · exact h0

theorem kept_applyDet {s : State} {d : Determinism} (hm : Within 0x10000000000000000000000002 M) (h0 : Kept M s0 s) :
    Kept M s0 (State.applyDet s d) := by
  unfold State.applyDet
  extract_lets -underBinder +onlyGivenNames v20
  (clear_value v20; revert v20; refine Kept.seal ?_; intro v20)
  refine Kept.setReg (hm.bit 1 rfl) (reach_DET_CFG (hm.bit 100 rfl)) ?_
  exact h0

theorem kept_applyPlace {s : State} {p : Placement} (hm : Within 0x8000000000000000000000000000000000020002 M) (h0 : Kept M s0 s) :
    Kept M s0 (State.applyPlace s p) := by
  unfold State.applyPlace
  extract_lets -underBinder +onlyGivenNames v20
  extract_lets -underBinder +onlyGivenNames v21
  have h22 : Kept M s0 v21 := by
    unfold v21
    refine kept_ite ?_ ?_
    · exact h0
    · refine Kept.in_canopy (hm.bit 17 rfl) ?_ (Kept.seal) (Kept.seal) (Kept.seal) (Kept.seal)
      exact h0
  (clear_value v21; revert v21; refine Kept.seal ?_; intro v21 h22)
  refine Kept.setReg (hm.bit 1 rfl) (reach_CAN_PLACE (hm.bit 159 rfl)) ?_
  exact h22

theorem kept_applyVersions {s : State} {old : Structure} {new : Structure} (hm : Within 0x80000000 M) (h0 : Kept M s0 s) :
    Kept M s0 (State.applyVersions s old new) := by
  unfold State.applyVersions
  refine kept_forEach ?_ ?_
  · intro y20 y21 h22
    refine kept_ite ?_ ?_
    · exact h22
    · refine kept_forEach ?_ ?_
      · intro y23 y24 h25
        refine kept_setVerSlot (hm.sub rfl) ?_
        exact h25
      · exact h22
  · exact h0

theorem kept_applyStructure {s : State} {old : Structure} {new : Structure} (hm : Within 0x400000000000000000000000000000000820000000000001f001008008000000080020002 M) (h0 : Kept M s0 s) :
    Kept M s0 (State.applyStructure s old new) := by
  unfold State.applyStructure
  extract_lets -underBinder +onlyGivenNames v20
  have h21 : Kept M s0 v20 := by
    unfold v20
    refine kept_forEach ?_ ?_
    · intro y22 y23 h24
      refine kept_applySplit (hm.sub rfl) ?_
      exact h24
    · exact h0
  (clear_value v20; revert v20; refine Kept.seal ?_; intro v20 h21)
  extract_lets -underBinder +onlyGivenNames v25
  have h26 : Kept M s0 v25 := by
    unfold v25
    refine kept_applyDet (hm.sub rfl) ?_
    refine kept_applyClasses (hm.sub rfl) ?_
    exact h21
  (clear_value v25; revert v25; refine Kept.seal ?_; intro v25 h26)
  extract_lets -underBinder +onlyGivenNames v27
  have h28 : Kept M s0 v27 := by
    unfold v27
    refine Kept.setF (hm.bit 1 rfl) (reach_TST_CFG (hm.bit 290 rfl)) ?_
    refine kept_applyPlace (hm.sub rfl) ?_
    exact h26
  (clear_value v27; revert v27; refine Kept.seal ?_; intro v27 h28)
  extract_lets -underBinder +onlyGivenNames v29
  have h30 : Kept M s0 v29 := by
    unfold v29
    refine Kept.setF (hm.bit 1 rfl) (reach_AO_PWR (hm.bit 75 rfl)) ?_
    refine Kept.setF (hm.bit 1 rfl) (reach_AO_PWR (hm.bit 75 rfl)) ?_
    exact h28
  (clear_value v29; revert v29; refine Kept.seal ?_; intro v29 h30)
  extract_lets -underBinder +onlyGivenNames v31
  have h32 : Kept M s0 v31 := by
    unfold v31
    refine Kept.setF (hm.bit 1 rfl) (reach_SIT_EPOCH_CTRL (hm.bit 84 rfl)) ?_
    exact h30
  (clear_value v31; revert v31; refine Kept.seal ?_; intro v31 h32)
  refine kept_applyVersions (hm.sub rfl) ?_
  exact h32

end Sys2Proof.Machine
end

