-- ==== Sys2Proof/Laws/Kept/Repair.lean ====
section
/-! SUPPORT. What the operations of Repair may write: each keeps its footprint. -/

namespace Sys2Proof.Machine

variable {M : Nat} {s0 : State}

theorem kept_copyHome {s : State} {a : PA} {r : Repair} (hm : Within 0x7000020200000000190700000000000000000109a000e0206 M) (h0 : Kept M s0 s) :
    KeptP M s0 (State.copyHome s a r) := by
  unfold State.copyHome
  (generalize q21 : (if r.home = Bool.true then Option.none else s.cleanHome a) = x20; revert x20; refine Kept.seal ?_; intro x20 q21)
  split
  · rename_i w22
    refine Kept.pair ?_
    exact h0
  · rename_i w23 w24 w25 w26 w27
    extract_lets -underBinder +onlyGivenNames v28
    have h29 : Kept M s0 v28 := by
      unfold v28
      refine kept_setLine (hm.sub rfl) ?_
      exact h0
    (clear_value v28; revert v28; refine Kept.seal ?_; intro v28 h29)
    (generalize q31 : (v28.undLoc w24 w27) = x30; revert x30; refine Kept.seal ?_; intro x30 q31)
    split
    · rename_i w32
      refine Kept.pair ?_
      exact h29
    · rename_i w33 w34
      (generalize q36 : (v28.readGrain w34 r.grain 10 r.tag) = x35; revert x35; refine Kept.seal ?_; intro x35 q36)
      have h37 : KeptP M s0 x35 := by
        rw [← q36]
        refine kept_readGrain (hm.sub rfl) ?_
        exact h29
      split
      · rename_i w38 w39 w40
        refine Kept.pair ?_
        exact (KeptP.st h37)
      · rename_i w41 w42 w43
        refine Kept.pair ?_
        exact (KeptP.st h37)
      · rename_i w44 w45 w46 w47 w48 w49
        refine Kept.pair ?_
        exact (KeptP.st h37)

theorem kept_copyVault {s : State} {a : PA} {env : VaultEnv} {tag : Tag} (hm : Within 0x7009000000000000010700000000000000000109a00140202 M) (h0 : Kept M s0 s) :
    KeptP M s0 (State.copyVault s a env tag) := by
  unfold State.copyVault
  (generalize q21 : (s.vaultCopy a) = x20; revert x20; refine Kept.seal ?_; intro x20 q21)
  split
  · rename_i w22
    refine Kept.pair ?_
    exact h0
  · rename_i w23 w24 w25 w26 w27
    extract_lets -underBinder +onlyGivenNames v28
    have h29 : KeptP M s0 v28 := by
      unfold v28
      refine kept_readVault (hm.sub rfl) ?_
      exact h0
    (clear_value v28; revert v28; refine Kept.seal ?_; intro v28 h29)
    refine keptp_ite ?_ ?_
    · refine Kept.pair ?_
      refine kept_clearValid (hm.sub rfl) ?_
      exact (KeptP.st h29)
    · refine Kept.pair ?_
      exact (KeptP.st h29)

theorem kept_dropRepair {s : State} {r : Repair} (hm : Within 0x40000 M) (h0 : Kept M s0 s) :
    Kept M s0 (State.dropRepair s r) := by
  unfold State.dropRepair
  refine Kept.in_integ (hm.bit 18 rfl) ?_ (Kept.seal) (Kept.seal)
  exact h0

theorem kept_keepRepair {s : State} {r : Repair} {found : Option Bytes} (hm : Within 0x40000 M) (h0 : Kept M s0 s) :
    Kept M s0 (State.keepRepair s r found) := by
  unfold State.keepRepair
  refine Kept.in_integ (hm.bit 18 rfl) ?_ (Kept.seal) (Kept.seal)
  exact h0

theorem kept_repairGood {s : State} {a : PA} {r : Repair} {now : GrainNow} {step : ℕ} {d : Bytes} (hm : Within 0x7000000000000008010700000000000000000109a000c0206 M) (h0 : Kept M s0 s) :
    Kept M s0 (State.repairGood s a r now step d) := by
  unfold State.repairGood
  extract_lets -underBinder +onlyGivenNames v20
  (clear_value v20; revert v20; refine Kept.seal ?_; intro v20)
  extract_lets -underBinder +onlyGivenNames v21
  (clear_value v21; revert v21; refine Kept.seal ?_; intro v21)
  extract_lets -underBinder +onlyGivenNames v22
  have h23 : Kept M s0 v22 := by
    unfold v22
    refine kept_ite ?_ ?_
    · refine Kept.addF (hm.bit 1 rfl) (reach_CLR_REPAIRED (hm.bit 135 rfl)) ?_
      exact h0
    · exact h0
  (clear_value v22; revert v22; refine Kept.seal ?_; intro v22 h23)
  refine kept_ite ?_ ?_
  · refine kept_ledger (hm.sub rfl) ?_
    refine kept_keepRepair (hm.sub rfl) ?_
    exact h23
  · extract_lets -underBinder +onlyGivenNames v24
    have h25 : Kept M s0 v24 := by
      unfold v24
      (generalize q27 : (v22.repairLoc a r) = x26; revert x26; refine Kept.seal ?_; intro x26 q27)
      split
      · rename_i w28 w29
        refine kept_putGrain (hm.sub rfl) ?_
        exact h23
      · rename_i w30
        exact h23
    (clear_value v24; revert v24; refine Kept.seal ?_; intro v24 h25)
    refine kept_ledger (hm.sub rfl) ?_
    refine kept_dropRepair (hm.sub rfl) ?_
    exact h25

theorem kept_repairFailed {s : State} {a : PA} {r : Repair} {now : GrainNow} (hm : Within 0x7000000000000010010700000000000000000109a000c0206 M) (h0 : Kept M s0 s) :
    Kept M s0 (State.repairFailed s a r now) := by
  unfold State.repairFailed
  split
  · rename_i w20
    refine kept_ledger (hm.sub rfl) ?_
    refine kept_keepRepair (hm.sub rfl) ?_
    exact h0
  · rename_i w21
    refine kept_ledger (hm.sub rfl) ?_
    refine kept_keepRepair (hm.sub rfl) ?_
    exact h0
  · rename_i w22 w23 w24
    extract_lets -underBinder +onlyGivenNames v25
    (clear_value v25; revert v25; refine Kept.seal ?_; intro v25)
    extract_lets -underBinder +onlyGivenNames v26
    have h27 : Kept M s0 v26 := by
      unfold v26
      refine kept_ite ?_ ?_
      · refine Kept.addF (hm.bit 1 rfl) (reach_CLR_POISONED (hm.bit 136 rfl)) ?_
        exact h0
      · exact h0
    (clear_value v26; revert v26; refine Kept.seal ?_; intro v26 h27)
    extract_lets -underBinder +onlyGivenNames v28
    have h29 : Kept M s0 v28 := by
      unfold v28
      (generalize q31 : (v26.repairLoc a r) = x30; revert x30; refine Kept.seal ?_; intro x30 q31)
      split
      · rename_i w32 w33
        refine kept_poisonGrain (hm.sub rfl) ?_
        exact h27
      · rename_i w34
        exact h27
    (clear_value v28; revert v28; refine Kept.seal ?_; intro v28 h29)
    refine kept_ledger (hm.sub rfl) ?_
    refine kept_dropRepair (hm.sub rfl) ?_
    exact h29

theorem kept_dramRepair {s : State} {a : PA} {ofHome : Bool} {reply : Option Bytes} {env : VaultEnv} (hm : Within 0x7009020200000018190700000000000000000109a001e0206 M) (h0 : Kept M s0 s) :
    Kept M s0 (State.dramRepair s a ofHome reply env) := by
  unfold State.dramRepair
  extract_lets -underBinder +onlyGivenNames v20
  (clear_value v20; revert v20; refine Kept.seal ?_; intro v20)
  (generalize q22 : (List.find? (fun r ↦ r.grain == BitVec.toNat v20 && r.home == ofHome) s.integ.repairs) = x21; revert x21; refine Kept.seal ?_; intro x21 q22)
  split
  · rename_i w23
    exact h0
  · rename_i w24 w25
    refine kept_ite ?_ ?_
    · exact h0
    · extract_lets -underBinder +onlyGivenNames v26
      (clear_value v26; revert v26; refine Kept.seal ?_; intro v26)
      refine kept_ite ?_ ?_
      · refine kept_dropRepair (hm.sub rfl) ?_
        exact h0
      · extract_lets -underBinder +onlyGivenNames v27
        have h28 : KeptP M s0 v27 := by
          unfold v27
          refine keptp_ite ?_ ?_
          · refine kept_copyHome (hm.sub rfl) ?_
            exact h0
          · refine Kept.pair ?_
            exact h0
        (clear_value v27; revert v27; refine Kept.seal ?_; intro v27 h28)
        (generalize q30 : (v27.2) = x29; revert x29; refine Kept.seal ?_; intro x29 q30)
        split
        · rename_i w31 w32
          refine kept_repairGood (hm.sub rfl) ?_
          exact (KeptP.st h28)
        · rename_i w33 w34
          extract_lets -underBinder +onlyGivenNames v35
          have h36 : Kept M s0 v35 := by
            unfold v35
            exact (KeptP.st h28)
          extract_lets -underBinder +onlyGivenNames v37
          (clear_value v37; revert v37; refine Kept.seal ?_; intro v37)
          (generalize q39 : (if w25.step ≤ 2 then v35.copyPartner v20 reply else Sys2Proof.Machine.CopyRead.absent) = x38; revert x38; refine Kept.seal ?_; intro x38 q39)
          split
          · rename_i w40 w41
            refine kept_repairGood (hm.sub rfl) ?_
            exact h36
          · rename_i w42 w43
            (generalize q45 : (v35.copyVault v20 env w25.tag) = x44; revert x44; refine Kept.seal ?_; intro x44 q45)
            have h46 : KeptP M s0 x44 := by
              rw [← q45]
              refine kept_copyVault (hm.sub rfl) ?_
              exact h36
            split
            · rename_i w47 w48 w49
              refine kept_repairGood (hm.sub rfl) ?_
              exact (KeptP.st h46)
            · rename_i w50 w51 w52 w53
              refine kept_repairFailed (hm.sub rfl) ?_
              exact (KeptP.st h46)

theorem kept_blockSource {s : State} {u : ℕ} {r : SrcRec} {reply : Option (Bytes × List ℕ)} {env : VaultEnv} (hm : Within 0x700902020700c000191700000000000000000189a00de027e M) (h0 : Kept M s0 s) :
    KeptP M s0 (State.blockSource s u r reply env) := by
  unfold State.blockSource
  refine keptp_ite ?_ ?_
  · extract_lets -underBinder +onlyGivenNames v20
    (clear_value v20; revert v20; refine Kept.seal ?_; intro v20)
    extract_lets -underBinder +onlyGivenNames v21
    have h22 : KeptP M s0 v21 := by
      unfold v21
      refine keptp_ite ?_ ?_
      · refine kept_readStoredAny (hm.sub rfl) ?_
        exact h0
      · refine kept_readAny (hm.sub rfl) ?_
        exact h0
    (clear_value v21; revert v21; refine Kept.seal ?_; intro v21 h22)
    refine keptp_ite ?_ ?_
    · refine Kept.pair ?_
      exact (KeptP.st h22)
    · exact h22
  · split
    · rename_i w23 w24 w25
      refine Kept.pair ?_
      exact h0
    · rename_i w26
      refine Kept.pair ?_
      exact h0

theorem kept_rewriteBlock {s : State} {block : ℕ} {r : SrcRec} {bs : Bytes} {bad : List ℕ} (hm : Within 0x78 M) (h0 : Kept M s0 s) :
    Kept M s0 (State.rewriteBlock s block r bs bad) := by
  unfold State.rewriteBlock
  extract_lets -underBinder +onlyGivenNames v20
  have h21 : Kept M s0 v20 := by
    unfold v20
    refine Kept.in_stores (x := { s with storeParity := Sys2Proof.Sparse.clear (4096 * block) (4096 * block + 4096) s.storeParity }) (hm.bit 3 rfl) ?_ (Sparse.wf_putList)
    refine Kept.in_storeParity (hm.bit 5 rfl) ?_ (Sparse.wf_clear)
    exact h0
  (clear_value v20; revert v20; refine Kept.seal ?_; intro v20 h21)
  extract_lets -underBinder +onlyGivenNames v22
  have h23 : Kept M s0 v22 := by
    unfold v22
    refine kept_forEach ?_ ?_
    · intro y24 y25 h26
      refine kept_setStorePoison (hm.sub rfl) ?_
      exact h26
    · exact h21
  (clear_value v22; revert v22; refine Kept.seal ?_; intro v22 h23)
  refine kept_setSrcRec (hm.sub rfl) ?_
  exact h23

theorem kept_storeRefetch {s : State} {block : ℕ} {reply : Option (Bytes × List ℕ)} {env : VaultEnv} (hm : Within 0x700902020700c000191700060000000000000189a01de027e M) (h0 : Kept M s0 s) :
    Kept M s0 (State.storeRefetch s block reply env) := by
  unfold State.storeRefetch
  (generalize q21 : (s.srcRec block) = x20; revert x20; refine Kept.seal ?_; intro x20 q21)
  split
  · rename_i w22
    exact h0
  · rename_i w23 w24
    refine kept_ite ?_ ?_
    · exact h0
    · extract_lets -underBinder +onlyGivenNames v25
      (clear_value v25; revert v25; refine Kept.seal ?_; intro v25)
      extract_lets -underBinder +onlyGivenNames v26
      (clear_value v26; revert v26; refine Kept.seal ?_; intro v26)
      extract_lets -underBinder +onlyGivenNames v27
      have h28 : KeptP M s0 v27 := by
        unfold v27
        refine kept_blockSource (hm.sub rfl) ?_
        exact h0
      (clear_value v27; revert v27; refine Kept.seal ?_; intro v27 h28)
      refine kept_ite ?_ ?_
      · refine kept_readWaits (hm.sub rfl) ?_
        exact (KeptP.st h28)
      · extract_lets -underBinder +onlyGivenNames v29
        have h30 : Kept M s0 v29 := by
          unfold v29
          refine kept_rewriteBlock (hm.sub rfl) ?_
          exact (KeptP.st h28)
        (clear_value v29; revert v29; refine Kept.seal ?_; intro v29 h30)
        extract_lets -underBinder +onlyGivenNames v31
        have h32 : Kept M s0 v31 := by
          unfold v31
          refine kept_forEach ?_ ?_
          · intro y33 y34 h35
            refine kept_ledger (hm.sub rfl) ?_
            exact h35
          · exact h30
        (clear_value v31; revert v31; refine Kept.seal ?_; intro v31 h32)
        extract_lets -underBinder +onlyGivenNames v36
        have h37 : Kept M s0 v36 := by
          unfold v36
          refine kept_ite ?_ ?_
          · refine kept_ceEvent (hm.sub rfl) ?_
            exact h32
          · exact h32
        (clear_value v36; revert v36; refine Kept.seal ?_; intro v36 h37)
        refine kept_forEach ?_ ?_
        · intro y38 y39 h40
          refine kept_cxBreak (hm.sub rfl) ?_
          exact h40
        · exact h37

theorem kept_ceClear {s : State} {d : ℕ} (hm : Within 0x400000000000008000000000000002 M) (h0 : Kept M s0 s) :
    Kept M s0 (State.ceClear s d) := by
  unfold State.ceClear
  extract_lets -underBinder +onlyGivenNames v20
  have h21 : Kept M s0 v20 := by
    unfold v20
    refine Kept.clearRegs (hm.bit 1 rfl) (hm.bit 63 rfl) ?_
    exact h0
  (clear_value v20; revert v20; refine Kept.seal ?_; intro v20 h21)
  refine Kept.setF (hm.bit 1 rfl) (reach_LDG_STS (hm.bit 118 rfl)) ?_
  refine Kept.setF (hm.bit 1 rfl) (reach_LDG_STS (hm.bit 118 rfl)) ?_
  exact h21

theorem kept_headWrite {s : State} {d : ℕ} {v : ℕ} (hm : Within 0x100000000000000000000000000002 M) (h0 : Kept M s0 s) :
    Kept M s0 (State.headWrite s d v) := by
  unfold State.headWrite
  extract_lets -underBinder +onlyGivenNames v20
  extract_lets -underBinder +onlyGivenNames v21
  refine kept_ite ?_ ?_
  · refine Kept.setF (hm.bit 1 rfl) (reach_LDG_HEAD (hm.bit 116 rfl)) ?_
    exact h0
  · exact h0

theorem kept_mergeClose {s : State} {d : ℕ} (hm : Within 0x7000000000000000010700000000000000000109a00040202 M) (h0 : Kept M s0 s) :
    Kept M s0 (State.mergeClose s d) := by
  unfold State.mergeClose
  extract_lets -underBinder +onlyGivenNames v20
  (clear_value v20; revert v20; refine Kept.seal ?_; intro v20)
  extract_lets -underBinder +onlyGivenNames v21
  (clear_value v21; revert v21; refine Kept.seal ?_; intro v21)
  refine kept_forEach ?_ ?_
  · intro y22 y23 h24
    refine kept_closeMerge (hm.sub rfl) ?_
    exact h24
  · refine kept_setMerges (hm.sub rfl) ?_
    exact h0

theorem kept_setScrub {s : State} {c : ℕ} {x : Scrub} (hm : Within 0x40000 M) (h0 : Kept M s0 s) :
    Kept M s0 (State.setScrub s c x) := by
  unfold State.setScrub
  refine Kept.in_integ (hm.bit 18 rfl) ?_ (Kept.seal) (Sparse.wf_put)
  exact h0

theorem kept_newPass {s : State} {c : ℕ} {fast : Bool} (hm : Within 0x800000000000000000000000000040002 M) (h0 : Kept M s0 s) :
    Kept M s0 (State.newPass s c fast) := by
  unfold State.newPass
  refine Kept.setF (hm.bit 1 rfl) (reach_CLR_STS (hm.bit 131 rfl)) ?_
  refine kept_setScrub (hm.sub rfl) ?_
  exact h0

theorem kept_scrubbed {s : State} {c : ℕ} (hm : Within 0x3800000000000000000000000000040002 M) (h0 : Kept M s0 s) :
    Kept M s0 (State.scrubbed s c) := by
  unfold State.scrubbed
  extract_lets -underBinder +onlyGivenNames v20
  (clear_value v20; revert v20; refine Kept.seal ?_; intro v20)
  extract_lets -underBinder +onlyGivenNames v21
  (clear_value v21; revert v21; refine Kept.seal ?_; intro v21)
  extract_lets -underBinder +onlyGivenNames v22
  have h23 : Kept M s0 v22 := by
    unfold v22
    refine Kept.addF (hm.bit 1 rfl) (reach_CLR_GRAINS (hm.bit 133 rfl)) ?_
    exact h0
  (clear_value v22; revert v22; refine Kept.seal ?_; intro v22 h23)
  refine kept_ite ?_ ?_
  · refine kept_newPass (hm.sub rfl) ?_
    refine Kept.setF (hm.bit 1 rfl) (reach_CLR_LAST_PASS_END (hm.bit 132 rfl)) ?_
    refine Kept.addF (hm.bit 1 rfl) (reach_CLR_STS (hm.bit 131 rfl)) ?_
    exact h23
  · refine Kept.setF (hm.bit 1 rfl) (reach_CLR_STS (hm.bit 131 rfl)) ?_
    refine kept_setScrub (hm.sub rfl) ?_
    exact h23

theorem kept_scrubRead {s : State} {c : ℕ} {t : ScrubAt} (hm : Within 0x7000020200000027990700000000000000000109a000c0206 M) (h0 : Kept M s0 s) :
    Kept M s0 (State.scrubRead s c t) := by
  unfold State.scrubRead
  refine kept_ite ?_ ?_
  · exact h0
  · refine kept_ite ?_ ?_
    · refine Kept.setF (hm.bit 1 rfl) (reach_CLR_STS (hm.bit 131 rfl)) ?_
      exact h0
    · extract_lets -underBinder +onlyGivenNames v20
      have h21 : Kept M s0 v20 := by
        unfold v20
        refine Kept.setF (hm.bit 1 rfl) (reach_CLR_STS (hm.bit 131 rfl)) ?_
        exact h0
      (clear_value v20; revert v20; refine Kept.seal ?_; intro v20 h21)
      (generalize q23 : (v20.scrubLoc c t) = x22; revert x22; refine Kept.seal ?_; intro x22 q23)
      split
      · rename_i w24
        refine kept_scrubbed (hm.sub rfl) ?_
        exact h21
      · rename_i w25 w26 w27
        refine kept_ite ?_ ?_
        · exact h21
        · extract_lets -underBinder +onlyGivenNames v28
          have h29 : KeptP M s0 v28 := by
            unfold v28
            refine kept_readGrain (hm.sub rfl) ?_
            exact h21
          (clear_value v28; revert v28; refine Kept.seal ?_; intro v28 h29)
          extract_lets -underBinder +onlyGivenNames v30
          have h31 : Kept M s0 v30 := by
            unfold v30
            refine kept_scrubbed (hm.sub rfl) ?_
            refine kept_charge (hm.sub rfl) ?_
            exact (KeptP.st h29)
          (clear_value v30; revert v30; refine Kept.seal ?_; intro v30 h31)
          (generalize q33 : (v28.2.2) = x32; revert x32; refine Kept.seal ?_; intro x32 q33)
          split
          · rename_i w34
            exact h31
          · rename_i w35
            refine Kept.addF (hm.bit 1 rfl) (reach_CLR_CORRECTED (hm.bit 134 rfl)) ?_
            exact h31
          · rename_i w36
            split
            · rename_i w37 w38
              refine kept_ite ?_ ?_
              · refine kept_writeTags (hm.sub rfl) ?_
                exact h31
              · exact h31
            · rename_i w39 w40
              refine kept_startRepairFor (hm.sub rfl) ?_
              exact h31
          · rename_i w41 w42 w43 w44
            refine Kept.addF (hm.bit 1 rfl) (reach_CLR_MARKED_SKIPPED (hm.bit 137 rfl)) ?_
            exact h31

theorem kept_clrLate {s : State} {c : ℕ} (hm : Within 0x7000000000000000810700000000000000000109a00040202 M) (h0 : Kept M s0 s) :
    Kept M s0 (State.clrLate s c) := by
  unfold State.clrLate
  extract_lets -underBinder +onlyGivenNames v20
  (clear_value v20; revert v20; refine Kept.seal ?_; intro v20)
  refine kept_ite ?_ ?_
  · exact h0
  · refine kept_ledger (hm.sub rfl) ?_
    refine Kept.setF (hm.bit 1 rfl) (reach_CLR_STS (hm.bit 131 rfl)) ?_
    refine kept_setScrub (hm.sub rfl) ?_
    exact h0

theorem kept_passNow {s : State} (hm : Within 0x800000000000000000000000000040002 M) (h0 : Kept M s0 s) :
    Kept M s0 (State.passNow s) := by
  unfold State.passNow
  refine kept_forEach ?_ ?_
  · intro y20 y21 h22
    refine kept_newPass (hm.sub rfl) ?_
    exact h22
  · exact h0

theorem kept_flipArm {s : State} {tag : ℕ} {pre : ℕ} {off : ℕ} {unit : ℕ} {target : ℕ} (hm : Within 0x10000000000000000000000000000002 M) (h0 : Kept M s0 s) :
    Kept M s0 (State.flipArm s tag pre off unit target) := by
  unfold State.flipArm
  extract_lets -underBinder +onlyGivenNames v20
  have h21 : Kept M s0 v20 := by
    unfold v20
    refine Kept.setF (hm.bit 1 rfl) (reach_LDG_FLIP_SEL (hm.bit 124 rfl)) ?_
    refine Kept.setF (hm.bit 1 rfl) (reach_LDG_FLIP_SEL (hm.bit 124 rfl)) ?_
    refine Kept.setF (hm.bit 1 rfl) (reach_LDG_FLIP_SEL (hm.bit 124 rfl)) ?_
    exact h0
  (clear_value v20; revert v20; refine Kept.seal ?_; intro v20 h21)
  refine Kept.setF (hm.bit 1 rfl) (reach_LDG_FLIP_SEL (hm.bit 124 rfl)) ?_
  refine Kept.setF (hm.bit 1 rfl) (reach_LDG_FLIP_SEL (hm.bit 124 rfl)) ?_
  refine Kept.setF (hm.bit 1 rfl) (reach_LDG_FLIP_SEL (hm.bit 124 rfl)) ?_
  exact h21

theorem kept_execStoreRefetch {block : BitVec 20} {reply : Option (Bytes × List ℕ)} {env : VaultEnv} {s : State} (hm : Within 0x700902020700c000191700060000000000000189a01de027e M) (h0 : Kept M s0 s) :
    KeptE M s0 (execStoreRefetch block reply env s) := by
  unfold execStoreRefetch
  refine kepte_next ?_
  refine kept_storeRefetch (hm.sub rfl) ?_
  exact h0

theorem kept_execDramRepair {a : PA} {home : Bool} {reply : Option Bytes} {env : VaultEnv} {s : State} (hm : Within 0x10200000000800720902020708c01819170000000000000000018bb90de1a7e M) (h0 : Kept M s0 s) :
    KeptE M s0 (execDramRepair a home reply env s) := by
  unfold execDramRepair
  refine kepte_next ?_
  refine kept_drainWrites (hm.sub rfl) ?_
  refine kept_dramRepair (hm.sub rfl) ?_
  exact h0

theorem kept_execCeTableClear {d : Fin 2} {s : State} (hm : Within 0x400000000000008000000000000002 M) (h0 : Kept M s0 s) :
    KeptE M s0 (execCeTableClear d s) := by
  unfold execCeTableClear
  refine kepte_next ?_
  refine kept_ceClear (hm.sub rfl) ?_
  exact h0

theorem kept_execLedgerHeadWrite {d : Fin 2} {head : W32} {s : State} (hm : Within 0x100000000000000000000000000002 M) (h0 : Kept M s0 s) :
    KeptE M s0 (execLedgerHeadWrite d head s) := by
  unfold execLedgerHeadWrite
  refine kepte_next ?_
  refine kept_headWrite (hm.sub rfl) ?_
  exact h0

theorem kept_execMergeWindowClose {d : Fin 2} {s : State} (hm : Within 0x7000000000000000010700000000000000000109a00040202 M) (h0 : Kept M s0 s) :
    KeptE M s0 (execMergeWindowClose d s) := by
  unfold execMergeWindowClose
  refine kepte_next ?_
  refine kept_mergeClose (hm.sub rfl) ?_
  exact h0

theorem kept_execScrubRead {c : Fin 8} {t : ScrubAt} {s : State} (hm : Within 0x7000020200000027990700000000000000000109a000c0206 M) (h0 : Kept M s0 s) :
    KeptE M s0 (execScrubRead c t s) := by
  unfold execScrubRead
  refine kepte_next ?_
  refine kept_scrubRead (hm.sub rfl) ?_
  exact h0

theorem kept_execClrLate {c : Fin 8} {s : State} (hm : Within 0x7000000000000000810700000000000000000109a00040202 M) (h0 : Kept M s0 s) :
    KeptE M s0 (execClrLate c s) := by
  unfold execClrLate
  refine kepte_next ?_
  refine kept_clrLate (hm.sub rfl) ?_
  exact h0

theorem kept_execPassNow {s : State} (hm : Within 0x800000000000000000000000000040002 M) (h0 : Kept M s0 s) :
    KeptE M s0 (execPassNow s) := by
  unfold execPassNow
  refine kepte_next ?_
  refine kept_passNow (hm.sub rfl) ?_
  exact h0

theorem kept_execFlipArm {tag : Tag} {preCode : Bool} {offset : Fin 512} {unit : Fin 128} {target : Fin 16} {s : State} (hm : Within 0x10000000000000000000000000000002 M) (h0 : Kept M s0 s) :
    KeptE M s0 (execFlipArm tag preCode offset unit target s) := by
  unfold execFlipArm
  refine kepte_next ?_
  refine kept_flipArm (hm.sub rfl) ?_
  exact h0

end Sys2Proof.Machine
end

