-- ==== Sys2Proof/Laws/Kept/Endpoint.lean ====
section
/-! SUPPORT. What the operations of Endpoint may write: each keeps its footprint. -/

namespace Sys2Proof.Machine

variable {M : Nat} {s0 : State}

theorem kept_loadOver {s : State} (hm : Within 0x240000000000000000102 M) (h0 : Kept M s0 s) :
    Kept M s0 (State.loadOver s) := by
  unfold State.loadOver
  extract_lets -underBinder +onlyGivenNames v20
  have h21 : Kept M s0 v20 := by
    unfold v20
    refine Kept.setF (hm.bit 1 rfl) (reach_SIT_STATUS (hm.bit 81 rfl)) ?_
    refine Kept.setF (hm.bit 1 rfl) (reach_SIT_LOAD (hm.bit 78 rfl)) ?_
    exact h0
  (clear_value v20; revert v20; refine Kept.seal ?_; intro v20 h21)
  refine Kept.in_epoch (hm.bit 8 rfl) ?_
  exact h21

theorem kept_loadFails {s : State} {code : ℕ} {addr : ℕ} (hm : Within 0x7000000000000000010700000000240000000109a00040302 M) (h0 : Kept M s0 s) :
    Kept M s0 (State.loadFails s code addr) := by
  unfold State.loadFails
  refine kept_sitError (hm.sub rfl) ?_
  refine Kept.setF (hm.bit 1 rfl) (reach_SIT_STATUS (hm.bit 81 rfl)) ?_
  refine kept_loadOver (hm.sub rfl) ?_
  exact h0

theorem kept_hostLoadFails {s : State} (hm : Within 0x7000000000000000010700000000240000000109a00040302 M) (h0 : Kept M s0 s) :
    Kept M s0 (State.hostLoadFails s) := by
  unfold State.hostLoadFails
  (generalize q21 : (s.epoch.load) = x20; revert x20; refine Kept.seal ?_; intro x20 q21)
  split
  · rename_i w22 w23
    refine kept_ite ?_ ?_
    · refine kept_loadFails (hm.sub rfl) ?_
      exact h0
    · exact h0
  · rename_i w24
    exact h0

theorem kept_hostForgotten {s : State} (hm : Within 0x1000 M) (h0 : Kept M s0 s) :
    Kept M s0 (State.hostForgotten s) := by
  unfold State.hostForgotten
  refine Kept.in_opens (hm.bit 12 rfl) ?_ (fresh_map (fun o => by (try dsimp only); split <;> rfl))
  exact h0

theorem kept_endpointClear {s : State} (hm : Within 0x700000000000000001070000000024000800010ba00041302 M) (h0 : Kept M s0 s) :
    Kept M s0 (State.endpointClear s) := by
  unfold State.endpointClear
  extract_lets -underBinder +onlyGivenNames v20
  have h21 : Kept M s0 v20 := by
    unfold v20
    refine Kept.clearRegs (hm.bit 1 rfl) (hm.bit 63 rfl) ?_
    refine kept_hostForgotten (hm.sub rfl) ?_
    refine kept_hostLoadFails (hm.sub rfl) ?_
    exact h0
  (clear_value v20; revert v20; refine Kept.seal ?_; intro v20 h21)
  refine Kept.in_pep (x := { v20 with irq := [] }) (hm.bit 37 rfl) ?_ (fun _ => rfl) (fun _ => rfl) (fun _ => rfl)
  refine Kept.in_irq (hm.bit 39 rfl) ?_
  exact h21

theorem kept_endpointReset {s : State} {kind : ℕ} (hm : Within 0x40700000000000000001070000000024008800010ba00041302 M) (h0 : Kept M s0 s) :
    Kept M s0 (State.endpointReset s kind) := by
  unfold State.endpointReset
  extract_lets -underBinder +onlyGivenNames v20
  have h21 : Kept M s0 v20 := by
    unfold v20
    refine Kept.setF (hm.bit 1 rfl) (reach_AO_CAUSE (hm.bit 67 rfl)) ?_
    refine kept_endpointClear (hm.sub rfl) ?_
    exact h0
  (clear_value v20; revert v20; refine Kept.seal ?_; intro v20 h21)
  extract_lets -underBinder +onlyGivenNames v22
  have h23 : Kept M s0 v22 := by
    unfold v22
    refine kept_ite ?_ ?_
    · refine Kept.setF (hm.bit 1 rfl) (reach_PEP_STS (hm.bit 202 rfl)) ?_
      exact h21
    · exact h21
  (clear_value v22; revert v22; refine Kept.seal ?_; intro v22 h23)
  refine kept_ledger (hm.sub rfl) ?_
  refine kept_emit (hm.sub rfl) ?_
  exact h23

end Sys2Proof.Machine
end

