-- ==== Sys2Proof/Laws/Kept/Reset.lean ====
section
/-! SUPPORT. What the operations of Reset may write: each keeps its footprint. -/

namespace Sys2Proof.Machine

variable {M : Nat} {s0 : State}

theorem kept_setBoot {s : State} {b : Boot} (hm : Within 0x800000000 M) (h0 : Kept M s0 s) :
    Kept M s0 (State.setBoot s b) := by
  unfold State.setBoot
  refine Kept.in_boot (hm.bit 35 rfl) ?_
  exact h0

theorem kept_slotsKept {s : State} (hm : Within 0x80000000000000000000000000000100200002 M) (h0 : Kept M s0 s) :
    Kept M s0 (State.slotsKept s) := by
  unfold State.slotsKept
  extract_lets -underBinder +onlyGivenNames v20
  have h21 : Kept M s0 v20 := by
    unfold v20
    refine kept_forEach ?_ ?_
    · intro y22 y23 h24
      refine Kept.setF (hm.bit 1 rfl) (reach_MNT_SLOT_INFO (hm.bit 151 rfl)) ?_
      exact h24
    · exact h0
  (clear_value v20; revert v20; refine Kept.seal ?_; intro v20 h21)
  extract_lets -underBinder +onlyGivenNames v25
  have h26 : Kept M s0 v25 := by
    unfold v25
    refine kept_forEach ?_ ?_
    · intro y27 y28 h29
      extract_lets -underBinder +onlyGivenNames v30
      have h31 : Kept M s0 v30 := by
        unfold v30
        refine kept_ite ?_ ?_
        · refine Kept.setF (hm.bit 1 rfl) (reach_MNT_SLOT_INFO (hm.bit 151 rfl)) ?_
          exact h29
        · exact h29
      (clear_value v30; revert v30; refine Kept.seal ?_; intro v30 h31)
      refine Kept.setF (hm.bit 1 rfl) (reach_MNT_SLOT_INFO (hm.bit 151 rfl)) ?_
      exact h31
    · exact h21
  (clear_value v25; revert v25; refine Kept.seal ?_; intro v25 h26)
  refine Kept.in_installs (x := { v25 with mint := have __src := v25.mint;
{ alloc := __src.alloc, leaks := __src.leaks } }) (hm.bit 21 rfl) ?_
  refine Kept.in_mint (hm.bit 32 rfl) ?_ (Kept.seal)
  exact h26

theorem kept_deviceCleared {b0 : State} {keep : Bool} (hm : Within 0x8000000000000000000000a00009b7ffffdf82 M) (h0 : Kept M s0 b0) :
    Kept M s0 (State.deviceCleared b0 keep) := by
  unfold State.deviceCleared
  extract_lets -underBinder +onlyGivenNames v20
  have h21 : Kept M s0 v20 := by
    unfold v20
    refine kept_ite ?_ ?_
    · refine kept_slotsKept (hm.sub rfl) ?_
      exact h0
    · exact h0
  (clear_value v20; revert v20; refine Kept.seal ?_; intro v20 h21)
  refine Kept.in_regs (x := { v20 with fences := [], epoch := { }, ports := [], optics := [], tokens := [], opens := [], own := [], nextTxn := 0, sync := { }, canopy := { lines := if keep = Bool.true then v20.canopy.lines else [], decayAt := v20.count }, integ := { ring := v20.integ.ring, merge0 := v20.integ.merge0, merge1 := v20.integ.merge1, injected := v20.integ.injected, dirEcc := v20.integ.dirEcc }, dramCtl := { trained := if keep = Bool.true then v20.dramCtl.trained else [], selfRefresh := keep }, vault := have __src := v20.vault;
{ mem := __src.mem, poison := __src.poison, metas := __src.metas, seq := __src.seq, segs := __src.segs, blocks := __src.blocks, targets := __src.targets, opened := __src.opened, worn := __src.worn, ckpt := if keep = Bool.true then v20.vault.ckpt else [] }, installs := [], baseCache0 := [], baseCache1 := [], cores := [], accs := [], exacts := [], silent := { }, pair := { }, plans := [], stalls := [], pool := { }, mint := if keep = Bool.true then { alloc := v20.mint.alloc, leaks := v20.mint.leaks } else { }, tellers := { }, clocks := { }, mgmt := { fuses := v20.mgmt.fuses, nor := if v20.mgmt.norUpdate = Bool.true then Option.none else v20.mgmt.nor, norGen := if v20.mgmt.norUpdate = Bool.true then v20.free else v20.mgmt.norGen, ibiEnabled := v20.mgmt.ibiEnabled, ibiPending := v20.mgmt.ibiPending, i3cAddr := v20.mgmt.i3cAddr }, pep := { }, irq := [], deniedAt := [], free := v20.free + 1 }) (hm.bit 1 rfl) (hm.bit 63 rfl) ?_ (Sparse.wf_filter _)
  refine Kept.in_fences_clear (x := { v20 with epoch := { }, ports := [], optics := [], tokens := [], opens := [], own := [], nextTxn := 0, sync := { }, canopy := { lines := if keep = Bool.true then v20.canopy.lines else [], decayAt := v20.count }, integ := { ring := v20.integ.ring, merge0 := v20.integ.merge0, merge1 := v20.integ.merge1, injected := v20.integ.injected, dirEcc := v20.integ.dirEcc }, dramCtl := { trained := if keep = Bool.true then v20.dramCtl.trained else [], selfRefresh := keep }, vault := have __src := v20.vault;
{ mem := __src.mem, poison := __src.poison, metas := __src.metas, seq := __src.seq, segs := __src.segs, blocks := __src.blocks, targets := __src.targets, opened := __src.opened, worn := __src.worn, ckpt := if keep = Bool.true then v20.vault.ckpt else [] }, installs := [], baseCache0 := [], baseCache1 := [], cores := [], accs := [], exacts := [], silent := { }, pair := { }, plans := [], stalls := [], pool := { }, mint := if keep = Bool.true then { alloc := v20.mint.alloc, leaks := v20.mint.leaks } else { }, tellers := { }, clocks := { }, mgmt := { fuses := v20.mgmt.fuses, nor := if v20.mgmt.norUpdate = Bool.true then Option.none else v20.mgmt.nor, norGen := if v20.mgmt.norUpdate = Bool.true then v20.free else v20.mgmt.norGen, ibiEnabled := v20.mgmt.ibiEnabled, ibiPending := v20.mgmt.ibiPending, i3cAddr := v20.mgmt.i3cAddr }, pep := { }, irq := [], deniedAt := [], free := v20.free + 1 }) (hm.bit 7 rfl) (hm.bit 61 rfl) ?_
  refine Kept.in_epoch (x := { v20 with ports := [], optics := [], tokens := [], opens := [], own := [], nextTxn := 0, sync := { }, canopy := { lines := if keep = Bool.true then v20.canopy.lines else [], decayAt := v20.count }, integ := { ring := v20.integ.ring, merge0 := v20.integ.merge0, merge1 := v20.integ.merge1, injected := v20.integ.injected, dirEcc := v20.integ.dirEcc }, dramCtl := { trained := if keep = Bool.true then v20.dramCtl.trained else [], selfRefresh := keep }, vault := have __src := v20.vault;
{ mem := __src.mem, poison := __src.poison, metas := __src.metas, seq := __src.seq, segs := __src.segs, blocks := __src.blocks, targets := __src.targets, opened := __src.opened, worn := __src.worn, ckpt := if keep = Bool.true then v20.vault.ckpt else [] }, installs := [], baseCache0 := [], baseCache1 := [], cores := [], accs := [], exacts := [], silent := { }, pair := { }, plans := [], stalls := [], pool := { }, mint := if keep = Bool.true then { alloc := v20.mint.alloc, leaks := v20.mint.leaks } else { }, tellers := { }, clocks := { }, mgmt := { fuses := v20.mgmt.fuses, nor := if v20.mgmt.norUpdate = Bool.true then Option.none else v20.mgmt.nor, norGen := if v20.mgmt.norUpdate = Bool.true then v20.free else v20.mgmt.norGen, ibiEnabled := v20.mgmt.ibiEnabled, ibiPending := v20.mgmt.ibiPending, i3cAddr := v20.mgmt.i3cAddr }, pep := { }, irq := [], deniedAt := [], free := v20.free + 1 }) (hm.bit 8 rfl) ?_
  refine Kept.in_ports (x := { v20 with optics := [], tokens := [], opens := [], own := [], nextTxn := 0, sync := { }, canopy := { lines := if keep = Bool.true then v20.canopy.lines else [], decayAt := v20.count }, integ := { ring := v20.integ.ring, merge0 := v20.integ.merge0, merge1 := v20.integ.merge1, injected := v20.integ.injected, dirEcc := v20.integ.dirEcc }, dramCtl := { trained := if keep = Bool.true then v20.dramCtl.trained else [], selfRefresh := keep }, vault := have __src := v20.vault;
{ mem := __src.mem, poison := __src.poison, metas := __src.metas, seq := __src.seq, segs := __src.segs, blocks := __src.blocks, targets := __src.targets, opened := __src.opened, worn := __src.worn, ckpt := if keep = Bool.true then v20.vault.ckpt else [] }, installs := [], baseCache0 := [], baseCache1 := [], cores := [], accs := [], exacts := [], silent := { }, pair := { }, plans := [], stalls := [], pool := { }, mint := if keep = Bool.true then { alloc := v20.mint.alloc, leaks := v20.mint.leaks } else { }, tellers := { }, clocks := { }, mgmt := { fuses := v20.mgmt.fuses, nor := if v20.mgmt.norUpdate = Bool.true then Option.none else v20.mgmt.nor, norGen := if v20.mgmt.norUpdate = Bool.true then v20.free else v20.mgmt.norGen, ibiEnabled := v20.mgmt.ibiEnabled, ibiPending := v20.mgmt.ibiPending, i3cAddr := v20.mgmt.i3cAddr }, pep := { }, irq := [], deniedAt := [], free := v20.free + 1 }) (hm.bit 9 rfl) ?_ (fun _ => rfl)
  refine Kept.in_optics (x := { v20 with tokens := [], opens := [], own := [], nextTxn := 0, sync := { }, canopy := { lines := if keep = Bool.true then v20.canopy.lines else [], decayAt := v20.count }, integ := { ring := v20.integ.ring, merge0 := v20.integ.merge0, merge1 := v20.integ.merge1, injected := v20.integ.injected, dirEcc := v20.integ.dirEcc }, dramCtl := { trained := if keep = Bool.true then v20.dramCtl.trained else [], selfRefresh := keep }, vault := have __src := v20.vault;
{ mem := __src.mem, poison := __src.poison, metas := __src.metas, seq := __src.seq, segs := __src.segs, blocks := __src.blocks, targets := __src.targets, opened := __src.opened, worn := __src.worn, ckpt := if keep = Bool.true then v20.vault.ckpt else [] }, installs := [], baseCache0 := [], baseCache1 := [], cores := [], accs := [], exacts := [], silent := { }, pair := { }, plans := [], stalls := [], pool := { }, mint := if keep = Bool.true then { alloc := v20.mint.alloc, leaks := v20.mint.leaks } else { }, tellers := { }, clocks := { }, mgmt := { fuses := v20.mgmt.fuses, nor := if v20.mgmt.norUpdate = Bool.true then Option.none else v20.mgmt.nor, norGen := if v20.mgmt.norUpdate = Bool.true then v20.free else v20.mgmt.norGen, ibiEnabled := v20.mgmt.ibiEnabled, ibiPending := v20.mgmt.ibiPending, i3cAddr := v20.mgmt.i3cAddr }, pep := { }, irq := [], deniedAt := [], free := v20.free + 1 }) (hm.bit 10 rfl) ?_ (fun _ => rfl)
  refine Kept.in_tokens (x := { v20 with opens := [], own := [], nextTxn := 0, sync := { }, canopy := { lines := if keep = Bool.true then v20.canopy.lines else [], decayAt := v20.count }, integ := { ring := v20.integ.ring, merge0 := v20.integ.merge0, merge1 := v20.integ.merge1, injected := v20.integ.injected, dirEcc := v20.integ.dirEcc }, dramCtl := { trained := if keep = Bool.true then v20.dramCtl.trained else [], selfRefresh := keep }, vault := have __src := v20.vault;
{ mem := __src.mem, poison := __src.poison, metas := __src.metas, seq := __src.seq, segs := __src.segs, blocks := __src.blocks, targets := __src.targets, opened := __src.opened, worn := __src.worn, ckpt := if keep = Bool.true then v20.vault.ckpt else [] }, installs := [], baseCache0 := [], baseCache1 := [], cores := [], accs := [], exacts := [], silent := { }, pair := { }, plans := [], stalls := [], pool := { }, mint := if keep = Bool.true then { alloc := v20.mint.alloc, leaks := v20.mint.leaks } else { }, tellers := { }, clocks := { }, mgmt := { fuses := v20.mgmt.fuses, nor := if v20.mgmt.norUpdate = Bool.true then Option.none else v20.mgmt.nor, norGen := if v20.mgmt.norUpdate = Bool.true then v20.free else v20.mgmt.norGen, ibiEnabled := v20.mgmt.ibiEnabled, ibiPending := v20.mgmt.ibiPending, i3cAddr := v20.mgmt.i3cAddr }, pep := { }, irq := [], deniedAt := [], free := v20.free + 1 }) (hm.bit 11 rfl) ?_ (fun _ => rfl)
  refine Kept.in_opens (x := { v20 with own := [], nextTxn := 0, sync := { }, canopy := { lines := if keep = Bool.true then v20.canopy.lines else [], decayAt := v20.count }, integ := { ring := v20.integ.ring, merge0 := v20.integ.merge0, merge1 := v20.integ.merge1, injected := v20.integ.injected, dirEcc := v20.integ.dirEcc }, dramCtl := { trained := if keep = Bool.true then v20.dramCtl.trained else [], selfRefresh := keep }, vault := have __src := v20.vault;
{ mem := __src.mem, poison := __src.poison, metas := __src.metas, seq := __src.seq, segs := __src.segs, blocks := __src.blocks, targets := __src.targets, opened := __src.opened, worn := __src.worn, ckpt := if keep = Bool.true then v20.vault.ckpt else [] }, installs := [], baseCache0 := [], baseCache1 := [], cores := [], accs := [], exacts := [], silent := { }, pair := { }, plans := [], stalls := [], pool := { }, mint := if keep = Bool.true then { alloc := v20.mint.alloc, leaks := v20.mint.leaks } else { }, tellers := { }, clocks := { }, mgmt := { fuses := v20.mgmt.fuses, nor := if v20.mgmt.norUpdate = Bool.true then Option.none else v20.mgmt.nor, norGen := if v20.mgmt.norUpdate = Bool.true then v20.free else v20.mgmt.norGen, ibiEnabled := v20.mgmt.ibiEnabled, ibiPending := v20.mgmt.ibiPending, i3cAddr := v20.mgmt.i3cAddr }, pep := { }, irq := [], deniedAt := [], free := v20.free + 1 }) (hm.bit 12 rfl) ?_ (fresh_nil)
  refine Kept.in_own (x := { v20 with nextTxn := 0, sync := { }, canopy := { lines := if keep = Bool.true then v20.canopy.lines else [], decayAt := v20.count }, integ := { ring := v20.integ.ring, merge0 := v20.integ.merge0, merge1 := v20.integ.merge1, injected := v20.integ.injected, dirEcc := v20.integ.dirEcc }, dramCtl := { trained := if keep = Bool.true then v20.dramCtl.trained else [], selfRefresh := keep }, vault := have __src := v20.vault;
{ mem := __src.mem, poison := __src.poison, metas := __src.metas, seq := __src.seq, segs := __src.segs, blocks := __src.blocks, targets := __src.targets, opened := __src.opened, worn := __src.worn, ckpt := if keep = Bool.true then v20.vault.ckpt else [] }, installs := [], baseCache0 := [], baseCache1 := [], cores := [], accs := [], exacts := [], silent := { }, pair := { }, plans := [], stalls := [], pool := { }, mint := if keep = Bool.true then { alloc := v20.mint.alloc, leaks := v20.mint.leaks } else { }, tellers := { }, clocks := { }, mgmt := { fuses := v20.mgmt.fuses, nor := if v20.mgmt.norUpdate = Bool.true then Option.none else v20.mgmt.nor, norGen := if v20.mgmt.norUpdate = Bool.true then v20.free else v20.mgmt.norGen, ibiEnabled := v20.mgmt.ibiEnabled, ibiPending := v20.mgmt.ibiPending, i3cAddr := v20.mgmt.i3cAddr }, pep := { }, irq := [], deniedAt := [], free := v20.free + 1 }) (hm.bit 14 rfl) ?_
  refine Kept.in_nextTxn (x := { v20 with sync := { }, canopy := { lines := if keep = Bool.true then v20.canopy.lines else [], decayAt := v20.count }, integ := { ring := v20.integ.ring, merge0 := v20.integ.merge0, merge1 := v20.integ.merge1, injected := v20.integ.injected, dirEcc := v20.integ.dirEcc }, dramCtl := { trained := if keep = Bool.true then v20.dramCtl.trained else [], selfRefresh := keep }, vault := have __src := v20.vault;
{ mem := __src.mem, poison := __src.poison, metas := __src.metas, seq := __src.seq, segs := __src.segs, blocks := __src.blocks, targets := __src.targets, opened := __src.opened, worn := __src.worn, ckpt := if keep = Bool.true then v20.vault.ckpt else [] }, installs := [], baseCache0 := [], baseCache1 := [], cores := [], accs := [], exacts := [], silent := { }, pair := { }, plans := [], stalls := [], pool := { }, mint := if keep = Bool.true then { alloc := v20.mint.alloc, leaks := v20.mint.leaks } else { }, tellers := { }, clocks := { }, mgmt := { fuses := v20.mgmt.fuses, nor := if v20.mgmt.norUpdate = Bool.true then Option.none else v20.mgmt.nor, norGen := if v20.mgmt.norUpdate = Bool.true then v20.free else v20.mgmt.norGen, ibiEnabled := v20.mgmt.ibiEnabled, ibiPending := v20.mgmt.ibiPending, i3cAddr := v20.mgmt.i3cAddr }, pep := { }, irq := [], deniedAt := [], free := v20.free + 1 }) (hm.bit 15 rfl) ?_
  refine Kept.in_sync (x := { v20 with canopy := { lines := if keep = Bool.true then v20.canopy.lines else [], decayAt := v20.count }, integ := { ring := v20.integ.ring, merge0 := v20.integ.merge0, merge1 := v20.integ.merge1, injected := v20.integ.injected, dirEcc := v20.integ.dirEcc }, dramCtl := { trained := if keep = Bool.true then v20.dramCtl.trained else [], selfRefresh := keep }, vault := have __src := v20.vault;
{ mem := __src.mem, poison := __src.poison, metas := __src.metas, seq := __src.seq, segs := __src.segs, blocks := __src.blocks, targets := __src.targets, opened := __src.opened, worn := __src.worn, ckpt := if keep = Bool.true then v20.vault.ckpt else [] }, installs := [], baseCache0 := [], baseCache1 := [], cores := [], accs := [], exacts := [], silent := { }, pair := { }, plans := [], stalls := [], pool := { }, mint := if keep = Bool.true then { alloc := v20.mint.alloc, leaks := v20.mint.leaks } else { }, tellers := { }, clocks := { }, mgmt := { fuses := v20.mgmt.fuses, nor := if v20.mgmt.norUpdate = Bool.true then Option.none else v20.mgmt.nor, norGen := if v20.mgmt.norUpdate = Bool.true then v20.free else v20.mgmt.norGen, ibiEnabled := v20.mgmt.ibiEnabled, ibiPending := v20.mgmt.ibiPending, i3cAddr := v20.mgmt.i3cAddr }, pep := { }, irq := [], deniedAt := [], free := v20.free + 1 }) (hm.bit 16 rfl) ?_
  refine Kept.in_canopy (x := { v20 with integ := { ring := v20.integ.ring, merge0 := v20.integ.merge0, merge1 := v20.integ.merge1, injected := v20.integ.injected, dirEcc := v20.integ.dirEcc }, dramCtl := { trained := if keep = Bool.true then v20.dramCtl.trained else [], selfRefresh := keep }, vault := have __src := v20.vault;
{ mem := __src.mem, poison := __src.poison, metas := __src.metas, seq := __src.seq, segs := __src.segs, blocks := __src.blocks, targets := __src.targets, opened := __src.opened, worn := __src.worn, ckpt := if keep = Bool.true then v20.vault.ckpt else [] }, installs := [], baseCache0 := [], baseCache1 := [], cores := [], accs := [], exacts := [], silent := { }, pair := { }, plans := [], stalls := [], pool := { }, mint := if keep = Bool.true then { alloc := v20.mint.alloc, leaks := v20.mint.leaks } else { }, tellers := { }, clocks := { }, mgmt := { fuses := v20.mgmt.fuses, nor := if v20.mgmt.norUpdate = Bool.true then Option.none else v20.mgmt.nor, norGen := if v20.mgmt.norUpdate = Bool.true then v20.free else v20.mgmt.norGen, ibiEnabled := v20.mgmt.ibiEnabled, ibiPending := v20.mgmt.ibiPending, i3cAddr := v20.mgmt.i3cAddr }, pep := { }, irq := [], deniedAt := [], free := v20.free + 1 }) (hm.bit 17 rfl) ?_ (by dsimp only; split <;> first | exact Kept.seal | exact fun _ => rfl | exact Sparse.wf_put | exact Sparse.wf_drop | exact Sparse.wf_filter _) (fun _ => rfl) (fun _ => rfl) (fun _ => rfl)
  refine Kept.in_integ (x := { v20 with dramCtl := { trained := if keep = Bool.true then v20.dramCtl.trained else [], selfRefresh := keep }, vault := have __src := v20.vault;
{ mem := __src.mem, poison := __src.poison, metas := __src.metas, seq := __src.seq, segs := __src.segs, blocks := __src.blocks, targets := __src.targets, opened := __src.opened, worn := __src.worn, ckpt := if keep = Bool.true then v20.vault.ckpt else [] }, installs := [], baseCache0 := [], baseCache1 := [], cores := [], accs := [], exacts := [], silent := { }, pair := { }, plans := [], stalls := [], pool := { }, mint := if keep = Bool.true then { alloc := v20.mint.alloc, leaks := v20.mint.leaks } else { }, tellers := { }, clocks := { }, mgmt := { fuses := v20.mgmt.fuses, nor := if v20.mgmt.norUpdate = Bool.true then Option.none else v20.mgmt.nor, norGen := if v20.mgmt.norUpdate = Bool.true then v20.free else v20.mgmt.norGen, ibiEnabled := v20.mgmt.ibiEnabled, ibiPending := v20.mgmt.ibiPending, i3cAddr := v20.mgmt.i3cAddr }, pep := { }, irq := [], deniedAt := [], free := v20.free + 1 }) (hm.bit 18 rfl) ?_ (Kept.seal) (fun _ => rfl)
  refine Kept.in_dramCtl (x := { v20 with vault := have __src := v20.vault;
{ mem := __src.mem, poison := __src.poison, metas := __src.metas, seq := __src.seq, segs := __src.segs, blocks := __src.blocks, targets := __src.targets, opened := __src.opened, worn := __src.worn, ckpt := if keep = Bool.true then v20.vault.ckpt else [] }, installs := [], baseCache0 := [], baseCache1 := [], cores := [], accs := [], exacts := [], silent := { }, pair := { }, plans := [], stalls := [], pool := { }, mint := if keep = Bool.true then { alloc := v20.mint.alloc, leaks := v20.mint.leaks } else { }, tellers := { }, clocks := { }, mgmt := { fuses := v20.mgmt.fuses, nor := if v20.mgmt.norUpdate = Bool.true then Option.none else v20.mgmt.nor, norGen := if v20.mgmt.norUpdate = Bool.true then v20.free else v20.mgmt.norGen, ibiEnabled := v20.mgmt.ibiEnabled, ibiPending := v20.mgmt.ibiPending, i3cAddr := v20.mgmt.i3cAddr }, pep := { }, irq := [], deniedAt := [], free := v20.free + 1 }) (hm.bit 19 rfl) ?_ (fun _ => rfl) (fun _ => rfl) (fun _ => rfl) (fun _ => rfl) (fun _ => rfl) (by dsimp only; split <;> first | exact Kept.seal | exact fun _ => rfl | exact Sparse.wf_put | exact Sparse.wf_drop | exact Sparse.wf_filter _) (fun _ => rfl)
  refine Kept.in_vault (x := { v20 with installs := [], baseCache0 := [], baseCache1 := [], cores := [], accs := [], exacts := [], silent := { }, pair := { }, plans := [], stalls := [], pool := { }, mint := if keep = Bool.true then { alloc := v20.mint.alloc, leaks := v20.mint.leaks } else { }, tellers := { }, clocks := { }, mgmt := { fuses := v20.mgmt.fuses, nor := if v20.mgmt.norUpdate = Bool.true then Option.none else v20.mgmt.nor, norGen := if v20.mgmt.norUpdate = Bool.true then v20.free else v20.mgmt.norGen, ibiEnabled := v20.mgmt.ibiEnabled, ibiPending := v20.mgmt.ibiPending, i3cAddr := v20.mgmt.i3cAddr }, pep := { }, irq := [], deniedAt := [], free := v20.free + 1 }) (hm.bit 20 rfl) ?_ (Kept.seal) (Kept.seal) (Kept.seal) (Kept.seal) (Kept.seal) (Kept.seal) (by dsimp only; split <;> first | exact Kept.seal | exact fun _ => rfl | exact Sparse.wf_put | exact Sparse.wf_drop | exact Sparse.wf_filter _)
  refine Kept.in_installs (x := { v20 with baseCache0 := [], baseCache1 := [], cores := [], accs := [], exacts := [], silent := { }, pair := { }, plans := [], stalls := [], pool := { }, mint := if keep = Bool.true then { alloc := v20.mint.alloc, leaks := v20.mint.leaks } else { }, tellers := { }, clocks := { }, mgmt := { fuses := v20.mgmt.fuses, nor := if v20.mgmt.norUpdate = Bool.true then Option.none else v20.mgmt.nor, norGen := if v20.mgmt.norUpdate = Bool.true then v20.free else v20.mgmt.norGen, ibiEnabled := v20.mgmt.ibiEnabled, ibiPending := v20.mgmt.ibiPending, i3cAddr := v20.mgmt.i3cAddr }, pep := { }, irq := [], deniedAt := [], free := v20.free + 1 }) (hm.bit 21 rfl) ?_
  refine Kept.in_baseCache0 (x := { v20 with baseCache1 := [], cores := [], accs := [], exacts := [], silent := { }, pair := { }, plans := [], stalls := [], pool := { }, mint := if keep = Bool.true then { alloc := v20.mint.alloc, leaks := v20.mint.leaks } else { }, tellers := { }, clocks := { }, mgmt := { fuses := v20.mgmt.fuses, nor := if v20.mgmt.norUpdate = Bool.true then Option.none else v20.mgmt.nor, norGen := if v20.mgmt.norUpdate = Bool.true then v20.free else v20.mgmt.norGen, ibiEnabled := v20.mgmt.ibiEnabled, ibiPending := v20.mgmt.ibiPending, i3cAddr := v20.mgmt.i3cAddr }, pep := { }, irq := [], deniedAt := [], free := v20.free + 1 }) (hm.bit 22 rfl) ?_
  refine Kept.in_baseCache1 (x := { v20 with cores := [], accs := [], exacts := [], silent := { }, pair := { }, plans := [], stalls := [], pool := { }, mint := if keep = Bool.true then { alloc := v20.mint.alloc, leaks := v20.mint.leaks } else { }, tellers := { }, clocks := { }, mgmt := { fuses := v20.mgmt.fuses, nor := if v20.mgmt.norUpdate = Bool.true then Option.none else v20.mgmt.nor, norGen := if v20.mgmt.norUpdate = Bool.true then v20.free else v20.mgmt.norGen, ibiEnabled := v20.mgmt.ibiEnabled, ibiPending := v20.mgmt.ibiPending, i3cAddr := v20.mgmt.i3cAddr }, pep := { }, irq := [], deniedAt := [], free := v20.free + 1 }) (hm.bit 23 rfl) ?_
  refine Kept.in_cores (x := { v20 with accs := [], exacts := [], silent := { }, pair := { }, plans := [], stalls := [], pool := { }, mint := if keep = Bool.true then { alloc := v20.mint.alloc, leaks := v20.mint.leaks } else { }, tellers := { }, clocks := { }, mgmt := { fuses := v20.mgmt.fuses, nor := if v20.mgmt.norUpdate = Bool.true then Option.none else v20.mgmt.nor, norGen := if v20.mgmt.norUpdate = Bool.true then v20.free else v20.mgmt.norGen, ibiEnabled := v20.mgmt.ibiEnabled, ibiPending := v20.mgmt.ibiPending, i3cAddr := v20.mgmt.i3cAddr }, pep := { }, irq := [], deniedAt := [], free := v20.free + 1 }) (hm.bit 24 rfl) ?_ (fun _ => rfl)
  refine Kept.in_accs (x := { v20 with exacts := [], silent := { }, pair := { }, plans := [], stalls := [], pool := { }, mint := if keep = Bool.true then { alloc := v20.mint.alloc, leaks := v20.mint.leaks } else { }, tellers := { }, clocks := { }, mgmt := { fuses := v20.mgmt.fuses, nor := if v20.mgmt.norUpdate = Bool.true then Option.none else v20.mgmt.nor, norGen := if v20.mgmt.norUpdate = Bool.true then v20.free else v20.mgmt.norGen, ibiEnabled := v20.mgmt.ibiEnabled, ibiPending := v20.mgmt.ibiPending, i3cAddr := v20.mgmt.i3cAddr }, pep := { }, irq := [], deniedAt := [], free := v20.free + 1 }) (hm.bit 25 rfl) ?_ (fun _ => rfl)
  refine Kept.in_exacts (x := { v20 with silent := { }, pair := { }, plans := [], stalls := [], pool := { }, mint := if keep = Bool.true then { alloc := v20.mint.alloc, leaks := v20.mint.leaks } else { }, tellers := { }, clocks := { }, mgmt := { fuses := v20.mgmt.fuses, nor := if v20.mgmt.norUpdate = Bool.true then Option.none else v20.mgmt.nor, norGen := if v20.mgmt.norUpdate = Bool.true then v20.free else v20.mgmt.norGen, ibiEnabled := v20.mgmt.ibiEnabled, ibiPending := v20.mgmt.ibiPending, i3cAddr := v20.mgmt.i3cAddr }, pep := { }, irq := [], deniedAt := [], free := v20.free + 1 }) (hm.bit 26 rfl) ?_ (fun _ => rfl)
  refine Kept.in_silent (x := { v20 with pair := { }, plans := [], stalls := [], pool := { }, mint := if keep = Bool.true then { alloc := v20.mint.alloc, leaks := v20.mint.leaks } else { }, tellers := { }, clocks := { }, mgmt := { fuses := v20.mgmt.fuses, nor := if v20.mgmt.norUpdate = Bool.true then Option.none else v20.mgmt.nor, norGen := if v20.mgmt.norUpdate = Bool.true then v20.free else v20.mgmt.norGen, ibiEnabled := v20.mgmt.ibiEnabled, ibiPending := v20.mgmt.ibiPending, i3cAddr := v20.mgmt.i3cAddr }, pep := { }, irq := [], deniedAt := [], free := v20.free + 1 }) (hm.bit 27 rfl) ?_ (fun _ => rfl) (fun _ => rfl)
  refine Kept.in_pair (x := { v20 with plans := [], stalls := [], pool := { }, mint := if keep = Bool.true then { alloc := v20.mint.alloc, leaks := v20.mint.leaks } else { }, tellers := { }, clocks := { }, mgmt := { fuses := v20.mgmt.fuses, nor := if v20.mgmt.norUpdate = Bool.true then Option.none else v20.mgmt.nor, norGen := if v20.mgmt.norUpdate = Bool.true then v20.free else v20.mgmt.norGen, ibiEnabled := v20.mgmt.ibiEnabled, ibiPending := v20.mgmt.ibiPending, i3cAddr := v20.mgmt.i3cAddr }, pep := { }, irq := [], deniedAt := [], free := v20.free + 1 }) (hm.bit 28 rfl) ?_
  refine Kept.in_plans (x := { v20 with stalls := [], pool := { }, mint := if keep = Bool.true then { alloc := v20.mint.alloc, leaks := v20.mint.leaks } else { }, tellers := { }, clocks := { }, mgmt := { fuses := v20.mgmt.fuses, nor := if v20.mgmt.norUpdate = Bool.true then Option.none else v20.mgmt.nor, norGen := if v20.mgmt.norUpdate = Bool.true then v20.free else v20.mgmt.norGen, ibiEnabled := v20.mgmt.ibiEnabled, ibiPending := v20.mgmt.ibiPending, i3cAddr := v20.mgmt.i3cAddr }, pep := { }, irq := [], deniedAt := [], free := v20.free + 1 }) (hm.bit 29 rfl) ?_
  refine Kept.in_stalls (x := { v20 with pool := { }, mint := if keep = Bool.true then { alloc := v20.mint.alloc, leaks := v20.mint.leaks } else { }, tellers := { }, clocks := { }, mgmt := { fuses := v20.mgmt.fuses, nor := if v20.mgmt.norUpdate = Bool.true then Option.none else v20.mgmt.nor, norGen := if v20.mgmt.norUpdate = Bool.true then v20.free else v20.mgmt.norGen, ibiEnabled := v20.mgmt.ibiEnabled, ibiPending := v20.mgmt.ibiPending, i3cAddr := v20.mgmt.i3cAddr }, pep := { }, irq := [], deniedAt := [], free := v20.free + 1 }) (hm.bit 30 rfl) ?_
  refine Kept.in_pool (x := { v20 with mint := if keep = Bool.true then { alloc := v20.mint.alloc, leaks := v20.mint.leaks } else { }, tellers := { }, clocks := { }, mgmt := { fuses := v20.mgmt.fuses, nor := if v20.mgmt.norUpdate = Bool.true then Option.none else v20.mgmt.nor, norGen := if v20.mgmt.norUpdate = Bool.true then v20.free else v20.mgmt.norGen, ibiEnabled := v20.mgmt.ibiEnabled, ibiPending := v20.mgmt.ibiPending, i3cAddr := v20.mgmt.i3cAddr }, pep := { }, irq := [], deniedAt := [], free := v20.free + 1 }) (hm.bit 31 rfl) ?_ (fun _ => rfl) (fun _ => rfl) (fun _ => rfl)
  refine Kept.in_mint (x := { v20 with tellers := { }, clocks := { }, mgmt := { fuses := v20.mgmt.fuses, nor := if v20.mgmt.norUpdate = Bool.true then Option.none else v20.mgmt.nor, norGen := if v20.mgmt.norUpdate = Bool.true then v20.free else v20.mgmt.norGen, ibiEnabled := v20.mgmt.ibiEnabled, ibiPending := v20.mgmt.ibiPending, i3cAddr := v20.mgmt.i3cAddr }, pep := { }, irq := [], deniedAt := [], free := v20.free + 1 }) (hm.bit 32 rfl) ?_ (by dsimp only; split <;> first | exact Kept.seal | exact fun _ => rfl | exact Sparse.wf_put | exact Sparse.wf_drop | exact Sparse.wf_filter _)
  refine Kept.in_tellers (x := { v20 with clocks := { }, mgmt := { fuses := v20.mgmt.fuses, nor := if v20.mgmt.norUpdate = Bool.true then Option.none else v20.mgmt.nor, norGen := if v20.mgmt.norUpdate = Bool.true then v20.free else v20.mgmt.norGen, ibiEnabled := v20.mgmt.ibiEnabled, ibiPending := v20.mgmt.ibiPending, i3cAddr := v20.mgmt.i3cAddr }, pep := { }, irq := [], deniedAt := [], free := v20.free + 1 }) (hm.bit 33 rfl) ?_ (fun _ => rfl) (fun _ => rfl)
  refine Kept.in_clocks (x := { v20 with mgmt := { fuses := v20.mgmt.fuses, nor := if v20.mgmt.norUpdate = Bool.true then Option.none else v20.mgmt.nor, norGen := if v20.mgmt.norUpdate = Bool.true then v20.free else v20.mgmt.norGen, ibiEnabled := v20.mgmt.ibiEnabled, ibiPending := v20.mgmt.ibiPending, i3cAddr := v20.mgmt.i3cAddr }, pep := { }, irq := [], deniedAt := [], free := v20.free + 1 }) (hm.bit 34 rfl) ?_
  refine Kept.in_mgmt (x := { v20 with pep := { }, irq := [], deniedAt := [], free := v20.free + 1 }) (hm.bit 36 rfl) ?_
  refine Kept.in_pep (x := { v20 with irq := [], deniedAt := [], free := v20.free + 1 }) (hm.bit 37 rfl) ?_ (fun _ => rfl) (fun _ => rfl) (fun _ => rfl)
  refine Kept.in_irq (x := { v20 with deniedAt := [], free := v20.free + 1 }) (hm.bit 39 rfl) ?_
  refine Kept.in_deniedAt (x := { v20 with free := v20.free + 1 }) (hm.bit 40 rfl) ?_ (fun _ => rfl)
  refine Kept.in_free (hm.bit 43 rfl) ?_
  exact h21

theorem kept_stepStarts {s : State} {k : ℕ} (hm : Within 0x21000000000800000002 M) (h0 : Kept M s0 s) :
    Kept M s0 (State.stepStarts s k) := by
  unfold State.stepStarts
  extract_lets -underBinder +onlyGivenNames v20
  have h21 : Kept M s0 v20 := by
    unfold v20
    refine Kept.setF (hm.bit 1 rfl) (reach_AO_BOOT_STEP (hm.bit 77 rfl)) ?_
    refine Kept.setF (hm.bit 1 rfl) (reach_AO_BOOT (hm.bit 72 rfl)) ?_
    exact h0
  (clear_value v20; revert v20; refine Kept.seal ?_; intro v20 h21)
  refine kept_setBoot (hm.sub rfl) ?_
  exact h21

theorem kept_noProgress {s : State} (hm : Within 0x20000000000000000002 M) (h0 : Kept M s0 s) :
    Kept M s0 (State.noProgress s) := by
  unfold State.noProgress
  refine kept_forEach ?_ ?_
  · intro y20 y21 h22
    refine Kept.setF (hm.bit 1 rfl) (reach_AO_BOOT_STEP (hm.bit 77 rfl)) ?_
    exact h22
  · exact h0

theorem kept_beginAttempt {s : State} (hm : Within 0x21000000000800000002 M) (h0 : Kept M s0 s) :
    Kept M s0 (State.beginAttempt s) := by
  unfold State.beginAttempt
  extract_lets -underBinder +onlyGivenNames v20
  have h21 : Kept M s0 v20 := by
    unfold v20
    refine Kept.setF (hm.bit 1 rfl) (reach_AO_BOOT (hm.bit 72 rfl)) ?_
    exact h0
  (clear_value v20; revert v20; refine Kept.seal ?_; intro v20 h21)
  extract_lets -underBinder +onlyGivenNames v22
  have h23 : Kept M s0 v22 := by
    unfold v22
    refine Kept.setF (hm.bit 1 rfl) (reach_AO_BOOT (hm.bit 72 rfl)) ?_
    exact h21
  (clear_value v22; revert v22; refine Kept.seal ?_; intro v22 h23)
  refine kept_stepStarts (hm.sub rfl) ?_
  refine kept_noProgress (hm.sub rfl) ?_
  exact h23

theorem kept_releaseReset {s : State} (hm : Within 0x21000000000800000002 M) (h0 : Kept M s0 s) :
    Kept M s0 (State.releaseReset s) := by
  unfold State.releaseReset
  refine kept_ite ?_ ?_
  · exact h0
  · refine kept_beginAttempt (hm.sub rfl) ?_
    exact h0

theorem kept_assertReset {s : State} {keep : Bool} (hm : Within 0x200000000000000000000008000000000000000002148a00019bfffffdf82 M) (h0 : Kept M s0 s) :
    Kept M s0 (State.assertReset s keep) := by
  unfold State.assertReset
  extract_lets -underBinder +onlyGivenNames v20
  (clear_value v20; revert v20; refine Kept.seal ?_; intro v20)
  extract_lets -underBinder +onlyGivenNames v21
  have h22 : Kept M s0 v21 := by
    unfold v21
    refine kept_forEach ?_ ?_
    · intro y23 y24 h25
      refine kept_emit (hm.sub rfl) ?_
      exact h25
    · exact h0
  (clear_value v21; revert v21; refine Kept.seal ?_; intro v21 h22)
  extract_lets -underBinder +onlyGivenNames v26
  have h27 : Kept M s0 v26 := by
    unfold v26
    refine Kept.setF (hm.bit 1 rfl) (reach_AO_CAUSE (hm.bit 67 rfl)) ?_
    exact h22
  (clear_value v26; revert v26; refine Kept.seal ?_; intro v26 h27)
  extract_lets -underBinder +onlyGivenNames v28
  have h29 : Kept M s0 v28 := by
    unfold v28
    refine kept_ite ?_ ?_
    · exact h27
    · refine Kept.setF (hm.bit 1 rfl) (reach_AO_BOOT (hm.bit 72 rfl)) ?_
      exact h27
  (clear_value v28; revert v28; refine Kept.seal ?_; intro v28 h29)
  extract_lets -underBinder +onlyGivenNames v30
  (clear_value v30; revert v30; refine Kept.seal ?_; intro v30)
  extract_lets -underBinder +onlyGivenNames v31
  have h32 : Kept M s0 v31 := by
    unfold v31
    refine kept_deviceCleared (hm.sub rfl) ?_
    exact h29
  (clear_value v31; revert v31; refine Kept.seal ?_; intro v31 h32)
  extract_lets -underBinder +onlyGivenNames v33
  have h34 : Kept M s0 v33 := by
    unfold v33
    refine kept_ite ?_ ?_
    · refine Kept.setF (hm.bit 1 rfl) (reach_PAIR_STS (hm.bit 241 rfl)) ?_
      exact h32
    · exact h32
  (clear_value v33; revert v33; refine Kept.seal ?_; intro v33 h34)
  extract_lets -underBinder +onlyGivenNames v35
  (clear_value v35; revert v35; refine Kept.seal ?_; intro v35)
  extract_lets -underBinder +onlyGivenNames v36
  have h37 : Kept M s0 v36 := by
    unfold v36
    refine kept_setBoot (hm.sub rfl) ?_
    exact h34
  (clear_value v36; revert v36; refine Kept.seal ?_; intro v36 h37)
  extract_lets -underBinder +onlyGivenNames v38
  have h39 : Kept M s0 v38 := by
    unfold v38
    refine Kept.setF (hm.bit 1 rfl) (reach_AO_BOOT (hm.bit 72 rfl)) ?_
    refine Kept.setF (hm.bit 1 rfl) (reach_AO_BLK_RST (hm.bit 70 rfl)) ?_
    exact h37
  (clear_value v38; revert v38; refine Kept.seal ?_; intro v38 h39)
  refine kept_releaseReset (hm.sub rfl) ?_
  refine kept_noProgress (hm.sub rfl) ?_
  refine Kept.setF (hm.bit 1 rfl) (reach_AO_BOOT (hm.bit 72 rfl)) ?_
  exact h39

theorem kept_deviceReset {s : State} {r : RstSource} {wantKeep : Bool} (hm : Within 0x200000000000000000000008000000000000000002148a00019bfffffdf82 M) (h0 : Kept M s0 s) :
    Kept M s0 (State.deviceReset s r wantKeep) := by
  unfold State.deviceReset
  extract_lets -underBinder +onlyGivenNames v20
  have h21 : Kept M s0 v20 := by
    unfold v20
    refine Kept.setF (hm.bit 1 rfl) (reach_cause (hm.bit 67 rfl)) ?_
    exact h0
  (clear_value v20; revert v20; refine Kept.seal ?_; intro v20 h21)
  extract_lets -underBinder +onlyGivenNames v22
  (clear_value v22; revert v22; refine Kept.seal ?_; intro v22)
  extract_lets -underBinder +onlyGivenNames v23
  (clear_value v23; revert v23; refine Kept.seal ?_; intro v23)
  extract_lets -underBinder +onlyGivenNames v24
  (clear_value v24; revert v24; refine Kept.seal ?_; intro v24)
  refine kept_ite ?_ ?_
  · refine kept_ite ?_ ?_
    · refine kept_setBoot (hm.sub rfl) ?_
      exact h21
    · refine kept_assertReset (hm.sub rfl) ?_
      refine kept_setBoot (hm.sub rfl) ?_
      exact h21
  · extract_lets -underBinder +onlyGivenNames v25
    (clear_value v25; revert v25; refine Kept.seal ?_; intro v25)
    extract_lets -underBinder +onlyGivenNames v26
    have h27 : Kept M s0 v26 := by
      unfold v26
      refine kept_setBoot (hm.sub rfl) ?_
      exact h21
    (clear_value v26; revert v26; refine Kept.seal ?_; intro v26 h27)
    refine kept_ite ?_ ?_
    · refine kept_assertReset (hm.sub rfl) ?_
      exact h27
    · refine kept_ite ?_ ?_
      · refine kept_assertReset (hm.sub rfl) ?_
        exact h27
      · extract_lets -underBinder +onlyGivenNames v28
        extract_lets -underBinder +onlyGivenNames v29
        have h30 : Kept M s0 v29 := by
          unfold v29
          refine Kept.in_dramCtl (hm.bit 19 rfl) ?_ (Kept.seal) (Kept.seal) (Kept.seal) (Kept.seal) (Kept.seal) (Kept.seal) (Kept.seal)
          exact h27
        (clear_value v29; revert v29; refine Kept.seal ?_; intro v29 h30)
        refine kept_setBoot (hm.sub rfl) ?_
        exact h30

theorem kept_selfRefreshReady {s : State} {c : ℕ} (hm : Within 0x200000000000000001010008000000000000000002148a00019bfffffdf82 M) (h0 : Kept M s0 s) :
    Kept M s0 (State.selfRefreshReady s c) := by
  unfold State.selfRefreshReady
  refine kept_ite ?_ ?_
  · exact h0
  · extract_lets -underBinder +onlyGivenNames v20
    extract_lets -underBinder +onlyGivenNames v21
    have h22 : Kept M s0 v21 := by
      unfold v21
      refine Kept.in_dramCtl (hm.bit 19 rfl) ?_ (Kept.seal) (Kept.seal) (Kept.seal) (Kept.seal) (Kept.seal) (Kept.seal) (Kept.seal)
      exact h0
    (clear_value v21; revert v21; refine Kept.seal ?_; intro v21 h22)
    extract_lets -underBinder +onlyGivenNames v23
    have h24 : Kept M s0 v23 := by
      unfold v23
      refine Kept.setF (hm.bit 1 rfl) (reach_CAN_DSTS (hm.bit 164 rfl)) ?_
      exact h22
    (clear_value v23; revert v23; refine Kept.seal ?_; intro v23 h24)
    extract_lets -underBinder +onlyGivenNames v25
    have h26 : Kept M s0 v25 := by
      unfold v25
      refine kept_forEach ?_ ?_
      · intro y27 y28 h29
        refine Kept.setF (hm.bit 1 rfl) (reach_UND_STS (hm.bit 172 rfl)) ?_
        exact h29
      · exact h24
    (clear_value v25; revert v25; refine Kept.seal ?_; intro v25 h26)
    refine kept_ite ?_ ?_
    · refine kept_assertReset (hm.sub rfl) ?_
      exact h26
    · exact h26

theorem kept_keepFailed {s : State} (hm : Within 0x200000000000700000000008000001070000000002148a00019bfffffdf82 M) (h0 : Kept M s0 s) :
    Kept M s0 (State.keepFailed s) := by
  unfold State.keepFailed
  (generalize q21 : (s.boot.shake) = x20; revert x20; refine Kept.seal ?_; intro x20 q21)
  split
  · rename_i w22
    exact h0
  · rename_i w23 w24
    extract_lets -underBinder +onlyGivenNames v25
    (clear_value v25; revert v25; refine Kept.seal ?_; intro v25)
    refine kept_ite ?_ ?_
    · exact h0
    · extract_lets -underBinder +onlyGivenNames v26
      have h27 : Kept M s0 v26 := by
        unfold v26
        refine kept_ledger (hm.sub rfl) ?_
        exact h0
      (clear_value v26; revert v26; refine Kept.seal ?_; intro v26 h27)
      refine kept_assertReset (hm.sub rfl) ?_
      refine Kept.setF (hm.bit 1 rfl) (reach_AO_BOOT (hm.bit 72 rfl)) ?_
      exact h27

theorem kept_powerOn {s : State} {bootSrc : ℕ} {clkMode : ℕ} {nor : Bytes} {hrstLow : Bool} {perstLow : Bool} (hm : Within 0x2180b00001ffffffdfff M) (h0 : Kept M s0 s) :
    Kept M s0 (State.powerOn s bootSrc clkMode nor hrstLow perstLow) := by
  unfold State.powerOn
  extract_lets -underBinder +onlyGivenNames v20
  extract_lets -underBinder +onlyGivenNames v21
  have h22 : Kept M s0 v21 := by
    unfold v21
    refine Kept.in_count_back (x := { s with regs := [], dram := [], stores := [], storePoison := [], storeParity := [], srcRecs := [], fences := [], epoch := { }, ports := [], optics := [], tokens := [], opens := [], own := [], nextTxn := 0, sync := { }, canopy := { }, integ := { }, dramCtl := { }, vault := { mem := v20.mem, poison := v20.poison, metas := v20.metas, seq := v20.seq, segs := v20.segs, blocks := v20.blocks, targets := v20.targets, opened := v20.opened, worn := v20.worn }, installs := [], baseCache0 := [], baseCache1 := [], cores := [], accs := [], exacts := [], silent := { }, pair := { }, plans := [], stalls := [], pool := { }, mint := { }, tellers := { }, clocks := { }, boot := { perst := perstLow, hrst := hrstLow }, mgmt := { fuses := s.mgmt.fuses, nor := Option.some nor }, pep := { }, tap := { }, irq := [], deniedAt := [] }) (hm.bit 0 rfl) (hm.bit 60 rfl) ?_
    refine Kept.in_regs (x := { s with dram := [], stores := [], storePoison := [], storeParity := [], srcRecs := [], fences := [], epoch := { }, ports := [], optics := [], tokens := [], opens := [], own := [], nextTxn := 0, sync := { }, canopy := { }, integ := { }, dramCtl := { }, vault := { mem := v20.mem, poison := v20.poison, metas := v20.metas, seq := v20.seq, segs := v20.segs, blocks := v20.blocks, targets := v20.targets, opened := v20.opened, worn := v20.worn }, installs := [], baseCache0 := [], baseCache1 := [], cores := [], accs := [], exacts := [], silent := { }, pair := { }, plans := [], stalls := [], pool := { }, mint := { }, tellers := { }, clocks := { }, boot := { perst := perstLow, hrst := hrstLow }, mgmt := { fuses := s.mgmt.fuses, nor := Option.some nor }, pep := { }, tap := { }, irq := [], deniedAt := [] }) (hm.bit 1 rfl) (hm.bit 63 rfl) ?_ (fun _ => rfl)
    refine Kept.in_dram (x := { s with stores := [], storePoison := [], storeParity := [], srcRecs := [], fences := [], epoch := { }, ports := [], optics := [], tokens := [], opens := [], own := [], nextTxn := 0, sync := { }, canopy := { }, integ := { }, dramCtl := { }, vault := { mem := v20.mem, poison := v20.poison, metas := v20.metas, seq := v20.seq, segs := v20.segs, blocks := v20.blocks, targets := v20.targets, opened := v20.opened, worn := v20.worn }, installs := [], baseCache0 := [], baseCache1 := [], cores := [], accs := [], exacts := [], silent := { }, pair := { }, plans := [], stalls := [], pool := { }, mint := { }, tellers := { }, clocks := { }, boot := { perst := perstLow, hrst := hrstLow }, mgmt := { fuses := s.mgmt.fuses, nor := Option.some nor }, pep := { }, tap := { }, irq := [], deniedAt := [] }) (hm.bit 2 rfl) ?_ (fun _ => rfl)
    refine Kept.in_stores (x := { s with storePoison := [], storeParity := [], srcRecs := [], fences := [], epoch := { }, ports := [], optics := [], tokens := [], opens := [], own := [], nextTxn := 0, sync := { }, canopy := { }, integ := { }, dramCtl := { }, vault := { mem := v20.mem, poison := v20.poison, metas := v20.metas, seq := v20.seq, segs := v20.segs, blocks := v20.blocks, targets := v20.targets, opened := v20.opened, worn := v20.worn }, installs := [], baseCache0 := [], baseCache1 := [], cores := [], accs := [], exacts := [], silent := { }, pair := { }, plans := [], stalls := [], pool := { }, mint := { }, tellers := { }, clocks := { }, boot := { perst := perstLow, hrst := hrstLow }, mgmt := { fuses := s.mgmt.fuses, nor := Option.some nor }, pep := { }, tap := { }, irq := [], deniedAt := [] }) (hm.bit 3 rfl) ?_ (fun _ => rfl)
    refine Kept.in_storePoison (x := { s with storeParity := [], srcRecs := [], fences := [], epoch := { }, ports := [], optics := [], tokens := [], opens := [], own := [], nextTxn := 0, sync := { }, canopy := { }, integ := { }, dramCtl := { }, vault := { mem := v20.mem, poison := v20.poison, metas := v20.metas, seq := v20.seq, segs := v20.segs, blocks := v20.blocks, targets := v20.targets, opened := v20.opened, worn := v20.worn }, installs := [], baseCache0 := [], baseCache1 := [], cores := [], accs := [], exacts := [], silent := { }, pair := { }, plans := [], stalls := [], pool := { }, mint := { }, tellers := { }, clocks := { }, boot := { perst := perstLow, hrst := hrstLow }, mgmt := { fuses := s.mgmt.fuses, nor := Option.some nor }, pep := { }, tap := { }, irq := [], deniedAt := [] }) (hm.bit 4 rfl) ?_ (fun _ => rfl)
    refine Kept.in_storeParity (x := { s with srcRecs := [], fences := [], epoch := { }, ports := [], optics := [], tokens := [], opens := [], own := [], nextTxn := 0, sync := { }, canopy := { }, integ := { }, dramCtl := { }, vault := { mem := v20.mem, poison := v20.poison, metas := v20.metas, seq := v20.seq, segs := v20.segs, blocks := v20.blocks, targets := v20.targets, opened := v20.opened, worn := v20.worn }, installs := [], baseCache0 := [], baseCache1 := [], cores := [], accs := [], exacts := [], silent := { }, pair := { }, plans := [], stalls := [], pool := { }, mint := { }, tellers := { }, clocks := { }, boot := { perst := perstLow, hrst := hrstLow }, mgmt := { fuses := s.mgmt.fuses, nor := Option.some nor }, pep := { }, tap := { }, irq := [], deniedAt := [] }) (hm.bit 5 rfl) ?_ (fun _ => rfl)
    refine Kept.in_srcRecs (x := { s with fences := [], epoch := { }, ports := [], optics := [], tokens := [], opens := [], own := [], nextTxn := 0, sync := { }, canopy := { }, integ := { }, dramCtl := { }, vault := { mem := v20.mem, poison := v20.poison, metas := v20.metas, seq := v20.seq, segs := v20.segs, blocks := v20.blocks, targets := v20.targets, opened := v20.opened, worn := v20.worn }, installs := [], baseCache0 := [], baseCache1 := [], cores := [], accs := [], exacts := [], silent := { }, pair := { }, plans := [], stalls := [], pool := { }, mint := { }, tellers := { }, clocks := { }, boot := { perst := perstLow, hrst := hrstLow }, mgmt := { fuses := s.mgmt.fuses, nor := Option.some nor }, pep := { }, tap := { }, irq := [], deniedAt := [] }) (hm.bit 6 rfl) ?_ (fun _ => rfl)
    refine Kept.in_fences_clear (x := { s with epoch := { }, ports := [], optics := [], tokens := [], opens := [], own := [], nextTxn := 0, sync := { }, canopy := { }, integ := { }, dramCtl := { }, vault := { mem := v20.mem, poison := v20.poison, metas := v20.metas, seq := v20.seq, segs := v20.segs, blocks := v20.blocks, targets := v20.targets, opened := v20.opened, worn := v20.worn }, installs := [], baseCache0 := [], baseCache1 := [], cores := [], accs := [], exacts := [], silent := { }, pair := { }, plans := [], stalls := [], pool := { }, mint := { }, tellers := { }, clocks := { }, boot := { perst := perstLow, hrst := hrstLow }, mgmt := { fuses := s.mgmt.fuses, nor := Option.some nor }, pep := { }, tap := { }, irq := [], deniedAt := [] }) (hm.bit 7 rfl) (hm.bit 61 rfl) ?_
    refine Kept.in_epoch (x := { s with ports := [], optics := [], tokens := [], opens := [], own := [], nextTxn := 0, sync := { }, canopy := { }, integ := { }, dramCtl := { }, vault := { mem := v20.mem, poison := v20.poison, metas := v20.metas, seq := v20.seq, segs := v20.segs, blocks := v20.blocks, targets := v20.targets, opened := v20.opened, worn := v20.worn }, installs := [], baseCache0 := [], baseCache1 := [], cores := [], accs := [], exacts := [], silent := { }, pair := { }, plans := [], stalls := [], pool := { }, mint := { }, tellers := { }, clocks := { }, boot := { perst := perstLow, hrst := hrstLow }, mgmt := { fuses := s.mgmt.fuses, nor := Option.some nor }, pep := { }, tap := { }, irq := [], deniedAt := [] }) (hm.bit 8 rfl) ?_
    refine Kept.in_ports (x := { s with optics := [], tokens := [], opens := [], own := [], nextTxn := 0, sync := { }, canopy := { }, integ := { }, dramCtl := { }, vault := { mem := v20.mem, poison := v20.poison, metas := v20.metas, seq := v20.seq, segs := v20.segs, blocks := v20.blocks, targets := v20.targets, opened := v20.opened, worn := v20.worn }, installs := [], baseCache0 := [], baseCache1 := [], cores := [], accs := [], exacts := [], silent := { }, pair := { }, plans := [], stalls := [], pool := { }, mint := { }, tellers := { }, clocks := { }, boot := { perst := perstLow, hrst := hrstLow }, mgmt := { fuses := s.mgmt.fuses, nor := Option.some nor }, pep := { }, tap := { }, irq := [], deniedAt := [] }) (hm.bit 9 rfl) ?_ (fun _ => rfl)
    refine Kept.in_optics (x := { s with tokens := [], opens := [], own := [], nextTxn := 0, sync := { }, canopy := { }, integ := { }, dramCtl := { }, vault := { mem := v20.mem, poison := v20.poison, metas := v20.metas, seq := v20.seq, segs := v20.segs, blocks := v20.blocks, targets := v20.targets, opened := v20.opened, worn := v20.worn }, installs := [], baseCache0 := [], baseCache1 := [], cores := [], accs := [], exacts := [], silent := { }, pair := { }, plans := [], stalls := [], pool := { }, mint := { }, tellers := { }, clocks := { }, boot := { perst := perstLow, hrst := hrstLow }, mgmt := { fuses := s.mgmt.fuses, nor := Option.some nor }, pep := { }, tap := { }, irq := [], deniedAt := [] }) (hm.bit 10 rfl) ?_ (fun _ => rfl)
    refine Kept.in_tokens (x := { s with opens := [], own := [], nextTxn := 0, sync := { }, canopy := { }, integ := { }, dramCtl := { }, vault := { mem := v20.mem, poison := v20.poison, metas := v20.metas, seq := v20.seq, segs := v20.segs, blocks := v20.blocks, targets := v20.targets, opened := v20.opened, worn := v20.worn }, installs := [], baseCache0 := [], baseCache1 := [], cores := [], accs := [], exacts := [], silent := { }, pair := { }, plans := [], stalls := [], pool := { }, mint := { }, tellers := { }, clocks := { }, boot := { perst := perstLow, hrst := hrstLow }, mgmt := { fuses := s.mgmt.fuses, nor := Option.some nor }, pep := { }, tap := { }, irq := [], deniedAt := [] }) (hm.bit 11 rfl) ?_ (fun _ => rfl)
    refine Kept.in_opens (x := { s with own := [], nextTxn := 0, sync := { }, canopy := { }, integ := { }, dramCtl := { }, vault := { mem := v20.mem, poison := v20.poison, metas := v20.metas, seq := v20.seq, segs := v20.segs, blocks := v20.blocks, targets := v20.targets, opened := v20.opened, worn := v20.worn }, installs := [], baseCache0 := [], baseCache1 := [], cores := [], accs := [], exacts := [], silent := { }, pair := { }, plans := [], stalls := [], pool := { }, mint := { }, tellers := { }, clocks := { }, boot := { perst := perstLow, hrst := hrstLow }, mgmt := { fuses := s.mgmt.fuses, nor := Option.some nor }, pep := { }, tap := { }, irq := [], deniedAt := [] }) (hm.bit 12 rfl) ?_ (fresh_nil)
    refine Kept.in_own (x := { s with nextTxn := 0, sync := { }, canopy := { }, integ := { }, dramCtl := { }, vault := { mem := v20.mem, poison := v20.poison, metas := v20.metas, seq := v20.seq, segs := v20.segs, blocks := v20.blocks, targets := v20.targets, opened := v20.opened, worn := v20.worn }, installs := [], baseCache0 := [], baseCache1 := [], cores := [], accs := [], exacts := [], silent := { }, pair := { }, plans := [], stalls := [], pool := { }, mint := { }, tellers := { }, clocks := { }, boot := { perst := perstLow, hrst := hrstLow }, mgmt := { fuses := s.mgmt.fuses, nor := Option.some nor }, pep := { }, tap := { }, irq := [], deniedAt := [] }) (hm.bit 14 rfl) ?_
    refine Kept.in_nextTxn (x := { s with sync := { }, canopy := { }, integ := { }, dramCtl := { }, vault := { mem := v20.mem, poison := v20.poison, metas := v20.metas, seq := v20.seq, segs := v20.segs, blocks := v20.blocks, targets := v20.targets, opened := v20.opened, worn := v20.worn }, installs := [], baseCache0 := [], baseCache1 := [], cores := [], accs := [], exacts := [], silent := { }, pair := { }, plans := [], stalls := [], pool := { }, mint := { }, tellers := { }, clocks := { }, boot := { perst := perstLow, hrst := hrstLow }, mgmt := { fuses := s.mgmt.fuses, nor := Option.some nor }, pep := { }, tap := { }, irq := [], deniedAt := [] }) (hm.bit 15 rfl) ?_
    refine Kept.in_sync (x := { s with canopy := { }, integ := { }, dramCtl := { }, vault := { mem := v20.mem, poison := v20.poison, metas := v20.metas, seq := v20.seq, segs := v20.segs, blocks := v20.blocks, targets := v20.targets, opened := v20.opened, worn := v20.worn }, installs := [], baseCache0 := [], baseCache1 := [], cores := [], accs := [], exacts := [], silent := { }, pair := { }, plans := [], stalls := [], pool := { }, mint := { }, tellers := { }, clocks := { }, boot := { perst := perstLow, hrst := hrstLow }, mgmt := { fuses := s.mgmt.fuses, nor := Option.some nor }, pep := { }, tap := { }, irq := [], deniedAt := [] }) (hm.bit 16 rfl) ?_
    refine Kept.in_canopy (x := { s with integ := { }, dramCtl := { }, vault := { mem := v20.mem, poison := v20.poison, metas := v20.metas, seq := v20.seq, segs := v20.segs, blocks := v20.blocks, targets := v20.targets, opened := v20.opened, worn := v20.worn }, installs := [], baseCache0 := [], baseCache1 := [], cores := [], accs := [], exacts := [], silent := { }, pair := { }, plans := [], stalls := [], pool := { }, mint := { }, tellers := { }, clocks := { }, boot := { perst := perstLow, hrst := hrstLow }, mgmt := { fuses := s.mgmt.fuses, nor := Option.some nor }, pep := { }, tap := { }, irq := [], deniedAt := [] }) (hm.bit 17 rfl) ?_ (fun _ => rfl) (fun _ => rfl) (fun _ => rfl) (fun _ => rfl)
    refine Kept.in_integ (x := { s with dramCtl := { }, vault := { mem := v20.mem, poison := v20.poison, metas := v20.metas, seq := v20.seq, segs := v20.segs, blocks := v20.blocks, targets := v20.targets, opened := v20.opened, worn := v20.worn }, installs := [], baseCache0 := [], baseCache1 := [], cores := [], accs := [], exacts := [], silent := { }, pair := { }, plans := [], stalls := [], pool := { }, mint := { }, tellers := { }, clocks := { }, boot := { perst := perstLow, hrst := hrstLow }, mgmt := { fuses := s.mgmt.fuses, nor := Option.some nor }, pep := { }, tap := { }, irq := [], deniedAt := [] }) (hm.bit 18 rfl) ?_ (fun _ => rfl) (fun _ => rfl)
    refine Kept.in_dramCtl (x := { s with vault := { mem := v20.mem, poison := v20.poison, metas := v20.metas, seq := v20.seq, segs := v20.segs, blocks := v20.blocks, targets := v20.targets, opened := v20.opened, worn := v20.worn }, installs := [], baseCache0 := [], baseCache1 := [], cores := [], accs := [], exacts := [], silent := { }, pair := { }, plans := [], stalls := [], pool := { }, mint := { }, tellers := { }, clocks := { }, boot := { perst := perstLow, hrst := hrstLow }, mgmt := { fuses := s.mgmt.fuses, nor := Option.some nor }, pep := { }, tap := { }, irq := [], deniedAt := [] }) (hm.bit 19 rfl) ?_ (fun _ => rfl) (fun _ => rfl) (fun _ => rfl) (fun _ => rfl) (fun _ => rfl) (fun _ => rfl) (fun _ => rfl)
    refine Kept.in_vault (x := { s with installs := [], baseCache0 := [], baseCache1 := [], cores := [], accs := [], exacts := [], silent := { }, pair := { }, plans := [], stalls := [], pool := { }, mint := { }, tellers := { }, clocks := { }, boot := { perst := perstLow, hrst := hrstLow }, mgmt := { fuses := s.mgmt.fuses, nor := Option.some nor }, pep := { }, tap := { }, irq := [], deniedAt := [] }) (hm.bit 20 rfl) ?_ (Kept.seal) (Kept.seal) (Kept.seal) (Kept.seal) (Kept.seal) (Kept.seal) (fun _ => rfl)
    refine Kept.in_installs (x := { s with baseCache0 := [], baseCache1 := [], cores := [], accs := [], exacts := [], silent := { }, pair := { }, plans := [], stalls := [], pool := { }, mint := { }, tellers := { }, clocks := { }, boot := { perst := perstLow, hrst := hrstLow }, mgmt := { fuses := s.mgmt.fuses, nor := Option.some nor }, pep := { }, tap := { }, irq := [], deniedAt := [] }) (hm.bit 21 rfl) ?_
    refine Kept.in_baseCache0 (x := { s with baseCache1 := [], cores := [], accs := [], exacts := [], silent := { }, pair := { }, plans := [], stalls := [], pool := { }, mint := { }, tellers := { }, clocks := { }, boot := { perst := perstLow, hrst := hrstLow }, mgmt := { fuses := s.mgmt.fuses, nor := Option.some nor }, pep := { }, tap := { }, irq := [], deniedAt := [] }) (hm.bit 22 rfl) ?_
    refine Kept.in_baseCache1 (x := { s with cores := [], accs := [], exacts := [], silent := { }, pair := { }, plans := [], stalls := [], pool := { }, mint := { }, tellers := { }, clocks := { }, boot := { perst := perstLow, hrst := hrstLow }, mgmt := { fuses := s.mgmt.fuses, nor := Option.some nor }, pep := { }, tap := { }, irq := [], deniedAt := [] }) (hm.bit 23 rfl) ?_
    refine Kept.in_cores (x := { s with accs := [], exacts := [], silent := { }, pair := { }, plans := [], stalls := [], pool := { }, mint := { }, tellers := { }, clocks := { }, boot := { perst := perstLow, hrst := hrstLow }, mgmt := { fuses := s.mgmt.fuses, nor := Option.some nor }, pep := { }, tap := { }, irq := [], deniedAt := [] }) (hm.bit 24 rfl) ?_ (fun _ => rfl)
    refine Kept.in_accs (x := { s with exacts := [], silent := { }, pair := { }, plans := [], stalls := [], pool := { }, mint := { }, tellers := { }, clocks := { }, boot := { perst := perstLow, hrst := hrstLow }, mgmt := { fuses := s.mgmt.fuses, nor := Option.some nor }, pep := { }, tap := { }, irq := [], deniedAt := [] }) (hm.bit 25 rfl) ?_ (fun _ => rfl)
    refine Kept.in_exacts (x := { s with silent := { }, pair := { }, plans := [], stalls := [], pool := { }, mint := { }, tellers := { }, clocks := { }, boot := { perst := perstLow, hrst := hrstLow }, mgmt := { fuses := s.mgmt.fuses, nor := Option.some nor }, pep := { }, tap := { }, irq := [], deniedAt := [] }) (hm.bit 26 rfl) ?_ (fun _ => rfl)
    refine Kept.in_silent (x := { s with pair := { }, plans := [], stalls := [], pool := { }, mint := { }, tellers := { }, clocks := { }, boot := { perst := perstLow, hrst := hrstLow }, mgmt := { fuses := s.mgmt.fuses, nor := Option.some nor }, pep := { }, tap := { }, irq := [], deniedAt := [] }) (hm.bit 27 rfl) ?_ (fun _ => rfl) (fun _ => rfl)
    refine Kept.in_pair (x := { s with plans := [], stalls := [], pool := { }, mint := { }, tellers := { }, clocks := { }, boot := { perst := perstLow, hrst := hrstLow }, mgmt := { fuses := s.mgmt.fuses, nor := Option.some nor }, pep := { }, tap := { }, irq := [], deniedAt := [] }) (hm.bit 28 rfl) ?_
    refine Kept.in_plans (x := { s with stalls := [], pool := { }, mint := { }, tellers := { }, clocks := { }, boot := { perst := perstLow, hrst := hrstLow }, mgmt := { fuses := s.mgmt.fuses, nor := Option.some nor }, pep := { }, tap := { }, irq := [], deniedAt := [] }) (hm.bit 29 rfl) ?_
    refine Kept.in_stalls (x := { s with pool := { }, mint := { }, tellers := { }, clocks := { }, boot := { perst := perstLow, hrst := hrstLow }, mgmt := { fuses := s.mgmt.fuses, nor := Option.some nor }, pep := { }, tap := { }, irq := [], deniedAt := [] }) (hm.bit 30 rfl) ?_
    refine Kept.in_pool (x := { s with mint := { }, tellers := { }, clocks := { }, boot := { perst := perstLow, hrst := hrstLow }, mgmt := { fuses := s.mgmt.fuses, nor := Option.some nor }, pep := { }, tap := { }, irq := [], deniedAt := [] }) (hm.bit 31 rfl) ?_ (fun _ => rfl) (fun _ => rfl) (fun _ => rfl)
    refine Kept.in_mint (x := { s with tellers := { }, clocks := { }, boot := { perst := perstLow, hrst := hrstLow }, mgmt := { fuses := s.mgmt.fuses, nor := Option.some nor }, pep := { }, tap := { }, irq := [], deniedAt := [] }) (hm.bit 32 rfl) ?_ (fun _ => rfl)
    refine Kept.in_tellers (x := { s with clocks := { }, boot := { perst := perstLow, hrst := hrstLow }, mgmt := { fuses := s.mgmt.fuses, nor := Option.some nor }, pep := { }, tap := { }, irq := [], deniedAt := [] }) (hm.bit 33 rfl) ?_ (fun _ => rfl) (fun _ => rfl)
    refine Kept.in_clocks (x := { s with boot := { perst := perstLow, hrst := hrstLow }, mgmt := { fuses := s.mgmt.fuses, nor := Option.some nor }, pep := { }, tap := { }, irq := [], deniedAt := [] }) (hm.bit 34 rfl) ?_
    refine Kept.in_boot (x := { s with mgmt := { fuses := s.mgmt.fuses, nor := Option.some nor }, pep := { }, tap := { }, irq := [], deniedAt := [] }) (hm.bit 35 rfl) ?_
    refine Kept.in_mgmt (x := { s with pep := { }, tap := { }, irq := [], deniedAt := [] }) (hm.bit 36 rfl) ?_
    refine Kept.in_pep (x := { s with tap := { }, irq := [], deniedAt := [] }) (hm.bit 37 rfl) ?_ (fun _ => rfl) (fun _ => rfl) (fun _ => rfl)
    refine Kept.in_tap (x := { s with irq := [], deniedAt := [] }) (hm.bit 38 rfl) ?_
    refine Kept.in_irq (x := { s with deniedAt := [] }) (hm.bit 39 rfl) ?_
    refine Kept.in_deniedAt (hm.bit 40 rfl) ?_ (fun _ => rfl)
    exact h0
  (clear_value v21; revert v21; refine Kept.seal ?_; intro v21 h22)
  extract_lets -underBinder +onlyGivenNames v23
  have h24 : Kept M s0 v23 := by
    unfold v23
    refine Kept.setF (hm.bit 1 rfl) (reach_AO_STRAPS (hm.bit 71 rfl)) ?_
    refine Kept.setF (hm.bit 1 rfl) (reach_AO_STRAPS (hm.bit 71 rfl)) ?_
    exact h22
  (clear_value v23; revert v23; refine Kept.seal ?_; intro v23 h24)
  refine kept_releaseReset (hm.sub rfl) ?_
  refine Kept.setF (hm.bit 1 rfl) (reach_AO_BOOT (hm.bit 72 rfl)) ?_
  exact h24

theorem kept_thermalReset {s : State} (hm : Within 0x200000000000000000000008000000000000000002148a00019bfffffdf82 M) (h0 : Kept M s0 s) :
    Kept M s0 (State.thermalReset s) := by
  unfold State.thermalReset
  refine kept_deviceReset (hm.sub rfl) ?_
  refine kept_setBoot (hm.sub rfl) ?_
  exact h0

theorem kept_dieReading {s : State} {d : ℕ} {t : ℤ} (hm : Within 0x4000000020000000002 M) (h0 : Kept M s0 s) :
    Kept M s0 (State.dieReading s d t) := by
  unfold State.dieReading
  extract_lets -underBinder +onlyGivenNames v20
  have h21 : Kept M s0 v20 := by
    unfold v20
    refine Kept.in_dieTemp (hm.bit 41 rfl) ?_ (Sparse.wf_put)
    exact h0
  (clear_value v20; revert v20; refine Kept.seal ?_; intro v20 h21)
  extract_lets -underBinder +onlyGivenNames v22
  (clear_value v22; revert v22; refine Kept.seal ?_; intro v22)
  extract_lets -underBinder +onlyGivenNames v23
  (clear_value v23; revert v23; refine Kept.seal ?_; intro v23)
  refine Kept.setF (hm.bit 1 rfl) (reach_AO_THERM (hm.bit 74 rfl)) ?_
  exact h21

theorem kept_dieTrip {s : State} {d : ℕ} {t : ℤ} (hm : Within 0x200000000000700000000008000001070000000002548a0001bbfffffdf82 M) (h0 : Kept M s0 s) :
    Kept M s0 (State.dieTrip s d t) := by
  unfold State.dieTrip
  extract_lets -underBinder +onlyGivenNames v20
  have h21 : Kept M s0 v20 := by
    unfold v20
    refine kept_dieReading (hm.sub rfl) ?_
    exact h0
  (clear_value v20; revert v20; refine Kept.seal ?_; intro v20 h21)
  refine kept_ite ?_ ?_
  · refine kept_thermalReset (hm.sub rfl) ?_
    refine kept_ledger (hm.sub rfl) ?_
    refine kept_ibi (hm.sub rfl) ?_
    exact h21
  · exact h21

theorem kept_thermalHoldEnd {s : State} {die0 : ℤ} {die1 : ℤ} {dram : List (Fin 104 × ℤ)} (hm : Within 0x25000000020800000002 M) (h0 : Kept M s0 s) :
    Kept M s0 (State.thermalHoldEnd s die0 die1 dram) := by
  unfold State.thermalHoldEnd
  (generalize q21 : (s.boot.holdUntil) = x20; revert x20; refine Kept.seal ?_; intro x20 q21)
  split
  · rename_i w22
    exact h0
  · rename_i w23 w24
    refine kept_ite ?_ ?_
    · exact h0
    · extract_lets -underBinder +onlyGivenNames v25
      have h26 : Kept M s0 v25 := by
        unfold v25
        refine kept_dieReading (hm.sub rfl) ?_
        refine kept_dieReading (hm.sub rfl) ?_
        exact h0
      (clear_value v25; revert v25; refine Kept.seal ?_; intro v25 h26)
      extract_lets -underBinder +onlyGivenNames v27
      (clear_value v27; revert v27; refine Kept.seal ?_; intro v27)
      extract_lets -underBinder +onlyGivenNames v28
      (clear_value v28; revert v28; refine Kept.seal ?_; intro v28)
      refine kept_ite ?_ ?_
      · refine kept_releaseReset (hm.sub rfl) ?_
        refine kept_setBoot (hm.sub rfl) ?_
        exact h26
      · refine kept_setBoot (hm.sub rfl) ?_
        exact h26

theorem kept_hrstLow {s : State} (hm : Within 0x200000000000000000000008000000000000000002148a00019bfffffdf82 M) (h0 : Kept M s0 s) :
    Kept M s0 (State.hrstLow s) := by
  unfold State.hrstLow
  refine kept_deviceReset (hm.sub rfl) ?_
  refine kept_setBoot (hm.sub rfl) ?_
  exact h0

theorem kept_hrstHigh {s : State} (hm : Within 0x21000000000800000002 M) (h0 : Kept M s0 s) :
    Kept M s0 (State.hrstHigh s) := by
  unfold State.hrstHigh
  extract_lets -underBinder +onlyGivenNames v20
  (clear_value v20; revert v20; refine Kept.seal ?_; intro v20)
  extract_lets -underBinder +onlyGivenNames v21
  have h22 : Kept M s0 v21 := by
    unfold v21
    refine kept_setBoot (hm.sub rfl) ?_
    exact h0
  (clear_value v21; revert v21; refine Kept.seal ?_; intro v21 h22)
  refine kept_ite ?_ ?_
  · refine kept_releaseReset (hm.sub rfl) ?_
    exact h22
  · exact h22

theorem kept_perstLow {s : State} (hm : Within 0x200000000040700000000008000001070000000026148a00019bfffffdf82 M) (h0 : Kept M s0 s) :
    Kept M s0 (State.perstLow s) := by
  unfold State.perstLow
  extract_lets -underBinder +onlyGivenNames v20
  (clear_value v20; revert v20; refine Kept.seal ?_; intro v20)
  extract_lets -underBinder +onlyGivenNames v21
  have h22 : Kept M s0 v21 := by
    unfold v21
    refine kept_setBoot (hm.sub rfl) ?_
    exact h0
  (clear_value v21; revert v21; refine Kept.seal ?_; intro v21 h22)
  refine kept_ite ?_ ?_
  · exact h22
  · refine kept_ite ?_ ?_
    · refine kept_deviceReset (hm.sub rfl) ?_
      exact h22
    · refine kept_endpointReset (hm.sub rfl) ?_
      refine kept_bump (hm.sub rfl) ?_
      refine Kept.setF (hm.bit 1 rfl) (reach_AO_CAUSE (hm.bit 67 rfl)) ?_
      exact h22

theorem kept_endpointTrains {s : State} (hm : Within 0x100000000000 M) (h0 : Kept M s0 s) :
    Kept M s0 (State.endpointTrains s) := by
  unfold State.endpointTrains
  refine kept_ite ?_ ?_
  · refine kept_emit (hm.sub rfl) ?_
    exact h0
  · exact h0

theorem kept_perstHigh {s : State} (hm : Within 0x100800000000 M) (h0 : Kept M s0 s) :
    Kept M s0 (State.perstHigh s) := by
  unfold State.perstHigh
  refine kept_endpointTrains (hm.sub rfl) ?_
  refine kept_setBoot (hm.sub rfl) ?_
  exact h0

theorem kept_partnerReset {s : State} (hm : Within 0x200000000000700000000008000001070000000002148a00019bfffffdf82 M) (h0 : Kept M s0 s) :
    Kept M s0 (State.partnerReset s) := by
  unfold State.partnerReset
  refine kept_ite ?_ ?_
  · refine kept_deviceReset (hm.sub rfl) ?_
    exact h0
  · refine kept_ledger (hm.sub rfl) ?_
    exact h0

theorem kept_softwareReset {s : State} {key : ℕ} {keep : Bool} (hm : Within 0x200000000000000000000008000000000000000002148a00019bfffffdf82 M) (h0 : Kept M s0 s) :
    Kept M s0 (State.softwareReset s key keep) := by
  unfold State.softwareReset
  refine kept_ite ?_ ?_
  · refine kept_deviceReset (hm.sub rfl) ?_
    exact h0
  · exact h0

theorem kept_execPowerOn {bootSrc : Fin 4} {clkMode : Fin 4} {nor : Bytes} {hrstLow : Bool} {perstLow : Bool} {s : State} (hm : Within 0x2180b00001ffffffdfff M) (h0 : Kept M s0 s) :
    KeptE M s0 (execPowerOn bootSrc clkMode nor hrstLow perstLow s) := by
  unfold execPowerOn
  refine kepte_next ?_
  refine kept_powerOn (hm.sub rfl) ?_
  exact h0

theorem kept_execPerstAssert {s : State} (hm : Within 0x200000000040700000000008000001070000000026148a00019bfffffdf82 M) (h0 : Kept M s0 s) :
    KeptE M s0 (execPerstAssert s) := by
  unfold execPerstAssert
  refine kepte_next ?_
  refine kept_perstLow (hm.sub rfl) ?_
  exact h0

theorem kept_execPerstDeassert {s : State} (hm : Within 0x100800000000 M) (h0 : Kept M s0 s) :
    KeptE M s0 (execPerstDeassert s) := by
  unfold execPerstDeassert
  refine kepte_next ?_
  refine kept_perstHigh (hm.sub rfl) ?_
  exact h0

theorem kept_execHrstAssert {s : State} (hm : Within 0x200000000000000000000008000000000000000002148a00019bfffffdf82 M) (h0 : Kept M s0 s) :
    KeptE M s0 (execHrstAssert s) := by
  unfold execHrstAssert
  refine kepte_next ?_
  refine kept_hrstLow (hm.sub rfl) ?_
  exact h0

theorem kept_execHrstDeassert {s : State} (hm : Within 0x21000000000800000002 M) (h0 : Kept M s0 s) :
    KeptE M s0 (execHrstDeassert s) := by
  unfold execHrstDeassert
  refine kepte_next ?_
  refine kept_hrstHigh (hm.sub rfl) ?_
  exact h0

theorem kept_execDieThermalTrip {d : Fin 2} {t : ℤ} {s : State} (hm : Within 0x200000000000700000000008000001070000000002548a0001bbfffffdf82 M) (h0 : Kept M s0 s) :
    KeptE M s0 (execDieThermalTrip d t s) := by
  unfold execDieThermalTrip
  refine kepte_next ?_
  refine kept_dieTrip (hm.sub rfl) ?_
  exact h0

theorem kept_execThermalHoldEnd {die0 : ℤ} {die1 : ℤ} {dram : List (Fin 104 × ℤ)} {s : State} (hm : Within 0x25000000020800000002 M) (h0 : Kept M s0 s) :
    KeptE M s0 (execThermalHoldEnd die0 die1 dram s) := by
  unfold execThermalHoldEnd
  refine kepte_next ?_
  refine kept_thermalHoldEnd (hm.sub rfl) ?_
  exact h0

theorem kept_execPartnerResetRx {s : State} (hm : Within 0x200000000000700000000008000001070000000002148a00019bfffffdf82 M) (h0 : Kept M s0 s) :
    KeptE M s0 (execPartnerResetRx s) := by
  unfold execPartnerResetRx
  refine kepte_next ?_
  refine kept_partnerReset (hm.sub rfl) ?_
  exact h0

theorem kept_execSoftwareReset {key : Byte} {keepDram : Bool} {s : State} (hm : Within 0x200000000000000000000008000000000000000002148a00019bfffffdf82 M) (h0 : Kept M s0 s) :
    KeptE M s0 (execSoftwareReset key keepDram s) := by
  unfold execSoftwareReset
  refine kepte_next ?_
  refine kept_softwareReset (hm.sub rfl) ?_
  exact h0

theorem kept_execSelfRefreshReady {c : Fin 8} {s : State} (hm : Within 0x200000000000000001010008000000000000000002148a00019bfffffdf82 M) (h0 : Kept M s0 s) :
    KeptE M s0 (execSelfRefreshReady c s) := by
  unfold execSelfRefreshReady
  refine kepte_next ?_
  refine kept_selfRefreshReady (hm.sub rfl) ?_
  exact h0

theorem kept_execKeepFailed {s : State} (hm : Within 0x200000000000700000000008000001070000000002148a00019bfffffdf82 M) (h0 : Kept M s0 s) :
    KeptE M s0 (execKeepFailed s) := by
  unfold execKeepFailed
  refine kepte_next ?_
  refine kept_keepFailed (hm.sub rfl) ?_
  exact h0

theorem kept_execThermalLevelChange {u : Fin 104} {t : ℤ} {rate : Fin 17} {s : State} (hm : Within 0x200000000000700001010008000001070000000002148a00019bfffffdf82 M) (h0 : Kept M s0 s) :
    KeptE M s0 (execThermalLevelChange u t rate s) := by
  unfold execThermalLevelChange
  extract_lets -underBinder +onlyGivenNames v20
  have h21 : Kept M s0 v20 := by
    unfold v20
    refine kept_dramThermal (hm.sub rfl) ?_
    exact h0
  (clear_value v20; revert v20; refine Kept.seal ?_; intro v20 h21)
  refine kepte_next ?_
  refine kept_ite ?_ ?_
  · refine kept_thermalReset (hm.sub rfl) ?_
    refine kept_ledger (hm.sub rfl) ?_
    refine kept_ibi (hm.sub rfl) ?_
    exact h21
  · exact h21

end Sys2Proof.Machine
end

