-- ==== Sys2Proof/Laws/Kept/Canopy.lean ====
section
/-! SUPPORT. What the operations of Canopy may write: each keeps its footprint. -/

namespace Sys2Proof.Machine

variable {M : Nat} {s0 : State}

theorem kept_writeBackAll {s : State} {c : ℕ} (hm : Within 0x7000020204000000190700000000000000000109a000e0206 M) (h0 : Kept M s0 s) :
    Kept M s0 (State.writeBackAll s c) := by
  unfold State.writeBackAll
  refine kept_forEach ?_ ?_
  · intro y20 y21 h22
    refine kept_writeBack (hm.sub rfl) ?_
    exact h22
  · exact h0

theorem kept_invalidateAll {s : State} {c : ℕ} (hm : Within 0x20004 M) (h0 : Kept M s0 s) :
    Kept M s0 (State.invalidateAll s c) := by
  unfold State.invalidateAll
  refine kept_clearTags (hm.sub rfl) ?_
  refine Kept.in_canopy (hm.bit 17 rfl) ?_ (Sparse.wf_clear) (Kept.seal) (Kept.seal) (Kept.seal)
  exact h0

theorem kept_flushDirect {s : State} {c : ℕ} (hm : Within 0x7000020204000000190700000000000000000109a000e0206 M) (h0 : Kept M s0 s) :
    Kept M s0 (State.flushDirect s c) := by
  unfold State.flushDirect
  extract_lets -underBinder +onlyGivenNames v20
  (clear_value v20; revert v20; refine Kept.seal ?_; intro v20)
  refine kept_forEach ?_ ?_
  · intro y21 y22 h23
    refine kept_setLine (hm.sub rfl) ?_
    refine kept_writeBack (hm.sub rfl) ?_
    exact h23
  · exact h0

theorem kept_canopyDone {s : State} {c : ℕ} (hm : Within 0x7000020204400000190700000000000000000109a000e0206 M) (h0 : Kept M s0 s) :
    Kept M s0 (State.canopyDone s c) := by
  unfold State.canopyDone
  extract_lets -underBinder +onlyGivenNames v20
  (clear_value v20; revert v20; refine Kept.seal ?_; intro v20)
  refine kept_ite ?_ ?_
  · exact h0
  · extract_lets -underBinder +onlyGivenNames v21
    have h22 : Kept M s0 v21 := by
      unfold v21
      refine kept_writeBackAll (hm.sub rfl) ?_
      exact h0
    (clear_value v21; revert v21; refine Kept.seal ?_; intro v21 h22)
    extract_lets -underBinder +onlyGivenNames v23
    have h24 : Kept M s0 v23 := by
      unfold v23
      refine kept_ite ?_ ?_
      · refine kept_invalidateAll (hm.sub rfl) ?_
        exact h22
      · exact h22
    (clear_value v23; revert v23; refine Kept.seal ?_; intro v23 h24)
    refine Kept.setF (hm.bit 1 rfl) (reach_CAN_CTRL (hm.bit 154 rfl)) ?_
    refine Kept.setF (hm.bit 1 rfl) (reach_CAN_CTRL (hm.bit 154 rfl)) ?_
    exact h24

theorem kept_canopyDrained {s : State} {c : ℕ} (hm : Within 0x7000020204000000190700000000000000000109a000e0206 M) (h0 : Kept M s0 s) :
    Kept M s0 (State.canopyDrained s c) := by
  unfold State.canopyDrained
  refine kept_ite ?_ ?_
  · exact h0
  · refine kept_invalidateAll (hm.sub rfl) ?_
    refine kept_writeBackAll (hm.sub rfl) ?_
    exact h0

theorem kept_canopyResume {s : State} {c : ℕ} (hm : Within 0x400000000000000000000000000000000000002 M) (h0 : Kept M s0 s) :
    Kept M s0 (State.canopyResume s c) := by
  unfold State.canopyResume
  refine Kept.setF (hm.bit 1 rfl) (reach_CAN_CTRL (hm.bit 154 rfl)) ?_
  exact h0

theorem kept_decayPage {s : State} {p : ℕ} (hm : Within 0x20000 M) (h0 : Kept M s0 s) :
    Kept M s0 (State.decayPage s p) := by
  unfold State.decayPage
  extract_lets -underBinder +onlyGivenNames v20
  (clear_value v20; revert v20; refine Kept.seal ?_; intro v20)
  extract_lets -underBinder +onlyGivenNames v21
  (clear_value v21; revert v21; refine Kept.seal ?_; intro v21)
  extract_lets -underBinder +onlyGivenNames v22
  (clear_value v22; revert v22; refine Kept.seal ?_; intro v22)
  extract_lets -underBinder +onlyGivenNames v23
  (clear_value v23; revert v23; refine Kept.seal ?_; intro v23)
  refine kept_setPageUse (hm.sub rfl) ?_
  exact h0

theorem kept_decayBoundary {s : State} (hm : Within 0x20000 M) (h0 : Kept M s0 s) :
    Kept M s0 (State.decayBoundary s) := by
  unfold State.decayBoundary
  extract_lets -underBinder +onlyGivenNames v20
  (clear_value v20; revert v20; refine Kept.seal ?_; intro v20)
  extract_lets -underBinder +onlyGivenNames v21
  (clear_value v21; revert v21; refine Kept.seal ?_; intro v21)
  refine kept_ite ?_ ?_
  · exact h0
  · extract_lets -underBinder +onlyGivenNames v22
    have h23 : Kept M s0 v22 := by
      unfold v22
      refine kept_forEach ?_ ?_
      · intro y24 y25 h26
        refine kept_decayPage (hm.sub rfl) ?_
        exact h26
      · exact h0
    (clear_value v22; revert v22; refine Kept.seal ?_; intro v22 h23)
    refine Kept.in_canopy (hm.bit 17 rfl) ?_ (Kept.seal) (Kept.seal) (Kept.seal) (Kept.seal)
    exact h23

theorem kept_execCanopyWb {c : Fin 8} {s : State} (hm : Within 0x400000000000000000000000000000000000002 M) (h0 : Kept M s0 s) :
    KeptE M s0 (execCanopyWb c s) := by
  unfold execCanopyWb
  refine kepte_next ?_
  refine Kept.setF (hm.bit 1 rfl) (reach_CAN_CTRL (hm.bit 154 rfl)) ?_
  exact h0

theorem kept_execCanopyInv {c : Fin 8} {s : State} (hm : Within 0x400000000000000000000000000000000000002 M) (h0 : Kept M s0 s) :
    KeptE M s0 (execCanopyInv c s) := by
  unfold execCanopyInv
  refine kepte_next ?_
  refine Kept.setF (hm.bit 1 rfl) (reach_CAN_CTRL (hm.bit 154 rfl)) ?_
  exact h0

theorem kept_execCanopyDrainSet {c : Fin 8} {s : State} (hm : Within 0x400000000000000000000000000000000000002 M) (h0 : Kept M s0 s) :
    KeptE M s0 (execCanopyDrainSet c s) := by
  unfold execCanopyDrainSet
  refine kepte_next ?_
  refine Kept.setF (hm.bit 1 rfl) (reach_CAN_CTRL (hm.bit 154 rfl)) ?_
  exact h0

theorem kept_execCanopyDrainClear {c : Fin 8} {s : State} (hm : Within 0x400000000000000000000000000000000000002 M) (h0 : Kept M s0 s) :
    KeptE M s0 (execCanopyDrainClear c s) := by
  unfold execCanopyDrainClear
  refine kepte_next ?_
  refine kept_canopyResume (hm.sub rfl) ?_
  exact h0

theorem kept_execCanopyWbDone {c : Fin 8} {s : State} (hm : Within 0x7000020204400000190700000000000000000109a000e0206 M) (h0 : Kept M s0 s) :
    KeptE M s0 (execCanopyWbDone c s) := by
  unfold execCanopyWbDone
  refine kepte_next ?_
  refine kept_canopyDone (hm.sub rfl) ?_
  exact h0

theorem kept_execCanopyDrained {c : Fin 8} {s : State} (hm : Within 0x7000020204000000190700000000000000000109a000e0206 M) (h0 : Kept M s0 s) :
    KeptE M s0 (execCanopyDrained c s) := by
  unfold execCanopyDrained
  refine kepte_next ?_
  refine kept_canopyDrained (hm.sub rfl) ?_
  exact h0

theorem kept_execDecayBoundary {s : State} (hm : Within 0x20000 M) (h0 : Kept M s0 s) :
    KeptE M s0 (execDecayBoundary s) := by
  unfold execDecayBoundary
  refine kepte_next ?_
  refine kept_decayBoundary (hm.sub rfl) ?_
  exact h0

end Sys2Proof.Machine
end

