-- ==== Sys2Proof/Laws/Kept/Startup.lean ====
section
/-! SUPPORT. What the operations of Startup may write: each keeps its footprint. -/

namespace Sys2Proof.Machine

variable {M : Nat} {s0 : State}

theorem kept_stepEnds {s : State} {k : ℕ} {progress : ℕ} (hm : Within 0x20000000000000000002 M) (h0 : Kept M s0 s) :
    Kept M s0 (State.stepEnds s k progress) := by
  unfold State.stepEnds
  refine Kept.setF (hm.bit 1 rfl) (reach_AO_BOOT_STEP (hm.bit 77 rfl)) ?_
  refine Kept.setF (hm.bit 1 rfl) (reach_AO_BOOT_STEP (hm.bit 77 rfl)) ?_
  exact h0

theorem kept_stepAlt {s : State} {k : ℕ} {alt : ℕ} (hm : Within 0x20000000000000000002 M) (h0 : Kept M s0 s) :
    Kept M s0 (State.stepAlt s k alt) := by
  unfold State.stepAlt
  refine Kept.setF (hm.bit 1 rfl) (reach_AO_BOOT_STEP (hm.bit 77 rfl)) ?_
  exact h0

theorem kept_stepChange {s : State} {k : ℕ} {units : List ℕ} (hm : Within 0x23000000000800000002 M) (h0 : Kept M s0 s) :
    Kept M s0 (State.stepChange s k units) := by
  unfold State.stepChange
  extract_lets -underBinder +onlyGivenNames v20
  have h21 : ∀ c_0, Kept M s0 (v20 c_0) := by
    unfold v20
    intro y22
    refine kept_stepAlt (hm.sub rfl) ?_
    refine kept_forEach ?_ ?_
    · intro y23 y24 h25
      refine Kept.setBit (hm.bit 1 rfl) (reach_AO_CLK (hm.bit 73 rfl)) ?_
      exact h25
    · exact h0
  (clear_value v20; revert v20; refine Kept.seal ?_; intro v20 h21)
  split
  · rename_i w26
    refine kept_stepAlt (hm.sub rfl) ?_
    refine Kept.setF (hm.bit 1 rfl) (reach_AO_CLK (hm.bit 73 rfl)) ?_
    exact h0
  · rename_i w27
    refine kept_stepAlt (hm.sub rfl) ?_
    exact h0
  · rename_i w28
    refine h21 _
  · rename_i w29
    refine h21 _
  · rename_i w30
    refine kept_stepAlt (hm.sub rfl) ?_
    refine kept_setBoot (hm.sub rfl) ?_
    exact h0
  · rename_i w31
    refine kept_stepAlt (hm.sub rfl) ?_
    refine kept_setBoot (hm.sub rfl) ?_
    exact h0
  · rename_i w32
    refine kept_stepAlt (hm.sub rfl) ?_
    refine kept_setBoot (hm.sub rfl) ?_
    exact h0
  · rename_i w33
    refine kept_stepAlt (hm.sub rfl) ?_
    refine kept_setBoot (hm.sub rfl) ?_
    exact h0
  · rename_i w34
    refine kept_stepAlt (hm.sub rfl) ?_
    refine Kept.setF (hm.bit 1 rfl) (reach_AO_BOOT (hm.bit 72 rfl)) ?_
    exact h0
  · rename_i w35
    refine kept_stepAlt (hm.sub rfl) ?_
    refine Kept.setF (hm.bit 1 rfl) (reach_AO_BOOT (hm.bit 72 rfl)) ?_
    exact h0
  · rename_i w36
    refine kept_stepAlt (hm.sub rfl) ?_
    refine Kept.setF (hm.bit 1 rfl) (reach_AO_BOOT (hm.bit 72 rfl)) ?_
    exact h0
  · rename_i w37
    refine kept_stepAlt (hm.sub rfl) ?_
    refine Kept.setF (hm.bit 1 rfl) (reach_AO_BOOT (hm.bit 72 rfl)) ?_
    exact h0
  · rename_i w38
    refine kept_stepAlt (hm.sub rfl) ?_
    refine kept_setBoot (hm.sub rfl) ?_
    exact h0
  · rename_i w39
    refine kept_stepAlt (hm.sub rfl) ?_
    refine kept_setBoot (hm.sub rfl) ?_
    exact h0
  · rename_i w40
    refine kept_stepAlt (hm.sub rfl) ?_
    refine kept_setBoot (hm.sub rfl) ?_
    exact h0
  · rename_i w41
    refine kept_stepAlt (hm.sub rfl) ?_
    refine kept_setBoot (hm.sub rfl) ?_
    exact h0
  · rename_i w42
    refine kept_stepAlt (hm.sub rfl) ?_
    refine kept_setBoot (hm.sub rfl) ?_
    exact h0
  · rename_i w43
    refine kept_stepAlt (hm.sub rfl) ?_
    refine kept_setBoot (hm.sub rfl) ?_
    exact h0
  · rename_i w44 w45 w46 w47 w48 w49 w50 w51 w52 w53 w54 w55 w56 w57 w58 w59 w60 w61 w62
    exact h0

theorem kept_fenceUnit {s : State} {u : ℕ} (hm : Within 0x188820000049a5000200000000000720983030700c000191701c60002200000000189a59de0bfe M) (h0 : Kept M s0 s) :
    Kept M s0 (State.fenceUnit s u) := by
  unfold State.fenceUnit
  refine kept_ite ?_ ?_
  · refine kept_clusterFault (hm.sub rfl) ?_
    exact h0
  · refine kept_dite ?_ ?_
    · intro q20
      refine kept_fenceChannel (hm.sub rfl) ?_
      exact h0
    · intro q21
      refine kept_fenceVch (hm.sub rfl) ?_
      exact h0

theorem kept_stepSkipAction {s : State} {k : ℕ} {units : List ℕ} (hm : Within 0x188820000049a50002000000000457a0983030700c000191701c6000220000000018ba59de0bfe M) (h0 : Kept M s0 s) :
    Kept M s0 (State.stepSkipAction s k units) := by
  unfold State.stepSkipAction
  split
  · rename_i w20
    refine kept_bridgeFailure (hm.sub rfl) ?_
    exact h0
  · rename_i w21
    refine Kept.setF (hm.bit 1 rfl) (reach_PEP_STS (hm.bit 202 rfl)) ?_
    refine Kept.in_pep (hm.bit 37 rfl) ?_ (Kept.seal) (Kept.seal) (Kept.seal)
    exact h0
  · rename_i w22 w23 w24
    refine kept_forEach ?_ ?_
    · intro y25 y26 h27
      refine kept_fenceUnit (hm.sub rfl) ?_
      exact h27
    · exact h0

theorem kept_flushEarly {s : State} (hm : Within 0x7000000000000000010700000000000000000109a00040202 M) (h0 : Kept M s0 s) :
    Kept M s0 (State.flushEarly s) := by
  unfold State.flushEarly
  extract_lets -underBinder +onlyGivenNames v20
  (clear_value v20; revert v20; refine Kept.seal ?_; intro v20)
  refine kept_forEach ?_ ?_
  · intro y21 y22 h23
    refine kept_putRing (hm.sub rfl) ?_
    exact h23
  · refine kept_setBoot (hm.sub rfl) ?_
    exact h0

theorem kept_unitStates {s : State} {st : ℕ} (hm : Within 0x10100000000000000000000000000000000000000002 M) (h0 : Kept M s0 s) :
    Kept M s0 (State.unitStates s st) := by
  unfold State.unitStates
  extract_lets -underBinder +onlyGivenNames v20
  have h21 : Kept M s0 v20 := by
    unfold v20
    refine kept_forEach ?_ ?_
    · intro y22 y23 h24
      refine Kept.setF (hm.bit 1 rfl) (reach_CAN_DSTS (hm.bit 164 rfl)) ?_
      exact h24
    · exact h0
  (clear_value v20; revert v20; refine Kept.seal ?_; intro v20 h21)
  refine kept_forEach ?_ ?_
  · intro y25 y26 h27
    refine Kept.setF (hm.bit 1 rfl) (reach_UND_STS (hm.bit 172 rfl)) ?_
    exact h27
  · exact h21

theorem kept_sweepAll {s : State} (hm : Within 0x100000000000 M) (h0 : Kept M s0 s) :
    Kept M s0 (State.sweepAll s) := by
  unfold State.sweepAll
  refine kept_forEach ?_ ?_
  · intro y20 y21 h22
    refine kept_emit (hm.sub rfl) ?_
    exact h22
  · refine kept_forEach ?_ ?_
    · intro y23 y24 h25
      refine kept_emit (hm.sub rfl) ?_
      exact h25
    · exact h0

theorem kept_stepOpens {s : State} {k : ℕ} (hm : Within 0x188820000049a50002000000000157a2983030700c000191701c60002221000000189a59de0ffe M) (h0 : Kept M s0 s) :
    Kept M s0 (State.stepOpens s k) := by
  unfold State.stepOpens
  extract_lets -underBinder +onlyGivenNames v20
  have h21 : Kept M s0 v20 := by
    unfold v20
    refine kept_forEach ?_ ?_
    · intro y22 y23 h24
      refine kept_fenceUnit (hm.sub rfl) ?_
      exact h24
    · refine kept_stepStarts (hm.sub rfl) ?_
      exact h0
  (clear_value v20; revert v20; refine Kept.seal ?_; intro v20 h21)
  split
  · rename_i w25
    refine Kept.setF (hm.bit 1 rfl) (reach_AO_BOOT (hm.bit 72 rfl)) ?_
    exact h21
  · rename_i w26
    refine kept_ledger (hm.sub rfl) ?_
    refine kept_flushEarly (hm.sub rfl) ?_
    exact h21
  · rename_i w27
    refine kept_ite ?_ ?_
    · extract_lets -underBinder +onlyGivenNames v28
      (clear_value v28; revert v28; refine Kept.seal ?_; intro v28)
      extract_lets -underBinder +onlyGivenNames v29
      have h30 : Kept M s0 v29 := by
        unfold v29
        refine kept_setBoot (hm.sub rfl) ?_
        refine Kept.setF (hm.bit 1 rfl) (reach_JX_NODE (hm.bit 185 rfl)) ?_
        exact h21
      (clear_value v29; revert v29; refine Kept.seal ?_; intro v29 h30)
      refine kept_forEach ?_ ?_
      · intro y31 y32 h33
        refine kept_newAttempt (hm.sub rfl) ?_
        refine Kept.setF (hm.bit 1 rfl) (reach_JX_PORT_CFG (hm.bit 191 rfl)) ?_
        refine Kept.setF (hm.bit 1 rfl) (reach_JX_PORT_CFG (hm.bit 191 rfl)) ?_
        exact h33
      · exact h30
    · exact h21
  · rename_i w34
    refine kept_forEach ?_ ?_
    · intro y35 y36 h37
      refine Kept.setF (hm.bit 1 rfl) (reach_CAN_DSTS (hm.bit 164 rfl)) ?_
      exact h37
    · exact h21
  · rename_i w38
    refine kept_forEach ?_ ?_
    · intro y39 y40 h41
      refine Kept.setF (hm.bit 1 rfl) (reach_UND_STS (hm.bit 172 rfl)) ?_
      exact h41
    · exact h21
  · rename_i w42
    refine kept_ite ?_ ?_
    · refine kept_unitStates (hm.sub rfl) ?_
      exact h21
    · exact h21
  · rename_i w43
    refine kept_ite ?_ ?_
    · refine kept_unitStates (hm.sub rfl) ?_
      exact h21
    · exact h21
  · rename_i w44
    refine kept_forEach ?_ ?_
    · intro y45 y46 h47
      refine kept_ite ?_ ?_
      · refine Kept.setF (hm.bit 1 rfl) (reach_VLT_CH_STS (hm.bit 179 rfl)) ?_
        exact h47
      · exact h47
    · exact h21
  · rename_i w48 w49 w50 w51 w52 w53 w54 w55 w56
    exact h21

theorem kept_showFuses {s : State} {x : Fuses} (hm : Within 0xf000000000000000000000000000000000000000000000000000000000000000000002 M) (h0 : Kept M s0 s) :
    Kept M s0 (State.showFuses s x) := by
  unfold State.showFuses
  extract_lets -underBinder +onlyGivenNames v20
  (clear_value v20; revert v20; refine Kept.seal ?_; intro v20)
  extract_lets -underBinder +onlyGivenNames v21
  have h22 : Kept M s0 v21 := by
    unfold v21
    refine Kept.setReg (hm.bit 1 rfl) (reach_MGT_ID_SERIAL (hm.bit 276 rfl)) ?_
    exact h0
  (clear_value v21; revert v21; refine Kept.seal ?_; intro v21 h22)
  extract_lets -underBinder +onlyGivenNames v23
  have h24 : Kept M s0 v23 := by
    unfold v23
    refine kept_forEach ?_ ?_
    · intro y25 y26 h27
      refine Kept.setReg (hm.bit 1 rfl) (reach_MGT_ID_PUB (hm.bit 277 rfl)) ?_
      exact h27
    · exact h22
  (clear_value v23; revert v23; refine Kept.seal ?_; intro v23 h24)
  extract_lets -underBinder +onlyGivenNames v28
  have h29 : Kept M s0 v28 := by
    unfold v28
    refine kept_forEach ?_ ?_
    · intro y30 y31 h32
      refine kept_forEach ?_ ?_
      · intro y33 y34 h35
        refine Kept.setReg (hm.bit 1 rfl) (reach_MGT_KEY (hm.bit 278 rfl)) ?_
        exact h35
      · exact h32
    · exact h24
  (clear_value v28; revert v28; refine Kept.seal ?_; intro v28 h29)
  refine Kept.setF (hm.bit 1 rfl) (reach_MGT_KEY_STS (hm.bit 279 rfl)) ?_
  refine Kept.setF (hm.bit 1 rfl) (reach_MGT_KEY_STS (hm.bit 279 rfl)) ?_
  refine Kept.setF (hm.bit 1 rfl) (reach_MGT_KEY_STS (hm.bit 279 rfl)) ?_
  exact h29

theorem kept_trimFail {s : State} (hm : Within 0x20000000000000000002 M) (h0 : Kept M s0 s) :
    Kept M s0 (State.trimFail s) := by
  unfold State.trimFail
  refine Kept.satF (hm.bit 1 rfl) (reach_AO_BOOT_STEP (hm.bit 77 rfl)) ?_
  refine Kept.satF (hm.bit 1 rfl) (reach_AO_BOOT_STEP (hm.bit 77 rfl)) ?_
  exact h0

theorem kept_doTrim {s : State} {bad : ℕ} {read : Fuses} (hm : Within 0xf000000000000000000007000000000000000010700000000021000000109a00040202 M) (h0 : Kept M s0 s) :
    Kept M s0 (State.doTrim s bad read) := by
  unfold State.doTrim
  extract_lets -underBinder +onlyGivenNames v20
  (clear_value v20; revert v20; refine Kept.seal ?_; intro v20)
  extract_lets -underBinder +onlyGivenNames v21
  (clear_value v21; revert v21; refine Kept.seal ?_; intro v21)
  extract_lets -underBinder +onlyGivenNames v22
  have h23 : Kept M s0 v22 := by
    unfold v22
    refine kept_forEach ?_ ?_
    · intro y24 y25 h26
      refine kept_trimFail (hm.sub rfl) ?_
      exact h26
    · exact h0
  (clear_value v22; revert v22; refine Kept.seal ?_; intro v22 h23)
  extract_lets -underBinder +onlyGivenNames v27
  (clear_value v27; revert v27; refine Kept.seal ?_; intro v27)
  extract_lets -underBinder +onlyGivenNames v28
  (clear_value v28; revert v28; refine Kept.seal ?_; intro v28)
  extract_lets -underBinder +onlyGivenNames v29
  have h30 : Kept M s0 v29 := by
    unfold v29
    refine kept_showFuses (hm.sub rfl) ?_
    refine Kept.in_mgmt (hm.bit 36 rfl) ?_
    exact h23
  (clear_value v29; revert v29; refine Kept.seal ?_; intro v29 h30)
  extract_lets -underBinder +onlyGivenNames v31
  have h32 : Kept M s0 v31 := by
    unfold v31
    refine Kept.setF (hm.bit 1 rfl) (reach_AO_BOOT (hm.bit 72 rfl)) ?_
    exact h30
  (clear_value v31; revert v31; refine Kept.seal ?_; intro v31 h32)
  refine kept_ite ?_ ?_
  · refine kept_ledger (hm.sub rfl) ?_
    refine kept_stepAlt (hm.sub rfl) ?_
    refine Kept.setF (hm.bit 1 rfl) (reach_AO_BOOT (hm.bit 72 rfl)) ?_
    exact h32
  · refine Kept.setF (hm.bit 1 rfl) (reach_AO_BOOT_STEP (hm.bit 77 rfl)) ?_
    refine kept_stepAlt (hm.sub rfl) ?_
    refine Kept.setF (hm.bit 1 rfl) (reach_AO_BOOT (hm.bit 72 rfl)) ?_
    exact h32

theorem kept_doReference {s : State} (hm : Within 0x2000000000000000002 M) (h0 : Kept M s0 s) :
    Kept M s0 (State.doReference s) := by
  unfold State.doReference
  extract_lets -underBinder +onlyGivenNames v20
  (clear_value v20; revert v20; refine Kept.seal ?_; intro v20)
  refine Kept.setF (hm.bit 1 rfl) (reach_AO_CLK (hm.bit 73 rfl)) ?_
  refine Kept.setF (hm.bit 1 rfl) (reach_AO_CLK (hm.bit 73 rfl)) ?_
  exact h0

theorem kept_lockPlls {s : State} {engine : Bool} (hm : Within 0x2000000000400000002 M) (h0 : Kept M s0 s) :
    Kept M s0 (State.lockPlls s engine) := by
  unfold State.lockPlls
  extract_lets -underBinder +onlyGivenNames v20
  (clear_value v20; revert v20; refine Kept.seal ?_; intro v20)
  extract_lets -underBinder +onlyGivenNames v21
  have h22 : Kept M s0 v21 := by
    unfold v21
    refine kept_setClocks (hm.sub rfl) ?_
    exact h0
  (clear_value v21; revert v21; refine Kept.seal ?_; intro v21 h22)
  refine kept_setClocks (hm.sub rfl) ?_
  exact h22

theorem kept_clearStores {s : State} (hm : Within 0x78 M) (h0 : Kept M s0 s) :
    Kept M s0 (State.clearStores s) := by
  unfold State.clearStores
  refine Kept.in_stores (x := { s with storePoison := [], storeParity := [], srcRecs := [] }) (hm.bit 3 rfl) ?_ (fun _ => rfl)
  refine Kept.in_storePoison (x := { s with storeParity := [], srcRecs := [] }) (hm.bit 4 rfl) ?_ (fun _ => rfl)
  refine Kept.in_storeParity (x := { s with srcRecs := [] }) (hm.bit 5 rfl) ?_ (fun _ => rfl)
  refine Kept.in_srcRecs (hm.bit 6 rfl) ?_ (fun _ => rfl)
  exact h0

theorem kept_checkerFault {s : State} {u : FenceUnit} {e : Event} (hm : Within 0x188820000049a50002000000000057a0902020700c000191701c60002200000000189a59de0bfe M) (h0 : Kept M s0 s) :
    Kept M s0 (State.checkerFault s u e) := by
  unfold State.checkerFault
  split
  · rename_i w20 w21
    refine kept_dieLost (hm.sub rfl) ?_
    exact h0
  · rename_i w22 w23
    refine kept_fault (hm.sub rfl) ?_
    exact h0

theorem kept_checkerFails {s : State} {i : ℕ} (hm : Within 0x188820000049a50002000000000057a0902020700c000191701c60002200000000189a59de0bfe M) (h0 : Kept M s0 s) :
    Kept M s0 (State.checkerFails s i) := by
  unfold State.checkerFails
  extract_lets -underBinder +onlyGivenNames v20
  (clear_value v20; revert v20; refine Kept.seal ?_; intro v20)
  extract_lets -underBinder +onlyGivenNames v21
  (clear_value v21; revert v21; refine Kept.seal ?_; intro v21)
  refine kept_ite ?_ ?_
  · refine kept_checkerFault (hm.sub rfl) ?_
    exact h0
  · refine kept_ite ?_ ?_
    · refine kept_checkerFault (hm.sub rfl) ?_
      exact h0
    · refine kept_ite ?_ ?_
      · refine kept_checkerFault (hm.sub rfl) ?_
        exact h0
      · refine kept_ite ?_ ?_
        · extract_lets -underBinder +onlyGivenNames v22
          (clear_value v22; revert v22; refine Kept.seal ?_; intro v22)
          refine kept_checkerFault (hm.sub rfl) ?_
          exact h0
        · refine kept_ite ?_ ?_
          · refine kept_ledger (hm.sub rfl) ?_
            exact h0
          · refine kept_checkerFault (hm.sub rfl) ?_
            exact h0

theorem kept_doSelftest {s : State} {failed : ℕ} (hm : Within 0x188820000049a50002000000000057a0902020700c000199701c60002200000000189a59de0bfe M) (h0 : Kept M s0 s) :
    Kept M s0 (State.doSelftest s failed) := by
  unfold State.doSelftest
  extract_lets -underBinder +onlyGivenNames v20
  (clear_value v20; revert v20; refine Kept.seal ?_; intro v20)
  extract_lets -underBinder +onlyGivenNames v21
  have h22 : Kept M s0 v21 := by
    unfold v21
    refine Kept.setReg (hm.bit 1 rfl) (reach_LDG_SELFTEST (hm.bit 123 rfl)) ?_
    exact h0
  (clear_value v21; revert v21; refine Kept.seal ?_; intro v21 h22)
  refine kept_forEach ?_ ?_
  · intro y23 y24 h25
    refine kept_checkerFails (hm.sub rfl) ?_
    exact h25
  · exact h22

theorem kept_fwStart {s : State} (hm : Within 0x700000000000000000000000000000000000000000000000000000000001000000002 M) (h0 : Kept M s0 s) :
    Kept M s0 (State.fwStart s) := by
  unfold State.fwStart
  extract_lets -underBinder +onlyGivenNames v20
  (clear_value v20; revert v20; refine Kept.seal ?_; intro v20)
  extract_lets -underBinder +onlyGivenNames v21
  have h22 : Kept M s0 v21 := by
    unfold v21
    refine Kept.setReg (hm.bit 1 rfl) (reach_MGT_FW_VERSION (hm.bit 274 rfl)) ?_
    refine Kept.setF (hm.bit 1 rfl) (reach_MGT_STS (hm.bit 273 rfl)) ?_
    exact h0
  (clear_value v21; revert v21; refine Kept.seal ?_; intro v21 h22)
  extract_lets -underBinder +onlyGivenNames v23
  have h24 : Kept M s0 v23 := by
    unfold v23
    refine Kept.setF (hm.bit 1 rfl) (reach_MGT_CFG (hm.bit 272 rfl)) ?_
    exact h22
  (clear_value v23; revert v23; refine Kept.seal ?_; intro v23 h24)
  refine Kept.in_mgmt (hm.bit 36 rfl) ?_
  exact h24

theorem kept_applyQuarantine {s : State} {x : Structure} (hm : Within 0x18000000000000000000000000000000000000000000000000000000000000000000000002 M) (h0 : Kept M s0 s) :
    Kept M s0 (State.applyQuarantine s x) := by
  unfold State.applyQuarantine
  refine Kept.setF (hm.bit 1 rfl) (reach_TST_QUAR (hm.bit 292 rfl)) ?_
  refine Kept.setF (hm.bit 1 rfl) (reach_TST_QUAR_BASE (hm.bit 291 rfl)) ?_
  exact h0

theorem kept_applyAll {s : State} {x : Loaded} (hm : Within 0x1c000000000000000000000157a000c780838000001070001f003648048000189b80260f82 M) (h0 : Kept M s0 s) :
    Kept M s0 (State.applyAll s x) := by
  unfold State.applyAll
  extract_lets -underBinder +onlyGivenNames v20
  have h21 : Kept M s0 v20 := by
    unfold v20
    refine kept_applyPrefix (hm.sub rfl) ?_
    exact h0
  (clear_value v20; revert v20; refine Kept.seal ?_; intro v20 h21)
  extract_lets -underBinder +onlyGivenNames v22
  (clear_value v22; revert v22; refine Kept.seal ?_; intro v22)
  extract_lets -underBinder +onlyGivenNames v23
  (clear_value v23; revert v23; refine Kept.seal ?_; intro v23)
  extract_lets -underBinder +onlyGivenNames v24
  have h25 : Kept M s0 v24 := by
    unfold v24
    (generalize q27 : (x.fw) = x26; revert x26; refine Kept.seal ?_; intro x26 q27)
    split
    · rename_i w28 w29
      refine kept_setDigest (hm.sub rfl) ?_
      exact h21
    · rename_i w30
      exact h21
  (clear_value v24; revert v24; refine Kept.seal ?_; intro v24 h25)
  extract_lets -underBinder +onlyGivenNames v31
  have h32 : Kept M s0 v31 := by
    unfold v31
    (generalize q34 : (x.str) = x33; revert x33; refine Kept.seal ?_; intro x33 q34)
    split
    · rename_i w35 w36
      refine kept_setDigest (hm.sub rfl) ?_
      exact h25
    · rename_i w37
      exact h25
  (clear_value v31; revert v31; refine Kept.seal ?_; intro v31 h32)
  extract_lets -underBinder +onlyGivenNames v38
  have h39 : Kept M s0 v38 := by
    unfold v38
    (generalize q41 : (x.progs) = x40; revert x40; refine Kept.seal ?_; intro x40 q41)
    split
    · rename_i w42 w43
      refine kept_setDigest (hm.sub rfl) ?_
      exact h32
    · rename_i w44
      exact h32
  (clear_value v38; revert v38; refine Kept.seal ?_; intro v38 h39)
  extract_lets -underBinder +onlyGivenNames v45
  have h46 : Kept M s0 v45 := by
    unfold v45
    (generalize q48 : (x.tabs) = x47; revert x47; refine Kept.seal ?_; intro x47 q48)
    split
    · rename_i w49 w50
      refine kept_setDigest (hm.sub rfl) ?_
      refine kept_installTables (hm.sub rfl) ?_
      exact h39
    · rename_i w51
      exact h39
  (clear_value v45; revert v45; refine Kept.seal ?_; intro v45 h46)
  extract_lets -underBinder +onlyGivenNames v52
  (clear_value v52; revert v52; refine Kept.seal ?_; intro v52)
  extract_lets -underBinder +onlyGivenNames v53
  (clear_value v53; revert v53; refine Kept.seal ?_; intro v53)
  extract_lets -underBinder +onlyGivenNames v54
  have h55 : Kept M s0 v54 := by
    unfold v54
    refine Kept.in_epoch (hm.bit 8 rfl) ?_
    exact h46
  (clear_value v54; revert v54; refine Kept.seal ?_; intro v54 h55)
  extract_lets -underBinder +onlyGivenNames v56
  have h57 : Kept M s0 v56 := by
    unfold v56
    refine kept_ite ?_ ?_
    · exact h55
    · refine kept_forEach ?_ ?_
      · intro y58 y59 h60
        refine kept_portOff (hm.sub rfl) ?_
        exact h60
      · refine kept_addFence (hm.sub rfl) ?_
        exact h55
  (clear_value v56; revert v56; refine Kept.seal ?_; intro v56 h57)
  extract_lets -underBinder +onlyGivenNames v61
  have h62 : Kept M s0 v61 := by
    unfold v61
    refine kept_applyQuarantine (hm.sub rfl) ?_
    refine kept_applyStructure (hm.sub rfl) ?_
    refine kept_applyPop (hm.sub rfl) ?_
    exact h57
  (clear_value v61; revert v61; refine Kept.seal ?_; intro v61 h62)
  extract_lets -underBinder +onlyGivenNames v63
  have h64 : Kept M s0 v63 := by
    unfold v63
    refine kept_forEach ?_ ?_
    · intro y65 y66 h67
      refine kept_portCommit (hm.sub rfl) ?_
      exact h67
    · exact h62
  (clear_value v63; revert v63; refine Kept.seal ?_; intro v63 h64)
  extract_lets -underBinder +onlyGivenNames v68
  have h69 : Kept M s0 v68 := by
    unfold v68
    refine Kept.setF (hm.bit 1 rfl) (reach_SIT_LOAD (hm.bit 78 rfl)) ?_
    refine Kept.setF (hm.bit 1 rfl) (reach_GLB_EPOCH (hm.bit 66 rfl)) ?_
    exact h64
  (clear_value v68; revert v68; refine Kept.seal ?_; intro v68 h69)
  refine Kept.setF (hm.bit 1 rfl) (reach_SIT_STATUS (hm.bit 81 rfl)) ?_
  refine Kept.setF (hm.bit 1 rfl) (reach_SIT_STATUS (hm.bit 81 rfl)) ?_
  refine Kept.setF (hm.bit 1 rfl) (reach_SIT_STATUS (hm.bit 81 rfl)) ?_
  exact h69

theorem kept_doTrain {s : State} {keys : List ℕ} {full : List ℕ} (hm : Within 0x10100000000000000000000000000000000800080002 M) (h0 : Kept M s0 s) :
    Kept M s0 (State.doTrain s keys full) := by
  have tr : ∀ (l : List Nat) (y : List (Nat × Bool)), Sparse.wf clearBit y = true →
      Sparse.wf clearBit (l.foldl (fun m k => Sparse.put clearBit m k true) y) = true := by
    intro l
    induction l with
    | nil => exact fun _ h => h
    | cons a t ih => exact fun y h => ih _ (Sparse.wf_put h)
  unfold State.doTrain
  extract_lets -underBinder +onlyGivenNames v20
  have h21 : Kept M s0 v20 := by
    unfold v20
    refine kept_forEach ?_ h0
    intro y u hy
    refine kept_dite ?_ ?_
    · intro h
      exact Kept.setF (hm.bit 1 rfl) (reach_speed (hm.bit 164 rfl) (hm.bit 172 rfl)) hy
    · exact fun _ => hy
  (clear_value v20; revert v20; refine Kept.seal ?_; intro v20 h21)
  have h22 : ∀ tr, (Sparse.wf clearBit v20.dramCtl.trained = true → Sparse.wf clearBit tr = true) → Kept M s0 { v20 with dramCtl := { v20.dramCtl with trained := tr } } := fun _ ht =>
    Kept.in_dramCtl (hm.bit 19 rfl) h21 Kept.seal Kept.seal Kept.seal Kept.seal Kept.seal ht Kept.seal
  refine kept_ite ?_ ?_
  · exact kept_setBoot (hm.sub rfl) (h22 _ (tr _ _))
  · exact h22 _ (tr _ _)

theorem kept_densityCheck {s : State} {read : List (Fin 96 × ℕ)} (hm : Within 0x7000010100000000010700000000000000000109a00040202 M) (h0 : Kept M s0 s) :
    Kept M s0 (State.densityCheck s read) := by
  unfold State.densityCheck
  refine kept_forEach ?_ ?_
  · intro y20 y21 h22
    refine kept_densityRead (hm.sub rfl) ?_
    exact h22
  · exact h0

theorem kept_loseGrains {s : State} {l : List GrainLoc} (hm : Within 0x80004 M) (h0 : Kept M s0 s) :
    Kept M s0 (State.loseGrains s l) := by
  unfold State.loseGrains
  refine kept_forEach ?_ ?_
  · intro y20 y21 h22
    refine kept_putGrain (hm.sub rfl) ?_
    exact h22
  · exact h0

theorem kept_lostFillRecord {s : State} {u : DUnit} {mask : ℕ} (hm : Within 0x7000000000000000010700000000000000000109a00040202 M) (h0 : Kept M s0 s) :
    Kept M s0 (State.lostFillRecord s u mask) := by
  unfold State.lostFillRecord
  refine kept_ledger (hm.sub rfl) ?_
  exact h0

theorem kept_loseUnit {s : State} {u : ℕ} (hm : Within 0x7000000000000000010700000000000000000109a000e0206 M) (h0 : Kept M s0 s) :
    Kept M s0 (State.loseUnit s u) := by
  unfold State.loseUnit
  extract_lets -underBinder +onlyGivenNames v20
  (clear_value v20; revert v20; refine Kept.seal ?_; intro v20)
  extract_lets -underBinder +onlyGivenNames v21
  have h22 : Kept M s0 v21 := by
    unfold v21
    refine kept_setBoot (hm.sub rfl) ?_
    exact h0
  (clear_value v21; revert v21; refine Kept.seal ?_; intro v21 h22)
  refine kept_ite ?_ ?_
  · extract_lets -underBinder +onlyGivenNames v23
    have h24 : Kept M s0 v23 := by
      unfold v23
      refine kept_forEach ?_ ?_
      · intro y25 y26 h27
        refine kept_loseGrains (hm.sub rfl) ?_
        exact h27
      · exact h22
    (clear_value v23; revert v23; refine Kept.seal ?_; intro v23 h24)
    refine kept_lostFillRecord (hm.sub rfl) ?_
    refine kept_invalidateAll (hm.sub rfl) ?_
    exact h24
  · refine kept_lostFillRecord (hm.sub rfl) ?_
    refine kept_loseGrains (hm.sub rfl) ?_
    exact h22

theorem kept_loseSegments {s : State} {n : ℕ} (hm : Within 0x7000000000000000010700000000000000000109a000c0206 M) (h0 : Kept M s0 s) :
    Kept M s0 (State.loseSegments s n) := by
  unfold State.loseSegments
  extract_lets -underBinder +onlyGivenNames v20
  (clear_value v20; revert v20; refine Kept.seal ?_; intro v20)
  refine kept_ite ?_ ?_
  · exact h0
  · refine kept_lostFillRecord (hm.sub rfl) ?_
    refine kept_loseGrains (hm.sub rfl) ?_
    exact h0

theorem kept_doFill {s : State} (hm : Within 0x2000000000007000018100000000010700000000001000000109b000e0206 M) (h0 : Kept M s0 s) :
    Kept M s0 (State.doFill s) := by
  obtain ⟨fD, eD⟩ : ∃ f, @State.doFill = f := ⟨_, rfl⟩
  (rw [eD]; delta State.doFill at eD; subst eD; beta_reduce)
  extract_lets -underBinder +onlyGivenNames v20
  have h21 : Kept M s0 v20 := by
    unfold v20
    refine kept_forEach ?_ ?_
    · intro y22 y23 h24
      refine kept_loseSegments (hm.sub rfl) ?_
      exact h24
    · exact h0
  (clear_value v20; revert v20; refine Kept.seal ?_; intro v20 h21)
  extract_lets -underBinder +onlyGivenNames v25
  have h26 : Kept M s0 v25 := by
    unfold v25
    refine kept_forEach ?_ ?_
    · intro y27 y28 h29
      refine Kept.setF (hm.bit 1 rfl) (reach_UND_PASR (hm.bit 171 rfl)) ?_
      exact h29
    · exact h21
  (clear_value v25; revert v25; refine Kept.seal ?_; intro v25 h26)
  extract_lets -underBinder +onlyGivenNames v30
  have h31 : Kept M s0 v30 := by
    unfold v30
    refine Kept.setF (hm.bit 1 rfl) (reach_PAIR_STS (hm.bit 241 rfl)) ?_
    exact h0
  (clear_value v30; revert v30; refine Kept.seal ?_; intro v30 h31)
  extract_lets -underBinder +onlyGivenNames v32
  (clear_value v32; revert v32; refine Kept.seal ?_; intro v32)
  extract_lets -underBinder +onlyGivenNames v33
  extract_lets -underBinder +onlyGivenNames v34
  have h35 : Kept M s0 v34 := by
    unfold v34
    refine kept_ite ?_ ?_
    · refine kept_forEach ?_ ?_
      · intro y36 y37 h38
        refine kept_loseUnit (hm.sub rfl) ?_
        exact h38
      · exact h26
    · refine Kept.in_dram (x := { (v30.setBoot { perst := v32.perst, hrst := v32.hrst, holdUntil := v32.holdUntil, shake := v32.shake, keep := v32.keep, restart := v32.restart, stepAt := v32.stepAt, blk := v32.blk, lowered := v32.lowered, regulatedAt := v32.regulatedAt, slow := v32.slow, fenceFirst := v32.fenceFirst, slowClk := v32.slowClk, bridgeSlow := v32.bridgeSlow, pcie32 := v32.pcie32, early := v32.early, image := v32.image, imageBad := v32.imageBad, lsrEarly := v32.lsrEarly }).unitStates 4 with canopy := { decayAt := ((v30.setBoot { perst := v32.perst, hrst := v32.hrst, holdUntil := v32.holdUntil, shake := v32.shake, keep := v32.keep, restart := v32.restart, stepAt := v32.stepAt, blk := v32.blk, lowered := v32.lowered, regulatedAt := v32.regulatedAt, slow := v32.slow, fenceFirst := v32.fenceFirst, slowClk := v32.slowClk, bridgeSlow := v32.bridgeSlow, pcie32 := v32.pcie32, early := v32.early, image := v32.image, imageBad := v32.imageBad, lsrEarly := v32.lsrEarly }).unitStates 4).canopy.decayAt }, integ := { ring := v33.ring, merge0 := v33.merge0, merge1 := v33.merge1, repairs := v33.repairs, scrub := v33.scrub, flitFlip := v33.flitFlip, faultAt := v33.faultAt, faulted := v33.faulted }, mint := { } }) (hm.bit 2 rfl) ?_ (fun _ => rfl)
      refine Kept.in_canopy (x := { (v30.setBoot { perst := v32.perst, hrst := v32.hrst, holdUntil := v32.holdUntil, shake := v32.shake, keep := v32.keep, restart := v32.restart, stepAt := v32.stepAt, blk := v32.blk, lowered := v32.lowered, regulatedAt := v32.regulatedAt, slow := v32.slow, fenceFirst := v32.fenceFirst, slowClk := v32.slowClk, bridgeSlow := v32.bridgeSlow, pcie32 := v32.pcie32, early := v32.early, image := v32.image, imageBad := v32.imageBad, lsrEarly := v32.lsrEarly }).unitStates 4 with integ := { ring := v33.ring, merge0 := v33.merge0, merge1 := v33.merge1, repairs := v33.repairs, scrub := v33.scrub, flitFlip := v33.flitFlip, faultAt := v33.faultAt, faulted := v33.faulted }, mint := { } }) (hm.bit 17 rfl) ?_ (fun _ => rfl) (fun _ => rfl) (fun _ => rfl) (fun _ => rfl)
      refine Kept.in_integ (x := { (v30.setBoot { perst := v32.perst, hrst := v32.hrst, holdUntil := v32.holdUntil, shake := v32.shake, keep := v32.keep, restart := v32.restart, stepAt := v32.stepAt, blk := v32.blk, lowered := v32.lowered, regulatedAt := v32.regulatedAt, slow := v32.slow, fenceFirst := v32.fenceFirst, slowClk := v32.slowClk, bridgeSlow := v32.bridgeSlow, pcie32 := v32.pcie32, early := v32.early, image := v32.image, imageBad := v32.imageBad, lsrEarly := v32.lsrEarly }).unitStates 4 with mint := { } }) (hm.bit 18 rfl) ?_ (Kept.seal) (Kept.seal)
      refine Kept.in_mint (hm.bit 32 rfl) ?_ (fun _ => rfl)
      refine kept_unitStates (hm.sub rfl) ?_
      refine kept_setBoot (hm.sub rfl) ?_
      exact h31
  (clear_value v34; revert v34; refine Kept.seal ?_; intro v34 h35)
  refine Kept.setF (hm.bit 1 rfl) (reach_AO_BOOT (hm.bit 72 rfl)) ?_
  exact h35

theorem kept_doReconcile {s : State} (hm : Within 0x7000020204200000190700000000010000000189a000e0206 M) (h0 : Kept M s0 s) :
    Kept M s0 (State.doReconcile s) := by
  unfold State.doReconcile
  refine kept_forEach ?_ ?_
  · intro y20 y21 h22
    extract_lets -underBinder +onlyGivenNames v23
    (clear_value v23; revert v23; refine Kept.seal ?_; intro v23)
    extract_lets -underBinder +onlyGivenNames v24
    (clear_value v24; revert v24; refine Kept.seal ?_; intro v24)
    extract_lets -underBinder +onlyGivenNames v25
    have h26 : ∀ c_0 c_1, Kept M s0 c_0 → Kept M s0 (v25 c_0 c_1) := by
      unfold v25
      intro y27 y28 h29
      refine Kept.setF (hm.bit 1 rfl) (reach_CAN_SPLIT (hm.bit 153 rfl)) ?_
      refine Kept.setF (hm.bit 1 rfl) (reach_CAN_SPLIT (hm.bit 153 rfl)) ?_
      exact h29
    (clear_value v25; revert v25; refine Kept.seal ?_; intro v25 h26)
    extract_lets -underBinder +onlyGivenNames v30
    have h31 : Kept M s0 v30 := by
      unfold v30
      refine kept_ite ?_ ?_
      · refine kept_changeRole (hm.sub rfl) ?_
        refine h26 _ _ ?_
        refine kept_invalidateAll (hm.sub rfl) ?_
        refine kept_writeBackAll (hm.sub rfl) ?_
        refine h26 _ _ ?_
        exact h22
      · exact h22
    (clear_value v30; revert v30; refine Kept.seal ?_; intro v30 h31)
    refine kept_keepSplit (hm.sub rfl) ?_
    exact h31
  · exact h0

theorem kept_vaultCount {s : State} {c : ℕ} (hm : Within 0x7000400000000000010700000000000000000109a00040202 M) (h0 : Kept M s0 s) :
    Kept M s0 (State.vaultCount s c) := by
  unfold State.vaultCount
  extract_lets -underBinder +onlyGivenNames v20
  (clear_value v20; revert v20; refine Kept.seal ?_; intro v20)
  extract_lets -underBinder +onlyGivenNames v21
  have h22 : Kept M s0 v21 := by
    unfold v21
    refine Kept.setF (hm.bit 1 rfl) (reach_VLT_PAGES (hm.bit 178 rfl)) ?_
    refine Kept.setF (hm.bit 1 rfl) (reach_VLT_PAGES (hm.bit 178 rfl)) ?_
    exact h0
  (clear_value v21; revert v21; refine Kept.seal ?_; intro v21 h22)
  refine kept_ite ?_ ?_
  · refine kept_ledger (hm.sub rfl) ?_
    refine Kept.setF (hm.bit 1 rfl) (reach_VLT_PAGES (hm.bit 178 rfl)) ?_
    exact h22
  · refine Kept.setF (hm.bit 1 rfl) (reach_VLT_PAGES (hm.bit 178 rfl)) ?_
    exact h22

theorem kept_doVault {s : State} {params : List VParam} (hm : Within 0x7000c00000000000010700000000000000000109a00140202 M) (h0 : Kept M s0 s) :
    Kept M s0 (State.doVault s params) := by
  unfold State.doVault
  extract_lets -underBinder +onlyGivenNames v20
  (clear_value v20; revert v20; refine Kept.seal ?_; intro v20)
  extract_lets -underBinder +onlyGivenNames v21
  (clear_value v21; revert v21; refine Kept.seal ?_; intro v21)
  extract_lets -underBinder +onlyGivenNames v22
  have h23 : Kept M s0 v22 := by
    unfold v22
    refine kept_forEach ?_ ?_
    · intro y24 y25 h26
      refine kept_fenceVch (hm.sub rfl) ?_
      exact h26
    · exact h0
  (clear_value v22; revert v22; refine Kept.seal ?_; intro v22 h23)
  extract_lets -underBinder +onlyGivenNames v27
  (clear_value v27; revert v27; refine Kept.seal ?_; intro v27)
  extract_lets -underBinder +onlyGivenNames v28
  (clear_value v28; revert v28; refine Kept.seal ?_; intro v28)
  extract_lets -underBinder +onlyGivenNames v29
  extract_lets -underBinder +onlyGivenNames v30
  have h31 : Kept M s0 v30 := by
    unfold v30
    refine Kept.in_vault (hm.bit 20 rfl) ?_ (Kept.seal) (Kept.seal) (Kept.seal) (Kept.seal) (Kept.seal) (Kept.seal) (Kept.seal)
    exact h23
  (clear_value v30; revert v30; refine Kept.seal ?_; intro v30 h31)
  extract_lets -underBinder +onlyGivenNames v32
  have h33 : Kept M s0 v32 := by
    unfold v32
    refine kept_forEach ?_ ?_
    · intro y34 y35 h36
      refine Kept.setF (hm.bit 1 rfl) (reach_VLT_CH_STS (hm.bit 179 rfl)) ?_
      refine Kept.setF (hm.bit 1 rfl) (reach_VLT_CH_STS (hm.bit 179 rfl)) ?_
      exact h36
    · exact h31
  (clear_value v32; revert v32; refine Kept.seal ?_; intro v32 h33)
  refine kept_ite ?_ ?_
  · exact h33
  · refine kept_forEach ?_ ?_
    · intro y37 y38 h39
      refine kept_vaultCount (hm.sub rfl) ?_
      exact h39
    · exact h33

theorem kept_doService {s : State} (hm : Within 0x10802000004924004240000000800720802020700000099070000082220300000018bed91e1bfe M) (h0 : Kept M s0 s) :
    Kept M s0 (State.doService s) := by
  unfold State.doService
  extract_lets -underBinder +onlyGivenNames v20
  have h21 : Kept M s0 v20 := by
    unfold v20
    refine Kept.setF (hm.bit 1 rfl) (reach_AO_BOOT (hm.bit 72 rfl)) ?_
    refine Kept.setF (hm.bit 1 rfl) (reach_AO_BOOT (hm.bit 72 rfl)) ?_
    exact h0
  (clear_value v20; revert v20; refine Kept.seal ?_; intro v20 h21)
  extract_lets -underBinder +onlyGivenNames v22
  extract_lets -underBinder +onlyGivenNames v23
  extract_lets -underBinder +onlyGivenNames v24
  have h25 : Kept M s0 v24 := by
    unfold v24
    refine Kept.in_dramCtl (x := { v20 with pep := { config := v23.config, aspmL1 := v23.aspmL1, l11 := v23.l11, relaxed := v23.relaxed, msixEn := v23.msixEn, msixMask := v23.msixMask, msix := v23.msix, dma := v23.dma, hdm := v23.hdm, oldWindow := v23.oldWindow, generation := v23.generation, poolValid := Bool.true, heldDown := v23.heldDown, writeDropAt := v23.writeDropAt, lanes := v23.lanes } }) (hm.bit 19 rfl) ?_ (Kept.seal) (Kept.seal) (Kept.seal) (Kept.seal) (Kept.seal) (Kept.seal) (Kept.seal)
    refine Kept.in_pep (hm.bit 37 rfl) ?_ (Kept.seal) (Kept.seal) (Kept.seal)
    exact h21
  (clear_value v24; revert v24; refine Kept.seal ?_; intro v24 h25)
  extract_lets -underBinder +onlyGivenNames v26
  have h27 : Kept M s0 v26 := by
    unfold v26
    refine kept_ite ?_ ?_
    · refine kept_clockRepin (hm.sub rfl) ?_
      refine kept_clockRepin (hm.sub rfl) ?_
      exact h25
    · exact h25
  (clear_value v26; revert v26; refine Kept.seal ?_; intro v26 h27)
  extract_lets -underBinder +onlyGivenNames v28
  have h29 : Kept M s0 v28 := by
    unfold v28
    refine kept_forEach ?_ ?_
    · intro y30 y31 h32
      refine kept_setCore (hm.sub rfl) ?_
      exact h32
    · exact h27
  (clear_value v28; revert v28; refine Kept.seal ?_; intro v28 h29)
  extract_lets -underBinder +onlyGivenNames v33
  have h34 : Kept M s0 v33 := by
    unfold v33
    refine kept_forEach ?_ ?_
    · intro y35 y36 h37
      refine kept_newPass (hm.sub rfl) ?_
      exact h37
    · refine kept_applySums (hm.sub rfl) ?_
      exact h29
  (clear_value v33; revert v33; refine Kept.seal ?_; intro v33 h34)
  refine kept_pairApply (hm.sub rfl) ?_
  exact h34

theorem kept_unitWork {s : State} {k : ℕ} {e : StartEnv} (hm : Within 0x2000000000007000c38304200000190700000000011000000189b001e0206 M) (h0 : Kept M s0 s) :
    Kept M s0 (State.unitWork s k e) := by
  unfold State.unitWork
  split
  · rename_i w20
    refine kept_doTrain (hm.sub rfl) ?_
    exact h0
  · rename_i w21
    extract_lets -underBinder +onlyGivenNames v22
    have h23 : Kept M s0 v22 := by
      unfold v22
      refine kept_densityCheck (hm.sub rfl) ?_
      refine kept_doTrain (hm.sub rfl) ?_
      exact h0
    (clear_value v22; revert v22; refine Kept.seal ?_; intro v22 h23)
    refine Kept.in_dramCtl (hm.bit 19 rfl) ?_ (Kept.seal) (Kept.seal) (Kept.seal) (Kept.seal) (Kept.seal) (Kept.seal) (Kept.seal)
    exact h23
  · rename_i w24
    refine kept_doFill (hm.sub rfl) ?_
    exact h0
  · rename_i w25
    refine kept_unitStates (hm.sub rfl) ?_
    refine kept_ite ?_ ?_
    · refine kept_sweepAll (hm.sub rfl) ?_
      exact h0
    · exact h0
  · rename_i w26
    refine kept_doReconcile (hm.sub rfl) ?_
    exact h0
  · rename_i w27
    refine kept_doVault (hm.sub rfl) ?_
    exact h0
  · rename_i w28 w29 w30 w31 w32 w33 w34
    exact h0

theorem kept_stepFails {s : State} {k : ℕ} {units : List ℕ} {code : ℕ} {e : StartEnv} (hm : Within 0x188820000049a50002000000000557a29c3830728c000191701c6000223348a00019bfffffdffe M) (h0 : Kept M s0 s) :
    Kept M s0 (State.stepFails s k units code e) := by
  unfold State.stepFails
  extract_lets -underBinder +onlyGivenNames v20
  have h21 : Kept M s0 v20 := by
    unfold v20
    refine kept_stepEnds (hm.sub rfl) ?_
    exact h0
  (clear_value v20; revert v20; refine Kept.seal ?_; intro v20 h21)
  extract_lets -underBinder +onlyGivenNames v22
  have h23 : Kept M s0 v22 := by
    unfold v22
    refine Kept.satF (hm.bit 1 rfl) (reach_AO_BOOT_STEP (hm.bit 77 rfl)) ?_
    refine Kept.satF (hm.bit 1 rfl) (reach_AO_BOOT_STEP (hm.bit 77 rfl)) ?_
    exact h21
  (clear_value v22; revert v22; refine Kept.seal ?_; intro v22 h23)
  extract_lets -underBinder +onlyGivenNames v24
  (clear_value v24; revert v24; refine Kept.seal ?_; intro v24)
  extract_lets -underBinder +onlyGivenNames v25
  (clear_value v25; revert v25; refine Kept.seal ?_; intro v25)
  extract_lets -underBinder +onlyGivenNames v26
  have h27 : Kept M s0 v26 := by
    unfold v26
    refine kept_ledger (hm.sub rfl) ?_
    exact h23
  (clear_value v26; revert v26; refine Kept.seal ?_; intro v26 h27)
  extract_lets -underBinder +onlyGivenNames v28
  have h29 : Kept M s0 v28 := by
    unfold v28
    refine kept_ite ?_ ?_
    · refine kept_forEach ?_ ?_
      · intro y30 y31 h32
        refine kept_dite ?_ ?_
        · intro q33
          refine kept_ledger (hm.sub rfl) ?_
          exact h32
        · intro q34
          exact h32
      · exact h27
    · exact h27
  (clear_value v28; revert v28; refine Kept.seal ?_; intro v28 h29)
  refine kept_ite ?_ ?_
  · refine kept_deviceReset (hm.sub rfl) ?_
    refine kept_stepChange (hm.sub rfl) ?_
    exact h29
  · refine kept_ite ?_ ?_
    · extract_lets -underBinder +onlyGivenNames v35
      have h36 : Kept M s0 v35 := by
        unfold v35
        refine kept_ledger (hm.sub rfl) ?_
        refine kept_stepSkipAction (hm.sub rfl) ?_
        exact h29
      (clear_value v35; revert v35; refine Kept.seal ?_; intro v35 h36)
      refine kept_stepOpens (hm.sub rfl) ?_
      refine kept_stepEnds (hm.sub rfl) ?_
      refine kept_unitWork (hm.sub rfl) ?_
      exact h36
    · extract_lets -underBinder +onlyGivenNames v37
      have h38 : Kept M s0 v37 := by
        unfold v37
        refine kept_ibi (hm.sub rfl) ?_
        refine kept_ledger (hm.sub rfl) ?_
        refine kept_stepChange (hm.sub rfl) ?_
        exact h29
      (clear_value v37; revert v37; refine Kept.seal ?_; intro v37 h38)
      refine Kept.setF (hm.bit 1 rfl) (reach_AO_BOOT (hm.bit 72 rfl)) ?_
      refine Kept.setF (hm.bit 1 rfl) (reach_AO_BOOT (hm.bit 72 rfl)) ?_
      exact h38

theorem kept_imageStepFails {s : State} {k : ℕ} {e : ImgFail} (hm : Within 0x188820000049a50002000000000557a29c3830728c000191701c6000227348a00019bfffffdffe M) (h0 : Kept M s0 s) :
    Kept M s0 (State.imageStepFails s k e) := by
  unfold State.imageStepFails
  refine kept_stepFails (hm.sub rfl) ?_
  refine kept_sitError (hm.sub rfl) ?_
  refine Kept.setF (hm.bit 1 rfl) (reach_SIT_STATUS (hm.bit 81 rfl)) ?_
  refine kept_loadOver (hm.sub rfl) ?_
  exact h0

theorem kept_stepPasses {s : State} {k : ℕ} (hm : Within 0x188820000049a50042400000008157a2983030700c000991701c6082222300000018bed9de1ffe M) (h0 : Kept M s0 s) :
    Kept M s0 (State.stepPasses s k) := by
  unfold State.stepPasses
  extract_lets -underBinder +onlyGivenNames v20
  have h21 : Kept M s0 v20 := by
    unfold v20
    refine kept_stepEnds (hm.sub rfl) ?_
    refine Kept.setF (hm.bit 1 rfl) (reach_AO_BOOT_STEP (hm.bit 77 rfl)) ?_
    exact h0
  (clear_value v20; revert v20; refine Kept.seal ?_; intro v20 h21)
  refine kept_ite ?_ ?_
  · refine kept_doService (hm.sub rfl) ?_
    exact h21
  · refine kept_stepOpens (hm.sub rfl) ?_
    exact h21

theorem kept_stepDone {s : State} {e : StartEnv} (hm : Within 0x18883c00f749a50042400000008557a29cffb0f38c000999701c7f82377b4ca00019bfffffdffe M) (h0 : Kept M s0 s) :
    Kept M s0 (State.stepDone s e) := by
  unfold State.stepDone
  extract_lets -underBinder +onlyGivenNames v20
  (clear_value v20; revert v20; refine Kept.seal ?_; intro v20)
  extract_lets -underBinder +onlyGivenNames v21
  have h22 : ∀ c_0, Kept M s0 c_0 → Kept M s0 (v21 c_0) := by
    unfold v21
    intro y23 h24
    refine kept_stepPasses (hm.sub rfl) ?_
    exact h24
  (clear_value v21; revert v21; refine Kept.seal ?_; intro v21 h22)
  refine kept_ite ?_ ?_
  · exact h0
  · split
    · rename_i w25
      refine kept_ite ?_ ?_
      · refine kept_stepFails (hm.sub rfl) ?_
        exact h0
      · refine h22 _ ?_
        exact h0
    · rename_i w26
      refine h22 _ ?_
      refine kept_doTrim (hm.sub rfl) ?_
      exact h0
    · rename_i w27
      refine h22 _ ?_
      refine kept_doReference (hm.sub rfl) ?_
      exact h0
    · rename_i w28
      refine h22 _ ?_
      refine kept_lockPlls (hm.sub rfl) ?_
      exact h0
    · rename_i w29
      refine h22 _ ?_
      refine kept_lockPlls (hm.sub rfl) ?_
      exact h0
    · rename_i w30
      refine h22 _ ?_
      refine kept_clearStores (hm.sub rfl) ?_
      exact h0
    · rename_i w31
      refine h22 _ ?_
      refine kept_doSelftest (hm.sub rfl) ?_
      exact h0
    · rename_i w32
      refine h22 _ ?_
      refine Kept.setF (hm.bit 1 rfl) (reach_MGT_STS (hm.bit 273 rfl)) ?_
      exact h0
    · rename_i w33
      refine kept_endpointTrains (hm.sub rfl) ?_
      refine h22 _ ?_
      exact h0
    · rename_i w34
      extract_lets -underBinder +onlyGivenNames v35
      extract_lets -underBinder +onlyGivenNames v36
      refine kept_ite ?_ ?_
      · exact h0
      · extract_lets -underBinder +onlyGivenNames v37
        (clear_value v37; revert v37; refine Kept.seal ?_; intro v37)
        extract_lets -underBinder +onlyGivenNames v38
        (clear_value v38; revert v38; refine Kept.seal ?_; intro v38)
        extract_lets -underBinder +onlyGivenNames v39
        have h40 : Kept M s0 v39 := by
          unfold v39
          refine kept_setBoot (hm.sub rfl) ?_
          refine kept_setRead (hm.sub rfl) ?_
          exact h0
        (clear_value v39; revert v39; refine Kept.seal ?_; intro v39 h40)
        extract_lets -underBinder +onlyGivenNames v41
        (clear_value v41; revert v41; refine Kept.seal ?_; intro v41)
        extract_lets -underBinder +onlyGivenNames v42
        have h43 : Kept M s0 v42 := by
          unfold v42
          refine kept_ite ?_ ?_
          · exact h40
          · refine Kept.setF (hm.bit 1 rfl) (reach_SIT_SRC_LEN (hm.bit 80 rfl)) ?_
            exact h40
        (clear_value v42; revert v42; refine Kept.seal ?_; intro v42 h43)
        extract_lets -underBinder +onlyGivenNames v44
        (clear_value v44; revert v44; refine Kept.seal ?_; intro v44)
        split
        · rename_i w45 w46
          refine h22 _ ?_
          exact h43
        · rename_i w47 w48
          refine kept_imageStepFails (hm.sub rfl) ?_
          exact h43
    · rename_i w49
      (generalize q51 : (s.bootImage) = x50; revert x50; refine Kept.seal ?_; intro x50 q51)
      split
      · rename_i w52 w53
        refine h22 _ ?_
        refine kept_ite ?_ ?_
        · refine Kept.setF (hm.bit 1 rfl) (reach_JX_NODE (hm.bit 185 rfl)) ?_
          exact h0
        · exact h0
      · rename_i w54 w55
        refine kept_imageStepFails (hm.sub rfl) ?_
        exact h0
    · rename_i w56
      (generalize q58 : (s.bootImage) = x57; revert x57; refine Kept.seal ?_; intro x57 q58)
      split
      · rename_i w59 w60
        extract_lets -underBinder +onlyGivenNames v61
        (clear_value v61; revert v61; refine Kept.seal ?_; intro v61)
        refine h22 _ ?_
        refine kept_fwStart (hm.sub rfl) ?_
        refine Kept.in_mgmt (hm.bit 36 rfl) ?_
        exact h0
      · rename_i w62 w63
        refine kept_imageStepFails (hm.sub rfl) ?_
        exact h0
    · rename_i w64
      (generalize q66 : (s.bootImage) = x65; revert x65; refine Kept.seal ?_; intro x65 q66)
      split
      · rename_i w67 w68
        extract_lets -underBinder +onlyGivenNames v69
        have h70 : Kept M s0 v69 := by
          unfold v69
          refine kept_applyAll (hm.sub rfl) ?_
          exact h0
        (clear_value v69; revert v69; refine Kept.seal ?_; intro v69 h70)
        refine h22 _ ?_
        refine kept_setBoot (hm.sub rfl) ?_
        exact h70
      · rename_i w71 w72
        refine kept_imageStepFails (hm.sub rfl) ?_
        exact h0
    · rename_i w73
      refine h22 _ ?_
      refine kept_forEach ?_ ?_
      · intro y74 y75 h76
        refine kept_newAttempt (hm.sub rfl) ?_
        exact h76
      · exact h0
    · rename_i w77
      exact h0
    · rename_i w78 w79 w80 w81 w82 w83 w84 w85 w86 w87 w88 w89 w90 w91 w92 w93
      refine h22 _ ?_
      refine kept_unitWork (hm.sub rfl) ?_
      exact h0

theorem kept_stepLimit {s : State} {units : List ℕ} {e : StartEnv} (hm : Within 0x188820000049a50002000000000557a29c3830728c000191701c6000223348a00019bfffffdffe M) (h0 : Kept M s0 s) :
    Kept M s0 (State.stepLimit s units e) := by
  unfold State.stepLimit
  extract_lets -underBinder +onlyGivenNames v20
  (clear_value v20; revert v20; refine Kept.seal ?_; intro v20)
  refine kept_ite ?_ ?_
  · exact h0
  · refine kept_stepFails (hm.sub rfl) ?_
    exact h0

theorem kept_imageSettle {s : State} (hm : Within 0x188820000049a50002000000000557a29c3830728c000191701c6000227348a00019bfffffdffe M) (h0 : Kept M s0 s) :
    Kept M s0 (State.imageSettle s) := by
  unfold State.imageSettle
  (generalize q21 : (s.epoch.read) = x20; revert x20; refine Kept.seal ?_; intro x20 q21)
  split
  · rename_i w22
    exact h0
  · rename_i w23 w24
    refine kept_ite ?_ ?_
    · exact h0
    · extract_lets -underBinder +onlyGivenNames v25
      have h26 : Kept M s0 v25 := by
        unfold v25
        refine kept_setRead (hm.sub rfl) ?_
        exact h0
      (clear_value v25; revert v25; refine Kept.seal ?_; intro v25 h26)
      refine kept_ite ?_ ?_
      · refine kept_imageStepFails (hm.sub rfl) ?_
        exact h26
      · (generalize q28 : (v25.epoch.load) = x27; revert x27; refine Kept.seal ?_; intro x27 q28)
        split
        · rename_i w29 w30
          refine kept_ite ?_ ?_
          · refine kept_loadFails (hm.sub rfl) ?_
            exact h26
          · exact h26
        · rename_i w31
          exact h26

theorem kept_execFlitRx {p : Fin 18} {lanes : List (List (Fin 4))} {s : State} (hm : Within 0x188820000049a50002000000008557b29c3830728c000191701c6000227348a00019bfffffdfff M) (h0 : Kept M s0 s) :
    KeptE M s0 (execFlitRx p lanes s) := by
  unfold execFlitRx
  refine kepte_next ?_
  refine kept_imageSettle (hm.sub rfl) ?_
  refine kept_flitRx (hm.sub rfl) ?_
  exact h0

theorem kept_execResponseRx {p : Fin 18} {src : Node} {txn : W16} {status : Fin 16} {token : W32} {mask : W32} {data : Bytes} {s : State} (hm : Within 0x188820000049a50002000000008557a29c3830728c000191701c6000227348a00019bfffffdffe M) (h0 : Kept M s0 s) :
    KeptE M s0 (execResponseRx p src txn status token mask data s) := by
  unfold execResponseRx
  refine kepte_next ?_
  refine kept_imageSettle (hm.sub rfl) ?_
  refine kept_responseRx (hm.sub rfl) ?_
  exact h0

theorem kept_execOwnReqTimeout {txn : W16} {s : State} (hm : Within 0x188820000049a50002000000008557a29c3830728c000191701c6000227348a00019bfffffdffe M) (h0 : Kept M s0 s) :
    KeptE M s0 (execOwnReqTimeout txn s) := by
  unfold execOwnReqTimeout
  refine kepte_next ?_
  refine kept_imageSettle (hm.sub rfl) ?_
  refine kept_ownReqTimeout (hm.sub rfl) ?_
  exact h0

theorem kept_execStartupStepDone {env : StartEnv} {s : State} (hm : Within 0x18883c00f749a50042400000008557a29cffb0f38c000999701c7f82377b4ca00019bfffffdffe M) (h0 : Kept M s0 s) :
    KeptE M s0 (execStartupStepDone env s) := by
  unfold execStartupStepDone
  refine kepte_next ?_
  refine kept_stepDone (hm.sub rfl) ?_
  exact h0

theorem kept_execStartupStepLimit {units : List ℕ} {env : StartEnv} {s : State} (hm : Within 0x188820000049a50002000000000557a29c3830728c000191701c6000223348a00019bfffffdffe M) (h0 : Kept M s0 s) :
    KeptE M s0 (execStartupStepLimit units env s) := by
  unfold execStartupStepLimit
  refine kepte_next ?_
  refine kept_stepLimit (hm.sub rfl) ?_
  exact h0

end Sys2Proof.Machine
end

