-- ==== Sys2Proof/Laws/Kept/BlockReset.lean ====
section
/-! SUPPORT. What the operations of BlockReset may write: each keeps its footprint. -/

namespace Sys2Proof.Machine

variable {M : Nat} {s0 : State}

theorem kept_unfence {s : State} {l : List FenceUnit} (hm : Within 0x2000000000000080 M) (h0 : Kept M s0 s) :
    Kept M s0 (State.unfence s l) := by
  unfold State.unfence
  refine Kept.in_fences_clear (hm.bit 7 rfl) (hm.bit 61 rfl) ?_
  exact h0

theorem kept_resetCore {s : State} {n : ℕ} (hm : Within 0x188820000049a5000200000000000720802020700000019070006000220000a000109a5f1e0bfe M) (h0 : Kept M s0 s) :
    Kept M s0 (State.resetCore s n) := by
  unfold State.resetCore
  extract_lets -underBinder +onlyGivenNames v20
  have h21 : Kept M s0 v20 := by
    unfold v20
    refine kept_testAbortedBy (hm.sub rfl) ?_
    exact h0
  (clear_value v20; revert v20; refine Kept.seal ?_; intro v20 h21)
  extract_lets -underBinder +onlyGivenNames v22
  have h23 : Kept M s0 v22 := by
    unfold v22
    refine kept_forEach ?_ ?_
    · intro y24 y25 h26
      refine kept_uncheck (hm.sub rfl) ?_
      exact h26
    · exact h21
  (clear_value v22; revert v22; refine Kept.seal ?_; intro v22 h23)
  extract_lets -underBinder +onlyGivenNames v27
  have h28 : Kept M s0 v27 := by
    unfold v27
    refine kept_dropShadow (hm.sub rfl) ?_
    exact h23
  (clear_value v27; revert v27; refine Kept.seal ?_; intro v27 h28)
  extract_lets -underBinder +onlyGivenNames v29
  (clear_value v29; revert v29; refine Kept.seal ?_; intro v29)
  extract_lets -underBinder +onlyGivenNames v30
  have h31 : Kept M s0 v30 := by
    unfold v30
    refine Kept.setReg (hm.bit 1 rfl) (reach_CORE_Q_HEAD (hm.bit 256 rfl)) ?_
    refine Kept.clearRegs (hm.bit 1 rfl) (hm.bit 63 rfl) ?_
    exact h28
  (clear_value v30; revert v30; refine Kept.seal ?_; intro v30 h31)
  extract_lets -underBinder +onlyGivenNames v32
  have h33 : Kept M s0 v32 := by
    unfold v32
    refine kept_setCore (hm.sub rfl) ?_
    exact h31
  (clear_value v32; revert v32; refine Kept.seal ?_; intro v32 h33)
  extract_lets -underBinder +onlyGivenNames v34
  have h35 : Kept M s0 v34 := by
    unfold v34
    refine Kept.in_accs (x := { v32 with exacts := Sys2Proof.Sparse.clear (512 * n) (512 * (n + 1)) v32.exacts, stalls := List.filter (fun x ↦ x.core != n) v32.stalls }) (hm.bit 25 rfl) ?_ (Sparse.wf_clear)
    refine Kept.in_exacts (x := { v32 with stalls := List.filter (fun x ↦ x.core != n) v32.stalls }) (hm.bit 26 rfl) ?_ (Sparse.wf_clear)
    refine Kept.in_stalls (hm.bit 30 rfl) ?_
    exact h33
  (clear_value v34; revert v34; refine Kept.seal ?_; intro v34 h35)
  refine kept_unfence (hm.sub rfl) ?_
  exact h35

theorem kept_resetCluster {s : State} {c : ℕ} (hm : Within 0x188820000049a5000200000000000720803430720000099070006000221000a000109aff1e0bfe M) (h0 : Kept M s0 s) :
    Kept M s0 (State.resetCluster s c) := by
  unfold State.resetCluster
  extract_lets -underBinder +onlyGivenNames v20
  have h21 : Kept M s0 v20 := by
    unfold v20
    refine kept_resetCore (hm.sub rfl) ?_
    refine kept_resetCore (hm.sub rfl) ?_
    exact h0
  (clear_value v20; revert v20; refine Kept.seal ?_; intro v20 h21)
  extract_lets -underBinder +onlyGivenNames v22
  extract_lets -underBinder +onlyGivenNames v23
  have h24 : Kept M s0 v23 := by
    unfold v23
    refine Kept.in_plans (x := { v20 with pool := { accs := Sys2Proof.Sparse.clear (2048 * c) (2048 * (c + 1)) v20.pool.accs, ops := v22.ops, vers := v22.vers, buckets := v22.buckets, drains := v22.drains, refilled := v22.refilled } }) (hm.bit 29 rfl) ?_
    refine Kept.in_pool (hm.bit 31 rfl) ?_ (Kept.seal) (Kept.seal) (Sparse.wf_clear)
    exact h21
  (clear_value v23; revert v23; refine Kept.seal ?_; intro v23 h24)
  extract_lets -underBinder +onlyGivenNames v25
  have h26 : Kept M s0 v25 := by
    unfold v25
    refine kept_unfence (hm.sub rfl) ?_
    exact h24
  (clear_value v25; revert v25; refine Kept.seal ?_; intro v25 h26)
  extract_lets -underBinder +onlyGivenNames v27
  (clear_value v27; revert v27; refine Kept.seal ?_; intro v27)
  extract_lets -underBinder +onlyGivenNames v28
  have h29 : Kept M s0 v28 := by
    unfold v28
    refine Kept.clearRegs (hm.bit 1 rfl) (hm.bit 63 rfl) ?_
    refine Kept.clearRegs (hm.bit 1 rfl) (hm.bit 63 rfl) ?_
    exact h26
  (clear_value v28; revert v28; refine Kept.seal ?_; intro v28 h29)
  extract_lets -underBinder +onlyGivenNames v30
  have h31 : Kept M s0 v30 := by
    unfold v30
    refine Kept.clearRegs (hm.bit 1 rfl) (hm.bit 63 rfl) ?_
    exact h29
  (clear_value v30; revert v30; refine Kept.seal ?_; intro v30 h31)
  extract_lets -underBinder +onlyGivenNames v32
  have h33 : Kept M s0 v32 := by
    unfold v32
    refine Kept.clearRegs (hm.bit 1 rfl) (hm.bit 63 rfl) ?_
    exact h31
  (clear_value v32; revert v32; refine Kept.seal ?_; intro v32 h33)
  extract_lets -underBinder +onlyGivenNames v34
  have h35 : Kept M s0 v34 := by
    unfold v34
    refine kept_applySplit (hm.sub rfl) ?_
    refine Kept.setReg (hm.bit 1 rfl) (reach_UND_PAGES (hm.bit 170 rfl)) ?_
    exact h33
  (clear_value v34; revert v34; refine Kept.seal ?_; intro v34 h35)
  extract_lets -underBinder +onlyGivenNames v36
  extract_lets -underBinder +onlyGivenNames v37
  extract_lets -underBinder +onlyGivenNames v38
  extract_lets -underBinder +onlyGivenNames v39
  have h40 : Kept M s0 v39 := by
    unfold v39
    refine Kept.in_canopy (x := { v34 with integ := { ring := v37.ring, merge0 := v37.merge0, merge1 := v37.merge1, repairs := v37.repairs, scrub := Sys2Proof.Sparse.drop (fun k ↦ k == c) v34.integ.scrub, injected := v37.injected, dirEcc := v37.dirEcc, flitFlip := v37.flitFlip, faultAt := v37.faultAt, faulted := v37.faulted }, dramCtl := { acts := Sys2Proof.Sparse.drop (fun k ↦ Sys2Proof.Machine.clusterOfUnit (k / 256) == c) v34.dramCtl.acts, refresh := Sys2Proof.Sparse.drop (fun k ↦ Sys2Proof.Machine.clusterOfUnit (k / 256) == c) v34.dramCtl.refresh, rates := v38.rates, ueTimes := Sys2Proof.Sparse.drop (fun u ↦ Sys2Proof.Machine.clusterOfUnit u == c) v34.dramCtl.ueTimes, updates := v38.updates, trained := v38.trained, selfRefresh := v38.selfRefresh, checkCache := v38.checkCache, reported := v38.reported } }) (hm.bit 17 rfl) ?_ (Kept.seal) (by dsimp only; exact Sparse.wf_drop) (by dsimp only; exact Sparse.wf_drop) (Kept.seal)
    refine Kept.in_integ (x := { v34 with dramCtl := { acts := Sys2Proof.Sparse.drop (fun k ↦ Sys2Proof.Machine.clusterOfUnit (k / 256) == c) v34.dramCtl.acts, refresh := Sys2Proof.Sparse.drop (fun k ↦ Sys2Proof.Machine.clusterOfUnit (k / 256) == c) v34.dramCtl.refresh, rates := v38.rates, ueTimes := Sys2Proof.Sparse.drop (fun u ↦ Sys2Proof.Machine.clusterOfUnit u == c) v34.dramCtl.ueTimes, updates := v38.updates, trained := v38.trained, selfRefresh := v38.selfRefresh, checkCache := v38.checkCache, reported := v38.reported } }) (hm.bit 18 rfl) ?_ (Kept.seal) (by dsimp only; exact Sparse.wf_drop)
    refine Kept.in_dramCtl (hm.bit 19 rfl) ?_ (by dsimp only; exact Sparse.wf_drop) (by dsimp only; exact Sparse.wf_drop) (by dsimp only; exact Sparse.wf_drop) (Kept.seal) (Kept.seal) (Kept.seal) (Kept.seal)
    exact h35
  (clear_value v39; revert v39; refine Kept.seal ?_; intro v39 h40)
  extract_lets -underBinder +onlyGivenNames v41
  (clear_value v41; revert v41; refine Kept.seal ?_; intro v41)
  extract_lets -underBinder +onlyGivenNames v42
  (clear_value v42; revert v42; refine Kept.seal ?_; intro v42)
  extract_lets -underBinder +onlyGivenNames v43
  have h44 : Kept M s0 v43 := by
    unfold v43
    refine kept_forEach ?_ ?_
    · intro y45 y46 h47
      refine kept_dite ?_ ?_
      · intro q48
        refine Kept.setF (hm.bit 1 rfl) (reach_speed (hm.bit 164 rfl) (hm.bit 172 rfl)) ?_
        refine Kept.setF (hm.bit 1 rfl) (reach_state (hm.bit 164 rfl) (hm.bit 172 rfl)) ?_
        exact h47
      · intro q49
        exact h47
    · exact h40
  (clear_value v43; revert v43; refine Kept.seal ?_; intro v43 h44)
  refine kept_newPass (hm.sub rfl) ?_
  refine kept_keepSplit (hm.sub rfl) ?_
  refine kept_forEach ?_ ?_
  · intro y50 y51 h52
    refine kept_loseUnit (hm.sub rfl) ?_
    exact h52
  · exact h44

theorem kept_resetPort {s : State} {p : ℕ} (hm : Within 0x157a00000000000000010700000000000008000189a00040e02 M) (h0 : Kept M s0 s) :
    Kept M s0 (State.resetPort s p) := by
  unfold State.resetPort
  extract_lets -underBinder +onlyGivenNames v20
  have h21 : Kept M s0 v20 := by
    unfold v20
    refine kept_linkDown (hm.sub rfl) ?_
    exact h0
  (clear_value v20; revert v20; refine Kept.seal ?_; intro v20 h21)
  extract_lets -underBinder +onlyGivenNames v22
  (clear_value v22; revert v22; refine Kept.seal ?_; intro v22)
  extract_lets -underBinder +onlyGivenNames v23
  (clear_value v23; revert v23; refine Kept.seal ?_; intro v23)
  extract_lets -underBinder +onlyGivenNames v24
  have h25 : Kept M s0 v24 := by
    unfold v24
    refine kept_lasers (hm.sub rfl) ?_
    exact h21
  (clear_value v24; revert v24; refine Kept.seal ?_; intro v24 h25)
  extract_lets -underBinder +onlyGivenNames v26
  have h27 : Kept M s0 v26 := by
    unfold v26
    refine Kept.clearRegs (hm.bit 1 rfl) (hm.bit 63 rfl) ?_
    refine Kept.clearRegs (hm.bit 1 rfl) (hm.bit 63 rfl) ?_
    exact h25
  (clear_value v26; revert v26; refine Kept.seal ?_; intro v26 h27)
  extract_lets -underBinder +onlyGivenNames v28
  have h29 : Kept M s0 v28 := by
    unfold v28
    refine Kept.setF (hm.bit 1 rfl) (reach_JX_PORT_CFG (hm.bit 191 rfl)) ?_
    refine Kept.setF (hm.bit 1 rfl) (reach_JX_PORT_CFG (hm.bit 191 rfl)) ?_
    exact h27
  (clear_value v28; revert v28; refine Kept.seal ?_; intro v28 h29)
  extract_lets -underBinder +onlyGivenNames v30
  have h31 : Kept M s0 v30 := by
    unfold v30
    refine Kept.setF (hm.bit 1 rfl) (reach_OPT_LASER (hm.bit 198 rfl)) ?_
    exact h29
  (clear_value v30; revert v30; refine Kept.seal ?_; intro v30 h31)
  refine kept_newAttempt (hm.sub rfl) ?_
  refine kept_setPort (hm.sub rfl) ?_
  refine kept_setOptic (hm.sub rfl) ?_
  exact h31

theorem kept_resetMint {s : State} (hm : Within 0x80000000000000000000008000000100200002 M) (h0 : Kept M s0 s) :
    Kept M s0 (State.resetMint s) := by
  unfold State.resetMint
  refine Kept.clearRegs (hm.bit 1 rfl) (hm.bit 63 rfl) ?_
  refine Kept.clearRegs (hm.bit 1 rfl) (hm.bit 63 rfl) ?_
  refine kept_slotsKept (hm.sub rfl) ?_
  exact h0

theorem kept_resetClearing {s : State} (hm : Within 0x800000000000000008000000000040002 M) (h0 : Kept M s0 s) :
    Kept M s0 (State.resetClearing s) := by
  unfold State.resetClearing
  extract_lets -underBinder +onlyGivenNames v20
  have h21 : Kept M s0 v20 := by
    unfold v20
    refine Kept.clearRegs (hm.bit 1 rfl) (hm.bit 63 rfl) ?_
    exact h0
  (clear_value v20; revert v20; refine Kept.seal ?_; intro v20 h21)
  refine kept_forEach ?_ ?_
  · intro y22 y23 h24
    refine kept_newPass (hm.sub rfl) ?_
    exact h24
  · refine Kept.in_integ (hm.bit 18 rfl) ?_ (Kept.seal) (fun _ => rfl)
    exact h21

theorem kept_dropOpen {s : State} {o : OpenReq} (hm : Within 0x200000000000000000000000000000000000000000001802 M) (h0 : Kept M s0 s) :
    Kept M s0 (State.dropOpen s o) := by
  unfold State.dropOpen
  extract_lets -underBinder +onlyGivenNames v20
  have h21 : Kept M s0 v20 := by
    unfold v20
    refine Kept.in_opens (hm.bit 12 rfl) ?_ (fresh_filter)
    exact h0
  (clear_value v20; revert v20; refine Kept.seal ?_; intro v20 h21)
  (generalize q23 : (o.token) = x22; revert x22; refine Kept.seal ?_; intro x22 q23)
  split
  · rename_i w24 w25
    refine kept_freeTokenAt (hm.sub rfl) ?_
    exact h21
  · rename_i w26
    exact h21

theorem kept_resetPool {s : State} (hm : Within 0x200000000000000000000000000000008000010080001802 M) (h0 : Kept M s0 s) :
    Kept M s0 (State.resetPool s) := by
  unfold State.resetPool
  extract_lets -underBinder +onlyGivenNames v20
  have h21 : Kept M s0 v20 := by
    unfold v20
    refine kept_forEach ?_ ?_
    · intro y22 y23 h24
      refine kept_dropOpen (hm.sub rfl) ?_
      exact h24
    · exact h0
  (clear_value v20; revert v20; refine Kept.seal ?_; intro v20 h21)
  extract_lets -underBinder +onlyGivenNames v25
  have h26 : Kept M s0 v25 := by
    unfold v25
    refine Kept.clearRegs (hm.bit 1 rfl) (hm.bit 63 rfl) ?_
    exact h21
  (clear_value v25; revert v25; refine Kept.seal ?_; intro v25 h26)
  refine Kept.in_pool (x := { v25 with deniedAt := [] }) (hm.bit 31 rfl) ?_ (Kept.seal) (fun _ => rfl) (fun _ => rfl)
  refine Kept.in_deniedAt (hm.bit 40 rfl) ?_ (fun _ => rfl)
  exact h26

theorem kept_resetPair {s : State} (hm : Within 0x10802000004924004240000000800720802020700000019070000000220000800018bad91e1bfe M) (h0 : Kept M s0 s) :
    Kept M s0 (State.resetPair s) := by
  unfold State.resetPair
  extract_lets -underBinder +onlyGivenNames v20
  have h21 : Kept M s0 v20 := by
    unfold v20
    refine kept_failPair (hm.sub rfl) ?_
    refine kept_endCompares (hm.sub rfl) ?_
    exact h0
  (clear_value v20; revert v20; refine Kept.seal ?_; intro v20 h21)
  extract_lets -underBinder +onlyGivenNames v22
  (clear_value v22; revert v22; refine Kept.seal ?_; intro v22)
  extract_lets -underBinder +onlyGivenNames v23
  have h24 : Kept M s0 v23 := by
    unfold v23
    refine Kept.setF (hm.bit 1 rfl) (reach_PAIR_STS (hm.bit 241 rfl)) ?_
    refine kept_setPair (hm.sub rfl) ?_
    refine Kept.clearRegs (hm.bit 1 rfl) (hm.bit 63 rfl) ?_
    exact h21
  (clear_value v23; revert v23; refine Kept.seal ?_; intro v23 h24)
  refine kept_pairApply (hm.sub rfl) ?_
  exact h24

theorem kept_resetTests {s : State} (hm : Within 0x18001c000000000000000000000007200000000000000010700000000000008000109a08040a02 M) (h0 : Kept M s0 s) :
    Kept M s0 (State.resetTests s) := by
  unfold State.resetTests
  extract_lets -underBinder +onlyGivenNames v20
  have h21 : Kept M s0 v20 := by
    unfold v20
    refine kept_forEach ?_ ?_
    · intro y22 y23 h24
      refine kept_testAbortedBy (hm.sub rfl) ?_
      exact h24
    · exact h0
  (clear_value v20; revert v20; refine Kept.seal ?_; intro v20 h21)
  extract_lets -underBinder +onlyGivenNames v25
  have h26 : Kept M s0 v25 := by
    unfold v25
    refine Kept.clearRegs (hm.bit 1 rfl) (hm.bit 63 rfl) ?_
    exact h21
  (clear_value v25; revert v25; refine Kept.seal ?_; intro v25 h26)
  extract_lets -underBinder +onlyGivenNames v27
  have h28 : Kept M s0 v27 := by
    unfold v27
    refine Kept.in_silent (hm.bit 27 rfl) ?_ (fun _ => rfl) (fun _ => rfl)
    exact h26
  (clear_value v27; revert v27; refine Kept.seal ?_; intro v27 h28)
  refine kept_applyQuarantine (hm.sub rfl) ?_
  refine Kept.setF (hm.bit 1 rfl) (reach_TST_CFG (hm.bit 290 rfl)) ?_
  exact h28

theorem kept_resetTellers {s : State} (hm : Within 0x720000000000000001070000f820000008000109a00040a02 M) (h0 : Kept M s0 s) :
    Kept M s0 (State.resetTellers s) := by
  unfold State.resetTellers
  extract_lets -underBinder +onlyGivenNames v20
  have h21 : Kept M s0 v20 := by
    unfold v20
    refine Kept.clearRegs (hm.bit 1 rfl) (hm.bit 63 rfl) ?_
    exact h0
  (clear_value v20; revert v20; refine Kept.seal ?_; intro v20 h21)
  refine kept_applySums (hm.sub rfl) ?_
  refine kept_applyClasses (hm.sub rfl) ?_
  refine Kept.in_tellers (hm.bit 33 rfl) ?_ (fun _ => rfl) (fun _ => rfl)
  exact h21

theorem kept_blkClear {s : State} {kind : ℕ} {unit : ℕ} (hm : Within 0x18883c000049a50042400000008157a0803430728000099070007f82221000a00019bbff3e1ffe M) (h0 : Kept M s0 s) :
    Kept M s0 (State.blkClear s kind unit) := by
  unfold State.blkClear
  split
  · rename_i w20
    refine kept_resetCore (hm.sub rfl) ?_
    exact h0
  · rename_i w21
    refine kept_resetCluster (hm.sub rfl) ?_
    exact h0
  · rename_i w22
    refine kept_resetPort (hm.sub rfl) ?_
    exact h0
  · rename_i w23
    refine kept_resetMint (hm.sub rfl) ?_
    exact h0
  · rename_i w24
    refine kept_resetClearing (hm.sub rfl) ?_
    exact h0
  · rename_i w25
    refine kept_resetPool (hm.sub rfl) ?_
    exact h0
  · rename_i w26
    refine kept_resetPair (hm.sub rfl) ?_
    exact h0
  · rename_i w27
    refine kept_resetTests (hm.sub rfl) ?_
    exact h0
  · rename_i w28
    refine Kept.clearRegs (hm.bit 1 rfl) (hm.bit 63 rfl) ?_
    exact h0
  · rename_i w29
    refine kept_applyDet (hm.sub rfl) ?_
    refine Kept.clearRegs (hm.bit 1 rfl) (hm.bit 63 rfl) ?_
    exact h0
  · rename_i w30
    refine kept_resetTellers (hm.sub rfl) ?_
    exact h0
  · rename_i w31 w32 w33 w34 w35 w36 w37 w38 w39 w40 w41 w42
    exact h0

theorem kept_blkDone {s : State} {kind : ℕ} {unit : ℕ} {result : ℕ} (hm : Within 0x18883c000049a50042400000008157a0803430728000099070007f82221040a00019bbff3e1ffe M) (h0 : Kept M s0 s) :
    Kept M s0 (State.blkDone s kind unit result) := by
  unfold State.blkDone
  extract_lets -underBinder +onlyGivenNames v20
  (clear_value v20; revert v20; refine Kept.seal ?_; intro v20)
  extract_lets -underBinder +onlyGivenNames v21
  have h22 : Kept M s0 v21 := by
    unfold v21
    refine kept_setBoot (hm.sub rfl) ?_
    exact h0
  (clear_value v21; revert v21; refine Kept.seal ?_; intro v21 h22)
  refine Kept.setF (hm.bit 1 rfl) (reach_AO_BLK_RST (hm.bit 70 rfl)) ?_
  refine Kept.setF (hm.bit 1 rfl) (reach_AO_BLK_RST (hm.bit 70 rfl)) ?_
  refine kept_blkClear (hm.sub rfl) ?_
  exact h22

theorem kept_blockReset {s : State} {kind : ℕ} {unit : ℕ} (hm : Within 0x18883c000049a50042400000008157a0803430728000099070007f82221048a00019bbff3e1ffe M) (h0 : Kept M s0 s) :
    Kept M s0 (State.blockReset s kind unit) := by
  unfold State.blockReset
  refine kept_ite ?_ ?_
  · refine Kept.setF (hm.bit 1 rfl) (reach_AO_BLK_RST (hm.bit 70 rfl)) ?_
    exact h0
  · extract_lets -underBinder +onlyGivenNames v20
    have h21 : Kept M s0 v20 := by
      unfold v20
      refine Kept.setF (hm.bit 1 rfl) (reach_AO_BLK_RST (hm.bit 70 rfl)) ?_
      refine Kept.setF (hm.bit 1 rfl) (reach_AO_BLK_RST (hm.bit 70 rfl)) ?_
      exact h0
    (clear_value v20; revert v20; refine Kept.seal ?_; intro v20 h21)
    refine kept_ite ?_ ?_
    · refine Kept.setF (hm.bit 1 rfl) (reach_AO_BLK_RST (hm.bit 70 rfl)) ?_
      exact h21
    · extract_lets -underBinder +onlyGivenNames v22
      have h23 : Kept M s0 v22 := by
        unfold v22
        refine Kept.setF (hm.bit 1 rfl) (reach_AO_BLK_RST (hm.bit 70 rfl)) ?_
        refine Kept.setF (hm.bit 1 rfl) (reach_AO_CAUSE (hm.bit 67 rfl)) ?_
        exact h21
      (clear_value v22; revert v22; refine Kept.seal ?_; intro v22 h23)
      extract_lets -underBinder +onlyGivenNames v24
      (clear_value v24; revert v24; refine Kept.seal ?_; intro v24)
      extract_lets -underBinder +onlyGivenNames v25
      have h26 : Kept M s0 v25 := by
        unfold v25
        refine kept_setBoot (hm.sub rfl) ?_
        exact h23
      (clear_value v25; revert v25; refine Kept.seal ?_; intro v25 h26)
      refine kept_ite ?_ ?_
      · refine kept_blkDone (hm.sub rfl) ?_
        exact h26
      · exact h26

theorem kept_blkGoesIdle {s : State} (hm : Within 0x18883c000049a50042400000008157a0803430728000099070007f82221040a00019bbff3e1ffe M) (h0 : Kept M s0 s) :
    Kept M s0 (State.blkGoesIdle s) := by
  unfold State.blkGoesIdle
  (generalize q21 : (s.boot.blk) = x20; revert x20; refine Kept.seal ?_; intro x20 q21)
  split
  · rename_i w22 w23
    refine kept_ite ?_ ?_
    · refine kept_blkDone (hm.sub rfl) ?_
      exact h0
    · exact h0
  · rename_i w24
    exact h0

theorem kept_dropJobs {s : State} (hm : Within 0x80400000000000000000000000000100000002 M) (h0 : Kept M s0 s) :
    Kept M s0 (State.dropJobs s) := by
  unfold State.dropJobs
  extract_lets -underBinder +onlyGivenNames v20
  have h21 : Kept M s0 v20 := by
    unfold v20
    refine kept_forEach ?_ ?_
    · intro y22 y23 h24
      refine Kept.setF (hm.bit 1 rfl) (reach_MNT_SLOT_INFO (hm.bit 151 rfl)) ?_
      exact h24
    · exact h0
  (clear_value v20; revert v20; refine Kept.seal ?_; intro v20 h21)
  refine Kept.setF (hm.bit 1 rfl) (reach_MNT_STATUS (hm.bit 142 rfl)) ?_
  refine Kept.in_mint (hm.bit 32 rfl) ?_ (Kept.seal)
  exact h21

theorem kept_blkTimeout {s : State} {cuts : List KernelCut} (hm : Within 0x18883c000049a50042400000008157a0903430728c400991701c7f82221040a00019bbfffe1ffe M) (h0 : Kept M s0 s) :
    Kept M s0 (State.blkTimeout s cuts) := by
  unfold State.blkTimeout
  (generalize q21 : (s.boot.blk) = x20; revert x20; refine Kept.seal ?_; intro x20 q21)
  split
  · rename_i w22
    exact h0
  · rename_i w23 w24
    refine kept_ite ?_ ?_
    · exact h0
    · extract_lets -underBinder +onlyGivenNames v25
      have h26 : Kept M s0 v25 := by
        unfold v25
        refine kept_ledger (hm.sub rfl) ?_
        exact h0
      (clear_value v25; revert v25; refine Kept.seal ?_; intro v25 h26)
      extract_lets -underBinder +onlyGivenNames v27
      have h28 : Kept M s0 v27 := by
        unfold v27
        refine kept_forEach ?_ ?_
        · intro y29 y30 h31
          refine kept_abortKernel (hm.sub rfl) ?_
          exact h31
        · exact h26
      (clear_value v27; revert v27; refine Kept.seal ?_; intro v27 h28)
      extract_lets -underBinder +onlyGivenNames v32
      have h33 : Kept M s0 v32 := by
        unfold v32
        refine kept_ite ?_ ?_
        · refine kept_dropJobs (hm.sub rfl) ?_
          exact h28
        · exact h28
      (clear_value v32; revert v32; refine Kept.seal ?_; intro v32 h33)
      refine kept_blkDone (hm.sub rfl) ?_
      exact h33

theorem kept_stepClocks {s : State} {d : ℕ} {engine : ℤ} {fabric : ℤ} (hm : Within 0x7000000000000000010700060000002000000109e01040202 M) (h0 : Kept M s0 s) :
    Kept M s0 (State.stepClocks s d engine fabric) := by
  unfold State.stepClocks
  extract_lets -underBinder +onlyGivenNames v20
  (clear_value v20; revert v20; refine Kept.seal ?_; intro v20)
  extract_lets -underBinder +onlyGivenNames v21
  (clear_value v21; revert v21; refine Kept.seal ?_; intro v21)
  extract_lets -underBinder +onlyGivenNames v22
  (clear_value v22; revert v22; refine Kept.seal ?_; intro v22)
  extract_lets -underBinder +onlyGivenNames v23
  (clear_value v23; revert v23; refine Kept.seal ?_; intro v23)
  extract_lets -underBinder +onlyGivenNames v24
  (clear_value v24; revert v24; refine Kept.seal ?_; intro v24)
  extract_lets -underBinder +onlyGivenNames v25
  have h26 : Kept M s0 v25 := by
    unfold v25
    refine kept_setClocks (hm.sub rfl) ?_
    exact h0
  (clear_value v25; revert v25; refine Kept.seal ?_; intro v25 h26)
  refine kept_ite ?_ ?_
  · refine kept_forEach ?_ ?_
    · intro y27 y28 h29
      refine kept_cxBreak (hm.sub rfl) ?_
      exact h29
    · exact h26
  · exact h26

theorem kept_setLowered {s : State} {k : ℕ} {on : Bool} (hm : Within 0x800000000 M) (h0 : Kept M s0 s) :
    Kept M s0 (State.setLowered s k on) := by
  unfold State.setLowered
  refine kept_setBoot (hm.sub rfl) ?_
  exact h0

theorem kept_regulateDie {s : State} {d : ℕ} {w : ℕ} {pkg : ℕ} {hot : ℤ} (hm : Within 0x7000000000000000010700060000002000000109e01040202 M) (h0 : Kept M s0 s) :
    Kept M s0 (State.regulateDie s d w pkg hot) := by
  unfold State.regulateDie
  extract_lets -underBinder +onlyGivenNames v20
  (clear_value v20; revert v20; refine Kept.seal ?_; intro v20)
  extract_lets -underBinder +onlyGivenNames v21
  (clear_value v21; revert v21; refine Kept.seal ?_; intro v21)
  extract_lets -underBinder +onlyGivenNames v22
  (clear_value v22; revert v22; refine Kept.seal ?_; intro v22)
  extract_lets -underBinder +onlyGivenNames v23
  (clear_value v23; revert v23; refine Kept.seal ?_; intro v23)
  extract_lets -underBinder +onlyGivenNames v24
  (clear_value v24; revert v24; refine Kept.seal ?_; intro v24)
  extract_lets -underBinder +onlyGivenNames v25
  have h26 : Kept M s0 v25 := by
    unfold v25
    refine kept_ite ?_ ?_
    · refine kept_setLowered (hm.sub rfl) ?_
      exact h0
    · exact h0
  (clear_value v25; revert v25; refine Kept.seal ?_; intro v25 h26)
  extract_lets -underBinder +onlyGivenNames v27
  have h28 : Kept M s0 v27 := by
    unfold v27
    refine kept_ite ?_ ?_
    · refine kept_setLowered (hm.sub rfl) ?_
      exact h26
    · exact h26
  (clear_value v27; revert v27; refine Kept.seal ?_; intro v27 h28)
  extract_lets -underBinder +onlyGivenNames v29
  have h30 : Kept M s0 v29 := by
    unfold v29
    refine kept_ite ?_ ?_
    · refine kept_setLowered (hm.sub rfl) ?_
      exact h28
    · exact h28
  (clear_value v29; revert v29; refine Kept.seal ?_; intro v29 h30)
  extract_lets -underBinder +onlyGivenNames v31
  have h32 : Kept M s0 v31 := by
    unfold v31
    refine kept_ite ?_ ?_
    · refine kept_stepClocks (hm.sub rfl) ?_
      exact h30
    · exact h30
  (clear_value v31; revert v31; refine Kept.seal ?_; intro v31 h32)
  extract_lets -underBinder +onlyGivenNames v33
  have h34 : Kept M s0 v33 := by
    unfold v33
    refine kept_ite ?_ ?_
    · refine kept_stepClocks (hm.sub rfl) ?_
      exact h32
    · exact h32
  (clear_value v33; revert v33; refine Kept.seal ?_; intro v33 h34)
  refine kept_ite ?_ ?_
  · exact h34
  · extract_lets -underBinder +onlyGivenNames v35
    (clear_value v35; revert v35; refine Kept.seal ?_; intro v35)
    extract_lets -underBinder +onlyGivenNames v36
    (clear_value v36; revert v36; refine Kept.seal ?_; intro v36)
    extract_lets -underBinder +onlyGivenNames v37
    (clear_value v37; revert v37; refine Kept.seal ?_; intro v37)
    refine kept_ite ?_ ?_
    · exact h34
    · extract_lets -underBinder +onlyGivenNames v38
      have h39 : Kept M s0 v38 := by
        unfold v38
        refine kept_stepClocks (hm.sub rfl) ?_
        exact h34
      (clear_value v38; revert v38; refine Kept.seal ?_; intro v38 h39)
      extract_lets -underBinder +onlyGivenNames v40
      (clear_value v40; revert v40; refine Kept.seal ?_; intro v40)
      extract_lets -underBinder +onlyGivenNames v41
      (clear_value v41; revert v41; refine Kept.seal ?_; intro v41)
      refine kept_ite ?_ ?_
      · refine kept_setLowered (hm.sub rfl) ?_
        refine kept_setLowered (hm.sub rfl) ?_
        refine kept_setLowered (hm.sub rfl) ?_
        exact h39
      · exact h39

theorem kept_powerRegulate {s : State} {e : PowerEnv} (hm : Within 0x700000010000000001070006000000e000000129e01040202 M) (h0 : Kept M s0 s) :
    Kept M s0 (State.powerRegulate s e) := by
  unfold State.powerRegulate
  refine kept_ite ?_ ?_
  · exact h0
  · extract_lets -underBinder +onlyGivenNames v20
    (clear_value v20; revert v20; refine Kept.seal ?_; intro v20)
    extract_lets -underBinder +onlyGivenNames v21
    have h22 : Kept M s0 v21 := by
      unfold v21
      refine kept_setBoot (hm.sub rfl) ?_
      exact h0
    (clear_value v21; revert v21; refine Kept.seal ?_; intro v21 h22)
    extract_lets -underBinder +onlyGivenNames v23
    have h24 : Kept M s0 v23 := by
      unfold v23
      refine kept_dieReading (hm.sub rfl) ?_
      refine kept_dieReading (hm.sub rfl) ?_
      exact h22
    (clear_value v23; revert v23; refine Kept.seal ?_; intro v23 h24)
    extract_lets -underBinder +onlyGivenNames v25
    have h26 : Kept M s0 v25 := by
      unfold v25
      refine kept_regulateDie (hm.sub rfl) ?_
      refine kept_regulateDie (hm.sub rfl) ?_
      exact h24
    (clear_value v25; revert v25; refine Kept.seal ?_; intro v25 h26)
    extract_lets -underBinder +onlyGivenNames v27
    have h28 : Kept M s0 v27 := by
      unfold v27
      refine kept_ite ?_ ?_
      · refine kept_forEach ?_ ?_
        · intro y29 y30 h31
          refine Kept.setF (hm.bit 1 rfl) (reach_CAN_DSTS (hm.bit 164 rfl)) ?_
          exact h31
        · exact h26
      · exact h26
    (clear_value v27; revert v27; refine Kept.seal ?_; intro v27 h28)
    refine Kept.setF (hm.bit 1 rfl) (reach_AO_PWR (hm.bit 75 rfl)) ?_
    refine Kept.setF (hm.bit 1 rfl) (reach_AO_PWR (hm.bit 75 rfl)) ?_
    exact h28

theorem kept_periodicUpdate {s : State} {u : DUnit} {ok : Bool} {again : Bool} (hm : Within 0x188820000049a5000200000000000720903030700c000191701c60002200000000189a59de0bfe M) (h0 : Kept M s0 s) :
    Kept M s0 (State.periodicUpdate s u ok again) := by
  unfold State.periodicUpdate
  refine kept_ite ?_ ?_
  · exact h0
  · extract_lets -underBinder +onlyGivenNames v20
    have h21 : Kept M s0 v20 := by
      unfold v20
      refine kept_dramUpdate (hm.sub rfl) ?_
      exact h0
    (clear_value v20; revert v20; refine Kept.seal ?_; intro v20 h21)
    refine kept_ite ?_ ?_
    · exact h21
    · extract_lets -underBinder +onlyGivenNames v22
      have h23 : Kept M s0 v22 := by
        unfold v22
        refine kept_dramUpdate (hm.sub rfl) ?_
        exact h21
      (clear_value v22; revert v22; refine Kept.seal ?_; intro v22 h23)
      refine kept_ite ?_ ?_
      · exact h23
      · split
        · rename_i w24 w25
          refine kept_fenceChannel (hm.sub rfl) ?_
          exact h23
        · rename_i w26 w27
          refine kept_clusterFault (hm.sub rfl) ?_
          exact h23

theorem kept_execBlockReset {kind : Fin 16} {unit : Byte} {s : State} (hm : Within 0x18883c000049a50042400000008157a0803430728000099070007f82221048a00019bbff3e1ffe M) (h0 : Kept M s0 s) :
    KeptE M s0 (execBlockReset kind unit s) := by
  unfold execBlockReset
  refine kepte_next ?_
  refine kept_blockReset (hm.sub rfl) ?_
  exact h0

theorem kept_execBlockResetIdle {s : State} (hm : Within 0x18883c000049a50042400000008157a0803430728000099070007f82221040a00019bbff3e1ffe M) (h0 : Kept M s0 s) :
    KeptE M s0 (execBlockResetIdle s) := by
  unfold execBlockResetIdle
  refine kepte_next ?_
  refine kept_blkGoesIdle (hm.sub rfl) ?_
  exact h0

theorem kept_execBlkRstTimeout {cuts : List KernelCut} {s : State} (hm : Within 0x18883c000049a50042400000008157a0903430728c400991701c7f82221040a00019bbfffe1ffe M) (h0 : Kept M s0 s) :
    KeptE M s0 (execBlkRstTimeout cuts s) := by
  unfold execBlkRstTimeout
  refine kepte_next ?_
  refine kept_blkTimeout (hm.sub rfl) ?_
  exact h0

theorem kept_execPowerRegulate {env : PowerEnv} {s : State} (hm : Within 0x700000010000000001070006000000e000000129e01040202 M) (h0 : Kept M s0 s) :
    KeptE M s0 (execPowerRegulate env s) := by
  unfold execPowerRegulate
  refine kepte_next ?_
  refine kept_powerRegulate (hm.sub rfl) ?_
  exact h0

theorem kept_execPeriodicUpdate {u : Fin 104} {ok : Bool} {again : Bool} {s : State} (hm : Within 0x188820000049a5000200000000000720903030700c000191701c60002200000000189a59de0bfe M) (h0 : Kept M s0 s) :
    KeptE M s0 (execPeriodicUpdate u ok again s) := by
  unfold execPeriodicUpdate
  refine kepte_next ?_
  refine kept_periodicUpdate (hm.sub rfl) ?_
  exact h0

end Sys2Proof.Machine
end

