-- ==== Sys2Proof/Laws/Kept/Mgmt.lean ====
section
/-! SUPPORT. What the operations of Mgmt may write: each keeps its footprint. -/

namespace Sys2Proof.Machine

variable {M : Nat} {s0 : State}

theorem kept_setMgmt {s : State} {m : Mgmt} (hm : Within 0x1000000000 M) (h0 : Kept M s0 s) :
    Kept M s0 (State.setMgmt s m) := by
  unfold State.setMgmt
  refine Kept.in_mgmt (hm.bit 36 rfl) ?_
  exact h0

theorem kept_mgtEvent {s : State} {i : ℕ} (hm : Within 0x200000000000000000000000000000000000000000000000000000000008000000002 M) (h0 : Kept M s0 s) :
    Kept M s0 (State.mgtEvent s i) := by
  unfold State.mgtEvent
  extract_lets -underBinder +onlyGivenNames v20
  (clear_value v20; revert v20; refine Kept.seal ?_; intro v20)
  extract_lets -underBinder +onlyGivenNames v21
  have h22 : Kept M s0 v21 := by
    unfold v21
    refine Kept.setBit (hm.bit 1 rfl) (reach_MGT_STS (hm.bit 273 rfl)) ?_
    exact h0
  (clear_value v21; revert v21; refine Kept.seal ?_; intro v21 h22)
  refine kept_ite ?_ ?_
  · refine kept_raiseIrq (hm.sub rfl) ?_
    exact h22
  · exact h22

theorem kept_sessionShut {s : State} (hm : Within 0x800000000000000000000000000000000000000000000000000000000000000000000002 M) (h0 : Kept M s0 s) :
    Kept M s0 (State.sessionShut s) := by
  unfold State.sessionShut
  refine Kept.setF (hm.bit 1 rfl) (reach_MGT_IMG_SESSION (hm.bit 287 rfl)) ?_
  refine Kept.setF (hm.bit 1 rfl) (reach_MGT_IMG_SESSION (hm.bit 287 rfl)) ?_
  exact h0

theorem kept_sessionDropped {s : State} (hm : Within 0x800000000000000000000007000000000000000010700000000000000000109a00040202 M) (h0 : Kept M s0 s) :
    Kept M s0 (State.sessionDropped s) := by
  unfold State.sessionDropped
  refine kept_ite ?_ ?_
  · refine kept_ledger (hm.sub rfl) ?_
    refine kept_sessionShut (hm.sub rfl) ?_
    exact h0
  · exact h0

theorem kept_sessionUsed {s : State} (hm : Within 0x1000000000 M) (h0 : Kept M s0 s) :
    Kept M s0 (State.sessionUsed s) := by
  unfold State.sessionUsed
  refine kept_ite ?_ ?_
  · refine kept_setMgmt (hm.sub rfl) ?_
    exact h0
  · exact h0

theorem kept_openSession {s : State} {src : Node} (hm : Within 0x800000000000000000000000000000000000000000000000000000000000001000000002 M) (h0 : Kept M s0 s) :
    KeptP M s0 (State.openSession s src) := by
  unfold State.openSession
  refine keptp_ite ?_ ?_
  · refine Kept.pair ?_
    exact h0
  · refine keptp_ite ?_ ?_
    · refine Kept.pair ?_
      exact h0
    · refine Kept.pair ?_
      refine kept_sessionUsed (hm.sub rfl) ?_
      refine Kept.setF (hm.bit 1 rfl) (reach_MGT_IMG_SESSION (hm.bit 287 rfl)) ?_
      refine Kept.setF (hm.bit 1 rfl) (reach_MGT_IMG_SESSION (hm.bit 287 rfl)) ?_
      exact h0

theorem kept_closeSession {s : State} {src : Node} (hm : Within 0x800000000000000000000000000000000000000000000000000000000000000000000002 M) (h0 : Kept M s0 s) :
    KeptP M s0 (State.closeSession s src) := by
  unfold State.closeSession
  refine keptp_ite ?_ ?_
  · refine Kept.pair ?_
    exact h0
  · refine Kept.pair ?_
    refine kept_sessionShut (hm.sub rfl) ?_
    exact h0

theorem kept_imgPage {s : State} {src : Node} {page : ℕ} (hm : Within 0x1000000000000000000000000000000000000000000000000000000000000001000000002 M) (h0 : Kept M s0 s) :
    KeptP M s0 (State.imgPage s src page) := by
  unfold State.imgPage
  refine keptp_ite ?_ ?_
  · refine Kept.pair ?_
    exact h0
  · refine Kept.pair ?_
    refine kept_sessionUsed (hm.sub rfl) ?_
    refine Kept.setF (hm.bit 1 rfl) (reach_MGT_IMG_PAGE (hm.bit 288 rfl)) ?_
    exact h0

theorem kept_imgWindow {s : State} {src : Node} {off : ℕ} {n : ℕ} (hm : Within 0x1000000000 M) (h0 : Kept M s0 s) :
    KeptP M s0 (State.imgWindow s src off n) := by
  unfold State.imgWindow
  refine keptp_ite ?_ ?_
  · refine Kept.pair ?_
    exact h0
  · extract_lets -underBinder +onlyGivenNames v20
    (clear_value v20; revert v20; refine Kept.seal ?_; intro v20)
    extract_lets -underBinder +onlyGivenNames v21
    (clear_value v21; revert v21; refine Kept.seal ?_; intro v21)
    refine keptp_ite ?_ ?_
    · refine Kept.pair ?_
      refine kept_sessionUsed (hm.sub rfl) ?_
      exact h0
    · extract_lets -underBinder +onlyGivenNames v22
      (clear_value v22; revert v22; refine Kept.seal ?_; intro v22)
      refine Kept.pair ?_
      refine kept_sessionUsed (hm.sub rfl) ?_
      exact h0

theorem kept_sessionTimeout {s : State} (hm : Within 0x800000000000000000000007000000000000000010700000000000000000109a00040202 M) (h0 : Kept M s0 s) :
    Kept M s0 (State.sessionTimeout s) := by
  unfold State.sessionTimeout
  refine kept_ite ?_ ?_
  · refine kept_sessionDropped (hm.sub rfl) ?_
    exact h0
  · exact h0

theorem kept_reportCut {s : State} (hm : Within 0x2000000000007008020207000000190700000000000000000189a101e027e M) (h0 : Kept M s0 s) :
    Kept M s0 (State.reportCut s) := by
  unfold State.reportCut
  (generalize q21 : (s.mgmt.report) = x20; revert x20; refine Kept.seal ?_; intro x20 q21)
  split
  · rename_i w22 w23
    refine kept_bump (hm.sub rfl) ?_
    refine kept_writeRange (hm.sub rfl) ?_
    exact h0
  · rename_i w24
    exact h0

theorem kept_norCut {s : State} (hm : Within 0x81000000000 M) (h0 : Kept M s0 s) :
    Kept M s0 (State.norCut s) := by
  unfold State.norCut
  refine kept_ite ?_ ?_
  · refine kept_bump (hm.sub rfl) ?_
    refine kept_setMgmt (hm.sub rfl) ?_
    exact h0
  · exact h0

theorem kept_mgmtReset {s : State} (hm : Within 0x800700000002000000000007008020207000000190700000000000008000189a101e027e M) (h0 : Kept M s0 s) :
    Kept M s0 (State.mgmtReset s) := by
  unfold State.mgmtReset
  extract_lets -underBinder +onlyGivenNames v20
  have h21 : Kept M s0 v20 := by
    unfold v20
    refine kept_norCut (hm.sub rfl) ?_
    refine kept_reportCut (hm.sub rfl) ?_
    refine kept_sessionDropped (hm.sub rfl) ?_
    exact h0
  (clear_value v20; revert v20; refine Kept.seal ?_; intro v20 h21)
  extract_lets -underBinder +onlyGivenNames v22
  have h23 : Kept M s0 v22 := by
    unfold v22
    refine Kept.clearRegs (hm.bit 1 rfl) (hm.bit 63 rfl) ?_
    refine Kept.clearRegs (hm.bit 1 rfl) (hm.bit 63 rfl) ?_
    exact h21
  (clear_value v22; revert v22; refine Kept.seal ?_; intro v22 h23)
  extract_lets -underBinder +onlyGivenNames v24
  (clear_value v24; revert v24; refine Kept.seal ?_; intro v24)
  extract_lets -underBinder +onlyGivenNames v25
  have h26 : Kept M s0 v25 := by
    unfold v25
    refine kept_setMgmt (hm.sub rfl) ?_
    exact h23
  (clear_value v25; revert v25; refine Kept.seal ?_; intro v25 h26)
  refine kept_ite ?_ ?_
  · refine kept_fwStart (hm.sub rfl) ?_
    exact h26
  · refine kept_ledger (hm.sub rfl) ?_
    refine kept_mgtEvent (hm.sub rfl) ?_
    refine Kept.setF (hm.bit 1 rfl) (reach_MGT_STS (hm.bit 273 rfl)) ?_
    exact h26

theorem kept_wdogExpires {s : State} (hm : Within 0x800700000002000000000007008020207000000190700000000000088000189a101e027e M) (h0 : Kept M s0 s) :
    Kept M s0 (State.wdogExpires s) := by
  unfold State.wdogExpires
  extract_lets -underBinder +onlyGivenNames v20
  (clear_value v20; revert v20; refine Kept.seal ?_; intro v20)
  refine kept_ite ?_ ?_
  · exact h0
  · extract_lets -underBinder +onlyGivenNames v21
    have h22 : Kept M s0 v21 := by
      unfold v21
      refine kept_ibi (hm.sub rfl) ?_
      refine kept_ledger (hm.sub rfl) ?_
      refine Kept.setF (hm.bit 1 rfl) (reach_AO_CAUSE (hm.bit 67 rfl)) ?_
      exact h0
    (clear_value v21; revert v21; refine Kept.seal ?_; intro v21 h22)
    refine kept_mgtEvent (hm.sub rfl) ?_
    refine kept_mgmtReset (hm.sub rfl) ?_
    exact h22

theorem kept_wdogKick {s : State} {v : ℕ} (hm : Within 0x1000000000 M) (h0 : Kept M s0 s) :
    Kept M s0 (State.wdogKick s v) := by
  unfold State.wdogKick
  refine kept_ite ?_ ?_
  · refine kept_setMgmt (hm.sub rfl) ?_
    exact h0
  · exact h0

theorem kept_fuseBlow {s : State} {op : ℕ} {v : ℕ} (hm : Within 0x8000000000000000000000000000000000000000000000000000000000001000000002 M) (h0 : Kept M s0 s) :
    Kept M s0 (State.fuseBlow s op v) := by
  unfold State.fuseBlow
  extract_lets -underBinder +onlyGivenNames v20
  (clear_value v20; revert v20; refine Kept.seal ?_; intro v20)
  refine kept_ite ?_ ?_
  · extract_lets -underBinder +onlyGivenNames v21
    have h22 : Kept M s0 v21 := by
      unfold v21
      refine Kept.setBit (hm.bit 1 rfl) (reach_MGT_KEY_STS (hm.bit 279 rfl)) ?_
      exact h0
    (clear_value v21; revert v21; refine Kept.seal ?_; intro v21 h22)
    refine kept_setMgmt (hm.sub rfl) ?_
    exact h22
  · refine kept_setMgmt (hm.sub rfl) ?_
    refine Kept.setF (hm.bit 1 rfl) (reach_MGT_KEY_STS (hm.bit 279 rfl)) ?_
    exact h0

theorem kept_fuseEnds {s : State} {result : ℕ} (hm : Within 0x10000000000000000000000000000000000000000000000000000000000001000000002 M) (h0 : Kept M s0 s) :
    Kept M s0 (State.fuseEnds s result) := by
  unfold State.fuseEnds
  refine kept_setMgmt (hm.sub rfl) ?_
  refine Kept.setF (hm.bit 1 rfl) (reach_MGT_FUSE_CMD (hm.bit 280 rfl)) ?_
  exact h0

theorem kept_fuseCommand {s : State} {op : ℕ} {v : ℕ} {confirm : Bool} (hm : Within 0x18200000000000000000007000000000000000010700000000000000000109a00040202 M) (h0 : Kept M s0 s) :
    Kept M s0 (State.fuseCommand s op v confirm) := by
  unfold State.fuseCommand
  extract_lets -underBinder +onlyGivenNames v20
  have h21 : Kept M s0 v20 := by
    unfold v20
    refine Kept.setF (hm.bit 1 rfl) (reach_MGT_FUSE_CMD (hm.bit 280 rfl)) ?_
    refine Kept.setF (hm.bit 1 rfl) (reach_MGT_FUSE_CMD (hm.bit 280 rfl)) ?_
    refine Kept.setF (hm.bit 1 rfl) (reach_MGT_FUSE_CMD (hm.bit 280 rfl)) ?_
    exact h0
  (clear_value v20; revert v20; refine Kept.seal ?_; intro v20 h21)
  refine kept_ite ?_ ?_
  · (generalize q23 : (v20.mgmt.fuseArm) = x22; revert x22; refine Kept.seal ?_; intro x22 q23)
    split
    · rename_i w24 w25
      refine kept_ite ?_ ?_
      · refine kept_ite ?_ ?_
        · refine kept_fuseEnds (hm.sub rfl) ?_
          exact h21
        · refine kept_ledger (hm.sub rfl) ?_
          refine kept_mgtEvent (hm.sub rfl) ?_
          refine kept_fuseEnds (hm.sub rfl) ?_
          refine kept_fuseBlow (hm.sub rfl) ?_
          exact h21
      · refine kept_fuseEnds (hm.sub rfl) ?_
        exact h21
    · rename_i w26
      refine kept_fuseEnds (hm.sub rfl) ?_
      exact h21
  · refine kept_ite ?_ ?_
    · refine kept_fuseEnds (hm.sub rfl) ?_
      exact h21
    · refine kept_setMgmt (hm.sub rfl) ?_
      refine Kept.setF (hm.bit 1 rfl) (reach_MGT_FUSE_CMD (hm.bit 280 rfl)) ?_
      exact h21

theorem kept_fuseTimeout {s : State} (hm : Within 0x10000000000000000000000000000000000000000000000000000000000001000000002 M) (h0 : Kept M s0 s) :
    Kept M s0 (State.fuseTimeout s) := by
  unfold State.fuseTimeout
  (generalize q21 : (s.mgmt.fuseArm) = x20; revert x20; refine Kept.seal ?_; intro x20 q21)
  split
  · rename_i w22 w23
    refine kept_ite ?_ ?_
    · refine kept_fuseEnds (hm.sub rfl) ?_
      exact h0
    · exact h0
  · rename_i w24
    exact h0

theorem kept_norStart {s : State} (hm : Within 0x80000000000000000000000000000000000000000000000000000000000001000000002 M) (h0 : Kept M s0 s) :
    Kept M s0 (State.norStart s) := by
  unfold State.norStart
  refine kept_ite ?_ ?_
  · exact h0
  · refine kept_ite ?_ ?_
    · refine Kept.setF (hm.bit 1 rfl) (reach_MGT_NOR_CMD (hm.bit 283 rfl)) ?_
      exact h0
    · refine kept_setMgmt (hm.sub rfl) ?_
      refine Kept.setF (hm.bit 1 rfl) (reach_MGT_NOR_CMD (hm.bit 283 rfl)) ?_
      exact h0

theorem kept_norEnds {s : State} {result : ℕ} (hm : Within 0x80200000000000000000000000000000000000000000000000000000000009000000002 M) (h0 : Kept M s0 s) :
    Kept M s0 (State.norEnds s result) := by
  unfold State.norEnds
  refine kept_mgtEvent (hm.sub rfl) ?_
  refine kept_setMgmt (hm.sub rfl) ?_
  refine Kept.setF (hm.bit 1 rfl) (reach_MGT_NOR_CMD (hm.bit 283 rfl)) ?_
  refine Kept.setF (hm.bit 1 rfl) (reach_MGT_NOR_CMD (hm.bit 283 rfl)) ?_
  exact h0

theorem kept_norDone {s : State} {env : VaultEnv} {wrong : Option ℕ} (hm : Within 0x8020000000000000000000700902020700c000191700000000000000000189a00de027e M) (h0 : Kept M s0 s) :
    Kept M s0 (State.norDone s env wrong) := by
  unfold State.norDone
  refine kept_ite ?_ ?_
  · exact h0
  · extract_lets -underBinder +onlyGivenNames v20
    (clear_value v20; revert v20; refine Kept.seal ?_; intro v20)
    extract_lets -underBinder +onlyGivenNames v21
    (clear_value v21; revert v21; refine Kept.seal ?_; intro v21)
    extract_lets -underBinder +onlyGivenNames v22
    have h23 : ∀ c_0 c_1, Kept M s0 c_0 → Kept M s0 (v22 c_0 c_1) := by
      unfold v22
      intro y24 y25 h26
      refine kept_norEnds (hm.sub rfl) ?_
      refine Kept.setF (hm.bit 1 rfl) (reach_MGT_NOR_CMD (hm.bit 283 rfl)) ?_
      exact h26
    (clear_value v22; revert v22; refine Kept.seal ?_; intro v22 h23)
    refine kept_ite ?_ ?_
    · refine h23 _ _ ?_
      exact h0
    · refine kept_ite ?_ ?_
      · refine h23 _ _ ?_
        exact h0
      · extract_lets -underBinder +onlyGivenNames v27
        have h28 : KeptP M s0 v27 := by
          unfold v27
          refine kept_readAny (hm.sub rfl) ?_
          exact h0
        (clear_value v27; revert v27; refine Kept.seal ?_; intro v27 h28)
        refine kept_ite ?_ ?_
        · refine kept_readWaits (hm.sub rfl) ?_
          exact (KeptP.st h28)
        · extract_lets -underBinder +onlyGivenNames v29
          have h30 : Kept M s0 v29 := by
            unfold v29
            exact (KeptP.st h28)
          (generalize q32 : (v29.checkForNor v27.2.data v27.2.poison (BitVec.toNat v20)) = x31; revert x31; refine Kept.seal ?_; intro x31 q32)
          split
          · rename_i w33 w34
            refine h23 _ _ ?_
            exact h30
          · rename_i w35 w36
            split
            · rename_i w37
              refine kept_norEnds (hm.sub rfl) ?_
              refine kept_setMgmt (hm.sub rfl) ?_
              exact h30
            · rename_i w38 w39
              refine kept_norEnds (hm.sub rfl) ?_
              refine kept_ledger (hm.sub rfl) ?_
              refine kept_norCut (hm.sub rfl) ?_
              exact h30

theorem kept_attest {s : State} (hm : Within 0x400000000000000000000000000000000000000000000000000000000000001000000002 M) (h0 : Kept M s0 s) :
    Kept M s0 (State.attest s) := by
  unfold State.attest
  extract_lets -underBinder +onlyGivenNames v20
  (clear_value v20; revert v20; refine Kept.seal ?_; intro v20)
  refine kept_ite ?_ ?_
  · exact h0
  · refine kept_ite ?_ ?_
    · refine Kept.setF (hm.bit 1 rfl) (reach_MGT_ATT_CMD (hm.bit 286 rfl)) ?_
      exact h0
    · refine kept_setMgmt (hm.sub rfl) ?_
      refine Kept.setF (hm.bit 1 rfl) (reach_MGT_ATT_CMD (hm.bit 286 rfl)) ?_
      exact h0

theorem kept_attestDone {s : State} (hm : Within 0x400200000002000000000007008020207000000190700000000000000000189a101e027e M) (h0 : Kept M s0 s) :
    Kept M s0 (State.attestDone s) := by
  unfold State.attestDone
  (generalize q21 : (s.mgmt.report) = x20; revert x20; refine Kept.seal ?_; intro x20 q21)
  split
  · rename_i w22 w23
    refine kept_ite ?_ ?_
    · exact h0
    · extract_lets -underBinder +onlyGivenNames v24
      (clear_value v24; revert v24; refine Kept.seal ?_; intro v24)
      extract_lets -underBinder +onlyGivenNames v25
      have h26 : Kept M s0 v25 := by
        unfold v25
        refine kept_bump (hm.sub rfl) ?_
        refine kept_writeRange (hm.sub rfl) ?_
        exact h0
      (clear_value v25; revert v25; refine Kept.seal ?_; intro v25 h26)
      extract_lets -underBinder +onlyGivenNames v27
      (clear_value v27; revert v27; refine Kept.seal ?_; intro v27)
      extract_lets -underBinder +onlyGivenNames v28
      have h29 : Kept M s0 v28 := by
        unfold v28
        refine kept_setMgmt (hm.sub rfl) ?_
        refine Kept.setF (hm.bit 1 rfl) (reach_MGT_ATT_CMD (hm.bit 286 rfl)) ?_
        refine Kept.setF (hm.bit 1 rfl) (reach_MGT_ATT_CMD (hm.bit 286 rfl)) ?_
        exact h26
      (clear_value v28; revert v28; refine Kept.seal ?_; intro v28 h29)
      refine kept_mgtEvent (hm.sub rfl) ?_
      exact h29
  · rename_i w30
    exact h0

theorem kept_i3cNack {s : State} (hm : Within 0x100000000000 M) (h0 : Kept M s0 s) :
    Kept M s0 (State.i3cNack s) := by
  unfold State.i3cNack
  refine kept_emit (hm.sub rfl) ?_
  exact h0

theorem kept_recover {s : State} {d : Bytes} (hm : Within 0x200000000000000000000008000000000000000002148a00019bfffffdf82 M) (h0 : Kept M s0 s) :
    Kept M s0 (State.recover s d) := by
  unfold State.recover
  refine kept_ite ?_ ?_
  · exact h0
  · (generalize q21 : (Sys2Proof.fieldLe d 1 1) = x20; revert x20; refine Kept.seal ?_; intro x20 q21)
    split
    · rename_i w22
      refine kept_deviceReset (hm.sub rfl) ?_
      exact h0
    · rename_i w23
      refine kept_deviceReset (hm.sub rfl) ?_
      exact h0
    · rename_i w24
      refine kept_ite ?_ ?_
      · exact h0
      · refine Kept.setF (hm.bit 1 rfl) (reach_AO_BOOT (hm.bit 72 rfl)) ?_
        exact h0
    · rename_i w25 w26 w27 w28
      exact h0

theorem kept_i3cServed {s : State} (hm : Within 0x1000000000 M) (h0 : Kept M s0 s) :
    Kept M s0 (State.i3cServed s) := by
  unfold State.i3cServed
  refine kept_setMgmt (hm.sub rfl) ?_
  exact h0

theorem kept_i3cWrite {s : State} {i : ℕ} {d : Bytes} (hm : Within 0x200000000000000000000008000000000000000002148a00019bfffffdf82 M) (h0 : Kept M s0 s) :
    Kept M s0 (State.i3cWrite s i d) := by
  unfold State.i3cWrite
  refine kept_ite ?_ ?_
  · exact h0
  · extract_lets -underBinder +onlyGivenNames v20
    have h21 : Kept M s0 v20 := by
      unfold v20
      refine kept_i3cServed (hm.sub rfl) ?_
      exact h0
    (clear_value v20; revert v20; refine Kept.seal ?_; intro v20 h21)
    refine kept_ite ?_ ?_
    · extract_lets -underBinder +onlyGivenNames v22
      (clear_value v22; revert v22; refine Kept.seal ?_; intro v22)
      extract_lets -underBinder +onlyGivenNames v23
      have h24 : Kept M s0 v23 := by
        unfold v23
        refine kept_setMgmt (hm.sub rfl) ?_
        exact h21
      (clear_value v23; revert v23; refine Kept.seal ?_; intro v23 h24)
      refine kept_ite ?_ ?_
      · exact h24
      · refine kept_recover (hm.sub rfl) ?_
        exact h24
    · refine kept_ite ?_ ?_
      · refine kept_i3cNack (hm.sub rfl) ?_
        exact h21
      · refine kept_setMgmt (hm.sub rfl) ?_
        exact h21

theorem kept_i3cRead {s : State} (hm : Within 0x101000000000 M) (h0 : Kept M s0 s) :
    Kept M s0 (State.i3cRead s) := by
  unfold State.i3cRead
  refine kept_ite ?_ ?_
  · exact h0
  · extract_lets -underBinder +onlyGivenNames v20
    have h21 : Kept M s0 v20 := by
      unfold v20
      refine kept_i3cServed (hm.sub rfl) ?_
      exact h0
    (clear_value v20; revert v20; refine Kept.seal ?_; intro v20 h21)
    (generalize q23 : ((Sys2Proof.Machine.i3cRegister v20.mgmt.i3cIndex).bind v20.readReg) = x22; revert x22; refine Kept.seal ?_; intro x22 q23)
    split
    · rename_i w24 w25
      refine kept_ite ?_ ?_
      · refine kept_emit (hm.sub rfl) ?_
        exact h21
      · refine kept_i3cNack (hm.sub rfl) ?_
        exact h21
    · rename_i w26
      refine kept_i3cNack (hm.sub rfl) ?_
      exact h21

theorem kept_i3cCcc {s : State} {x : I3cCode} (hm : Within 0x181000000000 M) (h0 : Kept M s0 s) :
    Kept M s0 (State.i3cCcc s x) := by
  unfold State.i3cCcc
  refine kept_ite ?_ ?_
  · exact h0
  · extract_lets -underBinder +onlyGivenNames v20
    have h21 : Kept M s0 v20 := by
      unfold v20
      refine kept_i3cServed (hm.sub rfl) ?_
      exact h0
    (clear_value v20; revert v20; refine Kept.seal ?_; intro v20 h21)
    extract_lets -underBinder +onlyGivenNames v22
    have h23 : ∀ c_0, Kept M s0 (v22 c_0) := by
      unfold v22
      intro y24
      refine kept_bump (hm.sub rfl) ?_
      refine kept_emit (hm.sub rfl) ?_
      exact h21
    (clear_value v22; revert v22; refine Kept.seal ?_; intro v22 h23)
    split
    · rename_i w25 w26
      refine kept_ite ?_ ?_
      · refine kept_setMgmt (hm.sub rfl) ?_
        exact h21
      · exact h21
    · rename_i w27 w28
      refine kept_ite ?_ ?_
      · refine kept_setMgmt (hm.sub rfl) ?_
        exact h21
      · exact h21
    · rename_i w29
      refine kept_setMgmt (hm.sub rfl) ?_
      exact h21
    · rename_i w30 w31
      refine kept_ite ?_ ?_
      · refine kept_setMgmt (hm.sub rfl) ?_
        refine kept_emit (hm.sub rfl) ?_
        exact h21
      · exact h21
    · rename_i w32 w33 w34
      refine kept_ite ?_ ?_
      · refine kept_setMgmt (hm.sub rfl) ?_
        exact h21
      · refine kept_i3cNack (hm.sub rfl) ?_
        exact h21
    · rename_i w35
      refine kept_emit (hm.sub rfl) ?_
      exact h21
    · rename_i w36
      refine kept_emit (hm.sub rfl) ?_
      exact h21
    · rename_i w37
      refine kept_emit (hm.sub rfl) ?_
      exact h21
    · rename_i w38
      refine h23 _
    · rename_i w39
      refine h23 _
    · rename_i w40 w41
      exact h21

theorem kept_ctrlAnswer {r : State × ℕ} {src : Node} {addr : ℕ} (hm : Within 0x100000000000 M) (h0 : KeptP M s0 r) :
    Kept M s0 (State.ctrlAnswer r src addr) := by
  unfold State.ctrlAnswer
  refine kept_emit (hm.sub rfl) ?_
  exact (KeptP.st h0)

theorem kept_execWatchdogExpire {s : State} (hm : Within 0x800700000002000000000007008020207000000190700000000000088000189a101e027e M) (h0 : Kept M s0 s) :
    KeptE M s0 (execWatchdogExpire s) := by
  unfold execWatchdogExpire
  refine kepte_next ?_
  refine kept_wdogExpires (hm.sub rfl) ?_
  exact h0

theorem kept_execWdogKick {v : W16} {s : State} (hm : Within 0x1000000000 M) (h0 : Kept M s0 s) :
    KeptE M s0 (execWdogKick v s) := by
  unfold execWdogKick
  refine kepte_next ?_
  refine kept_wdogKick (hm.sub rfl) ?_
  exact h0

theorem kept_execFuseRevoke {slot : Byte} {confirm : Bool} {s : State} (hm : Within 0x18200000000000000000007000000000000000010700000000000000000109a00040202 M) (h0 : Kept M s0 s) :
    KeptE M s0 (execFuseRevoke slot confirm s) := by
  unfold execFuseRevoke
  refine kepte_next ?_
  refine kept_fuseCommand (hm.sub rfl) ?_
  exact h0

theorem kept_execFuseRaiseMin {v : Byte} {confirm : Bool} {s : State} (hm : Within 0x18200000000000000000007000000000000000010700000000000000000109a00040202 M) (h0 : Kept M s0 s) :
    KeptE M s0 (execFuseRaiseMin v confirm s) := by
  unfold execFuseRaiseMin
  refine kepte_next ?_
  refine kept_fuseCommand (hm.sub rfl) ?_
  exact h0

theorem kept_execFuseConfirmTimeout {s : State} (hm : Within 0x10000000000000000000000000000000000000000000000000000000000001000000002 M) (h0 : Kept M s0 s) :
    KeptE M s0 (execFuseConfirmTimeout s) := by
  unfold execFuseConfirmTimeout
  refine kepte_next ?_
  refine kept_fuseTimeout (hm.sub rfl) ?_
  exact h0

theorem kept_execNorUpdate {s : State} (hm : Within 0x80000000000000000000000000000000000000000000000000000000000001000000002 M) (h0 : Kept M s0 s) :
    KeptE M s0 (execNorUpdate s) := by
  unfold execNorUpdate
  refine kepte_next ?_
  refine kept_norStart (hm.sub rfl) ?_
  exact h0

theorem kept_execNorUpdateDone {env : VaultEnv} {wrong : Option ℕ} {s : State} (hm : Within 0x8020000000000000000000700902020700c000191700000000000000000189a00de027e M) (h0 : Kept M s0 s) :
    KeptE M s0 (execNorUpdateDone env wrong s) := by
  unfold execNorUpdateDone
  refine kepte_next ?_
  refine kept_norDone (hm.sub rfl) ?_
  exact h0

theorem kept_execSessionOpen {src : Node} {s : State} (hm : Within 0x800000000000000000000000000000000000000000000000000000000000101000000002 M) (h0 : Kept M s0 s) :
    KeptE M s0 (execSessionOpen src s) := by
  unfold execSessionOpen
  refine kepte_next ?_
  refine kept_ctrlAnswer (hm.sub rfl) ?_
  refine kept_openSession (hm.sub rfl) ?_
  exact h0

theorem kept_execSessionClose {src : Node} {s : State} (hm : Within 0x800000000000000000000000000000000000000000000000000000000000100000000002 M) (h0 : Kept M s0 s) :
    KeptE M s0 (execSessionClose src s) := by
  unfold execSessionClose
  refine kepte_next ?_
  refine kept_ctrlAnswer (hm.sub rfl) ?_
  refine kept_closeSession (hm.sub rfl) ?_
  exact h0

theorem kept_execImgServeEnd {s : State} (hm : Within 0x800000000000000000000007000000000000000010700000000000000000109a00040202 M) (h0 : Kept M s0 s) :
    KeptE M s0 (execImgServeEnd s) := by
  unfold execImgServeEnd
  refine kepte_next ?_
  refine kept_sessionTimeout (hm.sub rfl) ?_
  exact h0

theorem kept_execImgPage {src : Node} {page : Fin 128} {s : State} (hm : Within 0x1000000000000000000000000000000000000000000000000000000000000101000000002 M) (h0 : Kept M s0 s) :
    KeptE M s0 (execImgPage src page s) := by
  unfold execImgPage
  refine kepte_next ?_
  refine kept_ctrlAnswer (hm.sub rfl) ?_
  refine kept_imgPage (hm.sub rfl) ?_
  exact h0

theorem kept_execImgWinRead {src : Node} {off : Fin 524288} {len : Fin 65} {s : State} (hm : Within 0x101000000000 M) (h0 : Kept M s0 s) :
    KeptE M s0 (execImgWinRead src off len s) := by
  unfold execImgWinRead
  extract_lets -underBinder +onlyGivenNames v20
  have h21 : KeptP M s0 v20 := by
    unfold v20
    refine kept_imgWindow (hm.sub rfl) ?_
    exact h0
  (clear_value v20; revert v20; refine Kept.seal ?_; intro v20 h21)
  refine kepte_next ?_
  refine kept_emit (hm.sub rfl) ?_
  exact (KeptP.st h21)

theorem kept_execAttest {s : State} (hm : Within 0x400000000000000000000000000000000000000000000000000000000000001000000002 M) (h0 : Kept M s0 s) :
    KeptE M s0 (execAttest s) := by
  unfold execAttest
  refine kepte_next ?_
  refine kept_attest (hm.sub rfl) ?_
  exact h0

theorem kept_execAttestDone {s : State} (hm : Within 0x400200000002000000000007008020207000000190700000000000000000189a101e027e M) (h0 : Kept M s0 s) :
    KeptE M s0 (execAttestDone s) := by
  unfold execAttestDone
  refine kepte_next ?_
  refine kept_attestDone (hm.sub rfl) ?_
  exact h0

theorem kept_execI3cIndexWrite {index : W16} {data : Bytes} {s : State} (hm : Within 0x200000000000000000000008000000000000000002148a00019bfffffdf82 M) (h0 : Kept M s0 s) :
    KeptE M s0 (execI3cIndexWrite index data s) := by
  unfold execI3cIndexWrite
  refine kepte_next ?_
  refine kept_i3cWrite (hm.sub rfl) ?_
  exact h0

theorem kept_execI3cRead {s : State} (hm : Within 0x101000000000 M) (h0 : Kept M s0 s) :
    KeptE M s0 (execI3cRead s) := by
  unfold execI3cRead
  refine kepte_next ?_
  refine kept_i3cRead (hm.sub rfl) ?_
  exact h0

theorem kept_execI3cRecovery {b0 : Byte} {b1 : Byte} {b2 : Byte} {s : State} (hm : Within 0x200000000000000000000008000000000000000002148a00019bfffffdf82 M) (h0 : Kept M s0 s) :
    KeptE M s0 (execI3cRecovery b0 b1 b2 s) := by
  unfold execI3cRecovery
  refine kepte_next ?_
  refine kept_i3cWrite (hm.sub rfl) ?_
  exact h0

theorem kept_execI3cCcc {code : I3cCode} {s : State} (hm : Within 0x181000000000 M) (h0 : Kept M s0 s) :
    KeptE M s0 (execI3cCcc code s) := by
  unfold execI3cCcc
  refine kepte_next ?_
  refine kept_i3cCcc (hm.sub rfl) ?_
  exact h0

end Sys2Proof.Machine
end

