-- ==== Sys2Proof/Laws/Kept/Epoch.lean ====
section
/-! SUPPORT. What the operations of Epoch may write: each keeps its footprint. -/

namespace Sys2Proof.Machine

variable {M : Nat} {s0 : State}

theorem kept_setEpoch {s : State} {e : Epoch} (hm : Within 0x100 M) (h0 : Kept M s0 s) :
    Kept M s0 (State.setEpoch s e) := by
  unfold State.setEpoch
  refine Kept.in_epoch (hm.bit 8 rfl) ?_
  exact h0

theorem kept_sitState {s : State} {st : ℕ} (hm : Within 0x200000000000000000002 M) (h0 : Kept M s0 s) :
    Kept M s0 (State.sitState s st) := by
  unfold State.sitState
  refine Kept.setF (hm.bit 1 rfl) (reach_SIT_STATUS (hm.bit 81 rfl)) ?_
  exact h0

theorem kept_sitLoad {s : State} {src : ℕ} (hm : Within 0x7200000000000000010700000000240000000109a0004cb02 M) (h0 : Kept M s0 s) :
    Kept M s0 (State.sitLoad s src) := by
  unfold State.sitLoad
  extract_lets -underBinder +onlyGivenNames v20
  have h21 : ∀ c_0, Kept M s0 (v20 c_0) := by
    unfold v20
    intro y22
    refine kept_ite ?_ ?_
    · refine kept_sitError (hm.sub rfl) ?_
      exact h0
    · extract_lets -underBinder +onlyGivenNames v23
      (clear_value v23; revert v23; refine Kept.seal ?_; intro v23)
      extract_lets -underBinder +onlyGivenNames v24
      (clear_value v24; revert v24; refine Kept.seal ?_; intro v24)
      extract_lets -underBinder +onlyGivenNames v25
      have h26 : Kept M s0 v25 := by
        unfold v25
        refine kept_setEpoch (hm.sub rfl) ?_
        refine kept_sitState (hm.sub rfl) ?_
        refine Kept.setF (hm.bit 1 rfl) (reach_SIT_LOAD (hm.bit 78 rfl)) ?_
        refine Kept.setF (hm.bit 1 rfl) (reach_SIT_LOAD (hm.bit 78 rfl)) ?_
        exact h0
      (clear_value v25; revert v25; refine Kept.seal ?_; intro v25 h26)
      refine kept_ite ?_ ?_
      · refine kept_imageOpen (hm.sub rfl) ?_
        exact h26
      · exact h26
  (clear_value v20; revert v20; refine Kept.seal ?_; intro v20 h21)
  refine kept_ite ?_ ?_
  · refine h21 _
  · refine kept_ite ?_ ?_
    · refine h21 _
    · refine kept_ite ?_ ?_
      · refine kept_sitError (hm.sub rfl) ?_
        exact h0
      · exact h0

theorem kept_readSource {s : State} {a : PA} {n : ℕ} {env : VaultEnv} (hm : Within 0x700902020700c000191700000000000000000189a00de027e M) (h0 : Kept M s0 s) :
    KeptP M s0 (State.readSource s a n env) := by
  unfold State.readSource
  refine keptp_ite ?_ ?_
  · refine kept_readAny (hm.sub rfl) ?_
    exact h0
  · refine Kept.pair ?_
    exact h0

theorem kept_poolSource {s : State} {a : PA} {len : ℕ} {env : VaultEnv} (hm : Within 0x700902020700c000191700000000000000000189a00de027e M) (h0 : Kept M s0 s) :
    KeptP M s0 (State.poolSource s a len env) := by
  unfold State.poolSource
  extract_lets -underBinder +onlyGivenNames v20
  have h21 : KeptP M s0 v20 := by
    unfold v20
    refine kept_readSource (hm.sub rfl) ?_
    exact h0
  (clear_value v20; revert v20; refine Kept.seal ?_; intro v20 h21)
  refine keptp_ite ?_ ?_
  · refine Kept.pair ?_
    exact (KeptP.st h21)
  · extract_lets -underBinder +onlyGivenNames v22
    have h23 : KeptP M s0 v22 := by
      unfold v22
      refine Kept.pair ?_
      exact (KeptP.st h21)
    (clear_value v22; revert v22; refine Kept.seal ?_; intro v22 h23)
    refine keptp_foldl ?_ ?_
    · intro y24 y25 h26
      (generalize q28 : (y24.2) = x27; revert x27; refine Kept.seal ?_; intro x27 q28)
      split
      · rename_i w29 w30
        exact h26
      · rename_i w31 w32 w33
        extract_lets -underBinder +onlyGivenNames v34
        have h35 : KeptP M s0 v34 := by
          unfold v34
          refine kept_readSource (hm.sub rfl) ?_
          exact (KeptP.st h26)
        (clear_value v34; revert v34; refine Kept.seal ?_; intro v34 h35)
        refine keptp_ite ?_ ?_
        · refine Kept.pair ?_
          exact (KeptP.st h35)
        · refine Kept.pair ?_
          exact (KeptP.st h35)
    · exact h23

theorem kept_loadApplies {s : State} {x : Loaded} (hm : Within 0x800700000002000000000007008020207180000190700000002640008000189b103e037e M) (h0 : Kept M s0 s) :
    Kept M s0 (State.loadApplies s x) := by
  unfold State.loadApplies
  extract_lets -underBinder +onlyGivenNames v20
  have h21 : Kept M s0 v20 := by
    unfold v20
    refine kept_applyPrefix (hm.sub rfl) ?_
    exact h0
  (clear_value v20; revert v20; refine Kept.seal ?_; intro v20 h21)
  extract_lets -underBinder +onlyGivenNames v22
  have h23 : Kept M s0 v22 := by
    unfold v22
    (generalize q25 : (x.fw) = x24; revert x24; refine Kept.seal ?_; intro x24 q25)
    split
    · rename_i w26 w27
      extract_lets -underBinder +onlyGivenNames v28
      (clear_value v28; revert v28; refine Kept.seal ?_; intro v28)
      extract_lets -underBinder +onlyGivenNames v29
      have h30 : Kept M s0 v29 := by
        unfold v29
        refine kept_setDigest (hm.sub rfl) ?_
        refine kept_setMgmt (hm.sub rfl) ?_
        exact h21
      (clear_value v29; revert v29; refine Kept.seal ?_; intro v29 h30)
      refine kept_mgmtReset (hm.sub rfl) ?_
      exact h30
    · rename_i w31
      exact h21
  (clear_value v22; revert v22; refine Kept.seal ?_; intro v22 h23)
  extract_lets -underBinder +onlyGivenNames v32
  have h33 : Kept M s0 v32 := by
    unfold v32
    (generalize q35 : (x.tabs) = x34; revert x34; refine Kept.seal ?_; intro x34 q35)
    split
    · rename_i w36 w37
      refine kept_setDigest (hm.sub rfl) ?_
      refine kept_installTables (hm.sub rfl) ?_
      exact h23
    · rename_i w38
      exact h23
  (clear_value v32; revert v32; refine Kept.seal ?_; intro v32 h33)
  extract_lets -underBinder +onlyGivenNames v39
  (clear_value v39; revert v39; refine Kept.seal ?_; intro v39)
  extract_lets -underBinder +onlyGivenNames v40
  have h41 : Kept M s0 v40 := by
    unfold v40
    refine kept_setEpoch (hm.sub rfl) ?_
    exact h33
  (clear_value v40; revert v40; refine Kept.seal ?_; intro v40 h41)
  extract_lets -underBinder +onlyGivenNames v42
  have h43 : Kept M s0 v42 := by
    unfold v42
    refine Kept.setF (hm.bit 1 rfl) (reach_SIT_STATUS (hm.bit 81 rfl)) ?_
    exact h41
  (clear_value v42; revert v42; refine Kept.seal ?_; intro v42 h43)
  extract_lets -underBinder +onlyGivenNames v44
  have h45 : Kept M s0 v44 := by
    unfold v44
    refine kept_ite ?_ ?_
    · refine Kept.setF (hm.bit 1 rfl) (reach_SIT_EPOCH_UNITS (hm.bit 85 rfl)) ?_
      exact h43
    · exact h33
  (clear_value v44; revert v44; refine Kept.seal ?_; intro v44 h45)
  refine Kept.setF (hm.bit 1 rfl) (reach_SIT_STATUS (hm.bit 81 rfl)) ?_
  refine kept_loadOver (hm.sub rfl) ?_
  exact h45

theorem kept_loadChecked {s : State} {img : Bytes} {bad : List ℕ} {srcLen : ℕ} {addr : ℕ} (hm : Within 0x800700000002000000000007008020207180000190700000002640008000189b103e037e M) (h0 : Kept M s0 s) :
    Kept M s0 (State.loadChecked s img bad srcLen addr) := by
  unfold State.loadChecked
  (generalize q21 : (s.checkImage img bad srcLen addr Bool.false) = x20; revert x20; refine Kept.seal ?_; intro x20 q21)
  split
  · rename_i w22 w23
    refine kept_loadApplies (hm.sub rfl) ?_
    exact h0
  · rename_i w24 w25
    refine kept_loadFails (hm.sub rfl) ?_
    exact h0

theorem kept_loadEnds {s : State} {img : Bytes} {bad : List ℕ} {env : VaultEnv} (hm : Within 0x80070000000200000000000700902020718c000191700000002740008000189b10fe037e M) (h0 : Kept M s0 s) :
    Kept M s0 (State.loadEnds s img bad env) := by
  unfold State.loadEnds
  (generalize q21 : (s.epoch.load) = x20; revert x20; refine Kept.seal ?_; intro x20 q21)
  split
  · rename_i w22
    exact h0
  · rename_i w23 w24
    refine kept_ite ?_ ?_
    · exact h0
    · refine kept_ite ?_ ?_
      · extract_lets -underBinder +onlyGivenNames v25
        (clear_value v25; revert v25; refine Kept.seal ?_; intro v25)
        extract_lets -underBinder +onlyGivenNames v26
        (clear_value v26; revert v26; refine Kept.seal ?_; intro v26)
        refine kept_ite ?_ ?_
        · refine kept_loadFails (hm.sub rfl) ?_
          exact h0
        · (generalize q28 : (s.poolSource v25 v26 env) = x27; revert x27; refine Kept.seal ?_; intro x27 q28)
          have h29 : KeptP M s0 x27 := by
            rw [← q28]
            refine kept_poolSource (hm.sub rfl) ?_
            exact h0
          split
          · rename_i w30 w31 w32
            refine kept_readWaits (hm.sub rfl) ?_
            exact (KeptP.st h29)
          · rename_i w33 w34 w35 w36
            refine kept_loadChecked (hm.sub rfl) ?_
            exact (KeptP.st h29)
      · refine kept_ite ?_ ?_
        · refine kept_loadChecked (hm.sub rfl) ?_
          exact h0
        · refine kept_ite ?_ ?_
          · extract_lets -underBinder +onlyGivenNames v37
            (clear_value v37; revert v37; refine Kept.seal ?_; intro v37)
            extract_lets -underBinder +onlyGivenNames v38
            (clear_value v38; revert v38; refine Kept.seal ?_; intro v38)
            refine kept_loadChecked (hm.sub rfl) ?_
            refine Kept.setF (hm.bit 1 rfl) (reach_SIT_SRC_LEN (hm.bit 80 rfl)) ?_
            exact h0
          · (generalize q40 : (s.epoch.read) = x39; revert x39; refine Kept.seal ?_; intro x39 q40)
            split
            · rename_i w41
              exact h0
            · rename_i w42 w43
              refine kept_ite ?_ ?_
              · exact h0
              · extract_lets -underBinder +onlyGivenNames v44
                (clear_value v44; revert v44; refine Kept.seal ?_; intro v44)
                refine kept_loadChecked (hm.sub rfl) ?_
                refine Kept.setF (hm.bit 1 rfl) (reach_SIT_SRC_LEN (hm.bit 80 rfl)) ?_
                refine kept_setRead (hm.sub rfl) ?_
                exact h0

theorem kept_launchRefused {s : State} {code : ℕ} {addr : ℕ} (hm : Within 0x7000000000000000010700000000200000000109a00040202 M) (h0 : Kept M s0 s) :
    Kept M s0 (State.launchRefused s code addr) := by
  unfold State.launchRefused
  refine kept_sitError (hm.sub rfl) ?_
  refine Kept.setF (hm.bit 1 rfl) (reach_SIT_STATUS (hm.bit 81 rfl)) ?_
  exact h0

theorem kept_epochGo {s : State} (hm : Within 0x7000000000000000010700000007200040000109a00040302 M) (h0 : Kept M s0 s) :
    Kept M s0 (State.epochGo s) := by
  unfold State.epochGo
  extract_lets -underBinder +onlyGivenNames v20
  (clear_value v20; revert v20; refine Kept.seal ?_; intro v20)
  refine kept_ite ?_ ?_
  · refine kept_launchRefused (hm.sub rfl) ?_
    exact h0
  · refine kept_ite ?_ ?_
    · refine kept_launchRefused (hm.sub rfl) ?_
      exact h0
    · refine kept_ite ?_ ?_
      · refine kept_launchRefused (hm.sub rfl) ?_
        exact h0
      · extract_lets -underBinder +onlyGivenNames v21
        have h22 : Kept M s0 v21 := by
          unfold v21
          refine Kept.setF (hm.bit 1 rfl) (reach_SIT_EPOCH_ACKED (hm.bit 86 rfl)) ?_
          refine Kept.setF (hm.bit 1 rfl) (reach_SIT_EPOCH_UNITS (hm.bit 85 rfl)) ?_
          exact h0
        (clear_value v21; revert v21; refine Kept.seal ?_; intro v21 h22)
        extract_lets -underBinder +onlyGivenNames v23
        have h24 : Kept M s0 v23 := by
          unfold v23
          refine kept_sitState (hm.sub rfl) ?_
          refine Kept.setF (hm.bit 1 rfl) (reach_GLB_EPOCH (hm.bit 66 rfl)) ?_
          refine Kept.setF (hm.bit 1 rfl) (reach_SIT_EPOCH_CTRL (hm.bit 84 rfl)) ?_
          exact h22
        (clear_value v23; revert v23; refine Kept.seal ?_; intro v23 h24)
        refine kept_setEpoch (hm.sub rfl) ?_
        exact h24

theorem kept_epochNotices {s : State} {outcome : ℕ} (hm : Within 0x7200000000000000010700000000000000000109a00040b02 M) (h0 : Kept M s0 s) :
    Kept M s0 (State.epochNotices s outcome) := by
  unfold State.epochNotices
  extract_lets -underBinder +onlyGivenNames v20
  (clear_value v20; revert v20; refine Kept.seal ?_; intro v20)
  refine kept_forEach ?_ ?_
  · intro y21 y22 h23
    refine kept_sendNotice (hm.sub rfl) ?_
    exact h23
  · refine kept_setEpoch (hm.sub rfl) ?_
    exact h0

theorem kept_changeEnds {s : State} {st : ℕ} {outcome : ℕ} (hm : Within 0x1200040000000000000102 M) (h0 : Kept M s0 s) :
    Kept M s0 (State.changeEnds s st outcome) := by
  unfold State.changeEnds
  extract_lets -underBinder +onlyGivenNames v20
  have h21 : Kept M s0 v20 := by
    unfold v20
    refine kept_sitState (hm.sub rfl) ?_
    refine Kept.setF (hm.bit 1 rfl) (reach_SIT_EPOCH_CTRL (hm.bit 84 rfl)) ?_
    refine Kept.setF (hm.bit 1 rfl) (reach_GLB_EPOCH (hm.bit 66 rfl)) ?_
    exact h0
  (clear_value v20; revert v20; refine Kept.seal ?_; intro v20 h21)
  refine kept_setEpoch (hm.sub rfl) ?_
  refine Kept.setF (hm.bit 1 rfl) (reach_SIT_STATUS (hm.bit 81 rfl)) ?_
  exact h21

theorem kept_epochRollback {s : State} (hm : Within 0x7200000000000000010700000001200040000109a00040b02 M) (h0 : Kept M s0 s) :
    Kept M s0 (State.epochRollback s) := by
  unfold State.epochRollback
  refine kept_epochNotices (hm.sub rfl) ?_
  refine kept_sitError (hm.sub rfl) ?_
  refine kept_changeEnds (hm.sub rfl) ?_
  exact h0

theorem kept_epochAbandon {s : State} (hm : Within 0x7200000000000000010700000001200040000109a00040b02 M) (h0 : Kept M s0 s) :
    Kept M s0 (State.epochAbandon s) := by
  unfold State.epochAbandon
  refine kept_ite ?_ ?_
  · refine kept_epochRollback (hm.sub rfl) ?_
    exact h0
  · exact h0

theorem kept_epochLaunch {s : State} (hm : Within 0x7200000000000000010700000003200040000109a00040b02 M) (h0 : Kept M s0 s) :
    Kept M s0 (State.epochLaunch s) := by
  unfold State.epochLaunch
  refine kept_ite ?_ ?_
  · exact h0
  · extract_lets -underBinder +onlyGivenNames v20
    (clear_value v20; revert v20; refine Kept.seal ?_; intro v20)
    extract_lets -underBinder +onlyGivenNames v21
    have h22 : Kept M s0 v21 := by
      unfold v21
      refine kept_sitState (hm.sub rfl) ?_
      refine Kept.setF (hm.bit 1 rfl) (reach_SIT_EPOCH_UNITS (hm.bit 85 rfl)) ?_
      exact h0
    (clear_value v21; revert v21; refine Kept.seal ?_; intro v21 h22)
    extract_lets -underBinder +onlyGivenNames v23
    (clear_value v23; revert v23; refine Kept.seal ?_; intro v23)
    extract_lets -underBinder +onlyGivenNames v24
    (clear_value v24; revert v24; refine Kept.seal ?_; intro v24)
    extract_lets -underBinder +onlyGivenNames v25
    have h26 : Kept M s0 v25 := by
      unfold v25
      refine kept_setEpoch (hm.sub rfl) ?_
      exact h22
    (clear_value v25; revert v25; refine Kept.seal ?_; intro v25 h26)
    (generalize q28 : (v25.notDrained v23.str) = x27; revert x27; refine Kept.seal ?_; intro x27 q28)
    (generalize q30 : (v25.oversubscribed v23.str) = x29; revert x29; refine Kept.seal ?_; intro x29 q30)
    split
    · rename_i w31 w32 w33
      refine kept_epochRollback (hm.sub rfl) ?_
      refine kept_ledger (hm.sub rfl) ?_
      exact h26
    · rename_i w34 w35 w36
      refine kept_epochRollback (hm.sub rfl) ?_
      refine kept_ledger (hm.sub rfl) ?_
      exact h26
    · rename_i w37 w38
      refine kept_ite ?_ ?_
      · refine kept_setEpoch (hm.sub rfl) ?_
        refine kept_sitState (hm.sub rfl) ?_
        exact h26
      · exact h26

theorem kept_epochAck {s : State} {u : ℕ} (hm : Within 0x4200000000000000000102 M) (h0 : Kept M s0 s) :
    Kept M s0 (State.epochAck s u) := by
  unfold State.epochAck
  refine kept_ite ?_ ?_
  · refine kept_epochGathered (hm.sub rfl) ?_
    refine Kept.setBit (hm.bit 1 rfl) (reach_SIT_EPOCH_ACKED (hm.bit 86 rfl)) ?_
    exact h0
  · exact h0

theorem kept_epochRefusal {s : State} {u : ℕ} (hm : Within 0x7200000000000000010700000001200040000109a00040b02 M) (h0 : Kept M s0 s) :
    Kept M s0 (State.epochRefusal s u) := by
  unfold State.epochRefusal
  refine kept_ite ?_ ?_
  · refine kept_epochRollback (hm.sub rfl) ?_
    exact h0
  · exact h0

theorem kept_epochTimeout {s : State} (hm : Within 0x7200000000000000010700000001200040000109a00040b02 M) (h0 : Kept M s0 s) :
    Kept M s0 (State.epochTimeout s) := by
  unfold State.epochTimeout
  refine kept_ite ?_ ?_
  · refine kept_epochRollback (hm.sub rfl) ?_
    exact h0
  · exact h0

theorem kept_structureCommits {s : State} {old : Structure} {new : Structure} (hm : Within 0x10803c000049240042400000008157a0802020f20000019070001f82321800800018bad91e1ffe M) (h0 : Kept M s0 s) :
    Kept M s0 (State.structureCommits s old new) := by
  unfold State.structureCommits
  extract_lets -underBinder +onlyGivenNames v20
  (clear_value v20; revert v20; refine Kept.seal ?_; intro v20)
  extract_lets -underBinder +onlyGivenNames v21
  have h22 : Kept M s0 v21 := by
    unfold v21
    refine kept_forEach ?_ ?_
    · intro y23 y24 h25
      refine kept_flushDirect (hm.sub rfl) ?_
      exact h25
    · exact h0
  (clear_value v21; revert v21; refine Kept.seal ?_; intro v21 h22)
  extract_lets -underBinder +onlyGivenNames v26
  have h27 : Kept M s0 v26 := by
    unfold v26
    refine kept_applyQuarantine (hm.sub rfl) ?_
    refine kept_applyStructure (hm.sub rfl) ?_
    exact h22
  (clear_value v26; revert v26; refine Kept.seal ?_; intro v26 h27)
  extract_lets -underBinder +onlyGivenNames v28
  have h29 : Kept M s0 v28 := by
    unfold v28
    refine kept_forEach ?_ ?_
    · intro y30 y31 h32
      refine kept_keepSplit (hm.sub rfl) ?_
      refine kept_changeRole (hm.sub rfl) ?_
      exact h32
    · exact h27
  (clear_value v28; revert v28; refine Kept.seal ?_; intro v28 h29)
  extract_lets -underBinder +onlyGivenNames v33
  have h34 : Kept M s0 v33 := by
    unfold v33
    refine kept_forEach ?_ ?_
    · intro y35 y36 h37
      refine kept_portCommit (hm.sub rfl) ?_
      exact h37
    · exact h29
  (clear_value v33; revert v33; refine Kept.seal ?_; intro v33 h34)
  extract_lets -underBinder +onlyGivenNames v38
  have h39 : Kept M s0 v38 := by
    unfold v38
    refine kept_applySums (hm.sub rfl) ?_
    refine kept_pairApply (hm.sub rfl) ?_
    exact h34
  (clear_value v38; revert v38; refine Kept.seal ?_; intro v38 h39)
  refine kept_ite ?_ ?_
  · exact h39
  · refine Kept.in_pep (hm.bit 37 rfl) ?_ (Kept.seal) (Kept.seal) (Kept.seal)
    exact h39

theorem kept_epochCommit {s : State} (hm : Within 0x10803c000049240042400000008157a0802020f20000019070001f82321804800018bad91e1ffe M) (h0 : Kept M s0 s) :
    Kept M s0 (State.epochCommit s) := by
  unfold State.epochCommit
  (generalize q21 : (s.epoch.pending) = x20; revert x20; refine Kept.seal ?_; intro x20 q21)
  split
  · rename_i w22
    exact h0
  · rename_i w23 w24
    refine kept_ite ?_ ?_
    · exact h0
    · extract_lets -underBinder +onlyGivenNames v25
      (clear_value v25; revert v25; refine Kept.seal ?_; intro v25)
      extract_lets -underBinder +onlyGivenNames v26
      (clear_value v26; revert v26; refine Kept.seal ?_; intro v26)
      extract_lets -underBinder +onlyGivenNames v27
      (clear_value v27; revert v27; refine Kept.seal ?_; intro v27)
      extract_lets -underBinder +onlyGivenNames v28
      (clear_value v28; revert v28; refine Kept.seal ?_; intro v28)
      extract_lets -underBinder +onlyGivenNames v29
      (clear_value v29; revert v29; refine Kept.seal ?_; intro v29)
      extract_lets -underBinder +onlyGivenNames v30
      have h31 : Kept M s0 v30 := by
        unfold v30
        refine kept_setEpoch (hm.sub rfl) ?_
        exact h0
      (clear_value v30; revert v30; refine Kept.seal ?_; intro v30 h31)
      extract_lets -underBinder +onlyGivenNames v32
      have h33 : Kept M s0 v32 := by
        unfold v32
        split
        · rename_i w34 w35
          refine kept_structureCommits (hm.sub rfl) ?_
          refine kept_setDigest (hm.sub rfl) ?_
          exact h31
        · rename_i w36
          exact h31
      (clear_value v32; revert v32; refine Kept.seal ?_; intro v32 h33)
      extract_lets -underBinder +onlyGivenNames v37
      have h38 : Kept M s0 v37 := by
        unfold v37
        split
        · rename_i w39 w40
          refine kept_setDigest (hm.sub rfl) ?_
          exact h33
        · rename_i w41
          exact h33
      (clear_value v37; revert v37; refine Kept.seal ?_; intro v37 h38)
      extract_lets -underBinder +onlyGivenNames v42
      have h43 : Kept M s0 v42 := by
        unfold v42
        refine Kept.setF (hm.bit 1 rfl) (reach_SIT_STATUS (hm.bit 81 rfl)) ?_
        refine Kept.setF (hm.bit 1 rfl) (reach_GLB_EPOCH (hm.bit 66 rfl)) ?_
        exact h38
      (clear_value v42; revert v42; refine Kept.seal ?_; intro v42 h43)
      refine kept_epochNotices (hm.sub rfl) ?_
      refine kept_changeEnds (hm.sub rfl) ?_
      exact h43

theorem kept_releaseOld {s : State} (hm : Within 0x100 M) (h0 : Kept M s0 s) :
    Kept M s0 (State.releaseOld s) := by
  unfold State.releaseOld
  refine kept_setEpoch (hm.sub rfl) ?_
  exact h0

theorem kept_execSitLoad {src : Fin 4} {s : State} (hm : Within 0x7200000000000000010700000000240000000109a0004cb02 M) (h0 : Kept M s0 s) :
    KeptE M s0 (execSitLoad src s) := by
  unfold execSitLoad
  refine kepte_next ?_
  refine kept_sitLoad (hm.sub rfl) ?_
  exact h0

theorem kept_execImageLoadEnd {img : Bytes} {bad : List ℕ} {env : VaultEnv} {s : State} (hm : Within 0x80070000000200000000000700902020718c000191700000002740008000189b10fe037e M) (h0 : Kept M s0 s) :
    KeptE M s0 (execImageLoadEnd img bad env s) := by
  unfold execImageLoadEnd
  refine kepte_next ?_
  refine kept_loadEnds (hm.sub rfl) ?_
  exact h0

theorem kept_execEpochGo {s : State} (hm : Within 0x7000000000000000010700000007200040000109a00040302 M) (h0 : Kept M s0 s) :
    KeptE M s0 (execEpochGo s) := by
  unfold execEpochGo
  refine kepte_next ?_
  refine kept_epochGo (hm.sub rfl) ?_
  exact h0

theorem kept_execEpochAbandon {s : State} (hm : Within 0x7200000000000000010700000001200040000109a00040b02 M) (h0 : Kept M s0 s) :
    KeptE M s0 (execEpochAbandon s) := by
  unfold execEpochAbandon
  refine kepte_next ?_
  refine kept_epochAbandon (hm.sub rfl) ?_
  exact h0

theorem kept_execEpochLaunch {s : State} (hm : Within 0x7200000000000000010700000003200040000109a00040b02 M) (h0 : Kept M s0 s) :
    KeptE M s0 (execEpochLaunch s) := by
  unfold execEpochLaunch
  refine kepte_next ?_
  refine kept_epochLaunch (hm.sub rfl) ?_
  exact h0

theorem kept_execEpochAck {unit : Fin 47} {s : State} (hm : Within 0x4200000000000000000102 M) (h0 : Kept M s0 s) :
    KeptE M s0 (execEpochAck unit s) := by
  unfold execEpochAck
  refine kepte_next ?_
  refine kept_epochAck (hm.sub rfl) ?_
  exact h0

theorem kept_execEpochRefusal {unit : Fin 47} {s : State} (hm : Within 0x7200000000000000010700000001200040000109a00040b02 M) (h0 : Kept M s0 s) :
    KeptE M s0 (execEpochRefusal unit s) := by
  unfold execEpochRefusal
  refine kepte_next ?_
  refine kept_epochRefusal (hm.sub rfl) ?_
  exact h0

theorem kept_execEpochCommit {s : State} (hm : Within 0x10803c000049240042400000008157a0802020f20000019070001f82321804800018bad91e1ffe M) (h0 : Kept M s0 s) :
    KeptE M s0 (execEpochCommit s) := by
  unfold execEpochCommit
  refine kepte_next ?_
  refine kept_epochCommit (hm.sub rfl) ?_
  exact h0

theorem kept_execEpochTimeout {s : State} (hm : Within 0x7200000000000000010700000001200040000109a00040b02 M) (h0 : Kept M s0 s) :
    KeptE M s0 (execEpochTimeout s) := by
  unfold execEpochTimeout
  refine kepte_next ?_
  refine kept_epochTimeout (hm.sub rfl) ?_
  exact h0

theorem kept_execOldSetRelease {s : State} (hm : Within 0x100 M) (h0 : Kept M s0 s) :
    KeptE M s0 (execOldSetRelease s) := by
  unfold execOldSetRelease
  refine kepte_next ?_
  refine kept_releaseOld (hm.sub rfl) ?_
  exact h0

end Sys2Proof.Machine
end

