-- ==== Sys2Proof/Laws/Kept/PepCfg.lean ====
section
/-! SUPPORT. What the operations of PepCfg may write: each keeps its footprint. -/

namespace Sys2Proof.Machine

variable {M : Nat} {s0 : State}

theorem kept_setCfgByte {s : State} {off : ℕ} {b : Byte} (hm : Within 0x2000000000 M) (h0 : Kept M s0 s) :
    Kept M s0 (State.setCfgByte s off b) := by
  unfold State.setCfgByte
  refine Kept.in_pep (hm.bit 37 rfl) ?_ (Sparse.wf_put) (Kept.seal) (Kept.seal)
  exact h0

theorem kept_dmaForget {s : State} {c : ℕ} (hm : Within 0x1000 M) (h0 : Kept M s0 s) :
    Kept M s0 (State.dmaForget s c) := by
  unfold State.dmaForget
  refine Kept.in_opens (hm.bit 12 rfl) ?_ (fresh_map (fun o => by (try dsimp only); split <;> first | rfl | (split <;> rfl)))
  exact h0

theorem kept_dmaAbort {s : State} {c : ℕ} (hm : Within 0x240000700000000000000001070000000000000000010ba00041202 M) (h0 : Kept M s0 s) :
    Kept M s0 (State.dmaAbort s c) := by
  unfold State.dmaAbort
  extract_lets -underBinder +onlyGivenNames v20
  (clear_value v20; revert v20; refine Kept.seal ?_; intro v20)
  (generalize q22 : (v20.desc) = x21; revert x21; refine Kept.seal ?_; intro x21 q22)
  split
  · rename_i w23
    exact h0
  · rename_i w24 w25
    extract_lets -underBinder +onlyGivenNames v26
    (clear_value v26; revert v26; refine Kept.seal ?_; intro v26)
    extract_lets -underBinder +onlyGivenNames v27
    have h28 : Kept M s0 v27 := by
      unfold v27
      refine kept_setDma (hm.sub rfl) ?_
      refine kept_dmaForget (hm.sub rfl) ?_
      exact h0
    (clear_value v27; revert v27; refine Kept.seal ?_; intro v27 h28)
    extract_lets -underBinder +onlyGivenNames v29
    have h30 : Kept M s0 v29 := by
      unfold v29
      refine Kept.setF (hm.bit 1 rfl) (reach_PEP_DMA_STS (hm.bit 217 rfl)) ?_
      refine Kept.setF (hm.bit 1 rfl) (reach_PEP_DMA_STS (hm.bit 217 rfl)) ?_
      exact h28
    (clear_value v29; revert v29; refine Kept.seal ?_; intro v29 h30)
    extract_lets -underBinder +onlyGivenNames v31
    have h32 : Kept M s0 v31 := by
      unfold v31
      refine kept_ite ?_ ?_
      · refine Kept.setF (hm.bit 1 rfl) (reach_PEP_DMA_STS (hm.bit 217 rfl)) ?_
        exact h30
      · exact h30
    (clear_value v31; revert v31; refine Kept.seal ?_; intro v31 h32)
    refine kept_ledger (hm.sub rfl) ?_
    refine Kept.setF (hm.bit 1 rfl) (reach_PEP_DMA_CFG (hm.bit 214 rfl)) ?_
    exact h32

theorem kept_dmaStatus {s : State} {c : ℕ} {index : ℕ} {status : ℕ} (hm : Within 0x100000000000 M) (h0 : Kept M s0 s) :
    Kept M s0 (State.dmaStatus s c index status) := by
  unfold State.dmaStatus
  refine kept_emit (hm.sub rfl) ?_
  exact h0

theorem kept_dmaFlush {s : State} {c : ℕ} (hm : Within 0x1000000000000000000000000000000000000000000102000000002 M) (h0 : Kept M s0 s) :
    Kept M s0 (State.dmaFlush s c) := by
  unfold State.dmaFlush
  extract_lets -underBinder +onlyGivenNames v20
  (clear_value v20; revert v20; refine Kept.seal ?_; intro v20)
  refine kept_ite ?_ ?_
  · extract_lets -underBinder +onlyGivenNames v21
    have h22 : Kept M s0 v21 := by
      unfold v21
      refine kept_forEach ?_ ?_
      · intro y23 y24 h25
        refine kept_dmaStatus (hm.sub rfl) ?_
        exact h25
      · exact h0
    (clear_value v21; revert v21; refine Kept.seal ?_; intro v21 h22)
    extract_lets -underBinder +onlyGivenNames v26
    have h27 : Kept M s0 v26 := by
      unfold v26
      refine Kept.setF (hm.bit 1 rfl) (reach_PEP_DMA_HEAD (hm.bit 216 rfl)) ?_
      exact h22
    (clear_value v26; revert v26; refine Kept.seal ?_; intro v26 h27)
    refine kept_setDma (hm.sub rfl) ?_
    exact h27
  · exact h0

theorem kept_dmaEnable {s : State} {c : ℕ} (hm : Within 0x1400000000000000000000000000000000000000000102000000002 M) (h0 : Kept M s0 s) :
    Kept M s0 (State.dmaEnable s c) := by
  unfold State.dmaEnable
  refine kept_dmaFlush (hm.sub rfl) ?_
  refine Kept.setF (hm.bit 1 rfl) (reach_PEP_DMA_CFG (hm.bit 214 rfl)) ?_
  exact h0

theorem kept_upstreamStops {s : State} (hm : Within 0x240000700000000000000001070000000024000000010ba00041302 M) (h0 : Kept M s0 s) :
    Kept M s0 (State.upstreamStops s) := by
  unfold State.upstreamStops
  refine kept_hostLoadFails (hm.sub rfl) ?_
  refine kept_forEach ?_ ?_
  · intro y20 y21 h22
    refine kept_dmaAbort (hm.sub rfl) ?_
    exact h22
  · exact h0

theorem kept_setBme {s : State} {on : Bool} (hm : Within 0x240040700000000000000001070000000024000000010ba00041302 M) (h0 : Kept M s0 s) :
    Kept M s0 (State.setBme s on) := by
  unfold State.setBme
  extract_lets -underBinder +onlyGivenNames v20
  (clear_value v20; revert v20; refine Kept.seal ?_; intro v20)
  extract_lets -underBinder +onlyGivenNames v21
  (clear_value v21; revert v21; refine Kept.seal ?_; intro v21)
  extract_lets -underBinder +onlyGivenNames v22
  have h23 : Kept M s0 v22 := by
    unfold v22
    refine kept_setCfgByte (hm.sub rfl) ?_
    exact h0
  (clear_value v22; revert v22; refine Kept.seal ?_; intro v22 h23)
  extract_lets -underBinder +onlyGivenNames v24
  have h25 : Kept M s0 v24 := by
    unfold v24
    refine Kept.setF (hm.bit 1 rfl) (reach_PEP_STS (hm.bit 202 rfl)) ?_
    exact h23
  (clear_value v24; revert v24; refine Kept.seal ?_; intro v24 h25)
  refine kept_ite ?_ ?_
  · refine kept_upstreamStops (hm.sub rfl) ?_
    exact h25
  · exact h25

theorem kept_setPower {s : State} {d3 : Bool} (hm : Within 0x240040700000000000000001070000000024000000010ba00041302 M) (h0 : Kept M s0 s) :
    Kept M s0 (State.setPower s d3) := by
  unfold State.setPower
  refine kept_ite ?_ ?_
  · refine kept_ite ?_ ?_
    · exact h0
    · refine kept_upstreamStops (hm.sub rfl) ?_
      refine Kept.setF (hm.bit 1 rfl) (reach_PEP_STS (hm.bit 202 rfl)) ?_
      exact h0
  · refine Kept.setF (hm.bit 1 rfl) (reach_PEP_STS (hm.bit 202 rfl)) ?_
    exact h0

theorem kept_cfgWriteByte {s : State} {off : ℕ} {b : Byte} (hm : Within 0x240040700000000000000001070000000024000000010ba00041302 M) (h0 : Kept M s0 s) :
    Kept M s0 (State.cfgWriteByte s off b) := by
  unfold State.cfgWriteByte
  extract_lets -underBinder +onlyGivenNames v20
  (clear_value v20; revert v20; refine Kept.seal ?_; intro v20)
  extract_lets -underBinder +onlyGivenNames v21
  (clear_value v21; revert v21; refine Kept.seal ?_; intro v21)
  refine kept_ite ?_ ?_
  · refine kept_setBme (hm.sub rfl) ?_
    refine kept_setCfgByte (hm.sub rfl) ?_
    exact h0
  · refine kept_setCfgByte (hm.sub rfl) ?_
    exact h0

theorem kept_cfgRead {s : State} {off : ℕ} (hm : Within 0x180000000000 M) (h0 : Kept M s0 s) :
    Kept M s0 (State.cfgRead s off) := by
  unfold State.cfgRead
  extract_lets -underBinder +onlyGivenNames v20
  (clear_value v20; revert v20; refine Kept.seal ?_; intro v20)
  refine kept_ite ?_ ?_
  · refine kept_emit (hm.sub rfl) ?_
    exact h0
  · refine kept_emit (hm.sub rfl) ?_
    refine kept_bump (hm.sub rfl) ?_
    exact h0

theorem kept_configAccess {s : State} {x : CfgAccess} (hm : Within 0x240040700000000000000001070000000024008800018ba00041302 M) (h0 : Kept M s0 s) :
    Kept M s0 (State.configAccess s x) := by
  unfold State.configAccess
  split
  · rename_i w20 w21
    refine kept_cfgRead (hm.sub rfl) ?_
    exact h0
  · rename_i w22 w23 w24
    refine kept_foldl ?_ ?_
    · intro y25 y26 h27
      refine kept_ite ?_ ?_
      · refine kept_cfgWriteByte (hm.sub rfl) ?_
        exact h27
      · exact h27
    · exact h0
  · rename_i w28 w29 w30
    refine Kept.in_pep (hm.bit 37 rfl) ?_ (Kept.seal) (Kept.seal) (Kept.seal)
    exact h0
  · rename_i w31 w32 w33
    refine kept_ite ?_ ?_
    · refine kept_endpointReset (hm.sub rfl) ?_
      exact h0
    · refine Kept.in_pep (hm.bit 37 rfl) ?_ (Kept.seal) (Kept.seal) (Kept.seal)
      exact h0
  · rename_i w34 w35 w36
    refine Kept.in_pep (hm.bit 37 rfl) ?_ (Kept.seal) (Kept.seal) (Kept.seal)
    exact h0
  · rename_i w37 w38
    refine kept_setPower (hm.sub rfl) ?_
    exact h0

theorem kept_l1Entry {s : State} (hm : Within 0x400000000000000000000000000000000000000000000000002 M) (h0 : Kept M s0 s) :
    Kept M s0 (State.l1Entry s) := by
  unfold State.l1Entry
  refine kept_ite ?_ ?_
  · refine Kept.setF (hm.bit 1 rfl) (reach_PEP_STS (hm.bit 202 rfl)) ?_
    exact h0
  · exact h0

theorem kept_l1Exit {s : State} (hm : Within 0x400000000000000000000000000000000000000000000000002 M) (h0 : Kept M s0 s) :
    Kept M s0 (State.l1Exit s) := by
  unfold State.l1Exit
  refine kept_ite ?_ ?_
  · refine Kept.setF (hm.bit 1 rfl) (reach_PEP_STS (hm.bit 202 rfl)) ?_
    exact h0
  · exact h0

theorem kept_l0pNarrow {s : State} (hm : Within 0x400000000000000000000000000000000000000000000000002 M) (h0 : Kept M s0 s) :
    Kept M s0 (State.l0pNarrow s) := by
  unfold State.l0pNarrow
  refine kept_ite ?_ ?_
  · refine Kept.setF (hm.bit 1 rfl) (reach_PEP_STS (hm.bit 202 rfl)) ?_
    refine Kept.setF (hm.bit 1 rfl) (reach_PEP_STS (hm.bit 202 rfl)) ?_
    exact h0
  · exact h0

theorem kept_l0pWiden {s : State} (hm : Within 0x400000000000000000000000000000000000000000000000002 M) (h0 : Kept M s0 s) :
    Kept M s0 (State.l0pWiden s) := by
  unfold State.l0pWiden
  refine kept_ite ?_ ?_
  · refine Kept.setF (hm.bit 1 rfl) (reach_PEP_STS (hm.bit 202 rfl)) ?_
    refine Kept.setF (hm.bit 1 rfl) (reach_PEP_STS (hm.bit 202 rfl)) ?_
    exact h0
  · exact h0

theorem kept_pepLinkUp {s : State} {speed : ℕ} {width : ℕ} {cxl : Bool} (hm : Within 0x400000000000000000000000000000000000000002000000002 M) (h0 : Kept M s0 s) :
    Kept M s0 (State.pepLinkUp s speed width cxl) := by
  unfold State.pepLinkUp
  extract_lets -underBinder +onlyGivenNames v20
  (clear_value v20; revert v20; refine Kept.seal ?_; intro v20)
  refine kept_ite ?_ ?_
  · exact h0
  · extract_lets -underBinder +onlyGivenNames v21
    have h22 : Kept M s0 v21 := by
      unfold v21
      refine Kept.setF (hm.bit 1 rfl) (reach_PEP_STS (hm.bit 202 rfl)) ?_
      refine Kept.setF (hm.bit 1 rfl) (reach_PEP_STS (hm.bit 202 rfl)) ?_
      exact h0
    (clear_value v21; revert v21; refine Kept.seal ?_; intro v21 h22)
    extract_lets -underBinder +onlyGivenNames v23
    have h24 : Kept M s0 v23 := by
      unfold v23
      refine Kept.setF (hm.bit 1 rfl) (reach_PEP_STS (hm.bit 202 rfl)) ?_
      refine Kept.setF (hm.bit 1 rfl) (reach_PEP_STS (hm.bit 202 rfl)) ?_
      exact h22
    (clear_value v23; revert v23; refine Kept.seal ?_; intro v23 h24)
    refine Kept.in_pep (hm.bit 37 rfl) ?_ (Kept.seal) (Kept.seal) (Kept.seal)
    exact h24

theorem kept_msixSend {s : State} {v : ℕ} (hm : Within 0x108000000000 M) (h0 : Kept M s0 s) :
    Kept M s0 (State.msixSend s v) := by
  unfold State.msixSend
  extract_lets -underBinder +onlyGivenNames v20
  (clear_value v20; revert v20; refine Kept.seal ?_; intro v20)
  refine kept_ite ?_ ?_
  · refine kept_emit (hm.sub rfl) ?_
    refine Kept.in_irq (hm.bit 39 rfl) ?_
    exact h0
  · exact h0

theorem kept_setBar4Word {s : State} {off : ℕ} {v : ℕ} (hm : Within 0x2000000000 M) (h0 : Kept M s0 s) :
    Kept M s0 (State.setBar4Word s off v) := by
  unfold State.setBar4Word
  refine kept_ite ?_ ?_
  · extract_lets -underBinder +onlyGivenNames v20
    (clear_value v20; revert v20; refine Kept.seal ?_; intro v20)
    extract_lets -underBinder +onlyGivenNames v21
    (clear_value v21; revert v21; refine Kept.seal ?_; intro v21)
    refine Kept.in_pep (hm.bit 37 rfl) ?_ (Kept.seal) (Sparse.wf_put) (Kept.seal)
    exact h0
  · exact h0

theorem kept_winCommit {s : State} (hm : Within 0x181000000000000000000000000000000000000000002000000002 M) (h0 : Kept M s0 s) :
    Kept M s0 (State.winCommit s) := by
  unfold State.winCommit
  refine kept_ite ?_ ?_
  · exact h0
  · refine kept_ite ?_ ?_
    · refine Kept.setF (hm.bit 1 rfl) (reach_PEP_WIN_COMMIT (hm.bit 204 rfl)) ?_
      exact h0
    · extract_lets -underBinder +onlyGivenNames v20
      (clear_value v20; revert v20; refine Kept.seal ?_; intro v20)
      extract_lets -underBinder +onlyGivenNames v21
      have h22 : Kept M s0 v21 := by
        unfold v21
        refine kept_forEach ?_ ?_
        · intro y23 y24 h25
          refine Kept.setReg (hm.bit 1 rfl) (reach_PEP_WIN_ACT_CTL (hm.bit 212 rfl)) ?_
          refine Kept.setReg (hm.bit 1 rfl) (reach_PEP_WIN_ACT_BASE (hm.bit 211 rfl)) ?_
          exact h25
        · exact h0
      (clear_value v21; revert v21; refine Kept.seal ?_; intro v21 h22)
      extract_lets -underBinder +onlyGivenNames v26
      have h27 : Kept M s0 v26 := by
        unfold v26
        refine Kept.setF (hm.bit 1 rfl) (reach_PEP_WIN_COMMIT (hm.bit 204 rfl)) ?_
        refine Kept.setF (hm.bit 1 rfl) (reach_PEP_WIN_COMMIT (hm.bit 204 rfl)) ?_
        exact h22
      (clear_value v26; revert v26; refine Kept.seal ?_; intro v26 h27)
      refine Kept.in_pep (hm.bit 37 rfl) ?_ (Kept.seal) (Kept.seal) (Kept.seal)
      exact h27

theorem kept_winCommitDone {s : State} (hm : Within 0x1000000000000000000000000000000000000000002000000002 M) (h0 : Kept M s0 s) :
    Kept M s0 (State.winCommitDone s) := by
  unfold State.winCommitDone
  refine kept_ite ?_ ?_
  · exact h0
  · extract_lets -underBinder +onlyGivenNames v20
    have h21 : Kept M s0 v20 := by
      unfold v20
      refine Kept.addF (hm.bit 1 rfl) (reach_PEP_WIN_COMMIT (hm.bit 204 rfl)) ?_
      refine Kept.setF (hm.bit 1 rfl) (reach_PEP_WIN_COMMIT (hm.bit 204 rfl)) ?_
      exact h0
    (clear_value v20; revert v20; refine Kept.seal ?_; intro v20 h21)
    refine Kept.in_pep (hm.bit 37 rfl) ?_ (Kept.seal) (Kept.seal) (Kept.seal)
    exact h21

theorem kept_hdmCommit {s : State} {i : ℕ} {base : ℕ} {size : ℕ} {ways : ℕ} {gran : ℕ} {place : ℕ} (hm : Within 0x2000000000 M) (h0 : Kept M s0 s) :
    Kept M s0 (State.hdmCommit s i base size ways gran place) := by
  unfold State.hdmCommit
  extract_lets -underBinder +onlyGivenNames v20
  (clear_value v20; revert v20; refine Kept.seal ?_; intro v20)
  extract_lets -underBinder +onlyGivenNames v21
  (clear_value v21; revert v21; refine Kept.seal ?_; intro v21)
  extract_lets -underBinder +onlyGivenNames v22
  (clear_value v22; revert v22; refine Kept.seal ?_; intro v22)
  extract_lets -underBinder +onlyGivenNames v23
  (clear_value v23; revert v23; refine Kept.seal ?_; intro v23)
  refine Kept.in_pep (hm.bit 37 rfl) ?_ (Kept.seal) (Kept.seal) (Kept.seal)
  exact h0

theorem kept_mailbox {s : State} {op : ℕ} {payload : Bytes} (hm : Within 0x180000000000 M) (h0 : Kept M s0 s) :
    Kept M s0 (State.mailbox s op payload) := by
  unfold State.mailbox
  refine kept_ite ?_ ?_
  · refine kept_emit (hm.sub rfl) ?_
    refine kept_bump (hm.sub rfl) ?_
    exact h0
  · refine kept_emit (hm.sub rfl) ?_
    exact h0

theorem kept_execConfigAccess {x : CfgAccess} {s : State} (hm : Within 0x240040700000000000000001070000000024008800018ba00041302 M) (h0 : Kept M s0 s) :
    KeptE M s0 (execConfigAccess x s) := by
  unfold execConfigAccess
  refine kepte_next ?_
  refine kept_configAccess (hm.sub rfl) ?_
  exact h0

theorem kept_execBmeClear {s : State} (hm : Within 0x240040700000000000000001070000000024000000010ba00041302 M) (h0 : Kept M s0 s) :
    KeptE M s0 (execBmeClear s) := by
  unfold execBmeClear
  refine kepte_next ?_
  refine kept_setBme (hm.sub rfl) ?_
  exact h0

theorem kept_execDmaReenable {c : Fin 4} {s : State} (hm : Within 0x1400000000000000000000000000000000000000000102000000002 M) (h0 : Kept M s0 s) :
    KeptE M s0 (execDmaReenable c s) := by
  unfold execDmaReenable
  refine kepte_next ?_
  refine kept_dmaEnable (hm.sub rfl) ?_
  exact h0

theorem kept_execEndpointReset {kind : EndpointKind} {s : State} (hm : Within 0x40700000000000000001070000000024008800010ba00041302 M) (h0 : Kept M s0 s) :
    KeptE M s0 (execEndpointReset kind s) := by
  unfold execEndpointReset
  refine kepte_next ?_
  refine kept_endpointReset (hm.sub rfl) ?_
  exact h0

theorem kept_execEndpointLinkUp {speed : Fin 5} {width : Fin 5} {cxl : Bool} {s : State} (hm : Within 0x400000000000000000000000000000000000000002000000002 M) (h0 : Kept M s0 s) :
    KeptE M s0 (execEndpointLinkUp speed width cxl s) := by
  unfold execEndpointLinkUp
  refine kepte_next ?_
  refine kept_pepLinkUp (hm.sub rfl) ?_
  exact h0

theorem kept_execMsixSend {v : Fin 256} {s : State} (hm : Within 0x108000000000 M) (h0 : Kept M s0 s) :
    KeptE M s0 (execMsixSend v s) := by
  unfold execMsixSend
  refine kepte_next ?_
  refine kept_msixSend (hm.sub rfl) ?_
  exact h0

theorem kept_execL1Entry {s : State} (hm : Within 0x400000000000000000000000000000000000000000000000002 M) (h0 : Kept M s0 s) :
    KeptE M s0 (execL1Entry s) := by
  unfold execL1Entry
  refine kepte_next ?_
  refine kept_l1Entry (hm.sub rfl) ?_
  exact h0

theorem kept_execL1Exit {s : State} (hm : Within 0x400000000000000000000000000000000000000000000000002 M) (h0 : Kept M s0 s) :
    KeptE M s0 (execL1Exit s) := by
  unfold execL1Exit
  refine kepte_next ?_
  refine kept_l1Exit (hm.sub rfl) ?_
  exact h0

theorem kept_execL0pNarrow {s : State} (hm : Within 0x400000000000000000000000000000000000000000000000002 M) (h0 : Kept M s0 s) :
    KeptE M s0 (execL0pNarrow s) := by
  unfold execL0pNarrow
  refine kepte_next ?_
  refine kept_l0pNarrow (hm.sub rfl) ?_
  exact h0

theorem kept_execL0pWiden {s : State} (hm : Within 0x400000000000000000000000000000000000000000000000002 M) (h0 : Kept M s0 s) :
    KeptE M s0 (execL0pWiden s) := by
  unfold execL0pWiden
  refine kepte_next ?_
  refine kept_l0pWiden (hm.sub rfl) ?_
  exact h0

theorem kept_execD3hotEntry {s : State} (hm : Within 0x240040700000000000000001070000000024000000010ba00041302 M) (h0 : Kept M s0 s) :
    KeptE M s0 (execD3hotEntry s) := by
  unfold execD3hotEntry
  refine kepte_next ?_
  refine kept_setPower (hm.sub rfl) ?_
  exact h0

theorem kept_execWinCommit {s : State} (hm : Within 0x181000000000000000000000000000000000000000002000000002 M) (h0 : Kept M s0 s) :
    KeptE M s0 (execWinCommit s) := by
  unfold execWinCommit
  refine kepte_next ?_
  refine kept_winCommit (hm.sub rfl) ?_
  exact h0

theorem kept_execWinCommitDone {s : State} (hm : Within 0x1000000000000000000000000000000000000000002000000002 M) (h0 : Kept M s0 s) :
    KeptE M s0 (execWinCommitDone s) := by
  unfold execWinCommitDone
  refine kepte_next ?_
  refine kept_winCommitDone (hm.sub rfl) ?_
  exact h0

theorem kept_execHdmCommit {i : Fin 4} {base : W64} {size : W64} {ways : Fin 16} {gran : Fin 16} {place : Fin 16} {s : State} (hm : Within 0x2000000000 M) (h0 : Kept M s0 s) :
    KeptE M s0 (execHdmCommit i base size ways gran place s) := by
  unfold execHdmCommit
  refine kepte_next ?_
  refine kept_hdmCommit (hm.sub rfl) ?_
  exact h0

theorem kept_execMailboxCommand {op : W16} {payload : Bytes} {s : State} (hm : Within 0x180000000000 M) (h0 : Kept M s0 s) :
    KeptE M s0 (execMailboxCommand op payload s) := by
  unfold execMailboxCommand
  refine kepte_next ?_
  refine kept_mailbox (hm.sub rfl) ?_
  exact h0

end Sys2Proof.Machine
end

