-- ==== Sys2Proof/Laws/Kept/Control.lean ====
section
/-! SUPPORT. What the operations of Control may write: each keeps its footprint. -/

namespace Sys2Proof.Machine

variable {M : Nat} {s0 : State}

theorem kept_writeFields {s : State} {d : RegDesc} {w : RegWrite} (hm : Within 0x200000000000000000000000000000008000000000000002 M) (h0 : Kept M s0 s) :
    Kept M s0 (State.writeFields s d w) := by
  unfold State.writeFields
  extract_lets -underBinder +onlyGivenNames v20
  (clear_value v20; revert v20; refine Kept.seal ?_; intro v20)
  extract_lets -underBinder +onlyGivenNames v21
  (clear_value v21; revert v21; refine Kept.seal ?_; intro v21)
  refine kept_ite ?_ ?_
  · refine kept_ite ?_ ?_
    · refine Kept.setReg (hm.bit 1 rfl) (.inl (hm.bit 63 rfl)) ?_
      exact h0
    · exact h0
  · refine kept_ite ?_ ?_
    · extract_lets -underBinder +onlyGivenNames v22
      have h23 : Kept M s0 v22 := by
        unfold v22
        refine kept_ite ?_ ?_
        · refine Kept.setF (hm.bit 1 rfl) (reach_JX_TOKENS (hm.bit 189 rfl)) h0
        · exact h0
      (clear_value v22; revert v22; refine Kept.seal ?_; intro v22 h23)
      refine kept_ite ?_ ?_
      · refine Kept.setF (hm.bit 1 rfl) (reach_JX_TOKENS (hm.bit 189 rfl)) h23
      · exact h23
    · refine Kept.setReg (hm.bit 1 rfl) (.inl (hm.bit 63 rfl)) ?_
      exact h0

theorem kept_slotCommand {s : State} (hm : Within 0x70000000001e0400010700000000000000000109b00240202 M) (h0 : Kept M s0 s) :
    Kept M s0 (State.slotCommand s) := by
  unfold State.slotCommand
  extract_lets -underBinder +onlyGivenNames v20
  (clear_value v20; revert v20; refine Kept.seal ?_; intro v20)
  (generalize q22 : (s.f Sys2Proof.F.MNT_SLOT_CMD_OP) = x21; revert x21; refine Kept.seal ?_; intro x21 q22)
  split
  · rename_i w23
    refine kept_slotLock (hm.sub rfl) ?_
    exact h0
  · rename_i w24
    refine kept_slotUnlock (hm.sub rfl) ?_
    exact h0
  · rename_i w25
    refine kept_slotRetire (hm.sub rfl) ?_
    exact h0
  · rename_i w26
    refine kept_slotActivate (hm.sub rfl) ?_
    exact h0
  · rename_i w27
    refine kept_slotInstall (hm.sub rfl) ?_
    exact h0
  · rename_i w28
    refine kept_slotClear (hm.sub rfl) ?_
    exact h0
  · rename_i w29 w30 w31 w32 w33 w34 w35
    refine kept_slotRefuse (hm.sub rfl) ?_
    exact h0

theorem kept_accCommand {s : State} (hm : Within 0x200000000000700902020700c000191700100000000000000189a15de027e M) (h0 : Kept M s0 s) :
    Kept M s0 (State.accCommand s) := by
  unfold State.accCommand
  extract_lets -underBinder +onlyGivenNames v20
  (clear_value v20; revert v20; refine Kept.seal ?_; intro v20)
  (generalize q22 : (s.f Sys2Proof.F.DET_ACC_CMD_OP) = x21; revert x21; refine Kept.seal ?_; intro x21 q22)
  split
  · rename_i w23
    refine kept_accSave (hm.sub rfl) ?_
    exact h0
  · rename_i w24
    refine kept_accRestore (hm.sub rfl) ?_
    exact h0
  · rename_i w25
    refine kept_accClear (hm.sub rfl) ?_
    exact h0
  · rename_i w26 w27 w28 w29
    exact h0

theorem kept_ckptCommand {s : State} (hm : Within 0x18100000000000000000000000000000000000000100002 M) (h0 : Kept M s0 s) :
    Kept M s0 (State.ckptCommand s) := by
  unfold State.ckptCommand
  extract_lets -underBinder +onlyGivenNames v20
  (clear_value v20; revert v20; refine Kept.seal ?_; intro v20)
  (generalize q22 : (s.f Sys2Proof.F.VLT_CKPT_CMD_OP) = x21; revert x21; refine Kept.seal ?_; intro x21 q22)
  split
  · rename_i w23
    refine kept_ckptArm (hm.sub rfl) ?_
    exact h0
  · rename_i w24
    refine kept_ckptMark (hm.sub rfl) ?_
    exact h0
  · rename_i w25
    refine kept_ckptClear (hm.sub rfl) ?_
    exact h0
  · rename_i w26 w27 w28 w29
    exact h0

theorem kept_pairCommand {s : State} (hm : Within 0x10802000004924004600000000800720902020708c00019170000000220000000018bbd9de1bfe M) (h0 : Kept M s0 s) :
    Kept M s0 (State.pairCommand s) := by
  unfold State.pairCommand
  (generalize q21 : (s.f Sys2Proof.F.PAIR_CMD_OP) = x20; revert x20; refine Kept.seal ?_; intro x20 q21)
  split
  · rename_i w22
    refine kept_pairSolo (hm.sub rfl) ?_
    exact h0
  · rename_i w23
    refine kept_pairDetach (hm.sub rfl) ?_
    exact h0
  · rename_i w24
    refine kept_pairRejoin (hm.sub rfl) ?_
    exact h0
  · rename_i w25
    refine kept_resetPartner (hm.sub rfl) ?_
    exact h0
  · rename_i w26 w27 w28 w29 w30
    exact h0

theorem kept_restoreCommand {s : State} (hm : Within 0x7000000000180400010700200000000000000109a00040202 M) (h0 : Kept M s0 s) :
    Kept M s0 (State.restoreCommand s) := by
  unfold State.restoreCommand
  refine kept_slotRestore (hm.sub rfl) ?_
  exact h0

theorem kept_setTellerStat {s : State} {i : ℕ} {v : W64} (hm : Within 0x200000000 M) (h0 : Kept M s0 s) :
    Kept M s0 (State.setTellerStat s i v) := by
  unfold State.setTellerStat
  extract_lets -underBinder +onlyGivenNames v20
  (clear_value v20; revert v20; refine Kept.seal ?_; intro v20)
  extract_lets -underBinder +onlyGivenNames v21
  (clear_value v21; revert v21; refine Kept.seal ?_; intro v21)
  extract_lets -underBinder +onlyGivenNames v22
  (clear_value v22; revert v22; refine Kept.seal ?_; intro v22)
  refine kept_setTeller (hm.sub rfl) ?_
  exact h0

theorem kept_when {s : State} {c : Bool} {g : State → State} (hm : Within 0x0 M) (h0 : Kept M s0 s) (h1 : ∀ c1_0, Kept M s0 c1_0 → Kept M s0 (g c1_0)) :
    Kept M s0 (State.when s c g) := by
  unfold State.when
  refine kept_ite ?_ ?_
  · refine h1 _ ?_
    exact h0
  · exact h0

theorem kept_actLow {s : State} {b : ℕ} {i : ℕ} {w : RegWrite} (hm : Within 0x18883c000049a50042400000008157a0903430738c40099171037f8272714ca00019bfffffdffe M) (h0 : Kept M s0 s) :
    Kept M s0 (State.actLow s b i w) := by
  unfold State.actLow
  refine kept_ite ?_ ?_
  · refine kept_when (hm.sub rfl) ?_ ?_
    · exact h0
    · intro y20 h21
      refine kept_softwareReset (hm.sub rfl) ?_
      exact h21
  · refine kept_ite ?_ ?_
    · refine kept_when (hm.sub rfl) ?_ ?_
      · exact h0
      · intro y22 h23
        refine kept_blockReset (hm.sub rfl) ?_
        exact h23
    · refine kept_ite ?_ ?_
      · refine kept_when (hm.sub rfl) ?_ ?_
        · exact h0
        · intro y24 h25
          refine kept_sitLoad (hm.sub rfl) ?_
          exact h25
      · refine kept_ite ?_ ?_
        · refine kept_when (hm.sub rfl) ?_ ?_
          · refine kept_when (hm.sub rfl) ?_ ?_
            · exact h0
            · intro y26 h27
              refine kept_epochGo (hm.sub rfl) ?_
              exact h27
          · intro y28 h29
            refine kept_epochAbandon (hm.sub rfl) ?_
            exact h29
        · refine kept_ite ?_ ?_
          · refine kept_when (hm.sub rfl) ?_ ?_
            · exact h0
            · intro y30 h31
              refine kept_setTellerStat (hm.sub rfl) ?_
              exact h31
          · refine kept_ite ?_ ?_
            · refine kept_when (hm.sub rfl) ?_ ?_
              · exact h0
              · intro y32 h33
                refine kept_setTellerStat (hm.sub rfl) ?_
                exact h33
            · refine kept_ite ?_ ?_
              · refine kept_when (hm.sub rfl) ?_ ?_
                · exact h0
                · intro y34 h35
                  refine kept_setTellerStat (hm.sub rfl) ?_
                  exact h35
              · refine kept_ite ?_ ?_
                · refine kept_when (hm.sub rfl) ?_ ?_
                  · exact h0
                  · intro y36 h37
                    refine kept_setTellerStat (hm.sub rfl) ?_
                    exact h37
                · refine kept_ite ?_ ?_
                  · refine kept_when (hm.sub rfl) ?_ ?_
                    · exact h0
                    · intro y38 h39
                      refine kept_accCommand (hm.sub rfl) ?_
                      exact h39
                  · refine kept_ite ?_ ?_
                    · refine kept_when (hm.sub rfl) ?_ ?_
                      · exact h0
                      · intro y40 h41
                        refine kept_restoreCommand (hm.sub rfl) ?_
                        exact h41
                    · refine kept_ite ?_ ?_
                      · refine kept_when (hm.sub rfl) ?_ ?_
                        · exact h0
                        · intro y42 h43
                          refine kept_stepInc (hm.sub rfl) ?_
                          exact h43
                      · refine kept_ite ?_ ?_
                        · refine kept_when (hm.sub rfl) ?_ ?_
                          · exact h0
                          · intro y44 h45
                            refine kept_headWrite (hm.sub rfl) ?_
                            exact h45
                        · refine kept_ite ?_ ?_
                          · refine kept_when (hm.sub rfl) ?_ ?_
                            · refine kept_when (hm.sub rfl) ?_ ?_
                              · exact h0
                              · intro y46 h47
                                refine kept_ceClear (hm.sub rfl) ?_
                                exact h47
                            · intro y48 h49
                              refine kept_ceClear (hm.sub rfl) ?_
                              exact h49
                          · refine kept_ite ?_ ?_
                            · refine kept_when (hm.sub rfl) ?_ ?_
                              · exact h0
                              · intro y50 h51
                                refine kept_flipArm (hm.sub rfl) ?_
                                exact h51
                            · refine kept_ite ?_ ?_
                              · refine kept_when (hm.sub rfl) ?_ ?_
                                · exact h0
                                · intro y52 h53
                                  refine kept_passNow (hm.sub rfl) ?_
                                  exact h53
                              · exact h0

theorem kept_actMid {s : State} {b : ℕ} {i : ℕ} {w : RegWrite} (hm : Within 0x108020000049240246202311589157b191202075ec40019170000000220000000018bbd9fe3ffe M) (h0 : Kept M s0 s) :
    Kept M s0 (State.actMid s b i w) := by
  unfold State.actMid
  refine kept_ite ?_ ?_
  · refine kept_when (hm.sub rfl) ?_ ?_
    · exact h0
    · intro y20 h21
      refine kept_slotCommand (hm.sub rfl) ?_
      exact h21
  · refine kept_ite ?_ ?_
    · extract_lets -underBinder +onlyGivenNames v22
      have h23 : Kept M s0 v22 := by
        unfold v22
        refine kept_when (hm.sub rfl) ?_ ?_
        · exact h0
        · intro y24 h25
          refine Kept.setF (hm.bit 1 rfl) (reach_CAN_CTRL (hm.bit 154 rfl)) ?_
          exact h25
      (clear_value v22; revert v22; refine Kept.seal ?_; intro v22 h23)
      extract_lets -underBinder +onlyGivenNames v26
      have h27 : Kept M s0 v26 := by
        unfold v26
        refine kept_when (hm.sub rfl) ?_ ?_
        · exact h23
        · intro y28 h29
          refine Kept.setF (hm.bit 1 rfl) (reach_CAN_CTRL (hm.bit 154 rfl)) ?_
          exact h29
      (clear_value v26; revert v26; refine Kept.seal ?_; intro v26 h27)
      refine kept_when (hm.sub rfl) ?_ ?_
      · exact h27
      · intro y30 h31
        refine kept_canopyResume (hm.sub rfl) ?_
        exact h31
    · refine kept_ite ?_ ?_
      · refine kept_when (hm.sub rfl) ?_ ?_
        · exact h0
        · intro y32 h33
          refine kept_ckptCommand (hm.sub rfl) ?_
          exact h33
      · refine kept_ite ?_ ?_
        · refine kept_when (hm.sub rfl) ?_ ?_
          · exact h0
          · intro y34 h35
            refine Kept.setF (hm.bit 1 rfl) (reach_JX_SYNC_STS (hm.bit 188 rfl)) ?_
            exact h35
        · refine kept_ite ?_ ?_
          · refine kept_when (hm.sub rfl) ?_ ?_
            · exact h0
            · intro y36 h37
              refine kept_retrainCommand (hm.sub rfl) ?_
              exact h37
          · refine kept_ite ?_ ?_
            · extract_lets -underBinder +onlyGivenNames v38
              have h39 : Kept M s0 v38 := by
                unfold v38
                refine kept_when (hm.sub rfl) ?_ ?_
                · exact h0
                · intro y40 h41
                  refine kept_laserEnable (hm.sub rfl) ?_
                  exact h41
              (clear_value v38; revert v38; refine Kept.seal ?_; intro v38 h39)
              refine kept_when (hm.sub rfl) ?_ ?_
              · exact h39
              · intro y42 h43
                refine kept_laserReset (hm.sub rfl) ?_
                exact h43
            · refine kept_ite ?_ ?_
              · refine kept_when (hm.sub rfl) ?_ ?_
                · exact h0
                · intro y44 h45
                  refine kept_winCommit (hm.sub rfl) ?_
                  exact h45
              · refine kept_ite ?_ ?_
                · refine kept_when (hm.sub rfl) ?_ ?_
                  · exact h0
                  · intro y46 h47
                    refine kept_dmaEnable (hm.sub rfl) ?_
                    exact h47
                · refine kept_ite ?_ ?_
                  · refine kept_when (hm.sub rfl) ?_ ?_
                    · exact h0
                    · intro y48 h49
                      refine kept_extentRevoke (hm.sub rfl) ?_
                      exact h49
                  · refine kept_ite ?_ ?_
                    · refine kept_when (hm.sub rfl) ?_ ?_
                      · exact h0
                      · intro y50 h51
                        refine kept_poolHostSubmit (hm.sub rfl) ?_
                        exact h51
                    · refine kept_ite ?_ ?_
                      · refine kept_when (hm.sub rfl) ?_ ?_
                        · exact h0
                        · intro y52 h53
                          refine kept_verReset (hm.sub rfl) ?_
                          exact h53
                      · refine kept_ite ?_ ?_
                        · refine kept_when (hm.sub rfl) ?_ ?_
                          · exact h0
                          · intro y54 h55
                            refine kept_grant (hm.sub rfl) ?_
                            exact h55
                        · refine kept_ite ?_ ?_
                          · refine kept_when (hm.sub rfl) ?_ ?_
                            · exact h0
                            · intro y56 h57
                              refine kept_pairCommand (hm.sub rfl) ?_
                              exact h57
                          · refine kept_ite ?_ ?_
                            · refine kept_when (hm.sub rfl) ?_ ?_
                              · exact h0
                              · intro y58 h59
                                refine kept_mmFree (hm.sub rfl) ?_
                                exact h59
                            · exact h0

theorem kept_actHigh {s : State} {b : ℕ} {i : ℕ} {w : RegWrite} (hm : Within 0x1800a1c9824d100000000000000007200000000000000010700000000000000000109a29042a02 M) (h0 : Kept M s0 s) :
    KeptP M s0 (State.actHigh s b i w) := by
  unfold State.actHigh
  refine keptp_ite ?_ ?_
  · refine Kept.pair ?_
    refine kept_when (hm.sub rfl) ?_ ?_
    · exact h0
    · intro y20 h21
      refine kept_getD ?_ ?_
      · refine kept_startPlan (hm.sub rfl) ?_
        exact h21
      · exact h21
  · refine keptp_ite ?_ ?_
    · refine Kept.pair ?_
      refine kept_when (hm.sub rfl) ?_ ?_
      · exact h0
      · intro y22 h23
        refine kept_wakeCommand (hm.sub rfl) ?_
        exact h23
    · refine keptp_ite ?_ ?_
      · refine keptp_ite ?_ ?_
        · extract_lets -underBinder +onlyGivenNames v24
          have h25 : KeptP M s0 v24 := by
            unfold v24
            refine kept_slotRelease (hm.sub rfl) ?_
            exact h0
          (clear_value v24; revert v24; refine Kept.seal ?_; intro v24 h25)
          refine Kept.pair ?_
          refine Kept.setF (hm.bit 1 rfl) (reach_SLOT_RELEASE_RESULT (hm.bit 266 rfl)) ?_
          exact (KeptP.st h25)
        · refine Kept.pair ?_
          exact h0
      · refine keptp_ite ?_ ?_
        · refine Kept.pair ?_
          refine kept_when (hm.sub rfl) ?_ ?_
          · exact h0
          · intro y26 h27
            refine kept_eventAdd (hm.sub rfl) ?_
            exact h27
        · refine keptp_ite ?_ ?_
          · refine keptp_ite ?_ ?_
            · refine Kept.pair ?_
              exact h0
            · extract_lets -underBinder +onlyGivenNames v28
              have h29 : KeptP M s0 v28 := by
                unfold v28
                refine kept_eventDec (hm.sub rfl) ?_
                exact h0
              (clear_value v28; revert v28; refine Kept.seal ?_; intro v28 h29)
              refine Kept.pair ?_
              exact (KeptP.st h29)
          · refine keptp_ite ?_ ?_
            · refine Kept.pair ?_
              refine kept_when (hm.sub rfl) ?_ ?_
              · exact h0
              · intro y30 h31
                refine kept_arrive (hm.sub rfl) ?_
                exact h31
            · refine keptp_ite ?_ ?_
              · refine keptp_ite ?_ ?_
                · refine Kept.pair ?_
                  refine kept_when (hm.sub rfl) ?_ ?_
                  · exact h0
                  · intro y32 h33
                    refine kept_fuseCommand (hm.sub rfl) ?_
                    exact h33
                · refine Kept.pair ?_
                  exact h0
              · refine keptp_ite ?_ ?_
                · refine Kept.pair ?_
                  refine kept_when (hm.sub rfl) ?_ ?_
                  · exact h0
                  · intro y34 h35
                    refine kept_norStart (hm.sub rfl) ?_
                    exact h35
                · refine keptp_ite ?_ ?_
                  · refine Kept.pair ?_
                    refine kept_when (hm.sub rfl) ?_ ?_
                    · exact h0
                    · intro y36 h37
                      refine kept_attest (hm.sub rfl) ?_
                      exact h37
                  · refine keptp_ite ?_ ?_
                    · refine keptp_ite ?_ ?_
                      · refine keptp_ite ?_ ?_
                        · refine kept_openSession (hm.sub rfl) ?_
                          exact h0
                        · refine kept_closeSession (hm.sub rfl) ?_
                          exact h0
                      · refine Kept.pair ?_
                        exact h0
                    · refine keptp_ite ?_ ?_
                      · refine keptp_ite ?_ ?_
                        · refine kept_imgPage (hm.sub rfl) ?_
                          exact h0
                        · refine Kept.pair ?_
                          exact h0
                      · refine keptp_ite ?_ ?_
                        · refine Kept.pair ?_
                          refine kept_when (hm.sub rfl) ?_ ?_
                          · exact h0
                          · intro y38 h39
                            refine Kept.in_silent (hm.bit 27 rfl) ?_ (Kept.seal) (Kept.seal)
                            exact h39
                        · refine keptp_ite ?_ ?_
                          · refine Kept.pair ?_
                            refine kept_when (hm.sub rfl) ?_ ?_
                            · exact h0
                            · intro y40 h41
                              refine kept_diagArm (hm.sub rfl) ?_
                              exact h41
                          · refine keptp_ite ?_ ?_
                            · refine Kept.pair ?_
                              refine kept_when (hm.sub rfl) ?_ ?_
                              · exact h0
                              · intro y42 h43
                                refine kept_shelfLoad (hm.sub rfl) ?_
                                exact h43
                            · refine keptp_ite ?_ ?_
                              · extract_lets -underBinder +onlyGivenNames v44
                                have h45 : Kept M s0 v44 := by
                                  unfold v44
                                  refine kept_when (hm.sub rfl) ?_ ?_
                                  · exact h0
                                  · intro y46 h47
                                    refine kept_testRequest (hm.sub rfl) ?_
                                    exact h47
                                (clear_value v44; revert v44; refine Kept.seal ?_; intro v44 h45)
                                refine Kept.pair ?_
                                refine kept_when (hm.sub rfl) ?_ ?_
                                · exact h45
                                · intro y48 h49
                                  refine kept_testAbort (hm.sub rfl) ?_
                                  exact h49
                              · refine Kept.pair ?_
                                exact h0

theorem kept_writeReg {s : State} {d : RegDesc} {w : RegWrite} (hm : Within 0x1888bdc9824db50246602311589157b191343077ec40099171037f8272714ca00019bffffffffe M) (h0 : Kept M s0 s) :
    KeptP M s0 (State.writeReg s d w) := by
  unfold State.writeReg
  extract_lets -underBinder +onlyGivenNames v20
  (clear_value v20; revert v20; refine Kept.seal ?_; intro v20)
  refine keptp_ite ?_ ?_
  · refine Kept.pair ?_
    exact h0
  · extract_lets -underBinder +onlyGivenNames v21
    have h22 : Kept M s0 v21 := by
      unfold v21
      refine kept_writeFields (hm.sub rfl) ?_
      exact h0
    (clear_value v21; revert v21; refine Kept.seal ?_; intro v21 h22)
    refine keptp_ite ?_ ?_
    · refine Kept.pair ?_
      refine kept_actLow (hm.sub rfl) ?_
      exact h22
    · refine keptp_ite ?_ ?_
      · refine Kept.pair ?_
        refine kept_actMid (hm.sub rfl) ?_
        exact h22
      · refine kept_actHigh (hm.sub rfl) ?_
        exact h22

theorem kept_ctrlUnmapped {s : State} {src : Node} {tag : Tag} {off : ℕ} (hm : Within 0x7000000000000000010700000000000000000109a00040202 M) (h0 : Kept M s0 s) :
    Kept M s0 (State.ctrlUnmapped s src tag off) := by
  unfold State.ctrlUnmapped
  refine kept_ledger (hm.sub rfl) ?_
  exact h0

theorem kept_ctrlWrite {s : State} {src : Node} {off : ℕ} {bs : Bytes} {host : Bool} (hm : Within 0x1888bdc9824db50246602311589157b191343077ec40099171037f8272714ca00019bffffffffe M) (h0 : Kept M s0 s) :
    KeptP M s0 (State.ctrlWrite s src off bs host) := by
  unfold State.ctrlWrite
  refine keptp_foldl ?_ ?_
  · intro y20 y21 h22
    (generalize q24 : (Sys2Proof.regAt y21) = x23; revert x23; refine Kept.seal ?_; intro x23 q24)
    split
    · rename_i w25
      exact h22
    · rename_i w26 w27
      extract_lets -underBinder +onlyGivenNames v28
      (clear_value v28; revert v28; refine Kept.seal ?_; intro v28)
      extract_lets -underBinder +onlyGivenNames v29
      (clear_value v29; revert v29; refine Kept.seal ?_; intro v29)
      extract_lets -underBinder +onlyGivenNames v30
      (clear_value v30; revert v30; refine Kept.seal ?_; intro v30)
      extract_lets -underBinder +onlyGivenNames v31
      have h32 : KeptP M s0 v31 := by
        unfold v31
        refine kept_writeReg (hm.sub rfl) ?_
        exact (KeptP.st h22)
      (clear_value v31; revert v31; refine Kept.seal ?_; intro v31 h32)
      refine Kept.pair ?_
      exact (KeptP.st h32)
  · refine Kept.pair ?_
    exact h0

theorem kept_ctrlRead {s : State} {src : Node} {off : ℕ} {n : ℕ} (hm : Within 0x81000000000 M) (h0 : Kept M s0 s) :
    KeptP M s0 (State.ctrlRead s src off n) := by
  unfold State.ctrlRead
  refine keptp_ite ?_ ?_
  · refine kept_imgWindow (hm.sub rfl) ?_
    exact h0
  · refine keptp_ite ?_ ?_
    · refine Kept.pair ?_
      refine kept_bump (hm.sub rfl) ?_
      exact h0
    · refine keptp_ite ?_ ?_
      · refine Kept.pair ?_
        exact h0
      · extract_lets -underBinder +onlyGivenNames v20
        (clear_value v20; revert v20; refine Kept.seal ?_; intro v20)
        refine Kept.pair ?_
        exact h0

theorem kept_hostRegWrite {s : State} {off : ℕ} {part : RegPart} {v : W64} (hm : Within 0x1888bdc9824db50246602311589157b191343077ec40099171037f8272714ca00019bffffffffe M) (h0 : Kept M s0 s) :
    Kept M s0 (State.hostRegWrite s off part v) := by
  unfold State.hostRegWrite
  refine kept_ite ?_ ?_
  · exact h0
  · (generalize q21 : (Sys2Proof.regAt off) = x20; revert x20; refine Kept.seal ?_; intro x20 q21)
    split
    · rename_i w22
      refine kept_ite ?_ ?_
      · exact h0
      · refine kept_ctrlUnmapped (hm.sub rfl) ?_
        exact h0
    · rename_i w23 w24
      refine KeptP.st ?_
      refine kept_writeReg (hm.sub rfl) ?_
      exact h0

theorem kept_jxRegWrite {s : State} {src : Node} {off : ℕ} {part : RegPart} {v : W64} {tag : Tag} (hm : Within 0x1888bdc9824db50246602311589157b191343077ec40099171037f8272714ca00019bffffffffe M) (h0 : Kept M s0 s) :
    Kept M s0 (State.jxRegWrite s src off part v tag) := by
  unfold State.jxRegWrite
  refine kept_ite ?_ ?_
  · refine kept_emit (hm.sub rfl) ?_
    exact h0
  · (generalize q21 : (Sys2Proof.regAt off) = x20; revert x20; refine Kept.seal ?_; intro x20 q21)
    split
    · rename_i w22
      refine kept_ite ?_ ?_
      · refine kept_emit (hm.sub rfl) ?_
        exact h0
      · refine kept_emit (hm.sub rfl) ?_
        refine kept_ctrlUnmapped (hm.sub rfl) ?_
        exact h0
    · rename_i w23 w24
      refine kept_ite ?_ ?_
      · refine kept_emit (hm.sub rfl) ?_
        exact h0
      · extract_lets -underBinder +onlyGivenNames v25
        have h26 : KeptP M s0 v25 := by
          unfold v25
          refine kept_writeReg (hm.sub rfl) ?_
          exact h0
        (clear_value v25; revert v25; refine Kept.seal ?_; intro v25 h26)
        refine kept_emit (hm.sub rfl) ?_
        exact (KeptP.st h26)

theorem kept_registerWrite {s : State} {src : Node} {off : ℕ} {part : RegPart} {v : W64} {tag : Tag} {host : Bool} (hm : Within 0x1888bdc9824db50246602311589157b191343077ec40099171037f8272714ca00019bffffffffe M) (h0 : Kept M s0 s) :
    Kept M s0 (State.registerWrite s src off part v tag host) := by
  unfold State.registerWrite
  refine kept_ite ?_ ?_
  · refine kept_hostRegWrite (hm.sub rfl) ?_
    exact h0
  · refine kept_jxRegWrite (hm.sub rfl) ?_
    exact h0

theorem kept_execRegisterWrite {src : Node} {off : Fin 268435456} {part : RegPart} {v : W64} {tag : Tag} {host : Bool} {s : State} (hm : Within 0x1888bdc9824db50246602311589157b191343077ec40099171037f8272714ca00019bffffffffe M) (h0 : Kept M s0 s) :
    KeptE M s0 (execRegisterWrite src off part v tag host s) := by
  unfold execRegisterWrite
  refine kepte_next ?_
  refine kept_registerWrite (hm.sub rfl) ?_
  exact h0

end Sys2Proof.Machine
end

