-- ==== Sys2Proof/Laws/Kept/Expert.lean ====
section
/-! SUPPORT. What the operations of Expert may write: each keeps its footprint. -/

namespace Sys2Proof.Machine

variable {M : Nat} {s0 : State}

theorem kept_putCells {s : State} {a : ℕ} {n : ℕ} {cs : List Cell} {k : Consumer} (hm : Within 0x200000000000700902020708c000191700000000000000000189b10de027e M) (h0 : Kept M s0 s) :
    KeptP M s0 (State.putCells s a n cs k) := by
  unfold State.putCells
  refine kept_writeWork (hm.sub rfl) ?_
  exact h0

theorem kept_putAll {s : State} {l : List (ℕ × ℕ × List Cell)} {k : Consumer} (hm : Within 0x200000000000700902020708c000191700000000000000000189b10de027e M) (h0 : Kept M s0 s) :
    KeptP M s0 (State.putAll s l k) := by
  unfold State.putAll
  refine keptp_foldl ?_ ?_
  · intro y20 y21 h22
    extract_lets -underBinder +onlyGivenNames v23
    have h24 : KeptP M s0 v23 := by
      unfold v23
      refine kept_putCells (hm.sub rfl) ?_
      exact (KeptP.st h22)
    (clear_value v23; revert v23; refine Kept.seal ?_; intro v23 h24)
    refine Kept.pair ?_
    exact (KeptP.st h24)
  · refine Kept.pair ?_
    exact h0

theorem kept_loads_entryCheck {l : Loads} {m : Bytes} {e : Bytes} {k : Consumer} (hm : Within 0x700902020700c000191700060000000000000189a01de027e M) (h0 : KeptLoads M s0 l) :
    KeptLP M s0 (Loads.entryCheck l m e k) := by
  unfold Loads.entryCheck
  refine keptlp_ite ?_ ?_
  · refine KeptLP.pair ?_
    exact h0
  · refine keptlp_ite ?_ ?_
    · refine KeptLP.pair ?_
      exact h0
    · refine keptlp_ite ?_ ?_
      · refine KeptLP.pair ?_
        exact h0
      · extract_lets -underBinder +onlyGivenNames v20
        have h21 : KeptLP M s0 v20 := by
          unfold v20
          refine kept_loads_get (hm.sub rfl) ?_
          exact h0
        (clear_value v20; revert v20; refine Kept.seal ?_; intro v20 h21)
        refine KeptLP.pair ?_
        exact (KeptLP.st h21)

theorem kept_loads_closeEntry {l : Loads} {m : Bytes} {n : ℕ} {k : Consumer} (hm : Within 0x700902020700c000191700060000000000000189a01de027e M) (h0 : KeptLoads M s0 l) :
    KeptLP M s0 (Loads.closeEntry l m n k) := by
  unfold Loads.closeEntry
  refine keptlp_foldl ?_ ?_
  · intro y20 y21 h22
    (generalize q24 : (y20.2) = x23; revert x23; refine Kept.seal ?_; intro x23 q24)
    split
    · rename_i w25 w26
      exact h22
    · rename_i w27
      extract_lets -underBinder +onlyGivenNames v28
      (clear_value v28; revert v28; refine Kept.seal ?_; intro v28)
      extract_lets -underBinder +onlyGivenNames v29
      have h30 : KeptLP M s0 v29 := by
        unfold v29
        refine kept_loads_get (hm.sub rfl) ?_
        exact (KeptLP.st h22)
      (clear_value v29; revert v29; refine Kept.seal ?_; intro v29 h30)
      refine KeptLP.pair ?_
      exact (KeptLP.st h30)
  · refine KeptLP.pair ?_
    exact h0

theorem kept_loads_visited {l : Loads} {m : Bytes} {mask : ℕ} {k : Consumer} (hm : Within 0x700902020700c000191700060000000000000189a01de027e M) (h0 : KeptLoads M s0 l) :
    KeptLP M s0 (Loads.visited l m mask k) := by
  unfold Loads.visited
  refine keptlp_foldl ?_ ?_
  · intro y20 y21 h22
    extract_lets -underBinder +onlyGivenNames v23
    (clear_value v23; revert v23; refine Kept.seal ?_; intro v23)
    extract_lets -underBinder +onlyGivenNames v24
    have h25 : KeptLP M s0 v24 := by
      unfold v24
      refine kept_loads_get (hm.sub rfl) ?_
      exact (KeptLP.st h22)
    (clear_value v24; revert v24; refine Kept.seal ?_; intro v24 h25)
    refine KeptLP.pair ?_
    exact (KeptLP.st h25)
  · refine KeptLP.pair ?_
    exact h0

theorem kept_loads_visitedCheck {l : Loads} {m : Bytes} {vs : List ExpEntry} {k : Consumer} (hm : Within 0x700902020700c000191700060000000000000189a01de027e M) (h0 : KeptLoads M s0 l) :
    KeptLP M s0 (Loads.visitedCheck l m vs k) := by
  unfold Loads.visitedCheck
  refine keptlp_foldl ?_ ?_
  · intro y20 y21 h22
    (generalize q24 : (y20.2) = x23; revert x23; refine Kept.seal ?_; intro x23 q24)
    split
    · rename_i w25 w26
      exact h22
    · rename_i w27
      extract_lets -underBinder +onlyGivenNames v28
      have h29 : KeptLP M s0 v28 := by
        unfold v28
        refine kept_loads_entryCheck (hm.sub rfl) ?_
        exact (KeptLP.st h22)
      (clear_value v28; revert v28; refine Kept.seal ?_; intro v28 h29)
      refine KeptLP.pair ?_
      exact (KeptLP.st h29)
  · refine KeptLP.pair ?_
    exact h0

theorem kept_loads_weights {l : Loads} {n : ℕ} {d : Bytes} {e : Bytes} (hm : Within 0x700902020700c000191700060000000000000189a01de027e M) (h0 : KeptLoads M s0 l) :
    KeptLP M s0 (Loads.weights l n d e) := by
  unfold Loads.weights
  extract_lets -underBinder +onlyGivenNames v20
  (clear_value v20; revert v20; refine Kept.seal ?_; intro v20)
  extract_lets -underBinder +onlyGivenNames v21
  have h22 : KeptLP M s0 v21 := by
    unfold v21
    refine kept_loads_matrix (hm.sub rfl) ?_
    exact h0
  (clear_value v21; revert v21; refine Kept.seal ?_; intro v21 h22)
  extract_lets -underBinder +onlyGivenNames v23
  have h24 : KeptLP M s0 v23 := by
    unfold v23
    refine kept_loads_matrix (hm.sub rfl) ?_
    exact (KeptLP.st h22)
  (clear_value v23; revert v23; refine Kept.seal ?_; intro v23 h24)
  extract_lets -underBinder +onlyGivenNames v25
  have h26 : KeptLP M s0 v25 := by
    unfold v25
    refine kept_loads_matrix (hm.sub rfl) ?_
    exact (KeptLP.st h24)
  (clear_value v25; revert v25; refine Kept.seal ?_; intro v25 h26)
  refine KeptLP.pair ?_
  exact (KeptLP.st h26)

theorem kept_entryTail {s : State} {a : ℕ} {tokens : ℕ} {steps : ℕ} {flags : ℕ} {last : ℕ} {tag : Tag} (hm : Within 0x2000000000007008020207000000190700000000000000000109a101e027e M) (h0 : Kept M s0 s) :
    Kept M s0 (State.entryTail s a tokens steps flags last tag) := by
  unfold State.entryTail
  refine kept_writeRange (hm.sub rfl) ?_
  exact h0

theorem kept_expFwd {s : State} {n : ℕ} {r : Running} {m : Bytes} {e : Bytes} {lost : List ℕ} (hm : Within 0x200000000000700902020708c000191700060000000000000189b11de027e M) (h0 : Kept M s0 s) :
    KeptX M s0 (State.expFwd s n r m e lost) := by
  unfold State.expFwd
  extract_lets -underBinder +onlyGivenNames v20
  (clear_value v20; revert v20; refine Kept.seal ?_; intro v20)
  extract_lets -underBinder +onlyGivenNames v21
  (clear_value v21; revert v21; refine Kept.seal ?_; intro v21)
  extract_lets -underBinder +onlyGivenNames v22
  (clear_value v22; revert v22; refine Kept.seal ?_; intro v22)
  extract_lets -underBinder +onlyGivenNames v23
  (clear_value v23; revert v23; refine Kept.seal ?_; intro v23)
  extract_lets -underBinder +onlyGivenNames v24
  (clear_value v24; revert v24; refine Kept.seal ?_; intro v24)
  extract_lets -underBinder +onlyGivenNames v25
  have h26 : KeptLP M s0 v25 := by
    unfold v25
    refine kept_loads_get (hm.sub rfl) ?_
    refine Kept.loads ?_
    exact h0
  (clear_value v25; revert v25; refine Kept.seal ?_; intro v25 h26)
  extract_lets -underBinder +onlyGivenNames v27
  have h28 : KeptLP M s0 v27 := by
    unfold v27
    refine kept_loads_weights (hm.sub rfl) ?_
    exact (KeptLP.st h26)
  (clear_value v27; revert v27; refine Kept.seal ?_; intro v27 h28)
  extract_lets -underBinder +onlyGivenNames v29
  have h30 : KeptLP M s0 v29 := by
    unfold v29
    refine kept_loads_get (hm.sub rfl) ?_
    exact (KeptLP.st h28)
  (clear_value v29; revert v29; refine Kept.seal ?_; intro v29 h30)
  (generalize q32 : (v29.1.wait) = x31; revert x31; refine Kept.seal ?_; intro x31 q32)
  split
  · rename_i w33 w34
    exact keptx_error
  · rename_i w35
    extract_lets -underBinder +onlyGivenNames v36
    (clear_value v36; revert v36; refine Kept.seal ?_; intro v36)
    extract_lets -underBinder +onlyGivenNames v37
    (clear_value v37; revert v37; refine Kept.seal ?_; intro v37)
    extract_lets -underBinder +onlyGivenNames v38
    (clear_value v38; revert v38; refine Kept.seal ?_; intro v38)
    extract_lets -underBinder +onlyGivenNames v39
    (clear_value v39; revert v39; refine Kept.seal ?_; intro v39)
    extract_lets -underBinder +onlyGivenNames v40
    (clear_value v40; revert v40; refine Kept.seal ?_; intro v40)
    extract_lets -underBinder +onlyGivenNames v41
    (clear_value v41; revert v41; refine Kept.seal ?_; intro v41)
    extract_lets -underBinder +onlyGivenNames v42
    (clear_value v42; revert v42; refine Kept.seal ?_; intro v42)
    extract_lets -underBinder +onlyGivenNames v43
    (clear_value v43; revert v43; refine Kept.seal ?_; intro v43)
    extract_lets -underBinder +onlyGivenNames v44
    have h45 : KeptP M s0 v44 := by
      unfold v44
      refine kept_putAll (hm.sub rfl) ?_
      exact (KeptLoads.st (KeptLP.st h30))
    (clear_value v44; revert v44; refine Kept.seal ?_; intro v44 h45)
    extract_lets -underBinder +onlyGivenNames v46
    (clear_value v46; revert v46; refine Kept.seal ?_; intro v46)
    extract_lets -underBinder +onlyGivenNames v47
    have h48 : Kept M s0 v47 := by
      unfold v47
      refine kept_ite ?_ ?_
      · exact (KeptP.st h45)
      · refine kept_writeRange (hm.sub rfl) ?_
        exact (KeptP.st h45)
    (clear_value v47; revert v47; refine Kept.seal ?_; intro v47 h48)
    extract_lets -underBinder +onlyGivenNames v49
    (clear_value v49; revert v49; refine Kept.seal ?_; intro v49)
    refine keptx_ite ?_ ?_
    · exact keptx_error
    · refine keptx_ok ?_
      show Kept M s0 _
      dsimp only
      exact h48

theorem kept_expBwd {s : State} {n : ℕ} {r : Running} {m : Bytes} {e : Bytes} {headBad : Bool} {lost : List ℕ} (hm : Within 0x200000000000700902020708c000191700060000000000000189b11de027e M) (h0 : Kept M s0 s) :
    KeptX M s0 (State.expBwd s n r m e headBad lost) := by
  unfold State.expBwd
  extract_lets -underBinder +onlyGivenNames v20
  (clear_value v20; revert v20; refine Kept.seal ?_; intro v20)
  extract_lets -underBinder +onlyGivenNames v21
  (clear_value v21; revert v21; refine Kept.seal ?_; intro v21)
  extract_lets -underBinder +onlyGivenNames v22
  (clear_value v22; revert v22; refine Kept.seal ?_; intro v22)
  extract_lets -underBinder +onlyGivenNames v23
  (clear_value v23; revert v23; refine Kept.seal ?_; intro v23)
  extract_lets -underBinder +onlyGivenNames v24
  (clear_value v24; revert v24; refine Kept.seal ?_; intro v24)
  extract_lets -underBinder +onlyGivenNames v25
  (clear_value v25; revert v25; refine Kept.seal ?_; intro v25)
  extract_lets -underBinder +onlyGivenNames v26
  (clear_value v26; revert v26; refine Kept.seal ?_; intro v26)
  extract_lets -underBinder +onlyGivenNames v27
  (clear_value v27; revert v27; refine Kept.seal ?_; intro v27)
  extract_lets -underBinder +onlyGivenNames v28
  have h29 : KeptLP M s0 v28 := by
    unfold v28
    refine kept_loads_get (hm.sub rfl) ?_
    refine Kept.loads ?_
    exact h0
  (clear_value v28; revert v28; refine Kept.seal ?_; intro v28 h29)
  extract_lets -underBinder +onlyGivenNames v30
  (clear_value v30; revert v30; refine Kept.seal ?_; intro v30)
  extract_lets -underBinder +onlyGivenNames v31
  have h32 : KeptLP M s0 v31 := by
    unfold v31
    refine kept_loads_get (hm.sub rfl) ?_
    exact (KeptLP.st h29)
  (clear_value v31; revert v31; refine Kept.seal ?_; intro v31 h32)
  extract_lets -underBinder +onlyGivenNames v33
  have h34 : KeptLP M s0 v33 := by
    unfold v33
    refine kept_loads_get (hm.sub rfl) ?_
    exact (KeptLP.st h32)
  (clear_value v33; revert v33; refine Kept.seal ?_; intro v33 h34)
  extract_lets -underBinder +onlyGivenNames v35
  have h36 : KeptLP M s0 v35 := by
    unfold v35
    refine keptlp_ite ?_ ?_
    · refine kept_loads_get (hm.sub rfl) ?_
      exact (KeptLP.st h34)
    · refine KeptLP.pair ?_
      exact (KeptLP.st h34)
  (clear_value v35; revert v35; refine Kept.seal ?_; intro v35 h36)
  extract_lets -underBinder +onlyGivenNames v37
  have h38 : KeptLP M s0 v37 := by
    unfold v37
    refine keptlp_ite ?_ ?_
    · refine kept_loads_get (hm.sub rfl) ?_
      exact (KeptLP.st h36)
    · refine KeptLP.pair ?_
      exact (KeptLP.st h36)
  (clear_value v37; revert v37; refine Kept.seal ?_; intro v37 h38)
  extract_lets -underBinder +onlyGivenNames v39
  have h40 : KeptLP M s0 v39 := by
    unfold v39
    refine kept_loads_weights (hm.sub rfl) ?_
    exact (KeptLP.st h38)
  (clear_value v39; revert v39; refine Kept.seal ?_; intro v39 h40)
  extract_lets -underBinder +onlyGivenNames v41
  have h42 : KeptLP M s0 v41 := by
    unfold v41
    refine kept_loads_get (hm.sub rfl) ?_
    exact (KeptLP.st h40)
  (clear_value v41; revert v41; refine Kept.seal ?_; intro v41 h42)
  extract_lets -underBinder +onlyGivenNames v43
  (clear_value v43; revert v43; refine Kept.seal ?_; intro v43)
  extract_lets -underBinder +onlyGivenNames v44
  (clear_value v44; revert v44; refine Kept.seal ?_; intro v44)
  extract_lets -underBinder +onlyGivenNames v45
  (clear_value v45; revert v45; refine Kept.seal ?_; intro v45)
  extract_lets -underBinder +onlyGivenNames v46
  have h47 : KeptLP M s0 v46 := by
    unfold v46
    refine keptlp_ite ?_ ?_
    · refine kept_loads_get (hm.sub rfl) ?_
      exact (KeptLP.st h42)
    · refine KeptLP.pair ?_
      exact (KeptLP.st h42)
  (clear_value v46; revert v46; refine Kept.seal ?_; intro v46 h47)
  (generalize q49 : (v46.1.wait) = x48; revert x48; refine Kept.seal ?_; intro x48 q49)
  split
  · rename_i w50 w51
    exact keptx_error
  · rename_i w52
    extract_lets -underBinder +onlyGivenNames v53
    (clear_value v53; revert v53; refine Kept.seal ?_; intro v53)
    extract_lets -underBinder +onlyGivenNames v54
    (clear_value v54; revert v54; refine Kept.seal ?_; intro v54)
    extract_lets -underBinder +onlyGivenNames v55
    (clear_value v55; revert v55; refine Kept.seal ?_; intro v55)
    extract_lets -underBinder +onlyGivenNames v56
    (clear_value v56; revert v56; refine Kept.seal ?_; intro v56)
    extract_lets -underBinder +onlyGivenNames v57
    (clear_value v57; revert v57; refine Kept.seal ?_; intro v57)
    extract_lets -underBinder +onlyGivenNames v58
    (clear_value v58; revert v58; refine Kept.seal ?_; intro v58)
    extract_lets -underBinder +onlyGivenNames v59
    (clear_value v59; revert v59; refine Kept.seal ?_; intro v59)
    extract_lets -underBinder +onlyGivenNames v60
    (clear_value v60; revert v60; refine Kept.seal ?_; intro v60)
    extract_lets -underBinder +onlyGivenNames v61
    (clear_value v61; revert v61; refine Kept.seal ?_; intro v61)
    extract_lets -underBinder +onlyGivenNames v62
    have h63 : KeptP M s0 v62 := by
      unfold v62
      refine kept_putAll (hm.sub rfl) ?_
      exact (KeptLoads.st (KeptLP.st h47))
    (clear_value v62; revert v62; refine Kept.seal ?_; intro v62 h63)
    extract_lets -underBinder +onlyGivenNames v64
    (clear_value v64; revert v64; refine Kept.seal ?_; intro v64)
    extract_lets -underBinder +onlyGivenNames v65
    (clear_value v65; revert v65; refine Kept.seal ?_; intro v65)
    extract_lets -underBinder +onlyGivenNames v66
    have h67 : Kept M s0 v66 := by
      unfold v66
      refine kept_entryTail (hm.sub rfl) ?_
      exact (KeptP.st h63)
    (clear_value v66; revert v66; refine Kept.seal ?_; intro v66 h67)
    extract_lets -underBinder +onlyGivenNames v68
    have h69 : Kept M s0 v68 := by
      unfold v68
      refine kept_writeRange (hm.sub rfl) ?_
      exact h67
    (clear_value v68; revert v68; refine Kept.seal ?_; intro v68 h69)
    refine keptx_ite ?_ ?_
    · exact keptx_error
    · refine keptx_ok ?_
      show Kept M s0 _
      dsimp only
      exact h69

theorem kept_close_loads {c : CloseAcc} (hm : Within 0x0 M) (h0 : KeptCloseAcc M s0 c) :
    KeptLoads M s0 (CloseAcc.loads c) := by
  unfold CloseAcc.loads
  refine Kept.loads ?_
  exact (KeptCloseAcc.st h0)

theorem kept_writeWeights {s : State} {e : Bytes} {master : List Cell} {k : Consumer} (hm : Within 0x200000000000700902020708c000191700000000000000000189b10de027e M) (h0 : Kept M s0 s) :
    KeptWeightsOut M s0 (State.writeWeights s e master k) := by
  unfold State.writeWeights
  extract_lets -underBinder +onlyGivenNames v20
  (clear_value v20; revert v20; refine Kept.seal ?_; intro v20)
  extract_lets -underBinder +onlyGivenNames v21
  (clear_value v21; revert v21; refine Kept.seal ?_; intro v21)
  extract_lets -underBinder +onlyGivenNames v22
  (clear_value v22; revert v22; refine Kept.seal ?_; intro v22)
  extract_lets -underBinder +onlyGivenNames v23
  (clear_value v23; revert v23; refine Kept.seal ?_; intro v23)
  extract_lets -underBinder +onlyGivenNames v24
  (clear_value v24; revert v24; refine Kept.seal ?_; intro v24)
  refine keptWeightsOut_foldl ?_ ?_
  · intro y25 y26 h27
    extract_lets -underBinder +onlyGivenNames v28
    (clear_value v28; revert v28; refine Kept.seal ?_; intro v28)
    extract_lets -underBinder +onlyGivenNames v29
    (clear_value v29; revert v29; refine Kept.seal ?_; intro v29)
    refine keptWeightsOut_foldl ?_ ?_
    · intro y30 y31 h32
      refine keptWeightsOut_foldl ?_ ?_
      · intro y33 y34 h35
        extract_lets -underBinder +onlyGivenNames v36
        (clear_value v36; revert v36; refine Kept.seal ?_; intro v36)
        extract_lets -underBinder +onlyGivenNames v37
        have h38 : KeptP M s0 v37 := by
          unfold v37
          refine kept_putCells (hm.sub rfl) ?_
          exact (KeptWeightsOut.st h35)
        (clear_value v37; revert v37; refine Kept.seal ?_; intro v37 h38)
        show Kept M s0 _
        dsimp only
        exact (KeptP.st h38)
      · exact h32
    · exact h27
  · show Kept M s0 _
    dsimp only
    exact h0

theorem kept_close_init {c : CloseAcc} {i : ℕ} {a : ℕ} {e : Bytes} {r : Running} {lost : List ℕ} {k : Consumer} (hm : Within 0x200000000000700902020708c000191700060000000000000189b11de027e M) (h0 : KeptCloseAcc M s0 c) :
    KeptCloseAcc M s0 (CloseAcc.init c i a e r lost k) := by
  unfold CloseAcc.init
  extract_lets -underBinder +onlyGivenNames v20
  (clear_value v20; revert v20; refine Kept.seal ?_; intro v20)
  extract_lets -underBinder +onlyGivenNames v21
  have h22 : KeptLP M s0 v21 := by
    unfold v21
    refine kept_loads_weights (hm.sub rfl) ?_
    refine kept_close_loads (hm.sub rfl) ?_
    exact h0
  (clear_value v21; revert v21; refine Kept.seal ?_; intro v21 h22)
  extract_lets -underBinder +onlyGivenNames v23
  (clear_value v23; revert v23; refine Kept.seal ?_; intro v23)
  extract_lets -underBinder +onlyGivenNames v24
  (clear_value v24; revert v24; refine Kept.seal ?_; intro v24)
  extract_lets -underBinder +onlyGivenNames v25
  (clear_value v25; revert v25; refine Kept.seal ?_; intro v25)
  extract_lets -underBinder +onlyGivenNames v26
  have h27 : ∀ c_0 c_1 c_2, Kept M s0 c_0 → Kept M s0 (v26 c_0 c_1 c_2) := by
    unfold v26
    intro y28 y29 y30 h31
    refine kept_writeRange (hm.sub rfl) ?_
    exact h31
  (clear_value v26; revert v26; refine Kept.seal ?_; intro v26 h27)
  extract_lets -underBinder +onlyGivenNames v32
  have h33 : KeptP M s0 v32 := by
    unfold v32
    refine keptp_ite ?_ ?_
    · refine Kept.pair ?_
      exact (KeptLoads.st (KeptLP.st h22))
    · refine kept_putAll (hm.sub rfl) ?_
      exact (KeptLoads.st (KeptLP.st h22))
  (clear_value v32; revert v32; refine Kept.seal ?_; intro v32 h33)
  extract_lets -underBinder +onlyGivenNames v34
  have h35 : Kept M s0 v34 := by
    unfold v34
    refine h27 _ _ _ ?_
    exact (KeptP.st h33)
  (clear_value v34; revert v34; refine Kept.seal ?_; intro v34 h35)
  extract_lets -underBinder +onlyGivenNames v36
  have h37 : Kept M s0 v36 := by
    unfold v36
    refine h27 _ _ _ ?_
    exact h35
  (clear_value v36; revert v36; refine Kept.seal ?_; intro v36 h37)
  extract_lets -underBinder +onlyGivenNames v38
  have h39 : Kept M s0 v38 := by
    unfold v38
    refine kept_ite ?_ ?_
    · exact (KeptP.st h33)
    · refine kept_ite ?_ ?_
      · refine kept_ite ?_ ?_
        · refine h27 _ _ _ ?_
          exact h37
        · exact h37
      · refine kept_ite ?_ ?_
        · refine h27 _ _ _ ?_
          exact h35
        · exact h35
  (clear_value v38; revert v38; refine Kept.seal ?_; intro v38 h39)
  extract_lets -underBinder +onlyGivenNames v40
  have h41 : Kept M s0 v40 := by
    unfold v40
    refine kept_entryTail (hm.sub rfl) ?_
    exact h39
  (clear_value v40; revert v40; refine Kept.seal ?_; intro v40 h41)
  show Kept M s0 _
  dsimp only
  exact h41

theorem kept_close_weightsOnly {c : CloseAcc} {a : ℕ} {e : Bytes} {lost : List ℕ} {k : Consumer} (hm : Within 0x200000000000700902020708c000191700060000000000000189b11de027e M) (h0 : KeptCloseAcc M s0 c) :
    KeptCloseAcc M s0 (CloseAcc.weightsOnly c a e lost k) := by
  unfold CloseAcc.weightsOnly
  extract_lets -underBinder +onlyGivenNames v20
  (clear_value v20; revert v20; refine Kept.seal ?_; intro v20)
  extract_lets -underBinder +onlyGivenNames v21
  have h22 : KeptLP M s0 v21 := by
    unfold v21
    refine kept_loads_get (hm.sub rfl) ?_
    refine kept_close_loads (hm.sub rfl) ?_
    exact h0
  (clear_value v21; revert v21; refine Kept.seal ?_; intro v21 h22)
  extract_lets -underBinder +onlyGivenNames v23
  have h24 : KeptLP M s0 v23 := by
    unfold v23
    refine keptlp_ite ?_ ?_
    · refine KeptLP.pair ?_
      exact (KeptLP.st h22)
    · refine kept_loads_get (hm.sub rfl) ?_
      exact (KeptLP.st h22)
  (clear_value v23; revert v23; refine Kept.seal ?_; intro v23 h24)
  extract_lets -underBinder +onlyGivenNames v25
  (clear_value v25; revert v25; refine Kept.seal ?_; intro v25)
  extract_lets -underBinder +onlyGivenNames v26
  have h27 : KeptWeightsOut M s0 v26 := by
    unfold v26
    refine keptWeightsOut_ite ?_ ?_
    · show Kept M s0 _
      dsimp only
      exact (KeptLoads.st (KeptLP.st h24))
    · refine kept_writeWeights (hm.sub rfl) ?_
      exact (KeptLoads.st (KeptLP.st h24))
  (clear_value v26; revert v26; refine Kept.seal ?_; intro v26 h27)
  extract_lets -underBinder +onlyGivenNames v28
  (clear_value v28; revert v28; refine Kept.seal ?_; intro v28)
  extract_lets -underBinder +onlyGivenNames v29
  (clear_value v29; revert v29; refine Kept.seal ?_; intro v29)
  extract_lets -underBinder +onlyGivenNames v30
  have h31 : Kept M s0 v30 := by
    unfold v30
    refine kept_entryTail (hm.sub rfl) ?_
    exact (KeptWeightsOut.st h27)
  (clear_value v30; revert v30; refine Kept.seal ?_; intro v30 h31)
  show Kept M s0 _
  dsimp only
  exact h31

theorem kept_close_optimise {c : CloseAcc} {i : ℕ} {a : ℕ} {e : Bytes} {tailBytes : Bytes} {r : Running} {hyper : Src} {lost : List ℕ} {nan : ℕ} {k : Consumer} (hm : Within 0x200000000000700902020708c000191700060000000000000189b11de027e M) (h0 : KeptCloseAcc M s0 c) :
    KeptCloseAcc M s0 (CloseAcc.optimise c i a e tailBytes r hyper lost nan k) := by
  unfold CloseAcc.optimise
  extract_lets -underBinder +onlyGivenNames v20
  (clear_value v20; revert v20; refine Kept.seal ?_; intro v20)
  extract_lets -underBinder +onlyGivenNames v21
  (clear_value v21; revert v21; refine Kept.seal ?_; intro v21)
  extract_lets -underBinder +onlyGivenNames v22
  (clear_value v22; revert v22; refine Kept.seal ?_; intro v22)
  extract_lets -underBinder +onlyGivenNames v23
  (clear_value v23; revert v23; refine Kept.seal ?_; intro v23)
  extract_lets -underBinder +onlyGivenNames v24
  (clear_value v24; revert v24; refine Kept.seal ?_; intro v24)
  extract_lets -underBinder +onlyGivenNames v25
  (clear_value v25; revert v25; refine Kept.seal ?_; intro v25)
  extract_lets -underBinder +onlyGivenNames v26
  have h27 : KeptLP M s0 v26 := by
    unfold v26
    refine kept_loads_get (hm.sub rfl) ?_
    refine kept_close_loads (hm.sub rfl) ?_
    exact h0
  (clear_value v26; revert v26; refine Kept.seal ?_; intro v26 h27)
  extract_lets -underBinder +onlyGivenNames v28
  have h29 : KeptLP M s0 v28 := by
    unfold v28
    refine keptlp_ite ?_ ?_
    · refine kept_loads_get (hm.sub rfl) ?_
      exact (KeptLP.st h27)
    · refine KeptLP.pair ?_
      exact (KeptLP.st h27)
  (clear_value v28; revert v28; refine Kept.seal ?_; intro v28 h29)
  extract_lets -underBinder +onlyGivenNames v30
  (clear_value v30; revert v30; refine Kept.seal ?_; intro v30)
  extract_lets -underBinder +onlyGivenNames v31
  have h32 : KeptLP M s0 v31 := by
    unfold v31
    refine keptlp_ite ?_ ?_
    · refine KeptLP.pair ?_
      exact (KeptLP.st h29)
    · refine kept_loads_get (hm.sub rfl) ?_
      exact (KeptLP.st h29)
  (clear_value v31; revert v31; refine Kept.seal ?_; intro v31 h32)
  extract_lets -underBinder +onlyGivenNames v33
  have h34 : KeptLP M s0 v33 := by
    unfold v33
    refine keptlp_ite ?_ ?_
    · refine kept_loads_get (hm.sub rfl) ?_
      exact (KeptLP.st h32)
    · refine KeptLP.pair ?_
      exact (KeptLP.st h32)
  (clear_value v33; revert v33; refine Kept.seal ?_; intro v33 h34)
  extract_lets -underBinder +onlyGivenNames v35
  have h36 : KeptLP M s0 v35 := by
    unfold v35
    refine kept_loads_get (hm.sub rfl) ?_
    exact (KeptLP.st h34)
  (clear_value v35; revert v35; refine Kept.seal ?_; intro v35 h36)
  extract_lets -underBinder +onlyGivenNames v37
  (clear_value v37; revert v37; refine Kept.seal ?_; intro v37)
  extract_lets -underBinder +onlyGivenNames v38
  (clear_value v38; revert v38; refine Kept.seal ?_; intro v38)
  extract_lets -underBinder +onlyGivenNames v39
  (clear_value v39; revert v39; refine Kept.seal ?_; intro v39)
  extract_lets -underBinder +onlyGivenNames v40
  (clear_value v40; revert v40; refine Kept.seal ?_; intro v40)
  extract_lets -underBinder +onlyGivenNames v41
  (clear_value v41; revert v41; refine Kept.seal ?_; intro v41)
  extract_lets -underBinder +onlyGivenNames v42
  (clear_value v42; revert v42; refine Kept.seal ?_; intro v42)
  extract_lets -underBinder +onlyGivenNames v43
  have h44 : KeptP M s0 v43 := by
    unfold v43
    refine kept_putAll (hm.sub rfl) ?_
    exact (KeptLoads.st (KeptLP.st h36))
  (clear_value v43; revert v43; refine Kept.seal ?_; intro v43 h44)
  extract_lets -underBinder +onlyGivenNames v45
  have h46 : KeptWeightsOut M s0 v45 := by
    unfold v45
    refine kept_writeWeights (hm.sub rfl) ?_
    exact (KeptP.st h44)
  (clear_value v45; revert v45; refine Kept.seal ?_; intro v45 h46)
  extract_lets -underBinder +onlyGivenNames v47
  (clear_value v47; revert v47; refine Kept.seal ?_; intro v47)
  extract_lets -underBinder +onlyGivenNames v48
  have h49 : Kept M s0 v48 := by
    unfold v48
    refine kept_entryTail (hm.sub rfl) ?_
    exact (KeptWeightsOut.st h46)
  (clear_value v48; revert v48; refine Kept.seal ?_; intro v48 h49)
  extract_lets -underBinder +onlyGivenNames v50
  (clear_value v50; revert v50; refine Kept.seal ?_; intro v50)
  show Kept M s0 _
  dsimp only
  exact h49

theorem kept_close_visit {c : CloseAcc} {m : Bytes} {x : ExpEntry} {r : Running} {hyper : Src} {lost : List ℕ} {nan : ℕ} {n : ℕ} {k : Consumer} (hm : Within 0x200000000000700902020708c000197700060000000000000189b11de027e M) (h0 : KeptCloseAcc M s0 c) :
    KeptCloseAcc M s0 (CloseAcc.visit c m x r hyper lost nan n k) := by
  unfold CloseAcc.visit
  extract_lets -underBinder +onlyGivenNames v20
  (clear_value v20; revert v20; refine Kept.seal ?_; intro v20)
  extract_lets -underBinder +onlyGivenNames v21
  have h22 : KeptLP M s0 v21 := by
    unfold v21
    refine kept_loads_get (hm.sub rfl) ?_
    refine kept_close_loads (hm.sub rfl) ?_
    exact h0
  (clear_value v21; revert v21; refine Kept.seal ?_; intro v21 h22)
  extract_lets -underBinder +onlyGivenNames v23
  (clear_value v23; revert v23; refine Kept.seal ?_; intro v23)
  extract_lets -underBinder +onlyGivenNames v24
  have h25 : KeptCloseAcc M s0 v24 := by
    unfold v24
    show Kept M s0 _
    dsimp only
    exact (KeptLoads.st (KeptLP.st h22))
  (clear_value v24; revert v24; refine Kept.seal ?_; intro v24 h25)
  refine keptCloseAcc_ite ?_ ?_
  · refine kept_close_init (hm.sub rfl) ?_
    exact h0
  · refine keptCloseAcc_ite ?_ ?_
    · refine kept_close_weightsOnly (hm.sub rfl) ?_
      exact h0
    · refine keptCloseAcc_ite ?_ ?_
      · exact h25
      · refine keptCloseAcc_ite ?_ ?_
        · extract_lets -underBinder +onlyGivenNames v26
          have h27 : Kept M s0 v26 := by
            unfold v26
            refine kept_entryTail (hm.sub rfl) ?_
            exact (KeptCloseAcc.st h25)
          (clear_value v26; revert v26; refine Kept.seal ?_; intro v26 h27)
          show Kept M s0 _
          dsimp only
          refine kept_poisonNamed (hm.sub rfl) ?_
          exact h27
        · refine kept_close_optimise (hm.sub rfl) ?_
          exact h25

theorem kept_expClose {s : State} {n : ℕ} {r : Running} {m : Bytes} {es : List ExpEntry} {lost : List ℕ} (hm : Within 0x200000000000700902020708c000197700060000000000000189b11de027e M) (h0 : Kept M s0 s) :
    KeptX M s0 (State.expClose s n r m es lost) := by
  unfold State.expClose
  extract_lets -underBinder +onlyGivenNames v20
  (clear_value v20; revert v20; refine Kept.seal ?_; intro v20)
  extract_lets -underBinder +onlyGivenNames v21
  have h22 : KeptLP M s0 v21 := by
    unfold v21
    refine kept_loads_get (hm.sub rfl) ?_
    refine Kept.loads ?_
    exact h0
  (clear_value v21; revert v21; refine Kept.seal ?_; intro v21 h22)
  extract_lets -underBinder +onlyGivenNames v23
  (clear_value v23; revert v23; refine Kept.seal ?_; intro v23)
  extract_lets -underBinder +onlyGivenNames v24
  have h25 : KeptCloseAcc M s0 v24 := by
    unfold v24
    show Kept M s0 _
    dsimp only
    refine kept_bump (hm.sub rfl) ?_
    exact (KeptLoads.st (KeptLP.st h22))
  (clear_value v24; revert v24; refine Kept.seal ?_; intro v24 h25)
  extract_lets -underBinder +onlyGivenNames v26
  have h27 : KeptCloseAcc M s0 v26 := by
    unfold v26
    refine keptCloseAcc_foldl ?_ ?_
    · intro y28 y29 h30
      refine kept_close_visit (hm.sub rfl) ?_
      exact h30
    · exact h25
  (clear_value v26; revert v26; refine Kept.seal ?_; intro v26 h27)
  (generalize q32 : (v26.wait) = x31; revert x31; refine Kept.seal ?_; intro x31 q32)
  (generalize q34 : (v26.held) = x33; revert x33; refine Kept.seal ?_; intro x33 q34)
  split
  · rename_i w35 w36 w37
    exact keptx_error
  · rename_i w38 w39
    exact keptx_error
  · rename_i w40 w41
    extract_lets -underBinder +onlyGivenNames v42
    (clear_value v42; revert v42; refine Kept.seal ?_; intro v42)
    extract_lets -underBinder +onlyGivenNames v43
    have h44 : Kept M s0 v43 := by
      unfold v43
      refine kept_writeRange (hm.sub rfl) ?_
      exact (KeptCloseAcc.st h27)
    (clear_value v43; revert v43; refine Kept.seal ?_; intro v43 h44)
    refine keptx_ok ?_
    show Kept M s0 _
    dsimp only
    exact h44

theorem kept_svcEnd {b0 : State} {n : ℕ} {r : Running} {time : KernelTime} {d : SvcDone} (hm : Within 0x108020000049241ea200000000000720902020708c000197701c60002200000000189b5dde0bfe M) (h0 : Kept M s0 b0) (h1 : KeptSvcDone M s0 d) :
    Kept M s0 (State.svcEnd b0 n r time d) := by
  unfold State.svcEnd
  extract_lets -underBinder +onlyGivenNames v20
  have h21 : KeptP M s0 v20 := by
    unfold v20
    refine kept_kernelPoison (hm.sub rfl) ?_
    exact (KeptSvcDone.st h1)
  (clear_value v20; revert v20; refine Kept.seal ?_; intro v20 h21)
  extract_lets -underBinder +onlyGivenNames v22
  (clear_value v22; revert v22; refine Kept.seal ?_; intro v22)
  extract_lets -underBinder +onlyGivenNames v23
  (clear_value v23; revert v23; refine Kept.seal ?_; intro v23)
  (generalize q25 : (v20.1.kernelOutputs n v23 { dataAddr := d.dataAddr, dataLen := d.dataLen, time := time }) = x24; revert x24; refine Kept.seal ?_; intro x24 q25)
  have h26 : KeptP M s0 x24 := by
    rw [← q25]
    refine kept_kernelOutputs (hm.sub rfl) ?_
    exact (KeptP.st h21)
  split
  · rename_i w27 w28
    refine kept_retry (hm.sub rfl) ?_ ?_
    · exact h0
    · exact (KeptP.st h26)
  · rename_i w29 w30 w31
    refine kept_kernelEnd (hm.sub rfl) ?_
    exact (KeptP.st h26)

theorem kept_svcBody {s : State} {kind : SvcKind} {n : ℕ} {r : Running} {m : Bytes} {es : List ExpEntry} {headBad : Bool} {lost : List ℕ} (hm : Within 0x200000000000700902020708c000197700060000000000000189b11de027e M) (h0 : Kept M s0 s) :
    KeptX M s0 (State.svcBody s kind n r m es headBad lost) := by
  unfold State.svcBody
  extract_lets -underBinder +onlyGivenNames v20
  (clear_value v20; revert v20; refine Kept.seal ?_; intro v20)
  split
  · rename_i w21
    refine kept_expFwd (hm.sub rfl) ?_
    exact h0
  · rename_i w22
    refine kept_expBwd (hm.sub rfl) ?_
    exact h0
  · rename_i w23
    refine kept_expClose (hm.sub rfl) ?_
    exact h0

theorem kept_svcWork {s : State} {kind : SvcKind} {n : ℕ} {r : Running} {m : Bytes} {es : List ExpEntry} {headBad : Bool} {lost : List ℕ} {time : KernelTime} (hm : Within 0x108020000049241ea200000000000720902020708c000197701c60002200000000189b5dde0bfe M) (h0 : Kept M s0 s) :
    Kept M s0 (State.svcWork s kind n r m es headBad lost time) := by
  have hb : KeptX M s0 (s.svcBody kind n r m es headBad lost) := kept_svcBody (hm.sub rfl) h0
  unfold State.svcWork
  (generalize s.svcBody kind n r m es headBad lost = x at hb; revert hb; refine Kept.seal ?_; intro hb)
  cases x with
  | error t =>
    unfold State.retry
    exact Kept.in_integ (hm.bit 18 rfl) h0 Kept.seal Kept.seal
  | ok d =>
    dsimp only
    have h3 : KeptSvcDone M s0 d := KeptX.get hb
    refine kept_svcEnd (hm.sub rfl) h0 ?_
    exact h3

theorem kept_postPartners {s : State} {n : ℕ} {r : Running} {m : Bytes} {es : List ExpEntry} {ps : List ℕ} {plans : List (ℕ × ℕ)} (hm : Within 0x48000000000000000007000000000000000010700000000000000000109a01042202 M) (h0 : Kept M s0 s) :
    KeptO M s0 (State.postPartners s n r m es ps plans) := by
  unfold State.postPartners
  refine kepto_ite ?_ ?_
  · exact kepto_none
  · extract_lets -underBinder +onlyGivenNames v20
    (clear_value v20; revert v20; refine Kept.seal ?_; intro v20)
    extract_lets -underBinder +onlyGivenNames v21
    have h22 : Kept M s0 v21 := by
      unfold v21
      refine kept_ite ?_ ?_
      · refine Kept.setF (hm.bit 1 rfl) (reach_SLOT_BARRIER (hm.bit 270 rfl)) ?_
        exact h0
      · exact h0
    (clear_value v21; revert v21; refine Kept.seal ?_; intro v21 h22)
    extract_lets -underBinder +onlyGivenNames v23
    (clear_value v23; revert v23; refine Kept.seal ?_; intro v23)
    extract_lets -underBinder +onlyGivenNames v24
    (clear_value v24; revert v24; refine Kept.seal ?_; intro v24)
    extract_lets -underBinder +onlyGivenNames v25
    have h26 : Kept M s0 v25 := by
      unfold v25
      refine kept_setCore (hm.sub rfl) ?_
      exact h22
    (clear_value v25; revert v25; refine Kept.seal ?_; intro v25 h26)
    refine kepto_some ?_
    refine kept_forEach ?_ ?_
    · intro y27 y28 h29
      extract_lets -underBinder +onlyGivenNames v30
      (clear_value v30; revert v30; refine Kept.seal ?_; intro v30)
      extract_lets -underBinder +onlyGivenNames v31
      (clear_value v31; revert v31; refine Kept.seal ?_; intro v31)
      refine kept_ite ?_ ?_
      · refine kept_discardEntry (hm.sub rfl) ?_
        exact h29
      · refine kept_getD ?_ ?_
        · refine kept_dqPost (hm.sub rfl) ?_
          exact h29
        · exact h29
    · exact h26

theorem kept_svcRun {s : State} {kind : SvcKind} {n : ℕ} {plans : List (ℕ × ℕ)} {time : KernelTime} (hm : Within 0x108020000049241ea200000000000720902020708c000197701c60002200000000189b5dde2bfe M) (h0 : Kept M s0 s) :
    Kept M s0 (State.svcRun s kind n plans time) := by
  unfold State.svcRun
  (generalize q21 : (s.svcRunning kind n) = x20; revert x20; refine Kept.seal ?_; intro x20 q21)
  split
  · rename_i w22
    exact h0
  · rename_i w23 w24
    refine kept_ite ?_ ?_
    · exact h0
    · (generalize q26 : (s.svcCheck kind n w24) = x25; revert x25; refine Kept.seal ?_; intro x25 q26)
      split
      · rename_i w27 w28
        refine kept_readWaits (hm.sub rfl) ?_
        exact h0
      · rename_i w29 w30
        extract_lets -underBinder +onlyGivenNames v31
        have h32 : Kept M s0 v31 := by
          unfold v31
          refine kept_poisonConsumed (hm.sub rfl) ?_
          exact h0
        (clear_value v31; revert v31; refine Kept.seal ?_; intro v31 h32)
        refine kept_kernelFinish (hm.sub rfl) ?_
        exact h32
      · rename_i w33 w34 w35
        refine kept_kernelFinish (hm.sub rfl) ?_
        refine kept_ledger (hm.sub rfl) ?_
        exact h0
      · rename_i w36 w37 w38 w39
        refine kept_ite ?_ ?_
        · refine kept_svcWork (hm.sub rfl) ?_
          exact h0
        · refine kept_getD ?_ ?_
          · refine kept_postPartners (hm.sub rfl) ?_
            exact h0
          · exact h0

theorem kept_svcCombine {s : State} {n : ℕ} {time : KernelTime} (hm : Within 0x108020000049241ea200000000000720902020708c000197701c60002200000000189b5dde0bfe M) (h0 : Kept M s0 s) :
    Kept M s0 (State.svcCombine s n time) := by
  unfold State.svcCombine
  (generalize q21 : ((s.core n).running) = x20; revert x20; refine Kept.seal ?_; intro x20 q21)
  split
  · rename_i w22
    exact h0
  · rename_i w23 w24
    (generalize q26 : (w24.exp) = x25; revert x25; refine Kept.seal ?_; intro x25 q26)
    (generalize q28 : (Sys2Proof.Machine.svcKindOf (Sys2Proof.Machine.kdKernel w24.desc)) = x27; revert x27; refine Kept.seal ?_; intro x27 q28)
    split
    · rename_i w29 w30 w31 w32
      refine kept_ite ?_ ?_
      · exact h0
      · extract_lets -underBinder +onlyGivenNames v33
        have h34 : KeptLP M s0 v33 := by
          unfold v33
          refine kept_loads_get (hm.sub rfl) ?_
          refine Kept.loads ?_
          exact h0
        (clear_value v33; revert v33; refine Kept.seal ?_; intro v33 h34)
        refine kept_svcWork (hm.sub rfl) ?_
        exact h0
    · rename_i w35 w36 w37
      exact h0

theorem kept_execExpFwd {n : Fin 16} {plans : List (ℕ × ℕ)} {time : KernelTime} {s : State} (hm : Within 0x108020000049241ea200000000000720902020708c000197701c60002200000000189b5dde2bfe M) (h0 : Kept M s0 s) :
    KeptE M s0 (execExpFwd n plans time s) := by
  unfold execExpFwd
  refine kepte_next ?_
  refine kept_underCore (hm.sub rfl) ?_ ?_
  · exact h0
  · intro y20 h21
    refine kept_svcRun (hm.sub rfl) ?_
    exact h21

theorem kept_execExpBwd {n : Fin 16} {plans : List (ℕ × ℕ)} {time : KernelTime} {s : State} (hm : Within 0x108020000049241ea200000000000720902020708c000197701c60002200000000189b5dde2bfe M) (h0 : Kept M s0 s) :
    KeptE M s0 (execExpBwd n plans time s) := by
  unfold execExpBwd
  refine kepte_next ?_
  refine kept_underCore (hm.sub rfl) ?_ ?_
  · exact h0
  · intro y20 h21
    refine kept_svcRun (hm.sub rfl) ?_
    exact h21

theorem kept_execExpClose {n : Fin 16} {plans : List (ℕ × ℕ)} {time : KernelTime} {s : State} (hm : Within 0x108020000049241ea200000000000720902020708c000197701c60002200000000189b5dde2bfe M) (h0 : Kept M s0 s) :
    KeptE M s0 (execExpClose n plans time s) := by
  unfold execExpClose
  refine kepte_next ?_
  refine kept_underCore (hm.sub rfl) ?_ ?_
  · exact h0
  · intro y20 h21
    refine kept_svcRun (hm.sub rfl) ?_
    exact h21

theorem kept_execExpGroupCombine {n : Fin 16} {time : KernelTime} {s : State} (hm : Within 0x108020000049241ea200000000000720902020708c000197701c60002200000000189b5dde0bfe M) (h0 : Kept M s0 s) :
    KeptE M s0 (execExpGroupCombine n time s) := by
  unfold execExpGroupCombine
  refine kepte_next ?_
  refine kept_underCore (hm.sub rfl) ?_ ?_
  · exact h0
  · intro y20 h21
    refine kept_svcCombine (hm.sub rfl) ?_
    exact h21

end Sys2Proof.Machine
end

