-- ==== Sys2Proof/Laws/Kept/Jx.lean ====
section
/-! SUPPORT. What the operations of Jx may write: each keeps its footprint. -/

namespace Sys2Proof.Machine

variable {M : Nat} {s0 : State}

theorem kept_extentEcc {s : State} {i : ℕ} (hm : Within 0x200000000007000000000000000010700000000000000000109a80040202 M) (h0 : Kept M s0 s) :
    Kept M s0 (State.extentEcc s i) := by
  unfold State.extentEcc
  refine kept_extentRevoke (hm.sub rfl) ?_
  refine kept_ledger (hm.sub rfl) ?_
  exact h0

theorem kept_applyEnv {s : State} {tag : Tag} {env : AccessEnv} (hm : Within 0x200000000007000020200080400011700000000000000000109a800c0202 M) (h0 : Kept M s0 s) :
    Kept M s0 (State.applyEnv s tag env) := by
  unfold State.applyEnv
  extract_lets -underBinder +onlyGivenNames v20
  have h21 : Kept M s0 v20 := by
    unfold v20
    refine kept_forEach ?_ ?_
    · intro y22 y23 h24
      refine kept_activate (hm.sub rfl) ?_
      exact h24
    · exact h0
  (clear_value v20; revert v20; refine Kept.seal ?_; intro v20 h21)
  extract_lets -underBinder +onlyGivenNames v25
  have h26 : Kept M s0 v25 := by
    unfold v25
    refine kept_forEach ?_ ?_
    · intro y27 y28 h29
      refine kept_latMiss (hm.sub rfl) ?_
      exact h29
    · exact h21
  (clear_value v25; revert v25; refine Kept.seal ?_; intro v25 h26)
  extract_lets -underBinder +onlyGivenNames v30
  have h31 : Kept M s0 v30 := by
    unfold v30
    refine kept_forEach ?_ ?_
    · intro y32 y33 h34
      refine kept_slotDamaged (hm.sub rfl) ?_
      exact h34
    · exact h26
  (clear_value v30; revert v30; refine Kept.seal ?_; intro v30 h31)
  extract_lets -underBinder +onlyGivenNames v35
  have h36 : Kept M s0 v35 := by
    unfold v35
    refine kept_ite ?_ ?_
    · exact h31
    · refine Kept.addF (hm.bit 1 rfl) (reach_LDG_SECDED_CE (hm.bit 120 rfl)) ?_
      exact h31
  (clear_value v35; revert v35; refine Kept.seal ?_; intro v35 h36)
  refine kept_forEach ?_ ?_
  · intro y37 y38 h39
    refine kept_extentEcc (hm.sub rfl) ?_
    exact h39
  · exact h36

theorem kept_readGives {s : State} {o : OpenReq} {data : Bytes} {bad : List ℕ} {first : Option PA} (hm : Within 0x7000000000000000016700000000000000000109a00040202 M) (h0 : Kept M s0 s) :
    KeptP M s0 (State.readGives s o data bad first) := by
  unfold State.readGives
  refine keptp_ite ?_ ?_
  · refine Kept.pair ?_
    exact h0
  · extract_lets -underBinder +onlyGivenNames v20
    (clear_value v20; revert v20; refine Kept.seal ?_; intro v20)
    refine Kept.pair ?_
    refine kept_poisonConsumed (hm.sub rfl) ?_
    exact h0

theorem kept_readHeld {s : State} {o : OpenReq} {r : AnyRead} (hm : Within 0x40000 M) (h0 : Kept M s0 s) :
    KeptP M s0 (State.readHeld s o r) := by
  unfold State.readHeld
  (generalize q21 : (r.repair) = x20; revert x20; refine Kept.seal ?_; intro x20 q21)
  split
  · rename_i w22 w23
    refine Kept.pair ?_
    refine kept_startRepair (hm.sub rfl) ?_
    exact h0
  · rename_i w24
    refine Kept.pair ?_
    exact h0

theorem kept_readPass {s : State} {o : OpenReq} {x : TileRef} (hm : Within 0x7000020207000000197700000000000000000189a000e027e M) (h0 : Kept M s0 s) :
    KeptP M s0 (State.readPass s o x) := by
  unfold State.readPass
  (generalize q21 : (s.storedTile x (o.consumer 1)) = x20; revert x20; refine Kept.seal ?_; intro x20 q21)
  have h22 : KeptP M s0 x20 := by
    rw [← q21]
    refine kept_storedTile (hm.sub rfl) ?_
    exact h0
  split
  · rename_i w23 w24 w25 w26 w27
    refine kept_readGives (hm.sub rfl) ?_
    exact (KeptP.st h22)
  · rename_i w28 w29
    refine Kept.pair ?_
    exact (KeptP.st h22)
  · rename_i w30 w31 w32
    refine Kept.pair ?_
    refine kept_startRepair (hm.sub rfl) ?_
    exact (KeptP.st h22)

theorem kept_readTile {s : State} {o : OpenReq} {x : TileRef} (hm : Within 0x700002020700c000197700000000000000000189a00ce027e M) (h0 : Kept M s0 s) :
    KeptP M s0 (State.readTile s o x) := by
  unfold State.readTile
  extract_lets -underBinder +onlyGivenNames v20
  (clear_value v20; revert v20; refine Kept.seal ?_; intro v20)
  extract_lets -underBinder +onlyGivenNames v21
  (clear_value v21; revert v21; refine Kept.seal ?_; intro v21)
  (generalize q23 : (s.decodeTile x v20 (Option.some o.die)) = x22; revert x22; refine Kept.seal ?_; intro x22 q23)
  have h24 : KeptP M s0 x22 := by
    rw [← q23]
    refine kept_decodeTile (hm.sub rfl) ?_
    exact h0
  split
  · rename_i w25 w26 w27 w28 w29 w30
    extract_lets -underBinder +onlyGivenNames v31
    (clear_value v31; revert v31; refine Kept.seal ?_; intro v31)
    extract_lets -underBinder +onlyGivenNames v32
    (clear_value v32; revert v32; refine Kept.seal ?_; intro v32)
    extract_lets -underBinder +onlyGivenNames v33
    (clear_value v33; revert v33; refine Kept.seal ?_; intro v33)
    refine kept_readGives (hm.sub rfl) ?_
    exact (KeptP.st h24)
  · rename_i w34 w35
    refine Kept.pair ?_
    exact (KeptP.st h24)
  · rename_i w36 w37 w38
    refine Kept.pair ?_
    exact (KeptP.st h24)
  · rename_i w39 w40 w41
    refine Kept.pair ?_
    refine kept_startRepair (hm.sub rfl) ?_
    exact (KeptP.st h24)

theorem kept_readPlain {s : State} {o : OpenReq} {again : Bool} (hm : Within 0x7000020207000000196700000000000000000109a000e0236 M) (h0 : Kept M s0 s) :
    KeptP M s0 (State.readPlain s o again) := by
  unfold State.readPlain
  extract_lets -underBinder +onlyGivenNames v20
  (clear_value v20; revert v20; refine Kept.seal ?_; intro v20)
  extract_lets -underBinder +onlyGivenNames v21
  have h22 : KeptP M s0 v21 := by
    unfold v21
    refine keptp_ite ?_ ?_
    · refine keptp_foldl ?_ ?_
      · intro y23 y24 h25
        refine kept_readPiece (hm.sub rfl) ?_
        exact h25
      · refine Kept.pair ?_
        exact h0
    · refine kept_readRange (hm.sub rfl) ?_
      exact h0
  (clear_value v21; revert v21; refine Kept.seal ?_; intro v21 h22)
  extract_lets -underBinder +onlyGivenNames v26
  (clear_value v26; revert v26; refine Kept.seal ?_; intro v26)
  (generalize q28 : (v21.2.repair) = x27; revert x27; refine Kept.seal ?_; intro x27 q28)
  (generalize q30 : (v21.2.refetch) = x29; revert x29; refine Kept.seal ?_; intro x29 q30)
  split
  · rename_i w31 w32
    refine kept_readGives (hm.sub rfl) ?_
    exact (KeptP.st h22)
  · rename_i w33 w34 w35
    refine kept_readHeld (hm.sub rfl) ?_
    exact (KeptP.st h22)

theorem kept_serveRead {s : State} {o : OpenReq} {again : Bool} (hm : Within 0x720002020700c000197700000000000000000189a00ceca7e M) (h0 : Kept M s0 s) :
    KeptP M s0 (State.serveRead s o again) := by
  unfold State.serveRead
  extract_lets -underBinder +onlyGivenNames v20
  (clear_value v20; revert v20; refine Kept.seal ?_; intro v20)
  refine keptp_ite ?_ ?_
  · refine Kept.pair ?_
    exact h0
  · refine keptp_ite ?_ ?_
    · refine Kept.pair ?_
      exact h0
    · refine keptp_ite ?_ ?_
      · (generalize q22 : (s.mirror) = x21; revert x21; refine Kept.seal ?_; intro x21 q22)
        split
        · rename_i w23 w24
          refine Kept.pair ?_
          refine kept_ownRead (hm.sub rfl) ?_
          exact h0
        · rename_i w25
          refine Kept.pair ?_
          exact h0
      · (generalize q27 : (s.tileOf v20.addr) = x26; revert x26; refine Kept.seal ?_; intro x26 q27)
        split
        · rename_i w28 w29
          refine keptp_ite ?_ ?_
          · refine kept_readPass (hm.sub rfl) ?_
            exact h0
          · refine kept_readTile (hm.sub rfl) ?_
            exact h0
        · rename_i w30
          refine kept_readPlain (hm.sub rfl) ?_
          exact h0

theorem kept_writePlain {s : State} {o : OpenReq} (hm : Within 0x2000000000007008020207000000190700000000000000000109a101e027e M) (h0 : Kept M s0 s) :
    KeptP M s0 (State.writePlain s o) := by
  unfold State.writePlain
  extract_lets -underBinder +onlyGivenNames v20
  (clear_value v20; revert v20; refine Kept.seal ?_; intro v20)
  extract_lets -underBinder +onlyGivenNames v21
  have h22 : Kept M s0 v21 := by
    unfold v21
    refine kept_writeRange (hm.sub rfl) ?_
    exact h0
  (clear_value v21; revert v21; refine Kept.seal ?_; intro v21 h22)
  refine Kept.pair ?_
  refine kept_forEach ?_ ?_
  · intro y23 y24 h25
    refine kept_poisonPool (hm.sub rfl) ?_
    exact h25
  · exact h22

theorem kept_writeTileReq {s : State} {o : OpenReq} {x : TileRef} (hm : Within 0x200000000000700802020708c000191700000000000000000189b10de027e M) (h0 : Kept M s0 s) :
    KeptP M s0 (State.writeTileReq s o x) := by
  unfold State.writeTileReq
  extract_lets -underBinder +onlyGivenNames v20
  (clear_value v20; revert v20; refine Kept.seal ?_; intro v20)
  extract_lets -underBinder +onlyGivenNames v21
  (clear_value v21; revert v21; refine Kept.seal ?_; intro v21)
  (generalize q23 : (s.readDir x v21) = x22; revert x22; refine Kept.seal ?_; intro x22 q23)
  have h24 : KeptP M s0 x22 := by
    rw [← q23]
    refine kept_readDir (hm.sub rfl) ?_
    exact h0
  split
  · rename_i w25 w26 w27
    refine Kept.pair ?_
    refine kept_startRepair (hm.sub rfl) ?_
    exact (KeptP.st h24)
  · rename_i w28 w29 w30
    refine Kept.pair ?_
    exact (KeptP.st h24)
  · rename_i w31 w32 w33
    (generalize q35 : (w33.state) = x34; revert x34; refine Kept.seal ?_; intro x34 q35)
    split
    · rename_i w36
      refine Kept.pair ?_
      exact (KeptP.st h24)
    · rename_i w37
      extract_lets -underBinder +onlyGivenNames v38
      (clear_value v38; revert v38; refine Kept.seal ?_; intro v38)
      refine keptp_ite ?_ ?_
      · refine Kept.pair ?_
        exact (KeptP.st h24)
      · (generalize q40 : (w32.grainHeld v38 v20.len) = x39; revert x39; refine Kept.seal ?_; intro x39 q40)
        split
        · rename_i w41 w42
          refine Kept.pair ?_
          exact (KeptP.st h24)
        · rename_i w43
          refine Kept.pair ?_
          refine KeptP.st ?_
          refine kept_writeTile (hm.sub rfl) ?_
          exact (KeptP.st h24)
    · rename_i w44 w45 w46
      refine Kept.pair ?_
      exact (KeptP.st h24)

theorem kept_writeMirrored {s : State} {o : OpenReq} (hm : Within 0x1a00000000000700902020708c000191700000000000000000189b10de227e M) (h0 : Kept M s0 s) :
    KeptQ M s0 (State.writeMirrored s o) := by
  unfold State.writeMirrored
  extract_lets -underBinder +onlyGivenNames v20
  (clear_value v20; revert v20; refine Kept.seal ?_; intro v20)
  extract_lets -underBinder +onlyGivenNames v21
  (clear_value v21; revert v21; refine Kept.seal ?_; intro v21)
  refine keptq_ite ?_ ?_
  · refine keptq_some ?_
    refine Kept.pair ?_
    exact h0
  · refine keptq_ite ?_ ?_
    · refine keptq_some ?_
      refine Kept.pair ?_
      exact h0
    · refine keptq_ite ?_ ?_
      · extract_lets -underBinder +onlyGivenNames v22
        (clear_value v22; revert v22; refine Kept.seal ?_; intro v22)
        refine keptq_ite ?_ ?_
        · refine keptq_some ?_
          refine Kept.pair ?_
          exact h0
        · extract_lets -underBinder +onlyGivenNames v23
          (clear_value v23; revert v23; refine Kept.seal ?_; intro v23)
          extract_lets -underBinder +onlyGivenNames v24
          (clear_value v24; revert v24; refine Kept.seal ?_; intro v24)
          refine keptq_some ?_
          refine Kept.pair ?_
          refine kept_mirrorStart (hm.sub rfl) ?_
          exact h0
      · exact keptq_none

theorem kept_serveWrite {s : State} {o : OpenReq} (hm : Within 0x1a00000000000700902020708c000191700000000000000000189b10de227e M) (h0 : Kept M s0 s) :
    KeptP M s0 (State.serveWrite s o) := by
  unfold State.serveWrite
  extract_lets -underBinder +onlyGivenNames v20
  (clear_value v20; revert v20; refine Kept.seal ?_; intro v20)
  extract_lets -underBinder +onlyGivenNames v21
  (clear_value v21; revert v21; refine Kept.seal ?_; intro v21)
  extract_lets -underBinder +onlyGivenNames v22
  (clear_value v22; revert v22; refine Kept.seal ?_; intro v22)
  refine keptp_ite ?_ ?_
  · refine Kept.pair ?_
    exact h0
  · refine keptp_ite ?_ ?_
    · refine Kept.pair ?_
      exact h0
    · refine keptp_ite ?_ ?_
      · refine Kept.pair ?_
        exact h0
      · (generalize q24 : (s.grainHeld v21 v20.len) = x23; revert x23; refine Kept.seal ?_; intro x23 q24)
        split
        · rename_i w25 w26
          refine Kept.pair ?_
          exact h0
        · rename_i w27
          (generalize q29 : (if Sys2Proof.Machine.spaceOf v21 ≤ 2 ∧ s.touchesMirror v21 v20.len = Bool.true then s.writeMirrored o else Option.none) = x28; revert x28; refine Kept.seal ?_; intro x28 q29)
          have h30 : KeptQ M s0 x28 := by
            rw [← q29]
            refine keptq_ite ?_ ?_
            · refine kept_writeMirrored (hm.sub rfl) ?_
              exact h0
            · exact keptq_none
          split
          · rename_i w31 w32
            exact (KeptQ.get rfl h30)
          · rename_i w33
            (generalize q35 : (s.tileOf v21) = x34; revert x34; refine Kept.seal ?_; intro x34 q35)
            split
            · rename_i w36 w37
              refine kept_writeTileReq (hm.sub rfl) ?_
              exact h0
            · rename_i w38
              refine kept_writePlain (hm.sub rfl) ?_
              exact h0

theorem kept_serveControl {s : State} {o : OpenReq} (hm : Within 0x1888bdc9824db50246602311589157b191343077ec40099171037f8272714ca00019bffffffffe M) (h0 : Kept M s0 s) :
    KeptP M s0 (State.serveControl s o) := by
  unfold State.serveControl
  extract_lets -underBinder +onlyGivenNames v20
  (clear_value v20; revert v20; refine Kept.seal ?_; intro v20)
  extract_lets -underBinder +onlyGivenNames v21
  (clear_value v21; revert v21; refine Kept.seal ?_; intro v21)
  refine keptp_ite ?_ ?_
  · extract_lets -underBinder +onlyGivenNames v22
    have h23 : KeptP M s0 v22 := by
      unfold v22
      refine kept_ctrlRead (hm.sub rfl) ?_
      exact h0
    (clear_value v22; revert v22; refine Kept.seal ?_; intro v22 h23)
    refine Kept.pair ?_
    exact (KeptP.st h23)
  · extract_lets -underBinder +onlyGivenNames v24
    have h25 : KeptP M s0 v24 := by
      unfold v24
      refine kept_ctrlWrite (hm.sub rfl) ?_
      exact h0
    (clear_value v24; revert v24; refine Kept.seal ?_; intro v24 h25)
    refine Kept.pair ?_
    exact (KeptP.st h25)

theorem kept_serveBar0 {s : State} {o : OpenReq} (hm : Within 0x1888bdc9824db50246602311589157b191343077ec40099171037f8272714ca00019bffffffffe M) (h0 : Kept M s0 s) :
    KeptP M s0 (State.serveBar0 s o) := by
  unfold State.serveBar0
  extract_lets -underBinder +onlyGivenNames v20
  (clear_value v20; revert v20; refine Kept.seal ?_; intro v20)
  extract_lets -underBinder +onlyGivenNames v21
  (clear_value v21; revert v21; refine Kept.seal ?_; intro v21)
  extract_lets -underBinder +onlyGivenNames v22
  (clear_value v22; revert v22; refine Kept.seal ?_; intro v22)
  refine keptp_ite ?_ ?_
  · refine Kept.pair ?_
    exact h0
  · refine keptp_ite ?_ ?_
    · refine Kept.pair ?_
      refine kept_ite ?_ ?_
      · refine kept_ctrlUnmapped (hm.sub rfl) ?_
        exact h0
      · exact h0
    · refine keptp_ite ?_ ?_
      · extract_lets -underBinder +onlyGivenNames v23
        have h24 : KeptP M s0 v23 := by
          unfold v23
          refine kept_ctrlRead (hm.sub rfl) ?_
          exact h0
        (clear_value v23; revert v23; refine Kept.seal ?_; intro v23 h24)
        refine Kept.pair ?_
        exact (KeptP.st h24)
      · extract_lets -underBinder +onlyGivenNames v25
        have h26 : KeptP M s0 v25 := by
          unfold v25
          refine kept_ctrlWrite (hm.sub rfl) ?_
          exact h0
        (clear_value v25; revert v25; refine Kept.seal ?_; intro v25 h26)
        refine Kept.pair ?_
        exact (KeptP.st h26)

theorem kept_serveSlot {s : State} {o : OpenReq} (hm : Within 0x1000000000000000000000000000000000000000000000000000000000000000002 M) (h0 : Kept M s0 s) :
    KeptP M s0 (State.serveSlot s o) := by
  unfold State.serveSlot
  extract_lets -underBinder +onlyGivenNames v20
  (clear_value v20; revert v20; refine Kept.seal ?_; intro v20)
  extract_lets -underBinder +onlyGivenNames v21
  (clear_value v21; revert v21; refine Kept.seal ?_; intro v21)
  refine keptp_ite ?_ ?_
  · (generalize q23 : (s.slotState v21) = x22; revert x22; refine Kept.seal ?_; intro x22 q23)
    split
    · rename_i w24
      refine Kept.pair ?_
      exact h0
    · rename_i w25
      refine Kept.pair ?_
      exact h0
    · rename_i w26 w27 w28
      extract_lets -underBinder +onlyGivenNames v29
      (clear_value v29; revert v29; refine Kept.seal ?_; intro v29)
      refine Kept.pair ?_
      exact h0
  · extract_lets -underBinder +onlyGivenNames v30
    have h31 : KeptP M s0 v30 := by
      unfold v30
      refine kept_slotRelease (hm.sub rfl) ?_
      exact h0
    (clear_value v30; revert v30; refine Kept.seal ?_; intro v30 h31)
    refine Kept.pair ?_
    exact (KeptP.st h31)

theorem kept_serveOnce {s : State} {o : OpenReq} {env : AccessEnv} {again : Bool} (hm : Within 0x1888bdc9824db5025e602311589157b191343077ec40099771037f8272714ca00019bffffffffe M) (h0 : Kept M s0 s) :
    KeptP M s0 (State.serveOnce s o env again) := by
  unfold State.serveOnce
  extract_lets -underBinder +onlyGivenNames v20
  (clear_value v20; revert v20; refine Kept.seal ?_; intro v20)
  extract_lets -underBinder +onlyGivenNames v21
  (clear_value v21; revert v21; refine Kept.seal ?_; intro v21)
  refine keptp_ite ?_ ?_
  · refine Kept.pair ?_
    exact h0
  · refine keptp_ite ?_ ?_
    · refine keptp_ite ?_ ?_
      · refine kept_serveBar0 (hm.sub rfl) ?_
        exact h0
      · refine kept_serveControl (hm.sub rfl) ?_
        exact h0
    · refine keptp_ite ?_ ?_
      · refine kept_serveSlot (hm.sub rfl) ?_
        exact h0
      · extract_lets -underBinder +onlyGivenNames v22
        have h23 : Kept M s0 v22 := by
          unfold v22
          refine kept_applyEnv (hm.sub rfl) ?_
          exact h0
        (clear_value v22; revert v22; refine Kept.seal ?_; intro v22 h23)
        refine keptp_ite ?_ ?_
        · refine Kept.pair ?_
          exact h23
        · refine keptp_ite ?_ ?_
          · refine Kept.pair ?_
            exact h23
          · refine keptp_ite ?_ ?_
            · refine Kept.pair ?_
              exact h23
            · refine keptp_ite ?_ ?_
              · refine Kept.pair ?_
                exact h23
              · refine keptp_ite ?_ ?_
                · refine kept_serveWrite (hm.sub rfl) ?_
                  exact h23
                · refine kept_serveRead (hm.sub rfl) ?_
                  exact h23

theorem kept_settle {s : State} {id : ℕ} {r : Served} (hm : Within 0x800720000000000000001070000000000000000018ba80041a02 M) (h0 : Kept M s0 s) :
    Kept M s0 (State.settle s id r) := by
  unfold State.settle
  (generalize q21 : (s.openAt id) = x20; revert x20; refine Kept.seal ?_; intro x20 q21)
  split
  · rename_i w22
    exact h0
  · rename_i w23 w24
    split
    · rename_i w25 w26 w27 w28
      refine kept_finish (hm.sub rfl) ?_
      exact h0
    · rename_i w29 w30 w31
      extract_lets -underBinder +onlyGivenNames v32
      have h33 : Kept M s0 v32 := by
        unfold v32
        refine kept_setWait (hm.sub rfl) ?_
        exact h0
      (clear_value v32; revert v32; refine Kept.seal ?_; intro v32 h33)
      refine kept_ite ?_ ?_
      · refine kept_deferNow (hm.sub rfl) ?_
        exact h33
      · exact h33

theorem kept_touchStart {s : State} {o : OpenReq} (hm : Within 0x20000 M) (h0 : Kept M s0 s) :
    Kept M s0 (State.touchStart s o) := by
  unfold State.touchStart
  refine Kept.in_canopy (hm.bit 17 rfl) ?_ (Kept.seal) (Kept.seal) (Kept.seal) (Kept.seal)
  exact h0

theorem kept_touchEnd {s : State} {id : ℕ} (hm : Within 0x21000 M) (h0 : Kept M s0 s) :
    Kept M s0 (State.touchEnd s id) := by
  unfold State.touchEnd
  extract_lets -underBinder +onlyGivenNames v20
  (clear_value v20; revert v20; refine Kept.seal ?_; intro v20)
  refine Kept.in_opens (x := { s with canopy := have __src := s.canopy;
{ lines := __src.lines, plru := __src.plru, pages := __src.pages, decayAt := __src.decayAt, tagCache := __src.tagCache, bypass := __src.bypass } }) (hm.bit 12 rfl) ?_ (fresh_map (fun o => by (try dsimp only); split <;> rfl))
  refine Kept.in_canopy (hm.bit 17 rfl) ?_ (Kept.seal) (Kept.seal) (Kept.seal) (Kept.seal)
  exact h0

theorem kept_attempt {s : State} {id : ℕ} {env : AccessEnv} {again : Bool} (hm : Within 0x1888bdc9824db5025e602311589157b191343077ec40099771037f8272714ca00019bffffffffe M) (h0 : Kept M s0 s) :
    Kept M s0 (State.attempt s id env again) := by
  unfold State.attempt
  (generalize q21 : (s.openAt id) = x20; revert x20; refine Kept.seal ?_; intro x20 q21)
  split
  · rename_i w22
    exact h0
  · rename_i w23 w24
    extract_lets -underBinder +onlyGivenNames v25
    (clear_value v25; revert v25; refine Kept.seal ?_; intro v25)
    refine kept_ite ?_ ?_
    · refine kept_settle (hm.sub rfl) ?_
      exact h0
    · extract_lets -underBinder +onlyGivenNames v26
      have h27 : KeptP M s0 v26 := by
        unfold v26
        refine kept_serveOnce (hm.sub rfl) ?_
        refine kept_touchStart (hm.sub rfl) ?_
        exact h0
      (clear_value v26; revert v26; refine Kept.seal ?_; intro v26 h27)
      refine kept_settle (hm.sub rfl) ?_
      refine kept_touchEnd (hm.sub rfl) ?_
      exact (KeptP.st h27)

theorem kept_writeAccepted {s : State} {k : ReqKind} {q : Req} (hm : Within 0x8000000000000000000000000000000000000000100002 M) (h0 : Kept M s0 s) :
    Kept M s0 (State.writeAccepted s k q) := by
  unfold State.writeAccepted
  refine kept_ite ?_ ?_
  · exact h0
  · refine kept_ite ?_ ?_
    · refine kept_ckptDestAccept (hm.sub rfl) ?_
      exact h0
    · refine kept_ite ?_ ?_
      · refine kept_ckptSource (hm.sub rfl) ?_
        exact h0
      · exact h0

theorem kept_firstAttempt {s : State} {id : ℕ} {k : ReqKind} {q : Req} {env : AccessEnv} (hm : Within 0x1888bdc9824db5025e602311589157b191343077ec40099771037f8272714ca00019bffffffffe M) (h0 : Kept M s0 s) :
    Kept M s0 (State.firstAttempt s id k q env) := by
  unfold State.firstAttempt
  extract_lets -underBinder +onlyGivenNames v20
  have h21 : Kept M s0 v20 := by
    unfold v20
    refine kept_attempt (hm.sub rfl) ?_
    exact h0
  (clear_value v20; revert v20; refine Kept.seal ?_; intro v20 h21)
  refine kept_ite ?_ ?_
  · refine kept_writeAccepted (hm.sub rfl) ?_
    exact h21
  · exact h21

theorem kept_decodeSpace {s : State} {k : ReqKind} {q : Req} {host : Bool} (hm : Within 0x7000000000000000010700000000000000000109a00040202 M) (h0 : Kept M s0 s) :
    KeptP M s0 (State.decodeSpace s k q host) := by
  unfold State.decodeSpace
  extract_lets -underBinder +onlyGivenNames v20
  (clear_value v20; revert v20; refine Kept.seal ?_; intro v20)
  extract_lets -underBinder +onlyGivenNames v21
  (clear_value v21; revert v21; refine Kept.seal ?_; intro v21)
  (generalize q23 : (Sys2Proof.Machine.spaceOf q.addr) = x22; revert x22; refine Kept.seal ?_; intro x22 q23)
  split
  · rename_i w24
    refine keptp_ite ?_ ?_
    · refine Kept.pair ?_
      exact h0
    · refine keptp_ite ?_ ?_
      · refine Kept.pair ?_
        exact h0
      · refine keptp_ite ?_ ?_
        · refine Kept.pair ?_
          exact h0
        · refine keptp_ite ?_ ?_
          · refine Kept.pair ?_
            exact h0
          · (generalize q26 : (List.find? (fun o ↦ !Sys2Proof.Machine.ctrlMapped o) (Sys2Proof.Machine.ctrlWords v20 q.len)) = x25; revert x25; refine Kept.seal ?_; intro x25 q26)
            split
            · rename_i w27 w28
              refine Kept.pair ?_
              refine kept_ite ?_ ?_
              · refine kept_ctrlUnmapped (hm.sub rfl) ?_
                exact h0
              · exact h0
            · rename_i w29
              refine Kept.pair ?_
              exact h0
  · rename_i w30
    refine keptp_ite ?_ ?_
    · refine Kept.pair ?_
      exact h0
    · refine keptp_ite ?_ ?_
      · refine Kept.pair ?_
        exact h0
      · refine Kept.pair ?_
        exact h0
  · rename_i w31 w32 w33
    refine keptp_ite ?_ ?_
    · refine Kept.pair ?_
      exact h0
    · refine keptp_ite ?_ ?_
      · refine Kept.pair ?_
        exact h0
      · refine keptp_ite ?_ ?_
        · refine Kept.pair ?_
          exact h0
        · refine Kept.pair ?_
          exact h0

theorem kept_epochCheck {s : State} {q : Req} (hm : Within 0x7000000000000000010700000000200000000109a00040302 M) (h0 : Kept M s0 s) :
    KeptP M s0 (State.epochCheck s q) := by
  unfold State.epochCheck
  extract_lets -underBinder +onlyGivenNames v20
  (clear_value v20; revert v20; refine Kept.seal ?_; intro v20)
  refine keptp_ite ?_ ?_
  · refine Kept.pair ?_
    exact h0
  · refine keptp_ite ?_ ?_
    · extract_lets -underBinder +onlyGivenNames v21
      (clear_value v21; revert v21; refine Kept.seal ?_; intro v21)
      refine Kept.pair ?_
      refine Kept.in_epoch (hm.bit 8 rfl) ?_
      exact h0
    · refine Kept.pair ?_
      refine kept_ledger (hm.sub rfl) ?_
      refine Kept.setF (hm.bit 1 rfl) (reach_SIT_STATUS (hm.bit 81 rfl)) ?_
      exact h0

theorem kept_rightsCheck {s : State} {k : ReqKind} {q : Req} (hm : Within 0x3010000007000000000000000010700000000000000000119a80040202 M) (h0 : Kept M s0 s) :
    KeptP M s0 (State.rightsCheck s k q) := by
  unfold State.rightsCheck
  (generalize q21 : (s.rangeRight q.addr q.len q.src (k == Sys2Proof.Machine.ReqKind.wr || k == Sys2Proof.Machine.ReqKind.creqWrite)) = x20; revert x20; refine Kept.seal ?_; intro x20 q21)
  split
  · rename_i w22
    refine Kept.pair ?_
    exact h0
  · rename_i w23
    refine Kept.pair ?_
    refine kept_poolDenied (hm.sub rfl) ?_
    exact h0
  · rename_i w24
    refine Kept.pair ?_
    refine kept_noteRevoked (hm.sub rfl) ?_
    exact h0

theorem kept_acceptCheck {s : State} {k : ReqKind} {q : Req} (hm : Within 0x3010000007000000000000000010700000000200000000119a80040302 M) (h0 : Kept M s0 s) :
    KeptP M s0 (State.acceptCheck s k q) := by
  unfold State.acceptCheck
  refine keptp_ite ?_ ?_
  · refine Kept.pair ?_
    exact h0
  · refine keptp_ite ?_ ?_
    · refine Kept.pair ?_
      exact h0
    · extract_lets -underBinder +onlyGivenNames v20
      have h21 : KeptP M s0 v20 := by
        unfold v20
        refine kept_epochCheck (hm.sub rfl) ?_
        exact h0
      (clear_value v20; revert v20; refine Kept.seal ?_; intro v20 h21)
      refine keptp_ite ?_ ?_
      · exact h21
      · refine keptp_ite ?_ ?_
        · refine Kept.pair ?_
          exact (KeptP.st h21)
        · extract_lets -underBinder +onlyGivenNames v22
          have h23 : Kept M s0 v22 := by
            unfold v22
            refine kept_ite ?_ ?_
            · refine kept_chargeHost (hm.sub rfl) ?_
              exact (KeptP.st h21)
            · exact (KeptP.st h21)
          (clear_value v22; revert v22; refine Kept.seal ?_; intro v22 h23)
          extract_lets -underBinder +onlyGivenNames v24
          have h25 : KeptP M s0 v24 := by
            unfold v24
            refine kept_rightsCheck (hm.sub rfl) ?_
            exact h23
          (clear_value v24; revert v24; refine Kept.seal ?_; intro v24 h25)
          refine keptp_ite ?_ ?_
          · exact h25
          · extract_lets -underBinder +onlyGivenNames v26
            have h27 : KeptP M s0 v26 := by
              unfold v26
              refine kept_decodeSpace (hm.sub rfl) ?_
              exact (KeptP.st h25)
            (clear_value v26; revert v26; refine Kept.seal ?_; intro v26 h27)
            refine keptp_ite ?_ ?_
            · exact h27
            · refine keptp_ite ?_ ?_
              · refine Kept.pair ?_
                exact (KeptP.st h27)
              · refine Kept.pair ?_
                exact (KeptP.st h27)

theorem kept_unstage {s : State} {k : ReqKind} {q : Req} (hm : Within 0x100000000200 M) (h0 : Kept M s0 s) :
    Kept M s0 (State.unstage s k q) := by
  unfold State.unstage
  extract_lets -underBinder +onlyGivenNames v20
  (clear_value v20; revert v20; refine Kept.seal ?_; intro v20)
  refine kept_ite ?_ ?_
  · extract_lets -underBinder +onlyGivenNames v21
    (clear_value v21; revert v21; refine Kept.seal ?_; intro v21)
    refine kept_freeHeld (hm.sub rfl) ?_
    refine kept_setPort (hm.sub rfl) ?_
    exact h0
  · refine kept_ite ?_ ?_
    · refine kept_setPort (hm.sub rfl) ?_
      exact h0
    · exact h0

theorem kept_answerNow {s : State} {k : ReqKind} {q : Req} {status : ℕ} {data : Bytes} (hm : Within 0x800720000000000000001070000000000000000018ba80043a02 M) (h0 : Kept M s0 s) :
    Kept M s0 (State.answerNow s k q status data) := by
  unfold State.answerNow
  refine kept_finish (hm.sub rfl) ?_
  refine kept_openHeld (hm.sub rfl) ?_
  exact h0

theorem kept_accept {s : State} {k : ReqKind} {q : Req} {env : AccessEnv} (hm : Within 0x1888bdc9824db5025e603311589157b191343077ec40099771037f8272714ca00019bffffffffe M) (h0 : Kept M s0 s) :
    Kept M s0 (State.accept s k q env) := by
  unfold State.accept
  extract_lets -underBinder +onlyGivenNames v20
  have h21 : Kept M s0 v20 := by
    unfold v20
    refine kept_unstage (hm.sub rfl) ?_
    exact h0
  (clear_value v20; revert v20; refine Kept.seal ?_; intro v20 h21)
  extract_lets -underBinder +onlyGivenNames v22
  (clear_value v22; revert v22; refine Kept.seal ?_; intro v22)
  extract_lets -underBinder +onlyGivenNames v23
  (clear_value v23; revert v23; refine Kept.seal ?_; intro v23)
  refine kept_ite ?_ ?_
  · refine kept_answerNow (hm.sub rfl) ?_
    exact h21
  · refine kept_ite ?_ ?_
    · refine kept_answerNow (hm.sub rfl) ?_
      exact h21
    · refine kept_ite ?_ ?_
      · extract_lets -underBinder +onlyGivenNames v24
        have h25 : KeptP M s0 v24 := by
          unfold v24
          refine kept_epochCheck (hm.sub rfl) ?_
          exact h21
        (clear_value v24; revert v24; refine Kept.seal ?_; intro v24 h25)
        (generalize q27 : (v24.2) = x26; revert x26; refine Kept.seal ?_; intro x26 q27)
        split
        · rename_i w28 w29
          refine kept_answerNow (hm.sub rfl) ?_
          exact (KeptP.st h25)
        · rename_i w30
          refine kept_poolSubmit (hm.sub rfl) ?_
          exact (KeptP.st h25)
      · extract_lets -underBinder +onlyGivenNames v31
        have h32 : KeptP M s0 v31 := by
          unfold v31
          refine kept_acceptCheck (hm.sub rfl) ?_
          exact h21
        (clear_value v31; revert v31; refine Kept.seal ?_; intro v31 h32)
        (generalize q34 : (v31.2) = x33; revert x33; refine Kept.seal ?_; intro x33 q34)
        split
        · rename_i w35 w36
          refine kept_answerNow (hm.sub rfl) ?_
          exact (KeptP.st h32)
        · rename_i w37
          refine kept_firstAttempt (hm.sub rfl) ?_
          refine kept_openHeld (hm.sub rfl) ?_
          exact (KeptP.st h32)

theorem kept_resume {s : State} {id : ℕ} {env : AccessEnv} (hm : Within 0x1888bdc9824db5025e602311589157b191343077ec40099771037f8272714ca00019bffffffffe M) (h0 : Kept M s0 s) :
    Kept M s0 (State.resume s id env) := by
  have go : ∀ (c : Bool) again, Kept M s0 (if c = true then s else s.underOpen id (fun s => s.attempt id env again)) := by
    intro c again
    refine kept_ite h0 ?_
    exact kept_underOpen (hm.sub rfl) h0 (fun _ hy => kept_attempt (hm.sub rfl) hy)
  obtain ⟨f, e⟩ : ∃ f, @State.resume = f := ⟨_, rfl⟩
  (rw [e]; delta State.resume at e; subst e; beta_reduce)
  (generalize s.openAt id = x; revert x; refine Kept.seal ?_; intro x)
  cases x with
  | none => exact h0
  | some o =>
    dsimp only
    (generalize o.wait = w; revert w; refine Kept.seal ?_; intro w)
    cases w <;> first | exact go _ _ | exact h0

theorem kept_expandWrite {s : State} {o : OpenReq} {x : TileRef} (hm : Within 0x200000000800720802020708c00019170000000000000000018bb90de1a7e M) (h0 : Kept M s0 s) :
    Kept M s0 (State.expandWrite s o x) := by
  unfold State.expandWrite
  extract_lets -underBinder +onlyGivenNames v20
  (clear_value v20; revert v20; refine Kept.seal ?_; intro v20)
  extract_lets -underBinder +onlyGivenNames v21
  have h22 : ∀ c_0, Kept M s0 c_0 → Kept M s0 (v21 c_0) := by
    unfold v21
    intro y23 h24
    refine Kept.in_opens (hm.bit 12 rfl) ?_ (fresh_filter)
    exact h24
  (clear_value v21; revert v21; refine Kept.seal ?_; intro v21 h22)
  (generalize q26 : (s.expandTile x v20) = x25; revert x25; refine Kept.seal ?_; intro x25 q26)
  have h27 : KeptP M s0 x25 := by
    rw [← q26]
    refine kept_expandTile (hm.sub rfl) ?_
    exact h0
  split
  · rename_i w28 w29 w30
    refine kept_ite ?_ ?_
    · refine h22 _ ?_
      exact (KeptP.st h27)
    · extract_lets -underBinder +onlyGivenNames v31
      (clear_value v31; revert v31; refine Kept.seal ?_; intro v31)
      refine kept_ite ?_ ?_
      · refine kept_finish (hm.sub rfl) ?_
        exact (KeptP.st h27)
      · refine kept_finish (hm.sub rfl) ?_
        refine KeptP.st ?_
        refine kept_writeTile (hm.sub rfl) ?_
        exact (KeptP.st h27)
  · rename_i w32 w33
    refine kept_ite ?_ ?_
    · refine h22 _ ?_
      exact (KeptP.st h27)
    · refine kept_finish (hm.sub rfl) ?_
      refine kept_expandFull (hm.sub rfl) ?_
      exact (KeptP.st h27)
  · rename_i w34 w35
    refine kept_ite ?_ ?_
    · refine h22 _ ?_
      exact (KeptP.st h27)
    · refine kept_finish (hm.sub rfl) ?_
      exact (KeptP.st h27)
  · rename_i w36 w37
    exact (KeptP.st h27)

theorem kept_writeExpandDone {s : State} {id : ℕ} {env : AccessEnv} (hm : Within 0x1888bdc9824db5025e602311589157b191343077ec40099771037f8272714ca00019bffffffffe M) (h0 : Kept M s0 s) :
    Kept M s0 (State.writeExpandDone s id env) := by
  unfold State.writeExpandDone
  (generalize q21 : (s.openAt id) = x20; revert x20; refine Kept.seal ?_; intro x20 q21)
  split
  · rename_i w22
    exact h0
  · rename_i w23 w24
    (generalize q26 : (w24.wait) = x25; revert x25; refine Kept.seal ?_; intro x25 q26)
    (generalize q28 : (s.tileOf w24.req.addr) = x27; revert x27; refine Kept.seal ?_; intro x27 q28)
    split
    · rename_i w29 w30 w31
      refine kept_ite ?_ ?_
      · exact h0
      · extract_lets -underBinder +onlyGivenNames v32
        have h33 : Kept M s0 v32 := by
          unfold v32
          refine kept_applyEnv (hm.sub rfl) ?_
          exact h0
        (clear_value v32; revert v32; refine Kept.seal ?_; intro v32 h33)
        extract_lets -underBinder +onlyGivenNames v34
        have h35 : Kept M s0 v34 := by
          unfold v34
          refine kept_underOpen (hm.sub rfl) ?_ ?_
          · refine kept_touchStart (hm.sub rfl) ?_
            exact h33
          · intro y36 h37
            refine kept_expandWrite (hm.sub rfl) ?_
            exact h37
        (clear_value v34; revert v34; refine Kept.seal ?_; intro v34 h35)
        extract_lets -underBinder +onlyGivenNames v38
        have h39 : Kept M s0 v38 := by
          unfold v38
          refine kept_touchEnd (hm.sub rfl) ?_
          exact h35
        (clear_value v38; revert v38; refine Kept.seal ?_; intro v38 h39)
        refine kept_ite ?_ ?_
        · exact h39
        · extract_lets -underBinder +onlyGivenNames v40
          (clear_value v40; revert v40; refine Kept.seal ?_; intro v40)
          refine kept_forEach ?_ ?_
          · intro y41 y42 h43
            refine kept_resume (hm.sub rfl) ?_
            exact h43
          · exact h39
    · rename_i w44 w45 w46
      exact h0

theorem kept_deferDecision {s : State} {id : ℕ} (hm : Within 0x7200000000000000010700000000000000000189a00041a02 M) (h0 : Kept M s0 s) :
    Kept M s0 (State.deferDecision s id) := by
  unfold State.deferDecision
  (generalize q21 : (s.openAt id) = x20; revert x20; refine Kept.seal ?_; intro x20 q21)
  split
  · rename_i w22 w23
    refine kept_ite ?_ ?_
    · exact h0
    · refine kept_deferNow (hm.sub rfl) ?_
      exact h0
  · rename_i w24
    exact h0

theorem kept_execJxRd {q : Req} {env : AccessEnv} {s : State} (hm : Within 0x1888bdc9824db5025e603311589157b191343077ec40099771037f8272714ca00019bffffffffe M) (h0 : Kept M s0 s) :
    KeptE M s0 (execJxRd q env s) := by
  unfold execJxRd
  refine kepte_next ?_
  refine kept_accept (hm.sub rfl) ?_
  exact h0

theorem kept_execJxWr {q : Req} {env : AccessEnv} {s : State} (hm : Within 0x1888bdc9824db5025e603311589157b191343077ec40099771037f8272714ca00019bffffffffe M) (h0 : Kept M s0 s) :
    KeptE M s0 (execJxWr q env s) := by
  unfold execJxWr
  refine kepte_next ?_
  refine kept_accept (hm.sub rfl) ?_
  exact h0

theorem kept_execJxFlush {q : Req} {s : State} (hm : Within 0x1888bdc9824db5025e603311589157b191343077ec40099771037f8272714ca00019bffffffffe M) (h0 : Kept M s0 s) :
    KeptE M s0 (execJxFlush q s) := by
  unfold execJxFlush
  refine kepte_next ?_
  refine kept_accept (hm.sub rfl) ?_
  exact h0

theorem kept_execCreq {write : Bool} {q : Req} {s : State} (hm : Within 0x1888bdc9824db5025e603311589157b191343077ec40099771037f8272714ca00019bffffffffe M) (h0 : Kept M s0 s) :
    KeptE M s0 (execCreq write q s) := by
  unfold execCreq
  refine kepte_next ?_
  refine kept_accept (hm.sub rfl) ?_
  exact h0

theorem kept_execPoolDoor {byCreq : Bool} {q : Req} {s : State} (hm : Within 0x1888bdc9824db5025e603311589157b191343077ec40099771037f8272714ca00019bffffffffe M) (h0 : Kept M s0 s) :
    KeptE M s0 (execPoolDoor byCreq q s) := by
  unfold execPoolDoor
  refine kepte_next ?_
  refine kept_accept (hm.sub rfl) ?_
  exact h0

theorem kept_execWriteExpandDone {id : ℕ} {env : AccessEnv} {s : State} (hm : Within 0x1888bdc9824db5025e602311589157b191343077ec40099771037f8272714ca00019bffffffffe M) (h0 : Kept M s0 s) :
    KeptE M s0 (execWriteExpandDone id env s) := by
  unfold execWriteExpandDone
  refine kepte_next ?_
  refine kept_writeExpandDone (hm.sub rfl) ?_
  exact h0

theorem kept_execDeferDecision {id : ℕ} {s : State} (hm : Within 0x7200000000000000010700000000000000000189a00041a02 M) (h0 : Kept M s0 s) :
    KeptE M s0 (execDeferDecision id s) := by
  unfold execDeferDecision
  refine kepte_next ?_
  refine kept_deferDecision (hm.sub rfl) ?_
  exact h0

theorem kept_execDeferComplete {id : ℕ} {env : AccessEnv} {s : State} (hm : Within 0x1888bdc9824db5025e602311589157b191343077ec40099771037f8272714ca00019bffffffffe M) (h0 : Kept M s0 s) :
    KeptE M s0 (execDeferComplete id env s) := by
  unfold execDeferComplete
  refine kepte_next ?_
  refine kept_resume (hm.sub rfl) ?_
  exact h0

end Sys2Proof.Machine
end

