-- ==== Sys2Proof/Laws/Kept/Pep.lean ====
section
/-! SUPPORT. What the operations of Pep may write: each keeps its footprint. -/

namespace Sys2Proof.Machine

variable {M : Nat} {s0 : State}

theorem kept_openHost {s : State} {k : ReqKind} {q : Req} {h : HostAcc} (hm : Within 0x3000 M) (h0 : Kept M s0 s) :
    Kept M s0 (State.openHost s k q h) := by
  unfold State.openHost
  refine Kept.in_opens (x := { s with nextId := s.nextId + 1 }) (hm.bit 12 rfl) ?_ (fresh_append (Nat.lt_succ_self _))
  refine Kept.in_nextId (hm.bit 13 rfl) ?_ (Nat.le_succ _)
  exact h0

theorem kept_hostAccept {s : State} {k : ReqKind} {q : Req} {h : HostAcc} {env : AccessEnv} (hm : Within 0x1888bdc9824db5025e602311589157b191343077ec40099771037f8272714ca00019bffffffffe M) (h0 : Kept M s0 s) :
    Kept M s0 (State.hostAccept s k q h env) := by
  unfold State.hostAccept
  extract_lets -underBinder +onlyGivenNames v20
  (clear_value v20; revert v20; refine Kept.seal ?_; intro v20)
  refine kept_ite ?_ ?_
  · refine kept_firstAttempt (hm.sub rfl) ?_
    refine kept_openHost (hm.sub rfl) ?_
    exact h0
  · refine kept_ite ?_ ?_
    · refine kept_finish (hm.sub rfl) ?_
      refine kept_openHost (hm.sub rfl) ?_
      exact h0
    · extract_lets -underBinder +onlyGivenNames v21
      have h22 : KeptP M s0 v21 := by
        unfold v21
        refine kept_decodeSpace (hm.sub rfl) ?_
        exact h0
      (clear_value v21; revert v21; refine Kept.seal ?_; intro v21 h22)
      (generalize q24 : (v21.2) = x23; revert x23; refine Kept.seal ?_; intro x23 q24)
      split
      · rename_i w25 w26
        refine kept_finish (hm.sub rfl) ?_
        refine kept_openHost (hm.sub rfl) ?_
        exact (KeptP.st h22)
      · rename_i w27
        refine kept_ite ?_ ?_
        · refine kept_firstAttempt (hm.sub rfl) ?_
          refine kept_openHost (hm.sub rfl) ?_
          exact (KeptP.st h22)
        · refine kept_finish (hm.sub rfl) ?_
          refine kept_openHost (hm.sub rfl) ?_
          exact (KeptP.st h22)

theorem kept_readUr {s : State} {requester : ℕ} {tag : ℕ} (hm : Within 0x8000000000000000000000000000000000000000100000000002 M) (h0 : Kept M s0 s) :
    Kept M s0 (State.readUr s requester tag) := by
  unfold State.readUr
  refine kept_emit (hm.sub rfl) ?_
  refine Kept.addF (hm.bit 1 rfl) (reach_PEP_UR (hm.bit 207 rfl)) ?_
  exact h0

theorem kept_writeUr {s : State} {off : ℕ} (hm : Within 0x8000000000000000000000000000000000000000100000000002 M) (h0 : Kept M s0 s) :
    Kept M s0 (State.writeUr s off) := by
  unfold State.writeUr
  refine kept_emit (hm.sub rfl) ?_
  refine Kept.addF (hm.bit 1 rfl) (reach_PEP_UR (hm.bit 207 rfl)) ?_
  exact h0

theorem kept_hostRead {s : State} {b : Bar} {off : ℕ} {n : ℕ} {requester : ℕ} {tag : ℕ} {env : AccessEnv} (hm : Within 0x1888bdc9824db5025e60231158b157b191343077ec40099771037f8272714ca00019bffffffffe M) (h0 : Kept M s0 s) :
    Kept M s0 (State.hostRead s b off n requester tag env) := by
  unfold State.hostRead
  extract_lets -underBinder +onlyGivenNames v20
  have h21 : Kept M s0 v20 := by
    unfold v20
    refine Kept.addF (hm.bit 1 rfl) (reach_PEP_RD_TLPS (hm.bit 205 rfl)) ?_
    exact h0
  (clear_value v20; revert v20; refine Kept.seal ?_; intro v20 h21)
  extract_lets -underBinder +onlyGivenNames v22
  (clear_value v22; revert v22; refine Kept.seal ?_; intro v22)
  refine kept_ite ?_ ?_
  · refine kept_readUr (hm.sub rfl) ?_
    exact h21
  · split
    · rename_i w23
      refine kept_hostAccept (hm.sub rfl) ?_
      exact h21
    · rename_i w24
      (generalize q26 : (v20.windowAt off n Bool.false) = x25; revert x25; refine Kept.seal ?_; intro x25 q26)
      split
      · rename_i w27 w28 w29
        refine kept_hostAccept (hm.sub rfl) ?_
        exact h21
      · rename_i w30
        refine kept_ledger (hm.sub rfl) ?_
        refine kept_readUr (hm.sub rfl) ?_
        exact h21
    · rename_i w31
      refine kept_emit (hm.sub rfl) ?_
      exact h21
    · rename_i w32
      refine kept_emit (hm.sub rfl) ?_
      exact h21

theorem kept_hostWrite {s : State} {b : Bar} {off : ℕ} {data : Bytes} {ep : Bool} {relaxed : Bool} {env : AccessEnv} (hm : Within 0x1888bdc9824db5025e60231158d157b191343077ec40099771037f8272714ca00019bffffffffe M) (h0 : Kept M s0 s) :
    Kept M s0 (State.hostWrite s b off data ep relaxed env) := by
  unfold State.hostWrite
  extract_lets -underBinder +onlyGivenNames v20
  have h21 : Kept M s0 v20 := by
    unfold v20
    refine Kept.addF (hm.bit 1 rfl) (reach_PEP_WR_TLPS (hm.bit 206 rfl)) ?_
    exact h0
  (clear_value v20; revert v20; refine Kept.seal ?_; intro v20 h21)
  extract_lets -underBinder +onlyGivenNames v22
  (clear_value v22; revert v22; refine Kept.seal ?_; intro v22)
  extract_lets -underBinder +onlyGivenNames v23
  (clear_value v23; revert v23; refine Kept.seal ?_; intro v23)
  refine kept_ite ?_ ?_
  · refine kept_writeUr (hm.sub rfl) ?_
    exact h21
  · refine kept_ite ?_ ?_
    · refine kept_emit (hm.sub rfl) ?_
      exact h21
    · split
      · rename_i w24
        refine kept_hostAccept (hm.sub rfl) ?_
        exact h21
      · rename_i w25
        (generalize q27 : (v20.windowAt off v22 Bool.true) = x26; revert x26; refine Kept.seal ?_; intro x26 q27)
        split
        · rename_i w28 w29 w30
          refine kept_hostAccept (hm.sub rfl) ?_
          exact h21
        · rename_i w31
          refine kept_ledger (hm.sub rfl) ?_
          refine kept_writeUr (hm.sub rfl) ?_
          exact h21
      · rename_i w32
        refine kept_forEach ?_ ?_
        · intro y33 y34 h35
          refine kept_setBar4Word (hm.sub rfl) ?_
          exact h35
        · exact h21
      · rename_i w36
        exact h21

theorem kept_hostResume {s : State} {id : ℕ} {env : AccessEnv} (hm : Within 0x1888bdc9824db5025e602311589157b191343077ec40099771037f8272714ca00019bffffffffe M) (h0 : Kept M s0 s) :
    Kept M s0 (State.hostResume s id env) := by
  unfold State.hostResume
  (generalize q21 : (s.openAt id) = x20; revert x20; refine Kept.seal ?_; intro x20 q21)
  split
  · rename_i w22 w23
    refine kept_ite ?_ ?_
    · refine kept_resume (hm.sub rfl) ?_
      exact h0
    · exact h0
  · rename_i w24
    exact h0

theorem kept_cplLimit {s : State} {id : ℕ} (hm : Within 0x10007000000000000000010700000000000000000109a00041202 M) (h0 : Kept M s0 s) :
    Kept M s0 (State.cplLimit s id) := by
  unfold State.cplLimit
  (generalize q21 : (s.openAt id) = x20; revert x20; refine Kept.seal ?_; intro x20 q21)
  split
  · rename_i w22
    exact h0
  · rename_i w23 w24
    (generalize q26 : (w24.host) = x25; revert x25; refine Kept.seal ?_; intro x25 q26)
    split
    · rename_i w27
      exact h0
    · rename_i w28 w29
      refine kept_ite ?_ ?_
      · exact h0
      · extract_lets -underBinder +onlyGivenNames v30
        have h31 : Kept M s0 v30 := by
          unfold v30
          refine Kept.in_opens (hm.bit 12 rfl) ?_ (fresh_map (fun o => by (try dsimp only); split <;> rfl))
          exact h0
        (clear_value v30; revert v30; refine Kept.seal ?_; intro v30 h31)
        extract_lets -underBinder +onlyGivenNames v32
        have h33 : Kept M s0 v32 := by
          unfold v32
          refine kept_ite ?_ ?_
          · refine kept_emit (hm.sub rfl) ?_
            exact h31
          · refine kept_emit (hm.sub rfl) ?_
            refine Kept.addF (hm.bit 1 rfl) (reach_PEP_CA (hm.bit 208 rfl)) ?_
            exact h31
        (clear_value v32; revert v32; refine Kept.seal ?_; intro v32 h33)
        refine kept_ledger (hm.sub rfl) ?_
        exact h33

theorem kept_cxlRead {s : State} {hpa : ℕ} {tag : ℕ} {env : AccessEnv} (hm : Within 0x1888bdc9824db5025e602311589157b191343077ec40099771037f8272714ca00019bffffffffe M) (h0 : Kept M s0 s) :
    Kept M s0 (State.cxlRead s hpa tag env) := by
  unfold State.cxlRead
  refine kept_ite ?_ ?_
  · exact h0
  · (generalize q21 : (s.dpaOf (64 * (hpa / 64))) = x20; revert x20; refine Kept.seal ?_; intro x20 q21)
    split
    · rename_i w22 w23
      refine kept_hostAccept (hm.sub rfl) ?_
      exact h0
    · rename_i w24
      refine kept_emit (hm.sub rfl) ?_
      refine Kept.addF (hm.bit 1 rfl) (reach_PEP_UR (hm.bit 207 rfl)) ?_
      exact h0

theorem kept_cxlWrite {s : State} {hpa : ℕ} {tag : ℕ} {data : Bytes} {poison : Bool} {env : AccessEnv} (hm : Within 0x1888bdc9824db5025e602311589157b191343077ec40099771037f8272714ca00019bffffffffe M) (h0 : Kept M s0 s) :
    Kept M s0 (State.cxlWrite s hpa tag data poison env) := by
  unfold State.cxlWrite
  refine kept_ite ?_ ?_
  · exact h0
  · extract_lets -underBinder +onlyGivenNames v20
    (clear_value v20; revert v20; refine Kept.seal ?_; intro v20)
    (generalize q22 : (s.dpaOf (64 * (hpa / 64))) = x21; revert x21; refine Kept.seal ?_; intro x21 q22)
    split
    · rename_i w23 w24
      refine kept_hostAccept (hm.sub rfl) ?_
      exact h0
    · rename_i w25
      refine kept_emit (hm.sub rfl) ?_
      refine Kept.addF (hm.bit 1 rfl) (reach_PEP_UR (hm.bit 207 rfl)) ?_
      exact h0

theorem kept_dmaTake {s : State} {c : ℕ} {d : Bytes} (hm : Within 0x1000000000000000000000000000000000000000000102000000002 M) (h0 : Kept M s0 s) :
    Kept M s0 (State.dmaTake s c d) := by
  unfold State.dmaTake
  extract_lets -underBinder +onlyGivenNames v20
  (clear_value v20; revert v20; refine Kept.seal ?_; intro v20)
  extract_lets -underBinder +onlyGivenNames v21
  have h22 : Kept M s0 v21 := by
    unfold v21
    refine kept_dmaFlush (hm.sub rfl) ?_
    exact h0
  (clear_value v21; revert v21; refine Kept.seal ?_; intro v21 h22)
  extract_lets -underBinder +onlyGivenNames v23
  (clear_value v23; revert v23; refine Kept.seal ?_; intro v23)
  refine kept_ite ?_ ?_
  · exact h22
  · refine kept_setDma (hm.sub rfl) ?_
    exact h22

theorem kept_dmaIssue {s : State} {c : ℕ} {d : Bytes} {n : ℕ} {data : Bytes} {env : AccessEnv} (hm : Within 0x1888bdc9824db5025e602311589157b191343077ec40099771037f8272714ca00019bffffffffe M) (h0 : Kept M s0 s) :
    Kept M s0 (State.dmaIssue s c d n data env) := by
  unfold State.dmaIssue
  extract_lets -underBinder +onlyGivenNames v20
  (clear_value v20; revert v20; refine Kept.seal ?_; intro v20)
  extract_lets -underBinder +onlyGivenNames v21
  have h22 : Kept M s0 v21 := by
    unfold v21
    refine kept_setDma (hm.sub rfl) ?_
    exact h0
  (clear_value v21; revert v21; refine Kept.seal ?_; intro v21 h22)
  extract_lets -underBinder +onlyGivenNames v23
  (clear_value v23; revert v23; refine Kept.seal ?_; intro v23)
  extract_lets -underBinder +onlyGivenNames v24
  (clear_value v24; revert v24; refine Kept.seal ?_; intro v24)
  refine kept_hostAccept (hm.sub rfl) ?_
  exact h22

theorem kept_dmaRun {s : State} {c : ℕ} {data : Bytes} {failAt : Option ℕ} {env : AccessEnv} {b5 : ℕ} (hm : Within 0x1888bdc9824db5025e602311589157b191343077ec40099771037f8272714ca00019bffffffffe M) (h0 : Kept M s0 s) :
    Kept M s0 (State.dmaRun s c data failAt env b5) := by
  induction b5 generalizing s c data failAt env
  · unfold State.dmaRun
    exact h0
  · rename_i r0 ih
    unfold State.dmaRun
    extract_lets -underBinder +onlyGivenNames v20
    (clear_value v20; revert v20; refine Kept.seal ?_; intro v20)
    (generalize q22 : (v20.desc) = x21; revert x21; refine Kept.seal ?_; intro x21 q22)
    split
    · rename_i w23
      exact h0
    · rename_i w24 w25
      refine kept_ite ?_ ?_
      · exact h0
      · extract_lets -underBinder +onlyGivenNames v26
        (clear_value v26; revert v26; refine Kept.seal ?_; intro v26)
        extract_lets -underBinder +onlyGivenNames v27
        (clear_value v27; revert v27; refine Kept.seal ?_; intro v27)
        (generalize q29 : (if Sys2Proof.Machine.ddOp w25 = 1 then failAt else Option.none) = x28; revert x28; refine Kept.seal ?_; intro x28 q29)
        split
        · rename_i w30 w31
          refine kept_ite ?_ ?_
          · refine kept_setDma (hm.sub rfl) ?_
            exact h0
          · apply ih
            refine kept_dmaIssue (hm.sub rfl) ?_
            exact h0
        · rename_i w32
          apply ih
          refine kept_dmaIssue (hm.sub rfl) ?_
          exact h0

theorem kept_dmaMove {s : State} {op : ℕ} {c : ℕ} {d : Bytes} {data : Bytes} {failAt : Option ℕ} {env : AccessEnv} (hm : Within 0x1888bdc9824db5025e602311589157b191343077ec40099771037f8272714ca00019bffffffffe M) (h0 : Kept M s0 s) :
    Kept M s0 (State.dmaMove s op c d data failAt env) := by
  unfold State.dmaMove
  refine kept_ite ?_ ?_
  · extract_lets -underBinder +onlyGivenNames v20
    have h21 : Kept M s0 v20 := by
      unfold v20
      refine kept_dmaTake (hm.sub rfl) ?_
      exact h0
    (clear_value v20; revert v20; refine Kept.seal ?_; intro v20 h21)
    (generalize q23 : ((v20.dma c).desc) = x22; revert x22; refine Kept.seal ?_; intro x22 q23)
    split
    · rename_i w24 w25
      refine kept_ite ?_ ?_
      · refine kept_dmaRun (hm.sub rfl) ?_
        exact h21
      · exact h21
    · rename_i w26
      exact h21
  · exact h0

theorem kept_dmaEnd {s : State} {c : ℕ} (hm : Within 0x300000700000000000000001070000000000000000010ba00040202 M) (h0 : Kept M s0 s) :
    Kept M s0 (State.dmaEnd s c) := by
  unfold State.dmaEnd
  extract_lets -underBinder +onlyGivenNames v20
  (clear_value v20; revert v20; refine Kept.seal ?_; intro v20)
  (generalize q22 : (v20.desc) = x21; revert x21; refine Kept.seal ?_; intro x21 q22)
  split
  · rename_i w23
    exact h0
  · rename_i w24 w25
    refine kept_ite ?_ ?_
    · exact h0
    · extract_lets -underBinder +onlyGivenNames v26
      (clear_value v26; revert v26; refine Kept.seal ?_; intro v26)
      extract_lets -underBinder +onlyGivenNames v27
      (clear_value v27; revert v27; refine Kept.seal ?_; intro v27)
      extract_lets -underBinder +onlyGivenNames v28
      have h29 : Kept M s0 v28 := by
        unfold v28
        refine kept_ite ?_ ?_
        · refine kept_ledger (hm.sub rfl) ?_
          exact h0
        · exact h0
      (clear_value v28; revert v28; refine Kept.seal ?_; intro v28 h29)
      extract_lets -underBinder +onlyGivenNames v30
      have h31 : Kept M s0 v30 := by
        unfold v30
        refine kept_dmaStatus (hm.sub rfl) ?_
        exact h29
      (clear_value v30; revert v30; refine Kept.seal ?_; intro v30 h31)
      extract_lets -underBinder +onlyGivenNames v32
      have h33 : Kept M s0 v32 := by
        unfold v32
        refine kept_ite ?_ ?_
        · refine kept_raiseIrq (hm.sub rfl) ?_
          exact h31
        · exact h31
      (clear_value v32; revert v32; refine Kept.seal ?_; intro v32 h33)
      extract_lets -underBinder +onlyGivenNames v34
      have h35 : Kept M s0 v34 := by
        unfold v34
        refine Kept.setF (hm.bit 1 rfl) (reach_PEP_DMA_STS (hm.bit 217 rfl)) ?_
        refine Kept.addF (hm.bit 1 rfl) (reach_PEP_DMA_HEAD (hm.bit 216 rfl)) ?_
        exact h33
      (clear_value v34; revert v34; refine Kept.seal ?_; intro v34 h35)
      refine kept_setDma (hm.sub rfl) ?_
      exact h35

theorem kept_dmaTimeout {s : State} {c : ℕ} (hm : Within 0x2000000000 M) (h0 : Kept M s0 s) :
    Kept M s0 (State.dmaTimeout s c) := by
  unfold State.dmaTimeout
  extract_lets -underBinder +onlyGivenNames v20
  (clear_value v20; revert v20; refine Kept.seal ?_; intro v20)
  (generalize q22 : (v20.desc) = x21; revert x21; refine Kept.seal ?_; intro x21 q22)
  split
  · rename_i w23 w24
    refine kept_ite ?_ ?_
    · refine kept_setDma (hm.sub rfl) ?_
      exact h0
    · exact h0
  · rename_i w25
    exact h0

theorem kept_tapOp {s : State} {x : TapOp} (hm : Within 0x104000000000 M) (h0 : Kept M s0 s) :
    Kept M s0 (State.tapOp s x) := by
  unfold State.tapOp
  split
  · rename_i w20
    refine Kept.in_tap (hm.bit 38 rfl) ?_
    exact h0
  · rename_i w21 w22 w23
    extract_lets -underBinder +onlyGivenNames v24
    (clear_value v24; revert v24; refine Kept.seal ?_; intro v24)
    extract_lets -underBinder +onlyGivenNames v25
    have h26 : Kept M s0 v25 := by
      unfold v25
      refine Kept.in_tap (hm.bit 38 rfl) ?_
      exact h0
    (clear_value v25; revert v25; refine Kept.seal ?_; intro v25 h26)
    refine kept_ite ?_ ?_
    · exact h26
    · refine kept_emit (hm.sub rfl) ?_
      exact h26

theorem kept_execHostRead {b : Bar} {off : Fin 68719476736} {len : Fin 4097} {requester : W16} {tag : W16} {env : AccessEnv} {s : State} (hm : Within 0x1888bdc9824db5025e60231158b157b191343077ec40099771037f8272714ca00019bffffffffe M) (h0 : Kept M s0 s) :
    KeptE M s0 (execHostRead b off len requester tag env s) := by
  unfold execHostRead
  refine kepte_next ?_
  refine kept_hostRead (hm.sub rfl) ?_
  exact h0

theorem kept_execHostWrite {b : Bar} {off : Fin 68719476736} {data : Bytes} {ep : Bool} {relaxed : Bool} {env : AccessEnv} {s : State} (hm : Within 0x1888bdc9824db5025e60231158d157b191343077ec40099771037f8272714ca00019bffffffffe M) (h0 : Kept M s0 s) :
    KeptE M s0 (execHostWrite b off data ep relaxed env s) := by
  unfold execHostWrite
  refine kepte_next ?_
  refine kept_hostWrite (hm.sub rfl) ?_
  exact h0

theorem kept_execHostReadDone {id : ℕ} {env : AccessEnv} {s : State} (hm : Within 0x1888bdc9824db5025e602311589157b191343077ec40099771037f8272714ca00019bffffffffe M) (h0 : Kept M s0 s) :
    KeptE M s0 (execHostReadDone id env s) := by
  unfold execHostReadDone
  refine kepte_next ?_
  refine kept_hostResume (hm.sub rfl) ?_
  exact h0

theorem kept_execPepCplLimit {id : ℕ} {s : State} (hm : Within 0x10007000000000000000010700000000000000000109a00041202 M) (h0 : Kept M s0 s) :
    KeptE M s0 (execPepCplLimit id s) := by
  unfold execPepCplLimit
  refine kepte_next ?_
  refine kept_cplLimit (hm.sub rfl) ?_
  exact h0

theorem kept_execCxlMemRead {hpa : W64} {tag : W16} {env : AccessEnv} {s : State} (hm : Within 0x1888bdc9824db5025e602311589157b191343077ec40099771037f8272714ca00019bffffffffe M) (h0 : Kept M s0 s) :
    KeptE M s0 (execCxlMemRead hpa tag env s) := by
  unfold execCxlMemRead
  refine kepte_next ?_
  refine kept_cxlRead (hm.sub rfl) ?_
  exact h0

theorem kept_execCxlMemWrite {hpa : W64} {tag : W16} {data : Bytes} {poison : Bool} {env : AccessEnv} {s : State} (hm : Within 0x1888bdc9824db5025e602311589157b191343077ec40099771037f8272714ca00019bffffffffe M) (h0 : Kept M s0 s) :
    KeptE M s0 (execCxlMemWrite hpa tag data poison env s) := by
  unfold execCxlMemWrite
  refine kepte_next ?_
  refine kept_cxlWrite (hm.sub rfl) ?_
  exact h0

theorem kept_execDmaToPool {c : Fin 4} {desc : Bytes} {data : Bytes} {failAt : Option ℕ} {env : AccessEnv} {s : State} (hm : Within 0x1888bdc9824db5025e602311589157b191343077ec40099771037f8272714ca00019bffffffffe M) (h0 : Kept M s0 s) :
    KeptE M s0 (execDmaToPool c desc data failAt env s) := by
  unfold execDmaToPool
  refine kepte_next ?_
  refine kept_dmaMove (hm.sub rfl) ?_
  exact h0

theorem kept_execDmaToHost {c : Fin 4} {desc : Bytes} {env : AccessEnv} {s : State} (hm : Within 0x1888bdc9824db5025e602311589157b191343077ec40099771037f8272714ca00019bffffffffe M) (h0 : Kept M s0 s) :
    KeptE M s0 (execDmaToHost c desc env s) := by
  unfold execDmaToHost
  refine kepte_next ?_
  refine kept_dmaMove (hm.sub rfl) ?_
  exact h0

theorem kept_execDmaDescEnd {c : Fin 4} {s : State} (hm : Within 0x300000700000000000000001070000000000000000010ba00040202 M) (h0 : Kept M s0 s) :
    KeptE M s0 (execDmaDescEnd c s) := by
  unfold execDmaDescEnd
  refine kepte_next ?_
  refine kept_dmaEnd (hm.sub rfl) ?_
  exact h0

theorem kept_execDmaCompletionTimeout {c : Fin 4} {s : State} (hm : Within 0x2000000000 M) (h0 : Kept M s0 s) :
    KeptE M s0 (execDmaCompletionTimeout c s) := by
  unfold execDmaCompletionTimeout
  refine kepte_next ?_
  refine kept_dmaTimeout (hm.sub rfl) ?_
  exact h0

theorem kept_execBoundaryScan {x : TapOp} {s : State} (hm : Within 0x104000000000 M) (h0 : Kept M s0 s) :
    KeptE M s0 (execBoundaryScan x s) := by
  unfold execBoundaryScan
  refine kepte_next ?_
  refine kept_tapOp (hm.sub rfl) ?_
  exact h0

end Sys2Proof.Machine
end

