-- ==== Sys2Proof/Laws/Kept/Tick.lean ====
section
/-! SUPPORT. What the operations of Tick may write: each keeps its footprint. -/

namespace Sys2Proof.Machine

variable {M : Nat} {s0 : State}

theorem kept_counterTick {s : State} (hm : Within 0x10001 M) (h0 : Kept M s0 s) :
    Kept M s0 (State.counterTick s) := by
  unfold State.counterTick
  refine kept_ite ?_ ?_
  · refine Kept.in_sync (hm.bit 16 rfl) ?_
    exact h0
  · refine Kept.in_count (hm.bit 0 rfl) ?_ (Nat.le_succ _)
    exact h0

theorem kept_coreTick {s : State} {n : ℕ} (hm : Within 0x400000000000000000000000000000000000000000000000000000000001000002 M) (h0 : Kept M s0 s) :
    Kept M s0 (State.coreTick s n) := by
  unfold State.coreTick
  refine kept_ite ?_ ?_
  · exact h0
  · extract_lets -underBinder +onlyGivenNames v20
    have h21 : Kept M s0 v20 := by
      unfold v20
      refine kept_wakeCore (hm.sub rfl) ?_
      exact h0
    (clear_value v20; revert v20; refine Kept.seal ?_; intro v20 h21)
    (generalize q23 : ((v20.core n).power) = x22; revert x22; refine Kept.seal ?_; intro x22 q23)
    split
    · rename_i w24 w25
      refine Kept.addF (hm.bit 1 rfl) (reach_CORE_WAKE_STALL (hm.bit 262 rfl)) ?_
      exact h21
    · rename_i w26 w27
      exact h21

theorem kept_throttleTick {s : State} {u : DUnit} (hm : Within 0x20200000000000000000000000000000000000000002 M) (h0 : Kept M s0 s) :
    Kept M s0 (State.throttleTick s u) := by
  unfold State.throttleTick
  refine kept_ite ?_ ?_
  · refine Kept.addF (hm.bit 1 rfl) (reach_tally (hm.bit 165 rfl) (hm.bit 173 rfl)) ?_
    exact h0
  · exact h0

theorem kept_limiterTick {s : State} {j : ℕ} (hm : Within 0x108000000000000000000000000000000000000000000000000000000002 M) (h0 : Kept M s0 s) :
    Kept M s0 (State.limiterTick s j) := by
  unfold State.limiterTick
  refine kept_ite ?_ ?_
  · exact h0
  · refine kept_ite ?_ ?_
    · refine kept_ite ?_ ?_
      · refine Kept.addF (hm.bit 1 rfl) (reach_POOL_LIM_OVER (hm.bit 236 rfl)) ?_
        exact h0
      · exact h0
    · refine Kept.addF (hm.bit 1 rfl) (reach_POOL_LIM_SHARED (hm.bit 231 rfl)) ?_
      exact h0

theorem kept_repairTick {s : State} (hm : Within 0x40000 M) (h0 : Kept M s0 s) :
    Kept M s0 (State.repairTick s) := by
  unfold State.repairTick
  refine Kept.in_integ (hm.bit 18 rfl) ?_ (Kept.seal) (Kept.seal)
  exact h0

theorem kept_tick {s : State} (hm : Within 0x400000108000000000000020240000000000000000000000000000000041050003 M) (h0 : Kept M s0 s) :
    Kept M s0 (State.tick s) := by
  unfold State.tick
  extract_lets -underBinder +onlyGivenNames v20
  have h21 : Kept M s0 v20 := by
    unfold v20
    refine kept_counterTick (hm.sub rfl) ?_
    exact h0
  (clear_value v20; revert v20; refine Kept.seal ?_; intro v20 h21)
  extract_lets -underBinder +onlyGivenNames v22
  have h23 : Kept M s0 v22 := by
    unfold v22
    refine kept_forEach ?_ ?_
    · intro y24 y25 h26
      refine kept_coreTick (hm.sub rfl) ?_
      exact h26
    · exact h21
  (clear_value v22; revert v22; refine Kept.seal ?_; intro v22 h23)
  extract_lets -underBinder +onlyGivenNames v27
  have h28 : Kept M s0 v27 := by
    unfold v27
    refine kept_forEach ?_ ?_
    · intro y29 y30 h31
      refine kept_kernelTick (hm.sub rfl) ?_
      exact h31
    · exact h23
  (clear_value v27; revert v27; refine Kept.seal ?_; intro v27 h28)
  extract_lets -underBinder +onlyGivenNames v32
  have h33 : Kept M s0 v32 := by
    unfold v32
    refine kept_forEach ?_ ?_
    · intro y34 y35 h36
      refine kept_throttleTick (hm.sub rfl) ?_
      exact h36
    · exact h28
  (clear_value v32; revert v32; refine Kept.seal ?_; intro v32 h33)
  extract_lets -underBinder +onlyGivenNames v37
  have h38 : Kept M s0 v37 := by
    unfold v37
    refine kept_forEach ?_ ?_
    · intro y39 y40 h41
      refine kept_limiterTick (hm.sub rfl) ?_
      exact h41
    · exact h33
  (clear_value v37; revert v37; refine Kept.seal ?_; intro v37 h38)
  refine kept_repairTick (hm.sub rfl) ?_
  exact h38

end Sys2Proof.Machine
end

