-- ==== Sys2Proof/Laws/Frame.lean ====
section
/-! SUPPORT. What each command keeps: its footprint as one number, and the proof for every command and for the tick. -/

namespace Sys2Proof.Machine

/-- A footprint as one number. -/
def Footprint.mask (x : Footprint) : Nat :=
  x.parts.foldl (fun m p => m ||| 2 ^ p.idx)
    (match x.regs with | none => (2 ^ 300 - 1) <<< 63 | some l => l.foldl (fun m k => m ||| 2 ^ (64 + k)) 0)

/-- What a command may write, as one number. -/
def maskOf (c : Instr) : Nat :=
  (footprintOf c).mask ||| 2 ^ 61 * (mayUnfence c).toNat ||| 2 ^ 60 * (rewinds c).toNat

theorem foldl_bit {α : Type} (f : α → Nat) (l : List α) (a k : Nat) :
    (l.foldl (fun m p => m ||| 2 ^ f p) a).testBit k = (a.testBit k || l.any (fun p => f p == k)) := by
  induction l generalizing a with
  | nil => simp
  | cons x t ih =>
    rw [List.foldl_cons, ih, List.any_cons, Nat.testBit_or, Nat.testBit_two_pow, Bool.or_assoc]
    rfl

theorem Footprint.mask_bit (x : Footprint) (k : Nat) :
    x.mask.testBit k = ((match x.regs with | none => decide (63 ≤ k) && decide (k - 63 < 300) | some l => l.any (fun j => 64 + j == k)) ||
      x.parts.any (fun p => p.idx == k)) := by
  unfold Footprint.mask
  rw [foldl_bit]
  cases x.regs with
  | none => simp only [Nat.testBit_shiftLeft, Nat.testBit_two_pow_sub_one, ge_iff_le]
  | some l => simp only [foldl_bit, Nat.zero_testBit, Bool.false_or]

theorem Part.idx_lt (p : Part) : p.idx < 46 := by cases p <;> decide
theorem Part.idx_inj {p q : Part} (h : p.idx = q.idx) : p = q := by
  cases p <;> cases q <;> first | rfl | (exact absurd h (by decide))

theorem maskOf_bit (c : Instr) {k : Nat} (h0 : k ≠ 60) (h1 : k ≠ 61) : (maskOf c).testBit k = (footprintOf c).mask.testBit k := by
  unfold maskOf
  cases mayUnfence c <;> cases rewinds c <;>
    simp [Nat.testBit_or, Ne.symm h0, Ne.symm h1, -Nat.reducePow]

theorem Within.of {a M : Nat} (h : Nat.beq (a &&& M) a = true) : Within a M := Nat.eq_of_beq_eq_true h

/-- Every command keeps its footprint. -/
theorem kept_exec (c : Instr) (s : State) : KeptE (maskOf c) s (exec c s) := by
  cases c with
  | registerWrite => exact kept_execRegisterWrite (.of (by dsimp only [maskOf, footprintOf, mayUnfence, rewinds]; decide)) Kept.refl
  | operandParity => exact kept_execOperandParity (.of (by dsimp only [maskOf, footprintOf, mayUnfence, rewinds]; decide)) Kept.refl
  | seqFault => exact kept_execSeqFault (.of (by dsimp only [maskOf, footprintOf, mayUnfence, rewinds]; decide)) Kept.refl
  | clusterFault => exact kept_execClusterFault (.of (by dsimp only [maskOf, footprintOf, mayUnfence, rewinds]; decide)) Kept.refl
  | dieFault => exact kept_execDieFault (.of (by dsimp only [maskOf, footprintOf, mayUnfence, rewinds]; decide)) Kept.refl
  | bridgeFailure => exact kept_execBridgeFailure (.of (by dsimp only [maskOf, footprintOf, mayUnfence, rewinds]; decide)) Kept.refl
  | coreWake => exact kept_execCoreWake (.of (by dsimp only [maskOf, footprintOf, mayUnfence, rewinds]; decide)) Kept.refl
  | coreReady => exact kept_execCoreReady (.of (by dsimp only [maskOf, footprintOf, mayUnfence, rewinds]; decide)) Kept.refl
  | coreGate => exact kept_execCoreGate (.of (by dsimp only [maskOf, footprintOf, mayUnfence, rewinds]; decide)) Kept.refl
  | sitLoad => exact kept_execSitLoad (.of (by dsimp only [maskOf, footprintOf, mayUnfence, rewinds]; decide)) Kept.refl
  | imageLoadEnd => exact kept_execImageLoadEnd (.of (by dsimp only [maskOf, footprintOf, mayUnfence, rewinds]; decide)) Kept.refl
  | epochGo => exact kept_execEpochGo (.of (by dsimp only [maskOf, footprintOf, mayUnfence, rewinds]; decide)) Kept.refl
  | epochAbandon => exact kept_execEpochAbandon (.of (by dsimp only [maskOf, footprintOf, mayUnfence, rewinds]; decide)) Kept.refl
  | epochLaunch => exact kept_execEpochLaunch (.of (by dsimp only [maskOf, footprintOf, mayUnfence, rewinds]; decide)) Kept.refl
  | epochAck => exact kept_execEpochAck (.of (by dsimp only [maskOf, footprintOf, mayUnfence, rewinds]; decide)) Kept.refl
  | epochRefusal => exact kept_execEpochRefusal (.of (by dsimp only [maskOf, footprintOf, mayUnfence, rewinds]; decide)) Kept.refl
  | epochCommit => exact kept_execEpochCommit (.of (by dsimp only [maskOf, footprintOf, mayUnfence, rewinds]; decide)) Kept.refl
  | epochTimeout => exact kept_execEpochTimeout (.of (by dsimp only [maskOf, footprintOf, mayUnfence, rewinds]; decide)) Kept.refl
  | oldSetRelease => exact kept_execOldSetRelease (.of (by dsimp only [maskOf, footprintOf, mayUnfence, rewinds]; decide)) Kept.refl
  | jxRd => exact kept_execJxRd (.of (by dsimp only [maskOf, footprintOf, mayUnfence, rewinds]; decide)) Kept.refl
  | jxWr => exact kept_execJxWr (.of (by dsimp only [maskOf, footprintOf, mayUnfence, rewinds]; decide)) Kept.refl
  | jxFlush => exact kept_execJxFlush (.of (by dsimp only [maskOf, footprintOf, mayUnfence, rewinds]; decide)) Kept.refl
  | creq => exact kept_execCreq (.of (by dsimp only [maskOf, footprintOf, mayUnfence, rewinds]; decide)) Kept.refl
  | canopyWb => exact kept_execCanopyWb (.of (by dsimp only [maskOf, footprintOf, mayUnfence, rewinds]; decide)) Kept.refl
  | canopyInv => exact kept_execCanopyInv (.of (by dsimp only [maskOf, footprintOf, mayUnfence, rewinds]; decide)) Kept.refl
  | canopyDrainSet => exact kept_execCanopyDrainSet (.of (by dsimp only [maskOf, footprintOf, mayUnfence, rewinds]; decide)) Kept.refl
  | canopyDrainClear => exact kept_execCanopyDrainClear (.of (by dsimp only [maskOf, footprintOf, mayUnfence, rewinds]; decide)) Kept.refl
  | canopyWbDone => exact kept_execCanopyWbDone (.of (by dsimp only [maskOf, footprintOf, mayUnfence, rewinds]; decide)) Kept.refl
  | canopyDrained => exact kept_execCanopyDrained (.of (by dsimp only [maskOf, footprintOf, mayUnfence, rewinds]; decide)) Kept.refl
  | decayBoundary => exact kept_execDecayBoundary (.of (by dsimp only [maskOf, footprintOf, mayUnfence, rewinds]; decide)) Kept.refl
  | writeExpandDone => exact kept_execWriteExpandDone (.of (by dsimp only [maskOf, footprintOf, mayUnfence, rewinds]; decide)) Kept.refl
  | corePlanStart => exact kept_execCorePlanStart (.of (by dsimp only [maskOf, footprintOf, mayUnfence, rewinds]; decide)) Kept.refl
  | streamStepIssue => exact kept_execStreamStepIssue (.of (by dsimp only [maskOf, footprintOf, mayUnfence, rewinds]; decide)) Kept.refl
  | fetchDone => exact kept_execFetchDone (.of (by dsimp only [maskOf, footprintOf, mayUnfence, rewinds]; decide)) Kept.refl
  | stallTimeout => exact kept_execStallTimeout (.of (by dsimp only [maskOf, footprintOf, mayUnfence, rewinds]; decide)) Kept.refl
  | mintJobFetch => exact kept_execMintJobFetch (.of (by dsimp only [maskOf, footprintOf, mayUnfence, rewinds]; decide)) Kept.refl
  | mintCompress => exact kept_execMintCompress (.of (by dsimp only [maskOf, footprintOf, mayUnfence, rewinds]; decide)) Kept.refl
  | mintEncode => exact kept_execMintEncode (.of (by dsimp only [maskOf, footprintOf, mayUnfence, rewinds]; decide)) Kept.refl
  | mintBuild => exact kept_execMintBuild (.of (by dsimp only [maskOf, footprintOf, mayUnfence, rewinds]; decide)) Kept.refl
  | mintDecode => exact kept_execMintDecode (.of (by dsimp only [maskOf, footprintOf, mayUnfence, rewinds]; decide)) Kept.refl
  | mintRelease => exact kept_execMintRelease (.of (by dsimp only [maskOf, footprintOf, mayUnfence, rewinds]; decide)) Kept.refl
  | mintPass1End => exact kept_execMintPass1End (.of (by dsimp only [maskOf, footprintOf, mayUnfence, rewinds]; decide)) Kept.refl
  | mintJobEnd => exact kept_execMintJobEnd (.of (by dsimp only [maskOf, footprintOf, mayUnfence, rewinds]; decide)) Kept.refl
  | slotLock => exact kept_execSlotLock (.of (by dsimp only [maskOf, footprintOf, mayUnfence, rewinds]; decide)) Kept.refl
  | slotUnlock => exact kept_execSlotUnlock (.of (by dsimp only [maskOf, footprintOf, mayUnfence, rewinds]; decide)) Kept.refl
  | slotRetire => exact kept_execSlotRetire (.of (by dsimp only [maskOf, footprintOf, mayUnfence, rewinds]; decide)) Kept.refl
  | slotActivate => exact kept_execSlotActivate (.of (by dsimp only [maskOf, footprintOf, mayUnfence, rewinds]; decide)) Kept.refl
  | slotInstall => exact kept_execSlotInstall (.of (by dsimp only [maskOf, footprintOf, mayUnfence, rewinds]; decide)) Kept.refl
  | slotClear => exact kept_execSlotClear (.of (by dsimp only [maskOf, footprintOf, mayUnfence, rewinds]; decide)) Kept.refl
  | slotCmdReserved => exact kept_execSlotCmdReserved (.of (by dsimp only [maskOf, footprintOf, mayUnfence, rewinds]; decide)) Kept.refl
  | slotInstallDone => exact kept_execSlotInstallDone (.of (by dsimp only [maskOf, footprintOf, mayUnfence, rewinds]; decide)) Kept.refl
  | drainSetEmpty => exact kept_execDrainSetEmpty (.of (by dsimp only [maskOf, footprintOf, mayUnfence, rewinds]; decide)) Kept.refl
  | descFetch => exact kept_execDescFetch (.of (by dsimp only [maskOf, footprintOf, mayUnfence, rewinds]; decide)) Kept.refl
  | kernelStart => exact kept_execKernelStart (.of (by dsimp only [maskOf, footprintOf, mayUnfence, rewinds]; decide)) Kept.refl
  | kernelEnd => exact kept_execKernelEnd (.of (by dsimp only [maskOf, footprintOf, mayUnfence, rewinds]; decide)) Kept.refl
  | eventSet => exact kept_execEventSet (.of (by dsimp only [maskOf, footprintOf, mayUnfence, rewinds]; decide)) Kept.refl
  | eventAdd => exact kept_execEventAdd (.of (by dsimp only [maskOf, footprintOf, mayUnfence, rewinds]; decide)) Kept.refl
  | eventDec => exact kept_execEventDec (.of (by dsimp only [maskOf, footprintOf, mayUnfence, rewinds]; decide)) Kept.refl
  | barrierArrive => exact kept_execBarrierArrive (.of (by dsimp only [maskOf, footprintOf, mayUnfence, rewinds]; decide)) Kept.refl
  | slotRelease => exact kept_execSlotRelease (.of (by dsimp only [maskOf, footprintOf, mayUnfence, rewinds]; decide)) Kept.refl
  | expFwd => exact kept_execExpFwd (.of (by dsimp only [maskOf, footprintOf, mayUnfence, rewinds]; decide)) Kept.refl
  | expBwd => exact kept_execExpBwd (.of (by dsimp only [maskOf, footprintOf, mayUnfence, rewinds]; decide)) Kept.refl
  | expClose => exact kept_execExpClose (.of (by dsimp only [maskOf, footprintOf, mayUnfence, rewinds]; decide)) Kept.refl
  | expGroupCombine => exact kept_execExpGroupCombine (.of (by dsimp only [maskOf, footprintOf, mayUnfence, rewinds]; decide)) Kept.refl
  | flitRx => exact kept_execFlitRx (.of (by dsimp only [maskOf, footprintOf, mayUnfence, rewinds]; decide)) Kept.refl
  | badFlit => exact kept_execBadFlit (.of (by dsimp only [maskOf, footprintOf, mayUnfence, rewinds]; decide)) Kept.refl
  | linkInit => exact kept_execLinkInit (.of (by dsimp only [maskOf, footprintOf, mayUnfence, rewinds]; decide)) Kept.refl
  | replayRx => exact kept_execReplayRx (.of (by dsimp only [maskOf, footprintOf, mayUnfence, rewinds]; decide)) Kept.refl
  | initTimer => exact kept_execInitTimer (.of (by dsimp only [maskOf, footprintOf, mayUnfence, rewinds]; decide)) Kept.refl
  | replayTimer => exact kept_execReplayTimer (.of (by dsimp only [maskOf, footprintOf, mayUnfence, rewinds]; decide)) Kept.refl
  | ackTimer => exact kept_execAckTimer (.of (by dsimp only [maskOf, footprintOf, mayUnfence, rewinds]; decide)) Kept.refl
  | creditTimer => exact kept_execCreditTimer (.of (by dsimp only [maskOf, footprintOf, mayUnfence, rewinds]; decide)) Kept.refl
  | retrain => exact kept_execRetrain (.of (by dsimp only [maskOf, footprintOf, mayUnfence, rewinds]; decide)) Kept.refl
  | deferDecision => exact kept_execDeferDecision (.of (by dsimp only [maskOf, footprintOf, mayUnfence, rewinds]; decide)) Kept.refl
  | deferComplete => exact kept_execDeferComplete (.of (by dsimp only [maskOf, footprintOf, mayUnfence, rewinds]; decide)) Kept.refl
  | responseRx => exact kept_execResponseRx (.of (by dsimp only [maskOf, footprintOf, mayUnfence, rewinds]; decide)) Kept.refl
  | completionRx => exact kept_execCompletionRx (.of (by dsimp only [maskOf, footprintOf, mayUnfence, rewinds]; decide)) Kept.refl
  | ownReqTimeout => exact kept_execOwnReqTimeout (.of (by dsimp only [maskOf, footprintOf, mayUnfence, rewinds]; decide)) Kept.refl
  | ownDeferTimeout => exact kept_execOwnDeferTimeout (.of (by dsimp only [maskOf, footprintOf, mayUnfence, rewinds]; decide)) Kept.refl
  | syncRequest => exact kept_execSyncRequest (.of (by dsimp only [maskOf, footprintOf, mayUnfence, rewinds]; decide)) Kept.refl
  | syncReply => exact kept_execSyncReply (.of (by dsimp only [maskOf, footprintOf, mayUnfence, rewinds]; decide)) Kept.refl
  | syncInterval => exact kept_execSyncInterval (.of (by dsimp only [maskOf, footprintOf, mayUnfence, rewinds]; decide)) Kept.refl
  | syncSlew => exact kept_execSyncSlew (.of (by dsimp only [maskOf, footprintOf, mayUnfence, rewinds]; decide)) Kept.refl
  | trainingBlockRx => exact kept_execTrainingBlockRx (.of (by dsimp only [maskOf, footprintOf, mayUnfence, rewinds]; decide)) Kept.refl
  | trainLaser => exact kept_execTrainLaser (.of (by dsimp only [maskOf, footprintOf, mayUnfence, rewinds]; decide)) Kept.refl
  | trainSignal => exact kept_execTrainSignal (.of (by dsimp only [maskOf, footprintOf, mayUnfence, rewinds]; decide)) Kept.refl
  | trainEqualise => exact kept_execTrainEqualise (.of (by dsimp only [maskOf, footprintOf, mayUnfence, rewinds]; decide)) Kept.refl
  | trainMap => exact kept_execTrainMap (.of (by dsimp only [maskOf, footprintOf, mayUnfence, rewinds]; decide)) Kept.refl
  | trainVerify => exact kept_execTrainVerify (.of (by dsimp only [maskOf, footprintOf, mayUnfence, rewinds]; decide)) Kept.refl
  | trainWidth => exact kept_execTrainWidth (.of (by dsimp only [maskOf, footprintOf, mayUnfence, rewinds]; decide)) Kept.refl
  | trainStepLimit => exact kept_execTrainStepLimit (.of (by dsimp only [maskOf, footprintOf, mayUnfence, rewinds]; decide)) Kept.refl
  | trainAttemptTimeout => exact kept_execTrainAttemptTimeout (.of (by dsimp only [maskOf, footprintOf, mayUnfence, rewinds]; decide)) Kept.refl
  | trainRetry => exact kept_execTrainRetry (.of (by dsimp only [maskOf, footprintOf, mayUnfence, rewinds]; decide)) Kept.refl
  | laserPoll => exact kept_execLaserPoll (.of (by dsimp only [maskOf, footprintOf, mayUnfence, rewinds]; decide)) Kept.refl
  | laserPresentChange => exact kept_execLaserPresentChange (.of (by dsimp only [maskOf, footprintOf, mayUnfence, rewinds]; decide)) Kept.refl
  | laserReset => exact kept_execLaserReset (.of (by dsimp only [maskOf, footprintOf, mayUnfence, rewinds]; decide)) Kept.refl
  | optLaserEnable => exact kept_execOptLaserEnable (.of (by dsimp only [maskOf, footprintOf, mayUnfence, rewinds]; decide)) Kept.refl
  | refreshTick => exact kept_execRefreshTick (.of (by dsimp only [maskOf, footprintOf, mayUnfence, rewinds]; decide)) Kept.refl
  | rowHammerTrigger => exact kept_execRowHammerTrigger (.of (by dsimp only [maskOf, footprintOf, mayUnfence, rewinds]; decide)) Kept.refl
  | rfmCommand => exact kept_execRfmCommand (.of (by dsimp only [maskOf, footprintOf, mayUnfence, rewinds]; decide)) Kept.refl
  | thermalLevelChange => exact kept_execThermalLevelChange (.of (by dsimp only [maskOf, footprintOf, mayUnfence, rewinds]; decide)) Kept.refl
  | periodicUpdate => exact kept_execPeriodicUpdate (.of (by dsimp only [maskOf, footprintOf, mayUnfence, rewinds]; decide)) Kept.refl
  | dramChannelFenced => exact kept_execDramChannelFenced (.of (by dsimp only [maskOf, footprintOf, mayUnfence, rewinds]; decide)) Kept.refl
  | vaultReadDone => exact kept_execVaultReadDone (.of (by dsimp only [maskOf, footprintOf, mayUnfence, rewinds]; decide)) Kept.refl
  | vaultWriteDone => exact kept_execVaultWriteDone (.of (by dsimp only [maskOf, footprintOf, mayUnfence, rewinds]; decide)) Kept.refl
  | vaultMapFlush => exact kept_execVaultMapFlush (.of (by dsimp only [maskOf, footprintOf, mayUnfence, rewinds]; decide)) Kept.refl
  | vaultPatrol => exact kept_execVaultPatrol (.of (by dsimp only [maskOf, footprintOf, mayUnfence, rewinds]; decide)) Kept.refl
  | garbageCollection => exact kept_execGarbageCollection (.of (by dsimp only [maskOf, footprintOf, mayUnfence, rewinds]; decide)) Kept.refl
  | staticLevelling => exact kept_execStaticLevelling (.of (by dsimp only [maskOf, footprintOf, mayUnfence, rewinds]; decide)) Kept.refl
  | vaultProgram => exact kept_execVaultProgram (.of (by dsimp only [maskOf, footprintOf, mayUnfence, rewinds]; decide)) Kept.refl
  | ckptArm => exact kept_execCkptArm (.of (by dsimp only [maskOf, footprintOf, mayUnfence, rewinds]; decide)) Kept.refl
  | ckptMark => exact kept_execCkptMark (.of (by dsimp only [maskOf, footprintOf, mayUnfence, rewinds]; decide)) Kept.refl
  | ckptClear => exact kept_execCkptClear (.of (by dsimp only [maskOf, footprintOf, mayUnfence, rewinds]; decide)) Kept.refl
  | poolDoor => exact kept_execPoolDoor (.of (by dsimp only [maskOf, footprintOf, mayUnfence, rewinds]; decide)) Kept.refl
  | poolHostGo => exact kept_execPoolHostGo (.of (by dsimp only [maskOf, footprintOf, mayUnfence, rewinds]; decide)) Kept.refl
  | fill => exact kept_execFill (.of (by dsimp only [maskOf, footprintOf, mayUnfence, rewinds]; decide)) Kept.refl
  | copy => exact kept_execCopy (.of (by dsimp only [maskOf, footprintOf, mayUnfence, rewinds]; decide)) Kept.refl
  | cmp => exact kept_execCmp (.of (by dsimp only [maskOf, footprintOf, mayUnfence, rewinds]; decide)) Kept.refl
  | reduceSum => exact kept_execReduceSum (.of (by dsimp only [maskOf, footprintOf, mayUnfence, rewinds]; decide)) Kept.refl
  | reduceAccumulate => exact kept_execReduceAccumulate (.of (by dsimp only [maskOf, footprintOf, mayUnfence, rewinds]; decide)) Kept.refl
  | reduceReadout => exact kept_execReduceReadout (.of (by dsimp only [maskOf, footprintOf, mayUnfence, rewinds]; decide)) Kept.refl
  | poolOpEnd => exact kept_execPoolOpEnd (.of (by dsimp only [maskOf, footprintOf, mayUnfence, rewinds]; decide)) Kept.refl
  | vopen => exact kept_execVopen (.of (by dsimp only [maskOf, footprintOf, mayUnfence, rewinds]; decide)) Kept.refl
  | vclose => exact kept_execVclose (.of (by dsimp only [maskOf, footprintOf, mayUnfence, rewinds]; decide)) Kept.refl
  | vdraft => exact kept_execVdraft (.of (by dsimp only [maskOf, footprintOf, mayUnfence, rewinds]; decide)) Kept.refl
  | vdraftCopyDone => exact kept_execVdraftCopyDone (.of (by dsimp only [maskOf, footprintOf, mayUnfence, rewinds]; decide)) Kept.refl
  | vpublish => exact kept_execVpublish (.of (by dsimp only [maskOf, footprintOf, mayUnfence, rewinds]; decide)) Kept.refl
  | vrelease => exact kept_execVrelease (.of (by dsimp only [maskOf, footprintOf, mayUnfence, rewinds]; decide)) Kept.refl
  | poolVerReset => exact kept_execPoolVerReset (.of (by dsimp only [maskOf, footprintOf, mayUnfence, rewinds]; decide)) Kept.refl
  | grant => exact kept_execGrant (.of (by dsimp only [maskOf, footprintOf, mayUnfence, rewinds]; decide)) Kept.refl
  | extentRevoke => exact kept_execExtentRevoke (.of (by dsimp only [maskOf, footprintOf, mayUnfence, rewinds]; decide)) Kept.refl
  | revokeDrainTimeout => exact kept_execRevokeDrainTimeout (.of (by dsimp only [maskOf, footprintOf, mayUnfence, rewinds]; decide)) Kept.refl
  | extentFree => exact kept_execExtentFree (.of (by dsimp only [maskOf, footprintOf, mayUnfence, rewinds]; decide)) Kept.refl
  | limiterRefill => exact kept_execLimiterRefill (.of (by dsimp only [maskOf, footprintOf, mayUnfence, rewinds]; decide)) Kept.refl
  | tellerRefill => exact kept_execTellerRefill (.of (by dsimp only [maskOf, footprintOf, mayUnfence, rewinds]; decide)) Kept.refl
  | guaranteeWindow => exact kept_execGuaranteeWindow (.of (by dsimp only [maskOf, footprintOf, mayUnfence, rewinds]; decide)) Kept.refl
  | scaleUpdate => exact kept_execScaleUpdate (.of (by dsimp only [maskOf, footprintOf, mayUnfence, rewinds]; decide)) Kept.refl
  | stepInc => exact kept_execStepInc (.of (by dsimp only [maskOf, footprintOf, mayUnfence, rewinds]; decide)) Kept.refl
  | seedLock => exact kept_execSeedLock (.of (by dsimp only [maskOf, footprintOf, mayUnfence, rewinds]; decide)) Kept.refl
  | accSave => exact kept_execAccSave (.of (by dsimp only [maskOf, footprintOf, mayUnfence, rewinds]; decide)) Kept.refl
  | accRestore => exact kept_execAccRestore (.of (by dsimp only [maskOf, footprintOf, mayUnfence, rewinds]; decide)) Kept.refl
  | accClear => exact kept_execAccClear (.of (by dsimp only [maskOf, footprintOf, mayUnfence, rewinds]; decide)) Kept.refl
  | detSlotRestore => exact kept_execDetSlotRestore (.of (by dsimp only [maskOf, footprintOf, mayUnfence, rewinds]; decide)) Kept.refl
  | clockRepin => exact kept_execClockRepin (.of (by dsimp only [maskOf, footprintOf, mayUnfence, rewinds]; decide)) Kept.refl
  | storeRefetch => exact kept_execStoreRefetch (.of (by dsimp only [maskOf, footprintOf, mayUnfence, rewinds]; decide)) Kept.refl
  | dramRepair => exact kept_execDramRepair (.of (by dsimp only [maskOf, footprintOf, mayUnfence, rewinds]; decide)) Kept.refl
  | ceTableClear => exact kept_execCeTableClear (.of (by dsimp only [maskOf, footprintOf, mayUnfence, rewinds]; decide)) Kept.refl
  | ledgerHeadWrite => exact kept_execLedgerHeadWrite (.of (by dsimp only [maskOf, footprintOf, mayUnfence, rewinds]; decide)) Kept.refl
  | mergeWindowClose => exact kept_execMergeWindowClose (.of (by dsimp only [maskOf, footprintOf, mayUnfence, rewinds]; decide)) Kept.refl
  | scrubRead => exact kept_execScrubRead (.of (by dsimp only [maskOf, footprintOf, mayUnfence, rewinds]; decide)) Kept.refl
  | clrLate => exact kept_execClrLate (.of (by dsimp only [maskOf, footprintOf, mayUnfence, rewinds]; decide)) Kept.refl
  | passNow => exact kept_execPassNow (.of (by dsimp only [maskOf, footprintOf, mayUnfence, rewinds]; decide)) Kept.refl
  | flipArm => exact kept_execFlipArm (.of (by dsimp only [maskOf, footprintOf, mayUnfence, rewinds]; decide)) Kept.refl
  | kBlockEnd => exact kept_execKBlockEnd (.of (by dsimp only [maskOf, footprintOf, mayUnfence, rewinds]; decide)) Kept.refl
  | shadowTaken => exact kept_execShadowTaken (.of (by dsimp only [maskOf, footprintOf, mayUnfence, rewinds]; decide)) Kept.refl
  | shadowWaitTimeout => exact kept_execShadowWaitTimeout (.of (by dsimp only [maskOf, footprintOf, mayUnfence, rewinds]; decide)) Kept.refl
  | enginePassEnd => exact kept_execEnginePassEnd (.of (by dsimp only [maskOf, footprintOf, mayUnfence, rewinds]; decide)) Kept.refl
  | diagArm => exact kept_execDiagArm (.of (by dsimp only [maskOf, footprintOf, mayUnfence, rewinds]; decide)) Kept.refl
  | suspectFree => exact kept_execSuspectFree (.of (by dsimp only [maskOf, footprintOf, mayUnfence, rewinds]; decide)) Kept.refl
  | shelfLoad => exact kept_execShelfLoad (.of (by dsimp only [maskOf, footprintOf, mayUnfence, rewinds]; decide)) Kept.refl
  | shelfLoadDone => exact kept_execShelfLoadDone (.of (by dsimp only [maskOf, footprintOf, mayUnfence, rewinds]; decide)) Kept.refl
  | testRequest => exact kept_execTestRequest (.of (by dsimp only [maskOf, footprintOf, mayUnfence, rewinds]; decide)) Kept.refl
  | testAbort => exact kept_execTestAbort (.of (by dsimp only [maskOf, footprintOf, mayUnfence, rewinds]; decide)) Kept.refl
  | testStart => exact kept_execTestStart (.of (by dsimp only [maskOf, footprintOf, mayUnfence, rewinds]; decide)) Kept.refl
  | testDeferred => exact kept_execTestDeferred (.of (by dsimp only [maskOf, footprintOf, mayUnfence, rewinds]; decide)) Kept.refl
  | testEnd => exact kept_execTestEnd (.of (by dsimp only [maskOf, footprintOf, mayUnfence, rewinds]; decide)) Kept.refl
  | mirrorWriteRx => exact kept_execMirrorWriteRx (.of (by dsimp only [maskOf, footprintOf, mayUnfence, rewinds]; decide)) Kept.refl
  | mirrorAckRx => exact kept_execMirrorAckRx (.of (by dsimp only [maskOf, footprintOf, mayUnfence, rewinds]; decide)) Kept.refl
  | checkValueRx => exact kept_execCheckValueRx (.of (by dsimp only [maskOf, footprintOf, mayUnfence, rewinds]; decide)) Kept.refl
  | cmpWaitTimeout => exact kept_execCmpWaitTimeout (.of (by dsimp only [maskOf, footprintOf, mayUnfence, rewinds]; decide)) Kept.refl
  | replicatedOpRx => exact kept_execReplicatedOpRx (.of (by dsimp only [maskOf, footprintOf, mayUnfence, rewinds]; decide)) Kept.refl
  | heartbeatSend => exact kept_execHeartbeatSend (.of (by dsimp only [maskOf, footprintOf, mayUnfence, rewinds]; decide)) Kept.refl
  | heartbeatRx => exact kept_execHeartbeatRx (.of (by dsimp only [maskOf, footprintOf, mayUnfence, rewinds]; decide)) Kept.refl
  | pairLoss => exact kept_execPairLoss (.of (by dsimp only [maskOf, footprintOf, mayUnfence, rewinds]; decide)) Kept.refl
  | arbTimeout => exact kept_execArbTimeout (.of (by dsimp only [maskOf, footprintOf, mayUnfence, rewinds]; decide)) Kept.refl
  | pairSolo => exact kept_execPairSolo (.of (by dsimp only [maskOf, footprintOf, mayUnfence, rewinds]; decide)) Kept.refl
  | pairDetach => exact kept_execPairDetach (.of (by dsimp only [maskOf, footprintOf, mayUnfence, rewinds]; decide)) Kept.refl
  | pairRejoin => exact kept_execPairRejoin (.of (by dsimp only [maskOf, footprintOf, mayUnfence, rewinds]; decide)) Kept.refl
  | resetPartner => exact kept_execResetPartner (.of (by dsimp only [maskOf, footprintOf, mayUnfence, rewinds]; decide)) Kept.refl
  | formationRx => exact kept_execFormationRx (.of (by dsimp only [maskOf, footprintOf, mayUnfence, rewinds]; decide)) Kept.refl
  | formationRetry => exact kept_execFormationRetry (.of (by dsimp only [maskOf, footprintOf, mayUnfence, rewinds]; decide)) Kept.refl
  | resyncPiece => exact kept_execResyncPiece (.of (by dsimp only [maskOf, footprintOf, mayUnfence, rewinds]; decide)) Kept.refl
  | mmEntryFree => exact kept_execMmEntryFree (.of (by dsimp only [maskOf, footprintOf, mayUnfence, rewinds]; decide)) Kept.refl
  | hostRead => exact kept_execHostRead (.of (by dsimp only [maskOf, footprintOf, mayUnfence, rewinds]; decide)) Kept.refl
  | hostWrite => exact kept_execHostWrite (.of (by dsimp only [maskOf, footprintOf, mayUnfence, rewinds]; decide)) Kept.refl
  | hostReadDone => exact kept_execHostReadDone (.of (by dsimp only [maskOf, footprintOf, mayUnfence, rewinds]; decide)) Kept.refl
  | pepCplLimit => exact kept_execPepCplLimit (.of (by dsimp only [maskOf, footprintOf, mayUnfence, rewinds]; decide)) Kept.refl
  | winCommit => exact kept_execWinCommit (.of (by dsimp only [maskOf, footprintOf, mayUnfence, rewinds]; decide)) Kept.refl
  | winCommitDone => exact kept_execWinCommitDone (.of (by dsimp only [maskOf, footprintOf, mayUnfence, rewinds]; decide)) Kept.refl
  | cxlMemRead => exact kept_execCxlMemRead (.of (by dsimp only [maskOf, footprintOf, mayUnfence, rewinds]; decide)) Kept.refl
  | cxlMemWrite => exact kept_execCxlMemWrite (.of (by dsimp only [maskOf, footprintOf, mayUnfence, rewinds]; decide)) Kept.refl
  | hdmCommit => exact kept_execHdmCommit (.of (by dsimp only [maskOf, footprintOf, mayUnfence, rewinds]; decide)) Kept.refl
  | mailboxCommand => exact kept_execMailboxCommand (.of (by dsimp only [maskOf, footprintOf, mayUnfence, rewinds]; decide)) Kept.refl
  | configAccess => exact kept_execConfigAccess (.of (by dsimp only [maskOf, footprintOf, mayUnfence, rewinds]; decide)) Kept.refl
  | dmaToPool => exact kept_execDmaToPool (.of (by dsimp only [maskOf, footprintOf, mayUnfence, rewinds]; decide)) Kept.refl
  | dmaToHost => exact kept_execDmaToHost (.of (by dsimp only [maskOf, footprintOf, mayUnfence, rewinds]; decide)) Kept.refl
  | dmaDescEnd => exact kept_execDmaDescEnd (.of (by dsimp only [maskOf, footprintOf, mayUnfence, rewinds]; decide)) Kept.refl
  | bmeClear => exact kept_execBmeClear (.of (by dsimp only [maskOf, footprintOf, mayUnfence, rewinds]; decide)) Kept.refl
  | dmaReenable => exact kept_execDmaReenable (.of (by dsimp only [maskOf, footprintOf, mayUnfence, rewinds]; decide)) Kept.refl
  | endpointReset => exact kept_execEndpointReset (.of (by dsimp only [maskOf, footprintOf, mayUnfence, rewinds]; decide)) Kept.refl
  | msixSend => exact kept_execMsixSend (.of (by dsimp only [maskOf, footprintOf, mayUnfence, rewinds]; decide)) Kept.refl
  | l1Entry => exact kept_execL1Entry (.of (by dsimp only [maskOf, footprintOf, mayUnfence, rewinds]; decide)) Kept.refl
  | l0pNarrow => exact kept_execL0pNarrow (.of (by dsimp only [maskOf, footprintOf, mayUnfence, rewinds]; decide)) Kept.refl
  | l0pWiden => exact kept_execL0pWiden (.of (by dsimp only [maskOf, footprintOf, mayUnfence, rewinds]; decide)) Kept.refl
  | d3hotEntry => exact kept_execD3hotEntry (.of (by dsimp only [maskOf, footprintOf, mayUnfence, rewinds]; decide)) Kept.refl
  | powerOn => exact kept_execPowerOn (.of (by dsimp only [maskOf, footprintOf, mayUnfence, rewinds]; decide)) Kept.refl
  | perstAssert => exact kept_execPerstAssert (.of (by dsimp only [maskOf, footprintOf, mayUnfence, rewinds]; decide)) Kept.refl
  | perstDeassert => exact kept_execPerstDeassert (.of (by dsimp only [maskOf, footprintOf, mayUnfence, rewinds]; decide)) Kept.refl
  | hrstAssert => exact kept_execHrstAssert (.of (by dsimp only [maskOf, footprintOf, mayUnfence, rewinds]; decide)) Kept.refl
  | hrstDeassert => exact kept_execHrstDeassert (.of (by dsimp only [maskOf, footprintOf, mayUnfence, rewinds]; decide)) Kept.refl
  | dieThermalTrip => exact kept_execDieThermalTrip (.of (by dsimp only [maskOf, footprintOf, mayUnfence, rewinds]; decide)) Kept.refl
  | thermalHoldEnd => exact kept_execThermalHoldEnd (.of (by dsimp only [maskOf, footprintOf, mayUnfence, rewinds]; decide)) Kept.refl
  | partnerResetRx => exact kept_execPartnerResetRx (.of (by dsimp only [maskOf, footprintOf, mayUnfence, rewinds]; decide)) Kept.refl
  | softwareReset => exact kept_execSoftwareReset (.of (by dsimp only [maskOf, footprintOf, mayUnfence, rewinds]; decide)) Kept.refl
  | selfRefreshReady => exact kept_execSelfRefreshReady (.of (by dsimp only [maskOf, footprintOf, mayUnfence, rewinds]; decide)) Kept.refl
  | keepFailed => exact kept_execKeepFailed (.of (by dsimp only [maskOf, footprintOf, mayUnfence, rewinds]; decide)) Kept.refl
  | blockReset => exact kept_execBlockReset (.of (by dsimp only [maskOf, footprintOf, mayUnfence, rewinds]; decide)) Kept.refl
  | blockResetIdle => exact kept_execBlockResetIdle (.of (by dsimp only [maskOf, footprintOf, mayUnfence, rewinds]; decide)) Kept.refl
  | blkRstTimeout => exact kept_execBlkRstTimeout (.of (by dsimp only [maskOf, footprintOf, mayUnfence, rewinds]; decide)) Kept.refl
  | startupStepDone => exact kept_execStartupStepDone (.of (by dsimp only [maskOf, footprintOf, mayUnfence, rewinds]; decide)) Kept.refl
  | startupStepLimit => exact kept_execStartupStepLimit (.of (by dsimp only [maskOf, footprintOf, mayUnfence, rewinds]; decide)) Kept.refl
  | powerRegulate => exact kept_execPowerRegulate (.of (by dsimp only [maskOf, footprintOf, mayUnfence, rewinds]; decide)) Kept.refl
  | watchdogExpire => exact kept_execWatchdogExpire (.of (by dsimp only [maskOf, footprintOf, mayUnfence, rewinds]; decide)) Kept.refl
  | wdogKick => exact kept_execWdogKick (.of (by dsimp only [maskOf, footprintOf, mayUnfence, rewinds]; decide)) Kept.refl
  | fuseRevoke => exact kept_execFuseRevoke (.of (by dsimp only [maskOf, footprintOf, mayUnfence, rewinds]; decide)) Kept.refl
  | fuseRaiseMin => exact kept_execFuseRaiseMin (.of (by dsimp only [maskOf, footprintOf, mayUnfence, rewinds]; decide)) Kept.refl
  | fuseConfirmTimeout => exact kept_execFuseConfirmTimeout (.of (by dsimp only [maskOf, footprintOf, mayUnfence, rewinds]; decide)) Kept.refl
  | norUpdate => exact kept_execNorUpdate (.of (by dsimp only [maskOf, footprintOf, mayUnfence, rewinds]; decide)) Kept.refl
  | norUpdateDone => exact kept_execNorUpdateDone (.of (by dsimp only [maskOf, footprintOf, mayUnfence, rewinds]; decide)) Kept.refl
  | sessionOpen => exact kept_execSessionOpen (.of (by dsimp only [maskOf, footprintOf, mayUnfence, rewinds]; decide)) Kept.refl
  | sessionClose => exact kept_execSessionClose (.of (by dsimp only [maskOf, footprintOf, mayUnfence, rewinds]; decide)) Kept.refl
  | imgServeEnd => exact kept_execImgServeEnd (.of (by dsimp only [maskOf, footprintOf, mayUnfence, rewinds]; decide)) Kept.refl
  | imgPage => exact kept_execImgPage (.of (by dsimp only [maskOf, footprintOf, mayUnfence, rewinds]; decide)) Kept.refl
  | imgWinRead => exact kept_execImgWinRead (.of (by dsimp only [maskOf, footprintOf, mayUnfence, rewinds]; decide)) Kept.refl
  | attest => exact kept_execAttest (.of (by dsimp only [maskOf, footprintOf, mayUnfence, rewinds]; decide)) Kept.refl
  | attestDone => exact kept_execAttestDone (.of (by dsimp only [maskOf, footprintOf, mayUnfence, rewinds]; decide)) Kept.refl
  | i3cIndexWrite => exact kept_execI3cIndexWrite (.of (by dsimp only [maskOf, footprintOf, mayUnfence, rewinds]; decide)) Kept.refl
  | i3cRead => exact kept_execI3cRead (.of (by dsimp only [maskOf, footprintOf, mayUnfence, rewinds]; decide)) Kept.refl
  | i3cRecovery => exact kept_execI3cRecovery (.of (by dsimp only [maskOf, footprintOf, mayUnfence, rewinds]; decide)) Kept.refl
  | i3cCcc => exact kept_execI3cCcc (.of (by dsimp only [maskOf, footprintOf, mayUnfence, rewinds]; decide)) Kept.refl
  | endpointLinkUp => exact kept_execEndpointLinkUp (.of (by dsimp only [maskOf, footprintOf, mayUnfence, rewinds]; decide)) Kept.refl
  | l1Exit => exact kept_execL1Exit (.of (by dsimp only [maskOf, footprintOf, mayUnfence, rewinds]; decide)) Kept.refl
  | dmaCompletionTimeout => exact kept_execDmaCompletionTimeout (.of (by dsimp only [maskOf, footprintOf, mayUnfence, rewinds]; decide)) Kept.refl
  | boundaryScan => exact kept_execBoundaryScan (.of (by dsimp only [maskOf, footprintOf, mayUnfence, rewinds]; decide)) Kept.refl

/-- Nothing outside its footprint changes. -/
theorem Kept.keeps {c : Instr} {s t : State} (h : Kept (maskOf c) s t) : (footprintOf c).keeps s t := by
  refine ⟨fun p hp => h.same p ?_, fun l hl off ho => h.reg off ?_⟩
  · have hi := p.idx_lt
    rw [maskOf_bit c (by omega) (by omega), Footprint.mask_bit, Bool.or_eq_false_iff]
    constructor
    · cases (footprintOf c).regs with
      | none => simp only [Bool.and_eq_false_imp, decide_eq_true_eq]; omega
      | some l => simp only [List.any_eq_false, beq_iff_eq]; omega
    · simp only [List.any_eq_false, beq_iff_eq]
      exact fun q hq he => hp (Part.idx_inj he ▸ hq)
  · rintro (h63 | ⟨k, hk, hf⟩)
    · rw [maskOf_bit c (by omega) (by omega), Footprint.mask_bit, hl] at h63
      simp only [Bool.or_eq_true, List.any_eq_true, beq_iff_eq] at h63
      rcases h63 with ⟨j, _, hj⟩ | ⟨p, _, hp⟩
      · omega
      · have := p.idx_lt
        omega
    · rw [maskOf_bit c (by omega) (by omega), Footprint.mask_bit, hl] at hk
      simp only [Bool.or_eq_true, List.any_eq_true, beq_iff_eq] at hk
      rcases hk with ⟨j, hj, he⟩ | ⟨p, _, hp⟩
      · exact ho ⟨j, hj, by rwa [show j = k by omega]⟩
      · have := p.idx_lt
        omega


end Sys2Proof.Machine
end

