-- ==== Sys2Proof/Laws/Exec.lean ====
section
/-! SUPPORT. What the laws of footprints say of one command or one tick: the form in which claims about a next state use them. -/

namespace Sys2Proof.Machine

theorem exec_kept {c : Instr} {s t : State} (h : exec c s = .next t) : Kept (maskOf c) s t := kept_exec c s t h

theorem tick_kept (s : State) :
    Kept 0x400000108000000000000020240000000000000000000000000000000041050003 s s.tick := kept_tick Within.rfl' Kept.refl

/-- The bits between the parts and the families say only whether the counter may go back and fences may be cleared. -/
theorem Footprint.mask_gap (x : Footprint) {k : Nat} (h0 : 46 ≤ k) (h1 : k < 63) : x.mask.testBit k = false := by
  rw [Footprint.mask_bit, Bool.or_eq_false_iff]
  constructor
  · cases x.regs with
    | none => simp only [Bool.and_eq_false_imp, decide_eq_true_eq]; omega
    | some l => simp only [List.any_eq_false, beq_iff_eq]; omega
  · simp only [List.any_eq_false, beq_iff_eq]
    intro p _
    have := p.idx_lt
    omega

theorem maskOf_rewinds (c : Instr) : (maskOf c).testBit 60 = rewinds c := by
  unfold maskOf
  rw [Nat.testBit_or, Nat.testBit_or, Footprint.mask_gap _ (by decide) (by decide)]
  cases mayUnfence c <;> cases rewinds c <;> decide

theorem maskOf_unfence (c : Instr) : (maskOf c).testBit 61 = mayUnfence c := by
  unfold maskOf
  rw [Nat.testBit_or, Nat.testBit_or, Footprint.mask_gap _ (by decide) (by decide)]
  cases mayUnfence c <;> cases rewinds c <;> decide

/-- The part of a state under its number. -/
theorem maskOf_part (c : Instr) (p : Part) : (maskOf c).testBit p.idx = (footprintOf c).mask.testBit p.idx := by
  have := p.idx_lt
  exact maskOf_bit c (by omega) (by omega)

/-- The canonical form does not look at the queue. -/
theorem canonical_pending {s : State} {l : List Instr} : State.canonical { s with pending := l } ↔ s.canonical :=
  ⟨fun h p => by have := h p; cases p <;> exact this, fun h p => by have := h p; cases p <;> exact this⟩

theorem Kept.canonical {M : Nat} {s t : State} (h : Kept M s t) (hs : s.canonical) : t.canonical := fun p => h.table p (hs p)

theorem canonical_setReg {s : State} {off : Nat} {v : W64} (h : s.canonical) : (s.setReg off v).canonical :=
  (Kept.setReg (M := 2 ^ 63 + 2) (by decide) (.inl (by decide)) Kept.refl).canonical h

theorem canonical_setF {s : State} {x : Fld} {v : Nat} (h : s.canonical) : (s.setF x v).canonical := canonical_setReg h

theorem canonical_regsOk {s : State} (h : s.canonical) : Sparse.wf regReset s.regs = true := h .regs

end Sys2Proof.Machine
end

