-- ==== Sys2Proof/Laws/PerInstr.lean ====
section
/-! SUPPORT. What is shown of every command as syntax, one lemma for each: its footprint never names the queue of waiting
commands, and it names register families that the control space has. -/

open Sys2Proof Sys2Proof.Machine

/-- Whether a footprint leaves the queue out and names existing register families alone. -/
def Sys2Proof.Laws.FootprintSound.ok (x : Footprint) : Bool :=
  !x.parts.contains .queue && (x.regs.getD []).all (fun k => decide (0 < (family k).n1))

/-- The family's statement about one command. -/
def Sys2Proof.Laws.FootprintSound.Statement (c : Instr) : Prop := Sys2Proof.Laws.FootprintSound.ok (footprintOf c) = true

theorem Sys2Proof.Laws.FootprintSound.registerWrite (src : Node) (off : Fin 268435456) (part : RegPart) (v : W64) (tag : Tag) (host : Bool) :
    Sys2Proof.Laws.FootprintSound.Statement (.registerWrite src off part v tag host) := rfl
theorem Sys2Proof.Laws.FootprintSound.operandParity (cut : KernelCut) :
    Sys2Proof.Laws.FootprintSound.Statement (.operandParity cut) := rfl
theorem Sys2Proof.Laws.FootprintSound.seqFault (cut : KernelCut) :
    Sys2Proof.Laws.FootprintSound.Statement (.seqFault cut) := rfl
theorem Sys2Proof.Laws.FootprintSound.clusterFault (c : Fin 8) (why : ClusterCause) (cuts : List KernelCut) :
    Sys2Proof.Laws.FootprintSound.Statement (.clusterFault c why cuts) := rfl
theorem Sys2Proof.Laws.FootprintSound.dieFault (d : Fin 2) (cuts : List KernelCut) :
    Sys2Proof.Laws.FootprintSound.Statement (.dieFault d cuts) := rfl
theorem Sys2Proof.Laws.FootprintSound.bridgeFailure (cuts : List KernelCut) :
    Sys2Proof.Laws.FootprintSound.Statement (.bridgeFailure cuts) := rfl
theorem Sys2Proof.Laws.FootprintSound.coreWake (n : Fin 16) :
    Sys2Proof.Laws.FootprintSound.Statement (.coreWake n) := rfl
theorem Sys2Proof.Laws.FootprintSound.coreReady (n : Fin 16) :
    Sys2Proof.Laws.FootprintSound.Statement (.coreReady n) := rfl
theorem Sys2Proof.Laws.FootprintSound.coreGate (n : Fin 16) :
    Sys2Proof.Laws.FootprintSound.Statement (.coreGate n) := rfl
theorem Sys2Proof.Laws.FootprintSound.sitLoad (src : Fin 4) :
    Sys2Proof.Laws.FootprintSound.Statement (.sitLoad src) := rfl
theorem Sys2Proof.Laws.FootprintSound.imageLoadEnd (img : Bytes) (bad : List Nat) (env : VaultEnv) :
    Sys2Proof.Laws.FootprintSound.Statement (.imageLoadEnd img bad env) := rfl
theorem Sys2Proof.Laws.FootprintSound.epochGo :
    Sys2Proof.Laws.FootprintSound.Statement .epochGo := rfl
theorem Sys2Proof.Laws.FootprintSound.epochAbandon :
    Sys2Proof.Laws.FootprintSound.Statement .epochAbandon := rfl
theorem Sys2Proof.Laws.FootprintSound.epochLaunch :
    Sys2Proof.Laws.FootprintSound.Statement .epochLaunch := rfl
theorem Sys2Proof.Laws.FootprintSound.epochAck (unit : Fin 47) :
    Sys2Proof.Laws.FootprintSound.Statement (.epochAck unit) := rfl
theorem Sys2Proof.Laws.FootprintSound.epochRefusal (unit : Fin 47) :
    Sys2Proof.Laws.FootprintSound.Statement (.epochRefusal unit) := rfl
theorem Sys2Proof.Laws.FootprintSound.epochCommit :
    Sys2Proof.Laws.FootprintSound.Statement .epochCommit := rfl
theorem Sys2Proof.Laws.FootprintSound.epochTimeout :
    Sys2Proof.Laws.FootprintSound.Statement .epochTimeout := rfl
theorem Sys2Proof.Laws.FootprintSound.oldSetRelease :
    Sys2Proof.Laws.FootprintSound.Statement .oldSetRelease := rfl
theorem Sys2Proof.Laws.FootprintSound.jxRd (q : Req) (env : AccessEnv) :
    Sys2Proof.Laws.FootprintSound.Statement (.jxRd q env) := rfl
theorem Sys2Proof.Laws.FootprintSound.jxWr (q : Req) (env : AccessEnv) :
    Sys2Proof.Laws.FootprintSound.Statement (.jxWr q env) := rfl
theorem Sys2Proof.Laws.FootprintSound.jxFlush (q : Req) :
    Sys2Proof.Laws.FootprintSound.Statement (.jxFlush q) := rfl
theorem Sys2Proof.Laws.FootprintSound.creq (write : Bool) (q : Req) :
    Sys2Proof.Laws.FootprintSound.Statement (.creq write q) := rfl
theorem Sys2Proof.Laws.FootprintSound.canopyWb (c : Fin 8) :
    Sys2Proof.Laws.FootprintSound.Statement (.canopyWb c) := rfl
theorem Sys2Proof.Laws.FootprintSound.canopyInv (c : Fin 8) :
    Sys2Proof.Laws.FootprintSound.Statement (.canopyInv c) := rfl
theorem Sys2Proof.Laws.FootprintSound.canopyDrainSet (c : Fin 8) :
    Sys2Proof.Laws.FootprintSound.Statement (.canopyDrainSet c) := rfl
theorem Sys2Proof.Laws.FootprintSound.canopyDrainClear (c : Fin 8) :
    Sys2Proof.Laws.FootprintSound.Statement (.canopyDrainClear c) := rfl
theorem Sys2Proof.Laws.FootprintSound.canopyWbDone (c : Fin 8) :
    Sys2Proof.Laws.FootprintSound.Statement (.canopyWbDone c) := rfl
theorem Sys2Proof.Laws.FootprintSound.canopyDrained (c : Fin 8) :
    Sys2Proof.Laws.FootprintSound.Statement (.canopyDrained c) := rfl
theorem Sys2Proof.Laws.FootprintSound.decayBoundary :
    Sys2Proof.Laws.FootprintSound.Statement .decayBoundary := rfl
theorem Sys2Proof.Laws.FootprintSound.writeExpandDone (id : Nat) (env : AccessEnv) :
    Sys2Proof.Laws.FootprintSound.Statement (.writeExpandDone id env) := rfl
theorem Sys2Proof.Laws.FootprintSound.corePlanStart (n : Fin 16) (id : W32) :
    Sys2Proof.Laws.FootprintSound.Statement (.corePlanStart n id) := rfl
theorem Sys2Proof.Laws.FootprintSound.streamStepIssue (plan : Nat) :
    Sys2Proof.Laws.FootprintSound.Statement (.streamStepIssue plan) := rfl
theorem Sys2Proof.Laws.FootprintSound.fetchDone (plan : Nat) (no : Nat) (env : VaultEnv) :
    Sys2Proof.Laws.FootprintSound.Statement (.fetchDone plan no env) := rfl
theorem Sys2Proof.Laws.FootprintSound.stallTimeout (core : Fin 16) :
    Sys2Proof.Laws.FootprintSound.Statement (.stallTimeout core) := rfl
theorem Sys2Proof.Laws.FootprintSound.mintJobFetch :
    Sys2Proof.Laws.FootprintSound.Statement .mintJobFetch := rfl
theorem Sys2Proof.Laws.FootprintSound.mintCompress :
    Sys2Proof.Laws.FootprintSound.Statement .mintCompress := rfl
theorem Sys2Proof.Laws.FootprintSound.mintEncode :
    Sys2Proof.Laws.FootprintSound.Statement .mintEncode := rfl
theorem Sys2Proof.Laws.FootprintSound.mintBuild :
    Sys2Proof.Laws.FootprintSound.Statement .mintBuild := rfl
theorem Sys2Proof.Laws.FootprintSound.mintDecode :
    Sys2Proof.Laws.FootprintSound.Statement .mintDecode := rfl
theorem Sys2Proof.Laws.FootprintSound.mintRelease :
    Sys2Proof.Laws.FootprintSound.Statement .mintRelease := rfl
theorem Sys2Proof.Laws.FootprintSound.mintPass1End (id : Nat) :
    Sys2Proof.Laws.FootprintSound.Statement (.mintPass1End id) := rfl
theorem Sys2Proof.Laws.FootprintSound.mintJobEnd (id : Nat) :
    Sys2Proof.Laws.FootprintSound.Statement (.mintJobEnd id) := rfl
theorem Sys2Proof.Laws.FootprintSound.slotLock (i : Fin 64) :
    Sys2Proof.Laws.FootprintSound.Statement (.slotLock i) := rfl
theorem Sys2Proof.Laws.FootprintSound.slotUnlock (i : Fin 64) :
    Sys2Proof.Laws.FootprintSound.Statement (.slotUnlock i) := rfl
theorem Sys2Proof.Laws.FootprintSound.slotRetire (i : Fin 64) :
    Sys2Proof.Laws.FootprintSound.Statement (.slotRetire i) := rfl
theorem Sys2Proof.Laws.FootprintSound.slotActivate (i : Fin 64) :
    Sys2Proof.Laws.FootprintSound.Statement (.slotActivate i) := rfl
theorem Sys2Proof.Laws.FootprintSound.slotInstall (i : Fin 64) (planes : Fin 8) (xor : Bool) :
    Sys2Proof.Laws.FootprintSound.Statement (.slotInstall i planes xor) := rfl
theorem Sys2Proof.Laws.FootprintSound.slotClear (i : Fin 64) :
    Sys2Proof.Laws.FootprintSound.Statement (.slotClear i) := rfl
theorem Sys2Proof.Laws.FootprintSound.slotCmdReserved (i : Fin 64) (seven : Bool) :
    Sys2Proof.Laws.FootprintSound.Statement (.slotCmdReserved i seven) := rfl
theorem Sys2Proof.Laws.FootprintSound.slotInstallDone (i : Fin 64) :
    Sys2Proof.Laws.FootprintSound.Statement (.slotInstallDone i) := rfl
theorem Sys2Proof.Laws.FootprintSound.drainSetEmpty (i : Fin 64) :
    Sys2Proof.Laws.FootprintSound.Statement (.drainSetEmpty i) := rfl
theorem Sys2Proof.Laws.FootprintSound.descFetch (n : Fin 16) (fromDq : Bool) :
    Sys2Proof.Laws.FootprintSound.Statement (.descFetch n fromDq) := rfl
theorem Sys2Proof.Laws.FootprintSound.kernelStart (n : Fin 16) (code : KCode) (ecc : List (Bool × Fin 8)) :
    Sys2Proof.Laws.FootprintSound.Statement (.kernelStart n code ecc) := rfl
theorem Sys2Proof.Laws.FootprintSound.kernelEnd (n : Fin 16) (run : KernelRun) :
    Sys2Proof.Laws.FootprintSound.Statement (.kernelEnd n run) := rfl
theorem Sys2Proof.Laws.FootprintSound.eventSet (i : Fin 4096) (v : W32) :
    Sys2Proof.Laws.FootprintSound.Statement (.eventSet i v) := rfl
theorem Sys2Proof.Laws.FootprintSound.eventAdd (i : Fin 4096) (n : W32) :
    Sys2Proof.Laws.FootprintSound.Statement (.eventAdd i n) := rfl
theorem Sys2Proof.Laws.FootprintSound.eventDec (i : Fin 4096) (n : W32) :
    Sys2Proof.Laws.FootprintSound.Statement (.eventDec i n) := rfl
theorem Sys2Proof.Laws.FootprintSound.barrierArrive (b : Fin 64) (tag : Tag) :
    Sys2Proof.Laws.FootprintSound.Statement (.barrierArrive b tag) := rfl
theorem Sys2Proof.Laws.FootprintSound.slotRelease (n : Fin 4096) (seq : W32) :
    Sys2Proof.Laws.FootprintSound.Statement (.slotRelease n seq) := rfl
theorem Sys2Proof.Laws.FootprintSound.expFwd (n : Fin 16) (plans : List (Nat × Nat)) (time : KernelTime) :
    Sys2Proof.Laws.FootprintSound.Statement (.expFwd n plans time) := rfl
theorem Sys2Proof.Laws.FootprintSound.expBwd (n : Fin 16) (plans : List (Nat × Nat)) (time : KernelTime) :
    Sys2Proof.Laws.FootprintSound.Statement (.expBwd n plans time) := rfl
theorem Sys2Proof.Laws.FootprintSound.expClose (n : Fin 16) (plans : List (Nat × Nat)) (time : KernelTime) :
    Sys2Proof.Laws.FootprintSound.Statement (.expClose n plans time) := rfl
theorem Sys2Proof.Laws.FootprintSound.expGroupCombine (n : Fin 16) (time : KernelTime) :
    Sys2Proof.Laws.FootprintSound.Statement (.expGroupCombine n time) := rfl
theorem Sys2Proof.Laws.FootprintSound.flitRx (p : Fin 18) (lanes : List (List (Fin 4))) :
    Sys2Proof.Laws.FootprintSound.Statement (.flitRx p lanes) := rfl
theorem Sys2Proof.Laws.FootprintSound.badFlit (p : Fin 18) :
    Sys2Proof.Laws.FootprintSound.Statement (.badFlit p) := rfl
theorem Sys2Proof.Laws.FootprintSound.linkInit (p : Fin 18) (seen : Bool) (req : W16) (rsp : W16) (ntc : W16) (ctl : W16) :
    Sys2Proof.Laws.FootprintSound.Statement (.linkInit p seen req rsp ntc ctl) := rfl
theorem Sys2Proof.Laws.FootprintSound.replayRx (p : Fin 18) (start : Fin 1024) (header : W64) :
    Sys2Proof.Laws.FootprintSound.Statement (.replayRx p start header) := rfl
theorem Sys2Proof.Laws.FootprintSound.initTimer (p : Fin 18) :
    Sys2Proof.Laws.FootprintSound.Statement (.initTimer p) := rfl
theorem Sys2Proof.Laws.FootprintSound.replayTimer (p : Fin 18) :
    Sys2Proof.Laws.FootprintSound.Statement (.replayTimer p) := rfl
theorem Sys2Proof.Laws.FootprintSound.ackTimer (p : Fin 18) :
    Sys2Proof.Laws.FootprintSound.Statement (.ackTimer p) := rfl
theorem Sys2Proof.Laws.FootprintSound.creditTimer (p : Fin 18) :
    Sys2Proof.Laws.FootprintSound.Statement (.creditTimer p) := rfl
theorem Sys2Proof.Laws.FootprintSound.retrain (p : Fin 18) :
    Sys2Proof.Laws.FootprintSound.Statement (.retrain p) := rfl
theorem Sys2Proof.Laws.FootprintSound.deferDecision (id : Nat) :
    Sys2Proof.Laws.FootprintSound.Statement (.deferDecision id) := rfl
theorem Sys2Proof.Laws.FootprintSound.deferComplete (id : Nat) (env : AccessEnv) :
    Sys2Proof.Laws.FootprintSound.Statement (.deferComplete id env) := rfl
theorem Sys2Proof.Laws.FootprintSound.responseRx (p : Fin 18) (src : Node) (txn : W16) (status : Fin 16) (token : W32) (mask : W32) (data : Bytes) :
    Sys2Proof.Laws.FootprintSound.Statement (.responseRx p src txn status token mask data) := rfl
theorem Sys2Proof.Laws.FootprintSound.completionRx (p : Fin 18) (src : Node) (txn : W16) (token : W32) (status : Fin 16) (mask : W32) (data : Bytes) :
    Sys2Proof.Laws.FootprintSound.Statement (.completionRx p src txn token status mask data) := rfl
theorem Sys2Proof.Laws.FootprintSound.ownReqTimeout (txn : W16) :
    Sys2Proof.Laws.FootprintSound.Statement (.ownReqTimeout txn) := rfl
theorem Sys2Proof.Laws.FootprintSound.ownDeferTimeout (txn : W16) :
    Sys2Proof.Laws.FootprintSound.Statement (.ownDeferTimeout txn) := rfl
theorem Sys2Proof.Laws.FootprintSound.syncRequest (src : Node) (t1 : W64) (t2 : W64) (t3 : W64) (seq : W64) :
    Sys2Proof.Laws.FootprintSound.Statement (.syncRequest src t1 t2 t3 seq) := rfl
theorem Sys2Proof.Laws.FootprintSound.syncReply (p : Fin 18) (t1 : W64) (t2 : W64) (t3 : W64) (t4 : W64) (seq : W64) :
    Sys2Proof.Laws.FootprintSound.Statement (.syncReply p t1 t2 t3 t4 seq) := rfl
theorem Sys2Proof.Laws.FootprintSound.syncInterval :
    Sys2Proof.Laws.FootprintSound.Statement .syncInterval := rfl
theorem Sys2Proof.Laws.FootprintSound.syncSlew :
    Sys2Proof.Laws.FootprintSound.Statement .syncSlew := rfl
theorem Sys2Proof.Laws.FootprintSound.trainingBlockRx (e : Fin 18) (lane : Fin 8) (block : Bytes) :
    Sys2Proof.Laws.FootprintSound.Statement (.trainingBlockRx e lane block) := rfl
theorem Sys2Proof.Laws.FootprintSound.trainLaser (e : Fin 18) :
    Sys2Proof.Laws.FootprintSound.Statement (.trainLaser e) := rfl
theorem Sys2Proof.Laws.FootprintSound.trainSignal (e : Fin 18) (locked : Byte) :
    Sys2Proof.Laws.FootprintSound.Statement (.trainSignal e locked) := rfl
theorem Sys2Proof.Laws.FootprintSound.trainEqualise (e : Fin 18) :
    Sys2Proof.Laws.FootprintSound.Statement (.trainEqualise e) := rfl
theorem Sys2Proof.Laws.FootprintSound.trainMap (e : Fin 18) :
    Sys2Proof.Laws.FootprintSound.Statement (.trainMap e) := rfl
theorem Sys2Proof.Laws.FootprintSound.trainVerify (e : Fin 18) (failed : List Nat) :
    Sys2Proof.Laws.FootprintSound.Statement (.trainVerify e failed) := rfl
theorem Sys2Proof.Laws.FootprintSound.trainWidth (e : Fin 18) :
    Sys2Proof.Laws.FootprintSound.Statement (.trainWidth e) := rfl
theorem Sys2Proof.Laws.FootprintSound.trainStepLimit (e : Fin 18) :
    Sys2Proof.Laws.FootprintSound.Statement (.trainStepLimit e) := rfl
theorem Sys2Proof.Laws.FootprintSound.trainAttemptTimeout (e : Fin 18) :
    Sys2Proof.Laws.FootprintSound.Statement (.trainAttemptTimeout e) := rfl
theorem Sys2Proof.Laws.FootprintSound.trainRetry (e : Fin 18) :
    Sys2Proof.Laws.FootprintSound.Statement (.trainRetry e) := rfl
theorem Sys2Proof.Laws.FootprintSound.laserPoll (e : Fin 18) (temp : W16) (alarm : Byte) (power : W64) :
    Sys2Proof.Laws.FootprintSound.Statement (.laserPoll e temp alarm power) := rfl
theorem Sys2Proof.Laws.FootprintSound.laserPresentChange (e : Fin 18) (there : Bool) :
    Sys2Proof.Laws.FootprintSound.Statement (.laserPresentChange e there) := rfl
theorem Sys2Proof.Laws.FootprintSound.laserReset (e : Fin 18) :
    Sys2Proof.Laws.FootprintSound.Statement (.laserReset e) := rfl
theorem Sys2Proof.Laws.FootprintSound.optLaserEnable (e : Fin 18) (on : Bool) :
    Sys2Proof.Laws.FootprintSound.Statement (.optLaserEnable e on) := rfl
theorem Sys2Proof.Laws.FootprintSound.refreshTick (u : Fin 608) (bank : Fin 256) (rows : Fin 262145) :
    Sys2Proof.Laws.FootprintSound.Statement (.refreshTick u bank rows) := rfl
theorem Sys2Proof.Laws.FootprintSound.rowHammerTrigger (u : Fin 608) (bank : Fin 256) (rows : Fin 262145) (acts : List (Fin 262144)) :
    Sys2Proof.Laws.FootprintSound.Statement (.rowHammerTrigger u bank rows acts) := rfl
theorem Sys2Proof.Laws.FootprintSound.rfmCommand (u : Fin 608) (bank : Fin 256) :
    Sys2Proof.Laws.FootprintSound.Statement (.rfmCommand u bank) := rfl
theorem Sys2Proof.Laws.FootprintSound.thermalLevelChange (u : Fin 104) (t : Int) (rate : Fin 17) :
    Sys2Proof.Laws.FootprintSound.Statement (.thermalLevelChange u t rate) := rfl
theorem Sys2Proof.Laws.FootprintSound.periodicUpdate (u : Fin 104) (ok : Bool) (again : Bool) :
    Sys2Proof.Laws.FootprintSound.Statement (.periodicUpdate u ok again) := rfl
theorem Sys2Proof.Laws.FootprintSound.dramChannelFenced (n : Fin 96) (cause : Fin 4) (density : Fin 256) :
    Sys2Proof.Laws.FootprintSound.Statement (.dramChannelFenced n cause density) := rfl
theorem Sys2Proof.Laws.FootprintSound.vaultReadDone (id : Nat) (env : VaultEnv) :
    Sys2Proof.Laws.FootprintSound.Statement (.vaultReadDone id env) := rfl
theorem Sys2Proof.Laws.FootprintSound.vaultWriteDone (id : Nat) (env : VaultEnv) :
    Sys2Proof.Laws.FootprintSound.Statement (.vaultWriteDone id env) := rfl
theorem Sys2Proof.Laws.FootprintSound.vaultMapFlush (c : Fin 8) :
    Sys2Proof.Laws.FootprintSound.Statement (.vaultMapFlush c) := rfl
theorem Sys2Proof.Laws.FootprintSound.vaultPatrol (p : Fin 2147483648) (env : VaultEnv) :
    Sys2Proof.Laws.FootprintSound.Statement (.vaultPatrol p env) := rfl
theorem Sys2Proof.Laws.FootprintSound.garbageCollection (c : Fin 8) (places : List VPlace) :
    Sys2Proof.Laws.FootprintSound.Statement (.garbageCollection c places) := rfl
theorem Sys2Proof.Laws.FootprintSound.staticLevelling (ch : Fin 32) (ce : Fin 8) (places : List VPlace) :
    Sys2Proof.Laws.FootprintSound.Statement (.staticLevelling ch ce places) := rfl
theorem Sys2Proof.Laws.FootprintSound.vaultProgram (x : VPlace) (places : List VPlace) :
    Sys2Proof.Laws.FootprintSound.Statement (.vaultProgram x places) := rfl
theorem Sys2Proof.Laws.FootprintSound.ckptArm (i : Fin 64) :
    Sys2Proof.Laws.FootprintSound.Statement (.ckptArm i) := rfl
theorem Sys2Proof.Laws.FootprintSound.ckptMark (i : Fin 64) :
    Sys2Proof.Laws.FootprintSound.Statement (.ckptMark i) := rfl
theorem Sys2Proof.Laws.FootprintSound.ckptClear (i : Fin 64) :
    Sys2Proof.Laws.FootprintSound.Statement (.ckptClear i) := rfl
theorem Sys2Proof.Laws.FootprintSound.poolDoor (byCreq : Bool) (q : Req) :
    Sys2Proof.Laws.FootprintSound.Statement (.poolDoor byCreq q) := rfl
theorem Sys2Proof.Laws.FootprintSound.poolHostGo :
    Sys2Proof.Laws.FootprintSound.Statement .poolHostGo := rfl
theorem Sys2Proof.Laws.FootprintSound.fill (id : Nat) (env : VaultEnv) :
    Sys2Proof.Laws.FootprintSound.Statement (.fill id env) := rfl
theorem Sys2Proof.Laws.FootprintSound.copy (id : Nat) (env : VaultEnv) :
    Sys2Proof.Laws.FootprintSound.Statement (.copy id env) := rfl
theorem Sys2Proof.Laws.FootprintSound.cmp (id : Nat) (env : VaultEnv) :
    Sys2Proof.Laws.FootprintSound.Statement (.cmp id env) := rfl
theorem Sys2Proof.Laws.FootprintSound.reduceSum (id : Nat) (env : VaultEnv) :
    Sys2Proof.Laws.FootprintSound.Statement (.reduceSum id env) := rfl
theorem Sys2Proof.Laws.FootprintSound.reduceAccumulate (id : Nat) (env : VaultEnv) :
    Sys2Proof.Laws.FootprintSound.Statement (.reduceAccumulate id env) := rfl
theorem Sys2Proof.Laws.FootprintSound.reduceReadout (id : Nat) (env : VaultEnv) :
    Sys2Proof.Laws.FootprintSound.Statement (.reduceReadout id env) := rfl
theorem Sys2Proof.Laws.FootprintSound.poolOpEnd (id : Nat) (partner : Option Bytes) :
    Sys2Proof.Laws.FootprintSound.Statement (.poolOpEnd id partner) := rfl
theorem Sys2Proof.Laws.FootprintSound.vopen (id : Nat) :
    Sys2Proof.Laws.FootprintSound.Statement (.vopen id) := rfl
theorem Sys2Proof.Laws.FootprintSound.vclose (id : Nat) :
    Sys2Proof.Laws.FootprintSound.Statement (.vclose id) := rfl
theorem Sys2Proof.Laws.FootprintSound.vdraft (id : Nat) :
    Sys2Proof.Laws.FootprintSound.Statement (.vdraft id) := rfl
theorem Sys2Proof.Laws.FootprintSound.vdraftCopyDone (id : Nat) (env : VaultEnv) :
    Sys2Proof.Laws.FootprintSound.Statement (.vdraftCopyDone id env) := rfl
theorem Sys2Proof.Laws.FootprintSound.vpublish (id : Nat) :
    Sys2Proof.Laws.FootprintSound.Statement (.vpublish id) := rfl
theorem Sys2Proof.Laws.FootprintSound.vrelease (id : Nat) :
    Sys2Proof.Laws.FootprintSound.Statement (.vrelease id) := rfl
theorem Sys2Proof.Laws.FootprintSound.poolVerReset (region : W16) (slot : Fin 16) :
    Sys2Proof.Laws.FootprintSound.Statement (.poolVerReset region slot) := rfl
theorem Sys2Proof.Laws.FootprintSound.grant (i : Fin 16384) (space : Fin 4) (base : Fin 16777216) (rw : Byte) (ro : Byte) :
    Sys2Proof.Laws.FootprintSound.Statement (.grant i space base rw ro) := rfl
theorem Sys2Proof.Laws.FootprintSound.extentRevoke (i : Fin 16384) :
    Sys2Proof.Laws.FootprintSound.Statement (.extentRevoke i) := rfl
theorem Sys2Proof.Laws.FootprintSound.revokeDrainTimeout (i : Fin 16384) :
    Sys2Proof.Laws.FootprintSound.Statement (.revokeDrainTimeout i) := rfl
theorem Sys2Proof.Laws.FootprintSound.extentFree (i : Fin 16384) :
    Sys2Proof.Laws.FootprintSound.Statement (.extentFree i) := rfl
theorem Sys2Proof.Laws.FootprintSound.limiterRefill :
    Sys2Proof.Laws.FootprintSound.Statement .limiterRefill := rfl
theorem Sys2Proof.Laws.FootprintSound.tellerRefill :
    Sys2Proof.Laws.FootprintSound.Statement .tellerRefill := rfl
theorem Sys2Proof.Laws.FootprintSound.guaranteeWindow (backlogged : List (Nat × Nat)) :
    Sys2Proof.Laws.FootprintSound.Statement (.guaranteeWindow backlogged) := rfl
theorem Sys2Proof.Laws.FootprintSound.scaleUpdate (p : Fin 34) :
    Sys2Proof.Laws.FootprintSound.Statement (.scaleUpdate p) := rfl
theorem Sys2Proof.Laws.FootprintSound.stepInc (t : Tag) :
    Sys2Proof.Laws.FootprintSound.Statement (.stepInc t) := rfl
theorem Sys2Proof.Laws.FootprintSound.seedLock (t : Tag) :
    Sys2Proof.Laws.FootprintSound.Statement (.seedLock t) := rfl
theorem Sys2Proof.Laws.FootprintSound.accSave (core : Fin 16) :
    Sys2Proof.Laws.FootprintSound.Statement (.accSave core) := rfl
theorem Sys2Proof.Laws.FootprintSound.accRestore (core : Fin 16) :
    Sys2Proof.Laws.FootprintSound.Statement (.accRestore core) := rfl
theorem Sys2Proof.Laws.FootprintSound.accClear (core : Fin 16) :
    Sys2Proof.Laws.FootprintSound.Statement (.accClear core) := rfl
theorem Sys2Proof.Laws.FootprintSound.detSlotRestore (x : SlotRestore) :
    Sys2Proof.Laws.FootprintSound.Statement (.detSlotRestore x) := rfl
theorem Sys2Proof.Laws.FootprintSound.clockRepin (d : Fin 2) :
    Sys2Proof.Laws.FootprintSound.Statement (.clockRepin d) := rfl
theorem Sys2Proof.Laws.FootprintSound.storeRefetch (block : BitVec 20) (reply : Option (Bytes × List Nat)) (env : VaultEnv) :
    Sys2Proof.Laws.FootprintSound.Statement (.storeRefetch block reply env) := rfl
theorem Sys2Proof.Laws.FootprintSound.dramRepair (a : PA) (home : Bool) (reply : Option Bytes) (env : VaultEnv) :
    Sys2Proof.Laws.FootprintSound.Statement (.dramRepair a home reply env) := rfl
theorem Sys2Proof.Laws.FootprintSound.ceTableClear (d : Fin 2) :
    Sys2Proof.Laws.FootprintSound.Statement (.ceTableClear d) := rfl
theorem Sys2Proof.Laws.FootprintSound.ledgerHeadWrite (d : Fin 2) (head : W32) :
    Sys2Proof.Laws.FootprintSound.Statement (.ledgerHeadWrite d head) := rfl
theorem Sys2Proof.Laws.FootprintSound.mergeWindowClose (d : Fin 2) :
    Sys2Proof.Laws.FootprintSound.Statement (.mergeWindowClose d) := rfl
theorem Sys2Proof.Laws.FootprintSound.scrubRead (c : Fin 8) (t : ScrubAt) :
    Sys2Proof.Laws.FootprintSound.Statement (.scrubRead c t) := rfl
theorem Sys2Proof.Laws.FootprintSound.clrLate (c : Fin 8) :
    Sys2Proof.Laws.FootprintSound.Statement (.clrLate c) := rfl
theorem Sys2Proof.Laws.FootprintSound.passNow :
    Sys2Proof.Laws.FootprintSound.Statement .passNow := rfl
theorem Sys2Proof.Laws.FootprintSound.flipArm (tag : Tag) (preCode : Bool) (offset : Fin 512) (unit : Fin 128) (target : Fin 16) :
    Sys2Proof.Laws.FootprintSound.Statement (.flipArm tag preCode offset unit target) := rfl
theorem Sys2Proof.Laws.FootprintSound.kBlockEnd (cut : KernelCut) (pass : W32) (block : W32) (a b : OperandAt) (init : List (Nat × PA × Nat)) (types : Option (Nat × Nat)) (wrong : List WrongSum) (shadowWrong : List WrongSum) (third : Option W32) :
    Sys2Proof.Laws.FootprintSound.Statement (.kBlockEnd cut pass block a b init types wrong shadowWrong third) := rfl
theorem Sys2Proof.Laws.FootprintSound.shadowTaken (m : Fin 16) :
    Sys2Proof.Laws.FootprintSound.Statement (.shadowTaken m) := rfl
theorem Sys2Proof.Laws.FootprintSound.shadowWaitTimeout (n : Fin 16) :
    Sys2Proof.Laws.FootprintSound.Statement (.shadowWaitTimeout n) := rfl
theorem Sys2Proof.Laws.FootprintSound.enginePassEnd (cut : KernelCut) (pass : W32) (seen : Option (W32 × W32)) (code : List KStep) :
    Sys2Proof.Laws.FootprintSound.Statement (.enginePassEnd cut pass seen code) := rfl
theorem Sys2Proof.Laws.FootprintSound.diagArm (entry : Fin 16) (core : Fin 16) (shadow : Fin 16) :
    Sys2Proof.Laws.FootprintSound.Statement (.diagArm entry core shadow) := rfl
theorem Sys2Proof.Laws.FootprintSound.suspectFree (i : Fin 16) :
    Sys2Proof.Laws.FootprintSound.Statement (.suspectFree i) := rfl
theorem Sys2Proof.Laws.FootprintSound.shelfLoad :
    Sys2Proof.Laws.FootprintSound.Statement .shelfLoad := rfl
theorem Sys2Proof.Laws.FootprintSound.shelfLoadDone (env : VaultEnv) :
    Sys2Proof.Laws.FootprintSound.Statement (.shelfLoadDone env) := rfl
theorem Sys2Proof.Laws.FootprintSound.testRequest (n : Fin 16) (set : Fin 16) (after : W16) (evicted : Bool) :
    Sys2Proof.Laws.FootprintSound.Statement (.testRequest n set after evicted) := rfl
theorem Sys2Proof.Laws.FootprintSound.testAbort (n : Fin 16) :
    Sys2Proof.Laws.FootprintSound.Statement (.testAbort n) := rfl
theorem Sys2Proof.Laws.FootprintSound.testStart (n : Fin 16) :
    Sys2Proof.Laws.FootprintSound.Statement (.testStart n) := rfl
theorem Sys2Proof.Laws.FootprintSound.testDeferred (n : Fin 16) :
    Sys2Proof.Laws.FootprintSound.Statement (.testDeferred n) := rfl
theorem Sys2Proof.Laws.FootprintSound.testEnd (n : Fin 16) (failed : Option W32) :
    Sys2Proof.Laws.FootprintSound.Statement (.testEnd n failed) := rfl
theorem Sys2Proof.Laws.FootprintSound.mirrorWriteRx (seq : Option Nat) (id : Nat) (a : PA) (data : Bytes) (mask : List Nat) (tag : Tag) (alone : Bool) :
    Sys2Proof.Laws.FootprintSound.Statement (.mirrorWriteRx seq id a data mask tag alone) := rfl
theorem Sys2Proof.Laws.FootprintSound.mirrorAckRx (seq : Nat) (id : Option Nat) :
    Sys2Proof.Laws.FootprintSound.Statement (.mirrorAckRx seq id) := rfl
theorem Sys2Proof.Laws.FootprintSound.checkValueRx (slot : Fin 4096) (tensor : W32) (stepCount : W64) (value : W32) :
    Sys2Proof.Laws.FootprintSound.Statement (.checkValueRx slot tensor stepCount value) := rfl
theorem Sys2Proof.Laws.FootprintSound.cmpWaitTimeout (n : Fin 16) :
    Sys2Proof.Laws.FootprintSound.Statement (.cmpWaitTimeout n) := rfl
theorem Sys2Proof.Laws.FootprintSound.replicatedOpRx (seq : Option Nat) (src : Node) (desc : Bytes) :
    Sys2Proof.Laws.FootprintSound.Statement (.replicatedOpRx seq src desc) := rfl
theorem Sys2Proof.Laws.FootprintSound.heartbeatSend :
    Sys2Proof.Laws.FootprintSound.Statement .heartbeatSend := rfl
theorem Sys2Proof.Laws.FootprintSound.heartbeatRx :
    Sys2Proof.Laws.FootprintSound.Statement .heartbeatRx := rfl
theorem Sys2Proof.Laws.FootprintSound.pairLoss :
    Sys2Proof.Laws.FootprintSound.Statement .pairLoss := rfl
theorem Sys2Proof.Laws.FootprintSound.arbTimeout :
    Sys2Proof.Laws.FootprintSound.Statement .arbTimeout := rfl
theorem Sys2Proof.Laws.FootprintSound.pairSolo :
    Sys2Proof.Laws.FootprintSound.Statement .pairSolo := rfl
theorem Sys2Proof.Laws.FootprintSound.pairDetach :
    Sys2Proof.Laws.FootprintSound.Statement .pairDetach := rfl
theorem Sys2Proof.Laws.FootprintSound.pairRejoin :
    Sys2Proof.Laws.FootprintSound.Statement .pairRejoin := rfl
theorem Sys2Proof.Laws.FootprintSound.resetPartner :
    Sys2Proof.Laws.FootprintSound.Statement .resetPartner := rfl
theorem Sys2Proof.Laws.FootprintSound.formationRx (digest : W32) (before : Fin 8) (mapValid : Bool) (fresh : Bool) (dirty : List Nat) :
    Sys2Proof.Laws.FootprintSound.Statement (.formationRx digest before mapValid fresh dirty) := rfl
theorem Sys2Proof.Laws.FootprintSound.formationRetry :
    Sys2Proof.Laws.FootprintSound.Statement .formationRetry := rfl
theorem Sys2Proof.Laws.FootprintSound.resyncPiece (piece : Option (Option Nat × Nat × PA × Bytes × List Nat)) :
    Sys2Proof.Laws.FootprintSound.Statement (.resyncPiece piece) := rfl
theorem Sys2Proof.Laws.FootprintSound.mmEntryFree (i : Fin 8) :
    Sys2Proof.Laws.FootprintSound.Statement (.mmEntryFree i) := rfl
theorem Sys2Proof.Laws.FootprintSound.hostRead (b : Bar) (off : Fin 68719476736) (len : Fin 4097) (requester : W16) (tag : W16) (env : AccessEnv) :
    Sys2Proof.Laws.FootprintSound.Statement (.hostRead b off len requester tag env) := rfl
theorem Sys2Proof.Laws.FootprintSound.hostWrite (b : Bar) (off : Fin 68719476736) (data : Bytes) (ep : Bool) (relaxed : Bool) (env : AccessEnv) :
    Sys2Proof.Laws.FootprintSound.Statement (.hostWrite b off data ep relaxed env) := rfl
theorem Sys2Proof.Laws.FootprintSound.hostReadDone (id : Nat) (env : AccessEnv) :
    Sys2Proof.Laws.FootprintSound.Statement (.hostReadDone id env) := rfl
theorem Sys2Proof.Laws.FootprintSound.pepCplLimit (id : Nat) :
    Sys2Proof.Laws.FootprintSound.Statement (.pepCplLimit id) := rfl
theorem Sys2Proof.Laws.FootprintSound.winCommit :
    Sys2Proof.Laws.FootprintSound.Statement .winCommit := rfl
theorem Sys2Proof.Laws.FootprintSound.winCommitDone :
    Sys2Proof.Laws.FootprintSound.Statement .winCommitDone := rfl
theorem Sys2Proof.Laws.FootprintSound.cxlMemRead (hpa : W64) (tag : W16) (env : AccessEnv) :
    Sys2Proof.Laws.FootprintSound.Statement (.cxlMemRead hpa tag env) := rfl
theorem Sys2Proof.Laws.FootprintSound.cxlMemWrite (hpa : W64) (tag : W16) (data : Bytes) (poison : Bool) (env : AccessEnv) :
    Sys2Proof.Laws.FootprintSound.Statement (.cxlMemWrite hpa tag data poison env) := rfl
theorem Sys2Proof.Laws.FootprintSound.hdmCommit (i : Fin 4) (base : W64) (size : W64) (ways : Fin 16) (gran : Fin 16) (place : Fin 16) :
    Sys2Proof.Laws.FootprintSound.Statement (.hdmCommit i base size ways gran place) := rfl
theorem Sys2Proof.Laws.FootprintSound.mailboxCommand (op : W16) (payload : Bytes) :
    Sys2Proof.Laws.FootprintSound.Statement (.mailboxCommand op payload) := rfl
theorem Sys2Proof.Laws.FootprintSound.configAccess (x : CfgAccess) :
    Sys2Proof.Laws.FootprintSound.Statement (.configAccess x) := rfl
theorem Sys2Proof.Laws.FootprintSound.dmaToPool (c : Fin 4) (desc : Bytes) (data : Bytes) (failAt : Option Nat) (env : AccessEnv) :
    Sys2Proof.Laws.FootprintSound.Statement (.dmaToPool c desc data failAt env) := rfl
theorem Sys2Proof.Laws.FootprintSound.dmaToHost (c : Fin 4) (desc : Bytes) (env : AccessEnv) :
    Sys2Proof.Laws.FootprintSound.Statement (.dmaToHost c desc env) := rfl
theorem Sys2Proof.Laws.FootprintSound.dmaDescEnd (c : Fin 4) :
    Sys2Proof.Laws.FootprintSound.Statement (.dmaDescEnd c) := rfl
theorem Sys2Proof.Laws.FootprintSound.bmeClear :
    Sys2Proof.Laws.FootprintSound.Statement .bmeClear := rfl
theorem Sys2Proof.Laws.FootprintSound.dmaReenable (c : Fin 4) :
    Sys2Proof.Laws.FootprintSound.Statement (.dmaReenable c) := rfl
theorem Sys2Proof.Laws.FootprintSound.endpointReset (kind : EndpointKind) :
    Sys2Proof.Laws.FootprintSound.Statement (.endpointReset kind) := rfl
theorem Sys2Proof.Laws.FootprintSound.msixSend (v : Fin 256) :
    Sys2Proof.Laws.FootprintSound.Statement (.msixSend v) := rfl
theorem Sys2Proof.Laws.FootprintSound.l1Entry :
    Sys2Proof.Laws.FootprintSound.Statement .l1Entry := rfl
theorem Sys2Proof.Laws.FootprintSound.l0pNarrow :
    Sys2Proof.Laws.FootprintSound.Statement .l0pNarrow := rfl
theorem Sys2Proof.Laws.FootprintSound.l0pWiden :
    Sys2Proof.Laws.FootprintSound.Statement .l0pWiden := rfl
theorem Sys2Proof.Laws.FootprintSound.d3hotEntry :
    Sys2Proof.Laws.FootprintSound.Statement .d3hotEntry := rfl
theorem Sys2Proof.Laws.FootprintSound.powerOn (bootSrc : Fin 4) (clkMode : Fin 4) (nor : Bytes) (hrstLow : Bool) (perstLow : Bool) :
    Sys2Proof.Laws.FootprintSound.Statement (.powerOn bootSrc clkMode nor hrstLow perstLow) := rfl
theorem Sys2Proof.Laws.FootprintSound.perstAssert :
    Sys2Proof.Laws.FootprintSound.Statement .perstAssert := rfl
theorem Sys2Proof.Laws.FootprintSound.perstDeassert :
    Sys2Proof.Laws.FootprintSound.Statement .perstDeassert := rfl
theorem Sys2Proof.Laws.FootprintSound.hrstAssert :
    Sys2Proof.Laws.FootprintSound.Statement .hrstAssert := rfl
theorem Sys2Proof.Laws.FootprintSound.hrstDeassert :
    Sys2Proof.Laws.FootprintSound.Statement .hrstDeassert := rfl
theorem Sys2Proof.Laws.FootprintSound.dieThermalTrip (d : Fin 2) (t : Int) :
    Sys2Proof.Laws.FootprintSound.Statement (.dieThermalTrip d t) := rfl
theorem Sys2Proof.Laws.FootprintSound.thermalHoldEnd (die0 : Int) (die1 : Int) (dram : List (Fin 104 × Int)) :
    Sys2Proof.Laws.FootprintSound.Statement (.thermalHoldEnd die0 die1 dram) := rfl
theorem Sys2Proof.Laws.FootprintSound.partnerResetRx :
    Sys2Proof.Laws.FootprintSound.Statement .partnerResetRx := rfl
theorem Sys2Proof.Laws.FootprintSound.softwareReset (key : Byte) (keepDram : Bool) :
    Sys2Proof.Laws.FootprintSound.Statement (.softwareReset key keepDram) := rfl
theorem Sys2Proof.Laws.FootprintSound.selfRefreshReady (c : Fin 8) :
    Sys2Proof.Laws.FootprintSound.Statement (.selfRefreshReady c) := rfl
theorem Sys2Proof.Laws.FootprintSound.keepFailed :
    Sys2Proof.Laws.FootprintSound.Statement .keepFailed := rfl
theorem Sys2Proof.Laws.FootprintSound.blockReset (kind : Fin 16) (unit : Byte) :
    Sys2Proof.Laws.FootprintSound.Statement (.blockReset kind unit) := rfl
theorem Sys2Proof.Laws.FootprintSound.blockResetIdle :
    Sys2Proof.Laws.FootprintSound.Statement .blockResetIdle := rfl
theorem Sys2Proof.Laws.FootprintSound.blkRstTimeout (cuts : List KernelCut) :
    Sys2Proof.Laws.FootprintSound.Statement (.blkRstTimeout cuts) := rfl
theorem Sys2Proof.Laws.FootprintSound.startupStepDone (env : StartEnv) :
    Sys2Proof.Laws.FootprintSound.Statement (.startupStepDone env) := rfl
theorem Sys2Proof.Laws.FootprintSound.startupStepLimit (units : List Nat) (env : StartEnv) :
    Sys2Proof.Laws.FootprintSound.Statement (.startupStepLimit units env) := rfl
theorem Sys2Proof.Laws.FootprintSound.powerRegulate (env : PowerEnv) :
    Sys2Proof.Laws.FootprintSound.Statement (.powerRegulate env) := rfl
theorem Sys2Proof.Laws.FootprintSound.watchdogExpire :
    Sys2Proof.Laws.FootprintSound.Statement .watchdogExpire := rfl
theorem Sys2Proof.Laws.FootprintSound.wdogKick (v : W16) :
    Sys2Proof.Laws.FootprintSound.Statement (.wdogKick v) := rfl
theorem Sys2Proof.Laws.FootprintSound.fuseRevoke (slot : Byte) (confirm : Bool) :
    Sys2Proof.Laws.FootprintSound.Statement (.fuseRevoke slot confirm) := rfl
theorem Sys2Proof.Laws.FootprintSound.fuseRaiseMin (v : Byte) (confirm : Bool) :
    Sys2Proof.Laws.FootprintSound.Statement (.fuseRaiseMin v confirm) := rfl
theorem Sys2Proof.Laws.FootprintSound.fuseConfirmTimeout :
    Sys2Proof.Laws.FootprintSound.Statement .fuseConfirmTimeout := rfl
theorem Sys2Proof.Laws.FootprintSound.norUpdate :
    Sys2Proof.Laws.FootprintSound.Statement .norUpdate := rfl
theorem Sys2Proof.Laws.FootprintSound.norUpdateDone (env : VaultEnv) (wrong : Option Nat) :
    Sys2Proof.Laws.FootprintSound.Statement (.norUpdateDone env wrong) := rfl
theorem Sys2Proof.Laws.FootprintSound.sessionOpen (src : Node) :
    Sys2Proof.Laws.FootprintSound.Statement (.sessionOpen src) := rfl
theorem Sys2Proof.Laws.FootprintSound.sessionClose (src : Node) :
    Sys2Proof.Laws.FootprintSound.Statement (.sessionClose src) := rfl
theorem Sys2Proof.Laws.FootprintSound.imgServeEnd :
    Sys2Proof.Laws.FootprintSound.Statement .imgServeEnd := rfl
theorem Sys2Proof.Laws.FootprintSound.imgPage (src : Node) (page : Fin 128) :
    Sys2Proof.Laws.FootprintSound.Statement (.imgPage src page) := rfl
theorem Sys2Proof.Laws.FootprintSound.imgWinRead (src : Node) (off : Fin 524288) (len : Fin 65) :
    Sys2Proof.Laws.FootprintSound.Statement (.imgWinRead src off len) := rfl
theorem Sys2Proof.Laws.FootprintSound.attest :
    Sys2Proof.Laws.FootprintSound.Statement .attest := rfl
theorem Sys2Proof.Laws.FootprintSound.attestDone :
    Sys2Proof.Laws.FootprintSound.Statement .attestDone := rfl
theorem Sys2Proof.Laws.FootprintSound.i3cIndexWrite (index : W16) (data : Bytes) :
    Sys2Proof.Laws.FootprintSound.Statement (.i3cIndexWrite index data) := rfl
theorem Sys2Proof.Laws.FootprintSound.i3cRead :
    Sys2Proof.Laws.FootprintSound.Statement .i3cRead := rfl
theorem Sys2Proof.Laws.FootprintSound.i3cRecovery (b0 : Byte) (b1 : Byte) (b2 : Byte) :
    Sys2Proof.Laws.FootprintSound.Statement (.i3cRecovery b0 b1 b2) := rfl
theorem Sys2Proof.Laws.FootprintSound.i3cCcc (code : I3cCode) :
    Sys2Proof.Laws.FootprintSound.Statement (.i3cCcc code) := rfl
theorem Sys2Proof.Laws.FootprintSound.endpointLinkUp (speed : Fin 5) (width : Fin 5) (cxl : Bool) :
    Sys2Proof.Laws.FootprintSound.Statement (.endpointLinkUp speed width cxl) := rfl
theorem Sys2Proof.Laws.FootprintSound.l1Exit :
    Sys2Proof.Laws.FootprintSound.Statement .l1Exit := rfl
theorem Sys2Proof.Laws.FootprintSound.dmaCompletionTimeout (c : Fin 4) :
    Sys2Proof.Laws.FootprintSound.Statement (.dmaCompletionTimeout c) := rfl
theorem Sys2Proof.Laws.FootprintSound.boundaryScan (x : TapOp) :
    Sys2Proof.Laws.FootprintSound.Statement (.boundaryScan x) := rfl
end

