-- ==== Sys2Proof/Laws/Regs.lean ====
section
/-! SUPPORT. What setting a register or a field does: it reads back, and every other register and field stays. -/

namespace Sys2Proof.Machine

theorem bitsOf_bit (n hi lo k : Nat) : (bitsOf n hi lo).testBit k = (decide (k < hi + 1 - lo) && n.testBit (lo + k)) := by
  unfold bitsOf
  rw [Nat.testBit_mod_two_pow, Nat.testBit_div_two_pow, Nat.add_comm k lo]

theorem putBits_nat (hi lo v : Nat) (r : W64) (h : lo ≤ hi) (h64 : hi < 64) :
    (putBits hi lo v r).toNat =
      2 ^ lo * (2 ^ (hi + 1 - lo) * (r.toNat / 2 ^ lo / 2 ^ (hi + 1 - lo)) + v % 2 ^ (hi + 1 - lo)) + r.toNat % 2 ^ lo := by
  have hn : r.toNat < 2 ^ 64 := r.isLt
  have e64 : (2 : Nat) ^ 64 = 2 ^ lo * (2 ^ (hi + 1 - lo) * 2 ^ (63 - hi)) := by
    rw [← Nat.pow_add, ← Nat.pow_add]
    congr 1
    omega
  unfold putBits bitsOf
  rw [BitVec.toNat_ofNat]
  generalize hw : (2 : Nat) ^ (hi + 1 - lo) = W at *
  generalize hl : (2 : Nat) ^ lo = P at *
  generalize ht : (2 : Nat) ^ (63 - hi) = T at *
  have hW : 0 < W := hw ▸ Nat.two_pow_pos _
  have hP : 0 < P := hl ▸ Nat.two_pow_pos _
  generalize r.toNat = n at *
  have d1 : P * (n / P) + n % P = n := Nat.div_add_mod n P
  have d2 : W * (n / P / W) + n / P % W = n / P := Nat.div_add_mod _ W
  have hb : v % W < W := Nat.mod_lt _ hW
  have hL : n % P < P := Nat.mod_lt _ hP
  have hq : n / P / W < T := by
    rw [Nat.div_div_eq_div_mul, Nat.div_lt_iff_lt_mul (Nat.mul_pos hP hW)]
    calc n < 2 ^ 64 := hn
      _ = T * (P * W) := by rw [e64]; ring
  have key : n - n / P % W * P + v % W * P = P * (W * (n / P / W) + v % W) + n % P := by
    have : n = P * (W * (n / P / W)) + n / P % W * P + n % P := by
      calc n = P * (n / P) + n % P := d1.symm
        _ = P * (W * (n / P / W) + n / P % W) + n % P := by rw [d2]
        _ = _ := by ring
    rw [Nat.mul_add, Nat.mul_comm P (v % W)]
    omega
  rw [key, Nat.mod_eq_of_lt]
  rw [e64]
  have h1 : W * (n / P / W) + v % W + 1 ≤ W * T := by
    have : W * (n / P / W) + W ≤ W * T := by rw [← Nat.mul_succ]; exact Nat.mul_le_mul_left _ hq
    omega
  have h2 := Nat.mul_le_mul_left P h1
  rw [Nat.mul_add, Nat.mul_one] at h2
  omega

/-- Bit k of a word with a field replaced. -/
theorem putBits_bit (hi lo v : Nat) (r : W64) (k : Nat) (h : lo ≤ hi) (h64 : hi < 64) :
    (putBits hi lo v r).toNat.testBit k = if k < lo ∨ hi < k then r.toNat.testBit k else v.testBit (k - lo) := by
  rw [putBits_nat hi lo v r h h64, Nat.testBit_two_pow_mul_add _ (Nat.mod_lt _ (Nat.two_pow_pos _)),
    Nat.testBit_two_pow_mul_add _ (Nat.mod_lt _ (Nat.two_pow_pos _))]
  by_cases h1 : k < lo
  · simp [h1, Nat.testBit_mod_two_pow]
  · by_cases h2 : hi < k
    · have : ¬ k - lo < hi + 1 - lo := by omega
      simp only [h1, h2, this, if_false, or_true, if_true, Nat.testBit_div_two_pow]
      congr 1
      omega
    · have : k - lo < hi + 1 - lo := by omega
      simp only [h1, h2, this, if_false, if_true, or_self, Nat.testBit_mod_two_pow, decide_true, Bool.true_and]

theorem getBits_putBits_same (hi lo v : Nat) (r : W64) (h : lo ≤ hi) (h64 : hi < 64) :
    getBits hi lo (putBits hi lo v r) = v % 2 ^ (hi + 1 - lo) := by
  apply Nat.eq_of_testBit_eq
  intro k
  unfold getBits
  rw [bitsOf_bit, putBits_bit _ _ _ _ _ h h64, Nat.testBit_mod_two_pow]
  by_cases hk : k < hi + 1 - lo
  · rw [if_neg (by omega), show lo + k - lo = k by omega]
  · simp [hk]

theorem getBits_putBits_other (hi lo v : Nat) (r : W64) (hi' lo' : Nat) (h : lo ≤ hi) (h64 : hi < 64)
    (hd : hi' < lo ∨ hi < lo') : getBits hi' lo' (putBits hi lo v r) = getBits hi' lo' r := by
  apply Nat.eq_of_testBit_eq
  intro k
  unfold getBits
  rw [bitsOf_bit, bitsOf_bit, putBits_bit _ _ _ _ _ h h64]
  by_cases hk : k < hi' + 1 - lo'
  · have h1 : lo' + k < lo ∨ hi < lo' + k := by omega
    simp only [h1, if_true]
  · simp [hk]

/-- The register table is in canonical form. -/
def State.regsOk (s : State) : Prop := Sparse.wf regReset s.regs = true

variable {s : State} {off off' v : Nat} {w : W64} {x y : Fld}

theorem State.regsOk.setReg (h : s.regsOk) : (s.setReg off w).regsOk := Sparse.wf_put h
theorem State.regsOk.setF (h : s.regsOk) : (s.setF x v).regsOk := h.setReg
theorem State.regsOk.addF (h : s.regsOk) : (s.addF x v).regsOk := h.setReg

theorem reg_setReg_same (h : s.regsOk) : (s.setReg off w).reg off = w := Sparse.get_put_same h

theorem reg_setReg_ne (h : off' ≠ off) : (s.setReg off w).reg off' = s.reg off' := Sparse.get_put_ne h

theorem reg_setF_ne (h : off' ≠ x.off) : (s.setF x v).reg off' = s.reg off' := reg_setReg_ne h

/-- A field reads back what was written to it, cut to its width. -/
theorem f_setF_same (h : s.regsOk) (hx : x.lo ≤ x.hi) (h64 : x.hi < 64) : (s.setF x v).f x = v % 2 ^ (x.hi + 1 - x.lo) := by
  unfold State.f State.setF
  rw [reg_setReg_same h, getBits_putBits_same _ _ _ _ hx h64]

/-- A field of another register stays. -/
theorem f_setF_off (h : y.off ≠ x.off) : (s.setF x v).f y = s.f y := by
  unfold State.f
  rw [reg_setF_ne h]

/-- Another field of the same register stays. -/
theorem f_setF_bits (h : s.regsOk) (hx : x.lo ≤ x.hi) (h64 : x.hi < 64) (ho : y.off = x.off) (hd : y.hi < x.lo ∨ x.hi < y.lo) :
    (s.setF x v).f y = s.f y := by
  unfold State.f State.setF
  rw [ho, reg_setReg_same h, getBits_putBits_other _ _ _ _ _ _ hx h64 hd]

theorem f_setReg_same (h : s.regsOk) (ho : y.off = off) : (s.setReg off w).f y = getBits y.hi y.lo w := by
  unfold State.f
  rw [ho, reg_setReg_same h]

theorem f_setReg_off (ho : y.off ≠ off) : (s.setReg off w).f y = s.f y := by
  unfold State.f
  rw [reg_setReg_ne ho]

/-- A field's value lies below its width. -/
theorem f_lt : s.f x < 2 ^ (x.hi + 1 - x.lo) := Nat.mod_lt _ (Nat.two_pow_pos _)

/-! The register file decides what registers and fields hold: an update of other parts of the state leaves them. -/

theorem regsOk_congr {s t : State} (h : s.regsOk) (e : t.regs = s.regs) : t.regsOk := by
  unfold State.regsOk
  rw [e]
  exact h

theorem reg_congr {s t : State} {off : Nat} (e : t.regs = s.regs) : t.reg off = s.reg off := by
  unfold State.reg
  rw [e]

theorem f_congr {s t : State} {x : Fld} (e : t.regs = s.regs) : t.f x = s.f x := by
  unfold State.f
  rw [reg_congr e]

theorem f_of_reg {s t : State} {x : Fld} (h : t.reg x.off = s.reg x.off) : t.f x = s.f x := by
  unfold State.f
  rw [h]

end Sys2Proof.Machine
end

