-- ==== Sys2Proof/Laws/State.lean ====
section
/-! SUPPORT. The elementary updates of the state: what each leaves as it was, field by field, and what the register file
shows after an update of another part. Every lemma holds by unfolding and is a rewriting rule, so that no proof unfolds a
record. -/

namespace Sys2Proof.Machine

variable {s : State}

/-! ### setReg -/

@[simp] theorem setReg_count {off : Nat} {v : W64} : (s.setReg off v).count = s.count := rfl
@[simp] theorem setReg_dram {off : Nat} {v : W64} : (s.setReg off v).dram = s.dram := rfl
@[simp] theorem setReg_stores {off : Nat} {v : W64} : (s.setReg off v).stores = s.stores := rfl
@[simp] theorem setReg_storePoison {off : Nat} {v : W64} : (s.setReg off v).storePoison = s.storePoison := rfl
@[simp] theorem setReg_storeParity {off : Nat} {v : W64} : (s.setReg off v).storeParity = s.storeParity := rfl
@[simp] theorem setReg_srcRecs {off : Nat} {v : W64} : (s.setReg off v).srcRecs = s.srcRecs := rfl
@[simp] theorem setReg_fences {off : Nat} {v : W64} : (s.setReg off v).fences = s.fences := rfl
@[simp] theorem setReg_epoch {off : Nat} {v : W64} : (s.setReg off v).epoch = s.epoch := rfl
@[simp] theorem setReg_ports {off : Nat} {v : W64} : (s.setReg off v).ports = s.ports := rfl
@[simp] theorem setReg_optics {off : Nat} {v : W64} : (s.setReg off v).optics = s.optics := rfl
@[simp] theorem setReg_tokens {off : Nat} {v : W64} : (s.setReg off v).tokens = s.tokens := rfl
@[simp] theorem setReg_opens {off : Nat} {v : W64} : (s.setReg off v).opens = s.opens := rfl
@[simp] theorem setReg_nextId {off : Nat} {v : W64} : (s.setReg off v).nextId = s.nextId := rfl
@[simp] theorem setReg_own {off : Nat} {v : W64} : (s.setReg off v).own = s.own := rfl
@[simp] theorem setReg_nextTxn {off : Nat} {v : W64} : (s.setReg off v).nextTxn = s.nextTxn := rfl
@[simp] theorem setReg_sync {off : Nat} {v : W64} : (s.setReg off v).sync = s.sync := rfl
@[simp] theorem setReg_canopy {off : Nat} {v : W64} : (s.setReg off v).canopy = s.canopy := rfl
@[simp] theorem setReg_integ {off : Nat} {v : W64} : (s.setReg off v).integ = s.integ := rfl
@[simp] theorem setReg_dramCtl {off : Nat} {v : W64} : (s.setReg off v).dramCtl = s.dramCtl := rfl
@[simp] theorem setReg_vault {off : Nat} {v : W64} : (s.setReg off v).vault = s.vault := rfl
@[simp] theorem setReg_installs {off : Nat} {v : W64} : (s.setReg off v).installs = s.installs := rfl
@[simp] theorem setReg_baseCache0 {off : Nat} {v : W64} : (s.setReg off v).baseCache0 = s.baseCache0 := rfl
@[simp] theorem setReg_baseCache1 {off : Nat} {v : W64} : (s.setReg off v).baseCache1 = s.baseCache1 := rfl
@[simp] theorem setReg_cores {off : Nat} {v : W64} : (s.setReg off v).cores = s.cores := rfl
@[simp] theorem setReg_accs {off : Nat} {v : W64} : (s.setReg off v).accs = s.accs := rfl
@[simp] theorem setReg_exacts {off : Nat} {v : W64} : (s.setReg off v).exacts = s.exacts := rfl
@[simp] theorem setReg_silent {off : Nat} {v : W64} : (s.setReg off v).silent = s.silent := rfl
@[simp] theorem setReg_pair {off : Nat} {v : W64} : (s.setReg off v).pair = s.pair := rfl
@[simp] theorem setReg_plans {off : Nat} {v : W64} : (s.setReg off v).plans = s.plans := rfl
@[simp] theorem setReg_stalls {off : Nat} {v : W64} : (s.setReg off v).stalls = s.stalls := rfl
@[simp] theorem setReg_pool {off : Nat} {v : W64} : (s.setReg off v).pool = s.pool := rfl
@[simp] theorem setReg_mint {off : Nat} {v : W64} : (s.setReg off v).mint = s.mint := rfl
@[simp] theorem setReg_tellers {off : Nat} {v : W64} : (s.setReg off v).tellers = s.tellers := rfl
@[simp] theorem setReg_clocks {off : Nat} {v : W64} : (s.setReg off v).clocks = s.clocks := rfl
@[simp] theorem setReg_boot {off : Nat} {v : W64} : (s.setReg off v).boot = s.boot := rfl
@[simp] theorem setReg_mgmt {off : Nat} {v : W64} : (s.setReg off v).mgmt = s.mgmt := rfl
@[simp] theorem setReg_pep {off : Nat} {v : W64} : (s.setReg off v).pep = s.pep := rfl
@[simp] theorem setReg_tap {off : Nat} {v : W64} : (s.setReg off v).tap = s.tap := rfl
@[simp] theorem setReg_irq {off : Nat} {v : W64} : (s.setReg off v).irq = s.irq := rfl
@[simp] theorem setReg_deniedAt {off : Nat} {v : W64} : (s.setReg off v).deniedAt = s.deniedAt := rfl
@[simp] theorem setReg_dieTemp {off : Nat} {v : W64} : (s.setReg off v).dieTemp = s.dieTemp := rfl
@[simp] theorem setReg_railMv {off : Nat} {v : W64} : (s.setReg off v).railMv = s.railMv := rfl
@[simp] theorem setReg_free {off : Nat} {v : W64} : (s.setReg off v).free = s.free := rfl
@[simp] theorem setReg_out {off : Nat} {v : W64} : (s.setReg off v).out = s.out := rfl
@[simp] theorem setReg_pending {off : Nat} {v : W64} : (s.setReg off v).pending = s.pending := rfl

/-! ### setF -/

@[simp] theorem setF_count {x : Fld} {v : Nat} : (s.setF x v).count = s.count := rfl
@[simp] theorem setF_dram {x : Fld} {v : Nat} : (s.setF x v).dram = s.dram := rfl
@[simp] theorem setF_stores {x : Fld} {v : Nat} : (s.setF x v).stores = s.stores := rfl
@[simp] theorem setF_storePoison {x : Fld} {v : Nat} : (s.setF x v).storePoison = s.storePoison := rfl
@[simp] theorem setF_storeParity {x : Fld} {v : Nat} : (s.setF x v).storeParity = s.storeParity := rfl
@[simp] theorem setF_srcRecs {x : Fld} {v : Nat} : (s.setF x v).srcRecs = s.srcRecs := rfl
@[simp] theorem setF_fences {x : Fld} {v : Nat} : (s.setF x v).fences = s.fences := rfl
@[simp] theorem setF_epoch {x : Fld} {v : Nat} : (s.setF x v).epoch = s.epoch := rfl
@[simp] theorem setF_ports {x : Fld} {v : Nat} : (s.setF x v).ports = s.ports := rfl
@[simp] theorem setF_optics {x : Fld} {v : Nat} : (s.setF x v).optics = s.optics := rfl
@[simp] theorem setF_tokens {x : Fld} {v : Nat} : (s.setF x v).tokens = s.tokens := rfl
@[simp] theorem setF_opens {x : Fld} {v : Nat} : (s.setF x v).opens = s.opens := rfl
@[simp] theorem setF_nextId {x : Fld} {v : Nat} : (s.setF x v).nextId = s.nextId := rfl
@[simp] theorem setF_own {x : Fld} {v : Nat} : (s.setF x v).own = s.own := rfl
@[simp] theorem setF_nextTxn {x : Fld} {v : Nat} : (s.setF x v).nextTxn = s.nextTxn := rfl
@[simp] theorem setF_sync {x : Fld} {v : Nat} : (s.setF x v).sync = s.sync := rfl
@[simp] theorem setF_canopy {x : Fld} {v : Nat} : (s.setF x v).canopy = s.canopy := rfl
@[simp] theorem setF_integ {x : Fld} {v : Nat} : (s.setF x v).integ = s.integ := rfl
@[simp] theorem setF_dramCtl {x : Fld} {v : Nat} : (s.setF x v).dramCtl = s.dramCtl := rfl
@[simp] theorem setF_vault {x : Fld} {v : Nat} : (s.setF x v).vault = s.vault := rfl
@[simp] theorem setF_installs {x : Fld} {v : Nat} : (s.setF x v).installs = s.installs := rfl
@[simp] theorem setF_baseCache0 {x : Fld} {v : Nat} : (s.setF x v).baseCache0 = s.baseCache0 := rfl
@[simp] theorem setF_baseCache1 {x : Fld} {v : Nat} : (s.setF x v).baseCache1 = s.baseCache1 := rfl
@[simp] theorem setF_cores {x : Fld} {v : Nat} : (s.setF x v).cores = s.cores := rfl
@[simp] theorem setF_accs {x : Fld} {v : Nat} : (s.setF x v).accs = s.accs := rfl
@[simp] theorem setF_exacts {x : Fld} {v : Nat} : (s.setF x v).exacts = s.exacts := rfl
@[simp] theorem setF_silent {x : Fld} {v : Nat} : (s.setF x v).silent = s.silent := rfl
@[simp] theorem setF_pair {x : Fld} {v : Nat} : (s.setF x v).pair = s.pair := rfl
@[simp] theorem setF_plans {x : Fld} {v : Nat} : (s.setF x v).plans = s.plans := rfl
@[simp] theorem setF_stalls {x : Fld} {v : Nat} : (s.setF x v).stalls = s.stalls := rfl
@[simp] theorem setF_pool {x : Fld} {v : Nat} : (s.setF x v).pool = s.pool := rfl
@[simp] theorem setF_mint {x : Fld} {v : Nat} : (s.setF x v).mint = s.mint := rfl
@[simp] theorem setF_tellers {x : Fld} {v : Nat} : (s.setF x v).tellers = s.tellers := rfl
@[simp] theorem setF_clocks {x : Fld} {v : Nat} : (s.setF x v).clocks = s.clocks := rfl
@[simp] theorem setF_boot {x : Fld} {v : Nat} : (s.setF x v).boot = s.boot := rfl
@[simp] theorem setF_mgmt {x : Fld} {v : Nat} : (s.setF x v).mgmt = s.mgmt := rfl
@[simp] theorem setF_pep {x : Fld} {v : Nat} : (s.setF x v).pep = s.pep := rfl
@[simp] theorem setF_tap {x : Fld} {v : Nat} : (s.setF x v).tap = s.tap := rfl
@[simp] theorem setF_irq {x : Fld} {v : Nat} : (s.setF x v).irq = s.irq := rfl
@[simp] theorem setF_deniedAt {x : Fld} {v : Nat} : (s.setF x v).deniedAt = s.deniedAt := rfl
@[simp] theorem setF_dieTemp {x : Fld} {v : Nat} : (s.setF x v).dieTemp = s.dieTemp := rfl
@[simp] theorem setF_railMv {x : Fld} {v : Nat} : (s.setF x v).railMv = s.railMv := rfl
@[simp] theorem setF_free {x : Fld} {v : Nat} : (s.setF x v).free = s.free := rfl
@[simp] theorem setF_out {x : Fld} {v : Nat} : (s.setF x v).out = s.out := rfl
@[simp] theorem setF_pending {x : Fld} {v : Nat} : (s.setF x v).pending = s.pending := rfl

/-! ### addF -/

@[simp] theorem addF_count {x : Fld} {v : Nat} : (s.addF x v).count = s.count := rfl
@[simp] theorem addF_dram {x : Fld} {v : Nat} : (s.addF x v).dram = s.dram := rfl
@[simp] theorem addF_stores {x : Fld} {v : Nat} : (s.addF x v).stores = s.stores := rfl
@[simp] theorem addF_storePoison {x : Fld} {v : Nat} : (s.addF x v).storePoison = s.storePoison := rfl
@[simp] theorem addF_storeParity {x : Fld} {v : Nat} : (s.addF x v).storeParity = s.storeParity := rfl
@[simp] theorem addF_srcRecs {x : Fld} {v : Nat} : (s.addF x v).srcRecs = s.srcRecs := rfl
@[simp] theorem addF_fences {x : Fld} {v : Nat} : (s.addF x v).fences = s.fences := rfl
@[simp] theorem addF_epoch {x : Fld} {v : Nat} : (s.addF x v).epoch = s.epoch := rfl
@[simp] theorem addF_ports {x : Fld} {v : Nat} : (s.addF x v).ports = s.ports := rfl
@[simp] theorem addF_optics {x : Fld} {v : Nat} : (s.addF x v).optics = s.optics := rfl
@[simp] theorem addF_tokens {x : Fld} {v : Nat} : (s.addF x v).tokens = s.tokens := rfl
@[simp] theorem addF_opens {x : Fld} {v : Nat} : (s.addF x v).opens = s.opens := rfl
@[simp] theorem addF_nextId {x : Fld} {v : Nat} : (s.addF x v).nextId = s.nextId := rfl
@[simp] theorem addF_own {x : Fld} {v : Nat} : (s.addF x v).own = s.own := rfl
@[simp] theorem addF_nextTxn {x : Fld} {v : Nat} : (s.addF x v).nextTxn = s.nextTxn := rfl
@[simp] theorem addF_sync {x : Fld} {v : Nat} : (s.addF x v).sync = s.sync := rfl
@[simp] theorem addF_canopy {x : Fld} {v : Nat} : (s.addF x v).canopy = s.canopy := rfl
@[simp] theorem addF_integ {x : Fld} {v : Nat} : (s.addF x v).integ = s.integ := rfl
@[simp] theorem addF_dramCtl {x : Fld} {v : Nat} : (s.addF x v).dramCtl = s.dramCtl := rfl
@[simp] theorem addF_vault {x : Fld} {v : Nat} : (s.addF x v).vault = s.vault := rfl
@[simp] theorem addF_installs {x : Fld} {v : Nat} : (s.addF x v).installs = s.installs := rfl
@[simp] theorem addF_baseCache0 {x : Fld} {v : Nat} : (s.addF x v).baseCache0 = s.baseCache0 := rfl
@[simp] theorem addF_baseCache1 {x : Fld} {v : Nat} : (s.addF x v).baseCache1 = s.baseCache1 := rfl
@[simp] theorem addF_cores {x : Fld} {v : Nat} : (s.addF x v).cores = s.cores := rfl
@[simp] theorem addF_accs {x : Fld} {v : Nat} : (s.addF x v).accs = s.accs := rfl
@[simp] theorem addF_exacts {x : Fld} {v : Nat} : (s.addF x v).exacts = s.exacts := rfl
@[simp] theorem addF_silent {x : Fld} {v : Nat} : (s.addF x v).silent = s.silent := rfl
@[simp] theorem addF_pair {x : Fld} {v : Nat} : (s.addF x v).pair = s.pair := rfl
@[simp] theorem addF_plans {x : Fld} {v : Nat} : (s.addF x v).plans = s.plans := rfl
@[simp] theorem addF_stalls {x : Fld} {v : Nat} : (s.addF x v).stalls = s.stalls := rfl
@[simp] theorem addF_pool {x : Fld} {v : Nat} : (s.addF x v).pool = s.pool := rfl
@[simp] theorem addF_mint {x : Fld} {v : Nat} : (s.addF x v).mint = s.mint := rfl
@[simp] theorem addF_tellers {x : Fld} {v : Nat} : (s.addF x v).tellers = s.tellers := rfl
@[simp] theorem addF_clocks {x : Fld} {v : Nat} : (s.addF x v).clocks = s.clocks := rfl
@[simp] theorem addF_boot {x : Fld} {v : Nat} : (s.addF x v).boot = s.boot := rfl
@[simp] theorem addF_mgmt {x : Fld} {v : Nat} : (s.addF x v).mgmt = s.mgmt := rfl
@[simp] theorem addF_pep {x : Fld} {v : Nat} : (s.addF x v).pep = s.pep := rfl
@[simp] theorem addF_tap {x : Fld} {v : Nat} : (s.addF x v).tap = s.tap := rfl
@[simp] theorem addF_irq {x : Fld} {v : Nat} : (s.addF x v).irq = s.irq := rfl
@[simp] theorem addF_deniedAt {x : Fld} {v : Nat} : (s.addF x v).deniedAt = s.deniedAt := rfl
@[simp] theorem addF_dieTemp {x : Fld} {v : Nat} : (s.addF x v).dieTemp = s.dieTemp := rfl
@[simp] theorem addF_railMv {x : Fld} {v : Nat} : (s.addF x v).railMv = s.railMv := rfl
@[simp] theorem addF_free {x : Fld} {v : Nat} : (s.addF x v).free = s.free := rfl
@[simp] theorem addF_out {x : Fld} {v : Nat} : (s.addF x v).out = s.out := rfl
@[simp] theorem addF_pending {x : Fld} {v : Nat} : (s.addF x v).pending = s.pending := rfl

/-! ### satF -/

@[simp] theorem satF_count {x : Fld} {v : Nat} : (s.satF x v).count = s.count := rfl
@[simp] theorem satF_dram {x : Fld} {v : Nat} : (s.satF x v).dram = s.dram := rfl
@[simp] theorem satF_stores {x : Fld} {v : Nat} : (s.satF x v).stores = s.stores := rfl
@[simp] theorem satF_storePoison {x : Fld} {v : Nat} : (s.satF x v).storePoison = s.storePoison := rfl
@[simp] theorem satF_storeParity {x : Fld} {v : Nat} : (s.satF x v).storeParity = s.storeParity := rfl
@[simp] theorem satF_srcRecs {x : Fld} {v : Nat} : (s.satF x v).srcRecs = s.srcRecs := rfl
@[simp] theorem satF_fences {x : Fld} {v : Nat} : (s.satF x v).fences = s.fences := rfl
@[simp] theorem satF_epoch {x : Fld} {v : Nat} : (s.satF x v).epoch = s.epoch := rfl
@[simp] theorem satF_ports {x : Fld} {v : Nat} : (s.satF x v).ports = s.ports := rfl
@[simp] theorem satF_optics {x : Fld} {v : Nat} : (s.satF x v).optics = s.optics := rfl
@[simp] theorem satF_tokens {x : Fld} {v : Nat} : (s.satF x v).tokens = s.tokens := rfl
@[simp] theorem satF_opens {x : Fld} {v : Nat} : (s.satF x v).opens = s.opens := rfl
@[simp] theorem satF_nextId {x : Fld} {v : Nat} : (s.satF x v).nextId = s.nextId := rfl
@[simp] theorem satF_own {x : Fld} {v : Nat} : (s.satF x v).own = s.own := rfl
@[simp] theorem satF_nextTxn {x : Fld} {v : Nat} : (s.satF x v).nextTxn = s.nextTxn := rfl
@[simp] theorem satF_sync {x : Fld} {v : Nat} : (s.satF x v).sync = s.sync := rfl
@[simp] theorem satF_canopy {x : Fld} {v : Nat} : (s.satF x v).canopy = s.canopy := rfl
@[simp] theorem satF_integ {x : Fld} {v : Nat} : (s.satF x v).integ = s.integ := rfl
@[simp] theorem satF_dramCtl {x : Fld} {v : Nat} : (s.satF x v).dramCtl = s.dramCtl := rfl
@[simp] theorem satF_vault {x : Fld} {v : Nat} : (s.satF x v).vault = s.vault := rfl
@[simp] theorem satF_installs {x : Fld} {v : Nat} : (s.satF x v).installs = s.installs := rfl
@[simp] theorem satF_baseCache0 {x : Fld} {v : Nat} : (s.satF x v).baseCache0 = s.baseCache0 := rfl
@[simp] theorem satF_baseCache1 {x : Fld} {v : Nat} : (s.satF x v).baseCache1 = s.baseCache1 := rfl
@[simp] theorem satF_cores {x : Fld} {v : Nat} : (s.satF x v).cores = s.cores := rfl
@[simp] theorem satF_accs {x : Fld} {v : Nat} : (s.satF x v).accs = s.accs := rfl
@[simp] theorem satF_exacts {x : Fld} {v : Nat} : (s.satF x v).exacts = s.exacts := rfl
@[simp] theorem satF_silent {x : Fld} {v : Nat} : (s.satF x v).silent = s.silent := rfl
@[simp] theorem satF_pair {x : Fld} {v : Nat} : (s.satF x v).pair = s.pair := rfl
@[simp] theorem satF_plans {x : Fld} {v : Nat} : (s.satF x v).plans = s.plans := rfl
@[simp] theorem satF_stalls {x : Fld} {v : Nat} : (s.satF x v).stalls = s.stalls := rfl
@[simp] theorem satF_pool {x : Fld} {v : Nat} : (s.satF x v).pool = s.pool := rfl
@[simp] theorem satF_mint {x : Fld} {v : Nat} : (s.satF x v).mint = s.mint := rfl
@[simp] theorem satF_tellers {x : Fld} {v : Nat} : (s.satF x v).tellers = s.tellers := rfl
@[simp] theorem satF_clocks {x : Fld} {v : Nat} : (s.satF x v).clocks = s.clocks := rfl
@[simp] theorem satF_boot {x : Fld} {v : Nat} : (s.satF x v).boot = s.boot := rfl
@[simp] theorem satF_mgmt {x : Fld} {v : Nat} : (s.satF x v).mgmt = s.mgmt := rfl
@[simp] theorem satF_pep {x : Fld} {v : Nat} : (s.satF x v).pep = s.pep := rfl
@[simp] theorem satF_tap {x : Fld} {v : Nat} : (s.satF x v).tap = s.tap := rfl
@[simp] theorem satF_irq {x : Fld} {v : Nat} : (s.satF x v).irq = s.irq := rfl
@[simp] theorem satF_deniedAt {x : Fld} {v : Nat} : (s.satF x v).deniedAt = s.deniedAt := rfl
@[simp] theorem satF_dieTemp {x : Fld} {v : Nat} : (s.satF x v).dieTemp = s.dieTemp := rfl
@[simp] theorem satF_railMv {x : Fld} {v : Nat} : (s.satF x v).railMv = s.railMv := rfl
@[simp] theorem satF_free {x : Fld} {v : Nat} : (s.satF x v).free = s.free := rfl
@[simp] theorem satF_out {x : Fld} {v : Nat} : (s.satF x v).out = s.out := rfl
@[simp] theorem satF_pending {x : Fld} {v : Nat} : (s.satF x v).pending = s.pending := rfl

/-! ### setBit -/

@[simp] theorem setBit_count {x : Fld} {i : Nat} {b : Bool} : (s.setBit x i b).count = s.count := rfl
@[simp] theorem setBit_dram {x : Fld} {i : Nat} {b : Bool} : (s.setBit x i b).dram = s.dram := rfl
@[simp] theorem setBit_stores {x : Fld} {i : Nat} {b : Bool} : (s.setBit x i b).stores = s.stores := rfl
@[simp] theorem setBit_storePoison {x : Fld} {i : Nat} {b : Bool} : (s.setBit x i b).storePoison = s.storePoison := rfl
@[simp] theorem setBit_storeParity {x : Fld} {i : Nat} {b : Bool} : (s.setBit x i b).storeParity = s.storeParity := rfl
@[simp] theorem setBit_srcRecs {x : Fld} {i : Nat} {b : Bool} : (s.setBit x i b).srcRecs = s.srcRecs := rfl
@[simp] theorem setBit_fences {x : Fld} {i : Nat} {b : Bool} : (s.setBit x i b).fences = s.fences := rfl
@[simp] theorem setBit_epoch {x : Fld} {i : Nat} {b : Bool} : (s.setBit x i b).epoch = s.epoch := rfl
@[simp] theorem setBit_ports {x : Fld} {i : Nat} {b : Bool} : (s.setBit x i b).ports = s.ports := rfl
@[simp] theorem setBit_optics {x : Fld} {i : Nat} {b : Bool} : (s.setBit x i b).optics = s.optics := rfl
@[simp] theorem setBit_tokens {x : Fld} {i : Nat} {b : Bool} : (s.setBit x i b).tokens = s.tokens := rfl
@[simp] theorem setBit_opens {x : Fld} {i : Nat} {b : Bool} : (s.setBit x i b).opens = s.opens := rfl
@[simp] theorem setBit_nextId {x : Fld} {i : Nat} {b : Bool} : (s.setBit x i b).nextId = s.nextId := rfl
@[simp] theorem setBit_own {x : Fld} {i : Nat} {b : Bool} : (s.setBit x i b).own = s.own := rfl
@[simp] theorem setBit_nextTxn {x : Fld} {i : Nat} {b : Bool} : (s.setBit x i b).nextTxn = s.nextTxn := rfl
@[simp] theorem setBit_sync {x : Fld} {i : Nat} {b : Bool} : (s.setBit x i b).sync = s.sync := rfl
@[simp] theorem setBit_canopy {x : Fld} {i : Nat} {b : Bool} : (s.setBit x i b).canopy = s.canopy := rfl
@[simp] theorem setBit_integ {x : Fld} {i : Nat} {b : Bool} : (s.setBit x i b).integ = s.integ := rfl
@[simp] theorem setBit_dramCtl {x : Fld} {i : Nat} {b : Bool} : (s.setBit x i b).dramCtl = s.dramCtl := rfl
@[simp] theorem setBit_vault {x : Fld} {i : Nat} {b : Bool} : (s.setBit x i b).vault = s.vault := rfl
@[simp] theorem setBit_installs {x : Fld} {i : Nat} {b : Bool} : (s.setBit x i b).installs = s.installs := rfl
@[simp] theorem setBit_baseCache0 {x : Fld} {i : Nat} {b : Bool} : (s.setBit x i b).baseCache0 = s.baseCache0 := rfl
@[simp] theorem setBit_baseCache1 {x : Fld} {i : Nat} {b : Bool} : (s.setBit x i b).baseCache1 = s.baseCache1 := rfl
@[simp] theorem setBit_cores {x : Fld} {i : Nat} {b : Bool} : (s.setBit x i b).cores = s.cores := rfl
@[simp] theorem setBit_accs {x : Fld} {i : Nat} {b : Bool} : (s.setBit x i b).accs = s.accs := rfl
@[simp] theorem setBit_exacts {x : Fld} {i : Nat} {b : Bool} : (s.setBit x i b).exacts = s.exacts := rfl
@[simp] theorem setBit_silent {x : Fld} {i : Nat} {b : Bool} : (s.setBit x i b).silent = s.silent := rfl
@[simp] theorem setBit_pair {x : Fld} {i : Nat} {b : Bool} : (s.setBit x i b).pair = s.pair := rfl
@[simp] theorem setBit_plans {x : Fld} {i : Nat} {b : Bool} : (s.setBit x i b).plans = s.plans := rfl
@[simp] theorem setBit_stalls {x : Fld} {i : Nat} {b : Bool} : (s.setBit x i b).stalls = s.stalls := rfl
@[simp] theorem setBit_pool {x : Fld} {i : Nat} {b : Bool} : (s.setBit x i b).pool = s.pool := rfl
@[simp] theorem setBit_mint {x : Fld} {i : Nat} {b : Bool} : (s.setBit x i b).mint = s.mint := rfl
@[simp] theorem setBit_tellers {x : Fld} {i : Nat} {b : Bool} : (s.setBit x i b).tellers = s.tellers := rfl
@[simp] theorem setBit_clocks {x : Fld} {i : Nat} {b : Bool} : (s.setBit x i b).clocks = s.clocks := rfl
@[simp] theorem setBit_boot {x : Fld} {i : Nat} {b : Bool} : (s.setBit x i b).boot = s.boot := rfl
@[simp] theorem setBit_mgmt {x : Fld} {i : Nat} {b : Bool} : (s.setBit x i b).mgmt = s.mgmt := rfl
@[simp] theorem setBit_pep {x : Fld} {i : Nat} {b : Bool} : (s.setBit x i b).pep = s.pep := rfl
@[simp] theorem setBit_tap {x : Fld} {i : Nat} {b : Bool} : (s.setBit x i b).tap = s.tap := rfl
@[simp] theorem setBit_irq {x : Fld} {i : Nat} {b : Bool} : (s.setBit x i b).irq = s.irq := rfl
@[simp] theorem setBit_deniedAt {x : Fld} {i : Nat} {b : Bool} : (s.setBit x i b).deniedAt = s.deniedAt := rfl
@[simp] theorem setBit_dieTemp {x : Fld} {i : Nat} {b : Bool} : (s.setBit x i b).dieTemp = s.dieTemp := rfl
@[simp] theorem setBit_railMv {x : Fld} {i : Nat} {b : Bool} : (s.setBit x i b).railMv = s.railMv := rfl
@[simp] theorem setBit_free {x : Fld} {i : Nat} {b : Bool} : (s.setBit x i b).free = s.free := rfl
@[simp] theorem setBit_out {x : Fld} {i : Nat} {b : Bool} : (s.setBit x i b).out = s.out := rfl
@[simp] theorem setBit_pending {x : Fld} {i : Nat} {b : Bool} : (s.setBit x i b).pending = s.pending := rfl

/-! ### clearRegs -/

@[simp] theorem clearRegs_count {lo hi : Nat} : (s.clearRegs lo hi).count = s.count := rfl
@[simp] theorem clearRegs_dram {lo hi : Nat} : (s.clearRegs lo hi).dram = s.dram := rfl
@[simp] theorem clearRegs_stores {lo hi : Nat} : (s.clearRegs lo hi).stores = s.stores := rfl
@[simp] theorem clearRegs_storePoison {lo hi : Nat} : (s.clearRegs lo hi).storePoison = s.storePoison := rfl
@[simp] theorem clearRegs_storeParity {lo hi : Nat} : (s.clearRegs lo hi).storeParity = s.storeParity := rfl
@[simp] theorem clearRegs_srcRecs {lo hi : Nat} : (s.clearRegs lo hi).srcRecs = s.srcRecs := rfl
@[simp] theorem clearRegs_fences {lo hi : Nat} : (s.clearRegs lo hi).fences = s.fences := rfl
@[simp] theorem clearRegs_epoch {lo hi : Nat} : (s.clearRegs lo hi).epoch = s.epoch := rfl
@[simp] theorem clearRegs_ports {lo hi : Nat} : (s.clearRegs lo hi).ports = s.ports := rfl
@[simp] theorem clearRegs_optics {lo hi : Nat} : (s.clearRegs lo hi).optics = s.optics := rfl
@[simp] theorem clearRegs_tokens {lo hi : Nat} : (s.clearRegs lo hi).tokens = s.tokens := rfl
@[simp] theorem clearRegs_opens {lo hi : Nat} : (s.clearRegs lo hi).opens = s.opens := rfl
@[simp] theorem clearRegs_nextId {lo hi : Nat} : (s.clearRegs lo hi).nextId = s.nextId := rfl
@[simp] theorem clearRegs_own {lo hi : Nat} : (s.clearRegs lo hi).own = s.own := rfl
@[simp] theorem clearRegs_nextTxn {lo hi : Nat} : (s.clearRegs lo hi).nextTxn = s.nextTxn := rfl
@[simp] theorem clearRegs_sync {lo hi : Nat} : (s.clearRegs lo hi).sync = s.sync := rfl
@[simp] theorem clearRegs_canopy {lo hi : Nat} : (s.clearRegs lo hi).canopy = s.canopy := rfl
@[simp] theorem clearRegs_integ {lo hi : Nat} : (s.clearRegs lo hi).integ = s.integ := rfl
@[simp] theorem clearRegs_dramCtl {lo hi : Nat} : (s.clearRegs lo hi).dramCtl = s.dramCtl := rfl
@[simp] theorem clearRegs_vault {lo hi : Nat} : (s.clearRegs lo hi).vault = s.vault := rfl
@[simp] theorem clearRegs_installs {lo hi : Nat} : (s.clearRegs lo hi).installs = s.installs := rfl
@[simp] theorem clearRegs_baseCache0 {lo hi : Nat} : (s.clearRegs lo hi).baseCache0 = s.baseCache0 := rfl
@[simp] theorem clearRegs_baseCache1 {lo hi : Nat} : (s.clearRegs lo hi).baseCache1 = s.baseCache1 := rfl
@[simp] theorem clearRegs_cores {lo hi : Nat} : (s.clearRegs lo hi).cores = s.cores := rfl
@[simp] theorem clearRegs_accs {lo hi : Nat} : (s.clearRegs lo hi).accs = s.accs := rfl
@[simp] theorem clearRegs_exacts {lo hi : Nat} : (s.clearRegs lo hi).exacts = s.exacts := rfl
@[simp] theorem clearRegs_silent {lo hi : Nat} : (s.clearRegs lo hi).silent = s.silent := rfl
@[simp] theorem clearRegs_pair {lo hi : Nat} : (s.clearRegs lo hi).pair = s.pair := rfl
@[simp] theorem clearRegs_plans {lo hi : Nat} : (s.clearRegs lo hi).plans = s.plans := rfl
@[simp] theorem clearRegs_stalls {lo hi : Nat} : (s.clearRegs lo hi).stalls = s.stalls := rfl
@[simp] theorem clearRegs_pool {lo hi : Nat} : (s.clearRegs lo hi).pool = s.pool := rfl
@[simp] theorem clearRegs_mint {lo hi : Nat} : (s.clearRegs lo hi).mint = s.mint := rfl
@[simp] theorem clearRegs_tellers {lo hi : Nat} : (s.clearRegs lo hi).tellers = s.tellers := rfl
@[simp] theorem clearRegs_clocks {lo hi : Nat} : (s.clearRegs lo hi).clocks = s.clocks := rfl
@[simp] theorem clearRegs_boot {lo hi : Nat} : (s.clearRegs lo hi).boot = s.boot := rfl
@[simp] theorem clearRegs_mgmt {lo hi : Nat} : (s.clearRegs lo hi).mgmt = s.mgmt := rfl
@[simp] theorem clearRegs_pep {lo hi : Nat} : (s.clearRegs lo hi).pep = s.pep := rfl
@[simp] theorem clearRegs_tap {lo hi : Nat} : (s.clearRegs lo hi).tap = s.tap := rfl
@[simp] theorem clearRegs_irq {lo hi : Nat} : (s.clearRegs lo hi).irq = s.irq := rfl
@[simp] theorem clearRegs_deniedAt {lo hi : Nat} : (s.clearRegs lo hi).deniedAt = s.deniedAt := rfl
@[simp] theorem clearRegs_dieTemp {lo hi : Nat} : (s.clearRegs lo hi).dieTemp = s.dieTemp := rfl
@[simp] theorem clearRegs_railMv {lo hi : Nat} : (s.clearRegs lo hi).railMv = s.railMv := rfl
@[simp] theorem clearRegs_free {lo hi : Nat} : (s.clearRegs lo hi).free = s.free := rfl
@[simp] theorem clearRegs_out {lo hi : Nat} : (s.clearRegs lo hi).out = s.out := rfl
@[simp] theorem clearRegs_pending {lo hi : Nat} : (s.clearRegs lo hi).pending = s.pending := rfl

/-! ### bump -/

@[simp] theorem bump_count : (s.bump).count = s.count := rfl
@[simp] theorem bump_regs : (s.bump).regs = s.regs := rfl
@[simp] theorem bump_dram : (s.bump).dram = s.dram := rfl
@[simp] theorem bump_stores : (s.bump).stores = s.stores := rfl
@[simp] theorem bump_storePoison : (s.bump).storePoison = s.storePoison := rfl
@[simp] theorem bump_storeParity : (s.bump).storeParity = s.storeParity := rfl
@[simp] theorem bump_srcRecs : (s.bump).srcRecs = s.srcRecs := rfl
@[simp] theorem bump_fences : (s.bump).fences = s.fences := rfl
@[simp] theorem bump_epoch : (s.bump).epoch = s.epoch := rfl
@[simp] theorem bump_ports : (s.bump).ports = s.ports := rfl
@[simp] theorem bump_optics : (s.bump).optics = s.optics := rfl
@[simp] theorem bump_tokens : (s.bump).tokens = s.tokens := rfl
@[simp] theorem bump_opens : (s.bump).opens = s.opens := rfl
@[simp] theorem bump_nextId : (s.bump).nextId = s.nextId := rfl
@[simp] theorem bump_own : (s.bump).own = s.own := rfl
@[simp] theorem bump_nextTxn : (s.bump).nextTxn = s.nextTxn := rfl
@[simp] theorem bump_sync : (s.bump).sync = s.sync := rfl
@[simp] theorem bump_canopy : (s.bump).canopy = s.canopy := rfl
@[simp] theorem bump_integ : (s.bump).integ = s.integ := rfl
@[simp] theorem bump_dramCtl : (s.bump).dramCtl = s.dramCtl := rfl
@[simp] theorem bump_vault : (s.bump).vault = s.vault := rfl
@[simp] theorem bump_installs : (s.bump).installs = s.installs := rfl
@[simp] theorem bump_baseCache0 : (s.bump).baseCache0 = s.baseCache0 := rfl
@[simp] theorem bump_baseCache1 : (s.bump).baseCache1 = s.baseCache1 := rfl
@[simp] theorem bump_cores : (s.bump).cores = s.cores := rfl
@[simp] theorem bump_accs : (s.bump).accs = s.accs := rfl
@[simp] theorem bump_exacts : (s.bump).exacts = s.exacts := rfl
@[simp] theorem bump_silent : (s.bump).silent = s.silent := rfl
@[simp] theorem bump_pair : (s.bump).pair = s.pair := rfl
@[simp] theorem bump_plans : (s.bump).plans = s.plans := rfl
@[simp] theorem bump_stalls : (s.bump).stalls = s.stalls := rfl
@[simp] theorem bump_pool : (s.bump).pool = s.pool := rfl
@[simp] theorem bump_mint : (s.bump).mint = s.mint := rfl
@[simp] theorem bump_tellers : (s.bump).tellers = s.tellers := rfl
@[simp] theorem bump_clocks : (s.bump).clocks = s.clocks := rfl
@[simp] theorem bump_boot : (s.bump).boot = s.boot := rfl
@[simp] theorem bump_mgmt : (s.bump).mgmt = s.mgmt := rfl
@[simp] theorem bump_pep : (s.bump).pep = s.pep := rfl
@[simp] theorem bump_tap : (s.bump).tap = s.tap := rfl
@[simp] theorem bump_irq : (s.bump).irq = s.irq := rfl
@[simp] theorem bump_deniedAt : (s.bump).deniedAt = s.deniedAt := rfl
@[simp] theorem bump_dieTemp : (s.bump).dieTemp = s.dieTemp := rfl
@[simp] theorem bump_railMv : (s.bump).railMv = s.railMv := rfl
@[simp] theorem bump_out : (s.bump).out = s.out := rfl
@[simp] theorem bump_pending : (s.bump).pending = s.pending := rfl
@[simp] theorem bump_reg {off : Nat} : (s.bump).reg off = s.reg off := rfl
@[simp] theorem bump_f {y : Fld} : (s.bump).f y = s.f y := rfl

/-! ### emit -/

@[simp] theorem emit_count {o : Out} : (s.emit o).count = s.count := rfl
@[simp] theorem emit_regs {o : Out} : (s.emit o).regs = s.regs := rfl
@[simp] theorem emit_dram {o : Out} : (s.emit o).dram = s.dram := rfl
@[simp] theorem emit_stores {o : Out} : (s.emit o).stores = s.stores := rfl
@[simp] theorem emit_storePoison {o : Out} : (s.emit o).storePoison = s.storePoison := rfl
@[simp] theorem emit_storeParity {o : Out} : (s.emit o).storeParity = s.storeParity := rfl
@[simp] theorem emit_srcRecs {o : Out} : (s.emit o).srcRecs = s.srcRecs := rfl
@[simp] theorem emit_fences {o : Out} : (s.emit o).fences = s.fences := rfl
@[simp] theorem emit_epoch {o : Out} : (s.emit o).epoch = s.epoch := rfl
@[simp] theorem emit_ports {o : Out} : (s.emit o).ports = s.ports := rfl
@[simp] theorem emit_optics {o : Out} : (s.emit o).optics = s.optics := rfl
@[simp] theorem emit_tokens {o : Out} : (s.emit o).tokens = s.tokens := rfl
@[simp] theorem emit_opens {o : Out} : (s.emit o).opens = s.opens := rfl
@[simp] theorem emit_nextId {o : Out} : (s.emit o).nextId = s.nextId := rfl
@[simp] theorem emit_own {o : Out} : (s.emit o).own = s.own := rfl
@[simp] theorem emit_nextTxn {o : Out} : (s.emit o).nextTxn = s.nextTxn := rfl
@[simp] theorem emit_sync {o : Out} : (s.emit o).sync = s.sync := rfl
@[simp] theorem emit_canopy {o : Out} : (s.emit o).canopy = s.canopy := rfl
@[simp] theorem emit_integ {o : Out} : (s.emit o).integ = s.integ := rfl
@[simp] theorem emit_dramCtl {o : Out} : (s.emit o).dramCtl = s.dramCtl := rfl
@[simp] theorem emit_vault {o : Out} : (s.emit o).vault = s.vault := rfl
@[simp] theorem emit_installs {o : Out} : (s.emit o).installs = s.installs := rfl
@[simp] theorem emit_baseCache0 {o : Out} : (s.emit o).baseCache0 = s.baseCache0 := rfl
@[simp] theorem emit_baseCache1 {o : Out} : (s.emit o).baseCache1 = s.baseCache1 := rfl
@[simp] theorem emit_cores {o : Out} : (s.emit o).cores = s.cores := rfl
@[simp] theorem emit_accs {o : Out} : (s.emit o).accs = s.accs := rfl
@[simp] theorem emit_exacts {o : Out} : (s.emit o).exacts = s.exacts := rfl
@[simp] theorem emit_silent {o : Out} : (s.emit o).silent = s.silent := rfl
@[simp] theorem emit_pair {o : Out} : (s.emit o).pair = s.pair := rfl
@[simp] theorem emit_plans {o : Out} : (s.emit o).plans = s.plans := rfl
@[simp] theorem emit_stalls {o : Out} : (s.emit o).stalls = s.stalls := rfl
@[simp] theorem emit_pool {o : Out} : (s.emit o).pool = s.pool := rfl
@[simp] theorem emit_mint {o : Out} : (s.emit o).mint = s.mint := rfl
@[simp] theorem emit_tellers {o : Out} : (s.emit o).tellers = s.tellers := rfl
@[simp] theorem emit_clocks {o : Out} : (s.emit o).clocks = s.clocks := rfl
@[simp] theorem emit_boot {o : Out} : (s.emit o).boot = s.boot := rfl
@[simp] theorem emit_mgmt {o : Out} : (s.emit o).mgmt = s.mgmt := rfl
@[simp] theorem emit_pep {o : Out} : (s.emit o).pep = s.pep := rfl
@[simp] theorem emit_tap {o : Out} : (s.emit o).tap = s.tap := rfl
@[simp] theorem emit_irq {o : Out} : (s.emit o).irq = s.irq := rfl
@[simp] theorem emit_deniedAt {o : Out} : (s.emit o).deniedAt = s.deniedAt := rfl
@[simp] theorem emit_dieTemp {o : Out} : (s.emit o).dieTemp = s.dieTemp := rfl
@[simp] theorem emit_railMv {o : Out} : (s.emit o).railMv = s.railMv := rfl
@[simp] theorem emit_free {o : Out} : (s.emit o).free = s.free := rfl
@[simp] theorem emit_pending {o : Out} : (s.emit o).pending = s.pending := rfl
@[simp] theorem emit_reg {o : Out} {off : Nat} : (s.emit o).reg off = s.reg off := rfl
@[simp] theorem emit_f {o : Out} {y : Fld} : (s.emit o).f y = s.f y := rfl

/-! ### raiseIrq -/

@[simp] theorem raiseIrq_count {v : Nat} : (s.raiseIrq v).count = s.count := rfl
@[simp] theorem raiseIrq_regs {v : Nat} : (s.raiseIrq v).regs = s.regs := rfl
@[simp] theorem raiseIrq_dram {v : Nat} : (s.raiseIrq v).dram = s.dram := rfl
@[simp] theorem raiseIrq_stores {v : Nat} : (s.raiseIrq v).stores = s.stores := rfl
@[simp] theorem raiseIrq_storePoison {v : Nat} : (s.raiseIrq v).storePoison = s.storePoison := rfl
@[simp] theorem raiseIrq_storeParity {v : Nat} : (s.raiseIrq v).storeParity = s.storeParity := rfl
@[simp] theorem raiseIrq_srcRecs {v : Nat} : (s.raiseIrq v).srcRecs = s.srcRecs := rfl
@[simp] theorem raiseIrq_fences {v : Nat} : (s.raiseIrq v).fences = s.fences := rfl
@[simp] theorem raiseIrq_epoch {v : Nat} : (s.raiseIrq v).epoch = s.epoch := rfl
@[simp] theorem raiseIrq_ports {v : Nat} : (s.raiseIrq v).ports = s.ports := rfl
@[simp] theorem raiseIrq_optics {v : Nat} : (s.raiseIrq v).optics = s.optics := rfl
@[simp] theorem raiseIrq_tokens {v : Nat} : (s.raiseIrq v).tokens = s.tokens := rfl
@[simp] theorem raiseIrq_opens {v : Nat} : (s.raiseIrq v).opens = s.opens := rfl
@[simp] theorem raiseIrq_nextId {v : Nat} : (s.raiseIrq v).nextId = s.nextId := rfl
@[simp] theorem raiseIrq_own {v : Nat} : (s.raiseIrq v).own = s.own := rfl
@[simp] theorem raiseIrq_nextTxn {v : Nat} : (s.raiseIrq v).nextTxn = s.nextTxn := rfl
@[simp] theorem raiseIrq_sync {v : Nat} : (s.raiseIrq v).sync = s.sync := rfl
@[simp] theorem raiseIrq_canopy {v : Nat} : (s.raiseIrq v).canopy = s.canopy := rfl
@[simp] theorem raiseIrq_integ {v : Nat} : (s.raiseIrq v).integ = s.integ := rfl
@[simp] theorem raiseIrq_dramCtl {v : Nat} : (s.raiseIrq v).dramCtl = s.dramCtl := rfl
@[simp] theorem raiseIrq_vault {v : Nat} : (s.raiseIrq v).vault = s.vault := rfl
@[simp] theorem raiseIrq_installs {v : Nat} : (s.raiseIrq v).installs = s.installs := rfl
@[simp] theorem raiseIrq_baseCache0 {v : Nat} : (s.raiseIrq v).baseCache0 = s.baseCache0 := rfl
@[simp] theorem raiseIrq_baseCache1 {v : Nat} : (s.raiseIrq v).baseCache1 = s.baseCache1 := rfl
@[simp] theorem raiseIrq_cores {v : Nat} : (s.raiseIrq v).cores = s.cores := rfl
@[simp] theorem raiseIrq_accs {v : Nat} : (s.raiseIrq v).accs = s.accs := rfl
@[simp] theorem raiseIrq_exacts {v : Nat} : (s.raiseIrq v).exacts = s.exacts := rfl
@[simp] theorem raiseIrq_silent {v : Nat} : (s.raiseIrq v).silent = s.silent := rfl
@[simp] theorem raiseIrq_pair {v : Nat} : (s.raiseIrq v).pair = s.pair := rfl
@[simp] theorem raiseIrq_plans {v : Nat} : (s.raiseIrq v).plans = s.plans := rfl
@[simp] theorem raiseIrq_stalls {v : Nat} : (s.raiseIrq v).stalls = s.stalls := rfl
@[simp] theorem raiseIrq_pool {v : Nat} : (s.raiseIrq v).pool = s.pool := rfl
@[simp] theorem raiseIrq_mint {v : Nat} : (s.raiseIrq v).mint = s.mint := rfl
@[simp] theorem raiseIrq_tellers {v : Nat} : (s.raiseIrq v).tellers = s.tellers := rfl
@[simp] theorem raiseIrq_clocks {v : Nat} : (s.raiseIrq v).clocks = s.clocks := rfl
@[simp] theorem raiseIrq_boot {v : Nat} : (s.raiseIrq v).boot = s.boot := rfl
@[simp] theorem raiseIrq_mgmt {v : Nat} : (s.raiseIrq v).mgmt = s.mgmt := rfl
@[simp] theorem raiseIrq_pep {v : Nat} : (s.raiseIrq v).pep = s.pep := rfl
@[simp] theorem raiseIrq_tap {v : Nat} : (s.raiseIrq v).tap = s.tap := rfl
@[simp] theorem raiseIrq_deniedAt {v : Nat} : (s.raiseIrq v).deniedAt = s.deniedAt := rfl
@[simp] theorem raiseIrq_dieTemp {v : Nat} : (s.raiseIrq v).dieTemp = s.dieTemp := rfl
@[simp] theorem raiseIrq_railMv {v : Nat} : (s.raiseIrq v).railMv = s.railMv := rfl
@[simp] theorem raiseIrq_free {v : Nat} : (s.raiseIrq v).free = s.free := rfl
@[simp] theorem raiseIrq_out {v : Nat} : (s.raiseIrq v).out = s.out := rfl
@[simp] theorem raiseIrq_pending {v : Nat} : (s.raiseIrq v).pending = s.pending := rfl
@[simp] theorem raiseIrq_reg {v : Nat} {off : Nat} : (s.raiseIrq v).reg off = s.reg off := rfl
@[simp] theorem raiseIrq_f {v : Nat} {y : Fld} : (s.raiseIrq v).f y = s.f y := rfl

/-! ### setTeller -/

@[simp] theorem setTeller_count {p k : Nat} {t : Teller} : (s.setTeller p k t).count = s.count := rfl
@[simp] theorem setTeller_regs {p k : Nat} {t : Teller} : (s.setTeller p k t).regs = s.regs := rfl
@[simp] theorem setTeller_dram {p k : Nat} {t : Teller} : (s.setTeller p k t).dram = s.dram := rfl
@[simp] theorem setTeller_stores {p k : Nat} {t : Teller} : (s.setTeller p k t).stores = s.stores := rfl
@[simp] theorem setTeller_storePoison {p k : Nat} {t : Teller} : (s.setTeller p k t).storePoison = s.storePoison := rfl
@[simp] theorem setTeller_storeParity {p k : Nat} {t : Teller} : (s.setTeller p k t).storeParity = s.storeParity := rfl
@[simp] theorem setTeller_srcRecs {p k : Nat} {t : Teller} : (s.setTeller p k t).srcRecs = s.srcRecs := rfl
@[simp] theorem setTeller_fences {p k : Nat} {t : Teller} : (s.setTeller p k t).fences = s.fences := rfl
@[simp] theorem setTeller_epoch {p k : Nat} {t : Teller} : (s.setTeller p k t).epoch = s.epoch := rfl
@[simp] theorem setTeller_ports {p k : Nat} {t : Teller} : (s.setTeller p k t).ports = s.ports := rfl
@[simp] theorem setTeller_optics {p k : Nat} {t : Teller} : (s.setTeller p k t).optics = s.optics := rfl
@[simp] theorem setTeller_tokens {p k : Nat} {t : Teller} : (s.setTeller p k t).tokens = s.tokens := rfl
@[simp] theorem setTeller_opens {p k : Nat} {t : Teller} : (s.setTeller p k t).opens = s.opens := rfl
@[simp] theorem setTeller_nextId {p k : Nat} {t : Teller} : (s.setTeller p k t).nextId = s.nextId := rfl
@[simp] theorem setTeller_own {p k : Nat} {t : Teller} : (s.setTeller p k t).own = s.own := rfl
@[simp] theorem setTeller_nextTxn {p k : Nat} {t : Teller} : (s.setTeller p k t).nextTxn = s.nextTxn := rfl
@[simp] theorem setTeller_sync {p k : Nat} {t : Teller} : (s.setTeller p k t).sync = s.sync := rfl
@[simp] theorem setTeller_canopy {p k : Nat} {t : Teller} : (s.setTeller p k t).canopy = s.canopy := rfl
@[simp] theorem setTeller_integ {p k : Nat} {t : Teller} : (s.setTeller p k t).integ = s.integ := rfl
@[simp] theorem setTeller_dramCtl {p k : Nat} {t : Teller} : (s.setTeller p k t).dramCtl = s.dramCtl := rfl
@[simp] theorem setTeller_vault {p k : Nat} {t : Teller} : (s.setTeller p k t).vault = s.vault := rfl
@[simp] theorem setTeller_installs {p k : Nat} {t : Teller} : (s.setTeller p k t).installs = s.installs := rfl
@[simp] theorem setTeller_baseCache0 {p k : Nat} {t : Teller} : (s.setTeller p k t).baseCache0 = s.baseCache0 := rfl
@[simp] theorem setTeller_baseCache1 {p k : Nat} {t : Teller} : (s.setTeller p k t).baseCache1 = s.baseCache1 := rfl
@[simp] theorem setTeller_cores {p k : Nat} {t : Teller} : (s.setTeller p k t).cores = s.cores := rfl
@[simp] theorem setTeller_accs {p k : Nat} {t : Teller} : (s.setTeller p k t).accs = s.accs := rfl
@[simp] theorem setTeller_exacts {p k : Nat} {t : Teller} : (s.setTeller p k t).exacts = s.exacts := rfl
@[simp] theorem setTeller_silent {p k : Nat} {t : Teller} : (s.setTeller p k t).silent = s.silent := rfl
@[simp] theorem setTeller_pair {p k : Nat} {t : Teller} : (s.setTeller p k t).pair = s.pair := rfl
@[simp] theorem setTeller_plans {p k : Nat} {t : Teller} : (s.setTeller p k t).plans = s.plans := rfl
@[simp] theorem setTeller_stalls {p k : Nat} {t : Teller} : (s.setTeller p k t).stalls = s.stalls := rfl
@[simp] theorem setTeller_pool {p k : Nat} {t : Teller} : (s.setTeller p k t).pool = s.pool := rfl
@[simp] theorem setTeller_mint {p k : Nat} {t : Teller} : (s.setTeller p k t).mint = s.mint := rfl
@[simp] theorem setTeller_clocks {p k : Nat} {t : Teller} : (s.setTeller p k t).clocks = s.clocks := rfl
@[simp] theorem setTeller_boot {p k : Nat} {t : Teller} : (s.setTeller p k t).boot = s.boot := rfl
@[simp] theorem setTeller_mgmt {p k : Nat} {t : Teller} : (s.setTeller p k t).mgmt = s.mgmt := rfl
@[simp] theorem setTeller_pep {p k : Nat} {t : Teller} : (s.setTeller p k t).pep = s.pep := rfl
@[simp] theorem setTeller_tap {p k : Nat} {t : Teller} : (s.setTeller p k t).tap = s.tap := rfl
@[simp] theorem setTeller_irq {p k : Nat} {t : Teller} : (s.setTeller p k t).irq = s.irq := rfl
@[simp] theorem setTeller_deniedAt {p k : Nat} {t : Teller} : (s.setTeller p k t).deniedAt = s.deniedAt := rfl
@[simp] theorem setTeller_dieTemp {p k : Nat} {t : Teller} : (s.setTeller p k t).dieTemp = s.dieTemp := rfl
@[simp] theorem setTeller_railMv {p k : Nat} {t : Teller} : (s.setTeller p k t).railMv = s.railMv := rfl
@[simp] theorem setTeller_free {p k : Nat} {t : Teller} : (s.setTeller p k t).free = s.free := rfl
@[simp] theorem setTeller_out {p k : Nat} {t : Teller} : (s.setTeller p k t).out = s.out := rfl
@[simp] theorem setTeller_pending {p k : Nat} {t : Teller} : (s.setTeller p k t).pending = s.pending := rfl
@[simp] theorem setTeller_reg {p k : Nat} {t : Teller} {off : Nat} : (s.setTeller p k t).reg off = s.reg off := rfl
@[simp] theorem setTeller_f {p k : Nat} {t : Teller} {y : Fld} : (s.setTeller p k t).f y = s.f y := rfl

/-! ### setPort -/

@[simp] theorem setPort_count {p : Nat} {x : Port} : (s.setPort p x).count = s.count := rfl
@[simp] theorem setPort_regs {p : Nat} {x : Port} : (s.setPort p x).regs = s.regs := rfl
@[simp] theorem setPort_dram {p : Nat} {x : Port} : (s.setPort p x).dram = s.dram := rfl
@[simp] theorem setPort_stores {p : Nat} {x : Port} : (s.setPort p x).stores = s.stores := rfl
@[simp] theorem setPort_storePoison {p : Nat} {x : Port} : (s.setPort p x).storePoison = s.storePoison := rfl
@[simp] theorem setPort_storeParity {p : Nat} {x : Port} : (s.setPort p x).storeParity = s.storeParity := rfl
@[simp] theorem setPort_srcRecs {p : Nat} {x : Port} : (s.setPort p x).srcRecs = s.srcRecs := rfl
@[simp] theorem setPort_fences {p : Nat} {x : Port} : (s.setPort p x).fences = s.fences := rfl
@[simp] theorem setPort_epoch {p : Nat} {x : Port} : (s.setPort p x).epoch = s.epoch := rfl
@[simp] theorem setPort_optics {p : Nat} {x : Port} : (s.setPort p x).optics = s.optics := rfl
@[simp] theorem setPort_tokens {p : Nat} {x : Port} : (s.setPort p x).tokens = s.tokens := rfl
@[simp] theorem setPort_opens {p : Nat} {x : Port} : (s.setPort p x).opens = s.opens := rfl
@[simp] theorem setPort_nextId {p : Nat} {x : Port} : (s.setPort p x).nextId = s.nextId := rfl
@[simp] theorem setPort_own {p : Nat} {x : Port} : (s.setPort p x).own = s.own := rfl
@[simp] theorem setPort_nextTxn {p : Nat} {x : Port} : (s.setPort p x).nextTxn = s.nextTxn := rfl
@[simp] theorem setPort_sync {p : Nat} {x : Port} : (s.setPort p x).sync = s.sync := rfl
@[simp] theorem setPort_canopy {p : Nat} {x : Port} : (s.setPort p x).canopy = s.canopy := rfl
@[simp] theorem setPort_integ {p : Nat} {x : Port} : (s.setPort p x).integ = s.integ := rfl
@[simp] theorem setPort_dramCtl {p : Nat} {x : Port} : (s.setPort p x).dramCtl = s.dramCtl := rfl
@[simp] theorem setPort_vault {p : Nat} {x : Port} : (s.setPort p x).vault = s.vault := rfl
@[simp] theorem setPort_installs {p : Nat} {x : Port} : (s.setPort p x).installs = s.installs := rfl
@[simp] theorem setPort_baseCache0 {p : Nat} {x : Port} : (s.setPort p x).baseCache0 = s.baseCache0 := rfl
@[simp] theorem setPort_baseCache1 {p : Nat} {x : Port} : (s.setPort p x).baseCache1 = s.baseCache1 := rfl
@[simp] theorem setPort_cores {p : Nat} {x : Port} : (s.setPort p x).cores = s.cores := rfl
@[simp] theorem setPort_accs {p : Nat} {x : Port} : (s.setPort p x).accs = s.accs := rfl
@[simp] theorem setPort_exacts {p : Nat} {x : Port} : (s.setPort p x).exacts = s.exacts := rfl
@[simp] theorem setPort_silent {p : Nat} {x : Port} : (s.setPort p x).silent = s.silent := rfl
@[simp] theorem setPort_pair {p : Nat} {x : Port} : (s.setPort p x).pair = s.pair := rfl
@[simp] theorem setPort_plans {p : Nat} {x : Port} : (s.setPort p x).plans = s.plans := rfl
@[simp] theorem setPort_stalls {p : Nat} {x : Port} : (s.setPort p x).stalls = s.stalls := rfl
@[simp] theorem setPort_pool {p : Nat} {x : Port} : (s.setPort p x).pool = s.pool := rfl
@[simp] theorem setPort_mint {p : Nat} {x : Port} : (s.setPort p x).mint = s.mint := rfl
@[simp] theorem setPort_tellers {p : Nat} {x : Port} : (s.setPort p x).tellers = s.tellers := rfl
@[simp] theorem setPort_clocks {p : Nat} {x : Port} : (s.setPort p x).clocks = s.clocks := rfl
@[simp] theorem setPort_boot {p : Nat} {x : Port} : (s.setPort p x).boot = s.boot := rfl
@[simp] theorem setPort_mgmt {p : Nat} {x : Port} : (s.setPort p x).mgmt = s.mgmt := rfl
@[simp] theorem setPort_pep {p : Nat} {x : Port} : (s.setPort p x).pep = s.pep := rfl
@[simp] theorem setPort_tap {p : Nat} {x : Port} : (s.setPort p x).tap = s.tap := rfl
@[simp] theorem setPort_irq {p : Nat} {x : Port} : (s.setPort p x).irq = s.irq := rfl
@[simp] theorem setPort_deniedAt {p : Nat} {x : Port} : (s.setPort p x).deniedAt = s.deniedAt := rfl
@[simp] theorem setPort_dieTemp {p : Nat} {x : Port} : (s.setPort p x).dieTemp = s.dieTemp := rfl
@[simp] theorem setPort_railMv {p : Nat} {x : Port} : (s.setPort p x).railMv = s.railMv := rfl
@[simp] theorem setPort_free {p : Nat} {x : Port} : (s.setPort p x).free = s.free := rfl
@[simp] theorem setPort_out {p : Nat} {x : Port} : (s.setPort p x).out = s.out := rfl
@[simp] theorem setPort_pending {p : Nat} {x : Port} : (s.setPort p x).pending = s.pending := rfl
@[simp] theorem setPort_reg {p : Nat} {x : Port} {off : Nat} : (s.setPort p x).reg off = s.reg off := rfl
@[simp] theorem setPort_f {p : Nat} {x : Port} {y : Fld} : (s.setPort p x).f y = s.f y := rfl

/-! ### setCore -/

@[simp] theorem setCore_count {n : Nat} {c : CoreSt} : (s.setCore n c).count = s.count := rfl
@[simp] theorem setCore_regs {n : Nat} {c : CoreSt} : (s.setCore n c).regs = s.regs := rfl
@[simp] theorem setCore_dram {n : Nat} {c : CoreSt} : (s.setCore n c).dram = s.dram := rfl
@[simp] theorem setCore_stores {n : Nat} {c : CoreSt} : (s.setCore n c).stores = s.stores := rfl
@[simp] theorem setCore_storePoison {n : Nat} {c : CoreSt} : (s.setCore n c).storePoison = s.storePoison := rfl
@[simp] theorem setCore_storeParity {n : Nat} {c : CoreSt} : (s.setCore n c).storeParity = s.storeParity := rfl
@[simp] theorem setCore_srcRecs {n : Nat} {c : CoreSt} : (s.setCore n c).srcRecs = s.srcRecs := rfl
@[simp] theorem setCore_fences {n : Nat} {c : CoreSt} : (s.setCore n c).fences = s.fences := rfl
@[simp] theorem setCore_epoch {n : Nat} {c : CoreSt} : (s.setCore n c).epoch = s.epoch := rfl
@[simp] theorem setCore_ports {n : Nat} {c : CoreSt} : (s.setCore n c).ports = s.ports := rfl
@[simp] theorem setCore_optics {n : Nat} {c : CoreSt} : (s.setCore n c).optics = s.optics := rfl
@[simp] theorem setCore_tokens {n : Nat} {c : CoreSt} : (s.setCore n c).tokens = s.tokens := rfl
@[simp] theorem setCore_opens {n : Nat} {c : CoreSt} : (s.setCore n c).opens = s.opens := rfl
@[simp] theorem setCore_nextId {n : Nat} {c : CoreSt} : (s.setCore n c).nextId = s.nextId := rfl
@[simp] theorem setCore_own {n : Nat} {c : CoreSt} : (s.setCore n c).own = s.own := rfl
@[simp] theorem setCore_nextTxn {n : Nat} {c : CoreSt} : (s.setCore n c).nextTxn = s.nextTxn := rfl
@[simp] theorem setCore_sync {n : Nat} {c : CoreSt} : (s.setCore n c).sync = s.sync := rfl
@[simp] theorem setCore_canopy {n : Nat} {c : CoreSt} : (s.setCore n c).canopy = s.canopy := rfl
@[simp] theorem setCore_integ {n : Nat} {c : CoreSt} : (s.setCore n c).integ = s.integ := rfl
@[simp] theorem setCore_dramCtl {n : Nat} {c : CoreSt} : (s.setCore n c).dramCtl = s.dramCtl := rfl
@[simp] theorem setCore_vault {n : Nat} {c : CoreSt} : (s.setCore n c).vault = s.vault := rfl
@[simp] theorem setCore_installs {n : Nat} {c : CoreSt} : (s.setCore n c).installs = s.installs := rfl
@[simp] theorem setCore_baseCache0 {n : Nat} {c : CoreSt} : (s.setCore n c).baseCache0 = s.baseCache0 := rfl
@[simp] theorem setCore_baseCache1 {n : Nat} {c : CoreSt} : (s.setCore n c).baseCache1 = s.baseCache1 := rfl
@[simp] theorem setCore_accs {n : Nat} {c : CoreSt} : (s.setCore n c).accs = s.accs := rfl
@[simp] theorem setCore_exacts {n : Nat} {c : CoreSt} : (s.setCore n c).exacts = s.exacts := rfl
@[simp] theorem setCore_silent {n : Nat} {c : CoreSt} : (s.setCore n c).silent = s.silent := rfl
@[simp] theorem setCore_pair {n : Nat} {c : CoreSt} : (s.setCore n c).pair = s.pair := rfl
@[simp] theorem setCore_plans {n : Nat} {c : CoreSt} : (s.setCore n c).plans = s.plans := rfl
@[simp] theorem setCore_stalls {n : Nat} {c : CoreSt} : (s.setCore n c).stalls = s.stalls := rfl
@[simp] theorem setCore_pool {n : Nat} {c : CoreSt} : (s.setCore n c).pool = s.pool := rfl
@[simp] theorem setCore_mint {n : Nat} {c : CoreSt} : (s.setCore n c).mint = s.mint := rfl
@[simp] theorem setCore_tellers {n : Nat} {c : CoreSt} : (s.setCore n c).tellers = s.tellers := rfl
@[simp] theorem setCore_clocks {n : Nat} {c : CoreSt} : (s.setCore n c).clocks = s.clocks := rfl
@[simp] theorem setCore_boot {n : Nat} {c : CoreSt} : (s.setCore n c).boot = s.boot := rfl
@[simp] theorem setCore_mgmt {n : Nat} {c : CoreSt} : (s.setCore n c).mgmt = s.mgmt := rfl
@[simp] theorem setCore_pep {n : Nat} {c : CoreSt} : (s.setCore n c).pep = s.pep := rfl
@[simp] theorem setCore_tap {n : Nat} {c : CoreSt} : (s.setCore n c).tap = s.tap := rfl
@[simp] theorem setCore_irq {n : Nat} {c : CoreSt} : (s.setCore n c).irq = s.irq := rfl
@[simp] theorem setCore_deniedAt {n : Nat} {c : CoreSt} : (s.setCore n c).deniedAt = s.deniedAt := rfl
@[simp] theorem setCore_dieTemp {n : Nat} {c : CoreSt} : (s.setCore n c).dieTemp = s.dieTemp := rfl
@[simp] theorem setCore_railMv {n : Nat} {c : CoreSt} : (s.setCore n c).railMv = s.railMv := rfl
@[simp] theorem setCore_free {n : Nat} {c : CoreSt} : (s.setCore n c).free = s.free := rfl
@[simp] theorem setCore_out {n : Nat} {c : CoreSt} : (s.setCore n c).out = s.out := rfl
@[simp] theorem setCore_pending {n : Nat} {c : CoreSt} : (s.setCore n c).pending = s.pending := rfl
@[simp] theorem setCore_reg {n : Nat} {c : CoreSt} {off : Nat} : (s.setCore n c).reg off = s.reg off := rfl
@[simp] theorem setCore_f {n : Nat} {c : CoreSt} {y : Fld} : (s.setCore n c).f y = s.f y := rfl

/-! ### setToken -/

@[simp] theorem setToken_count {i : Nat} {t : TokenSt} : (s.setToken i t).count = s.count := rfl
@[simp] theorem setToken_regs {i : Nat} {t : TokenSt} : (s.setToken i t).regs = s.regs := rfl
@[simp] theorem setToken_dram {i : Nat} {t : TokenSt} : (s.setToken i t).dram = s.dram := rfl
@[simp] theorem setToken_stores {i : Nat} {t : TokenSt} : (s.setToken i t).stores = s.stores := rfl
@[simp] theorem setToken_storePoison {i : Nat} {t : TokenSt} : (s.setToken i t).storePoison = s.storePoison := rfl
@[simp] theorem setToken_storeParity {i : Nat} {t : TokenSt} : (s.setToken i t).storeParity = s.storeParity := rfl
@[simp] theorem setToken_srcRecs {i : Nat} {t : TokenSt} : (s.setToken i t).srcRecs = s.srcRecs := rfl
@[simp] theorem setToken_fences {i : Nat} {t : TokenSt} : (s.setToken i t).fences = s.fences := rfl
@[simp] theorem setToken_epoch {i : Nat} {t : TokenSt} : (s.setToken i t).epoch = s.epoch := rfl
@[simp] theorem setToken_ports {i : Nat} {t : TokenSt} : (s.setToken i t).ports = s.ports := rfl
@[simp] theorem setToken_optics {i : Nat} {t : TokenSt} : (s.setToken i t).optics = s.optics := rfl
@[simp] theorem setToken_opens {i : Nat} {t : TokenSt} : (s.setToken i t).opens = s.opens := rfl
@[simp] theorem setToken_nextId {i : Nat} {t : TokenSt} : (s.setToken i t).nextId = s.nextId := rfl
@[simp] theorem setToken_own {i : Nat} {t : TokenSt} : (s.setToken i t).own = s.own := rfl
@[simp] theorem setToken_nextTxn {i : Nat} {t : TokenSt} : (s.setToken i t).nextTxn = s.nextTxn := rfl
@[simp] theorem setToken_sync {i : Nat} {t : TokenSt} : (s.setToken i t).sync = s.sync := rfl
@[simp] theorem setToken_canopy {i : Nat} {t : TokenSt} : (s.setToken i t).canopy = s.canopy := rfl
@[simp] theorem setToken_integ {i : Nat} {t : TokenSt} : (s.setToken i t).integ = s.integ := rfl
@[simp] theorem setToken_dramCtl {i : Nat} {t : TokenSt} : (s.setToken i t).dramCtl = s.dramCtl := rfl
@[simp] theorem setToken_vault {i : Nat} {t : TokenSt} : (s.setToken i t).vault = s.vault := rfl
@[simp] theorem setToken_installs {i : Nat} {t : TokenSt} : (s.setToken i t).installs = s.installs := rfl
@[simp] theorem setToken_baseCache0 {i : Nat} {t : TokenSt} : (s.setToken i t).baseCache0 = s.baseCache0 := rfl
@[simp] theorem setToken_baseCache1 {i : Nat} {t : TokenSt} : (s.setToken i t).baseCache1 = s.baseCache1 := rfl
@[simp] theorem setToken_cores {i : Nat} {t : TokenSt} : (s.setToken i t).cores = s.cores := rfl
@[simp] theorem setToken_accs {i : Nat} {t : TokenSt} : (s.setToken i t).accs = s.accs := rfl
@[simp] theorem setToken_exacts {i : Nat} {t : TokenSt} : (s.setToken i t).exacts = s.exacts := rfl
@[simp] theorem setToken_silent {i : Nat} {t : TokenSt} : (s.setToken i t).silent = s.silent := rfl
@[simp] theorem setToken_pair {i : Nat} {t : TokenSt} : (s.setToken i t).pair = s.pair := rfl
@[simp] theorem setToken_plans {i : Nat} {t : TokenSt} : (s.setToken i t).plans = s.plans := rfl
@[simp] theorem setToken_stalls {i : Nat} {t : TokenSt} : (s.setToken i t).stalls = s.stalls := rfl
@[simp] theorem setToken_pool {i : Nat} {t : TokenSt} : (s.setToken i t).pool = s.pool := rfl
@[simp] theorem setToken_mint {i : Nat} {t : TokenSt} : (s.setToken i t).mint = s.mint := rfl
@[simp] theorem setToken_tellers {i : Nat} {t : TokenSt} : (s.setToken i t).tellers = s.tellers := rfl
@[simp] theorem setToken_clocks {i : Nat} {t : TokenSt} : (s.setToken i t).clocks = s.clocks := rfl
@[simp] theorem setToken_boot {i : Nat} {t : TokenSt} : (s.setToken i t).boot = s.boot := rfl
@[simp] theorem setToken_mgmt {i : Nat} {t : TokenSt} : (s.setToken i t).mgmt = s.mgmt := rfl
@[simp] theorem setToken_pep {i : Nat} {t : TokenSt} : (s.setToken i t).pep = s.pep := rfl
@[simp] theorem setToken_tap {i : Nat} {t : TokenSt} : (s.setToken i t).tap = s.tap := rfl
@[simp] theorem setToken_irq {i : Nat} {t : TokenSt} : (s.setToken i t).irq = s.irq := rfl
@[simp] theorem setToken_deniedAt {i : Nat} {t : TokenSt} : (s.setToken i t).deniedAt = s.deniedAt := rfl
@[simp] theorem setToken_dieTemp {i : Nat} {t : TokenSt} : (s.setToken i t).dieTemp = s.dieTemp := rfl
@[simp] theorem setToken_railMv {i : Nat} {t : TokenSt} : (s.setToken i t).railMv = s.railMv := rfl
@[simp] theorem setToken_free {i : Nat} {t : TokenSt} : (s.setToken i t).free = s.free := rfl
@[simp] theorem setToken_out {i : Nat} {t : TokenSt} : (s.setToken i t).out = s.out := rfl
@[simp] theorem setToken_pending {i : Nat} {t : TokenSt} : (s.setToken i t).pending = s.pending := rfl
@[simp] theorem setToken_reg {i : Nat} {t : TokenSt} {off : Nat} : (s.setToken i t).reg off = s.reg off := rfl
@[simp] theorem setToken_f {i : Nat} {t : TokenSt} {y : Fld} : (s.setToken i t).f y = s.f y := rfl

/-! ### setOptic -/

@[simp] theorem setOptic_count {e : Nat} {x : Optic} : (s.setOptic e x).count = s.count := rfl
@[simp] theorem setOptic_regs {e : Nat} {x : Optic} : (s.setOptic e x).regs = s.regs := rfl
@[simp] theorem setOptic_dram {e : Nat} {x : Optic} : (s.setOptic e x).dram = s.dram := rfl
@[simp] theorem setOptic_stores {e : Nat} {x : Optic} : (s.setOptic e x).stores = s.stores := rfl
@[simp] theorem setOptic_storePoison {e : Nat} {x : Optic} : (s.setOptic e x).storePoison = s.storePoison := rfl
@[simp] theorem setOptic_storeParity {e : Nat} {x : Optic} : (s.setOptic e x).storeParity = s.storeParity := rfl
@[simp] theorem setOptic_srcRecs {e : Nat} {x : Optic} : (s.setOptic e x).srcRecs = s.srcRecs := rfl
@[simp] theorem setOptic_fences {e : Nat} {x : Optic} : (s.setOptic e x).fences = s.fences := rfl
@[simp] theorem setOptic_epoch {e : Nat} {x : Optic} : (s.setOptic e x).epoch = s.epoch := rfl
@[simp] theorem setOptic_ports {e : Nat} {x : Optic} : (s.setOptic e x).ports = s.ports := rfl
@[simp] theorem setOptic_tokens {e : Nat} {x : Optic} : (s.setOptic e x).tokens = s.tokens := rfl
@[simp] theorem setOptic_opens {e : Nat} {x : Optic} : (s.setOptic e x).opens = s.opens := rfl
@[simp] theorem setOptic_nextId {e : Nat} {x : Optic} : (s.setOptic e x).nextId = s.nextId := rfl
@[simp] theorem setOptic_own {e : Nat} {x : Optic} : (s.setOptic e x).own = s.own := rfl
@[simp] theorem setOptic_nextTxn {e : Nat} {x : Optic} : (s.setOptic e x).nextTxn = s.nextTxn := rfl
@[simp] theorem setOptic_sync {e : Nat} {x : Optic} : (s.setOptic e x).sync = s.sync := rfl
@[simp] theorem setOptic_canopy {e : Nat} {x : Optic} : (s.setOptic e x).canopy = s.canopy := rfl
@[simp] theorem setOptic_integ {e : Nat} {x : Optic} : (s.setOptic e x).integ = s.integ := rfl
@[simp] theorem setOptic_dramCtl {e : Nat} {x : Optic} : (s.setOptic e x).dramCtl = s.dramCtl := rfl
@[simp] theorem setOptic_vault {e : Nat} {x : Optic} : (s.setOptic e x).vault = s.vault := rfl
@[simp] theorem setOptic_installs {e : Nat} {x : Optic} : (s.setOptic e x).installs = s.installs := rfl
@[simp] theorem setOptic_baseCache0 {e : Nat} {x : Optic} : (s.setOptic e x).baseCache0 = s.baseCache0 := rfl
@[simp] theorem setOptic_baseCache1 {e : Nat} {x : Optic} : (s.setOptic e x).baseCache1 = s.baseCache1 := rfl
@[simp] theorem setOptic_cores {e : Nat} {x : Optic} : (s.setOptic e x).cores = s.cores := rfl
@[simp] theorem setOptic_accs {e : Nat} {x : Optic} : (s.setOptic e x).accs = s.accs := rfl
@[simp] theorem setOptic_exacts {e : Nat} {x : Optic} : (s.setOptic e x).exacts = s.exacts := rfl
@[simp] theorem setOptic_silent {e : Nat} {x : Optic} : (s.setOptic e x).silent = s.silent := rfl
@[simp] theorem setOptic_pair {e : Nat} {x : Optic} : (s.setOptic e x).pair = s.pair := rfl
@[simp] theorem setOptic_plans {e : Nat} {x : Optic} : (s.setOptic e x).plans = s.plans := rfl
@[simp] theorem setOptic_stalls {e : Nat} {x : Optic} : (s.setOptic e x).stalls = s.stalls := rfl
@[simp] theorem setOptic_pool {e : Nat} {x : Optic} : (s.setOptic e x).pool = s.pool := rfl
@[simp] theorem setOptic_mint {e : Nat} {x : Optic} : (s.setOptic e x).mint = s.mint := rfl
@[simp] theorem setOptic_tellers {e : Nat} {x : Optic} : (s.setOptic e x).tellers = s.tellers := rfl
@[simp] theorem setOptic_clocks {e : Nat} {x : Optic} : (s.setOptic e x).clocks = s.clocks := rfl
@[simp] theorem setOptic_boot {e : Nat} {x : Optic} : (s.setOptic e x).boot = s.boot := rfl
@[simp] theorem setOptic_mgmt {e : Nat} {x : Optic} : (s.setOptic e x).mgmt = s.mgmt := rfl
@[simp] theorem setOptic_pep {e : Nat} {x : Optic} : (s.setOptic e x).pep = s.pep := rfl
@[simp] theorem setOptic_tap {e : Nat} {x : Optic} : (s.setOptic e x).tap = s.tap := rfl
@[simp] theorem setOptic_irq {e : Nat} {x : Optic} : (s.setOptic e x).irq = s.irq := rfl
@[simp] theorem setOptic_deniedAt {e : Nat} {x : Optic} : (s.setOptic e x).deniedAt = s.deniedAt := rfl
@[simp] theorem setOptic_dieTemp {e : Nat} {x : Optic} : (s.setOptic e x).dieTemp = s.dieTemp := rfl
@[simp] theorem setOptic_railMv {e : Nat} {x : Optic} : (s.setOptic e x).railMv = s.railMv := rfl
@[simp] theorem setOptic_free {e : Nat} {x : Optic} : (s.setOptic e x).free = s.free := rfl
@[simp] theorem setOptic_out {e : Nat} {x : Optic} : (s.setOptic e x).out = s.out := rfl
@[simp] theorem setOptic_pending {e : Nat} {x : Optic} : (s.setOptic e x).pending = s.pending := rfl
@[simp] theorem setOptic_reg {e : Nat} {x : Optic} {off : Nat} : (s.setOptic e x).reg off = s.reg off := rfl
@[simp] theorem setOptic_f {e : Nat} {x : Optic} {y : Fld} : (s.setOptic e x).f y = s.f y := rfl

/-! ### setDma -/

@[simp] theorem setDma_count {c : Nat} {x : DmaChan} : (s.setDma c x).count = s.count := rfl
@[simp] theorem setDma_regs {c : Nat} {x : DmaChan} : (s.setDma c x).regs = s.regs := rfl
@[simp] theorem setDma_dram {c : Nat} {x : DmaChan} : (s.setDma c x).dram = s.dram := rfl
@[simp] theorem setDma_stores {c : Nat} {x : DmaChan} : (s.setDma c x).stores = s.stores := rfl
@[simp] theorem setDma_storePoison {c : Nat} {x : DmaChan} : (s.setDma c x).storePoison = s.storePoison := rfl
@[simp] theorem setDma_storeParity {c : Nat} {x : DmaChan} : (s.setDma c x).storeParity = s.storeParity := rfl
@[simp] theorem setDma_srcRecs {c : Nat} {x : DmaChan} : (s.setDma c x).srcRecs = s.srcRecs := rfl
@[simp] theorem setDma_fences {c : Nat} {x : DmaChan} : (s.setDma c x).fences = s.fences := rfl
@[simp] theorem setDma_epoch {c : Nat} {x : DmaChan} : (s.setDma c x).epoch = s.epoch := rfl
@[simp] theorem setDma_ports {c : Nat} {x : DmaChan} : (s.setDma c x).ports = s.ports := rfl
@[simp] theorem setDma_optics {c : Nat} {x : DmaChan} : (s.setDma c x).optics = s.optics := rfl
@[simp] theorem setDma_tokens {c : Nat} {x : DmaChan} : (s.setDma c x).tokens = s.tokens := rfl
@[simp] theorem setDma_opens {c : Nat} {x : DmaChan} : (s.setDma c x).opens = s.opens := rfl
@[simp] theorem setDma_nextId {c : Nat} {x : DmaChan} : (s.setDma c x).nextId = s.nextId := rfl
@[simp] theorem setDma_own {c : Nat} {x : DmaChan} : (s.setDma c x).own = s.own := rfl
@[simp] theorem setDma_nextTxn {c : Nat} {x : DmaChan} : (s.setDma c x).nextTxn = s.nextTxn := rfl
@[simp] theorem setDma_sync {c : Nat} {x : DmaChan} : (s.setDma c x).sync = s.sync := rfl
@[simp] theorem setDma_canopy {c : Nat} {x : DmaChan} : (s.setDma c x).canopy = s.canopy := rfl
@[simp] theorem setDma_integ {c : Nat} {x : DmaChan} : (s.setDma c x).integ = s.integ := rfl
@[simp] theorem setDma_dramCtl {c : Nat} {x : DmaChan} : (s.setDma c x).dramCtl = s.dramCtl := rfl
@[simp] theorem setDma_vault {c : Nat} {x : DmaChan} : (s.setDma c x).vault = s.vault := rfl
@[simp] theorem setDma_installs {c : Nat} {x : DmaChan} : (s.setDma c x).installs = s.installs := rfl
@[simp] theorem setDma_baseCache0 {c : Nat} {x : DmaChan} : (s.setDma c x).baseCache0 = s.baseCache0 := rfl
@[simp] theorem setDma_baseCache1 {c : Nat} {x : DmaChan} : (s.setDma c x).baseCache1 = s.baseCache1 := rfl
@[simp] theorem setDma_cores {c : Nat} {x : DmaChan} : (s.setDma c x).cores = s.cores := rfl
@[simp] theorem setDma_accs {c : Nat} {x : DmaChan} : (s.setDma c x).accs = s.accs := rfl
@[simp] theorem setDma_exacts {c : Nat} {x : DmaChan} : (s.setDma c x).exacts = s.exacts := rfl
@[simp] theorem setDma_silent {c : Nat} {x : DmaChan} : (s.setDma c x).silent = s.silent := rfl
@[simp] theorem setDma_pair {c : Nat} {x : DmaChan} : (s.setDma c x).pair = s.pair := rfl
@[simp] theorem setDma_plans {c : Nat} {x : DmaChan} : (s.setDma c x).plans = s.plans := rfl
@[simp] theorem setDma_stalls {c : Nat} {x : DmaChan} : (s.setDma c x).stalls = s.stalls := rfl
@[simp] theorem setDma_pool {c : Nat} {x : DmaChan} : (s.setDma c x).pool = s.pool := rfl
@[simp] theorem setDma_mint {c : Nat} {x : DmaChan} : (s.setDma c x).mint = s.mint := rfl
@[simp] theorem setDma_tellers {c : Nat} {x : DmaChan} : (s.setDma c x).tellers = s.tellers := rfl
@[simp] theorem setDma_clocks {c : Nat} {x : DmaChan} : (s.setDma c x).clocks = s.clocks := rfl
@[simp] theorem setDma_boot {c : Nat} {x : DmaChan} : (s.setDma c x).boot = s.boot := rfl
@[simp] theorem setDma_mgmt {c : Nat} {x : DmaChan} : (s.setDma c x).mgmt = s.mgmt := rfl
@[simp] theorem setDma_tap {c : Nat} {x : DmaChan} : (s.setDma c x).tap = s.tap := rfl
@[simp] theorem setDma_irq {c : Nat} {x : DmaChan} : (s.setDma c x).irq = s.irq := rfl
@[simp] theorem setDma_deniedAt {c : Nat} {x : DmaChan} : (s.setDma c x).deniedAt = s.deniedAt := rfl
@[simp] theorem setDma_dieTemp {c : Nat} {x : DmaChan} : (s.setDma c x).dieTemp = s.dieTemp := rfl
@[simp] theorem setDma_railMv {c : Nat} {x : DmaChan} : (s.setDma c x).railMv = s.railMv := rfl
@[simp] theorem setDma_free {c : Nat} {x : DmaChan} : (s.setDma c x).free = s.free := rfl
@[simp] theorem setDma_out {c : Nat} {x : DmaChan} : (s.setDma c x).out = s.out := rfl
@[simp] theorem setDma_pending {c : Nat} {x : DmaChan} : (s.setDma c x).pending = s.pending := rfl
@[simp] theorem setDma_reg {c : Nat} {x : DmaChan} {off : Nat} : (s.setDma c x).reg off = s.reg off := rfl
@[simp] theorem setDma_f {c : Nat} {x : DmaChan} {y : Fld} : (s.setDma c x).f y = s.f y := rfl

/-! ### setSel -/

@[simp] theorem setSel_count {n v : Nat} : (s.setSel n v).count = s.count := rfl
@[simp] theorem setSel_regs {n v : Nat} : (s.setSel n v).regs = s.regs := rfl
@[simp] theorem setSel_dram {n v : Nat} : (s.setSel n v).dram = s.dram := rfl
@[simp] theorem setSel_stores {n v : Nat} : (s.setSel n v).stores = s.stores := rfl
@[simp] theorem setSel_storePoison {n v : Nat} : (s.setSel n v).storePoison = s.storePoison := rfl
@[simp] theorem setSel_storeParity {n v : Nat} : (s.setSel n v).storeParity = s.storeParity := rfl
@[simp] theorem setSel_srcRecs {n v : Nat} : (s.setSel n v).srcRecs = s.srcRecs := rfl
@[simp] theorem setSel_fences {n v : Nat} : (s.setSel n v).fences = s.fences := rfl
@[simp] theorem setSel_epoch {n v : Nat} : (s.setSel n v).epoch = s.epoch := rfl
@[simp] theorem setSel_ports {n v : Nat} : (s.setSel n v).ports = s.ports := rfl
@[simp] theorem setSel_optics {n v : Nat} : (s.setSel n v).optics = s.optics := rfl
@[simp] theorem setSel_tokens {n v : Nat} : (s.setSel n v).tokens = s.tokens := rfl
@[simp] theorem setSel_opens {n v : Nat} : (s.setSel n v).opens = s.opens := rfl
@[simp] theorem setSel_nextId {n v : Nat} : (s.setSel n v).nextId = s.nextId := rfl
@[simp] theorem setSel_own {n v : Nat} : (s.setSel n v).own = s.own := rfl
@[simp] theorem setSel_nextTxn {n v : Nat} : (s.setSel n v).nextTxn = s.nextTxn := rfl
@[simp] theorem setSel_sync {n v : Nat} : (s.setSel n v).sync = s.sync := rfl
@[simp] theorem setSel_canopy {n v : Nat} : (s.setSel n v).canopy = s.canopy := rfl
@[simp] theorem setSel_integ {n v : Nat} : (s.setSel n v).integ = s.integ := rfl
@[simp] theorem setSel_dramCtl {n v : Nat} : (s.setSel n v).dramCtl = s.dramCtl := rfl
@[simp] theorem setSel_vault {n v : Nat} : (s.setSel n v).vault = s.vault := rfl
@[simp] theorem setSel_installs {n v : Nat} : (s.setSel n v).installs = s.installs := rfl
@[simp] theorem setSel_baseCache0 {n v : Nat} : (s.setSel n v).baseCache0 = s.baseCache0 := rfl
@[simp] theorem setSel_baseCache1 {n v : Nat} : (s.setSel n v).baseCache1 = s.baseCache1 := rfl
@[simp] theorem setSel_cores {n v : Nat} : (s.setSel n v).cores = s.cores := rfl
@[simp] theorem setSel_accs {n v : Nat} : (s.setSel n v).accs = s.accs := rfl
@[simp] theorem setSel_exacts {n v : Nat} : (s.setSel n v).exacts = s.exacts := rfl
@[simp] theorem setSel_pair {n v : Nat} : (s.setSel n v).pair = s.pair := rfl
@[simp] theorem setSel_plans {n v : Nat} : (s.setSel n v).plans = s.plans := rfl
@[simp] theorem setSel_stalls {n v : Nat} : (s.setSel n v).stalls = s.stalls := rfl
@[simp] theorem setSel_pool {n v : Nat} : (s.setSel n v).pool = s.pool := rfl
@[simp] theorem setSel_mint {n v : Nat} : (s.setSel n v).mint = s.mint := rfl
@[simp] theorem setSel_tellers {n v : Nat} : (s.setSel n v).tellers = s.tellers := rfl
@[simp] theorem setSel_clocks {n v : Nat} : (s.setSel n v).clocks = s.clocks := rfl
@[simp] theorem setSel_boot {n v : Nat} : (s.setSel n v).boot = s.boot := rfl
@[simp] theorem setSel_mgmt {n v : Nat} : (s.setSel n v).mgmt = s.mgmt := rfl
@[simp] theorem setSel_pep {n v : Nat} : (s.setSel n v).pep = s.pep := rfl
@[simp] theorem setSel_tap {n v : Nat} : (s.setSel n v).tap = s.tap := rfl
@[simp] theorem setSel_irq {n v : Nat} : (s.setSel n v).irq = s.irq := rfl
@[simp] theorem setSel_deniedAt {n v : Nat} : (s.setSel n v).deniedAt = s.deniedAt := rfl
@[simp] theorem setSel_dieTemp {n v : Nat} : (s.setSel n v).dieTemp = s.dieTemp := rfl
@[simp] theorem setSel_railMv {n v : Nat} : (s.setSel n v).railMv = s.railMv := rfl
@[simp] theorem setSel_free {n v : Nat} : (s.setSel n v).free = s.free := rfl
@[simp] theorem setSel_out {n v : Nat} : (s.setSel n v).out = s.out := rfl
@[simp] theorem setSel_pending {n v : Nat} : (s.setSel n v).pending = s.pending := rfl
@[simp] theorem setSel_reg {n v : Nat} {off : Nat} : (s.setSel n v).reg off = s.reg off := rfl
@[simp] theorem setSel_f {n v : Nat} {y : Fld} : (s.setSel n v).f y = s.f y := rfl

/-! ### setSh -/

@[simp] theorem setSh_count {n v : Nat} : (s.setSh n v).count = s.count := rfl
@[simp] theorem setSh_regs {n v : Nat} : (s.setSh n v).regs = s.regs := rfl
@[simp] theorem setSh_dram {n v : Nat} : (s.setSh n v).dram = s.dram := rfl
@[simp] theorem setSh_stores {n v : Nat} : (s.setSh n v).stores = s.stores := rfl
@[simp] theorem setSh_storePoison {n v : Nat} : (s.setSh n v).storePoison = s.storePoison := rfl
@[simp] theorem setSh_storeParity {n v : Nat} : (s.setSh n v).storeParity = s.storeParity := rfl
@[simp] theorem setSh_srcRecs {n v : Nat} : (s.setSh n v).srcRecs = s.srcRecs := rfl
@[simp] theorem setSh_fences {n v : Nat} : (s.setSh n v).fences = s.fences := rfl
@[simp] theorem setSh_epoch {n v : Nat} : (s.setSh n v).epoch = s.epoch := rfl
@[simp] theorem setSh_ports {n v : Nat} : (s.setSh n v).ports = s.ports := rfl
@[simp] theorem setSh_optics {n v : Nat} : (s.setSh n v).optics = s.optics := rfl
@[simp] theorem setSh_tokens {n v : Nat} : (s.setSh n v).tokens = s.tokens := rfl
@[simp] theorem setSh_opens {n v : Nat} : (s.setSh n v).opens = s.opens := rfl
@[simp] theorem setSh_nextId {n v : Nat} : (s.setSh n v).nextId = s.nextId := rfl
@[simp] theorem setSh_own {n v : Nat} : (s.setSh n v).own = s.own := rfl
@[simp] theorem setSh_nextTxn {n v : Nat} : (s.setSh n v).nextTxn = s.nextTxn := rfl
@[simp] theorem setSh_sync {n v : Nat} : (s.setSh n v).sync = s.sync := rfl
@[simp] theorem setSh_canopy {n v : Nat} : (s.setSh n v).canopy = s.canopy := rfl
@[simp] theorem setSh_integ {n v : Nat} : (s.setSh n v).integ = s.integ := rfl
@[simp] theorem setSh_dramCtl {n v : Nat} : (s.setSh n v).dramCtl = s.dramCtl := rfl
@[simp] theorem setSh_vault {n v : Nat} : (s.setSh n v).vault = s.vault := rfl
@[simp] theorem setSh_installs {n v : Nat} : (s.setSh n v).installs = s.installs := rfl
@[simp] theorem setSh_baseCache0 {n v : Nat} : (s.setSh n v).baseCache0 = s.baseCache0 := rfl
@[simp] theorem setSh_baseCache1 {n v : Nat} : (s.setSh n v).baseCache1 = s.baseCache1 := rfl
@[simp] theorem setSh_cores {n v : Nat} : (s.setSh n v).cores = s.cores := rfl
@[simp] theorem setSh_accs {n v : Nat} : (s.setSh n v).accs = s.accs := rfl
@[simp] theorem setSh_exacts {n v : Nat} : (s.setSh n v).exacts = s.exacts := rfl
@[simp] theorem setSh_pair {n v : Nat} : (s.setSh n v).pair = s.pair := rfl
@[simp] theorem setSh_plans {n v : Nat} : (s.setSh n v).plans = s.plans := rfl
@[simp] theorem setSh_stalls {n v : Nat} : (s.setSh n v).stalls = s.stalls := rfl
@[simp] theorem setSh_pool {n v : Nat} : (s.setSh n v).pool = s.pool := rfl
@[simp] theorem setSh_mint {n v : Nat} : (s.setSh n v).mint = s.mint := rfl
@[simp] theorem setSh_tellers {n v : Nat} : (s.setSh n v).tellers = s.tellers := rfl
@[simp] theorem setSh_clocks {n v : Nat} : (s.setSh n v).clocks = s.clocks := rfl
@[simp] theorem setSh_boot {n v : Nat} : (s.setSh n v).boot = s.boot := rfl
@[simp] theorem setSh_mgmt {n v : Nat} : (s.setSh n v).mgmt = s.mgmt := rfl
@[simp] theorem setSh_pep {n v : Nat} : (s.setSh n v).pep = s.pep := rfl
@[simp] theorem setSh_tap {n v : Nat} : (s.setSh n v).tap = s.tap := rfl
@[simp] theorem setSh_irq {n v : Nat} : (s.setSh n v).irq = s.irq := rfl
@[simp] theorem setSh_deniedAt {n v : Nat} : (s.setSh n v).deniedAt = s.deniedAt := rfl
@[simp] theorem setSh_dieTemp {n v : Nat} : (s.setSh n v).dieTemp = s.dieTemp := rfl
@[simp] theorem setSh_railMv {n v : Nat} : (s.setSh n v).railMv = s.railMv := rfl
@[simp] theorem setSh_free {n v : Nat} : (s.setSh n v).free = s.free := rfl
@[simp] theorem setSh_out {n v : Nat} : (s.setSh n v).out = s.out := rfl
@[simp] theorem setSh_pending {n v : Nat} : (s.setSh n v).pending = s.pending := rfl
@[simp] theorem setSh_reg {n v : Nat} {off : Nat} : (s.setSh n v).reg off = s.reg off := rfl
@[simp] theorem setSh_f {n v : Nat} {y : Fld} : (s.setSh n v).f y = s.f y := rfl

/-! ### setEpoch -/

@[simp] theorem setEpoch_count {e : Epoch} : (s.setEpoch e).count = s.count := rfl
@[simp] theorem setEpoch_regs {e : Epoch} : (s.setEpoch e).regs = s.regs := rfl
@[simp] theorem setEpoch_dram {e : Epoch} : (s.setEpoch e).dram = s.dram := rfl
@[simp] theorem setEpoch_stores {e : Epoch} : (s.setEpoch e).stores = s.stores := rfl
@[simp] theorem setEpoch_storePoison {e : Epoch} : (s.setEpoch e).storePoison = s.storePoison := rfl
@[simp] theorem setEpoch_storeParity {e : Epoch} : (s.setEpoch e).storeParity = s.storeParity := rfl
@[simp] theorem setEpoch_srcRecs {e : Epoch} : (s.setEpoch e).srcRecs = s.srcRecs := rfl
@[simp] theorem setEpoch_fences {e : Epoch} : (s.setEpoch e).fences = s.fences := rfl
@[simp] theorem setEpoch_ports {e : Epoch} : (s.setEpoch e).ports = s.ports := rfl
@[simp] theorem setEpoch_optics {e : Epoch} : (s.setEpoch e).optics = s.optics := rfl
@[simp] theorem setEpoch_tokens {e : Epoch} : (s.setEpoch e).tokens = s.tokens := rfl
@[simp] theorem setEpoch_opens {e : Epoch} : (s.setEpoch e).opens = s.opens := rfl
@[simp] theorem setEpoch_nextId {e : Epoch} : (s.setEpoch e).nextId = s.nextId := rfl
@[simp] theorem setEpoch_own {e : Epoch} : (s.setEpoch e).own = s.own := rfl
@[simp] theorem setEpoch_nextTxn {e : Epoch} : (s.setEpoch e).nextTxn = s.nextTxn := rfl
@[simp] theorem setEpoch_sync {e : Epoch} : (s.setEpoch e).sync = s.sync := rfl
@[simp] theorem setEpoch_canopy {e : Epoch} : (s.setEpoch e).canopy = s.canopy := rfl
@[simp] theorem setEpoch_integ {e : Epoch} : (s.setEpoch e).integ = s.integ := rfl
@[simp] theorem setEpoch_dramCtl {e : Epoch} : (s.setEpoch e).dramCtl = s.dramCtl := rfl
@[simp] theorem setEpoch_vault {e : Epoch} : (s.setEpoch e).vault = s.vault := rfl
@[simp] theorem setEpoch_installs {e : Epoch} : (s.setEpoch e).installs = s.installs := rfl
@[simp] theorem setEpoch_baseCache0 {e : Epoch} : (s.setEpoch e).baseCache0 = s.baseCache0 := rfl
@[simp] theorem setEpoch_baseCache1 {e : Epoch} : (s.setEpoch e).baseCache1 = s.baseCache1 := rfl
@[simp] theorem setEpoch_cores {e : Epoch} : (s.setEpoch e).cores = s.cores := rfl
@[simp] theorem setEpoch_accs {e : Epoch} : (s.setEpoch e).accs = s.accs := rfl
@[simp] theorem setEpoch_exacts {e : Epoch} : (s.setEpoch e).exacts = s.exacts := rfl
@[simp] theorem setEpoch_silent {e : Epoch} : (s.setEpoch e).silent = s.silent := rfl
@[simp] theorem setEpoch_pair {e : Epoch} : (s.setEpoch e).pair = s.pair := rfl
@[simp] theorem setEpoch_plans {e : Epoch} : (s.setEpoch e).plans = s.plans := rfl
@[simp] theorem setEpoch_stalls {e : Epoch} : (s.setEpoch e).stalls = s.stalls := rfl
@[simp] theorem setEpoch_pool {e : Epoch} : (s.setEpoch e).pool = s.pool := rfl
@[simp] theorem setEpoch_mint {e : Epoch} : (s.setEpoch e).mint = s.mint := rfl
@[simp] theorem setEpoch_tellers {e : Epoch} : (s.setEpoch e).tellers = s.tellers := rfl
@[simp] theorem setEpoch_clocks {e : Epoch} : (s.setEpoch e).clocks = s.clocks := rfl
@[simp] theorem setEpoch_boot {e : Epoch} : (s.setEpoch e).boot = s.boot := rfl
@[simp] theorem setEpoch_mgmt {e : Epoch} : (s.setEpoch e).mgmt = s.mgmt := rfl
@[simp] theorem setEpoch_pep {e : Epoch} : (s.setEpoch e).pep = s.pep := rfl
@[simp] theorem setEpoch_tap {e : Epoch} : (s.setEpoch e).tap = s.tap := rfl
@[simp] theorem setEpoch_irq {e : Epoch} : (s.setEpoch e).irq = s.irq := rfl
@[simp] theorem setEpoch_deniedAt {e : Epoch} : (s.setEpoch e).deniedAt = s.deniedAt := rfl
@[simp] theorem setEpoch_dieTemp {e : Epoch} : (s.setEpoch e).dieTemp = s.dieTemp := rfl
@[simp] theorem setEpoch_railMv {e : Epoch} : (s.setEpoch e).railMv = s.railMv := rfl
@[simp] theorem setEpoch_free {e : Epoch} : (s.setEpoch e).free = s.free := rfl
@[simp] theorem setEpoch_out {e : Epoch} : (s.setEpoch e).out = s.out := rfl
@[simp] theorem setEpoch_pending {e : Epoch} : (s.setEpoch e).pending = s.pending := rfl
@[simp] theorem setEpoch_reg {e : Epoch} {off : Nat} : (s.setEpoch e).reg off = s.reg off := rfl
@[simp] theorem setEpoch_f {e : Epoch} {y : Fld} : (s.setEpoch e).f y = s.f y := rfl

/-! ### setMgmt -/

@[simp] theorem setMgmt_count {m : Mgmt} : (s.setMgmt m).count = s.count := rfl
@[simp] theorem setMgmt_regs {m : Mgmt} : (s.setMgmt m).regs = s.regs := rfl
@[simp] theorem setMgmt_dram {m : Mgmt} : (s.setMgmt m).dram = s.dram := rfl
@[simp] theorem setMgmt_stores {m : Mgmt} : (s.setMgmt m).stores = s.stores := rfl
@[simp] theorem setMgmt_storePoison {m : Mgmt} : (s.setMgmt m).storePoison = s.storePoison := rfl
@[simp] theorem setMgmt_storeParity {m : Mgmt} : (s.setMgmt m).storeParity = s.storeParity := rfl
@[simp] theorem setMgmt_srcRecs {m : Mgmt} : (s.setMgmt m).srcRecs = s.srcRecs := rfl
@[simp] theorem setMgmt_fences {m : Mgmt} : (s.setMgmt m).fences = s.fences := rfl
@[simp] theorem setMgmt_epoch {m : Mgmt} : (s.setMgmt m).epoch = s.epoch := rfl
@[simp] theorem setMgmt_ports {m : Mgmt} : (s.setMgmt m).ports = s.ports := rfl
@[simp] theorem setMgmt_optics {m : Mgmt} : (s.setMgmt m).optics = s.optics := rfl
@[simp] theorem setMgmt_tokens {m : Mgmt} : (s.setMgmt m).tokens = s.tokens := rfl
@[simp] theorem setMgmt_opens {m : Mgmt} : (s.setMgmt m).opens = s.opens := rfl
@[simp] theorem setMgmt_nextId {m : Mgmt} : (s.setMgmt m).nextId = s.nextId := rfl
@[simp] theorem setMgmt_own {m : Mgmt} : (s.setMgmt m).own = s.own := rfl
@[simp] theorem setMgmt_nextTxn {m : Mgmt} : (s.setMgmt m).nextTxn = s.nextTxn := rfl
@[simp] theorem setMgmt_sync {m : Mgmt} : (s.setMgmt m).sync = s.sync := rfl
@[simp] theorem setMgmt_canopy {m : Mgmt} : (s.setMgmt m).canopy = s.canopy := rfl
@[simp] theorem setMgmt_integ {m : Mgmt} : (s.setMgmt m).integ = s.integ := rfl
@[simp] theorem setMgmt_dramCtl {m : Mgmt} : (s.setMgmt m).dramCtl = s.dramCtl := rfl
@[simp] theorem setMgmt_vault {m : Mgmt} : (s.setMgmt m).vault = s.vault := rfl
@[simp] theorem setMgmt_installs {m : Mgmt} : (s.setMgmt m).installs = s.installs := rfl
@[simp] theorem setMgmt_baseCache0 {m : Mgmt} : (s.setMgmt m).baseCache0 = s.baseCache0 := rfl
@[simp] theorem setMgmt_baseCache1 {m : Mgmt} : (s.setMgmt m).baseCache1 = s.baseCache1 := rfl
@[simp] theorem setMgmt_cores {m : Mgmt} : (s.setMgmt m).cores = s.cores := rfl
@[simp] theorem setMgmt_accs {m : Mgmt} : (s.setMgmt m).accs = s.accs := rfl
@[simp] theorem setMgmt_exacts {m : Mgmt} : (s.setMgmt m).exacts = s.exacts := rfl
@[simp] theorem setMgmt_silent {m : Mgmt} : (s.setMgmt m).silent = s.silent := rfl
@[simp] theorem setMgmt_pair {m : Mgmt} : (s.setMgmt m).pair = s.pair := rfl
@[simp] theorem setMgmt_plans {m : Mgmt} : (s.setMgmt m).plans = s.plans := rfl
@[simp] theorem setMgmt_stalls {m : Mgmt} : (s.setMgmt m).stalls = s.stalls := rfl
@[simp] theorem setMgmt_pool {m : Mgmt} : (s.setMgmt m).pool = s.pool := rfl
@[simp] theorem setMgmt_mint {m : Mgmt} : (s.setMgmt m).mint = s.mint := rfl
@[simp] theorem setMgmt_tellers {m : Mgmt} : (s.setMgmt m).tellers = s.tellers := rfl
@[simp] theorem setMgmt_clocks {m : Mgmt} : (s.setMgmt m).clocks = s.clocks := rfl
@[simp] theorem setMgmt_boot {m : Mgmt} : (s.setMgmt m).boot = s.boot := rfl
@[simp] theorem setMgmt_pep {m : Mgmt} : (s.setMgmt m).pep = s.pep := rfl
@[simp] theorem setMgmt_tap {m : Mgmt} : (s.setMgmt m).tap = s.tap := rfl
@[simp] theorem setMgmt_irq {m : Mgmt} : (s.setMgmt m).irq = s.irq := rfl
@[simp] theorem setMgmt_deniedAt {m : Mgmt} : (s.setMgmt m).deniedAt = s.deniedAt := rfl
@[simp] theorem setMgmt_dieTemp {m : Mgmt} : (s.setMgmt m).dieTemp = s.dieTemp := rfl
@[simp] theorem setMgmt_railMv {m : Mgmt} : (s.setMgmt m).railMv = s.railMv := rfl
@[simp] theorem setMgmt_free {m : Mgmt} : (s.setMgmt m).free = s.free := rfl
@[simp] theorem setMgmt_out {m : Mgmt} : (s.setMgmt m).out = s.out := rfl
@[simp] theorem setMgmt_pending {m : Mgmt} : (s.setMgmt m).pending = s.pending := rfl
@[simp] theorem setMgmt_reg {m : Mgmt} {off : Nat} : (s.setMgmt m).reg off = s.reg off := rfl
@[simp] theorem setMgmt_f {m : Mgmt} {y : Fld} : (s.setMgmt m).f y = s.f y := rfl

/-! ### setPair -/

@[simp] theorem setPair_count {p : Pair} : (s.setPair p).count = s.count := rfl
@[simp] theorem setPair_regs {p : Pair} : (s.setPair p).regs = s.regs := rfl
@[simp] theorem setPair_dram {p : Pair} : (s.setPair p).dram = s.dram := rfl
@[simp] theorem setPair_stores {p : Pair} : (s.setPair p).stores = s.stores := rfl
@[simp] theorem setPair_storePoison {p : Pair} : (s.setPair p).storePoison = s.storePoison := rfl
@[simp] theorem setPair_storeParity {p : Pair} : (s.setPair p).storeParity = s.storeParity := rfl
@[simp] theorem setPair_srcRecs {p : Pair} : (s.setPair p).srcRecs = s.srcRecs := rfl
@[simp] theorem setPair_fences {p : Pair} : (s.setPair p).fences = s.fences := rfl
@[simp] theorem setPair_epoch {p : Pair} : (s.setPair p).epoch = s.epoch := rfl
@[simp] theorem setPair_ports {p : Pair} : (s.setPair p).ports = s.ports := rfl
@[simp] theorem setPair_optics {p : Pair} : (s.setPair p).optics = s.optics := rfl
@[simp] theorem setPair_tokens {p : Pair} : (s.setPair p).tokens = s.tokens := rfl
@[simp] theorem setPair_opens {p : Pair} : (s.setPair p).opens = s.opens := rfl
@[simp] theorem setPair_nextId {p : Pair} : (s.setPair p).nextId = s.nextId := rfl
@[simp] theorem setPair_own {p : Pair} : (s.setPair p).own = s.own := rfl
@[simp] theorem setPair_nextTxn {p : Pair} : (s.setPair p).nextTxn = s.nextTxn := rfl
@[simp] theorem setPair_sync {p : Pair} : (s.setPair p).sync = s.sync := rfl
@[simp] theorem setPair_canopy {p : Pair} : (s.setPair p).canopy = s.canopy := rfl
@[simp] theorem setPair_integ {p : Pair} : (s.setPair p).integ = s.integ := rfl
@[simp] theorem setPair_dramCtl {p : Pair} : (s.setPair p).dramCtl = s.dramCtl := rfl
@[simp] theorem setPair_vault {p : Pair} : (s.setPair p).vault = s.vault := rfl
@[simp] theorem setPair_installs {p : Pair} : (s.setPair p).installs = s.installs := rfl
@[simp] theorem setPair_baseCache0 {p : Pair} : (s.setPair p).baseCache0 = s.baseCache0 := rfl
@[simp] theorem setPair_baseCache1 {p : Pair} : (s.setPair p).baseCache1 = s.baseCache1 := rfl
@[simp] theorem setPair_cores {p : Pair} : (s.setPair p).cores = s.cores := rfl
@[simp] theorem setPair_accs {p : Pair} : (s.setPair p).accs = s.accs := rfl
@[simp] theorem setPair_exacts {p : Pair} : (s.setPair p).exacts = s.exacts := rfl
@[simp] theorem setPair_silent {p : Pair} : (s.setPair p).silent = s.silent := rfl
@[simp] theorem setPair_plans {p : Pair} : (s.setPair p).plans = s.plans := rfl
@[simp] theorem setPair_stalls {p : Pair} : (s.setPair p).stalls = s.stalls := rfl
@[simp] theorem setPair_pool {p : Pair} : (s.setPair p).pool = s.pool := rfl
@[simp] theorem setPair_mint {p : Pair} : (s.setPair p).mint = s.mint := rfl
@[simp] theorem setPair_tellers {p : Pair} : (s.setPair p).tellers = s.tellers := rfl
@[simp] theorem setPair_clocks {p : Pair} : (s.setPair p).clocks = s.clocks := rfl
@[simp] theorem setPair_boot {p : Pair} : (s.setPair p).boot = s.boot := rfl
@[simp] theorem setPair_mgmt {p : Pair} : (s.setPair p).mgmt = s.mgmt := rfl
@[simp] theorem setPair_pep {p : Pair} : (s.setPair p).pep = s.pep := rfl
@[simp] theorem setPair_tap {p : Pair} : (s.setPair p).tap = s.tap := rfl
@[simp] theorem setPair_irq {p : Pair} : (s.setPair p).irq = s.irq := rfl
@[simp] theorem setPair_deniedAt {p : Pair} : (s.setPair p).deniedAt = s.deniedAt := rfl
@[simp] theorem setPair_dieTemp {p : Pair} : (s.setPair p).dieTemp = s.dieTemp := rfl
@[simp] theorem setPair_railMv {p : Pair} : (s.setPair p).railMv = s.railMv := rfl
@[simp] theorem setPair_free {p : Pair} : (s.setPair p).free = s.free := rfl
@[simp] theorem setPair_out {p : Pair} : (s.setPair p).out = s.out := rfl
@[simp] theorem setPair_pending {p : Pair} : (s.setPair p).pending = s.pending := rfl
@[simp] theorem setPair_reg {p : Pair} {off : Nat} : (s.setPair p).reg off = s.reg off := rfl
@[simp] theorem setPair_f {p : Pair} {y : Fld} : (s.setPair p).f y = s.f y := rfl

/-! ### setBoot -/

@[simp] theorem setBoot_count {b : Boot} : (s.setBoot b).count = s.count := rfl
@[simp] theorem setBoot_regs {b : Boot} : (s.setBoot b).regs = s.regs := rfl
@[simp] theorem setBoot_dram {b : Boot} : (s.setBoot b).dram = s.dram := rfl
@[simp] theorem setBoot_stores {b : Boot} : (s.setBoot b).stores = s.stores := rfl
@[simp] theorem setBoot_storePoison {b : Boot} : (s.setBoot b).storePoison = s.storePoison := rfl
@[simp] theorem setBoot_storeParity {b : Boot} : (s.setBoot b).storeParity = s.storeParity := rfl
@[simp] theorem setBoot_srcRecs {b : Boot} : (s.setBoot b).srcRecs = s.srcRecs := rfl
@[simp] theorem setBoot_fences {b : Boot} : (s.setBoot b).fences = s.fences := rfl
@[simp] theorem setBoot_epoch {b : Boot} : (s.setBoot b).epoch = s.epoch := rfl
@[simp] theorem setBoot_ports {b : Boot} : (s.setBoot b).ports = s.ports := rfl
@[simp] theorem setBoot_optics {b : Boot} : (s.setBoot b).optics = s.optics := rfl
@[simp] theorem setBoot_tokens {b : Boot} : (s.setBoot b).tokens = s.tokens := rfl
@[simp] theorem setBoot_opens {b : Boot} : (s.setBoot b).opens = s.opens := rfl
@[simp] theorem setBoot_nextId {b : Boot} : (s.setBoot b).nextId = s.nextId := rfl
@[simp] theorem setBoot_own {b : Boot} : (s.setBoot b).own = s.own := rfl
@[simp] theorem setBoot_nextTxn {b : Boot} : (s.setBoot b).nextTxn = s.nextTxn := rfl
@[simp] theorem setBoot_sync {b : Boot} : (s.setBoot b).sync = s.sync := rfl
@[simp] theorem setBoot_canopy {b : Boot} : (s.setBoot b).canopy = s.canopy := rfl
@[simp] theorem setBoot_integ {b : Boot} : (s.setBoot b).integ = s.integ := rfl
@[simp] theorem setBoot_dramCtl {b : Boot} : (s.setBoot b).dramCtl = s.dramCtl := rfl
@[simp] theorem setBoot_vault {b : Boot} : (s.setBoot b).vault = s.vault := rfl
@[simp] theorem setBoot_installs {b : Boot} : (s.setBoot b).installs = s.installs := rfl
@[simp] theorem setBoot_baseCache0 {b : Boot} : (s.setBoot b).baseCache0 = s.baseCache0 := rfl
@[simp] theorem setBoot_baseCache1 {b : Boot} : (s.setBoot b).baseCache1 = s.baseCache1 := rfl
@[simp] theorem setBoot_cores {b : Boot} : (s.setBoot b).cores = s.cores := rfl
@[simp] theorem setBoot_accs {b : Boot} : (s.setBoot b).accs = s.accs := rfl
@[simp] theorem setBoot_exacts {b : Boot} : (s.setBoot b).exacts = s.exacts := rfl
@[simp] theorem setBoot_silent {b : Boot} : (s.setBoot b).silent = s.silent := rfl
@[simp] theorem setBoot_pair {b : Boot} : (s.setBoot b).pair = s.pair := rfl
@[simp] theorem setBoot_plans {b : Boot} : (s.setBoot b).plans = s.plans := rfl
@[simp] theorem setBoot_stalls {b : Boot} : (s.setBoot b).stalls = s.stalls := rfl
@[simp] theorem setBoot_pool {b : Boot} : (s.setBoot b).pool = s.pool := rfl
@[simp] theorem setBoot_mint {b : Boot} : (s.setBoot b).mint = s.mint := rfl
@[simp] theorem setBoot_tellers {b : Boot} : (s.setBoot b).tellers = s.tellers := rfl
@[simp] theorem setBoot_clocks {b : Boot} : (s.setBoot b).clocks = s.clocks := rfl
@[simp] theorem setBoot_mgmt {b : Boot} : (s.setBoot b).mgmt = s.mgmt := rfl
@[simp] theorem setBoot_pep {b : Boot} : (s.setBoot b).pep = s.pep := rfl
@[simp] theorem setBoot_tap {b : Boot} : (s.setBoot b).tap = s.tap := rfl
@[simp] theorem setBoot_irq {b : Boot} : (s.setBoot b).irq = s.irq := rfl
@[simp] theorem setBoot_deniedAt {b : Boot} : (s.setBoot b).deniedAt = s.deniedAt := rfl
@[simp] theorem setBoot_dieTemp {b : Boot} : (s.setBoot b).dieTemp = s.dieTemp := rfl
@[simp] theorem setBoot_railMv {b : Boot} : (s.setBoot b).railMv = s.railMv := rfl
@[simp] theorem setBoot_free {b : Boot} : (s.setBoot b).free = s.free := rfl
@[simp] theorem setBoot_out {b : Boot} : (s.setBoot b).out = s.out := rfl
@[simp] theorem setBoot_pending {b : Boot} : (s.setBoot b).pending = s.pending := rfl
@[simp] theorem setBoot_reg {b : Boot} {off : Nat} : (s.setBoot b).reg off = s.reg off := rfl
@[simp] theorem setBoot_f {b : Boot} {y : Fld} : (s.setBoot b).f y = s.f y := rfl

/-! ### What an update itself shows -/

@[simp] theorem setMgmt_self {m : Mgmt} : (s.setMgmt m).mgmt = m := rfl
@[simp] theorem setPair_self {p : Pair} : (s.setPair p).pair = p := rfl
@[simp] theorem setBoot_self {b : Boot} : (s.setBoot b).boot = b := rfl
@[simp] theorem setEpoch_self {e : Epoch} : (s.setEpoch e).epoch = e := rfl
@[simp] theorem emit_out {o : Out} : (s.emit o).out = s.out ++ [o] := rfl
@[simp] theorem bump_free : s.bump.free = s.free + 1 := rfl
@[simp] theorem raiseIrq_irq {v : Nat} : (s.raiseIrq v).irq = insertNat v s.irq := rfl

end Sys2Proof.Machine
end

