-- ==== Sys2Proof/WellFormed.lean ====
section
/-! DEFINITION. Well-formed commands: the operands have the lengths and ranges of the message, memory format or event that
the row names. A term that is not well-formed spells nothing that reaches the device. -/

namespace Sys2Proof

open Sys2Proof.Machine

/-- The 128-byte parts of n bytes that a list names lie inside them. -/
def partsWithin (l : List Nat) (n : Nat) : Bool := l.all (fun g => decide (128 * g < n))

/-- The kernels that a fault cuts are those of different cores. -/
def cutsDistinct : List KernelCut → Bool
  | [] => true
  | c :: t => t.all (fun d => d.core != c.core) && cutsDistinct t

/-- A link request: at most 4,096 bytes of plain data or a stored tile (R223, R231). -/
def reqLength (q : Req) : Bool := decide (q.len ≤ 4096) && decide (q.data.length ≤ 4224)

/-- A request that carries no data (R223). -/
def reqEmpty (q : Req) : Bool := decide (q.len ≤ 4096) && q.data.isEmpty

/-- The operands of a K-block: at most two tiles for the 128 rows of A (R145), and at most eight for the 512 columns of B. -/
def blockShape (a b : OperandAt) : Bool := decide (a.tiles.length ≤ 2) && decide (b.tiles.length ≤ 8)

/-- A configuration access: one, two or four bytes inside an aligned double word. -/
def cfgShape : CfgAccess → Bool
  | .write off bs => (bs.length == 1 || bs.length == 2 || bs.length == 4) && decide (off.val % 4 + bs.length ≤ 4)
  | _ => true

/-- Whether a command's operands have the shape that its row's message or event has. -/
def Instr.wellFormed : Instr → Bool
  | .clusterFault _ _ cuts => cutsDistinct cuts
  | .dieFault _ cuts => cutsDistinct cuts
  | .bridgeFailure cuts => cutsDistinct cuts
  | .blkRstTimeout cuts => cutsDistinct cuts
  | .imageLoadEnd img bad _ => partsWithin bad img.length
  | .jxRd q _ => reqEmpty q
  | .jxWr q _ => reqLength q
  | .jxFlush q => q.data.isEmpty
  | .creq write q => if write then reqLength q else reqEmpty q
  | .poolDoor _ q => q.data.length == 64
  | .flitRx _ lanes => lanes.length == 8
  | .trainingBlockRx _ _ block => block.length == 128
  | .responseRx _ _ _ _ _ _ data => decide (data.length ≤ 4096)
  | .completionRx _ _ _ _ _ _ data => decide (data.length ≤ 4096)
  | .trainVerify _ failed => decide (failed.length ≤ 8)
  | .poolOpEnd _ partner => match partner with | some d => d.length == 32 | none => true
  | .guaranteeWindow l => l.all (fun e => decide (e.1 < 34) && decide (e.2 < 64))
  | .storeRefetch _ reply _ => match reply with | some r => r.1.length == 4096 && partsWithin r.2 4096 | none => true
  | .dramRepair _ _ reply _ => match reply with | some d => d.length == 128 | none => true
  | .kBlockEnd _ _ _ a b _ _ _ _ _ => blockShape a b
  | .mirrorWriteRx _ _ _ data mask _ _ => decide (0 < data.length) && decide (data.length ≤ 4096) && partsWithin mask data.length
  | .replicatedOpRx _ _ desc => desc.length == 64
  | .resyncPiece piece => match piece with | some (_, _, _, data, mask) => decide (data.length ≤ 4096) && partsWithin mask data.length | none => true
  | .hostRead _ _ len _ _ _ => decide (0 < len.val)
  | .hostWrite _ _ data _ _ _ => decide (0 < data.length) && decide (data.length ≤ 4096)
  | .cxlMemWrite _ _ data _ _ => data.length == 64
  | .configAccess x => cfgShape x
  | .dmaToPool _ desc data _ _ => desc.length == 32 && decide (data.length ≤ 2 ^ 26)
  | .dmaToHost _ desc _ => desc.length == 32
  | .startupStepLimit units _ => units.all (fun u => decide (u < 136))
  | .i3cIndexWrite _ data => decide (data.length ≤ 256)
  | .expFwd _ plans _ => plans.all (fun p => decide (p.1 < 16))
  | .expBwd _ plans _ => plans.all (fun p => decide (p.1 < 16))
  | .expClose _ plans _ => plans.all (fun p => decide (p.1 < 16))
  | .registerWrite .. | .operandParity .. | .seqFault .. | .coreWake .. | .coreReady .. | .coreGate .. | .sitLoad ..
  | .epochGo .. | .epochAbandon .. | .epochLaunch .. | .epochAck .. | .epochRefusal .. | .epochCommit ..
  | .epochTimeout .. | .oldSetRelease .. | .canopyWb .. | .canopyInv .. | .canopyDrainSet .. | .canopyDrainClear ..
  | .canopyWbDone .. | .canopyDrained .. | .decayBoundary .. | .writeExpandDone .. | .corePlanStart ..
  | .streamStepIssue .. | .fetchDone .. | .stallTimeout .. | .mintJobFetch .. | .mintCompress .. | .mintEncode ..
  | .mintBuild .. | .mintDecode .. | .mintRelease .. | .mintPass1End .. | .mintJobEnd .. | .slotLock ..
  | .slotUnlock .. | .slotRetire .. | .slotActivate .. | .slotInstall .. | .slotClear .. | .slotCmdReserved ..
  | .slotInstallDone .. | .drainSetEmpty .. | .descFetch .. | .kernelStart .. | .kernelEnd .. | .eventSet ..
  | .eventAdd .. | .eventDec .. | .barrierArrive .. | .slotRelease .. | .expGroupCombine .. | .badFlit ..
  | .linkInit .. | .replayRx .. | .initTimer .. | .replayTimer .. | .ackTimer .. | .creditTimer .. | .retrain ..
  | .deferDecision .. | .deferComplete .. | .ownReqTimeout .. | .ownDeferTimeout .. | .syncRequest .. | .syncReply ..
  | .syncInterval .. | .syncSlew .. | .trainLaser .. | .trainSignal .. | .trainEqualise .. | .trainMap ..
  | .trainWidth .. | .trainStepLimit .. | .trainAttemptTimeout .. | .trainRetry .. | .laserPoll ..
  | .laserPresentChange .. | .laserReset .. | .optLaserEnable .. | .refreshTick .. | .rowHammerTrigger ..
  | .rfmCommand .. | .thermalLevelChange .. | .periodicUpdate .. | .dramChannelFenced .. | .vaultReadDone ..
  | .vaultWriteDone .. | .vaultMapFlush .. | .vaultPatrol .. | .garbageCollection .. | .staticLevelling ..
  | .vaultProgram .. | .ckptArm .. | .ckptMark .. | .ckptClear .. | .poolHostGo .. | .fill .. | .copy .. | .cmp ..
  | .reduceSum .. | .reduceAccumulate .. | .reduceReadout .. | .vopen .. | .vclose .. | .vdraft ..
  | .vdraftCopyDone .. | .vpublish .. | .vrelease .. | .poolVerReset .. | .grant .. | .extentRevoke ..
  | .revokeDrainTimeout .. | .extentFree .. | .limiterRefill .. | .tellerRefill .. | .scaleUpdate .. | .stepInc ..
  | .seedLock .. | .accSave .. | .accRestore .. | .accClear .. | .detSlotRestore .. | .clockRepin ..
  | .ceTableClear .. | .ledgerHeadWrite .. | .mergeWindowClose .. | .scrubRead .. | .clrLate .. | .passNow ..
  | .flipArm .. | .shadowTaken .. | .shadowWaitTimeout .. | .enginePassEnd .. | .diagArm .. | .suspectFree ..
  | .shelfLoad .. | .shelfLoadDone .. | .testRequest .. | .testAbort .. | .testStart .. | .testDeferred ..
  | .testEnd .. | .mirrorAckRx .. | .checkValueRx .. | .cmpWaitTimeout .. | .heartbeatSend .. | .heartbeatRx ..
  | .pairLoss .. | .arbTimeout .. | .pairSolo .. | .pairDetach .. | .pairRejoin .. | .resetPartner ..
  | .formationRx .. | .formationRetry .. | .mmEntryFree .. | .hostReadDone .. | .pepCplLimit .. | .winCommit ..
  | .winCommitDone .. | .cxlMemRead .. | .hdmCommit .. | .mailboxCommand .. | .dmaDescEnd .. | .bmeClear ..
  | .dmaReenable .. | .endpointReset .. | .msixSend .. | .l1Entry .. | .l0pNarrow .. | .l0pWiden .. | .d3hotEntry ..
  | .powerOn .. | .perstAssert .. | .perstDeassert .. | .hrstAssert .. | .hrstDeassert .. | .dieThermalTrip ..
  | .thermalHoldEnd .. | .partnerResetRx .. | .softwareReset .. | .selfRefreshReady .. | .keepFailed ..
  | .blockReset .. | .blockResetIdle .. | .startupStepDone .. | .powerRegulate .. | .watchdogExpire .. | .wdogKick ..
  | .fuseRevoke .. | .fuseRaiseMin .. | .fuseConfirmTimeout .. | .norUpdate .. | .norUpdateDone .. | .sessionOpen ..
  | .sessionClose .. | .imgServeEnd .. | .imgPage .. | .imgWinRead .. | .attest .. | .attestDone .. | .i3cRead ..
  | .i3cRecovery .. | .i3cCcc .. | .endpointLinkUp .. | .l1Exit .. | .dmaCompletionTimeout .. | .boundaryScan .. => true

/-- Well-formed commands. -/
def WellFormed (c : Instr) : Prop := c.wellFormed = true

end Sys2Proof
end

