-- ==== Sys2Proof/Tests/Slice0.lean ====
section
/-! SUPPORT. Tests: an ill-formed term for each check of WellFormed, values that the spec prints, and small states that meet
the hypotheses of the statements. -/

namespace Sys2Proof.Tests

set_option Elab.async false

open Sys2Proof Sys2Proof.Machine

/-! ## WellFormed refuses an ill-formed term for each of its checks -/

/-- A read of 64 bytes from node 0x10 at port 0. -/
def req0 : Req :=
  { port := 0, src := 0x10, dst := 1, tag := 5, txn := 7, relaxed := false, ordered := false, pass := false, epv := false,
    epn := 0, addr := 0, len := 64, data := [] }

/-- The same request with a length that no request has. -/
def reqLong : Req := { req0 with len := 4097 }

/-- Two cuts of one core. -/
def cutTwice : List KernelCut := [{ core := 3, touched := [] }, { core := 3, touched := [] }]

theorem test_illformed_cluster_fault : (Instr.clusterFault 0 .check cutTwice).wellFormed = false := rfl
theorem test_illformed_die_fault : (Instr.dieFault 0 cutTwice).wellFormed = false := rfl
theorem test_illformed_bridge_failure : (Instr.bridgeFailure cutTwice).wellFormed = false := rfl
theorem test_illformed_blk_rst_timeout : (Instr.blkRstTimeout cutTwice).wellFormed = false := rfl
theorem test_illformed_image_load_end : (Instr.imageLoadEnd [] [0] {}).wellFormed = false := rfl
theorem test_illformed_jx_rd : (Instr.jxRd reqLong {}).wellFormed = false := rfl
theorem test_illformed_jx_rd_data : (Instr.jxRd { req0 with data := [1] } {}).wellFormed = false := rfl
theorem test_illformed_jx_wr : (Instr.jxWr reqLong {}).wellFormed = false := rfl
theorem test_illformed_jx_flush : (Instr.jxFlush { req0 with data := [1] }).wellFormed = false := rfl
theorem test_illformed_creq_write : (Instr.creq true reqLong).wellFormed = false := rfl
theorem test_illformed_creq_read : (Instr.creq false { req0 with data := [1] }).wellFormed = false := rfl
theorem test_illformed_pool_door : (Instr.poolDoor true req0).wellFormed = false := rfl
theorem test_illformed_flit : (Instr.flitRx 0 []).wellFormed = false := rfl
theorem test_illformed_training_block : (Instr.trainingBlockRx 0 0 [1]).wellFormed = false := rfl
theorem test_illformed_response : (Instr.responseRx 0 0 0 0 0 0 (List.replicate 4097 0)).wellFormed = false := by decide +kernel
theorem test_illformed_completion : (Instr.completionRx 0 0 0 0 0 0 (List.replicate 4097 0)).wellFormed = false := by decide +kernel
theorem test_illformed_train_verify : (Instr.trainVerify 0 [0, 0, 0, 0, 0, 0, 0, 0, 0]).wellFormed = false := rfl
theorem test_illformed_pool_op_end : (Instr.poolOpEnd 0 (some [])).wellFormed = false := rfl
theorem test_illformed_guarantee_window : (Instr.guaranteeWindow [(34, 0)]).wellFormed = false := rfl
theorem test_illformed_store_refetch : (Instr.storeRefetch 0 (some ([], [])) {}).wellFormed = false := rfl
theorem test_illformed_dram_repair : (Instr.dramRepair 0 false (some []) {}).wellFormed = false := rfl
theorem test_illformed_k_block_end :
    (Instr.kBlockEnd { core := 0, touched := [] } 0 0 { tiles := List.replicate 3 ⟨0, none⟩ } { tiles := [] } [] none [] [] none).wellFormed = false := rfl
theorem test_illformed_mirror_write : (Instr.mirrorWriteRx none 0 0 [] [] 0 false).wellFormed = false := rfl
theorem test_illformed_replicated_op : (Instr.replicatedOpRx none 0 []).wellFormed = false := rfl
theorem test_illformed_resync_piece : (Instr.resyncPiece (some (none, 0, 0, [], [0]))).wellFormed = false := rfl
theorem test_illformed_host_read : (Instr.hostRead .bar0 0 0 0 0 {}).wellFormed = false := rfl
theorem test_illformed_host_write : (Instr.hostWrite .bar0 0 [] false false {}).wellFormed = false := rfl
theorem test_illformed_cxl_write : (Instr.cxlMemWrite 0 0 [] false {}).wellFormed = false := rfl
theorem test_illformed_config_access : (Instr.configAccess (.write 3 [1, 2])).wellFormed = false := rfl
theorem test_illformed_dma_to_pool : (Instr.dmaToPool 0 [] [] none {}).wellFormed = false := rfl
theorem test_illformed_dma_to_host : (Instr.dmaToHost 0 [] {}).wellFormed = false := rfl
theorem test_illformed_step_limit : (Instr.startupStepLimit [136] {}).wellFormed = false := rfl
theorem test_illformed_i3c_index : (Instr.i3cIndexWrite 0 (List.replicate 257 0)).wellFormed = false := by decide +kernel
theorem test_illformed_exp_fwd : (Instr.expFwd 0 [(16, 0)] {}).wellFormed = false := rfl
theorem test_illformed_exp_bwd : (Instr.expBwd 0 [(16, 0)] {}).wellFormed = false := rfl
theorem test_illformed_exp_close : (Instr.expClose 0 [(16, 0)] {}).wellFormed = false := rfl
theorem test_wellformed_jx_rd : (Instr.jxRd req0 {}).wellFormed = true := rfl

/-! ## Values that the spec prints -/

/-- The nine ASCII bytes of R103 and R219. -/
def nine : Bytes := [0x31, 0x32, 0x33, 0x34, 0x35, 0x36, 0x37, 0x38, 0x39]

/-- R103. -/
theorem test_crc32c : crc32c nine = 0xE3069283 := by decide +kernel
/-- R219. -/
theorem test_crc32 : crc32 nine = 0xCBF43926 := by decide +kernel

/-- The header of chapter 4's example: H0 and the low bits of D. -/
def exampleHeader : TileHeader := parseHeader (leBytes 4 0 ++ leBytes 8 0x10000034805848A1 ++ leBytes 20 0x4530464)

/-- Chapter 4's example: the fields of H0. -/
theorem test_header_fields : exampleHeader.codec = 1 ∧ exampleHeader.width = 0 ∧ exampleHeader.grains = 5 ∧
    exampleHeader.slot = 9 ∧ exampleHeader.gen = 0x2C ∧ exampleHeader.baseRef = 0x1A40 ∧ exampleHeader.lenBase = 16 := by decide +kernel

/-- Chapter 4's example: the first six lengths. -/
theorem test_header_lengths : (List.range 6).map exampleHeader.len = [20, 19, 17, 22, 21, 18] := by decide +kernel

/-- The lengths of chapter 4's plane table by symbol. -/
def exampleLens : List Nat := [1, 3, 4] ++ List.replicate 251 0 ++ [4, 3]

/-- Chapter 4's example: the canonical codes. -/
theorem test_canonical_codes : canonicalCodes exampleLens = [⟨1, 0, 0⟩, ⟨3, 4, 1⟩, ⟨3, 5, 255⟩, ⟨4, 12, 2⟩, ⟨4, 13, 254⟩] := by
  decide +kernel

/-- The sub-stream of chapter 4's example. -/
def exampleStream : Bytes := [0x8D, 0xB8] ++ List.replicate 16 0

/-- Chapter 4's example: the 128 symbols of sub-stream 5. -/
theorem test_substream_5 : decodeSyms [canonicalCodes exampleLens] (symPlanes 1) (bitStream exampleStream) =
    some ([1, 0, 0xFE, 0xFF, 2] ++ List.replicate 123 0) := by decide +kernel

/-- Chapter 4's example: one declared byte more leaves 14 bits, an overrun. -/
theorem test_substream_overrun : decodeSyms [canonicalCodes exampleLens] (symPlanes 1) (bitStream (exampleStream ++ [0])) = none := by
  decide +kernel

/-- Chapter 4's example: one declared byte less runs out of bits. -/
theorem test_substream_underrun : decodeSyms [canonicalCodes exampleLens] (symPlanes 1) (bitStream (exampleStream.take 17)) = none := by
  decide +kernel

/-- Chapter 6's example: 7.671875 = 491 / 64 to E4M3 under RNE and RZ is 7.5, and under SR with r = 45,508 it is 8.0. -/
theorem test_e4m3_rounding : (convert .e4m3 .rne true (.fin false 491 (-6))).1 = 0x4F ∧
    (convert .e4m3 .rz true (.fin false 491 (-6))).1 = 0x4F ∧ (convert .e4m3 (.sr 45508) true (.fin false 491 (-6))).1 = 0x50 := by
  decide +kernel

/-- Chapter 6's example: any r below 43,008 gives 7.5. -/
theorem test_e4m3_stochastic_bound : (convert .e4m3 (.sr 43007) true (.fin false 491 (-6))).1 = 0x4F ∧
    (convert .e4m3 (.sr 43008) true (.fin false 491 (-6))).1 = 0x50 := by decide +kernel

/-- Chapter 11's example with every channel enabled: o in cluster 1 lies on channel 13, raw byte 3,460,480, check bytes at
3,461,928. -/
theorem test_understory_place :
    ((State.reset.setReg R.UND_EN_LO (BitVec.ofNat 64 (2 ^ 64 - 1))).setReg R.UND_EN_HI (BitVec.ofNat 64 (2 ^ 32 - 1))).undLoc 1 39082624 =
      some ⟨512 + 13, 3460480, 3461928⟩ := by decide +kernel

/-- Table 1-8: IDREV after reset. -/
theorem test_idrev : State.reset.reg 0 = 0x916044A0 := by decide +kernel

/-! ## Single steps -/

/-- On an empty queue the counter advances by 1 (log entry 3). -/
theorem test_tick : step State.reset = .next State.reset.tick ∧ State.reset.tick.count = 1 := ⟨rfl, by decide +kernel⟩

/-- R39: the counter starts at 0. -/
theorem test_count_after_reset : State.reset.count = 0 := rfl

/-- R181: ADD adds modulo 2³². -/
theorem test_event_add_wraps : ∃ t, exec (.eventAdd 7 2) (State.reset.setReg (R.SLOT_EVENT 7) 0xFFFFFFFF) = .next t ∧
    t.event 7 = 1 := ⟨_, rfl, by decide +kernel⟩

/-- R185: a FREE slot answers SLOT_FREE, 0x8. -/
theorem test_release_free_slot : ∃ t, exec (.slotRelease 5 0) State.reset = .next t ∧ t.f F.SLOT_RELEASE_RESULT_RESULT = stSlotFree :=
  ⟨_, rfl, by decide +kernel⟩

/-- R481: only 0xA5C3 restarts the watchdog. -/
theorem test_wrong_kick : exec (.wdogKick 0xA5C2) State.reset = .next State.reset := rfl

/-- R503: TRST_N low resets the test port. -/
theorem test_tap_reset : ∃ t, exec (.boundaryScan .reset) { State.reset with tap := ⟨4, [true]⟩ } = .next t ∧ t.tap = {} := ⟨_, rfl, rfl⟩

/-! ## Small states that meet the hypotheses of the statements -/

/-- The state after reset with some fields set. -/
def withFields (l : List (Fld × Nat)) : State := l.foldl (fun s x => s.setF x.1 x.2) State.reset

/-- A device in service. -/
def served : State := withFields [(F.AO_BOOT_STATE, 2)]

theorem test_reset_canonical : State.reset.canonical := by intro p; cases p <;> decide +kernel

theorem test_served_canonical : served.canonical ∧ served.inService = true ∧ served.opens = [] :=
  ⟨by intro p; cases p <;> decide +kernel, by decide +kernel, by decide +kernel⟩

/-- A kernel that runs, of a descriptor. -/
def runs (uid : Nat) (desc : Bytes) : Running :=
  { uid := uid, desc := desc, addr := 0, producer := none, startedAt := 0, armed := false, late := false, epoch := 0, seedLo := 0, seedHi := 0,
    step := 0, cx := false, cxBroken := false, exp := none }

/-- A queue with a command in front. -/
theorem witness_front : ({ State.reset with pending := [.passNow] } : State).pending = Instr.passNow :: [] := rfl

/-- A step from a canonical state, with no command that rewinds the counter in front. -/
theorem witness_step : State.reset.canonical ∧ StepsTo State.reset State.reset.tick ∧ ∀ c, State.reset.pending.head? = some c → rewinds c = false :=
  ⟨test_reset_canonical, rfl, by intro c h; cases h⟩

/-- A fence in force and a command that begins no reset. -/
theorem witness_fence : FenceUnit.core 3 ∈ ({ State.reset with fences := [.core 3] } : State).fences ∧ mayUnfence .passNow = false := by
  decide +kernel

/-- A field. -/
theorem witness_field : F.AO_BOOT_STATE.lo ≤ F.AO_BOOT_STATE.hi ∧ F.AO_BOOT_STATE.hi < 64 := by decide +kernel

/-- A barrier of two, with none and with one arrived; a slot that is READY. -/
theorem witness_barrier :
    let s := withFields [(F.SLOT_BARRIER_COUNT 3, 2)]
    let t := s.setF (F.SLOT_BARRIER_ARRIVED 3) 1
    let u := State.reset.setReg (R.SLOT_STATUS 9 0) (BitVec.ofNat 64 (2 ^ 34 + 77))
    0 < s.f (F.SLOT_BARRIER_COUNT 3) ∧ s.f (F.SLOT_BARRIER_ARRIVED 3) + 1 < s.f (F.SLOT_BARRIER_COUNT 3) ∧
      t.f (F.SLOT_BARRIER_ARRIVED 3) + 1 = t.f (F.SLOT_BARRIER_COUNT 3) ∧ u.slotState 9 = 2 ∧ u.slotSeq 9 = 77 := by decide +kernel

/-- Table slots in each state, with valid staged tables, an install and a drain set of one ended job. -/
theorem witness_slots :
    let s := withFields [(F.MNT_SLOT_INFO_STATE 1, slotActive), (F.MNT_SLOT_INFO_STATE 2, slotDraining), (F.MNT_SLOT_INFO_STATE 3, slotRetired)]
    let t : State := { (State.reset.setReg (R.MNT_STAGE_TAB 0) 1) with
      installs := [⟨4, 1, 1, false, none, [], 0⟩], mint := { drainSets := [(2, [99])] } }
    s.slotSt 0 = slotFree ∧ s.slotSt 1 = slotActive ∧ s.slotSt 2 = slotDraining ∧ s.slotSt 3 = slotRetired ∧ s.overwritable 1 = true ∧
      s.overwritable 2 = false ∧ t.installable 5 = true ∧ tablesValid 1 t.stagedTables = true ∧
      (t.installs.find? (fun y => y.slot == 4)).isSome = true ∧ t.mint.drainSets.find? (fun d => d.1 == 2) = some (2, [99]) ∧
      99 ∉ t.liveKernels ∧ 99 ∉ t.mint.jobs.map MintJob.id := by decide +kernel

/-- Canopy commands under way and a decay boundary that has come. -/
theorem witness_canopy :
    let s : State := { withFields [(F.CAN_CTRL_INV 2, 1), (F.CAN_CTRL_DRAIN 2, 1)] with count := 1000000000 }
    s.f (F.CAN_CTRL_INV 2) = 1 ∧ s.f (F.CAN_CTRL_DRAIN 2) = 1 ∧ 0 < s.decayNs ∧
      (s.canopy.decayAt / s.decayNs + 1) * s.decayNs ≤ s.count := by decide +kernel

/-- Units that are fenced and units that are not. -/
theorem witness_faults :
    let s : State := { State.reset with fences := [.core 3] }
    s.engineFenced 4 = false ∧ s.coreFenced 4 = false ∧ s.clusterFenced 0 = false ∧ s.dieFenced 1 = false ∧ s.engineFenced 3 = true ∧
      s.coreFenced 3 = true := by decide +kernel

/-- Cores in each power state, and a device queue with one entry. -/
theorem witness_cores :
    let s : State := { State.reset with count := 300, cores := [(1, { power := .clockGated }), (2, { power := .powerGated }),
      (3, { power := .waking 200 }), (4, { dq := [⟨5, List.replicate 44 0 ++ [255, 255, 255, 255] ++ List.replicate 16 0, .expert 0⟩] })] }
    (s.core 1).power = .clockGated ∧ (s.core 2).power = .powerGated ∧ (s.core 3).power = .waking 200 ∧ 200 ≤ s.count ∧
      s.coreFenced 4 = false ∧ s.testing 4 = false ∧ s.coreStopped 4 = false ∧ (s.core 4).dqHead = none ∧ (s.core 4).dq.length = 1 := by
  decide +kernel

/-- A plan that a cluster has room for, and one whose first step is ready. -/
theorem witness_plans : State.reset.planRoom 3 = true ∧ State.reset.clusterFenced 3 = false := by decide +kernel

/-- An OPEN suspect entry, and cores outside its engines' clusters. -/
theorem witness_diagnosis :
    let s := withFields [(F.TST_SUSPECT_STATE 2, 1), (F.TST_SUSPECT_ENGINE_A 2, 4), (F.TST_SUSPECT_ENGINE_B 2, 6), (F.TST_SUSPECT_KIND 2, 1)]
    s.f (F.TST_SUSPECT_STATE 2) = 1 ∧ s.coreFenced 4 = false ∧ s.coreFenced 9 = false ∧ clusterOfCore 9 ≠ clusterOfCore (s.f (F.TST_SUSPECT_ENGINE_A 2)) ∧
      clusterOfCore 9 ≠ clusterOfCore (s.f (F.TST_SUSPECT_ENGINE_B 2)) := by decide +kernel

/-- A held set for a field test, a test that is PENDING past its deadline on an idle core, and one that runs. -/
theorem witness_field_tests :
    let x : FieldTest := ⟨5, 0, 0, 0, 0, [], 0⟩
    let s : State := { withFields [(F.TST_SET_INFO_STATE 1, 1), (F.TST_CORE_STS_STATE 5, 1)] with count := 10 ^ 15, silent := { tests := [x] } }
    let t : State := { withFields [(F.TST_CORE_STS_STATE 5, 2)] with silent := { tests := [x] } }
    s.testOf 6 = none ∧ s.coreFenced 6 = false ∧ s.f (F.TST_SET_INFO_STATE 1) = 1 ∧ s.testOf 5 = some x ∧ s.testing 5 = false ∧
      s.f (F.CORE_Q_HEAD_INDEX 5) = x.stop ∧ (s.core 5).running = none ∧ (s.core 5).sw = none ∧ (s.core 5).depth = 0 ∧ s.shadowing 5 = none ∧
      s.f (F.TST_CORE_STS_DEFERRED 5) = 0 ∧ x.goAt + 1000000 * s.f F.TST_CFG_DEADLINE_MS ≤ s.count ∧ t.testOf 5 = some x ∧ t.testing 5 = true := by
  decide +kernel

/-- A control access of eight bytes to a seed that is not locked. -/
def seedReq : Req := { req0 with addr := poolAddr 8 (R.DET_SEED_LO 5), len := 8, data := leBytes 8 0x1234 }

/-- A device in service with port 0 ACTIVE. -/
def linked : State := withFields [(F.AO_BOOT_STATE, 2), (F.JX_PORT_STS_STATE 0, 3)]

theorem witness_control :
    linked.inService = true ∧ linked.f (F.DET_TAG_CTL_LOCK 5) = 0 ∧ linked.portActive 0 = true ∧ linked.opens = [] ∧
      ((linked.unstage .creqWrite seedReq).acceptCheck .creqWrite seedReq).2 = none ∧
      ((linked.unstage .creqRead { seedReq with data := [] }).acceptCheck .creqRead { seedReq with data := [] }).2 = none := by decide +kernel

/-- The counter's read as a control request. -/
theorem witness_counter_read :
    ((linked.unstage .creqRead { req0 with addr := poolAddr 8 R.GLB_COUNT, len := 8 }).acceptCheck .creqRead
      { req0 with addr := poolAddr 8 R.GLB_COUNT, len := 8 }).2 = none := by decide +kernel

/-- A load that may start, one that is refused, and one of the host under way whose bytes fail. -/
theorem witness_load :
    let s : State := { served with epoch := { load := some ⟨srcHost, 0, 4096, false⟩ } }
    served.epoch.load = none ∧ served.changing = false ∧ s.epoch.load = some ⟨srcHost, 0, 4096, false⟩ ∧
      (match s.checkImage [] [] 4096 0 false with | .error _ => true | .ok _ => false) = true := by decide +kernel

/-- A change in each of its states. -/
theorem witness_epoch :
    let s : State := (withFields [(F.SIT_STATUS_STATE, sitStaged), (F.SIT_STATUS_STAGED, 1)]).setReg R.SIT_EPOCH_LAUNCH 9000
    let a : State := withFields [(F.SIT_STATUS_STATE, sitArmed), (F.SIT_EPOCH_UNITS_MASK, 2 ^ 16)]
    let c : State := withFields [(F.SIT_STATUS_STATE, sitCollecting), (F.SIT_EPOCH_UNITS_MASK, 2 ^ 16)]
    let m : State := { withFields [(F.SIT_STATUS_STATE, sitCommitting)] with epoch := { pending := some ConfigSet.default } }
    s.f F.SIT_STATUS_STATE = sitStaged ∧ s.f F.SIT_STATUS_STAGED ≠ 0 ∧ s.count + 5000 ≤ (s.reg R.SIT_EPOCH_LAUNCH).toNat ∧
      a.epoch.launch ≤ a.count ∧ a.notDrained a.stagedSet.str = none ∧ a.oversubscribed a.stagedSet.str = none ∧
      a.unfencedUnits (a.f F.SIT_EPOCH_UNITS_MASK) ≠ 0 ∧ c.bit F.SIT_EPOCH_UNITS_MASK 16 = true ∧ c.count ≤ c.epochDeadline ∧
      c.epochDeadline ≤ c.count ∧ m.epoch.pending = some ConfigSet.default ∧ m.epoch.commit ≤ m.count := by decide +kernel

/-- A read and a write of the stores that pass their checks and wait for nothing. -/
theorem witness_jx :
    let q : Req := { req0 with addr := poolAddr 4 0 }
    let w : Req := { q with data := List.replicate 64 7 }
    let v := ((linked.unstage .rd q).acceptCheck .rd q).1.openHeld .rd q .busy
    let x := v.readRange q.addr q.len 1 q.tag
    let y := ((linked.unstage .wr w).acceptCheck .wr w).1.openHeld .wr w .busy
    ((linked.unstage .rd q).acceptCheck .rd q).2 = none ∧ spaceOf q.addr = 4 ∧ v.clusterHeld (ownerOf (pageOf q.addr)) = false ∧
      v.touchesMirror q.addr q.len = false ∧ v.readsByPartner q.addr q.len = false ∧ v.tileOf q.addr = none ∧ x.2.repair = none ∧
      x.2.refetch = none ∧ x.2.poison = [] ∧ x.1.portActive q.port = true ∧
      ((linked.unstage .wr w).acceptCheck .wr w).2 = none ∧ y.touchesRegionArea w.addr w.len = false ∧ y.touchesFencedGrain w.addr w.len = false ∧
      y.grainHeld w.addr w.len = none := by decide +kernel

/-- A FLUSH that passes its checks, and an open FLUSH that may complete and has no token yet. -/
theorem witness_flush :
    let q : Req := { req0 with len := 0 }
    let o : OpenReq := { id := 0, kind := .flush, req := q, wait := .order, token := none, acceptedAt := 0, epoch := 0, revoked := false }
    let s : State := { linked with opens := [o], nextId := 1 }
    ((linked.unstage .flush q).acceptCheck .flush q).2 = none ∧ s.openAt 0 = some o ∧ s.heldBefore o = false ∧
      (s.freeToken (dieOfPort o.req.port)).isSome = true ∧ s.epoch.old = [] := by decide +kernel

/-- A port that is ACTIVE and UP, with a receiver that is NORMAL or has sent a NAK, and one in INIT. -/
theorem witness_link :
    let s := withFields [(F.JX_PORT_STS_STATE 0, 3), (F.OPT_STS_STATE 0, 7), (F.JX_PORT_STS_STATE 1, lkInit)]
    let t : State := { s with count := 10 ^ 9, ports := [(0, { rx := .nakSent })] }
    s.linkState 0 = lkActive ∧ (s.port 0).rx = .normal ∧ s.f (F.OPT_STS_STATE 0) = 7 ∧ s.linkState 1 = lkInit ∧ (s.port 1).kept = false ∧
      (t.port 0).rx = .nakSent ∧ (t.port 0).nakAt + t.f (F.JX_PORT_CFG_REPLAY_NS 0) ≤ t.count ∧ (t.port 0).replay = [] ∧
      (t.port 1).initSentAt + 100 ≤ t.count := by decide +kernel

/-- The device's own read, first and second issue, past its time. -/
theorem witness_own :
    let o : OwnReq := { txn := 7, dst := 0x20, tag := 5, addr := 0, len := 128, sentAt := 0, again := false, token := none, deferAt := 0,
                        purpose := .mirrorRead 3 }
    let s : State := { State.reset with count := 10 ^ 12, own := [o, { o with txn := 8, again := true }, { o with txn := 9, token := some 77 }] }
    s.ownOf 7 = some o ∧ o.token = none ∧ o.sentAt + s.f F.JX_REQ_TIMEOUT_NS ≤ s.count ∧ ((s.ownOf 8).map OwnReq.again) = some true ∧
      ((s.ownOf 9).bind OwnReq.token) = some 77 ∧ o.deferAt + 1000000 * s.f F.JX_REQ_TIMEOUT_DEFER_MS ≤ s.count := by decide +kernel

/-- A follower whose interval has passed, with a correction left. -/
theorem witness_sync :
    let s : State := { withFields [(F.JX_SYNC_CFG_ROLE, 1)] with count := 10 ^ 12, sync := { slew := 32 } }
    s.f F.JX_SYNC_CFG_ROLE = 1 ∧ s.sync.sentAt + 1000 * s.f F.JX_SYNC_CFG_INTERVAL_US ≤ s.count ∧ s.sync.slewAt + 256 ≤ s.count ∧
      16 ≤ s.sync.slew ∧ s.sync.delays = [] := by decide +kernel

/-- Optical ports in steps 2 and 3, waiting after a failure, and with a module present. -/
theorem witness_optics :
    let s : State := { withFields [(F.OPT_STS_STATE 1, 2), (F.OPT_STS_STATE 2, 3), (F.OPT_STS_STATE 3, 8), (F.OPT_LASER_PRESENT 4, 1)] with count := 10 ^ 12 }
    s.trainStep 1 = 2 ∧ 4 ≤ (maskBits 0xFF).length ∧ s.trainStep 2 = 3 ∧ (s.optic 1).stepAt + stepLimit (s.trainStep 1) < s.count ∧
      (s.optic 1).attemptAt + 1000000 * s.f (F.OPT_CFG_TRAIN_TIMEOUT_MS 1) < s.count ∧ s.f (F.OPT_STS_STATE 3) = 8 ∧
      (s.optic 3).waitAt + 1000000 * s.f (F.OPT_CFG_RETRY_MS 3) ≤ s.count ∧ s.f (F.OPT_LASER_PRESENT 4) = 1 := by decide +kernel

/-- A bank whose one entry has reached the threshold, and units that are not fenced. -/
theorem witness_dram :
    let s : State := { State.reset with dramCtl := { acts := [(256 * 600 + 3, [⟨41, 2000⟩])] } }
    s.f F.UND_DCFG_RH_EN = 1 ∧ s.acts 600 3 = [⟨41, 2000⟩] ∧ s.f F.UND_DCFG_RH_THRESHOLD ≤ 2000 ∧ s.dramTrips (dunitAt 7) 100 = false ∧
      s.f (F.UND_STS_STATE 5) ≠ 6 ∧ s.clusterFenced (clusterOfChannel 5) = false := by decide +kernel

/-- A vault read that comes next; a block write that is placed, one whose page waits for its map entry, and one that finds no
place; a page to patrol with a block that needs retry; a used block to collect; and a target whose counts lie far apart. -/
theorem witness_vault :
    let o : OpenReq := { id := 4, kind := .rd, req := { req0 with addr := poolAddr 3 0, len := 4096 }, wait := .vault, token := some 1,
                         acceptedAt := 0, epoch := 0, revoked := false }
    let w : OpenReq := { o with kind := .wr, req := { o.req with data := List.replicate 4096 7 } }
    let g : VTarget := ⟨0, 0, 2 ^ 40, 2 ^ 24⟩
    let x : VPlace := { ch := 0, ce := 0, eb := 9 }
    let y : VPlace := { ch := 0, ce := 0, eb := 5, slot := 0 }
    let s : State := { withFields [(F.VLT_CH_STS_STATE 0, 2)] with
      opens := [o], nextId := 5, vault := { targets := [g], blocks := [(y.key, {}), (x.key, { erases := 3, taken := 1 })] } }
    let u : State := { withFields [(F.VLT_CH_STS_STATE 0, 2)] with
      opens := [w], nextId := 5, vault := { targets := [g] } }
    let v : State := { s with vault := { s.vault with segs := [(0, some ⟨x, 0, false, true⟩)] } }
    s.vaultReq 4 .rd = some o ∧ ((s.servedAs o).readVaultReq o {}).2.2 = [] ∧ s.gcVictim (clusterOfVch 0) = some (placeOfKey x.key) ∧
      ((s.moveSegs x []).segsIn x) = [] ∧ (s.vblock x).retired = false ∧
      (u.vaultReq 4 .wr).isSome = true ∧ ((u.servedAs w).writeVault 0 w.req.data [] [y]).isSome = true ∧
      ((u.servedAs w).writeVault 0 w.req.data [] []).isNone = true ∧
      v.segFenced 0 = false ∧ v.vaultFenced (ownerOf 0) = false ∧ v.vseg 0 = some ⟨x, 0, false, true⟩ := by decide +kernel

/-- Checkpoint ranges that are not valid. -/
theorem witness_checkpoint : State.reset.ckptRangesOk 3 = false := by decide +kernel

/-- A mint job that has ended. -/
theorem witness_mint :
    let j : MintJob := { id := 6, desc := List.replicate 64 0, entry := 0, index := 0, started := true, ended := some (1, 0) }
    let s : State := { State.reset with mint := { jobs := [j] } }
    s.mint.jobs.find? (fun x => x.id == 6) = some j ∧ j.ended = some (1, 0) := by decide +kernel

/-- Operation 2, accepted with a descriptor from node 0x10. -/
def opOf (d : Bytes) : PoolOp :=
  { id := 2, desc := d, src := 0x10, host := false, replicated := false, acceptedAt := 0, epoch := 0, started := false, copying := false,
    result := none, forwarded := false }

/-- A descriptor at the door, the host driver's, and an operation with its result. -/
theorem witness_pool :
    let q : Req := { req0 with addr := poolAddr 8 (R.POOL_DOOR 0), len := 64, data := List.replicate 64 0 }
    let o : PoolOp := { opOf (List.replicate 64 0) with host := true, started := true, result := some ⟨0, 0, 0, 0, 0⟩ }
    let s : State := { served with pool := { ops := [o] } }
    badForm .wr q = false ∧ (served.unstage .wr q).offPair .wr q = false ∧ (served.unstage .wr q).opRevoked q.data q.src = false ∧
      served.f F.POOL_HOST_GO_GO = 0 ∧ (served.setF F.POOL_HOST_GO_GO 1).opRevoked served.hostDesc served.hostNode = false ∧
      s.pool.ops.find? (fun x => x.id == 2 && !x.copying) = some o ∧ s.opMapped o = true ∧ s.mirroring = false ∧ s.pair.out = [] ∧
      s.pair.inbox = [] := by decide +kernel

/-- Extent entries: FREE, ACTIVE, and one whose drain is past its time with nothing open. -/
theorem witness_extents :
    let s : State := { withFields [(F.POOL_EXT_STATE 3, extActive), (F.POOL_EXT_STATE 4, extDraining)] with
      count := 10 ^ 12, pool := { drains := [⟨4, 0, 0, false, 0, 0, 0⟩] } }
    s.f (F.POOL_EXT_STATE 2) = extFree ∧ s.extentOf 1 9 = none ∧ s.f (F.POOL_EXT_STATE 3) = extActive ∧
      s.pool.drains.find? (fun x => x.entry == 4 && !x.timedOut && decide (x.t0 + 1000 * s.f F.POOL_CFG_DRAIN_US ≤ s.count)) =
        some ⟨4, 0, 0, false, 0, 0, 0⟩ := by decide +kernel

/-- Counts at which buckets refill and windows end. -/
theorem witness_windows :
    let s : State := { State.reset with count := 64000 }
    State.reset.refillsDue = 0 ∧ 0 < s.refillsDue ∧ s.count % 1000 = 0 ∧ s.count % 64000 = 0 ∧ s.tellers.refilledAt ≠ s.count + 1 ∧
      ({ s with tellers := { s.tellers with refilledAt := 64001 } } : State).tellers.refilledAt = s.count + 1 ∧
      s.tellers.windowAt ≠ s.count + 1 := by decide +kernel

/-- A quiet core, and a free slot for DET_SLOT_RESTORE. -/
theorem witness_determinism :
    let s : State := { State.reset.setReg (R.MNT_STAGE_TAB 0) 1 with cores := [(2, { running := some (runs 0 []) })] }
    s.coreQuiet 1 = true ∧ s.coreQuiet 2 = false ∧ s.slotSt 8 = slotFree ∧ s.f (F.MNT_SLOT_INFO_LOCK 8) = 0 ∧ s.f (F.MNT_SLOT_INFO_RSV 8) = 0 ∧
      s.f (F.MNT_SLOT_INFO_DAMAGED 8) = 0 ∧ tablesValid 1 s.stagedTables = true ∧ s.oldCx 0 = false := by decide +kernel

/-- A store block with wrong parity and a source, and a clearing engine past its time. -/
theorem witness_integrity :
    let s : State := { withFields [(F.CLR_CFG_EN, 1)] with count := 10 ^ 18, storeParity := [(8192, true)], srcRecs := [(2, some ⟨3, 0, 0, 0⟩)] }
    s.srcRec 2 = some ⟨3, 0, 0, 0⟩ ∧ s.blockBad 2 = true ∧ s.f F.CLR_CFG_EN = 1 ∧ s.clusterFenced 0 = false ∧ s.cxRuns 0 = false ∧
      (s.scrub 0).late = false ∧ (s.scrub 0).startedAt + s.lateNs ≤ s.count := by decide +kernel

/-- A pair in each of the states that the statements name. -/
theorem witness_pair :
    let s (st sr : Nat) : State := { withFields [(F.PAIR_STS_STATE, st), (F.PAIR_STS_SENIOR, sr)] with count := 10 ^ 12 }
    let w : PairWrite := ⟨3, some 5, 0, [1], [], 0, false, none, none, none, false, false⟩
    let t : State := (s psPaired 1).setPair { out := [w] }
    (s psPaired 1).mirroring = true ∧ (s psPaired 1).senior = true ∧ (s psPaired 0).senior = false ∧ (s psHeld 0).pairState = psHeld ∧
      (s psPaired 1).pair.heardAt + 1000 * (s psPaired 1).f F.PAIR_CFG_LOSS_US ≤ (s psPaired 1).count ∧
      (s psHeld 1).pair.heldAt + 1000000 * (s psHeld 1).f F.PAIR_CFG_ARB_MS ≤ (s psHeld 1).count ∧
      (s psForming 0).pairState = psForming ∧ (s psForming 0).pair.formedAt + 10000000 ≤ (s psForming 0).count ∧
      t.pair.out.find? (fun x => x.seq == some 5) = some w ∧ (s psPaired 1).pair.beatAt + 10000 ≤ (s psPaired 1).count ∧
      (s psPaired 1).pair.pieceAt + (s psPaired 1).pieceTime ≤ (s psPaired 1).count := by decide +kernel

/-- A comparison that waits, past its time. -/
theorem witness_compare :
    let r : Running := runs 11 (List.replicate 64 0)
    let c : Compare := ⟨2, 11, 5, 6, 7, 8, 0, ⟨0, 0, 0, 0, 0, 8⟩⟩
    let s : State := { withFields [(F.PAIR_STS_STATE, psPaired)] with count := 10 ^ 12, cores := [(2, { running := some r })], pair := { compares := [c] } }
    s.pair.compares.find? (fun x => x.slot == 5 && x.tensor == 6 && x.step == 7) = some c ∧ s.mmOf c = none ∧ (s.core 2).running = some r ∧
      c.since + 1000 * s.f F.PAIR_CFG_CMP_WAIT_US ≤ s.count ∧ s.pairState = psPaired := by decide +kernel

/-- BARs that answer, a window that misses, and a link that runs CXL without a committed decoder. -/
theorem witness_host :
    let s := withFields [(F.AO_BOOT_STATE, 2), (F.PEP_STS_CXL, 1)]
    s.barsOn = true ∧ barForm .bar4 8 4 = true ∧ barForm .bar2 0 128 = true ∧ s.windowAt 0 128 false = none ∧ s.f F.PEP_STS_CXL = 1 ∧
      s.dpaOf 0 = none := by decide +kernel

/-- A vector that may be sent, a link in each state, and windows that may stand. -/
theorem witness_endpoint :
    let s : State := { withFields [(F.PEP_STS_LSTATE, 2)] with irq := [9], pep := { msixEn := true, msix := [(9, { masked := false })], config := [(4, 4)], aspmL1 := true } }
    9 ∈ s.irq ∧ s.pep.msixEn = true ∧ s.pep.msixMask = false ∧ (s.msixAt 9).masked = false ∧ s.upstream = true ∧
      (List.range 16).all State.reset.windowOk = true ∧ s.f F.PEP_STS_LSTATE = 2 ∧ s.bme = true := by decide +kernel

/-- An enabled DMA channel with a descriptor to take. -/
theorem witness_dma :
    let s : State := { withFields [(F.PEP_DMA_CFG_ENABLE 1, 1), (F.PEP_DMA_TAIL_INDEX 1, 1), (F.PEP_STS_LSTATE, 0)] with pep := { config := [(4, 4)] } }
    s.dma 1 = {} ∧ s.f (F.PEP_DMA_CFG_ENABLE 1) = 1 ∧ s.f (F.PEP_DMA_HEAD_INDEX 1) ≠ s.f (F.PEP_DMA_TAIL_INDEX 1) ∧ s.upstream = true ∧
      ddValid (List.replicate 32 255) = false := by decide +kernel

/-- A device in service before any reset, one in the handshake, and one held. -/
theorem witness_resets :
    let s : State := { withFields [(F.AO_BOOT_STATE, 2), (F.AO_BOOT_STEP_PROGRESS 12, 2), (F.AO_BOOT_DRAM_VALID, 1)] with count := 10 ^ 6 }
    let h : State := { s with boot := { shake := some 0 } }
    let k : State := { withFields [(F.AO_BOOT_STATE, 0)] with boot := { hrst := true } }
    s.f F.AO_BOOT_STATE = 2 ∧ s.boot.shake = none ∧ s.pastStep12 = true ∧ s.f F.AO_BOOT_DRAM_VALID = 1 ∧ s.dramCtl.selfRefresh = false ∧
      h.boot.shake.isSome = true ∧ h.writesOpen 3 = false ∧ h.clusterFenced 3 = false ∧ k.boot.hrst = true ∧ k.f F.AO_BOOT_STATE = 0 := by decide +kernel

/-- Start-up at steps 5 and 24. -/
theorem witness_startup :
    let s := withFields [(F.AO_BOOT_STATE, 1), (F.AO_BOOT_STEP, 5)]
    let t := withFields [(F.AO_BOOT_STATE, 1), (F.AO_BOOT_STEP, 24)]
    s.f F.AO_BOOT_STATE = 1 ∧ s.f F.AO_BOOT_STEP = 5 ∧ s.boot.shake = none ∧ s.boot.fenceFirst = [] ∧ s.f (F.AO_BOOT_STEP_FAILS 5) = 0 ∧
      t.f F.AO_BOOT_STEP = 24 := by decide +kernel

/-- A block reset that may begin, one whose unit is idle, and a measurement with nothing over its limit. -/
theorem witness_blocks :
    let s : State := { served with count := 10000, clocks := { engine0 := 2700, fabric0 := 2400 }, boot := { blk := some ⟨1, 4, 0⟩ } }
    served.boot.blk = none ∧ 4 < blkUnits 1 ∧ served.blkOnFencedDie 1 4 = false ∧ s.boot.blk = some ⟨1, 4, 0⟩ ∧ s.blkIdle 1 4 = true ∧
      (160 : Int) < ((4 * served.f F.AO_THERM_THROTTLE_C : Nat) : Int) ∧ s.boot.regulatedAt + 10000 ≤ s.count ∧ s.boot.lowered = [] ∧
      1350 + 135 ≤ s.clocks.engine0 ∧ s.clocks.engine0 ≤ s.baseClocks.1 + 135 ∧ s.clocks.fabric0 ≤ s.baseClocks.2 ∧
      1200 ≤ s.clocks.fabric0 := by decide +kernel

/-- Firmware that runs past its period, fuse commands that are not refused, and one armed past its time. -/
theorem witness_management :
    let s : State := { withFields [(F.MGT_STS_FW_STATE, 1), (F.MGT_KEY_STS_PROGRAMMED, 3), (F.SIT_IMAGE_ID_SEC_VERSION, 5),
      (F.AO_BOOT_STEP_PROGRESS 11, 2)] with count := 10 ^ 12, mgmt := { fuseArm := some ⟨1, 1, 0⟩ } }
    s.fwRuns = true ∧ s.mgmt.wdogAt + 1000000 * s.f F.MGT_CFG_WDOG_MS ≤ s.count ∧ s.fuseRefused 1 1 = false ∧ s.fuseRefused 2 3 = false ∧
      s.fuseRefused 1 9 = true ∧ s.mgmt.fuseArm = some ⟨1, 1, 0⟩ ∧ 0 + 1000000000 < s.count ∧ s.i3cDriven = true := by decide +kernel

/-- A session of another source, and one past its time. -/
theorem witness_session :
    let s : State := { withFields [(F.MGT_IMG_SESSION_OPEN, 1), (F.MGT_IMG_SESSION_OWNER, 0x20)] with count := 10 ^ 10 }
    s.sessionOpen = true ∧ s.sessionOther 0x10 = true ∧ s.sessionOther 0x20 = false ∧ s.mgmt.sessionAt + 1000000000 ≤ s.count ∧
      State.reset.mgmt.norUpdate = false ∧ State.reset.mgmt.report = none := by decide +kernel

/-- An aligned grain of the stores and one of the understory that has a place. -/
theorem witness_store :
    let a : PA := poolAddr 4 128
    spaceOf a = 4 ∧ offsetOf a + 128 ≤ 2 ^ 52 ∧ a.toNat % 128 = 0 ∧ State.reset.f F.LDG_FLIP_SEL_ARM = 0 := by decide +kernel

/-- A trust entry that a source matches. -/
theorem witness_trust :
    let s := withFields [(F.POOL_TRUST_VALID 3, 1), (F.POOL_TRUST_MASK 3, 0xFFF0), (F.POOL_TRUST_MATCH 3, 0x10), (F.POOL_TRUST_DRAM 3, 1)]
    s.trustMatches 3 0x1F = true ∧ s.trusted 0x1F F.POOL_TRUST_DRAM = true ∧ s.trusted 0x2F F.POOL_TRUST_DRAM = false := by decide +kernel

/-- A kernel whose turn has come: an object without the engine, and a valid descriptor that names no event to wait for. -/
theorem witness_kernel_start :
    let x : Fetched := ⟨3, List.replicate 64 0, 0x40, [], none⟩
    let y : Fetched := { x with bad := [4] }
    let s : State := { withFields [(F.CORE_Q_CFG_ENABLE 2, 1)] with
      cores := [(2, { sw := some x })], epoch := { active := { ConfigSet.default with programs := [⟨1, 4, 0, List.replicate 256 0⟩] } } }
    s.coreFenced 2 = false ∧ (s.core 2).running = none ∧ s.testing 2 = false ∧ s.coreStopped 2 = false ∧ s.shadowing 2 = none ∧
      s.shadowOf 2 = none ∧ s.turn 2 = some (false, x) ∧ x.isShadow = false ∧ s.awake 2 = true ∧ s.usesEngine 2 x.desc = false ∧
      s.diagFor 2 x = none ∧ s.cxCore 2 = false ∧ s.kCheck 2 x {} = none ∧ y.bad ≠ [] ∧ y.producer = none := by decide +kernel

/-- A kernel that runs and ends, with its outputs written. -/
theorem witness_kernel_end :
    let r : Running := runs 3 (List.replicate 64 0)
    let s : State := { State.reset with cores := [(2, { running := some r })] }
    s.epoch.old = [] ∧ (s.core 2).running = some r ∧ expertIds.contains (kdKernel r.desc) = false ∧ s.stallOf 2 = none ∧ s.coreFenced 2 = false ∧ s.comparing 2 r = false ∧
      ((s.setBypass r.cx).kernelOutputs 2 r {}).1.pairState ≠ psPaired ∧ ((s.setBypass r.cx).kernelOutputs 2 r {}).2.isSome = true := by
  decide +kernel

/-- A plan of one SIGNAL step that is ready. -/
theorem witness_plan_step :
    let bs : Bytes := [1] ++ List.replicate 31 0 ++ [3, 0, 7, 0, 0xFF, 0xFF] ++ List.replicate 26 0
    let p : Plan := ⟨9, 1, 2, bs, 0, [], [], [], 0⟩
    let s : State := { State.reset with plans := [p], nextId := 10 }
    s.plan 9 = some p ∧ p.next < p.steps ∧ s.stepReady (p.step p.next) = true ∧ s.clusterFenced p.cluster = false ∧
      stOp (p.step p.next) = 3 ∧ stDone (p.step p.next) < 4096 := by decide +kernel

/-- A K-block of one row and one column whose lanes agree. -/
theorem witness_k_block :
    let r : Running := runs 3 (List.replicate 64 0)
    let s : State := { State.reset with cores := [(2, { running := some r })] }
    let t : ElemType := ⟨.e4m3, false⟩
    let a := [kValues t (rowElems t [[0x38]]) 0]
    (s.core 2).running = some r ∧ s.shadowOf 2 = none ∧ elemOfCode (kdInA r.desc) = some t ∧ elemOfCode (kdInB r.desc) = some t ∧
      laneCheck false a a (blockSums a a []) = none := by decide +kernel

/-- A FILL of one grain of the stores that comes next and passes its checks. -/
theorem witness_fill :
    let d : Bytes := [1, 0, 5, 0, 0, 0, 0xFF, 0xFF] ++ leBytes 8 (poolAddr 4 0x1000).toNat ++ leBytes 8 0 ++ leBytes 8 128 ++ List.replicate 32 0
    let o : PoolOp := opOf d
    let s : State := { served with pool := { ops := [o] }, nextId := 3 }
    s.opDescOk d = true ∧ s.poolNext 2 .fill = some o ∧ s.opChecks o [] = stOk ∧ (opWrites d).any (fun w => s.vaultHeld w.1 w.2) = false ∧
      (((s.setOp (s.startOp o [])).chargeHost o.src (opCharge d)).writeAny (opDst d) (gather (opLen d / 8) (fun _ => leBytes 8 (opArg d))) [] (opTag d) []).isSome = true := by decide +kernel

/-- A VOPEN of the published version of a versioned region. -/
theorem witness_vopen :
    let g : Region := ⟨0x31, 2, false, 3, 0, 32, 0, 0, 0, 0, 0, 0⟩
    let d : Bytes := [8, 0, 5, 0, 0, 0, 0xFF, 0xFF] ++ List.replicate 24 0 ++ [0x31, 0, 0, 0, 7, 0, 0, 0] ++ List.replicate 24 0
    let o : PoolOp := opOf d
    let s : State := { served with
      pool := { ops := [o], vers := [(0x31 * 16, { state := verPublished, version := 7 })] }, nextId := 3, epoch := { active := { ConfigSet.default with str := { Structure.default with regions := [g] } } } }
    s.versioned (opRegion d) = some g ∧ s.opDescOk d = true ∧ s.opChecks o [] = stOk ∧ s.poolNext 2 .vopen = some o ∧
      s.slotOfVersion g (s.namedVersion g (opVersion d)) = some 0 ∧ (s.verSlot g.id 0).opens < 4095 := by decide +kernel

/-- Operation 2, started, and waiting for what it reads. -/
def waiting (d : Bytes) (l : List (PA × Nat)) : PoolOp := { opOf d with started := true, lists := l }

/-- A device in service with that operation and some bytes at the start of its stores. -/
def withOp (d : Bytes) (l : List (PA × Nat)) (bs : Bytes) : State :=
  { served with pool := { ops := [waiting d l] }, nextId := 3, stores := Sparse.putList zeroByte [] 0 bs }

/-- A pool descriptor on ranges of the stores: OP, FLAGS, types, DST, SRC, LEN, ARG and COUNT. -/
def poolDesc (op flags types dst src len arg count : Nat) : Bytes :=
  leBytes 1 op ++ leBytes 1 flags ++ [5, 0, 0] ++ leBytes 1 types ++ [0xFF, 0xFF] ++ leBytes 8 (poolAddr 4 dst).toNat ++
    leBytes 8 (poolAddr 4 src).toNat ++ leBytes 8 len ++ leBytes 8 arg ++ List.replicate 4 0 ++ leBytes 2 count ++ List.replicate 18 0

/-- A COPY and a CMP, with CRC and without, of one grain that reads cleanly. -/
theorem witness_copy :
    let d := poolDesc 2 0 0 0x1000 0 128 0 0
    let s := withOp d [] [7]
    let r := s.readAny (opSrc d) (opLen d) (opConsumer (waiting d [])) {} none
    s.opDescOk d = true ∧ s.poolNext 2 .copy = some (waiting d []) ∧ r.2.ready = true ∧ r.2.first = none ∧
      (r.1.writeAny (opDst d) r.2.data r.2.poison (opTag d) []).isSome = true := by decide +kernel

theorem witness_cmp :
    let d := poolDesc 3 0 0 0 0 128 (poolAddr 4 0x2000).toNat 0
    let e := poolDesc 3 8 0 0 0 128 0 0
    let s := withOp d [] [7]
    let r := s.readAny (opSrc d) (opLen d) (opConsumer (waiting d [])) {} none
    let r2 := r.1.readAny (BitVec.ofNat 56 (opArg d)) (opLen d) (opConsumer (waiting d [])) {} none
    s.opDescOk d = true ∧ s.poolNext 2 .cmp = some (waiting d []) ∧ r.2.ready = true ∧ r.2.poison = [] ∧ opCrc d = false ∧
      r2.2.ready = true ∧ r2.2.poison = [] ∧ s.opDescOk e = true ∧ (withOp e [] []).poolNext 2 .cmp = some (waiting e []) ∧
      opCrc e = true := by decide +kernel

/-- A SUM, an ACCUMULATE and a READOUT of one FP32 element, the first two from a list of one source. -/
theorem witness_sum :
    let d := poolDesc 4 0 0xAA 0x1000 0 1 0 1
    let c := [(poolAddr 4 0x2000, 4)]
    let s := withOp d c (leBytes 8 (poolAddr 4 0x2000).toNat)
    let o := waiting d c
    let l := s.sourceList o
    let x := l.1.sumSources o {} l.2.1 (List.replicate (opLen d) ({}, false))
    s.opDescOk d = true ∧ s.poolNext 2 .sum = some o ∧ (listRanges s (opOf d)).2 = some c ∧ s.opChecks (opOf d) c = stOk ∧
      l.2.2.ready = true ∧ l.2.2.poison = [] ∧ l.2.2.first = none ∧ x.2.wait = none ∧ x.2.first = none ∧
      ((x.1.keepSums (opDst d) (typeSize (opDstType d)) x.2.accs).writeElems o {} x.2.accs).isSome = true := by decide +kernel

theorem witness_accumulate :
    let d := poolDesc 4 0x10 0xAA 0x1000 0 1 0 1
    let c := [(poolAddr 4 0x2000, 4)]
    let s := withOp d c (leBytes 8 (poolAddr 4 0x2000).toNat)
    let o := waiting d c
    let l := s.sourceList o
    let a := l.1.readAccs (opDst d) (opLen d) o {}
    let x := a.1.sumSources o {} l.2.1 (a.2.1.map (fun p => (p.1, p.2 || false)))
    s.opDescOk d = true ∧ s.poolNext 2 .accumulate = some o ∧ l.2.2.ready = true ∧ l.2.2.first = none ∧ a.2.2.ready = true ∧
      a.2.2.first = none ∧ x.2.wait = none ∧ x.2.first = none ∧
      ((x.1.keepSums (opDst d) 48 x.2.accs).writeAny (opDst d) (x.2.accs.flatMap (fun p => p.1.bytes)) (badAccs (opDst d) x.2.accs)
        (opTag d) []).isSome = true := by decide +kernel

theorem witness_readout :
    let d := poolDesc 4 0x22 0xAA 0x1000 0 1 0 0
    let s := withOp d [] []
    let o := waiting d []
    let a := s.readAccs (opSrc d) (opLen d) o {}
    s.opDescOk d = true ∧ s.poolNext 2 .readout = some o ∧ opClear d = true ∧ a.2.2.ready = true ∧ a.2.2.first = none ∧
      ((a.1.keepSums (opSrc d) 48 a.2.1).writeElems o {} a.2.1).isSome = true := by decide +kernel

/-- A tag grain that the tag cache holds, and units fenced by a fault of this cycle. -/
theorem witness_faults_together :
    let s : State := { State.reset with fences := [.core 3], integ := { faulted := [.core 3] } }
    let t : State := { State.reset with fences := [.cluster 1], integ := { faulted := [.cluster 1] } }
    (({ State.reset with canopy := { tagCache := [(0, [5])] } } : State).tagCache 0).contains 5 = true ∧
      s.engineFenced 3 = true ∧ s.faultsTogether (.engine 3) = true ∧ t.coreFenced 3 = true ∧ t.faultsTogether (.core 3) = true ∧
      t.faultsTogether (.core 5) = false := by decide +kernel

/-- A core to gate, and a ring with one entry to fetch. -/
theorem witness_gate_and_fetch :
    let s : State := { State.reset with epoch := { active := { ConfigSet.default with
      str := { Structure.default with clockPower := { Structure.default.clockPower with idleMode := List.replicate 16 2 } } } }, count := 10 ^ 12 }
    let q : State := { withFields [(F.AO_BOOT_STATE, 2), (F.CORE_Q_CFG_ENABLE 4, 1), (F.CORE_Q_BASE_ADDR 4, (poolAddr 4 0x1000).toNat),
      (F.CORE_Q_TAIL_INDEX 4, 1)] with stores := Sparse.putList zeroByte [] 0x1034 [255, 255, 255, 255] }
    let r := q.readAny (q.ringEntry 4 0) 64 (coreConsumer 4 0) {} none
    s.idleMode 4 = 2 ∧ (s.core 4).power = .awake ∧ (s.turn 4).isNone = true ∧ s.coreFenced 4 = false ∧
      (s.core 4).idleSince + s.epoch.active.str.clockPower.idleNs.getD 4 0 ≤ s.count ∧ q.f (F.CORE_Q_CFG_ENABLE 4) = 1 ∧ (q.core 4).sw = none ∧
      q.f (F.CORE_Q_HEAD_INDEX 4) ≠ q.f (F.CORE_Q_TAIL_INDEX 4) ∧ q.fetchStopped 4 0 = false ∧ q.plainRange (q.ringEntry 4 0) 64 = true ∧
      r.2.ready = true ∧ r.2.poison = [] ∧ kdPlan r.2.data = 2 ^ 32 - 1 := by decide +kernel

/-- A local FETCH that is all there, a remote one with every byte it asked for, and a stall at its plan's deadline. -/
theorem witness_fetch_and_stall :
    let head : Bytes := [1] ++ List.replicate 7 0 ++ leBytes 4 100 ++ List.replicate 20 0
    let step (node : Nat) : Bytes := [1, 0, 7, 0, 0xFF, 0xFF] ++ leBytes 2 node ++ leBytes 8 (poolAddr 4 0).toNat ++
      leBytes 8 (poolAddr 4 0x1000).toNat ++ leBytes 4 1 ++ List.replicate 4 0
    let x : FetchStep := { no := 3, step := 0, src := poolAddr 4 0, asked := 4096, got := 4096 }
    let p (node : Nat) : Plan := ⟨9, 1, 2, head ++ step node, 1, [], [], [x], 0⟩
    let s (node : Nat) : State := { served with plans := [p node], nextId := 10, count := 500, stalls := [⟨4, 7, 100, false⟩] }
    ∀ node ∈ [0xFFFF, 0x20],
      (s node).plan 9 = some (p node) ∧ (p node).issued.find? (fun y => y.no == 3) = some x ∧ stDone ((p node).step 0) = 7 ∧
        4096 * stCount ((p node).step 0) ≤ x.got ∧ stRemote ((p node).step 0) = (node != 0xFFFF) ∧
        ((s node).fetchRead x.src 1 (planConsumer (p node)) {}).2.ready = true ∧ ((s node).stallCause 7).isSome = true ∧
        (p node).deadline = 100 ∧ (s node).stallOf 4 = some ⟨4, 7, 100, false⟩ := by decide +kernel

/-- Whatever the source holds, a FETCH has no more than 4 KiB to read for each of its pieces. -/
theorem witness_fetch_bytes (b : Bytes) (src : PA) : fetchBytesOf b src ≤ 4096 * stCount b := by
  unfold fetchBytesOf; split <;> omega

/-- A K-block of no tiles, whose sides are read and whose lanes agree; a pass with code to run; and a shadowed pass. -/
theorem witness_k_block_sides :
    let r : Running := runs 3 (List.replicate 0x24 0 ++ [0x33] ++ List.replicate 27 0)
    let s : State := { served with cores := [(2, { running := some r })] }
    let t : ElemType := ⟨.bf16, false⟩
    let x := (⟨s.setBypass r.cx, none, none⟩ : Loads).side 2 r.desc t { tiles := [] } 128
    let y := x.1.side 2 r.desc t { tiles := [] } 512
    let a := (List.range x.2.bad.length).map (kValues t (rowElems t x.2.rows))
    let b := (List.range y.2.bad.length).map (kValues t (rowElems t y.2.rows))
    r.pair none = some (t, t) ∧ y.1.wait.isNone = true ∧ laneCheck true a b (blockSums a b []) = none := by decide +kernel

theorem witness_passes :
    let r : Running := runs 3 (List.replicate 64 0)
    let x : Shadow := { core := 2, uid := 3, shadow := 5, fromDq := false, postedAt := 0, taken := true, checked := true, diag := none,
                        laneAgain := false, captured := false, passCrc := none, startedAt := 0, code := {} }
    let s : State := { served with cores := [(2, { running := some r })] }
    let t : State := { s with silent := { shadows := [x] } }
    (s.core 2).running = some r ∧ s.shadowOf 2 = none ∧ ((s.setBypass r.cx).runCode 2 r [.clear 0 4]).wait = false ∧
      t.shadowOf 2 = some x ∧ x.taken = true ∧ x.diag = none ∧ x.shadow < 16 := by decide +kernel

/-- A PACKED region of eight direct pages, with its directory, heap and expanded tiles behind it. -/
def packed : Region :=
  { id := 0x31, space := 2, packed := true, versions := 0, base := 0, pages := 8, dirBase := 8, dirPages := 8, heapPages := 8,
    heapBase := 16, expBase := 24, expPages := 8 }

/-- A device in service with that region, and with all its DRAM enabled. -/
def packedDev : State :=
  let s := ((withFields ([(F.AO_BOOT_STATE, 2)] ++ (List.range 8).map (fun c => (F.UND_PAGES_PAGES c, 4096)))).setReg R.UND_EN_LO
    (BitVec.ofNat 64 (2 ^ 64 - 1))).setReg R.UND_EN_HI (BitVec.ofNat 64 (2 ^ 32 - 1))
  { s with nextId := 5, epoch := { active := { ConfigSet.default with str := { Structure.default with regions := [packed] } } } }

/-- The region's first tile. -/
def tile0 : TileRef := ⟨packed, 0, 0⟩

/-- The device with that tile EXPANDED in slot 3. -/
def expandedDev : State := packedDev.writeDir tile0 { DirEntry.empty with state := 2, loc := 3 } 1

/-- A write to an EXPANDED tile that waits for its decode. -/
theorem witness_expand :
    let o : OpenReq := { id := 4, kind := .wr, req := { req0 with addr := poolAddr 2 0, data := List.replicate 64 7 }, wait := .expand,
                         token := some 1, acceptedAt := 0, epoch := 0, revoked := false }
    let s : State := { expandedDev with opens := [o] }
    let u := ((s.touchStart o).servedAs o).expandTile tile0 (o.consumer 2)
    s.openAt 4 = some o ∧ s.tileOf o.req.addr = some tile0 ∧ s.readsFirst o = false ∧ s.epoch.old = [] ∧ u.2 = .ok 3 ∧
      u.1.touchesFencedGrain (BitVec.ofNat 56 ((tile0.expAddr 3).toNat + o.req.addr.toNat % 4096)) o.req.len = false := by decide +kernel

/-- An EXP_CLOSE of core 2, whose message is the first line of its store. -/
def closeDesc : Bytes := leBytes 4 0xFFFFFE03 ++ leBytes 2 5 ++ List.replicate 14 0 ++ [1, 0] ++ List.replicate 42 0

/-- A close of entry 0 of a table in the understory. -/
def closeMsg : Bytes :=
  [3, 0, 0, 0] ++ leBytes 4 0 ++ leBytes 8 (poolAddr 0 (2 ^ 21 * 100)).toNat ++ List.replicate 8 0 ++ leBytes 8 (poolAddr 4 0x10000).toNat ++
    leBytes 8 (poolAddr 4 0x20000).toNat ++ List.replicate 24 0

/-- Core 2 runs a kernel of the service. -/
def expDev (r : Running) : State :=
  { packedDev with stores := Sparse.putList zeroByte [] 0x4000000 closeMsg, cores := [(2, { running := some r })] }

/-- An entry that cores 2 and 3 hold. -/
def entry0 : Bytes :=
  [1, 0, 0, 0, 3, 0, 12, 0] ++ List.replicate 8 0 ++ leBytes 4 512 ++ leBytes 4 1024 ++ List.replicate 24 0 ++ leBytes 4 (2 ^ 32 - 1) ++
    List.replicate 76 0

/-- Whether a close of no entry is done and its kernel's end can be written. -/
def closeEnds (s : State) (r : Running) : Bool :=
  match s.svcBody .close 2 r closeMsg [] false [] with
  | .error _ => false
  | .ok d =>
    let p := d.st.kernelPoison 2 r d.first
    let q := p.1.kernelOutputs 2 { p.2 with flags := r.flags ||| d.flags, badOut := r.badOut || d.bad }
      { dataAddr := d.dataAddr, dataLen := d.dataLen }
    q.2.isSome && q.1.pairState != psPaired

/-- A close whose table holds no entry of its core ends alone, one whose descriptor is wrong is refused, and one whose entry two
cores hold has a partner. -/
theorem witness_close :
    let r : Running := runs 3 closeDesc
    let bad : Running := runs 3 (closeDesc.set 0x14 0)
    let s := expDev r
    let g := s.writeRange (poolAddr 0 (2 ^ 21 * 100)) entry0 5
    (s.setBypass r.cx).svcRunning .close 2 = some r ∧
      (match (s.setBypass r.cx).svcCheck .close 2 r with | .ok m es b => m == closeMsg && es.isEmpty && !b | _ => false) = true ∧
      closeEnds (s.setBypass r.cx) r = true ∧
      (match (expDev bad).svcCheck .close 2 bad with | .refuse c _ => c == 0x0740 | _ => false) = true ∧
      (match (g.setBypass r.cx).svcCheck .close 2 r with | .ok _ es _ => partnersOf 2 es == [3] | _ => false) = true ∧
      s.coreFenced 3 = false ∧ (s.core 3).depth < 64 := by decide +kernel

/-- A lead that waits for a barrier whose generation has gone on. -/
theorem witness_combine :
    let w : ExpWait := { gen := 1, bad := [], msg := closeMsg, entries := [] }
    let r : Running := { runs 3 closeDesc with exp := some w }
    let s := expDev r
    svcKindOf (kdKernel r.desc) = some .close ∧ s.comparing 2 r = false ∧ s.stallOf 2 = none ∧ s.f (F.SLOT_BARRIER_GEN (svcBarrier 2)) ≠ w.gen ∧
      closeEnds (s.setBypass r.cx) r = true := by decide +kernel

/-- A route for SYNC replies out of port 0. -/
theorem witness_sync_route :
    let s : State := withFields [(F.JX_PORT_STS_STATE 0, 3), (F.JX_ROUTE_VALID 2, 1), (F.JX_ROUTE_MATCH 2, 0x20), (F.JX_ROUTE_MASK 2, 0xFFFF),
      (F.JX_ROUTE_GROUPS 2, 1)]
    s.route (s.syncMsg 0x20 2 1 2 3 4) = some 0 := by decide +kernel

/-- A unit whose update is due, a refresh that is due and one that is not, and a channel in an error burst. -/
theorem witness_dram_timers :
    let s : State := { served with dramCtl := { refresh := [(256 * 600 + 3, ⟨5, 100⟩)], ueTimes := [(512 + 5, (List.range 65).map (fun i => (0, i)))] } }
    s.updateDue (dunitAt 7) = true ∧ s.dramCtl.selfRefresh = false ∧ s.count < (Sparse.get noRefresh s.dramCtl.refresh (256 * 600 + 3)).due ∧
      (Sparse.get noRefresh s.dramCtl.refresh (256 * 600 + 4)).due ≤ s.count ∧ s.errorBurst 5 = true ∧ (255 : Nat) ≠ s.f F.UND_POP_GIB := by
  decide +kernel

/-- Checkpoint ranges that are valid, of an ARMED entry. -/
theorem witness_checkpoint_ranges :
    let s := withFields [(F.UND_PAGES_PAGES 0, 16), (F.VLT_PAGES_PAGES 0, 32), (F.VLT_PART_CKPT_PAGES, 16), (F.VLT_CKPT_SRC_PAGES 3, 1),
      (F.VLT_CKPT_STS_STATE 3, 1)]
    s.ckptRangesOk 3 = true ∧ s.ckptCovered 3 + s.f (F.VLT_CKPT_SRC_PAGES 3) ≤ 2 ^ 21 ∧ s.f (F.VLT_CKPT_STS_STATE 3) = 1 := by decide +kernel

/-- A mint descriptor of tile 0 of the region: OP, CODEC and SLOT. -/
def mintDesc (op codec slot : Nat) : Bytes :=
  leBytes 1 op ++ leBytes 1 codec ++ [0] ++ leBytes 1 slot ++ leBytes 2 0x31 ++ leBytes 2 5 ++ leBytes 8 0 ++ leBytes 4 1 ++ [0, 0] ++
    [0xFF, 0xFF] ++ leBytes 8 (poolAddr 4 0x10000).toNat ++ List.replicate 32 0

/-- The entry at the head of the mint's ring in the stores, a RELEASE that is valid and one that is not. -/
theorem witness_mint_fetch :
    let s (d : Bytes) : State := { ((packedDev.setF F.MNT_JQ_CFG_ENABLE 1).setF F.MNT_JQ_TAIL_INDEX 1).setF F.MNT_JQ_BASE_ADDR (poolAddr 4 0x1000).toNat with
      stores := Sparse.putList zeroByte [] 0x1000 d }
    let r (d : Bytes) := (s d).readAny ((s d).jobEntry 0) 64 ⟨6, 0, 8, 0⟩ {} none
    (s (mintDesc 5 0 0)).f F.MNT_JQ_CFG_ENABLE = 1 ∧ (s (mintDesc 5 0 0)).f F.MNT_JQ_HEAD_INDEX ≠ (s (mintDesc 5 0 0)).f F.MNT_JQ_TAIL_INDEX ∧
      (s (mintDesc 5 0 0)).plainRange ((s (mintDesc 5 0 0)).jobEntry 0) 64 = true ∧ (r (mintDesc 5 0 0)).2.ready = true ∧
      (r (mintDesc 5 0 0)).2.poison = [] ∧ (r (mintDesc 5 0 0)).1.mjValid (r (mintDesc 5 0 0)).2.data = true ∧
      (r (mintDesc 6 0 0)).1.mjValid (r (mintDesc 6 0 0)).2.data = false := by decide +kernel

/-- A job that may start, and takes a slot when it compresses or builds; and one in pass 1 that has read all its tiles, with
symbols counted and without. -/
theorem witness_mint_start :
    let j (op codec : Nat) : MintJob := { id := 4, desc := mintDesc op codec 255, entry := 0, index := 0 }
    let s (op codec : Nat) : State := { packedDev.setF F.MNT_JQ_CFG_ENABLE 1 with mint := { jobs := [j op codec] } }
    let k : MintJob := { j 3 2 with started := true, inPass1 := true, slot := some 0, counts := [[1]] }
    let t (k : MintJob) : State := { packedDev with mint := { jobs := [k] } }
    (∀ op ∈ [1, 3, 5], (s op 2).mint.jobs.find? (fun x => !x.started) = some (j op 2) ∧ (s op 2).mintHeld (j op 2) = false) ∧
      packedDev.packedRegion (mjRegion (mintDesc 5 2 255)) = some packed ∧ packedDev.jobSlot (mintDesc 1 2 255) = some 0 ∧
      mjCodec (mintDesc 3 2 255) = 2 ∧ ((t k).pass1 k packed k.todo).2.todo = [] ∧ mjOp ((t k).pass1 k packed k.todo).2.desc = 3 ∧
      ((t k).pass1 k packed k.todo).2.counts = [[1]] := by decide +kernel

/-- Check bytes of a grain of zeros whose eighth syndrome alone is not 0. -/
def badCheck : Bytes := [1, 0x7F, 0x7A, 0x9A, 0xA4, 0x0B, 0x44, 0x75]

/-- Zeros in front do not change what a polynomial evaluates to. -/
theorem gfEval_zeros (n : Nat) (w : Bytes) (x : Byte) : gfEval (List.replicate n (0#8) ++ w) x = gfEval w x := by
  have h0 : ∀ y : Byte, gfMul (0#8) y = 0#8 := by decide +kernel
  induction n with
  | zero => rfl
  | succ n ih => rw [← ih]; simp [gfEval, List.replicate_succ, h0]

theorem rsSyndromes_zeros (n : Nat) (w : Bytes) : rsSyndromes (List.replicate n (0#8) ++ w) = rsSyndromes w := by
  simp [rsSyndromes, gfEval_zeros]

/-- A word whose error locator stands for too many errors is not decoded. -/
theorem rsDecode_none (m : Nat) (w : Bytes) (h : allZero (rsSyndromes w) = false) (hm : m < (rsLocator (rsSyndromes w)).2) :
    rsDecode m w = none := by simp [rsDecode, h, hm]

theorem badCheck_4 : rsDecode 4 (List.replicate 128 0 ++ badCheck) = none :=
  rsDecode_none _ _ ((rsSyndromes_zeros 128 badCheck).symm ▸ by decide +kernel) ((rsSyndromes_zeros 128 badCheck).symm ▸ by decide +kernel)

theorem badCheck_2 : rsDecode 2 (List.replicate 128 0 ++ xorBytes badCheck poisonPattern) = none :=
  have h := (rsSyndromes_zeros 128 (xorBytes badCheck poisonPattern)).symm
  rsDecode_none _ _ (h ▸ by decide +kernel) (h ▸ by decide +kernel)

theorem zeros_check : rsCheck (List.replicate 128 0) = List.replicate 8 0 := by decide +kernel

/-- A word that decodes in neither way and holds no pattern is uncorrectable. -/
theorem grainDecode_uncorrectable (d c : Bytes) (own : c ≠ rsCheck d) (poison : c ≠ xorBytes (rsCheck d) poisonPattern)
    (lost : c ≠ lostPattern) (h4 : rsDecode 4 (d ++ c) = none) (h2 : rsDecode 2 (d ++ xorBytes c poisonPattern) = none) :
    (grainDecode d c).2 = .uncorrectable := by
  simp only [grainDecode, if_neg own, if_neg poison, lost, false_and, if_false, h4, h2]

/-- Those bytes do not decode. -/
theorem badCheck_uncorrectable : (grainDecode (List.replicate 128 0) badCheck).2 = .uncorrectable :=
  grainDecode_uncorrectable _ _ (by rw [zeros_check]; decide) (by rw [zeros_check]; decide) (by decide) badCheck_4 badCheck_2

/-- A pair whose mirrored grain at page 32 of the direct understory does not decode, with its repair at the partner's copy. -/
def badRepair : Repair := { grain := (poolAddr 2 (2 ^ 21 * 32)).toNat, step := 2, tag := 0, op := 1, check := false, home := false, found := none }

def badLoc : GrainLoc := ⟨516, 742528, 744096⟩

def badDev : State :=
  let s : State := { packedDev.setF F.PAIR_STS_STATE psPaired with
    integ := { repairs := [badRepair] }
    epoch := { active := { ConfigSet.default with str := { Structure.default with
      regions := [{ packed with id := 7, packed := false, base := 32 }]
      mirror := some { pairNode := 0x40, partnerNode := 2, roleB := false, ranges := [⟨2, 32, 8⟩] } } } } }
  s.putGrain badLoc (List.replicate 128 0) badCheck

theorem witness_dram_repair :
    let a := poolAddr 2 (2 ^ 21 * 32)
    badDev.integ.repairs.find? (fun x => x.grain == (grainOf a).toNat && x.home == false) = some badRepair ∧
      badDev.partnerCopy (grainOf a) = true ∧ badDev.repairLoc (grainOf a) badRepair = some badLoc ∧
      badDev.unitFenced badLoc.unit = false ∧ badDev.getGrain badLoc = (List.replicate 128 0, badCheck) := by decide +kernel

theorem witness_dram_repair_bad : badDev.grainNow (grainOf (poolAddr 2 (2 ^ 21 * 32))) badRepair = .bad := by
  obtain ⟨-, -, hl, hf, hg⟩ := witness_dram_repair
  simp only [State.grainNow, hl, hf, hg, badCheck_uncorrectable]; rfl

/-- A CXL.mem read that a committed decoder maps and that waits for nothing. -/
theorem witness_cxl :
    let d : HdmDecoder := { base := 0, size := 2 ^ 28, gran := 8, dpa := 2 ^ 21 * 32, committed := true }
    let s : State := { packedDev.setF F.PEP_STS_CXL 1 with pep := { hdm := [d, {}, {}, {}] } }
    let q := s.hostReq (poolAddr 0 (2 ^ 21 * 32)) 64 [] s.pepTag true
    let h : HostAcc := { tag := 9, cxl := true }
    let r := s.decodeSpace .rd q true
    let v := (r.1.openHost .rd q h).touchStart (r.1.hostOpenOf .rd q h)
    let x := v.readRange q.addr q.len 1 q.tag
    s.dpaOf 0 = some (2 ^ 21 * 32) ∧ r.2 = none ∧ r.1.versionsAllow q.addr q.len q.src false = true ∧ s.opens = [] ∧
      v.clusterHeld (ownerOf (pageOf q.addr)) = false ∧ v.touchesMirror q.addr q.len = false ∧ v.readsByPartner q.addr q.len = false ∧
      (v.tileOf q.addr).isNone = true ∧ x.2.repair = none ∧ x.2.refetch = none ∧ x.2.poison = [] ∧
      v.touchesRegionArea q.addr q.len = false ∧ v.touchesFencedGrain q.addr q.len = false ∧ v.mintReads q.addr = false ∧
      v.grainHeld q.addr q.len = none := by decide +kernel

/-- A DMA descriptor of 64 bytes that moves them into the understory. -/
theorem witness_dma_move :
    let desc : Bytes := [1, 0, 5, 0] ++ leBytes 4 64 ++ leBytes 8 0 ++ leBytes 8 (poolAddr 0 (2 ^ 21 * 32)).toNat ++ List.replicate 8 0
    let s : State := { packedDev.setF (F.PEP_DMA_CFG_ENABLE 1) 1 with pep := { config := [(4, 4)] } }
    let u := (s.setDma 1 { desc := some desc }).setDma 1 { desc := some desc, piece := ddLen desc }
    let q := u.hostReq (BitVec.ofNat 56 (ddPool desc)) (ddLen desc) (List.replicate 64 7) (s.ddJobTag desc) false
    let r := u.decodeSpace .wr q true
    let v := r.1.openHost .wr q { dma := some 1 }
    ddValid desc = true ∧ ddPool desc % 4096 + ddLen desc ≤ 4096 ∧ r.2 = none ∧ r.1.versionsAllow q.addr q.len q.src true = true ∧
      v.clusterHeld (ownerOf (pageOf q.addr)) = false ∧ v.touchesMirror q.addr q.len = false ∧ (v.tileOf q.addr).isNone = true ∧
      v.touchesRegionArea q.addr q.len = false ∧ v.touchesFencedGrain q.addr q.len = false ∧ v.mintReads q.addr = false ∧
      v.grainHeld q.addr q.len = none := by decide +kernel

/-- A versioned region with a published slot, a draft of node 0x10 and free slots; operation 2 is of an OP on a slot. -/
def verDev (op slot : Nat) (copy : Bool) : State × PoolOp :=
  let g : Region := ⟨0x31, 2, false, 3, 0, 32, 0, 0, 0, 0, 0, 0⟩
  let d : Bytes := leBytes 1 op ++ [0, 5, 0, 0, 0, 0xFF, 0xFF] ++ List.replicate 24 0 ++ [0x31, 0] ++ leBytes 1 slot ++ [0, 7, 0, 0, 0] ++
    List.replicate 24 0
  let o : PoolOp := if copy then
      { opOf d with started := true, copying := true, result := some ⟨0, 0, 0, 0, 1⟩, lists := [(poolAddr 4 0, 128), (poolAddr 4 0x1000, 128)] }
    else opOf d
  ({ served with
    pool := { ops := [o], vers := [(0x31 * 16, { state := verPublished, version := 7 }), (0x31 * 16 + 1, { state := verDraft, version := 7, owner := 0x10, copying := copy })] }
    nextId := 3, epoch := { active := { ConfigSet.default with str := { Structure.default with regions := [g] } } } }, o)

theorem witness_versions :
    let g : Region := ⟨0x31, 2, false, 3, 0, 32, 0, 0, 0, 0, 0, 0⟩
    let s (op slot : Nat) : State := (verDev op slot false).1
    let o (op slot : Nat) : PoolOp := (verDev op slot false).2
    (∀ x ∈ [(10, 0), (11, 1), (12, 1)], (s x.1 x.2).opDescOk (o x.1 x.2).desc = true ∧ (s x.1 x.2).opChecks (o x.1 x.2) [] = stOk ∧
      (s x.1 x.2).versioned (opRegion (o x.1 x.2).desc) = some g) ∧
      (s 10 0).poolNext 2 .vdraft = some (o 10 0) ∧ (s 10 0).vcopyRanges (o 10 0) = none ∧
      (s 10 0).slotOfVersion g ((s 10 0).namedVersion g (opVersion (o 10 0).desc)) = some 0 ∧ ((s 10 0).verSlot g.id 2).state = verFree ∧
      (∀ j < 2, ((s 10 0).verSlot g.id j).state ≠ verFree) ∧ (s 11 1).poolNext 2 .vpublish = some (o 11 1) ∧
      ((s 11 1).verSlot g.id 1).draftOf 0x10 = true ∧ ((s 11 1).verSlot g.id 1).version = (s 11 1).currentVersion g ∧
      ((s 11 1).verSlot g.id ((s 11 1).published g)).state = verPublished ∧ (s 12 1).poolNext 2 .vrelease = some (o 12 1) := by decide +kernel

/-- A draft's copy that can be read and written. -/
theorem witness_vdraft_copy :
    let s := (verDev 10 0 true).1
    let o := (verDev 10 0 true).2
    let rd := s.readAny (poolAddr 4 0) 128 (opConsumer o) {} none
    s.pool.ops.find? (fun x => x.id == 2 && x.copying) = some o ∧ rd.2.ready = true ∧ rd.2.first = none ∧
      (rd.1.writeAny (poolAddr 4 0x1000) rd.2.data rd.2.poison (opTag o.desc) []).isSome = true := by decide +kernel

end Sys2Proof.Tests
end

section
/-! PROOFS. What the device has sent at a port, or has waiting there, stays so: the rules of the sending operations. -/

namespace Sys2Proof.Machine

variable {s t : State} {p p' : Nat} {m : Msg}

/-! ## The table of ports -/

/-- The table of ports is in canonical form. -/
def State.portsOk (s : State) : Prop := Sparse.wf portZero s.ports = true

theorem State.canonical.portsOk (h : s.canonical) : s.portsOk := h .ports

theorem Kept.portsOk {M : Nat} (h : Kept M s t) (hs : s.portsOk) : t.portsOk := h.table .ports hs

theorem portsOk_setPort {x : Port} (h : s.portsOk) : (s.setPort p x).portsOk := Sparse.wf_put h

theorem port_setPort_same {x : Port} (h : s.portsOk) : (s.setPort p x).port p = x := Sparse.get_put_same h

theorem port_setPort_ne {x : Port} (h : p ≠ p') : (s.setPort p' x).port p = s.port p := Sparse.get_put_ne h

theorem port_congr (h : t.ports = s.ports) : t.port p = s.port p := by
  unfold State.port
  rw [h]

theorem portActive_congr (hr : t.regs = s.regs) (hf : t.fences = s.fences) : t.portActive p = s.portActive p := by
  unfold State.portActive State.portFenced State.dieFenced
  rw [f_congr hr, hf]

/-! ## Messages sent or waiting -/

/-- A message is in the queue of a port. -/
def State.queues (s : State) (p : Nat) (m : Msg) : Prop := ∃ q ∈ (s.port p).queue, q.msg = m

theorem sends_of_queues (h : s.queues p m) : s.sends p m := .inr h

theorem sends_mono (h : s.sends p m) (ho : ∃ l, t.out = s.out ++ l) (hq : s.queues p m → t.sends p m) : t.sends p m := by
  obtain ⟨n, hn⟩ | h := h
  · obtain ⟨l, hl⟩ := ho
    exact .inl ⟨n, by rw [hl]; exact List.mem_append_left _ hn⟩
  · exact hq h

/-- An operation that leaves the ports as they are unsends nothing. -/
theorem Kept.sends {M : Nat} (h : Kept M s t) (hM : M.testBit 9 = false) (hs : s.sends p m) : t.sends p m := by
  refine sends_mono hs h.out fun hq => .inr ?_
  rwa [port_congr (h.same .ports hM)]

/-- A message other than a notice goes out as it was queued (R237). -/
theorem Msg.sentAt_of_ne {count : Nat} (h : m.ftype ≠ .notice) : m.sentAt count = m := if_neg h

/-! ## Sending one message -/

/-- Sending appends the message to what has been sent. -/
theorem sendNow_sends {cls load : Nat} : (s.sendNow p m cls load).sends p m := by
  unfold State.sendNow
  extract_lets n pt last s1 s2 s3 s4 s5
  exact (kept_flipFlit Within.rfl' Kept.refl).sends rfl (.inl ⟨s5.count, by simp⟩)

/-- Sending takes nothing out of any queue. -/
theorem sendNow_queue {cls load : Nat} {m' : Msg} (h : s.portsOk) : ((s.sendNow p' m' cls load).port p).queue = (s.port p).queue := by
  unfold State.sendNow
  extract_lets n pt last s1 s2 s3 s4 s5
  have h5 : s5.ports = s1.ports := by
    unfold s5
    split
    · rfl
    · exact (kept_chargeClass Within.rfl' Kept.refl).same .ports rfl
  have h6 : ((s5.emit (.msg p' s5.count m')).flipFlit p' m' load).ports = s1.ports :=
    ((kept_flipFlit Within.rfl' Kept.refl).same .ports rfl).trans h5
  rw [port_congr h6]
  by_cases e : p = p'
  · subst e
    rw [port_setPort_same h]
  · rw [port_setPort_ne e]

theorem sendNow_keeps_sends {cls load : Nat} {m' : Msg} (h : s.portsOk) (hs : s.sends p m) : (s.sendNow p' m' cls load).sends p m :=
  sends_mono hs (kept_sendNow Within.rfl' Kept.refl).out fun hq => .inr (by rwa [sendNow_queue h])

/-- A message taken out of the queue of its port and sent is sent, and every other one stays where it is (R228). -/
theorem sendQueued_keeps_sends {q : Queued} {count cls load : Nat} (h : s.portsOk) (hm : m.ftype ≠ .notice) (hs : s.sends p m) :
    ((s.setPort p' { s.port p' with queue := (s.port p').queue.erase q }).sendNow p' (q.msg.sentAt count) cls load).sends p m := by
  refine sends_mono hs (kept_sendNow Within.rfl' Kept.refl).out fun ⟨x, hx, hxm⟩ => ?_
  by_cases e : p = p'
  · subst e
    by_cases hxq : x = q
    · rw [← hxq, hxm, Msg.sentAt_of_ne hm]
      exact sendNow_sends
    · refine .inr ⟨x, ?_, hxm⟩
      rw [sendNow_queue (portsOk_setPort h), port_setPort_same h]
      exact (List.mem_erase_of_ne hxq).mpr hx
  · refine .inr ⟨x, ?_, hxm⟩
    rwa [sendNow_queue (portsOk_setPort h), port_setPort_ne e]

/-! ## Sending what waits -/

theorem pump_keeps_sends {n : Nat} (h : s.portsOk) (hm : m.ftype ≠ .notice) (hs : s.sends p m) : (s.pump p' n).sends p m := by
  induction n generalizing s with
  | zero => exact hs
  | succ n ih =>
    unfold State.pump
    split
    · exact hs
    next q _ =>
      extract_lets pt s1 load
      have h1 : Kept 0x200000000 s s1 := kept_ite Kept.refl (kept_waited Within.rfl' Kept.refl)
      have e : pt = s1.port p' := (port_congr (h1.same .ports rfl)).symm
      have h2 := h1.portsOk h
      refine ih ((kept_sendNow Within.rfl' Kept.refl).portsOk (portsOk_setPort h2)) ?_
      rw [e]
      exact sendQueued_keeps_sends h2 hm (h1.sends rfl hs)

theorem sends_enqueue {x : Queued} (h : s.portsOk) (hs : s.sends p m) :
    (s.setPort p' { s.port p' with queue := (s.port p').queue ++ [x] }).sends p m := by
  refine sends_mono hs ⟨[], (List.append_nil _).symm⟩ fun ⟨y, hy, hym⟩ => .inr ⟨y, ?_, hym⟩
  by_cases e : p = p'
  · subst e
    rw [port_setPort_same h]
    exact List.mem_append_left _ hy
  · rwa [port_setPort_ne e]

theorem queues_enqueue {x : Queued} (h : s.portsOk) :
    (s.setPort p { s.port p with queue := (s.port p).queue ++ [x] }).queues p x.msg :=
  ⟨x, by rw [port_setPort_same h]; simp, rfl⟩

theorem sendOn_keeps_sends {m' : Msg} {load : Nat} (h : s.portsOk) (hm : m.ftype ≠ .notice) (hs : s.sends p m) :
    (s.sendOn p' m' load).sends p m := by
  unfold State.sendOn
  split
  · exact sendNow_keeps_sends h hs
  · exact pump_keeps_sends (portsOk_setPort h) hm (sends_enqueue h hs)

/-- A message given to a port is sent there, or waits there. -/
theorem sendOn_sends {load : Nat} (h : s.portsOk) (hm : m.ftype ≠ .notice) : (s.sendOn p m load).sends p m := by
  unfold State.sendOn
  split
  · exact sendNow_sends
  · exact pump_keeps_sends (portsOk_setPort h) hm (sends_of_queues (queues_enqueue h))

/-! ## Records, which may send a notice of their own -/

/-- The footprint of every register and every part but the ports. -/
def offPorts : Nat := 0xFFFFFFFFFFFFFDFF

theorem putRing_keeps_sends {d : Nat} {r : Record} (h : s.portsOk) (hm : m.ftype ≠ .notice) (hs : s.sends p m) :
    (s.putRing d r).sends p m := by
  unfold State.putRing
  extract_lets tail head r full old s1 s2 s3 cls s4 s5 dst
  have k1 : Kept offPorts s s1 := Kept.in_integ rfl Kept.refl Sparse.wf_put Kept.seal
  have k2 : Kept offPorts s s2 := k1.setF rfl (.inl rfl)
  have k3 : Kept offPorts s s3 := kept_ite ((k2.setF rfl (.inl rfl)).satF rfl (.inl rfl)) k2
  have k4 : Kept offPorts s s4 := kept_ite (kept_raiseIrq rfl k3) k3
  have k5 : Kept offPorts s s5 := kept_ite (kept_ibi rfl k4) k4
  have hs5 := k5.sends rfl hs
  split
  · split
    · exact sendOn_keeps_sends (k5.portsOk h) hm hs5
    · exact (kept_countDrop Within.rfl' Kept.refl).sends rfl hs5
  · exact hs5

theorem putRecord_keeps_sends {r : Record} (h : s.portsOk) (hm : m.ftype ≠ .notice) (hs : s.sends p m) :
    (s.putRecord r).sends p m := by
  unfold State.putRecord
  split
  · exact (Kept.in_boot (M := offPorts) rfl Kept.refl).sends rfl hs
  · exact putRing_keeps_sends h hm hs

theorem closeMerge_keeps_sends {x : Merge} (h : s.portsOk) (hm : m.ftype ≠ .notice) (hs : s.sends p m) :
    (s.closeMerge x).sends p m := by
  unfold State.closeMerge
  split
  · exact hs
  · exact putRecord_keeps_sends h hm hs

theorem ledger_keeps_sends {e : Event} (h : s.portsOk) (hm : m.ftype ≠ .notice) (hs : s.sends p m) :
    (s.ledger e).sends p m := by
  have quiet (d : Nat) (l : List Merge) : Kept 0x40000 s (s.setMerges d l) := kept_setMerges Within.rfl' Kept.refl
  unfold State.ledger
  extract_lets e r d l stale rest out keep s1
  split
  · exact putRecord_keeps_sends h hm hs
  · split
    · exact (quiet d _).sends rfl hs
    · have closed : (s1.forEach out State.closeMerge).portsOk ∧ (s1.forEach out State.closeMerge).sends p m :=
        List.foldlRecOn (motive := fun y => y.portsOk ∧ y.sends p m) out State.closeMerge
          ⟨(quiet d _).portsOk h, (quiet d _).sends rfl hs⟩
          fun y ⟨hy, hys⟩ x _ => ⟨(kept_closeMerge Within.rfl' Kept.refl).portsOk hy, closeMerge_keeps_sends hy hm hys⟩
      exact putRecord_keeps_sends closed.1 hm closed.2

theorem settleFlip_keeps_sends (h : s.portsOk) (hm : m.ftype ≠ .notice) (hs : s.sends p m) : s.settleFlip.sends p m := by
  unfold State.settleFlip
  split
  · exact hs
  · exact ledger_keeps_sends h hm hs

theorem sendAt_sends {load : Nat} (h : s.portsOk) (hm : m.ftype ≠ .notice) : (s.sendAt p m load).sends p m :=
  settleFlip_keeps_sends ((kept_sendOn Within.rfl' Kept.refl).portsOk h) hm (sendOn_sends h hm)

/-- A response leaves by its arrival port while that port is ACTIVE (R217). -/
theorem sendResponse_sends {load : Nat} (h : s.portsOk) (hm : m.ftype ≠ .notice) (ha : s.portActive p = true) :
    (s.sendResponse p m load).sends p m := by
  unfold State.sendResponse
  rw [if_pos ha]
  exact sendAt_sends h hm

end Sys2Proof.Machine
end

section
/-! PROOFS. How a request that waits for nothing is accepted, served and answered. -/

namespace Sys2Proof.Machine

variable {s : State} {q : Req} {o : OpenReq} {k : ReqKind}

/-! ## The answer -/

/-- An answer leaves by the request's port while that port is ACTIVE (R217). -/
theorem answer_sends {ft : FType} {status : Nat} {payload : Bytes} (h : s.portsOk) (hf : ft ≠ .notice)
    (ha : s.portActive q.port = true) :
    (s.answer q ft status payload).sends q.port
      { ftype := ft, tag := q.tag, src := s.answerSrc q.dst, dst := q.src, txn := q.txn, attr := status, payload := payload } := by
  unfold State.answer
  extract_lets load
  split
  · exact sendResponse_sends (s := s.bump) h hf ha
  · exact sendResponse_sends h hf ha

theorem zeroGrains_mask_zero {a : PA} {data : Bytes} : zeroGrains a 0 data = data := by
  simp [zeroGrains, List.zipIdx_map_fst]

/-- A request that ends is open no more, and every other request stays open. -/
theorem finish_opens {status mask : Nat} {data : Bytes} :
    (s.finish o status mask data).opens = s.opens.filter (fun x => x.id != o.id) := by
  have same {M : Nat} {t u : State} (hk : Kept M t u) (hM : M.testBit 12 = false) : u.opens = t.opens := hk.same .opens hM
  unfold State.finish
  extract_lets s1 d s2
  have h2 : s2.opens = s1.opens := by
    unfold s2
    split
    · rfl
    · exact same (kept_noteDrains Within.rfl' Kept.refl) rfl
  split
  · rfl
  · split
    · exact same (kept_finishHost Within.rfl' Kept.refl) rfl
    · rw [← show s1.opens = s.opens.filter (fun x => x.id != o.id) from rfl, ← h2]
      split
      · exact same (kept_completion Within.rfl' Kept.refl) rfl
      · split
        · split
          · exact same (kept_answerData Within.rfl' Kept.refl) rfl
          · exact same (kept_answerStatus Within.rfl' Kept.refl) rfl
        · exact same (kept_answerStatus Within.rfl' Kept.refl) rfl

/-- A control read of a link that has had no response yet ends with a CRSP that carries its data (R225). -/
theorem finish_creqRead_sends {data : Bytes} (h : s.portsOk) (ha : s.portActive o.req.port = true) (hk : o.kind = .creqRead)
    (ht : o.token = none) (hh : o.host = none) (hr : o.revoked = false) :
    ∃ m, (s.finish o stOk 0 data).sends o.req.port m ∧ m.ftype = .crsp ∧ m.dst = o.req.src ∧ m.txn = o.req.txn ∧ m.attr = stOk ∧
      m.payload = leBytes 4 data.length ++ List.replicate 12 0 ++ data := by
  let s1 : State := { s with opens := s.opens.filter (fun x => x.id != o.id) }
  have quiet : Kept 0x80000000 s1 (s1.noteDrains o.id [(o.req.addr, o.req.len)]) := kept_noteDrains Within.rfl' Kept.refl
  have ends : s.finish o stOk 0 data = (s1.noteDrains o.id [(o.req.addr, o.req.len)]).answer o.req .crsp stOk
      (leBytes 4 data.length ++ List.replicate 12 0 ++ data) := by
    simp [State.finish, State.answerData, ReqKind.isCreq, hr, hh, ht, hk, zeroGrains_mask_zero, stOk, stRevoked, s1]
  rw [ends]
  refine ⟨_, answer_sends (quiet.portsOk h) (by decide) ?_, rfl, rfl, rfl, rfl, rfl⟩
  rw [portActive_congr (quiet.same .regs rfl) (quiet.same .fences rfl)]
  exact ha

/-! ## The checks at acceptance -/

/-- A check that lets a request go on has changed nothing. -/
def ChecksOnly (s : State) (r : State × Option Nat) : Prop := r.2 = none → r.1 = s

theorem checksOnly_pass {x : Option Nat} : ChecksOnly s (s, x) := fun _ => rfl
theorem checksOnly_refuse {t : State} {status : Nat} : ChecksOnly s (t, some status) := fun h => nomatch h
theorem checksOnly_ite {c : Prop} [Decidable c] {a b : State × Option Nat} (ha : ChecksOnly s a) (hb : ChecksOnly s b) :
    ChecksOnly s (if c then a else b) := by split <;> assumption

/-- A check whose refusal ends the checks, and what comes after it. -/
theorem checksOnly_seq {c : Prop} [Decidable c] {a b : State × Option Nat} (ha : ChecksOnly s a) (hc : ¬ c → a.2 = none)
    (hb : a.1 = s → ChecksOnly s b) : ChecksOnly s (if c then a else b) := by
  split
  · exact ha
  next h => exact hb (ha (hc h))

theorem epochCheck_checksOnly : ChecksOnly s (s.epochCheck q) :=
  checksOnly_ite checksOnly_pass (checksOnly_ite checksOnly_refuse checksOnly_refuse)

theorem rightsCheck_checksOnly : ChecksOnly s (s.rightsCheck k q) := by
  unfold State.rightsCheck
  split
  · exact checksOnly_pass
  · exact checksOnly_refuse
  · exact checksOnly_refuse

/-- The decode of the control space records an unmapped register only as it refuses the request (R36, R37). -/
theorem decodeSpace_control_checksOnly {host : Bool} (hs : spaceOf q.addr = 8) : ChecksOnly s (s.decodeSpace k q host) := by
  unfold State.decodeSpace
  simp only [hs]
  refine checksOnly_ite checksOnly_pass <| checksOnly_ite checksOnly_pass <| checksOnly_ite checksOnly_pass <|
    checksOnly_ite checksOnly_pass ?_
  split
  · exact checksOnly_refuse
  · exact checksOnly_pass

/-- Only an access of memory is charged to its source's limit (R312), so a control request that passes all checks has changed
nothing. -/
theorem acceptCheck_control_checksOnly (hs : spaceOf q.addr = 8) : ChecksOnly s (s.acceptCheck k q) := by
  have charged : ¬ spaceOf q.addr ≤ 3 := by omega
  unfold State.acceptCheck
  refine checksOnly_ite checksOnly_refuse (checksOnly_ite checksOnly_refuse ?_)
  refine checksOnly_seq epochCheck_checksOnly (fun h => Option.not_isSome_iff_eq_none.mp (not_or.mp h).1) fun e => ?_
  rw [e, if_neg charged]
  refine checksOnly_ite checksOnly_refuse ?_
  refine checksOnly_seq rightsCheck_checksOnly Option.not_isSome_iff_eq_none.mp fun e => ?_
  rw [e]
  refine checksOnly_seq (decodeSpace_control_checksOnly hs) Option.not_isSome_iff_eq_none.mp fun e => ?_
  rw [e]
  exact checksOnly_ite checksOnly_pass checksOnly_refuse

/-- In service a control read that passes its checks is opened and tried at once. -/
theorem accept_creqRead {env : AccessEnv} (hi : (s.unstage .creqRead q).inService = true) (hs : spaceOf q.addr = 8)
    (h : ((s.unstage .creqRead q).acceptCheck .creqRead q).2 = none) :
    s.accept .creqRead q env =
      ((s.unstage .creqRead q).openHeld .creqRead q .busy).attempt (s.unstage .creqRead q).nextId env false := by
  have hd : atDoor .creqRead q = false := rfl
  unfold State.accept
  simp [hi, hd, h, acceptCheck_control_checksOnly hs h, State.firstAttempt, State.writeAccepted]

/-! ## One attempt -/

theorem openAt_openHeld {w : Wait} (h : s.fresh) : (s.openHeld k q w).openAt s.nextId = some (s.openOf k q w) := by
  have none_before : s.opens.find? (fun o => o.id == s.nextId) = none :=
    List.find?_eq_none.mpr fun o ho => by simpa using (h o ho).ne
  unfold State.openAt State.openHeld
  simp [List.find?_append, none_before, State.openOf]

/-- Without the request that took the next number, the open requests are those before it. -/
theorem filter_other_of_fresh {w : Wait} (h : s.fresh) :
    (s.opens ++ [s.openOf k q w]).filter (fun x => x.id != (s.openOf k q w).id) = s.opens := by
  have others : s.opens.filter (fun x => x.id != s.nextId) = s.opens :=
    List.filter_eq_self.mpr fun x hx => by simpa using (h x hx).ne
  simp [List.filter_append, State.openOf, others]

/-- A request that follows no earlier one is served. -/
theorem attempt_of_first {id : Nat} {env : AccessEnv} {again : Bool} (ho : s.openAt id = some o)
    (hf : ∀ p ∈ s.opens, p.id < id → mustFollow o.kind o.req o.host p = false) :
    s.attempt id env again =
      (((s.touchStart o).serveOnce o env again).1.touchEnd id).settle id ((s.touchStart o).serveOnce o env again).2 := by
  have nothing : s.opens.filter (fun p => decide (p.id < id) && mustFollow o.kind o.req o.host p) = [] :=
    List.filter_eq_nil_iff.mpr fun p hp => by
      by_cases hlt : p.id < id
      · simp [hf p hp hlt]
      · simp [hlt]
  unfold State.attempt
  simp [ho, nothing]

theorem serveOnce_control {env : AccessEnv} {again : Bool} (hk : o.kind ≠ .flush) (hs : spaceOf o.req.addr = 8) (hh : o.host = none) :
    s.serveOnce o env again = s.serveControl o := by
  unfold State.serveOnce
  simp [hk, hs, hh]

/-- A request that touches no line while it is served is kept as it was. -/
theorem touchEnd_touchStart_opens (h : ∀ x ∈ s.opens, x.id = o.id → x = o) : ((s.touchStart o).touchEnd o.id).opens = s.opens := by
  refine (List.map_congr_left fun x hx => ?_).trans (List.map_id _)
  split
  next e =>
    rw [h x hx e]
    rfl
  · rfl

/-! ## The counter's register (R39) -/

theorem length_leBytes {n v : Nat} : (leBytes n v).length = n := by
  induction n generalizing v with
  | zero => rfl
  | succ n ih => simp [leBytes, ih]

theorem getElem_leBytes {n v i : Nat} (h : i < (leBytes n v).length) : (leBytes n v)[i] = BitVec.ofNat 8 (v / 2 ^ (8 * i)) := by
  induction n generalizing v i with
  | zero => simp [leBytes] at h
  | succ n ih =>
    cases i with
    | zero => simp [leBytes]
    | succ i =>
      have e : 2 ^ (8 * (i + 1)) = 256 * 2 ^ (8 * i) := by rw [Nat.mul_succ, Nat.pow_add, Nat.mul_comm]
      simp only [leBytes, List.getElem_cons_succ, ih, Nat.div_div_eq_div_mul, e]

theorem ctrlRead_count {src : Node} :
    s.ctrlRead src R.GLB_COUNT 8 = (s, stOk, leBytes 8 ((s.readReg R.GLB_COUNT).getD 0).toNat) := by
  have words : ctrlWords R.GLB_COUNT 8 = [R.GLB_COUNT] := by decide
  have window : inImgWindow R.GLB_COUNT = false := by decide
  have cxl : inCxlRegs R.GLB_COUNT = false := by decide
  have session : (R.GLB_COUNT == R.MGT_IMG_SESSION || R.GLB_COUNT == R.MGT_IMG_PAGE) = false := by decide
  have whole (bs : Bytes) (hb : bs.length = 8) : slice bs (R.GLB_COUNT % 8) 8 = bs := List.take_of_length_le hb.le
  simp [State.ctrlRead, words, window, cxl, session, whole _ length_leBytes]

/-- A read of the whole register shows the counter as it stood at acceptance. -/
theorem countShown_count {data : Bytes} (ha : offsetOf o.req.addr = R.GLB_COUNT) (hl : o.req.len = 8) (hd : data.length = 8) :
    o.countShown data = leBytes 8 o.acceptedAt := by
  unfold OpenReq.countShown
  simp only [ha, hl]
  rw [if_pos (by decide)]
  refine List.ext_getElem (by simp [hd, length_leBytes]) fun i hi _ => ?_
  have hi : i < 8 := by simpa [hd] using hi
  simp [getElem_leBytes, hi]

theorem spaceOf_count : spaceOf (poolAddr 8 R.GLB_COUNT) = 8 := by decide
theorem offsetOf_count : offsetOf (poolAddr 8 R.GLB_COUNT) = R.GLB_COUNT := by decide

/-- A link's read of GLB_COUNT changes nothing and returns the counter at acceptance. -/
theorem serveControl_count (ha : o.req.addr = poolAddr 8 R.GLB_COUNT) (hl : o.req.len = 8) (hk : o.kind = .rd ∨ o.kind = .creqRead) :
    s.serveControl o = (s, .done stOk 0 (leBytes 8 o.acceptedAt)) := by
  have ho : offsetOf o.req.addr = R.GLB_COUNT := ha ▸ offsetOf_count
  unfold State.serveControl
  simp only [if_pos hk, ho, hl, ctrlRead_count, if_true, countShown_count ho hl length_leBytes]

/-- The host's read of GLB_COUNT in service changes nothing and returns the counter at acceptance. -/
theorem serveBar0_count (hi : s.inService = true) (ha : o.req.addr = poolAddr 8 R.GLB_COUNT) (hl : o.req.len = 8) (hk : o.kind = .rd) :
    s.serveBar0 o = (s, .done stOk 0 (leBytes 8 o.acceptedAt)) := by
  have ho : offsetOf o.req.addr = R.GLB_COUNT := ha ▸ offsetOf_count
  have mapped : ctrlMapped (R.GLB_COUNT / 8 * 8) = true := by decide
  unfold State.serveBar0
  simp [hi, hk, ho, hl, mapped, ctrlRead_count, countShown_count ho hl length_leBytes]

/-! ## The read as a whole -/

/-- A control read of GLB_COUNT that has just been opened and follows no other request ends at once with the counter at
acceptance, from a state in which only opens, nextId and canopy (bits 12, 13 and 17 of the footprint) have changed. -/
theorem attempt_creqRead_count {env : AccessEnv} (hf : s.fresh) (ha : q.addr = poolAddr 8 R.GLB_COUNT) (hl : q.len = 8)
    (hn : ∀ o ∈ s.opens, mustFollow .creqRead q none o = false) :
    ∃ v : State, Kept 0x23000 s v ∧ v.opens = s.opens ++ [s.openOf .creqRead q .busy] ∧
      (s.openHeld .creqRead q .busy).attempt s.nextId env false = v.finish (s.openOf .creqRead q .busy) stOk 0 (leBytes 8 s.count) := by
  let o := s.openOf .creqRead q .busy
  let u := s.openHeld .creqRead q .busy
  have hsp : spaceOf o.req.addr = 8 := (congrArg spaceOf ha).trans spaceOf_count
  have last : ∀ x ∈ u.opens, x ∈ s.opens ∨ x = o := fun x hx => by simpa [u, State.openHeld] using hx
  have unique : ∀ x ∈ u.opens, x.id = o.id → x = o := fun x hx e =>
    (last x hx).elim (fun h => absurd e (hf x h).ne) id
  have first : ∀ x ∈ u.opens, x.id < s.nextId → mustFollow o.kind o.req o.host x = false := fun x hx hlt =>
    (last x hx).elim (hn x) fun e => absurd hlt (e ▸ lt_irrefl _)
  have serve : (u.touchStart o).serveOnce o env false = (u.touchStart o, .done stOk 0 (leBytes 8 s.count)) :=
    (serveOnce_control ReqKind.noConfusion hsp rfl).trans (serveControl_count ha hl (.inr rfl))
  have opens : ((u.touchStart o).touchEnd o.id).opens = u.opens := touchEnd_touchStart_opens unique
  refine ⟨(u.touchStart o).touchEnd o.id, ?_, opens, ?_⟩
  · exact kept_touchEnd rfl (kept_touchStart rfl (kept_openHeld rfl Kept.refl))
  · have found : ((u.touchStart o).touchEnd o.id).openAt o.id = some o := by
      unfold State.openAt
      rw [opens]
      exact openAt_openHeld hf
    rw [attempt_of_first (openAt_openHeld hf) first, serve]
    unfold State.settle
    rw [show s.nextId = o.id from rfl, found]

/-- A control read of GLB_COUNT that passes its checks and waits for nothing is answered with the present count. -/
theorem creqRead_count_answers (hc : s.canonical) (hi : s.inService = true) (ha : q.addr = poolAddr 8 R.GLB_COUNT) (hl : q.len = 8)
    (hok : ((s.unstage .creqRead q).acceptCheck .creqRead q).2 = none) (hp : s.portActive q.port = true) (hf : s.fresh)
    (hn : ∀ o ∈ s.opens, mustFollow .creqRead q none o = false) :
    Answers (.creq false q) s fun t => t.opens = s.opens ∧
      ∃ m, t.sends q.port m ∧ m.ftype = .crsp ∧ m.dst = q.src ∧ m.txn = q.txn ∧ m.attr = stOk ∧
        m.payload = leBytes 4 8 ++ List.replicate 12 0 ++ leBytes 8 s.count := by
  let u := s.unstage .creqRead q
  have ku : Kept 0x100000000200 s u := kept_unstage Within.rfl' Kept.refl
  have hopens : u.opens = s.opens := ku.same .opens rfl
  have hcount : u.count = s.count := ku.same .count rfl
  have hiu : u.inService = true := by
    unfold State.inService
    rw [f_congr (ku.same .regs rfl)]
    exact hi
  obtain ⟨v, kv, vopens, ends⟩ := attempt_creqRead_count (env := {}) (ku.fresh hf) ha hl (hopens ▸ hn)
  have hpv : v.portActive q.port = true := by
    rw [portActive_congr ((kv.same .regs rfl).trans (ku.same .regs rfl)) ((kv.same .fences rfl).trans (ku.same .fences rfl))]
    exact hp
  refine ⟨s.accept .creqRead q {}, rfl, ?_⟩
  rw [accept_creqRead hiu ((congrArg spaceOf ha).trans spaceOf_count) hok, ends]
  constructor
  · rw [finish_opens, vopens, ← hopens]
    exact filter_other_of_fresh (ku.fresh hf)
  · obtain ⟨m, sent, hft, hdst, htxn, hattr, hpay⟩ :=
      finish_creqRead_sends (o := u.openOf .creqRead q .busy) (data := leBytes 8 u.count) (kv.portsOk (ku.portsOk hc.portsOk)) hpv rfl rfl rfl rfl
    exact ⟨m, sent, hft, hdst, htxn, hattr, by rw [hpay, length_leBytes, hcount]⟩

/-- Settles O60: serving a read of GLB_COUNT shows the count that the request carries since its acceptance, whichever state
serves it; a read that waits for nothing is served in the state of its acceptance, and its answer is sent or queued at its port. -/
theorem counterReadsAsAtAcceptance : Obligations.CounterReadsAsAtAcceptance := by
  intro s hc hi
  refine ⟨fun q ha hl hok hp hf hn => ?answered, fun _ _ _ _ => ?opened, fun o ha hl => ⟨fun hk => ?link, fun hk => ?host⟩⟩
  case answered => exact creqRead_count_answers hc hi ha hl hok hp hf hn
  case opened => exact ⟨rfl, rfl⟩
  case link => rw [serveControl_count ha hl hk]
  case host => rw [serveBar0_count hi ha hl hk]

end Sys2Proof.Machine
end

section
/-! PROOFS. What sending and recording leave of the loader's registers, and how a change of epoch ends (R53 to R55). -/

namespace Sys2Proof.Machine

variable {s t : State} {x : Fld} {code addr st outcome : Nat}

/-! ## The loader's registers lie below what messages and records touch -/

/-- The footprint of messages, own requests and ledger records: nothing of the loader's part (bit 8). -/
def talkMask : Nat := 0x7200000000000000010700000000000000000109a0004ca02

theorem Family.has.base_le {f : Family} {off : Nat} (h : f.has off) : f.base ≤ off := by
  obtain ⟨i, _, j, _, e⟩ := h
  omega

/-- Every family that messages and records touch starts above the loader's registers. -/
theorem loader_lt_talk_base {k : Nat} (h : talkMask.testBit (64 + k) = true) : R.SIT_EPOCH_ACKED < (family k).base := by
  have small : k < 131 := by
    have := (Nat.pow_lt_pow_iff_right (by decide : 1 < 2)).mp ((Nat.ge_two_pow_of_testBit h).trans_lt (by decide : talkMask < 2 ^ 195))
    omega
  have checked : ∀ k < 131, talkMask.testBit (64 + k) = true → R.SIT_EPOCH_ACKED < (family k).base := by decide
  exact checked k small h

theorem not_reach_talk {off : Nat} (h : off ≤ R.SIT_EPOCH_ACKED) : ¬ Reach talkMask off := by
  rintro (any | ⟨k, hk, hf⟩)
  · exact absurd any (by decide)
  · exact absurd (hf.base_le.trans h) (loader_lt_talk_base hk).not_ge

/-- Messages and records leave the fields of the global epoch and of the loader as they are. -/
theorem Kept.f_of_talk (h : Kept talkMask s t) (hx : x.off ≤ R.SIT_EPOCH_ACKED) : t.f x = s.f x :=
  f_of_reg (h.reg _ (not_reach_talk hx))

theorem Kept.epoch_of_talk (h : Kept talkMask s t) : t.epoch = s.epoch := h.same .epoch (by decide)

theorem Kept.regsOk {M : Nat} (h : Kept M s t) (hs : s.regsOk) : t.regsOk := h.table .regs hs

/-! ## A change that ends -/

theorem f_setEpoch {e : Epoch} : (s.setEpoch e).f x = s.f x := f_congr rfl

/-- Recording a failure of the loader touches of its status only LAST_ERR, which lies from bit 16 on. -/
theorem f_sitError (h : s.regsOk) (hx : x.off ≤ R.SIT_EPOCH_ACKED) (hb : x.off ≠ R.SIT_STATUS ∨ x.hi < 16) :
    (s.sitError code addr).f x = s.f x := by
  unfold State.sitError
  rw [(kept_ledger (M := talkMask) rfl Kept.refl).f_of_talk hx]
  by_cases ho : x.off = R.SIT_STATUS
  · exact f_setF_bits h (by decide) (by decide) ho (.inl (hb.resolve_left (not_not_intro ho)))
  · exact f_setF_off ho

theorem sitError_epoch : (s.sitError code addr).epoch = s.epoch :=
  (kept_ledger (M := talkMask) rfl Kept.refl).epoch_of_talk

/-- The notices go out from the state in which no node is held any more. -/
theorem kept_epochNotices_talk : Kept talkMask (s.setEpoch { s.epoch with heldNodes := [] }) (s.epochNotices outcome) :=
  kept_forEach (fun _ _ h => kept_sendNotice rfl h) Kept.refl

theorem f_epochNotices (hx : x.off ≤ R.SIT_EPOCH_ACKED) : (s.epochNotices outcome).f x = s.f x :=
  kept_epochNotices_talk.f_of_talk hx

theorem epochNotices_epoch : (s.epochNotices outcome).epoch = { s.epoch with heldNodes := [] } :=
  kept_epochNotices_talk.epoch_of_talk

/-- What the registers show once a change has ended with a STATE and a LAST_OUTCOME, at an epoch count: nothing is pending. -/
structure State.ChangeEnded (s : State) (st outcome current : Nat) : Prop where
  state : s.f F.SIT_STATUS_STATE = st
  lastOutcome : s.f F.SIT_STATUS_LAST_OUTCOME = outcome
  pending : s.f F.GLB_EPOCH_PENDING = 0
  go : s.f F.SIT_EPOCH_CTRL_GO = 0
  current : s.f F.GLB_EPOCH_CURRENT = current

theorem changeEnds_ended (h : s.regsOk) (hst : st < 16) (ho : outcome < 16) :
    (s.changeEnds st outcome).ChangeEnded st outcome (s.f F.GLB_EPOCH_CURRENT) := by
  let s1 := s.setF F.GLB_EPOCH_PENDING 0
  let s2 := s1.setF F.SIT_EPOCH_CTRL_GO 0
  let s3 := s2.setF F.SIT_STATUS_STATE st
  have h1 : s1.regsOk := h.setF
  have h2 : s2.regsOk := h1.setF
  have h3 : s3.regsOk := h2.setF
  have last (x : Fld) : (s.changeEnds st outcome).f x = (s3.setF F.SIT_STATUS_LAST_OUTCOME outcome).f x := f_setEpoch
  have off (x : Fld) (hx : x.off ≠ R.SIT_STATUS) : (s.changeEnds st outcome).f x = s2.f x :=
    (last x).trans ((f_setF_off hx).trans (f_setF_off hx))
  have glb (x : Fld) (hx : x.off = R.GLB_EPOCH) : (s.changeEnds st outcome).f x = s1.f x :=
    (off x (by rw [hx]; decide)).trans (f_setF_off (by rw [hx]; decide))
  exact {
    state := calc
      _ = s3.f F.SIT_STATUS_STATE := (last _).trans (f_setF_bits h3 (by decide) (by decide) rfl (by decide))
      _ = st % 16 := f_setF_same h2 (by decide) (by decide)
      _ = st := Nat.mod_eq_of_lt hst
    lastOutcome := calc
      _ = outcome % 16 := (last _).trans (f_setF_same h3 (by decide) (by decide))
      _ = outcome := Nat.mod_eq_of_lt ho
    pending := (glb _ rfl).trans (f_setF_same h (by decide) (by decide))
    go := (off _ (by decide)).trans (f_setF_same h1 (by decide) (by decide))
    current := (glb _ rfl).trans (f_setF_bits h (by decide) (by decide) rfl (by decide)) }

theorem changeEnds_epoch : (s.changeEnds st outcome).epoch = { s.epoch with pending := none } := rfl

/-- What leaves these fields leaves the change ended. -/
theorem State.ChangeEnded.of_f {current : Nat} (e : s.ChangeEnded st outcome current)
    (hf : ∀ x : Fld, x.off ≤ R.SIT_EPOCH_ACKED → x.off ≠ R.SIT_STATUS ∨ x.hi < 16 → t.f x = s.f x) :
    t.ChangeEnded st outcome current where
  state := (hf _ (by decide) (by decide)).trans e.state
  lastOutcome := (hf _ (by decide) (by decide)).trans e.lastOutcome
  pending := (hf _ (by decide) (by decide)).trans e.pending
  go := (hf _ (by decide) (by decide)).trans e.go
  current := (hf _ (by decide) (by decide)).trans e.current

theorem State.ChangeEnded.sitError {current : Nat} (h : s.regsOk) (e : s.ChangeEnded st outcome current) :
    (s.sitError code addr).ChangeEnded st outcome current := e.of_f fun _ => f_sitError h

theorem State.ChangeEnded.epochNotices {current o : Nat} (e : s.ChangeEnded st outcome current) :
    (s.epochNotices o).ChangeEnded st outcome current := e.of_f fun _ hx _ => f_epochNotices hx

/-! ## Roll-back (R54) -/

theorem epochRollback_ended (h : s.regsOk) : s.epochRollback.ChangeEnded sitStaged 4 (s.f F.GLB_EPOCH_CURRENT) := by
  have ok : (s.changeEnds sitStaged 4).regsOk := (kept_changeEnds Within.rfl' Kept.refl).regsOk h
  exact ((changeEnds_ended h (by decide) (by decide)).sitError ok).epochNotices

/-- A roll-back drops the pending set and the held nodes, and keeps the active set and what is staged. -/
theorem epochRollback_epoch : s.epochRollback.epoch = { s.epoch with pending := none, heldNodes := [] } := by
  unfold State.epochRollback
  rw [epochNotices_epoch, sitError_epoch, changeEnds_epoch]

theorem epochAbandon_eq (h : s.f F.SIT_STATUS_STATE = sitArmed ∨ s.f F.SIT_STATUS_STATE = sitCollecting) :
    s.epochAbandon = s.epochRollback := if_pos h

theorem epochRefusal_eq {u : Nat} (h : s.f F.SIT_STATUS_STATE = sitCollecting) (hu : s.bit F.SIT_EPOCH_UNITS_MASK u = true) :
    s.epochRefusal u = s.epochRollback := if_pos ⟨h, hu⟩

theorem epochTimeout_eq (h : s.f F.SIT_STATUS_STATE = sitCollecting) (hd : s.epochDeadline ≤ s.count) :
    s.epochTimeout = s.epochRollback := if_pos ⟨h, hd⟩

/-! ## A new launch and a new load of what is staged (R51, R55) -/

theorem changing_of_staged (h : s.f F.SIT_STATUS_STATE = sitStaged) : s.changing = false := by
  unfold State.changing
  rw [h]
  rfl

/-- A staged set is armed by a launch count far enough ahead. -/
theorem epochGo_arms (h : s.regsOk) (hst : s.f F.SIT_STATUS_STATE = sitStaged) (hs : s.f F.SIT_STATUS_STAGED ≠ 0)
    (hl : s.count + 5000 ≤ (s.reg R.SIT_EPOCH_LAUNCH).toNat) :
    s.epochGo.f F.SIT_STATUS_STATE = sitArmed ∧ s.epochGo.epoch.launch = (s.reg R.SIT_EPOCH_LAUNCH).toNat := by
  have free : ¬ (s.f F.SIT_STATUS_STATE = sitLoading ∨ s.changing = true) := by simp [hst, changing_of_staged hst, sitLoading, sitStaged]
  unfold State.epochGo
  simp only [if_neg free, if_neg hs, if_neg hl.not_gt]
  refine ⟨?_, rfl⟩
  rw [f_setEpoch]
  exact f_setF_same h.setF.setF.setF.setF (by decide) (by decide)

/-- A load starts in service while no other is in progress and nothing changes; a partner load's request leaves STATE as it is. -/
theorem sitLoad_loading {src : Nat} (h : s.regsOk) (hi : s.inService = true) (hl : s.epoch.load = none) (hc : s.changing = false) :
    (s.sitLoad src).f F.SIT_STATUS_STATE = sitLoading := by
  have loading : (((s.setF F.SIT_LOAD_SRC src).setF F.SIT_LOAD_GO 1).sitState sitLoading).f F.SIT_STATUS_STATE = sitLoading :=
    f_setF_same h.setF.setF (by decide) (by decide)
  unfold State.sitLoad
  simp only [hi, hl, hc, Option.isSome_none, Bool.or_self, Bool.false_eq_true, if_true, if_false]
  split
  · exact ((kept_imageAsk (M := talkMask) rfl Kept.refl).f_of_talk (by decide)).trans loading
  · exact loading

/-! ## Commit (R53, R54) -/

/-- Whatever a commit brings into force, it ends the change in IDLE. -/
theorem epochCommit_idle {c : ConfigSet} (h : s.regsOk) (hp : s.epoch.pending = some c)
    (hst : s.f F.SIT_STATUS_STATE = sitCommitting) (hc : s.epoch.commit ≤ s.count) :
    s.epochCommit.f F.SIT_STATUS_STATE = sitIdle := by
  have due : ¬ (s.f F.SIT_STATUS_STATE ≠ sitCommitting ∨ s.count < s.epoch.commit) :=
    not_or.mpr ⟨not_not_intro hst, hc.not_gt⟩
  unfold State.epochCommit
  split
  · next e => exact nomatch hp.symm.trans e
  · rw [if_neg due]
    extract_lets old str prog cur e s1 s2 s3 s4
    have h1 : s1.regsOk := h
    have h2 : s2.regsOk := by
      unfold s2
      clear_value str
      cases str with
      | none => exact h1
      | some p => exact (kept_structureCommits Within.rfl' (kept_setDigest rfl Kept.refl)).regsOk h1
    have h3 : s3.regsOk := by
      unfold s3
      clear_value prog
      cases prog with
      | none => exact h2
      | some p => exact (kept_setDigest Within.rfl' Kept.refl).regsOk h2
    exact (changeEnds_ended h3.setF.setF (by decide) (by decide)).epochNotices.state

/-! ## The obligation -/

/-- Settles O27: an abandon, a refusal and a timeout all are the one roll-back, which ends STAGED with the staged sets as they were; a
staged set is armed again or replaced, and a commit ends IDLE. -/
theorem epochChangeRollsBack : Obligations.EpochChangeRollsBack := by
  intro s hcan back
  have h : s.regsOk := hcan .regs
  have rolled : back s.epochRollback := by
    obtain ⟨hst, ho, hp, hg, hc⟩ := epochRollback_ended h
    refine ⟨hst, ho, hp, hg, ?_, ?_, ?_, ?_, hc⟩ <;> rw [epochRollback_epoch]
  refine ⟨fun hst => ?abandon, fun u hst hu => ?refusal, fun hst hd => ?timeout,
    fun hst => ⟨fun hs hl => ?launch, fun hi hl src => ?load⟩, fun c hp hst hc => ?commit⟩
  case abandon => exact ⟨_, rfl, epochAbandon_eq hst ▸ rolled⟩
  case refusal => exact ⟨_, rfl, epochRefusal_eq hst hu ▸ rolled⟩
  case timeout => exact ⟨_, rfl, epochTimeout_eq hst hd ▸ rolled⟩
  case launch => exact ⟨_, rfl, epochGo_arms h hst hs hl⟩
  case load => exact ⟨_, rfl, sitLoad_loading h hi hl (changing_of_staged hst)⟩
  case commit => exact ⟨_, rfl, epochCommit_idle h hp hst hc⟩

end Sys2Proof.Machine
end

section
/-! PROOFS. Which trust entries a source matches, and the rights it holds by them (R306). -/

namespace Sys2Proof.Machine

variable {s : State} {src : Node}

theorem trustMatches_iff {i : Nat} : s.trustMatches i src = true ↔ s.f (F.POOL_TRUST_VALID i) = 1 ∧
    src.toNat &&& s.f (F.POOL_TRUST_MASK i) = s.f (F.POOL_TRUST_MATCH i) &&& s.f (F.POOL_TRUST_MASK i) := by
  simp only [State.trustMatches, Bool.and_eq_true, beq_iff_eq]

theorem trusted_iff_exists_match {right : Nat → Fld} :
    s.trusted src right = true ↔ ∃ i < 16, s.f (right i) = 1 ∧ s.trustMatches i src = true := by
  simp only [State.trusted, List.any_eq_true, List.mem_range, Bool.and_eq_true, beq_iff_eq, and_comm]

/-! ## The obligation -/

/-- Settles O59: a right is held through one matching entry that gives it; its match is VALID and the masked comparison. -/
theorem trustRightsAreTheOrOfTheEntriesMatched : Obligations.TrustRightsAreTheOrOfTheEntriesMatched := by
  intro s src
  refine ⟨fun _ _ => trustMatches_iff, fun right => ?_⟩
  calc s.trusted src right = true
    _ ↔ ∃ i < 16, s.f (right i) = 1 ∧ s.trustMatches i src = true := trusted_iff_exists_match
    _ ↔ _ := by simp only [trustMatches_iff]

end Sys2Proof.Machine
end
